-- ==== Sys2Proof/Word.lean ====
section
/-! DEFINITION. The machine's words: bytes, 32-bit registers, and the plainest arithmetic over them. -/

namespace Sys2Proof

/-- One byte of a descriptor, payload block, record, packet or image. -/
abbrev Byte := BitVec 8

/-- One register of BAR 0: a 32-bit DWORD (R66). -/
abbrev Word := BitVec 32

/-- Little-endian value of a list of bytes (R2). -/
def leNat : List Byte → Nat
  | [] => 0
  | b :: bs => b.toNat + 256 * leNat bs

/-- The `n` little-endian bytes of a value (R2). -/
def leBytes : Nat → Nat → List Byte
  | 0, _ => []
  | n + 1, v => BitVec.ofNat 8 v :: leBytes n (v / 256)

/-- The smaller of a count plus an increment and the count's limit: every counter saturates (R602). -/
def satAdd (limit a k : Nat) : Nat := if a + k ≤ limit then a + k else limit

/-- Two's-complement reading of an unsigned field of `w` bits. -/
def toSigned (w v : Nat) : Int := if v < 2 ^ (w - 1) then (v : Int) else (v : Int) - (2 ^ w : Nat)

/-- Two's-complement field of `w` bits that holds an integer. -/
def ofSigned (w : Nat) (i : Int) : Nat := (i % ((2 ^ w : Nat) : Int)).toNat

/-- A value held within two limits. -/
def clampInt (lo hi v : Int) : Int := if v < lo then lo else if hi < v then hi else v

/-- Bit `i` of a mask. -/
def bitOf (v i : Nat) : Bool := v / 2 ^ i % 2 == 1

/-- A Bool as a bit. -/
def b2n (b : Bool) : Nat := if b then 1 else 0

/-- Bits `lo` to `lo + w - 1` of a value. -/
def bitsOf (v lo w : Nat) : Nat := v / 2 ^ lo % 2 ^ w

end Sys2Proof

namespace Sys2Proof

/-- Element `i` of a list, or the type's default outside it. -/
def nth [Inhabited α] : List α → Nat → α
  | [], _ => default
  | a :: _, 0 => a
  | _ :: as, i + 1 => nth as i

/-- A list with element `i` replaced by `f` of itself; unchanged outside the list. -/
def upd (f : α → α) : List α → Nat → List α
  | [], _ => []
  | a :: as, 0 => f a :: as
  | a :: as, i + 1 => a :: upd f as i

/-- `n` copies of a value. -/
def rep : Nat → α → List α
  | 0, _ => []
  | n + 1, a => a :: rep n a

/-- A list cut or padded with `a` to length `n`. -/
def padTo (a : α) : Nat → List α → List α
  | 0, _ => []
  | n + 1, [] => a :: padTo a n []
  | n + 1, x :: xs => x :: padTo a n xs

/-- Bytes `off` to `off + n - 1` of a byte list, little-endian (R2). -/
def leAt (bs : List Byte) (off n : Nat) : Nat := leNat ((bs.drop off).take n)

/-- Whether every byte of a list is 0 (reserved content, R102). -/
def allZero (bs : List Byte) : Bool := bs.all (· == 0)

end Sys2Proof
end

