-- ==== Sys2Proof/Syntax.lean ====
section
/-! DEFINITION. The commands of the block: one constructor for each row of the opcode table, with its operands. What comes from outside the device (bytes that arrive, levels, measurements) is an operand; what the device holds is in its state. -/

namespace Sys2Proof

/-- A symbol as a lane receiver takes it: a 10-bit code group at its boundary, bit a highest, or a K28.5 at another boundary (R225, R236). -/
inductive RxSymbol where
  | group (code : BitVec 10)
  | stray
deriving DecidableEq, Repr

/-- A command (opcode_table.json). -/
inductive Instr where
  /-- POWER_ON_RESET. A power-on reset; the straps LAMP_SIDE and XSPI_SAFE as sampled (R573, R578). -/
  | powerOnReset (left : Bool) (xspiSafe : Bool)
  /-- RESET_N_ASSERT. RESET_N passes its filter low (R18, R574). -/
  | resetNAssert
  /-- RESET_N_RELEASE. RESET_N is accepted high, the straps as sampled (R578, R581). -/
  | resetNRelease (left : Bool) (xspiSafe : Bool)
  /-- FLASH_READ_COMPLETE. The xSPI read in hand finishes, well or not (R580). -/
  | flashReadComplete (ok : Bool)
  /-- BOOT_COMPLETE. The boot reaches STANDBY or LIMP; the operands are what the power-on test found (R548 to R551, R581). -/
  | bootComplete (units : List (Nat × Nat)) (lanes : List Nat) (safeFail : Bool) (otherFail : Bool) (durUs : Nat) (repairs : Nat) (rows : Nat) (cols : Nat)
  /-- STUCK_RESET_TIMEOUT. RESET_HELD has stayed high for the stuck-reset time (R576). -/
  | stuckResetTimeout
  /-- MAIN_OK_FALL. VIN_MAIN falls below V_TH: the levels of the two inputs in mV (R488). -/
  | mainOkFall (mainMv : Nat) (bkupMv : Nat)
  /-- MAIN_OK_RISE. VIN_MAIN rises above V_TH plus HYST: its level in mV (R488). -/
  | mainOkRise (mainMv : Nat)
  /-- BKUP_HIGH_ENOUGH. VIN_BKUP comes to exceed VIN_MAIN by 100 mV: the levels of the two in mV (R488). -/
  | bkupHighEnough (mainMv : Nat) (bkupMv : Nat)
  /-- RIDE_THROUGH_EXPIRY. The ride-through timer expires (R489). -/
  | rideThroughExpiry
  /-- SHEDDING_START. The instant of shedding (R491). -/
  | sheddingStart
  /-- RETURN_TIMER_EXPIRY. MAIN_OK has been high for RETURN_MS (R492). -/
  | returnTimerExpiry
  /-- RESTORATION_COMPLETE. Restoration ends; the operands are what the power-on test of the domains found (R492, R548). -/
  | restorationComplete (units : List (Nat × Nat)) (lanes : List Nat) (safeFail : Bool) (otherFail : Bool) (durUs : Nat) (repairs : Nat) (rows : Nat) (cols : Nat)
  /-- SUPPLY_COLLAPSE. VPATH below 2.70 V for longer than 200 ns (R493). -/
  | supplyCollapse
  /-- COLLAPSE_RESET_TIMEOUT. 20 µs after the collapse, or VPATH below 2.50 V (R493). -/
  | collapseResetTimeout (below25 : Bool)
  /-- RAIL_POWER_GOOD_CHANGE. A RAIL_PG input changes (R495). -/
  | railPowerGoodChange (rail : Fin 5) (high : Bool)
  /-- RAIL_PG_TIMEOUT. A power good has not come within PG_MS (R496). -/
  | railPgTimeout (rail : Fin 5)
  /-- RAIL_RETRY_TIMEOUT. 10 ms after a first rail failure (R496). -/
  | railRetryTimeout (rail : Fin 5)
  /-- RAIL_RECOVERY_RETRY. 1 s after shedding for a rail failure (R496). -/
  | railRecoveryRetry
  /-- PMBUS_TRANSACTION_DONE. The PMBus transaction in hand ends; the word it read, with its PEC (R476, R497). -/
  | pmbusTransactionDone (ok : Bool) (data : Nat) (pec : Fin 256)
  /-- RAIL_STATUS_POLL. The 100 ms poll of the rails (R497). -/
  | railStatusPoll
  /-- DOMAIN_OFF_REQUEST. A write to PWR_DOM_REQ: TLB_OFF, TWIN_OFF, NET_OFF (R502). -/
  | domainOffRequest (value : Fin 8)
  /-- MODE. The MODE command at the front of a submit ring, of an ACTION of Table 17-2 (R121, R122). -/
  | mode (ring : Fin 4)
  /-- BLANK. MODE BLANK on SUB_0 (R121, R123). -/
  | blank
  /-- UNBLANK. MODE UNBLANK on SUB_0 (R121, R123). -/
  | unblank
  /-- MODE_TRANSITION_COMPLETE. The transition in progress completes; the operands are what the power-on test at a wake found (R531, R548). -/
  | modeTransitionComplete (units : List (Nat × Nat)) (lanes : List Nat) (safeFail : Bool) (otherFail : Bool) (durUs : Nat) (repairs : Nat) (rows : Nat) (cols : Nat)
  /-- IDLE_TIMER_EXPIRY. The STANDBY idle timer expires (R514). -/
  | idleTimerExpiry
  /-- LREQ_OFF_EXPIRY. Light has been off for LREQ_OFF_100MS (R513). -/
  | lreqOffExpiry
  /-- NOSURF_CHECK. The NOSURF time after a wake to RUN has passed (R517). -/
  | nosurfCheck
  /-- TARN_SAMPLE. A Tarn sample of its inputs: the digital pins, WAKE_SENSE in mV, TWIN_PEER, both supplies in mV, the AON temperature (R523, Table 17-4). -/
  | tarnSample (pins : Nat) (wakeMv : Nat) (twinPeer : Bool) (vinMain : Nat) (vinBkup : Nat) (temp : Int)
  /-- TARN_TIMER_EXPIRY. The Tarn timer expires (R526). -/
  | tarnTimerExpiry
  /-- HOST_WAKE_RELEASE. A write of 1 to PWR_WAKE_CAUSE.HOST_WAKE (R530). -/
  | hostWakeRelease
  /-- XTAL32_ABSENCE. The 32.768 kHz crystal is found absent (R621). -/
  | xtal32Absence
  /-- SAFE_SAMPLE. A SAFE sample of LIGHT_REQ_A, LIGHT_REQ_B, BLANK_A and BLANK_B (R374). -/
  | safeSample (pins : Fin 16)
  /-- DISCREPANCY_FAULT. The disagreeing samples of LIGHT_REQ or BLANK reach N (R376). -/
  | discrepancyFault (blank : Bool)
  /-- BLANK_ASSERT. BLANK_A or BLANK_B crosses its threshold (R369). -/
  | blankAssert (b : Bool)
  /-- BLANK_RELEASE. Both BLANK pins deasserted on 100 consecutive samples (R368). -/
  | blankRelease
  /-- K28_0_REPEAT. The 1 µs repeat of K28.0 on a port (R281). -/
  | k280Repeat (port : Fin 24)
  /-- LOCKSTEP_MISMATCH_CONTROL. The control pair's comparator fires (R27). -/
  | lockstepMismatchControl
  /-- LOCKSTEP_MISMATCH_SAFETY. The safety pair's comparator fires (R27). -/
  | lockstepMismatchSafety
  /-- LIMP_SWAP_EDGE. The safety pair's TILE_SYNC edge (R378). -/
  | limpSwapEdge
  /-- LIMP_PATTERN_RESEND. The 1,000 ms resend (R378). -/
  | limpPatternResend
  /-- KEEPALIVE_TIMER. WDT_MS / 4 with nothing sent to a port (R520). -/
  | keepaliveTimer (port : Fin 24)
  /-- SAFETY_PAIR_CHECK_DONE. The safety pair's checks of a scan cycle; the operands are the zone sums, captured codes and offsets that a disturbed unit hands to it in place of its own (R362 to R365). -/
  | safetyPairCheckDone (surf : Fin 4) (sums : List (Nat × Nat)) (codes : List (Nat × Nat)) (off : Option (Int × Int))
  /-- EXCESS_RUN_LIMIT. A run of excess scan cycles reaches EXCESS_N (R357). -/
  | excessRunLimit (surf : Fin 4)
  /-- TILE_RELEASE. A write to SAFE_TILE_RELEASE (R383). -/
  | tileRelease (ports : Nat)
  /-- F_TICK. An F-tick of a surface (R40). -/
  | fTick (surf : Fin 4)
  /-- S_TICK. An S-tick of a surface; by what the offline pixel lane's response differed in its test (R38, R556, R561). -/
  | sTick (surf : Fin 4) (errs : List Word)
  /-- P_TICK. A P-tick of a surface (R34). -/
  | pTick (surf : Fin 4)
  /-- PRODUCTION_WINDOW_OPEN. The production window of a phase opens (R34). -/
  | productionWindowOpen (surf : Fin 4) (phase : Fin 8)
  /-- LATCH_POINT. L(k) of a surface (R46). -/
  | latchPoint (surf : Fin 4)
  /-- G_INTERVAL_START. A G-interval begins: the Spillway test, with the results that a fault turns, the SRAM slice and the lane slice with what they find (R37, R366, R552 to R557). -/
  | gIntervalStart (surf : Fin 4) (upset : List Nat) (skip : Nat) (pass : Bool) (spare : Nat) (array : Nat) (safeStore : Bool) (errs : List Word)
  /-- TILE_SYNC_RISE. TILE_SYNC rises at S′ − 4 µs (R37). -/
  | tileSyncRise (surf : Fin 4)
  /-- TILE_SYNC_FALL. TILE_SYNC falls at S′ − 3 µs (R37). -/
  | tileSyncFall (surf : Fin 4)
  /-- LANE_TICK. A lane tick (R240). -/
  | laneTick
  /-- NO_SURFACE_TICK. 500 µs with no surface enabled; what the slice and the lane test find (R552). -/
  | noSurfaceTick (skip : Nat) (pass : Bool) (spare : Nat) (array : Nat) (safeStore : Bool) (errs : List Word)
  /-- TICK_OUT_PULSE_END. The TICK_OUT pulse width has passed (R62). -/
  | tickOutPulseEnd
  /-- TG_ENABLE. A write of 1 to TG_CTRL.ENABLE (R44). -/
  | tgEnable (surf : Fin 4)
  /-- TG_DISABLE. A write of 0 to TG_CTRL.ENABLE (R44). -/
  | tgDisable (surf : Fin 4)
  /-- HOST_SILENCE_LIMP. The silence count is at FRAMES while light is requested (R95). -/
  | hostSilenceLimp
  /-- COMPOSITION_COMPLETE. The last pixel of an output frame is written; how long its composition took (R50). -/
  | compositionComplete (durationUs : Nat)
  /-- LAYER_SAFE_LIMIT. A SAFE layer's not-ready count exceeds SAFE_N (R171). -/
  | layerSafeLimit (surf : Fin 4) (layer : Nat)
  /-- DOORBELL_WRITE. A BAR 2 write: page, offset in it, value, whether it is of 4 bytes (R66, R77). -/
  | doorbellWrite (page : Nat) (off : Nat) (value : Nat) (whole : Bool)
  /-- DESCRIPTOR_ARRIVAL. The 64 bytes of the next descriptor of a submit ring arrive (R84). -/
  | descriptorArrival (ring : Fin 4) (bytes : List Byte)
  /-- PAYLOAD_ARRIVAL. The payload block of the ring's command arrives (R82). -/
  | payloadArrival (ring : Fin 4) (bytes : List Byte)
  /-- HOST_READ_FAILURE. A host read fails: 0 a descriptor, 1 a payload block, 2 a layer, 3 a bulk source; 0 poisoned, 1 ECRC, 2 no completion; another cause is an error of the link that fails no read (R67, R68). -/
  | hostReadFailure (kind : Fin 4) (ring : Fin 4) (pos : Nat) (layer : Nat) (cause : Fin 11)
  /-- HOST_SIDE_RESET. 0 FLR, 1 PERST, 2 hot reset, 3 DL_Down (R71). -/
  | hostSideReset (kind : Fin 4)
  /-- POWER_STATE_CHANGE. Entry into D3hot or return to D0 (R69). -/
  | powerStateChange (d3 : Bool)
  /-- BUS_MASTER_DISABLE. The host writes the PCIe configuration: Bus Master Enable, Memory Space Enable, MSI-X Enable and Function Mask, Max_Read_Request_Size 128 << mrrs, Max_Payload_Size 128 << mps, ECRC, completion timeout, ASPM (R64, R70, Table 03-1). -/
  | busMasterDisable (enable : Bool) (memSpace : Bool) (msixEnable : Bool) (funcMask : Bool) (ecrcGen : Bool) (ecrcCheck : Bool) (mrrs : Fin 6) (mps : Fin 6) (timeout : Fin 16) (aspm : Fin 4)
  /-- RING_ENABLE. A write of 1 to HOST_RINGn_CTRL.ENABLE (R97). -/
  | ringEnable (ring : Fin 7)
  /-- RING_DISABLE. A write of 0 to ENABLE (R98). -/
  | ringDisable (ring : Fin 7)
  /-- RING_RESUME. A write of 1 to RESUME (R86). -/
  | ringResume (ring : Fin 7)
  /-- RING_SKIP. A write of 1 to SKIP (R86). -/
  | ringSkip (ring : Fin 7)
  /-- COALESCE_TIMEOUT. The oldest unsignalled record of a ring has waited COAL_US (R93). -/
  | coalesceTimeout (ring : Fin 7)
  /-- REGISTER_WRITE. A BAR 0 write: offset, value, whether it is of 4 bytes (R66, R599). -/
  | registerWrite (addr : Nat) (value : Nat) (whole : Bool)
  /-- CLR_CNT_WRITE. A write of 1 to the CLR_CNT bit of the register at an offset (R602). -/
  | clrCntWrite (addr : Nat)
  /-- TIME_NOW_READ. A read of TIME_NOW_NS (R435). -/
  | timeNowRead
  /-- PCIE_LINK_UP. The PCIe data link completes training (R65). -/
  | pcieLinkUp (speed : Fin 8) (width : Fin 8)
  /-- PRESENT. PRESENT at the front of ring 1 (R108). -/
  | present
  /-- PREFETCH_COMPLETE. The last host read of a layer ends: its rows and line CRCs as read, and as read again (R108, R148). -/
  | prefetchComplete (pos : Nat) (layer : Nat) (ok : Bool) (rows : List (List Byte)) (crcs : List Byte) (rows2 : List (List Byte)) (crcs2 : List Byte)
  /-- PRESENT_TIMED. PRESENT_TIMED at the front of ring 1 (R110). -/
  | presentTimed
  /-- CANCEL_TIMED. CANCEL_TIMED (R111). -/
  | cancelTimed
  /-- SHADE_UPDATE. SHADE_UPDATE (R112). -/
  | shadeUpdate
  /-- SHADE_CLEAR. SHADE_CLEAR (R114). -/
  | shadeClear
  /-- AIM. AIM (R115). -/
  | aim
  /-- BEAM_PROFILE. BEAM_PROFILE (R116). -/
  | beamProfile
  /-- SURFACE_CONFIG. SURFACE_CONFIG (R117). -/
  | surfaceConfig
  /-- RETIME. RETIME (R56). -/
  | retime
  /-- SCALER_COEFF. SCALER_COEFF (R120). -/
  | scalerCoeff
  /-- SEG_PATTERN. SEG_PATTERN (R126). -/
  | segPattern
  /-- SEG_START. SEG_START (R127). -/
  | segStart
  /-- MAP_LOAD. MAP_LOAD (R128). -/
  | mapLoad
  /-- HEALTH_DUMP. HEALTH_DUMP (R129). -/
  | healthDump
  /-- SPB_LOAD. SPB_LOAD (R130). -/
  | spbLoad
  /-- SPB_COMMIT. SPB_COMMIT (R131). -/
  | spbCommit
  /-- FW_STAGE. FW_STAGE (R132). -/
  | fwStage
  /-- FW_ACTIVATE. FW_ACTIVATE (R133). -/
  | fwActivate
  /-- FENCE. FENCE at the front of a submit ring (R134). -/
  | fence (ring : Fin 4)
  /-- FENCE_CONDITION_MET. The condition of a ring's FENCE holds (R135). -/
  | fenceConditionMet (ring : Fin 4)
  /-- FENCE_TIMEOUT. The timeout of a ring's FENCE expires (R135). -/
  | fenceTimeout (ring : Fin 4)
  /-- BULK_SOURCE_READ_DONE. The source buffer of the oldest bulk command has been read (R125). -/
  | bulkSourceReadDone (bytes : List Byte) (ok : Bool)
  /-- FLASH_WRITE_DONE. The oldest flash write and its read-back end (R131 to R133). -/
  | flashWriteDone (ok : Bool)
  /-- HEALTH_DUMP_DONE. The last host write of the oldest dump ends (R129). -/
  | healthDumpDone
  /-- LANE_ENABLE. A write of 1 to TILE_LANE_CTRL.EN (R234). -/
  | laneEnable (port : Fin 24)
  /-- LANE_DISABLE. A write of 0 to EN (R234). -/
  | laneDisable (port : Fin 24)
  /-- EN_WAIT_EXPIRY. EN_WAIT_MS has passed (R234). -/
  | enWaitExpiry (port : Fin 24)
  /-- BRINGUP_TIMEOUT. BRINGUP_MS has passed; a unit is a tile port, or 24 + t for twin link t (R234, R262). -/
  | bringupTimeout (unit : Fin 26)
  /-- RECEIVER_LOCK. What the receivers of a unit's lanes 0 and 1 take in training, from which they declare lock; a twin link's lane skew (R236, R263). -/
  | receiverLock (unit : Fin 26) (rx0 : List RxSymbol) (rx1 : List RxSymbol) (skew : Int)
  /-- LOCK_LOST. What the receivers of a unit's lanes 0 and 1 take, and a mask of the lanes whose input falls below the squelch level; from it they lose lock (R236). -/
  | lockLost (unit : Fin 26) (rx0 : List RxSymbol) (rx1 : List RxSymbol) (squelch : Fin 4)
  /-- ORDERED_SET_RECEIVED. The symbol after a K28.5 outside a packet, on a lane of the unit: an ordered set, fill, or an invalid symbol (R228). -/
  | orderedSetReceived (unit : Fin 26) (lane : Fin 2) (k : Bool) (octet : Fin 256)
  /-- RATE_TRAIN_TIMEOUT. RATE_TRAIN has not completed in 20 µs (R234). -/
  | rateTrainTimeout (unit : Fin 26)
  /-- RETRAIN_TIMEOUT. A retrain has not completed in 100 µs (R234). -/
  | retrainTimeout (unit : Fin 26)
  /-- LANE_RETRAIN. A write of 1 to RETRAIN (R234). -/
  | laneRetrain (unit : Fin 26)
  /-- IDLE_ENTRY. 1 µs with nothing to send (R244). -/
  | idleEntry (port : Fin 24)
  /-- EXIT_FAIL. No 8 valid D21.5 within 400 ns of idle exit (R248). -/
  | exitFail (port : Fin 24)
  /-- LNREF_LOST. LNREF is lost (R233). -/
  | lnrefLost
  /-- LNREF_RETURN. LNREF returns (R233). -/
  | lnrefReturn
  /-- PRBS_START. A write of START with LOOP 0, or on a twin link (R252). -/
  | prbsStart (unit : Fin 26)
  /-- LOOPBACK_START. A write of START with LOOP 1 (R255). -/
  | loopbackStart (port : Fin 24)
  /-- PRBS_END. The duration of a test ends; the bits that its checkers took on lanes 0 and 1 (R253, R254). -/
  | prbsEnd (unit : Fin 26) (bits0 : List Bool) (bits1 : List Bool)
  /-- LEGACY_ENABLE. A write of LEGACY (R257). -/
  | legacyEnable (port : Fin 24) (on : Bool)
  /-- LEGACY_ACTIVE. TILE_ALERT_N high for 100 µs in TRAIN (R259). -/
  | legacyActive (port : Fin 24)
  /-- LEGACY_ALERT. TILE_ALERT_N low for 10 µs, or high again (R260). -/
  | legacyAlert (port : Fin 24) (low : Bool)
  /-- LEGACY_ALERT_RETRAIN. TILE_ALERT_N low for 1 ms (R260). -/
  | legacyAlertRetrain (port : Fin 24)
  /-- TWIN_LANE_ENABLE. A write of 1 to TWIN_LANE_CTRL.EN (R261). -/
  | twinLaneEnable (link : Fin 2)
  /-- DESKEW_FAIL. K28.3 missing, or a skew above 32 symbols (R263). -/
  | deskewFail (link : Fin 2) (skew : Int)
  /-- ACK_NAK_RECEIVED. An ACK/NAK packet (R274). -/
  | ackNakReceived (port : Fin 24) (seq : Nat) (body : List Byte)
  /-- ACK_TIMEOUT. A packet unresolved 6 µs after its EOP (R274). -/
  | ackTimeout (port : Fin 24) (seq : Nat)
  /-- LINE_PACKET_DEADLINE. A line packet's deadline passes (R277). -/
  | linePacketDeadline (port : Fin 24) (seq : Nat)
  /-- SWAP_DEADLINE. A SWAP's deadline passes (R294). -/
  | swapDeadline (port : Fin 24)
  /-- UPSTREAM_PACKET_DISCARD. An upstream packet fails its check: its bytes, and whether its symbols were valid (R278). -/
  | upstreamPacketDiscard (port : Fin 24) (bytes : List Byte) (clean : Bool)
  /-- STATUS_RECEIVED. A STATUS packet, with the round trip of the ECHO it answers (R299, R445). -/
  | statusReceived (port : Fin 24) (seq : Nat) (body : List Byte) (rt : Nat)
  /-- CAP_RECEIVED. A CAP record (R283). -/
  | capReceived (port : Fin 24) (seq : Nat) (body : List Byte)
  /-- CAP_REQUEST_TIMER. 100 µs without a valid CAP (R284). -/
  | capRequestTimer (port : Fin 24)
  /-- ECHO_TIMER. ECHO_MS has passed (R445). -/
  | echoTimer (port : Fin 24)
  /-- ECHO_TIMEOUT. An ECHO has had no answer in 10 µs (R445). -/
  | echoTimeout (port : Fin 24) (id : Nat)
  /-- HEALTH_RECEIVED. A HEALTH packet (R328). -/
  | healthReceived (port : Fin 24) (seq : Nat) (body : List Byte)
  /-- MASS_FAULT. Faults and suspects of a tile in 64 scan cycles reach MASS_N (R337). -/
  | massFault (port : Fin 24)
  /-- ISOLATION_TIMEOUT. An isolation is not confirmed in 5 ms (R335). -/
  | isolationTimeout (port : Fin 24)
  /-- HEALTH_STALL. STALL_SC scan cycles without HEALTH (R339). -/
  | healthStall (port : Fin 24)
  /-- SAMPLE_DEADLINE. The deadline of a scan cycle's samples (R322). -/
  | sampleDeadline (port : Fin 24) (scan : Nat)
  /-- BASELINE_CAPTURE. A write of 1 to CAPTURE, MON_EN as it stands (R326, R337). -/
  | baselineCapture (port : Fin 24)
  /-- BASELINE_CAPTURE_DONE. A capture ends (R326). -/
  | baselineCaptureDone (port : Fin 24)
  /-- TWIN_ENABLE. A write of 1 to TWIN_CTRL.EN (R411). -/
  | twinEnable
  /-- TWIN_DISABLE. A write of 0 to EN (R411). -/
  | twinDisable
  /-- TWIN_HANDOVER. A write of 1 to HANDOVER (R426). -/
  | twinHandover
  /-- TWIN_REJOIN. A write of 1 to REJOIN (R425). -/
  | twinRejoin
  /-- PAIR_TIMEOUT. PAIR_MS in PAIRING, or TWIN_PEER low for PAIR_MS (R411). -/
  | pairTimeout (peerLow : Bool)
  /-- HEARTBEAT_TICK. A heartbeat tick (R414). -/
  | heartbeatTick (phase : Fin 8)
  /-- HEARTBEAT_RECEIVED. A HEARTBEAT packet, with its time of arrival (R414). -/
  | heartbeatReceived (link : Fin 2) (seq : Nat) (body : List Byte) (stamp : Nat)
  /-- ALIGN_RECEIVED. An ALIGN packet (R417). -/
  | alignReceived (link : Fin 2) (seq : Nat) (body : List Byte)
  /-- LATCH_RECEIVED. A LATCH packet (R419). -/
  | latchReceived (link : Fin 2) (seq : Nat) (body : List Byte)
  /-- DIGEST_SEND. P(k, 0, 7) + 2 µs of a surface (R422). -/
  | digestSend (surf : Fin 4)
  /-- DIGEST_RECEIVED. A DIGEST packet (R423). -/
  | digestReceived (link : Fin 2) (seq : Nat) (body : List Byte)
  /-- DEFECT_RECEIVED. A DEFECT packet (R420). -/
  | defectReceived (link : Fin 2) (seq : Nat) (body : List Byte)
  /-- PROBE_COPY_RECEIVED. A PROBE_COPY packet (R420). -/
  | probeCopyReceived (link : Fin 2) (seq : Nat) (body : List Byte)
  /-- ARBITRATE_RECEIVED. An ARBITRATE packet (R425). -/
  | arbitrateReceived (link : Fin 2) (seq : Nat) (body : List Byte)
  /-- TWIN_K28_0_RECEIVED. K28.0 on a twin link (R368). -/
  | twinK280Received (link : Fin 2)
  /-- LEAD_SILENT. Three heartbeat ticks without a LEAD heartbeat (R415). -/
  | leadSilent
  /-- ALIGN_TIMEOUT. ALIGN_MS has passed for a command or an ALIGN of a key (R418). -/
  | alignTimeout (command : Bool) (key : Nat)
  /-- TWIN_COMPARE. The COMPANION's comparison at F(k + 1) (R423). -/
  | twinCompare (surf : Fin 4)
  /-- ARBITRATE_REPLY_TIMEOUT. Three heartbeat ticks without the LEAD's reply (R425). -/
  | arbitrateReplyTimeout
  /-- TWIN_PEER_SAMPLE. A SAFE sample of TWIN_PEER (R409). -/
  | twinPeerSample (level : Bool)
  /-- SAFETY_CONFIRM. The safety pair confirms itself to Tarn (R409). -/
  | safetyConfirm
  /-- TWIN_ALIVE_DROP. A confirmation has been missed (R409). -/
  | twinAliveDrop
  /-- SYNC_RECEIVED. A Sync, with its Follow_Up where it is two-step: its domain, the grandmaster time it carries in 2^-16 ns, how long ago it came in units of 0.8 ns, and the rate ratio less 1 in 2^-34 (R434, R443). -/
  | syncReceived (port : Fin 2) (domain : Nat) (origin : Int) (since : Nat) (rho : Int)
  /-- ANNOUNCE_RECEIVED. A frame that is no event message: 0 an Announce with its domain, priority vector and grandmaster identity, 1 Signaling, 2 any other (R440, Table 14-2). -/
  | announceReceived (port : Fin 2) (kind : Fin 3) (domain : Nat) (vector : List Nat) (gm : Nat)
  /-- PDELAY_REQ_TIMER. The LOG_PDELAY interval has passed (R440). -/
  | pdelayReqTimer (port : Fin 2)
  /-- PDELAY_REQ_RECEIVED. A Pdelay_Req: how long ago it came and how long after that it is answered, in units of 0.8 ns (R440, R443). -/
  | pdelayReqReceived (port : Fin 2) (seq : Nat) (domain : Nat) (since : Nat) (wait : Nat)
  /-- PDELAY_RESP_RECEIVED. A Pdelay_Resp and its follow-up: how long ago it came in units of 0.8 ns, the turnaround at the peer in 2^-16 ns, and asCapable (R440, R443). -/
  | pdelayRespReceived (port : Fin 2) (seq : Nat) (domain : Nat) (since : Nat) (peer : Int) (capable : Bool)
  /-- SYNC_RECEIPT_TIMEOUT. No Sync within the receipt timeout (R436). -/
  | syncReceiptTimeout
  /-- ANNOUNCE_RECEIPT_TIMEOUT. No Announce within its receipt timeout (R440). -/
  | announceReceiptTimeout (port : Fin 2)
  /-- SLAVE_PORT_SWITCH. The slave port has had no Sync for an interval (R442). -/
  | slavePortSwitch
  /-- SGMII_LINK_CHANGE. An SGMII link changes (R440). -/
  | sgmiiLinkChange (port : Fin 2) (up : Bool) (speed : Fin 4)
  /-- CLOCK_STEP. The end of the G-interval at which the clock is stepped (R439). -/
  | clockStep
  /-- PWM_PERIOD_BOUNDARY. A PWM period boundary (R467). -/
  | pwmPeriodBoundary
  /-- SEG_PULSE_START. The counter reaches a channel's phase (R462). -/
  | segPulseStart (ch : Fin 192)
  /-- SEG_PULSE_END. A pulse ends: the channel's pin voltage, loss of regulation, and its neighbours' voltages (R478). -/
  | segPulseEnd (ch : Fin 192) (mv : Nat) (lost : Bool) (nbs : List (Nat × Nat × Nat))
  /-- SEG_OVERCURRENT. Sink current above 60 mA (R478). -/
  | segOvercurrent (ch : Fin 192)
  /-- SEG_SYNC_EDGE. SEG_SYNC rises and stays high for so many ns; whether the edge falls on a boundary (R464). -/
  | segSyncEdge (onBoundary : Bool) (highNs : Nat)
  /-- SEG_INTERNAL_TICK. An internal segment tick (R465). -/
  | segInternalTick (onBoundary : Bool)
  /-- SEG_CHANNEL_CLEAR. A write to SEG_CH_CLEAR_w (R481). -/
  | segChannelClear (word : Fin 6) (mask : Nat)
  /-- SEG_BANK_RUN. A write of SEG_BANK_CTRL.RUN (R467). -/
  | segBankRun (bank : Fin 12) (on : Bool)
  /-- SEG_RAIL_ENABLE. A write of a segment rail's EN (R475). -/
  | segRailEnable (rail : Fin 4) (on : Bool)
  /-- HEADROOM_UPDATE. The 10 ms headroom update (R475). -/
  | headroomUpdate
  /-- LOSS_ESTIMATE. The 10 ms loss estimate (R477). -/
  | lossEstimate
  /-- SEG_CURRENT_CHECK. The current of the channel in turn, measured (R560). -/
  | segCurrentCheck (ua : Nat)
  /-- SEG_BLANK_RELEASE. 1 ms after both BLANK pins deassert during reset (R484). -/
  | segBlankRelease
  /-- THROTTLE_UPDATE. The 1 ms throttle update (R537). -/
  | throttleUpdate
  /-- THERMAL_SHUTDOWN. A junction comparator above 145 °C for 2 µs (R541). -/
  | thermalShutdown
  /-- THERMAL_SHUTDOWN_CLEAR. Both temperatures below 125 °C for 100 ms (R541). -/
  | thermalShutdownClear
  /-- DIE_TEMP_CONVERSION. The diode converted, in 1/16 °C (R535). -/
  | dieTempConversion (temp : Int) (outside : Bool)
  /-- REMOTE_TEMP_CONVERSION. A remote channel converted: its pin voltage in µV, and the ΔV in nV of a diode (R536). -/
  | remoteTempConversion (channel : Fin 4) (uv : Nat) (dv : Nat)
  /-- CAL_RUN. A write of 1 to THERM_CTRL.CAL_RUN (R545). -/
  | calRun
  /-- CALIBRATION_ITEM_DONE. A calibration item finishes: the results of its two measurements (R542). -/
  | calibrationItemDone (first : List Int) (second : List Int)
  /-- CALIBRATION_RUN_DONE. A calibration run ends (R542). -/
  | calibrationRunDone
  /-- CAL_RETRY_TIMER. 60 s after a failing run (R545). -/
  | calRetryTimer
  /-- OSC_COMPENSATION. The 1 s oscillator compensation (R544). -/
  | oscCompensation
  /-- ADC_CHECK. The ADC's reference points: codes measured and predicted (R558). -/
  | adcCheck (codes : List Nat) (predicted : List Nat)
  /-- LOOPBACK_CHECK. The 10 s loop-back check (R559). -/
  | loopbackCheck
  /-- LOOPBACK_CHECK_END. A Sounding loop-back ends; the bits that its checker took (R559). -/
  | loopbackCheckEnd (port : Fin 24) (bits : List Bool)
  /-- TEST_ENGINE_START. A write of 1 to TEST_ENG_CTRL.START (R563). -/
  | testEngineStart (unit : Fin 256) (kind : Fin 4)
  /-- TEST_ENGINE_DONE. An engine run completes; by what its response differs from the good one (R561, R563). -/
  | testEngineDone (errs : List Word)
  /-- PIXEL_STORE_READ. A read of a line of the pixel store: its data address, the 72 bytes stored (64 data, 8 check), and what the line holds (R565, R566, R568). -/
  | pixelStoreRead (addr : Nat) (stored : List Byte) (region : Nat) (target : Nat) (index : Nat) (line : Nat)
  /-- SCRUB_READ. The scrubber's next line: the 72 bytes stored, and what it holds (R565, R567). -/
  | scrubRead (stored : List Byte) (region : Nat) (target : Nat) (index : Nat) (line : Nat)
  /-- SRAM_ECC_ERROR. An SRAM read finds an error (R570). -/
  | sramEccError (safe : Bool) (double : Bool) (word : Nat) (array : Nat) (user : Nat) (target : Nat) (index : Nat)
  /-- COMM_OPEN. A write of 1 to SAFE_COMM_CTRL.OPEN (R395). -/
  | commOpen
  /-- COMM_CLOSE. A write of 1 to CLOSE (R396). -/
  | commClose
  /-- COMM_SESSION_TIMEOUT. 600 s without a class C write or an SPB command (R396). -/
  | commSessionTimeout
  /-- LC_ADVANCE. A write of 1 to ADVANCE (R590). -/
  | lcAdvance
  /-- LC_TO_FIELD. A write of 1 to TO_FIELD (R590). -/
  | lcToField
  /-- LC_KEY_BURN. A write of 1 to KEY_BURN (R590). -/
  | lcKeyBurn
  /-- CHAL_REQ. A write of 1 to CHAL_REQ (R591). -/
  | chalReq
  /-- LC_ENTER. A write of 1 to ENTER (R591). -/
  | lcEnter
  /-- LC_LEAVE. A write of 1 to LEAVE (R594). -/
  | lcLeave
  /-- LC_RETIRE. A write of 1 to RETIRE (R590). -/
  | lcRetire
  /-- CHALLENGE_EXPIRY. 60 s after CHAL_REQ (R591). -/
  | challengeExpiry
  /-- LOCKOUT_EXPIRY. The 600 s lockout has run down (R592). -/
  | lockoutExpiry
  /-- LC_RECORD_TIMER. 10 s of a lockout have passed (R593). -/
  | lcRecordTimer
  /-- DEBUG_ACCESS_OPEN. JTAG processor access is asked for (R595). -/
  | debugAccessOpen
deriving DecidableEq, Repr

end Sys2Proof
end

