-- ==== Sys2Proof/Decode.lean ====
section
/-! DEFINITION. The command that a word spells. No row of the opcode table gives bits: a command is an event or an access with its operands, never a word (DESIGN CHOICE, log entry 2). -/

namespace Sys2Proof

/-- No word spells a command: every row of the table has an empty list of fields. -/
def decodeTableWord (_nbits _w : Nat) : Option Instr := none

end Sys2Proof
end

