-- ==== Sys2Proof/Config.lean ====
section
/-! DEFINITION. What an implementation or the world outside fixes and the spec does not: opaque constants, of which no proof can know the value. -/

namespace Sys2Proof.Config

/-- Fresh random bytes of a service challenge (R591): byte `i` of the `n`-th challenge drawn. -/
opaque challengeByte : Nat → Nat → Byte

/-- Whether the service tool's response authenticates under the hash in OTP (R591): the ECDSA and SHA-256 checks of words 0 to 31 against the challenge, the device ID and PERMS. -/
opaque responseGood : List Word → List Byte → List Word → List Word → Bool

/-- Whether a firmware image's Kaleus signature checks (R133, R582). -/
opaque imageSigned : List Byte → Bool

/-- Whether an image's board section checks: under the service key hash where one is programmed, else by its CRC-32C (R580). -/
opaque boardSigned : List Byte → Option (List Word) → Bool

/-- VERSION and SEC_VER of an image's header (R580): the spec gives the header no layout. -/
opaque imageVersion : List Byte → Nat
opaque imageSecVer : List Byte → Nat

/-- The registers that an image's board section writes, as BAR 0 offsets and words (R586): the spec gives the section no layout. -/
opaque boardRecords : List Byte → List (Nat × Word)

/-- The PCIe subsystem vendor ID and subsystem ID of an image's board section, where it has the record (R64, R586). -/
opaque boardSubsystem : List Byte → Option (BitVec 16 × BitVec 16)

/-- What a flash region holds after a write or read-back of it failed: the `n`-th such region. -/
opaque flashAfterFail : Nat → List Byte

/-- The response words of a unit without a fault in a test: unit, kind (0 to 2 of the engine, 3 a slice of Sounding), seed, and pattern count (R561, R563). -/
opaque goodResponse : Nat → Nat → Nat → Nat → List Word

/-- The compensation tables in OTP, in 0.1 ppm: oscillator 0 the low-power one, 1 the 40 MHz one; entry 0 to 15 (R544). -/
opaque oscError : Nat → Nat → Int

/-- Whether a remote channel's reading is the upper of the two sixteenths of a °C about what the formula of R536 gives: kind with current, parameter, R25, measurement. -/
opaque rchUp : Nat → Nat → Nat → Nat → Bool

/-- A remote channel's reading where the formula of R536 gives no value: an ideality, B or R25 of 0, or a denominator of 0 or below. -/
opaque rchOpen : Nat → Nat → Nat → Nat → Int

/-- Whether the mean of two results is rounded up where their sum is odd (R542). -/
opaque meanUp : Int → Bool

/-- A value the spec leaves open, drawn fresh: the `n`-th one of this machine. -/
opaque freeNat : Nat → Nat

end Sys2Proof.Config
end

