-- ==== Sys2Proof/Machine/Crc.lean ====
section
/-! DEFINITION. CRC-32C (R3, R81): every check value of the TY3024, over a virtual prefix and the covered bytes. -/

namespace Sys2Proof.Machine

/-- One bit of the reflected CRC-32C register (polynomial 0x82F6_3B78, R81). -/
def crcBit (c : Nat) : Nat := if c % 2 = 1 then Nat.xor (c / 2) 0x82F63B78 else c / 2

/-- One byte through the CRC register. -/
def crcByte (c : Nat) (b : Byte) : Nat :=
  crcBit (crcBit (crcBit (crcBit (crcBit (crcBit (crcBit (crcBit (Nat.xor c b.toNat))))))))

/-- The CRC register after a list of bytes. -/
def crcRun : Nat → List Byte → Nat
  | c, [] => c
  | c, b :: bs => crcRun (crcByte c b) bs

/-- CRC-32C of a list of bytes: initial value and final XOR 0xFFFF_FFFF (R81). -/
def crc32c (bs : List Byte) : Nat := Nat.xor (crcRun 0xFFFFFFFF bs) 0xFFFFFFFF

/-- CRC-32C over a virtual prefix, which is never stored, and the covered bytes (R3). -/
def crcWith (pre covered : List Byte) : Nat :=
  Nat.xor (crcRun (crcRun 0xFFFFFFFF pre) covered) 0xFFFFFFFF

/-- Prefix of a descriptor: ring ID, 0x00, slot index, generation (Table 03-7). -/
def descPrefix (ring slot gen : Nat) : List Byte :=
  [BitVec.ofNat 8 ring, 0] ++ leBytes 2 slot ++ [BitVec.ofNat 8 gen, 0, 0, 0]

/-- Prefix of a payload block: ring ID, 0x01, slot and generation of its descriptor, PAYLOAD_LEN (Table 03-7). -/
def payloadPrefix (ring slot gen len : Nat) : List Byte :=
  [BitVec.ofNat 8 ring, 1] ++ leBytes 2 slot ++ [BitVec.ofNat 8 gen] ++ leBytes 2 len ++ [0]

/-- Prefix of a device-to-host record: ring ID, 0x80, slot index, generation (Table 03-7). -/
def recordPrefix (ring slot gen : Nat) : List Byte :=
  [BitVec.ofNat 8 ring, 0x80] ++ leBytes 2 slot ++ [BitVec.ofNat 8 gen, 0, 0, 0]

/-- Prefix of a bulk source buffer: opcode, 0x02, TARGET, LEN (R125). -/
def sourcePrefix (opcode target len : Nat) : List Byte :=
  [BitVec.ofNat 8 opcode, 2] ++ leBytes 2 target ++ leBytes 4 len

/-- Prefix of an SPB check value: 0x60, 0x00, FORMAT, LEN (R393). -/
def spbPrefix (format len : Nat) : List Byte := [0x60, 0] ++ leBytes 2 format ++ leBytes 4 len

/-- Prefix of a flash SPB record: 0x61, 0x05, copy, 0x00, LEN (R401). -/
def spbRecordPrefix (copy len : Nat) : List Byte := [0x61, 5, BitVec.ofNat 8 copy, 0] ++ leBytes 4 len

/-- The check value of an SPB image (R393). -/
def spbCheckValue (img : List Byte) : Nat := crcWith (spbPrefix (leAt img 4 2) (leAt img 6 2)) img

/-! ## The MISR of a logic test (R561) -/

/-- One response word into the 32-bit MISR with x^32 + x^22 + x^2 + x + 1, shifted towards its top bit (DESIGN CHOICE, log entry 133). -/
def misrStep (m w : Word) : Word := (m <<< 1) ^^^ (if m.msb then 0x00400007 else 0) ^^^ w

/-- The MISR after a list of response words. -/
def misr (start : Word) (ws : List Word) : Word := ws.foldl misrStep start

/-- The golden signature of a test: the MISR of a faultless unit's response, started at 0xFFFF_FFFF. -/
def goldenMisr (unit kind seed len : Nat) : Word := misr 0xFFFFFFFF (Config.goodResponse unit kind seed len)

/-- The MISR of a test whose response differs from the good one by `errs`, word by word: the register is linear (Laws.misr_xor). -/
def runMisr (unit kind seed len : Nat) (errs : List Word) : Word := goldenMisr unit kind seed len ^^^ misr 0 errs

/-- Whether a test passes: its MISR equals the golden one (Laws.runMisr_golden). -/
def misrPass (errs : List Word) : Bool := misr 0 errs == 0

/-- One bit and one byte of CRC-8 with x^8 + x^2 + x + 1, most significant bit first, and the packet error code of a transaction's bytes (R476; PRESUMED, log entry 164). -/
def crc8Bit (c : Nat) : Nat := if 128 ≤ c then Nat.xor (2 * c - 256) 7 else 2 * c
def crc8Byte (c : Nat) (b : Byte) : Nat :=
  crc8Bit (crc8Bit (crc8Bit (crc8Bit (crc8Bit (crc8Bit (crc8Bit (crc8Bit (Nat.xor c b.toNat))))))))
def crc8 (bs : List Byte) : Nat := bs.foldl crc8Byte 0

end Sys2Proof.Machine
end

