-- ==== Sys2Proof/Machine/Regs.lean ====
section
/-! DEFINITION. The register table of BAR 0: every register of R606 with its fields, access, class and reset value, transcribed from the register tables of the chapters, and one handle for every field. -/

namespace Sys2Proof.Machine

/-- Access of a field ("Register tables and field classes", Table 00-5 and R598). -/
inductive Access where
  | ro | rw | w1c | wo
deriving DecidableEq, Repr

/-- Class of a field (Table 00-5); `none` for a read-only field. -/
inductive FieldClass where
  | none | i | f | l | c
deriving DecidableEq, Repr

/-- One field of a register: bits `lo` to `lo + width - 1`. -/
structure FieldSpec where
  lo : Nat
  width : Nat
  acc : Access
  cls : FieldClass
  reset : Nat
deriving DecidableEq, Repr

/-- A register, or an array of `count` registers `stride` bytes apart; bits named by no field are reserved (R4). -/
structure RegSpec where
  base : Nat
  stride : Nat
  count : Nat
  fields : List FieldSpec
deriving DecidableEq, Repr

/-- A field of one register: the BAR 0 offset of its register and its place in it. -/
structure Fld where
  addr : Nat
  lo : Nat
  width : Nat
deriving DecidableEq, Repr

/-- Registers of the GLOBAL block (R606, Tables 21-3 to 21-18 and the chapter tables), part 1. -/
def regsGlobal : List RegSpec := [
  -- GLOBAL_ID (chapter 21)
  ⟨0x0, 0x0, 1, [⟨0, 16, .ro, .none, 0x3024⟩, ⟨16, 16, .ro, .none, 0xca1e⟩]⟩,
  -- GLOBAL_REV (chapter 21)
  ⟨0x4, 0x0, 1, [⟨0, 8, .ro, .none, 0⟩, ⟨8, 8, .ro, .none, 0⟩]⟩,
  -- GLOBAL_FW (chapter 21)
  ⟨0x8, 0x0, 1, [⟨0, 32, .ro, .none, 0⟩]⟩,
  -- GLOBAL_CAPS (chapter 21)
  ⟨0xC, 0x0, 1, [⟨0, 8, .ro, .none, 0x18⟩, ⟨8, 8, .ro, .none, 0xc0⟩, ⟨16, 4, .ro, .none, 4⟩, ⟨20, 4, .ro, .none, 1⟩]⟩,
  -- GLOBAL_SCRATCH (chapter 21)
  ⟨0x10, 0x0, 1, [⟨0, 32, .rw, .i, 0⟩]⟩,
  -- GLOBAL_WREF_ADDR (chapter 21)
  ⟨0x20, 0x0, 1, [⟨0, 20, .ro, .none, 0⟩]⟩,
  -- GLOBAL_WREF_INFO (chapter 21)
  ⟨0x24, 0x0, 1, [⟨0, 1, .ro, .none, 0⟩, ⟨1, 1, .rw, .i, 1⟩, ⟨2, 1, .wo, .i, 0⟩, ⟨16, 16, .ro, .none, 0⟩]⟩,
  -- GLOBAL_WREF_VALUE (chapter 21)
  ⟨0x28, 0x0, 1, [⟨0, 32, .ro, .none, 0⟩]⟩]

/-- Registers of the HOST block (R606, Tables 21-3 to 21-18 and the chapter tables), part 1. -/
def regsHost : List RegSpec := [
  -- HOST_STATUS (chapter 03)
  ⟨0x10000, 0x0, 1, [⟨0, 1, .ro, .none, 0⟩, ⟨1, 3, .ro, .none, 0⟩, ⟨4, 3, .ro, .none, 0⟩, ⟨7, 1, .ro, .none, 0⟩, ⟨8, 1, .ro, .none, 0⟩, ⟨9, 1, .w1c, .i, 0⟩]⟩,
  -- HOST_SILENCE (chapter 03)
  ⟨0x10004, 0x0, 1, [⟨0, 16, .rw, .i, 0x30⟩, ⟨16, 2, .rw, .i, 0⟩]⟩,
  -- HOST_SILENCE_CNT (chapter 03)
  ⟨0x10008, 0x0, 1, [⟨0, 16, .ro, .none, 0⟩]⟩,
  -- HOST_EVT_LOST (chapter 03)
  ⟨0x1000C, 0x0, 1, [⟨0, 16, .ro, .none, 0⟩, ⟨16, 16, .ro, .none, 0⟩]⟩,
  -- HOST_RESET_CNT (chapter 03)
  ⟨0x10010, 0x0, 1, [⟨0, 8, .ro, .none, 0⟩, ⟨8, 8, .ro, .none, 0⟩, ⟨16, 16, .ro, .none, 0⟩]⟩,
  -- HOST_OFFACC_ADDR (chapter 16)
  ⟨0x10020, 0x0, 1, [⟨0, 20, .ro, .none, 0⟩]⟩,
  -- HOST_OFFACC_INFO (chapter 16)
  ⟨0x10024, 0x0, 1, [⟨0, 1, .ro, .none, 0⟩, ⟨1, 4, .ro, .none, 0⟩, ⟨5, 1, .rw, .i, 0⟩, ⟨6, 1, .wo, .i, 0⟩, ⟨16, 16, .ro, .none, 0⟩]⟩,
  -- HOST_RINGn_BASE_LO (chapter 03)
  ⟨0x10100, 0x40, 7, [⟨12, 20, .rw, .l, 0⟩]⟩,
  -- HOST_RINGn_BASE_HI (chapter 03)
  ⟨0x10104, 0x40, 7, [⟨0, 32, .rw, .l, 0⟩]⟩,
  -- HOST_RINGn_CFG (chapter 03)
  ⟨0x10108, 0x40, 2, [⟨0, 4, .rw, .l, 4⟩, ⟨4, 1, .rw, .l, 0⟩, ⟨8, 4, .rw, .l, 0⟩, ⟨16, 8, .rw, .i, 0⟩, ⟨24, 8, .rw, .i, 0⟩]⟩,
  -- HOST_RINGn_CFG (chapter 03)
  ⟨0x10188, 0x40, 2, [⟨0, 4, .rw, .l, 4⟩, ⟨4, 1, .rw, .l, 1⟩, ⟨8, 4, .rw, .l, 0⟩, ⟨16, 8, .rw, .i, 0⟩, ⟨24, 8, .rw, .i, 0⟩]⟩,
  -- HOST_RINGn_CFG (chapter 03)
  ⟨0x10208, 0x40, 1, [⟨0, 4, .rw, .l, 4⟩, ⟨4, 1, .rw, .l, 0⟩, ⟨8, 4, .rw, .l, 0⟩, ⟨16, 8, .rw, .i, 0⟩, ⟨24, 8, .rw, .i, 0⟩]⟩,
  -- HOST_RINGn_CFG (chapter 03)
  ⟨0x10248, 0x40, 1, [⟨0, 4, .rw, .l, 4⟩, ⟨4, 1, .rw, .l, 0⟩, ⟨8, 4, .rw, .l, 1⟩, ⟨16, 8, .rw, .i, 0⟩, ⟨24, 8, .rw, .i, 0⟩]⟩,
  -- HOST_RINGn_CFG (chapter 03)
  ⟨0x10288, 0x40, 1, [⟨0, 4, .rw, .l, 4⟩, ⟨4, 1, .rw, .l, 0⟩, ⟨8, 4, .rw, .l, 2⟩, ⟨16, 8, .rw, .i, 0⟩, ⟨24, 8, .rw, .i, 0⟩]⟩,
  -- HOST_RINGn_CTRL (chapter 03)
  ⟨0x1010C, 0x40, 7, [⟨0, 1, .rw, .i, 0⟩, ⟨1, 1, .wo, .i, 0⟩, ⟨2, 1, .wo, .i, 0⟩]⟩,
  -- HOST_RINGn_HEAD (chapter 03)
  ⟨0x10110, 0x40, 7, [⟨0, 12, .ro, .none, 0⟩, ⟨16, 1, .ro, .none, 1⟩]⟩,
  -- HOST_RINGn_STATUS (chapter 03)
  ⟨0x10114, 0x40, 7, [⟨0, 1, .ro, .none, 0⟩, ⟨1, 1, .ro, .none, 0⟩, ⟨2, 1, .ro, .none, 0⟩]⟩,
  -- HOST_RINGn_COUNT (chapter 03)
  ⟨0x10118, 0x40, 7, [⟨0, 16, .ro, .none, 0⟩, ⟨16, 16, .ro, .none, 0⟩]⟩]

/-- Registers of the PWR block (R606, Tables 21-3 to 21-18 and the chapter tables), part 1. -/
def regsPwrA : List RegSpec := [
  -- PWR_SUPPLY_CFG (chapter 16)
  ⟨0x20000, 0x0, 1, [⟨0, 5, .rw, .i, 0xb⟩, ⟨5, 3, .rw, .i, 4⟩, ⟨8, 8, .rw, .i, 0x14⟩, ⟨16, 8, .rw, .i, 0xa⟩]⟩,
  -- PWR_SUPPLY_STATUS (chapter 16)
  ⟨0x20004, 0x0, 1, [⟨0, 1, .ro, .none, 0⟩, ⟨1, 1, .ro, .none, 0⟩, ⟨2, 1, .ro, .none, 0⟩, ⟨3, 1, .ro, .none, 0⟩, ⟨4, 1, .w1c, .i, 0⟩, ⟨5, 1, .ro, .none, 0⟩]⟩,
  -- PWR_VIN (chapter 16)
  ⟨0x20008, 0x0, 1, [⟨0, 16, .ro, .none, 0⟩, ⟨16, 16, .ro, .none, 0⟩]⟩,
  -- PWR_COUNT (chapter 16)
  ⟨0x2000C, 0x0, 1, [⟨0, 16, .ro, .none, 0⟩, ⟨16, 16, .ro, .none, 0⟩]⟩,
  -- PWR_CTRL (chapter 16)
  ⟨0x20010, 0x0, 1, [⟨0, 1, .wo, .i, 0⟩]⟩,
  -- PWR_DOM_REQ (chapter 16)
  ⟨0x20020, 0x0, 1, [⟨0, 1, .rw, .i, 0⟩, ⟨1, 1, .rw, .i, 0⟩, ⟨2, 1, .rw, .i, 0⟩]⟩,
  -- PWR_DOM_STATUS (chapter 16)
  ⟨0x20024, 0x0, 1, [⟨0, 12, .ro, .none, 1⟩, ⟨12, 1, .ro, .none, 0⟩, ⟨13, 1, .ro, .none, 0⟩, ⟨14, 1, .w1c, .i, 0⟩]⟩,
  -- PWR_RAIL_CFG_r (chapter 16)
  ⟨0x20040, 0x10, 5, [⟨0, 7, .ro, .none, 0⟩, ⟨7, 1, .ro, .none, 0⟩, ⟨8, 8, .ro, .none, 0xff⟩, ⟨16, 8, .ro, .none, 5⟩]⟩,
  -- PWR_RAIL_VOUT_r (chapter 16)
  ⟨0x20044, 0x10, 5, [⟨0, 16, .ro, .none, 0⟩, ⟨16, 16, .ro, .none, 0⟩]⟩,
  -- PWR_RAIL_STAT_r (chapter 16)
  ⟨0x20048, 0x10, 5, [⟨0, 1, .ro, .none, 0⟩, ⟨1, 1, .ro, .none, 0⟩, ⟨2, 1, .ro, .none, 0⟩, ⟨8, 8, .ro, .none, 0⟩, ⟨16, 16, .ro, .none, 0⟩]⟩,
  -- PWR_MODE (chapter 17)
  ⟨0x20100, 0x0, 1, [⟨0, 3, .ro, .none, 0⟩, ⟨3, 3, .ro, .none, 1⟩, ⟨6, 1, .ro, .none, 1⟩, ⟨8, 8, .ro, .none, 0⟩, ⟨16, 16, .ro, .none, 3⟩]⟩,
  -- PWR_MODE_CFG (chapter 17)
  ⟨0x20104, 0x0, 1, [⟨0, 16, .rw, .i, 0x12c⟩, ⟨16, 8, .rw, .i, 0xa⟩, ⟨24, 1, .rw, .i, 1⟩, ⟨25, 7, .rw, .i, 5⟩]⟩,
  -- PWR_IDLE (chapter 17)
  ⟨0x20108, 0x0, 1, [⟨0, 16, .ro, .none, 0⟩, ⟨16, 1, .ro, .none, 0⟩]⟩,
  -- PWR_TARN_CFG (chapter 17)
  ⟨0x20110, 0x0, 1, [⟨0, 6, .rw, .i, 0x10⟩]⟩,
  -- PWR_TARN_TIMER (chapter 17)
  ⟨0x20114, 0x0, 1, [⟨0, 16, .rw, .i, 0⟩, ⟨16, 16, .ro, .none, 0⟩]⟩,
  -- PWR_TARN_IN (chapter 17)
  ⟨0x20118, 0x0, 1, [⟨0, 11, .ro, .none, 0⟩]⟩,
  -- PWR_TARN_AIN_A (chapter 17)
  ⟨0x2011C, 0x0, 1, [⟨0, 16, .ro, .none, 0⟩, ⟨16, 16, .ro, .none, 0⟩]⟩,
  -- PWR_TARN_AIN_B (chapter 17)
  ⟨0x20120, 0x0, 1, [⟨0, 16, .ro, .none, 0⟩]⟩,
  -- PWR_WAKE_CAUSE (chapter 17)
  ⟨0x20124, 0x0, 1, [⟨0, 16, .w1c, .i, 0⟩, ⟨16, 1, .w1c, .i, 0⟩, ⟨17, 1, .w1c, .i, 0⟩, ⟨18, 1, .w1c, .i, 1⟩]⟩,
  -- PWR_WAKE_LATCH (chapter 17)
  ⟨0x20128, 0x0, 1, [⟨0, 16, .ro, .none, 0⟩, ⟨16, 3, .ro, .none, 0⟩, ⟨19, 1, .w1c, .i, 0⟩]⟩,
  -- PWR_TARN_FILT_i (chapter 17)
  ⟨0x20140, 0x4, 14, [⟨0, 8, .rw, .i, 5⟩, ⟨8, 3, .rw, .i, 2⟩, ⟨11, 1, .rw, .i, 1⟩]⟩,
  -- PWR_RULE_CTRL_n (chapter 17)
  ⟨0x20200, 0x10, 1, [⟨0, 1, .rw, .i, 1⟩, ⟨1, 1, .rw, .i, 0⟩, ⟨2, 3, .rw, .i, 2⟩, ⟨5, 1, .rw, .i, 1⟩, ⟨6, 6, .rw, .i, 9⟩]⟩,
  -- PWR_RULE_CTRL_n (chapter 17)
  ⟨0x20210, 0x10, 1, [⟨0, 1, .rw, .i, 1⟩, ⟨1, 1, .rw, .i, 0⟩, ⟨2, 3, .rw, .i, 1⟩, ⟨5, 1, .rw, .i, 1⟩, ⟨6, 6, .rw, .i, 1⟩]⟩,
  -- PWR_RULE_CTRL_n (chapter 17)
  ⟨0x20220, 0x10, 14, [⟨0, 1, .rw, .i, 0⟩, ⟨1, 1, .rw, .i, 0⟩, ⟨2, 3, .rw, .i, 0⟩, ⟨5, 1, .rw, .i, 0⟩, ⟨6, 6, .rw, .i, 0⟩]⟩]

/-- Registers of the PWR block (R606, Tables 21-3 to 21-18 and the chapter tables), part 2. -/
def regsPwrB : List RegSpec := [
  -- PWR_RULE_TERM_A_n (chapter 17)
  ⟨0x20204, 0x10, 1, [⟨0, 4, .rw, .i, 0xa⟩, ⟨4, 3, .rw, .i, 1⟩, ⟨16, 16, .rw, .i, 0⟩]⟩,
  -- PWR_RULE_TERM_A_n (chapter 17)
  ⟨0x20214, 0x10, 1, [⟨0, 4, .rw, .i, 4⟩, ⟨4, 3, .rw, .i, 3⟩, ⟨16, 16, .rw, .i, 0⟩]⟩,
  -- PWR_RULE_TERM_A_n (chapter 17)
  ⟨0x20224, 0x10, 14, [⟨0, 4, .rw, .i, 0⟩, ⟨4, 3, .rw, .i, 0⟩, ⟨16, 16, .rw, .i, 0⟩]⟩,
  -- PWR_RULE_TERM_B_n (chapter 17)
  ⟨0x20208, 0x10, 16, [⟨0, 4, .rw, .i, 0⟩, ⟨4, 3, .rw, .i, 0⟩, ⟨16, 16, .rw, .i, 0⟩]⟩,
  -- PWR_RULE_COUNT_n (chapter 17)
  ⟨0x2020C, 0x10, 16, [⟨0, 16, .ro, .none, 0⟩]⟩,
  -- PWR_RESET (chapter 20)
  ⟨0x20300, 0x0, 1, [⟨0, 4, .ro, .none, 0⟩, ⟨4, 1, .ro, .none, 0⟩, ⟨5, 1, .ro, .none, 0⟩, ⟨6, 1, .ro, .none, 0⟩, ⟨8, 8, .ro, .none, 0⟩, ⟨16, 16, .ro, .none, 0x1f4⟩]⟩]

/-- Registers of the TIME block (R606, Tables 21-3 to 21-18 and the chapter tables), part 1. -/
def regsTime : List RegSpec := [
  -- TIME_STATUS (chapter 14)
  ⟨0x30000, 0x0, 1, [⟨0, 2, .ro, .none, 0⟩, ⟨2, 1, .ro, .none, 0⟩, ⟨3, 1, .ro, .none, 0⟩, ⟨4, 1, .ro, .none, 0⟩, ⟨5, 1, .ro, .none, 0⟩]⟩,
  -- TIME_NOW_NS (chapter 14)
  ⟨0x30004, 0x0, 1, [⟨0, 30, .ro, .none, 0⟩]⟩,
  -- TIME_NOW_SL (chapter 14)
  ⟨0x30008, 0x0, 1, [⟨0, 32, .ro, .none, 0⟩]⟩,
  -- TIME_NOW_SH (chapter 14)
  ⟨0x3000C, 0x0, 1, [⟨0, 16, .ro, .none, 0⟩]⟩,
  -- TIME_NOW_FRAC (chapter 14)
  ⟨0x30010, 0x0, 1, [⟨0, 32, .ro, .none, 0⟩]⟩,
  -- TIME_INC_LO (chapter 14)
  ⟨0x30014, 0x0, 1, [⟨0, 32, .ro, .none, 0⟩]⟩,
  -- TIME_INC_HI (chapter 14)
  ⟨0x30018, 0x0, 1, [⟨0, 8, .ro, .none, 4⟩]⟩,
  -- TIME_UNC_LO (chapter 14)
  ⟨0x3001C, 0x0, 1, [⟨0, 32, .ro, .none, 0xffffffff⟩]⟩,
  -- TIME_UNC_HI (chapter 14)
  ⟨0x30020, 0x0, 1, [⟨0, 32, .ro, .none, 0xffffffff⟩]⟩,
  -- TIME_CFG (chapter 14)
  ⟨0x30024, 0x0, 1, [⟨0, 16, .rw, .i, 0x3e8⟩, ⟨16, 10, .rw, .i, 0x1f4⟩]⟩,
  -- TIME_HOLD (chapter 14)
  ⟨0x30028, 0x0, 1, [⟨0, 16, .rw, .i, 0x1388⟩, ⟨16, 8, .rw, .i, 0x32⟩, ⟨24, 8, .rw, .i, 0xa⟩]⟩,
  -- TIME_EPH_CFG (chapter 14)
  ⟨0x3002C, 0x0, 1, [⟨0, 32, .rw, .i, 0xc350⟩]⟩,
  -- TIME_CNT (chapter 14)
  ⟨0x30030, 0x0, 1, [⟨0, 16, .ro, .none, 0⟩, ⟨16, 16, .ro, .none, 0⟩]⟩,
  -- TIME_CTRL (chapter 14)
  ⟨0x30034, 0x0, 1, [⟨0, 1, .wo, .i, 0⟩]⟩,
  -- TIME_EPH_n (chapter 14)
  ⟨0x30040, 0x8, 4, [⟨0, 6, .ro, .none, 0⟩]⟩,
  -- TIME_EPH_CNT_n (chapter 14)
  ⟨0x30044, 0x8, 4, [⟨0, 8, .ro, .none, 0⟩, ⟨8, 8, .ro, .none, 0⟩, ⟨16, 8, .ro, .none, 0⟩, ⟨24, 8, .ro, .none, 0⟩]⟩]

/-- Registers of the TG block (R606, Tables 21-3 to 21-18 and the chapter tables), part 1. -/
def regsTg : List RegSpec := [
  -- TG_CTRL (chapter 02)
  ⟨0x40000, 0x100, 4, [⟨0, 1, .rw, .i, 0⟩, ⟨1, 1, .wo, .i, 0⟩]⟩,
  -- TG_RATE (chapter 02)
  ⟨0x40004, 0x100, 4, [⟨0, 8, .rw, .l, 0⟩, ⟨8, 2, .rw, .l, 0⟩]⟩,
  -- TG_GUARD (chapter 02)
  ⟨0x40008, 0x100, 4, [⟨0, 7, .rw, .l, 8⟩, ⟨8, 7, .rw, .l, 0⟩, ⟨16, 12, .rw, .l, 0⟩]⟩,
  -- TG_LEAD (chapter 02)
  ⟨0x4000C, 0x100, 4, [⟨0, 16, .rw, .l, 0x1f4⟩]⟩,
  -- TG_GRID (chapter 02)
  ⟨0x40010, 0x100, 4, [⟨0, 30, .rw, .l, 0⟩]⟩,
  -- TG_FRAME (chapter 02)
  ⟨0x40014, 0x100, 4, [⟨0, 32, .ro, .none, 0⟩]⟩,
  -- TG_STATUS (chapter 02)
  ⟨0x40018, 0x100, 4, [⟨0, 1, .ro, .none, 0⟩, ⟨1, 1, .ro, .none, 0⟩, ⟨2, 1, .ro, .none, 0⟩, ⟨3, 1, .ro, .none, 0⟩, ⟨4, 4, .ro, .none, 0⟩, ⟨8, 1, .ro, .none, 0⟩, ⟨9, 1, .ro, .none, 0⟩]⟩,
  -- TG_COUNT (chapter 02)
  ⟨0x4001C, 0x100, 4, [⟨0, 16, .ro, .none, 0⟩, ⟨16, 16, .ro, .none, 0⟩]⟩,
  -- TG_CANVAS (chapter 02)
  ⟨0x40020, 0x100, 4, [⟨0, 12, .rw, .l, 0⟩, ⟨16, 11, .rw, .l, 0⟩]⟩,
  -- TG_TICKOUT (chapter 02)
  ⟨0x40400, 0x0, 1, [⟨0, 1, .rw, .i, 0⟩, ⟨1, 3, .rw, .i, 0⟩, ⟨4, 2, .rw, .i, 0⟩, ⟨8, 8, .rw, .i, 1⟩]⟩,
  -- TG_PORTMAP_A_p (chapter 02)
  ⟨0x40800, 0x8, 24, [⟨0, 3, .rw, .l, 7⟩, ⟨4, 2, .rw, .l, 0⟩, ⟨6, 1, .rw, .l, 0⟩, ⟨8, 9, .rw, .l, 0⟩, ⟨20, 7, .rw, .l, 0⟩]⟩,
  -- TG_PORTMAP_B_p (chapter 02)
  ⟨0x40804, 0x8, 24, [⟨0, 12, .rw, .l, 0⟩]⟩]

/-- Registers of the PIX block (R606, Tables 21-3 to 21-18 and the chapter tables), part 1. -/
def regsPixA : List RegSpec := [
  -- PIX_COMP_CTRL (chapter 05)
  ⟨0x50000, 0x0, 1, [⟨0, 1, .rw, .i, 1⟩, ⟨1, 1, .wo, .i, 0⟩]⟩,
  -- PIX_COMP_STATUS (chapter 05)
  ⟨0x50004, 0x0, 1, [⟨0, 1, .ro, .none, 0⟩, ⟨1, 2, .ro, .none, 0⟩, ⟨8, 5, .ro, .none, 0⟩]⟩,
  -- PIX_FILL_n (chapter 05)
  ⟨0x50010, 0x10, 4, [⟨0, 1, .rw, .f, 1⟩, ⟨8, 8, .rw, .f, 0x80⟩, ⟨16, 16, .rw, .f, 0x2000⟩]⟩,
  -- PIX_MAPSTAT_n (chapter 05)
  ⟨0x50014, 0x10, 4, [⟨0, 1, .ro, .none, 0⟩, ⟨1, 16, .ro, .none, 0⟩]⟩,
  -- PIX_COMP_TIME_n (chapter 05)
  ⟨0x50018, 0x10, 4, [⟨0, 16, .ro, .none, 0⟩, ⟨16, 16, .ro, .none, 0⟩]⟩,
  -- PIX_COMP_COUNT_n (chapter 05)
  ⟨0x5001C, 0x10, 4, [⟨0, 16, .ro, .none, 0⟩, ⟨16, 16, .ro, .none, 0⟩]⟩,
  -- PIX_SCALER_s (chapter 05)
  ⟨0x50080, 0x8, 2, [⟨0, 1, .ro, .none, 0⟩, ⟨1, 1, .ro, .none, 0⟩, ⟨2, 1, .ro, .none, 0⟩, ⟨3, 2, .ro, .none, 0⟩]⟩,
  -- PIX_CSIG_r (chapter 05)
  ⟨0x50100, 0x4, 32, [⟨0, 32, .ro, .none, 0⟩]⟩,
  -- PIX_CSIG_VALID (chapter 05)
  ⟨0x50180, 0x0, 1, [⟨0, 32, .ro, .none, 0⟩]⟩,
  -- PIX_SHADE_CTRL (chapter 06)
  ⟨0x50200, 0x0, 1, [⟨0, 4, .rw, .f, 0xf⟩, ⟨8, 8, .rw, .i, 0xfa⟩, ⟨16, 1, .wo, .i, 0⟩]⟩,
  -- PIX_SHADE_USED_LO (chapter 06)
  ⟨0x50204, 0x0, 1, [⟨0, 32, .ro, .none, 0⟩]⟩,
  -- PIX_SHADE_USED_HI (chapter 06)
  ⟨0x50208, 0x0, 1, [⟨0, 32, .ro, .none, 0⟩]⟩,
  -- PIX_SHADE_STALE_LO (chapter 06)
  ⟨0x5020C, 0x0, 1, [⟨0, 32, .ro, .none, 0⟩]⟩,
  -- PIX_SHADE_STALE_HI (chapter 06)
  ⟨0x50210, 0x0, 1, [⟨0, 32, .ro, .none, 0⟩]⟩,
  -- PIX_SHADE_STATUS (chapter 06)
  ⟨0x50214, 0x0, 1, [⟨0, 1, .ro, .none, 0⟩, ⟨4, 4, .ro, .none, 0⟩]⟩,
  -- PIX_SHADE_COUNT (chapter 06)
  ⟨0x50218, 0x0, 1, [⟨0, 16, .ro, .none, 0⟩, ⟨16, 16, .ro, .none, 0⟩]⟩,
  -- PIX_SHADE_AGE (chapter 06)
  ⟨0x5021C, 0x0, 1, [⟨0, 16, .ro, .none, 0⟩, ⟨16, 16, .ro, .none, 0⟩]⟩,
  -- PIX_SHADE_PEEK_SEL (chapter 06)
  ⟨0x50220, 0x0, 1, [⟨0, 6, .rw, .i, 0⟩]⟩,
  -- PIX_SHADE_PEEK_X (chapter 06)
  ⟨0x50224, 0x0, 1, [⟨0, 32, .ro, .none, 0⟩]⟩,
  -- PIX_SHADE_PEEK_Y (chapter 06)
  ⟨0x50228, 0x0, 1, [⟨0, 32, .ro, .none, 0⟩]⟩,
  -- PIX_SHADE_PEEK_HALF (chapter 06)
  ⟨0x5022C, 0x0, 1, [⟨0, 16, .ro, .none, 0⟩, ⟨16, 16, .ro, .none, 0⟩]⟩,
  -- PIX_AIM_APPLIED_n (chapter 07)
  ⟨0x50300, 0x10, 4, [⟨0, 16, .ro, .none, 0⟩, ⟨16, 16, .ro, .none, 0⟩]⟩,
  -- PIX_AIM_TARGET_n (chapter 07)
  ⟨0x50304, 0x10, 4, [⟨0, 16, .ro, .none, 0⟩, ⟨16, 16, .ro, .none, 0⟩]⟩,
  -- PIX_AIM_RATE_n (chapter 07)
  ⟨0x50308, 0x10, 4, [⟨0, 16, .ro, .none, 0⟩, ⟨16, 16, .ro, .none, 0⟩]⟩]

/-- Registers of the PIX block (R606, Tables 21-3 to 21-18 and the chapter tables), part 2. -/
def regsPixB : List RegSpec := [
  -- PIX_DERATE_A_n (chapter 07)
  ⟨0x50340, 0x8, 4, [⟨0, 16, .rw, .f, 0x640⟩, ⟨16, 8, .rw, .f, 0x80⟩, ⟨24, 1, .rw, .f, 1⟩]⟩,
  -- PIX_DERATE_B_n (chapter 07)
  ⟨0x50344, 0x8, 4, [⟨0, 16, .rw, .f, 0x40⟩, ⟨16, 8, .rw, .f, 0x10⟩]⟩,
  -- PIX_OUT_CTRL (chapter 07)
  ⟨0x50380, 0x0, 1, [⟨0, 4, .rw, .f, 0xf⟩, ⟨4, 1, .wo, .i, 0⟩]⟩,
  -- PIX_OUT_COUNT (chapter 07)
  ⟨0x50384, 0x0, 1, [⟨0, 16, .ro, .none, 0⟩]⟩,
  -- PIX_ZONE_SEL (chapter 07)
  ⟨0x50388, 0x0, 1, [⟨0, 8, .rw, .i, 0⟩]⟩,
  -- PIX_ZONE_STAT (chapter 07)
  ⟨0x5038C, 0x0, 1, [⟨0, 17, .ro, .none, 0x10000⟩, ⟨17, 1, .ro, .none, 0⟩]⟩,
  -- PIX_ZONE_TEMP (chapter 07)
  ⟨0x50390, 0x0, 1, [⟨0, 16, .ro, .none, 0⟩]⟩,
  -- PIX_LANE_STATUS (chapter 07)
  ⟨0x50394, 0x0, 1, [⟨0, 3, .ro, .none, 7⟩, ⟨3, 5, .ro, .none, 0⟩, ⟨8, 1, .ro, .none, 0⟩]⟩,
  -- PIX_SIGREG_A_r (chapter 07)
  ⟨0x50400, 0x8, 32, [⟨0, 1, .rw, .l, 0⟩, ⟨1, 2, .rw, .l, 0⟩, ⟨4, 12, .rw, .l, 0⟩, ⟨16, 10, .rw, .l, 0⟩]⟩,
  -- PIX_SIGREG_B_r (chapter 07)
  ⟨0x50404, 0x8, 32, [⟨0, 12, .rw, .l, 0⟩, ⟨16, 11, .rw, .l, 0⟩]⟩,
  -- PIX_ESIG_r (chapter 07)
  ⟨0x50500, 0x4, 32, [⟨0, 32, .ro, .none, 0⟩]⟩,
  -- PIX_ESIG_VALID (chapter 07)
  ⟨0x50580, 0x0, 1, [⟨0, 32, .ro, .none, 0⟩]⟩,
  -- PIX_SIG_ACTIVE (chapter 07)
  ⟨0x50584, 0x0, 1, [⟨0, 32, .ro, .none, 0⟩]⟩,
  -- PIX_SIG_REFUSED (chapter 07)
  ⟨0x50588, 0x0, 1, [⟨0, 32, .ro, .none, 0⟩]⟩,
  -- PIX_HLT_CTRL (chapter 10)
  ⟨0x50600, 0x0, 1, [⟨0, 1, .rw, .i, 1⟩, ⟨1, 1, .rw, .i, 1⟩, ⟨2, 1, .rw, .i, 1⟩, ⟨3, 1, .rw, .i, 0⟩, ⟨4, 1, .rw, .i, 0⟩, ⟨8, 8, .rw, .i, 0xff⟩, ⟨16, 8, .rw, .i, 8⟩, ⟨31, 1, .wo, .i, 0⟩]⟩,
  -- PIX_HLT_BAND_A (chapter 10)
  ⟨0x50604, 0x0, 1, [⟨0, 8, .rw, .i, 0x14⟩, ⟨8, 8, .rw, .i, 0x14⟩, ⟨16, 8, .rw, .i, 0x28⟩, ⟨24, 8, .rw, .i, 0x20⟩]⟩,
  -- PIX_HLT_BAND_B (chapter 10)
  ⟨0x50608, 0x0, 1, [⟨0, 8, .rw, .i, 0x10⟩, ⟨8, 8, .rw, .i, 4⟩]⟩,
  -- PIX_HLT_LIMIT (chapter 10)
  ⟨0x5060C, 0x0, 1, [⟨0, 10, .rw, .i, 0x3e8⟩, ⟨16, 10, .rw, .i, 0x40⟩]⟩,
  -- PIX_HLT_LEAK (chapter 10)
  ⟨0x50610, 0x0, 1, [⟨0, 10, .rw, .i, 0x180⟩, ⟨16, 8, .rw, .i, 0xa3⟩]⟩,
  -- PIX_HLT_MASS (chapter 10)
  ⟨0x50614, 0x0, 1, [⟨0, 16, .rw, .i, 0x400⟩]⟩,
  -- PIX_HLT_COUNT_A (chapter 10)
  ⟨0x50618, 0x0, 1, [⟨0, 16, .ro, .none, 0⟩, ⟨16, 16, .ro, .none, 0⟩]⟩,
  -- PIX_HLT_COUNT_B (chapter 10)
  ⟨0x5061C, 0x0, 1, [⟨0, 16, .ro, .none, 0⟩, ⟨16, 16, .ro, .none, 0⟩]⟩,
  -- PIX_HLT_COUNT_C (chapter 10)
  ⟨0x50620, 0x0, 1, [⟨0, 16, .ro, .none, 0⟩, ⟨16, 16, .ro, .none, 0⟩]⟩,
  -- PIX_HLT_PORT_CTRL_p (chapter 10)
  ⟨0x50700, 0x10, 24, [⟨0, 1, .rw, .i, 1⟩, ⟨1, 1, .wo, .i, 0⟩]⟩]

/-- Registers of the PIX block (R606, Tables 21-3 to 21-18 and the chapter tables), part 3. -/
def regsPixC : List RegSpec := [
  -- PIX_HLT_PORT_STAT_p (chapter 10)
  ⟨0x50704, 0x10, 24, [⟨0, 14, .ro, .none, 0⟩, ⟨14, 1, .ro, .none, 0⟩, ⟨15, 1, .ro, .none, 0⟩, ⟨16, 1, .ro, .none, 0⟩, ⟨17, 1, .ro, .none, 0⟩, ⟨18, 1, .ro, .none, 0⟩, ⟨19, 1, .ro, .none, 0⟩, ⟨20, 1, .ro, .none, 0⟩]⟩,
  -- PIX_HLT_PORT_RPT_p (chapter 10)
  ⟨0x50708, 0x10, 24, [⟨0, 16, .ro, .none, 0⟩, ⟨16, 16, .ro, .none, 0⟩]⟩,
  -- PIX_HLT_PORT_PROBE_p (chapter 10)
  ⟨0x5070C, 0x10, 24, [⟨0, 16, .ro, .none, 0⟩, ⟨16, 16, .ro, .none, 0⟩]⟩]

/-- Registers of the TILE block (R606, Tables 21-3 to 21-18 and the chapter tables), part 1. -/
def regsTileA : List RegSpec := [
  -- TILE_LANE_CTRL (chapter 08)
  ⟨0x60000, 0x800, 6, [⟨0, 1, .rw, .i, 1⟩, ⟨1, 1, .rw, .l, 0⟩, ⟨2, 1, .wo, .i, 0⟩, ⟨3, 1, .wo, .i, 0⟩]⟩,
  -- TILE_LANE_CTRL (chapter 08)
  ⟨0x63000, 0x800, 18, [⟨0, 1, .rw, .i, 0⟩, ⟨1, 1, .rw, .l, 0⟩, ⟨2, 1, .wo, .i, 0⟩, ⟨3, 1, .wo, .i, 0⟩]⟩,
  -- TILE_LANE_CFG (chapter 08)
  ⟨0x60004, 0x800, 24, [⟨0, 2, .rw, .l, 3⟩, ⟨2, 1, .rw, .l, 1⟩, ⟨3, 1, .rw, .l, 1⟩, ⟨8, 8, .rw, .l, 0xa⟩, ⟨16, 8, .rw, .l, 0x32⟩]⟩,
  -- TILE_LANE_TX (chapter 08)
  ⟨0x60008, 0x800, 24, [⟨0, 3, .rw, .l, 4⟩, ⟨4, 2, .rw, .l, 1⟩]⟩,
  -- TILE_LANE_RX (chapter 08)
  ⟨0x6000C, 0x800, 24, [⟨0, 4, .rw, .l, 4⟩]⟩,
  -- TILE_LANE_STATUS (chapter 08)
  ⟨0x60010, 0x800, 24, [⟨0, 4, .ro, .none, 0⟩, ⟨4, 2, .ro, .none, 0⟩, ⟨6, 1, .ro, .none, 0⟩, ⟨7, 1, .ro, .none, 0⟩, ⟨8, 1, .ro, .none, 0⟩, ⟨9, 1, .ro, .none, 0⟩, ⟨10, 1, .ro, .none, 0⟩, ⟨11, 1, .ro, .none, 0⟩]⟩,
  -- TILE_LANE_SYMERR (chapter 08)
  ⟨0x60014, 0x800, 24, [⟨0, 32, .ro, .none, 0⟩]⟩,
  -- TILE_LANE_EVT (chapter 08)
  ⟨0x60018, 0x800, 24, [⟨0, 8, .ro, .none, 0⟩, ⟨8, 8, .ro, .none, 0⟩, ⟨16, 8, .ro, .none, 0⟩, ⟨24, 8, .ro, .none, 0⟩]⟩,
  -- TILE_PRBS_CTRL (chapter 08)
  ⟨0x60020, 0x800, 24, [⟨0, 2, .rw, .i, 0⟩, ⟨2, 1, .rw, .i, 0⟩, ⟨3, 1, .rw, .i, 0⟩, ⟨4, 1, .rw, .i, 0⟩, ⟨8, 1, .wo, .i, 0⟩]⟩,
  -- TILE_PRBS_TIME (chapter 08)
  ⟨0x60024, 0x800, 24, [⟨0, 16, .rw, .i, 0x3e8⟩]⟩,
  -- TILE_PRBS_STAT (chapter 08)
  ⟨0x60028, 0x800, 24, [⟨0, 1, .ro, .none, 0⟩, ⟨1, 1, .ro, .none, 0⟩, ⟨2, 1, .ro, .none, 0⟩, ⟨8, 8, .ro, .none, 0⟩]⟩,
  -- TILE_PRBS_ERR_LOCAL (chapter 08)
  ⟨0x6002C, 0x800, 24, [⟨0, 32, .ro, .none, 0⟩]⟩,
  -- TILE_PRBS_BITS (chapter 08)
  ⟨0x60030, 0x800, 24, [⟨0, 32, .ro, .none, 0⟩]⟩,
  -- TILE_PRBS_ERR_REMOTE (chapter 08)
  ⟨0x60034, 0x800, 24, [⟨0, 32, .ro, .none, 0⟩]⟩,
  -- TILE_PROTO_CFG (chapter 09)
  ⟨0x60040, 0x800, 24, [⟨0, 8, .rw, .l, 0x14⟩, ⟨8, 8, .rw, .l, 0x32⟩, ⟨16, 8, .rw, .l, 0x64⟩, ⟨24, 1, .rw, .l, 1⟩, ⟨31, 1, .wo, .i, 0⟩]⟩,
  -- TILE_PROTO_STATUS (chapter 09)
  ⟨0x60044, 0x800, 24, [⟨0, 1, .ro, .none, 0⟩, ⟨1, 3, .ro, .none, 0⟩, ⟨4, 2, .ro, .none, 0⟩, ⟨6, 1, .ro, .none, 0⟩, ⟨7, 1, .ro, .none, 0⟩, ⟨8, 1, .ro, .none, 0⟩, ⟨9, 1, .ro, .none, 0⟩, ⟨10, 1, .ro, .none, 0⟩, ⟨11, 1, .ro, .none, 0⟩, ⟨16, 8, .ro, .none, 0⟩]⟩,
  -- TILE_EPOCH (chapter 09)
  ⟨0x60048, 0x800, 24, [⟨0, 16, .ro, .none, 0⟩, ⟨16, 16, .ro, .none, 0⟩]⟩,
  -- TILE_SEQ (chapter 09)
  ⟨0x6004C, 0x800, 24, [⟨0, 16, .ro, .none, 0⟩, ⟨16, 16, .ro, .none, 0⟩]⟩,
  -- TILE_CNT_DN (chapter 09)
  ⟨0x60050, 0x800, 24, [⟨0, 16, .ro, .none, 0⟩, ⟨16, 16, .ro, .none, 0⟩]⟩,
  -- TILE_CNT_UP (chapter 09)
  ⟨0x60054, 0x800, 24, [⟨0, 16, .ro, .none, 0⟩, ⟨16, 16, .ro, .none, 0⟩]⟩,
  -- TILE_CNT_MISC (chapter 09)
  ⟨0x60058, 0x800, 24, [⟨0, 16, .ro, .none, 0⟩, ⟨16, 16, .ro, .none, 0⟩]⟩,
  -- TILE_REMOTE_A (chapter 09)
  ⟨0x6005C, 0x800, 24, [⟨0, 16, .ro, .none, 0⟩, ⟨16, 16, .ro, .none, 0⟩]⟩,
  -- TILE_REMOTE_B (chapter 09)
  ⟨0x60060, 0x800, 24, [⟨0, 16, .ro, .none, 0⟩, ⟨16, 16, .ro, .none, 0⟩]⟩,
  -- TILE_REMOTE_C (chapter 09)
  ⟨0x60064, 0x800, 24, [⟨0, 16, .ro, .none, 0⟩, ⟨16, 16, .ro, .none, 0⟩]⟩]

/-- Registers of the TILE block (R606, Tables 21-3 to 21-18 and the chapter tables), part 2. -/
def regsTileB : List RegSpec := [
  -- TILE_LIMP_VER (chapter 09)
  ⟨0x60068, 0x800, 24, [⟨0, 32, .ro, .none, 0⟩]⟩,
  -- TILE_LEGACY_GEOM (chapter 09)
  ⟨0x6006C, 0x800, 24, [⟨0, 5, .rw, .l, 0x10⟩, ⟨8, 6, .rw, .l, 0x10⟩]⟩,
  -- TILE_CAP0 (chapter 09)
  ⟨0x60070, 0x800, 24, [⟨0, 32, .ro, .none, 0⟩]⟩,
  -- TILE_CAP1 (chapter 09)
  ⟨0x60074, 0x800, 24, [⟨0, 32, .ro, .none, 0⟩]⟩,
  -- TILE_CAP2 (chapter 09)
  ⟨0x60078, 0x800, 24, [⟨0, 32, .ro, .none, 0⟩]⟩,
  -- TILE_CAP3 (chapter 09)
  ⟨0x6007C, 0x800, 24, [⟨0, 32, .ro, .none, 0⟩]⟩,
  -- TILE_CAP4 (chapter 09)
  ⟨0x60080, 0x800, 24, [⟨0, 32, .ro, .none, 0⟩]⟩,
  -- TILE_CAP5 (chapter 09)
  ⟨0x60084, 0x800, 24, [⟨0, 32, .ro, .none, 0⟩]⟩,
  -- TILE_CAP6 (chapter 09)
  ⟨0x60088, 0x800, 24, [⟨0, 32, .ro, .none, 0⟩]⟩,
  -- TILE_CAP7 (chapter 09)
  ⟨0x6008C, 0x800, 24, [⟨0, 32, .ro, .none, 0⟩]⟩,
  -- TILE_CAP8 (chapter 09)
  ⟨0x60090, 0x800, 24, [⟨0, 32, .ro, .none, 0⟩]⟩,
  -- TILE_CAP9 (chapter 09)
  ⟨0x60094, 0x800, 24, [⟨0, 32, .ro, .none, 0⟩]⟩,
  -- TILE_CAP10 (chapter 09)
  ⟨0x60098, 0x800, 24, [⟨0, 32, .ro, .none, 0⟩]⟩,
  -- TILE_CAP11 (chapter 09)
  ⟨0x6009C, 0x800, 24, [⟨0, 32, .ro, .none, 0⟩]⟩,
  -- TILE_TIME_CFG (chapter 14)
  ⟨0x60100, 0x800, 24, [⟨0, 16, .rw, .l, 0⟩, ⟨16, 16, .rw, .l, 0⟩]⟩,
  -- TILE_TIME_LEG (chapter 14)
  ⟨0x60104, 0x800, 24, [⟨0, 16, .rw, .l, 0⟩, ⟨16, 8, .rw, .l, 0x64⟩]⟩,
  -- TILE_TIME_MEAS (chapter 14)
  ⟨0x60108, 0x800, 24, [⟨0, 16, .ro, .none, 0⟩, ⟨16, 16, .ro, .none, 0⟩]⟩,
  -- TILE_REFOUT (chapter 08)
  ⟨0x6C000, 0x0, 1, [⟨0, 4, .rw, .i, 0xf⟩, ⟨8, 1, .w1c, .i, 0⟩]⟩]

/-- Registers of the TWIN block (R606, Tables 21-3 to 21-18 and the chapter tables), part 1. -/
def regsTwin : List RegSpec := [
  -- TWIN_CTRL (chapter 13)
  ⟨0x70000, 0x0, 1, [⟨0, 1, .rw, .i, 0⟩, ⟨1, 1, .rw, .l, 0⟩, ⟨2, 1, .wo, .i, 0⟩, ⟨3, 1, .wo, .i, 0⟩, ⟨4, 1, .wo, .i, 0⟩]⟩,
  -- TWIN_CFG (chapter 13)
  ⟨0x70004, 0x0, 1, [⟨0, 8, .rw, .l, 0x14⟩, ⟨8, 8, .rw, .l, 0x32⟩]⟩,
  -- TWIN_STATUS (chapter 13)
  ⟨0x70008, 0x0, 1, [⟨0, 2, .ro, .none, 0⟩, ⟨2, 1, .ro, .none, 0⟩, ⟨3, 1, .ro, .none, 0⟩, ⟨4, 1, .ro, .none, 0⟩, ⟨5, 1, .ro, .none, 0⟩, ⟨6, 2, .ro, .none, 0⟩, ⟨8, 1, .ro, .none, 0⟩]⟩,
  -- TWIN_CNT_A (chapter 13)
  ⟨0x7000C, 0x0, 1, [⟨0, 16, .ro, .none, 0⟩, ⟨16, 16, .ro, .none, 0⟩]⟩,
  -- TWIN_CNT_B (chapter 13)
  ⟨0x70010, 0x0, 1, [⟨0, 16, .ro, .none, 0⟩, ⟨16, 16, .ro, .none, 0⟩]⟩,
  -- TWIN_CNT_C (chapter 13)
  ⟨0x70014, 0x0, 1, [⟨0, 16, .ro, .none, 0⟩, ⟨16, 16, .ro, .none, 0⟩]⟩,
  -- TWIN_CNT_D (chapter 13)
  ⟨0x70018, 0x0, 1, [⟨0, 16, .ro, .none, 0⟩, ⟨16, 16, .ro, .none, 0⟩]⟩,
  -- TWIN_DISAGREE_FRAME (chapter 13)
  ⟨0x7001C, 0x0, 1, [⟨0, 32, .ro, .none, 0⟩]⟩,
  -- TWIN_TAKEOVER (chapter 13)
  ⟨0x70020, 0x0, 1, [⟨0, 16, .ro, .none, 0⟩, ⟨16, 16, .ro, .none, 0⟩]⟩,
  -- TWIN_PEER_SPB (chapter 13)
  ⟨0x70024, 0x0, 1, [⟨0, 32, .ro, .none, 0⟩]⟩,
  -- TWIN_LANE_CTRL_t (chapter 08)
  ⟨0x70400, 0x100, 2, [⟨0, 1, .rw, .i, 0⟩, ⟨1, 1, .wo, .i, 0⟩, ⟨2, 1, .wo, .i, 0⟩]⟩,
  -- TWIN_LANE_CFG_t (chapter 08)
  ⟨0x70404, 0x100, 2, [⟨0, 2, .rw, .l, 3⟩, ⟨8, 8, .rw, .l, 0x32⟩]⟩,
  -- TWIN_LANE_TX_t (chapter 08)
  ⟨0x70408, 0x100, 2, [⟨0, 3, .rw, .l, 4⟩, ⟨4, 2, .rw, .l, 1⟩, ⟨8, 3, .rw, .l, 4⟩, ⟨12, 2, .rw, .l, 1⟩]⟩,
  -- TWIN_LANE_RX_t (chapter 08)
  ⟨0x7040C, 0x100, 2, [⟨0, 4, .rw, .l, 4⟩, ⟨4, 4, .rw, .l, 4⟩]⟩,
  -- TWIN_LANE_STATUS_t (chapter 08)
  ⟨0x70410, 0x100, 2, [⟨0, 4, .ro, .none, 0⟩, ⟨4, 2, .ro, .none, 0⟩, ⟨6, 1, .ro, .none, 0⟩, ⟨8, 8, .ro, .none, 0⟩]⟩,
  -- TWIN_LANE_SYMERR_t (chapter 08)
  ⟨0x70414, 0x100, 2, [⟨0, 16, .ro, .none, 0⟩, ⟨16, 16, .ro, .none, 0⟩]⟩,
  -- TWIN_LANE_EVT_t (chapter 08)
  ⟨0x70418, 0x100, 2, [⟨0, 8, .ro, .none, 0⟩, ⟨8, 8, .ro, .none, 0⟩, ⟨16, 8, .ro, .none, 0⟩, ⟨24, 8, .ro, .none, 0⟩]⟩,
  -- TWIN_PRBS_CTRL_t (chapter 08)
  ⟨0x70420, 0x100, 2, [⟨0, 2, .rw, .i, 0⟩, ⟨2, 1, .rw, .i, 0⟩, ⟨3, 1, .rw, .i, 0⟩, ⟨8, 1, .wo, .i, 0⟩]⟩,
  -- TWIN_PRBS_TIME_t (chapter 08)
  ⟨0x70424, 0x100, 2, [⟨0, 16, .rw, .i, 0x3e8⟩]⟩,
  -- TWIN_PRBS_STAT_t (chapter 08)
  ⟨0x70428, 0x100, 2, [⟨0, 1, .ro, .none, 0⟩, ⟨1, 1, .ro, .none, 0⟩, ⟨2, 1, .ro, .none, 0⟩, ⟨8, 8, .ro, .none, 0⟩]⟩,
  -- TWIN_PRBS_ERR_LOCAL_t (chapter 08)
  ⟨0x7042C, 0x100, 2, [⟨0, 32, .ro, .none, 0⟩]⟩,
  -- TWIN_PRBS_BITS_t (chapter 08)
  ⟨0x70430, 0x100, 2, [⟨0, 32, .ro, .none, 0⟩]⟩,
  -- TWIN_TIME_t (chapter 14)
  ⟨0x70440, 0x100, 2, [⟨0, 10, .rw, .l, 0⟩, ⟨10, 1, .ro, .none, 0⟩, ⟨16, 16, .ro, .none, 0⟩]⟩]

/-- Registers of the SEG block (R606, Tables 21-3 to 21-18 and the chapter tables), part 1. -/
def regsSeg : List RegSpec := [
  -- SEG_CTRL (chapter 15)
  ⟨0x80000, 0x0, 1, [⟨0, 2, .rw, .i, 0⟩, ⟨2, 1, .wo, .i, 0⟩]⟩,
  -- SEG_TICK (chapter 15)
  ⟨0x80004, 0x0, 1, [⟨0, 12, .rw, .i, 0xfa⟩]⟩,
  -- SEG_STATUS (chapter 15)
  ⟨0x80008, 0x0, 1, [⟨0, 12, .ro, .none, 0⟩, ⟨12, 12, .ro, .none, 0⟩, ⟨24, 1, .ro, .none, 0⟩, ⟨25, 1, .ro, .none, 0⟩, ⟨26, 1, .ro, .none, 0⟩, ⟨27, 1, .ro, .none, 0⟩, ⟨28, 1, .ro, .none, 0⟩, ⟨29, 1, .ro, .none, 0⟩, ⟨30, 1, .ro, .none, 0⟩]⟩,
  -- SEG_LIMIT (chapter 15)
  ⟨0x8000C, 0x0, 1, [⟨0, 12, .rw, .i, 0xbb8⟩, ⟨16, 11, .rw, .i, 0x4b0⟩]⟩,
  -- SEG_DIAG_A (chapter 15)
  ⟨0x80010, 0x0, 1, [⟨0, 16, .rw, .i, 0xc8⟩, ⟨16, 16, .rw, .i, 0x7d0⟩]⟩,
  -- SEG_DIAG_B (chapter 15)
  ⟨0x80014, 0x0, 1, [⟨0, 16, .rw, .i, 0x12c⟩, ⟨16, 4, .rw, .i, 4⟩]⟩,
  -- SEG_COUNT (chapter 15)
  ⟨0x80018, 0x0, 1, [⟨0, 16, .ro, .none, 0⟩, ⟨16, 16, .ro, .none, 0⟩]⟩,
  -- SEG_LOSS_EST (chapter 15)
  ⟨0x8001C, 0x0, 1, [⟨0, 16, .ro, .none, 0⟩, ⟨16, 16, .ro, .none, 0x8000⟩]⟩,
  -- SEG_FAULT_w (chapter 15)
  ⟨0x80030, 0x4, 6, [⟨0, 32, .ro, .none, 0⟩]⟩,
  -- SEG_CH_CLEAR_w (chapter 15)
  ⟨0x80050, 0x4, 6, [⟨0, 32, .wo, .i, 0⟩]⟩,
  -- SEG_RAIL_CFG_r (chapter 15)
  ⟨0x80080, 0x10, 4, [⟨0, 7, .rw, .l, 0⟩, ⟨7, 1, .rw, .i, 0⟩, ⟨8, 8, .rw, .l, 0xff⟩, ⟨16, 8, .rw, .i, 0x3c⟩]⟩,
  -- SEG_RAIL_LIM_r (chapter 15)
  ⟨0x80084, 0x10, 4, [⟨0, 16, .rw, .i, 0xbb8⟩, ⟨16, 16, .rw, .i, 0x2710⟩]⟩,
  -- SEG_RAIL_STAT_r (chapter 15)
  ⟨0x80088, 0x10, 4, [⟨0, 16, .ro, .none, 0⟩, ⟨16, 1, .ro, .none, 0⟩, ⟨17, 1, .ro, .none, 0⟩, ⟨18, 1, .ro, .none, 0⟩]⟩,
  -- SEG_BANK_CTRL_b (chapter 15)
  ⟨0x80100, 0x10, 12, [⟨0, 1, .rw, .i, 0⟩]⟩,
  -- SEG_BANK_CFG_b (chapter 15)
  ⟨0x80104, 0x10, 12, [⟨0, 12, .rw, .l, 1⟩, ⟨12, 9, .rw, .l, 0x100⟩, ⟨21, 1, .rw, .l, 1⟩, ⟨22, 2, .rw, .l, 0⟩, ⟨24, 1, .rw, .i, 0⟩, ⟨25, 1, .rw, .i, 0⟩]⟩,
  -- SEG_BANK_PH_b (chapter 15)
  ⟨0x80108, 0x10, 12, [⟨0, 14, .rw, .l, 0⟩, ⟨16, 9, .rw, .i, 0x190⟩]⟩,
  -- SEG_BANK_STAT_b (chapter 15)
  ⟨0x8010C, 0x10, 12, [⟨0, 8, .ro, .none, 0⟩, ⟨8, 1, .ro, .none, 0⟩, ⟨9, 1, .ro, .none, 0⟩, ⟨16, 16, .ro, .none, 0⟩]⟩,
  -- SEG_CH_c (chapter 15)
  ⟨0x80200, 0x4, 192, [⟨0, 8, .rw, .i, 0⟩, ⟨8, 1, .rw, .i, 0⟩, ⟨16, 14, .rw, .i, 0⟩]⟩]

/-- Registers of the SAFE block (R606, Tables 21-3 to 21-18 and the chapter tables), part 1. -/
def regsSafeA : List RegSpec := [
  -- SAFE_STATUS (chapter 11)
  ⟨0x90000, 0x0, 1, [⟨0, 2, .ro, .none, 0⟩, ⟨2, 1, .ro, .none, 0⟩, ⟨3, 1, .ro, .none, 0⟩, ⟨4, 1, .ro, .none, 0⟩, ⟨5, 1, .ro, .none, 0⟩]⟩,
  -- SAFE_FAULT_FIRST (chapter 11)
  ⟨0x90004, 0x0, 1, [⟨0, 8, .ro, .none, 0⟩, ⟨16, 16, .ro, .none, 0⟩]⟩,
  -- SAFE_FAULT_LAST (chapter 11)
  ⟨0x90008, 0x0, 1, [⟨0, 8, .ro, .none, 0⟩, ⟨16, 16, .ro, .none, 0⟩]⟩,
  -- SAFE_FAULT_ACT_LO (chapter 11)
  ⟨0x9000C, 0x0, 1, [⟨0, 32, .ro, .none, 0⟩]⟩,
  -- SAFE_FAULT_ACT_HI (chapter 11)
  ⟨0x90010, 0x0, 1, [⟨0, 8, .ro, .none, 0⟩]⟩,
  -- SAFE_TOT_SRC (chapter 11)
  ⟨0x90014, 0x0, 1, [⟨0, 1, .ro, .none, 0⟩, ⟨1, 1, .ro, .none, 0⟩, ⟨2, 1, .ro, .none, 0⟩, ⟨3, 1, .ro, .none, 0⟩, ⟨4, 1, .ro, .none, 0⟩, ⟨5, 1, .ro, .none, 0⟩, ⟨6, 1, .ro, .none, 0⟩, ⟨7, 1, .ro, .none, 0⟩]⟩,
  -- SAFE_TOT_PORTS (chapter 11)
  ⟨0x90018, 0x0, 1, [⟨0, 24, .ro, .none, 0⟩]⟩,
  -- SAFE_INPUTS (chapter 11)
  ⟨0x9001C, 0x0, 1, [⟨0, 4, .ro, .none, 0⟩, ⟨4, 4, .ro, .none, 0⟩]⟩,
  -- SAFE_DISC (chapter 11)
  ⟨0x90020, 0x0, 1, [⟨0, 16, .ro, .none, 0⟩, ⟨16, 16, .ro, .none, 0⟩]⟩,
  -- SAFE_TILE_HELD (chapter 11)
  ⟨0x90024, 0x0, 1, [⟨0, 24, .ro, .none, 0⟩]⟩,
  -- SAFE_TILE_RELEASE (chapter 11)
  ⟨0x90028, 0x0, 1, [⟨0, 24, .wo, .c, 0⟩]⟩,
  -- SAFE_PROFILE_n (chapter 11)
  ⟨0x90030, 0x4, 4, [⟨0, 3, .ro, .none, 0⟩, ⟨3, 1, .ro, .none, 0⟩, ⟨4, 8, .ro, .none, 0⟩]⟩,
  -- SAFE_SPILL_SEL (chapter 11)
  ⟨0x90040, 0x0, 1, [⟨0, 8, .rw, .i, 0⟩, ⟨31, 1, .wo, .i, 0⟩]⟩,
  -- SAFE_SPILL_COUNT (chapter 11)
  ⟨0x90044, 0x0, 1, [⟨0, 16, .ro, .none, 0⟩, ⟨16, 16, .ro, .none, 0⟩]⟩,
  -- SAFE_ZONE_EST (chapter 11)
  ⟨0x90048, 0x0, 1, [⟨0, 32, .ro, .none, 0⟩]⟩,
  -- SAFE_ZONE_Q (chapter 11)
  ⟨0x9004C, 0x0, 1, [⟨0, 17, .ro, .none, 0x10000⟩]⟩,
  -- SAFE_TOTAL_EST_n (chapter 11)
  ⟨0x90050, 0x4, 4, [⟨0, 32, .ro, .none, 0⟩]⟩,
  -- SAFE_TEST_STAT (chapter 11)
  ⟨0x90060, 0x0, 1, [⟨0, 10, .ro, .none, 0⟩, ⟨16, 1, .ro, .none, 0⟩]⟩,
  -- SAFE_COMM_CTRL (chapter 12)
  ⟨0x90100, 0x0, 1, [⟨0, 1, .wo, .i, 0⟩, ⟨1, 1, .wo, .i, 0⟩]⟩,
  -- SAFE_COMM_STATUS (chapter 12)
  ⟨0x90104, 0x0, 1, [⟨0, 1, .ro, .none, 0⟩, ⟨1, 1, .ro, .none, 0⟩, ⟨2, 1, .ro, .none, 0⟩, ⟨3, 1, .ro, .none, 0⟩]⟩,
  -- SAFE_COMM_CONFIRM (chapter 12)
  ⟨0x90108, 0x0, 1, [⟨0, 32, .rw, .c, 0⟩]⟩,
  -- SAFE_SPB_STAGED (chapter 12)
  ⟨0x9010C, 0x0, 1, [⟨0, 32, .ro, .none, 0⟩]⟩,
  -- SAFE_SPB_ACTIVE (chapter 12)
  ⟨0x90110, 0x0, 1, [⟨0, 32, .ro, .none, 0⟩]⟩,
  -- SAFE_SPB_INFO (chapter 12)
  ⟨0x90114, 0x0, 1, [⟨0, 2, .ro, .none, 0⟩, ⟨2, 1, .ro, .none, 0⟩, ⟨3, 1, .ro, .none, 0⟩]⟩]

/-- Registers of the SAFE block (R606, Tables 21-3 to 21-18 and the chapter tables), part 2. -/
def regsSafeB : List RegSpec := [
  -- SAFE_SPB_VERSION (chapter 12)
  ⟨0x90118, 0x0, 1, [⟨0, 32, .ro, .none, 0⟩]⟩,
  -- SAFE_SPB_SEQ (chapter 12)
  ⟨0x9011C, 0x0, 1, [⟨0, 32, .ro, .none, 0⟩]⟩]

/-- Registers of the THERM block (R606, Tables 21-3 to 21-18 and the chapter tables), part 1. -/
def regsTherm : List RegSpec := [
  -- THERM_CTRL (chapter 18)
  ⟨0xA0000, 0x0, 1, [⟨0, 3, .rw, .i, 0⟩, ⟨3, 1, .wo, .i, 0⟩, ⟨4, 1, .wo, .i, 0⟩]⟩,
  -- THERM_STATUS (chapter 18)
  ⟨0xA0004, 0x0, 1, [⟨0, 3, .ro, .none, 5⟩, ⟨3, 1, .ro, .none, 1⟩, ⟨4, 1, .ro, .none, 0⟩, ⟨5, 1, .ro, .none, 0⟩, ⟨6, 1, .ro, .none, 0⟩, ⟨7, 1, .ro, .none, 0⟩, ⟨8, 3, .ro, .none, 0⟩, ⟨11, 1, .ro, .none, 0⟩]⟩,
  -- THERM_TEMP (chapter 18)
  ⟨0xA0008, 0x0, 1, [⟨0, 16, .ro, .none, 0⟩, ⟨16, 16, .ro, .none, 0⟩]⟩,
  -- THERM_THROT (chapter 18)
  ⟨0xA000C, 0x0, 1, [⟨0, 16, .rw, .i, 0x780⟩, ⟨16, 8, .rw, .i, 5⟩, ⟨24, 1, .rw, .c, 1⟩]⟩,
  -- THERM_PLAUS (chapter 18)
  ⟨0xA0010, 0x0, 1, [⟨0, 8, .rw, .i, 0x1e⟩, ⟨8, 8, .rw, .i, 0xf⟩]⟩,
  -- THERM_CAL_CFG (chapter 18)
  ⟨0xA0014, 0x0, 1, [⟨0, 8, .rw, .i, 0xa⟩]⟩,
  -- THERM_CAL_STAT (chapter 18)
  ⟨0xA0018, 0x0, 1, [⟨0, 16, .ro, .none, 0⟩, ⟨16, 8, .ro, .none, 0⟩, ⟨24, 8, .ro, .none, 0⟩]⟩,
  -- THERM_COUNT (chapter 18)
  ⟨0xA001C, 0x0, 1, [⟨0, 16, .ro, .none, 0⟩, ⟨16, 16, .ro, .none, 0⟩]⟩,
  -- THERM_SCALE_n (chapter 18)
  ⟨0xA0020, 0x4, 4, [⟨0, 16, .rw, .f, 0x8000⟩]⟩,
  -- THERM_OSC (chapter 18)
  ⟨0xA0030, 0x0, 1, [⟨0, 16, .ro, .none, 0⟩, ⟨16, 16, .ro, .none, 0⟩]⟩,
  -- THERM_RCH_CFG_i (chapter 18)
  ⟨0xA0040, 0x10, 4, [⟨0, 1, .rw, .i, 0⟩, ⟨1, 1, .rw, .l, 0⟩, ⟨2, 1, .rw, .i, 0⟩, ⟨3, 1, .rw, .l, 0⟩]⟩,
  -- THERM_RCH_PAR_i (chapter 18)
  ⟨0xA0044, 0x10, 4, [⟨0, 16, .rw, .l, 0x4083⟩, ⟨16, 16, .rw, .l, 0x3e8⟩]⟩,
  -- THERM_RCH_T_i (chapter 18)
  ⟨0xA0048, 0x10, 4, [⟨0, 16, .ro, .none, 0⟩, ⟨16, 1, .ro, .none, 0⟩, ⟨17, 1, .ro, .none, 0⟩, ⟨18, 1, .ro, .none, 0⟩]⟩]

/-- Registers of the TEST block (R606, Tables 21-3 to 21-18 and the chapter tables), part 1. -/
def regsTest : List RegSpec := [
  -- TEST_STATUS (chapter 19)
  ⟨0xB0000, 0x0, 1, [⟨0, 1, .ro, .none, 0⟩, ⟨1, 1, .ro, .none, 0⟩, ⟨2, 1, .ro, .none, 0⟩, ⟨3, 1, .ro, .none, 0⟩]⟩,
  -- TEST_POST (chapter 19)
  ⟨0xB0004, 0x0, 1, [⟨0, 16, .ro, .none, 0⟩, ⟨16, 8, .ro, .none, 0⟩]⟩,
  -- TEST_SWEEP (chapter 19)
  ⟨0xB0008, 0x0, 1, [⟨0, 12, .ro, .none, 0⟩, ⟨16, 16, .ro, .none, 0⟩]⟩,
  -- TEST_CNT_A (chapter 19)
  ⟨0xB000C, 0x0, 1, [⟨0, 16, .ro, .none, 0⟩, ⟨16, 16, .ro, .none, 0⟩]⟩,
  -- TEST_CNT_B (chapter 19)
  ⟨0xB0010, 0x0, 1, [⟨0, 16, .ro, .none, 0⟩, ⟨16, 16, .ro, .none, 0⟩]⟩,
  -- TEST_SPARES (chapter 19)
  ⟨0xB0014, 0x0, 1, [⟨0, 8, .ro, .none, 0⟩, ⟨8, 8, .ro, .none, 0⟩]⟩,
  -- TEST_ANA (chapter 19)
  ⟨0xB0018, 0x0, 1, [⟨0, 1, .w1c, .i, 0⟩, ⟨1, 1, .w1c, .i, 0⟩, ⟨2, 1, .w1c, .i, 0⟩]⟩,
  -- TEST_LOOP_FAIL (chapter 19)
  ⟨0xB001C, 0x0, 1, [⟨0, 24, .ro, .none, 0⟩]⟩,
  -- TEST_LANE_CNT (chapter 19)
  ⟨0xB0020, 0x0, 1, [⟨0, 16, .ro, .none, 0⟩, ⟨16, 16, .ro, .none, 0⟩]⟩,
  -- TEST_CTRL (chapter 19)
  ⟨0xB0024, 0x0, 1, [⟨0, 1, .wo, .i, 0⟩]⟩,
  -- TEST_ENG_CTRL (chapter 19)
  ⟨0xB0040, 0x0, 1, [⟨0, 8, .rw, .i, 0⟩, ⟨8, 1, .wo, .i, 0⟩, ⟨9, 2, .rw, .i, 0⟩]⟩,
  -- TEST_ENG_SEED (chapter 19)
  ⟨0xB0044, 0x0, 1, [⟨0, 32, .rw, .i, 0xffffffff⟩]⟩,
  -- TEST_ENG_LEN (chapter 19)
  ⟨0xB0048, 0x0, 1, [⟨0, 24, .rw, .i, 0x1000⟩]⟩,
  -- TEST_ENG_RESULT (chapter 19)
  ⟨0xB004C, 0x0, 1, [⟨0, 32, .ro, .none, 0⟩]⟩,
  -- TEST_ENG_STATUS (chapter 19)
  ⟨0xB0050, 0x0, 1, [⟨0, 1, .ro, .none, 0⟩, ⟨1, 1, .ro, .none, 0⟩, ⟨2, 1, .w1c, .i, 0⟩]⟩]

/-- Registers of the MEM block (R606, Tables 21-3 to 21-18 and the chapter tables), part 1. -/
def regsMem : List RegSpec := [
  -- MEM_STATUS (chapter 19)
  ⟨0xC0000, 0x0, 1, [⟨0, 1, .ro, .none, 0⟩, ⟨1, 1, .ro, .none, 0⟩, ⟨2, 1, .ro, .none, 0⟩]⟩,
  -- MEM_SCRUB_CFG (chapter 19)
  ⟨0xC0004, 0x0, 1, [⟨0, 8, .rw, .i, 0x10⟩]⟩,
  -- MEM_SCRUB_STAT (chapter 19)
  ⟨0xC0008, 0x0, 1, [⟨0, 24, .ro, .none, 0⟩]⟩,
  -- MEM_ECC_CNT_A (chapter 19)
  ⟨0xC000C, 0x0, 1, [⟨0, 16, .ro, .none, 0⟩, ⟨16, 16, .ro, .none, 0⟩]⟩,
  -- MEM_ECC_CNT_B (chapter 19)
  ⟨0xC0010, 0x0, 1, [⟨0, 16, .ro, .none, 0⟩, ⟨16, 16, .ro, .none, 0⟩]⟩,
  -- MEM_ERR_ADDR (chapter 19)
  ⟨0xC0014, 0x0, 1, [⟨0, 30, .ro, .none, 0⟩]⟩,
  -- MEM_ERR_INFO (chapter 19)
  ⟨0xC0018, 0x0, 1, [⟨0, 4, .ro, .none, 0⟩, ⟨8, 3, .ro, .none, 0⟩]⟩,
  -- MEM_RELOAD_A (chapter 19)
  ⟨0xC001C, 0x0, 1, [⟨0, 4, .ro, .none, 0⟩, ⟨4, 4, .ro, .none, 0⟩, ⟨8, 6, .ro, .none, 0⟩]⟩,
  -- MEM_RELOAD_DEFECT (chapter 19)
  ⟨0xC0020, 0x0, 1, [⟨0, 24, .ro, .none, 0⟩]⟩,
  -- MEM_RELOAD_BASE (chapter 19)
  ⟨0xC0024, 0x0, 1, [⟨0, 24, .ro, .none, 0⟩]⟩,
  -- MEM_CTRL (chapter 19)
  ⟨0xC0028, 0x0, 1, [⟨0, 1, .wo, .i, 0⟩]⟩]

/-- Registers of the NET block (R606, Tables 21-3 to 21-18 and the chapter tables), part 1. -/
def regsNet : List RegSpec := [
  -- NET_PORT_CTRL (chapter 14)
  ⟨0xD0000, 0x100, 2, [⟨0, 1, .rw, .i, 0⟩, ⟨1, 1, .wo, .i, 0⟩]⟩,
  -- NET_PORT_CFG (chapter 14)
  ⟨0xD0004, 0x100, 2, [⟨0, 4, .rw, .l, 3⟩, ⟨4, 4, .rw, .l, 3⟩, ⟨8, 8, .rw, .l, 0⟩]⟩,
  -- NET_PORT_LAT (chapter 14)
  ⟨0xD0008, 0x100, 2, [⟨0, 16, .rw, .l, 0⟩, ⟨16, 16, .rw, .l, 0⟩]⟩,
  -- NET_PORT_ASYM (chapter 14)
  ⟨0xD000C, 0x100, 2, [⟨0, 16, .rw, .l, 0⟩]⟩,
  -- NET_PORT_STATUS (chapter 14)
  ⟨0xD0010, 0x100, 2, [⟨0, 2, .ro, .none, 0⟩, ⟨2, 1, .ro, .none, 0⟩, ⟨3, 1, .ro, .none, 0⟩, ⟨4, 2, .ro, .none, 0⟩]⟩,
  -- NET_PORT_PDELAY (chapter 14)
  ⟨0xD0014, 0x100, 2, [⟨0, 32, .ro, .none, 0⟩]⟩,
  -- NET_PORT_CNT (chapter 14)
  ⟨0xD0018, 0x100, 2, [⟨0, 16, .ro, .none, 0⟩, ⟨16, 16, .ro, .none, 0⟩]⟩,
  -- NET_OFFSET (chapter 14)
  ⟨0xD0200, 0x0, 1, [⟨0, 32, .ro, .none, 0⟩]⟩,
  -- NET_GM_ID_LO (chapter 14)
  ⟨0xD0204, 0x0, 1, [⟨0, 32, .ro, .none, 0⟩]⟩,
  -- NET_GM_ID_HI (chapter 14)
  ⟨0xD0208, 0x0, 1, [⟨0, 32, .ro, .none, 0⟩]⟩]

/-- Registers of the BOOT block (R606, Tables 21-3 to 21-18 and the chapter tables), part 1. -/
def regsBoot : List RegSpec := [
  -- BOOT_STATUS (chapter 20)
  ⟨0xE0000, 0x0, 1, [⟨0, 3, .ro, .none, 0⟩, ⟨3, 1, .ro, .none, 0⟩, ⟨4, 1, .ro, .none, 0⟩, ⟨5, 1, .ro, .none, 0⟩, ⟨6, 1, .ro, .none, 0⟩, ⟨7, 1, .ro, .none, 0⟩, ⟨8, 1, .ro, .none, 0⟩, ⟨9, 1, .ro, .none, 0⟩, ⟨10, 1, .ro, .none, 0⟩, ⟨16, 7, .ro, .none, 0⟩]⟩,
  -- BOOT_FW_VER_A (chapter 20)
  ⟨0xE0004, 0x0, 1, [⟨0, 32, .ro, .none, 0⟩]⟩,
  -- BOOT_FW_VER_B (chapter 20)
  ⟨0xE0008, 0x0, 1, [⟨0, 32, .ro, .none, 0⟩]⟩,
  -- BOOT_FW_SEC (chapter 20)
  ⟨0xE000C, 0x0, 1, [⟨0, 8, .ro, .none, 0⟩, ⟨8, 8, .ro, .none, 0⟩, ⟨16, 1, .ro, .none, 0⟩, ⟨17, 1, .ro, .none, 0⟩]⟩,
  -- BOOT_LC_CTRL (chapter 20)
  ⟨0xE0010, 0x0, 1, [⟨0, 1, .wo, .i, 0⟩, ⟨1, 1, .wo, .c, 0⟩, ⟨2, 1, .wo, .c, 0⟩, ⟨3, 1, .wo, .i, 0⟩, ⟨4, 1, .wo, .i, 0⟩, ⟨5, 1, .wo, .i, 0⟩, ⟨6, 1, .wo, .i, 0⟩]⟩,
  -- BOOT_LC_STATUS (chapter 20)
  ⟨0xE0014, 0x0, 1, [⟨0, 1, .ro, .none, 0⟩, ⟨1, 1, .w1c, .i, 0⟩, ⟨2, 2, .ro, .none, 0⟩, ⟨4, 1, .ro, .none, 0⟩, ⟨16, 16, .ro, .none, 0⟩]⟩,
  -- BOOT_LC_PERMS (chapter 20)
  ⟨0xE0018, 0x0, 1, [⟨0, 3, .ro, .none, 0⟩]⟩,
  -- BOOT_DEV_ID_w (chapter 20)
  ⟨0xE0020, 0x4, 4, [⟨0, 32, .ro, .none, 0⟩]⟩,
  -- BOOT_LC_CHAL_w (chapter 20)
  ⟨0xE0040, 0x4, 8, [⟨0, 32, .ro, .none, 0⟩]⟩,
  -- BOOT_LC_RESP_w (chapter 20)
  ⟨0xE0080, 0x4, 33, [⟨0, 32, .wo, .i, 0⟩]⟩,
  -- BOOT_SVCKEY_w (chapter 20)
  ⟨0xE0120, 0x4, 8, [⟨0, 32, .rw, .c, 0⟩]⟩]

/-- Every register of BAR 0 (R606); the MSI-X table and PBA are held apart. -/
def regTable : List RegSpec :=
  regsGlobal ++ regsHost ++ regsPwrA ++ regsPwrB ++ regsTime ++ regsTg ++ regsPixA ++ regsPixB ++
  regsPixC ++ regsTileA ++ regsTileB ++ regsTwin ++ regsSeg ++ regsSafeA ++ regsSafeB ++ regsTherm ++
  regsTest ++ regsMem ++ regsNet ++ regsBoot

/-- The reset word of a register: its fields' reset values at their places. -/
def RegSpec.resetWord (r : RegSpec) : Nat :=
  r.fields.foldl (fun acc f => acc + f.reset % 2 ^ f.width * 2 ^ f.lo) 0

/-- Whether offset `a` is one of the registers of `r`. -/
def RegSpec.holds (r : RegSpec) (a : Nat) : Bool :=
  decide (r.base ≤ a) && (a == r.base || (r.stride != 0 && (a - r.base) % r.stride == 0
    && decide ((a - r.base) / r.stride < r.count)))

/-- The register that offset `a` names, or none: such an offset is reserved (R604). -/
def findReg (a : Nat) : Option RegSpec := regTable.find? (fun r => r.holds a)

/-- The nonzero reset words of one row of the table, with their offsets. -/
def RegSpec.resets (r : RegSpec) : List (Nat × Word) :=
  if r.resetWord = 0 then [] else (List.range r.count).map fun k => (r.base + k * r.stride, BitVec.ofNat 32 r.resetWord)

/-! ## Field handles, named as the spec names the fields -/

namespace R

def GLOBAL_ID_DEVICE : Fld := ⟨0x0, 0, 16⟩
def GLOBAL_ID_VENDOR : Fld := ⟨0x0, 16, 16⟩
def GLOBAL_REV_REV : Fld := ⟨0x4, 0, 8⟩
def GLOBAL_REV_REV_A : Fld := ⟨0x4, 8, 8⟩
def GLOBAL_FW_VERSION : Fld := ⟨0x8, 0, 32⟩
def GLOBAL_CAPS_TILE_PORTS : Fld := ⟨0xC, 0, 8⟩
def GLOBAL_CAPS_SEG_CH : Fld := ⟨0xC, 8, 8⟩
def GLOBAL_CAPS_SURFACES : Fld := ⟨0xC, 16, 4⟩
def GLOBAL_CAPS_MEM_GIB : Fld := ⟨0xC, 20, 4⟩
def GLOBAL_SCRATCH_VALUE : Fld := ⟨0x10, 0, 32⟩
def GLOBAL_WREF_ADDR_ADDR : Fld := ⟨0x20, 0, 20⟩
def GLOBAL_WREF_INFO_CLASS : Fld := ⟨0x24, 0, 1⟩
def GLOBAL_WREF_INFO_EVT_EN : Fld := ⟨0x24, 1, 1⟩
def GLOBAL_WREF_INFO_CLR_CNT : Fld := ⟨0x24, 2, 1⟩
def GLOBAL_WREF_INFO_COUNT : Fld := ⟨0x24, 16, 16⟩
def GLOBAL_WREF_VALUE_VALUE : Fld := ⟨0x28, 0, 32⟩
def HOST_STATUS_LINK_UP : Fld := ⟨0x10000, 0, 1⟩
def HOST_STATUS_SPEED : Fld := ⟨0x10000, 1, 3⟩
def HOST_STATUS_WIDTH : Fld := ⟨0x10000, 4, 3⟩
def HOST_STATUS_D3 : Fld := ⟨0x10000, 7, 1⟩
def HOST_STATUS_CPL_STALL : Fld := ⟨0x10000, 8, 1⟩
def HOST_STATUS_SILENCE_LIMP : Fld := ⟨0x10000, 9, 1⟩
def HOST_SILENCE_FRAMES : Fld := ⟨0x10004, 0, 16⟩
def HOST_SILENCE_SURF : Fld := ⟨0x10004, 16, 2⟩
def HOST_SILENCE_CNT_COUNT : Fld := ⟨0x10008, 0, 16⟩
def HOST_EVT_LOST_EVT : Fld := ⟨0x1000C, 0, 16⟩
def HOST_EVT_LOST_HLT : Fld := ⟨0x1000C, 16, 16⟩
def HOST_RESET_CNT_FLR : Fld := ⟨0x10010, 0, 8⟩
def HOST_RESET_CNT_LINK_LOSS : Fld := ⟨0x10010, 8, 8⟩
def HOST_RESET_CNT_TIMED_CANCELLED : Fld := ⟨0x10010, 16, 16⟩
def HOST_OFFACC_ADDR_ADDR : Fld := ⟨0x10020, 0, 20⟩
def HOST_OFFACC_INFO_WRITE : Fld := ⟨0x10024, 0, 1⟩
def HOST_OFFACC_INFO_DOMAIN : Fld := ⟨0x10024, 1, 4⟩
def HOST_OFFACC_INFO_EVT_EN : Fld := ⟨0x10024, 5, 1⟩
def HOST_OFFACC_INFO_CLR_CNT : Fld := ⟨0x10024, 6, 1⟩
def HOST_OFFACC_INFO_COUNT : Fld := ⟨0x10024, 16, 16⟩
def HOST_RING_BASE_LO_ADDR_LO (n : Nat) : Fld := ⟨0x10100 + n * 0x40, 12, 20⟩
def HOST_RING_BASE_HI_ADDR_HI (n : Nat) : Fld := ⟨0x10104 + n * 0x40, 0, 32⟩
def HOST_RING_CFG_SIZE_LOG2 (n : Nat) : Fld := ⟨0x10108 + n * 0x40, 0, 4⟩
def HOST_RING_CFG_HALT_ON_REJECT (n : Nat) : Fld := ⟨0x10108 + n * 0x40, 4, 1⟩
def HOST_RING_CFG_VECTOR (n : Nat) : Fld := ⟨0x10108 + n * 0x40, 8, 4⟩
def HOST_RING_CFG_COAL_COUNT (n : Nat) : Fld := ⟨0x10108 + n * 0x40, 16, 8⟩
def HOST_RING_CFG_COAL_US (n : Nat) : Fld := ⟨0x10108 + n * 0x40, 24, 8⟩
def HOST_RING_CTRL_ENABLE (n : Nat) : Fld := ⟨0x1010C + n * 0x40, 0, 1⟩
def HOST_RING_CTRL_RESUME (n : Nat) : Fld := ⟨0x1010C + n * 0x40, 1, 1⟩
def HOST_RING_CTRL_SKIP (n : Nat) : Fld := ⟨0x1010C + n * 0x40, 2, 1⟩
def HOST_RING_HEAD_INDEX (n : Nat) : Fld := ⟨0x10110 + n * 0x40, 0, 12⟩
def HOST_RING_HEAD_GEN (n : Nat) : Fld := ⟨0x10110 + n * 0x40, 16, 1⟩
def HOST_RING_STATUS_RUNNING (n : Nat) : Fld := ⟨0x10114 + n * 0x40, 0, 1⟩
def HOST_RING_STATUS_HALTED (n : Nat) : Fld := ⟨0x10114 + n * 0x40, 1, 1⟩
def HOST_RING_STATUS_CFG_REFUSED (n : Nat) : Fld := ⟨0x10114 + n * 0x40, 2, 1⟩
def HOST_RING_COUNT_DESC_REJECT (n : Nat) : Fld := ⟨0x10118 + n * 0x40, 0, 16⟩
def HOST_RING_COUNT_DOORBELL_INVALID (n : Nat) : Fld := ⟨0x10118 + n * 0x40, 16, 16⟩
def PWR_SUPPLY_CFG_VMAIN_TH : Fld := ⟨0x20000, 0, 5⟩
def PWR_SUPPLY_CFG_HYST : Fld := ⟨0x20000, 5, 3⟩
def PWR_SUPPLY_CFG_RIDE_MS : Fld := ⟨0x20000, 8, 8⟩
def PWR_SUPPLY_CFG_RETURN_MS : Fld := ⟨0x20000, 16, 8⟩
def PWR_SUPPLY_STATUS_ON_BKUP : Fld := ⟨0x20004, 0, 1⟩
def PWR_SUPPLY_STATUS_MAIN_OK : Fld := ⟨0x20004, 1, 1⟩
def PWR_SUPPLY_STATUS_BKUP_LOW : Fld := ⟨0x20004, 2, 1⟩
def PWR_SUPPLY_STATUS_RIDING : Fld := ⟨0x20004, 3, 1⟩
def PWR_SUPPLY_STATUS_MAIN_LOST : Fld := ⟨0x20004, 4, 1⟩
def PWR_SUPPLY_STATUS_LIMP_SUPPLY : Fld := ⟨0x20004, 5, 1⟩
def PWR_VIN_MAIN_MV : Fld := ⟨0x20008, 0, 16⟩
def PWR_VIN_BKUP_MV : Fld := ⟨0x20008, 16, 16⟩
def PWR_COUNT_SWITCHOVERS : Fld := ⟨0x2000C, 0, 16⟩
def PWR_COUNT_RIDE_FAILS : Fld := ⟨0x2000C, 16, 16⟩
def PWR_CTRL_CLR_CNT : Fld := ⟨0x20010, 0, 1⟩
def PWR_DOM_REQ_TLB_OFF : Fld := ⟨0x20020, 0, 1⟩
def PWR_DOM_REQ_TWIN_OFF : Fld := ⟨0x20020, 1, 1⟩
def PWR_DOM_REQ_NET_OFF : Fld := ⟨0x20020, 2, 1⟩
def PWR_DOM_STATUS_ON : Fld := ⟨0x20024, 0, 12⟩
def PWR_DOM_STATUS_MEM_RET : Fld := ⟨0x20024, 12, 1⟩
def PWR_DOM_STATUS_TLA_LIMP : Fld := ⟨0x20024, 13, 1⟩
def PWR_DOM_STATUS_REFUSED : Fld := ⟨0x20024, 14, 1⟩
def PWR_RAIL_CFG_ADDR (n : Nat) : Fld := ⟨0x20040 + n * 0x10, 0, 7⟩
def PWR_RAIL_CFG_PMB (n : Nat) : Fld := ⟨0x20040 + n * 0x10, 7, 1⟩
def PWR_RAIL_CFG_PAGE (n : Nat) : Fld := ⟨0x20040 + n * 0x10, 8, 8⟩
def PWR_RAIL_CFG_PG_MS (n : Nat) : Fld := ⟨0x20040 + n * 0x10, 16, 8⟩
def PWR_RAIL_VOUT_VOUT_MV (n : Nat) : Fld := ⟨0x20044 + n * 0x10, 0, 16⟩
def PWR_RAIL_VOUT_READ_MV (n : Nat) : Fld := ⟨0x20044 + n * 0x10, 16, 16⟩
def PWR_RAIL_STAT_EN (n : Nat) : Fld := ⟨0x20048 + n * 0x10, 0, 1⟩
def PWR_RAIL_STAT_PG (n : Nat) : Fld := ⟨0x20048 + n * 0x10, 1, 1⟩
def PWR_RAIL_STAT_ERR (n : Nat) : Fld := ⟨0x20048 + n * 0x10, 2, 1⟩
def PWR_RAIL_STAT_FAILS (n : Nat) : Fld := ⟨0x20048 + n * 0x10, 8, 8⟩
def PWR_RAIL_STAT_STATUS_WORD (n : Nat) : Fld := ⟨0x20048 + n * 0x10, 16, 16⟩
def PWR_MODE_MODE : Fld := ⟨0x20100, 0, 3⟩
def PWR_MODE_TARGET : Fld := ⟨0x20100, 3, 3⟩
def PWR_MODE_BUSY : Fld := ⟨0x20100, 6, 1⟩
def PWR_MODE_PARK_SKIPPED : Fld := ⟨0x20100, 8, 8⟩
def PWR_MODE_CAUSE : Fld := ⟨0x20100, 16, 16⟩
def PWR_MODE_CFG_IDLE_S : Fld := ⟨0x20104, 0, 16⟩
def PWR_MODE_CFG_LREQ_OFF_100MS : Fld := ⟨0x20104, 16, 8⟩
def PWR_MODE_CFG_LREQ_GATE : Fld := ⟨0x20104, 24, 1⟩
def PWR_MODE_CFG_NOSURF_100MS : Fld := ⟨0x20104, 25, 7⟩
def PWR_IDLE_REMAIN_S : Fld := ⟨0x20108, 0, 16⟩
def PWR_IDLE_RUNNING : Fld := ⟨0x20108, 16, 1⟩
def PWR_TARN_CFG_WS_TH : Fld := ⟨0x20110, 0, 6⟩
def PWR_TARN_TIMER_TIMER_S : Fld := ⟨0x20114, 0, 16⟩
def PWR_TARN_TIMER_REMAIN_S : Fld := ⟨0x20114, 16, 16⟩
def PWR_TARN_IN_VALUE : Fld := ⟨0x20118, 0, 11⟩
def PWR_TARN_AIN_A_VIN_MAIN : Fld := ⟨0x2011C, 0, 16⟩
def PWR_TARN_AIN_A_VIN_BKUP : Fld := ⟨0x2011C, 16, 16⟩
def PWR_TARN_AIN_B_TEMP : Fld := ⟨0x20120, 0, 16⟩
def PWR_WAKE_CAUSE_RULES : Fld := ⟨0x20124, 0, 16⟩
def PWR_WAKE_CAUSE_HOST_WAKE : Fld := ⟨0x20124, 16, 1⟩
def PWR_WAKE_CAUSE_REPLAYED : Fld := ⟨0x20124, 17, 1⟩
def PWR_WAKE_CAUSE_POR : Fld := ⟨0x20124, 18, 1⟩
def PWR_WAKE_LATCH_RULES : Fld := ⟨0x20128, 0, 16⟩
def PWR_WAKE_LATCH_ACTION : Fld := ⟨0x20128, 16, 3⟩
def PWR_WAKE_LATCH_DISCARDED : Fld := ⟨0x20128, 19, 1⟩
def PWR_TARN_FILT_DEB (n : Nat) : Fld := ⟨0x20140 + n * 0x4, 0, 8⟩
def PWR_TARN_FILT_K (n : Nat) : Fld := ⟨0x20140 + n * 0x4, 8, 3⟩
def PWR_TARN_FILT_MEDIAN (n : Nat) : Fld := ⟨0x20140 + n * 0x4, 11, 1⟩
def PWR_RULE_CTRL_EN (n : Nat) : Fld := ⟨0x20200 + n * 0x10, 0, 1⟩
def PWR_RULE_CTRL_COMBINE (n : Nat) : Fld := ⟨0x20200 + n * 0x10, 1, 1⟩
def PWR_RULE_CTRL_ACTION (n : Nat) : Fld := ⟨0x20200 + n * 0x10, 2, 3⟩
def PWR_RULE_CTRL_HOST_WAKE (n : Nat) : Fld := ⟨0x20200 + n * 0x10, 5, 1⟩
def PWR_RULE_CTRL_MODES (n : Nat) : Fld := ⟨0x20200 + n * 0x10, 6, 6⟩
def PWR_RULE_TERM_A_INPUT (n : Nat) : Fld := ⟨0x20204 + n * 0x10, 0, 4⟩
def PWR_RULE_TERM_A_OP (n : Nat) : Fld := ⟨0x20204 + n * 0x10, 4, 3⟩
def PWR_RULE_TERM_A_THRESH (n : Nat) : Fld := ⟨0x20204 + n * 0x10, 16, 16⟩
def PWR_RULE_TERM_B_INPUT (n : Nat) : Fld := ⟨0x20208 + n * 0x10, 0, 4⟩
def PWR_RULE_TERM_B_OP (n : Nat) : Fld := ⟨0x20208 + n * 0x10, 4, 3⟩
def PWR_RULE_TERM_B_THRESH (n : Nat) : Fld := ⟨0x20208 + n * 0x10, 16, 16⟩
def PWR_RULE_COUNT_COUNT (n : Nat) : Fld := ⟨0x2020C + n * 0x10, 0, 16⟩
def PWR_RESET_CAUSE : Fld := ⟨0x20300, 0, 4⟩
def PWR_RESET_STUCK_RESET : Fld := ⟨0x20300, 4, 1⟩
def PWR_RESET_POST_SAFE_FAIL : Fld := ⟨0x20300, 5, 1⟩
def PWR_RESET_BOOT_FAIL : Fld := ⟨0x20300, 6, 1⟩
def PWR_RESET_LC_FAILS : Fld := ⟨0x20300, 8, 8⟩
def PWR_RESET_STUCK_MS : Fld := ⟨0x20300, 16, 16⟩
def TIME_STATUS_STATE : Fld := ⟨0x30000, 0, 2⟩
def TIME_STATUS_RESTORED : Fld := ⟨0x30000, 2, 1⟩
def TIME_STATUS_SOURCE_CHANGED : Fld := ⟨0x30000, 3, 1⟩
def TIME_STATUS_SLEWING : Fld := ⟨0x30000, 4, 1⟩
def TIME_STATUS_XTAL : Fld := ⟨0x30000, 5, 1⟩
def TIME_NOW_NS_NS : Fld := ⟨0x30004, 0, 30⟩
def TIME_NOW_SL_SEC : Fld := ⟨0x30008, 0, 32⟩
def TIME_NOW_SH_SEC : Fld := ⟨0x3000C, 0, 16⟩
def TIME_NOW_FRAC_FRAC : Fld := ⟨0x30010, 0, 32⟩
def TIME_INC_LO_FRAC : Fld := ⟨0x30014, 0, 32⟩
def TIME_INC_HI_NS : Fld := ⟨0x30018, 0, 8⟩
def TIME_UNC_LO_UNC : Fld := ⟨0x3001C, 0, 32⟩
def TIME_UNC_HI_UNC : Fld := ⟨0x30020, 0, 32⟩
def TIME_CFG_SYNC_NS : Fld := ⟨0x30024, 0, 16⟩
def TIME_CFG_SLEW_PPM : Fld := ⟨0x30024, 16, 10⟩
def TIME_HOLD_HOLDOVER_PPB : Fld := ⟨0x30028, 0, 16⟩
def TIME_HOLD_XTAL_PPM : Fld := ⟨0x30028, 16, 8⟩
def TIME_HOLD_STEP_LIMIT_MS : Fld := ⟨0x30028, 24, 8⟩
def TIME_EPH_CFG_UNSYNC_NS : Fld := ⟨0x3002C, 0, 32⟩
def TIME_CNT_STEPS : Fld := ⟨0x30030, 0, 16⟩
def TIME_CNT_GM_CHANGES : Fld := ⟨0x30030, 16, 16⟩
def TIME_CTRL_CLR_CNT : Fld := ⟨0x30034, 0, 1⟩
def TIME_EPH_QUEUED (n : Nat) : Fld := ⟨0x30040 + n * 0x8, 0, 6⟩
def TIME_EPH_CNT_LATE (n : Nat) : Fld := ⟨0x30044 + n * 0x8, 0, 8⟩
def TIME_EPH_CNT_UNSYNCED (n : Nat) : Fld := ⟨0x30044 + n * 0x8, 8, 8⟩
def TIME_EPH_CNT_REFUSED (n : Nat) : Fld := ⟨0x30044 + n * 0x8, 16, 8⟩
def TIME_EPH_CNT_CANCELLED (n : Nat) : Fld := ⟨0x30044 + n * 0x8, 24, 8⟩
def TG_CTRL_ENABLE (n : Nat) : Fld := ⟨0x40000 + n * 0x100, 0, 1⟩
def TG_CTRL_CLR_CNT (n : Nat) : Fld := ⟨0x40000 + n * 0x100, 1, 1⟩
def TG_RATE_FRAME_HZ (n : Nat) : Fld := ⟨0x40004 + n * 0x100, 0, 8⟩
def TG_RATE_SCANS_LOG2 (n : Nat) : Fld := ⟨0x40004 + n * 0x100, 8, 2⟩
def TG_GUARD_G_US (n : Nat) : Fld := ⟨0x40008 + n * 0x100, 0, 7⟩
def TG_GUARD_PC_STEPS (n : Nat) : Fld := ⟨0x40008 + n * 0x100, 8, 7⟩
def TG_GUARD_STAGGER_SPAN (n : Nat) : Fld := ⟨0x40008 + n * 0x100, 16, 12⟩
def TG_LEAD_LEAD_US (n : Nat) : Fld := ⟨0x4000C + n * 0x100, 0, 16⟩
def TG_GRID_OFFSET_NS (n : Nat) : Fld := ⟨0x40010 + n * 0x100, 0, 30⟩
def TG_FRAME_FRAME_NUM (n : Nat) : Fld := ⟨0x40014 + n * 0x100, 0, 32⟩
def TG_STATUS_RUNNING (n : Nat) : Fld := ⟨0x40018 + n * 0x100, 0, 1⟩
def TG_STATUS_RETIME_ACTIVE (n : Nat) : Fld := ⟨0x40018 + n * 0x100, 1, 1⟩
def TG_STATUS_COMPOSING (n : Nat) : Fld := ⟨0x40018 + n * 0x100, 2, 1⟩
def TG_STATUS_HOLDOVER (n : Nat) : Fld := ⟨0x40018 + n * 0x100, 3, 1⟩
def TG_STATUS_CFG_ERR (n : Nat) : Fld := ⟨0x40018 + n * 0x100, 4, 4⟩
def TG_STATUS_RETIME_PENDING (n : Nat) : Fld := ⟨0x40018 + n * 0x100, 8, 1⟩
def TG_STATUS_RETIME_CANCELLED (n : Nat) : Fld := ⟨0x40018 + n * 0x100, 9, 1⟩
def TG_COUNT_COMPOSE_OVERRUN (n : Nat) : Fld := ⟨0x4001C + n * 0x100, 0, 16⟩
def TG_COUNT_COMPOSE_SKIPPED (n : Nat) : Fld := ⟨0x4001C + n * 0x100, 16, 16⟩
def TG_CANVAS_WIDTH (n : Nat) : Fld := ⟨0x40020 + n * 0x100, 0, 12⟩
def TG_CANVAS_HEIGHT (n : Nat) : Fld := ⟨0x40020 + n * 0x100, 16, 11⟩
def TG_TICKOUT_EN : Fld := ⟨0x40400, 0, 1⟩
def TG_TICKOUT_KIND : Fld := ⟨0x40400, 1, 3⟩
def TG_TICKOUT_SRC_TG : Fld := ⟨0x40400, 4, 2⟩
def TG_TICKOUT_WIDTH_US : Fld := ⟨0x40400, 8, 8⟩
def TG_PORTMAP_A_SURF (n : Nat) : Fld := ⟨0x40800 + n * 0x8, 0, 3⟩
def TG_PORTMAP_A_ROT (n : Nat) : Fld := ⟨0x40800 + n * 0x8, 4, 2⟩
def TG_PORTMAP_A_MIRROR (n : Nat) : Fld := ⟨0x40800 + n * 0x8, 6, 1⟩
def TG_PORTMAP_A_X0_8 (n : Nat) : Fld := ⟨0x40800 + n * 0x8, 8, 9⟩
def TG_PORTMAP_A_Y0_8 (n : Nat) : Fld := ⟨0x40800 + n * 0x8, 20, 7⟩
def TG_PORTMAP_B_STAGGER (n : Nat) : Fld := ⟨0x40804 + n * 0x8, 0, 12⟩
def PIX_COMP_CTRL_OCCULT_EN : Fld := ⟨0x50000, 0, 1⟩
def PIX_COMP_CTRL_CLR_CNT : Fld := ⟨0x50000, 1, 1⟩
def PIX_COMP_STATUS_BUSY : Fld := ⟨0x50004, 0, 1⟩
def PIX_COMP_STATUS_SURF : Fld := ⟨0x50004, 1, 2⟩
def PIX_COMP_STATUS_SLOTS_USED : Fld := ⟨0x50004, 8, 5⟩
def PIX_FILL_EN (n : Nat) : Fld := ⟨0x50010 + n * 0x10, 0, 1⟩
def PIX_FILL_SHARE (n : Nat) : Fld := ⟨0x50010 + n * 0x10, 8, 8⟩
def PIX_FILL_MAX_ADD (n : Nat) : Fld := ⟨0x50010 + n * 0x10, 16, 16⟩
def PIX_MAPSTAT_GAIN_LOADED (n : Nat) : Fld := ⟨0x50014 + n * 0x10, 0, 1⟩
def PIX_MAPSTAT_FALLBACK_LOADED (n : Nat) : Fld := ⟨0x50014 + n * 0x10, 1, 16⟩
def PIX_COMP_TIME_LAST_US (n : Nat) : Fld := ⟨0x50018 + n * 0x10, 0, 16⟩
def PIX_COMP_TIME_MAX_US (n : Nat) : Fld := ⟨0x50018 + n * 0x10, 16, 16⟩
def PIX_COMP_COUNT_NOT_READY (n : Nat) : Fld := ⟨0x5001C + n * 0x10, 0, 16⟩
def PIX_COMP_COUNT_SIG_FAIL (n : Nat) : Fld := ⟨0x5001C + n * 0x10, 16, 16⟩
def PIX_SCALER_ACTIVE_BANK (n : Nat) : Fld := ⟨0x50080 + n * 0x8, 0, 1⟩
def PIX_SCALER_ARMED (n : Nat) : Fld := ⟨0x50080 + n * 0x8, 1, 1⟩
def PIX_SCALER_IN_USE (n : Nat) : Fld := ⟨0x50080 + n * 0x8, 2, 1⟩
def PIX_SCALER_OWNER (n : Nat) : Fld := ⟨0x50080 + n * 0x8, 3, 2⟩
def PIX_CSIG_SIGNATURE (n : Nat) : Fld := ⟨0x50100 + n * 0x4, 0, 32⟩
def PIX_CSIG_VALID_VALID : Fld := ⟨0x50180, 0, 32⟩
def PIX_SHADE_CTRL_SURF_EN : Fld := ⟨0x50200, 0, 4⟩
def PIX_SHADE_CTRL_HORIZON_MS : Fld := ⟨0x50200, 8, 8⟩
def PIX_SHADE_CTRL_CLR_CNT : Fld := ⟨0x50200, 16, 1⟩
def PIX_SHADE_USED_LO_USED : Fld := ⟨0x50204, 0, 32⟩
def PIX_SHADE_USED_HI_USED : Fld := ⟨0x50208, 0, 32⟩
def PIX_SHADE_STALE_LO_STALE : Fld := ⟨0x5020C, 0, 32⟩
def PIX_SHADE_STALE_HI_STALE : Fld := ⟨0x50210, 0, 32⟩
def PIX_SHADE_STATUS_MERGED : Fld := ⟨0x50214, 0, 1⟩
def PIX_SHADE_STATUS_MERGE_SURF : Fld := ⟨0x50214, 4, 4⟩
def PIX_SHADE_COUNT_MERGES : Fld := ⟨0x50218, 0, 16⟩
def PIX_SHADE_COUNT_FUTURE_CAPTURE : Fld := ⟨0x50218, 16, 16⟩
def PIX_SHADE_AGE_LAST_US : Fld := ⟨0x5021C, 0, 16⟩
def PIX_SHADE_AGE_MAX_US : Fld := ⟨0x5021C, 16, 16⟩
def PIX_SHADE_PEEK_SEL_SLOT : Fld := ⟨0x50220, 0, 6⟩
def PIX_SHADE_PEEK_X_X : Fld := ⟨0x50224, 0, 32⟩
def PIX_SHADE_PEEK_Y_Y : Fld := ⟨0x50228, 0, 32⟩
def PIX_SHADE_PEEK_HALF_HALF_W : Fld := ⟨0x5022C, 0, 16⟩
def PIX_SHADE_PEEK_HALF_HALF_H : Fld := ⟨0x5022C, 16, 16⟩
def PIX_AIM_APPLIED_V (n : Nat) : Fld := ⟨0x50300 + n * 0x10, 0, 16⟩
def PIX_AIM_APPLIED_H (n : Nat) : Fld := ⟨0x50300 + n * 0x10, 16, 16⟩
def PIX_AIM_TARGET_V (n : Nat) : Fld := ⟨0x50304 + n * 0x10, 0, 16⟩
def PIX_AIM_TARGET_H (n : Nat) : Fld := ⟨0x50304 + n * 0x10, 16, 16⟩
def PIX_AIM_RATE_V (n : Nat) : Fld := ⟨0x50308 + n * 0x10, 0, 16⟩
def PIX_AIM_RATE_H (n : Nat) : Fld := ⟨0x50308 + n * 0x10, 16, 16⟩
def PIX_DERATE_A_START (n : Nat) : Fld := ⟨0x50340 + n * 0x8, 0, 16⟩
def PIX_DERATE_A_FLOOR (n : Nat) : Fld := ⟨0x50340 + n * 0x8, 16, 8⟩
def PIX_DERATE_A_EN (n : Nat) : Fld := ⟨0x50340 + n * 0x8, 24, 1⟩
def PIX_DERATE_B_SLOPE (n : Nat) : Fld := ⟨0x50344 + n * 0x8, 0, 16⟩
def PIX_DERATE_B_RISE (n : Nat) : Fld := ⟨0x50344 + n * 0x8, 16, 8⟩
def PIX_OUT_CTRL_DITHER_EN : Fld := ⟨0x50380, 0, 4⟩
def PIX_OUT_CTRL_CLR_CNT : Fld := ⟨0x50380, 4, 1⟩
def PIX_OUT_COUNT_TEMP_FALLBACK : Fld := ⟨0x50384, 0, 16⟩
def PIX_ZONE_SEL_ZONE : Fld := ⟨0x50388, 0, 8⟩
def PIX_ZONE_STAT_FACTOR : Fld := ⟨0x5038C, 0, 17⟩
def PIX_ZONE_STAT_FALLBACK : Fld := ⟨0x5038C, 17, 1⟩
def PIX_ZONE_TEMP_TEMP : Fld := ⟨0x50390, 0, 16⟩
def PIX_LANE_STATUS_OFFLINE : Fld := ⟨0x50394, 0, 3⟩
def PIX_LANE_STATUS_RETIRED : Fld := ⟨0x50394, 3, 5⟩
def PIX_LANE_STATUS_ROTATING : Fld := ⟨0x50394, 8, 1⟩
def PIX_SIGREG_A_EN (n : Nat) : Fld := ⟨0x50400 + n * 0x8, 0, 1⟩
def PIX_SIGREG_A_SURF (n : Nat) : Fld := ⟨0x50400 + n * 0x8, 1, 2⟩
def PIX_SIGREG_A_X0 (n : Nat) : Fld := ⟨0x50400 + n * 0x8, 4, 12⟩
def PIX_SIGREG_A_Y0 (n : Nat) : Fld := ⟨0x50400 + n * 0x8, 16, 10⟩
def PIX_SIGREG_B_W (n : Nat) : Fld := ⟨0x50404 + n * 0x8, 0, 12⟩
def PIX_SIGREG_B_H (n : Nat) : Fld := ⟨0x50404 + n * 0x8, 16, 11⟩
def PIX_ESIG_SIGNATURE (n : Nat) : Fld := ⟨0x50500 + n * 0x4, 0, 32⟩
def PIX_ESIG_VALID_VALID : Fld := ⟨0x50580, 0, 32⟩
def PIX_SIG_ACTIVE_ACTIVE : Fld := ⟨0x50584, 0, 32⟩
def PIX_SIG_REFUSED_REFUSED : Fld := ⟨0x50588, 0, 32⟩
def PIX_HLT_CTRL_EN : Fld := ⟨0x50600, 0, 1⟩
def PIX_HLT_CTRL_TRACK_EN : Fld := ⟨0x50600, 1, 1⟩
def PIX_HLT_CTRL_ISO_EN : Fld := ⟨0x50600, 2, 1⟩
def PIX_HLT_CTRL_SWEEP_RPT : Fld := ⟨0x50600, 3, 1⟩
def PIX_HLT_CTRL_THERM_RPT : Fld := ⟨0x50600, 4, 1⟩
def PIX_HLT_CTRL_TRACK_DIV : Fld := ⟨0x50600, 8, 8⟩
def PIX_HLT_CTRL_STALL_SC : Fld := ⟨0x50600, 16, 8⟩
def PIX_HLT_CTRL_CLR_CNT : Fld := ⟨0x50600, 31, 1⟩
def PIX_HLT_BAND_A_LOW_BAND : Fld := ⟨0x50604, 0, 8⟩
def PIX_HLT_BAND_A_HIGH_BAND : Fld := ⟨0x50604, 8, 8⟩
def PIX_HLT_BAND_A_THERM_BAND : Fld := ⟨0x50604, 16, 8⟩
def PIX_HLT_BAND_A_PROBE_BAND : Fld := ⟨0x50604, 24, 8⟩
def PIX_HLT_BAND_B_STUCK_BAND : Fld := ⟨0x50608, 0, 8⟩
def PIX_HLT_BAND_B_TRACK_WIN : Fld := ⟨0x50608, 8, 8⟩
def PIX_HLT_LIMIT_OPEN_MIN : Fld := ⟨0x5060C, 0, 10⟩
def PIX_HLT_LIMIT_SHORT_MAX : Fld := ⟨0x5060C, 16, 10⟩
def PIX_HLT_LEAK_LEAK_MIN : Fld := ⟨0x50610, 0, 10⟩
def PIX_HLT_LEAK_FILL_CLASSES : Fld := ⟨0x50610, 16, 8⟩
def PIX_HLT_MASS_MASS_N : Fld := ⟨0x50614, 0, 16⟩
def PIX_HLT_COUNT_A_FAULTS : Fld := ⟨0x50618, 0, 16⟩
def PIX_HLT_COUNT_A_SUSPECT_CLEARED : Fld := ⟨0x50618, 16, 16⟩
def PIX_HLT_COUNT_B_RESAMPLES : Fld := ⟨0x5061C, 0, 16⟩
def PIX_HLT_COUNT_B_DISCARDED : Fld := ⟨0x5061C, 16, 16⟩
def PIX_HLT_COUNT_C_QUEUE_DROP : Fld := ⟨0x50620, 0, 16⟩
def PIX_HLT_COUNT_C_LATE_HEALTH : Fld := ⟨0x50620, 16, 16⟩
def PIX_HLT_PORT_CTRL_MON_EN (n : Nat) : Fld := ⟨0x50700 + n * 0x10, 0, 1⟩
def PIX_HLT_PORT_CTRL_CAPTURE (n : Nat) : Fld := ⟨0x50700 + n * 0x10, 1, 1⟩
def PIX_HLT_PORT_STAT_DEFECTS (n : Nat) : Fld := ⟨0x50704 + n * 0x10, 0, 14⟩
def PIX_HLT_PORT_STAT_CAPTURING (n : Nat) : Fld := ⟨0x50704 + n * 0x10, 14, 1⟩
def PIX_HLT_PORT_STAT_BASE_LOADED (n : Nat) : Fld := ⟨0x50704 + n * 0x10, 15, 1⟩
def PIX_HLT_PORT_STAT_STALL (n : Nat) : Fld := ⟨0x50704 + n * 0x10, 16, 1⟩
def PIX_HLT_PORT_STAT_MASS (n : Nat) : Fld := ⟨0x50704 + n * 0x10, 17, 1⟩
def PIX_HLT_PORT_STAT_FULL (n : Nat) : Fld := ⟨0x50704 + n * 0x10, 18, 1⟩
def PIX_HLT_PORT_STAT_TILE_HELD (n : Nat) : Fld := ⟨0x50704 + n * 0x10, 19, 1⟩
def PIX_HLT_PORT_STAT_MONITORING (n : Nat) : Fld := ⟨0x50704 + n * 0x10, 20, 1⟩
def PIX_HLT_PORT_RPT_LAST_US (n : Nat) : Fld := ⟨0x50708 + n * 0x10, 0, 16⟩
def PIX_HLT_PORT_RPT_MAX_US (n : Nat) : Fld := ⟨0x50708 + n * 0x10, 16, 16⟩
def PIX_HLT_PORT_PROBE_PEAK_PC (n : Nat) : Fld := ⟨0x5070C + n * 0x10, 0, 16⟩
def PIX_HLT_PORT_PROBE_DEFERRED (n : Nat) : Fld := ⟨0x5070C + n * 0x10, 16, 16⟩
def TILE_LANE_CTRL_EN (n : Nat) : Fld := ⟨0x60000 + n * 0x800, 0, 1⟩
def TILE_LANE_CTRL_LEGACY (n : Nat) : Fld := ⟨0x60000 + n * 0x800, 1, 1⟩
def TILE_LANE_CTRL_RETRAIN (n : Nat) : Fld := ⟨0x60000 + n * 0x800, 2, 1⟩
def TILE_LANE_CTRL_CLR_CNT (n : Nat) : Fld := ⟨0x60000 + n * 0x800, 3, 1⟩
def TILE_LANE_CFG_DN_MAX (n : Nat) : Fld := ⟨0x60004 + n * 0x800, 0, 2⟩
def TILE_LANE_CFG_UP_MAX (n : Nat) : Fld := ⟨0x60004 + n * 0x800, 2, 1⟩
def TILE_LANE_CFG_UP_IDLE (n : Nat) : Fld := ⟨0x60004 + n * 0x800, 3, 1⟩
def TILE_LANE_CFG_EN_WAIT_MS (n : Nat) : Fld := ⟨0x60004 + n * 0x800, 8, 8⟩
def TILE_LANE_CFG_BRINGUP_MS (n : Nat) : Fld := ⟨0x60004 + n * 0x800, 16, 8⟩
def TILE_LANE_TX_SWING (n : Nat) : Fld := ⟨0x60008 + n * 0x800, 0, 3⟩
def TILE_LANE_TX_DEEMPH (n : Nat) : Fld := ⟨0x60008 + n * 0x800, 4, 2⟩
def TILE_LANE_RX_CTLE (n : Nat) : Fld := ⟨0x6000C + n * 0x800, 0, 4⟩
def TILE_LANE_STATUS_STATE (n : Nat) : Fld := ⟨0x60010 + n * 0x800, 0, 4⟩
def TILE_LANE_STATUS_DN_RATE (n : Nat) : Fld := ⟨0x60010 + n * 0x800, 4, 2⟩
def TILE_LANE_STATUS_UP_RATE (n : Nat) : Fld := ⟨0x60010 + n * 0x800, 6, 1⟩
def TILE_LANE_STATUS_RATE_LOW (n : Nat) : Fld := ⟨0x60010 + n * 0x800, 7, 1⟩
def TILE_LANE_STATUS_UP_IDLE (n : Nat) : Fld := ⟨0x60010 + n * 0x800, 8, 1⟩
def TILE_LANE_STATUS_ALERT (n : Nat) : Fld := ⟨0x60010 + n * 0x800, 9, 1⟩
def TILE_LANE_STATUS_LEGACY_REFUSED (n : Nat) : Fld := ⟨0x60010 + n * 0x800, 10, 1⟩
def TILE_LANE_STATUS_PRBS_REFUSED (n : Nat) : Fld := ⟨0x60010 + n * 0x800, 11, 1⟩
def TILE_LANE_SYMERR_COUNT (n : Nat) : Fld := ⟨0x60014 + n * 0x800, 0, 32⟩
def TILE_LANE_EVT_RETRAINS (n : Nat) : Fld := ⟨0x60018 + n * 0x800, 0, 8⟩
def TILE_LANE_EVT_TIMEOUTS (n : Nat) : Fld := ⟨0x60018 + n * 0x800, 8, 8⟩
def TILE_LANE_EVT_RATE_FAILS (n : Nat) : Fld := ⟨0x60018 + n * 0x800, 16, 8⟩
def TILE_LANE_EVT_EXIT_FAILS (n : Nat) : Fld := ⟨0x60018 + n * 0x800, 24, 8⟩
def TILE_PRBS_CTRL_PATTERN (n : Nat) : Fld := ⟨0x60020 + n * 0x800, 0, 2⟩
def TILE_PRBS_CTRL_DN (n : Nat) : Fld := ⟨0x60020 + n * 0x800, 2, 1⟩
def TILE_PRBS_CTRL_UP (n : Nat) : Fld := ⟨0x60020 + n * 0x800, 3, 1⟩
def TILE_PRBS_CTRL_LOOP (n : Nat) : Fld := ⟨0x60020 + n * 0x800, 4, 1⟩
def TILE_PRBS_CTRL_START (n : Nat) : Fld := ⟨0x60020 + n * 0x800, 8, 1⟩
def TILE_PRBS_TIME_DURATION_MS (n : Nat) : Fld := ⟨0x60024 + n * 0x800, 0, 16⟩
def TILE_PRBS_STAT_RUNNING (n : Nat) : Fld := ⟨0x60028 + n * 0x800, 0, 1⟩
def TILE_PRBS_STAT_SYNC (n : Nat) : Fld := ⟨0x60028 + n * 0x800, 1, 1⟩
def TILE_PRBS_STAT_DONE (n : Nat) : Fld := ⟨0x60028 + n * 0x800, 2, 1⟩
def TILE_PRBS_STAT_RESYNC (n : Nat) : Fld := ⟨0x60028 + n * 0x800, 8, 8⟩
def TILE_PRBS_ERR_LOCAL_COUNT (n : Nat) : Fld := ⟨0x6002C + n * 0x800, 0, 32⟩
def TILE_PRBS_BITS_COUNT (n : Nat) : Fld := ⟨0x60030 + n * 0x800, 0, 32⟩
def TILE_PRBS_ERR_REMOTE_COUNT (n : Nat) : Fld := ⟨0x60034 + n * 0x800, 0, 32⟩
def TILE_PROTO_CFG_WDT_MS (n : Nat) : Fld := ⟨0x60040 + n * 0x800, 0, 8⟩
def TILE_PROTO_CFG_PROBE_UA (n : Nat) : Fld := ⟨0x60040 + n * 0x800, 8, 8⟩
def TILE_PROTO_CFG_CLAMP_10MV (n : Nat) : Fld := ⟨0x60040 + n * 0x800, 16, 8⟩
def TILE_PROTO_CFG_CLAIM_AUTO (n : Nat) : Fld := ⟨0x60040 + n * 0x800, 24, 1⟩
def TILE_PROTO_CFG_CLR_CNT (n : Nat) : Fld := ⟨0x60040 + n * 0x800, 31, 1⟩
def TILE_PROTO_STATUS_CAP_VALID (n : Nat) : Fld := ⟨0x60044 + n * 0x800, 0, 1⟩
def TILE_PROTO_STATUS_CAP_ERR (n : Nat) : Fld := ⟨0x60044 + n * 0x800, 1, 3⟩
def TILE_PROTO_STATUS_OWNER (n : Nat) : Fld := ⟨0x60044 + n * 0x800, 4, 2⟩
def TILE_PROTO_STATUS_OWN (n : Nat) : Fld := ⟨0x60044 + n * 0x800, 6, 1⟩
def TILE_PROTO_STATUS_DARK_HOLD (n : Nat) : Fld := ⟨0x60044 + n * 0x800, 7, 1⟩
def TILE_PROTO_STATUS_LIMP_VALID (n : Nat) : Fld := ⟨0x60044 + n * 0x800, 8, 1⟩
def TILE_PROTO_STATUS_LIMP_SHOWN (n : Nat) : Fld := ⟨0x60044 + n * 0x800, 9, 1⟩
def TILE_PROTO_STATUS_TOTALITY_TX (n : Nat) : Fld := ⟨0x60044 + n * 0x800, 10, 1⟩
def TILE_PROTO_STATUS_PORT_REFUSED (n : Nat) : Fld := ⟨0x60044 + n * 0x800, 11, 1⟩
def TILE_PROTO_STATUS_ISOLATED (n : Nat) : Fld := ⟨0x60044 + n * 0x800, 16, 8⟩
def TILE_EPOCH_TILE (n : Nat) : Fld := ⟨0x60048 + n * 0x800, 0, 16⟩
def TILE_EPOCH_CLAIMED (n : Nat) : Fld := ⟨0x60048 + n * 0x800, 16, 16⟩
def TILE_SEQ_DN_NEXT (n : Nat) : Fld := ⟨0x6004C + n * 0x800, 0, 16⟩
def TILE_SEQ_UP_EXPECT (n : Nat) : Fld := ⟨0x6004C + n * 0x800, 16, 16⟩
def TILE_CNT_DN_RETX (n : Nat) : Fld := ⟨0x60050 + n * 0x800, 0, 16⟩
def TILE_CNT_DN_LINES_LOST (n : Nat) : Fld := ⟨0x60050 + n * 0x800, 16, 16⟩
def TILE_CNT_UP_UP_FAIL (n : Nat) : Fld := ⟨0x60054 + n * 0x800, 0, 16⟩
def TILE_CNT_UP_UP_GAP (n : Nat) : Fld := ⟨0x60054 + n * 0x800, 16, 16⟩
def TILE_CNT_MISC_SWAP_MISS (n : Nat) : Fld := ⟨0x60058 + n * 0x800, 0, 16⟩
def TILE_CNT_MISC_CTRL_FAIL (n : Nat) : Fld := ⟨0x60058 + n * 0x800, 16, 16⟩
def TILE_REMOTE_A_DN_FAIL (n : Nat) : Fld := ⟨0x6005C + n * 0x800, 0, 16⟩
def TILE_REMOTE_A_LINES_DARK (n : Nat) : Fld := ⟨0x6005C + n * 0x800, 16, 16⟩
def TILE_REMOTE_B_LATE (n : Nat) : Fld := ⟨0x60060 + n * 0x800, 0, 16⟩
def TILE_REMOTE_B_OWNER_REJECT (n : Nat) : Fld := ⟨0x60060 + n * 0x800, 16, 16⟩
def TILE_REMOTE_C_TEMP (n : Nat) : Fld := ⟨0x60064 + n * 0x800, 0, 16⟩
def TILE_REMOTE_C_ALERT (n : Nat) : Fld := ⟨0x60064 + n * 0x800, 16, 16⟩
def TILE_LIMP_VER_VERSION (n : Nat) : Fld := ⟨0x60068 + n * 0x800, 0, 32⟩
def TILE_LEGACY_GEOM_TW_32 (n : Nat) : Fld := ⟨0x6006C + n * 0x800, 0, 5⟩
def TILE_LEGACY_GEOM_TH_8 (n : Nat) : Fld := ⟨0x6006C + n * 0x800, 8, 6⟩
def TILE_CAP0_BYTES (n : Nat) : Fld := ⟨0x60070 + n * 0x800, 0, 32⟩
def TILE_CAP1_BYTES (n : Nat) : Fld := ⟨0x60074 + n * 0x800, 0, 32⟩
def TILE_CAP2_BYTES (n : Nat) : Fld := ⟨0x60078 + n * 0x800, 0, 32⟩
def TILE_CAP3_BYTES (n : Nat) : Fld := ⟨0x6007C + n * 0x800, 0, 32⟩
def TILE_CAP4_BYTES (n : Nat) : Fld := ⟨0x60080 + n * 0x800, 0, 32⟩
def TILE_CAP5_BYTES (n : Nat) : Fld := ⟨0x60084 + n * 0x800, 0, 32⟩
def TILE_CAP6_BYTES (n : Nat) : Fld := ⟨0x60088 + n * 0x800, 0, 32⟩
def TILE_CAP7_BYTES (n : Nat) : Fld := ⟨0x6008C + n * 0x800, 0, 32⟩
def TILE_CAP8_BYTES (n : Nat) : Fld := ⟨0x60090 + n * 0x800, 0, 32⟩
def TILE_CAP9_BYTES (n : Nat) : Fld := ⟨0x60094 + n * 0x800, 0, 32⟩
def TILE_CAP10_BYTES (n : Nat) : Fld := ⟨0x60098 + n * 0x800, 0, 32⟩
def TILE_CAP11_BYTES (n : Nat) : Fld := ⟨0x6009C + n * 0x800, 0, 32⟩
def TILE_TIME_CFG_TRIM_NS (n : Nat) : Fld := ⟨0x60100 + n * 0x800, 0, 16⟩
def TILE_TIME_CFG_ASYM_NS (n : Nat) : Fld := ⟨0x60100 + n * 0x800, 16, 16⟩
def TILE_TIME_LEG_LEG_DN_NS (n : Nat) : Fld := ⟨0x60104 + n * 0x800, 0, 16⟩
def TILE_TIME_LEG_ECHO_MS (n : Nat) : Fld := ⟨0x60104 + n * 0x800, 16, 8⟩
def TILE_TIME_MEAS_DN_NS (n : Nat) : Fld := ⟨0x60108 + n * 0x800, 0, 16⟩
def TILE_TIME_MEAS_JUMPS (n : Nat) : Fld := ⟨0x60108 + n * 0x800, 16, 16⟩
def TILE_REFOUT_EN : Fld := ⟨0x6C000, 0, 4⟩
def TILE_REFOUT_LNREF_LOST : Fld := ⟨0x6C000, 8, 1⟩
def TWIN_CTRL_EN : Fld := ⟨0x70000, 0, 1⟩
def TWIN_CTRL_UNIT : Fld := ⟨0x70000, 1, 1⟩
def TWIN_CTRL_HANDOVER : Fld := ⟨0x70000, 2, 1⟩
def TWIN_CTRL_REJOIN : Fld := ⟨0x70000, 3, 1⟩
def TWIN_CTRL_CLR_CNT : Fld := ⟨0x70000, 4, 1⟩
def TWIN_CFG_PAIR_10MS : Fld := ⟨0x70004, 0, 8⟩
def TWIN_CFG_ALIGN_MS : Fld := ⟨0x70004, 8, 8⟩
def TWIN_STATUS_ROLE : Fld := ⟨0x70008, 0, 2⟩
def TWIN_STATUS_IMPAIRED : Fld := ⟨0x70008, 2, 1⟩
def TWIN_STATUS_PAIR_REFUSED : Fld := ⟨0x70008, 3, 1⟩
def TWIN_STATUS_PEER_ALIVE : Fld := ⟨0x70008, 4, 1⟩
def TWIN_STATUS_YIELDING : Fld := ⟨0x70008, 5, 1⟩
def TWIN_STATUS_LINKS : Fld := ⟨0x70008, 6, 2⟩
def TWIN_STATUS_PEER_SILENT : Fld := ⟨0x70008, 8, 1⟩
def TWIN_CNT_A_MATCHED : Fld := ⟨0x7000C, 0, 16⟩
def TWIN_CNT_A_SKIPPED : Fld := ⟨0x7000C, 16, 16⟩
def TWIN_CNT_B_DISAGREE : Fld := ⟨0x70010, 0, 16⟩
def TWIN_CNT_B_MISSED : Fld := ⟨0x70010, 16, 16⟩
def TWIN_CNT_C_DIGEST_BAD : Fld := ⟨0x70014, 0, 16⟩
def TWIN_CNT_C_LOST : Fld := ⟨0x70014, 16, 16⟩
def TWIN_CNT_D_ORPHAN : Fld := ⟨0x70018, 0, 16⟩
def TWIN_CNT_D_HEALTH_DIFF : Fld := ⟨0x70018, 16, 16⟩
def TWIN_DISAGREE_FRAME_FRAME : Fld := ⟨0x7001C, 0, 32⟩
def TWIN_TAKEOVER_LAST_US : Fld := ⟨0x70020, 0, 16⟩
def TWIN_TAKEOVER_COUNT : Fld := ⟨0x70020, 16, 16⟩
def TWIN_PEER_SPB_VALUE : Fld := ⟨0x70024, 0, 32⟩
def TWIN_LANE_CTRL_EN (n : Nat) : Fld := ⟨0x70400 + n * 0x100, 0, 1⟩
def TWIN_LANE_CTRL_RETRAIN (n : Nat) : Fld := ⟨0x70400 + n * 0x100, 1, 1⟩
def TWIN_LANE_CTRL_CLR_CNT (n : Nat) : Fld := ⟨0x70400 + n * 0x100, 2, 1⟩
def TWIN_LANE_CFG_MAX (n : Nat) : Fld := ⟨0x70404 + n * 0x100, 0, 2⟩
def TWIN_LANE_CFG_BRINGUP_MS (n : Nat) : Fld := ⟨0x70404 + n * 0x100, 8, 8⟩
def TWIN_LANE_TX_SWING0 (n : Nat) : Fld := ⟨0x70408 + n * 0x100, 0, 3⟩
def TWIN_LANE_TX_DEEMPH0 (n : Nat) : Fld := ⟨0x70408 + n * 0x100, 4, 2⟩
def TWIN_LANE_TX_SWING1 (n : Nat) : Fld := ⟨0x70408 + n * 0x100, 8, 3⟩
def TWIN_LANE_TX_DEEMPH1 (n : Nat) : Fld := ⟨0x70408 + n * 0x100, 12, 2⟩
def TWIN_LANE_RX_CTLE0 (n : Nat) : Fld := ⟨0x7040C + n * 0x100, 0, 4⟩
def TWIN_LANE_RX_CTLE1 (n : Nat) : Fld := ⟨0x7040C + n * 0x100, 4, 4⟩
def TWIN_LANE_STATUS_STATE (n : Nat) : Fld := ⟨0x70410 + n * 0x100, 0, 4⟩
def TWIN_LANE_STATUS_RATE (n : Nat) : Fld := ⟨0x70410 + n * 0x100, 4, 2⟩
def TWIN_LANE_STATUS_DESKEWED (n : Nat) : Fld := ⟨0x70410 + n * 0x100, 6, 1⟩
def TWIN_LANE_STATUS_SKEW (n : Nat) : Fld := ⟨0x70410 + n * 0x100, 8, 8⟩
def TWIN_LANE_SYMERR_LANE0 (n : Nat) : Fld := ⟨0x70414 + n * 0x100, 0, 16⟩
def TWIN_LANE_SYMERR_LANE1 (n : Nat) : Fld := ⟨0x70414 + n * 0x100, 16, 16⟩
def TWIN_LANE_EVT_RETRAINS (n : Nat) : Fld := ⟨0x70418 + n * 0x100, 0, 8⟩
def TWIN_LANE_EVT_TIMEOUTS (n : Nat) : Fld := ⟨0x70418 + n * 0x100, 8, 8⟩
def TWIN_LANE_EVT_RATE_FAILS (n : Nat) : Fld := ⟨0x70418 + n * 0x100, 16, 8⟩
def TWIN_LANE_EVT_DESKEW_FAILS (n : Nat) : Fld := ⟨0x70418 + n * 0x100, 24, 8⟩
def TWIN_PRBS_CTRL_PATTERN (n : Nat) : Fld := ⟨0x70420 + n * 0x100, 0, 2⟩
def TWIN_PRBS_CTRL_DN (n : Nat) : Fld := ⟨0x70420 + n * 0x100, 2, 1⟩
def TWIN_PRBS_CTRL_UP (n : Nat) : Fld := ⟨0x70420 + n * 0x100, 3, 1⟩
def TWIN_PRBS_CTRL_START (n : Nat) : Fld := ⟨0x70420 + n * 0x100, 8, 1⟩
def TWIN_PRBS_TIME_DURATION_MS (n : Nat) : Fld := ⟨0x70424 + n * 0x100, 0, 16⟩
def TWIN_PRBS_STAT_RUNNING (n : Nat) : Fld := ⟨0x70428 + n * 0x100, 0, 1⟩
def TWIN_PRBS_STAT_SYNC (n : Nat) : Fld := ⟨0x70428 + n * 0x100, 1, 1⟩
def TWIN_PRBS_STAT_DONE (n : Nat) : Fld := ⟨0x70428 + n * 0x100, 2, 1⟩
def TWIN_PRBS_STAT_RESYNC (n : Nat) : Fld := ⟨0x70428 + n * 0x100, 8, 8⟩
def TWIN_PRBS_ERR_LOCAL_COUNT (n : Nat) : Fld := ⟨0x7042C + n * 0x100, 0, 32⟩
def TWIN_PRBS_BITS_COUNT (n : Nat) : Fld := ⟨0x70430 + n * 0x100, 0, 32⟩
def TWIN_TIME_DELAY_NS (n : Nat) : Fld := ⟨0x70440 + n * 0x100, 0, 10⟩
def TWIN_TIME_SKEW (n : Nat) : Fld := ⟨0x70440 + n * 0x100, 10, 1⟩
def TWIN_TIME_LAG_NS (n : Nat) : Fld := ⟨0x70440 + n * 0x100, 16, 16⟩
def SEG_CTRL_ALIGN : Fld := ⟨0x80000, 0, 2⟩
def SEG_CTRL_CLR_CNT : Fld := ⟨0x80000, 2, 1⟩
def SEG_TICK_TICK_PER : Fld := ⟨0x80004, 0, 12⟩
def SEG_STATUS_RUNNING : Fld := ⟨0x80008, 0, 12⟩
def SEG_STATUS_ARMED : Fld := ⟨0x80008, 12, 12⟩
def SEG_STATUS_FAULT : Fld := ⟨0x80008, 24, 1⟩
def SEG_STATUS_RAIL_FAULT : Fld := ⟨0x80008, 25, 1⟩
def SEG_STATUS_OFF_TOT : Fld := ⟨0x80008, 26, 1⟩
def SEG_STATUS_TICK_FREE : Fld := ⟨0x80008, 27, 1⟩
def SEG_STATUS_CLK_FREE : Fld := ⟨0x80008, 28, 1⟩
def SEG_STATUS_LOSS_LIMITED : Fld := ⟨0x80008, 29, 1⟩
def SEG_STATUS_TOTAL_LIMITED : Fld := ⟨0x80008, 30, 1⟩
def SEG_LIMIT_TOTAL_MA : Fld := ⟨0x8000C, 0, 12⟩
def SEG_LIMIT_LOSS_MW : Fld := ⟨0x8000C, 16, 11⟩
def SEG_DIAG_A_OPEN_MV : Fld := ⟨0x80010, 0, 16⟩
def SEG_DIAG_A_SHORT_DV_MV : Fld := ⟨0x80010, 16, 16⟩
def SEG_DIAG_B_NB_DV_MV : Fld := ⟨0x80014, 0, 16⟩
def SEG_DIAG_B_N_CONF : Fld := ⟨0x80014, 16, 4⟩
def SEG_COUNT_FAULTS : Fld := ⟨0x80018, 0, 16⟩
def SEG_COUNT_LIMITED : Fld := ⟨0x80018, 16, 16⟩
def SEG_LOSS_EST_MW : Fld := ⟨0x8001C, 0, 16⟩
def SEG_LOSS_EST_LS : Fld := ⟨0x8001C, 16, 16⟩
def SEG_FAULT_CH (n : Nat) : Fld := ⟨0x80030 + n * 0x4, 0, 32⟩
def SEG_CH_CLEAR_CH (n : Nat) : Fld := ⟨0x80050 + n * 0x4, 0, 32⟩
def SEG_RAIL_CFG_ADDR (n : Nat) : Fld := ⟨0x80080 + n * 0x10, 0, 7⟩
def SEG_RAIL_CFG_EN (n : Nat) : Fld := ⟨0x80080 + n * 0x10, 7, 1⟩
def SEG_RAIL_CFG_PAGE (n : Nat) : Fld := ⟨0x80080 + n * 0x10, 8, 8⟩
def SEG_RAIL_CFG_HEAD_10MV (n : Nat) : Fld := ⟨0x80080 + n * 0x10, 16, 8⟩
def SEG_RAIL_LIM_VMIN_MV (n : Nat) : Fld := ⟨0x80084 + n * 0x10, 0, 16⟩
def SEG_RAIL_LIM_VMAX_MV (n : Nat) : Fld := ⟨0x80084 + n * 0x10, 16, 16⟩
def SEG_RAIL_STAT_VOUT_MV (n : Nat) : Fld := ⟨0x80088 + n * 0x10, 0, 16⟩
def SEG_RAIL_STAT_ERR (n : Nat) : Fld := ⟨0x80088 + n * 0x10, 16, 1⟩
def SEG_RAIL_STAT_AT_MIN (n : Nat) : Fld := ⟨0x80088 + n * 0x10, 17, 1⟩
def SEG_RAIL_STAT_AT_MAX (n : Nat) : Fld := ⟨0x80088 + n * 0x10, 18, 1⟩
def SEG_BANK_CTRL_RUN (n : Nat) : Fld := ⟨0x80100 + n * 0x10, 0, 1⟩
def SEG_BANK_CFG_STEP_PER (n : Nat) : Fld := ⟨0x80104 + n * 0x10, 0, 12⟩
def SEG_BANK_CFG_LEN (n : Nat) : Fld := ⟨0x80104 + n * 0x10, 12, 9⟩
def SEG_BANK_CFG_LOOP (n : Nat) : Fld := ⟨0x80104 + n * 0x10, 21, 1⟩
def SEG_BANK_CFG_RAIL (n : Nat) : Fld := ⟨0x80104 + n * 0x10, 22, 2⟩
def SEG_BANK_CFG_SHORT_KEEP (n : Nat) : Fld := ⟨0x80104 + n * 0x10, 24, 1⟩
def SEG_BANK_CFG_LIMP_HOLD (n : Nat) : Fld := ⟨0x80104 + n * 0x10, 25, 1⟩
def SEG_BANK_PH_BANK_OFS (n : Nat) : Fld := ⟨0x80108 + n * 0x10, 0, 14⟩
def SEG_BANK_PH_BANK_MA (n : Nat) : Fld := ⟨0x80108 + n * 0x10, 16, 9⟩
def SEG_BANK_STAT_STEP (n : Nat) : Fld := ⟨0x8010C + n * 0x10, 0, 8⟩
def SEG_BANK_STAT_BUF (n : Nat) : Fld := ⟨0x8010C + n * 0x10, 8, 1⟩
def SEG_BANK_STAT_LIMITED (n : Nat) : Fld := ⟨0x8010C + n * 0x10, 9, 1⟩
def SEG_BANK_STAT_PEAK (n : Nat) : Fld := ⟨0x8010C + n * 0x10, 16, 16⟩
def SEG_CH_CUR (n : Nat) : Fld := ⟨0x80200 + n * 0x4, 0, 8⟩
def SEG_CH_EN (n : Nat) : Fld := ⟨0x80200 + n * 0x4, 8, 1⟩
def SEG_CH_LIMP_DUTY (n : Nat) : Fld := ⟨0x80200 + n * 0x4, 16, 14⟩
def SAFE_STATUS_STATE : Fld := ⟨0x90000, 0, 2⟩
def SAFE_STATUS_LIMP_PAGES : Fld := ⟨0x90000, 2, 1⟩
def SAFE_STATUS_TOTALITY : Fld := ⟨0x90000, 3, 1⟩
def SAFE_STATUS_FAULT_PINS : Fld := ⟨0x90000, 4, 1⟩
def SAFE_STATUS_LIGHT : Fld := ⟨0x90000, 5, 1⟩
def SAFE_FAULT_FIRST_CODE : Fld := ⟨0x90004, 0, 8⟩
def SAFE_FAULT_FIRST_INSTANCE : Fld := ⟨0x90004, 16, 16⟩
def SAFE_FAULT_LAST_CODE : Fld := ⟨0x90008, 0, 8⟩
def SAFE_FAULT_LAST_INSTANCE : Fld := ⟨0x90008, 16, 16⟩
def SAFE_FAULT_ACT_LO_ACTIVE : Fld := ⟨0x9000C, 0, 32⟩
def SAFE_FAULT_ACT_HI_ACTIVE : Fld := ⟨0x90010, 0, 8⟩
def SAFE_TOT_SRC_BLANK_A : Fld := ⟨0x90014, 0, 1⟩
def SAFE_TOT_SRC_BLANK_B : Fld := ⟨0x90014, 1, 1⟩
def SAFE_TOT_SRC_HOST : Fld := ⟨0x90014, 2, 1⟩
def SAFE_TOT_SRC_TWIN : Fld := ⟨0x90014, 3, 1⟩
def SAFE_TOT_SRC_SPILLWAY : Fld := ⟨0x90014, 4, 1⟩
def SAFE_TOT_SRC_SAFETY_PAIR : Fld := ⟨0x90014, 5, 1⟩
def SAFE_TOT_SRC_SUPPLY : Fld := ⟨0x90014, 6, 1⟩
def SAFE_TOT_SRC_THERMAL : Fld := ⟨0x90014, 7, 1⟩
def SAFE_TOT_PORTS_PORTS : Fld := ⟨0x90018, 0, 24⟩
def SAFE_INPUTS_RAW : Fld := ⟨0x9001C, 0, 4⟩
def SAFE_INPUTS_SAMPLED : Fld := ⟨0x9001C, 4, 4⟩
def SAFE_DISC_LREQ_CNT : Fld := ⟨0x90020, 0, 16⟩
def SAFE_DISC_BLANK_CNT : Fld := ⟨0x90020, 16, 16⟩
def SAFE_TILE_HELD_PORTS : Fld := ⟨0x90024, 0, 24⟩
def SAFE_TILE_RELEASE_PORTS : Fld := ⟨0x90028, 0, 24⟩
def SAFE_PROFILE_PROFILE (n : Nat) : Fld := ⟨0x90030 + n * 0x4, 0, 3⟩
def SAFE_PROFILE_RETURNING (n : Nat) : Fld := ⟨0x90030 + n * 0x4, 3, 1⟩
def SAFE_PROFILE_EXCESS_RUN (n : Nat) : Fld := ⟨0x90030 + n * 0x4, 4, 8⟩
def SAFE_SPILL_SEL_ZONE : Fld := ⟨0x90040, 0, 8⟩
def SAFE_SPILL_SEL_CLR_CNT : Fld := ⟨0x90040, 31, 1⟩
def SAFE_SPILL_COUNT_EXCESS : Fld := ⟨0x90044, 0, 16⟩
def SAFE_SPILL_COUNT_TEST_FAIL : Fld := ⟨0x90044, 16, 16⟩
def SAFE_ZONE_EST_EST : Fld := ⟨0x90048, 0, 32⟩
def SAFE_ZONE_Q_Q : Fld := ⟨0x9004C, 0, 17⟩
def SAFE_TOTAL_EST_EST (n : Nat) : Fld := ⟨0x90050 + n * 0x4, 0, 32⟩
def SAFE_TEST_STAT_ROW : Fld := ⟨0x90060, 0, 10⟩
def SAFE_TEST_STAT_FAIL : Fld := ⟨0x90060, 16, 1⟩
def SAFE_COMM_CTRL_OPEN : Fld := ⟨0x90100, 0, 1⟩
def SAFE_COMM_CTRL_CLOSE : Fld := ⟨0x90100, 1, 1⟩
def SAFE_COMM_STATUS_SESSION : Fld := ⟨0x90104, 0, 1⟩
def SAFE_COMM_STATUS_STAGED : Fld := ⟨0x90104, 1, 1⟩
def SAFE_COMM_STATUS_CONFIRMED : Fld := ⟨0x90104, 2, 1⟩
def SAFE_COMM_STATUS_COMMIT_BUSY : Fld := ⟨0x90104, 3, 1⟩
def SAFE_COMM_CONFIRM_VALUE : Fld := ⟨0x90108, 0, 32⟩
def SAFE_SPB_STAGED_VALUE : Fld := ⟨0x9010C, 0, 32⟩
def SAFE_SPB_ACTIVE_VALUE : Fld := ⟨0x90110, 0, 32⟩
def SAFE_SPB_INFO_SOURCE : Fld := ⟨0x90114, 0, 2⟩
def SAFE_SPB_INFO_A_BAD : Fld := ⟨0x90114, 2, 1⟩
def SAFE_SPB_INFO_B_BAD : Fld := ⟨0x90114, 3, 1⟩
def SAFE_SPB_VERSION_VERSION : Fld := ⟨0x90118, 0, 32⟩
def SAFE_SPB_SEQ_SEQ : Fld := ⟨0x9011C, 0, 32⟩
def THERM_CTRL_SRC : Fld := ⟨0xA0000, 0, 3⟩
def THERM_CTRL_CAL_RUN : Fld := ⟨0xA0000, 3, 1⟩
def THERM_CTRL_CLR_CNT : Fld := ⟨0xA0000, 4, 1⟩
def THERM_STATUS_GOV : Fld := ⟨0xA0004, 0, 3⟩
def THERM_STATUS_STARTUP : Fld := ⟨0xA0004, 3, 1⟩
def THERM_STATUS_RECOVERY : Fld := ⟨0xA0004, 4, 1⟩
def THERM_STATUS_SHUTDOWN : Fld := ⟨0xA0004, 5, 1⟩
def THERM_STATUS_CAL_BUSY : Fld := ⟨0xA0004, 6, 1⟩
def THERM_STATUS_CAL_PENDING : Fld := ⟨0xA0004, 7, 1⟩
def THERM_STATUS_STEP : Fld := ⟨0xA0004, 8, 3⟩
def THERM_STATUS_CAL_FAULT : Fld := ⟨0xA0004, 11, 1⟩
def THERM_TEMP_GOV_T : Fld := ⟨0xA0008, 0, 16⟩
def THERM_TEMP_DIE_T : Fld := ⟨0xA0008, 16, 16⟩
def THERM_THROT_THROT_TH : Fld := ⟨0xA000C, 0, 16⟩
def THERM_THROT_HYST : Fld := ⟨0xA000C, 16, 8⟩
def THERM_THROT_EN : Fld := ⟨0xA000C, 24, 1⟩
def THERM_PLAUS_DIFF_MAX : Fld := ⟨0xA0010, 0, 8⟩
def THERM_PLAUS_GUARD : Fld := ⟨0xA0010, 8, 8⟩
def THERM_CAL_CFG_DT_CAL : Fld := ⟨0xA0014, 0, 8⟩
def THERM_CAL_STAT_T_LAST : Fld := ⟨0xA0018, 0, 16⟩
def THERM_CAL_STAT_FAIL_ITEM : Fld := ⟨0xA0018, 16, 8⟩
def THERM_CAL_STAT_FAIL_RUNS : Fld := ⟨0xA0018, 24, 8⟩
def THERM_COUNT_STEPS : Fld := ⟨0xA001C, 0, 16⟩
def THERM_COUNT_CAL_RUNS : Fld := ⟨0xA001C, 16, 16⟩
def THERM_SCALE_SCALE (n : Nat) : Fld := ⟨0xA0020 + n * 0x4, 0, 16⟩
def THERM_OSC_LPO_PPM : Fld := ⟨0xA0030, 0, 16⟩
def THERM_OSC_SEG_PPM : Fld := ⟨0xA0030, 16, 16⟩
def THERM_RCH_CFG_EN (n : Nat) : Fld := ⟨0xA0040 + n * 0x10, 0, 1⟩
def THERM_RCH_CFG_KIND (n : Nat) : Fld := ⟨0xA0040 + n * 0x10, 1, 1⟩
def THERM_RCH_CFG_USE (n : Nat) : Fld := ⟨0xA0040 + n * 0x10, 2, 1⟩
def THERM_RCH_CFG_I_HIGH (n : Nat) : Fld := ⟨0xA0040 + n * 0x10, 3, 1⟩
def THERM_RCH_PAR_IDEAL_OR_B (n : Nat) : Fld := ⟨0xA0044 + n * 0x10, 0, 16⟩
def THERM_RCH_PAR_R25 (n : Nat) : Fld := ⟨0xA0044 + n * 0x10, 16, 16⟩
def THERM_RCH_T_TEMP (n : Nat) : Fld := ⟨0xA0048 + n * 0x10, 0, 16⟩
def THERM_RCH_T_VALID (n : Nat) : Fld := ⟨0xA0048 + n * 0x10, 16, 1⟩
def THERM_RCH_T_OPEN (n : Nat) : Fld := ⟨0xA0048 + n * 0x10, 17, 1⟩
def THERM_RCH_T_SHORT (n : Nat) : Fld := ⟨0xA0048 + n * 0x10, 18, 1⟩
def TEST_STATUS_POST_DONE : Fld := ⟨0xB0000, 0, 1⟩
def TEST_STATUS_POST_FAIL : Fld := ⟨0xB0000, 1, 1⟩
def TEST_STATUS_ENG_ALLOWED : Fld := ⟨0xB0000, 2, 1⟩
def TEST_STATUS_ENG_BUSY : Fld := ⟨0xB0000, 3, 1⟩
def TEST_POST_DURATION_US : Fld := ⟨0xB0004, 0, 16⟩
def TEST_POST_REPAIRS : Fld := ⟨0xB0004, 16, 8⟩
def TEST_SWEEP_SEGMENT : Fld := ⟨0xB0008, 0, 12⟩
def TEST_SWEEP_LAST_MS : Fld := ⟨0xB0008, 16, 16⟩
def TEST_CNT_A_SLICE_FAIL : Fld := ⟨0xB000C, 0, 16⟩
def TEST_CNT_A_SOFT_REPAIRS : Fld := ⟨0xB000C, 16, 16⟩
def TEST_CNT_B_SRAM_CORR : Fld := ⟨0xB0010, 0, 16⟩
def TEST_CNT_B_SRAM_UNCORR : Fld := ⟨0xB0010, 16, 16⟩
def TEST_SPARES_ROWS_LEFT : Fld := ⟨0xB0014, 0, 8⟩
def TEST_SPARES_COLS_LEFT : Fld := ⟨0xB0014, 8, 8⟩
def TEST_ANA_ADC_FAIL : Fld := ⟨0xB0018, 0, 1⟩
def TEST_ANA_LOOP_FAIL : Fld := ⟨0xB0018, 1, 1⟩
def TEST_ANA_SEG_FAIL : Fld := ⟨0xB0018, 2, 1⟩
def TEST_LOOP_FAIL_PORTS : Fld := ⟨0xB001C, 0, 24⟩
def TEST_LANE_CNT_TESTS : Fld := ⟨0xB0020, 0, 16⟩
def TEST_LANE_CNT_SKIPPED : Fld := ⟨0xB0020, 16, 16⟩
def TEST_CTRL_CLR_CNT : Fld := ⟨0xB0024, 0, 1⟩
def TEST_ENG_CTRL_UNIT : Fld := ⟨0xB0040, 0, 8⟩
def TEST_ENG_CTRL_START : Fld := ⟨0xB0040, 8, 1⟩
def TEST_ENG_CTRL_KIND : Fld := ⟨0xB0040, 9, 2⟩
def TEST_ENG_SEED_SEED : Fld := ⟨0xB0044, 0, 32⟩
def TEST_ENG_LEN_PATTERNS : Fld := ⟨0xB0048, 0, 24⟩
def TEST_ENG_RESULT_MISR : Fld := ⟨0xB004C, 0, 32⟩
def TEST_ENG_STATUS_DONE : Fld := ⟨0xB0050, 0, 1⟩
def TEST_ENG_STATUS_FAIL : Fld := ⟨0xB0050, 1, 1⟩
def TEST_ENG_STATUS_REFUSED : Fld := ⟨0xB0050, 2, 1⟩
def MEM_STATUS_READY : Fld := ⟨0xC0000, 0, 1⟩
def MEM_STATUS_RETENTION : Fld := ⟨0xC0000, 1, 1⟩
def MEM_STATUS_SCRUBBING : Fld := ⟨0xC0000, 2, 1⟩
def MEM_SCRUB_CFG_SCRUB_S : Fld := ⟨0xC0004, 0, 8⟩
def MEM_SCRUB_STAT_LINE : Fld := ⟨0xC0008, 0, 24⟩
def MEM_ECC_CNT_A_CORRECTED : Fld := ⟨0xC000C, 0, 16⟩
def MEM_ECC_CNT_A_CHECK_ONLY : Fld := ⟨0xC000C, 16, 16⟩
def MEM_ECC_CNT_B_UNCORR : Fld := ⟨0xC0010, 0, 16⟩
def MEM_ECC_CNT_B_WRITEBACKS : Fld := ⟨0xC0010, 16, 16⟩
def MEM_ERR_ADDR_ADDR : Fld := ⟨0xC0014, 0, 30⟩
def MEM_ERR_INFO_REGION : Fld := ⟨0xC0018, 0, 4⟩
def MEM_ERR_INFO_LAST_SYMS : Fld := ⟨0xC0018, 8, 3⟩
def MEM_RELOAD_A_GAIN : Fld := ⟨0xC001C, 0, 4⟩
def MEM_RELOAD_A_FALLBACK : Fld := ⟨0xC001C, 4, 4⟩
def MEM_RELOAD_A_PARK : Fld := ⟨0xC001C, 8, 6⟩
def MEM_RELOAD_DEFECT_PORTS : Fld := ⟨0xC0020, 0, 24⟩
def MEM_RELOAD_BASE_PORTS : Fld := ⟨0xC0024, 0, 24⟩
def MEM_CTRL_CLR_CNT : Fld := ⟨0xC0028, 0, 1⟩
def NET_PORT_CTRL_EN (n : Nat) : Fld := ⟨0xD0000 + n * 0x100, 0, 1⟩
def NET_PORT_CTRL_CLR_CNT (n : Nat) : Fld := ⟨0xD0000 + n * 0x100, 1, 1⟩
def NET_PORT_CFG_SYNC_TO (n : Nat) : Fld := ⟨0xD0004 + n * 0x100, 0, 4⟩
def NET_PORT_CFG_ANN_TO (n : Nat) : Fld := ⟨0xD0004 + n * 0x100, 4, 4⟩
def NET_PORT_CFG_LOG_PDELAY (n : Nat) : Fld := ⟨0xD0004 + n * 0x100, 8, 8⟩
def NET_PORT_LAT_INGRESS_NS (n : Nat) : Fld := ⟨0xD0008 + n * 0x100, 0, 16⟩
def NET_PORT_LAT_EGRESS_NS (n : Nat) : Fld := ⟨0xD0008 + n * 0x100, 16, 16⟩
def NET_PORT_ASYM_ASYM_NS (n : Nat) : Fld := ⟨0xD000C + n * 0x100, 0, 16⟩
def NET_PORT_STATUS_ROLE (n : Nat) : Fld := ⟨0xD0010 + n * 0x100, 0, 2⟩
def NET_PORT_STATUS_AS_CAPABLE (n : Nat) : Fld := ⟨0xD0010 + n * 0x100, 2, 1⟩
def NET_PORT_STATUS_LINK (n : Nat) : Fld := ⟨0xD0010 + n * 0x100, 3, 1⟩
def NET_PORT_STATUS_SPEED (n : Nat) : Fld := ⟨0xD0010 + n * 0x100, 4, 2⟩
def NET_PORT_PDELAY_NS (n : Nat) : Fld := ⟨0xD0014 + n * 0x100, 0, 32⟩
def NET_PORT_CNT_SYNC_RX (n : Nat) : Fld := ⟨0xD0018 + n * 0x100, 0, 16⟩
def NET_PORT_CNT_ERR (n : Nat) : Fld := ⟨0xD0018 + n * 0x100, 16, 16⟩
def NET_OFFSET_NS : Fld := ⟨0xD0200, 0, 32⟩
def NET_GM_ID_LO_ID : Fld := ⟨0xD0204, 0, 32⟩
def NET_GM_ID_HI_ID : Fld := ⟨0xD0208, 0, 32⟩
def BOOT_STATUS_LC : Fld := ⟨0xE0000, 0, 3⟩
def BOOT_STATUS_SVC_KEY : Fld := ⟨0xE0000, 3, 1⟩
def BOOT_STATUS_SLOT : Fld := ⟨0xE0000, 4, 1⟩
def BOOT_STATUS_FALLBACK : Fld := ⟨0xE0000, 5, 1⟩
def BOOT_STATUS_TRIAL_PENDING : Fld := ⟨0xE0000, 6, 1⟩
def BOOT_STATUS_DBG_OPEN : Fld := ⟨0xE0000, 7, 1⟩
def BOOT_STATUS_LAMP_SIDE : Fld := ⟨0xE0000, 8, 1⟩
def BOOT_STATUS_XSPI_SAFE : Fld := ⟨0xE0000, 9, 1⟩
def BOOT_STATUS_XSPI_SLOW : Fld := ⟨0xE0000, 10, 1⟩
def BOOT_STATUS_ROLLBACK : Fld := ⟨0xE0000, 16, 7⟩
def BOOT_FW_VER_A_VERSION : Fld := ⟨0xE0004, 0, 32⟩
def BOOT_FW_VER_B_VERSION : Fld := ⟨0xE0008, 0, 32⟩
def BOOT_FW_SEC_SEC_A : Fld := ⟨0xE000C, 0, 8⟩
def BOOT_FW_SEC_SEC_B : Fld := ⟨0xE000C, 8, 8⟩
def BOOT_FW_SEC_VALID_A : Fld := ⟨0xE000C, 16, 1⟩
def BOOT_FW_SEC_VALID_B : Fld := ⟨0xE000C, 17, 1⟩
def BOOT_LC_CTRL_ADVANCE : Fld := ⟨0xE0010, 0, 1⟩
def BOOT_LC_CTRL_TO_FIELD : Fld := ⟨0xE0010, 1, 1⟩
def BOOT_LC_CTRL_KEY_BURN : Fld := ⟨0xE0010, 2, 1⟩
def BOOT_LC_CTRL_CHAL_REQ : Fld := ⟨0xE0010, 3, 1⟩
def BOOT_LC_CTRL_ENTER : Fld := ⟨0xE0010, 4, 1⟩
def BOOT_LC_CTRL_LEAVE : Fld := ⟨0xE0010, 5, 1⟩
def BOOT_LC_CTRL_RETIRE : Fld := ⟨0xE0010, 6, 1⟩
def BOOT_LC_STATUS_CHAL_VALID : Fld := ⟨0xE0014, 0, 1⟩
def BOOT_LC_STATUS_REFUSED : Fld := ⟨0xE0014, 1, 1⟩
def BOOT_LC_STATUS_LAST : Fld := ⟨0xE0014, 2, 2⟩
def BOOT_LC_STATUS_LOCKED : Fld := ⟨0xE0014, 4, 1⟩
def BOOT_LC_STATUS_LOCK_S : Fld := ⟨0xE0014, 16, 16⟩
def BOOT_LC_PERMS_PERMS : Fld := ⟨0xE0018, 0, 3⟩
def BOOT_DEV_ID_ID (n : Nat) : Fld := ⟨0xE0020 + n * 0x4, 0, 32⟩
def BOOT_LC_CHAL_CHAL (n : Nat) : Fld := ⟨0xE0040 + n * 0x4, 0, 32⟩
def BOOT_LC_RESP_RESP (n : Nat) : Fld := ⟨0xE0080 + n * 0x4, 0, 32⟩
def BOOT_SVCKEY_HASH (n : Nat) : Fld := ⟨0xE0120 + n * 0x4, 0, 32⟩

end R

/-- Reset words, part 1. -/
def resetWords1 : List (Nat × Word) := [
  (0x0, 0xCA1E3024), (0xC, 0x14C018), (0x24, 0x2), (0x10004, 0x30), (0x10108, 0x4),
  (0x10110, 0x10000), (0x10148, 0x4), (0x10150, 0x10000), (0x10188, 0x14), (0x10190, 0x10000),
  (0x101C8, 0x14), (0x101D0, 0x10000), (0x10208, 0x4), (0x10210, 0x10000), (0x10248, 0x104),
  (0x10250, 0x10000), (0x10288, 0x204), (0x10290, 0x10000), (0x1800C, 0x1), (0x1801C, 0x1),
  (0x1802C, 0x1), (0x1803C, 0x1), (0x1804C, 0x1), (0x1805C, 0x1), (0x1806C, 0x1),
  (0x1807C, 0x1), (0x1808C, 0x1), (0x1809C, 0x1), (0x180AC, 0x1), (0x180BC, 0x1),
  (0x180CC, 0x1), (0x180DC, 0x1), (0x180EC, 0x1), (0x180FC, 0x1), (0x20000, 0xA148B),
  (0x20024, 0x1), (0x20040, 0x5FF00), (0x20050, 0x5FF00), (0x20060, 0x5FF00), (0x20070, 0x5FF00),
  (0x20080, 0x5FF00), (0x20100, 0x30048), (0x20104, 0xB0A012C), (0x20110, 0x10), (0x20124, 0x40000),
  (0x20140, 0xA05), (0x20144, 0xA05), (0x20148, 0xA05), (0x2014C, 0xA05), (0x20150, 0xA05),
  (0x20154, 0xA05), (0x20158, 0xA05), (0x2015C, 0xA05), (0x20160, 0xA05), (0x20164, 0xA05),
  (0x20168, 0xA05), (0x2016C, 0xA05), (0x20170, 0xA05), (0x20174, 0xA05), (0x20200, 0x269)]

/-- Reset words, part 2. -/
def resetWords2 : List (Nat × Word) := [
  (0x20204, 0x1A), (0x20210, 0x65), (0x20214, 0x34), (0x20300, 0x1F40000), (0x30018, 0x4),
  (0x3001C, 0xFFFFFFFF), (0x30020, 0xFFFFFFFF), (0x30024, 0x1F403E8), (0x30028, 0xA321388), (0x3002C, 0xC350),
  (0x40008, 0x8), (0x4000C, 0x1F4), (0x40108, 0x8), (0x4010C, 0x1F4), (0x40208, 0x8),
  (0x4020C, 0x1F4), (0x40308, 0x8), (0x4030C, 0x1F4), (0x40400, 0x100), (0x40800, 0x7),
  (0x40808, 0x7), (0x40810, 0x7), (0x40818, 0x7), (0x40820, 0x7), (0x40828, 0x7),
  (0x40830, 0x7), (0x40838, 0x7), (0x40840, 0x7), (0x40848, 0x7), (0x40850, 0x7),
  (0x40858, 0x7), (0x40860, 0x7), (0x40868, 0x7), (0x40870, 0x7), (0x40878, 0x7),
  (0x40880, 0x7), (0x40888, 0x7), (0x40890, 0x7), (0x40898, 0x7), (0x408A0, 0x7),
  (0x408A8, 0x7), (0x408B0, 0x7), (0x408B8, 0x7), (0x50000, 0x1), (0x50010, 0x20008001),
  (0x50020, 0x20008001), (0x50030, 0x20008001), (0x50040, 0x20008001), (0x50200, 0xFA0F), (0x50340, 0x1800640),
  (0x50344, 0x100040), (0x50348, 0x1800640), (0x5034C, 0x100040), (0x50350, 0x1800640), (0x50354, 0x100040),
  (0x50358, 0x1800640), (0x5035C, 0x100040), (0x50380, 0xF), (0x5038C, 0x10000), (0x50394, 0x7)]

/-- Reset words, part 3. -/
def resetWords3 : List (Nat × Word) := [
  (0x50600, 0x8FF07), (0x50604, 0x20281414), (0x50608, 0x410), (0x5060C, 0x4003E8), (0x50610, 0xA30180),
  (0x50614, 0x400), (0x50700, 0x1), (0x50710, 0x1), (0x50720, 0x1), (0x50730, 0x1),
  (0x50740, 0x1), (0x50750, 0x1), (0x50760, 0x1), (0x50770, 0x1), (0x50780, 0x1),
  (0x50790, 0x1), (0x507A0, 0x1), (0x507B0, 0x1), (0x507C0, 0x1), (0x507D0, 0x1),
  (0x507E0, 0x1), (0x507F0, 0x1), (0x50800, 0x1), (0x50810, 0x1), (0x50820, 0x1),
  (0x50830, 0x1), (0x50840, 0x1), (0x50850, 0x1), (0x50860, 0x1), (0x50870, 0x1),
  (0x60000, 0x1), (0x60004, 0x320A0F), (0x60008, 0x14), (0x6000C, 0x4), (0x60024, 0x3E8),
  (0x60040, 0x1643214), (0x6006C, 0x1010), (0x60104, 0x640000), (0x60800, 0x1), (0x60804, 0x320A0F),
  (0x60808, 0x14), (0x6080C, 0x4), (0x60824, 0x3E8), (0x60840, 0x1643214), (0x6086C, 0x1010),
  (0x60904, 0x640000), (0x61000, 0x1), (0x61004, 0x320A0F), (0x61008, 0x14), (0x6100C, 0x4),
  (0x61024, 0x3E8), (0x61040, 0x1643214), (0x6106C, 0x1010), (0x61104, 0x640000), (0x61800, 0x1),
  (0x61804, 0x320A0F), (0x61808, 0x14), (0x6180C, 0x4), (0x61824, 0x3E8), (0x61840, 0x1643214)]

/-- Reset words, part 4. -/
def resetWords4 : List (Nat × Word) := [
  (0x6186C, 0x1010), (0x61904, 0x640000), (0x62000, 0x1), (0x62004, 0x320A0F), (0x62008, 0x14),
  (0x6200C, 0x4), (0x62024, 0x3E8), (0x62040, 0x1643214), (0x6206C, 0x1010), (0x62104, 0x640000),
  (0x62800, 0x1), (0x62804, 0x320A0F), (0x62808, 0x14), (0x6280C, 0x4), (0x62824, 0x3E8),
  (0x62840, 0x1643214), (0x6286C, 0x1010), (0x62904, 0x640000), (0x63004, 0x320A0F), (0x63008, 0x14),
  (0x6300C, 0x4), (0x63024, 0x3E8), (0x63040, 0x1643214), (0x6306C, 0x1010), (0x63104, 0x640000),
  (0x63804, 0x320A0F), (0x63808, 0x14), (0x6380C, 0x4), (0x63824, 0x3E8), (0x63840, 0x1643214),
  (0x6386C, 0x1010), (0x63904, 0x640000), (0x64004, 0x320A0F), (0x64008, 0x14), (0x6400C, 0x4),
  (0x64024, 0x3E8), (0x64040, 0x1643214), (0x6406C, 0x1010), (0x64104, 0x640000), (0x64804, 0x320A0F),
  (0x64808, 0x14), (0x6480C, 0x4), (0x64824, 0x3E8), (0x64840, 0x1643214), (0x6486C, 0x1010),
  (0x64904, 0x640000), (0x65004, 0x320A0F), (0x65008, 0x14), (0x6500C, 0x4), (0x65024, 0x3E8),
  (0x65040, 0x1643214), (0x6506C, 0x1010), (0x65104, 0x640000), (0x65804, 0x320A0F), (0x65808, 0x14),
  (0x6580C, 0x4), (0x65824, 0x3E8), (0x65840, 0x1643214), (0x6586C, 0x1010), (0x65904, 0x640000)]

/-- Reset words, part 5. -/
def resetWords5 : List (Nat × Word) := [
  (0x66004, 0x320A0F), (0x66008, 0x14), (0x6600C, 0x4), (0x66024, 0x3E8), (0x66040, 0x1643214),
  (0x6606C, 0x1010), (0x66104, 0x640000), (0x66804, 0x320A0F), (0x66808, 0x14), (0x6680C, 0x4),
  (0x66824, 0x3E8), (0x66840, 0x1643214), (0x6686C, 0x1010), (0x66904, 0x640000), (0x67004, 0x320A0F),
  (0x67008, 0x14), (0x6700C, 0x4), (0x67024, 0x3E8), (0x67040, 0x1643214), (0x6706C, 0x1010),
  (0x67104, 0x640000), (0x67804, 0x320A0F), (0x67808, 0x14), (0x6780C, 0x4), (0x67824, 0x3E8),
  (0x67840, 0x1643214), (0x6786C, 0x1010), (0x67904, 0x640000), (0x68004, 0x320A0F), (0x68008, 0x14),
  (0x6800C, 0x4), (0x68024, 0x3E8), (0x68040, 0x1643214), (0x6806C, 0x1010), (0x68104, 0x640000),
  (0x68804, 0x320A0F), (0x68808, 0x14), (0x6880C, 0x4), (0x68824, 0x3E8), (0x68840, 0x1643214),
  (0x6886C, 0x1010), (0x68904, 0x640000), (0x69004, 0x320A0F), (0x69008, 0x14), (0x6900C, 0x4),
  (0x69024, 0x3E8), (0x69040, 0x1643214), (0x6906C, 0x1010), (0x69104, 0x640000), (0x69804, 0x320A0F),
  (0x69808, 0x14), (0x6980C, 0x4), (0x69824, 0x3E8), (0x69840, 0x1643214), (0x6986C, 0x1010),
  (0x69904, 0x640000), (0x6A004, 0x320A0F), (0x6A008, 0x14), (0x6A00C, 0x4), (0x6A024, 0x3E8)]

/-- Reset words, part 6. -/
def resetWords6 : List (Nat × Word) := [
  (0x6A040, 0x1643214), (0x6A06C, 0x1010), (0x6A104, 0x640000), (0x6A804, 0x320A0F), (0x6A808, 0x14),
  (0x6A80C, 0x4), (0x6A824, 0x3E8), (0x6A840, 0x1643214), (0x6A86C, 0x1010), (0x6A904, 0x640000),
  (0x6B004, 0x320A0F), (0x6B008, 0x14), (0x6B00C, 0x4), (0x6B024, 0x3E8), (0x6B040, 0x1643214),
  (0x6B06C, 0x1010), (0x6B104, 0x640000), (0x6B804, 0x320A0F), (0x6B808, 0x14), (0x6B80C, 0x4),
  (0x6B824, 0x3E8), (0x6B840, 0x1643214), (0x6B86C, 0x1010), (0x6B904, 0x640000), (0x6C000, 0xF),
  (0x70004, 0x3214), (0x70404, 0x3203), (0x70408, 0x1414), (0x7040C, 0x44), (0x70424, 0x3E8),
  (0x70504, 0x3203), (0x70508, 0x1414), (0x7050C, 0x44), (0x70524, 0x3E8), (0x80004, 0xFA),
  (0x8000C, 0x4B00BB8), (0x80010, 0x7D000C8), (0x80014, 0x4012C), (0x8001C, 0x80000000), (0x80080, 0x3CFF00),
  (0x80084, 0x27100BB8), (0x80090, 0x3CFF00), (0x80094, 0x27100BB8), (0x800A0, 0x3CFF00), (0x800A4, 0x27100BB8),
  (0x800B0, 0x3CFF00), (0x800B4, 0x27100BB8), (0x80104, 0x300001), (0x80108, 0x1900000), (0x80114, 0x300001),
  (0x80118, 0x1900000), (0x80124, 0x300001), (0x80128, 0x1900000), (0x80134, 0x300001), (0x80138, 0x1900000),
  (0x80144, 0x300001), (0x80148, 0x1900000), (0x80154, 0x300001), (0x80158, 0x1900000), (0x80164, 0x300001)]

/-- Reset words, part 7. -/
def resetWords7 : List (Nat × Word) := [
  (0x80168, 0x1900000), (0x80174, 0x300001), (0x80178, 0x1900000), (0x80184, 0x300001), (0x80188, 0x1900000),
  (0x80194, 0x300001), (0x80198, 0x1900000), (0x801A4, 0x300001), (0x801A8, 0x1900000), (0x801B4, 0x300001),
  (0x801B8, 0x1900000), (0x9004C, 0x10000), (0xA0004, 0xD), (0xA000C, 0x1050780), (0xA0010, 0xF1E),
  (0xA0014, 0xA), (0xA0020, 0x8000), (0xA0024, 0x8000), (0xA0028, 0x8000), (0xA002C, 0x8000),
  (0xA0044, 0x3E84083), (0xA0054, 0x3E84083), (0xA0064, 0x3E84083), (0xA0074, 0x3E84083), (0xB0044, 0xFFFFFFFF),
  (0xB0048, 0x1000), (0xC0004, 0x10), (0xD0004, 0x33), (0xD0104, 0x33), (0x100000, 0x10000),
  (0x101000, 0x1010000), (0x102000, 0x2010000), (0x103000, 0x3010000), (0x104000, 0x4010000), (0x105000, 0x5010000),
  (0x106000, 0x6010000)]

/-- The nonzero reset words of R606, the MSI-X vector controls (masked) and the BAR 2 doorbells (Table 03-5), ascending. -/
def resetWords : List (Nat × Word) :=
  resetWords1 ++ resetWords2 ++ resetWords3 ++ resetWords4 ++ resetWords5 ++ resetWords6 ++ resetWords7

end Sys2Proof.Machine
end

