-- ==== Sys2Proof/Machine/State.lean ====
section
/-! DEFINITION. The state of the TY3024: every register, queue, buffer, counter, mode and pin the spec names, as plain data. -/

namespace Sys2Proof.Machine

/-- The register file and shadows hold words by BAR offset, strictly ascending, no zero word listed: an unlisted offset reads 0 (R4). -/
abbrev RegFile := List (Nat × Word)

/-- A picture of a surface: rows of 16-bit values. -/
abbrev Picture := List (List Nat)

/-- What leaves the device, in the order in which it leaves. -/
inductive Output where
  /-- A 64-byte device-to-host record written to a slot of CPL, EVT or HLT, at its bus address: one memory write (R89). -/
  | record (ring slot addr : Nat) (bytes : List Byte)
  /-- An MSI-X message: a memory write of the data to the address of the vector's table entry (R93). -/
  | msix (vector addr : Nat) (data : Word)
  /-- A PCIe error message: correctable, non-fatal or fatal (R67). -/
  | pcieError (cls : Nat)
  /-- A host read or write request of the TY3024 (bus address, bytes). -/
  | hostRead (addr len : Nat)
  | hostWrite (addr : Nat) (bytes : List Byte)
  /-- K28.k on a port's downstream lane. -/
  | kcode (port k : Nat)
  /-- A K28.2 marker on a port's downstream lane, and the internal instant at which it is issued, in ns of network time (R446). -/
  | marker (port : Nat) (instant : Int)
  /-- An ordered set on a port's downstream lane: 0 TRN0, 1 TRN1, 2 EIE, 3 RATE, with its operand bytes. -/
  | orderedSet (port kind : Nat) (body : List Byte)
  /-- The exit burst of an idle downstream lane (R246). -/
  | exitBurst (port : Nat)
  /-- A downstream packet: port, packet type, sequence number, bytes. -/
  | packet (port kind seq : Nat) (body : List Byte)
  /-- A downstream packet of which no further symbol is sent: K28.0 came within it, or before it began (R280). -/
  | abandon (port seq : Nat)
  /-- K28.k on both lanes of a twin link; ordered sets of one of its lanes, or RATE sets of its dealt stream; packets of the twin links. -/
  | twinK (link k : Nat)
  | twinSet (link lane kind : Nat) (body : List Byte)
  | twinPacket (link kind seq : Nat) (body : List Byte)
  /-- TILE_SYNC level of a core port; TICK_OUT level. -/
  | tileSync (port : Nat) (level : Bool)
  | tickOut (level : Bool)
  /-- A PMBus transaction begun: address, PAGE, command, data bytes (none for a read). -/
  | pmbus (addr page cmd : Nat) (data : List Byte) (pec : Nat)
  /-- A flash write: region, byte offset, bytes. -/
  | flashWrite (region off : Nat) (bytes : List Byte)
  /-- An xSPI read started: slow mode, step of the boot. -/
  | flashRead (slow : Bool) (step : Nat)
  /-- A gPTP message sent on an SGMII port: kind and fields. -/
  | ptp (port kind : Nat) (body : List Nat)
  /-- An MSI-X pending bit set in place of a masked message. -/
  | msixPending (vector : Nat)
deriving DecidableEq, Repr

/-! ## Rings (chapter 03) -/

/-- A descriptor that has been fetched and has passed checks 1 to 6 of R100, with its payload once read. -/
structure Desc where
  ring : Nat := 0
  slot : Nat := 0
  gen : Nat := 0
  /-- Unbounded position of the descriptor in its ring (R75). -/
  pos : Nat := 0
  bytes : List Byte := []
  payload : Option (List Byte) := none
deriving DecidableEq, Repr, Inhabited

/-- The attributes Relaxed Ordering and No Snoop of the memory writes that R89 names: both clear. -/
def Output.attrs : Output → Option (Bool × Bool)
  | .record _ _ _ _ => some (false, false)
  | .msix _ _ _ => some (false, false)
  | _ => none

/-- When a completed command is in effect (R134 LEVEL 1): the instant still to come, or none. -/
inductive EffectAt where
  | now
  | fTick (surf frame : Nat)
  | sTick (surf : Nat)
  | latch (surf : Nat)
  | retime (surf : Nat)
  | window (surf : Nat)
  | allWindows
  /-- A present of a surface, by its ring position: at the F-tick of its frame, or its launch or cancellation. -/
  | launch (surf pos : Nat)
  | segSwap (banks : Nat)
  | pwm
  | mode (target : Nat)
deriving DecidableEq, Repr, Inhabited

/-- A fetched descriptor whose completion has not been written, or whose effect has not come (R84, R135). -/
structure Outstanding where
  pos : Nat := 0
  slot : Nat := 0
  /-- SQ_HEAD of its completion, in the ring as it was enabled when the descriptor was read (R98). -/
  head : Nat := 0
  /-- Network time at which the descriptor passed or failed its checks, in the form of VALIDATED_AT; empty before. -/
  stamp : List Byte := []
  /-- The completion record, all but its SQ_HEAD, GEN and CRC, once it is due; `some []` for a QUIET one. -/
  ready : Option (List Byte) := none
  irq : Bool := false
  written : Bool := false
  effect : EffectAt := .now
deriving DecidableEq, Repr, Inhabited

/-- A pending FENCE (R134): what it covers, its level, and its timeout. -/
structure Fence where
  desc : Desc
  level : Nat
  /-- The position below which each ring's descriptors are covered. -/
  cover : List Nat
  timeoutUs : Nat
deriving DecidableEq, Repr, Inhabited

/-- A descriptor whose read has been issued: its unbounded position in the ring, its slot, and the generation expected there (R75, R88). -/
structure Flight where
  pos : Nat
  slot : Nat
  gen : Nat
  /-- The ring's size and HALT_ON_REJECT when the read was issued (R98). -/
  size : Nat := 16
  halt : Bool := false
deriving DecidableEq, Repr, Inhabited

/-- One ring (R76): unbounded positions of both sides, and what is in flight. -/
structure Ring where
  /-- Submit ring: next position to fetch. Device-to-host ring: next position to write. -/
  head : Nat := 0
  /-- Submit ring: position announced. Device-to-host ring: position returned. -/
  tail : Nat := 0
  /-- For each accepted doorbell of a submit ring: the new tail and the tails of the four submit rings before it (R134). -/
  marks : List (Nat × List Nat) := []
  /-- Descriptors whose read is in flight, in order (R88, R98). -/
  flight : List Flight := []
  /-- Descriptors that passed checks 1 to 6 and wait to execute, in order. -/
  arrived : List Desc := []
  /-- Descriptors fetched and not yet both completed and in effect, in order. -/
  outst : List Outstanding := []
  fence : Option Fence := none
  /-- SEQ of the next EVT or HLT record (Table 03-9). -/
  seq : Nat := 0
  /-- Records dropped since the last one written (R92). -/
  lostPend : Nat := 0
  /-- Records written and not yet signalled (R93). -/
  unsig : Nat := 0
deriving DecidableEq, Repr, Inhabited

/-- A record waiting for a slot of the CPL ring (R91), or held while ring traffic is paused (R69): its ring, bytes and IRQ flag. -/
structure HeldRecord where
  ring : Nat := 0
  bytes : List Byte := []
  irq : Bool := false
  /-- The descriptors that count as completed when it is written: ring and position (R135). -/
  src : List (Nat × Nat) := []
deriving DecidableEq, Repr, Inhabited

/-- A host read that waits while ring traffic is paused (R69, R70): its address and length, and for a layer the ring position of its present and the layer's index. -/
structure HeldRead where
  layer : Option (Nat × Nat) := none
  addr : Nat := 0
  len : Nat := 0
deriving DecidableEq, Repr, Inhabited

/-- What the host programs in the PCIe configuration space beside Bus Master Enable (Table 03-1), and the status that AER keeps (R67). -/
structure PcieCfg where
  memSpace : Bool := false
  msixEnable : Bool := false
  funcMask : Bool := false
  /-- Max_Read_Request_Size and Max_Payload_Size in bytes. -/
  mrrs : Nat := 512
  mps : Nat := 128
  /-- ECRC generation and checking enabled in AER, the completion timeout value, and the ASPM control bits. -/
  ecrcGen : Bool := false
  ecrcCheck : Bool := false
  timeout : Nat := 0
  aspm : Nat := 0
  /-- AER correctable and uncorrectable error status. -/
  aerCor : Nat := 0
  aerUncor : Nat := 0
deriving DecidableEq, Repr, Inhabited

/-- The host interface (chapter 03). -/
structure HostSt where
  rings : List Ring := []
  /-- Internal queue of completions (R91), at most 64. -/
  cplQueue : List HeldRecord := []
  /-- EVT and HLT records held while D3hot or Bus Master Enable 0 pauses the rings (R69, R70). -/
  heldRecords : List HeldRecord := []
  busMaster : Bool := false
  pcie : PcieCfg := {}
  /-- The submit ring, 1 to 3, that the round robin serves next (R87). -/
  turn : Nat := 1
  /-- The surfaces for which a present was validated since their previous F-tick (R94). -/
  presentSeen : Nat := 0
  /-- Times of the last OFF_ACCESS and WRITE_REFUSED events, in timebase ticks: one event per 1 ms (R505, R601). -/
  offAccAt : Option Nat := none
  wrefAt : Option Nat := none
  /-- Reads of payloads, layers and bulk sources not started while ring traffic is paused (R69, R70). -/
  heldReads : List HeldRead := []
  /-- MSI-X pending bits. -/
  pba : Nat := 0
deriving DecidableEq, Repr, Inhabited

/-! ## Supplies, rails and domains (chapter 16) -/

/-- What the rail sequencer is doing with one rail (R495, R496). -/
inductive RailStep where
  | idle
  | setVoltage
  | waitPg
  | retryWait
  | waitLow
deriving DecidableEq, Repr, Inhabited

/-- The direction in which the rail sequencer is working. -/
inductive RailDir where
  | none | up | down
deriving DecidableEq, Repr, Inhabited

/-- What the rails are being powered for: what follows when the sequence completes. -/
inductive RailPurpose where
  | boot | wake | restore | shed | sentinel | recovery | park | unpark
deriving DecidableEq, Repr, Inhabited

/-- A transaction waiting for the PMBus master (R497): of the rail sequencer, of a status poll, or of a headroom loop. -/
inductive PmbusJob where
  | railPage (r : Nat) | railMode (r : Nat) | railVout (r : Nat)
  | pollMode (r : Nat) | pollVout (r : Nat) | pollStatus (r : Nat)
  | segPage (r : Nat) | segMode (r : Nat) | segVout (r mv : Nat)
deriving DecidableEq, Repr, Inhabited

/-- Supplies and rails, held in AON. -/
structure SupplySt where
  shed : Bool := false
  restoring : Bool := false
  /-- The decision for LIMP on supply has been taken and shedding has not started (R491). -/
  shedDue : Bool := false
  dir : RailDir := .none
  purpose : RailPurpose := .boot
  rail : Nat := 0
  step : RailStep := .idle
  /-- Whether the rail being powered has already failed once in this sequence (R496). -/
  retried : Bool := false
  /-- The one recovery run of R496 has been used since the failure, and a rail failure holds the rails off. -/
  railsFailed : Bool := false
  recoveryUsed : Bool := false
  jobs : List PmbusJob := []
  busy : Option PmbusJob := none
  /-- Failures in a row of the transaction in progress (R476, R496). -/
  jobTries : Nat := 0
  /-- Exponent that VOUT_MODE gave for each rail since power-on reset, where it has been read (R476). -/
  exps : List (Option Int) := []
deriving DecidableEq, Repr, Inhabited

/-! ## Modes and Tarn (chapter 17) -/

/-- A mode transition in progress: target, cause, the command to complete, and for an exit from LIMP the surfaces whose F-tick is awaited. -/
structure ModeTrans where
  src : Nat := 0
  dst : Nat := 0
  cause : Nat := 0
  cmd : Option (Nat × Nat) := none
  waitSurf : List Nat := []
deriving DecidableEq, Repr, Inhabited

/-- One analog or digital input as Tarn filters it (R524). -/
structure TarnFilt where
  cnt : Nat := 0
  filt : Bool := false
  prev : Bool := false
  x1 : Int := 0
  x2 : Int := 0
  y : Int := 0
  /-- Samples taken since power-on reset, to 3. -/
  seen : Nat := 0
deriving DecidableEq, Repr, Inhabited

/-- The mode machine and Tarn. -/
structure ModeSt where
  trans : Option ModeTrans := none
  /-- A LIMP fault that fell in a transition, to be taken when it completes (R512). -/
  limpFault : Option Nat := none
  /-- Fault numbers whose reaction put the device in LIMP and that have to recover before it is left (R511). -/
  limpCauses : List Nat := []
  /-- Those of a LIMP that is to follow the exit in progress. -/
  limpLater : List Nat := []
  /-- A MODE RUN awaits the check of R517. -/
  wokenToRun : Bool := false
  /-- A present of the watched surface was validated since the entry into LIMP (fault 13, Table 11-6). -/
  presentSinceLimp : Bool := false
  tarn : List TarnFilt := []
  /-- Condition of each rule at the previous sample (R528). -/
  ruleWas : List Bool := []
  timerPulse : Bool := false
  /-- Rules whose action was latched in this transition, with the rule of highest precedence (R531). -/
  latchedRule : Option Nat := none
  /-- HOST_WAKE_N was driven by a firing after this SENTINEL entry was decided (R530). -/
  wakeDuringEntry : Bool := false
  /-- A Tarn wake action taken while RESET_N is low: target and cause (R578). -/
  wakeHeld : Option (Nat × Nat) := none
  /-- The transition's MODE_CHANGE has been written at its start (R515, R518). -/
  evented : Bool := false
  /-- Milliseconds of the second in progress of the idle timer and of the Tarn timer. -/
  idleMs : Nat := 0
  timerMs : Nat := 0
  /-- Level of the WAKE_SENSE comparator (R525). -/
  wakeCmp : Bool := false
  /-- Values that the safety pair writes to Tarn (R403): discrepancy times and single-channel flag; the stuck-reset time is PWR_RESET.STUCK_MS. -/
  tDiscLreq : Nat := 20
  tDiscBlank : Nat := 20
  singleCh : Bool := false
  /-- Surfaces that were enabled at the entry into PARK, to be restarted at the exit (R521). -/
  parkSurfaces : List Nat := []
  /-- The control pair's copy of the TG, PIX and TILE registers, held through PARK (R521). -/
  parkRegs : RegFile := []
  /-- The tick of the decision to leave PARK (R521). -/
  exitAt : Option Nat := none
  /-- What Tarn's next sample takes from writes: the bits that W1C fields of PWR are to clear, by offset, and a new TIMER_S (R532). -/
  pendClr : List (Nat × Nat) := []
  timerLoad : Bool := false
  /-- Surfaces whose stop the PARK entry awaits (R518 step 2). -/
  parkWait : List Nat := []
  /-- Output frames in use that the PARK exit restores, by surface (R521). -/
  parkPics : List (Nat × Picture) := []
deriving DecidableEq, Repr, Inhabited

/-! ## Safe functions (chapters 11 and 12) -/

/-- Why a port's TILE_EN is held low (R383): the fault, and the index of the pixel that caused the hold. -/
structure TileHold where
  port : Nat := 0
  fault : Nat := 0
  px : Nat := 0
deriving DecidableEq, Repr, Inhabited

/-- One axis of a returning offset (R360): distance at the last latch, and latches left before it must be in range. -/
structure Returning where
  active : Bool := false
  dist : Nat := 0
  left : Nat := 0
deriving DecidableEq, Repr, Inhabited

/-- The beam profile of one surface and what the Spillway keeps for it. -/
structure SpillSurf where
  profile : Nat := 0
  /-- A validated BEAM_PROFILE and the frame at which it takes effect (R350). -/
  nextProfile : Option (Nat × Nat) := none
  retV : Returning := {}
  retH : Returning := {}
  /-- Applied offsets latched for the previous scan cycle, for the rate check (R359). -/
  lastV : Int := 0
  lastH : Int := 0
  /-- A latch has been taken since the enable. -/
  latched : Bool := false
  /-- The range check and the rate check of the last latch failed, and codes are 0 since a failed check (R361). -/
  outOf : Bool := false
  fast : Bool := false
  zeroed : Bool := false
  /-- The scan cycle just ended has an excess (R356), and the run in hand has raised fault 5 (R357). -/
  excess : Bool := false
  told : Bool := false
deriving DecidableEq, Repr, Inhabited

/-- What the safety pair is handed for a scan cycle of a surface (R362 to R364): each zone with the Spillway's sum and the signature unit's own, whether the Spillway found an excess, the captured codes (column, code) of the row in rotation, and the latched offsets, with the profile in force, the scan-cycle rate and, at the latch where a profile took effect, whether each target was moved; whether it is the first since the enable, and the ports whose probes are checked with it. -/
structure PairInput where
  zones : List (Nat × Nat × Nat) := []
  excess : Bool := false
  row : Nat := 0
  codes : List (Nat × Nat) := []
  av : Int := 0
  ah : Int := 0
  profile : Nat := 0
  hz : Nat := 0
  turn : Option (Bool × Bool) := none
  fresh : Bool := true
  ports : List Nat := []
deriving DecidableEq, Repr, Inhabited

/-- The safety pair's own checks of one surface: the row in rotation (R363), the offsets of the scan cycle before and its own account of their return (R364), which of its aim checks failed last (R365), whether the scan cycle to come is the first since the enable, and the scan cycles that it has still to check, oldest first. -/
structure PairSurf where
  row : Nat := 0
  last : Option (Int × Int) := none
  retV : Returning := {}
  retH : Returning := {}
  outOf : Bool := false
  fast : Bool := false
  fresh : Bool := true
  due : List PairInput := []
deriving DecidableEq, Repr, Inhabited

/-- One device zone as the Spillway accounts it (R355, R356). -/
structure SpillZone where
  sum : Nat := 0
  est : Nat := 0
  q : Nat := 65536
deriving DecidableEq, Repr, Inhabited

/-- The form in which the safety pair serves LIMP (R378, R379). -/
inductive LimpForm where
  | none | store | pages
deriving DecidableEq, Repr, Inhabited

/-- The safety pair, Spillway and Totality. -/
structure SafeSt where
  /-- SPB working copy in SAFE: the image in use, or none (R403, R404). -/
  spb : Option (List Byte) := none
  /-- The second copy, of which the output comparator takes the ceilings (R354), and the safety pair's own (R362). -/
  ceilCopy : Option (List Byte) := none
  pairCopy : Option (List Byte) := none
  /-- While PIX is off: the TG registers as they stood, by which served tiles lie on their canvas (R32). -/
  place : Option RegFile := none
  /-- Staged SPB and whether it is confirmed (R398). -/
  staged : Option (List Byte) := none
  session : Bool := false
  /-- A close deferred by COMMIT_BUSY (R396). -/
  closeDue : Bool := false
  /-- A session opened since, which takes the place of the one that closes (R590). -/
  reopen : Bool := false
  form : LimpForm := .none
  /-- The form that a LIMP latched in a transition takes (R512). -/
  limpNext : LimpForm := .none
  /-- The working copy is being reloaded after fault 27 (R405). -/
  spbReload : Bool := false
  /-- Surfaces, in an exit from LIMP, whose F-tick has ended their beam (Table 17-2). -/
  limpEnded : Nat := 0
  /-- The LIMP rows have been swapped in at the frame-memory tiles (R378 step 3). -/
  swapped : Bool := false
  /-- The beam is PARK's patterns rather than LIMP's (R518). -/
  parkBeam : Bool := false
  /-- The host's Totality request: groups 0 to 7 and all ports (R123). -/
  hostTot : Nat := 0
  /-- Raw pin levels of LIGHT_REQ_A, LIGHT_REQ_B, BLANK_A, BLANK_B are in SAFE_INPUTS; consecutive samples with both BLANK pins low. -/
  blankClear : Nat := 0
  lreqAgree : Nat := 0
  blankAgree : Nat := 0
  holds : List TileHold := []
  surfs : List SpillSurf := []
  zones : List SpillZone := []
  /-- Codes served to each port in LIMP or PARK, after the Spillway stage, in index order (R378, R518). -/
  served : List (Nat × List Nat) := []
  /-- The second monitor, by surface (R362 to R365). -/
  pair : List PairSurf := []
  /-- Spillway test: next ceiling row of each surface, and whether its last test failed (R366, R367). -/
  testRow : List Nat := []
  testFailed : List Bool := []
  /-- Ports for which fault 22 stands, and units that lost lock with LNREF and have not come back to ACTIVE (faults 22 and 25). -/
  laneFaults : Nat := 0
  refLanes : Nat := 0
deriving DecidableEq, Repr, Inhabited

/-- What AON holds besides the PWR registers (R14, R23, R632). -/
structure AonSt where
  /-- FAULT_A_N and FAULT_B_N driven low (R384). -/
  faultPins : Bool := false
  hostWakeLow : Bool := false
  twinAlive : Bool := false
  /-- RESET_N is held low after its filter. -/
  resetHeld : Bool := false
  /-- A supply collapse has been detected and its power-on reset is due (R493). -/
  collapsed : Bool := false
  /-- The device has left power-on reset. -/
  running : Bool := false
  /-- A junction comparator has tripped and not cleared (R541). -/
  hot : Bool := false
  /-- Through SENTINEL: the faults whose DARK is latched, and the ports whose TILE_EN is held, which only a reset or a release ends (R381, R383). -/
  keptDark : List Nat := []
  keptHolds : List TileHold := []
  /-- Faults 11 and 12 that Tarn latched in SENTINEL (R374). -/
  tarnFault11 : Bool := false
  tarnFault12 : Bool := false
  /-- Tarn's discrepancy counts: disagreeing and agreeing samples of LIGHT_REQ and BLANK. -/
  tarnDisc : List Nat := [0, 0, 0, 0]
  /-- MAIN_OK has stayed low in SENTINEL for this many Tarn samples (R490). -/
  mainLowMs : Nat := 0
  /-- Tarn samples since power-on reset: the 32,768 Hz AON count advances 32.768 per sample. -/
  samples : Nat := 0
  /-- The 32.768 kHz crystal is the AON counter's source. -/
  xtal : Bool := true
deriving DecidableEq, Repr, Inhabited

/-! ## Tile ports and lanes (chapters 08 and 09) -/

/-- A downstream packet sent and not yet resolved (R274). -/
structure SentPkt where
  seq : Nat := 0
  kind : Nat := 0
  body : List Byte := []
  /-- Re-sends so far (R275). -/
  resends : Nat := 0
  /-- EPOCH of its header, which a re-sent packet carries again (R275). -/
  epoch : Nat := 0
  /-- Network time in ns by which its EOP must reach the tile (Table 09-2), 0 for none. -/
  due : Nat := 0
deriving DecidableEq, Repr, Inhabited

/-- A rate-change or PRBS order that names a tick (R239, R252). -/
inductive TickOrder where
  | rate (dn up : Nat) (tickNs : Nat)
  | prbs (pattern : Nat) (dn up : Bool) (tickNs : Nat)
deriving DecidableEq, Repr, Inhabited

/-- A receiver of a lane: whether its running disparity is negative, once aligned (R226), valid symbols in a row, and the validity of the last symbols while locked, newest first (R236). -/
structure Receiver where
  neg : Option Bool := none
  run : Nat := 0
  recent : List Bool := []
deriving DecidableEq, Repr, Inhabited

/-- A packet handed to a downstream lane: number, type, and the instant at which its last symbol leaves, in quarters of a ns of the timebase (R280). -/
structure WirePkt where
  seq : Nat := 0
  kind : Nat := 0
  fin : Nat := 0
deriving DecidableEq, Repr, Inhabited

/-- A PRBS test in progress: its pattern and the directions that carry it (R252). -/
structure PrbsRun where
  pattern : Nat := 0
  dn : Bool := false
  up : Bool := false
deriving DecidableEq, Repr, Inhabited

/-- One end's view of a lane handshake (R236, R237). -/
structure Handshake where
  locked : Bool := false
  /-- TRN1 received in a row, and sent. -/
  trn1Rx : Nat := 0
  trn1Tx : Nat := 0
deriving DecidableEq, Repr, Inhabited

/-! ## Timing generators (chapter 02) -/

/-- The timing values of a generator: TG_RATE, TG_GUARD, TG_LEAD and TG_GRID as numbers. -/
structure Grid where
  hz : Nat := 0
  n : Nat := 1
  gUs : Nat := 8
  pcSteps : Nat := 0
  span : Nat := 0
  leadUs : Nat := 500
  offset : Nat := 0
deriving DecidableEq, Repr, Inhabited

/-- A member port of a running surface, with the size and kind it joined with (R629, R634). -/
structure Member where
  port : Nat := 0
  tw : Nat := 0
  th : Nat := 0
  frameMem : Bool := false
deriving DecidableEq, Repr, Inhabited

/-- Where a running generator stands (R59 to R61): on its grid, in the hold or the bridge of a RETIME or a clock step, or on the new grid before its first F-tick. -/
inductive GenPhase where
  | normal | hold | bridge | newGrid
deriving DecidableEq, Repr, Inhabited

/-- The bridge of R60: scan cycles still to begin before N, what the last of them lasts longer (Q32 ns), and the new grid's S-tick index at N. -/
structure Bridge where
  left : Nat := 0
  extraQ : Nat := 0
  newI : Nat := 0
  /-- The grid that begins at N. -/
  dest : Grid := {}
deriving DecidableEq, Repr, Inhabited

/-- One timing generator. Times are network nanoseconds with a 32-bit fraction. -/
structure Gen where
  /-- Grid in force while running. -/
  grid : Grid := {}
  /-- F-tick index of a pending start (R44). -/
  startF : Option Nat := none
  stopPend : Bool := false
  /-- The latch point, and X, of the next F-tick have passed. -/
  latched : Bool := false
  windowed : Bool := false
  phase : GenPhase := .normal
  /-- An F-tick has fired whose S-tick has not. -/
  atF : Bool := false
  /-- Absolute S-tick index of the scan cycle in progress on the grid, its index in the frame, start and length. -/
  si : Nat := 0
  j : Nat := 0
  sQ : Nat := 0
  lenQ : Nat := 0
  /-- A validated RETIME, and whether its latch point L(m) has passed (R56). -/
  retime : Option Grid := none
  retimeArmed : Bool := false
  bridge : Bridge := {}
  /-- A clock step has been made: the bridge begins at the next S-tick (R439). -/
  stepped : Bool := false
  /-- P-ticks of the scan cycle in progress that have fired. -/
  fired : Nat := 0
  /-- Scan cycles in a frame of the grid on which the frame in progress began: the n of the dither index (R216, R320). -/
  frameN : Nat := 1
  members : List Member := []
  joins : List Member := []
  leaves : List Nat := []
deriving DecidableEq, Repr, Inhabited

/-! ## Presents and composition (chapter 05) -/

/-- Source rows of one layer, as fetched into its layer buffer: row bytes each. -/
abbrev Rows := List (List Byte)

/-- One layer of a present: its 112-byte record, and its prefetch. -/
structure LayerBuf where
  record : List Byte := []
  pending : Bool := false
  done : Bool := false
  failed : Bool := false
  rows : Rows := []
deriving DecidableEq, Repr, Inhabited

/-- A validated present. -/
structure Present where
  desc : Desc := {}
  id : Nat := 0
  layers : List LayerBuf := []
  /-- OCCULT_EN when the first prefetch was queued (R150). -/
  occult : Bool := false
  /-- Its completion has not been written. -/
  owed : Bool := false
  /-- PRESENT_TIMED: launch time in ns. -/
  launch : Nat := 0
  /-- COMPANION: the frame that its ALIGN names (R417). -/
  named : Option Nat := none
  /-- COMPANION: its ALIGN did not come, and it goes by the device's own rules (R418). -/
  orphan : Bool := false
  /-- Layers removed under R178, and regions whose expectations went with them. -/
  removed : List Nat := []
  waived : List Nat := []
deriving DecidableEq, Repr, Inhabited

/-- What composition takes for one layer index: a record and its rows, a full-canvas pattern, or nothing. -/
inductive LayerSrc where
  | none
  | rows (record : List Byte) (rows : Rows)
  | pattern (record : List Byte) (values : List Nat)
deriving DecidableEq, Repr, Inhabited

/-- One scaler bank: horizontal and vertical coefficients (64 × 8), and mesh points (x, y), 33 × 9 (chapter 05). -/
structure ScalerBank where
  horiz : List Int := []
  vert : List Int := []
  mesh : List (Nat × Nat) := []
deriving DecidableEq, Repr, Inhabited

/-- A scaler: two banks, the bank in force, and the surface whose F-tick swaps them. -/
structure Scaler where
  bankA : ScalerBank := {}
  bankB : ScalerBank := {}
  armed : Option (Nat × Nat) := none
deriving DecidableEq, Repr, Inhabited

/-- Last ready content of a layer index, with the record it was composed with, and the timed present that owns its pool space (R146, R452). -/
structure HeldLayer where
  record : List Byte := []
  rows : Rows := []
  timed : Bool := false
  pos : Nat := 0
deriving DecidableEq, Repr, Inhabited

/-- A composition queued or running, with everything latched for it at L(k). -/
structure Job where
  surf : Nat := 0
  frame : Nat := 0
  srcs : List LayerSrc := []
  /-- Which layers were ready, for R176. -/
  ready : List Bool := []
  /-- The present as latched. -/
  present : Present := {}
  gain : Option (List Nat) := none
  /-- Canvas pixels marked for fill: (x, y); footprints of the member tiles. -/
  dead : List (Nat × Nat) := []
  feet : List (Nat × Nat × Nat × Nat) := []
  fill : Bool := false
  share : Nat := 0
  maxAdd : Nat := 0
  left : Bool := false
  width : Nat := 0
  height : Nat := 0
  /-- The scaler banks in force at L(k) (R155). -/
  banks : List ScalerBank := []
  /-- Last ready content before this frame (R146). -/
  held : List (Option HeldLayer) := []
deriving DecidableEq, Repr, Inhabited

/-- Values latched at the opening of a phase-0 production window (R204). -/
structure Prod where
  frame : Nat := 0
  /-- Phase whose production window opened last. -/
  ph : Nat := 0
  j : Nat := 0
  /-- Start and length of the scan cycle, and its G-interval, in Q32 ns; the on-interval in Q32 ns. -/
  sQ : Nat := 0
  lenQ : Nat := 0
  av : Int := 0
  ah : Int := 0
  dither : Nat := 0
  grid : Grid := {}
  /-- The G-interval before the scan cycle, in Q32 ns: that of the scan cycle before it (R34, R60). -/
  guardQ : Nat := 0
  picture : Option Picture := none
  /-- The profile that took effect at this latch moved the targets of the two axes (R351); none where no profile did. -/
  turn : Option (Bool × Bool) := none
  /-- The Spillway passes 0: STANDBY at the latch (R509). SWAP goes to frame-memory tiles: not in the hold or bridge of a RETIME (R294). -/
  dark : Bool := false
  swapOk : Bool := false
  /-- Codes produced so far in the scan cycle: port, then tile rows in order. -/
  codes : List (Nat × List (List Nat)) := []
deriving DecidableEq, Repr, Inhabited

/-- Aim targets and rates in force before an AIM, and the timebase tick at which it was validated (R208). -/
structure AimOld where
  tick : Nat := 0
  tv : Int := 0
  th : Int := 0
  rv : Nat := 0
  rh : Nat := 0
deriving DecidableEq, Repr, Inhabited

/-- What PIX holds for one surface. -/
structure SurfPix where
  /-- The present in use, and one validated for the next frame. -/
  use : Option Present := none
  next : Option Present := none
  /-- The surface's Ephemeris queue, in order of validation. -/
  ephem : List Present := []
  /-- Records of the most recently validated present: the layer slots it holds (R173). -/
  slots : List (List Byte) := []
  /-- Last ready content of each layer index (Table 05-5), and not-ready counts (R170). -/
  held : List (Option HeldLayer) := []
  notReady : List Nat := []
  gain : Option (List Nat) := none
  gainStaged : Option (List Nat) := none
  patterns : List (Option (List Nat)) := []
  patternsStaged : List (Option (List Nat)) := []
  /-- Output frame in use, and one complete and waiting with its frame number. -/
  picture : Option Picture := none
  waiting : Option (Nat × Picture) := none
  /-- Frame whose composition was abandoned for an SRAM error (Table 19-5). -/
  abandoned : Option Nat := none
  /-- Step 3 of R178 applies at the next latch point. -/
  recompose : Bool := false
  aimV : Int := 0
  aimH : Int := 0
  accV : Nat := 0
  accH : Nat := 0
  /-- The targets and rates that an AIM replaced, with the timebase tick of its validation (R208). -/
  aimOld : Option AimOld := none
  prod : Prod := {}
  /-- Codes of the previous scan cycle: port, then tile rows in order (R328, R340). -/
  prev : List (Nat × List (List Nat)) := []
  /-- Layers of the present in use that were not ready at the last latch point; that mask, the present and whether an output frame is repeated, for the frame in emission (Table 13-9). -/
  notReadyMask : Nat := 0
  repeated : Bool := false
  emitMask : Nat := 0
  emitDesc : Option Desc := none
  /-- COMPANION: presents that wait for their ALIGN or their frame, with their keys (R417). -/
  shadow : List (Present × Nat) := []
deriving DecidableEq, Repr, Inhabited

/-- A zone's temperature and derating factor (R212, R213, R342). -/
structure ZoneTherm where
  factor : Nat := 65536
  latched : Nat := 65536
  fallback : Bool := false
  used : Int := 0
  /-- Entry of the thermal map, and scan cycles since it was updated. -/
  temp : Int := 0
  age : Option Nat := none
deriving DecidableEq, Repr, Inhabited

/-! ## Shade objects (chapter 06) -/

/-- A shade object as the engine holds it (Table 06-1), plain or merged (R198). -/
structure Shade where
  ellipse : Bool := false
  accel : Bool := false
  depth : Nat := 0
  x : Int := 0
  y : Int := 0
  hw : Nat := 0
  hh : Nat := 0
  radius : Nat := 0
  ramp : Nat := 0
  vx : Int := 0
  vy : Int := 0
  ax : Int := 0
  ay : Int := 0
  growth : Nat := 0
  /-- Capture time; of a merged object, the merge time t_v (ns). -/
  t0 : Nat := 0
  owners : Nat := 0
  merged : Bool := false
  stop : Nat := 0
  growStart : Nat := 0
  spreadX : Nat := 0
  spreadY : Nat := 0
  /-- SHADE_STALE has been raised since the last update (R189). -/
  staleTold : Bool := false
deriving DecidableEq, Repr, Inhabited

/-- A slot as evaluated at the last production window of its surface, for the peek registers (R202). -/
structure Peek where
  x : Int := 0
  y : Int := 0
  hw : Nat := 0
  hh : Nat := 0
deriving DecidableEq, Repr, Inhabited

/-! ## Pixel health (chapter 10) -/

/-- One defect map entry (R343). -/
structure Defect where
  idx : Nat := 0
  cls : Nat := 0
  fill : Bool := false
  isolated : Bool := false
deriving DecidableEq, Repr, Inhabited

/-- A suspect pixel (R329): its sample, and the dither index of the PROBE that lists it; `clean` once a confirming sample was judged NONE. -/
structure Suspect where
  idx : Nat := 0
  /-- Commanded code at the suspect sample. -/
  x : Nat := 0
  sample : Nat := 0
  listed : Option Nat := none
  clean : Bool := false
deriving DecidableEq, Repr, Inhabited

/-- What the engine keeps of one scan cycle of a port: its samples' addresses, commanded codes and arrivals. -/
structure ScanRec where
  s : Nat := 0
  sweep : Nat := 0
  entries : List Nat := []
  /-- Commanded codes of the sweep set and the explicit entries: pixel index, code. -/
  codes : List (Nat × Nat) := []
  /-- Pixels with an accepted sample other than KIND 3. -/
  sampled : List Nat := []
  closed : Bool := false
  /-- Start and length of the scan cycle, Q32 ns. -/
  sQ : Nat := 0
  lenQ : Nat := 0
  /-- SCALE in force at the tile, and the vertical offset latched for the scan cycle. -/
  scale : Nat := 32768
  av : Int := 0
  /-- KIND 1 samples under ceilings that the tile has reported, by zone (R341). -/
  probes : List Nat := []
deriving DecidableEq, Repr, Inhabited

/-- A baseline capture (R326): scan cycles passed, whether T_CAP is set, and each pixel's samples: index, number, sum. -/
structure Capture where
  cycles : Nat := 0
  tempSet : Bool := false
  acc : List (Nat × Nat × Int) := []
deriving DecidableEq, Repr, Inhabited

/-- An isolation asked for (R334): its pixel, the tile's ISOLATED count at the request, and whether the SHORT already counts as not isolated (R335). -/
structure IsoReq where
  idx : Nat := 0
  was : Nat := 0
  failed : Bool := false
deriving DecidableEq, Repr, Inhabited

/-- The counts that SWEEP_DONE reports (Table 10-6). -/
structure SweepCnt where
  accepted : Nat := 0
  suspects : Nat := 0
  cleared : Nat := 0
  listed : Nat := 0
  kind3 : Nat := 0
  faults : Nat := 0
  maxUs : Nat := 0
  deferred : Nat := 0
deriving DecidableEq, Repr, Inhabited

/-- The pixel health engine's state of one port. -/
structure Health where
  defects : List Defect := []
  staged : Option (List Defect) := none
  /-- The CAP record that the baseline map was set for (R324). -/
  capRaw : List Byte := []
  /-- Baseline header (Table 10-1). -/
  tw : Nat := 0
  th : Nat := 0
  tCap : Int := 400
  tcQ8 : Int := -131
  ks : Int := 0
  probeDrop : Nat := 90
  /-- Baseline entries that are not 0, by pixel index. -/
  base : RegFile := []
  /-- Writes of MAP_LOAD KIND 2 not yet current: map offset and bytes. -/
  baseStaged : List (Nat × List Byte) := []
  /-- Latest forward-voltage entries, each XOR 0xFFFF, by pixel index (R344). -/
  fv : RegFile := []
  suspects : List Suspect := []
  queue : List Nat := []
  recs : List ScanRec := []
  capture : Option Capture := none
  /-- Scan cycles of the port since it was last reset, and the faults and suspects of each of the last 64. -/
  cyc : Nat := 0
  marks : List (Nat × Nat) := []
  /-- Scan cycles without an accepted HEALTH packet. -/
  quiet : Nat := 0
  cnt : SweepCnt := {}
  /-- Probing is stopped until the port next enters ACTIVE (R341). -/
  probeStopped : Bool := false
  /-- Codes that a frame-memory tile shows, by pixel index. -/
  shown : List Nat := []
  iso : List IsoReq := []
  /-- Sum of m − e_on and number of the on-drive samples of each zone, and the TEMP of their packet (R342). -/
  zsum : List (Int × Nat) := []
  temp : Int := 0
  /-- COMPANION: the entries that DEFECT packets give, with the frame at whose latch point each becomes current, and shadow declarations with the scan cycles they have waited (R420). -/
  lead : List (Nat × Defect) := []
  shadow : List (Defect × Nat) := []
deriving DecidableEq, Repr, Inhabited

/-- The pixel path of PIX. -/
structure PixSt where
  health : List Health := []
  /-- The health history, oldest first: 16-byte records, at most 1,024 (R345). -/
  history : List (List Byte) := []
  surfs : List SurfPix := []
  scalers : List Scaler := []
  /-- Compositions queued in the order of their latch points; the first one runs. -/
  jobs : List Job := []
  zones : List ZoneTherm := []
  shades : List (Option Shade) := []
  peeks : List Peek := []
  /-- What class F registers held before the writes of the timebase tick `fTick` (R6): offset and word. -/
  fTick : Nat := 0
  fOld : List (Nat × Word) := []
deriving DecidableEq, Repr, Inhabited

/-- The sleep record of R450, held in AON. -/
structure SleepRec where
  valid : Bool := false
  sec : Nat := 0
  ns : Nat := 0
  frac : Nat := 0
  count : Nat := 0
  source : Bool := false
  unc : Nat := 0
deriving DecidableEq, Repr, Inhabited

/-- A scaler bank at reset: every coefficient and mesh point 0 (the spec gives no reset content; DESIGN CHOICE, log entry 4). -/
def ScalerBank.init : ScalerBank := { horiz := rep 512 0, vert := rep 512 0, mesh := rep 297 (0, 0) }

/-- A surface's pixel path when PIX turns on. -/
def SurfPix.init : SurfPix :=
  { held := rep 8 none, notReady := rep 8 0, patterns := rep 16 none, patternsStaged := rep 16 none }

/-- PIX when its domain turns on: slots empty, aim 0, no maps (R180, R208). -/
def PixSt.init : PixSt :=
  { health := rep 24 { zsum := rep 8 (0, 0) }, surfs := rep 4 SurfPix.init, scalers := rep 2 ⟨ScalerBank.init, ScalerBank.init, none⟩, zones := rep 192 {},
    shades := rep 64 none, peeks := rep 64 {} }

/-! ## Flash, boot and life cycle (chapters 12 and 20) -/

/-- One copy of the slot directory (R580): whether it checks, its sequence number, active slot, trial slot, TRIAL_STARTED. -/
structure SlotDir where
  good : Bool := false
  seq : Nat := 0
  active : Nat := 0
  trial : Option Nat := none
  started : Bool := false
deriving DecidableEq, Repr, Inhabited

/-- A firmware slot: the bytes written to it, whether its last part was written, and whether it holds the image of manufacture. -/
structure FwSlot where
  image : List Byte := []
  complete : Bool := false
  factory : Bool := false
  /-- A write of a part failed since the one at offset 0: the image stays incomplete (R132). -/
  failed : Bool := false
deriving DecidableEq, Repr, Inhabited

/-- A flash write with read-back in progress: of SPB_COMMIT (copy, mask of copies that hold the new SPB), FW_STAGE, and FW_ACTIVATE (which of its two directory writes). -/
inductive FlashJob where
  | spb (ring pos copy held : Nat) (image : List Byte) (seq : Nat)
  | fwPart (ring pos slot off : Nat) (data : List Byte) (last : Bool)
  | fwDir (ring pos copy : Nat) (second : Bool) (dir : SlotDir)
deriving DecidableEq, Repr, Inhabited

/-- The external flash (Table 20-3), and what the safety pair and CORE keep of it. -/
structure FlashSt where
  dirs : List SlotDir := []
  /-- Life-cycle records of the two sectors: 16 bytes each, empty while erased. -/
  lcs : List (List Byte) := []
  /-- SPB records of copies A and B as stored, empty while erased. -/
  spbs : List (List Byte) := []
  slots : List FwSlot := []
  jobs : List FlashJob := []
  /-- The larger COMMIT_SEQ of the last boot and of every commit since (R401). -/
  maxSeq : Nat := 0
deriving DecidableEq, Repr, Inhabited

/-- Step of a boot (R581): waiting for the rails, reading the directory, a slot, the SPB copies, the control firmware, or ready for its end. -/
inductive BootStep where
  | rails | dir | slot | spb | fw | ready
deriving DecidableEq, Repr, Inhabited

/-- The boot in progress, and what OTP and AON hold of the life cycle. -/
structure BootSt where
  active : Bool := false
  step : BootStep := .rails
  /-- Code of Table 20-1. -/
  cause : Nat := 0
  /-- Slot being tried, whether it runs as a trial, and whether the other slot has been tried already. -/
  slot : Nat := 0
  trial : Bool := false
  otherTried : Bool := false
  fallback : Bool := false
  /-- Fault 36 or 37 was raised at this boot. -/
  spbBad : Bool := false
  /-- Reads stay in 1S-1S-1S mode. -/
  slow : Bool := false
  /-- The timebase tick at which the domains came up (R583). -/
  startAt : Nat := 0
  /-- Straps as sampled at the start of the boot. -/
  left : Bool := false
  xspiSafe : Bool := false
  /-- The boot was refused (R550, R584): DIE-D stays in reset. -/
  halted : Bool := false
  /-- No boot since the power-on reset has loaded the control firmware: the life-cycle record and the board section are still to be taken (R586, R593). -/
  fromPowerOn : Bool := true
  /-- The lowest domains only are powered, without control firmware (R632). -/
  limpOnly : Bool := false
  /-- OTP: life-cycle state apart from SERVICE, service key hash, anti-rollback counter, device ID. -/
  otpLc : Nat := 0
  otpKey : Option (List Word) := none
  otpRollback : Nat := 0
  otpId : List Word := []
  /-- Subsystem vendor ID and subsystem ID of the last boot's image (R64, R586). -/
  subVendor : Nat := 0xCA1E
  subId : Nat := 1
  /-- Challenges drawn. -/
  chalCount : Nat := 0
  /-- Lockout of R592, counted in AON: running, seconds left, and milliseconds of the second in progress. -/
  locked : Bool := false
  lockS : Nat := 0
  lockMs : Nat := 0
  /-- Sequence number of the life-cycle record in force, and the sector that holds it. -/
  lcSeq : Nat := 0
  lcSector : Nat := 0
deriving DecidableEq, Repr, Inhabited


/-- A tile's capability record (Table 09-5), as far as the device uses it. -/
structure Cap where
  raw : List Byte := []
  frameMem : Bool := false
  tw : Nat := 0
  th : Nat := 0
  dnRate : Nat := 0
  upRate : Nat := 0
deriving DecidableEq, Repr, Inhabited

/-- One tile port. -/
structure Port where
  cap : Option Cap := none
  hs : Handshake := {}
  /-- The upstream receiver, and whether the downstream transmitter's running disparity is negative (R226). -/
  rx : Receiver := {}
  neg : Bool := true
  /-- Downstream packets sent and not resolved, oldest first. -/
  unres : List SentPkt := []
  /-- Packets on the downstream lane (R280), and those that wait for it, which have no number yet (R266, R275). -/
  wire : List WirePkt := []
  outQ : List SentPkt := []
  /-- Line and SWAP packets that can no longer be sent and whose deadline is still to come (R277, R294). -/
  lost : List SentPkt := []
  /-- CTRL and CLAIM/OWNER packets waiting for the one before them (R276): type and body. -/
  ctrlQ : List (Nat × List Byte) := []
  /-- Upstream packets discarded in a row (R270). -/
  fails : Nat := 0
  order : Option TickOrder := none
  /-- A PRBS test or loop-back in progress. -/
  prbs : Option PrbsRun := none
  /-- An order that is to be sent, its tick not yet named: one voided by Totality or failed, or one that waits for the control packet before it (R239, R241, R276). -/
  reorder : Option TickOrder := none
  /-- Retrain attempts without completion (Table 08-4). -/
  retrains : Nat := 0
  /-- Limits on the target rate codes after rate failures (R239), and failures in a row at the same targets. -/
  dnLimit : Nat := 3
  upLimit : Nat := 1
  rateFails : Nat := 0
  /-- Scan cycles of its surface since the latest STATUS packet, none before the first (R213). -/
  statusAge : Option Nat := none
  /-- SCALE last sent to the tile. -/
  scale : Nat := 32768
  /-- s mod 16 of the last SWAP sent (R293, R294). -/
  swapSd : Nat := 0
  /-- The tile's first STATUS since PORT_ID has come (R315). -/
  statusSeen : Bool := false
  /-- A phase-0 production window has opened since the port entered ACTIVE, and the scan cycles in which LINE_LOST and RATE_LOW have been reported (R242, R277). -/
  dataOpen : Bool := false
  lineTold : Bool := false
  rateTold : Bool := false
  /-- Something was sent since the last keepalive period. -/
  sentAny : Bool := false
  /-- Control packets that failed, to be sent again after the retrain (R275). -/
  again : List (Nat × List Byte) := []
  /-- ECHO_ID last used, the IDs of ECHOs on their way, the last measurements (ns, newest last), and a D_dn that awaits the port's next tick (R445). -/
  echoId : Nat := 0
  echoOut : List Nat := []
  echoes : List Int := []
  dnNext : Option Int := none
  /-- A CLAIM sent whose result no STATUS has shown (R315). -/
  claimOut : Bool := false
  /-- A near-end loop-back of Sounding runs on the port (R559). -/
  sounding : Bool := false
  /-- MAP_LOAD KIND 5 in progress: its descriptor's ring and position, and image bytes not yet sent (R309). -/
  limp : Option (Nat × Nat) := none
  /-- Further ones that wait for it to complete, with their packets. -/
  limpQ : List (Nat × Nat × List (Nat × List Byte)) := []
  /-- A valid CAP has been accepted since the last PORT_ID (R284). -/
  capOk : Bool := false
  /-- A RESUME that the lane could not carry when Totality was released (R281, R371). -/
  resumeDue : Bool := false
  /-- TIME has named the next marker's tick on the port (R285). -/
  timed : Bool := false
  /-- A new throttling step's SCALE goes out after the port's next marker (R538). -/
  scaleDue : Bool := false
deriving DecidableEq, Repr, Inhabited

/-- One segment channel (R459 to R462, R478). -/
structure SegCh where
  /-- A pulse runs; the duty, the current code and NO_DIAG latched at its start. -/
  pulse : Bool := false
  /-- A fault has turned the channel off (R480). -/
  off : Bool := false
  duty : Nat := 0
  noDiag : Bool := false
  cur : Nat := 0
  /-- The bank's duty for the channel in this PWM period, its NO_DIAG, and its duty before the step (R467, R468). -/
  dutyOut : Nat := 0
  noDiagOut : Bool := false
  prev : Nat := 0
  /-- Check periods in a row with OPEN, with LED_SHORT, and failing current checks (R478, R560). -/
  openCnt : Nat := 0
  shortCnt : Nat := 0
  curFails : Nat := 0
  /-- Pin voltages in mV at the ends of the pulses of at least 2 µs of the last 10 ms, and their timebase ticks (R475). -/
  vEnds : List (Nat × Nat) := []
  /-- Pin voltage in mV at the end of the last pulse of any length (R477). -/
  mvEnd : Nat := 0
  /-- Sum of the duties of the pulses started since the last loss estimate (R477). -/
  sumDuty : Nat := 0
deriving DecidableEq, Repr, Inhabited

/-- One segment bank (R466 to R474). -/
structure SegBank where
  /-- Buffer B is the active one. -/
  active : Bool := false
  step : Nat := 0
  per : Nat := 0
  /-- The sequencer runs; a start awaits the next PWM period boundary; this PWM period began a step. -/
  going : Bool := false
  start : Bool := false
  edge : Bool := false
  /-- An armed swap: its SOURCE, and whether the edge it waits for has come. -/
  armed : Option (Nat × Bool) := none
  /-- Pattern buffers: entry of step s and index i at 16 s + i; entries beyond the list are 0. -/
  bufA : List Nat := []
  bufB : List Nat := []
  /-- The peak is to be recomputed at the next step boundary (R473). -/
  recalc : Bool := true
  /-- The channels' currents after the bank scale and after the total scale, and the bank's peak taken with the former (R473, R474). -/
  curB : List Nat := []
  curT : List Nat := []
  /-- Duties before step 0 at the last swap or start. -/
  prev0 : List Nat := []
  peakB : Nat := 0
  /-- SHORT_KEEP, LIMP_HOLD and the LIMP duties in force since the last step boundary (R485). -/
  keep : Bool := false
  hold : Bool := false
  limpDuty : List Nat := []
deriving DecidableEq, Repr, Inhabited

/-- One segment rail's headroom loop (R475, R476): exponent of VOUT_MODE, voltage wanted, and failed attempts at the transaction in progress. -/
structure SegRail where
  exp : Int := 0
  vout : Nat := 0
  justOn : Bool := false
  tries : Nat := 0
deriving DecidableEq, Repr, Inhabited

/-- The segment block. -/
structure SegSt where
  /-- Channels outside the exemption copy are off because BLANK was asserted in reset (R21). -/
  resetOff : Bool := false
  exempt : List Byte := []
  chans : List SegCh := []
  banks : List SegBank := []
  rails : List SegRail := []
  /-- Check periods in a row with NEIGHBOUR, by pair: lower channel, and 1 or 32 (R479, R609). -/
  pairs : List (Nat × Nat × Nat) := []
  /-- Pairs checked in this PWM period (R479). -/
  checked : List (Nat × Nat) := []
  /-- TOTAL_MA has changed since the total scale was last computed (R474). -/
  totalDue : Bool := false
  /-- Loss scale, the one in force in this PWM period, and PWM periods since the last loss estimate (R477). -/
  ls : Nat := 65536
  lsNow : Nat := 65536
  periods : Nat := 0
  /-- SEG_PATTERN commands whose source has been read and which await the PWM period boundary (R469). -/
  patterns : List (Desc × List Nat) := []
  /-- Faults confirmed while DIE-D is in reset: channel and kind (R482). -/
  unreported : List (Nat × Nat) := []
  /-- Timebase tick of the last accepted SEG_SYNC edge (R464); the last internal tick, as a timebase tick and as network time in ns (R465). -/
  syncAt : Option Nat := none
  tickAt : Nat := 0
  tickNs : Nat := 0
  /-- Channel that the current check measures next (R560). -/
  checkNext : Nat := 0
deriving DecidableEq, Repr, Inhabited

/-- A calibration run (R542): the item in hand (9 once all have been measured), disagreeing attempts at it, and whether an item has failed. -/
structure CalRun where
  item : Nat := 1
  attempts : Nat := 0
  failed : Bool := false
  /-- Item 5 has passed in this run, and since recovery began (R534, R535). -/
  diode : Bool := false
  recovered : Bool := false
  /-- T_gov at the start of the run. -/
  tStart : Int := 0
deriving DecidableEq, Repr, Inhabited

/-- Temperature, throttling and calibration (chapter 18). -/
structure ThermSt where
  /-- Updates in a row above the threshold, and below its release (R537). -/
  hi : Nat := 0
  lo : Nat := 0
  /-- Samples in a row with the diode further than DIFF_MAX from the AON sensor; the diode's reading lies outside its code range (R535). -/
  diff : Nat := 0
  outside : Bool := false
  /-- Conversions in a row of each remote channel above 1.8 V, below 0.05 V, and in range (R536). -/
  rch : List (Nat × Nat × Nat) := []
  run : Option CalRun := none
  /-- A run has passed, so that T_LAST is one; |T_gov - T_LAST| exceeded DT_CAL at the last update (R545). -/
  passed : Bool := false
  dtOver : Bool := false
  /-- Trims in force, by item (one value for each bank or channel that the item trims), none for OTP's, and trims that await the next PWM period boundary (R542, R546). -/
  trims : List (Option (List Int)) := []
  trimNext : List (Nat × List Int) := []
  /-- The compensation tables of the low-power and the 40 MHz oscillator in 0.1 ppm, none for OTP's entries (R544). -/
  lpoTab : List (Option Int) := []
  /-- The trims in force of the low-power and the 40 MHz oscillator, in 0.1 ppm, held in AON (R544, R546). -/
  lpoPpm : Int := 0
  segPpm : Int := 0
  segTab : List (Option Int) := []
deriving DecidableEq, Repr, Inhabited

/-- An Announce as best master selection takes it: its priority vector in the order of comparison, and the grandmaster's clockIdentity (R440). -/
structure Announce where
  vector : List Nat := []
  gm : Nat := 0
deriving DecidableEq, Repr, Inhabited

/-- One gPTP port (R440 to R443). -/
structure NetPort where
  ann : Option Announce := none
  /-- sequenceId and transmit stamp of the last Pdelay_Req (R443), whether it is unanswered, and requests in a row without an answer. -/
  seq : Nat := 0
  sentAt : Nat := 0
  waiting : Bool := false
  lost : Nat := 0
  /-- The port gave the slave role away for want of a Sync, and none has come since (R442). -/
  silent : Bool := false
deriving DecidableEq, Repr, Inhabited

/-- A PARK pattern of a core port (R518, R519). -/
structure ParkPat where
  image : List Byte := []
  inUse : Bool := false
deriving DecidableEq, Repr, Inhabited

/-- An ALIGN (Table 13-7). -/
structure TwinAlign where
  ring : Nat := 0
  opcode : Nat := 0
  tag : Nat := 0
  key : Nat := 0
  surf : Nat := 0
  /-- Phase and scan-cycle index of the named tick, and its frame number. -/
  phase : Nat := 0
  j : Nat := 0
  frame : Nat := 0
  args : List Byte := []
  /-- A shade ALIGN whose content has been applied (R417). -/
  applied : Bool := false
  /-- Whether it merged into slot 63 when it was applied (R200). -/
  merged : Bool := false
deriving DecidableEq, Repr, Inhabited

/-- A validated aligned command of the COMPANION that waits for its ALIGN, and for its named tick (R417). -/
structure TwinCmd where
  desc : Desc := {}
  key : Nat := 0
  align : Option TwinAlign := none
  /-- MAP_LOAD: the source as read. -/
  source : List Byte := []
deriving DecidableEq, Repr, Inhabited

/-- A LATCH (Table 13-8). -/
structure TwinLatch where
  frame : Nat := 0
  j : Nat := 0
  profile : Nat := 0
  av : Int := 0
  ah : Int := 0
  tv : Int := 0
  th : Int := 0
  rv : Nat := 0
  rh : Nat := 0
  zones : List (Nat × Nat) := []
deriving DecidableEq, Repr, Inhabited

/-- A DIGEST (Table 13-9). -/
structure TwinDigest where
  frame : Nat := 0
  notReady : Nat := 0
  repeated : Bool := false
  key : Nat := 0
  csig : Nat := 0
  esig : Nat := 0
  members : Nat := 0
deriving DecidableEq, Repr, Inhabited

/-- What the twin keeps for one surface. -/
structure TwinSurf where
  latch : Option TwinLatch := none
  /-- This device's own digest, and the one accepted from the LEAD, with the links on which a copy came. -/
  own : Option TwinDigest := none
  digest : Option TwinDigest := none
  links : Nat := 0
  /-- Frames that are not aligned (R423), and frames with a composed signature that did not match (R425). -/
  offs : List Nat := []
  sigBad : List Nat := []
  /-- Consecutive matched frames, and whether each of the last two frames was compared. -/
  matched : Nat := 0
  compared : List Bool := []
  /-- Fault 39 stands for this surface. -/
  disagreed : Bool := false
  /-- A fault of R425 or a failed signature in each of the last three frame intervals, newest first. -/
  bad : List Bool := []
deriving DecidableEq, Repr, Inhabited

/-- Why a COMPANION is claiming the tiles, or a LEAD gives them up (R426, R427). -/
inductive Handover where
  | none | planned | yield | arbitration | takeover
deriving DecidableEq, Repr, Inhabited

/-- One twin link's lanes (R261). -/
structure TwinLink where
  /-- Handshakes and receivers of lanes 0 and 1. -/
  hs : Handshake := {}
  hs1 : Handshake := {}
  rx0 : Receiver := {}
  rx1 : Receiver := {}
  /-- Running disparity negative at the transmitters of lanes 0 and 1 (R226), the lane of the next symbol dealt (R262), and timebase ticks since the last K28.3 (R263). -/
  neg0 : Bool := true
  neg1 : Bool := true
  turn : Nat := 0
  markTicks : Nat := 0
  /-- A PRBS test in progress. -/
  prbs : Option PrbsRun := none
  retrains : Nat := 0
  /-- RATE sets received and sent in LINKED, and the rate code received. -/
  rateRx : Nat := 0
  peerMax : Nat := 0
  rateFails : Nat := 0
  /-- Limit on the rate after failures. -/
  limit : Nat := 3
  /-- Consecutive digests that did not come on the link (R424). -/
  badDigests : Nat := 0
  /-- The link has been in ACTIVE and has left it (R429). -/
  down : Bool := false
  /-- Consecutive heartbeats with LAG_NS outside, and inside, its range (R449). -/
  lagOut : Nat := 0
  lagIn : Nat := 0
deriving DecidableEq, Repr, Inhabited

/-- The twin (chapter 13). -/
structure TwinSt where
  /-- SEQ of the next packet sent. -/
  seq : Nat := 0
  /-- Highest SEQ accepted, and which of the 32 numbers before it were accepted (R413). -/
  high : Option Nat := none
  seen : List Nat := []
  /-- Numbers below the highest that have not been accepted, with the newer ones accepted since (R413). -/
  missing : List (Nat × Nat) := []
  links : List TwinLink := []
  surfs : List TwinSurf := []
  waiting : List TwinCmd := []
  /-- ALIGNs without their command, shade ALIGNs among them. -/
  aligns : List TwinAlign := []
  /-- STATE byte of the peer's last heartbeat, and its HELD mask. -/
  peer : Nat := 0
  peerHeld : Nat := 0
  /-- Heartbeat ticks since the last accepted heartbeat, and network time of that heartbeat. -/
  missed : Nat := 0
  hbAt : Nat := 0
  /-- Consecutive heartbeats with TOT_ALL 0 (R430). -/
  totClear : Nat := 0
  /-- Consecutive low samples of TWIN_PEER (R409). -/
  peerLow : Nat := 0
  /-- A handover in progress, the epoch claimed, and HANDOVER_REFUSED of the heartbeat. -/
  handover : Handover := .none
  refused : Bool := false
  /-- Heartbeats in a row with YIELD while TWIN_PEER is high (R426). -/
  yields : Nat := 0
  /-- Disagreements under arbitration: frame, surface, own verdict, and heartbeat ticks since it was sent. -/
  arb : List (Nat × Nat × Bool × Nat) := []
  /-- Ports whose CLAIM waits for the S-tick that comes less than 20 µs after the decision (R426, R427). -/
  claimAfter : List Nat := []
  /-- Verdict of the last frame (VERDICT_OK). -/
  verdict : Bool := true
deriving DecidableEq, Repr, Inhabited

/-- Sounding (chapter 19): what it keeps beside its registers. -/
structure TestSt where
  /-- The segment in hand failed once and waits for its second test (R555). -/
  again : Bool := false
  /-- Network-independent time at which the sweep began, in timebase ticks. -/
  sweepAt : Nat := 0
  /-- Lane that the slice window tests next once one has been retired (R557). -/
  nextLane : Nat := 0
  /-- The LFSR seed, 0 to 63, from which the next logic test runs (R561). -/
  seed : Nat := 0
  /-- A test engine run in progress: unit and kind (R563). -/
  engine : Option (Nat × Nat) := none
  /-- Timebase ticks of the uncorrectable pixel store reads of the last second (R568). -/
  uncorr : List Nat := []
deriving DecidableEq, Repr, Inhabited

/-- Commands executed whose completion comes later, per submit ring; bulk commands whose source is being read, and dumps being written, in order. -/
structure CmdSt where
  waiting : List (List Desc) := [[], [], [], []]
  bulk : List Desc := []
  /-- MAP_LOAD KIND 5 whose port was disabled or changed its CAP record while its source was being read: ring and position (R309). -/
  voided : List (Nat × Nat) := []
  dumps : List (Desc × List Byte) := []
  /-- The ports' CAP records, held through PARK with the copy of the registers (R521). -/
  parkCaps : List (Option Cap) := []
deriving DecidableEq, Repr, Inhabited

/-- Input pins: LIGHT_REQ_A, LIGHT_REQ_B, BLANK_A, BLANK_B in bits 0 to 3 of `raw`. -/
structure PinSt where
  raw : Nat := 0
  /-- TICK_OUT, and TILE_SYNC of the core ports. -/
  tickOut : Bool := false
  tileSync : Nat := 0
  /-- The timebase tick at which the TICK_OUT pulse in progress ends (R62). -/
  tickEnd : Nat := 0
  /-- The reference on LNREF is present (R233). -/
  lnref : Bool := true
  /-- Ports whose TILE_ALERT_N is low (R260, R299). -/
  tileAlert : Nat := 0
deriving DecidableEq, Repr, Inhabited

/-- The local clock (R433): seconds, nanoseconds and a 32-bit fraction. -/
structure ClockSt where
  sec : Nat := 0
  ns : Nat := 0
  frac : Nat := 0
  /-- Uncertainty at the entry into HOLDOVER, or none while unbounded, and the timebase tick of that entry (R437). -/
  unc0 : Option Nat := none
  holdTick : Nat := 0
  /-- Slew term of the increment in force, and how much of the offset it has still to remove, in 2^-32 ns (R438). -/
  slewQ : Int := 0
  slewLeft : Nat := 0
  /-- Offset, in 2^-32 ns, of a step that awaits the end of a G-interval (R439). -/
  stepBy : Option Int := none
deriving DecidableEq, Repr, Inhabited

/-- The machine. -/
structure State where
  regs : RegFile := []
  fregs : RegFile := []
  clk : ClockSt := {}
  ticks : Nat := 0
  pins : PinSt := {}
  host : HostSt := {}
  cmds : CmdSt := {}
  sup : SupplySt := {}
  mode : ModeSt := {}
  flash : FlashSt := {}
  boot : BootSt := {}
  sleep : SleepRec := {}
  gens : List Gen := []
  pix : PixSt := {}
  safe : SafeSt := {}
  aon : AonSt := {}
  ports : List Port := []
  parkPats : List ParkPat := []
  seg : SegSt := {}
  therm : ThermSt := {}
  net : List NetPort := []
  twin : TwinSt := {}
  test : TestSt := {}
  out : List Output := []
  free : Nat := 0
  pending : List Instr := []
deriving DecidableEq, Repr, Inhabited

/-! ## Reset values of the parts (Table 01-2: each domain's own state) -/

/-- An entry put into an ascending register file that does not list its offset. -/
def regInsert : RegFile → Nat × Word → RegFile
  | [], e => [e]
  | (a, v) :: t, e => if e.1 < a then e :: (a, v) :: t else (a, v) :: regInsert t e

/-- The host interface after its domain powers up: seven rings at position 0. -/
def HostSt.init : HostSt := { rings := rep 7 {} }

/-- Tarn after power-on reset. -/
def ModeSt.init : ModeSt := { tarn := rep 14 {}, ruleWas := rep 16 false }

/-- The safety pair and Spillway after reset. -/
def SafeSt.init : SafeSt :=
  { surfs := rep 4 {}, zones := rep 192 {}, pair := rep 4 {}, testRow := rep 4 0, testFailed := rep 4 false }

/-- The segment block when SEG turns on. -/
def SegSt.init : SegSt := { chans := rep 192 {}, banks := rep 12 {}, rails := rep 4 {} }

/-- The thermal block after power-on reset. -/
def ThermSt.init : ThermSt := { rch := rep 4 (0, 0, 0), trims := rep 8 none, lpoTab := rep 16 none, segTab := rep 16 none }

/-- Port records as their domains leave them. -/
def Port.inits : List Port := rep 24 {}

/-- The flash as it leaves manufacture: slot A holds the factory image and is active, everything else is erased (DESIGN CHOICE, log entry 6). -/
def FlashSt.init : FlashSt := { dirs := rep 2 {}, lcs := [[], []], spbs := [[], []], slots := [{ factory := true, complete := true }, {}] }

/-- What OTP holds as it leaves manufacture: life-cycle state BLANK, no service key, counter 0, device ID 0 (DESIGN CHOICE, log entry 6). -/
def BootSt.init : BootSt := { otpId := rep 4 0 }

/-- The twin after its domain powers up. -/
def TwinSt.init : TwinSt := { links := rep 2 {}, surfs := rep 4 {} }

/-- The machine in power-on reset: every register at its reset word, every domain but AON off (R573, R603). POWER_ON_RESET starts the boot. -/
def State.reset : State :=
  { regs := resetWords, fregs := resetWords, host := HostSt.init, mode := ModeSt.init, gens := rep 4 {}, pix := PixSt.init,
    safe := SafeSt.init, ports := Port.inits, parkPats := rep 6 {}, seg := SegSt.init, therm := ThermSt.init, net := rep 2 {},
    twin := TwinSt.init, sup := { exps := rep 5 none }, flash := FlashSt.init, boot := BootSt.init }

/-- What would stop the machine: nothing. The spec gives every command an effect, or says that it has none, in every state. -/
inductive Fault
deriving DecidableEq, Repr

/-- Why the model gives a command no meaning. -/
inductive Refusal where
  /-- Raised by the arm of `exec` of a command that is not modelled. No arm raises it now; it is safe, since it stops where the device goes on. -/
  | notModelled (mnemonic : String)
deriving DecidableEq, Repr

end Sys2Proof.Machine
end

