-- ==== Sys2Proof/Machine/Ops.lean ====
section
/-! DEFINITION. The named operations over the register file, the clock and what leaves the device. Every meaning reads and writes registers through these. -/

namespace Sys2Proof.Machine

/-! ## The register file -/

/-- The word at an offset; an offset that is not listed reads 0 (R4). -/
def regGet : RegFile → Nat → Word
  | [], _ => 0
  | (a, v) :: t, x => if x = a then v else regGet t x

/-- The file without an offset. -/
def regDel : RegFile → Nat → RegFile
  | [], _ => []
  | (a, v) :: t, x => if x = a then regDel t x else (a, v) :: regDel t x

/-- The file with an entry inserted before the first larger offset. -/
def regIns : RegFile → Nat → Word → RegFile
  | [], x, w => [(x, w)]
  | (a, v) :: t, x, w => if x < a then (x, w) :: (a, v) :: t else (a, v) :: regIns t x w

/-- The file after a word is written: a zero word is not listed. -/
def regPut (r : RegFile) (x : Nat) (w : Word) : RegFile :=
  if w = 0 then regDel r x else regIns (regDel r x) x w

/-- The canonical form: offsets strictly rising, no zero word. -/
def regWf : RegFile → Bool
  | [] => true
  | [(_, v)] => v != 0
  | (a, v) :: (b, w) :: t => v != 0 && decide (a < b) && regWf ((b, w) :: t)

/-- The bits of a word from `lo`, `width` wide. -/
def wordField (w : Word) (lo width : Nat) : Nat := w.toNat / 2 ^ lo % 2 ^ width

/-- A word with the bits from `lo`, `width` wide, replaced by the low bits of `v`. -/
def wordSet (w : Word) (lo width v : Nat) : Word :=
  BitVec.ofNat 32 (w.toNat % 2 ^ lo + v % 2 ^ width * 2 ^ lo + w.toNat / 2 ^ (lo + width) * 2 ^ (lo + width))

/-- The register at an offset. -/
def State.rd (s : State) (a : Nat) : Word := regGet s.regs a

/-- The register at an offset, written. -/
def State.wr (s : State) (a : Nat) (w : Word) : State := { s with regs := regPut s.regs a w }

/-- A field's value. -/
def State.fget (s : State) (f : Fld) : Nat := wordField (s.rd f.addr) f.lo f.width

/-- A one-bit field as a Bool. -/
def State.fbit (s : State) (f : Fld) : Bool := s.fget f != 0

/-- A field written by the hardware. -/
def State.fset (s : State) (f : Fld) (v : Nat) : State :=
  s.wr f.addr (wordSet (s.rd f.addr) f.lo f.width v)

/-- A one-bit field written by the hardware. -/
def State.fsetb (s : State) (f : Fld) (b : Bool) : State := s.fset f (b2n b)

/-- A counter field that saturates at its width (R602). -/
def State.fadd (s : State) (f : Fld) (k : Nat) : State :=
  s.fset f (satAdd (2 ^ f.width - 1) (s.fget f) k)

/-- A signed field's value. -/
def State.fint (s : State) (f : Fld) : Int := toSigned f.width (s.fget f)

/-- A signed field written. -/
def State.fseti (s : State) (f : Fld) (v : Int) : State := s.fset f (ofSigned f.width v)

/-- A class F field's value in force (R6, R9): the register holds the value written. -/
def State.inForce (s : State) (f : Fld) : Nat := wordField (regGet s.fregs f.addr) f.lo f.width

/-- A class F register is about to be written while its surface runs: what it held before this timebase tick is kept (R6). -/
def State.keepF (s : State) (a : Nat) : State :=
  let old := if s.pix.fTick = s.ticks then s.pix.fOld else []
  let old := if old.any (fun e => e.1 == a) then old else old ++ [(a, s.rd a)]
  { s with pix := { s.pix with fTick := s.ticks, fOld := old } }

/-- What a governing instant in this timebase tick finds in a class F register: a value written in the tick itself counts as written after it (R6). -/
def State.dueWord (s : State) (a : Nat) : Word :=
  match (if s.pix.fTick = s.ticks then s.pix.fOld else []).find? fun e => e.1 == a with
  | some e => e.2
  | none => s.rd a

/-- A class F field comes into force at its governing instant (R6). -/
def State.takeDue (s : State) (f : Fld) : State :=
  { s with fregs := regPut s.fregs f.addr (wordSet (regGet s.fregs f.addr) f.lo f.width (wordField (s.dueWord f.addr) f.lo f.width)) }

/-- The value written to a class F field comes into force at once. -/
def State.takeForce (s : State) (f : Fld) : State :=
  { s with fregs := regPut s.fregs f.addr (wordSet (regGet s.fregs f.addr) f.lo f.width (s.fget f)) }

/-! ## What leaves the device -/

/-- One thing leaves the device. -/
def State.emit (s : State) (o : Output) : State := { s with out := s.out ++ [o] }

/-- Several things leave the device, in order. -/
def State.emits (s : State) (os : List Output) : State := { s with out := s.out ++ os }

/-! ## Free values -/

/-- The next free value of this machine: nothing fixes what it is. -/
def State.freeVal (s : State) : Nat := Config.freeNat s.free

/-- The state with the next free value drawn. -/
def State.drawn (s : State) : State := { s with free := s.free + 1 }

/-! ## Folding over instances -/

/-- A state carried through a list of indices. -/
def overList (f : Nat → State → State) : List Nat → State → State
  | [], s => s
  | i :: is, s => overList f is (f i s)

/-- A state carried through the indices 0 to `n - 1`. -/
def overAll (n : Nat) (f : Nat → State → State) (s : State) : State := overList f (List.range n) s

/-! ## The local clock (R433 to R435) -/

/-- Network time in nanoseconds, fraction dropped. -/
def State.nowNs (s : State) : Nat := s.clk.sec * 1000000000 + s.clk.ns

/-- Network time in the form of VALIDATED_AT: nanoseconds, then the low 32 bits of seconds (Table 03-8). -/
def State.stamp (s : State) : List Byte := leBytes 4 s.clk.ns ++ leBytes 4 (s.clk.sec % 2 ^ 32)

/-! ## Domains (R17, R504) -/

/-- Whether the domain with a code of Table 16-3 is on. -/
def State.domOn (s : State) (d : Nat) : Bool := bitOf (s.fget R.PWR_DOM_STATUS_ON) d

/-- A domain's bit of PWR_DOM_STATUS.ON, written. -/
def State.domSet (s : State) (d : Nat) (on : Bool) : State :=
  let v := s.fget R.PWR_DOM_STATUS_ON
  s.fset R.PWR_DOM_STATUS_ON (v % 2 ^ d + b2n on * 2 ^ d + v / 2 ^ (d + 1) * 2 ^ (d + 1))

/-- The domain of a tile port: TLA for 0 to 11, TLB for 12 to 23 (Table 16-5). -/
def portDomain (p : Nat) : Nat := if p < 12 then 6 else 7

/-- Whether a tile port is powered: its domain is on, and ports 6 to 11 only outside TLA's LIMP subset (R500). -/
def State.portOn (s : State) (p : Nat) : Bool :=
  s.domOn (portDomain p) && !(s.fbit R.PWR_DOM_STATUS_TLA_LIMP && decide (6 ≤ p))

/-! ## Bit masks -/

/-- n / d rounded up. -/
def ceilDiv (n d : Nat) : Nat := (n + d - 1) / d

/-- A mask with bit `i` written. -/
def maskSet (m i : Nat) (b : Bool) : Nat := m % 2 ^ i + b2n b * 2 ^ i + m / 2 ^ (i + 1) * 2 ^ (i + 1)

/-- The indices below `n` whose bits of a mask are 1. -/
def maskList (n m : Nat) : List Nat := (List.range n).filter (bitOf m)

/-- A mask of the given indices. -/
def maskOf (is : List Nat) : Nat := is.foldl (fun m i => maskSet m i true) 0

end Sys2Proof.Machine
end

