-- ==== Sys2Proof/Machine/Coding.lean ====
section
/-! DEFINITION. What a lane carries (R225 to R229, R251, R254): symbols and their 8b/10b code groups, ordered sets, the symbols of everything that a lane sends, receivers, and the PRBS generators and checkers. The code tables are those of IEEE 802.3 Clause 36, which R225 names (log entry 118). -/

namespace Sys2Proof.Machine

/-! ## Symbols and code groups (R225 to R227) -/

/-- A symbol of a lane: a data octet, or a K-code's octet. -/
structure Symbol where
  k : Bool
  octet : Nat
deriving DecidableEq, Repr

/-- A data symbol. -/
def dataSym (b : Nat) : Symbol := ⟨false, b % 256⟩

/-- K28.y. -/
def k28 (y : Nat) : Symbol := ⟨true, 28 + 32 * y⟩

/-- COMMA, SOP, EOP and ABORT (Table 08-2). -/
def symComma : Symbol := k28 5
def symSop : Symbol := ⟨true, 0xFB⟩
def symEop : Symbol := ⟨true, 0xFD⟩
def symAbort : Symbol := ⟨true, 0xFE⟩

/-- The K-codes of Table 08-2; a receiver takes any other as an invalid symbol (R227). -/
def kCodes : List Nat := [0xBC, 0xFB, 0xFD, 0xFE, 0x1C, 0x5C, 0x7C]

/-- Code groups abcdei of D.0 to D.31 at negative running disparity, bit a highest. -/
def code6 : List Nat :=
  [0b100111, 0b011101, 0b101101, 0b110001, 0b110101, 0b101001, 0b011001, 0b111000]
  ++ [0b111001, 0b100101, 0b010101, 0b110100, 0b001101, 0b101100, 0b011100, 0b010111]
  ++ [0b011011, 0b100011, 0b010011, 0b110010, 0b001011, 0b101010, 0b011010, 0b111010]
  ++ [0b110011, 0b100110, 0b010110, 0b110110, 0b001110, 0b101110, 0b011110, 0b101011]

/-- Code groups fghj of D.x.0 to D.x.6 and the primary D.x.7 at negative running disparity, bit f highest. -/
def code4 : List Nat := [0b1011, 0b1001, 0b0101, 0b1100, 0b1101, 0b1010, 0b0110, 0b1110]

/-- Code groups fghj of K.x.y at negative running disparity; at positive running disparity each is its complement. -/
def codeK4 : List Nat := [0b1011, 0b0110, 0b1010, 0b1100, 0b1101, 0b0101, 0b1001, 0b0111]

/-- The ones among the low bits of a value. -/
def onesOf : Nat → Nat → Nat
  | 0, _ => 0
  | n + 1, v => v % 2 + onesOf n (v / 2)

/-- A sub-block of `w` bits written for negative running disparity, as sent at either: one that is not balanced, and D.7 and D.x.3, is complemented at positive running disparity. -/
def atDisparity (neg flips : Bool) (w v : Nat) : Nat :=
  if neg then v else if flips || onesOf w v * 2 != w then 2 ^ w - 1 - v else v

/-- Running disparity after a sub-block: unchanged where it is balanced. -/
def afterBlock (neg : Bool) (w v : Nat) : Bool :=
  if onesOf w v * 2 = w then neg else decide (onesOf w v * 2 < w)

/-- The code group of a symbol at a running disparity, bit a highest and sent first. -/
def codeGroup (neg : Bool) (s : Symbol) : Nat :=
  let x := s.octet % 32
  let y := s.octet / 32
  let six := if s.k && x == 28 then (if neg then 0b001111 else 0b110000) else atDisparity neg (x == 7) 6 (nth code6 x)
  let mid := afterBlock neg 6 six
  let four :=
    if s.k then (let v := nth codeK4 y; if mid then v else 15 - v)
    else if y = 7 && (if mid then [17, 18, 20].contains x else [11, 13, 14].contains x) then (if mid then 0b0111 else 0b1000)
    else atDisparity mid (y == 3) 4 (nth code4 y)
  16 * six + four

/-- Running disparity after a code group. -/
def afterGroup (neg : Bool) (g : Nat) : Bool := afterBlock (afterBlock neg 6 (g / 16)) 4 (g % 16)

/-- Running disparity after some symbols. -/
def afterSymbols (neg : Bool) (l : List Symbol) : Bool := l.foldl (fun n s => afterGroup n (codeGroup n s)) neg

/-- The code groups of some symbols from a running disparity on. -/
def codeGroups : Bool → List Symbol → List Nat
  | _, [] => []
  | neg, s :: t => codeGroup neg s :: codeGroups (afterGroup neg (codeGroup neg s)) t

/-- Every symbol that a lane may carry. -/
def allSymbols : List Symbol := (kCodes.map fun o => ⟨true, o⟩) ++ (List.range 256).map dataSym

/-- The valid symbol that a received code group is at a running disparity, if any (R227). -/
def symbolAt (neg : Bool) (g : Nat) : Option Symbol := allSymbols.find? fun s => codeGroup neg s == g

/-! ## Ordered sets (R228) -/

/-- Data octets of TRN0, TRN1, EIE and RATE with its code (Table 08-3). -/
def setOctet (kind code : Nat) : Nat :=
  if kind = 0 then 0x4A else if kind = 1 then 0x50 else if kind = 2 then 0xC4 else 0xA0 + code % 4

/-- The ordered set that a data octet after K28.5 makes: its kind and rate code; none is an invalid symbol (R228). -/
def setOf (octet : Nat) : Option (Nat × Nat) :=
  if octet = 0x4A then some (0, 0)
  else if octet = 0x50 then some (1, 0)
  else if octet = 0xC4 then some (2, 0)
  else if 0xA0 ≤ octet ∧ octet ≤ 0xA3 then some (3, octet - 0xA0)
  else none

/-- The two symbols of an ordered set. -/
def setSymbols (kind code : Nat) : List Symbol := [symComma, dataSym (setOctet kind code)]

/-- The exit burst: 16 K28.5 and 8 D21.5 (R246). -/
def burstSymbols : List Symbol := rep 16 symComma ++ rep 8 (dataSym 0xB5)

/-- A packet: one K28.5 that parts it from what went before (R229), SOP, its bytes, EOP (R266). -/
def packetSymbols (bytes : List Byte) : List Symbol :=
  [symComma] ++ [symSop] ++ bytes.map (fun b => dataSym b.toNat) ++ [symEop]

/-- The symbols of a lane's output on its lane; on a twin link, those of its dealt stream, or of each lane where they are not dealt (R262). -/
def Output.symbols : Output → List Symbol
  | .kcode _ k => [k28 k]
  | .marker _ _ => [k28 2]
  | .orderedSet _ kind body => setSymbols kind (leAt body 0 1)
  | .exitBurst _ => burstSymbols
  | .packet _ _ _ bytes => packetSymbols bytes
  | .twinK _ k => [k28 k]
  | .twinSet _ _ kind body => setSymbols kind (leAt body 0 1)
  | .twinPacket _ _ _ bytes => packetSymbols bytes
  | _ => []

/-- A twin link's stream dealt over its two lanes, from the lane whose turn it is: one symbol each in turn (R262). -/
def deal : Nat → List Symbol → List Symbol × List Symbol
  | _, [] => ([], [])
  | 0, s :: t => let r := deal 1 t; (s :: r.1, r.2)
  | _ + 1, s :: t => let r := deal 0 t; (r.1, s :: r.2)

/-- The stream put together again from two lanes, whose symbols that are not dealt have been removed (R263). -/
def undeal : List Symbol → List Symbol → List Symbol
  | [], _ => []
  | a :: _, [] => [a]
  | a :: l, b :: r => a :: b :: undeal l r

/-- A lane's symbols without those that are not dealt: K28.3, K28.0 and K28.2 (R262, R263). -/
def dealtOnly (l : List Symbol) : List Symbol := l.filter fun s => s != k28 3 && s != k28 0 && s != k28 2

/-! ## Receivers (R226, R236) -/

/-- A K28.5 code group, with the running disparity before it: a receiver accepts either when it aligns (R226). -/
def commaStart (g : Nat) : Option Bool :=
  if g = codeGroup true symComma then some true else if g = codeGroup false symComma then some false else none

/-- Whether a receiver has declared lock: 64 valid symbols in a row aligned on a K28.5 (R236). -/
def Receiver.locked (r : Receiver) : Bool := decide (64 ≤ r.run)

/-- A receiver that is not locked takes a symbol: it aligns on a K28.5, counts valid symbols, and starts over at an invalid one. -/
def Receiver.seek (r : Receiver) (x : RxSymbol) : Receiver :=
  match x with
  | .stray => {}
  | .group c =>
    let start : Receiver := match commaStart c.toNat with
      | some n => { neg := some (afterGroup n c.toNat), run := 1 }
      | none => {}
    match r.neg with
    | none => start
    | some n => if (symbolAt n c.toNat).isSome then { r with neg := some (afterGroup n c.toNat), run := r.run + 1 } else start

/-- Whether a symbol is valid for a locked receiver: a code group of the tables at the running disparity, at the locked boundary (R227, R236). -/
def Receiver.valid (r : Receiver) (x : RxSymbol) : Bool :=
  match x, r.neg with
  | .group c, some n => (symbolAt n c.toNat).isSome
  | .group c, none => (symbolAt true c.toNat).isSome || (symbolAt false c.toNat).isSome
  | .stray, _ => false

/-- The running disparity that a locked receiver holds after a symbol. -/
def Receiver.follow (r : Receiver) (x : RxSymbol) : Option Bool :=
  match x with
  | .group c => r.neg.map fun n => afterGroup n c.toNat
  | .stray => r.neg

/-- A locked receiver takes a symbol: 8 invalid ones within any 64 lose lock (R236). -/
def Receiver.hold (r : Receiver) (x : RxSymbol) : Receiver :=
  let win := (r.valid x :: r.recent).take 64
  if 8 ≤ (win.filter fun b => !b).length then {} else { r with neg := r.follow x, recent := win }

/-- A receiver takes some symbols. -/
def Receiver.take (r : Receiver) (xs : List RxSymbol) : Receiver := xs.foldl (fun q x => if q.locked then q.hold x else q.seek x) r

/-- Invalid symbols among those that a locked receiver takes, up to the one that loses lock. -/
def Receiver.invalid : Receiver → List RxSymbol → Nat
  | _, [] => 0
  | r, x :: t => if r.locked then b2n (!r.valid x) + Receiver.invalid (r.hold x) t else 0

/-- Whether lock is lost within some symbols. -/
def Receiver.loses : Receiver → List RxSymbol → Bool
  | _, [] => false
  | r, x :: t => r.locked && (!(r.hold x).locked || Receiver.loses (r.hold x) t)

/-- D21.5 of an exit burst in a row, after one more symbol. -/
def burstCount (r : Receiver) (k : Nat) (x : RxSymbol) : Nat :=
  match x, r.neg with
  | .group c, some n => if symbolAt n c.toNat == some (dataSym 0xB5) then k + 1 else 0
  | _, _ => 0

/-- The receiver of an idle lane aligns on an exit burst, and takes the lane as usable once it has received 8 valid D21.5 (R246): the receiver as it then stands, and the symbols after the burst. -/
def burstScan : Receiver → Nat → List RxSymbol → Option (Receiver × List RxSymbol)
  | r, k, [] => if 8 ≤ k then some ({ r with run := 64, recent := [] }, []) else none
  | r, k, x :: t => if 8 ≤ k then some ({ r with run := 64, recent := [] }, x :: t) else burstScan (r.seek x) (burstCount r k x) t

/-! ## PRBS generators and checkers (R251, R254) -/

/-- Degree and second tap of a pattern: 0 PRBS7, 1 PRBS15, 2 and 3 PRBS31. -/
def prbsTaps (pattern : Nat) : Nat × Nat := if pattern = 0 then (7, 6) else if pattern = 1 then (15, 14) else (31, 28)

/-- The bit that a register of a pattern gives next. -/
def prbsBit (pattern lfsr : Nat) : Bool :=
  let t := prbsTaps pattern
  bitOf lfsr (t.1 - 1) != bitOf lfsr (t.2 - 1)

/-- The register with a bit shifted in. -/
def prbsShift (pattern lfsr : Nat) (b : Bool) : Nat := (2 * lfsr + b2n b) % 2 ^ (prbsTaps pattern).1

/-- The next `k` bits of a generator. -/
def prbsBits (pattern : Nat) : Nat → Nat → List Bool
  | 0, _ => []
  | k + 1, lfsr => let b := prbsBit pattern lfsr; b :: prbsBits pattern k (prbsShift pattern lfsr b)

/-- A generator starts from all ones (R251). -/
def prbsStart (pattern : Nat) : Nat := 2 ^ (prbsTaps pattern).1 - 1

/-- One checker: its register and how many received bits that has loaded, correct predictions in a row out of sync, the last errors in sync, and its counts. -/
structure Checker where
  reg : Nat := 0
  loaded : Nat := 0
  run : Nat := 0
  sync : Bool := false
  recent : List Bool := []
  errs : Nat := 0
  checked : Nat := 0
  resyncs : Nat := 0
deriving DecidableEq, Repr, Inhabited

/-- A checker takes a bit. In sync its register follows its own predictions, so that an error counts once (DEDUCED, log entry 119). -/
def Checker.take (pattern : Nat) (c : Checker) (b : Bool) : Checker :=
  let guess := prbsBit pattern c.reg
  if c.sync then
    let recent := ((guess != b) :: c.recent).take 64
    let c := { c with reg := prbsShift pattern c.reg guess, recent := recent, errs := c.errs + b2n (guess != b), checked := c.checked + 1 }
    if 16 ≤ (recent.filter id).length then
      { c with sync := false, loaded := 0, run := 0, recent := [], resyncs := c.resyncs + 1 }
    else c
  else
    let run := if (prbsTaps pattern).1 ≤ c.loaded ∧ guess = b then c.run + 1 else 0
    { c with reg := prbsShift pattern c.reg b, loaded := c.loaded + 1, run := run, sync := decide (64 ≤ run) }

/-- A checker over the bits received. -/
def checkBits (pattern : Nat) (bits : List Bool) : Checker := bits.foldl (Checker.take pattern) {}

end Sys2Proof.Machine
end

