-- ==== Sys2Proof/Machine/Records.lean ====
section
/-! DEFINITION. Device-to-host records (R89 to R93): completions, events and health records, their rings, and the MSI-X messages that signal them. -/

namespace Sys2Proof.Machine

/-! ## Ring positions (R74 to R76) -/

/-- Entries of a ring: 2 to the power of SIZE_LOG2. -/
def State.ringSize (s : State) (n : Nat) : Nat := 2 ^ s.fget (R.HOST_RING_CFG_SIZE_LOG2 n)

/-- Bus address of a ring. -/
def State.ringBase (s : State) (n : Nat) : Nat :=
  s.fget (R.HOST_RING_BASE_LO_ADDR_LO n) * 4096 + s.fget (R.HOST_RING_BASE_HI_ADDR_HI n) * 2 ^ 32

/-- Slot index of a position. -/
def posIndex (size p : Nat) : Nat := p % size

/-- Generation of the pass that holds a position. -/
def posGen (size p : Nat) : Nat := (p / size + 1) % 2

/-- A ring of the state. -/
def State.ring (s : State) (n : Nat) : Ring := nth s.host.rings n

/-- A ring of the state, changed. -/
def State.setRing (s : State) (n : Nat) (f : Ring → Ring) : State :=
  { s with host := { s.host with rings := upd f s.host.rings n } }

/-- HOST_RINGn_HEAD as the ring's head position gives it. -/
def State.showHead (s : State) (n : Nat) : State :=
  let size := s.ringSize n
  (s.fset (R.HOST_RING_HEAD_INDEX n) (posIndex size (s.ring n).head)).fset
    (R.HOST_RING_HEAD_GEN n) (posGen size (s.ring n).head)

/-- Whether a ring is enabled and its domain on. -/
def State.ringOn (s : State) (n : Nat) : Bool := s.fbit (R.HOST_RING_CTRL_ENABLE n) && s.domOn 5

/-- Ring traffic is paused: D3hot (R69), Bus Master Enable 0 (R70), or the link down (R65). -/
def State.ringsPaused (s : State) : Bool :=
  s.fbit R.HOST_STATUS_D3 || !s.host.busMaster || !s.fbit R.HOST_STATUS_LINK_UP

/-- Whether a device-to-host ring has a free slot (R76, R92). -/
def State.slotFree (s : State) (n : Nat) : Bool :=
  s.ringOn n && decide ((s.ring n).head - (s.ring n).tail < s.ringSize n)

/-! ## MSI-X (R93) -/

/-- Offset of the vector control word of an MSI-X table entry. -/
def msixControl (v : Nat) : Nat := 0x1800C + v * 16

/-- Whether a vector is masked: by its table entry, or by Function Mask. -/
def State.vectorMasked (s : State) (v : Nat) : Bool := wordField (s.rd (msixControl v)) 0 1 == 1 || s.host.pcie.funcMask

/-- The message of a vector, to the address and with the data of its table entry. -/
def State.msixOut (s : State) (v : Nat) : Output :=
  .msix v ((s.rd (0x18000 + v * 16)).toNat + (s.rd (0x18004 + v * 16)).toNat * 2 ^ 32) (s.rd (0x18008 + v * 16))

/-- A vector is sent, or its pending bit set where it is masked; with MSI-X Enable 0 no vector is sent (PRESUMED, log entry 116). -/
def State.sendVector (s : State) (v : Nat) : State :=
  if !s.host.pcie.msixEnable then s
  else if s.vectorMasked v then
    { s with host := { s.host with pba := maskSet s.host.pba v true } }.emit (.msixPending v)
  else s.emit (s.msixOut v)

/-- A ring's vector is sent for the records written and not yet signalled. -/
def State.signal (s : State) (n : Nat) : State :=
  (s.setRing n fun r => { r with unsig := 0 }).sendVector (s.fget (R.HOST_RING_CFG_VECTOR n))

/-- After a record: the vector is sent where the record asks for it or the count reaches COAL_COUNT, or at once where COAL_US is 0; a COAL_COUNT of 0 or 1 signals every record (R93). -/
def State.coalesce (s : State) (n : Nat) (irq : Bool) : State :=
  let s := s.setRing n fun r => { r with unsig := r.unsig + 1 }
  if irq || decide (s.fget (R.HOST_RING_CFG_COAL_COUNT n) ≤ (s.ring n).unsig) || s.fget (R.HOST_RING_CFG_COAL_US n) == 0 then s.signal n else s

/-! ## Writing a record -/

/-- The 64 bytes written to the ring: the given 60 bytes with GEN in byte 1, then the CRC folded with ring, slot and generation (R75, R81). -/
def sealRecord (ring slot gen : Nat) (body : List Byte) : List Byte :=
  let b := padTo 0 60 (upd (fun f => BitVec.ofNat 8 (f.toNat / 2 * 2 + gen)) body 1)
  b ++ leBytes 4 (crcWith (recordPrefix ring slot gen) b)

/-- A record goes into the next slot of its ring (R89), which has one free. -/
def State.putRecord (s : State) (n : Nat) (body : List Byte) (irq : Bool) : State :=
  let size := s.ringSize n
  let p := (s.ring n).head
  let s := s.emit (.record n (posIndex size p) (s.ringBase n + 64 * posIndex size p) (sealRecord n (posIndex size p) (posGen size p) body))
  let s := (s.setRing n fun r => { r with head := p + 1 }).showHead n
  s.coalesce n irq

/-! ## Events and health records (Table 03-9, R92) -/

/-- A record of EVT or HLT with LOST and LOST_COUNT of the records dropped before it. -/
def withLost (lost : Nat) (body : List Byte) : List Byte :=
  let b := upd (fun f => f ||| (if lost = 0 then 0 else 2)) body 1
  b.take 20 ++ leBytes 2 (min lost 0xFFFF) ++ b.drop 22

/-- An EVT or HLT record is written, held while traffic is paused, or dropped and counted where the ring has no free slot (R92). -/
def State.record (s : State) (n : Nat) (body : List Byte) : State :=
  let s := s.setRing n fun r => { r with seq := (r.seq + 1) % 2 ^ 32 }
  if s.ringOn n && s.ringsPaused then
    { s with host := { s.host with heldRecords := s.host.heldRecords ++ [{ ring := n, bytes := body }] } }
  else if s.slotFree n then
    let lost := (s.ring n).lostPend
    (s.setRing n fun r => { r with lostPend := 0 }).putRecord n (withLost lost body) false
  else
    (s.setRing n fun r => { r with lostPend := r.lostPend + 1 }).fadd
      (if n = 5 then R.HOST_EVT_LOST_EVT else R.HOST_EVT_LOST_HLT) 1

/-- The bytes of an EVT or HLT record before LOST is folded in: SOURCE, FLAGS, CODE, SEQ, TIME, FRAME, LOST_COUNT, BODY (Table 03-9). -/
def recordBytes (source code seq : Nat) (time : List Byte) (frame : Nat) (body : List Byte) : List Byte :=
  [BitVec.ofNat 8 source, 0] ++ leBytes 2 code ++ leBytes 4 seq ++ time ++ leBytes 4 frame ++ [0, 0] ++ padTo 0 38 body

/-- An EVT record: its code, the block that Table 04-12 gives, its frame and its BODY from byte 22. -/
def State.event (s : State) (source code frame : Nat) (body : List Byte) : State :=
  s.record 5 (recordBytes source code (s.ring 5).seq s.stamp frame body)

/-- An EVT record that concerns no surface carries TG_0's frame number. -/
def State.eventDev (s : State) (source code : Nat) (body : List Byte) : State :=
  s.event source code (s.fget (R.TG_FRAME_FRAME_NUM 0)) body

/-- An EVT record that concerns a surface. -/
def State.eventSurf (s : State) (source code surf : Nat) (body : List Byte) : State :=
  s.event source code (s.fget (R.TG_FRAME_FRAME_NUM surf)) body

/-- An HLT record: every one has SOURCE 0x05 (R137). -/
def State.health (s : State) (code frame : Nat) (body : List Byte) : State :=
  s.record 6 (recordBytes 5 code (s.ring 6).seq s.stamp frame body)

/-- One byte of a body. -/
def u8 (v : Nat) : List Byte := [BitVec.ofNat 8 v]

/-! ## Completions (R84, R91, Table 03-8) -/

/-- Status codes of Table 04-2. -/
inductive Status where
  | ok | descCrc | badOpcode | wrongRing | lifecycle | targetInvalid | payloadLen | hostRead | payloadCrc
  | argInvalid | sourceCrc | layerCapacity | scalerCapacity | signatureCapacity | ephemerisFull | pixelRate
  | timingInvalid | surfaceBusy | portBusy | bankPending | aimRange | profileInvalid | modeRefused | safeRefused
  | notFound | spbInvalid | spbMismatch | flashFail | fwSignature | fwRollback | fenceTimeout | limpPageLimit
deriving DecidableEq, Repr

/-- The code of a status (Table 04-2). -/
def Status.code : Status → Nat
  | .ok => 0 | .descCrc => 0x10 | .badOpcode => 0x11 | .wrongRing => 0x12 | .lifecycle => 0x13
  | .targetInvalid => 0x14 | .payloadLen => 0x15 | .hostRead => 0x16 | .payloadCrc => 0x17 | .argInvalid => 0x18
  | .sourceCrc => 0x19 | .layerCapacity => 0x20 | .scalerCapacity => 0x21 | .signatureCapacity => 0x22
  | .ephemerisFull => 0x23 | .pixelRate => 0x24 | .timingInvalid => 0x25 | .surfaceBusy => 0x26 | .portBusy => 0x27
  | .bankPending => 0x28 | .aimRange => 0x29 | .profileInvalid => 0x2A | .modeRefused => 0x2B | .safeRefused => 0x2C
  | .notFound => 0x2D | .spbInvalid => 0x2E | .spbMismatch => 0x2F | .flashFail => 0x30 | .fwSignature => 0x31
  | .fwRollback => 0x32 | .fenceTimeout => 0x33 | .limpPageLimit => 0x34

/-- A completion record without SQ_HEAD's place filled: bytes 6 to 7 are written when the record goes out (Table 03-8). -/
def completionBytes (ring tag slot status opcode frame : Nat) (time result : List Byte) : List Byte :=
  [BitVec.ofNat 8 ring, 0] ++ leBytes 2 tag ++ leBytes 2 slot ++ [0, 0] ++ leBytes 2 status
    ++ u8 opcode ++ [0] ++ leBytes 4 frame ++ time ++ padTo 0 36 result

/-- SQ_HEAD of a completion on a ring of a size: the position after the descriptor, or the slot itself on a ring that halted on it (R86). -/
def sqHead (size pos : Nat) (halted : Bool) : Nat :=
  let p := if halted then pos else pos + 1
  posIndex size p + posGen size p * 2 ^ 15

/-- A CPL record of a descriptor is written, queued where no slot is free, and CPL_STALL set where the queue is full (R91). -/
def State.completeRecord (s : State) (src : Nat × Nat) (body : List Byte) (irq : Bool) : State :=
  if s.host.cplQueue.isEmpty && s.slotFree 4 && !s.ringsPaused then s.putRecord 4 body irq
  else
    let s := { s with host := { s.host with cplQueue := s.host.cplQueue ++ [⟨4, body, irq, [src]⟩] } }
    if decide (64 ≤ s.host.cplQueue.length) then s.fsetb R.HOST_STATUS_CPL_STALL true else s

/-- A QUIET descriptor writes no record: it counts as completed with the last one that waits before it (R135). -/
def State.quietRecord (s : State) (src : Nat × Nat) : State :=
  let q := s.host.cplQueue
  { s with host := { s.host with cplQueue := upd (fun h => { h with src := h.src ++ [src] }) q (q.length - 1) } }

/-- The completions of one ring that are due go out in index order (R84): only the oldest unwritten one, if it is ready. -/
def flushList (ring : Nat) (s : State) : List Outstanding → List Outstanding → State × List Outstanding
  | acc, [] => (s, acc)
  | acc, o :: os =>
    if o.written then flushList ring s (acc ++ [o]) os
    else match o.ready with
      | some body =>
        let s := if body.isEmpty then s.quietRecord (ring, o.pos) else s.completeRecord (ring, o.pos) body o.irq
        flushList ring s (acc ++ [{ o with written := true }]) os
      | none => (s, acc ++ (o :: os))

/-- A descriptor that is not both completed and in effect (R135). -/
def Outstanding.live (o : Outstanding) : Bool := !o.written || o.effect != .now

/-- Write every completion of a ring that is due and forget descriptors that are both completed and in effect. -/
def State.flushRing (s : State) (ring : Nat) : State :=
  let r := flushList ring s [] (s.ring ring).outst
  r.1.setRing ring fun q => { q with outst := r.2.filter Outstanding.live }

/-- Whether an entry is that of the descriptor at a position whose completion is still to come: a slot that RESUME fetches again has a second entry (R86). -/
def Outstanding.due (o : Outstanding) (pos : Nat) : Bool := o.pos == pos && o.ready.isNone

/-- The network time at which a slot's command was validated, or now where it was not (Table 03-8). -/
def State.validatedAt (s : State) (d : Desc) : List Byte :=
  match (s.ring d.ring).outst.find? fun o => o.due d.pos with
  | some o => if o.stamp.isEmpty then s.stamp else o.stamp
  | none => s.stamp

/-- SQ_HEAD that a descriptor's completion carries (R98). -/
def State.headOf (s : State) (d : Desc) : Nat :=
  match (s.ring d.ring).outst.find? fun o => o.due d.pos with
  | some o => o.head
  | none => sqHead (s.ringSize d.ring) d.pos false

/-- The command in a slot completes: its record is due, and its effect comes at the given instant (R135). -/
def State.completeAt (s : State) (d : Desc) (st : Status) (frame : Nat) (result : List Byte) (eff : EffectAt) : State :=
  let quiet := bitOf (leAt d.bytes 1 1) 2 && st == .ok
  let body := completionBytes d.ring (leAt d.bytes 2 2) d.slot st.code (leAt d.bytes 0 1) frame (s.validatedAt d) result
  let head := s.headOf d
  let body := if quiet then [] else body.take 6 ++ leBytes 2 head ++ body.drop 8
  (s.setRing d.ring fun q => { q with outst := q.outst.map (fun o =>
    if o.due d.pos then { o with ready := some body, irq := bitOf (leAt d.bytes 1 1) 1, effect := eff } else o) }).flushRing d.ring

/-- The command completes and is in effect. -/
def State.complete (s : State) (d : Desc) (st : Status) (frame : Nat) (result : List Byte) : State :=
  s.completeAt d st frame result .now

/-- The effects that an instant brings: descriptors waiting for it are in effect (R135). -/
def State.effectDue (s : State) (due : EffectAt → Bool) : State :=
  { s with host := { s.host with rings := s.host.rings.map fun q =>
    { q with outst := (q.outst.map (fun o => if due o.effect then { o with effect := .now } else o)).filter Outstanding.live } } }

/-- The descriptor at the front of a ring's arrived queue. -/
def State.front (s : State) (ring : Nat) : Option Desc := (s.ring ring).arrived.head?

/-- The checks of a slot's descriptor end at this network time: VALIDATED_AT of its completion (Table 03-8). -/
def State.stampSlot (s : State) (ring pos : Nat) : State :=
  s.setRing ring fun r => { r with outst := r.outst.map fun o => if o.due pos then { o with stamp := s.stamp } else o }

/-- The ring without its front descriptor: it has been checked, at this network time. -/
def State.popDesc (s : State) (ring : Nat) : State :=
  match s.front ring with
  | none => s
  | some d => (s.stampSlot ring d.pos).setRing ring fun r => { r with arrived := r.arrived.drop 1 }

/-! ## Released slots -/

/-- Completions held in the internal queue go out while slots are free, and fetching resumes (R91). -/
def drainCpl : Nat → State → State
  | 0, s => s
  | n + 1, s =>
    match s.host.cplQueue with
    | [] => s
    | h :: t =>
      if s.slotFree 4 && !s.ringsPaused then
        drainCpl n (({ s with host := { s.host with cplQueue := t } }).putRecord 4 h.bytes h.irq)
      else s

/-- CPL slots have been returned or traffic resumed: drain, and clear CPL_STALL once the queue is no longer full. -/
def State.resumeCpl (s : State) : State :=
  let s := drainCpl s.host.cplQueue.length s
  if decide (s.host.cplQueue.length < 64) then s.fsetb R.HOST_STATUS_CPL_STALL false else s

/-- Records held while traffic was paused go out in order, or are dropped as R92 gives. -/
def drainHeld : List HeldRecord → State → State
  | [], s => s
  | h :: t, s =>
    let s := if s.slotFree h.ring then
        let lost := (s.ring h.ring).lostPend
        (s.setRing h.ring fun r => { r with lostPend := 0 }).putRecord h.ring (withLost lost h.bytes) h.irq
      else (s.setRing h.ring fun r => { r with lostPend := r.lostPend + 1 }).fadd
        (if h.ring = 5 then R.HOST_EVT_LOST_EVT else R.HOST_EVT_LOST_HLT) 1
    drainHeld t s

/-- One pending vector is sent where nothing masks it any longer. -/
def sendPending (v : Nat) (s : State) : State :=
  if bitOf s.host.pba v && !s.vectorMasked v && s.host.pcie.msixEnable && !s.ringsPaused then
    ({ s with host := { s.host with pba := maskSet s.host.pba v false } }).emit (s.msixOut v)
  else s

/-- The pending vectors that may be sent. -/
def State.pendingVectors (s : State) : State := overAll 16 sendPending s

/-! ## Host reads (R69, R70, R88, R145) -/

/-- The requests of a read: at most a maximum read request size each, none across a 4 KiB boundary (Table 03-1). -/
def readRequests (mrrs addr len : Nat) : List (Nat × Nat) :=
  let m := max 128 (min 512 mrrs)
  let pages := (addr % 4096 + len + 4095) / 4096
  (List.range pages).flatMap fun k =>
    let a := max addr (addr / 4096 * 4096 + 4096 * k)
    let e := min (addr + len) (addr / 4096 * 4096 + 4096 * (k + 1))
    (List.range ((e - a + m - 1) / m)).map fun i => (a + i * m, min m (e - a - i * m))

/-- A read of host memory starts. -/
def State.readHost (s : State) (addr len : Nat) : State :=
  s.emits ((readRequests s.host.pcie.mrrs addr len).map fun r => .hostRead r.1 r.2)

/-- A write to host memory: at most a maximum payload size each, none across a 4 KiB boundary (Table 03-1). -/
def State.writeHost (s : State) (addr : Nat) (bytes : List Byte) : State :=
  let pages := (addr % 4096 + bytes.length + 4095) / 4096
  s.emits ((List.range pages).flatMap fun k =>
    let a := max addr (addr / 4096 * 4096 + 4096 * k)
    let e := min (addr + bytes.length) (addr / 4096 * 4096 + 4096 * (k + 1))
    let m := max 128 (min 256 s.host.pcie.mps)
    (List.range ((e - a + m - 1) / m)).map fun i => .hostWrite (a + i * m) ((bytes.drop (a - addr + i * m)).take (min m (e - a - i * m))))

/-- A read that is no descriptor's starts, or waits while ring traffic is paused. -/
def State.fetchHost (s : State) (q : HeldRead) : State :=
  if s.ringsPaused then { s with host := { s.host with heldReads := s.host.heldReads ++ [q] } } else s.readHost q.addr q.len

/-- Ring traffic resumes as if the rings had paused (R69): records, completions, reads and vectors go out. -/
def State.resumeTraffic (s : State) : State :=
  if s.ringsPaused then s else
  let held := s.host.heldRecords
  let reads := s.host.heldReads
  let s := (drainHeld held { s with host := { s.host with heldRecords := [], heldReads := [] } }).resumeCpl
  (reads.foldl (fun s q => s.readHost q.addr q.len) s).pendingVectors

end Sys2Proof.Machine
end

