-- ==== Sys2Proof/Machine/Packets.lean ====
section
/-! DEFINITION. Downstream packets of a tile port (R266 to R276): headers, check values, sequence numbers, and the one control packet at a time. -/

namespace Sys2Proof.Machine

/-- Lane states of Table 08-4. -/
def laneOff : Nat := 0
def laneWait : Nat := 1
def laneTrain : Nat := 2
def laneLinked : Nat := 3
def laneRateTrain : Nat := 4
def laneActive : Nat := 5
def laneIdle : Nat := 6
def laneRetrain : Nat := 7
def lanePrbs : Nat := 8
def laneLoopback : Nat := 9

/-- A tile port of the state. -/
def State.port (s : State) (p : Nat) : Port := nth s.ports p

/-- A tile port of the state, changed. -/
def State.setPort (s : State) (p : Nat) (f : Port → Port) : State := { s with ports := upd f s.ports p }

/-- TILE_LANE_STATUS.STATE of a port. -/
def State.lane (s : State) (p : Nat) : Nat := s.fget (R.TILE_LANE_STATUS_STATE p)

/-- Whether a port is in a PRBS test that leaves both directions with symbols (R252). -/
def State.prbsIdle (s : State) (p : Nat) : Bool :=
  s.lane p == lanePrbs && (match (s.port p).prbs with | some r => !r.dn && !r.up | none => false)

/-- Whether a port can carry packets, its domain on: LINKED, ACTIVE or IDLE, or a PRBS test of neither direction. -/
def State.canSend (s : State) (p : Nat) : Bool :=
  s.portOn p && (s.lane p == laneLinked || s.lane p == laneActive || s.lane p == laneIdle || s.prbsIdle p)

/-! ## Symbols on the lane (R226, R229, R262) -/

/-- A twin link of the state, changed. -/
def State.setLink (s : State) (t : Nat) (f : TwinLink → TwinLink) : State :=
  { s with twin := { s.twin with links := upd f s.twin.links t } }

/-- The transmitters of a twin link after an output: a K-code, or a training set, goes to its lane undealt; RATE sets and packets are dealt (R262). -/
def TwinLink.sent (q : TwinLink) : Output → TwinLink
  | .twinK _ k => { q with neg0 := afterSymbols q.neg0 [k28 k], neg1 := afterSymbols q.neg1 [k28 k] }
  | .twinSet t l kind body =>
    let syms := (Output.twinSet t l kind body).symbols
    if kind = 3 then
      let d := deal q.turn syms
      { q with neg0 := afterSymbols q.neg0 d.1, neg1 := afterSymbols q.neg1 d.2 }
    else if l = 0 then { q with neg0 := afterSymbols q.neg0 syms } else { q with neg1 := afterSymbols q.neg1 syms }
  | o =>
    let d := deal q.turn o.symbols
    { q with neg0 := afterSymbols q.neg0 d.1, neg1 := afterSymbols q.neg1 d.2, turn := (q.turn + o.symbols.length) % 2 }

/-- The running disparity of the transmitters follows what a lane sends; an exit burst starts at a negative one (R226). Fill symbols beyond the one before each packet are not counted (log entry 118). -/
def State.laneSent (s : State) (o : Output) : State :=
  match o with
  | .kcode p _ => s.setPort p fun q => { q with neg := afterSymbols q.neg o.symbols }
  | .marker p _ => s.setPort p fun q => { q with neg := afterSymbols q.neg o.symbols }
  | .orderedSet p _ _ => s.setPort p fun q => { q with neg := afterSymbols q.neg o.symbols }
  | .exitBurst p => s.setPort p fun q => { q with neg := afterSymbols true o.symbols }
  | .packet p _ _ _ => s.setPort p fun q => { q with neg := afterSymbols q.neg o.symbols }
  | .twinK t _ => s.setLink t fun q => q.sent o
  | .twinSet t _ _ _ => s.setLink t fun q => q.sent o
  | .twinPacket t _ _ _ => s.setLink t fun q => q.sent o
  | _ => s

/-- Something goes out on a lane. -/
def State.send (s : State) (o : Output) : State := (s.emit o).laneSent o

/-- Several things go out on lanes, in order. -/
def State.sends (s : State) (os : List Output) : State := os.foldl State.send s

/-- Whether a port is in forwarded-clock legacy mode (R257). -/
def State.legacy (s : State) (p : Nat) : Bool := s.fbit (R.TILE_LANE_CTRL_LEGACY p)

/-- Packet types of Table 09-2. -/
def pktPhaseData : Nat := 1
def pktSwap : Nat := 2
def pktProbe : Nat := 3
def pktTime : Nat := 4
def pktCtrl : Nat := 5
def pktClaim : Nat := 6
def pktLimpPage : Nat := 7

/-- The PORT byte of a check prefix: 0xFF for PORT_ID, 0xFE on a legacy port (R267). -/
def State.prefixPort (s : State) (p kind : Nat) (body : List Byte) : Nat :=
  if s.legacy p then 0xFE else if kind = pktCtrl ∧ leAt body 0 1 = 0 then 0xFF else p

/-- The bytes of a packet between SOP and EOP: header, body and check value (R266, R267). -/
def packetBytes (prefixPort dir kind seq len epoch : Nat) (retx : Bool) (body : List Byte) : List Byte :=
  let h := u8 kind ++ u8 (seq % 16 + 16 * b2n retx) ++ leBytes 2 len ++ leBytes 2 epoch ++ body
  h ++ leBytes 4 (crcWith (u8 prefixPort ++ u8 dir ++ leBytes 2 seq) h)

/-- Whether a packet of a type is re-sent where it is missing (Table 09-2). -/
def pktKept (kind : Nat) : Bool := kind != pktTime

/-- An idle downstream lane with something to send, or hit by Totality, sends its exit burst and is ACTIVE (R246, R247). -/
def State.exitIdle (s : State) (p : Nat) : State :=
  if s.lane p = laneIdle then (s.fset (R.TILE_LANE_STATUS_STATE p) laneActive).send (.exitBurst p) else s

/-- A symbol time of a rate code, in quarters of a ns (Table 08-5). -/
def symbolQ (code : Nat) : Nat := nth [32, 16, 8, 5] code

/-- Now on the timebase, in quarters of a ns. -/
def State.nowQ (s : State) : Nat := 16 * s.ticks

/-- How long a packet of a body length occupies a port's lane, in quarters of a ns: 13 + LEN symbols with the comma before it (R266). -/
def State.wireTime (s : State) (p len : Nat) : Nat := (13 + len) * symbolQ (s.fget (R.TILE_LANE_STATUS_DN_RATE p))

/-- When the last packet on a port's lane leaves it, in quarters of a ns; 0 where none has been there. -/
def Port.wireLast (q : Port) : Nat := q.wire.foldl (fun m w => max m w.fin) 0

/-- When a packet of a body length, sent again now, would leave: after the packet in progress and those sent again before it (R275). -/
def State.wireEnd (s : State) (p len : Nat) : Nat :=
  ((s.port p).outQ.filter fun u => u.resends != 0).foldl (fun t u => t + s.wireTime p u.body.length) (max (s.port p).wireLast s.nowQ) + s.wireTime p len

/-- The EPOCH of a packet's header: 0 on a legacy port, the claimed epoch in a CLAIM or to a tile that is not owned, else the tile's (Table 09-1). -/
def State.sendEpoch (s : State) (p kind : Nat) : Nat :=
  if s.legacy p then 0
  else if kind ≠ pktClaim ∧ s.fbit (R.TILE_PROTO_STATUS_OWN p) then s.fget (R.TILE_EPOCH_TILE p) else s.fget (R.TILE_EPOCH_CLAIMED p)

/-- A packet with its EPOCH starts on a port's lane at an instant in quarters of a ns, with the next sequence number (R269). -/
def State.startPkt (s : State) (p : Nat) (u : SentPkt) (at_ : Nat) : State :=
  let s := s.exitIdle p
  let seq := s.fget (R.TILE_SEQ_DN_NEXT p)
  let bytes := packetBytes (s.prefixPort p u.kind u.body) 0 u.kind seq u.body.length u.epoch (decide (u.resends ≠ 0)) u.body
  let fin := at_ + s.wireTime p u.body.length
  let s := (s.fset (R.TILE_SEQ_DN_NEXT p) (seq + 1)).send (.packet p u.kind seq bytes)
  let s := s.setPort p fun q => { q with wire := (q.wire.filter fun w => decide (s.nowQ < w.fin)) ++ [⟨seq, u.kind, fin⟩], sentAny := true }
  if pktKept u.kind && !s.legacy p then s.setPort p fun q => { q with unres := q.unres ++ [{ u with seq := seq }] } else s

/-- The number that stands for none, of a packet that has not started. -/
def noSeq : Nat := 65536

/-- A packet joins those that wait for the lane: one sent again before every new one (R275). -/
def queuePkt (u : SentPkt) (l : List SentPkt) : List SentPkt :=
  let u := { u with seq := noSeq }
  if u.resends = 0 then l ++ [u] else (l.filter fun v => v.resends != 0) ++ [u] ++ l.filter fun v => v.resends == 0

/-- A packet goes out on a port: at once where the lane is free, else after the packet in progress (R266, R275). -/
def State.sendPkt (s : State) (p : Nat) (u : SentPkt) : State :=
  if (s.port p).wire.any (fun w => decide (s.nowQ < w.fin)) || !(s.port p).outQ.isEmpty then
    s.setPort p fun q => { q with outQ := queuePkt u q.outQ, sentAny := true }
  else s.startPkt p u s.nowQ

/-- The packets that wait start one after the other as the lane comes free, at most a number of them. -/
def sendQueued (p : Nat) : Nat → State → State
  | 0, s => s
  | k + 1, s =>
    match (s.port p).outQ with
    | [] => s
    | u :: t =>
      let at_ := if (s.port p).wire.isEmpty then s.nowQ else (s.port p).wireLast
      if s.canSend p && decide (at_ ≤ s.nowQ) then sendQueued p k ((s.setPort p fun q => { q with outQ := t }).startPkt p u at_) else s

/-- What waits on a port goes out as far as its lane has come free. -/
def portGoes (p : Nat) (s : State) : State := sendQueued p (s.port p).outQ.length s

/-- A new packet goes out on a port; `due` is the network time in ns by which its EOP must reach the tile, 0 for none. -/
def State.sendNow (s : State) (p kind : Nat) (body : List Byte) (due : Nat) : State :=
  s.sendPkt p { kind := kind, body := body, epoch := s.sendEpoch p kind, due := due }

/-- Whether a CTRL or CLAIM/OWNER packet of the port is unresolved, or waits for the lane (R276). -/
def Port.ctrlBusy (q : Port) : Bool := (q.unres ++ q.outQ).any fun u => u.kind == pktCtrl || u.kind == pktClaim

/-- A CTRL or CLAIM/OWNER packet is sent, or waits for the one before it (R276); a lane that carries no packets drops it. -/
def State.sendControl (s : State) (p kind : Nat) (body : List Byte) : State :=
  if !s.canSend p then s
  else if (s.port p).ctrlBusy || !(s.port p).ctrlQ.isEmpty then
    s.setPort p fun q => { q with ctrlQ := q.ctrlQ ++ [(kind, body)] }
  else s.sendNow p kind body 0

/-- A CTRL packet: SUB, a reserved byte, then its bytes (Table 09-12). -/
def State.sendCtrl (s : State) (p sub : Nat) (rest : List Byte) : State :=
  s.sendControl p pktCtrl (u8 sub ++ [0] ++ rest)

/-- The next waiting control packet is sent once none is unresolved (R276). -/
def State.nextControl (s : State) (p : Nat) : State :=
  match (s.port p).ctrlQ with
  | [] => s
  | (k, b) :: t => if (s.port p).ctrlBusy || !s.canSend p then s
    else (s.setPort p fun q => { q with ctrlQ := t }).sendNow p k b 0

/-- Control subtypes of Table 09-12. -/
def ctrlPortId : Nat := 0
def ctrlTiming : Nat := 1
def ctrlScale : Nat := 2
def ctrlProbeCfg : Nat := 3
def ctrlWatchdog : Nat := 4
def ctrlRate : Nat := 5
def ctrlPrbs : Nat := 6
def ctrlKeepalive : Nat := 7
def ctrlResume : Nat := 8
def ctrlShowLimp : Nat := 9
def ctrlIsolate : Nat := 10
def ctrlEcho : Nat := 11
def ctrlCapReq : Nat := 12

/-- A CTRL packet that goes before those that wait (R538). -/
def State.sendCtrlFirst (s : State) (p sub : Nat) (rest : List Byte) : State :=
  if s.canSend p && ((s.port p).ctrlBusy || !(s.port p).ctrlQ.isEmpty) then
    s.setPort p fun q => { q with ctrlQ := (pktCtrl, u8 sub ++ [0] ++ rest) :: q.ctrlQ }
  else s.sendCtrl p sub rest

/-- The tile on a port is to have its SCALE anew after its next marker (R538). -/
def scaleOwed (p : Nat) (s : State) : State := s.setPort p fun q => { q with scaleDue := true }

/-- CTRL SCALE with a current-reference scale (Table 09-12). -/
def State.sendScale (s : State) (p scale : Nat) : State :=
  (s.sendCtrl p ctrlScale (leBytes 2 scale)).setPort p fun q => { q with scale := scale }

/-- Whether this device owns the tile of a port (TILE_PROTO_STATUS.OWN). -/
def State.owns (s : State) (p : Nat) : Bool := s.fbit (R.TILE_PROTO_STATUS_OWN p)

/-- LINK_EVENT of a tile port: kind and count (Tables 08-7 and 09-15). -/
def State.linkEvent (s : State) (p kind count : Nat) : State :=
  s.eventDev 0x06 0x0060 (u8 p ++ u8 kind ++ leBytes 4 count)

/-- LINK_EVENT of a twin link. -/
def State.twinLinkEvent (s : State) (t kind count : Nat) : State :=
  s.eventDev 0x07 0x0060 (u8 (0x40 + t) ++ u8 kind ++ leBytes 4 count)

/-! ## Twin packets (R412) -/

/-- Twin roles of Table 13-2. -/
def roleSolo : Nat := 0
def rolePairing : Nat := 1
def roleLead : Nat := 2
def roleCompanion : Nat := 3

/-- TWIN_STATUS.ROLE; SOLO while the TWIN domain is off. -/
def State.role (s : State) : Nat := if s.domOn 8 then s.fget R.TWIN_STATUS_ROLE else 0

/-- Whether the device leads a pair, or follows in one. -/
def State.isLead (s : State) : Bool := s.role == roleLead
def State.isCompanion (s : State) : Bool := s.role == roleCompanion

/-- EVT TWIN_EVENT: kind, the role after the event, the epoch claimed, a frame (R432). -/
def State.twinEvent (s : State) (kind epoch frame : Nat) : State :=
  s.eventDev 0x07 0x0050 (u8 kind ++ u8 (s.fget R.TWIN_STATUS_ROLE) ++ leBytes 2 epoch ++ [0, 0] ++ leBytes 4 frame)

/-- The bytes of a twin packet: header of Table 13-3, body, check (R412). -/
def twinBytes (link unit kind seq : Nat) (body : List Byte) : List Byte :=
  let h := u8 kind ++ [0] ++ leBytes 2 body.length ++ leBytes 2 seq ++ body
  h ++ leBytes 4 (crcWith (u8 (0x40 + link) ++ u8 (2 + unit) ++ [0, 0]) h)

/-- A packet goes out on every twin link in ACTIVE, with one SEQ on both; with no such link none is sent (R412, R429). -/
def State.sendTwin (s : State) (kind : Nat) (body : List Byte) : State :=
  if !s.domOn 8 then s else
  let seq := s.twin.seq
  let unit := s.fget R.TWIN_CTRL_UNIT
  let links := (List.range 2).filter fun t => s.fget (R.TWIN_LANE_STATUS_STATE t) == laneActive
  if links.isEmpty then s else
  let s := s.sends (links.map fun t => .twinPacket t kind seq (twinBytes t unit kind seq body))
  { s with twin := { s.twin with seq := (seq + 1) % 65536 } }

end Sys2Proof.Machine
end

