-- ==== Sys2Proof/Machine/Spb.lean ====
section
/-! DEFINITION. The safety parameter block (chapter 12): its layout, its checks, and the values that the safety pair and the Spillway take from it. -/

namespace Sys2Proof.Machine

/-- A safety parameter block image. -/
abbrev Spb := List Byte

/-- Fixed part, Table 12-1. -/
def spbLen (b : Spb) : Nat := leAt b 6 2
def spbVersion (b : Spb) : Nat := leAt b 8 4
def spbHasProfile (b : Spb) (i : Nat) : Bool := decide (i < 8) && bitOf (leAt b 12 1) i
def spbLimpProfile (b : Spb) : Nat := leAt b 13 1
def spbStartProfile (b : Spb) (surf : Nat) : Nat := leAt b (14 + surf) 1
def spbSingleCh (b : Spb) : Bool := bitOf (leAt b 18 1) 0
def spbExcessN (b : Spb) : Nat := leAt b 19 1
def spbQStep (b : Spb) : Nat := leAt b 20 2
def spbTDiscLreq (b : Spb) : Nat := leAt b 22 1
def spbTDiscBlank (b : Spb) : Nat := leAt b 23 1
def spbProbeBudget (b : Spb) : Nat := leAt b 24 2
def spbStuckMs (b : Spb) : Nat := leAt b 26 2
def spbBlankGroups (b : Spb) : Nat := leAt b 28 1
def spbGroup (b : Spb) (g : Nat) : Nat := leAt b (32 + 4 * g) 4
def spbExempt (b : Spb) : List Byte := (b.drop 64).take 24
def spbEff (b : Spb) (z : Nat) : Nat := leAt b (96 + 2 * z) 2
def spbProfileOff (b : Spb) (i : Nat) : Nat := leAt b (480 + 2 * i) 2
def spbLimpOff (b : Spb) : Nat := leAt b 496 2
def spbLimpLen (b : Spb) : Nat := leAt b 498 2

/-- A beam profile (Table 12-2): the bytes from its offset. -/
def spbProfile (b : Spb) (i : Nat) : List Byte := b.drop (spbProfileOff b i)
def profVMin (p : List Byte) : Int := toSigned 16 (leAt p 0 2)
def profVMax (p : List Byte) : Int := toSigned 16 (leAt p 2 2)
def profHMin (p : List Byte) : Int := toSigned 16 (leAt p 4 2)
def profHMax (p : List Byte) : Int := toSigned 16 (leAt p 6 2)
def profVRate (p : List Byte) : Nat := leAt p 8 2
def profHRate (p : List Byte) : Nat := leAt p 10 2
def profTotalLim (p : List Byte) : Nat := leAt p 12 4
def profBandCount (p : List Byte) : Nat := leAt p 16 2
/-- Zone limit in 1/16 cd: 16 times ZONE_LIM (Table 12-2). -/
def profZoneLim (p : List Byte) (z : Nat) : Nat := 16 * leAt p (20 + 2 * z) 2

/-- A ceiling interval: columns `x0` to `x1` at most `cmax` (R389). -/
structure Interval where
  x0 : Nat
  x1 : Nat
  cmax : Nat
deriving DecidableEq, Repr

/-- A band: first row and intervals (R389). -/
structure Band where
  firstRow : Nat
  items : List Interval
deriving DecidableEq, Repr

/-- `n` intervals of 6 bytes each. -/
def readIntervals : Nat → List Byte → List Interval
  | 0, _ => []
  | n + 1, b => ⟨leAt b 0 2, leAt b 2 2, leAt b 4 2⟩ :: readIntervals n (b.drop 6)

/-- `n` bands from their bytes, with the bytes that follow; none where COUNT is above 4, a reserved byte is not 0, or the bytes end (R389, R392). -/
def readBands : Nat → List Byte → Option (List Band × List Byte)
  | 0, b => some ([], b)
  | n + 1, b =>
    let c := leAt b 2 1
    if decide (4 < c) || leAt b 3 1 != 0 || decide (b.length < 4 + 6 * c) then none
    else (readBands n (b.drop (4 + 6 * c))).map fun r => (⟨leAt b 0 2, readIntervals c (b.drop 4)⟩ :: r.1, r.2)

/-- The bands of a profile. -/
def profBands (p : List Byte) : List Band :=
  match readBands (profBandCount p) (p.drop 404) with
  | some (bs, _) => bs
  | none => []

/-- The last band whose FIRST_ROW is at or below a row (R389). -/
def bandAt : List Band → Nat → List Interval → List Interval
  | [], _, acc => acc
  | b :: bs, r, acc => if b.firstRow ≤ r then bandAt bs r b.items else acc

/-- The ceiling of a column in a row's intervals: the lowest of the intervals that hold it, else 4,095 (R352). -/
def ceilingIn (xc : Nat) : List Interval → Nat → Nat
  | [], c => c
  | i :: is, c => ceilingIn xc is (if i.x0 ≤ xc ∧ xc ≤ i.x1 ∧ i.cmax < c then i.cmax else c)

/-- The ceiling of the pixel emitting at canvas (x, y) with latched vertical offset `av` (R352). -/
def ceilingAt (p : List Byte) (bands : List Band) (left : Bool) (canvasW canvasH : Nat) (av : Int) (x y : Nat) : Nat :=
  let a := clampInt (profVMin p) (profVMax p) av
  let r := clampInt 0 ((canvasH : Int) - 1) ((y : Int) - a)
  let xc := if left then canvasW - 1 - x else x
  ceilingIn xc (bandAt bands r.toNat []) 4095

/-! ## The LIMP pattern (R390) -/

/-- A run of one code in index order. -/
structure RunToken where
  code : Nat
  len : Nat
deriving DecidableEq, Repr

/-- One entry of the LIMP pattern. -/
structure LimpEntry where
  port : Nat
  scale : Nat
  tw : Nat
  th : Nat
  runs : List RunToken
deriving DecidableEq, Repr

/-- `n` run tokens of 4 bytes. -/
def readRuns : Nat → List Byte → List RunToken
  | 0, _ => []
  | n + 1, b => ⟨leAt b 0 2 % 4096, leAt b 2 2⟩ :: readRuns n (b.drop 4)

/-- Whether `n` tokens keep [15:12] 0 and run lengths 1 to 65,535. -/
def runsOk : Nat → List Byte → Bool
  | 0, _ => true
  | n + 1, b => decide (leAt b 0 2 < 4096) && leAt b 2 2 != 0 && runsOk n (b.drop 4)

/-- `n` entries from their bytes, with what follows; none where the bytes end or an entry breaks R390. -/
def readEntries : Nat → List Byte → Option (List LimpEntry × List Byte)
  | 0, b => some ([], b)
  | n + 1, b =>
    let t := leAt b 8 4
    if decide (b.length < 12 + 4 * t) || decide (5 < leAt b 0 1) || leAt b 1 1 != 0 || decide (32768 < leAt b 2 2)
        || !runsOk t (b.drop 12)
        || (readRuns t (b.drop 12)).foldl (fun a r => a + r.len) 0 != leAt b 4 2 * leAt b 6 2 then none
    else (readEntries n (b.drop (12 + 4 * t))).map fun r =>
      (⟨leAt b 0 1, leAt b 2 2, leAt b 4 2, leAt b 6 2, readRuns t (b.drop 12)⟩ :: r.1, r.2)

/-- The LIMP pattern bytes of an image. -/
def spbLimpBytes (b : Spb) : List Byte := (b.drop (spbLimpOff b)).take (spbLimpLen b)

/-- The entries of an image's LIMP pattern: none with LIMP_LEN 0 (R390). -/
def spbLimp (b : Spb) : List LimpEntry :=
  if spbLimpLen b = 0 then [] else
  match readEntries (leAt (spbLimpBytes b) 0 1) ((spbLimpBytes b).drop 4) with
  | some (es, _) => es
  | none => []

/-- The codes of an entry in index order (R390). -/
def LimpEntry.codes (e : LimpEntry) : List Nat := e.runs.flatMap fun r => rep r.len r.code

/-! ## The checks of R392 -/

/-- Strictly ascending FIRST_ROW, the first being 0 (R389). -/
def bandsAscend : List Band → Bool
  | [] => true
  | [_] => true
  | a :: b :: t => decide (a.firstRow < b.firstRow) && bandsAscend (b :: t)

/-- One interval within R392. -/
def intervalOk (i : Interval) : Bool := decide (i.x0 ≤ i.x1) && decide (i.x1 ≤ 3071) && decide (i.cmax < 4096)

/-- Bytes of a profile, from its offset, when its bands read. -/
def profileSize (p : List Byte) : Option Nat :=
  (readBands (profBandCount p) (p.drop 404)).map fun r => p.length - r.2.length

/-- A defined profile passes Table 12-2, R389 and R392. -/
def profileOk (p : List Byte) : Bool :=
  decide (404 ≤ p.length) && decide (1 ≤ profBandCount p) && decide (profBandCount p ≤ 1024)
  && leAt p 18 2 == 0 && profVRate p != 0 && profHRate p != 0
  && decide (profVMin p ≤ 0) && decide (0 ≤ profVMax p) && decide (profHMin p ≤ 0) && decide (0 ≤ profHMax p)
  && (match readBands (profBandCount p) (p.drop 404) with
    | none => false
    | some (bs, _) => bandsAscend bs && (bs.head?.map (·.firstRow)) == some 0
        && bs.all fun b => b.items.all intervalOk)

/-- Whether no two extents (start, length) of a list overlap. -/
def extentsApart : List (Nat × Nat) → Bool
  | [] => true
  | (a, n) :: t => t.all (fun e => decide (a + n ≤ e.1) || decide (e.1 + e.2 ≤ a)) && extentsApart t

/-- The extents of the fixed part, the defined profiles and the LIMP pattern. -/
def spbExtents (b : Spb) : List (Nat × Nat) :=
  (0, 512) :: ((List.range 8).filterMap fun i =>
    if spbHasProfile b i then (profileSize (spbProfile b i)).map fun n => (spbProfileOff b i, n) else none)
  ++ (if spbLimpLen b = 0 then [] else [(spbLimpOff b, spbLimpLen b)])

/-- The LIMP pattern passes R390 and names no port twice (R392). -/
def limpOk (b : Spb) : Bool :=
  if spbLimpLen b = 0 then spbLimpOff b == 0
  else decide (4 ≤ spbLimpLen b) && decide (leAt (spbLimpBytes b) 0 1 ≤ 6) && leAt (spbLimpBytes b) 1 3 == 0
    && decide (spbLimpOff b % 4 = 0) && decide (512 ≤ spbLimpOff b)
    && (match readEntries (leAt (spbLimpBytes b) 0 1) ((spbLimpBytes b).drop 4) with
      | none => false
      | some (es, rest) => rest.isEmpty && decide ((es.map (·.port)).Nodup))

/-- An image passes every condition of R392; `srcLen` is the source LEN. -/
def spbOk (b : Spb) (srcLen : Nat) : Bool :=
  b.take 4 == [0x53, 0x50, 0x42, 0x31] && leAt b 4 2 == 1
  && spbLen b == srcLen && b.length == srcLen && decide (512 ≤ srcLen) && decide (srcLen ≤ 16384)
  && (List.range 4).all (fun n => spbHasProfile b (spbStartProfile b n)) && spbHasProfile b (spbLimpProfile b)
  && decide (leAt b 18 1 < 2) && decide (2 ≤ spbExcessN b) && spbQStep b != 0
  && spbTDiscLreq b != 0 && spbTDiscBlank b != 0
  && decide (100 ≤ spbStuckMs b) && decide (spbStuckMs b ≤ 10000)
  && leAt b 29 3 == 0 && leAt b 88 8 == 0 && leAt b 500 12 == 0
  && (List.range 8).all (fun g => decide (spbGroup b g < 2 ^ 24))
  && (List.range 8).all (fun i =>
    if spbHasProfile b i then
      decide (spbProfileOff b i % 4 = 0) && decide (512 ≤ spbProfileOff b i) && profileOk (spbProfile b i)
    else spbProfileOff b i == 0)
  && limpOk b && (spbExtents b).all (fun e => decide (e.1 + e.2 ≤ srcLen)) && extentsApart (spbExtents b)

/-! ## What the state's SPB gives -/

/-- The beam profile in force on a surface, or none without an SPB (R349, R404). -/
def State.profileBytes (s : State) (surf : Nat) : Option (List Byte) :=
  s.safe.spb.map fun b => spbProfile b (nth s.safe.surfs surf).profile

/-- The ports that one group mask of the SPB names; all ports without an SPB (R404). -/
def State.groupPorts (s : State) (groups : Nat) : Nat :=
  match s.safe.spb with
  | none => 2 ^ 24 - 1
  | some b => ((List.range 8).filter (bitOf groups)).foldl (fun m g => m ||| spbGroup b g % 2 ^ 24) 0

/-- Scope of BLANK_A and BLANK_B: BLANK_GROUPS of the SPB, 0 meaning all ports (Table 12-1, R404). -/
def State.blankScope (s : State) : Nat :=
  match s.safe.spb with
  | none => 2 ^ 24 - 1
  | some b => if spbBlankGroups b = 0 then 2 ^ 24 - 1 else s.groupPorts (spbBlankGroups b)

/-- Scope of the host's request: the union of its groups, bit 8 meaning all ports (R123); any bit holds all without an SPB (R404). -/
def State.hostScope (s : State) : Nat :=
  if s.safe.hostTot = 0 then 0
  else if bitOf s.safe.hostTot 8 then 2 ^ 24 - 1 else s.groupPorts s.safe.hostTot

/-- Whether a segment channel is exempt from Totality: the copy of SEG_EXEMPT in SEG (R21, R370). -/
def State.segExempt (s : State) (c : Nat) : Bool := bitOf (leNat s.seg.exempt) c

end Sys2Proof.Machine
end

