-- ==== Sys2Proof/Machine/Flags.lean ====
section
/-! DEFINITION. The device's flags and the levels computed from them: fault bits, the fault pins, Totality's ports, the light request, SAFE_STATUS and every TILE_EN. -/

namespace Sys2Proof.Machine

/-! ## The mode (Table 17-1) -/

/-- The mode in force (Table 17-1). -/
def State.modeNow (s : State) : Nat := s.fget R.PWR_MODE_MODE

/-- Whether the device is in SENTINEL. -/
def State.inSentinel (s : State) : Bool := s.modeNow == 0 && !s.fbit R.PWR_MODE_BUSY

/-! ## Fault bits (Table 11-6, SAFE_FAULT_ACT) -/

/-- The bit of SAFE_FAULT_ACT of a fault, 1 to 40. -/
def faultFld (f : Nat) : Fld := if f ≤ 32 then ⟨0x9000C, f - 1, 1⟩ else ⟨0x90010, f - 33, 1⟩

/-- Whether a fault is latched and not recovered. -/
def State.faultOn (s : State) (f : Nat) : Bool := s.fbit (faultFld f)

/-- Faults whose FAULT_N column reads Yes (Table 11-6). -/
def faultDrivesPins (f : Nat) : Bool :=
  [1, 2, 3, 5, 6, 7, 8, 9, 11, 12, 13, 14, 15, 17, 18, 19, 20, 21, 22, 25, 27, 29, 30, 31, 32, 33, 34, 35, 37,
    38, 39, 40].contains f

/-- What drives FAULT_A_N and FAULT_B_N low: any such fault while it is latched, fault 26 while LIMP is held for it, STUCK_RESET while it is set, a refused boot, and a latched segment fault (R384, R480, R550, R584). -/
def State.pinsWanted (s : State) : Bool :=
  s.fbit R.PWR_RESET_STUCK_RESET || s.boot.halted
  || !s.aon.keptDark.isEmpty || !s.aon.keptHolds.isEmpty || s.aon.tarnFault11 || s.aon.tarnFault12 || s.fbit R.SEG_STATUS_FAULT || s.fbit R.SEG_STATUS_RAIL_FAULT
  || (s.faultOn 26 && s.mode.limpCauses.contains 26)
  || (List.range 41).any fun f => decide (1 ≤ f) && s.faultOn f && faultDrivesPins f

/-- Whether the pins are low: while a cause stands; and while DIE-D is in reset they keep their level, for which SAFE's latches are no longer there (R384). -/
def State.pinsLow (s : State) : Bool := s.pinsWanted || (s.aon.resetHeld && !s.inSentinel && s.aon.faultPins)

/-- The pins, held in AON, follow the faults. -/
def State.drivePins (s : State) : State :=
  let b := s.pinsLow
  let s := { s with aon := { s.aon with faultPins := b } }
  if s.domOn 1 then s.fsetb R.SAFE_STATUS_FAULT_PINS b else s

/-- A fault is latched. -/
def State.latchFault (s : State) (f : Nat) : State := (s.fsetb (faultFld f) true).drivePins

/-- A fault has recovered. -/
def State.clearFault (s : State) (f : Nat) : State :=
  if s.faultOn f then (s.fsetb (faultFld f) false).drivePins else s

/-! ## Totality's ports (Table 11-3, R373) -/

/-- Life-cycle states of Table 20-5. -/
def lcBlank : Nat := 0
def lcCommission : Nat := 1
def lcField : Nat := 2
def lcService : Nat := 3
def lcRetired : Nat := 4

/-- The ports that the latched sources hold: the union of their scopes. -/
def State.totScope (s : State) : Nat :=
  (if s.fbit R.SAFE_TOT_SRC_BLANK_A || s.fbit R.SAFE_TOT_SRC_BLANK_B then s.blankScope else 0)
  ||| (if s.fbit R.SAFE_TOT_SRC_HOST then s.hostScope else 0)
  ||| (if s.fbit R.SAFE_TOT_SRC_TWIN || s.fbit R.SAFE_TOT_SRC_SPILLWAY || s.fbit R.SAFE_TOT_SRC_SAFETY_PAIR
        || s.fbit R.SAFE_TOT_SRC_SUPPLY || s.fbit R.SAFE_TOT_SRC_THERMAL then 2 ^ 24 - 1 else 0)

/-- Whether Totality holds a port. -/
def State.totHolds (s : State) (p : Nat) : Bool := bitOf (s.fget R.SAFE_TOT_PORTS_PORTS) p

/-- Whether Totality holds any port. -/
def State.totAny (s : State) : Bool := s.fget R.SAFE_TOT_PORTS_PORTS != 0

/-- Totality holds every port: DARK (R381). -/
def State.dark (s : State) : Bool := s.fget R.SAFE_TOT_PORTS_PORTS == 2 ^ 24 - 1

/-- DARK entered through faults 2, 3, 5 or 31 is latched (R381). -/
def State.darkLatched (s : State) : Bool :=
  s.fbit R.SAFE_TOT_SRC_SPILLWAY || s.fbit R.SAFE_TOT_SRC_SAFETY_PAIR

/-- SAFE_STATUS.STATE: 2 while Totality holds every port, 1 in LIMP, else 0 (R508, Table 11-7). -/
def State.showSafe (s : State) : State :=
  let st := if s.dark then 2 else if s.safe.form != .none && !s.safe.parkBeam then 1 else 0
  ((s.fset R.SAFE_STATUS_STATE st).fsetb R.SAFE_STATUS_LIMP_PAGES (s.safe.form == .pages)).fsetb
    R.SAFE_STATUS_TOTALITY s.totAny

/-! ## The light request (R375) -/

/-- Whether LIGHT_REQ is single-channel: the SPB's flag; dual-channel without an SPB (R404). -/
def State.lreqSingle (s : State) : Bool := match s.safe.spb with | none => false | some b => spbSingleCh b

/-- Light is requested while either channel is sampled asserted; only channel A where single-channel (R375). -/
def State.lightOn (s : State) : Bool :=
  let v := s.fget R.SAFE_INPUTS_SAMPLED
  bitOf v 0 || (bitOf v 1 && !s.lreqSingle)

/-! ## Surfaces -/

/-- Whether a surface's generator runs (TG_STATUS.RUNNING). -/
def State.running (s : State) (n : Nat) : Bool := s.fbit (R.TG_STATUS_RUNNING n)

/-- Whether a surface counts as enabled: from a write of 1 to ENABLE until its generator has stopped (R44). -/
def State.surfEnabled (s : State) (n : Nat) : Bool := s.running n || s.fbit (R.TG_CTRL_ENABLE n)

/-! ## TILE_EN (R18, R19, R235, R369, R378 to R383, R515) -/

/-- Whether the safety pair holds a port's TILE_EN for a pixel or mass fault (R383). -/
def State.tileHeld (s : State) (p : Nat) : Bool := bitOf (s.fget R.SAFE_TILE_HELD_PORTS) p

/-- Whether a port has an entry in the LIMP pattern that its tile's CAP record matches (R378, R391). -/
def State.limpEntryFor (s : State) (p : Nat) : Option LimpEntry :=
  match s.safe.spb with
  | none => none
  | some b => (spbLimp b).find? fun e => e.port == p && (match (s.port p).cap with
    | none => false
    | some c => c.tw == e.tw && c.th == e.th)

/-- The form of the safety pair's beam on a port: none once the exit from LIMP has ended it on the port's surface (Table 17-2). -/
def State.formFor (s : State) (p : Nat) : LimpForm :=
  if (List.range 4).any fun n => bitOf s.safe.limpEnded n && (nth s.gens n).members.any (·.port == p) then .none else s.safe.form

/-- Whether the beam that the safety pair serves lights a port: an entry or PARK pattern of the store, or a valid limp page of an owned frame-memory tile. -/
def State.beamServes (s : State) (p : Nat) : Bool :=
  match s.formFor p with
  | .none => true
  | .store => if s.safe.parkBeam then (nth s.parkPats p).inUse else (s.limpEntryFor p).isSome
  | .pages => s.owns p && (match (s.port p).cap with | none => false | some c => c.frameMem)
      && s.fbit (R.TILE_PROTO_STATUS_LIMP_VALID p)

/-- Whether Tarn holds DIE-D in reset: RESET_N is low, or a boot was refused (R18, R550, R584). -/
def State.inReset (s : State) : Bool := s.aon.resetHeld || s.boot.halted

/-- Whether REFOUT pair r carries a copy of LNREF: its bit of TILE_REFOUT.EN, its domain on (TLA for 0 and 1, TLB for 2 and 3), REFOUT1 only outside TLA's LIMP subset, and DIE-D not in reset (R18, R230, R500). -/
def State.refOut (s : State) (r : Nat) : Bool :=
  bitOf (s.fget R.TILE_REFOUT_EN) r && s.domOn (if r < 2 then 6 else 7) && !(r == 1 && s.fbit R.PWR_DOM_STATUS_TLA_LIMP)
    && !s.inReset && s.pins.lnref

/-- The level of a port's TILE_EN pin: low throughout SENTINEL; while DIE-D is in reset otherwise, high on ports 0 to 5 unless BLANK is asserted; else high only while EN is 1 and no safe state, hold or Totality keeps it low, neither do the LEAD's holds (R420) nor RETIRED. -/
def State.tileEn (s : State) (p : Nat) : Bool :=
  if s.inSentinel || (!s.domOn 1 && s.mode.trans.any (·.dst == 0)) then false
  else if s.inReset then decide (p < 6) && !bitOf (s.pins.raw) 2 && !bitOf (s.pins.raw) 3
  else s.fbit (R.TILE_LANE_CTRL_EN p) && s.portOn p && !s.totHolds p && !s.tileHeld p
    && !(s.isCompanion && bitOf s.twin.peerHeld p) && s.boot.otpLc != 4
    && (s.formFor p == .none || (s.beamServes p && (s.lightOn || s.safe.parkBeam)))
    && !(decide (p % 2 = 1) && s.legacy (p - 1) && decide (6 ≤ p))

end Sys2Proof.Machine
end

