-- ==== Sys2Proof/Machine/LaneState.lean ====
section
/-! DEFINITION. The state of a lane pair, of a tile port or a twin link: its lane state, handshakes and receivers, what it sends in training, and entry into RETRAIN (Table 08-4, R226, R236, R237). Units 0 to 23 are the tile ports, 24 and 25 the twin links. -/

namespace Sys2Proof.Machine

/-- Twin link of a unit. -/
def linkOf (u : Nat) : Nat := u - 24

/-- The field of a unit, by kind. -/
def laneFld (u : Nat) (tile twin : Nat → Fld) : Fld := if u < 24 then tile u else twin (linkOf u)

/-- STATE of a unit (Table 08-4). -/
def stateFld (u : Nat) : Fld := laneFld u R.TILE_LANE_STATUS_STATE R.TWIN_LANE_STATUS_STATE

/-- A unit's lane state. -/
def State.laneOf (s : State) (u : Nat) : Nat := s.fget (stateFld u)

/-- Whether a unit's domain is on. -/
def State.unitOn (s : State) (u : Nat) : Bool := if u < 24 then s.portOn u else s.domOn 8

/-- Whether a unit is a tile port in legacy mode: both upstream receivers are off, and no training set goes out (R258, R259). -/
def State.legacyUnit (s : State) (u : Nat) : Bool := decide (u < 24) && s.legacy u

/-- The upstream or receive lanes of a unit. -/
def lanesOf (u : Nat) : List Nat := if u < 24 then [0] else [0, 1]

/-- The handshake of one lane of a unit. -/
def State.hsOf (s : State) (u l : Nat) : Handshake :=
  if u < 24 then (s.port u).hs else if l = 0 then (nth s.twin.links (linkOf u)).hs else (nth s.twin.links (linkOf u)).hs1

/-- One lane's handshake, changed. -/
def State.setHs (s : State) (u l : Nat) (f : Handshake → Handshake) : State :=
  if u < 24 then s.setPort u fun q => { q with hs := f q.hs }
  else s.setLink (linkOf u) fun q => if l = 0 then { q with hs := f q.hs } else { q with hs1 := f q.hs1 }

/-- Every lane's handshake of a unit, changed. -/
def State.setHsAll (s : State) (u : Nat) (f : Handshake → Handshake) : State := (lanesOf u).foldl (fun s l => s.setHs u l f) s

/-- The receiver of one lane of a unit. -/
def State.rxOf (s : State) (u l : Nat) : Receiver :=
  if u < 24 then (s.port u).rx else if l = 0 then (nth s.twin.links (linkOf u)).rx0 else (nth s.twin.links (linkOf u)).rx1

/-- One lane's receiver, changed. -/
def State.setRx (s : State) (u l : Nat) (f : Receiver → Receiver) : State :=
  if u < 24 then s.setPort u fun q => { q with rx := f q.rx }
  else s.setLink (linkOf u) fun q => if l = 0 then { q with rx0 := f q.rx0 } else { q with rx1 := f q.rx1 }

/-- Fault 40 recovers once no link has three bad digests in a row and none that was lost is still out of ACTIVE: a link that comes to ACTIVE starts again at none (R429, Table 11-6). -/
def State.twinFaultOver (s : State) : State :=
  if s.twin.links.all fun (q : TwinLink) => decide (q.badDigests < 3) && !q.down then s.clearFault 40 else s

/-- A lane state is entered; TWIN_STATUS.LINKS shows the twin links in ACTIVE. -/
def State.setLane (s : State) (u st : Nat) : State :=
  let s := s.fset (stateFld u) st
  if u < 24 then s
  else
    let s := if st = laneActive then (s.setLink (linkOf u) fun q => { q with badDigests := 0, down := false }).twinFaultOver
      else if bitOf (s.fget R.TWIN_STATUS_LINKS) (linkOf u) then s.setLink (linkOf u) fun q => { q with down := true } else s
    s.fset R.TWIN_STATUS_LINKS (maskOf ((List.range 2).filter fun t => s.fget (R.TWIN_LANE_STATUS_STATE t) == laneActive))

/-- The states in which training sets are sent (R237). -/
def laneTrains (st : Nat) : Bool := st == laneTrain || st == laneRateTrain || st == laneRetrain

/-- LINK_EVENT of a unit. -/
def State.unitEvent (s : State) (u kind count : Nat) : State :=
  if u < 24 then s.linkEvent u kind count else s.twinLinkEvent (linkOf u) kind count

/-- One training set goes out on a lane: TRN1 while its receiver is locked, else TRN0 (R237); a legacy port sends fill (R259). -/
def State.sendTrn (s : State) (u l : Nat) : State :=
  if s.legacyUnit u then s else
  let kind := b2n (s.hsOf u l).locked
  let s := s.setHs u l fun h => if h.locked then { h with trn1Tx := h.trn1Tx + 1 } else h
  s.send (if u < 24 then .orderedSet u kind [] else .twinSet (linkOf u) l kind [])

/-- Training sets start on every lane of a unit, at negative running disparity (R226, R237). -/
def State.startTrn (s : State) (u : Nat) : State :=
  let s := if u < 24 then s.setPort u fun q => { q with neg := true }
    else s.setLink (linkOf u) fun q => { q with neg0 := true, neg1 := true, turn := 0 }
  (lanesOf u).foldl (fun s l => s.sendTrn u l) s

/-- CTRL orders that name a tick, which are not sent again on their own (R241, R275). -/
def namesTick (kind : Nat) (body : List Byte) : Bool := kind == pktCtrl && (leAt body 0 1 == ctrlRate || leAt body 0 1 == ctrlPrbs)

/-- Control and limp page packets that are unresolved when a port leaves ACTIVE for RETRAIN, to be sent again as new packets (R275); orders that name a tick are placed anew. -/
def Port.unsettled (q : Port) : List (Nat × List Byte) :=
  ((q.unres ++ q.outQ).filter fun u => (u.kind == pktCtrl || u.kind == pktClaim || u.kind == pktLimpPage) && !namesTick u.kind u.body
    && !(u.kind == pktCtrl && leAt u.body 0 1 == ctrlPortId)).map fun u => (u.kind, u.body)

/-- Line and SWAP packets that wait for their deadline where their numbers end (R277, R294). -/
def Port.losing (q : Port) : List SentPkt := q.lost ++ (q.unres ++ q.outQ).filter fun u => u.kind == pktPhaseData || u.kind == pktSwap

/-- An order whose tick is not yet named. -/
def TickOrder.untimed : TickOrder → TickOrder
  | .rate dn up _ => .rate dn up 0
  | .prbs pat dn up _ => .prbs pat dn up 0

/-- An order that has not been acknowledged when its port retrains is placed anew; one that the tile holds stands (R275). -/
def Port.orderAgain (q : Port) : Port :=
  if (q.unres ++ q.outQ).any fun u => namesTick u.kind u.body then { q with reorder := q.order.map TickOrder.untimed, order := none } else q

/-- A port's record on entry into RETRAIN. -/
def Port.toRetrain (q : Port) : Port :=
  let q := q.orderAgain
  { q with retrains := 1, again := q.again ++ q.unsettled, lost := q.losing, unres := [], wire := [], outQ := [], dataOpen := false, timed := false, echoOut := [] }

/-- The receivers of some lanes of a unit lose lock (R236); where the unit trains, each sends TRN0 from now on (R237). -/
def State.dropLocks (s : State) (u : Nat) (ls : List Nat) : State :=
  ls.foldl (fun s l => (s.setRx u l fun _ => {}).setHs u l fun h => { h with locked := false, trn1Rx := 0 }) s

/-- A unit enters RETRAIN, its receivers as they are: an idle transmitter sends its exit burst first (R246), and K28.0 ends (R241). -/
def State.enterRetrain (s : State) (u : Nat) : State :=
  let s := if decide (u < 24) && s.laneOf u == laneIdle then s.send (.exitBurst u) else s
  let s := (lanesOf u).foldl (fun s l => s.setHs u l fun _ => { locked := (s.rxOf u l).locked }) (s.setLane u laneRetrain)
  let s := if u < 24 then
      ((s.setPort u Port.toRetrain).fsetb (R.TILE_PROTO_STATUS_TOTALITY_TX u) false).fsetb (R.TILE_LANE_STATUS_UP_IDLE u) false
    else s.setLink (linkOf u) fun q => { q with retrains := 1 }
  s.startTrn u

/-! ## What the checkers of a PRBS test found (R254) -/

/-- What the local checkers of a test found: errors, bits / 1,024 in sync, losses of sync, in sync at the end (R254). -/
structure PrbsResult where
  errs : Nat := 0
  bits : Nat := 0
  resyncs : Nat := 0
  sync : Bool := true
deriving DecidableEq, Repr

/-- The result of a test that is cut off: no command carries the bits that its checkers have taken so far, so each count is a free value (log entry 155). A direction that carries no pattern is not checked (R252). -/
def State.cutResult (s : State) (run : Option PrbsRun) : PrbsResult :=
  match run with
  | some r => if r.up then ⟨Config.freeNat s.free, Config.freeNat (s.free + 1), Config.freeNat (s.free + 2), Config.freeNat (s.free + 3) % 2 == 1⟩ else { sync := false }
  | none => { sync := false }

/-- The counts of a test on a tile port join its registers (Table 08-9). -/
def State.portPrbsCount (s : State) (p : Nat) (r : PrbsResult) : State :=
  let s := (s.fadd (R.TILE_PRBS_ERR_LOCAL_COUNT p) r.errs).fadd (R.TILE_PRBS_BITS_COUNT p) r.bits
  let s := (s.fadd (R.TILE_PRBS_STAT_RESYNC p) r.resyncs).fsetb (R.TILE_PRBS_STAT_SYNC p) r.sync
  (s.fsetb (R.TILE_PRBS_STAT_RUNNING p) false).setPort p fun q => { q with prbs := none }

/-- The counts of a test on a twin link join its registers. -/
def State.linkPrbsCount (s : State) (t : Nat) (r : PrbsResult) : State :=
  let s := (s.fadd (R.TWIN_PRBS_ERR_LOCAL_COUNT t) r.errs).fadd (R.TWIN_PRBS_BITS_COUNT t) r.bits
  let s := (s.fadd (R.TWIN_PRBS_STAT_RESYNC t) r.resyncs).fsetb (R.TWIN_PRBS_STAT_SYNC t) r.sync
  (s.fsetb (R.TWIN_PRBS_STAT_RUNNING t) false).setLink t fun q => { q with prbs := none }

/-- A test in progress on a port is cut off, its counts taken. -/
def State.cutPortPrbs (s : State) (p : Nat) : State :=
  if (s.port p).prbs.isNone then s
  else ({ s with free := s.free + 4 }).portPrbsCount p (s.cutResult (s.port p).prbs)

/-- A test in progress on a twin link is cut off, its counts taken. -/
def State.cutLinkPrbs (s : State) (t : Nat) : State :=
  if (nth s.twin.links t).prbs.isNone then s
  else ({ s with free := s.free + 4 }).linkPrbsCount t (s.cutResult (nth s.twin.links t).prbs)

/-- A PRBS test on a port ends in RETRAIN: both ends train at the current rates (Table 08-4). -/
def State.endPrbs (s : State) (p : Nat) : State :=
  if s.lane p = lanePrbs then (((s.cutPortPrbs p).fsetb (R.TILE_PRBS_STAT_RUNNING p) false).dropLocks p [0]).enterRetrain p else s

/-- LIMP_PAGE packets that wait go out, in order, to a tile that this device owns on a port that Totality does not hold (R281, R309, R315). -/
def State.resendLimp (s : State) (p : Nat) : State :=
  if !s.canSend p || s.totHolds p || !s.fbit (R.TILE_PROTO_STATUS_OWN p) then s else
  let limps := (s.port p).again.filter fun e => e.1 == pktLimpPage
  let s := s.setPort p fun q => { q with again := q.again.filter fun e => e.1 != pktLimpPage }
  limps.foldl (fun s e => s.sendNow p e.1 e.2 0) s

/-! ## Packets cut off by K28.0 (R280) -/

/-- Packets that Totality keeps from the lane (R281). -/
def pktHeldByTot (kind : Nat) : Bool := kind == pktPhaseData || kind == pktSwap || kind == pktProbe || kind == pktLimpPage

/-- The packet on a port's lane that a K28.0 ends now. -/
def State.wireCut (s : State) (p : Nat) : List WirePkt := (s.port p).wire.filter fun w => decide (s.nowQ < w.fin)

/-- The packet in progress is abandoned: its number is used up and not re-sent; those that wait and that Totality keeps from the lane go with it. Line and SWAP packets are lost at their deadlines; control and limp page packets are sent again as new ones (DEDUCED, log entry 120). -/
def State.abandonWire (s : State) (p : Nat) : State :=
  let cut := s.wireCut p
  let gone (u : SentPkt) : Bool := cut.any fun w => w.seq == u.seq
  let s := s.setPort p fun q =>
    let dead := q.unres.filter gone ++ q.outQ.filter fun u => pktHeldByTot u.kind
    let q := if dead.any fun u => namesTick u.kind u.body then { q with reorder := q.order.map TickOrder.untimed, order := none } else q
    let fresh (kind : Nat) : List (Nat × List Byte) :=
      (dead.filter fun u => (u.kind == kind) && !namesTick u.kind u.body).map fun u => (u.kind, u.body)
    { q with unres := q.unres.filter fun u => !gone u, wire := [], outQ := q.outQ.filter fun u => !pktHeldByTot u.kind,
             lost := q.lost ++ dead.filter fun u => u.kind == pktPhaseData || u.kind == pktSwap,
             again := q.again ++ fresh pktLimpPage, ctrlQ := fresh pktClaim ++ fresh pktCtrl ++ q.ctrlQ }
  s.emits (cut.map fun w => .abandon p w.seq)

end Sys2Proof.Machine
end

