-- ==== Sys2Proof/Machine/Rails.lean ====
section
/-! DEFINITION. The PMBus master in AON, and the rail sequencer's steps for one rail (R476, R495, R497). -/

namespace Sys2Proof.Machine

/-- The supply record, changed. -/
def State.setSup (s : State) (f : SupplySt → SupplySt) : State := { s with sup := f s.sup }

/-! ## The PMBus master (R497) -/

/-- Whether a job belongs to the rail sequencer, which goes first (R497). -/
def PmbusJob.ofRails : PmbusJob → Bool
  | .railPage _ | .railMode _ | .railVout _ => true
  | _ => false

/-- PMBus code of a job's command: PAGE 0x00, VOUT_MODE 0x20, VOUT_COMMAND 0x21, READ_VOUT 0x8B, STATUS_WORD 0x79. -/
def PmbusJob.code : PmbusJob → Nat
  | .railPage _ | .segPage _ => 0x00
  | .railMode _ | .pollMode _ | .segMode _ => 0x20
  | .railVout _ | .segVout _ _ => 0x21
  | .pollVout _ => 0x8B
  | .pollStatus _ => 0x79

/-- A voltage in mV as a linear word with exponent `e`, 2^e V per step, rounded to the nearest (R476). -/
def voutWord (mv : Nat) (e : Int) : Nat :=
  if e < 0 then (mv * 2 ^ (-e).toNat + 500) / 1000 else (mv + 500 * 2 ^ e.toNat) / (1000 * 2 ^ e.toNat)

/-- A linear word with exponent `e` in mV (R476). -/
def voutMv (w : Nat) (e : Int) : Nat :=
  if e < 0 then w * 1000 / 2 ^ (-e).toNat else w * 1000 * 2 ^ e.toNat

/-- The exponent that VOUT_MODE gave for a rail of the sequencer. -/
def State.railExp (s : State) (r : Nat) : Int := (nth s.sup.exps r).getD 0

/-- The address and PAGE of a job's regulator. -/
def State.jobAddr (s : State) (j : PmbusJob) : Nat :=
  match j with
  | .railPage r | .railMode r | .railVout r | .pollMode r | .pollVout r | .pollStatus r => s.fget (R.PWR_RAIL_CFG_ADDR r)
  | .segPage r | .segMode r | .segVout r _ => s.fget (R.SEG_RAIL_CFG_ADDR r)
def State.jobPage (s : State) (j : PmbusJob) : Nat :=
  match j with
  | .railPage _ | .segPage _ => 0xFF
  | .railMode r | .railVout r | .pollMode r | .pollVout r | .pollStatus r => s.fget (R.PWR_RAIL_CFG_PAGE r)
  | .segMode r | .segVout r _ => s.fget (R.SEG_RAIL_CFG_PAGE r)

/-- The data that a job writes: none where it reads. -/
def State.jobData (s : State) (j : PmbusJob) : List Byte :=
  match j with
  | .railPage r => u8 (s.fget (R.PWR_RAIL_CFG_PAGE r))
  | .railVout r => leBytes 2 (voutWord (s.fget (R.PWR_RAIL_VOUT_VOUT_MV r)) (s.railExp r))
  | .segPage r => u8 (s.fget (R.SEG_RAIL_CFG_PAGE r))
  | .segVout r mv => leBytes 2 (voutWord mv (nth s.seg.rails r).exp)
  | _ => []

/-- Whether a job reads, and how many bytes: VOUT_MODE one, READ_VOUT and STATUS_WORD two. -/
def PmbusJob.reads : PmbusJob → Bool
  | .railMode _ | .pollMode _ | .pollVout _ | .pollStatus _ | .segMode _ => true
  | _ => false
def PmbusJob.readLen : PmbusJob → Nat
  | .pollVout _ | .pollStatus _ => 2
  | _ => 1

/-- The bytes that open a job's transaction: the address with its write bit, the command, and for a read the address with its read bit. -/
def State.jobHead (s : State) (j : PmbusJob) : List Byte :=
  u8 (2 * s.jobAddr j) ++ u8 j.code ++ (if j.reads then u8 (2 * s.jobAddr j + 1) else [])

/-- The PEC of a read that gave `data` (R476; PRESUMED, log entry 164). -/
def State.readPec (s : State) (j : PmbusJob) (data : Nat) : Nat := crc8 (s.jobHead j ++ leBytes j.readLen data)

/-- The transaction that a job puts on the bus, with the PEC over the bytes sent (R476). -/
def State.jobOut (s : State) (j : PmbusJob) : Output :=
  .pmbus (s.jobAddr j) (s.jobPage j) j.code (s.jobData j) (crc8 (s.jobHead j ++ s.jobData j))

/-- The next due transaction starts: the sequencer's first (R497). -/
def State.pmbusStart (s : State) : State :=
  if s.sup.busy.isSome then s else
  match (s.sup.jobs.find? PmbusJob.ofRails).or s.sup.jobs.head? with
  | none => s
  | some j => (s.setSup fun u => { u with jobs := u.jobs.erase j, busy := some j }).emit (s.jobOut j)

/-- Transactions become due. -/
def State.pmbusAdd (s : State) (js : List PmbusJob) : State :=
  (s.setSup fun u => { u with jobs := u.jobs ++ js }).pmbusStart

/-! ## The rail sequencer (R495, R496) -/

/-- RAIL_EN of a rail, driven. -/
def State.railEn (s : State) (r : Nat) (b : Bool) : State := s.fsetb (R.PWR_RAIL_STAT_EN r) b

/-- Step 1 or 2 of R495 for the rail in hand: the voltage over PMBus where PMB is 1, else the enable alone, as PMB stands after a power-on reset (R497). -/
def State.railBegin (s : State) (r : Nat) : State :=
  if s.fbit (R.PWR_RAIL_CFG_PMB r) then
    let page := if s.fget (R.PWR_RAIL_CFG_PAGE r) = 0xFF then [] else [PmbusJob.railPage r]
    (s.setSup fun u => { u with rail := r, step := .setVoltage }).pmbusAdd (page ++ [.railMode r, .railVout r])
  else (s.setSup fun u => { u with rail := r, step := .waitPg }).railEn r true

/-- Whether a rail is on with its power good. -/
def State.railOn (s : State) (r : Nat) : Bool := s.fbit (R.PWR_RAIL_STAT_EN r) && s.fbit (R.PWR_RAIL_STAT_PG r)

/-- Whether every rail is. -/
def State.railsOn (s : State) : Bool := (List.range 5).all s.railOn

/-- The first rail from r on that is not up, if any (R495). -/
def State.railAfter (s : State) (r : Nat) : Option Nat := (List.range 5).find? fun i => decide (r ≤ i) && !s.railOn i

/-- The power-up of one rail of a sequence begins. -/
def State.railStart (s : State) (r : Nat) : State := (s.setSup fun u => { u with retried := false }).railBegin r

end Sys2Proof.Machine
end

