-- ==== Sys2Proof/Machine/Faults.lean ====
section
/-! DEFINITION. Faults and safe states (chapter 11): Totality, LIMP and DARK, the fault reaction table, and the mode changes they make. -/

namespace Sys2Proof.Machine

/-! ## Totality (R368 to R373) -/

/-- Source bits of SAFE_TOT_SRC (Table 11-7). -/
inductive TotSrc where
  | blankA | blankB | host | twin | spillway | safetyPair | supply | thermal
deriving DecidableEq, Repr

/-- The field of a source. -/
def TotSrc.fld : TotSrc → Fld
  | .blankA => R.SAFE_TOT_SRC_BLANK_A | .blankB => R.SAFE_TOT_SRC_BLANK_B | .host => R.SAFE_TOT_SRC_HOST
  | .twin => R.SAFE_TOT_SRC_TWIN | .spillway => R.SAFE_TOT_SRC_SPILLWAY | .safetyPair => R.SAFE_TOT_SRC_SAFETY_PAIR
  | .supply => R.SAFE_TOT_SRC_SUPPLY | .thermal => R.SAFE_TOT_SRC_THERMAL

/-- A channel's pulse is cut where the channel is not exempt from Totality (R370). -/
def segCut (exempt : Nat) (c : SegCh) (i : Nat) : SegCh := if bitOf exempt i then c else { c with pulse := false }

/-- While DIE-D is in reset an asserted BLANK turns off every channel outside SEG's exemption copy (R21). -/
def State.segBlankOff (s : State) : State :=
  if !s.domOn 11 then s else
  let cut := s.seg.chans.zipIdx.map fun ci => segCut (leNat s.seg.exempt) ci.1 ci.2
  ({ s with seg := { s.seg with chans := cut, resetOff := true } }).fsetb R.SEG_STATUS_OFF_TOT true

/-- Whether a BLANK pin stands asserted. -/
def State.blankRaw (s : State) : Bool := bitOf s.pins.raw 2 || bitOf s.pins.raw 3

/-- Segment channels outside the exemption mask go off while Totality holds any port, and resume when it holds none (R370, R371). -/
def State.segFollowTot (s : State) : State :=
  if s.totAny then
    let cut := s.seg.chans.zipIdx.map fun ci => segCut (leNat s.seg.exempt) ci.1 ci.2
    ({ s with seg := { s.seg with chans := cut } }).fsetb R.SEG_STATUS_OFF_TOT true
  else s.fsetb R.SEG_STATUS_OFF_TOT s.seg.resetOff

/-- K28.0 starts on the lane of a port newly held: at once where it is LINKED or ACTIVE, within a packet that it ends (R280), control packets going on after it (R281), after the exit burst where it is IDLE (R241, R247, R369); a rate-change order is void (R241), and a PRBS test ends in RETRAIN (Table 08-4). -/
def totPort (p : Nat) (s : State) : State :=
  let st := s.lane p
  let s := if s.portOn p && (st == laneLinked || st == laneActive || st == laneIdle) then
    portGoes p (((((s.exitIdle p).abandonWire p).send (.kcode p 0)).fsetb (R.TILE_PROTO_STATUS_TOTALITY_TX p) true).nextControl p) else s
  let s := match (s.port p).order with
    | some (.rate dn up _) => s.setPort p fun q => { q with order := none, reorder := some (.rate dn up 0) }
    | _ => s
  s.endPrbs p

/-- SAFE_TOT_PORTS follows the sources; ports newly held are blanked, and the segments and SAFE_STATUS follow. -/
def State.totApply (s : State) : State :=
  let old := s.fget R.SAFE_TOT_PORTS_PORTS
  let new := s.totScope
  let s := s.fset R.SAFE_TOT_PORTS_PORTS new
  let s := overList totPort ((maskList 24 new).filter fun p => !bitOf old p) s
  s.segFollowTot.showSafe

/-- Bits of the groups that a source's request names, as in MODE: the SPB's blanking groups for a pin, where 0 or no SPB means all ports, and all ports for a source without groups (Tables 11-3, 12-2, R404). The host names its own. -/
def State.srcGroups (s : State) (src : TotSrc) : Nat :=
  match src, s.safe.spb with
  | .blankA, some b => if spbBlankGroups b = 0 then 0x100 else spbBlankGroups b
  | .blankB, some b => if spbBlankGroups b = 0 then 0x100 else spbBlankGroups b
  | .host, _ => s.safe.hostTot
  | _, _ => 0x100

/-- EVT TOTALITY: the mask of the sources that are set or released, their groups, and which of the two it is (Table 04-12). -/
def State.totEvent (s : State) (srcs : List TotSrc) (groups : Nat) (released : Bool) : State :=
  s.eventDev 0x09 0x0032 (leBytes 2 (maskOf (srcs.map fun q => q.fld.lo)) ++ leBytes 2 groups ++ u8 (b2n released))

/-- EVT SAFE_STATE: 0 LIMP, 1 DARK, 2 released, with a fault code (Table 04-12). -/
def State.safeEvent (s : State) (kind fault : Nat) : State :=
  s.eventDev 0x09 0x0031 (u8 kind ++ [0] ++ leBytes 2 fault)

/-- The ports that one source requests (Table 11-3). -/
def State.srcScope (s : State) : TotSrc → Nat
  | .blankA | .blankB => s.blankScope
  | .host => s.hostScope
  | _ => 2 ^ 24 - 1

/-- A Totality request from a source: latched, acting on every port in its scope (R368, R369), sent over the twin links where the source requests all ports itself and is not the twin (R372). -/
def State.totRequest (s : State) (src : TotSrc) (groups fault : Nat) : State :=
  let wasDark := s.dark
  let s := (s.fsetb src.fld true).totApply
  let s := if s.srcScope src == 2 ^ 24 - 1 && src != .twin && s.domOn 8 then (s.send (.twinK 0 0)).send (.twinK 1 0) else s
  let s := s.totEvent [src] groups false
  if s.dark && !wasDark then s.safeEvent 1 fault else s

/-- CTRL RESUME to a tile this device owns, or a legacy one, on a port that Totality no longer holds (R281, R371, Table 09-13); a lane that carries no packets sends it once it does. -/
def totResume (p : Nat) (s : State) : State :=
  let s := s.fsetb (R.TILE_PROTO_STATUS_TOTALITY_TX p) false
  if !(s.owns p || s.legacy p) then s
  else if s.canSend p then (s.sendCtrl p ctrlResume []).resendLimp p
  else s.setPort p fun q => { q with resumeDue := true }

/-- The safety pair releases latched sources: ports that no source holds leave Totality (R371); fault 10 recovers with the last blanking source. -/
def State.totRelease (s : State) (srcs : List TotSrc) (groups : Nat) : State :=
  let latched := srcs.filter fun q => s.fbit q.fld
  if latched.isEmpty then s else
  let old := s.fget R.SAFE_TOT_PORTS_PORTS
  let wasDark := s.dark
  let s := (srcs.foldl (fun s q => s.fsetb q.fld false) s).totApply
  let s := overList totResume ((maskList 24 old).filter fun p => !s.totHolds p) s
  let s := if [TotSrc.blankA, .blankB, .host, .twin].any (fun q => s.fbit q.fld) then s else s.clearFault 10
  let s := s.totEvent latched groups true
  if wasDark && !s.dark then s.safeEvent 2 0 else s

/-! ## Mode changes (R508, R510) -/

/-- EVT MODE_CHANGE (Table 04-12). -/
def State.modeEvent (s : State) (src dst cause : Nat) : State :=
  s.eventDev 0x02 0x0030 (u8 src ++ u8 dst ++ leBytes 2 cause)

/-- The idle timer stops outside STANDBY (R514). -/
def State.idleStop (s : State) : State := (s.fset R.PWR_IDLE_REMAIN_S 0).fsetb R.PWR_IDLE_RUNNING false

/-- The mode changes at once; the idle timer runs in STANDBY only. -/
def State.modeSet (s : State) (dst cause : Nat) : State :=
  let src := s.modeNow
  let s := ((s.fset R.PWR_MODE_MODE dst).fset R.PWR_MODE_TARGET dst).fset R.PWR_MODE_CAUSE cause
  let s := if dst = 1 then s else s.idleStop
  (s.fsetb R.PWR_MODE_BUSY false).modeEvent src dst cause

/-- Complete the command in a slot whose descriptor is no longer at hand, by its place in the ring. -/
def State.completeSlot (s : State) (ring pos : Nat) (st : Status) (frame : Nat) (result : List Byte) : State :=
  match (nth s.cmds.waiting ring).find? (fun d => d.pos == pos) with
  | none => s
  | some d =>
    let w := upd (fun l => l.filter fun e => e.pos != pos) s.cmds.waiting ring
    ({ s with cmds := { s.cmds with waiting := w } }).complete d st frame result

/-- SHOW_LIMP to every owned frame-memory tile with a valid page (R379). -/
def showLimpPort (p : Nat) (s : State) : State := if s.formFor p != .none && s.beamServes p then s.sendCtrl p ctrlShowLimp [] else s

/-- A pending exit from LIMP is withdrawn: the device stays in LIMP, the beam comes back on the surfaces where it had ended, and the command completes with SAFE_REFUSED (R512). -/
def State.withdrawExit (s : State) : State :=
  match s.mode.trans with
  | none => s
  | some t =>
    if t.src ≠ 4 then s else
    let s := ({ s with mode := { s.mode with trans := none } }).fsetb R.PWR_MODE_BUSY false
    let s := s.fset R.PWR_MODE_TARGET 4
    let s := { s with safe := { s.safe with limpEnded := 0, swapped := s.safe.swapped && s.safe.limpEnded == 0 } }
    let s := if s.safe.form == .pages then overAll 6 showLimpPort s else s
    match t.cmd with
    | none => s
    | some (r, pos) => s.completeSlot r pos .safeRefused 0 []

/-! ## LIMP (R378 to R382) -/

/-- The LIMP beam takes a form: tile pages replace the store and never the reverse (R382). -/
def State.limpForm (s : State) (form : LimpForm) : State :=
  let f := if s.safe.form = .pages && !s.safe.parkBeam then .pages else form
  let kept := s.safe.swapped && s.safe.form == f && !s.safe.parkBeam
  let s := { s with safe := { s.safe with form := f, parkBeam := false, swapped := kept } }
  (if f = .pages then overAll 6 showLimpPort s else s).showSafe

/-- LIMP from PARK: the beam is taken at once and the rails start to come up; the mode follows once the domains of RUN are back, MODE_TRANSITION_COMPLETE (R503, R521; DEDUCED, log entry 132). -/
def State.limpFromPark (s : State) (cause : Nat) : State :=
  let s := (s.fset R.PWR_MODE_TARGET 4).fsetb R.PWR_MODE_BUSY true
  let s := ({ s with mode := { s.mode with trans := some { src := 3, dst := 4, cause := cause }, exitAt := some s.ticks } }).idleStop
  match s.railAfter 0 with
  | some r => (s.setSup fun u => { u with dir := .up, purpose := .unpark }).railStart r
  | none => s

/-- LIMP is taken in a form; `fault` is 0 for a command or a Tarn rule. In LIMP only the form changes, and an exit that still waits for an F-tick is withdrawn; during another transition, or once the beam has ended everywhere, the fault is latched until it completes (R382, R512). -/
def State.takeLimp (s : State) (form : LimpForm) (fault cause : Nat) : State :=
  if s.modeNow = 4 && !(s.mode.trans.any fun t => t.waitSurf.isEmpty) then s.withdrawExit.limpForm form
  else if s.fbit R.PWR_MODE_BUSY then
    let next := if s.safe.limpNext = .pages then .pages else form
    let s := { s with mode := { s.mode with limpFault := some (s.mode.limpFault.getD fault) } }
    { s with safe := { s.safe with limpNext := next } }
  else
    let s := { s with mode := { s.mode with presentSinceLimp := false, wokenToRun := false } }
    let s := if s.modeNow = 3 && !s.fbit R.PWR_SUPPLY_STATUS_LIMP_SUPPLY then s.limpFromPark cause else s.modeSet 4 cause
    (s.limpForm form).safeEvent 0 fault

/-- Enter LIMP in a form for a cause, which then stands among the faults that LIMP is held for: those of the next LIMP where the beam of this one has ended everywhere. -/
def State.enterLimp (s : State) (form : LimpForm) (fault cause : Nat) : State :=
  let ending := s.modeNow = 4 && s.mode.trans.any fun t => t.waitSurf.isEmpty
  let s := if fault = 0 then s
    else if ending then { s with mode := { s.mode with limpLater := s.mode.limpLater ++ [fault] } }
    else { s with mode := { s.mode with limpCauses := s.mode.limpCauses ++ [fault] } }
  s.takeLimp form fault cause

/-! ## The fault reaction table (R385, Table 11-6) -/

/-- The reaction of Table 11-6 that is common to every occurrence of a fault. -/
inductive Reaction where
  | report | limpStore | limpPages | dark (src : TotSrc) | totality (src : TotSrc) | limpSupply
deriving DecidableEq, Repr

/-- What each row of Table 11-6 does beyond the report and the reaction its own operation makes. -/
def reactionOf (f : Nat) : Reaction :=
  if f = 2 ∨ f = 3 ∨ f = 5 then .dark .spillway
  else if f = 31 then .dark .supply
  else if f = 32 then .totality .thermal
  else if f = 8 ∨ f = 9 ∨ f = 27 ∨ f = 37 then .limpPages
  else if f = 30 then .limpSupply
  else if f = 1 ∨ f = 6 ∨ f = 7 ∨ f = 13 ∨ f = 14 ∨ f = 15 ∨ f = 29 then .limpStore
  else .report

/-- A surface of the twin, changed. -/
def State.setTwinSurf (s : State) (n : Nat) (f : TwinSurf → TwinSurf) : State :=
  { s with twin := { s.twin with surfs := upd f s.twin.surfs n } }

/-- A frame number joins a list of frames. -/
def noteFrame (f : Nat) (l : List Nat) : List Nat := if l.contains f then l else f :: l

/-- A frame of a surface is not aligned (R423). -/
def State.notAlignedAt (s : State) (n frame : Nat) : State := s.setTwinSurf n fun q => { q with offs := noteFrame (frame % 2 ^ 32) q.offs }

/-- The frame in emission of a surface is not aligned (R423). -/
def State.notAligned (s : State) (n : Nat) : State :=
  if s.running n then s.notAlignedAt n (s.fget (R.TG_FRAME_FRAME_NUM n)) else s

/-- A composed signature of a frame did not match what its layers expect (R425). -/
def State.sigMismatch (s : State) (n frame : Nat) : State := s.setTwinSurf n fun q => { q with sigBad := noteFrame (frame % 2 ^ 32) q.sigBad }

/-- A failure that a verdict takes into account marks the frame interval of every surface (R425). -/
def State.twinBad (s : State) : State :=
  { s with twin := { s.twin with surfs := s.twin.surfs.map fun q => { q with bad := upd (fun _ => true) (padTo false 3 q.bad) 0 } } }

/-- The LEAD yields: YIELD in its heartbeats, TWIN_ALIVE low (R426). -/
def State.yieldNow (s : State) : State :=
  if s.isLead && !s.fbit R.TWIN_STATUS_YIELDING then
    let s := { s with aon := { s.aon with twinAlive := false } }
    (s.fsetb R.TWIN_STATUS_YIELDING true).twinEvent 0x04 0 0
  else s

/-- What a fault does to a twin pair, beyond its row of Table 11-6. -/
def State.twinFault (s : State) (f : Nat) : State :=
  let s := if [1, 8, 9, 15, 26, 27, 28, 29].contains f then s.twinBad else s
  if [1, 8, 9, 15, 27, 29, 30].contains f then s.yieldNow else s

/-- A fault is recorded: SAFE_FAULT_FIRST and _LAST, its bit, the pins, and EVT FAULT (R385). -/
def State.recordFault (s : State) (f inst detail : Nat) : State :=
  let s := if s.fget R.SAFE_FAULT_FIRST_CODE = 0 then
    (s.fset R.SAFE_FAULT_FIRST_CODE f).fset R.SAFE_FAULT_FIRST_INSTANCE inst else s
  let s := (s.fset R.SAFE_FAULT_LAST_CODE f).fset R.SAFE_FAULT_LAST_INSTANCE inst
  (s.latchFault f).eventDev 0x09 0x0033 ([0, 0] ++ leBytes 2 f ++ leBytes 2 inst ++ leBytes 4 detail)

/-- The table's reaction to a fault. -/
def State.reactTo (s : State) (f : Nat) : State :=
  match reactionOf f with
  | .report => s
  | .limpStore => s.enterLimp .store f (0x100 + f)
  | .limpPages => s.enterLimp .pages f (0x100 + f)
  | .dark src => (s.totRequest src 0x100 f).fsetb R.SAFE_TOT_SRC_SAFETY_PAIR true
  | .totality src => s.totRequest src (s.srcGroups src) f
  | .limpSupply => ({ s with sup := { s.sup with shedDue := true } }).fsetb R.PWR_SUPPLY_STATUS_LIMP_SUPPLY true
      |>.enterLimp .store f (0x100 + f)

/-- A fault is detected: recorded, and the table's reaction taken (R385); while SAFE is off nothing records or reacts. -/
def State.raise (s : State) (f inst detail : Nat) : State :=
  if s.domOn 1 then ((s.recordFault f inst detail).twinFault f).reactTo f else s

/-- A fault whose recovery is automatic and immediate is reported and not left latched. -/
def State.raiseBrief (s : State) (f inst detail : Nat) : State := (s.raise f inst detail).clearFault f

/-- A confirmed segment fault is reported: EVT SEG_FAULT with the channel, or 0xC0 and the rail, and the kind; fault 34 (R482). -/
def State.segReport (s : State) (c kind : Nat) : State := (s.eventDev 0x08 0x0070 (u8 c ++ u8 kind)).raise 34 c kind

/-- The faults that one event raises, each a number, an INSTANCE and a DETAIL: the lowest number first, and those of one number in their order (R382). A segment fault is reported as R482 gives. -/
def State.raiseAll (s : State) (l : List (Nat × Nat × Nat)) : State :=
  (List.range 41).foldl (fun s f => (l.filter fun e => e.1 == f).foldl (fun s e => if f = 34 then s.segReport e.2.1 e.2.2 else s.raise f e.2.1 e.2.2) s) s

/-- The segment faults confirmed while DIE-D was in reset, in channel order, which are reported after the boot (R482). -/
def State.segUnreported (s : State) : List (Nat × Nat × Nat) :=
  (List.range 256).flatMap fun c => (s.seg.unreported.filter fun e => e.1 == c).map fun e => (34, e.1, e.2)

/-! ## Leaving LIMP (R511, R512) -/

/-- Whether a fault that put the device in LIMP has recovered but for MODE RUN itself (Table 11-6). -/
def State.limpCauseOver (s : State) (f : Nat) : Bool :=
  if f = 6 then (s.safe.surfs.all fun q => !q.outOf) && s.safe.pair.all fun q => !q.outOf
  else if f = 7 then (s.safe.surfs.all fun q => !q.fast) && s.safe.pair.all fun q => !q.fast
  else if f = 13 then s.mode.presentSinceLimp
  else if f = 14 ∨ f = 26 then true
  else if f = 27 then s.safe.spb.isSome && !s.safe.spbReload
  else if f = 30 then s.fbit R.PWR_SUPPLY_STATUS_MAIN_OK && !s.fbit R.PWR_SUPPLY_STATUS_LIMP_SUPPLY
  else !s.faultOn f

/-- Whether the safety pair accepts a MODE RUN or STANDBY from LIMP (R404, R511). -/
def State.limpMayEnd (s : State) : Bool :=
  s.safe.spb.isSome && s.mode.limpCauses.all fun f => s.limpCauseOver f

/-- An exit from LIMP that still waits for an F-tick is withdrawn where the condition for leaving LIMP no longer holds (R512). -/
def State.recheckExit (s : State) : State :=
  if (s.mode.trans.any fun t => t.src == 4 && !t.waitSurf.isEmpty) && !s.limpMayEnd then s.withdrawExit else s

/-- The LIMP beam ends: its faults have recovered, the tiles get the SCALE of their surfaces, and SAFE_STATE is released. -/
def State.endLimp (s : State) : State :=
  let causes := s.mode.limpCauses
  let s := { s with mode := { s.mode with limpCauses := [] } }
  let surfs := s.safe.surfs.map fun q => { q with zeroed := false }
  let s := { s with safe := { s.safe with form := .none, swapped := false, parkBeam := false, limpEnded := 0, surfs := surfs } }
  let s := overList (fun f s => s.clearFault f) (causes.filter fun f => !s.mode.limpLater.contains f) s
  (overAll 24 scaleOwed s).showSafe.safeEvent 2 0

end Sys2Proof.Machine
end

