-- ==== Sys2Proof/Machine/Domains.lean ====
section
/-! DEFINITION. Power domains (R17, R498 to R505) and what a domain's reset reaches (R603, Table 01-2). -/

namespace Sys2Proof.Machine

/-- The domain code that owns a BAR 0 offset (Table 16-5); 99 for the reserved block. -/
def ownerDomain (a : Nat) : Nat :=
  match a / 0x10000 with
  | 0 => 1 | 1 => 5 | 2 => 0 | 3 => 9 | 4 => 3 | 5 => 3
  | 6 => if 0x6C000 ≤ a then 6 else portDomain ((a - 0x60000) / 0x800)
  | 7 => 8 | 8 => 11 | 9 => 1 | 10 => 10 | 11 => 1 | 12 => 4 | 13 => 9 | 14 => 2
  | 15 => 99
  | _ => 5

/-- Whether the block at an offset is off: its domain is off or in retention, or it is a port outside TLA's LIMP subset (R504). -/
def State.blockOff (s : State) (a : Nat) : Bool :=
  if a / 0x10000 = 15 then false
  else !s.domOn (ownerDomain a)
    || (a / 0x10000 == 6 && decide (a < 0x6C000) && !s.portOn ((a - 0x60000) / 0x800))

/-- The registers at the offsets that a test picks take their reset words (R603), and the values in force with them. -/
def State.resetRegs (s : State) (pick : Nat → Bool) : State :=
  let keep (r : RegFile) := r.filter fun e => !pick e.1
  let back := resetWords.filter fun e => pick e.1
  { s with regs := back.foldl regInsert (keep s.regs), fregs := back.foldl regInsert (keep s.fregs) }

/-- A port's record after its domain powers up. -/
def resetPort (p : Nat) (s : State) : State := s.setPort p fun _ => {}

/-- What the pixel store holds for one surface: maps, patterns and the output frame in use (Table 19-4). -/
def SurfPix.stored (q : SurfPix) : SurfPix := { SurfPix.init with gain := q.gain, patterns := q.patterns, picture := q.picture }

/-- What the pixel store holds of one port's health (Table 19-4). -/
def Health.stored (h : Health) : Health :=
  { zsum := rep 8 (0, 0), defects := h.defects, fv := h.fv }

/-- PIX at reset values, the pixel store as it is. -/
def PixSt.logicReset (x : PixSt) : PixSt :=
  { PixSt.init with health := x.health.map Health.stored, history := x.history, surfs := x.surfs.map SurfPix.stored }

/-- The pixel store's content is lost. -/
def PixSt.storeLost (x : PixSt) : PixSt :=
  { x with
    health := x.health.map fun h => { h with defects := [], staged := none, base := [], baseStaged := [], fv := [] }
    history := []
    surfs := x.surfs.map fun q => { q with
      gain := none, gainStaged := none, patterns := rep 16 none, patternsStaged := rep 16 none, picture := none } }

/-- The position at which a ring starts anew: index 0, generation 1 for every size, above every position used before (R74, R97). -/
def Ring.restart (q : Ring) : Nat := (q.head + q.flight.length + 8191) / 8192 * 8192

/-- The host interface after a reset of its rings: nothing is fetched, owed or held. SEQ and the pending LOST_COUNT restart at 0 (DEDUCED, log entry 104). -/
def HostSt.ringsReset (h : HostSt) : HostSt :=
  { HostSt.init with rings := h.rings.map fun (q : Ring) => { head := q.restart, tail := q.restart }, presentSeen := h.presentSeen }

/-- Flash writes in progress are lost with CORE: a part of a firmware image leaves its slot's content open (R588). -/
def FlashSt.cut (n : Nat) (f : FlashSt) : FlashSt :=
  let spoil (q : List FwSlot) : FlashJob → List FwSlot
    | .fwPart _ _ slot _ _ _ => upd (fun (w : FwSlot) => { w with image := Config.flashAfterFail n, complete := false, failed := true }) q slot
    | _ => q
  { f with jobs := [], slots := f.jobs.foldl spoil f.slots }

/-- A session is over in SAFE: staged SPB and confirmation go (R396). -/
def State.sessionOver (s : State) : State :=
  let s := { s with safe := { s.safe with session := false, staged := none, closeDue := false, reopen := false } }
  let s := ((s.fsetb R.SAFE_COMM_STATUS_SESSION false).fsetb R.SAFE_COMM_STATUS_STAGED false).fsetb R.SAFE_COMM_STATUS_CONFIRMED false
  (s.fset R.SAFE_COMM_CONFIRM_VALUE 0).fset R.SAFE_SPB_STAGED_VALUE 0

/-- CORE goes off: its flash writes have ended, so COMMIT_BUSY is 0; a session whose close was waiting for that, or whose life-cycle state goes with CORE, is over (R396, R406). -/
def State.commitCut (s : State) (service : Bool) : State :=
  let s := s.fsetb R.SAFE_COMM_STATUS_COMMIT_BUSY false
  if s.safe.closeDue || (s.safe.session && service) then s.sessionOver else s

/-- TILE_SYNC and TICK_OUT go low with their generators. -/
def State.syncLow (s : State) : State :=
  let ps := maskList 24 s.pins.tileSync
  let t := s.pins.tickOut
  let s := { s with pins := { s.pins with tileSync := 0, tickOut := false, tickEnd := 0 } }
  let s := s.emits (ps.map fun p => .tileSync p false)
  if t then s.emit (.tickOut false) else s

/-- TICK_OUT is low: nothing selects a tick, or no tick comes (R62). -/
def State.tickLow (s : State) : State :=
  if s.pins.tickOut then ({ s with pins := { s.pins with tickOut := false } }).emit (.tickOut false) else s

/-- The hidden state of a domain goes to its reset value (Table 01-2); the trims and tables of the calibration engine are kept in AON (Table 01-3). -/
def State.resetHidden (s : State) (d : Nat) : State :=
  if d = 1 then { s with safe := SafeSt.init, test := {} }
  else if d = 2 then ({ s with flash := s.flash.cut s.free, cmds := {} }).drawn
  else if d = 3 then ({ s with gens := rep 4 {}, pix := s.pix.logicReset }).syncLow
  else if d = 4 then { s with pix := s.pix.storeLost, parkPats := rep 6 {}, mode := { s.mode with parkPics := [] } }
  else if d = 5 then { s with host := { s.host.ringsReset with presentSeen := 0 } }
  else if d = 6 then overList resetPort (List.range 12) s
  else if d = 7 then overList resetPort ((List.range 12).map (· + 12)) s
  else if d = 8 then { s with twin := TwinSt.init }
  else if d = 9 then { s with clk := {}, net := rep 2 {} }
  else if d = 10 then { s with therm := { ThermSt.init with trims := s.therm.trims, lpoTab := s.therm.lpoTab, segTab := s.therm.segTab, lpoPpm := s.therm.lpoPpm, segPpm := s.therm.segPpm } }
  else if d = 11 then { s with seg := SegSt.init }
  else s

/-- A domain's registers and state at reset values. -/
def State.resetDomain (s : State) (d : Nat) : State :=
  let t := (s.resetRegs fun a => ownerDomain a == d && decide (a / 0x10000 ≠ 2)).resetHidden d
  if d = 2 then t.commitCut (s.fget R.BOOT_STATUS_LC == lcService) else t

/-- The segments' clock and internal ticks run free while NET is off; the next tick after NET is back falls on the network grid (R461, R465). -/
def State.segClock (s : State) : State :=
  if !s.domOn 11 then s
  else if s.domOn 9 then s.fsetb R.SEG_STATUS_CLK_FREE false
  else (s.fsetb R.SEG_STATUS_CLK_FREE true).fsetb R.SEG_STATUS_TICK_FREE true

/-- A port of a domain that comes on shows its TILE_ALERT_N, and with EN at 1 waits for its EN_WAIT_MS (R234). -/
def waitPort (p : Nat) (s : State) : State :=
  let s := s.fsetb (R.TILE_LANE_STATUS_ALERT p) (bitOf s.pins.tileAlert p)
  if s.fbit (R.TILE_LANE_CTRL_EN p) then s.fset (R.TILE_LANE_STATUS_STATE p) laneWait else s

/-- When PIX turns on, a port's baseline map takes the size of its CAP record, and DEFECTS shows the defect map kept (R324). -/
def pixOnPort (p : Nat) (s : State) : State :=
  let s := s.fset (R.PIX_HLT_PORT_STAT_DEFECTS p) (nth s.pix.health p).defects.length
  match (s.port p).cap with
  | none => s
  | some c => { s with pix := { s.pix with health := upd (fun (h : Health) => { h with capRaw := c.raw, tw := c.tw, th := c.th }) s.pix.health p } }

/-- TG_STATUS.HOLDOVER of every generator follows the clock's state: 1 but in SYNCED (R436). -/
def State.showHoldover (s : State) : State :=
  let h := s.fget R.TIME_STATUS_STATE != 1
  if s.domOn 3 then overAll 4 (fun n s => s.fsetb (R.TG_STATUS_HOLDOVER n) h) s else s

/-- A domain goes off (R498): while it is isolated its outputs appear at their reset values. SAFE keeps the TG registers that place the served tiles (R32, R378; DESIGN CHOICE, log entry 113). -/
def domainOff (d : Nat) (s : State) : State :=
  if s.domOn d then
    let s := if d = 3 then { s with safe := { s.safe with place := some (s.regs.filter fun e => decide (0x40000 ≤ e.1) && decide (e.1 < 0x50000)) } } else s
    let s := ((s.resetDomain d).domSet d false).segClock
    if d = 9 then s.showHoldover.tickLow else s
  else s

/-- The AON sensor's newest sample, in 1/16 °C (Table 17-4, input 13). -/
def State.aonTemp (s : State) : Int := (nth s.mode.tarn 13).x1

/-- The remote channels that count in start-up and recovery, and the highest of them: its source code and temperature (R533). -/
def State.hottest (s : State) : Option (Nat × Int) :=
  ((List.range 4).filter fun i => s.fbit (R.THERM_RCH_T_VALID i) && s.fbit (R.THERM_RCH_CFG_USE i)).foldl
    (fun (b : Option (Nat × Int)) i =>
      let t := s.fint (R.THERM_RCH_T_TEMP i)
      match b with
      | none => some (i + 1, t)
      | some q => if q.2 < t then some (i + 1, t) else b) none

/-- The governing temperature and the code of its source (R533): mode SERVICE's choice, the remote channels or the AON sensor plus GUARD in start-up and recovery, else the diode. -/
def State.tGov (s : State) : Nat × Int :=
  let src := s.fget R.THERM_CTRL_SRC
  if s.modeNow = 5 ∧ 1 ≤ src ∧ src ≤ 4 then (src, s.fint (R.THERM_RCH_T_TEMP (src - 1)))
  else if s.modeNow = 5 ∧ src = 5 then (5, s.aonTemp)
  else if s.fbit R.THERM_STATUS_STARTUP || s.fbit R.THERM_STATUS_RECOVERY then
    s.hottest.getD (5, s.aonTemp + 16 * (s.fget R.THERM_PLAUS_GUARD : Int))
  else (0, s.fint R.THERM_TEMP_DIE_T)

/-- A calibration run starts, or is to follow the one in progress (R545). -/
def State.calTrigger (s : State) : State :=
  if !s.domOn 10 then s
  else if s.therm.run.isSome then s.fsetb R.THERM_STATUS_CAL_PENDING true
  else ({ s with therm := { s.therm with run := some { tStart := s.tGov.2 } } }).fsetb R.THERM_STATUS_CAL_BUSY true

/-- A BLANK pin that stands asserted while SAFE comes on requests Totality: the request follows the raw level, and takes over from the cut of R21 (R369, R375, R484). -/
def blankLevel (b : Bool) (s : State) : State :=
  if bitOf s.pins.raw (if b then 3 else 2) then
    (({ s with seg := { s.seg with resetOff := false } }).fset R.SAFE_INPUTS_RAW s.pins.raw |>.totRequest (if b then .blankB else .blankA) (s.srcGroups .blankA) 10).raise 10 0 0
  else s

/-- A junction comparator of AON that stands tripped while SAFE comes on requests Totality over its wires: fault 32 (R15, R541). -/
def State.hotLevel (s : State) : State :=
  if s.aon.hot then (s.fsetb R.THERM_STATUS_SHUTDOWN true).raise 32 0 0 else s

/-- What outlasts SENTINEL comes back with SAFE, without a new detection: a latched DARK, and the ports whose TILE_EN is held (R381, R383; DEDUCED, log entry 101). -/
def State.relatch (s : State) : State :=
  let s := s.aon.keptDark.foldl (fun s f => (s.latchFault f).reactTo f) s
  let s := s.aon.keptHolds.foldl (fun s h => s.latchFault h.fault) s
  let ps := s.aon.keptHolds.map (·.port)
  let s := overList (fun p s => s.fsetb (R.PIX_HLT_PORT_STAT_TILE_HELD p) true) ((s.aon.keptHolds.filter fun h => h.fault != 19).map (·.port)) s
  let s := s.fset R.SAFE_TILE_HELD_PORTS (ps.foldl (fun m p => maskSet m p true) (s.fget R.SAFE_TILE_HELD_PORTS))
  { s with safe := { s.safe with holds := s.safe.holds ++ s.aon.keptHolds }, aon := { s.aon with keptDark := [], keptHolds := [] } }

/-- A domain comes on from off, at its reset values (R498, R603); SAFE with the requests that stand on its wires and what it kept through SENTINEL. -/
def domainOn (d : Nat) (s : State) : State :=
  if s.domOn d then s else
  let s := (s.domSet d true).segClock
  if d = 10 then s.calTrigger
  else if d = 1 then ((blankLevel true (blankLevel false { s with test := { sweepAt := s.ticks } })).relatch).hotLevel
  else if d = 4 then (s.fsetb R.MEM_STATUS_READY true).fsetb R.MEM_STATUS_SCRUBBING true
  else if d = 3 then overAll 24 pixOnPort ({ s with safe := { s.safe with place := none } }).showHoldover else if d = 6 then overAll 12 waitPort s else if d = 7 then overList waitPort ((List.range 12).map (· + 12)) s else s

/-- Domains in power-up order (Table 16-3). -/
def powerUpOrder : List Nat := [10, 11, 1, 2, 4, 3, 5, 9, 6, 7, 8]

/-- The domains that PWR_DOM_REQ keeps off (R502). -/
def State.reqOff (s : State) (d : Nat) : Bool :=
  (d == 7 && s.fbit R.PWR_DOM_REQ_TLB_OFF) || (d == 8 && s.fbit R.PWR_DOM_REQ_TWIN_OFF)
    || (d == 9 && s.fbit R.PWR_DOM_REQ_NET_OFF)

/-- Turn off, in reverse power-up order, the domains of a list. -/
def State.powerDown (s : State) (ds : List Nat) : State :=
  overList domainOff (powerUpOrder.reverse.filter ds.contains) s

/-- Turn on, in power-up order, the domains of a list that PWR_DOM_REQ does not keep off. -/
def State.powerUp (s : State) (ds : List Nat) : State :=
  overList domainOn (powerUpOrder.filter fun d => ds.contains d && !s.reqOff d) s

/-- Ports 6 to 11 and REFOUT1 are isolated: their registers at reset, EN reading 0 (R500). -/
def State.tlaToLimp (s : State) : State :=
  let s := s.resetRegs fun a => decide (0x63000 ≤ a) && decide (a < 0x66000)
  (overList resetPort [6, 7, 8, 9, 10, 11] s).fsetb R.PWR_DOM_STATUS_TLA_LIMP true

/-- The pixel store is off and out of retention: its content and MEM's logic are lost (R501, Table 01-3). -/
def State.storeOff (s : State) : State := (s.resetDomain 4).fsetb R.PWR_DOM_STATUS_MEM_RET false

/-- TLA comes back whole. -/
def State.tlaToFull (s : State) : State := s.fsetb R.PWR_DOM_STATUS_TLA_LIMP false

end Sys2Proof.Machine
end

