-- ==== Sys2Proof/Machine/Boot.lean ====
section
/-! DEFINITION. Flash and boot (chapters 12 and 20): the choice of the SPB, firmware slots and the slot directory, the life-cycle record, and the steps of a boot. -/

namespace Sys2Proof.Machine

/-- The flash record and the boot record, changed. -/
def State.setFlash (s : State) (f : FlashSt → FlashSt) : State := { s with flash := f s.flash }
def State.setBoot (s : State) (f : BootSt → BootSt) : State := { s with boot := f s.boot }

/-! ## The SPB copies (R401 to R405) -/

/-- The record that SPB_COMMIT writes to a copy: COMMIT_SEQ, LEN, image, check value, record CRC (R401). -/
def spbRecord (copy seq : Nat) (img : List Byte) : List Byte :=
  let b := leBytes 4 seq ++ leBytes 4 img.length ++ img ++ leBytes 4 (spbCheckValue img)
  b ++ leBytes 4 (crcWith (spbRecordPrefix copy img.length) b)

/-- Image of a stored record. -/
def recImage (r : List Byte) : List Byte := (r.drop 8).take (leAt r 4 4)

/-- Whether a stored copy is good: record CRC, check value, and R392 (R402). -/
def copyGood (copy : Nat) (r : List Byte) : Bool :=
  let n := leAt r 4 4
  decide (512 ≤ n) && decide (n ≤ 16384) && decide (16 + n ≤ r.length)
  && leAt r (12 + n) 4 == crcWith (spbRecordPrefix copy n) (r.take (12 + n))
  && leAt r (8 + n) 4 == spbCheckValue (recImage r) && spbOk (recImage r) n

/-- Whether COMMIT_SEQ `b` is later than `a`, modulo 2^32 over a window of 2^31 (R402). -/
def seqLater (a b : Nat) : Bool :=
  let d := (b + 2 ^ 32 - a % 2 ^ 32) % 2 ^ 32
  d != 0 && decide (d < 2 ^ 31)

/-- What Table 12-3 gives: SOURCE, A_BAD, B_BAD, and the fault to report, 0 for none. -/
structure SpbChoice where
  source : Nat
  aBad : Bool
  bBad : Bool
  fault : Nat
deriving DecidableEq, Repr

/-- Table 12-3 on the two stored copies. -/
def chooseSpb (a b : List Byte) : SpbChoice :=
  if copyGood 0 a then
    if copyGood 1 b then
      if recImage a = recImage b then ⟨3, false, false, 0⟩
      else if seqLater (leAt a 0 4) (leAt b 0 4) then ⟨2, true, false, 36⟩ else ⟨1, false, true, 36⟩
    else ⟨1, false, true, 36⟩
  else if copyGood 1 b then ⟨2, true, false, 36⟩ else ⟨0, true, true, 37⟩

/-- The values that the safety pair writes elsewhere: SEG_EXEMPT to SEG's copy, STUCK_RESET_MS and the discrepancy times to Tarn (R403); without an SPB no channel is exempt and LIGHT_REQ is dual-channel (R404). -/
def State.applySpb (s : State) : State :=
  match s.safe.spb with
  | none =>
    { s with seg := { s.seg with exempt := [] }, mode := { s.mode with singleCh := false } }
  | some b =>
    let s := { s with
      seg := { s.seg with exempt := spbExempt b },
      mode := { s.mode with tDiscLreq := spbTDiscLreq b, tDiscBlank := spbTDiscBlank b, singleCh := spbSingleCh b } }
    s.fset R.PWR_RESET_STUCK_MS (spbStuckMs b)

/-- The larger COMMIT_SEQ of the copies that check, in the window of R402; 0 where neither does (R401). -/
def bootSeq (a b : List Byte) : Nat :=
  match copyGood 0 a, copyGood 1 b with
  | true, true => if seqLater (leAt a 0 4) (leAt b 0 4) then leAt b 0 4 else leAt a 0 4
  | true, false => leAt a 0 4
  | false, true => leAt b 0 4
  | false, false => 0

/-- The SPB in use is read from flash, at a boot or in a reload (R402 to R405): its registers and copies follow; fault 36 or 37 is raised. A boot, and no reload, takes the COMMIT_SEQ that the next commit follows (R401). -/
def State.loadSpb (s : State) (boot readOk : Bool) : State :=
  let a := if readOk then nth s.flash.spbs 0 else []
  let b := if readOk then nth s.flash.spbs 1 else []
  let c := chooseSpb a b
  let r := if c.source = 2 then b else a
  let img := if c.source = 0 then none else some (recImage r)
  let s := { s with safe := { s.safe with spb := img, ceilCopy := img, pairCopy := img, spbReload := false } }
  let s := if boot then s.setFlash fun f => { f with maxSeq := bootSeq a b } else s
  let s := (s.fset R.SAFE_SPB_INFO_SOURCE c.source).fsetb R.SAFE_SPB_INFO_A_BAD c.aBad
  let s := s.fsetb R.SAFE_SPB_INFO_B_BAD c.bBad
  let s := s.fset R.SAFE_SPB_ACTIVE_VALUE (match img with | some i => spbCheckValue i | none => 0)
  let s := s.fset R.SAFE_SPB_VERSION_VERSION (match img with | some i => spbVersion i | none => 0)
  let s := (s.fset R.SAFE_SPB_SEQ_SEQ (if c.source = 0 then 0 else leAt r 0 4)).applySpb
  if c.fault = 0 then s else s.raise c.fault 0 0

/-! ## Firmware slots and the directory (R580, R582 to R585) -/

/-- A slot of the flash. -/
def State.slot (s : State) (i : Nat) : FwSlot := nth s.flash.slots i

/-- VERSION and SEC_VER of a slot: 0 for the image of manufacture. -/
def FwSlot.version (f : FwSlot) : Nat := if f.factory then 0 else Config.imageVersion f.image
def FwSlot.secVer (f : FwSlot) : Nat := if f.factory then 0 else Config.imageSecVer f.image

/-- Whether a slot is valid: signatures, and SEC_VER from the anti-rollback counter to 64 (R580). -/
def State.slotValid (s : State) (i : Nat) : Bool :=
  let f := s.slot i
  (f.factory || (f.complete && Config.imageSigned f.image && Config.boardSigned f.image s.boot.otpKey))
    && decide (s.boot.otpRollback ≤ f.secVer) && decide (f.secVer ≤ 64)

/-- The directory in force: the good copy with the later sequence number; with neither good, A is active and there is no trial (R580). -/
def dirInForce (a b : SlotDir) : SlotDir :=
  if a.good && (!b.good || decide (b.seq ≤ a.seq)) then a else if b.good then b else {}

/-- The directory of the state. -/
def State.dir (s : State) : SlotDir := dirInForce (nth s.flash.dirs 0) (nth s.flash.dirs 1)

/-- The copy with the older sequence number, which a write takes first (R588). -/
def State.olderDir (s : State) : Nat :=
  let a := nth s.flash.dirs 0
  let b := nth s.flash.dirs 1
  if !a.good then 0 else if !b.good then 1 else if a.seq ≤ b.seq then 0 else 1

/-- A directory written by the boot: the older copy, then the other. -/
def State.writeDir (s : State) (d : SlotDir) : State :=
  let n := { d with good := true, seq := s.dir.seq + 1 }
  let first := s.olderDir
  let s := s.emits [.flashWrite (0x1000 * first) 0 [], .flashWrite (0x1000 * (1 - first)) 0 []]
  s.setFlash fun f => { f with dirs := [n, n] }

/-- BOOT_FW_VER_x, BOOT_FW_SEC and TRIAL_PENDING as flash gives them. -/
def State.showSlotsFw (s : State) : State :=
  let va := s.slotValid 0
  let vb := s.slotValid 1
  let s := s.fset R.BOOT_FW_VER_A_VERSION (if va then (s.slot 0).version else 0)
  let s := s.fset R.BOOT_FW_VER_B_VERSION (if vb then (s.slot 1).version else 0)
  let s := (s.fset R.BOOT_FW_SEC_SEC_A (s.slot 0).secVer).fset R.BOOT_FW_SEC_SEC_B (s.slot 1).secVer
  let s := (s.fsetb R.BOOT_FW_SEC_VALID_A va).fsetb R.BOOT_FW_SEC_VALID_B vb
  s.fsetb R.BOOT_STATUS_TRIAL_PENDING s.dir.trial.isSome

/-- The slot that runs, whether it is a fallback, and the slots, as BOOT_STATUS and its neighbours show them while CORE is on. -/
def State.showFw (s : State) : State :=
  if s.domOn 2 then ((s.fset R.BOOT_STATUS_SLOT s.boot.slot).fsetb R.BOOT_STATUS_FALLBACK s.boot.fallback).showSlotsFw else s

/-- BOOT_STATUS.LC and TEST_STATUS.ENG_ALLOWED show a life-cycle state (R589, Table 19-6). -/
def State.showLc (s : State) (lc : Nat) : State := (s.fset R.BOOT_STATUS_LC lc).fsetb R.TEST_STATUS_ENG_ALLOWED (lc == 0 || lc == 3)

/-- The registers that OTP and the straps give, once CORE is on: life-cycle state, key, counter, device ID, LAMP_SIDE, XSPI_SAFE (R575, R589), and the lockout of R592. -/
def State.showOtp (s : State) : State :=
  let b := s.boot
  let s := (s.showLc b.otpLc).fsetb R.BOOT_STATUS_SVC_KEY b.otpKey.isSome
  let s := (s.fset R.BOOT_STATUS_ROLLBACK b.otpRollback).fsetb R.BOOT_STATUS_LAMP_SIDE b.left
  let s := (s.fsetb R.BOOT_STATUS_XSPI_SAFE b.xspiSafe).fsetb R.BOOT_STATUS_XSPI_SLOW b.slow
  let s := (s.fsetb R.BOOT_LC_STATUS_LOCKED b.locked).fset R.BOOT_LC_STATUS_LOCK_S b.lockS
  overAll 4 (fun w s => s.fset (R.BOOT_DEV_ID_ID w) (nth b.otpId w).toNat) s

/-! ## The life-cycle record (R592, R593) -/

/-- The 16 bytes of a life-cycle record: sequence number, LC_FAILS, LOCK_S, CRC. -/
def lcRecord (seq fails lockS : Nat) : List Byte :=
  let b := leBytes 4 seq ++ leBytes 1 fails ++ [0, 0, 0] ++ leBytes 2 lockS ++ [0, 0]
  b ++ leBytes 4 (crcWith [0x4C, 0x43, 0, 0] b)

/-- Whether a record checks. -/
def lcGood (r : List Byte) : Bool := r.length == 16 && leAt r 12 4 == crcWith [0x4C, 0x43, 0, 0] (r.take 12)

/-- A new record goes to the sector that does not hold the one in force, one higher (R593). -/
def State.writeLc (s : State) : State :=
  let seq := (s.boot.lcSeq + 1) % 2 ^ 32
  let sector := 1 - s.boot.lcSector
  let rec16 := lcRecord seq (s.fget R.PWR_RESET_LC_FAILS) ((s.boot.lockS + 9) / 10 * 10)
  let s := s.emit (.flashWrite (0x2000 + 0x1000 * sector) 0 rec16)
  let s := s.setFlash fun f => { f with lcs := upd (fun _ => rec16) f.lcs sector }
  s.setBoot fun b => { b with lcSeq := seq, lcSector := sector }

/-- LC_FAILS and the lockout, shown (R592). -/
def State.showLock (s : State) (fails lockS : Nat) : State :=
  let s := (s.fset R.PWR_RESET_LC_FAILS fails).setBoot fun b => { b with locked := lockS != 0, lockS := lockS, lockMs := if lockS = b.lockS then b.lockMs else 0 }
  if s.domOn 2 then (s.fsetb R.BOOT_LC_STATUS_LOCKED (lockS != 0)).fset R.BOOT_LC_STATUS_LOCK_S lockS else s

/-- At a boot after a power-on reset the record in force gives LC_FAILS and LOCK_S; with none, 5 fails and a full lockout (R593). -/
def State.restoreLc (s : State) : State :=
  let a := nth s.flash.lcs 0
  let b := nth s.flash.lcs 1
  if !lcGood a && !lcGood b then s.showLock 5 600
  else
    let useB := lcGood b && (!lcGood a || decide (leAt a 0 4 < leAt b 0 4))
    let r := if useB then b else a
    let s := s.setBoot fun q => { q with lcSeq := leAt r 0 4, lcSector := b2n useB }
    s.showLock (leAt r 4 1) (leAt r 8 2)

/-! ## The power-on test (R548 to R551) -/

/-- EVT SOUNDING: unit, result, signature or detail (R571). -/
def State.sounding (s : State) (unit result detail : Nat) : State :=
  s.eventDev 0x0B 0x0090 (u8 unit ++ u8 result ++ leBytes 4 detail)

/-- What a power-on test finds: result and detail of units 0x60 to 0x63, the pixel lanes that fail, whether SAFE, the Spillway, Totality or the safety pair cannot be repaired, whether any other logic unit fails, its duration, the spares it mapped, and the spare rows and columns left. -/
structure PostResult where
  units : List (Nat × Nat) := []
  lanes : List Nat := []
  safeFail : Bool := false
  otherFail : Bool := false
  durUs : Nat := 0
  repairs : Nat := 0
  rows : Nat := 0
  cols : Nat := 0
deriving DecidableEq, Repr

/-- Whether a unit other than a pixel lane fails: one of the logic units, or the SRAM, the analog part or the pixel store by its result (Table 19-1, R571). -/
def PostResult.others (p : PostResult) : Bool := p.otherFail || [0, 2, 3].any fun i => (nth p.units i).1 == 1

/-- The test as SAFE shows and reports it, each unit in turn; one failed pixel lane is retired (Table 19-1). -/
def State.postShow (s : State) (p : PostResult) : State :=
  let bad := p.others || !p.lanes.isEmpty
  let s := (s.fsetb R.TEST_STATUS_POST_DONE true).fsetb R.TEST_STATUS_POST_FAIL bad
  let s := (s.fset R.TEST_POST_DURATION_US (min 0xFFFF p.durUs)).fset R.TEST_POST_REPAIRS (min 0xFF p.repairs)
  let s := (s.fset R.TEST_SPARES_ROWS_LEFT (min 0xFF p.rows)).fset R.TEST_SPARES_COLS_LEFT (min 0xFF p.cols)
  let s := overAll 4 (fun i s => s.sounding (0x60 + i) (nth p.units i).1 (nth p.units i).2) s
  match p.lanes with
    | [l] => if !s.domOn 3 then s else
        ((s.fset R.PIX_LANE_STATUS_RETIRED (2 ^ l)).fsetb R.PIX_LANE_STATUS_ROTATING false).fset R.PIX_LANE_STATUS_OFFLINE 7
    | _ => s

/-- The faults of the test: 15 for two lanes or more, 29 for another unit (Table 19-1). -/
def PostResult.faults (p : PostResult) : List (Nat × Nat × Nat) :=
  (match p.lanes with | l :: _ :: _ => [(15, l, 0)] | _ => []) ++ (if p.others then [(29, 0, 0)] else [])

/-! ## The boot in steps (R581) -/

/-- A read of the flash starts for a step of the boot: slow while XSPI_SAFE is high or a fast read has failed (R580). -/
def State.bootRead (s : State) (step : BootStep) (code : Nat) : State :=
  (s.setBoot fun b => { b with step := step }).emit (.flashRead (s.boot.slow || s.boot.xspiSafe) code)

/-- The rest of the boot reads in 1S-1S-1S mode (R580). -/
def State.goSlow (s : State) : State :=
  let s := s.setBoot fun b => { b with slow := true }
  if s.domOn 2 then s.fsetb R.BOOT_STATUS_XSPI_SLOW true else s

/-- The domains are up: the registers from OTP are shown and the directory is read (R581 step 3); a restoration reloads the control firmware only (R492). -/
def State.bootDomains (s : State) (cause : Nat) : State :=
  let s := s.setBoot fun b => { b with slow := false, startAt := s.ticks }
  let s := if s.domOn 2 then s.showOtp else s
  let s := s.fset R.PWR_RESET_CAUSE cause
  if cause = 4 then (s.setBoot fun b => { b with active := true, cause := cause }).showFw.bootRead .fw 4
  else (s.setBoot fun b =>
    { b with active := true, cause := cause, otherTried := false, fallback := false, spbBad := false, trial := false }).bootRead .dir 1

/-- The DIE-D domains. -/
def dieD : List Nat := [1, 2, 3, 4, 5, 6, 7, 8, 9]

/-- DIE-D enters reset: its domains at reset values, the pixel store lost, and the segments that an asserted BLANK turns off (R18, R21, Table 01-3). -/
def State.dieDReset (s : State) : State :=
  let s := (s.powerDown dieD).storeOff.fsetb R.PWR_DOM_STATUS_TLA_LIMP false
  let s := ({ s with aon := { s.aon with twinAlive := false } }).setBoot fun b => { b with active := false }
  if s.blankRaw then s.segBlankOff else s.fsetb R.SEG_STATUS_OFF_TOT s.seg.resetOff

/-- Tarn holds DIE-D in reset: neither slot is valid, or the power-on test failed in SAFE (R550, R584). -/
def State.bootHalt (s : State) (latch : Fld) : State :=
  ((s.dieDReset.fsetb latch true).setBoot fun b => { b with halted := true }).drivePins

/-- The directory has been read: the slot to run, and what it says of a trial (R582, R583). -/
def State.bootDir (s : State) (ok : Bool) : State :=
  let s := if s.boot.fromPowerOn then s.restoreLc else s
  let d := if ok then s.dir else {}
  match d.trial with
  | none => (s.setBoot fun b => { b with slot := d.active }).bootRead .slot 2
  | some t =>
    if d.started then
      ((s.writeDir { d with trial := none, started := false }).setBoot fun b =>
        { b with slot := d.active, fallback := true }).bootRead .slot 2
    else ((s.writeDir { d with started := true }).setBoot fun b => { b with slot := t, trial := true }).bootRead .slot 2

/-- A slot has been read: it runs where valid; a trial that fails is cleared; else the other slot, or none (R582 to R584). -/
def State.bootSlot (s : State) (ok : Bool) : State :=
  if ok && s.slotValid s.boot.slot then
    s.showFw.bootRead .spb 3
  else if s.boot.trial then
    let d := s.dir
    ((s.writeDir { d with trial := none, started := false }).setBoot fun b =>
      { b with slot := d.active, trial := false, fallback := true }).bootRead .slot 2
  else if !s.boot.otherTried then
    (s.setBoot fun b => { b with slot := 1 - b.slot, otherTried := true, fallback := true }).bootRead .slot 2
  else s.bootHalt R.PWR_RESET_BOOT_FAIL

/-- Registers that the board section sets at a boot after a power-on reset: the rail table, the input filters, and the Tarn rules (R586). -/
def boardReg (a : Nat) : Bool :=
  (decide (0x20040 ≤ a) && decide (a < 0x20090) && a % 16 != 8)
    || (decide (0x20140 ≤ a) && decide (a < 0x20178)) || (decide (0x20200 ≤ a) && decide (a < 0x20300) && a % 16 != 12)

/-- The board section is applied, once after a power-on reset (R586; DEDUCED, log entry 134). -/
def State.applyBoard (s : State) : State :=
  let f := s.slot s.boot.slot
  if f.factory || !s.boot.fromPowerOn then s
  else ((Config.boardRecords f.image).filter fun e => boardReg e.1).foldl (fun s e => s.wr e.1 e.2) s

/-- The subsystem IDs are applied at every boot: the board section's, or the default ones (R64, R586). -/
def State.applySubsystem (s : State) : State :=
  let f := s.slot s.boot.slot
  let ids := if f.factory then none else Config.boardSubsystem f.image
  s.setBoot fun b => { b with subVendor := (ids.map fun q => q.1.toNat).getD 0xCA1E, subId := (ids.map fun q => q.2.toNat).getD 1 }

/-- A reload of the SPB working copy after fault 27 starts (R405); while CORE is off, whose xSPI controller reads the flash, it waits (R17). -/
def State.startReload (s : State) : State :=
  let s := { s with safe := { s.safe with spbReload := true } }
  if s.domOn 2 then s.emit (.flashRead (s.boot.slow || s.boot.xspiSafe) 3) else s

/-- A reload that waited for CORE starts (R17, R405). -/
def State.reloadWaiting (s : State) : State := if s.safe.spbReload then s.startReload else s

/-- The read of a reload finishes; a fast-mode failure is repeated once in 1S-1S-1S mode (R405, R580). -/
def State.spbReloadRead (s : State) (ok : Bool) : State :=
  if !s.safe.spbReload || !s.domOn 2 then s
  else if !ok && !s.boot.slow && !s.boot.xspiSafe then
    s.goSlow.startReload
  else s.loadSpb false ok

/-- A flash read of the boot, or of a reload of the working copy, finishes: a fast-mode failure is repeated once in 1S-1S-1S mode, and XSPI_SLOW set (R580); else the boot takes its next step. -/
def xFlashReadComplete (ok : Bool) (s : State) : State :=
  if !s.boot.active then s.spbReloadRead ok else
  let code (b : BootStep) : Nat := match b with | .dir => 1 | .slot => 2 | .spb => 3 | _ => 4
  match s.boot.step with
  | .rails | .ready => s
  | step =>
    if !ok && !s.boot.slow && !s.boot.xspiSafe then
      s.goSlow.bootRead step (code step)
    else match step with
      | .dir => s.bootDir ok
      | .slot => s.bootSlot ok
      | .spb =>
        let s := s.loadSpb true ok
        let bad := s.fbit R.SAFE_SPB_INFO_A_BAD || s.fbit R.SAFE_SPB_INFO_B_BAD
        let s := s.setBoot fun b => { b with spbBad := bad }
        if s.boot.limpOnly then s.setBoot fun b => { b with step := .ready } else s.bootRead .fw 4
      | _ =>
        if ok then
          (s.applyBoard.applySubsystem.fset R.GLOBAL_FW_VERSION (s.slot s.boot.slot).version).setBoot fun b => { b with step := .ready, fromPowerOn := false }
        else s.bootRead .fw 4

end Sys2Proof.Machine
end

