-- ==== Sys2Proof/Machine/Supply.lean ====
section
/-! DEFINITION. Supplies, rails and domains (chapter 16): the power path, ride-through, shedding and restoration, the rail sequencer, and PWR_DOM_REQ. -/

namespace Sys2Proof.Machine

/-! ## The rail sequencer (R495, R496) -/

/-- What follows when every rail is down. -/
def State.railsDownDone (s : State) : State :=
  let s := s.setSup fun u => { u with dir := .none, step := .idle }
  match s.sup.purpose with
  | .shed => s.setSup fun u => { u with shed := true }
  | _ => s

/-- The last rail of the power-down in hand: PARK keeps VCORE, VDRAM1 and VDRAM2 (Table 16-4). -/
def State.lastDown (s : State) : Nat := if s.sup.purpose == .park then 3 else 0

/-- Power-down of rails r to the last: each enable goes low in turn, and the next rail follows once its power good is low, which one that never came up is already (R495). -/
def State.railDrop : Nat → State → State
  | 0, s =>
    let s := (s.setSup fun u => { u with rail := 0, step := .waitLow }).railEn 0 false
    if s.fbit (R.PWR_RAIL_STAT_PG 0) then s else s.railsDownDone
  | r + 1, s =>
    let s := (s.setSup fun u => { u with rail := r + 1, step := .waitLow }).railEn (r + 1) false
    if s.fbit (R.PWR_RAIL_STAT_PG (r + 1)) then s else if s.lastDown = r + 1 then s.railsDownDone else State.railDrop r s

/-- The rails are powered down for a purpose, from r = 4; what the sequencer still had to write is dropped (R495). -/
def State.railsDown (s : State) (why : RailPurpose) : State :=
  State.railDrop 4 (s.setSup fun u => { u with dir := .down, purpose := why, jobTries := 0, jobs := u.jobs.filter fun k => !k.ofRails })

/-- The next rail of a power-down, or the end of it. -/
def State.railNextDown (s : State) : State :=
  if s.sup.rail ≤ s.lastDown then s.railsDownDone else State.railDrop (s.sup.rail - 1) s

/-- Every domain that RUN keeps on (Table 16-4). -/
def runDomains : List Nat := powerUpOrder

/-- The domains that shedding turns off before TLA is reduced to its LIMP subset, and those after it: domain power-down order with TLA in its place (R491). -/
def shedFirst : List Nat := [8, 7]

def shedRest : List Nat := [9, 5, 3, 4, 2]

/-- Domains come up after the rails, TLA whole again (R492 step 2, R516). -/
def State.domainsUp (s : State) : State := ((s.setBoot fun b => { b with limpOnly := false }).powerUp runDomains).tlaToFull

/-- The domains that LIMP on supply keeps, besides AON (R632). -/
def limpDomains : List Nat := [10, 11, 1, 6]

/-- The boot of LIMP on supply: those domains, TLA in its LIMP subset, and no control firmware (R632). -/
def State.limpBoot (s : State) (cause : Nat) : State :=
  (((s.setBoot fun b => { b with limpOnly := true }).tlaToLimp).powerUp limpDomains).bootDomains cause

/-- What follows when every rail is up. -/
def State.railsUpDone (s : State) : State :=
  let s := s.setSup fun u => { u with dir := .none, step := .idle }
  if s.aon.resetHeld then s else
  match s.sup.purpose with
  | .restore | .recovery => ((s.setSup fun u => { u with railsFailed := false, restoring := true }).domainsUp).bootDomains 4
  | .wake => (s.domainsUp).bootDomains 3
  | .boot => (s.domainsUp).bootDomains s.boot.cause
  | _ => s

/-- The power-up goes on with the first rail from r on that is not up yet, or has ended (R495). -/
def State.railUpFrom (s : State) (r : Nat) : State :=
  match s.railAfter r with
  | some i => s.railStart i
  | none => s.railsUpDone

/-- The rails are powered up for a purpose, in ascending order (R495). -/
def State.railsUp (s : State) (why : RailPurpose) : State :=
  (s.setSup fun u => { u with dir := .up, purpose := why, shed := false }).railUpFrom 0

/-- The next rail of a power-up, or the end of it; a restoration stops at RESET_N once its step is done (R632). -/
def State.railNextUp (s : State) : State :=
  if s.aon.resetHeld && (s.sup.purpose == .restore || s.sup.purpose == .recovery) then s.setSup fun u => { u with dir := .none, step := .idle }
  else s.railUpFrom (s.sup.rail + 1)

/-- Shedding: domains off in power-down order, TLA to its LIMP subset, the store lost though it was in retention, then the rails (R491). A boot of a restoration ends with it (R492). -/
def State.shedNow (s : State) : State :=
  let s := (s.setSup fun u => { u with shed := false, shedDue := false, restoring := false }).setBoot fun b => { b with active := false }
  ((((s.powerDown shedFirst).tlaToLimp).powerDown shedRest).storeOff).railsDown .shed

/-- LIMP on supply while SAFE is off: Tarn powers the rails down, and the boot, now or at the release of RESET_N, is that of LIMP on supply, which raises the fault at its end (R489, R496, R632). -/
def State.limpUnpowered (s : State) : State :=
  let cause := if s.sup.purpose == .wake then 3 else s.boot.cause
  let s := (s.fsetb R.PWR_SUPPLY_STATUS_LIMP_SUPPLY true).railsDown .shed
  if s.inReset || !s.aon.running then s else s.limpBoot cause

/-- A rail fails for good: ERR, fault 30 with INSTANCE 0x00F0 + r, LIMP on supply (R496); the rails of a failed recovery stay off. -/
def State.railDead (s : State) (r : Nat) : State :=
  let s := (s.fsetb (R.PWR_RAIL_STAT_ERR r) true).railEn r false
  let s := s.setSup fun u => { u with dir := .none, step := .idle, railsFailed := true }
  if s.domOn 1 then s.raise 30 (0xF0 + r) 0 else s.limpUnpowered

/-- A first failure in power-up drops the enable and waits 10 ms for one retry; a second one is final (R496). -/
def State.railFail (s : State) (r : Nat) : State :=
  let s := s.fadd (R.PWR_RAIL_STAT_FAILS r) 1
  if s.sup.dir = .up ∧ !s.sup.retried then
    (s.setSup fun u => { u with step := .retryWait }).railEn r false
  else s.railDead r

/-- A power good changes (R495, R496). -/
def xRailPowerGoodChange (r : Nat) (high : Bool) (s : State) : State :=
  let was := s.fbit (R.PWR_RAIL_STAT_PG r)
  let s := s.fsetb (R.PWR_RAIL_STAT_PG r) high
  if high then
    if s.sup.dir = .up ∧ s.sup.rail = r ∧ s.sup.step = .waitPg then s.railNextUp else s
  else if !was then s
  else if s.sup.dir = .down ∧ s.sup.rail = r ∧ s.sup.step = .waitLow then s.railNextDown
  else if s.fbit (R.PWR_RAIL_STAT_EN r) then (s.fadd (R.PWR_RAIL_STAT_FAILS r) 1).railDead r
  else s

/-- PG_MS passes without power good, or the 2 ms wait of a power-down ends; a power good that was high all the while, and so did not change, has arrived (R495, R496). -/
def xRailPgTimeout (r : Nat) (s : State) : State :=
  if s.sup.rail ≠ r then s
  else if s.sup.dir = .up ∧ s.sup.step = .waitPg then if s.fbit (R.PWR_RAIL_STAT_PG r) then s.railNextUp else s.railFail r
  else if s.sup.dir = .down ∧ s.sup.step = .waitLow then s.railNextDown
  else s

/-- 10 ms after a first failure the rail is tried once more (R496). -/
def xRailRetryTimeout (r : Nat) (s : State) : State :=
  if s.sup.dir = .up ∧ s.sup.rail = r ∧ s.sup.step = .retryWait then
    (s.setSup fun u => { u with retried := true }).railBegin r
  else s

/-- 1 s after shedding for a rail failure the power-up sequence runs once more (R496). -/
def xRailRecoveryRetry (s : State) : State :=
  if s.sup.railsFailed && s.sup.shed && !s.sup.recoveryUsed && !s.inReset then
    (s.setSup fun u => { u with recoveryUsed := true }).railsUp .recovery
  else s

/-- A transaction of the sequencer ends: the next one of the rail, or its enable; three failures of one fail the rail; one that a power-down has overtaken has no effect (R492, R495, R496). -/
def State.railJobDone (s : State) (r : Nat) (last ok : Bool) (j : PmbusJob) : State :=
  if !(s.sup.dir == .up && s.sup.step == .setVoltage && s.sup.rail == r) then s
  else if ok then
    let s := s.setSup fun u => { u with jobTries := 0 }
    if last then (s.setSup fun u => { u with step := .waitPg }).railEn r true else s
  else if s.sup.jobTries < 2 then
    s.setSup fun u => { u with jobTries := u.jobTries + 1, jobs := j :: u.jobs }
  else
    let s := s.setSup fun u => { u with jobTries := 0, jobs := u.jobs.filter fun k => !k.ofRails }
    s.railFail r

/-- The exponent of a VOUT_MODE byte: bits [4:0], two's complement (R476). -/
def voutExp (data : Nat) : Int := toSigned 5 (data % 32)

/-- VOUT_MODE of a rail has been read. -/
def State.setExp (s : State) (r data : Nat) : State :=
  s.setSup fun u => { u with exps := upd (fun _ => some (voutExp data)) (padTo none 5 u.exps) r }

/-- READ_VOUT and STATUS_WORD of a poll are reported only (R497). -/
def State.pollDone (s : State) (j : PmbusJob) (ok : Bool) (data : Nat) : State :=
  if !ok then s else
  match j with
  | .pollMode r => if data / 32 % 8 = 0 then s.setExp r data else s
  | .pollVout r => if (nth s.sup.exps r).isNone then s else s.fset (R.PWR_RAIL_VOUT_READ_MV r) (voutMv data (s.railExp r))
  | .pollStatus r => s.fset (R.PWR_RAIL_STAT_STATUS_WORD r) data
  | _ => s

/-- Every 100 ms, READ_VOUT and STATUS_WORD of each rail that is on with PMB 1 become due (R497); VOUT_MODE goes first where the exponent has not been read (DEDUCED, log entry 158). -/
def xRailStatusPoll (s : State) : State :=
  s.pmbusAdd (((List.range 5).filter fun r => s.fbit (R.PWR_RAIL_STAT_EN r) && s.fbit (R.PWR_RAIL_CFG_PMB r)).flatMap
    fun r => (if (nth s.sup.exps r).isNone then [.pollMode r] else []) ++ [.pollVout r, .pollStatus r])

/-! ## The power path and ride-through (R488 to R494) -/

/-- V_TH in mV: 2.9 V + VMAIN_TH × 0.1 V, a code above 16 treated as 16 (R488, Table 16-9). -/
def State.mainTh (s : State) : Nat := 2900 + 100 * min 16 (s.fget R.PWR_SUPPLY_CFG_VMAIN_TH)

/-- HYST in mV: code × 50 mV, 0 treated as 1 (R488, Table 16-9). -/
def State.mainHyst (s : State) : Nat := 50 * max 1 (s.fget R.PWR_SUPPLY_CFG_HYST)

/-- MAIN_OK falls, VIN_MAIN lying below V_TH: the path goes to VIN_BKUP where that is 100 mV higher, else BKUP_LOW; outside SENTINEL the ride-through timer starts, and a fall in restoration sheds again at once (R488, R489, R492); an exit from LIMP may be withdrawn (R512). -/
def xMainOkFall (mainMv bkupMv : Nat) (s : State) : State :=
  if !s.fbit R.PWR_SUPPLY_STATUS_MAIN_OK || decide (s.mainTh ≤ mainMv) then s else
  let s := s.fsetb R.PWR_SUPPLY_STATUS_MAIN_OK false
  let s := if mainMv + 100 ≤ bkupMv then (s.fsetb R.PWR_SUPPLY_STATUS_ON_BKUP true).fadd R.PWR_COUNT_SWITCHOVERS 1
    else s.fsetb R.PWR_SUPPLY_STATUS_BKUP_LOW true
  if s.sup.restoring then s.shedNow
  else if s.modeNow = 0 && !s.fbit R.PWR_MODE_BUSY then { s with aon := { s.aon with mainLowMs := 0 } }
  else (s.fsetb R.PWR_SUPPLY_STATUS_RIDING true).recheckExit

/-- MAIN_OK rises, VIN_MAIN lying above V_TH + HYST: the path returns to VIN_MAIN and a ride-through stops, nothing else having changed (R488, R489). -/
def xMainOkRise (mainMv : Nat) (s : State) : State :=
  if s.fbit R.PWR_SUPPLY_STATUS_MAIN_OK || decide (mainMv ≤ s.mainTh + s.mainHyst) then s else
  let s := s.fsetb R.PWR_SUPPLY_STATUS_MAIN_OK true
  let s := (s.fsetb R.PWR_SUPPLY_STATUS_ON_BKUP false).fsetb R.PWR_SUPPLY_STATUS_BKUP_LOW false
  ({ s with aon := { s.aon with mainLowMs := 0 } }).fsetb R.PWR_SUPPLY_STATUS_RIDING false

/-- VIN_BKUP exceeds VIN_MAIN by 100 mV while BKUP_LOW is set: the path switches (R488). -/
def xBkupHighEnough (mainMv bkupMv : Nat) (s : State) : State :=
  if s.fbit R.PWR_SUPPLY_STATUS_BKUP_LOW && !s.fbit R.PWR_SUPPLY_STATUS_MAIN_OK && decide (mainMv + 100 ≤ bkupMv) then
    ((s.fsetb R.PWR_SUPPLY_STATUS_ON_BKUP true).fsetb R.PWR_SUPPLY_STATUS_BKUP_LOW false).fadd R.PWR_COUNT_SWITCHOVERS 1
  else s

/-- The ride-through timer expires with MAIN_OK low: fault 30 and LIMP on supply; while SAFE is off Tarn powers the rails down, but for an entry into SENTINEL, where no fault is raised (R489, R490, R632). -/
def xRideThroughExpiry (s : State) : State :=
  if s.fbit R.PWR_SUPPLY_STATUS_RIDING && !s.fbit R.PWR_SUPPLY_STATUS_MAIN_OK then
    let s := (s.fsetb R.PWR_SUPPLY_STATUS_RIDING false).fsetb R.PWR_SUPPLY_STATUS_MAIN_LOST true
    let s := s.fadd R.PWR_COUNT_RIDE_FAILS 1
    if s.domOn 1 then s.raise 30 0 0
    else if s.mode.trans.any (·.dst == 0) then s else s.limpUnpowered
  else s

/-- Shedding starts after LIMP on supply has been entered, a transition in progress having completed (R491, R512). -/
def xSheddingStart (s : State) : State := if s.sup.shedDue && s.modeNow == 4 && !s.fbit R.PWR_MODE_BUSY then s.shedNow else s

/-- MAIN_OK has been high for RETURN_MS after shedding, or after the boot of LIMP on supply: restoration starts with the rails (R492, R632). -/
def xReturnTimerExpiry (s : State) : State :=
  if s.sup.shed && s.fbit R.PWR_SUPPLY_STATUS_MAIN_OK && !s.sup.restoring && !s.sup.railsFailed && !s.inReset && !s.boot.active then
    (s.setSup fun u => { u with restoring := true }).railsUp .restore
  else s

/-- A supply collapse: Totality on all ports, latched DARK, fault 31; it prevails over ride-through, shedding and restoration (R493, R494). -/
def xSupplyCollapse (s : State) : State :=
  let s := { s with aon := { s.aon with collapsed := true } }
  let s := s.setSup fun u => { u with shedDue := false, restoring := false, dir := .none, step := .idle }
  (s.fsetb R.PWR_SUPPLY_STATUS_RIDING false).raise 31 0 0

/-! ## PWR_DOM_REQ (R502) -/

/-- Whether a request to turn a domain off is refused: its mode, or what still uses it (R502). -/
def State.domOffRefused (s : State) (d : Nat) : Bool :=
  if d = 7 then ((List.range 12).any fun i => s.fbit (R.TILE_LANE_CTRL_EN (i + 12)))
  else if d = 8 then s.fbit R.TWIN_CTRL_EN || s.fbit (R.TWIN_LANE_CTRL_EN 0) || s.fbit (R.TWIN_LANE_CTRL_EN 1)
  else (List.range 2).any (fun i => s.fbit (R.NET_PORT_CTRL_EN i)) || (List.range 4).any (fun n => s.surfEnabled n)

/-- Whether the mode lets PWR_DOM_REQ act: STANDBY, RUN and SERVICE (R502). -/
def State.domReqActs (s : State) : Bool := s.modeNow == 1 || s.modeNow == 2 || s.modeNow == 5

/-- One bit of PWR_DOM_REQ: a set bit turns its domain off or is refused, a cleared one turns it on again where the mode keeps it (R502). -/
def domReqBit (f : Fld) (d : Nat) (want : Bool) (s : State) : State :=
  let s := s.fsetb f want
  if !s.domReqActs then (if !want && s.domOn 5 && (s.sup.restoring || !s.fbit R.PWR_SUPPLY_STATUS_LIMP_SUPPLY) then domainOn d s else s)
  else if want then
    if !s.domOn d then s
    else if s.domOffRefused d then s.fsetb R.PWR_DOM_STATUS_REFUSED true else domainOff d s
  else domainOn d s

/-- A write to PWR_DOM_REQ (R502). -/
def xDomainOffRequest (value : Nat) (s : State) : State :=
  domReqBit R.PWR_DOM_REQ_NET_OFF 9 (bitOf value 2)
    (domReqBit R.PWR_DOM_REQ_TWIN_OFF 8 (bitOf value 1) (domReqBit R.PWR_DOM_REQ_TLB_OFF 7 (bitOf value 0) s))

end Sys2Proof.Machine
end

