-- ==== Sys2Proof/Machine/Clock.lean ====
section
/-! DEFINITION. The local clock (R433 to R439, R450, R451): its increment, its states and uncertainty, the AON count, and the restore after sleep. -/

namespace Sys2Proof.Machine

/-- Local time in nanoseconds with a 32-bit fraction. -/
def State.clkQ (s : State) : Nat := (s.clk.sec * 1000000000 + s.clk.ns) * 2 ^ 32 + s.clk.frac

/-- The clock record with local time set. -/
def ClockSt.setQ (c : ClockSt) (q : Nat) : ClockSt :=
  let ns := q / 2 ^ 32
  { c with sec := ns / 1000000000, ns := ns % 1000000000, frac := q % 2 ^ 32 }

/-- The increment in force, 8.32 nanoseconds (R433). -/
def State.incQ (s : State) : Nat := s.fget R.TIME_INC_HI_NS * 2 ^ 32 + s.fget R.TIME_INC_LO_FRAC

/-- The increment in force, written. -/
def State.setInc (s : State) (q : Nat) : State :=
  (s.fset R.TIME_INC_HI_NS (q / 2 ^ 32)).fset R.TIME_INC_LO_FRAC (q % 2 ^ 32)

/-- The increment without its slew term, and the ticks for which the slew goes on: until the offset is removed (R438). -/
def State.baseQ (s : State) : Nat := ((s.incQ : Int) - s.clk.slewQ).toNat
def State.slewTicks (s : State) : Nat := if s.clk.slewQ = 0 then 0 else s.clk.slewLeft / s.clk.slewQ.natAbs

/-- Local time that passes in k ticks. -/
def State.passedQ (s : State) (k : Nat) : Nat :=
  let m := min k s.slewTicks
  m * s.incQ + (k - m) * s.baseQ

/-- The slew after k ticks: it ends with the offset, and the increment is that of the rate alone (R438). -/
def State.slewPass (s : State) (k : Nat) : State :=
  if s.clk.slewQ = 0 then s
  else if k < s.slewTicks then { s with clk := { s.clk with slewLeft := s.clk.slewLeft - k * s.clk.slewQ.natAbs } }
  else
    let s := (s.setInc s.baseQ).fsetb R.TIME_STATUS_SLEWING false
    { s with clk := { s.clk with slewQ := 0, slewLeft := 0 } }

/-- Some ticks of the 250 MHz timebase pass; the NET domain holds the clock (R433). -/
def State.clockTicks (s : State) (k : Nat) : State :=
  let s := { s with ticks := s.ticks + k }
  if s.domOn 9 then ({ s with clk := s.clk.setQ (s.clkQ + s.passedQ k) }).slewPass k else s

/-- Timebase ticks until the local clock is at or after an instant (R39). -/
def State.ticksTo (s : State) (q : Nat) : Nat :=
  let d := q - s.clkQ
  let m := s.slewTicks
  if d ≤ m * s.incQ then ceilDiv d s.incQ else m + ceilDiv (d - m * s.incQ) s.baseQ

/-- Clock states of Table 14-1. -/
def clkFree : Nat := 0
def clkSynced : Nat := 1
def clkHoldover : Nat := 2

/-- The clock's state (TIME_STATUS.STATE). -/
def State.clkState (s : State) : Nat := s.fget R.TIME_STATUS_STATE

/-- SYNC_NS, at least 10 (Table 14-5). -/
def State.syncNs (s : State) : Nat := max 10 (s.fget R.TIME_CFG_SYNC_NS)

/-- The uncertainty U, or none where it is unbounded (R437): SYNC_NS in SYNCED, the uncertainty at entry plus HOLDOVER_PPB of the time since entry in HOLDOVER. -/
def State.uncert (s : State) : Option Nat :=
  if s.clkState = clkSynced then some s.syncNs
  else if s.clkState = clkHoldover then
    s.clk.unc0.map fun u => u + s.fget R.TIME_HOLD_HOLDOVER_PPB * ((s.ticks - s.clk.holdTick) * 4) / 1000000000
  else none

/-- U as TIME_UNC and events carry it: all ones where unbounded. -/
def uncWord (u : Option Nat) : Nat := u.getD (2 ^ 64 - 1)

/-- EVT TIME_STATE: 0 synced, 1 holdover, 2 restored, with the source-changed byte and U (Table 04-12, R436). -/
def State.timeEvent (s : State) (kind : Nat) : State :=
  s.eventDev 0x03 0x0040 (u8 kind ++ u8 (s.fget R.TIME_STATUS_SOURCE_CHANGED) ++ leBytes 8 (uncWord s.uncert))

/-- TIME_UNC shows U. -/
def State.showUnc (s : State) : State :=
  let u := uncWord s.uncert
  (s.fset R.TIME_UNC_LO_UNC (u % 2 ^ 32)).fset R.TIME_UNC_HI_UNC (u / 2 ^ 32)

/-- Entry into HOLDOVER with an entry uncertainty: the increment is frozen without its slew term (R436, R437, R441). -/
def State.enterHoldover (s : State) (u : Option Nat) : State :=
  let s := (s.setInc s.baseQ).fsetb R.TIME_STATUS_SLEWING false
  let s := { s with clk := { s.clk with unc0 := u, holdTick := s.ticks, slewQ := 0, slewLeft := 0 } }
  ((s.fset R.TIME_STATUS_STATE clkHoldover).showHoldover).showUnc

/-- The 48-bit AON count at 32,768 Hz: Tarn's samples are its millisecond. -/
def State.aonCount (s : State) : Nat := s.aon.samples * 32768 / 1000 % 2 ^ 48

/-- The sleep record: local time and the AON count latched at one edge (R450). It is valid only with a bounded U. -/
def State.sleepRecord (s : State) : State :=
  let r : SleepRec := {
    valid := s.uncert.isSome, sec := s.clk.sec, ns := s.clk.ns, frac := s.clk.frac, count := s.aonCount,
    source := s.aon.xtal, unc := s.uncert.getD 0 }
  { s with sleep := r }

/-- Nanoseconds with a 32-bit fraction of an AON count difference: 10^9 / 32,768 ns per count, exact (R451). -/
def countQ (dc : Nat) : Nat := dc * 1000000000 * 131072

/-- The uncertainty at restore: U_entry + P × dt + 2 × 30,518 ns, with P in ppm (R451). -/
def restoreUnc (entry ppm dc : Nat) : Nat := entry + ppm * (countQ dc / 2 ^ 32) / 1000000 + 61036

/-- The crystal's tolerance in ppm: XTAL_PPM, 1 to 255. -/
def State.xtalPpm (s : State) : Nat := max 1 (s.fget R.TIME_HOLD_XTAL_PPM)

/-- Wake: the clock restored from a valid sleep record enters HOLDOVER; without one it stays FREE at 0 s (R451, Table 14-1). -/
def State.clockRestore (s : State) : State :=
  let r := s.sleep
  if r.valid then
    let dc := (s.aonCount + 2 ^ 48 - r.count) % 2 ^ 48
    let q := (r.sec * 1000000000 + r.ns) * 2 ^ 32 + r.frac + countQ dc
    let changed := r.source != s.aon.xtal
    let ppm := if changed || !r.source then 200 else s.xtalPpm
    let u := restoreUnc r.unc ppm dc
    let s := { s with clk := s.clk.setQ q, sleep := {} }
    let s := ((s.fsetb R.TIME_STATUS_RESTORED true).fsetb R.TIME_STATUS_SOURCE_CHANGED changed).fsetb R.TIME_STATUS_XTAL s.aon.xtal
    (s.enterHoldover (some u)).timeEvent 2
  else
    let s := { s with clk := {}, sleep := {} }
    (((s.fset R.TIME_STATUS_STATE clkFree).fsetb R.TIME_STATUS_XTAL s.aon.xtal).showHoldover).showUnc

end Sys2Proof.Machine
end

