-- ==== Sys2Proof/Machine/Timing.lean ====
section
/-! DEFINITION. The instants and the configuration of a surface (chapter 02): derived tick quantities, the port map and footprints, the checks of Table 02-8, and CTRL TIMING. -/

namespace Sys2Proof.Machine

/-! ## Descriptor fields (Table 03-6) -/

/-- TARGET, TAG, PAYLOAD_LEN and OPCODE of a descriptor, and its argument bytes by descriptor offset. -/
def Desc.opcode (d : Desc) : Nat := leAt d.bytes 0 1
def Desc.tag (d : Desc) : Nat := leAt d.bytes 2 2
def Desc.target (d : Desc) : Nat := leAt d.bytes 4 2
def Desc.payloadLen (d : Desc) : Nat := leAt d.bytes 6 2
def Desc.arg (d : Desc) (off n : Nat) : Nat := leAt d.bytes off n

/-- Whether the descriptor bytes from `a` up to, not including, `b` are 0 (R102). -/
def Desc.zero (d : Desc) (a b : Nat) : Bool := allZero ((d.bytes.drop a).take (b - a))

/-- FLAGS has no reserved bit set: only GEN, IRQ and QUIET (Table 03-6, R102). -/
def Desc.flagsOk (d : Desc) : Bool := decide (leAt d.bytes 1 1 < 8)

/-- The payload of a descriptor, without its CRC. -/
def Desc.content (d : Desc) : List Byte := (d.payload.getD []).take (d.payloadLen - 4)

/-! ## Derived quantities (Table 02-1), in nanoseconds with a 32-bit fraction -/

/-- 10^9 ns with a 32-bit fraction. -/
def secQ : Nat := 1000000000 * 2 ^ 32

/-- Scan-cycle rate f × n. -/
def Grid.rate (g : Grid) : Nat := g.hz * g.n

/-- Scan-cycle period T_S, truncated. -/
def Grid.tsQ (g : Grid) : Nat := secQ / g.rate

/-- G-interval T_G. -/
def Grid.tgQ (g : Grid) : Nat := g.gUs * 1000 * 2 ^ 32

/-- Phase length T_P of a scan cycle of a given length. -/
def Grid.phaseQ (g : Grid) (lenQ : Nat) : Nat := (lenQ - g.tgQ) / 8

/-- Phase length T_P of the grid. -/
def Grid.tpQ (g : Grid) : Nat := g.phaseQ g.tsQ

/-- Pre-charge t_pc, 20 ns steps. -/
def Grid.pcQ (g : Grid) : Nat := g.pcSteps * 20 * 2 ^ 32

/-- Stagger span Σ, 20 ns steps. -/
def Grid.spanQ (g : Grid) : Nat := g.span * 20 * 2 ^ 32

/-- On-interval T_ON = T_P − t_pc − Σ (R35). -/
def Grid.tonQ (g : Grid) : Nat := g.tpQ - g.pcQ - g.spanQ

/-- On-interval in a scan cycle of a given length: of the lengthened one, T_ON′ = T_ON × length / T_S truncated to 1/256 ns (R60). -/
def Grid.tonLenQ (g : Grid) (lenQ : Nat) : Nat :=
  if lenQ = g.tsQ then g.tonQ else g.tonQ * lenQ / g.tsQ / 2 ^ 24 * 2 ^ 24

/-- The exact instant of S-tick `i` of the grid, counted from network second 0 (R38). -/
def Grid.tickQ (g : Grid) (i : Nat) : Nat := g.offset * 2 ^ 32 + i * secQ / g.rate

/-- The first F-tick index whose instant is at or after a time (R38, R44). -/
def Grid.firstF (g : Grid) (q : Nat) : Nat := ((q - g.offset * 2 ^ 32) * g.hz + secQ - 1) / secQ

/-! ## The generator's registers -/

/-- A generator of the state. -/
def State.gen (s : State) (n : Nat) : Gen := nth s.gens n

/-- A generator of the state, changed. -/
def State.setGen (s : State) (n : Nat) (f : Gen → Gen) : State := { s with gens := upd f s.gens n }

/-- Members at the F-tick: those that leave go, those that join come (R633, R634). -/
def Gen.joined (q : Gen) : List Member := (q.members.filter fun m => !q.leaves.contains m.port) ++ q.joins

/-- The grid that TG_RATE, TG_GUARD, TG_LEAD and TG_GRID words give. -/
def gridOfWords (rate guard lead off : Word) : Grid :=
  { hz := wordField rate 0 8, n := 2 ^ wordField rate 8 2, gUs := wordField guard 0 7, pcSteps := wordField guard 8 7,
    span := wordField guard 16 12, leadUs := wordField lead 0 16, offset := wordField off 0 30 }

/-- Offset of a register of TG_n. -/
def tgAddr (n off : Nat) : Nat := 0x40000 + n * 0x100 + off

/-- The grid that the registers of TG_n hold. -/
def State.regGrid (s : State) (n : Nat) : Grid :=
  gridOfWords (s.rd (tgAddr n 4)) (s.rd (tgAddr n 8)) (s.rd (tgAddr n 0xC)) (s.rd (tgAddr n 0x10))

/-- The four timing registers take a grid's values (R61). -/
def State.putGrid (s : State) (n : Nat) (g : Grid) : State :=
  let s := (s.fset (R.TG_RATE_FRAME_HZ n) g.hz).fset (R.TG_RATE_SCANS_LOG2 n) (Nat.log2 g.n)
  let s := (s.fset (R.TG_GUARD_G_US n) g.gUs).fset (R.TG_GUARD_PC_STEPS n) g.pcSteps
  ((s.fset (R.TG_GUARD_STAGGER_SPAN n) g.span).fset (R.TG_LEAD_LEAD_US n) g.leadUs).fset (R.TG_GRID_OFFSET_NS n) g.offset

/-- Canvas width and height of a surface. -/
def State.canvasW (s : State) (n : Nat) : Nat := s.fget (R.TG_CANVAS_WIDTH n)
def State.canvasH (s : State) (n : Nat) : Nat := s.fget (R.TG_CANVAS_HEIGHT n)

/-- LAMP_SIDE = LEFT, as the strap was read at boot. -/
def State.lampLeft (s : State) : Bool := s.fbit R.BOOT_STATUS_LAMP_SIDE

/-! ## The scan cycle to come (R38, R40, R59 to R61) -/

/-- The bridge of R60, in exact arithmetic: A is S-tick `i` of the old grid; N is the first new-grid S-tick at or after A plus one old scan cycle. -/
def bridgeOf (old new : Grid) (i : Nat) : Bridge :=
  let c : Int := ((old.offset : Int) - (new.offset : Int)) * (old.rate : Int) * (new.rate : Int)
  let a : Int := 1000000000 * (i : Int) * (new.rate : Int) + c
  let next : Int := a + 1000000000 * (new.rate : Int)
  let d : Int := 1000000000 * (old.rate : Int)
  let newI := ((next + d - 1) / d).toNat
  let num : Int := 1000000000 * (newI : Int) * (old.rate : Int) - a
  let per : Int := 1000000000 * (new.rate : Int)
  let q := (num / per).toNat
  let r := (num - (q : Int) * per).toNat
  { left := q, extraQ := r * 2 ^ 32 / (old.rate * new.rate), newI := newI }

/-- The bridge of a clock step (R439): A is a local time, and scan cycles of the old length lead to the first S-tick of the grid to come at or after A plus one of them. -/
def stepBridge (g new : Grid) (aQ : Nat) : Bridge :=
  let t := aQ + g.tsQ
  let o := new.offset * 2 ^ 32
  let newI := ((t - o) * new.rate + secQ - 1) / secQ
  let r := new.tickQ newI - aQ
  { left := r / g.tsQ, extraQ := r - r / g.tsQ * g.tsQ, newI := newI, dest := new }

/-- Length of a bridge scan cycle with `left` more to come after it. -/
def bridgeLen (g : Grid) (b : Bridge) (left : Nat) : Nat := if left = 0 then g.tsQ + b.extraQ else g.tsQ

/-- The phase that an F-tick begins: the hold of an armed RETIME (R59), else the grid. -/
def Gen.atFrame (q : Gen) : GenPhase := if q.retimeArmed then .hold else .normal

/-- The grid that the next F-tick of a generator outside the normal phase lies on. -/
def Gen.destGrid (q : Gen) : Grid :=
  match q.phase with
  | .hold => q.retime.getD q.grid
  | .bridge => q.bridge.dest
  | _ => q.grid

/-- After a clock step the bridge begins at the next S-tick, in place of what was left of a hold or bridge (R439). -/
def Gen.stepAhead (q : Gen) : Gen :=
  let g := q.grid
  let b := stepBridge g q.destGrid (q.sQ + q.lenQ)
  let held := q.phase == .hold
  { q with phase := .bridge, bridge := { b with left := b.left - 1 }, stepped := false, j := q.j + 1, sQ := q.sQ + q.lenQ,
           lenQ := bridgeLen g b (b.left - 1), retime := if held then none else q.retime,
           retimeArmed := q.retimeArmed && !held }

/-- The generator at its next tick: whether that is an F-tick, and the scan cycle that begins there. -/
def Gen.advance (q : Gen) : Bool × Gen :=
  match q.startF with
  | some k =>
    (true, { q with startF := none, si := k * q.grid.n, j := 0, sQ := q.grid.tickQ (k * q.grid.n), lenQ := q.grid.tsQ,
                       phase := q.atFrame })
  | none =>
    if q.stepped then (false, q.stepAhead) else
    let g := q.grid
    let i := q.si + 1
    match q.phase with
    | .normal =>
      if i % g.n = 0 then
        (true, { q with si := i, j := 0, sQ := g.tickQ i, lenQ := g.tsQ, phase := q.atFrame })
      else (false, { q with si := i, j := q.j + 1, sQ := g.tickQ i, lenQ := g.tsQ })
    | .hold =>
      if q.j + 1 < g.n then (false, { q with si := i, j := q.j + 1, sQ := g.tickQ i, lenQ := g.tsQ })
      else
        let b := bridgeOf g (q.retime.getD g) i
        (false, { q with phase := .bridge, bridge := { b with left := b.left - 1, dest := q.retime.getD g }, retime := none,
                         retimeArmed := false, si := i, j := q.j + 1, sQ := g.tickQ i,
                         lenQ := bridgeLen g b (b.left - 1) })
    | .bridge =>
      if 0 < q.bridge.left then
        (false, { q with bridge := { q.bridge with left := q.bridge.left - 1 }, si := i, j := q.j + 1, sQ := q.sQ + q.lenQ,
                         lenQ := bridgeLen g q.bridge (q.bridge.left - 1) })
      else
        let new := q.bridge.dest
        let f := q.bridge.newI % new.n == 0
        (f, { q with grid := new, bridge := { newI := q.bridge.newI }, phase := if f then q.atFrame else .newGrid,
                     si := q.bridge.newI, j := if f then 0 else q.j + 1, sQ := new.tickQ q.bridge.newI, lenQ := new.tsQ })
    | .newGrid =>
      let f := i % g.n == 0
      (f, { q with phase := if f then q.atFrame else .newGrid, si := i, j := if f then 0 else q.j + 1, sQ := g.tickQ i, lenQ := g.tsQ })

/-! ## The next F-tick (R38, R60, R61, R439) -/

/-- The grid and index of a generator's next F-tick, and, where that is the first one of a new grid, the index of the S-tick N. -/
def Gen.nextF (q : Gen) : Grid × Nat × Option Nat :=
  let g := q.grid
  match q.startF with
  | some k => (g, k, none)
  | none =>
    if q.stepped then
      let b := stepBridge g q.destGrid (q.sQ + q.lenQ)
      (q.destGrid, ceilDiv b.newI q.destGrid.n, some b.newI)
    else match q.phase with
      | .normal => (g, q.si / g.n + 1, none)
      | .hold => let b := bridgeOf g q.destGrid ((q.si / g.n + 1) * g.n); (q.destGrid, ceilDiv b.newI q.destGrid.n, some b.newI)
      | .bridge => (q.bridge.dest, ceilDiv q.bridge.newI q.bridge.dest.n, some q.bridge.newI)
      | .newGrid => (g, q.si / g.n + 1, some q.bridge.newI)

/-- Network time of the next F-tick of a surface, Q32 ns. -/
def State.nextFQ (s : State) (n : Nat) : Nat := let r := (s.gen n).nextF; r.1.tickQ (r.2.1 * r.1.n)

/-- Network time of the latch point of that F-tick, with the lead of the grid that the F-tick lies on (Table 02-5). -/
def State.latchQ (s : State) (n : Nat) : Nat := s.nextFQ n - (s.gen n).nextF.1.leadUs * 1000 * 2 ^ 32

/-! ## The port map (R42, R629) -/

/-- A port as bound to a surface: its geometry, where it has one. -/
structure Bind where
  port : Nat
  geom : Option Member
  rot : Nat
  mirror : Bool
  x0 : Nat
  y0 : Nat
  stagger : Nat
  mbps : Nat
deriving DecidableEq, Repr

/-- Lane rate of a rate code in Mbit/s (Table 08-9). -/
def rateMbps (code : Nat) : Nat := if code = 0 then 1250 else if code = 1 then 2500 else if code = 2 then 5000 else 8000

/-- A port's target rate codes (R238, R239). -/
def State.dnTarget (s : State) (p : Nat) : Nat :=
  min (min (s.fget (R.TILE_LANE_CFG_DN_MAX p)) (s.port p).dnLimit) (match (s.port p).cap with | some c => c.dnRate | none => 0)
def State.upTarget (s : State) (p : Nat) : Nat :=
  min (min (s.fget (R.TILE_LANE_CFG_UP_MAX p)) (s.port p).upLimit) (match (s.port p).cap with | some c => c.upRate | none => 0)

/-- Size and kind of the tile on a port: from TILE_LEGACY_GEOM in legacy mode, else from the stored CAP record (R42). -/
def State.portGeom (s : State) (p : Nat) : Option Member :=
  if s.legacy p then
    some ⟨p, 32 * s.fget (R.TILE_LEGACY_GEOM_TW_32 p), 8 * s.fget (R.TILE_LEGACY_GEOM_TH_8 p), false⟩
  else if s.fbit (R.TILE_PROTO_STATUS_CAP_VALID p) then (s.port p).cap.map fun c => ⟨p, c.tw, c.th, c.frameMem⟩
  else none

/-- The two words of TG_PORTMAP_p as a binding of the port. -/
def State.bindOfWords (s : State) (p : Nat) (a b : Word) : Bind :=
  { port := p, geom := s.portGeom p, rot := wordField a 4 2, mirror := wordField a 6 1 != 0,
    x0 := 8 * wordField a 8 9, y0 := 8 * wordField a 20 7, stagger := wordField b 0 12,
    mbps := if s.legacy p then 2500 else rateMbps (s.dnTarget p) }

/-- Offsets of the two words of TG_PORTMAP_p. -/
def portmapA (p : Nat) : Nat := 0x40800 + p * 8
def portmapB (p : Nat) : Nat := 0x40804 + p * 8

/-- A port's binding from its registers. -/
def State.bindOf (s : State) (p : Nat) : Bind := s.bindOfWords p (s.rd (portmapA p)) (s.rd (portmapB p))

/-- The surface that a port is bound to; codes 4 to 7 are unbound (Table 02-9). -/
def State.boundTo (s : State) (p : Nat) : Option Nat :=
  let v := s.fget (R.TG_PORTMAP_A_SURF p)
  if v < 4 then some v else none

/-- The bindings of a surface. -/
def State.binds (s : State) (n : Nat) : List Bind :=
  ((List.range 24).filter fun p => s.boundTo p == some n).map s.bindOf

/-- Footprint of a tile of a size on the canvas: origin, width, height (R42). -/
def Bind.foot (b : Bind) (m : Member) : Nat × Nat × Nat × Nat :=
  (b.x0, b.y0, if b.rot % 2 = 1 then m.th else m.tw, if b.rot % 2 = 1 then m.tw else m.th)

/-- Whether two rectangles (x, y, w, h) share no pixel. -/
def rectsApart (a b : Nat × Nat × Nat × Nat) : Bool :=
  decide (a.1 + a.2.2.1 ≤ b.1) || decide (b.1 + b.2.2.1 ≤ a.1)
    || decide (a.2.1 + a.2.2.2 ≤ b.2.1) || decide (b.2.1 + b.2.2.2 ≤ a.2.1)

/-- Whether no two rectangles of a list overlap. -/
def allApart : List (Nat × Nat × Nat × Nat) → Bool
  | [] => true
  | a :: t => t.all (rectsApart a) && allApart t

/-- The footprints of the bindings that have a geometry. -/
def feet (bs : List Bind) : List (Nat × Nat × Nat × Nat) := bs.filterMap fun b => b.geom.map b.foot

/-! ## The checks of Table 02-8 -/

/-- Canvas size and rate combination (R33). -/
def canvasOk (w h : Nat) (g : Grid) : Bool :=
  decide (32 ≤ w) && decide (w ≤ 3072) && w % 32 == 0 && decide (8 ≤ h) && decide (h ≤ 1024) && h % 8 == 0
    && decide (24 ≤ g.hz) && decide (g.hz ≤ 240) && decide (8 ≤ g.gUs) && decide (g.gUs ≤ 64)
    && decide (480 ≤ g.rate) && decide (g.rate ≤ 1920)

/-- Every footprint inside the canvas, no two overlapping (R42). -/
def feetOk (w h : Nat) (bs : List Bind) : Bool :=
  (feet bs).all (fun f => decide (f.1 + f.2.2.1 ≤ w) && decide (f.2.1 + f.2.2.2 ≤ h)) && allApart (feet bs)

/-- Frame-memory tiles on core ports only (R43). -/
def coreOk (bs : List Bind) : Bool :=
  bs.all fun b => match b.geom with | some m => !m.frameMem || decide (b.port < 6) | none => true

/-- Pre-charge, stagger span and every stagger (R35). -/
def staggerOk (g : Grid) (bs : List Bind) : Bool :=
  decide (g.pcSteps ≤ 100) && decide (2 * (g.pcQ + g.spanQ) ≤ g.tpQ) && bs.all fun b => decide (b.stagger ≤ g.span)

/-- Lead from 0.5 ms to T_F − 0.5 ms. -/
def leadOk (g : Grid) : Bool := decide (500 ≤ g.leadUs) && decide ((g.leadUs + 500) * g.hz ≤ 1000000)

/-- Grid offset below T_F. -/
def offsetOk (g : Grid) : Bool := decide (g.offset * g.hz < 1000000000)

/-- A surface's pixel rate as a fraction, in pixels per second: canvas pixels over T_S − T_G (R53). -/
def pixelRate (w h : Nat) (g : Grid) : Nat × Nat := (w * h * g.rate * 1000000, 1000000 - g.gUs * g.rate)

/-- Sum of fractions. -/
def sumFrac : List (Nat × Nat) → Nat × Nat
  | [] => (0, 1)
  | (a, b) :: t => let r := sumFrac t; (a * r.2 + r.1 * b, b * r.2)

/-- The pixel rates together stay within 3.2 Gpx/s (R53). -/
def rateOk (loads : List (Nat × Nat)) : Bool := let r := sumFrac loads; decide (r.1 ≤ 3200000000 * r.2)

/-- Lane time of one phase of a tile, in bits: TH / 8 line packets of 1.5 × TW + 20 symbols of 10 bits (R54). -/
def laneBits (m : Member) : Nat := m.th / 8 * (m.tw * 3 / 2 + 20) * 10

/-- Lane time of one phase at a rate within 0.8 × T_P of a grid (R54). -/
def laneOk (m : Member) (mbps : Nat) (g : Grid) : Bool :=
  decide (laneBits m * 10 * g.rate ≤ mbps * (1000000 - g.gUs * g.rate))

/-- Lane times of every tile (R54). -/
def lanesOk (g : Grid) (bs : List Bind) : Bool :=
  bs.all fun b => match b.geom with | some m => laneOk m b.mbps g | none => true

/-- The first rule broken, in the order of Table 02-8; `others` are the pixel rates of the other enabled surfaces. -/
def cfgErr (w h : Nat) (g : Grid) (bs : List Bind) (others : List (Nat × Nat)) (netOn : Bool) : Nat :=
  if !canvasOk w h g then 1 else if !feetOk w h bs then 2 else if !coreOk bs then 3
  else if !staggerOk g bs then 4 else if !leadOk g then 5 else if !offsetOk g then 6
  else if !rateOk (pixelRate w h g :: others) then 7 else if !lanesOk g bs then 8 else if !netOn then 9 else 0

/-- Argument bytes as a register word, and the grid of a RETIME's arguments. -/
def Desc.argWord (d : Desc) (off : Nat) : Word := BitVec.ofNat 32 (d.arg off 4)
def Desc.retimeGrid (d : Desc) : Grid := gridOfWords (d.argWord 16) (d.argWord 20) (d.argWord 24) (d.argWord 28)

/-- The grids of the RETIMEs of a surface that wait for their ALIGN in a COMPANION (R417). -/
def State.waitingGrids (s : State) (m : Nat) : List Grid :=
  (s.twin.waiting.filter fun c => c.desc.opcode == 0x31 && c.desc.target == m).map fun c => c.desc.retimeGrid

/-- The grids that a surface runs on or is to run on: its present one, an accepted RETIME's, one that waits for its ALIGN, and the one that a bridge ends on. -/
def State.gridsOf (s : State) (m : Nat) : List Grid :=
  let q := s.gen m
  (if s.running m || q.startF.isSome then q.grid else s.regGrid m)
    :: q.retime.toList ++ (if q.phase == .bridge then [q.bridge.dest] else []) ++ s.waitingGrids m

/-- The larger of two rates. -/
def maxFrac (a b : Nat × Nat) : Nat × Nat := if a.1 * b.2 < b.1 * a.2 then b else a

/-- Pixel rates of the surfaces that count as enabled, but for one, each at the highest of its grids (R28, R53). -/
def State.otherLoads (s : State) (n : Nat) : List (Nat × Nat) :=
  ((List.range 4).filter fun m => m != n && s.surfEnabled m).map fun m =>
    ((s.gridsOf m).map (pixelRate (s.canvasW m) (s.canvasH m))).foldl maxFrac (0, 1)

/-- What an enable of surface `n` would break (R45). -/
def State.cfgErrNow (s : State) (n : Nat) : Nat :=
  cfgErr (s.canvasW n) (s.canvasH n) (s.regGrid n) (s.binds n) (s.otherLoads n) (s.domOn 9)

/-! ## Frame numbers and targets (R40, R46, R47) -/

/-- The number of the next F-tick of a surface, where it is fixed. -/
def State.nextFrame (s : State) (n : Nat) : Option Nat :=
  if s.running n then some ((s.fget (R.TG_FRAME_FRAME_NUM n) + 1) % 2 ^ 32)
  else (s.gen n).startF.map (· % 2 ^ 32)

/-- The target frame of a present validated now (R46, R47), 0 where no F-tick is fixed. Between L(k0) of a pending start and F(k0) it is k0 + 1 (DEDUCED, log entry 102). -/
def State.targetFrame (s : State) (n : Nat) : Nat :=
  match s.nextFrame n with
  | none => 0
  | some k => if (s.gen n).latched then (k + 1) % 2 ^ 32 else k

/-- The instant at which the phase-0 production window of the scan cycle to come opens: the start of the last phase before its G-interval (R34). -/
def Gen.windowQ (q : Gen) : Nat :=
  match q.startF with
  | some _ => q.advance.2.sQ - q.grid.tgQ - q.grid.tpQ
  | none => q.sQ + 7 * q.grid.phaseQ q.lenQ

/-- Whether X of the frame ahead has come: its window has opened, or opens in this timebase tick (R204, R350). -/
def State.xPassed (s : State) (n : Nat) : Bool :=
  let q := s.gen n
  q.windowed || (q.advance.1 && decide (q.windowQ ≤ s.clkQ))

/-- The first F-tick whose X comes after now (R116, R350). -/
def State.windowFrame (s : State) (n : Nat) : Nat :=
  match s.nextFrame n with
  | none => 0
  | some k => if s.xPassed n then (k + 1) % 2 ^ 32 else k

/-! ## CTRL TIMING (Table 09-12, R288) -/

/-- TIMING body from SUB's byte 2: σ, TP_Q8, TON_Q8, t_pc, CLAMP, T_G. -/
def timingBody (stagger tpQ tonQ pc clamp gUs : Nat) : List Byte :=
  leBytes 2 stagger ++ leBytes 4 (tpQ / 2 ^ 24) ++ leBytes 4 (tonQ / 2 ^ 24) ++ u8 pc ++ u8 clamp ++ u8 gUs ++ [0]

/-- TIMING goes to a tile this device owns, or to a legacy tile, for scan cycles of a length on a grid. -/
def State.sendTiming (s : State) (p : Nat) (g : Grid) (lenQ : Nat) : State :=
  if s.owns p || s.legacy p then
    s.sendCtrl p ctrlTiming (timingBody (s.fget (R.TG_PORTMAP_B_STAGGER p)) (g.phaseQ lenQ) (g.tonLenQ lenQ) g.pcSteps
      (s.fget (R.TILE_PROTO_CFG_CLAMP_10MV p)) g.gUs)
  else s

/-- TIMING to every port bound to a surface (R288). -/
def State.timingAll (s : State) (n : Nat) (g : Grid) (lenQ : Nat) : State :=
  overList (fun p s => s.sendTiming p g lenQ) ((List.range 24).filter fun p => s.boundTo p == some n) s

/-! ## Limp page images (R307) -/

/-- Size of an image for a tile. -/
def limpImageSize (tw th : Nat) : Nat := 12 + tw * th * 3 / 2 + 4

/-- Twelve-bit codes packed two in three bytes (Table 09-8). -/
def unpack12 : List Byte → List Nat
  | a :: b :: c :: t => (a.toNat + b.toNat % 16 * 256) :: (b.toNat / 16 + c.toNat * 16) :: unpack12 t
  | _ => []

/-- Codes packed two in three bytes (Table 09-8). -/
def pack12 : List Nat → List Byte
  | a :: b :: t => u8 (a % 256) ++ u8 (a / 256 % 16 + b % 16 * 16) ++ u8 (b / 16) ++ pack12 t
  | [a] => u8 (a % 256) ++ u8 (a / 256 % 16)
  | [] => []

/-- An image's codes, and its CURRENT-reference scale. -/
def limpImageCodes (img : List Byte) : List Nat := unpack12 ((img.drop 12).take (img.length - 16))
def limpImageScale (img : List Byte) : Nat := leAt img 4 2

/-- The check value of an image holds (R307). -/
def limpImageCrcOk (img : List Byte) : Bool :=
  leAt img (img.length - 4) 4 == crc32c (img.take (img.length - 4))

/-- An image fits the stored CAP record of the frame-memory tile on a port, and its check value holds (R307, R519). -/
def State.limpImageFits (s : State) (p : Nat) (img : List Byte) : Bool :=
  match (s.port p).cap with
  | none => false
  | some c => c.frameMem && leAt img 0 2 == c.tw && leAt img 2 2 == c.th
      && img.length == limpImageSize c.tw c.th && limpImageCrcOk img

/-- The end of the production window of a phase of the scan cycle latched, in ns of network time (R34): the start of the G-interval that ends the scan cycle before it for phase 0, else the start of the phase. -/
def Prod.windowEnd (c : Prod) (ph : Nat) : Nat :=
  (if ph = 0 then c.sQ - c.guardQ else c.sQ + ph * c.grid.phaseQ c.lenQ) / 2 ^ 32

end Sys2Proof.Machine
end

