-- ==== Sys2Proof/Machine/Operands.lean ====
section
/-! DEFINITION. The operand forms of the commands (chapter 04): argument bytes, layer records, bulk fields, and the argument checks of R100 step 8. -/

namespace Sys2Proof.Machine

/-! ## Layer records (Table 04-4) -/

/-- A 112-byte layer record. -/
abbrev LayerRec := List Byte

def lyAddr (r : LayerRec) : Nat := leAt r 0 8
def lyPitch (r : LayerRec) : Nat := leAt r 8 4
def lyFormat (r : LayerRec) : Nat := leAt r 12 1
def lyRole (r : LayerRec) : Nat := leAt r 13 1
def lyBlend (r : LayerRec) : Nat := leAt r 14 1
def lyRot (r : LayerRec) : Nat := leAt r 15 1 % 4
def lyMirror (r : LayerRec) : Bool := bitOf (leAt r 15 1) 2
def lyNotReady (r : LayerRec) : Nat := leAt r 16 1
def lySafeN (r : LayerRec) : Nat := leAt r 17 1
def lyFallback (r : LayerRec) : Nat := leAt r 18 1
def lyScaler (r : LayerRec) : Nat := leAt r 19 1 % 4
def lyWarp (r : LayerRec) : Bool := bitOf (leAt r 19 1) 7
def lySrcW (r : LayerRec) : Nat := leAt r 20 2
def lySrcH (r : LayerRec) : Nat := leAt r 22 2
def lyDstX (r : LayerRec) : Nat := leAt r 24 2
def lyDstY (r : LayerRec) : Nat := leAt r 26 2
def lyDstW (r : LayerRec) : Nat := leAt r 28 2
def lyDstH (r : LayerRec) : Nat := leAt r 30 2
def lyOpacity (r : LayerRec) : Nat := leAt r 32 2
def lyOpaqueCount (r : LayerRec) : Nat := leAt r 34 1
def lySigRegion (r : LayerRec) : Nat := leAt r 35 1
def lyExpect (r : LayerRec) : Nat := leAt r 36 4
def lyLineCrc (r : LayerRec) : Nat := leAt r 40 8
/-- Opaque rectangle `i`: x, y, w, h in source pixels. -/
def lyOpaque (r : LayerRec) (i : Nat) : Nat × Nat × Nat × Nat :=
  (leAt r (48 + 8 * i) 2, leAt r (50 + 8 * i) 2, leAt r (52 + 8 * i) 2, leAt r (54 + 8 * i) 2)
def lyPalette (r : LayerRec) (v : Nat) : Nat := leAt r (80 + 2 * v) 2

/-- Bits per pixel of a format (Table 05-1). -/
def formatBits (f : Nat) : Nat :=
  if f = 0 ∨ f = 7 then 8 else if f = 1 then 12 else if f = 2 ∨ f = 3 then 16 else if f = 4 then 24
  else if f = 5 then 1 else 4

/-- Row bytes of a layer (R139). -/
def lyRowBytes (r : LayerRec) : Nat := (lySrcW r * formatBits (lyFormat r) + 7) / 8

/-- Whether a format is opaque in itself (Table 05-1). -/
def formatOpaque (f : Nat) : Bool := decide (f ≤ 2) || f == 8

/-- Size of the oriented source. -/
def lyOW (r : LayerRec) : Nat := if lyRot r % 2 = 1 then lySrcH r else lySrcW r
def lyOH (r : LayerRec) : Nat := if lyRot r % 2 = 1 then lySrcW r else lySrcH r

/-- Default policy of a role: 0 HOLD, 1 DROP, 2 FALLBACK, 3 SAFE (Table 05-6). -/
def roleDefault (role : Nat) : Nat := if role = 0 then 0 else if role = 1 ∨ role = 3 then 3 else 1

/-- The policy of a layer: NOT_READY[1:0], or the role default (R168). -/
def lyPolicy (r : LayerRec) : Nat :=
  if bitOf (lyNotReady r) 2 then roleDefault (lyRole r) else lyNotReady r % 4

/-- Policies that a role allows (Table 05-6). -/
def policyAllowed (role pol : Nat) : Bool :=
  if role = 1 ∨ role = 3 then pol != 1 else if role = 4 then pol == 1 else true

/-- Whether a layer is scaled or warped: it names a scaler. -/
def lyScaled (r : LayerRec) : Bool := lyScaler r != 0

/-- Limits of Table 05-3 (R156). -/
def scalerLimits (r : LayerRec) : Bool :=
  let ow := lyOW r
  let oh := lyOH r
  let down := if ow ≤ 1536 then 4 else 2
  decide (oh ≤ down * lyDstH r) && decide (lyDstH r ≤ 8 * oh) && decide (ow ≤ 4 * lyDstW r) && decide (lyDstW r ≤ 8 * ow)
    && (decide (ow ≤ 1536) || !lyWarp r)

/-- One declared opaque rectangle is non-empty and inside the source; an unused one is 0 (R140). -/
def opaqueOk (r : LayerRec) (i : Nat) : Bool :=
  let q := lyOpaque r i
  if i < lyOpaqueCount r then
    q.2.2.1 != 0 && q.2.2.2 != 0 && decide (q.1 + q.2.2.1 ≤ lySrcW r) && decide (q.2.1 + q.2.2.2 ≤ lySrcH r)
  else q.1 == 0 && q.2.1 == 0 && q.2.2.1 == 0 && q.2.2.2 == 0

/-- Reserved bits of a record are 0 (R102): ORIENT[7:3], NOT_READY[7:3], SCALER[6:2], and the scaler code 3 names none. -/
def lyReservedOk (r : LayerRec) : Bool :=
  decide (leAt r 15 1 < 8) && decide (lyNotReady r < 8) && leAt r 19 1 / 4 % 32 == 0 && lyScaler r != 3

/-- The conditions of R140, R142, R148, R156 and R169 on one layer; `service` is whether the device is in SERVICE. -/
def layerOk (w h : Nat) (service : Bool) (r : LayerRec) : Bool :=
  lyReservedOk r && lyAddr r % 64 == 0 && lyPitch r % 64 == 0 && decide (lyRowBytes r ≤ lyPitch r)
  && decide (1 ≤ lySrcW r) && decide (lySrcW r ≤ 3072) && decide (1 ≤ lySrcH r) && decide (lySrcH r ≤ 3072)
  && decide (lySrcW r * lySrcH r ≤ 3145728)
  && decide (lyFormat r ≤ 8) && decide (lyRole r ≤ 4) && decide (lyBlend r ≤ 4) && decide (lyOpaqueCount r ≤ 4)
  && (List.range 4).all (opaqueOk r)
  && (lyFormat r == 8 || allZero ((r.drop 80).take 32))
  && (lyPolicy r != 3 || lySafeN r != 0) && (lyPolicy r != 2 || decide (lyFallback r < 16))
  && policyAllowed (lyRole r) (lyPolicy r) && (lyRole r != 4 || service)
  && decide (1 ≤ lyDstW r) && decide (1 ≤ lyDstH r) && decide (lyDstX r + lyDstW r ≤ w) && decide (lyDstY r + lyDstH r ≤ h)
  && (if lyScaled r then scalerLimits r else lyDstW r == lyOW r && lyDstH r == lyOH r && !lyWarp r)
  && lyLineCrc r % 64 == 0

/-- The layer records of a present's payload. -/
def layerRecs : Nat → List Byte → List LayerRec
  | 0, _ => []
  | n + 1, b => b.take 112 :: layerRecs n (b.drop 112)

/-- LAYER_COUNT and PENDING of a present (Table 04-3). -/
def Desc.layerCount (d : Desc) : Nat := d.arg 16 1
def Desc.pendingMask (d : Desc) : Nat := d.arg 17 1
def Desc.layers (d : Desc) : List LayerRec := layerRecs (min 8 d.layerCount) d.content

/-- Reserved argument bytes of a present, and of its payload's padding (R102). -/
def Desc.presentReservedOk (d : Desc) (timed : Bool) : Bool :=
  d.flagsOk && d.zero 18 20 && d.zero 34 60
  && (if timed then decide (d.arg 30 4 < 2 ^ 30) else d.zero 24 34)
  && (decide (8 < d.layerCount) || allZero (d.content.drop (112 * d.layerCount)))

/-- Two layers of a present that name one region expect the same signature (R175). -/
def expectsAgree : List LayerRec → Bool
  | [] => true
  | r :: t => t.all (fun q => lySigRegion q != lySigRegion r || lySigRegion r == 255 || lyExpect q == lyExpect r) && expectsAgree t

/-! ## Bulk fields (Table 04-9) -/

/-- ADDR, LEN and SRC_CRC, and the checks on the first two. -/
def Desc.bulkAddr (d : Desc) : Nat := d.arg 16 8
def Desc.bulkLen (d : Desc) : Nat := d.arg 24 4
def Desc.bulkCrc (d : Desc) : Nat := d.arg 28 4
def Desc.bulkOk (d : Desc) : Bool :=
  d.flagsOk && d.bulkAddr % 64 == 0 && d.bulkLen % 4 == 0 && decide (4 ≤ d.bulkLen) && decide (d.bulkLen ≤ 67108864)

/-! ## Signed arguments -/

/-- A signed argument of `n` bytes. -/
def Desc.sarg (d : Desc) (off n : Nat) : Int := toSigned (8 * n) (d.arg off n)

end Sys2Proof.Machine
end

