-- ==== Sys2Proof/Machine/Present.lean ====
section
/-! DEFINITION. Presents as the device keeps them (R107 to R111, R172, R173, R452, R457): completions, layer slots, the Ephemeris pool, and what a stopped surface gives up. -/

namespace Sys2Proof.Machine

/-- A surface's pixel path, and a change of it. -/
def State.px (s : State) (n : Nat) : SurfPix := nth s.pix.surfs n
def State.setPx (s : State) (n : Nat) (f : SurfPix → SurfPix) : State :=
  { s with pix := { s.pix with surfs := upd f s.pix.surfs n } }

/-! ## The Ephemeris pool (R452) -/

/-- Bytes of the pool: 256 MiB. -/
def poolBytes : Nat := 268435456

/-- Pool bytes of one layer's buffer. -/
def layerPool (r : LayerRec) : Nat := (lyRowBytes r + 63) / 64 * 64 * lySrcH r

/-- Pool bytes of the layers that a present fetches. -/
def Present.poolNeed (p : Present) : Nat :=
  p.layers.foldl (fun a l => if l.pending then a else a + layerPool l.record) 0

/-- Whether a present is timed. -/
def Present.timed (p : Present) : Bool := p.desc.opcode == 2

/-- Pool bytes that a launched present holds. -/
def usePool (p : Option Present) : Nat := match p with | some q => if q.timed then q.poolNeed else 0 | none => 0

/-- Pool bytes held only for HOLD, by presents no longer in use (R172). -/
def heldPool (use : Option Present) (hs : List (Option HeldLayer)) : Nat :=
  hs.foldl (fun a h => match h with
    | some l => if l.timed && (use.map (·.desc.pos)) != some l.pos then a + layerPool l.record else a
    | none => a) 0

/-- Pool bytes that a surface holds. -/
def SurfPix.pool (q : SurfPix) : Nat :=
  (q.ephem.foldl (fun a p => a + p.poolNeed) 0) + usePool q.use + usePool q.next + heldPool q.use q.held

/-- Free bytes of the pool. -/
def State.poolFree (s : State) : Nat := poolBytes - (s.pix.surfs.foldl (fun a q => a + q.pool) 0)

/-- TIME_EPH_n.QUEUED follows the queue. -/
def State.showEphem (s : State) (n : Nat) : State := s.fset (R.TIME_EPH_QUEUED n) (s.px n).ephem.length

/-! ## Layer slots (R173) -/

/-- SLOTS_USED, and each scaler's user, as the presents that hold slots give them. -/
def State.showSlots (s : State) : State :=
  let total := s.pix.surfs.foldl (fun a q => a + q.slots.length) 0
  let s := s.fset R.PIX_COMP_STATUS_SLOTS_USED total
  overAll 2 (fun k s =>
    let users := (List.range 4).filter fun n => (s.px n).slots.any fun r => lyScaler r == k + 1
    (s.fsetb (R.PIX_SCALER_IN_USE k) (!users.isEmpty)).fset (R.PIX_SCALER_OWNER k) (users.headD 0)) s

/-- The most recently validated present of a surface holds its layer slots. -/
def State.takeSlots (s : State) (n : Nat) (rs : List LayerRec) : State :=
  (s.setPx n fun q => { q with slots := rs }).showSlots

/-- Layer slots held by the other surfaces, and their scaled or warped layers. -/
def State.otherSlots (s : State) (n : Nat) : List LayerRec :=
  ((List.range 4).filter (· != n)).flatMap fun m => (s.px m).slots

/-- Whether two scaled layers of a list name the same scaler. -/
def scalersApart : List LayerRec → Bool
  | [] => true
  | r :: t => (lyScaler r == 0 || t.all fun q => lyScaler q != lyScaler r) && scalersApart t

/-- The capacity rules of R107 on a present's layers against the other surfaces' (also R455). -/
def capacityStatus (mine others : List LayerRec) : Status :=
  if 16 < mine.length + others.length then .layerCapacity
  else if !scalersApart mine || mine.any (fun r => lyScaled r && others.any fun q => lyScaler q == lyScaler r)
      || decide (2 < ((mine ++ others).filter lyScaled).length) then .scalerCapacity
  else .ok

/-! ## Completions of presents (R108 to R110) -/

/-- Mask of the layers whose prefetch did not complete: neither pending nor done (R108). -/
def Present.missed (p : Present) : Nat :=
  maskOf ((List.range p.layers.length).filter fun i => let l := nth p.layers i; !l.pending && !l.done)

/-- RESULT bytes 28 to 35 of every PRESENT_TIMED: the free queue entries and the free pool in KiB (R110, R452). -/
def State.timedResult (s : State) (n : Nat) : List Byte := leBytes 4 (32 - (s.px n).ephem.length) ++ leBytes 4 (s.poolFree / 1024)

/-- RESULT bytes of a present's completion: the layers missed, PENDING as given (R108), and what a timed one adds. -/
def State.presentResult (s : State) (n : Nat) (p : Present) : List Byte :=
  u8 p.missed ++ u8 p.desc.pendingMask ++ [0, 0] ++ (if p.timed then s.timedResult n else [])

/-- A present's completion is written, where it is owed: OK, with its target frame, or 0 for a timed one. -/
def State.finishPresent (s : State) (n : Nat) (p : Present) : State :=
  if p.owed then
    s.completeAt p.desc .ok (if p.timed then 0 else p.named.getD (s.targetFrame n)) (s.presentResult n p) (.launch n p.desc.pos)
  else s

/-- A present counts as in effect: its F-tick, launch, supersession or cancellation has come (R135). -/
def State.presentInEffect (s : State) (n pos : Nat) : State := s.effectDue fun e => e == .launch n pos

/-- No host read of the present remains: every layer is pending, done or ended. -/
def Present.readsEnded (p : Present) : Bool := p.layers.all fun l => l.pending || l.done || l.failed

/-- Prefetches of a present that wait are not started any more. -/
def State.dropReads (s : State) (pos : Nat) : State :=
  { s with host := { s.host with heldReads := s.host.heldReads.filter fun q => q.layer.map Prod.fst != some pos } }

/-- A present's remaining prefetches stop, and its completion is written. -/
def State.stopPresent (s : State) (n : Nat) (p : Present) : State × Present :=
  let p2 := { p with layers := p.layers.map fun l => if l.pending || l.done then l else { l with failed := true }, owed := false }
  ((s.dropReads p.desc.pos).finishPresent n { p with owed := p.owed }, p2)

/-- EVT PRESENT_SUPERSEDED (Table 04-12). -/
def State.supersededEvent (s : State) (n : Nat) (p : Present) : State :=
  s.eventSurf 0x05 0x0012 n (u8 n ++ [0] ++ leBytes 2 p.desc.tag ++ leBytes 2 p.desc.slot ++ leBytes 4 p.id)

/-- A present is superseded: its reads stop, it completes with OK, the event is written, and it counts as in effect (R48, R109). -/
def State.supersede (s : State) (n : Nat) (p : Present) : State :=
  ((s.stopPresent n p).1.supersededEvent n p).presentInEffect n p.desc.pos

/-! ## Layer reads (R145, R148) -/

/-- A host read of content of a present's layer starts, or waits while ring traffic is paused (R69); with Bus Master Enable 0 it is not started at all (R70). -/
def State.layerRead (s : State) (pos layer addr len : Nat) : State :=
  if s.host.busMaster then s.fetchHost { layer := some (pos, layer), addr := addr, len := len } else s

/-! ## Timed presents cancelled -/

/-- An Ephemeris entry is cancelled: its reads stop, its completion is written if owed, and it counts as in effect; the cases of R457 are counted (R111, R457). -/
def State.cancelEntry (n counted : Nat) (p : Present) (s : State) : State :=
  ((s.stopPresent n p).1.fadd (R.TIME_EPH_CNT_CANCELLED n) counted).presentInEffect n p.desc.pos

/-- The entries of a queue that a test picks are cancelled. -/
def State.cancelEntries (s : State) (n counted : Nat) (pick : Present → Bool) : State :=
  let gone := (s.px n).ephem.filter pick
  let s := s.setPx n fun q => { q with ephem := q.ephem.filter fun p => !pick p }
  (gone.foldl (fun s p => State.cancelEntry n counted p s) s).showEphem n

/-! ## Signature regions (R218) -/

/-- The rectangle of a region: x, y, w, h. -/
def State.regionRect (s : State) (r : Nat) : Nat × Nat × Nat × Nat :=
  (s.fget (R.PIX_SIGREG_A_X0 r), s.fget (R.PIX_SIGREG_A_Y0 r), s.fget (R.PIX_SIGREG_B_W r), s.fget (R.PIX_SIGREG_B_H r))

/-- Pixels that two rectangles share. -/
def shared (a b : Nat × Nat × Nat × Nat) : Nat :=
  (min (a.1 + a.2.2.1) (b.1 + b.2.2.1) - max a.1 b.1) * (min (a.2.1 + a.2.2.2) (b.2.1 + b.2.2.2) - max a.2.1 b.2.1)

/-- Whether a region of surface `n` is active. -/
def State.regionActive (s : State) (n r : Nat) : Bool :=
  bitOf (s.fget R.PIX_SIG_ACTIVE_ACTIVE) r && s.fget (R.PIX_SIGREG_A_SURF r) == n

/-- One region at the enable of its surface: active where it lies inside the canvas and on member footprints whole, else refused. -/
def activateRegion (n : Nat) (fs : List (Nat × Nat × Nat × Nat)) (r : Nat) (s : State) : State :=
  if s.fget (R.PIX_SIGREG_A_SURF r) != n || !s.fbit (R.PIX_SIGREG_A_EN r) then
    (if s.fget (R.PIX_SIGREG_A_SURF r) == n then
      s.fset R.PIX_SIG_REFUSED_REFUSED (maskSet (s.fget R.PIX_SIG_REFUSED_REFUSED) r false) else s)
  else
    let q := s.regionRect r
    let ok := q.2.2.1 != 0 && q.2.2.2 != 0 && decide (q.1 + q.2.2.1 ≤ s.canvasW n) && decide (q.2.1 + q.2.2.2 ≤ s.canvasH n)
      && (fs.foldl (fun a f => a + shared q f) 0) == q.2.2.1 * q.2.2.2
    let s := s.fset R.PIX_SIG_ACTIVE_ACTIVE (maskSet (s.fget R.PIX_SIG_ACTIVE_ACTIVE) r ok)
    s.fset R.PIX_SIG_REFUSED_REFUSED (maskSet (s.fget R.PIX_SIG_REFUSED_REFUSED) r (!ok))

/-- A region of surface `n` has no value in a frame of it: its bit of a VALID field is 0 (R179, R224). -/
def State.sigMissing (s : State) (f : Fld) (n r : Nat) : State :=
  if s.fget (R.PIX_SIGREG_A_SURF r) == n then s.fset f (maskSet (s.fget f) r false) else s

/-- PIX_COMP_STATUS and TG_STATUS.COMPOSING follow the job that runs. -/
def State.showComposing (s : State) : State :=
  let s := overAll 4 (fun n s => s.fsetb (R.TG_STATUS_COMPOSING n) ((s.pix.jobs.head?.map (·.surf)) == some n)) s
  match s.pix.jobs with
  | [] => s.fsetb R.PIX_COMP_STATUS_BUSY false
  | j :: _ => (s.fsetb R.PIX_COMP_STATUS_BUSY true).fset R.PIX_COMP_STATUS_SURF j.surf

/-- Every region of a surface is inactive once the surface is disabled. -/
def deactivateRegion (n r : Nat) (s : State) : State :=
  if s.fget (R.PIX_SIGREG_A_SURF r) == n then
    s.fset R.PIX_SIG_ACTIVE_ACTIVE (maskSet (s.fget R.PIX_SIG_ACTIVE_ACTIVE) r false) else s

/-! ## A surface is disabled -/

/-- What PIX gives up when a surface is disabled: slots, last ready content, counts, compositions, queue entries and regions (R172, R173, R218, R457). -/
def State.surfGone (s : State) (n : Nat) : State :=
  let s := match (s.px n).next with | some p => (s.stopPresent n p).1.presentInEffect n p.desc.pos | none => s
  let s := s.cancelEntries n 1 fun _ => true
  let s := s.setPx n fun q => {
    q with use := none, next := none, slots := [], held := rep 8 none, notReady := rep 8 0, picture := none, waiting := none,
           recompose := false, abandoned := none, prod := {}, prev := [] }
  let s := { s with pix := { s.pix with jobs := s.pix.jobs.filter fun j => j.surf != n } }
  (overAll 32 (deactivateRegion n) s.showComposing).showSlots

end Sys2Proof.Machine
end

