-- ==== Sys2Proof/Machine/Surfaces.lean ====
section
/-! DEFINITION. Enabling and disabling a surface (R44, R45, R57, R218, R349, R358), and the zone factors of thermal derating (R210 to R214). -/

namespace Sys2Proof.Machine

/-! ## Zone temperatures and factors (R212, R213) -/

/-- A zone of the state. -/
def State.zone (s : State) (z : Nat) : ZoneTherm := nth s.pix.zones z

/-- A zone, changed. -/
def State.setZone (s : State) (z : Nat) (f : ZoneTherm → ZoneTherm) : State :=
  { s with pix := { s.pix with zones := upd f s.pix.zones z } }

/-- Whether a thermal map entry is current: updated within the last 128 scan cycles. -/
def ZoneTherm.current (z : ZoneTherm) : Bool := match z.age with | some a => decide (a < 128) | none => false

/-- The highest of a list of temperatures. -/
def maxTemp : List Int → Option Int
  | [] => none
  | t :: ts => match maxTemp ts with | none => some t | some m => some (max t m)

/-- The temperature used for a device zone, and whether it came from a fallback (R213). -/
def State.zoneTemp (s : State) (z : Nat) : Option Int × Bool :=
  let p := z / 8
  if (s.zone z).current then (some (s.zone z).temp, false)
  else
    let mates := ((List.range 8).map fun i => s.zone (8 * p + i)).filter ZoneTherm.current
    match maxTemp (mates.map (·.temp)) with
    | some t => (some t, true)
    | none =>
      match (s.port p).statusAge with
      | some a => if a ≤ 128 then (some (s.fint (R.TILE_REMOTE_C_TEMP p)), true) else (none, true)
      | none => (none, true)

/-- The target factor of a zone of a surface from its temperature and the surface's PIX_DERATE fields in force (R212). A point that the spec leaves open here: DESIGN CHOICE, log entry 146. -/
def State.zoneTarget (s : State) (n : Nat) (t : Option Int) : Nat :=
  if s.inForce (R.PIX_DERATE_A_EN n) = 0 then 65536 else
  let floor : Int := (s.inForce (R.PIX_DERATE_A_FLOOR n) * 256 : Nat)
  let start := toSigned 16 (s.inForce (R.PIX_DERATE_A_START n))
  let raw : Int := match t with
    | none => floor
    | some v => if start < v then 65536 - (v - start) * (s.inForce (R.PIX_DERATE_B_SLOPE n) : Int) else 65536
  (min 65536 (max floor raw)).toNat

/-- The largest rise of a factor per scan cycle: RISE × 16, RISE 0 treated as 1. -/
def State.zoneRise (s : State) (n : Nat) : Nat := max 1 (s.inForce (R.PIX_DERATE_B_RISE n)) * 16

/-- One zone of a surface at an S-tick: a lower target applies at once, a higher one within RISE; a fallback is counted while EN is 1 (R212, R213). At an enable the factor starts at its target. -/
def zoneStep (n : Nat) (atEnable : Bool) (z : Nat) (s : State) : State :=
  if s.legacy (z / 8) then s.setZone z fun q => { q with factor := 65536 } else
  let t := s.zoneTemp z
  let tgt := s.zoneTarget n t.1
  let rise := s.zoneRise n
  let s := s.setZone z fun q => {
    q with factor := if atEnable || decide (tgt ≤ q.factor) then tgt else min tgt (q.factor + rise),
           fallback := t.2, used := t.1.getD q.used }
  if t.2 && s.inForce (R.PIX_DERATE_A_EN n) != 0 && !atEnable then s.fadd R.PIX_OUT_COUNT_TEMP_FALLBACK 1 else s

/-- The device zones of a surface's member ports. -/
def State.surfZones (s : State) (n : Nat) : List Nat :=
  (s.gen n).members.flatMap fun m => (List.range 8).map fun z => 8 * m.port + z

/-- The device zones of the ports bound to a surface, members or not. -/
def State.boundZones (s : State) (n : Nat) : List Nat :=
  ((List.range 24).filter fun p => s.boundTo p == some n).flatMap fun p => (List.range 8).map fun z => 8 * p + z

/-! ## Enabling (R44, R45) -/

/-- The time at least 2 ms after now, in Q32 ns; at the exit from PARK, after the decision (R44, R521). -/
def State.startQ (s : State) : Nat :=
  match s.mode.exitAt with
  | none => s.clkQ + 2000000 * 2 ^ 32
  | some t => s.clkQ + (2000000 - (s.ticks - t) * 4) * 2 ^ 32

/-- A Spillway surface record, changed. -/
def State.setSpill (s : State) (n : Nat) (f : SpillSurf → SpillSurf) : State :=
  { s with safe := { s.safe with surfs := upd f s.safe.surfs n } }

/-- A Spillway surface record. -/
def State.spill (s : State) (n : Nat) : SpillSurf := nth s.safe.surfs n

/-- The Spillway at an enable: the SPB's start profile is in force, clamp scales are 65,536, runs and checks start afresh (R349, R358). -/
def State.spillStart (s : State) (n frame : Nat) : State :=
  let prof := match s.safe.spb with | some b => spbStartProfile b n | none => 0
  let s := s.setSpill n fun _ => { profile := prof, nextProfile := some (prof, frame) }
  let zs := s.boundZones n
  let s := { s with safe := { s.safe with zones := zs.foldl (fun l z => upd (fun q => { q with q := 65536, sum := 0 }) l z) s.safe.zones } }
  let s := { s with safe := { s.safe with pair := upd (fun r => { due := r.due }) s.safe.pair n, testFailed := upd (fun _ => false) s.safe.testFailed n } }
  s.fset (R.SAFE_PROFILE_EXCESS_RUN n) 0

/-- PORT_REFUSED clears on the ports of a surface at its enable (R634). -/
def clearRefused (p : Nat) (s : State) : State := s.fsetb (R.TILE_PROTO_STATUS_PORT_REFUSED p) false

/-! ## Maps (R179) -/

/-- PIX_MAPSTAT of a surface shows its current gain map and patterns (R179). -/
def State.showMaps (s : State) (n : Nat) : State :=
  let q := s.px n
  (s.fsetb (R.PIX_MAPSTAT_GAIN_LOADED n) q.gain.isSome).fset (R.PIX_MAPSTAT_FALLBACK_LOADED n)
    (maskOf ((List.range 16).filter fun i => (nth q.patterns i).isSome))

/-! ## Lane and tile alert faults (Table 11-6) -/

/-- Whether a port is bound to a surface that counts as enabled (R239, R240). -/
def State.boundEnabled (s : State) (p : Nat) : Bool :=
  match s.boundTo p with | some n => s.surfEnabled n | none => false

/-- A lane fault on a port bound to an enabled surface: fault 22, which stands until the port is in ACTIVE (Table 11-6). -/
def State.laneFault (s : State) (p detail : Nat) : State :=
  if decide (p < 24) && s.boundEnabled p then
    ({ s with safe := { s.safe with laneFaults := maskSet s.safe.laneFaults p true } }).raise 22 p detail
  else s

/-- Fault 25 is over once LNREF is back and every lane that lost lock with it, and is still enabled, has come to ACTIVE. -/
def State.refOver (s : State) : State :=
  if s.pins.lnref && (List.range 26).all fun u => !bitOf s.safe.refLanes u || !s.unitOn u || s.laneOf u == laneOff then s.clearFault 25 else s

/-- A unit comes to ACTIVE: its part of faults 22 and 25 is over. -/
def State.laneFaultOver (s : State) (u : Nat) : State :=
  let s := { s with safe := { s.safe with laneFaults := maskSet s.safe.laneFaults u false, refLanes := maskSet s.safe.refLanes u false } }
  let s := if s.safe.laneFaults = 0 then s.clearFault 22 else s
  s.refOver

/-- TILE_ALERT_N of a port: STATUS.ALERT shows it, and fault 24 stands while some port's is low (R265, R299, Table 11-6); the partner of a legacy port is ignored (R258). -/
def State.alertPin (s : State) (p : Nat) (low : Bool) : State :=
  if decide (p % 2 = 1) && s.legacy (p - 1) then s else
  let s := { s with pins := { s.pins with tileAlert := maskSet s.pins.tileAlert p low } }
  let s := if s.portOn p then s.fsetb (R.TILE_LANE_STATUS_ALERT p) low else s
  if s.pins.tileAlert = 0 then s.clearFault 24 else s

/-! ## PRBS tests of a surface's ports -/

/-- Whether an order is for a PRBS test. -/
def TickOrder.isPrbs : TickOrder → Bool
  | .rate _ _ _ => false
  | .prbs _ _ _ _ => true

/-- A PRBS test on a port that the enabled surface binds ends in RETRAIN (Table 08-4), and one whose lane tick has not come does not start (R252). -/
def endPrbsFor (p : Nat) (s : State) : State :=
  (s.setPort p fun q => { q with order := q.order.filter fun o => !o.isPrbs, reorder := q.reorder.filter fun o => !o.isPrbs }).endPrbs p

/-- The start of a surface that passed its checks is pending from now: members, regions, profile, factors and TIMING (R44, R218, R288, R629). -/
def State.startSurface (s : State) (n : Nat) : State :=
  let g := s.regGrid n
  let k := g.firstF s.startQ
  let bs := s.binds n
  let ms := bs.filterMap (·.geom)
  let s := s.setGen n fun q => {
    q with grid := g, startF := some k, stopPend := false, latched := false, windowed := false, phase := .normal, atF := false,
           retime := none, retimeArmed := false, stepped := false, members := ms, joins := [], leaves := [], lenQ := g.tsQ }
  let s := (s.fsetb (R.TG_CTRL_ENABLE n) true).fset (R.TG_STATUS_CFG_ERR n) 0
  let ports := bs.map (·.port)
  let s := overList endPrbsFor ports (overList clearRefused ports s)
  let fs := feet bs
  let s := overAll 32 (activateRegion n fs) s
  let s := s.spillStart n (k % 2 ^ 32)
  let s := overList (zoneStep n true) (s.boundZones n) s
  s.timingAll n g g.tsQ

/-- A write of 1 to ENABLE: withdraws a pending stop, is refused with CFG_ERR, or starts the surface (R44, R45). -/
def State.askStart (s : State) (n : Nat) : State :=
  if !s.domOn 3 then s
  else if s.running n then (s.setGen n fun q => { q with stopPend := false }).fsetb (R.TG_CTRL_ENABLE n) true
  else if (s.gen n).startF.isSome then s
  else
    let e := s.cfgErrNow n
    if e = 0 then s.startSurface n else s.fset (R.TG_STATUS_CFG_ERR n) e

/-! ## Disabling (R44, R57) -/

/-- A pending RETIME is cancelled (R57). -/
def State.cancelRetime (s : State) (n : Nat) : State :=
  if s.fbit (R.TG_STATUS_RETIME_PENDING n) then
    let s := s.setGen n fun q => { q with retime := none, retimeArmed := false }
    let s := s.effectDue fun e => e == .retime n
    (s.fsetb (R.TG_STATUS_RETIME_PENDING n) false).fsetb (R.TG_STATUS_RETIME_CANCELLED n) true
  else s

/-- Instants of a surface that no longer come once it is disabled: what waits for them counts as in effect (R135). -/
def effectOf (n : Nat) (e : EffectAt) : Bool :=
  match e with
  | .fTick m _ => m == n
  | .sTick m => m == n
  | .window m => m == n
  | _ => false

/-- The run of excess scan cycles of a surface is over; with no run left fault 4 has recovered (R357, R385). -/
def State.endRun (s : State) (n : Nat) : State :=
  let s := (s.fset (R.SAFE_PROFILE_EXCESS_RUN n) 0).setSpill n fun q => { q with told := false }
  if (List.range 4).all fun m => s.fget (R.SAFE_PROFILE_EXCESS_RUN m) == 0 then s.clearFault 4 else s

/-- A mode transition no longer waits for a surface's F-tick (Table 17-2). -/
def State.dropWait (s : State) (n : Nat) : State :=
  { s with mode := { s.mode with trans := s.mode.trans.map fun t => { t with waitSurf := t.waitSurf.filter (· != n) } } }

/-- A surface is disabled: its generator has stopped, or its pending start has been withdrawn. -/
def State.surfDisabled (s : State) (n : Nat) : State :=
  let s := (s.setGen n fun _ => {}).effectDue (effectOf n)
  let s := (s.fsetb (R.TG_STATUS_RUNNING n) false).fsetb (R.TG_STATUS_RETIME_ACTIVE n) false
  let s := (s.fsetb (R.TG_CTRL_ENABLE n) false).endRun n
  let s := (s.fsetb (R.SAFE_PROFILE_RETURNING n) false).surfGone n
  let s := s.dropWait n
  if s.fget R.HOST_SILENCE_SURF = n then s.fset R.HOST_SILENCE_CNT_COUNT 0 else s

/-- A write of 0 to ENABLE: withdraws a pending start, or makes a stop pending and cancels a pending RETIME (R44, R57). -/
def State.askStop (s : State) (n : Nat) : State :=
  if !s.domOn 3 then s
  else if s.running n then
    ((s.setGen n fun q => { q with stopPend := true }).fsetb (R.TG_CTRL_ENABLE n) false).cancelRetime n
  else if (s.gen n).startF.isSome then (s.cancelRetime n).surfDisabled n
  else s

end Sys2Proof.Machine
end

