-- ==== Sys2Proof/Machine/Modes.lean ====
section
/-! DEFINITION. Operating modes and the Tarn sentinel (chapter 17): the transition table, the steps into and out of SENTINEL, PARK and LIMP, and Tarn's sampling, filters and rules. -/

namespace Sys2Proof.Machine

/-- The mode record, changed. -/
def State.setMode (s : State) (f : ModeSt → ModeSt) : State := { s with mode := f s.mode }

/-- Mode codes of Table 17-1. -/
def mSentinel : Nat := 0
def mStandby : Nat := 1
def mRun : Nat := 2
def mPark : Nat := 3
def mLimp : Nat := 4
def mService : Nat := 5

/-- Transitions that a MODE command may ask for (Table 17-2). -/
def modeAllowed (src dst : Nat) : Bool :=
  [(1, 2), (1, 0), (1, 3), (1, 4), (1, 5), (2, 1), (2, 3), (2, 4), (2, 5), (3, 4), (5, 4), (5, 1), (4, 2), (4, 1)].contains (src, dst)

/-- The idle timer restarts at the full value (R514); it runs in STANDBY only, and IDLE_S 0 disables it. -/
def State.idleRestart (s : State) : State :=
  if s.modeNow = 1 && !s.fbit R.PWR_MODE_BUSY then
    let v := s.inForce R.PWR_MODE_CFG_IDLE_S
    ((s.fset R.PWR_IDLE_REMAIN_S v).fsetb R.PWR_IDLE_RUNNING (v != 0)).setMode fun m => { m with idleMs := 0 }
  else s

/-- Events that hold the idle timer at its full value (R514). -/
def State.idleHeld (s : State) : Bool :=
  s.lightOn || s.totAny || s.safe.session || (List.range 12).any fun b => s.fbit (R.SEG_BANK_CTRL_RUN b)

/-- The decision to change mode: BUSY and TARGET (R531). -/
def State.beginMode (s : State) (dst cause : Nat) (cmd : Option (Nat × Nat)) : State :=
  let src := s.modeNow
  let s := (s.fset R.PWR_MODE_TARGET dst).fsetb R.PWR_MODE_BUSY true
  (s.setMode fun m => { m with trans := some { src := src, dst := dst, cause := cause, cmd := cmd } }).idleStop

/-! ## SENTINEL (R515, R516) -/

/-- The discrepancy counts restart at 0 whenever sampling passes between Tarn and SAFE (R374, R376). -/
def State.discRestart (s : State) : State :=
  let s := (s.fset R.SAFE_DISC_LREQ_CNT 0).fset R.SAFE_DISC_BLANK_CNT 0
  { s with safe := { s.safe with lreqAgree := 0, blankAgree := 0 }, aon := { s.aon with tarnDisc := [0, 0, 0, 0] } }

/-- Entry into SENTINEL in the order of R515: MODE_CHANGE, the sleep record, sampling to Tarn, every domain but AON off, the rails down. AON keeps what only a reset or a release ends (R381, R383). -/
def State.enterSentinel (s : State) (cause : Nat) : State :=
  let s := s.beginMode 0 cause none
  let s := s.setMode fun m => { m with wakeDuringEntry := false, evented := true }
  let s := ((s.modeEvent 1 0 cause).sleepRecord).discRestart
  let s := { s with aon := { s.aon with keptDark := [2, 3, 5].filter s.faultOn, keptHolds := s.safe.holds } }
  (s.powerDown powerUpOrder).railsDown .sentinel

/-- The wake from SENTINEL starts with the rails (R516). -/
def State.beginWake (s : State) (dst cause : Nat) : State := (s.beginMode dst cause none).railsUp .wake

/-! ## PARK (R518 to R521) -/

/-- The domains that PARK turns off; TLA keeps its LIMP subset, MEM goes into retention (Table 16-4). -/
def parkDomains : List Nat := [8, 7, 9, 5, 3]

/-- A PARK pattern counts as present where its size fits the tile's CAP record and its check value holds; else it is counted as skipped; it is served on an owned frame-memory tile (R518 step 3, R519). -/
def parkPort (p : Nat) (s : State) : State :=
  let q := nth s.parkPats p
  if q.image.isEmpty then s
  else
    let ok := s.limpImageFits p q.image
    let served := ok && s.owns p && (match (s.port p).cap with | none => false | some c => c.frameMem)
    let s := { s with parkPats := upd (fun k => { k with inUse := served }) s.parkPats p }
    if ok then s else s.fadd R.PWR_MODE_PARK_SKIPPED 1

/-- Once every generator has stopped, the safety pair serves the PARK patterns (R518 steps 3 and 4). -/
def State.parkServe (s : State) : State :=
  let s := overAll 6 parkPort s
  ({ s with safe := { s.safe with form := .store, parkBeam := true, swapped := false } }).showSafe

/-- Entry into PARK: the sleep record, the control pair's copy of registers, and every generator asked to stop (R518). -/
def State.enterPark (s : State) (cause : Nat) : State :=
  let src := s.modeNow
  let en := (List.range 4).filter s.surfEnabled
  let run := (List.range 4).filter s.running
  let copy := s.regs.filter fun e => decide (0x40000 ≤ e.1) && decide (e.1 < 0x70000)
  let s := s.beginMode 3 cause none
  let caps := (List.range 24).map fun p => (s.port p).cap
  let s := { s with cmds := { s.cmds with parkCaps := caps } }
  let pics := run.filterMap fun n => (s.px n).picture.map fun p => (n, p)
  let s := s.setMode fun m => { m with parkSurfaces := en, parkRegs := copy, parkWait := run, parkPics := pics, evented := true }
  let s := (s.modeEvent src 3 cause).sleepRecord
  let s := overList (fun n s => s.askStop n) en s
  if run.isEmpty then s.parkServe else s

/-- The rest of the entry: MEM in retention, the other domains off, VDDQ and VSERDES off (R501, R518 step 5). -/
def State.parkFinish (s : State) : State :=
  let s := (s.powerDown parkDomains).tlaToLimp
  let s := ((s.domSet 4 false).fsetb R.PWR_DOM_STATUS_MEM_RET true).fsetb R.MEM_STATUS_RETENTION true
  (s.fsetb R.MEM_STATUS_SCRUBBING false).railsDown .park

/-- A register takes the writable fields of a copied word, a class F field in force at once, for no generator runs (R8, R521). -/
def restoreReg (copy : RegFile) (a : Nat) (s : State) : State :=
  match findReg a with
  | none => s
  | some r =>
    let w := r.fields.foldl (fun w f => if f.acc == .rw then wordSet w f.lo f.width (wordField (regGet copy a) f.lo f.width) else w) (s.rd a)
    let s := s.wr a w
    { s with fregs := regPut s.fregs a w }

/-- The TG, PIX and TILE registers come back from the control pair's copy, with the CAP records read before, no generator being started by it; enabled ports train again (R521 step 2; DEDUCED, log entry 157). -/
def State.parkRestore (s : State) : State :=
  let s := overAll 24 (fun p s => match (s.port p).cap, nth s.cmds.parkCaps p with
    | none, some c => (s.setPort p fun q => { q with cap := some c, capOk := true }).fsetb (R.TILE_PROTO_STATUS_CAP_VALID p) true
    | _, _ => s) s
  let copy := s.mode.parkRegs
  let own := (resetWords.map Prod.fst).filter fun a => decide (0x40000 ≤ a) && decide (a < 0x70000) && regGet copy a == 0
  let s := overList (restoreReg copy) (copy.map Prod.fst ++ own) s
  let s := overAll 4 (fun n s => s.fsetb (R.TG_CTRL_ENABLE n) false) s
  overAll 24 (fun p s => if s.lane p = laneOff then waitPort p s else s) s

/-- The exit from PARK once its rails are up: domains back, MEM out of retention, registers restored from the copy, and each surface enabled at entry restarted at the first F-tick at least 2 ms on, after the decision, with the output frame it was emitting (R521). -/
def State.parkExit (s : State) : State :=
  let s := s.fsetb R.PWR_DOM_STATUS_MEM_RET false
  let s := ((s.domSet 4 true).fsetb R.MEM_STATUS_RETENTION false).fsetb R.MEM_STATUS_SCRUBBING true
  let s := overAll 4 (fun n s => s.showMaps n) (s.powerUp runDomains).tlaToFull
  let s := (s.parkRestore).clockRestore
  let s := overList (fun n s => s.askStart n) s.mode.parkSurfaces s
  let s := s.mode.parkPics.foldl (fun s (e : Nat × Picture) => s.setPx e.1 fun q => { q with picture := some e.2 }) s
  ({ s with cmds := { s.cmds with parkCaps := [] } }).setMode fun m => { m with parkPics := [], parkRegs := [], parkSurfaces := [], exitAt := none }

/-! ## Starting transitions -/

/-- Whether an exit from PARK still has its rails and domains to bring back: LIMP on supply does without them. -/
def State.unparking (s : State) : Bool :=
  (s.mode.trans.any fun t => t.src == 3 && t.dst != 3) && s.fbit R.PWR_DOM_STATUS_MEM_RET && !s.fbit R.PWR_SUPPLY_STATUS_LIMP_SUPPLY

/-- The exit from PARK goes on once the rails are up (R495, R521). -/
def State.unpark (s : State) : State := if s.unparking && s.railsOn && s.sup.dir == .none then s.parkExit else s

/-- Leave PARK for a mode: the rails come up, which ends a power-down still in progress (R521). -/
def State.leavePark (s : State) (dst cause : Nat) : State :=
  (((s.beginMode dst cause none).setMode fun m => { m with exitAt := some s.ticks }).railsUp .unpark).unpark

/-- Leave LIMP: the safety pair ends the beam at the next F-tick of each enabled surface, a start pending among them (Table 17-2, R512). -/
def State.leaveLimp (s : State) (dst : Nat) (cmd : Option (Nat × Nat)) : State :=
  let run := (List.range 4).filter s.surfEnabled
  (s.beginMode dst 0 cmd).setMode fun m => { m with trans := m.trans.map fun t => { t with waitSurf := run } }

/-- What a Tarn action asks for from a mode (Table 17-5); STANDBY to RUN included, as the table of actions gives. -/
def tarnAllowed (mode act : Nat) : Bool :=
  (act == 1 && (mode == 0 || mode == 3)) || (act == 2 && (mode == 0 || mode == 3 || mode == 1)) || (act == 3 && mode != 4)

/-- A Tarn action is taken for rule n (R529). -/
def State.tarnAct (s : State) (act n : Nat) : State :=
  let dst := if act = 3 then 4 else if act = 2 then 2 else 1
  if s.modeNow = 0 then
    (if s.aon.resetHeld then s.setMode fun m => { m with wakeHeld := some (dst, 0x10 + n) } else s.beginWake dst (0x10 + n))
  else if act = 3 then s.enterLimp .store 0 (0x10 + n)
  else if s.modeNow = 3 then s.leavePark dst (0x10 + n)
  else s.beginMode dst (0x10 + n) none

/-- A LIMP fault latched in a transition is taken after it (R512). -/
def State.replayFault (s : State) : State :=
  match s.mode.limpFault with
  | none => s
  | some f =>
    let form := s.safe.limpNext
    let s := s.setMode fun m => { m with limpFault := none, limpCauses := m.limpCauses ++ m.limpLater, limpLater := [] }
    let s := { s with safe := { s.safe with limpNext := .none } }
    s.takeLimp (if form = .none then .store else form) f (0x100 + f)

/-- The latched Tarn action of highest precedence is taken, or it is discarded where the mode in force does not allow it; another transition that begins first is awaited (R531). -/
def State.replayRule (s : State) : State :=
  if s.fbit R.PWR_MODE_BUSY || s.mode.wakeHeld.isSome then s else
  match s.mode.latchedRule with
  | none => s
  | some n =>
    let act := s.fget R.PWR_WAKE_LATCH_ACTION
    let s := s.setMode fun m => { m with latchedRule := none }
    let s := (s.fset R.PWR_WAKE_LATCH_RULES 0).fset R.PWR_WAKE_LATCH_ACTION 0
    if tarnAllowed s.modeNow act then (s.fsetb R.PWR_WAKE_CAUSE_REPLAYED true).tarnAct act n
    else s.fsetb R.PWR_WAKE_LATCH_DISCARDED true

/-- SERVICE without a session, or outside the life-cycle state SERVICE, goes back to STANDBY with cause 4, at the next F-tick of each enabled surface (R396, R522, R590). -/
def State.leaveService (s : State) : State :=
  if s.modeNow = 5 && !s.fbit R.PWR_MODE_BUSY && (!s.safe.session || s.fget R.BOOT_STATUS_LC != lcService) then
    let run := (List.range 4).filter s.surfEnabled
    (s.beginMode 1 4 none).setMode fun m => { m with trans := m.trans.map fun t => { t with waitSurf := run } }
  else s

/-- What was latched in a transition follows it, in the order of R512: a LIMP fault, a Tarn action, a session that closed. -/
def State.replay (s : State) : State := s.replayFault.replayRule.leaveService

/-- HOST_WAKE_N is released (R530). -/
def State.releaseHostWake (s : State) : State :=
  ({ s with aon := { s.aon with hostWakeLow := false } }).fsetb R.PWR_WAKE_CAUSE_HOST_WAKE false

/-- EVT BOOT_REPORT: reset cause; stuck reset seen, SPB copy bad, firmware slot fallback (Table 04-12, R587). -/
def State.bootReport (s : State) : State :=
  let b := b2n (s.fbit R.PWR_RESET_STUCK_RESET) + 2 * b2n s.boot.spbBad + 4 * b2n s.boot.fallback
  s.eventDev 0x0E 0x00A0 (u8 (s.fget R.PWR_RESET_CAUSE) ++ u8 b)

/-- A trial whose boot ends within 500 ms has passed: it becomes active, with the anti-rollback counter raised; a later one leaves the directory as it is, for the next boot to clear (R583, R585). -/
def State.trialPassed (s : State) : State :=
  if s.boot.trial && decide (s.boot.startAt + 125000000 < s.ticks) then s.setBoot fun b => { b with trial := false }
  else if s.boot.trial then
      let sv := (s.slot s.boot.slot).secVer
      let s := s.writeDir { s.dir with active := s.boot.slot, trial := none, started := false }
      let s := s.setBoot fun b => { b with trial := false, otpRollback := max b.otpRollback sv }
      if s.domOn 2 then (s.fset R.BOOT_STATUS_ROLLBACK s.boot.otpRollback).fsetb R.BOOT_STATUS_TRIAL_PENDING false else s
    else s

/-- Fault 30 of a boot of LIMP on supply: with the INSTANCE of the rail that failed, where one did (R496, R632). -/
def State.supplyFaults (s : State) : List (Nat × Nat × Nat) :=
  if !s.boot.limpOnly then []
  else [(30, (match (List.range 5).find? fun r => s.fbit (R.PWR_RAIL_STAT_ERR r) with | some r => 0xF0 + r | none => 0), 0)]

/-- The faults that the end of a boot raises, as one event: those of the power-on test and of LIMP on supply, the segment faults of the reset, and fault 35 of a stuck reset (R482, R548, R576, R632; DEDUCED, log entry 125). -/
def State.bootFaults (s : State) (p : PostResult) : List (Nat × Nat × Nat) :=
  p.faults ++ s.supplyFaults ++ s.segUnreported ++ (if s.fbit R.PWR_RESET_STUCK_RESET then [(35, 0, 0)] else [])

/-- The end of a boot, with the faults of its own kind besides: the power-on test shown, the faults raised, and BOOT_REPORT; STUCK_RESET is cleared (R577, R587). -/
def State.bootDone (s : State) (p : PostResult) (more : List (Nat × Nat × Nat)) : State :=
  let s := (s.postShow p).trialPassed
  let s := s.raiseAll (s.bootFaults p ++ more)
  let s := { s with seg := { s.seg with unreported := [] } }
  let s := if s.boot.limpOnly then s.setSup fun u => { u with shedDue := false } else s
  let s := ((s.setBoot fun b => { b with active := false }).bootReport).fsetb R.PWR_RESET_STUCK_RESET false
  (s.clearFault 35).drivePins

/-- What a wake from SENTINEL does once its domains are up: the clock is restored, sampling goes back to SAFE, the boot ends with the faults that Tarn latched, and MAIN_OK still low is fault 30 (R382, R451, R490, R516; DEDUCED, log entry 135). -/
def State.wakeDone (s : State) (p : PostResult) : State :=
  let s := s.clockRestore.discRestart
  let low := !s.boot.limpOnly && !s.fbit R.PWR_SUPPLY_STATUS_RIDING && !s.fbit R.PWR_SUPPLY_STATUS_MAIN_OK
  let l := (if s.aon.tarnFault11 then [(11, 0, 0)] else []) ++ (if s.aon.tarnFault12 then [(12, 0, 0)] else []) ++ (if low then [(30, 0, 0)] else [])
  ({ s with aon := { s.aon with tarnFault11 := false, tarnFault12 := false } }).bootDone p l

/-- The steps that complete a transition, by its ends: in SENTINEL, which no fault leaves, Tarn judges MAIN_OK from here on (R490, Table 17-2). -/
def State.finishMode (s : State) (p : PostResult) (t : ModeTrans) : State :=
  if t.dst = 0 then
    let s := (s.setMode fun m => { m with limpFault := none }).fsetb R.PWR_SUPPLY_STATUS_RIDING false
    if s.mode.wakeDuringEntry then s else s.releaseHostWake
  else if t.dst = 3 then s.parkFinish
  else if t.src = 0 then s.wakeDone p
  else if t.src = 3 && t.dst = 4 then s
  else if t.src = 3 then (overAll 24 scaleOwed { s with safe := { s.safe with form := .none, parkBeam := false } }).showSafe
  else if t.src = 4 then s.endLimp
  else s

/-- A transition completes (R531): the mode, its event and its command, then what was latched in it; at a wake the power-on test has been run (R548). -/
def xModeTransitionComplete (p : PostResult) (s : State) : State :=
  match s.mode.trans with
  | none => s
  | some t =>
    if !t.waitSurf.isEmpty || !s.mode.parkWait.isEmpty || t.cause = 3 then s
    else if t.src = 0 && s.boot.step != .ready then s
    else if t.dst = 0 && s.sup.dir == .down then s
    else if s.unparking then s
    else if t.src = 0 && p.safeFail then s.bootHalt R.PWR_RESET_POST_SAFE_FAIL else
    let evented := s.mode.evented
    let s := s.finishMode p t
    let s := ((s.fset R.PWR_MODE_MODE t.dst).fset R.PWR_MODE_CAUSE t.cause).fsetb R.PWR_MODE_BUSY false
    let s := s.setMode fun m => { m with trans := none, exitAt := none, evented := false, wokenToRun := t.dst == 2 && (m.wokenToRun || t.src == 0) }
    let s := if evented then s else s.modeEvent t.src t.dst t.cause
    let s := if t.dst = 4 && t.src = 0 then (s.limpForm .store).safeEvent 0 0 else if t.dst = 2 then s.clearFault 26 else s
    let s := match t.cmd with
      | none => s
      | some (r, pos) => s.completeSlot r pos .ok 0 []
    let s := (s.effectDue fun e => e == .mode t.dst).idleRestart
    s.replay

/-! ## Timers -/

/-- The idle timer expires in STANDBY: SENTINEL with cause 0x0001 (R514). -/
def xIdleTimerExpiry (s : State) : State :=
  if s.modeNow = 1 && !s.fbit R.PWR_MODE_BUSY && s.inForce R.PWR_MODE_CFG_IDLE_S != 0 && !s.idleHeld then s.enterSentinel 1
  else s

/-- Light has been off for LREQ_OFF_100MS without a break: RUN goes to STANDBY (R513). -/
def xLreqOffExpiry (s : State) : State :=
  if s.modeNow = 2 && !s.fbit R.PWR_MODE_BUSY && s.inForce R.PWR_MODE_CFG_LREQ_GATE == 1 && !s.lightOn then s.beginMode 1 2 none
  else s

/-- The check of R517: still in RUN, light requested, no surface running or with a start pending. -/
def xNosurfCheck (s : State) : State :=
  if !s.mode.wokenToRun then s else
  let s := s.setMode fun m => { m with wokenToRun := false }
  if s.modeNow = 2 && s.lightOn && !((List.range 4).any s.surfEnabled) then s.raise 13 0xFF 0 else s

/-- The light request moves STANDBY or PARK to RUN while LREQ_GATE is 1: it is a level (R513). -/
def State.lightLevel (s : State) : State :=
  if s.inForce R.PWR_MODE_CFG_LREQ_GATE == 1 && s.lightOn && !s.fbit R.PWR_MODE_BUSY then
    if s.modeNow = 1 then s.beginMode 2 2 none
    else if s.modeNow = 3 then s.leavePark 2 2
    else s
  else s

/-! ## Tarn (R523 to R531) -/

/-- A digital input through its debounce filter (R524). -/
def tarnDigital (deb : Nat) (raw : Bool) (q : TarnFilt) : TarnFilt :=
  let q := { q with prev := q.filt }
  if raw == q.filt then { q with cnt := 0 }
  else if (if deb = 0 then 1 else deb) ≤ q.cnt + 1 then { q with filt := raw, cnt := 0 }
  else { q with cnt := q.cnt + 1 }

/-- The median of three values. -/
def median3 (a b c : Int) : Int := max (min a b) (min (max a b) c)

/-- An analog input through the median and the IIR filter (R524). -/
def tarnAnalog (med : Bool) (k : Nat) (x0 : Int) (q : TarnFilt) : TarnFilt :=
  let m := if med && decide (2 ≤ q.seen) then median3 x0 q.x1 q.x2 else x0
  let y := if q.seen = 0 then m else q.y + (m - q.y) / ((2 ^ k : Nat) : Int)
  { q with x1 := x0, x2 := q.x1, y := y, seen := min 3 (q.seen + 1) }

/-- What Tarn samples at one instant: pin levels of codes 0 to 3, WAKE_SENSE in mV, TWIN_PEER, and the three analog inputs. -/
structure TarnInputs where
  pins : Nat
  wakeMv : Nat
  twinPeer : Bool
  vinMain : Nat
  vinBkup : Nat
  temp : Int
deriving DecidableEq, Repr

/-- The WAKE_SENSE comparator with its 40 mV of hysteresis below the threshold (R525). -/
def wakeComparator (th : Nat) (was : Bool) (mv : Nat) : Bool :=
  let t := 200 + 50 * min th 56
  if was then decide (t ≤ mv + 40) else decide (t < mv)

/-- One filter of the bank. -/
def State.tarnStep (s : State) (i : Nat) (raw : Bool) (x : Int) (q : TarnFilt) : TarnFilt :=
  if i < 9 then tarnDigital (s.fget (R.PWR_TARN_FILT_DEB i)) raw q
  else if i < 11 then q
  else tarnAnalog (s.fbit (R.PWR_TARN_FILT_MEDIAN i)) (s.fget (R.PWR_TARN_FILT_K i)) x q

/-- The raw level of a digital input code, 0 to 8 (Table 17-4). -/
def State.tarnRaw (s : State) (t : TarnInputs) (i : Nat) : Bool :=
  if i < 4 then bitOf t.pins i
  else if i = 4 then wakeComparator (s.fget R.PWR_TARN_CFG_WS_TH) s.mode.wakeCmp t.wakeMv
  else if i = 5 then t.twinPeer
  else if i = 6 then s.aon.resetHeld
  else if i = 7 then s.fbit R.PWR_SUPPLY_STATUS_MAIN_OK
  else s.fbit R.PWR_RESET_STUCK_RESET

/-- The sample of an analog input code, 11 to 13. -/
def tarnRawAnalog (t : TarnInputs) (i : Nat) : Int :=
  if i = 11 then t.vinMain else if i = 12 then t.vinBkup else t.temp

/-- Inputs 9 and 10 after the filters: the timer pulse, and LIGHT from codes 0 and 1 (Table 17-4). -/
def tarnDerived (pulse single : Bool) (fs : List TarnFilt) : List TarnFilt :=
  let light := (nth fs 0).filt || ((nth fs 1).filt && !single)
  let a := upd (fun q => { q with prev := q.filt, filt := pulse }) fs 9
  upd (fun q => { q with prev := q.filt, filt := light }) a 10

/-- One term of a rule (R527): false on an input that Table 17-4 does not define, but for ALWAYS. -/
def tarnTerm (fs : List TarnFilt) (input op thresh : Nat) : Bool :=
  let q := nth fs input
  if op = 7 then true
  else if 14 ≤ input then false
  else if input < 11 then
    if op = 1 then q.filt else if op = 2 then !q.filt
    else if op = 3 then q.filt && !q.prev else if op = 4 then !q.filt && q.prev else false
  else
    let th : Int := if input = 13 then toSigned 16 thresh else thresh
    if op = 5 then decide (q.y < th) else if op = 6 then decide (th < q.y) else false

/-- A rule's condition: both terms by COMBINE, or the one that is used; never with both UNUSED, and never on terms of inputs 14 and 15 alone (R527). -/
def State.tarnCond (s : State) (fs : List TarnFilt) (n : Nat) : Bool :=
  let opA := s.fget (R.PWR_RULE_TERM_A_OP n)
  let opB := s.fget (R.PWR_RULE_TERM_B_OP n)
  let a := tarnTerm fs (s.fget (R.PWR_RULE_TERM_A_INPUT n)) opA (s.fget (R.PWR_RULE_TERM_A_THRESH n))
  let b := tarnTerm fs (s.fget (R.PWR_RULE_TERM_B_INPUT n)) opB (s.fget (R.PWR_RULE_TERM_B_THRESH n))
  let alone (input op : Nat) : Bool := op != 0 && decide (14 ≤ input)
  if (opA = 0 || alone (s.fget (R.PWR_RULE_TERM_A_INPUT n)) opA) && (opB = 0 || alone (s.fget (R.PWR_RULE_TERM_B_INPUT n)) opB) then false
  else if opA = 0 then b else if opB = 0 then a
  else if s.fbit (R.PWR_RULE_CTRL_COMBINE n) then a || b else a && b

/-- The mode that rules are judged against: the target during a transition (R528). -/
def State.ruleMode (s : State) : Nat :=
  if s.fbit R.PWR_MODE_BUSY then s.fget R.PWR_MODE_TARGET else s.modeNow

/-- The rules that fire at this sample (R528). -/
def State.firing (s : State) (fs : List TarnFilt) : List Nat :=
  (List.range 16).filter fun n =>
    s.fbit (R.PWR_RULE_CTRL_EN n) && s.tarnCond fs n && !(nth s.mode.ruleWas n)
      && bitOf (s.fget (R.PWR_RULE_CTRL_MODES n)) s.ruleMode

/-- A firing rule counts, sets its cause bit, and drives HOST_WAKE_N where it asks to (R528, R530). -/
def ruleFires (n : Nat) (s : State) : State :=
  let s := s.fadd (R.PWR_RULE_COUNT_COUNT n) 1
  let s := s.fset R.PWR_WAKE_CAUSE_RULES (maskSet (s.fget R.PWR_WAKE_CAUSE_RULES) n true)
  if s.fbit (R.PWR_RULE_CTRL_HOST_WAKE n) then
    let during := s.fbit R.PWR_MODE_BUSY && s.fget R.PWR_MODE_TARGET == 0
    let s := s.setMode fun m => { m with wakeDuringEntry := m.wakeDuringEntry || during }
    ({ s with aon := { s.aon with hostWakeLow := true } }).fsetb R.PWR_WAKE_CAUSE_HOST_WAKE true
  else s

/-- A rule's mode action, 0 for none: actions 4 to 7 are LOG (Table 17-5). -/
def State.ruleAction (s : State) (n : Nat) : Nat :=
  let a := s.fget (R.PWR_RULE_CTRL_ACTION n)
  if a ≤ 3 then a else 0

/-- The action of highest precedence among rules, LIMP, WAKE_RUN, WAKE_STANDBY, with its lowest-numbered rule (R529). -/
def State.bestAction (s : State) (ns : List Nat) (ok : Nat → Bool) : Option (Nat × Nat) :=
  let pick (a : Nat) := (ns.find? fun n => s.ruleAction n == a && ok a).map fun n => (a, n)
  ((pick 3).or (pick 2)).or (pick 1)

/-- A mode action that fires in a transition is latched (R531). -/
def State.latchAction (s : State) (ns : List Nat) : State :=
  let acts := ns.filter fun n => s.ruleAction n != 0
  if acts.isEmpty then s else
  let s := s.fset R.PWR_WAKE_LATCH_RULES (acts.foldl (fun m n => maskSet m n true) (s.fget R.PWR_WAKE_LATCH_RULES))
  match s.bestAction acts (fun _ => true) with
  | none => s
  | some (a, n) =>
    if s.fget R.PWR_WAKE_LATCH_ACTION < a then
      (s.fset R.PWR_WAKE_LATCH_ACTION a).setMode fun m => { m with latchedRule := some n }
    else s

/-- The rules of one sample take their actions (R528 to R531). -/
def State.runRules (s : State) : State :=
  let fs := s.mode.tarn
  let ns := s.firing fs
  let conds := (List.range 16).map (s.tarnCond fs)
  let s := overList ruleFires ns s
  let s := s.setMode fun m => { m with ruleWas := conds }
  if s.fbit R.PWR_MODE_BUSY || s.mode.wakeHeld.isSome then s.latchAction ns
  else match s.bestAction ns (tarnAllowed s.modeNow) with
    | none => s
    | some (a, n) => s.tarnAct a n

/-- One pair's discrepancy counts: disagreeing samples, then agreeing ones (R376). -/
def discStep (a b : Bool) (dis agr : Nat) : Nat × Nat := if a == b then (0, agr + 1) else (dis + 1, 0)

/-- In SENTINEL Tarn judges the pairs at its own 1 ms period and MAIN_OK against RIDE_MS; a fault that it latched stays until the SAFE samplers clear it (R374, R376, R490). -/
def State.tarnSafety (s : State) (t : TarnInputs) : State :=
  if s.modeNow = 0 && !s.fbit R.PWR_MODE_BUSY then
    let d := s.aon.tarnDisc
    let l := if s.mode.singleCh then (0, 0) else discStep (bitOf t.pins 0) (bitOf t.pins 1) (nth d 0) (nth d 1)
    let b := discStep (bitOf t.pins 2) (bitOf t.pins 3) (nth d 2) (nth d 3)
    let low := if s.fbit R.PWR_SUPPLY_STATUS_MAIN_OK then 0 else s.aon.mainLowMs + 1
    let ride := max 1 (s.fget R.PWR_SUPPLY_CFG_RIDE_MS)
    let s := ({ s with aon := { s.aon with tarnDisc := [l.1, l.2, b.1, b.2], mainLowMs := low } }).drivePins
    if ride ≤ low then s.fsetb R.PWR_SUPPLY_STATUS_MAIN_LOST true else s
  else s

/-- A seconds field that counts the 1 ms samples: the milliseconds left over, and the field one lower each second. -/
def State.secondsDown (s : State) (f : Fld) (ms : Nat) : State × Nat :=
  if ms + 1 < 1000 then (s, ms + 1) else (s.fset f (s.fget f - 1), 0)

/-- The AON count, a lockout, the idle timer and the Tarn timer move on Tarn's samples (R514, R526, R592). -/
def State.tarnSeconds (s : State) : State :=
  let s := { s with aon := { s.aon with samples := s.aon.samples + 1 } }
  let s := if s.boot.locked then
      let b := s.boot
      let s := s.setBoot fun b => if b.lockMs + 1 < 1000 then { b with lockMs := b.lockMs + 1 } else { b with lockMs := 0, lockS := b.lockS - 1 }
      if s.boot.lockS != b.lockS && s.domOn 2 then s.fset R.BOOT_LC_STATUS_LOCK_S s.boot.lockS else s
    else s
  let s := if s.fbit R.PWR_IDLE_RUNNING then
      if s.idleHeld then s.idleRestart
      else
        let r := s.secondsDown R.PWR_IDLE_REMAIN_S s.mode.idleMs
        r.1.setMode fun m => { m with idleMs := r.2 }
    else s
  if s.inForce R.PWR_TARN_TIMER_TIMER_S = 0 then s
  else
    let r := s.secondsDown R.PWR_TARN_TIMER_REMAIN_S s.mode.timerMs
    r.1.setMode fun m => { m with timerMs := r.2 }

/-- HOST_WAKE_N is released where the write clears HOST_WAKE, and the bits of W1C fields are cleared (R530, R532). -/
def clrPending (e : Nat × Nat) (s : State) : State :=
  let s := s.wr e.1 (s.rd e.1 &&& ~~~ (BitVec.ofNat 32 e.2))
  if e.1 = 0x20124 ∧ bitOf e.2 16 then s.releaseHostWake else s

/-- What was written to class I fields of PWR since the last sample takes effect: W1C bits, a new TIMER_S, which the timer loads, and a new IDLE_S, with which the idle timer restarts (R514, R526, R532). -/
def State.takeTarn (s : State) : State :=
  let idle := s.inForce R.PWR_MODE_CFG_IDLE_S
  let s := s.mode.pendClr.foldl (fun s e => clrPending e s) s
  let s := [R.PWR_MODE_CFG_IDLE_S, R.PWR_MODE_CFG_LREQ_GATE, R.PWR_TARN_TIMER_TIMER_S].foldl (fun s f => s.takeForce f) s
  let s := if s.mode.timerLoad then s.fset R.PWR_TARN_TIMER_REMAIN_S (s.fget R.PWR_TARN_TIMER_TIMER_S) else s
  let s := s.setMode fun m => { m with pendClr := [], timerMs := if m.timerLoad then 0 else m.timerMs, timerLoad := false }
  if s.inForce R.PWR_MODE_CFG_IDLE_S = idle then s else s.idleRestart

/-- One sample of Tarn (R523): writes taken, inputs filtered and shown, an action that a withdrawn transition left latched taken or discarded (R531), the rules evaluated. -/
def xTarnSample (t : TarnInputs) (s : State) : State :=
  if !s.aon.running then s else
  let s := s.takeTarn
  let fs := s.mode.tarn.zipIdx.map fun qi => s.tarnStep qi.2 (s.tarnRaw t qi.2) (tarnRawAnalog t qi.2) qi.1
  let fs := tarnDerived s.mode.timerPulse s.mode.singleCh fs
  let cmp := s.tarnRaw t 4
  let s := s.setMode fun m => { m with tarn := fs, timerPulse := false, wakeCmp := cmp }
  let s := s.fset R.PWR_TARN_IN_VALUE (((List.range 11).filter fun i => (nth fs i).filt).foldl (fun m i => maskSet m i true) 0)
  let s := (s.fseti R.PWR_TARN_AIN_A_VIN_MAIN (nth fs 11).y).fseti R.PWR_TARN_AIN_A_VIN_BKUP (nth fs 12).y
  let s := s.fseti R.PWR_TARN_AIN_B_TEMP (nth fs 13).y
  let s := if s.domOn 10 then (s.fset R.PWR_VIN_MAIN_MV t.vinMain).fset R.PWR_VIN_BKUP_MV t.vinBkup
    else (s.fset R.PWR_VIN_MAIN_MV 0).fset R.PWR_VIN_BKUP_MV 0
  ((s.tarnSafety t).tarnSeconds.replayRule).runRules

/-- The Tarn timer expires: input 9 is 1 for one sample, and it restarts; TIMER_S 0 stops it (R526). -/
def xTarnTimerExpiry (s : State) : State :=
  let v := s.inForce R.PWR_TARN_TIMER_TIMER_S
  if v = 0 then s
  else (s.setMode fun m => { m with timerPulse := true, timerMs := 0 }).fset R.PWR_TARN_TIMER_REMAIN_S v

/-- The host writes 1 to PWR_WAKE_CAUSE.HOST_WAKE, which acts at Tarn's next sample (R530, R532). -/
def xHostWakeRelease (s : State) : State := s.setMode fun m => { m with pendClr := m.pendClr ++ [(0x20124, 2 ^ 16)] }

end Sys2Proof.Machine
end

