-- ==== Sys2Proof/Machine/SafeInputs.lean ====
section
/-! DEFINITION. The dual-channel inputs and blanking (R368 to R376): the SAFE samplers, discrepancy, BLANK, and the lockstep comparators. -/

namespace Sys2Proof.Machine

/-- Discrepancy times in ms: the SPB's, or 20 without one (R404). -/
def State.tDisc (s : State) (blank : Bool) : Nat :=
  match s.safe.spb with
  | none => 20
  | some b => if blank then spbTDiscBlank b else spbTDiscLreq b

/-- N of R376 at the SAFE sample period of 10 µs. -/
def State.discN (s : State) (blank : Bool) : Nat := s.tDisc blank * 100

/-- One pair as the SAFE samplers judge it: the count in SAFE_DISC, and the fault cleared after N agreeing samples (R376). -/
def State.safeDisc (s : State) (blank : Bool) (a b : Bool) : State :=
  let f := if blank then R.SAFE_DISC_BLANK_CNT else R.SAFE_DISC_LREQ_CNT
  let agr := if blank then s.safe.blankAgree else s.safe.lreqAgree
  let r := discStep a b (s.fget f) agr
  let s := s.fset f (min r.1 0xFFFF)
  let s := if blank then { s with safe := { s.safe with blankAgree := r.2 } }
    else { s with safe := { s.safe with lreqAgree := r.2 } }
  if s.discN blank ≤ r.2 then s.clearFault (if blank then 12 else 11) else s

/-- A new light request in LIMP restores the beam in the form in force (R380). -/
def State.restoreBeam (s : State) : State :=
  match s.safe.form with
  | .store => { s with safe := { s.safe with swapped := false } }
  | .pages => overAll 6 showLimpPort s
  | .none => s

/-- One sample of LIGHT_REQ_A, LIGHT_REQ_B, BLANK_A, BLANK_B, in bits 0 to 3 (R374, R375). -/
def xSafeSample (pins : Nat) (s : State) : State :=
  if !s.domOn 1 || s.aon.resetHeld then { s with pins := { s.pins with raw := pins % 16 } } else
  let was := s.lightOn
  let s := { s with pins := { s.pins with raw := pins % 16 } }
  let s := (s.fset R.SAFE_INPUTS_RAW (pins % 16)).fset R.SAFE_INPUTS_SAMPLED (pins % 16)
  let s := if s.lreqSingle then s else s.safeDisc false (bitOf pins 0) (bitOf pins 1)
  let s := s.safeDisc true (bitOf pins 2) (bitOf pins 3)
  let clear := if bitOf pins 2 || bitOf pins 3 then 0 else s.safe.blankClear + 1
  let s := { s with safe := { s.safe with blankClear := clear } }
  let s := s.fsetb R.SAFE_STATUS_LIGHT s.lightOn
  let s := if s.lightOn && !was then s.restoreBeam else s
  (if s.lightOn then s.idleRestart else s).lightLevel

/-- The count of disagreeing samples has reached N: fault 11 or 12, which Tarn latches in AON while the device is in SENTINEL (R374, R376). -/
def xDiscrepancyFault (blank : Bool) (s : State) : State :=
  if s.modeNow = 0 && !s.fbit R.PWR_MODE_BUSY then
    let cnt := nth s.aon.tarnDisc (if blank then 2 else 0)
    let n := if blank then s.mode.tDiscBlank else s.mode.tDiscLreq
    if n ≤ cnt then
      (if blank then { s with aon := { s.aon with tarnFault12 := true } }
        else { s with aon := { s.aon with tarnFault11 := true } }).drivePins
    else s
  else
    let f := if blank then 12 else 11
    let cnt := s.fget (if blank then R.SAFE_DISC_BLANK_CNT else R.SAFE_DISC_LREQ_CNT)
    if decide (s.discN blank ≤ cnt) && !s.faultOn f then s.raise f 0 0 else s

/-- A BLANK pin crosses its threshold: Totality on its scope, unsampled (R368, R369); in reset the segments outside the exemption copy go off (R21) and TILE_EN follows the pin (R19). -/
def xBlankAssert (b : Bool) (s : State) : State :=
  let raw := maskSet s.pins.raw (if b then 3 else 2) true
  let s := { s with pins := { s.pins with raw := raw }, safe := { s.safe with blankClear := 0 } }
  if s.inReset then s.segBlankOff
  else if !s.domOn 1 then s
  else ((s.fset R.SAFE_INPUTS_RAW raw).totRequest (if b then .blankB else .blankA) (s.srcGroups .blankA) 10).raise 10 0 0

/-- Both pins have been deasserted on 100 consecutive samples: the BLANK sources meet their clearing condition and the safety pair releases them (R368, R371). -/
def xBlankRelease (s : State) : State :=
  if s.safe.blankClear < 100 then s else s.totRelease [.blankA, .blankB] (s.srcGroups .blankA)

/-- While Totality holds a port, K28.0 goes out on its lane at least once every 1 µs (R281). -/
def xK28Repeat (p : Nat) (s : State) : State :=
  if s.totHolds p && s.portOn p && (s.lane p == laneLinked || s.lane p == laneActive) then s.send (.kcode p 0) else s

/-- The control pair's comparator fires: the last output frame is held and LIMP served from the store (R27, fault 1). -/
def xLockstepControl (s : State) : State := if s.domOn 2 then s.raise 1 0 0 else s

/-- The safety pair's comparator fires: the Spillway requests Totality, latched DARK (R27, fault 2). -/
def xLockstepSafety (s : State) : State := s.raise 2 0 0

end Sys2Proof.Machine
end

