-- ==== Sys2Proof/Machine/HostRings.lean ====
section
/-! DEFINITION. The host interface (chapter 03): doorbells, the arrival of descriptors and payloads, rejection and halting, host-side resets, power states, and ring control. -/

namespace Sys2Proof.Machine

/-! ## Doorbells (R76 to R78) -/

/-- BAR 2 offset key of a ring's doorbell in the register file. -/
def doorbellAddr (n : Nat) : Nat := 0x100000 + n * 0x1000

/-- EVT DOORBELL_INVALID: page offset and value (Table 04-12). -/
def State.doorbellEvent (s : State) (page v : Nat) : State := s.eventDev 0x01 0x0002 (leBytes 2 (page * 0x1000) ++ leBytes 4 v)

/-- The entries from a position to an announced index and generation, or none where the pair is impossible: `pending` of R76. -/
def aheadOf (size p idx gen : Nat) : Option Nat :=
  let h := posIndex size p
  if posGen size p = gen then (if h ≤ idx then some (idx - h) else none)
  else (if idx ≤ h then some (size - h + idx) else none)

/-- The position that a doorbell announces, where R77 accepts it. -/
def State.doorbellPos (s : State) (n idx gen : Nat) : Option Nat :=
  let size := s.ringSize n
  let q := s.ring n
  if size ≤ idx then none
  else if n < 4 then
    match aheadOf size q.head idx gen with
    | none => none
    | some k => if q.tail ≤ q.head + k then some (q.head + k) else none
  else
    match aheadOf size q.tail idx gen with
    | none => none
    | some k => if q.tail + k ≤ q.head then some (q.tail + k) else none

/-- A refused doorbell is counted and reported (R77). -/
def State.doorbellInvalid (s : State) (n v : Nat) : State :=
  (s.fadd (R.HOST_RING_COUNT_DOORBELL_INVALID n) 1).doorbellEvent n v

/-- A BAR 2 write of one DWORD at a page and offset (R77, R78). Returned CPL slots let stalled completions out (R91). -/
def xDoorbellWrite (page off v : Nat) (s : State) : State :=
  if !s.domOn 5 then s
  else if 7 ≤ page then s.doorbellEvent page v
  else if off ≠ 0 then s
  else if !s.ringOn page || bitsOf v 24 4 != page then s.doorbellInvalid page v
  else match s.doorbellPos page (bitsOf v 0 12) (bitsOf v 16 1) with
    | none => s.doorbellInvalid page v
    | some p =>
      let before := (List.range 4).map fun n => (s.ring n).tail
      let s := s.wr (doorbellAddr page) (BitVec.ofNat 32 (bitsOf v 0 12 + bitsOf v 16 1 * 2 ^ 16 + page * 2 ^ 24))
      let s := s.setRing page fun q =>
        { q with tail := p, marks := if page < 4 && q.tail != p then q.marks ++ [(p, before)] else q.marks }
      let s := s.idleRestart
      if page = 4 then s.resumeCpl else s

/-! ## Descriptors (R79 to R86, R100) -/

/-- Submit ring of each known opcode, as a mask (Tables 03-3 and 04-1); none for an unknown one. -/
def opcodeRings (op : Nat) : Option Nat :=
  if op = 0x10 ∨ op = 0x11 ∨ op = 0x20 then some 1
  else if op = 0x01 ∨ op = 0x02 ∨ op = 0x03 then some 2
  else if op = 0x21 ∨ op = 0x30 ∨ op = 0x31 ∨ op = 0x32 ∨ op = 0x42 then some 4
  else if op = 0x40 then some 5
  else if op = 0x41 ∨ op = 0x50 ∨ op = 0x51 ∨ op = 0x60 ∨ op = 0x61 ∨ op = 0x70 ∨ op = 0x71 then some 8
  else if op = 0x7F then some 15
  else none

/-- Whether a MODE ACTION is on a ring that accepts it (R121); an unknown ACTION is left to the argument check. -/
def modeRingOk (ring act : Nat) : Bool :=
  if act ≤ 5 then ring == 2 else if act = 0x10 ∨ act = 0x11 then ring == 0 else true

/-- Check 4 of R100: life-cycle state and session (R122, R130, R133, Table 20-5). -/
def State.lifecycleOk (s : State) (op act : Nat) : Bool :=
  let lc := s.fget R.BOOT_STATUS_LC
  if op = 0x60 ∨ op = 0x61 then s.safe.session && (lc == lcCommission || lc == lcService)
  else if op = 0x70 ∨ op = 0x71 then lc != lcRetired
  else if op = 0x40 ∧ lc = lcRetired then decide (act ≤ 1)
  else if op = 0x40 ∧ act = 5 then s.safe.session && lc == lcService
  else true

/-- Check 5: TARGET in range (Table 04-1). MAP_LOAD and HEALTH_DUMP take the range of their KIND. A point that the spec leaves open here: DESIGN CHOICE, log entry 143. -/
def targetOk (op target kind : Nat) : Bool :=
  if op = 0x11 ∨ op = 0x40 ∨ op = 0x41 ∨ op = 0x42 ∨ (0x60 ≤ op ∧ op ≤ 0x7F) then target == 0
  else if op = 0x50 then
    (if kind = 1 ∨ kind = 2 then decide (target < 24) else if kind = 4 ∨ kind = 5 then decide (target < 6)
      else if kind = 0 ∨ kind = 3 then decide (target < 4) else true)
  else if op = 0x51 then
    (if kind ≤ 2 then decide (target < 24) else if kind = 5 then decide (target < 6) else target == 0)
  else decide (target < 4)

/-- Check 6: PAYLOAD_LEN and PAYLOAD_ADDR (Tables 03-6 and 04-1); `arg16` and `arg17` are the descriptor's bytes 16 and 17 (LAYER_COUNT, ACTION, KIND). -/
def payloadOk (op len addr arg16 arg17 : Nat) : Bool :=
  (if len = 0 then addr == 0 else addr % 64 == 0 && decide (8 ≤ len) && decide (len ≤ 1024) && len % 4 == 0)
  && (if op = 0x01 ∨ op = 0x02 then decide (112 * (if 1 ≤ arg16 ∧ arg16 ≤ 8 then arg16 else 1) + 4 ≤ len)
      else if op = 0x30 then (if arg16 = 2 then len == 0 else if arg16 < 2 then len == 228 else len == 0 || len == 228)
      else if op = 0x32 then
        (if arg17 ≤ 1 then len == 772 else if arg17 = 2 then len == 664 else if arg17 = 3 then len == 532
          else len == 772 || len == 664 || len == 532)
      else len == 0)

/-- Checks 2 to 6 of R100 on a descriptor whose CRC holds: the first that fails gives the status. -/
def State.frameChecks (s : State) (ring : Nat) (b : List Byte) : Status :=
  let op := leAt b 0 1
  let a16 := leAt b 16 1
  match opcodeRings op with
  | none => .badOpcode
  | some rings =>
    if !bitOf rings ring || (op == 0x40 && !modeRingOk ring a16) then .wrongRing
    else if !s.lifecycleOk op a16 then .lifecycle
    else if !targetOk op (leAt b 4 2) (leAt b 32 1) then .targetInvalid
    else if !payloadOk op (leAt b 6 2) (leAt b 8 8) a16 (leAt b 17 1) then .payloadLen
    else .ok

/-- A descriptor of the submit ring, of the size that the ring had when it was read, passes into the list of those owed a completion (R98). -/
def State.owe (s : State) (d : Desc) (size : Nat) : State :=
  let head := sqHead size d.pos false
  s.setRing d.ring fun q => { q with outst := q.outst ++ [{ pos := d.pos, slot := d.slot, head := head }] }

/-- The read of the oldest descriptor in flight on a ring ends; the head passes it, unless the ring has been enabled anew since (R98). -/
def State.landed (s : State) (ring : Nat) (f : Flight) : State :=
  (s.setRing ring fun q => { q with flight := q.flight.drop 1, head := if q.head = f.pos then f.pos + 1 else q.head }).showHead ring

/-- A ring halts or goes on: HALTED, and RUNNING, which says that an enabled ring serves (R86, Table 03-11). -/
def State.haltRing (s : State) (n : Nat) (b : Bool) : State :=
  (s.fsetb (R.HOST_RING_STATUS_HALTED n) b).fsetb (R.HOST_RING_STATUS_RUNNING n) (!b && s.fbit (R.HOST_RING_CTRL_ENABLE n))

/-- A descriptor whose CRC or fetch failed (R85): DESC_CRC with TAG 0xFFFF and OPCODE 0x00; a halting ring halts with its head on the slot, and what was read beyond it is dropped (R86). -/
def State.rejectDesc (s : State) (ring : Nat) (f : Flight) : State :=
  let pos := f.pos
  let halt := f.halt && (s.ring ring).head == pos
  let s := s.fadd (R.HOST_RING_COUNT_DESC_REJECT ring) 1
  let body := completionBytes ring 0xFFFF f.slot Status.descCrc.code 0 0 s.stamp []
  let body := body.take 6 ++ leBytes 2 (sqHead f.size pos halt) ++ body.drop 8
  let s := s.setRing ring fun q => { q with outst := q.outst ++ [{ pos := pos, slot := f.slot, ready := some body }] }
  let s := if halt then (s.setRing ring fun q => { q with flight := [] }).haltRing ring true
    else s.landed ring f
  s.flushRing ring

/-- The oldest descriptor in flight on a ring. -/
def State.inFlight (s : State) (ring : Nat) : Option Flight := if s.domOn 5 then (s.ring ring).flight.head? else none

/-- A fetched descriptor arrives (R84, R100 checks 1 to 6): rejected, completed with the first check it fails, or queued for execution. A generation bit that differs counts as a failed fetch (DEDUCED, log entry 103). -/
def xDescriptorArrival (ring : Nat) (bytes : List Byte) (s : State) : State :=
  match s.inFlight ring with
  | none => s
  | some f =>
    let b := padTo 0 64 bytes
    if leAt b 60 4 != crcWith (descPrefix ring f.slot f.gen) (b.take 60) || leAt b 1 1 % 2 != f.gen then s.rejectDesc ring f else
    let d : Desc := { ring := ring, slot := f.slot, gen := f.gen, pos := f.pos, bytes := b }
    let s := (s.landed ring f).owe d f.size
    match s.frameChecks ring b with
    | .ok =>
      let s := if leAt b 6 2 = 0 then s else s.fetchHost { addr := leAt b 8 8, len := leAt b 6 2 }
      s.setRing ring fun q => { q with arrived := q.arrived ++ [d] }
    | st => s.complete d st 0 []

/-- The first descriptor of a ring whose payload is still to be read. -/
def needsPayload (d : Desc) : Bool := leAt d.bytes 6 2 != 0 && d.payload.isNone

/-- A ring's arrived descriptor at a position is dropped from the queue. -/
def State.dropDesc (s : State) (d : Desc) : State :=
  s.setRing d.ring fun q => { q with arrived := q.arrived.filter fun e => e.pos != d.pos }

/-- A payload block arrives (R82, R83, check 7): its CRC is checked before any byte is used. -/
def xPayloadArrival (ring : Nat) (bytes : List Byte) (s : State) : State :=
  match (s.ring ring).arrived.find? needsPayload with
  | none => s
  | some d =>
    let len := leAt d.bytes 6 2
    let b := padTo 0 len bytes
    if leAt b (len - 4) 4 == crcWith (payloadPrefix ring d.slot d.gen len) (b.take (len - 4)) then
      s.setRing ring fun q => { q with arrived := q.arrived.map fun e => if e.pos = d.pos then { e with payload := some b } else e }
    else (s.dropDesc d).complete d .payloadCrc 0 []

/-! ## Ring control (R86, R97, R98) -/

/-- A write of 1 to ENABLE: both positions to index 0, generation 1; a SIZE_LOG2 outside 4 to 12 refuses (R97, Table 03-11). A point that the spec leaves open here: DESIGN CHOICE, log entry 140. -/
def xRingEnable (n : Nat) (s : State) : State :=
  if !s.domOn 5 || s.fbit (R.HOST_RING_CTRL_ENABLE n) then s else
  let k := s.fget (R.HOST_RING_CFG_SIZE_LOG2 n)
  if k < 4 ∨ 12 < k then s.fsetb (R.HOST_RING_STATUS_CFG_REFUSED n) true else
  let s := ((s.fsetb (R.HOST_RING_CTRL_ENABLE n) true).fsetb (R.HOST_RING_STATUS_RUNNING n) true)
  let s := (s.fsetb (R.HOST_RING_STATUS_CFG_REFUSED n) false).fsetb (R.HOST_RING_STATUS_HALTED n) false
  let s := s.setRing n fun q => { q with head := q.restart, tail := q.restart, marks := [], unsig := 0 }
  let s := (s.showHead n).wr (doorbellAddr n) (BitVec.ofNat 32 (2 ^ 16 + n * 2 ^ 24))
  if n = 4 then s.resumeCpl else s

/-- A write of 0 to ENABLE: no new read is issued; descriptors already fetched, those in flight among them, are executed and their completions kept (R98). -/
def xRingDisable (n : Nat) (s : State) : State :=
  if !s.domOn 5 || !s.fbit (R.HOST_RING_CTRL_ENABLE n) then s else
  let s := (s.fsetb (R.HOST_RING_CTRL_ENABLE n) false).fsetb (R.HOST_RING_STATUS_RUNNING n) false
  (s.fsetb (R.HOST_RING_STATUS_HALTED n) false).setRing n fun q => { q with tail := q.head + q.flight.length }

/-- RESUME makes a halted ring fetch the rejected slot again (R86). -/
def xRingResume (n : Nat) (s : State) : State :=
  if s.fbit (R.HOST_RING_STATUS_HALTED n) then s.haltRing n false else s

/-- SKIP makes a halted ring pass over the rejected slot (R86). -/
def xRingSkip (n : Nat) (s : State) : State :=
  if s.fbit (R.HOST_RING_STATUS_HALTED n) then
    ((s.haltRing n false).setRing n fun q => { q with head := q.head + 1 }).showHead n
  else s

/-- The oldest unsignalled record has waited COAL_US: the ring's vector is sent (R93). -/
def xCoalesceTimeout (n : Nat) (s : State) : State :=
  if (s.ring n).unsig = 0 || s.ringsPaused || !s.ringOn n then s else s.signal n

/-! ## Reads of descriptors (R87, R88) -/

/-- Whether a submit ring has an announced descriptor whose read is to be issued: enabled, not halted, no FENCE pending, no CPL_STALL, and traffic not paused (R69, R70, R86, R88, R91, R134). -/
def State.unread (s : State) (ring : Nat) : Bool :=
  let q := s.ring ring
  decide (q.head + q.flight.length < q.tail) && q.fence.isNone && s.ringOn ring
    && !s.fbit (R.HOST_RING_STATUS_HALTED ring) && !s.fbit R.HOST_STATUS_CPL_STALL && !s.ringsPaused

/-- Whether its read may be issued now: no read of the ring is in flight. -/
def State.mayRead (s : State) (ring : Nat) : Bool := s.unread ring && (s.ring ring).flight.isEmpty

/-- Issue the read of a ring's next descriptors, up to the announced tail and the ring's end: at most 8 of SUB_0, one of another ring (R87, R88). -/
def issueRead (ring : Nat) (s : State) : State :=
  if !s.mayRead ring then s else
  let q := s.ring ring
  let size := s.ringSize ring
  let slot := posIndex size q.head
  let halt := s.fbit (R.HOST_RING_CFG_HALT_ON_REJECT ring)
  let n := min (min (if ring = 0 then 8 else 1) (q.tail - q.head)) (size - slot)
  let s := s.setRing ring fun q => { q with flight := (List.range n).map fun i => ⟨q.head + i, slot + i, posGen size q.head, size, halt⟩ }
  s.readHost (s.ringBase ring + 64 * slot) (64 * n)

/-- The submit ring that the round robin serves after another. -/
def nextTurn (ring : Nat) : Nat := ring % 3 + 1

/-- One turn of the round robin: a ring that may read does so, and the next turn is that of the ring after it (R87). -/
def serveTurn (ring : Nat) (s : State) : State :=
  if s.mayRead ring then
    let s := issueRead ring s
    { s with host := { s.host with turn := nextTurn ring } }
  else s

/-- SUB_0 goes first; the other submit rings go by turns, and only while SUB_0 has nothing to read (R87). -/
def State.issueReads (s : State) : State :=
  let s := issueRead 0 s
  if s.unread 0 then s else
  let r := nextTurn (s.host.turn + 2)
  overList serveTurn [r, nextTurn r, nextTurn (nextTurn r)] s

/-! ## Power and link states (R65, R69, R70) -/

/-- Entry into D3hot pauses the rings; return to D0 resumes them (R69). -/
def xPowerStateChange (d3 : Bool) (s : State) : State :=
  if !s.domOn 5 then s else
  let s := s.fsetb R.HOST_STATUS_D3 d3
  if d3 then s else s.resumeTraffic

/-! ## The PCIe function (R64, R67) -/

/-- Errors that the endpoint reports (R67), and a completion that times out (R68). -/
inductive PcieError where
  | receiver | badTlp | badDllp | replayTimer | replayRollover
  | poisoned | ecrc | malformed | unexpected | timeout
  | protocol
deriving DecidableEq, Repr

/-- The class of an error: 0 correctable, 1 uncorrectable and non-fatal, 2 fatal (R67). -/
def PcieError.cls : PcieError → Nat
  | .receiver | .badTlp | .badDllp | .replayTimer | .replayRollover => 0
  | .poisoned | .ecrc | .malformed | .unexpected | .timeout => 1
  | .protocol => 2

/-- Whether a non-fatal error is reported as an advisory one, which PCI Express allows for these (PRESUMED, log entry 116). -/
def PcieError.advisory : PcieError → Bool
  | .poisoned | .unexpected | .timeout => true
  | _ => false

/-- The bit of an error in its AER status register, as PCI Express numbers them (PRESUMED, log entry 116). -/
def PcieError.bit : PcieError → Nat
  | .receiver => 0 | .badTlp => 6 | .badDllp => 7 | .replayRollover => 8 | .replayTimer => 12
  | .protocol => 4 | .poisoned => 12 | .timeout => 14 | .unexpected => 16 | .malformed => 18 | .ecrc => 19

/-- The AER record, changed. -/
def State.setPcie (s : State) (f : PcieCfg → PcieCfg) : State := { s with host := { s.host with pcie := f s.host.pcie } }

/-- An error is reported through AER: its status bit, that of an advisory error too, and a message of its class (R67). -/
def State.pcieError (s : State) (e : PcieError) : State :=
  if !s.domOn 5 then s
  else if e.cls = 0 then (s.setPcie fun c => { c with aerCor := maskSet c.aerCor e.bit true }).emit (.pcieError 0)
  else
    let s := s.setPcie fun c => { c with aerUncor := maskSet c.aerUncor e.bit true }
    if e.advisory then (s.setPcie fun c => { c with aerCor := maskSet c.aerCor 13 true }).emit (.pcieError 0)
    else s.emit (.pcieError e.cls)

/-- Capability structures of the function (Table 03-1), in the layout that PCI Express gives them (PRESUMED, log entry 116). -/
inductive PcieCap where
  | power | msix | express | aer | l1ss
deriving DecidableEq, Repr

/-- The DWORDs of the configuration header: identity, command bits, class, BARs of 64 bits that are not prefetchable, and subsystem (Table 03-1). -/
def State.configWord (s : State) (off : Nat) : Option Nat :=
  match off with
  | 0x00 => some (0xCA1E + 0x3024 * 2 ^ 16)
  | 0x04 => some (2 * b2n s.host.pcie.memSpace + 4 * b2n s.host.busMaster)
  | 0x08 => some (s.fget R.GLOBAL_REV_REV + 0x048000 * 2 ^ 8)
  | 0x2C => some (s.boot.subVendor + s.boot.subId * 2 ^ 16)
  | _ => none

/-- What a BAR register reads after all ones have been written to it: 1 MiB and 64 KiB, 64-bit memory, not prefetchable (Table 03-1). -/
def barMask (bar : Nat) : Nat := if bar = 0 then 0xFFF00004 else if bar = 2 then 0xFFFF0004 else if bar = 1 ∨ bar = 3 then 0xFFFFFFFF else 0

/-- A size of 128 × 2^k bytes as its code. -/
def sizeCode (bytes : Nat) : Nat := Nat.log2 (bytes / 128)

/-- A DWORD of a capability structure by its offset in it: D0 and D3hot with No_Soft_Reset and without PME; 16 MSI-X vectors with their table and PBA in BAR 0; 256-byte payloads, function-level reset, x4 at 16 GT/s with L1 alone, and completion timeouts A and B; ECRC generation and checking with the AER status; L1.1 and L1.2 (Table 03-1). -/
def State.capWord (s : State) (cap : PcieCap) (off : Nat) : Option Nat :=
  let c := s.host.pcie
  match cap, off with
  | .power, 0 => some (1 + 3 * 2 ^ 16)
  | .power, 4 => some (3 * b2n (s.fbit R.HOST_STATUS_D3) + 8)
  | .msix, 0 => some (0x11 + (15 + 2 ^ 14 * b2n c.funcMask + 2 ^ 15 * b2n c.msixEnable) * 2 ^ 16)
  | .msix, 4 => some 0x18000
  | .msix, 8 => some 0x19000
  | .express, 0 => some (0x10 + 2 * 2 ^ 16)
  | .express, 4 => some (sizeCode 256 + 2 ^ 15 + 2 ^ 28)
  | .express, 8 => some (sizeCode c.mps * 2 ^ 5 + sizeCode c.mrrs * 2 ^ 12)
  | .express, 0xC => some (4 + 4 * 2 ^ 4 + 2 * 2 ^ 10 + 4 * 2 ^ 15)
  | .express, 0x10 => some (c.aspm + (s.fget R.HOST_STATUS_SPEED + s.fget R.HOST_STATUS_WIDTH * 2 ^ 4) * 2 ^ 16)
  | .express, 0x24 => some (3 + 2 ^ 4)
  | .express, 0x28 => some c.timeout
  | .aer, 4 => some c.aerUncor
  | .aer, 0x10 => some c.aerCor
  | .aer, 0x18 => some (2 ^ 5 + 2 ^ 6 * b2n c.ecrcGen + 2 ^ 7 + 2 ^ 8 * b2n c.ecrcCheck)
  | .l1ss, 4 => some 0x1F
  | _, _ => none

/-- The data link completes training: LINK_UP, SPEED and WIDTH (R65). -/
def xPcieLinkUp (speed width : Nat) (s : State) : State :=
  if !s.domOn 5 then s else
  ((s.fsetb R.HOST_STATUS_LINK_UP true).fset R.HOST_STATUS_SPEED speed).fset R.HOST_STATUS_WIDTH width

end Sys2Proof.Machine
end

