-- ==== Sys2Proof/Machine/Compose.lean ====
section
/-! DEFINITION. Composition (chapter 05): source formats, orientation, scalers and warp, blending, calibration gain, neighbour fill, composed signatures. -/

namespace Sys2Proof.Machine

/-! ## Source pixels (Table 05-1, R139) -/

/-- Expansion of a 12-bit value to 16 bits. -/
def expand12 (v : Nat) : Nat := v * 16 + v / 256

/-- Intensity and alpha of source pixel `u` of a row (R139). -/
def srcPixel (r : LayerRec) (row : List Byte) (u : Nat) : Nat × Nat :=
  let f := lyFormat r
  if f = 0 then (leAt row u 1 * 257, 65535)
  else if f = 1 then
    let m := 3 * (u / 2)
    let v := if u % 2 = 0 then leAt row m 1 + leAt row (m + 1) 1 % 16 * 256 else leAt row (m + 1) 1 / 16 + leAt row (m + 2) 1 * 16
    (expand12 v, 65535)
  else if f = 2 then (leAt row (2 * u) 2, 65535)
  else if f = 3 then (leAt row (2 * u) 1 * 257, leAt row (2 * u + 1) 1 * 257)
  else if f = 4 then
    let b := leAt row (3 * u + 1) 1
    (expand12 (leAt row (3 * u) 1 + b % 16 * 256), expand12 (b / 16 + leAt row (3 * u + 2) 1 * 16))
  else if f = 5 then (0, leAt row (u / 8) 1 / 2 ^ (u % 8) % 2 * 65535)
  else if f = 6 then (0, leAt row (u / 2) 1 / 16 ^ (u % 2) % 16 * 4369)
  else if f = 7 then (0, leAt row u 1 * 257)
  else (lyPalette r (leAt row (u / 2) 1 / 16 ^ (u % 2) % 16), 65535)

/-! ## Orientation (R141) -/

/-- The source pixel at a position of the oriented source: R141 inverted. -/
def unorient (r : LayerRec) (ox oy : Nat) : Nat × Nat :=
  let sw := lySrcW r
  let sh := lySrcH r
  let ox := if lyMirror r then lyOW r - 1 - ox else ox
  match lyRot r with
  | 0 => (ox, oy)
  | 1 => (oy, sh - 1 - ox)
  | 2 => (sw - 1 - ox, sh - 1 - oy)
  | _ => (sw - 1 - oy, ox)

/-- The oriented source position of source pixel (u, v) (R141). -/
def orient (r : LayerRec) (u v : Nat) : Nat × Nat :=
  let sw := lySrcW r
  let sh := lySrcH r
  let o : Nat × Nat := match lyRot r with
    | 0 => (u, v)
    | 1 => (sh - 1 - v, u)
    | 2 => (sw - 1 - u, sh - 1 - v)
    | _ => (v, sw - 1 - u)
  (if lyMirror r then lyOW r - 1 - o.1 else o.1, o.2)

/-- Intensity and alpha at a position of the oriented source. -/
def orientedPixel (r : LayerRec) (rows : Rows) (ox oy : Nat) : Nat × Nat :=
  let q := unorient r ox oy
  srcPixel r (nth rows q.2) q.1

/-! ## Scalers (R157, R158) -/

/-- Position of a destination index in a dimension, in 2^-16 source pixels. -/
def scalePos (src dst x : Nat) : Int :=
  let step := src * 65536 / dst
  ((x * step + step / 2 : Nat) : Int) - 32768

/-- Base index and phase of a position. -/
def posBase (pos : Int) : Int := pos / 65536
def posPhase (pos : Int) : Nat := (pos / 1024 % 64).toNat

/-- A filter over coefficients and pixels: rounded half up, held within u16. -/
def fir (cs : List Int) (px : List Nat) : Nat :=
  let acc := (cs.zip px).foldl (fun (a : Int) (e : Int × Nat) => a + e.1 * (e.2 : Int)) 0
  (clampInt 0 65535 ((acc + 512) / 1024)).toNat

/-- The 8 coefficients of a phase. -/
def phaseCoefs (tbl : List Int) (ph : Nat) : List Int := (tbl.drop (8 * ph)).take 8

/-- The fold of R157: four coefficients for base − 1 to base + 2. -/
def foldCoefs (c : List Int) : List Int :=
  [nth c 0 + nth c 1 + nth c 2, nth c 3, nth c 4, nth c 5 + nth c 6 + nth c 7]

/-- Source indices of `n` taps from an index, held within the source. -/
def tapIdx (first : Int) (n src : Nat) : List Nat :=
  (List.range n).map fun (t : Nat) => (clampInt 0 ((src : Int) - 1) (first + (t : Int))).toNat

/-- Taps of the vertical filter: indices and coefficients, folded where OW exceeds 1,536 (Table 05-3). -/
def vertTaps (b : ScalerBank) (r : LayerRec) (pos : Int) : List Nat × List Int :=
  let c := phaseCoefs b.vert (posPhase pos)
  if lyOW r ≤ 1536 then (tapIdx (posBase pos - 3) 8 (lyOH r), c) else (tapIdx (posBase pos - 1) 4 (lyOH r), foldCoefs c)

/-- A scaled pixel: vertical pass first, then horizontal, intensity and alpha apart (R158). -/
def scaledPixel (b : ScalerBank) (r : LayerRec) (rows : Rows) (xd yd : Nat) : Nat × Nat :=
  let px := scalePos (lyOW r) (lyDstW r) xd
  let vt := vertTaps b r (scalePos (lyOH r) (lyDstH r) yd)
  let cols := tapIdx (posBase px - 3) 8 (lyOW r)
  let hc := phaseCoefs b.horiz (posPhase px)
  let col (pick : Nat × Nat → Nat) (ox : Nat) : Nat := fir vt.2 (vt.1.map fun oy => pick (orientedPixel r rows ox oy))
  (fir hc (cols.map (col Prod.fst)), fir hc (cols.map (col Prod.snd)))

/-! ## The warp mesh (R159, R160) -/

/-- Cell and fraction of a destination index over `cells` mesh cells; the last point uses the last cell whole. -/
def meshCell (d dst cells : Nat) : Nat × Nat :=
  let g := d * cells * 65536 / dst
  if cells ≤ g / 65536 then (cells - 1, 65536) else (g / 65536, g % 65536)

/-- Bilinear interpolation of one mesh coordinate, as a position in 2^-16 source pixels. -/
def meshPos (m : Nat → Nat → Nat) (i j fx fy : Nat) : Int :=
  let top := m i j * (65536 - fx) + m (i + 1) j * fx
  let bot := m i (j + 1) * (65536 - fx) + m (i + 1) (j + 1) * fx
  (((top * (65536 - fy) + bot * fy + 2 ^ 18) / 2 ^ 19 : Nat) : Int) - 32768

/-- Source position, x and y, of a destination pixel of a warped layer. -/
def warpPos (b : ScalerBank) (r : LayerRec) (xd yd : Nat) : Int × Int :=
  let gx := meshCell xd (lyDstW r) 32
  let gy := meshCell yd (lyDstH r) 8
  let pt (i j : Nat) : Nat × Nat := nth b.mesh (33 * j + i)
  (meshPos (fun i j => (pt i j).1) gx.1 gy.1 gx.2 gy.2, meshPos (fun i j => (pt i j).2) gx.1 gy.1 gx.2 gy.2)

/-- B of a destination row: the smallest base_y − 1 over the row, not below 0 (R160). -/
def warpB (b : ScalerBank) (r : LayerRec) (yd : Nat) : Nat :=
  let ys := (List.range (lyDstW r)).map fun xd => posBase (warpPos b r xd yd).2 - 1
  (max 0 (ys.foldl min (ys.headD 0))).toNat

/-- A warped pixel: horizontal filter on four source rows, then the folded vertical one; a tap row above B + 7 is read as B + 7. -/
def warpedPixel (b : ScalerBank) (r : LayerRec) (rows : Rows) (xd yd : Nat) : Nat × Nat :=
  let p := warpPos b r xd yd
  let cap := warpB b r yd + 7
  let ys := (tapIdx (posBase p.2 - 1) 4 (lyOH r)).map fun y => min y cap
  let cols := tapIdx (posBase p.1 - 3) 8 (lyOW r)
  let hc := phaseCoefs b.horiz (posPhase p.1)
  let vc := foldCoefs (phaseCoefs b.vert (posPhase p.2))
  let row (pick : Nat × Nat → Nat) (oy : Nat) : Nat := fir hc (cols.map fun ox => pick (orientedPixel r rows ox oy))
  (fir vc (ys.map (row Prod.fst)), fir vc (ys.map (row Prod.snd)))

/-! ## Blending (R163, Table 05-4) -/

/-- round(x × y / 65,535). -/
def mul16 (x y : Nat) : Nat := let t := x * y + 0x8000; (t + t / 65536) / 65536

/-- `s` weighted `e`, `d` weighted 65,535 − `e`. -/
def mix16 (d s e : Nat) : Nat := min 65535 (mul16 s e + mul16 d (65535 - e))

/-- The new background of one blend. -/
def blend (mode d c e : Nat) : Nat :=
  if mode = 0 then mix16 d c e else if mode = 1 then mix16 d (mul16 d c) e else if mode = 2 then mix16 d (max d c) e
  else if mode = 3 then mix16 d (min d c) e else mul16 c e

/-! ## Occultation (R150) -/

/-- Whether (x, y), as the host sees the canvas, lies in a layer's destination rectangle. -/
def inDst (r : LayerRec) (x y : Nat) : Bool :=
  decide (lyDstX r ≤ x) && decide (x < lyDstX r + lyDstW r) && decide (lyDstY r ≤ y) && decide (y < lyDstY r + lyDstH r)

/-- Whether a source pixel lies in a declared opaque rectangle. -/
def inOpaque (r : LayerRec) (u v : Nat) : Bool :=
  (List.range (min 4 (lyOpaqueCount r))).any fun i =>
    let q := lyOpaque r i
    decide (q.1 ≤ u) && decide (u < q.1 + q.2.2.1) && decide (q.2.1 ≤ v) && decide (v < q.2.1 + q.2.2.2)

/-- Whether canvas pixel (x, y) of a layer's destination rectangle lies in one of its declared opaque rectangles (R141). -/
def inDeclared (r : LayerRec) (x y : Nat) : Bool :=
  let q := unorient r (x - lyDstX r) (y - lyDstY r)
  inOpaque r q.1 q.2

/-- Whether a layer occults every layer beneath it at (x, y), as the host sees the canvas (R150). -/
def occultsAt (l : LayerBuf) (x y : Nat) : Bool :=
  let r := l.record
  !l.pending && !lyScaled r && inDst r x y
  && (lyBlend r == 4 || (lyBlend r == 0 && lyOpacity r == 65535 && (formatOpaque (lyFormat r) || inDeclared r x y)))

/-- Whether the layers beneath contribute nothing at (x, y): where the layer occults them, and in a declared rectangle of an over layer whatever its alpha and OPACITY (R153; log entry 106). -/
def hidesAt (l : LayerBuf) (x y : Nat) : Bool :=
  let r := l.record
  occultsAt l x y || (!l.pending && !lyScaled r && inDst r x y && lyBlend r == 0 && inDeclared r x y)

/-- Whether some nearer layer of the present, not removed, passes a test, in a present made with occultation on. -/
def Present.beneath (p : Present) (test : LayerBuf → Bool) (i : Nat) : Bool :=
  p.occult && (p.layers.zipIdx.any fun e => decide (i < e.2) && !p.removed.contains e.2 && test e.1)

/-- Whether a nearer layer of the present occults layer `i` at (x, y) (R150, R152): its bytes there are not fetched. -/
def Present.occulted (p : Present) (i x y : Nat) : Bool := p.beneath (occultsAt · x y) i

/-- Whether layer `i` contributes nothing at (x, y) (R153). -/
def Present.hidden (p : Present) (i x y : Nat) : Bool := p.beneath (hidesAt · x y) i

/-! ## One canvas pixel -/

/-- What one source gives at (x, y), as the host sees the canvas: intensity, alpha, blend and opacity, or nothing outside its rectangle. -/
def sourceAt (banks : List ScalerBank) (width : Nat) (src : LayerSrc) (x y : Nat) : Option (Nat × Nat × LayerRec) :=
  match src with
  | .none => none
  | .pattern r vals => if inDst r x y then some (nth vals (y * width + x), 65535, r) else none
  | .rows r rows =>
    if inDst r x y then
      let xd := x - lyDstX r
      let yd := y - lyDstY r
      let b := nth banks (lyScaler r - 1)
      let ca := if !lyScaled r then orientedPixel r rows xd yd
        else if lyWarp r then warpedPixel b r rows xd yd else scaledPixel b r rows xd yd
      some (ca.1, ca.2, r)
    else none

/-- The background after every layer at device canvas pixel (x, y) (R163), mirrored for LAMP_SIDE = LEFT (R143). -/
def Job.blended (j : Job) (x y : Nat) : Nat :=
  let xh := if j.left then j.width - 1 - x else x
  j.srcs.zipIdx.foldl (fun d e =>
    if j.present.hidden e.2 xh y then d else
    match sourceAt j.banks j.width e.1 xh y with
    | none => d
    | some (c, a, r) => blend (lyBlend r) d c (mul16 a (lyOpacity r))) 0

/-- The composed value: the gain in Q2.14 after the last layer (R164, R165). -/
def Job.composed (j : Job) (x y : Nat) : Nat :=
  let g := match j.gain with | some m => nth m (y * j.width + x) | none => 0x4000
  min 65535 ((j.blended x y * g + 8192) / 16384)

/-- The composed values of the whole canvas, before fill. -/
def Job.plane (j : Job) : Picture := (List.range j.height).map fun y => (List.range j.width).map fun x => j.composed x y

/-! ## Neighbour fill (R167) -/

/-- A pixel of a picture. -/
def pixelOf (p : Picture) (x y : Nat) : Nat := nth (nth p y) x

/-- Whether a canvas pixel lies on a tile. -/
def onFoot (fs : List (Nat × Nat × Nat × Nat)) (x y : Nat) : Bool :=
  fs.any fun f => decide (f.1 ≤ x) && decide (x < f.1 + f.2.2.1) && decide (f.2.1 ≤ y) && decide (y < f.2.1 + f.2.2.2)

/-- The neighbours of a canvas pixel: left, right, upper, lower. -/
def neighbours (w h x y : Nat) : List (Nat × Nat) :=
  (if 0 < x then [(x - 1, y)] else []) ++ (if x + 1 < w then [(x + 1, y)] else [])
    ++ (if 0 < y then [(x, y - 1)] else []) ++ (if y + 1 < h then [(x, y + 1)] else [])

/-- Whether a canvas pixel is dead. -/
def Job.isDead (j : Job) (x y : Nat) : Bool := j.dead.contains (x, y)

/-- The live neighbours of a pixel: on a tile and not dead. -/
def Job.live (j : Job) (x y : Nat) : List (Nat × Nat) :=
  (neighbours j.width j.height x y).filter fun q => onFoot j.feet q.1 q.2 && !j.isDead q.1 q.2

/-- What a dead pixel gives each of its live neighbours. -/
def Job.gives (j : Job) (v : Picture) (x y : Nat) : Nat :=
  min j.maxAdd (pixelOf v x y * j.share / (256 * (j.live x y).length))

/-- A pixel after fill: a dead one is 0, a live one takes every add of values before fill, clamped once. -/
def Job.filled (j : Job) (v : Picture) (x y : Nat) : Nat :=
  if j.isDead x y then 0
  else if !onFoot j.feet x y then pixelOf v x y
  else
    let givers := (neighbours j.width j.height x y).filter fun q => j.isDead q.1 q.2
    min 65535 (givers.foldl (fun a q => a + j.gives v q.1 q.2) (pixelOf v x y))

/-- The output frame. -/
def Job.output (j : Job) (v : Picture) : Picture :=
  if j.fill then (List.range j.height).map fun y => (List.range j.width).map fun x => j.filled v x y else v

/-! ## Signatures (R174, R219) -/

/-- u16 values of a rectangle, row by row. -/
def rectWords (at_ : Nat → Nat → Nat) (q : Nat × Nat × Nat × Nat) : List Byte :=
  (List.range q.2.2.2).flatMap fun y => (List.range q.2.2.1).flatMap fun x => leBytes 2 (at_ (q.1 + x) (q.2.1 + y))

/-- A signature over a rectangle: prefix kind, surface, region, 0, width, height. -/
def rectSig (kind surf region : Nat) (at_ : Nat → Nat → Nat) (q : Nat × Nat × Nat × Nat) : Nat :=
  crcWith (u8 kind ++ u8 surf ++ u8 region ++ [0] ++ leBytes 2 q.2.2.1 ++ leBytes 2 q.2.2.2) (rectWords at_ q)

/-- The layers of the present that name a region and still expect it, with their indices. -/
def Present.naming (p : Present) (r : Nat) : List (LayerBuf × Nat) :=
  if p.waived.contains r then []
  else p.layers.zipIdx.filter fun e => lySigRegion e.1.record == r && !p.removed.contains e.2

/-- A failing region with a SAFETY_SYMBOL: its symbols leave the present in use with the region's expectations (R178 step 2). -/
def Present.dropSymbols (p : Present) (r : Nat) : Present :=
  let gone := (p.naming r).filter fun e => lyRole e.1.record == 3
  { p with removed := p.removed ++ gone.map Prod.snd, waived := p.waived ++ [r] }

/-- A region of a picture replaced by the same pixels of another, or 0 without one (R178 step 1). -/
def patchRegion (p : Picture) (old : Option Picture) (q : Nat × Nat × Nat × Nat) : Picture :=
  p.zipIdx.map fun row => row.1.zipIdx.map fun px =>
    if q.1 ≤ px.2 ∧ px.2 < q.1 + q.2.2.1 ∧ q.2.1 ≤ row.2 ∧ row.2 < q.2.1 + q.2.2.2 then
      (match old with | some o => pixelOf o px.2 row.2 | none => 0)
    else px.1

/-- EVT SIGNATURE_FAIL (Table 04-12). -/
def State.sigFailEvent (s : State) (n layer r expect got : Nat) : State :=
  s.eventSurf 0x05 0x0014 n (u8 n ++ u8 layer ++ u8 r ++ [0, 0, 0] ++ leBytes 4 expect ++ leBytes 4 got)

/-- One region of a composed frame: its signature stored, compared where every layer that names it was ready, and R177 and R178 on a mismatch. -/
def composeRegion (j : Job) (v : Picture) (r : Nat) (acc : State × Picture) : State × Picture :=
  let (s, out) := acc
  if !s.regionActive j.surf r then (s.sigMissing R.PIX_CSIG_VALID_VALID j.surf r, out) else
  let q := s.regionRect r
  let sig := rectSig 5 j.surf r (pixelOf v) q
  let s := (s.fset (R.PIX_CSIG_SIGNATURE r) sig).fset R.PIX_CSIG_VALID_VALID (maskSet (s.fget R.PIX_CSIG_VALID_VALID) r true)
  let named := j.present.naming r
  match named with
  | [] => (s, out)
  | e :: _ =>
    if !(named.all fun l => nth j.ready l.2) || sig == lyExpect e.1.record then (s, out)
    else
      let s := (s.fadd (R.PIX_COMP_COUNT_SIG_FAIL j.surf) 1).sigFailEvent j.surf e.2 r (lyExpect e.1.record) sig
      let s := s.sigMismatch j.surf j.frame
      if named.any fun l => lyRole l.1.record == 3 then
        let s1 := s.setPx j.surf fun x => { x with use := x.use.map fun p => p.dropSymbols r, recompose := true }
        (s1, patchRegion out (s.px j.surf).picture q)
      else (s, out)

/-! ## The engine (R50) -/

/-- The last pixel of an output frame is written: signatures, fill, and the frame waits for its X(k); the next queued composition starts (R50). -/
def xCompositionComplete (durationUs : Nat) (s : State) : State :=
  match s.pix.jobs with
  | [] => s
  | j :: rest =>
    let v := j.plane
    let (s, out) := (List.range 32).foldl (fun acc r => composeRegion j v r acc) (s, j.output v)
    let s := s.setPx j.surf fun x => { x with waiting := some (j.frame, out) }
    let us := min durationUs 65535
    let s := s.fset (R.PIX_COMP_TIME_LAST_US j.surf) us
    let s := s.fset (R.PIX_COMP_TIME_MAX_US j.surf) (max us (s.fget (R.PIX_COMP_TIME_MAX_US j.surf)))
    ({ s with pix := { s.pix with jobs := rest } }).showComposing

/-! ## Prefetch under occultation (R151) -/

/-- Whether a source pixel of layer `i` is occulted. -/
def Present.srcOcculted (p : Present) (i : Nat) (r : LayerRec) (u v : Nat) : Bool :=
  let o := orient r u v
  !lyScaled r && p.occulted i (lyDstX r + o.1) (lyDstY r + o.2)

/-- Whether every pixel of bytes `a` to `b - 1` of source row `v` is occulted. -/
def Present.bytesOcculted (p : Present) (i : Nat) (r : LayerRec) (v a b : Nat) : Bool :=
  let bits := formatBits (lyFormat r)
  let u0 := a * 8 / bits
  let u1 := min (lySrcW r) ((b * 8 + bits - 1) / bits)
  decide (u0 < u1) && (List.range (u1 - u0)).all fun k => p.srcOcculted i r (u0 + k) v

/-- The reads of one source row: its 64-byte blocks that are not wholly occulted; whole rows with a line CRC table. -/
def Present.rowReads (p : Present) (i : Nat) (r : LayerRec) (v : Nat) : List (Nat × Nat) :=
  let n := lyRowBytes r
  let base := lyAddr r + v * lyPitch r
  if lyLineCrc r ≠ 0 then (if p.bytesOcculted i r v 0 n then [] else [(base, n)])
  else ((List.range ((n + 63) / 64)).filter fun k => !p.bytesOcculted i r v (64 * k) (min n (64 * k + 64))).map
    fun k => (base + 64 * k, min 64 (n - 64 * k))

/-- The reads of one layer: its line CRC table first, then its rows in ascending order (R145, R148). -/
def Present.layerReads (p : Present) (i : Nat) : List (Nat × Nat) :=
  let l := nth p.layers i
  if l.pending then [] else
  let r := l.record
  (if lyLineCrc r = 0 then [] else [(lyLineCrc r, 4 * lySrcH r)]) ++ (List.range (lySrcH r)).flatMap (p.rowReads i r)

/-- The layers of a present are prefetched in descending index (R145). -/
def State.prefetch (s : State) (p : Present) : State :=
  (List.range p.layers.length).reverse.foldl (fun s i => (p.layerReads i).foldl (fun s q => s.layerRead p.desc.pos i q.1 q.2) s) s

/-- Check value of a line: prefix 0x01, 0x04, row, row bytes (R148). -/
def lineCrc (v n : Nat) (row : List Byte) : Nat := crcWith ([1, 4] ++ leBytes 2 v ++ leBytes 4 n) (row.take n)

end Sys2Proof.Machine
end

