-- ==== Sys2Proof/Machine/Shade.lean ====
section
/-! DEFINITION. Shade objects (chapter 06): the 64 slots, extrapolation to the emission time, rendering, and merging into slot 63. -/

namespace Sys2Proof.Machine

/-! ## Arithmetic of R187 and R190 -/

/-- n / d rounded to nearest, ties away from zero (R187). -/
def divr (n : Int) (d : Nat) : Int :=
  if 0 ≤ n then (2 * n + (d : Int)) / (2 * (d : Int)) else -((2 * (-n) + (d : Int)) / (2 * (d : Int)))

/-- Floor of the square root, bit by bit from `k` bits down. -/
def isqrtFrom : Nat → Nat → Nat → Nat
  | 0, r, _ => r
  | k + 1, r, n => isqrtFrom k (if (r + 2 ^ k) * (r + 2 ^ k) ≤ n then r + 2 ^ k else r) n

/-- Floor of the square root of a value below 2^66. -/
def isqrt (n : Nat) : Nat := isqrtFrom 33 0 n

/-- Absolute value. -/
def absNat (i : Int) : Nat := i.natAbs

/-! ## Extent at a time (R187, R198) -/

/-- Centre and half sizes of an object at a time, in 1/256 pixel. -/
structure Ext where
  x : Int
  y : Int
  hw : Int
  hh : Int
deriving DecidableEq, Repr

/-- H in ns: HORIZON_MS, 0 treated as 1 and above 250 as 250. -/
def State.horizonNs (s : State) : Nat := min 250 (max 1 (s.fget R.PIX_SHADE_CTRL_HORIZON_MS)) * 1000000

/-- Half sizes saturate at 65,536 pixels. -/
def satHalf (v : Int) : Int := min v (2 ^ 24)

/-- A plain object at time `t` with horizon `h` (R187). -/
def Shade.plainExt (o : Shade) (h t : Nat) : Ext :=
  let dt := t - o.t0
  let dp := min dt h
  let dg := min (dt - h) (2 ^ 40)
  let du := dp / 1000
  let acc (a : Int) : Int := if o.accel then divr (a * (du : Int) * (du : Int)) 2000000000000 else 0
  let grow := divr ((o.growth * dg : Nat) : Int) 1000000000
  { x := o.x + divr (o.vx * (dp : Int)) 1000000000 + acc o.ax, y := o.y + divr (o.vy * (dp : Int)) 1000000000 + acc o.ay,
    hw := satHalf ((o.hw : Int) + grow), hh := satHalf ((o.hh : Int) + grow) }

/-- A merged object at time `t` (R198). A motion stop before t_v counts as t_v (DEDUCED, log entry 109). -/
def Shade.mergedExt (o : Shade) (t : Nat) : Ext :=
  let d := min t o.stop - o.t0
  let grow := divr ((o.growth * (t - o.growStart) : Nat) : Int) 1000000000
  let half (base spread : Nat) : Int := satHalf ((base : Int) + divr ((spread * d : Nat) : Int) 1000000000 + grow)
  { x := o.x + divr (o.vx * (d : Int)) 1000000000, y := o.y + divr (o.vy * (d : Int)) 1000000000,
    hw := half o.hw o.spreadX, hh := half o.hh o.spreadY }

/-- An object at a time. -/
def Shade.ext (o : Shade) (h t : Nat) : Ext := if o.merged then o.mergedExt t else o.plainExt h t

/-- Whether an object is stale at a time (R189, R198). -/
def Shade.stale (o : Shade) (h t : Nat) : Bool := if o.merged then decide (o.growStart < t) else decide (o.t0 + h < t)

/-- The extent as evaluated for a surface of a width: the centre mirrored for LAMP_SIDE = LEFT (R184). -/
def Ext.mirrored (e : Ext) (left : Bool) (w : Nat) : Ext := if left then { e with x := ((256 * w : Nat) : Int) - e.x } else e

/-! ## Rendering (R183, R190, R191) -/

/-- Distance outside a rounded rectangle. -/
def outsideRect (px py : Int) (e : Ext) (r : Int) : Int :=
  let qx := (absNat (px - e.x) : Int) - e.hw + r
  let qy := (absNat (py - e.y) : Int) - e.hh + r
  let ox := if 0 < qx then min qx (2 ^ 28) else 0
  let oy := if 0 < qy then min qy (2 ^ 28) else 0
  (isqrt (ox * ox + oy * oy).toNat : Int) + min (max qx qy) 0 - r

/-- Distance outside an ellipse, along the normalised radius. -/
def outsideEllipse (px py : Int) (e : Ext) : Int :=
  let ux := min (absNat (px - e.x) * 65536 / e.hw.toNat) (2 ^ 31)
  let uy := min (absNat (py - e.y) * 65536 / e.hh.toNat) (2 ^ 31)
  (((isqrt (ux * ux + uy * uy) : Nat) : Int) - 65536) * min e.hw e.hh / 65536

/-- Distance outside an object's edge at a pixel centre. -/
def Shade.outside (o : Shade) (e : Ext) (px py : Int) : Int :=
  let m := min e.hw e.hh
  if o.ellipse then (if m < 256 then outsideRect px py e m else outsideEllipse px py e)
  else outsideRect px py e (min (o.radius : Int) m)

/-- An object's factor at a distance (R191). -/
def shadeFactor (dist : Int) (depth ramp : Nat) : Nat :=
  if dist ≤ 0 then depth else if (ramp : Int) ≤ dist then 65536 else depth + (65536 - depth) * dist.toNat / ramp

/-- Factor of one slot at canvas pixel (x, y) of a surface. -/
def Shade.factorAt (o : Shade) (e : Ext) (x y : Nat) : Nat :=
  shadeFactor (o.outside e (256 * x + 128 : Nat) (256 * y + 128 : Nat)) o.depth o.ramp

/-- The objects that a surface owns, with their extents at a time. -/
def State.shadesAt (s : State) (n t : Nat) : List (Shade × Ext) :=
  s.pix.shades.filterMap fun o => o.bind fun q =>
    if bitOf q.owners n then some (q, (q.ext s.horizonNs t).mirrored s.lampLeft (s.canvasW n)) else none

/-- The factor of a pixel: the smallest over the objects, 65,536 without one or with shading off on the surface (R192). -/
def shadeFactorAll (os : List (Shade × Ext)) (en : Bool) (x y : Nat) : Nat :=
  if en then os.foldl (fun f q => min f (q.1.factorAt q.2 x y)) 65536 else 65536

/-- The stage's output (R192). -/
def shadeStage (v f : Nat) : Nat := (v * f + 0x8000) / 65536

/-! ## The slots (R180, R194, R202) -/

/-- PIX_SHADE_USED follows the slots. -/
def State.showUsed (s : State) : State :=
  let m := maskOf ((List.range 64).filter fun i => (nth s.pix.shades i).isSome)
  (s.fset R.PIX_SHADE_USED_LO_USED (m % 2 ^ 32)).fset R.PIX_SHADE_USED_HI_USED (m / 2 ^ 32)

/-- A slot written. -/
def State.setShade (s : State) (i : Nat) (o : Option Shade) : State :=
  ({ s with pix := { s.pix with shades := upd (fun _ => o) s.pix.shades i } }).showUsed

/-- The STALE bit of a slot. -/
def staleFld (i : Nat) : Fld :=
  if i < 32 then { R.PIX_SHADE_STALE_LO_STALE with lo := i, width := 1 } else { R.PIX_SHADE_STALE_HI_STALE with lo := i - 32, width := 1 }

/-- The surface at whose windows a slot is reported: its owner, or the lowest-numbered owner (R202). -/
def Shade.reportSurf (o : Shade) : Nat := (maskList 4 o.owners).headD 0

/-- One slot evaluated at a production window of surface `n`, whose lowest member port emits at `t`: stale state, SHADE_STALE once per update, and the peek values (R189, R201, R202). -/
def evalSlot (n t : Nat) (i : Nat) (s : State) : State :=
  match nth s.pix.shades i with
  | none => s
  | some o =>
    if !bitOf o.owners n then s else
    let st := o.stale s.horizonNs t
    let s := s.fsetb (staleFld i) st
    let s := if st && !o.staleTold then
        (s.setShade i (some { o with staleTold := true })).eventSurf 0x05 0x0021 n (u8 i ++ u8 n)
      else s
    if o.reportSurf ≠ n then s else
    let e := (o.ext s.horizonNs t).mirrored s.lampLeft (s.canvasW n)
    { s with pix := { s.pix with peeks := upd (fun _ => { x := e.x, y := e.y, hw := e.hw.toNat, hh := e.hh.toNat }) s.pix.peeks i } }

/-- Every slot evaluated at a production window. -/
def State.evalShades (s : State) (n t : Nat) : State := overAll 64 (evalSlot n t) s

/-! ## Merging (R197 to R200) -/

/-- Motion-stop and growth-start times of an object with horizon `h`. -/
def Shade.stopAt (o : Shade) (h : Nat) : Nat := if o.merged then o.stop else o.t0 + h
def Shade.growAt (o : Shade) (h : Nat) : Nat := if o.merged then o.growStart else o.t0 + h

/-- Velocity of an object at a time, on one axis. -/
def Shade.vel (o : Shade) (h t : Nat) (v a : Int) : Int :=
  if o.merged then (if t < o.stop then v else 0)
  else
    let dt := t - o.t0
    if h ≤ dt then 0 else v + (if o.accel then divr (a * (dt : Int)) 1000000000 else 0)

/-- Spread rate of one axis of a merge. -/
def mergeSpread (va vb mv : Int) (sa sb : Nat) (aa ab : Int) (rem : Nat) : Nat :=
  max (max (absNat (va - mv)) (absNat (vb - mv))) (absNat mv) + max sa sb
    + (divr ((max (absNat aa) (absNat ab) * rem : Nat) : Int) 1000000000).toNat + 1

/-- The merged object of two constituents at time `tv` (R198). -/
def mergeShades (h tv : Nat) (a b : Shade) : Shade :=
  let ea := a.ext h tv
  let eb := b.ext h tv
  let lox := min (ea.x - ea.hw) (eb.x - eb.hw)
  let hix := max (ea.x + ea.hw) (eb.x + eb.hw)
  let loy := min (ea.y - ea.hh) (eb.y - eb.hh)
  let hiy := max (ea.y + ea.hh) (eb.y + eb.hh)
  let hw := ((hix - lox + 1) / 2).toNat
  let hh := ((hiy - loy + 1) / 2).toNat
  let vax := a.vel h tv a.vx a.ax
  let vbx := b.vel h tv b.vx b.ax
  let vay := a.vel h tv a.vy a.ay
  let vby := b.vel h tv b.vy b.ay
  let mvx := (vax + vbx).tdiv 2
  let mvy := (vay + vby).tdiv 2
  let stop := max (a.stopAt h) (b.stopAt h)
  let rem := stop - tv
  { merged := true, depth := min a.depth b.depth, ramp := max a.ramp b.ramp, owners := a.owners ||| b.owners,
    x := lox + (hw : Int), y := loy + (hh : Int), hw := hw, hh := hh, vx := mvx, vy := mvy,
    spreadX := mergeSpread vax vbx mvx a.spreadX b.spreadX a.ax b.ax rem,
    spreadY := mergeSpread vay vby mvy a.spreadY b.spreadY a.ay b.ay rem,
    t0 := tv, stop := stop, growStart := min (a.growAt h) (b.growAt h), growth := max a.growth b.growth }

/-- The 48-bit seconds nearest to the network time `ns` whose low 32 bits are a field (R182); of two equally near the one of the present 2^32 seconds (DESIGN CHOICE, log entry 117). -/
def extendSec (ns low : Nat) : Nat :=
  let base := ns / 1000000000 / 2 ^ 32 * 2 ^ 32 + low
  let d (c : Nat) : Nat := absNat (((c * 1000000000 : Nat) : Int) - (ns : Int))
  let cands := (if base + 2 ^ 32 < 2 ^ 48 then [base + 2 ^ 32] else []) ++ (if 2 ^ 32 ≤ base then [base - 2 ^ 32] else [])
  cands.foldl (fun b c => if d c < d b then c else b) base

/-- The object that a SHADE_UPDATE's arguments give (Tables 04-5 and 06-1). -/
def State.shadeOf (s : State) (d : Desc) : Shade :=
  let accel := bitOf (d.arg 17 1) 1
  { ellipse := bitOf (d.arg 17 1) 0, accel := accel, depth := d.arg 18 2, x := d.sarg 20 4, y := d.sarg 24 4,
    hw := 16 * d.arg 28 2, hh := 16 * d.arg 30 2, radius := 16 * d.arg 32 2, ramp := 16 * d.arg 34 2,
    vx := d.sarg 36 4, vy := d.sarg 40 4, ax := if accel then 64 * d.sarg 44 2 else 0, ay := if accel then 64 * d.sarg 46 2 else 0,
    growth := 16 * d.arg 48 2, t0 := extendSec s.nowNs (d.arg 56 4) * 1000000000 + d.arg 52 4 % 2 ^ 30,
    owners := maskOf [d.target] }

/-- PIX_SHADE_AGE and FUTURE_CAPTURE at a validation (R188, R195). -/
def State.shadeAge (s : State) (t0 : Nat) : State :=
  let us := min 65535 ((s.nowNs - t0) / 1000)
  let s := if s.nowNs < t0 then s.fadd R.PIX_SHADE_COUNT_FUTURE_CAPTURE 1 else s
  (s.fset R.PIX_SHADE_AGE_LAST_US us).fset R.PIX_SHADE_AGE_MAX_US (max us (s.fget R.PIX_SHADE_AGE_MAX_US))

/-- An object goes into slot 63 in the merged state (R197 to R200); EVT SHADE_MERGED names the slot requested. t_v is the device's own time, also on a COMPANION; MERGES counts an empty slot 63 too (DEDUCED, log entries 108 and 110). -/
def State.mergeInto (s : State) (o : Shade) (slot surf : Nat) : State :=
  let m := match nth s.pix.shades 63 with
    | none => o
    | some a => mergeShades s.horizonNs s.nowNs a o
  let s := (s.setShade 63 (some m)).fsetb R.PIX_SHADE_STATUS_MERGED true
  let s := (s.fset R.PIX_SHADE_STATUS_MERGE_SURF m.owners).fadd R.PIX_SHADE_COUNT_MERGES 1
  s.eventSurf 0x05 0x0020 surf (u8 slot ++ u8 surf)

/-- SHADE_UPDATE's argument checks: SHAPE[7:2], bytes 50 and 51 and CAPTURE[31:30] are 0 (R102). -/
def Desc.shadeOk (d : Desc) : Bool := d.flagsOk && decide (d.arg 17 1 < 4) && d.zero 50 52 && decide (d.arg 52 4 < 2 ^ 30)

/-- The front descriptor of a submit ring, where it is ready to execute with one of some opcodes: no FENCE pending before it (R134), no command before it whose source is still to be checked (R84, R100), and room for its completion (R91). -/
def State.ready (s : State) (ring : Nat) (ops : List Nat) : Option Desc :=
  match s.front ring with
  | none => none
  | some d => if ops.contains d.opcode && (d.payloadLen == 0 || d.payload.isSome) && (s.ring ring).fence.isNone && !s.fbit R.HOST_STATUS_CPL_STALL
      && !s.cmds.bulk.any (fun e => e.ring == ring) then some d else none

/-- The content of a SHADE_UPDATE applied (R112, R113, R197, R200); whether it was merged is the second part. -/
def State.shadeApply (s : State) (d : Desc) : State × Bool :=
  let o := s.shadeOf d
  let slot := d.arg 16 1
  if 64 ≤ slot || (slot == 63 && s.fbit R.PIX_SHADE_STATUS_MERGED) then (s.mergeInto o slot d.target, true)
  else (s.setShade slot (some o), false)

/-- One slot emptied; clearing slot 63 ends the merged state (R114, R200). -/
def clearSlot (i : Nat) (s : State) : State :=
  let s := (s.setShade i none).fsetb (staleFld i) false
  let s := { s with pix := { s.pix with peeks := upd (fun _ => {}) s.pix.peeks i } }
  if i = 63 then (s.fsetb R.PIX_SHADE_STATUS_MERGED false).fset R.PIX_SHADE_STATUS_MERGE_SURF 0 else s

/-- The content of a SHADE_CLEAR applied (R114). -/
def State.shadeClearApply (s : State) (d : Desc) : State := overList clearSlot (maskList 64 (d.arg 16 8)) s

end Sys2Proof.Machine
end

