-- ==== Sys2Proof/Machine/Geometry.lean ====
section
/-! DEFINITION. Where a tile's pixels lie on the canvas (R205, R206, R210), and the ceilings over them (R352). -/

namespace Sys2Proof.Machine

/-- Canvas position at which tile pixel (tc, tr) emits (R205). -/
def emitPos (b : Bind) (m : Member) (tc tr : Nat) : Nat × Nat :=
  let o : Nat × Nat := match b.rot with
    | 0 => (tc, tr)
    | 1 => (m.th - 1 - tr, tc)
    | 2 => (m.tw - 1 - tc, m.th - 1 - tr)
    | _ => (tr, m.tw - 1 - tc)
  let fw := if b.rot % 2 = 1 then m.th else m.tw
  (b.x0 + (if b.mirror then fw - 1 - o.1 else o.1), b.y0 + o.2)

/-- Tile pixel that emits at canvas (x, y) of its footprint: R205 inverted. -/
def tilePos (b : Bind) (m : Member) (x y : Nat) : Nat × Nat :=
  let fw := if b.rot % 2 = 1 then m.th else m.tw
  let ox := if b.mirror then fw - 1 - (x - b.x0) else x - b.x0
  let oy := y - b.y0
  match b.rot with
  | 0 => (ox, oy)
  | 1 => (oy, m.th - 1 - ox)
  | 2 => (m.tw - 1 - ox, m.th - 1 - oy)
  | _ => (m.tw - 1 - oy, ox)

/-- Zone of a tile pixel (R210). -/
def tileZone (m : Member) (tc tr : Nat) : Nat := tc / (m.tw / 4) + 4 * (tr / (m.th / 2))

/-- Tile rows that a phase carries (R206). -/
def phaseRows (m : Member) (p : Nat) : List Nat := (List.range (m.th / 8)).map fun i => p * (m.th / 8) + i

/-- The ceiling of each canvas position of a surface under a profile of one copy of the SPB, for a latched vertical offset (R352); 4,095 without an SPB. -/
def State.ceilingsOf (s : State) (spb : Option (List Byte)) (prof n : Nat) (av : Int) : Nat → Nat → Nat :=
  match spb with
  | none => fun _ _ => 4095
  | some b =>
    let p := spbProfile b prof
    let bands := profBands p
    let left := s.lampLeft
    let w := s.canvasW n
    let h := s.canvasH n
    fun x y => ceilingAt p bands left w h av x y

/-- The ceilings under the profile in force, as the Spillway's clamp takes them (R353). -/
def State.ceilingFn (s : State) (n : Nat) (av : Int) : Nat → Nat → Nat := s.ceilingsOf s.safe.spb (s.spill n).profile n av

/-- Sums of codes by zone of a tile. -/
def zoneSums (m : Member) (codes : List Nat) : List Nat :=
  (codes.zipIdx).foldl (fun l e => upd (· + e.1) l (tileZone m (e.2 % m.tw) (e.2 / m.tw))) (rep 8 0)

/-- The running surface of which a port is a member, and the member. -/
def State.memberOf (s : State) (p : Nat) : Option (Nat × Member) :=
  (List.range 4).findSome? fun n => ((s.gen n).members.find? fun m => m.port == p).map fun m => (n, m)

end Sys2Proof.Machine
end

