-- ==== Sys2Proof/Machine/Health.lean ====
section
/-! DEFINITION. The pixel health engine (chapter 10): baselines, the sweep and its PROBE, the judging of samples, suspects, declarations and their reactions, and the zone thermal map. -/

namespace Sys2Proof.Machine

/-- The health engine's state of a port, and a change of it. -/
def State.hl (s : State) (p : Nat) : Health := nth s.pix.health p
def State.setHl (s : State) (p : Nat) (f : Health → Health) : State :=
  { s with pix := { s.pix with health := upd f s.pix.health p } }

/-! ## What is monitored (R319, R320) -/

/-- Whether a port's lane is in ACTIVE, its downstream idle or not (R244). -/
def State.laneUp (s : State) (p : Nat) : Bool := s.portOn p && (s.lane p == laneActive || s.lane p == laneIdle)

/-- The conditions of R319 but for ownership of the tile. -/
def State.healthOpen (s : State) (p : Nat) : Bool :=
  s.domOn 3 && s.fbit R.PIX_HLT_CTRL_EN && s.fbit (R.PIX_HLT_PORT_CTRL_MON_EN p) && s.laneUp p && !s.legacy p && (s.memberOf p).isSome

/-- R319: the engine monitors the port. -/
def State.monitored (s : State) (p : Nat) : Bool := s.healthOpen p && s.owns p

/-- Whether the samples of a port are judged: it is monitored, or the COMPANION of a pair judges those of a tile that its LEAD owns (R339, R420). -/
def State.judges (s : State) (p : Nat) : Bool := s.healthOpen p && (s.owns p || s.isCompanion)

/-- Sweep slot of a scan cycle: the six low bits of s, reversed (R320). -/
def bitrev6 (v : Nat) : Nat := (List.range 6).foldl (fun r b => r + v / 2 ^ b % 2 * 2 ^ (5 - b)) 0

/-! ## Baselines (R324 to R327) -/

/-- The map of a port with a CAP record, as R324 sets it: header defaults and entries 0. A capture that was under way ends with the map that it was for (DESIGN CHOICE, log entry 156). -/
def State.resetBase (s : State) (p : Nat) (c : Cap) : State :=
  (s.setHl p fun h => { h with capRaw := c.raw, tw := c.tw, th := c.th, tCap := 400, tcQ8 := -131, ks := 0, probeDrop := 90, base := [], baseStaged := [], capture := none }).fsetb
    (R.PIX_HLT_PORT_STAT_BASE_LOADED p) false |>.fsetb (R.PIX_HLT_PORT_STAT_CAPTURING p) false

/-- A pixel's baseline entry, its VALID bit and BASE_Q2 (Table 10-2). -/
def Health.entry (h : Health) (i : Nat) : Nat := (regGet h.base i).toNat
def Health.valid (h : Health) (i : Nat) : Bool := bitOf (h.entry i) 14
def Health.baseQ2 (h : Health) (i : Nat) : Nat := h.entry i % 4096

/-- e_on − BASE_Q2 at a tile temperature and SCALE, in quarter codes (R325). -/
def Health.shift (h : Health) (t : Int) (scale : Nat) : Int :=
  divr (h.tcQ8 * (t - h.tCap) * 4) 4096 + divr (h.ks * ((scale : Int) - 32768) * 4) 32768

/-- The expected on-drive code in quarter codes (R325). -/
def Health.eOn (h : Health) (i : Nat) (t : Int) (scale : Nat) : Int := (h.baseQ2 i : Int) + h.shift t scale

/-- The centre of a code's bin in quarter codes (R325). -/
def binMid (code : Nat) : Int := 4 * (code : Int) + 2

/-- A word of a signed 16-bit field. -/
def s16le (v : Int) : List Byte := leBytes 2 (ofSigned 16 v)

/-- The 64-byte header of a baseline map (Table 10-1). -/
def Health.header (h : Health) : List Byte :=
  leBytes 2 h.tw ++ leBytes 2 h.th ++ s16le h.tCap ++ s16le h.tcQ8 ++ s16le h.ks ++ leBytes 2 h.probeDrop ++ rep 52 0

/-- The baseline map: header and one entry per pixel. -/
def Health.baseMap (h : Health) : List Byte :=
  h.header ++ (List.range (h.tw * h.th)).flatMap fun i => leBytes 2 (h.entry i)

/-- Entries from the bytes of a map that start at entry `i`. -/
def putEntries : Nat → List Byte → RegFile → RegFile
  | i, a :: b :: t, r => putEntries (i + 1) t (regPut r i (BitVec.ofNat 32 ((a.toNat + 256 * b.toNat) % 16384 % 4096 + (a.toNat + 256 * b.toNat) / 16384 % 2 * 16384)))
  | _, _, r => r

/-- One write of MAP_LOAD KIND 2 applied: a header where it starts at 0, entries after byte 64. -/
def Health.putBase (h : Health) (off : Nat) (b : List Byte) : Health :=
  let h := if off = 0 then
      let f (a : Nat) : Int := if a + 2 ≤ b.length then toSigned 16 (leAt b a 2) else 0
      { h with
        tCap := if 6 ≤ b.length then f 4 else h.tCap, tcQ8 := if 8 ≤ b.length then f 6 else h.tcQ8,
        ks := if 10 ≤ b.length then f 8 else h.ks, probeDrop := if 12 ≤ b.length then leAt b 10 2 else h.probeDrop }
    else h
  let body := if off = 0 then b.drop 64 else b
  let first := if off = 0 then 0 else (off - 64) / 2
  { h with base := putEntries first body h.base }

/-! ## The defect map (R343) -/

/-- The map with an entry in its place by ascending pixel index, in that of the pixel's own. -/
def putDefect : List Defect → Defect → List Defect
  | [], d => [d]
  | e :: t, d => if d.idx < e.idx then d :: e :: t else if d.idx = e.idx then d :: t else e :: putDefect t d

/-- Priority of a class: 1 is the highest (Table 10-3). -/
def clPrio (c : Nat) : Nat := nth [3, 2, 7, 6, 5, 4, 1, 8] c

/-- The map with a fault entered: an entry of the pixel stands where its priority is not lower (R332). -/
def addFault (ds : List Defect) (d : Defect) : List Defect :=
  match ds.find? fun e => e.idx == d.idx with
  | some e => if clPrio e.cls ≤ clPrio d.cls then ds else putDefect ds d
  | none => putDefect ds d

/-- A pixel's entry. -/
def Health.defect (h : Health) (i : Nat) : Option Defect := h.defects.find? fun d => d.idx == i

/-- The u32 of an entry, and an entry from it. -/
def Defect.word (d : Defect) : Nat := d.idx + d.cls * 2 ^ 17 + b2n d.fill * 2 ^ 20 + b2n d.isolated * 2 ^ 21
def defectOf (w : Nat) : Defect := { idx := w % 2 ^ 17, cls := bitsOf w 17 3, fill := bitOf w 20, isolated := bitOf w 21 }

/-- A port's defect map as R343 lays it out. -/
def Health.defectMap (h : Health) (tw th : Nat) : List Byte :=
  leBytes 4 h.defects.length ++ leBytes 2 tw ++ leBytes 2 th ++ rep 8 0 ++ h.defects.flatMap fun d => leBytes 4 d.word

/-- Whether a class carries FILL (R333). -/
def State.fills (s : State) (cls : Nat) : Bool := bitOf (s.fget R.PIX_HLT_LEAK_FILL_CLASSES) cls

/-- DEFECTS follows the map. -/
def State.showDefects (s : State) (p : Nat) : State := s.fset (R.PIX_HLT_PORT_STAT_DEFECTS p) (s.hl p).defects.length

/-- Column cell of a pixel of a tile: column, cell row (R292). -/
def cellOf (m : Member) (i : Nat) : Nat × Nat := (i % m.tw, i / m.tw % (m.th / 8))

/-- Whether a pixel lies in an isolated cell. -/
def Health.inIsolated (h : Health) (m : Member) (i : Nat) : Bool :=
  h.defects.any fun d => d.isolated && cellOf m d.idx == cellOf m i

/-! ## Records (Table 10-6) -/

/-- HLT TILE_HEALTH: kind and count. -/
def State.tileHealth (s : State) (p kind count : Nat) : State :=
  let n := match s.memberOf p with | some q => q.1 | none => 0
  s.health 4 (s.fget (R.TG_FRAME_FRAME_NUM n)) (u8 p ++ u8 kind ++ leBytes 4 count)

/-- Sample field of a history record: code and KIND. -/
def sampleField (code kind : Nat) : Nat := code % 1024 + kind % 4 * 1024

/-! ## The queue and the PROBE (R321, R322, R340) -/

/-- A pixel goes to the re-sample queue: not one of an isolated cell, nor one already in it; a full queue drops it (R322). -/
def State.queuePixel (s : State) (p : Nat) (m : Member) (i : Nat) : State :=
  let h := s.hl p
  if h.inIsolated m i || h.queue.contains i then s
  else if 512 ≤ h.queue.length then s.fadd R.PIX_HLT_COUNT_C_QUEUE_DROP 1
  else s.setHl p fun h => { h with queue := h.queue ++ [i] }

/-- Pixels of a tile in a sweep slot. -/
def sweepSet (m : Member) (sweep : Nat) : List Nat := (List.range ((m.tw * m.th - sweep + 63) / 64)).map fun k => sweep + 64 * k

/-- A pixel's code in a scan cycle's rows. -/
def codeIn (rows : List (List Nat)) (m : Member) (i : Nat) : Nat := nth (nth rows (i / m.tw)) (i % m.tw)

/-- The rows of a port in a list of produced codes. -/
def rowsOf (cs : List (Nat × List (List Nat))) (p : Nat) : List (List Nat) :=
  match cs.find? fun e => e.1 == p with | some e => e.2 | none => []

/-- A pixel's zone, and whether it lies under a ceiling (chapter 10, "Probe budget"). -/
def zoneOfIdx (m : Member) (i : Nat) : Nat := tileZone m (i % m.tw) (i / m.tw)
def State.underCeiling (s : State) (n : Nat) (m : Member) (av : Int) (i : Nat) : Bool :=
  let q := emitPos (s.bindOf m.port) m (i % m.tw) (i / m.tw)
  decide (s.ceilingFn n av q.1 q.2 < 4095)

/-- PROBE_UA as sent: not above the tile's PROBE_MAX_UA (Table 09-14). -/
def State.probeUa (s : State) (p : Nat) : Nat :=
  let v := s.fget (R.TILE_PROTO_CFG_PROBE_UA p)
  match (s.port p).cap with | some c => min v (leAt c.raw 20 2) | none => v

/-- The probe budget of the SPB in use, per zone and scan cycle in pC. -/
def State.probeBudget (s : State) : Nat := match s.safe.spb with | some b => spbProbeBudget b | none => 0

/-- Entries kept, in order, while their zones stay within a budget; `used` is the charge of each zone (R340 step 2). -/
def keepWithin (budget ua : Nat) (counts : Nat → Bool) (zone : Nat → Nat) : List Nat → List Nat → List Nat
  | [], _ => []
  | i :: t, used =>
    if !counts i then i :: keepWithin budget ua counts zone t used
    else if nth used (zone i) + ua ≤ budget then i :: keepWithin budget ua counts zone t (upd (· + ua) used (zone i))
    else keepWithin budget ua counts zone t used

/-- The PROBE of scan cycle `sd` for a monitored port: its entries, ALL_DARK, and the dark pixels deferred (R321, R340). A pixel counts as dark by its code of the previous scan cycle. -/
def State.planProbe (s : State) (n : Nat) (m : Member) (av : Int) (sweep : Nat) : List Nat × Bool × List Nat :=
  let p := m.port
  let h := s.hl p
  if h.probeStopped then ([], false, []) else
  let prev := rowsOf (s.px n).prev p
  let sus := (h.suspects.filter fun q => q.listed.isNone).map (·.idx)
  let all := (sus ++ h.queue.filter fun i => !sus.contains i).filter fun i => !h.inIsolated m i
  let es := all.take 128
  let counts (i : Nat) : Bool := codeIn prev m i == 0 && s.underCeiling n m av i
  let sw := sweepSet m sweep
  let ua := s.probeUa p
  let charge (z : Nat) : Nat := ua * ((((sw.filter fun i => !es.contains i) ++ es).filter fun i => zoneOfIdx m i == z && counts i).length)
  if (List.range 8).all fun z => decide (charge z ≤ s.probeBudget) then (es, true, [])
  else
    let kept := keepWithin s.probeBudget ua counts (zoneOfIdx m) es (rep 8 0)
    (kept, false, sw.filter fun i => codeIn prev m i == 0 && !kept.contains i)

/-- PROBE body (Table 09-9). -/
def probeBody (sd : Nat) (allDark : Bool) (es : List Nat) : List Byte :=
  u8 (sd % 16) ++ u8 (b2n allDark) ++ leBytes 2 es.length ++ es.flatMap fun i => leBytes 4 i

/-- The record of a scan cycle about to be sampled is opened; records older than 8 are forgotten. -/
def State.openRec (s : State) (p : Nat) (r : ScanRec) : State :=
  s.setHl p fun h => { h with recs := (r :: h.recs).take 8 }

/-- PROBE of scan cycle `sd`: planned, sent by the device that may send it, copied to the COMPANION, and recorded (R321, R340, R420). -/
def State.probePort (s : State) (n : Nat) (m : Member) (av : Int) (sd sQ lenQ : Nat) : State :=
  let p := m.port
  let sweep := bitrev6 (sd % 64)
  let r : ScanRec := { s := sd, sweep := sweep, sQ := sQ, lenQ := lenQ, scale := (s.port p).scale, av := av, probes := rep 8 0 }
  if !s.judges p then s
  else if s.isCompanion then s.openRec p r
  else
    let q := s.planProbe n m av sweep
    let sus := (s.hl p).suspects.map (·.idx)
    let listed := (q.1.filter fun i => !sus.contains i).length
    let s := s.fadd R.PIX_HLT_COUNT_B_RESAMPLES listed
    let s := s.setHl p fun h => { h with
      suspects := h.suspects.map fun u => if u.listed.isNone && q.1.contains u.idx then { u with listed := some sd, clean := false } else u,
      queue := h.queue.filter (fun i => !q.1.contains i),
      cnt := { h.cnt with listed := h.cnt.listed + listed, deferred := h.cnt.deferred + q.2.2.length } }
    let s := q.2.2.foldl (fun s i => s.queuePixel p m i) s
    let s := s.fadd (R.PIX_HLT_PORT_PROBE_DEFERRED p) q.2.2.length
    let body := probeBody sd q.2.1 q.1
    let s := if s.totHolds p || s.formFor p != .none then s else
      let s := s.sendNow p pktProbe body ((s.px n).prod.windowEnd 0)
      if s.isLead then s.sendTwin 0x46 (u8 p ++ [0, 0, 0] ++ body) else s
    s.openRec p { r with entries := q.1 }

/-- The commanded codes of a scan cycle are known: kept for the sweep set and the explicit entries; on a frame-memory tile the larger of the codes shown before and after the swap (chapter 10, "Judging a sample"). -/
def State.keepCodes (s : State) (m : Member) (sd : Nat) (rows : List (List Nat)) (swapped : Bool) : State :=
  let p := m.port
  let flat := rows.flatten
  s.setHl p fun h =>
    let x (i : Nat) : Nat :=
      let c := codeIn rows m i
      if m.frameMem then max (nth h.shown i) (if swapped then c else nth h.shown i) else c
    let fill (r : ScanRec) : ScanRec :=
      if r.s = sd then { r with codes := ((sweepSet m r.sweep) ++ r.entries).map fun i => (i, x i) } else r
    { h with recs := h.recs.map fill, shown := if m.frameMem && swapped then flat else h.shown }

/-- The code commanded at a pixel in a recorded scan cycle: as kept, or while the scan cycle is still being produced as produced so far; on a frame-memory tile the larger of it and what the tile shows (R328). -/
def State.commanded (s : State) (n : Nat) (m : Member) (r : ScanRec) (i : Nat) : Nat :=
  match r.codes.find? fun e => e.1 == i with
  | some e => e.2
  | none =>
    let c := if (s.px n).prod.dither = r.s then codeIn (rowsOf (s.px n).prod.codes m.port) m i else 0
    if m.frameMem then max (nth (s.hl m.port).shown i) c else c

/-- Age in scan cycles of the scan cycle that a HEALTH packet's SCAN and SWEEP name, counted from the one that runs: by the scan cycles recorded since its own, and where none of its own is left by SWEEP, which names s mod 64 (R320, R323). -/
def State.reportAge (s : State) (n p : Nat) (r : Option ScanRec) (body : List Byte) : Nat :=
  match r with
  | some r => ((s.hl p).recs.filter fun q => decide (r.sQ < q.sQ) && decide (q.sQ ≤ (s.gen n).sQ)).length
  | none =>
    let now := s.fget (R.TG_FRAME_FRAME_NUM n) * (s.gen n).frameN + (s.gen n).j
    (now + 64 - bitrev6 (leAt body 1 1 % 64)) % 64

/-! ## Judging (R328) -/

/-- Fault classes of Table 10-3. -/
def clOpen : Nat := 0
def clShort : Nat := 1
def clLowVf : Nat := 2
def clHighVf : Nat := 3
def clLeak : Nat := 4
def clThermal : Nat := 5
def clStuckOn : Nat := 6
def clIsolated : Nat := 7

/-- The limits of Table 10-5, in codes. -/
structure Bands where
  low : Nat
  high : Nat
  therm : Nat
  probe : Nat
  stuck : Nat
  openMin : Nat
  shortMax : Nat
  leakMin : Nat
deriving DecidableEq, Repr

/-- The limits in the registers. -/
def State.bands (s : State) : Bands :=
  { low := s.fget R.PIX_HLT_BAND_A_LOW_BAND, high := s.fget R.PIX_HLT_BAND_A_HIGH_BAND,
    therm := s.fget R.PIX_HLT_BAND_A_THERM_BAND, probe := s.fget R.PIX_HLT_BAND_A_PROBE_BAND,
    stuck := s.fget R.PIX_HLT_BAND_B_STUCK_BAND, openMin := s.fget R.PIX_HLT_LIMIT_OPEN_MIN,
    shortMax := s.fget R.PIX_HLT_LIMIT_SHORT_MAX, leakMin := s.fget R.PIX_HLT_LEAK_LEAK_MIN }

/-- The judgement of one sample (R328): KIND, commanded code, sample code, VALID, e_on; none where NONE. -/
def judge (b : Bands) (kind x code : Nat) (v : Bool) (eon drop : Int) : Option Nat :=
  let m := binMid code
  let hot := v && decide (-4 * (b.stuck : Int) ≤ m - eon)
  if kind = 3 then none
  else if kind = 0 ∧ x = 0 then some clStuckOn
  else if kind = 2 then
    (if x ≠ 0 then none else if hot then some clStuckOn else if b.leakMin ≤ code then some clLeak else none)
  else if kind = 1 ∧ x = 0 ∧ hot then some clStuckOn
  else if code ≤ b.shortMax then some clShort
  else if b.openMin ≤ code then some clOpen
  else if !v then none
  else
    let d := if kind = 0 then m - eon else m - (eon - 4 * drop)
    let lo := if kind = 0 then b.low else b.probe
    let hi := if kind = 0 then b.high else b.probe
    if kind = 0 ∧ d ≤ -4 * (b.therm : Int) then some clThermal
    else if d ≤ -4 * (lo : Int) then some clLowVf
    else if 4 * (hi : Int) ≤ d then some clHighVf
    else none

/-! ## Holds (R335, R336, R383) -/

/-- The safety pair holds a port's TILE_EN low for a fault at a pixel. -/
def State.holdTile (s : State) (p fault : Nat) (idx : Nat) : State :=
  let s := s.fset R.SAFE_TILE_HELD_PORTS (maskSet (s.fget R.SAFE_TILE_HELD_PORTS) p true)
  let s := if fault = 19 then s else s.fsetb (R.PIX_HLT_PORT_STAT_TILE_HELD p) true
  { s with safe := { s.safe with holds := s.safe.holds ++ [⟨p, fault, idx⟩] } }

/-- A SHORT on a line-scan tile counts as not isolated: TILE_EN held, fault 17 (R335). -/
def State.notIsolated (s : State) (p idx : Nat) : State :=
  (s.holdTile p 17 idx).raise 17 p idx

/-! ## Declarations (R332 to R338) -/

/-- Faults and suspects of the last 64 scan cycles (R337). -/
def Health.recent (h : Health) : Nat := h.marks.foldl (fun a e => if h.cyc - e.1 < 64 then a + e.2 else a) 0

/-- One more fault or suspect in this scan cycle. -/
def Health.mark (h : Health) : Health :=
  match h.marks with
  | (c, k) :: t => if c = h.cyc then { h with marks := (c, k + 1) :: t } else { h with marks := (h.cyc, 1) :: (c, k) :: t }
  | [] => { h with marks := [(h.cyc, 1)] }

/-- HLT PIXEL_FAULT (Table 10-6). -/
def State.pixelFault (s : State) (n : Nat) (m : Member) (cls act i sus conf : Nat) (eon temp : Int) : State :=
  let q := emitPos (s.bindOf m.port) m (i % m.tw) (i / m.tw)
  s.health 1 (s.fget (R.TG_FRAME_FRAME_NUM n))
    (u8 m.port ++ u8 cls ++ u8 act ++ [0] ++ leBytes 4 i ++ leBytes 2 q.1 ++ leBytes 2 q.2
      ++ leBytes 2 (8 * m.port + zoneOfIdx m i) ++ leBytes 2 sus ++ leBytes 2 conf ++ s16le eon ++ s16le temp)

/-- A record joins the health history, which keeps the last 1,024 (R345). -/
def State.addHistory (s : State) (r : List Byte) : State :=
  let l := s.pix.history ++ [r]
  { s with pix := { s.pix with history := l.drop (l.length - 1024) } }

/-- The LEAD sends DEFECT for a declaration, naming the next latch point (R332, R420). -/
def State.sendDefect (s : State) (n p act : Nat) (d : Defect) : State :=
  if s.isLead then
    s.sendTwin 0x45 (u8 p ++ u8 act ++ [0, 0] ++ leBytes 4 d.word ++ leBytes 4 (s.targetFrame n))
  else s

/-- A fault is declared: the reaction of its class, the defect map, the history, PIXEL_FAULT and the counts (R332 to R336, R338). The COMPANION keeps its own declarations in a shadow list (R420). -/
def State.declare (s : State) (n : Nat) (m : Member) (av : Int) (cls : Nat) (u : Suspect) (x conf : Nat) (eon temp : Int) : State :=
  let p := m.port
  let i := u.idx
  let d : Defect := { idx := i, cls := cls, fill := s.fills cls }
  let s := s.setHl p fun h => { h with suspects := h.suspects.filter fun q => q.idx != i }
  let told (h : Health) : Bool := ((h.lead.map Prod.snd) ++ h.defects).any fun e => e.idx == i && e.cls == cls
  if s.isCompanion then s.setHl p fun h => if told h then h else { h with shadow := h.shadow ++ [(d, 0)] } else
  let h := s.hl p
  let full := decide (8192 ≤ h.defects.length) && (h.defect i).isNone
  let maxIso := match (s.port p).cap with | some c => leAt c.raw 24 1 | none => 0
  let lineShort := cls == clShort && !m.frameMem
  let ask := lineShort && s.fbit R.PIX_HLT_CTRL_ISO_EN
  let notIso := lineShort && (!ask || bitOf (s.fget (R.TILE_REMOTE_C_ALERT p)) 5 || decide (maxIso ≤ s.fget (R.TILE_PROTO_STATUS_ISOLATED p)))
  let stuckHeld := cls == clStuckOn && u.x == 0 && x == 0 && s.underCeiling n m av i
  let held := notIso || stuckHeld
  let act := b2n d.fill + 2 * b2n ask + 4 * b2n held + 8 * b2n (s.fbit (R.PIX_HLT_PORT_STAT_MASS p)) + 16 * b2n full
  let s := s.setHl p fun h => Health.mark { h with
    defects := if full then h.defects else addFault h.defects d, cnt := { h.cnt with faults := h.cnt.faults + 1 } }
  let s := s.showDefects p
  let c := cellOf m i
  let s := if ask then (s.sendCtrl p ctrlIsolate (leBytes 2 c.1 ++ leBytes 2 c.2 ++ [0, 0])).setHl p
      fun h => { h with iso := h.iso ++ [⟨i, s.fget (R.TILE_PROTO_STATUS_ISOLATED p), notIso⟩] } else s
  let s := s.addHistory (leBytes 4 (s.fget (R.TG_FRAME_FRAME_NUM n)) ++ u8 p ++ u8 cls ++ u8 act ++ [0] ++ leBytes 4 i
    ++ leBytes 2 u.sample ++ leBytes 2 conf)
  let s := (s.pixelFault n m cls act i u.sample conf eon temp).fadd R.PIX_HLT_COUNT_A_FAULTS 1
  let s := s.sendDefect n p act d
  let s := if full then (s.fsetb (R.PIX_HLT_PORT_STAT_FULL p) true).tileHealth p 2 8192 else s
  if lineShort then (if notIso then s.notIsolated p i else s)
  else if stuckHeld then (s.holdTile p 18 i).raise 18 p i
  else s.raise 16 p i

/-- One isolation is confirmed: the SHORT entry and the other pixels of its cell take ISOLATED (R334). -/
def State.isolated (s : State) (n : Nat) (m : Member) (q : IsoReq) : State :=
  let p := m.port
  let c := cellOf m q.idx
  let cell := (List.range 8).map fun k => (c.2 + k * (m.th / 8)) * m.tw + c.1
  let put (ds : List Defect) (i : Nat) : List Defect :=
    if i = q.idx then (match ds.find? fun d => d.idx == i with
      | some d => putDefect ds { d with isolated := true }
      | none => ds)
    else if (ds.any fun d => d.idx == i) || ds.length < 8192 then
      putDefect ds { idx := i, cls := clIsolated, fill := s.fills clIsolated, isolated := true }
    else ds
  let s := (s.setHl p fun h => { h with defects := cell.foldl put h.defects }).showDefects p
  let s := if q.failed then s else s.raise 16 p q.idx
  cell.foldl (fun s i => match (s.hl p).defect i with | some d => s.sendDefect n p 0 d | none => s) s

/-- An isolation that was asked for fails: the SHORT counts as not isolated, once (R335). -/
def State.isolationFails (s : State) (p : Nat) (q : IsoReq) : State := if q.failed then s else s.notIsolated p q.idx

/-- A STATUS is read for the isolations asked for: ALERT[5] fails them all; ISOLATED raised by some confirms as many, in the order in which they were asked for (R334, R335). -/
def State.isolationStatus (s : State) (p : Nat) : State :=
  match (s.hl p).iso, s.memberOf p with
  | q :: t, some (n, m) =>
    let now := s.fget (R.TILE_PROTO_STATUS_ISOLATED p)
    if bitOf (s.fget (R.TILE_REMOTE_C_ALERT p)) 5 then
      (q :: t).foldl (fun s q => s.isolationFails p q) (s.setHl p fun h => { h with iso := [] })
    else if q.was < now then
      let k := now - q.was
      let s := s.setHl p fun h => { h with iso := (h.iso.drop k).map fun r => { r with was := now } }
      ((q :: t).take k).foldl (fun s q => s.isolated n m q) s
    else s
  | _, _ => s

/-- An isolation is not confirmed within 5 ms (R335). -/
def xIsolationTimeout (p : Nat) (s : State) : State :=
  match (s.hl p).iso with
  | q :: _ => (s.isolationFails p q).setHl p fun h => { h with iso := h.iso.drop 1 }
  | [] => s

/-! ## Samples (R322, R323, R326, R327, R329, R342, R344) -/

/-- A confirming result: the suspect, the class, the commanded code, the sample field and e_on. -/
structure Confirm where
  sus : Suspect
  cls : Nat
  x : Nat
  field : Nat
  eon : Int
deriving DecidableEq, Repr

/-- Of two results of one pixel the class of higher priority stands (R329). -/
def addConfirm : List Confirm → Confirm → List Confirm
  | [], c => [c]
  | e :: t, c => if e.sus.idx = c.sus.idx then (if clPrio c.cls < clPrio e.cls then c :: t else e :: t) else e :: addConfirm t c

/-- A pixel's samples in a capture: its number and sum with one more, up to four. -/
def addCapture : List (Nat × Nat × Int) → Nat → Int → List (Nat × Nat × Int)
  | [], i, v => [(i, 1, v)]
  | (j, n, a) :: t, i, v => if j = i then (if n < 4 then (j, n + 1, a + v) :: t else (j, n, a) :: t) else (j, n, a) :: addCapture t i v

/-- A baseline moved by one quarter code towards a value (R327). -/
def trackTo (b : Nat) (target : Int) : Nat := if (b : Int) < target then min 4095 (b + 1) else if target < (b : Int) then b - 1 else b

/-- One sample of a HEALTH packet of a port whose samples are judged: accepted or discarded, judged, and turned into a suspect or a confirming result. -/
def State.healthSample (_s : State) (n : Nat) (m : Member) (r : Option ScanRec) (late : Bool) (temp : Int) (acc : State × List Confirm) (w : Nat) :
    State × List Confirm :=
  let (s, cs) := acc
  let p := m.port
  let i := w % 2 ^ 17
  let code := bitsOf w 17 10
  let kind := bitsOf w 27 2
  match r with
  | none => (((if late then s.fadd R.PIX_HLT_COUNT_C_LATE_HEALTH 1 else s)).fadd R.PIX_HLT_COUNT_B_DISCARDED 1, cs)
  | some r =>
    if late then ((s.fadd R.PIX_HLT_COUNT_C_LATE_HEALTH 1).fadd R.PIX_HLT_COUNT_B_DISCARDED 1, cs)
    else if m.tw * m.th ≤ i || !(i % 64 == r.sweep || r.entries.contains i) then (s.fadd R.PIX_HLT_COUNT_B_DISCARDED 1, cs)
    else if kind = 3 then (s.setHl p fun h => { h with cnt := { h.cnt with kind3 := h.cnt.kind3 + 1 } }, cs)
    else
      let h := s.hl p
      let x := s.commanded n m r i
      let v := h.valid i
      let eon := h.eOn i temp r.scale
      let mid := binMid code
      let raw := judge s.bands kind x code v eon (h.probeDrop : Int)
      let res := if h.capture.isSome then (if raw == some clOpen || raw == some clShort then raw else none) else raw
      let field := sampleField code kind
      let clear := (h.defect i).isNone
      let s := s.setHl p fun h => { h with
        fv := regPut h.fv i (BitVec.ofNat 32 (Nat.xor (field + r.s % 16 * 4096) 0xFFFF)),
        recs := h.recs.map fun q => if q.s = r.s then { q with sampled := i :: q.sampled } else q,
        cnt := { h.cnt with accepted := h.cnt.accepted + 1 } }
      let s := if kind = 0 && i % 64 == r.sweep && raw != some clOpen && raw != some clShort then
          s.setHl p fun h => { h with capture := h.capture.map fun c => { c with acc := addCapture c.acc i (mid - h.shift temp r.scale) } }
        else s
      let near := decide (absNat (mid - eon) ≤ 4 * s.fget R.PIX_HLT_BAND_B_TRACK_WIN)
      let turn := r.s / 64 % max 1 (s.fget R.PIX_HLT_CTRL_TRACK_DIV) == 0
      let s := if s.fbit R.PIX_HLT_CTRL_TRACK_EN && kind == 0 && res.isNone && v && clear && near && turn then
          s.setHl p fun h => { h with base := regPut h.base i (BitVec.ofNat 32 (16384 + trackTo (h.baseQ2 i) (mid - h.shift temp r.scale))) }
        else s
      let z := zoneOfIdx m i
      let s := if kind == 0 && res.isNone && v && clear then
          s.setHl p fun h => { h with zsum := upd (fun e => (e.1 + (mid - eon), e.2 + 1)) h.zsum z, temp := temp }
        else s
      match h.suspects.find? fun q => q.idx == i with
      | some q =>
        if q.listed == some r.s then
          match res with
          | some c => (s, addConfirm cs { sus := q, cls := c, x := x, field := field, eon := eon })
          | none => (s.setHl p fun h => { h with suspects := h.suspects.map fun u => if u.idx = i then { u with clean := true } else u }, cs)
        else (s, cs)
      | none =>
        match res with
        | none => (s, cs)
        | some c =>
          let stronger := match h.defect i with | some d => decide (clPrio d.cls ≤ clPrio c) | none => false
          if stronger then (s, cs)
          else (s.setHl p fun h => Health.mark { h with
            suspects := h.suspects ++ [{ idx := i, x := x, sample := field }],
            cnt := { h.cnt with suspects := h.cnt.suspects + 1 } }, cs)

/-- End of the sampling window of a packet (R330): with on-drive or off-state samples of a line-scan tile, the end of their last row's on-interval; else 1 µs before the scan cycle ends. -/
def State.windowEndQ (s : State) (n : Nat) (m : Member) (r : ScanRec) (ws : List Nat) : Nat :=
  let g := (s.gen n).grid
  let row := ws.filter fun w => bitsOf w 27 2 != 1
  if m.frameMem || row.length != ws.length then r.sQ + r.lenQ - 1000 * 2 ^ 32
  else
    let ph := row.foldl (fun a w => max a (w % 2 ^ 17 / m.tw / (m.th / 8))) 0
    r.sQ + ph * g.phaseQ r.lenQ + g.pcQ + s.fget (R.TG_PORTMAP_B_STAGGER m.port) * 20 * 2 ^ 32 + g.tonLenQ r.lenQ

/-- The words of a HEALTH body (Table 09-10). -/
def healthWords (body : List Byte) : List Nat := (List.range (leAt body 2 2)).map fun k => leAt body (8 + 4 * k) 4

/-- The KIND 1 samples of pixels under ceilings that a packet reports, counted in the record of their scan cycle, discarded ones too (R341). -/
def State.countProbes (s : State) (n : Nat) (m : Member) (r : ScanRec) (ws : List Nat) : State :=
  let hot := (ws.filter fun w => bitsOf w 27 2 == 1 && decide (w % 2 ^ 17 < m.tw * m.th) && s.underCeiling n m r.av (w % 2 ^ 17)).map fun w => zoneOfIdx m (w % 2 ^ 17)
  s.setHl m.port fun h => { h with recs := h.recs.map fun q => if q.s = r.s then { q with probes := hot.foldl (fun l z => upd (· + 1) l z) q.probes } else q }

/-- Faults and suspects of the last 64 scan cycles have reached MASS_N: MASS, TILE_HEALTH kind 0, fault 19 and the port held for the pixel found last (R337, R383). -/
def State.massCheck (s : State) (p px : Nat) : State :=
  let k := (s.hl p).recent
  if s.monitored p && !s.fbit (R.PIX_HLT_PORT_STAT_MASS p) && decide (max 1 (s.fget R.PIX_HLT_MASS_MASS_N) ≤ k) then
    let s := (s.fsetb (R.PIX_HLT_PORT_STAT_MASS p) true).tileHealth p 0 k
    (s.holdTile p 19 px).raise 19 p k
  else s

/-- One confirming result: a declaration, or under MASS the pixel stays a suspect to be listed again (R329, R337). -/
def State.confirmOne (n : Nat) (m : Member) (temp : Int) (s : State) (c : Confirm) : State :=
  let p := m.port
  if s.fbit (R.PIX_HLT_PORT_STAT_MASS p) then
    s.setHl p fun h => { h with suspects := h.suspects.map fun u => if c.sus.idx == u.idx then { u with listed := none } else u }
  else (s.declare n m (s.px n).prod.av c.cls c.sus c.x c.field c.eon temp).massCheck p c.sus.idx

/-- A HEALTH packet of a port whose samples are judged is accepted: its samples, its report delay, and an end to a stall (R323, R328, R330, R339). -/
def State.healthPacket (s : State) (p : Nat) (body : List Byte) : State :=
  match s.memberOf p with
  | none => s
  | some (n, m) =>
    let h := s.hl p
    let temp := toSigned 16 (leAt body 4 2)
    let r := h.recs.find? fun q => q.s % 16 == leAt body 0 1 % 16 && q.sweep == leAt body 1 1
    let age := s.reportAge n p r body
    let late := decide (3 < age) && decide (age < 63)
    let ws := healthWords body
    let s := match r with | some q => s.countProbes n m q ws | none => s
    let s := s.setHl p fun h => { h with
      quiet := 0,
      tCap := if (h.capture.map (·.tempSet)) == some false then temp else h.tCap,
      capture := h.capture.map fun c => { c with tempSet := true } }
    let s := s.fsetb (R.PIX_HLT_PORT_STAT_STALL p) false
    let s := if (List.range 24).any fun q => s.fbit (R.PIX_HLT_PORT_STAT_STALL q) then s else s.clearFault 20
    let s := match r with
      | none => s
      | some q =>
        let us := min 65535 ((s.clkQ - s.windowEndQ n m q ws) / (1000 * 2 ^ 32))
        let s := (s.fset (R.PIX_HLT_PORT_RPT_LAST_US p) us).fset (R.PIX_HLT_PORT_RPT_MAX_US p) (max us (s.fget (R.PIX_HLT_PORT_RPT_MAX_US p)))
        s.setHl p fun h => { h with cnt := { h.cnt with maxUs := max h.cnt.maxUs us } }
    let (s, cs) := ws.foldl (fun acc w => acc.1.healthSample n m r late temp acc w) (s, [])
    let s := s.massCheck p (((s.hl p).suspects.getLast?.map (·.idx)).getD 0)
    cs.foldl (State.confirmOne n m temp) s

/-- Samples of a scan cycle are past their deadline (R322): pixels without one are queued, clean suspects are cleared, and the rest are listed again (R329). -/
def xSampleDeadline (p scan : Nat) (s : State) : State :=
  match s.memberOf p, (s.hl p).recs.find? fun q => !q.closed && q.s % 16 == scan with
  | some (_, m), some r =>
    if !s.judges p then s else
    let miss := (((sweepSet m r.sweep).filter fun i => !r.entries.contains i) ++ r.entries).filter fun i => !r.sampled.contains i
    let gone := ((s.hl p).suspects.filter fun u => u.listed == some r.s && u.clean).length
    let s := s.fadd R.PIX_HLT_COUNT_A_SUSPECT_CLEARED gone
    let s := s.setHl p fun h => { h with
      recs := h.recs.map (fun q => if q.s = r.s then { q with closed := true } else q),
      suspects := (h.suspects.filter fun u => !(u.listed == some r.s && u.clean)).map fun u => if u.listed == some r.s then { u with listed := none } else u,
      cnt := { h.cnt with cleared := h.cnt.cleared + gone } }
    miss.foldl (fun s i => s.queuePixel p m i) s
  | _, _ => s

/-! ## Port-wide rules (R326, R337, R339) -/

/-- MASS_FAULT: the count of R337 stands at MASS_N or above, also where MASS_N has been lowered since the last report. -/
def xMassFault (p : Nat) (s : State) : State := s.massCheck p (((s.hl p).suspects.getLast?.map (·.idx)).getD 0)

/-- MASS clears: the port enters ACTIVE, or MON_EN is written (R337). What had set it counts no more. -/
def State.clearMass (s : State) (p : Nat) : State :=
  if s.fbit (R.PIX_HLT_PORT_STAT_MASS p) then (s.fsetb (R.PIX_HLT_PORT_STAT_MASS p) false).setHl p fun h => { h with marks := [] } else s

/-- No HEALTH packet for STALL_SC scan cycles (R339). -/
def xHealthStall (p : Nat) (s : State) : State :=
  let q := (s.hl p).quiet
  if s.monitored p && !s.fbit (R.PIX_HLT_PORT_STAT_STALL p) && decide (max 2 (s.fget R.PIX_HLT_CTRL_STALL_SC) ≤ q) then
    ((s.fsetb (R.PIX_HLT_PORT_STAT_STALL p) true).tileHealth p 1 q).raise 20 p q
  else s

/-- A write of 1 to CAPTURE (R326). -/
def xBaselineCapture (p : Nat) (s : State) : State :=
  if !s.monitored p || (s.hl p).capture.isSome then s
  else (s.setHl p fun h => { h with capture := some {} }).fsetb (R.PIX_HLT_PORT_STAT_CAPTURING p) true

/-- The baseline of a captured pixel: the mean of four, rounded to the nearest. -/
def captureBase (acc : List (Nat × Nat × Int)) : RegFile :=
  acc.foldl (fun r e => if e.2.1 = 4 then regPut r e.1 (BitVec.ofNat 32 (16384 + (clampInt 0 4095 (divr e.2.2 4)).toNat)) else r) []

/-- A capture of 256 scan cycles ends: baselines set, BASE_LOADED, TILE_HEALTH kind 4 with the number valid (R326). -/
def xBaselineCaptureDone (p : Nat) (s : State) : State :=
  match (s.hl p).capture with
  | none => s
  | some c =>
    if c.cycles < 256 then s else
    let b := captureBase c.acc
    let s := (s.setHl p fun h => { h with base := b, capture := none }).fsetb (R.PIX_HLT_PORT_STAT_CAPTURING p) false
    (s.fsetb (R.PIX_HLT_PORT_STAT_BASE_LOADED p) true).tileHealth p 4 b.length

/-! ## Once a scan cycle (R339, R342, R346, R128) -/

/-- A zone's thermal entry after a scan cycle: updated from at least 8 samples where TC_Q8 is not 0, else older by one (R342). -/
def thermStep (tc : Int) (temp : Int) (acc : Int × Nat) (z : ZoneTherm) : ZoneTherm :=
  if 8 ≤ acc.2 ∧ tc ≠ 0 then
    let num := acc.1 * 1024
    let den := (acc.2 : Int) * tc
    let new := temp + (if den < 0 then divr (-num) (-den).toNat else divr num den.toNat)
    { z with temp := if z.age.isNone then new else z.temp + divr (new - z.temp) 4, age := some 0 }
  else { z with age := z.age.map fun a => min 255 (a + 1) }

/-- Zone temperatures of a monitored port at a scan cycle's end (R342). -/
def State.thermPort (s : State) (p : Nat) : State :=
  let h := s.hl p
  let mon := s.monitored p
  let s := overAll 8 (fun z s => s.setZone (8 * p + z) (thermStep h.tcQ8 h.temp (if mon then nth h.zsum z else (0, 0)))) s
  s.setHl p fun h => { h with zsum := rep 8 (0, 0) }

/-- HLT SWEEP_DONE and THERMAL_ZONES at each 64th scan cycle (R346). -/
def State.sweepReports (s : State) (n p : Nat) : State :=
  let c := (s.hl p).cnt
  let fr := s.fget (R.TG_FRAME_FRAME_NUM n)
  let w (v : Nat) : List Byte := leBytes 2 (min v 65535)
  let s := if s.fbit R.PIX_HLT_CTRL_SWEEP_RPT then
      s.health 2 fr (u8 p ++ [0] ++ leBytes 4 c.accepted ++ w c.suspects ++ w c.cleared ++ w c.listed ++ w c.kind3 ++ w c.faults ++ w c.maxUs ++ w c.deferred)
    else s
  let zs := (List.range 8).map fun z => s.zone (8 * p + z)
  let s := if s.fbit R.PIX_HLT_CTRL_THERM_RPT then
      s.health 3 fr (u8 p ++ [0] ++ zs.flatMap (fun z => s16le z.temp) ++ zs.flatMap fun z => u8 (z.age.getD 255))
    else s
  s.setHl p fun h => { h with cnt := {} }

/-- Maps staged by MAP_LOAD KIND 1 and 2 become current (Table 04-11). -/
def State.mapsCurrent (s : State) (p : Nat) : State :=
  let h := s.hl p
  let s := match h.staged with
    | some ds => (s.setHl p fun (q : Health) => { q with defects := ds, staged := none }).showDefects p
    | none => s
  if h.baseStaged.isEmpty then s
  else
    let new : Health := h.baseStaged.foldl (fun (q : Health) (e : Nat × List Byte) => q.putBase e.1 e.2) h
    (s.setHl p fun q => { q with base := new.base, tCap := new.tCap, tcQ8 := new.tcQ8, ks := new.ks, probeDrop := new.probeDrop, baseStaged := [] }).fsetb
      (R.PIX_HLT_PORT_STAT_BASE_LOADED p) true

/-- A shadow declaration that no DEFECT matches within 128 scan cycles counts in HEALTH_DIFF (R420); the event is TWIN_EVENT HEALTH_DIFF. -/
def State.ageShadow (s : State) (p : Nat) : State :=
  let aged := (s.hl p).shadow.map fun e => (e.1, e.2 + 1)
  let s := s.setHl p fun h => { h with shadow := aged.filter fun e => decide (e.2 < 128) }
  (aged.filter fun e => decide (128 ≤ e.2)).foldl (fun s _ => (s.fadd R.TWIN_CNT_D_HEALTH_DIFF 1).twinEvent 0x0C 0 0) s

/-- What the health engine does for a member port at an S-tick of its surface. -/
def State.healthTick (s : State) (n sd : Nat) (p : Nat) : State :=
  let s := (s.thermPort p).ageShadow p
  let mon := s.monitored p
  let s := s.setHl p fun h => { h with
    cyc := h.cyc + 1, quiet := if mon then h.quiet + 1 else 0, marks := h.marks.take 65,
    capture := h.capture.map fun c => { c with cycles := c.cycles + 1 } }
  if sd % 64 = 0 then s.sweepReports n p else s

/-! ## Release of a held port (R383) -/

/-- One hold is released where the defect map no longer holds its pixel, and for fault 19 MASS is clear also (R383). -/
def State.holdOver (s : State) (h : TileHold) : Bool :=
  ((s.hl h.port).defect h.px).isNone && !(h.fault == 19 && s.fbit (R.PIX_HLT_PORT_STAT_MASS h.port))

/-- A port is released where every one of its holds may end. -/
def releasePort (p : Nat) (s : State) : State :=
  let mine := s.safe.holds.filter fun h => h.port == p
  if mine.isEmpty || !(mine.all s.holdOver) then s
  else
    let s := { s with safe := { s.safe with holds := s.safe.holds.filter fun h => h.port != p } }
    let s := s.fset R.SAFE_TILE_HELD_PORTS (maskSet (s.fget R.SAFE_TILE_HELD_PORTS) p false)
    let s := s.fsetb (R.PIX_HLT_PORT_STAT_TILE_HELD p) false
    [17, 18, 19].foldl (fun s f => if s.safe.holds.any fun h => h.fault == f then s else s.clearFault f) s

/-- A write of SAFE_TILE_RELEASE in a commissioning session (R383). -/
def xTileRelease (v : Nat) (s : State) : State :=
  if s.safe.session then overList releasePort (maskList 24 v) s else s

end Sys2Proof.Machine
end

