-- ==== Sys2Proof/Machine/ScanOut.lean ====
section
/-! DEFINITION. Scan-out (chapter 7) and the Spillway (R352 to R361): the scan cycle to come, its latches, the codes of one phase, its line packets, zone accounting, aim checks and emitted signatures. -/

namespace Sys2Proof.Machine

/-! ## The scan cycle to come (R38, R40, R59 to R61) -/

/-- Whether a generator has a scan cycle to come: running or with a start pending, and not stopped by the F-tick ahead (R44). -/
def State.scanAhead (s : State) (n : Nat) : Bool :=
  let q := s.gen n
  (s.running n && !(q.stopPend && q.advance.1)) || q.startF.isSome

/-- Frame number of the scan cycle to come. -/
def State.aheadFrame (s : State) (n : Nat) : Nat :=
  let q := s.gen n
  match q.startF with
  | some k => k % 2 ^ 32
  | none => let f := s.fget (R.TG_FRAME_FRAME_NUM n); if q.advance.1 then (f + 1) % 2 ^ 32 else f

/-! ## Emission times (R185, R447, R448) -/

/-- E_port in ns: EMIT_LAT_NS of the CAP record plus TRIM_NS; TRIM_NS alone on a legacy port. -/
def State.emitOffset (s : State) (p : Nat) : Int :=
  let lat := if s.legacy p then 0 else match (s.port p).cap with | some c => leAt c.raw 16 2 | none => 0
  (lat : Int) + s.fint (R.TILE_TIME_CFG_TRIM_NS p)

/-- Emission time in ns of phase `ph` of the scan cycle latched, on a member port (Table 06-2). Fractions of a ns are dropped (DEDUCED, log entry 111). -/
def State.emission (s : State) (c : Prod) (m : Member) (ph : Nat) : Nat :=
  let g := c.grid
  let q := if m.frameMem then c.sQ + c.lenQ - 4000 * 2 ^ 32 + g.tsQ / 2
    else c.sQ + ph * g.phaseQ c.lenQ + g.pcQ + s.fget (R.TG_PORTMAP_B_STAGGER m.port) * 20 * 2 ^ 32 + g.tonLenQ c.lenQ / 2
  ((q / 2 ^ 32 : Nat) + s.emitOffset m.port).toNat

/-! ## One pixel (R207, R211, R216, R217, R353, R354) -/

/-- The output frame at an offset position; 0 outside the canvas or without a frame (R207). -/
def fetchAt (pic : Option Picture) (x y : Nat) (av ah : Int) : Nat :=
  match pic with
  | none => 0
  | some p =>
    let u := (x : Int) - ah
    let v := (y : Int) - av
    if u < 0 ∨ v < 0 then 0 else pixelOf p u.toNat v.toNat

/-- The derating stage (R211). -/
def derate (v k : Nat) : Nat := (v * k + 0x8000) / 65536

/-- The Spillway stage (R353). -/
def spillway (v2 q c : Nat) : Nat := min (v2 * q / 65536) (16 * c)

/-- Bayer matrix of R216, row by row. -/
def bayer : List Nat := [0, 8, 2, 10, 12, 4, 14, 6, 3, 11, 1, 9, 15, 7, 13, 5]

/-- Dither value of the pixel emitting at (x, y) for dither index `sd` (R216). -/
def ditherAt (en : Bool) (sd x y : Nat) : Nat :=
  if en then nth bayer ((y + sd / 4 % 4) % 4 * 4 + (x + sd % 4) % 4) else 8

/-- The encoder (R217). -/
def encodeCode (w d : Nat) : Nat := min 4095 ((w + d) / 16)

/-- The output comparator: a code above its ceiling becomes 0 (R354). Its ceiling comes from a copy of its own. -/
def compareOut (c code : Nat) : Nat := if c < code then 0 else code

/-- What one phase of one tile is produced with. -/
structure LaneCtx where
  prod : Prod
  bind : Bind
  member : Member
  shades : List (Shade × Ext)
  shadeOn : Bool
  /-- The Spillway passes values at all: an SPB, no failed aim check, not STANDBY. -/
  light : Bool
  ditherOn : Bool
  /-- Latched factor and clamp scale of each zone of the tile. -/
  factors : List Nat
  scales : List Nat

/-- The code of tile pixel (tc, tr) before the output comparator, under the ceilings of the clamp, with the comparator's own ceiling. -/
def LaneCtx.pixel (l : LaneCtx) (ceil second : Nat → Nat → Nat) (tc tr : Nat) : Nat × Nat :=
  let q := emitPos l.bind l.member tc tr
  let z := tileZone l.member tc tr
  let v := fetchAt l.prod.picture q.1 q.2 l.prod.av l.prod.ah
  let v1 := shadeStage v (shadeFactorAll l.shades l.shadeOn q.1 q.2)
  let v2 := derate v1 (nth l.factors z)
  let w := if l.light then spillway v2 (nth l.scales z) (ceil q.1 q.2) else 0
  (encodeCode w (ditherAt l.ditherOn l.prod.dither q.1 q.2), second q.1 q.2)

/-- The codes of one tile row, and whether the comparator replaced one. A point that the spec leaves open here: DESIGN CHOICE, log entry 148. -/
def LaneCtx.row (l : LaneCtx) (ceil second : Nat → Nat → Nat) (tr : Nat) : List Nat × Bool :=
  let ps := (List.range l.member.tw).map fun tc => l.pixel ceil second tc tr
  (ps.map fun e => compareOut e.2 e.1, ps.any fun e => decide (e.2 < e.1))

/-! ## Line packets (R242, R281, R315, Table 09-8) -/

/-- Downstream rate in force in Mbit/s. -/
def State.dnMbps (s : State) (p : Nat) : Nat := if s.legacy p then 2500 else rateMbps (s.fget (R.TILE_LANE_STATUS_DN_RATE p))

/-- Whether pixel data goes to a member tile at all: its lane in ACTIVE and open since a phase-0 window, owned or legacy, not held by Totality, no safe state served, not a COMPANION (R242, R281, R315, R378, R421). -/
def State.dataGoes (s : State) (p : Nat) : Bool :=
  s.laneUp p && (s.port p).dataOpen && (s.owns p || s.legacy p) && !s.totHolds p && s.formFor p == .none && !s.isCompanion

/-- PHASE_DATA body (Table 09-8). -/
def phaseDataBody (tr sd ph tw frame : Nat) (codes : List Nat) : List Byte :=
  leBytes 2 tr ++ u8 (sd % 16 + ph * 16) ++ leBytes 2 tw ++ leBytes 2 frame ++ pack12 codes

/-- One tile's rows of a phase: produced, kept, and sent where data goes to the tile (R206). -/
def State.tilePhase (s : State) (n ph : Nat) (m : Member) : State :=
  let c := (s.px n).prod
  let p := m.port
  let zs := (List.range 8).map fun z => 8 * p + z
  let spill := s.spill n
  let l : LaneCtx := {
    prod := c, bind := s.bindOf p, member := m, shades := s.shadesAt n (s.emission c m ph),
    shadeOn := bitOf (s.inForce R.PIX_SHADE_CTRL_SURF_EN) n,
    light := s.safe.spb.isSome && !spill.zeroed && !c.dark, ditherOn := bitOf (s.inForce R.PIX_OUT_CTRL_DITHER_EN) n,
    factors := zs.map fun z => (s.zone z).latched, scales := zs.map fun z => (nth s.safe.zones z).q }
  let ceil := s.ceilingFn n c.av
  let second := s.ceilingsOf s.safe.ceilCopy spill.profile n c.av
  let rows := (phaseRows m ph).map fun tr => (tr, l.row ceil second tr)
  let codes := rows.map fun r => r.2.1
  let above := rows.any fun r => r.2.2
  let old := rowsOf c.codes p
  let s := s.setPx n fun x => { x with prod := { x.prod with codes := (x.prod.codes.filter fun e => e.1 != p) ++ [(p, old ++ codes)] } }
  let sums := rows.foldl (fun (a : List Nat) r => r.2.1.zipIdx.foldl (fun a e => upd (· + e.1) a (tileZone m e.2 r.1)) a) (rep 8 0)
  let s := if s.safe.spb.isNone then s else
    { s with safe := { s.safe with zones := (List.range 8).foldl (fun l z => upd (fun q => { q with sum := q.sum + nth sums z }) l (8 * p + z)) s.safe.zones } }
  let s := if s.dataGoes p then
      if laneOk m (s.dnMbps p) c.grid then
        rows.foldl (fun s r => s.sendNow p pktPhaseData (phaseDataBody r.1 c.dither ph m.tw c.frame r.2.1) (c.windowEnd ph)) s
      else if (s.port p).rateTold then s
      else (s.setPort p fun q => { q with rateTold := true }).linkEvent p 6
        (s.fget (R.TILE_LANE_STATUS_DN_RATE p) + 4 * s.fget (R.TILE_LANE_STATUS_UP_RATE p))
    else s
  if above then s.raise 3 n 0 else s

/-! ## TIME (R285, R320, Table 09-6) -/

/-- TIME body for a tick. -/
def timeBody (tQ frame scan sweep : Nat) (holdover : Bool) : List Byte :=
  let ns := tQ / 2 ^ 32
  leBytes 6 (ns / 1000000000) ++ leBytes 4 (ns % 1000000000) ++ leBytes 4 frame ++ u8 scan ++ u8 sweep ++ u8 (b2n holdover) ++ [0, 0, 0]

/-- Whether TIME and markers of a surface go to a port: bound to it, and LINKED, ACTIVE or IDLE. -/
def State.tickPort (s : State) (n p : Nat) : Bool := s.boundTo p == some n && s.canSend p

/-- TIME names the S-tick of the scan cycle to come on every port of the surface. -/
def State.timePorts (s : State) (n : Nat) (c : Prod) : State :=
  let body := timeBody c.sQ c.frame (c.dither % 16 + c.j % 8 * 16) (bitrev6 (c.dither % 64)) (s.clkState != clkSynced)
  overList (fun p s => (s.sendNow p pktTime body 0).setPort p fun q => { q with timed := true }) ((List.range 24).filter (s.tickPort n)) s

/-! ## Aim checks (R359 to R361) -/

/-- Distance of an offset from a range. -/
def rangeDist (lo hi v : Int) : Nat := if v < lo then (lo - v).toNat else if hi < v then (v - hi).toNat else 0

/-- One axis at a latch: whether its range check passes, and its return (R359, R360). -/
def axisCheck (lo hi v : Int) (r : Returning) : Bool × Returning :=
  let d := rangeDist lo hi v
  if d = 0 then (true, {})
  else if r.active && decide (d ≤ r.dist) && decide (1 < r.left) then (true, { active := true, dist := d, left := r.left - 1 })
  else (false, {})

/-- The return of one axis at the latch of a new profile: N latches to come (R360). -/
def startReturn (lo hi v : Int) (rate hz : Nat) (moved : Bool) : Returning :=
  let d := rangeDist lo hi v
  if moved && d != 0 then { active := true, dist := d, left := ceilDiv (d * hz) rate + 2 + 1 } else {}

/-- Nearest value in a range. -/
def State.clampTarget (s : State) (f : Fld) (lo hi : Int) : State := s.fseti f (clampInt lo hi (s.fint f))

/-- Whether the targets of the two axes lie outside the range of the profile that takes effect at the latch of a frame; none where no profile does (R351). -/
def State.profileTurn (s : State) (n frame : Nat) : Option (Bool × Bool) :=
  match (s.spill n).nextProfile, s.safe.spb with
  | some (prof, k), some b =>
    if k ≠ frame then none else
    let p := spbProfile b prof
    some (rangeDist (profVMin p) (profVMax p) (s.fint (R.PIX_AIM_TARGET_V n)) != 0, rangeDist (profHMin p) (profHMax p) (s.fint (R.PIX_AIM_TARGET_H n)) != 0)
  | _, _ => none

/-- The rate in force of an axis under a new profile: the profile's where its target was moved (R351), else never above the profile's (R115). -/
def rateUnder (moved : Bool) (rate prof : Nat) : Nat := if moved then prof else min rate prof

/-- A profile takes effect at X(k), or on a COMPANION at the scan cycle that a LATCH names (R419): targets outside its range move to the nearest value, at the profile's rate, and returns begin (R350, R351, R360). -/
def State.latchProfile (s : State) (n frame : Nat) (g : Grid) (av ah : Int) : State :=
  match (s.spill n).nextProfile, s.safe.spb, s.profileTurn n frame with
  | some (prof, _), some b, some (mv, mh) =>
    let p := spbProfile b prof
    let s := (s.clampTarget (R.PIX_AIM_TARGET_V n) (profVMin p) (profVMax p)).clampTarget (R.PIX_AIM_TARGET_H n) (profHMin p) (profHMax p)
    let s := s.fset (R.PIX_AIM_RATE_V n) (rateUnder mv (s.fget (R.PIX_AIM_RATE_V n)) (profVRate p))
    let s := s.fset (R.PIX_AIM_RATE_H n) (rateUnder mh (s.fget (R.PIX_AIM_RATE_H n)) (profHRate p))
    let s := s.setSpill n fun q => { q with
      profile := prof, nextProfile := none,
      retV := startReturn (profVMin p) (profVMax p) av (profVRate p) g.rate mv,
      retH := startReturn (profHMin p) (profHMax p) ah (profHRate p) g.rate mh }
    s.fset (R.SAFE_PROFILE_PROFILE n) prof
  | _, _, _ => s

/-- The rate check of R359 on both axes against the offsets latched before. -/
def aimFast (p : List Byte) (hz : Nat) (last : Int × Int) (av ah : Int) : Bool :=
  decide (ceilDiv (profVRate p) hz < absNat (av - last.1)) || decide (ceilDiv (profHRate p) hz < absNat (ah - last.2))

/-- The Spillway's check of the latched offsets (R359 to R361); none without an SPB (R404). -/
def State.aimCheck (s : State) (n : Nat) (g : Grid) (av ah : Int) : State :=
  match s.profileBytes n with
  | none => s
  | some p =>
    let q := s.spill n
    let cv := axisCheck (profVMin p) (profVMax p) av q.retV
    let ch := axisCheck (profHMin p) (profHMax p) ah q.retH
    let fast := q.latched && aimFast p g.rate (q.lastV, q.lastH) av ah
    let bad := !cv.1 || !ch.1
    let s := s.setSpill n fun q => { q with
      retV := cv.2, retH := ch.2, lastV := av, lastH := ah, latched := true, outOf := bad, fast := fast, zeroed := q.zeroed || bad || fast }
    let s := s.fsetb (R.SAFE_PROFILE_RETURNING n) (cv.2.active || ch.2.active)
    let s := if bad && !q.outOf then s.raise 6 n 0 else s
    if fast && !q.fast then s.raise 7 n 0 else s

/-! ## Zone and total intensity (R355 to R357) -/

/-- Zone estimate in 1/16 cd (R355). -/
def zoneEst (sum eff : Nat) : Nat := (sum * eff + 0xFFFFF) / 2 ^ 20

/-- A zone's next clamp scale (R356). -/
def nextScale (q step est limZ total limT : Nat) : Nat :=
  let a := min 65536 (q + step)
  let b := if est = 0 then a else min a (q * limZ / est)
  if total = 0 then b else min b (q * limT / total)

/-- A zone's estimate for the scan cycle just ended. -/
def State.zoneEst (s : State) (b : Spb) (z : Nat) : Nat := Machine.zoneEst (nth s.safe.zones z).sum (spbEff b z)

/-- The total estimate of a surface (R355). -/
def State.totalEst (s : State) (b : Spb) (zs : List Nat) : Nat := zs.foldl (fun a z => a + s.zoneEst b z) 0

/-- The lowest number of a list, else a default. -/
def lowest (d : Nat) : List Nat → Nat
  | [] => d
  | z :: zs => zs.foldl min z

/-- The zones whose estimate exceeds its limit, and whether their total exceeds the surface's (R356). -/
def excessOf (p : List Byte) (ests : List (Nat × Nat)) : List Nat × Bool :=
  ((ests.filter fun e => decide (profZoneLim p e.1 < e.2)).map (·.1), decide (profTotalLim p < ests.foldl (fun a e => a + e.2) 0))

/-- Every zone's estimate and next clamp scale (R356). -/
def State.spillStore (s : State) (b : Spb) (p : List Byte) (zs : List Nat) (total : Nat) : State :=
  let zones := zs.foldl (fun l z => upd (fun (q : SpillZone) => { q with
    est := s.zoneEst b z, q := nextScale q.q (spbQStep b) (s.zoneEst b z) (profZoneLim p z) total (profTotalLim p) }) l z) s.safe.zones
  { s with safe := { s.safe with zones := zones } }

/-- Excess counted with fault 4 at the first of a run; or the run ends (R357). -/
def State.spillExcess (s : State) (n : Nat) (excess : Bool) (inst : Nat) : State :=
  let run := s.fget (R.SAFE_PROFILE_EXCESS_RUN n)
  if excess then
    let s := (s.fadd R.SAFE_SPILL_COUNT_EXCESS 1).fadd (R.SAFE_PROFILE_EXCESS_RUN n) 1
    if run = 0 then s.raise 4 inst 0 else s
  else
    s.endRun n

/-- The end of a scan cycle: estimates, clamp scales, excess and its run (R355 to R357). -/
def State.spillAccount (s : State) (n : Nat) : State :=
  match s.safe.spb with
  | none => s
  | some b =>
    let p := spbProfile b (nth s.safe.surfs n).profile
    let zs := s.surfZones n
    let total := s.totalEst b zs
    let e := excessOf p (zs.map fun z => (z, s.zoneEst b z))
    let excess := !e.1.isEmpty || e.2
    let s := ((s.spillStore b p zs total).fset (R.SAFE_TOTAL_EST_EST n) (min total 0xFFFFFFFF)).setSpill n fun q => { q with excess := excess }
    s.spillExcess n excess (lowest (0x100 + n) e.1)

/-- The run of excess scan cycles reaches EXCESS_N: fault 5, latched DARK (R357). -/
def xExcessRunLimit (n : Nat) (s : State) : State :=
  match s.safe.spb with
  | none => s
  | some b =>
    if spbExcessN b ≤ s.fget (R.SAFE_PROFILE_EXCESS_RUN n) ∧ !(s.spill n).told then
      (s.setSpill n fun q => { q with told := true }).raise 5 (0x100 + n) 0 else s

/-! ## Emitted signatures (R219, R220, R422) -/

/-- The code produced at canvas (x, y) in the scan cycle in hand; 0 off every tile. -/
def State.codeAt (s : State) (n x y : Nat) : Nat :=
  let cs := (s.px n).prod.codes
  match (s.gen n).members.find? fun m => onFoot [(s.bindOf m.port).foot m] x y with
  | none => 0
  | some m => let q := tilePos (s.bindOf m.port) m x y; nth (nth (rowsOf cs m.port) q.2) q.1

/-- One region's emitted signature (R219). -/
def emitSig (n r : Nat) (s : State) : State :=
  if s.regionActive n r then
    let sig := rectSig 7 n r (s.codeAt n) (s.regionRect r)
    (s.fset (R.PIX_ESIG_SIGNATURE r) sig).fset R.PIX_ESIG_VALID_VALID (maskSet (s.fget R.PIX_ESIG_VALID_VALID) r true)
  else s.sigMissing R.PIX_ESIG_VALID_VALID n r

/-- Members of a surface in ascending port number. -/
def State.membersAsc (s : State) (n : Nat) : List Member := (List.range 24).filterMap fun p => (s.gen n).members.find? fun m => m.port == p

/-- The emitted twin signature of scan cycle 0 (R422). -/
def State.emittedTwin (s : State) (n : Nat) : Nat :=
  let cs := (s.px n).prod.codes
  crcWith ([0x0D, BitVec.ofNat 8 n, 0xFE, 0] ++ leBytes 2 (s.canvasW n) ++ leBytes 2 (s.canvasH n))
    ((s.membersAsc n).flatMap fun m => (rowsOf cs m.port).flatten.flatMap fun c => leBytes 2 c)

/-- The key of a command (R417). -/
def Desc.key (d : Desc) : Nat :=
  let pay := d.payload.getD []
  crcWith ([BitVec.ofNat 8 d.ring, 6, 0, 0])
    (d.bytes.take 1 ++ (d.bytes.drop 2).take 6 ++ (d.bytes.drop 16).take 44 ++ (if d.payloadLen = 0 then [] else pay.drop (d.payloadLen - 4)))

/-- The composed twin signature of the output frame in emission (R422). -/
def State.composedTwin (s : State) (n : Nat) (pic : Option Picture) : Nat :=
  let w := s.canvasW n
  let h := s.canvasH n
  crcWith ([0x0D, BitVec.ofNat 8 n, 0xFF, 0] ++ leBytes 2 w ++ leBytes 2 h)
    (rectWords (fun x y => match pic with | some p => pixelOf p x y | none => 0) (0, 0, w, h))

/-- This device's own digest of the frame in emission (Table 13-9). -/
def State.ownDigest (s : State) (n : Nat) : TwinDigest :=
  let x := s.px n
  { frame := x.prod.frame, notReady := x.emitMask, repeated := x.repeated, key := match x.emitDesc with | some d => d.key | none => 0,
    csig := s.composedTwin n x.prod.picture, esig := s.emittedTwin n, members := maskOf ((s.gen n).members.map (·.port)) }

/-- SWAP body (R294). -/
def swapBody (sd frame : Nat) : List Byte := u8 (sd % 16) ++ [0] ++ leBytes 2 frame

/-- SWAP goes to a frame-memory tile, which then assembles the scan cycle after it (R293); `due` is its deadline in ns (Table 09-2). -/
def State.sendSwap (s : State) (p sd frame due : Nat) : State :=
  (s.sendNow p pktSwap (swapBody sd frame) due).setPort p fun q => { q with swapSd := sd % 16 }

/-- What the signature units and the scan-out shadow hand to the safety pair at the end of a scan cycle: the Spillway's zone sums beside their own, the codes of the row in rotation, and the latched offsets. The rotation then turns to the next row (R362 to R364). -/
def State.pairCapture (s : State) (n : Nat) : State :=
  let c := (s.px n).prod
  let q := nth s.safe.pair n
  let zones := (s.gen n).members.flatMap fun m =>
    ((zoneSums m (rowsOf c.codes m.port).flatten).take 8).zipIdx.map fun e => (8 * m.port + e.2, (nth s.safe.zones (8 * m.port + e.2)).sum, e.1)
  let due : PairInput := {
    zones := zones, excess := (s.spill n).excess, row := q.row, codes := (List.range (s.canvasW n)).map fun x => (x, s.codeAt n x q.row),
    av := c.av, ah := c.ah, profile := (s.spill n).profile, hz := c.grid.rate, turn := c.turn,
    fresh := q.fresh, ports := (s.gen n).members.map (·.port) }
  { s with safe := { s.safe with pair := upd (fun q => { q with due := q.due ++ [due], fresh := false, row := (q.row + 1) % max 1 (s.canvasH n) }) s.safe.pair n } }

/-- The end of the last phase: SWAP to frame-memory tiles, the codes kept for pixel health, zone accounting, and at scan cycle 0 the emitted signatures. -/
def State.scanEnd (s : State) (n : Nat) : State :=
  let c := (s.px n).prod
  let ms := (s.gen n).members
  let sent (s : State) (m : Member) : Bool := m.frameMem && c.swapOk && s.dataGoes m.port
  let s := ms.foldl (fun s m => if sent s m then s.sendSwap m.port c.dither c.frame ((c.sQ + c.lenQ) / 2 ^ 32 - 5000) else s) s
  let s := ms.foldl (fun s m => s.keepCodes m c.dither (rowsOf c.codes m.port) (sent s m)) s
  let s := (s.spillAccount n).pairCapture n
  if c.j = 0 then
    let s := overAll 32 (emitSig n) s
    if s.role = roleSolo then s else
      let d := s.ownDigest n
      s.setTwinSurf n fun q => { q with own := some d }
  else s

/-! ## The phase-0 latch (R49 to R51, R204, R224, R350) -/

/-- One bit of a class F field: at once, and at its governing instant (R6). -/
def State.takeBit (s : State) (f : Fld) (i : Nat) : State :=
  s.takeForce { f with lo := f.lo + i, width := 1 }
def State.takeBitDue (s : State) (f : Fld) (i : Nat) : State :=
  s.takeDue { f with lo := f.lo + i, width := 1 }

/-- The output frame to read from X(k): a complete one for frame k, else the one in use; a frame still in composition is an overrun (R49 to R51). While a lockstep mismatch in the control pair stands the last output frame is held: one that is complete is not emitted (R27). (DEDUCED, log entry 115.) -/
def State.latchPicture (s : State) (n frame : Nat) : State :=
  let held := s.faultOn 1
  let s := if held then s else s.setPx n fun x => { x with emitMask := x.notReadyMask, emitDesc := x.use.map (·.desc) }
  match (s.px n).waiting with
  | some (k, pic) =>
    if k = frame then
      s.setPx n fun x => { x with picture := if held then x.picture else some pic, waiting := none, repeated := held }
    else s.setPx n fun x => { x with repeated := true }
  | none =>
    if (s.px n).abandoned == some frame then s.setPx n fun x => { x with repeated := true, abandoned := none }
    else if s.pix.jobs.any fun j => j.surf == n && j.frame == frame then
      ((s.setPx n fun x => { x with repeated := true }).fadd (R.TG_COUNT_COMPOSE_OVERRUN n) 1).eventSurf 0x04 0x0010 n
        (u8 n ++ [0] ++ leBytes 4 frame)
    else s.setPx n fun x => { x with repeated := held }

/-- The opening of a phase-0 production window: everything that R204 latches for the scan cycle to come. -/
def State.latchScan (s : State) (n : Nat) : State :=
  let f := (s.gen n).advance.1
  let g := (s.gen n).advance.2
  let frame := s.aheadFrame n
  let av := (s.px n).aimV
  let ah := (s.px n).aimH
  let turn := s.profileTurn n frame
  let s := if f then
      let s := (s.latchPicture n frame).setGen n fun q => { q with windowed := true }
      (s.takeBitDue R.PIX_SHADE_CTRL_SURF_EN n).takeBitDue R.PIX_OUT_CTRL_DITHER_EN n
    else s
  let s := s.latchProfile n frame g.grid av ah
  let sd := (frame * (if f then g.grid.n else g.frameN) + g.j) % 2 ^ 32
  let zs := s.surfZones n
  let s := { s with
    pix := { s.pix with zones := zs.foldl (fun l z => upd (fun q => { q with latched := q.factor }) l z) s.pix.zones },
    safe := { s.safe with zones := zs.foldl (fun l z => upd (fun q => { q with sum := 0 }) l z) s.safe.zones } }
  let c : Prod := {
    frame := frame, j := g.j, sQ := g.sQ, lenQ := g.lenQ, av := av, ah := ah, dither := sd,
    grid := g.grid, guardQ := (s.gen n).grid.tgQ, picture := (s.px n).picture, turn := turn, dark := s.modeNow == 1, swapOk := g.phase == .normal }
  let s := s.setPx n fun x => { x with prev := x.prod.codes, prod := c }
  let s := (s.fseti (R.PIX_AIM_APPLIED_V n) av).fseti (R.PIX_AIM_APPLIED_H n) ah
  let s := s.aimCheck n g.grid av ah
  let ms := (s.gen n).members
  let s := ms.foldl (fun s m => s.setPort m.port fun q => { q with dataOpen := s.laneUp m.port, lineTold := false }) s
  let s := s.timePorts n c
  ms.foldl (fun s m => s.probePort n m av sd g.sQ g.lenQ) s

/-- A PROBE still unresolved at the end of the phase-0 window is not sent again (Table 09-2). -/
def State.dropProbe (s : State) (p : Nat) : State := s.setPort p fun q =>
  { q with unres := q.unres.filter fun u => u.kind != pktProbe, outQ := q.outQ.filter fun u => u.kind != pktProbe }

/-- A production window opens (R34): phase 0 latches the scan cycle to come; then the shade slots are evaluated and the phase's rows produced. A surface without a member port evaluates no slot (DEDUCED, log entry 112). -/
def xProductionWindowOpen (n ph : Nat) (s : State) : State :=
  if !s.domOn 3 || !s.domOn 9 then s
  else if ph = 0 && !s.scanAhead n then s
  else if ph ≠ 0 && (s.px n).prod.grid.hz = 0 then s
  else
    let s := if ph = 0 then s.latchScan n else s
    let c := (s.px n).prod
    let ms := s.membersAsc n
    let s := match ms with | m :: _ => s.evalShades n (s.emission c m ph) | [] => s
    let s := (s.effectDue fun e => e == .window n || e == .allWindows).setPx n fun x => { x with prod := { x.prod with ph := ph } }
    let s := if ph = 1 then ms.foldl (fun s m => s.dropProbe m.port) s else s
    let s := ms.foldl (fun s m => s.tilePhase n ph m) s
    if ph = 7 then s.scanEnd n else s

end Sys2Proof.Machine
end

