-- ==== Sys2Proof/Machine/Lanes.lean ====
section
/-! DEFINITION. Laniub lanes (chapter 8): the lane states of tile ports and twin links, the training handshake, rate changes, retrains, electrical idle, PRBS tests and legacy mode. Units 0 to 23 are the tile ports, 24 and 25 the twin links. -/

namespace Sys2Proof.Machine

/-! ## Rates -/

/-- Rate codes as LINK_EVENT ACTIVE carries them (Table 08-7). -/
def State.rateBits (s : State) (u : Nat) : Nat :=
  if u < 24 then s.fget (R.TILE_LANE_STATUS_DN_RATE u) + 4 * s.fget (R.TILE_LANE_STATUS_UP_RATE u)
  else s.fget (R.TWIN_LANE_STATUS_RATE (linkOf u))

/-! ## Sequence restart and PORT_ID (R269, R282) -/

/-- Both directions restart at 0 when the handshake completes in TRAIN or RETRAIN (R269), and PORT_ID is the first packet, number 0 (R282); a legacy port sends none (Table 09-13). -/
def State.seqRestart (s : State) (p : Nat) : State :=
  let s := (s.fset (R.TILE_SEQ_DN_NEXT p) 0).fset (R.TILE_SEQ_UP_EXPECT p) 0
  let s := s.setPort p fun q =>
    { q with lost := q.losing, unres := [], wire := [], outQ := [], fails := 0, statusSeen := false, capOk := false, claimOut := false }
  if s.legacy p then s else s.sendNow p pktCtrl (u8 ctrlPortId ++ [0] ++ u8 p ++ [0]) 0

/-- A RESUME that waited for the lane goes out (R281, R371). -/
def State.resumeLate (s : State) (p : Nat) : State :=
  if (s.port p).resumeDue && !s.totHolds p then
    (s.setPort p fun q => { q with resumeDue := false }).sendCtrl p ctrlResume []
  else s

/-! ## What a port is told when it becomes usable -/

/-- SCALE at a throttling step: floor(SCALE × (8 − t) / 8) (R538). -/
def State.throttled (s : State) (scale : Nat) : Nat := scale * (8 - s.fget R.THERM_STATUS_STEP) / 8

/-- THERM_SCALE of the surface of a port, above 32,768 treated as that; 32,768 on an unbound port (R538, Table 18-4). -/
def State.surfScale (s : State) (p : Nat) : Nat :=
  match s.boundTo p with
  | some n => min 32768 (s.inForce (R.THERM_SCALE_SCALE n))
  | none => 32768

/-- The current-reference scale of a tile before throttling: of the LIMP entry or PARK pattern it serves, else of its surface (R538). -/
def State.baseScale (s : State) (p : Nat) : Nat :=
  if s.formFor p == .store then
    (if s.safe.parkBeam then (if (nth s.parkPats p).inUse then limpImageScale (nth s.parkPats p).image else s.surfScale p)
      else match s.limpEntryFor p with | some e => e.scale | none => s.surfScale p)
  else s.surfScale p

/-- The SCALE sent to a tile now. -/
def State.tileScale (s : State) (p : Nat) : Nat := s.throttled (s.baseScale p)

/-- Whether the device may configure the tile on a port: it owns it, or the port is a legacy one. -/
def State.configures (s : State) (p : Nat) : Bool := s.owns p || s.legacy p

/-- TIMING, SCALE, PROBE_CFG and WATCHDOG go to a tile (R288, R317); no PROBE_CFG to a legacy one (Table 09-13). TIMING holds the scan cycle to come of the port's surface, or the surface's timing registers where none is to come; on an unbound port there are no values for it, and none goes out (DEDUCED, log entry 121). -/
def State.configTile (s : State) (p : Nat) : State :=
  if !s.configures p then s else
  let s := match s.boundTo p with
    | some n => if s.scanAhead n then
        let g := (s.gen n).advance.2
        s.sendTiming p g.grid g.lenQ
      else s.sendTiming p (s.regGrid n) (s.regGrid n).tsQ
    | none => s
  let s := s.sendScale p (s.tileScale p)
  let s := if s.legacy p then s else s.sendCtrl p ctrlProbeCfg (u8 (s.probeUa p) ++ [0])
  s.sendCtrl p ctrlWatchdog (u8 (max 1 (s.fget (R.TILE_PROTO_CFG_WDT_MS p))) ++ [0])

/-- One ECHO with a new ECHO_ID, never 0 (R301, R445). -/
def sendEcho (p : Nat) (s : State) : State :=
  let id := (s.port p).echoId % 65535 + 1
  (s.setPort p fun q => { q with echoId := id, echoOut := q.echoOut ++ [id] }).sendCtrl p ctrlEcho (leBytes 2 id)

/-- K28.0 starts on a port that Totality holds once its lane carries symbols (R241, R281). -/
def State.totEntry (s : State) (p : Nat) : State :=
  if s.totHolds p then (s.send (.kcode p 0)).fsetb (R.TILE_PROTO_STATUS_TOTALITY_TX p) true else s

/-- A tile port enters ACTIVE: MASS and stopped probing clear (R337, R341), the baseline map of another tile is reset (R324), 8 ECHOs go out (R445), the tile is configured (R288), and what waited for the lane goes out (R275, R281). RATE_LOW may be raised again (R242). -/
def State.portActive (s : State) (p : Nat) (event : Bool) : State :=
  let s := (s.setLane p laneActive).laneFaultOver p
  let s := if event then s.linkEvent p 1 (s.rateBits p) else s
  let s := (s.setPort p fun q => { q with rateFails := if event then 0 else q.rateFails, dataOpen := false, rateTold := false }).clearMass p
  let s := s.setHl p fun h => { h with probeStopped := false, recs := h.recs.map fun r => { r with probes := rep 8 0 } }
  let s := if s.pix.health.any fun (h : Health) => h.probeStopped then s else s.clearFault 21
  let s := match (s.port p).cap with
    | some c => if (s.hl p).capRaw != c.raw then s.resetBase p c else s
    | none => s
  let s := s.totEntry p
  let s := if s.legacy p then s else overList (fun _ s => sendEcho p s) (List.range 8) s
  ((s.configTile p).resumeLate p).resendLimp p

/-! ## Entering TRAIN and RETRAIN (Table 08-4) -/

/-- LIMP_PAGE packets that a port still has to deliver: those that wait and those that are unresolved, to be sent again as new packets. -/
def Port.limpLeft (q : Port) : List (Nat × List Byte) :=
  (q.again.filter fun e => e.1 == pktLimpPage) ++ ((q.unres ++ q.outQ).filter fun u => u.kind == pktLimpPage).map fun u => (u.kind, u.body)

/-- A port's record on entry into TRAIN, its receiver as it is where the upstream rate stays (R236): control packets left over by a lane that lost its numbers, and its tick orders, are dropped; the packets of a limp page wait for the port (DEDUCED, log entry 120). -/
def Port.toTrain (keep : Bool) (q : Port) : Port :=
  { q with hs := { locked := keep && q.rx.locked }, rx := if keep then q.rx else {}, retrains := 0, order := none, reorder := none, prbs := none, lost := q.losing, unres := [], wire := [], outQ := [], ctrlQ := [],
           again := q.limpLeft, echoOut := [], dataOpen := false, timed := false }

/-- A tile port enters TRAIN at 1.25 Gbit/s in both directions; a legacy port runs at 2.5 Gbit/s, its numbers restart, and it sends fill (R258, R259, Table 09-13). K28.0 ends (R241). -/
def State.portTrain (s : State) (p : Nat) : State :=
  let s := (s.setLane p laneTrain).setPort p (Port.toTrain (s.fget (R.TILE_LANE_STATUS_UP_RATE p) == 0))
  let s := (s.fset (R.TILE_LANE_STATUS_DN_RATE p) (b2n (s.legacy p))).fset (R.TILE_LANE_STATUS_UP_RATE p) 0
  let s := (s.fsetb (R.TILE_LANE_STATUS_UP_IDLE p) false).fsetb (R.TILE_PRBS_STAT_RUNNING p) false
  let s := s.fsetb (R.TILE_PROTO_STATUS_TOTALITY_TX p) false
  if s.legacy p then s.seqRestart p else s.startTrn p

/-- With no twin link in ACTIVE, acceptance starts afresh: the peer may have restarted its SEQ (R412, R413; DEDUCED, log entry 100). -/
def State.twinFresh (s : State) : State :=
  if s.fget R.TWIN_STATUS_LINKS = 0 then { s with twin := { s.twin with high := none, seen := [], missing := [] } } else s

/-- Fault 40 stands for a link that has been lost while the other one is in ACTIVE (R429). -/
def State.linkWatch (s : State) : State :=
  if !s.fbit R.TWIN_CTRL_EN || s.faultOn 40 then s else
  match (List.range 2).find? fun t => (nth s.twin.links t).down && bitOf (s.fget R.TWIN_STATUS_LINKS) (1 - t) with
  | some t => s.raise 40 t 0
  | none => s

/-- A twin link comes to ACTIVE. -/
def State.linkActive (s : State) (u : Nat) : State := ((s.setLane u laneActive).laneFaultOver u).linkWatch

/-- A twin link's record on entry into TRAIN, its receivers as they are where the rate stays (R236). -/
def TwinLink.toTrain (keep : Bool) (q : TwinLink) : TwinLink :=
  { q with hs := { locked := keep && q.rx0.locked }, hs1 := { locked := keep && q.rx1.locked }, rx0 := if keep then q.rx0 else {},
           rx1 := if keep then q.rx1 else {}, retrains := 0, rateRx := 0, prbs := none }

/-- A twin link enters TRAIN. -/
def State.linkTrain (s : State) (u : Nat) : State :=
  let t := linkOf u
  let s := (s.setLane u laneTrain).setLink t (TwinLink.toTrain (s.fget (R.TWIN_LANE_STATUS_RATE t) == 0))
  let s := (s.fset (R.TWIN_LANE_STATUS_RATE t) 0).fsetb (R.TWIN_LANE_STATUS_DESKEWED t) false
  ((s.fsetb (R.TWIN_PRBS_STAT_RUNNING t) false).twinFresh).startTrn u

/-- A unit enters TRAIN. -/
def State.enterTrain (s : State) (u : Nat) : State := if u < 24 then s.portTrain u else s.linkTrain u

/-- RETRAINS of a unit. -/
def retrainsFld (u : Nat) : Fld := laneFld u R.TILE_LANE_EVT_RETRAINS R.TWIN_LANE_EVT_RETRAINS

/-- An ACTIVE unit loses lock, receives TRN0, or is told to retrain: RETRAINS and LOCK_LOST (Table 08-4). -/
def State.loseActive (s : State) (u : Nat) : State :=
  let s := s.fadd (retrainsFld u) 1
  let s := (s.unitEvent u 2 (s.fget (retrainsFld u))).enterRetrain u
  if u < 24 then s else s.linkWatch

/-- Whether a unit counts as ACTIVE, its downstream lane idle or not (R244). -/
def laneIsUp (st : Nat) : Bool := st == laneActive || st == laneIdle

/-! ## The handshake (R236, R237) -/

/-- The handshake of a lane is complete at this end: locked, 8 TRN1 received in a row and 8 sent (R237). -/
def Handshake.complete (h : Handshake) : Bool := h.locked && decide (8 ≤ h.trn1Rx) && decide (8 ≤ h.trn1Tx)

/-- The handshake is complete at this end; on a twin link on both lanes, and the receive pair is deskewed as well (R261). -/
def State.handshakeDone (s : State) (u : Nat) : Bool :=
  (lanesOf u).all (fun l => (s.hsOf u l).complete) && (decide (u < 24) || s.fbit (R.TWIN_LANE_STATUS_DESKEWED (linkOf u)))

/-- Control packets held over a retrain go out again before those that wait (R275), and a CLAIM among all of them awaits its result (R315). -/
def State.resendHeld (s : State) (p : Nat) : State :=
  let rest := (s.port p).again.filter fun e => e.1 != pktLimpPage
  let s := s.setPort p fun q => { q with
    again := q.again.filter fun e => e.1 == pktLimpPage, ctrlQ := rest ++ q.ctrlQ, claimOut := q.claimOut || (rest ++ q.ctrlQ).any fun e => e.1 == pktClaim }
  s.nextControl p

/-- A tile port's handshake completes. -/
def State.portLinked (s : State) (p : Nat) : State :=
  let st := s.lane p
  if st = laneTrain then ((s.setLane p laneLinked).seqRestart p).totEntry p
  else if st = laneRateTrain then s.portActive p true
  else
    let s := ((s.setLane p laneActive).seqRestart p).resendHeld p
    s.portActive p false

/-- A twin link's handshake completes: from TRAIN to LINKED, where 32 RATE sets go out (R261). -/
def State.linkLinked (s : State) (u : Nat) : State :=
  let t := linkOf u
  if s.laneOf u = laneTrain then
    let s := (s.setLane u laneLinked).setLink t fun q => { q with rateRx := 0 }
    s.sends (rep 32 (Output.twinSet t 0 3 (u8 (s.fget (R.TWIN_LANE_CFG_MAX t)))))
  else if s.laneOf u = laneRateTrain then
    let s := (s.linkActive u).setLink t fun q => { q with rateFails := 0 }
    s.twinLinkEvent t 1 (s.rateBits u)
  else s.linkActive u

/-- Where a unit's handshake is complete, its next state follows. -/
def State.tryLink (s : State) (u : Nat) : State :=
  if laneTrains (s.laneOf u) && s.handshakeDone u then (if u < 24 then s.portLinked u else s.linkLinked u) else s

/-- Whether the receiver of every lane of a unit is locked. -/
def State.rxLocked (s : State) (u : Nat) : Bool := (lanesOf u).all fun l => (s.rxOf u l).locked

/-- The symbols taken on one lane of a unit. -/
def rxTaken (rx0 rx1 : List RxSymbol) (l : Nat) : List RxSymbol := if l = 0 then rx0 else rx1

/-- The receivers of a unit take symbols. -/
def State.takeSymbols (s : State) (u : Nat) (rx0 rx1 : List RxSymbol) : State :=
  (lanesOf u).foldl (fun s l => s.setRx u l fun r => r.take (rxTaken rx0 rx1 l)) s

/-- A receiver of a unit declares lock: a lane that was not locked sends TRN1 (R237), and its handshake may be complete. -/
def State.declareLock (s : State) (u : Nat) : State :=
  let s := (lanesOf u).foldl (fun s l =>
    if (s.rxOf u l).locked && !(s.hsOf u l).locked then (s.setHs u l fun h => { h with locked := true }).sendTrn u l else s) s
  s.tryLink u

/-- DESKEW_FAILS and LINK_EVENT DESKEW_FAIL of a link, which is no longer deskewed (R263). -/
def State.deskewFailed (s : State) (t : Nat) : State :=
  let s := (s.fadd (R.TWIN_LANE_EVT_DESKEW_FAILS t) 1).fsetb (R.TWIN_LANE_STATUS_DESKEWED t) false
  s.twinLinkEvent t 8 (s.fget (R.TWIN_LANE_EVT_DESKEW_FAILS t))

/-- The skew between the lanes of a training link, both locked; one above 32 symbols fails with the lock that shows it. The link trains already (DEDUCED, log entry 153). -/
def State.measureSkew (s : State) (t : Nat) (skew : Int) (fresh : Bool) : State :=
  let s := s.fseti (R.TWIN_LANE_STATUS_SKEW t) skew
  if absNat skew ≤ 32 then s.fsetb (R.TWIN_LANE_STATUS_DESKEWED t) true
  else if fresh then s.deskewFailed t
  else s.fsetb (R.TWIN_LANE_STATUS_DESKEWED t) false

/-- The receivers of a unit take symbols in training, each on its own: lock is declared after 64 valid ones aligned on a K28.5, and lost as elsewhere (R236, R237); on a twin link with the skew measured between its lanes (R263). A legacy port's receivers are off (R258). -/
def xReceiverLock (u : Nat) (rx0 rx1 : List RxSymbol) (skew : Int) (s : State) : State :=
  if !s.unitOn u || !s.pins.lnref || s.legacyUnit u || !laneTrains (s.laneOf u) then s else
  let lost := (lanesOf u).filter fun l => (s.hsOf u l).locked && (s.rxOf u l).loses (rxTaken rx0 rx1 l)
  let s := s.takeSymbols u rx0 rx1
  let s := lost.foldl (fun s l => (s.setHs u l fun h => { h with locked := false, trn1Rx := 0 }).sendTrn u l) s
  let fresh := (lanesOf u).any fun l => (s.rxOf u l).locked && !(s.hsOf u l).locked
  let s := if u < 24 || !s.rxLocked u then s else s.measureSkew (linkOf u) skew fresh
  s.declareLock u

/-- Invalid symbols counted by a receiver in LINKED and ACTIVE (R236). -/
def State.addSymErr (s : State) (u e0 e1 : Nat) : State :=
  if s.laneOf u == laneLinked || laneIsUp (s.laneOf u) then
    (if u < 24 then s.fadd (R.TILE_LANE_SYMERR_COUNT u) e0
      else (s.fadd (R.TWIN_LANE_SYMERR_LANE0 (linkOf u)) e0).fadd (R.TWIN_LANE_SYMERR_LANE1 (linkOf u)) e1)
  else s

/-- The receivers of some lanes of a unit lose lock (R236): LINKED restarts in TRAIN, ACTIVE goes to RETRAIN, and in training the handshake of those lanes starts over with TRN0 (R237). -/
def State.lockLost (s : State) (u : Nat) (ls : List Nat) : State :=
  let st := s.laneOf u
  let s := s.dropLocks u ls
  if st = laneLinked then s.enterTrain u
  else if laneIsUp st then s.loseActive u
  else if laneTrains st then ls.foldl (fun s l => s.sendTrn u l) s
  else s

/-- Whether an upstream lane stands in idle after an EIE (R245). -/
def State.upIdle (s : State) (u : Nat) : Bool := decide (u < 24) && s.fbit (R.TILE_LANE_STATUS_UP_IDLE u)

/-- What receivers take outside training: invalid symbols are counted, and a lane loses lock at 8 of them within 64, or below the squelch level (a mask of lanes) without an EIE before it (R236). -/
def State.judgeSymbols (s : State) (u : Nat) (rx0 rx1 : List RxSymbol) (squelch : Nat) : State :=
  let lost := (lanesOf u).filter fun l => bitOf squelch l || (s.rxOf u l).loses (rxTaken rx0 rx1 l)
  let s := (s.addSymErr u ((s.rxOf u 0).invalid rx0) ((s.rxOf u 1).invalid rx1)).takeSymbols u rx0 rx1
  if lost.isEmpty then s else s.lockLost u lost

/-- Symbols, or an input below the squelch level. After an EIE neither counts: the lane stays idle until its exit burst has been received, on which the receiver aligns (R245, R246). -/
def xLockLost (u : Nat) (rx0 rx1 : List RxSymbol) (squelch : Nat) (s : State) : State :=
  if !s.unitOn u || s.legacyUnit u then s
  else if s.upIdle u then
    match burstScan {} 0 rx0 with
    | none => s
    | some (r, rest) => ((s.fsetb (R.TILE_LANE_STATUS_UP_IDLE u) false).setRx u 0 fun _ => r).judgeSymbols u rest [] 0
  else s.judgeSymbols u rx0 rx1 squelch

/-! ## Ordered sets received (R228, R237, R245, R261) -/

/-- The rate that a twin link switches to: the lower of both maxima, within the limit left by failures (R239, R261). -/
def State.linkRate (s : State) (t : Nat) : Nat :=
  min (min (s.fget (R.TWIN_LANE_CFG_MAX t)) (nth s.twin.links t).peerMax) (nth s.twin.links t).limit

/-- 32 RATE sets have been sent and received: the switch, or ACTIVE at once where the lowest rate stays. -/
def State.linkSwitch (s : State) (u : Nat) : State :=
  let t := linkOf u
  let r := s.linkRate t
  if r = 0 then (s.linkActive u).twinLinkEvent t 1 0
  else
    let s := ((s.setLane u laneRateTrain).fset (R.TWIN_LANE_STATUS_RATE t) r).setLink t fun q => { q with hs := {}, hs1 := {}, rx0 := {}, rx1 := {} }
    s.startTrn u

/-- A RATE set on a twin link in LINKED. -/
def State.rateSet (s : State) (u code : Nat) : State :=
  if u < 24 || s.laneOf u != laneLinked then s else
  let s := s.setLink (linkOf u) fun q => { q with rateRx := q.rateRx + 1, peerMax := code % 4 }
  if 32 ≤ (nth s.twin.links (linkOf u)).rateRx then s.linkSwitch u else s

/-- Something other than a TRN1 on a training lane: the TRN1 to come count from the first one again (R237). -/
def State.breakTrn (s : State) (u l : Nat) : State :=
  if laneTrains (s.laneOf u) then s.setHs u l fun h => { h with trn1Rx := 0 } else s

/-- An ordered set on a lane: 0 TRN0, 1 TRN1, 2 EIE, 3 RATE with its code (Table 08-3); a training set ends an idle that stood on the lane, and an EIE in LINKED or ACTIVE begins one (R245). -/
def State.takeSet (s : State) (u l kind code : Nat) : State :=
  let st := s.laneOf u
  let s := if kind = 1 then s else s.breakTrn u l
  let s := if kind < 2 && s.upIdle u then s.fsetb (R.TILE_LANE_STATUS_UP_IDLE u) false else s
  if kind = 0 then
    if laneIsUp st then s.loseActive u
    else if laneTrains st then s.sendTrn u l
    else s
  else if kind = 1 then
    if laneTrains st then ((s.setHs u l fun h => { h with trn1Rx := h.trn1Rx + 1 }).sendTrn u l).tryLink u else s
  else if kind = 2 then
    (if u < 24 && (laneIsUp st || st == laneLinked) then s.fsetb (R.TILE_LANE_STATUS_UP_IDLE u) true else s)
  else s.rateSet u code

/-- The symbol after a K28.5 outside a packet: an ordered set, fill where it is a K-code, and any other data symbol is an invalid symbol (R228). -/
def xOrderedSetReceived (u l : Nat) (k : Bool) (octet : Nat) (s : State) : State :=
  if !s.unitOn u || s.legacyUnit u then s
  else if k then s.breakTrn u l
  else match setOf octet with
    | some (kind, code) => s.takeSet u l kind code
    | none =>
      let s := s.breakTrn u l
      if s.upIdle u then s else s.judgeSymbols u (if l = 0 then [.stray] else []) (if l = 0 then [] else [.stray]) 0

/-! ## EN, WAIT and bring-up (R234, R235) -/

/-- Whether a port is the odd partner of a legacy pair: its EN reads 0 and ignores writes (R257). -/
def State.legacyPartner (s : State) (p : Nat) : Bool := decide (p % 2 = 1) && decide (7 ≤ p) && s.legacy (p - 1)

/-- EN_WAIT_MS starts, with the limits of R239 restored. -/
def State.enterWait (s : State) (p : Nat) : State :=
  ((s.setLane p laneWait).fsetb (R.TILE_LANE_STATUS_RATE_LOW p) false).setPort p
    fun q => { q with dnLimit := 3, upLimit := 1, rateFails := 0, sounding := false }

/-- TILE_LANE_CTRL.EN is set (Table 08-4). -/
def xLaneEnable (p : Nat) (s : State) : State :=
  if !s.portOn p || s.legacyPartner p || s.fbit (R.TILE_LANE_CTRL_EN p) then s
  else ((s.fsetb (R.TILE_LANE_CTRL_EN p) true).fsetb (R.TILE_PRBS_STAT_RUNNING p) false).enterWait p

/-- A MAP_LOAD KIND 5 begins on a port: its packets go out. -/
def State.startLimpLoad (s : State) (p r pos : Nat) (pkts : List (Nat × List Byte)) : State :=
  (s.setPort p fun q => { q with limp := some (r, pos), again := q.again ++ pkts }).resendLimp p

/-- A MAP_LOAD KIND 5 waits while another one's packets are on their way to the port. -/
def State.queueLimpLoad (s : State) (p r pos : Nat) (pkts : List (Nat × List Byte)) : State :=
  if (s.port p).limp.isSome then s.setPort p fun q => { q with limpQ := q.limpQ ++ [(r, pos, pkts)] } else s.startLimpLoad p r pos pkts

/-- A MAP_LOAD KIND 5 whose packets have all been accepted completes, and the next one for the port begins (R309). -/
def State.limpLoadDone (s : State) (p : Nat) : State :=
  match (s.port p).limp with
  | none => s
  | some (r, pos) =>
    let s := (s.setPort p fun q => { q with limp := none }).completeSlot r pos .ok 0 []
    match (s.port p).limpQ with
    | [] => s
    | (r, pos, pkts) :: t => (s.setPort p fun q => { q with limpQ := t }).startLimpLoad p r pos pkts

/-- Every MAP_LOAD KIND 5 on its way to a port ends with TARGET_INVALID (R309). -/
def State.limpLoadsFail (s : State) (p : Nat) : State :=
  let all := (s.port p).limp.toList ++ (s.port p).limpQ.map fun e => (e.1, e.2.1)
  let s := s.setPort p fun q => { q with limp := none, limpQ := [], again := q.again.filter fun e => e.1 != pktLimpPage,
                                         outQ := q.outQ.filter fun u => u.kind != pktLimpPage }
  all.foldl (fun s e => s.completeSlot e.1 e.2 .targetInvalid 0 []) s

/-- EN of a port is cleared, or its CAP record changes: a MAP_LOAD KIND 5 of the port fails, one whose source is still being read once it has been (R309). -/
def State.limpTargetLost (s : State) (p : Nat) : State :=
  let void := (s.cmds.bulk.filter fun d => d.opcode == 0x50 && d.arg 32 1 == 5 && d.target == p).map fun d => (d.ring, d.pos)
  ({ s with cmds := { s.cmds with voided := s.cmds.voided ++ void } }).limpLoadsFail p

/-- TILE_LANE_CTRL.EN is cleared: both transmitters off, the lane pair in OFF, the CAP record kept (R234). -/
def xLaneDisable (p : Nat) (s : State) : State :=
  if !s.portOn p || !s.fbit (R.TILE_LANE_CTRL_EN p) then s else
  let s := ((s.fsetb (R.TILE_LANE_CTRL_EN p) false).setLane p laneOff).limpTargetLost p
  let s := ((s.cutPortPrbs p).setPort p (Port.toTrain false)).setPort p fun q => { q with capOk := false, claimOut := false, statusSeen := false }
  let s := (s.fset (R.TILE_LANE_STATUS_DN_RATE p) 0).fset (R.TILE_LANE_STATUS_UP_RATE p) 0
  let s := (s.fsetb (R.TILE_LANE_STATUS_UP_IDLE p) false).fsetb (R.TILE_PRBS_STAT_RUNNING p) false
  (s.fsetb (R.TILE_PROTO_STATUS_TOTALITY_TX p) false).refOver

/-- EN_WAIT_MS has elapsed. -/
def xEnWaitExpiry (p : Nat) (s : State) : State := if s.portOn p && s.lane p == laneWait then s.enterTrain p else s

/-- TIMEOUTS of a unit. -/
def timeoutsFld (u : Nat) : Fld := laneFld u R.TILE_LANE_EVT_TIMEOUTS R.TWIN_LANE_EVT_TIMEOUTS

/-- BRINGUP_MS elapses before ACTIVE: bring-up restarts (Table 08-4). -/
def xBringupTimeout (u : Nat) (s : State) : State :=
  if s.unitOn u && (s.laneOf u == laneTrain || s.laneOf u == laneLinked) then
    let s := s.fadd (timeoutsFld u) 1
    ((s.unitEvent u 4 (s.fget (timeoutsFld u))).laneFault u 0).enterTrain u
  else s

/-! ## Rate changes (R238, R239) -/

/-- The first tick of a generator at or after a time in Q32 ns, among its next scan cycles. -/
def genTick : Nat → Gen → Nat → Nat
  | 0, q, _ => q.sQ
  | k + 1, q, t => let a := q.advance.2; if t ≤ a.sQ then a.sQ else genTick k a t

/-- The tick that an order of a port names, in ns: the first S-tick of its enabled surface, else the first lane tick, at least 50 µs from now (R239, R252). -/
def State.orderTick (s : State) (p : Nat) (lane : Bool) : Nat :=
  let t := s.nowNs + 50000
  match (if lane then none else s.boundTo p) with
  | some n => if s.scanAhead n then genTick 8 (s.gen n) (t * 2 ^ 32) / 2 ^ 32 else (t + 499999) / 500000 * 500000
  | none => (t + 499999) / 500000 * 500000

/-- Seconds and nanoseconds of a tick as CTRL orders carry them (Table 09-12). -/
def tickBytes (ns : Nat) : List Byte := leBytes 4 (ns / 1000000000 % 2 ^ 32) ++ leBytes 4 (ns % 1000000000)

/-- An order naming its tick, as its CTRL packet's subtype and bytes (Table 09-12). -/
def State.orderCtrl (s : State) (p : Nat) : TickOrder → Nat × List Byte
  | .rate dn up t => (ctrlRate, u8 dn ++ u8 up ++ tickBytes t)
  | .prbs pat dn up t =>
    (ctrlPrbs, u8 pat ++ u8 (b2n dn + 2 * b2n up) ++ leBytes 2 (max 1 (s.fget (R.TILE_PRBS_TIME_DURATION_MS p))) ++ [0, 0] ++ tickBytes t)

/-- An order with its tick: a lane tick for PRBS (R252). -/
def State.timed (s : State) (p : Nat) : TickOrder → TickOrder
  | .rate dn up _ => .rate dn up (s.orderTick p false)
  | .prbs pat dn up _ => .prbs pat dn up (s.orderTick p true)

/-- Whether an order can be sent now: in the lane states that take it, no control packet before it (R276), and for a rate change no Totality (R241). -/
def State.orderGoes (s : State) (p : Nat) (o : TickOrder) : Bool :=
  s.canSend p && !(s.port p).ctrlBusy && (s.port p).ctrlQ.isEmpty && (match o with | .rate _ _ _ => !s.totHolds p | .prbs _ _ _ _ => true)

/-- An order is sent, its tick counted from when it is sent (R239, R252), or waits until it can be; a legacy port gets no packet (Table 09-13). -/
def State.placeOrder (s : State) (p : Nat) (o : TickOrder) : State :=
  if s.legacy p then s.setPort p fun q => { q with order := some (s.timed p o), reorder := none }
  else if s.orderGoes p o then
    let o := s.timed p o
    let c := s.orderCtrl p o
    (s.setPort p fun q => { q with order := some o, reorder := none }).sendCtrl p c.1 c.2
  else s.setPort p fun q => { q with reorder := some o.untimed }

/-- An order that waits is tried again. -/
def State.retryOrder (s : State) (p : Nat) : State :=
  match (s.port p).reorder with
  | some o => s.placeOrder p o
  | none => s

/-- The next control packet goes out, and then an order that waits for it. -/
def State.controlNext (s : State) (p : Nat) : State := (s.nextControl p).retryOrder p

/-- A valid CAP record is at hand in LINKED: ACTIVE at once at 1.25 Gbit/s both ways, else a rate change is ordered (Table 08-4, R238). -/
def State.capInLinked (s : State) (p : Nat) : State :=
  if s.dnTarget p = 0 ∧ s.upTarget p = 0 then s.portActive p true else s.placeOrder p (.rate (s.dnTarget p) (s.upTarget p) 0)

/-- A PRBS test starts on a port; where Totality holds the port it ends at once in RETRAIN (Table 08-4). -/
def State.startPrbs (s : State) (p : Nat) (r : PrbsRun) : State :=
  let s := ((s.setLane p lanePrbs).setPort p fun q => { q with order := none, prbs := some r }).fsetb (R.TILE_PRBS_STAT_RUNNING p) true
  if s.totHolds p then s.endPrbs p else s

/-- The tick that an order names, in ns. -/
def TickOrder.tick : TickOrder → Nat
  | .rate _ _ t => t
  | .prbs _ _ _ t => t

/-- The marker of the tick that an order names has been sent: both directions switch, or the pattern starts (R239, R252). A rate change placed anew after a retrain is taken from ACTIVE as well (DEDUCED, log entry 122). -/
def State.obeyOrder (s : State) (p : Nat) : TickOrder → State
  | .rate dn up _ =>
    if s.lane p == laneLinked || s.lane p == laneActive then
      let s := (s.setLane p laneRateTrain).setPort p fun q => { q with order := none, hs := {}, rx := {}, wire := [], dataOpen := false }
      ((s.fset (R.TILE_LANE_STATUS_DN_RATE p) dn).fset (R.TILE_LANE_STATUS_UP_RATE p) up).startTrn p
    else s
  | .prbs pat dn up _ => if s.lane p == laneActive then s.startPrbs p ⟨pat, dn, up⟩ else s

/-- A marker has been sent: an order that names its tick takes effect; one whose tick has gone by without a marker, its surface having been enabled or stopped since, is placed anew (DESIGN CHOICE, log entry 152). -/
def State.takeOrder (s : State) (p tickNs : Nat) : State :=
  match (s.port p).order with
  | none => s
  | some o =>
    if tickNs < o.tick then s
    else if o.tick < tickNs then s.setPort p fun q => { q with order := none, reorder := some o.untimed }
    else s.obeyOrder p o

/-- Latencies of Table 14-3 by rate code. -/
def txLat (code : Nat) : Nat := nth [96, 52, 30, 22] code
def rxLat (code : Nat) : Nat := nth [120, 64] code

/-- The lane delay D_dn in force; LEG_DN_NS on a legacy port (R445, R448). -/
def State.dDn (s : State) (p : Nat) : Int :=
  if s.legacy p then s.fget (R.TILE_TIME_LEG_LEG_DN_NS p) else s.fint (R.TILE_TIME_MEAS_DN_NS p)

/-- The instant at which the marker of a tick is issued: before the tick by the device's latency, the lane delay and the tile's MARKER_LAT_NS, which is 0 on a legacy port (R446, R448). -/
def State.markerAt (s : State) (p tickNs : Nat) : Int :=
  let lat := if s.legacy p then 0 else match (s.port p).cap with | some c => leAt c.raw 12 2 | none => 0
  (tickNs : Int) - (txLat (s.fget (R.TILE_LANE_STATUS_DN_RATE p)) : Int) - s.dDn p - (lat : Int)

/-- A K28.2 marker goes out on a port: a new D_dn takes effect (R445), a SCALE that is due is the first CTRL after it (R538), the order that names the tick is taken, and one that waits is tried again. -/
def markPort (tickNs p : Nat) (s : State) : State :=
  let s := ((s.exitIdle p).send (.marker p (s.markerAt p tickNs))).setPort p fun q => { q with timed := false }
  let s := match (s.port p).dnNext with
    | some d => (s.fseti (R.TILE_TIME_MEAS_DN_NS p) d).setPort p fun q => { q with dnNext := none }
    | none => s
  let s := if (s.port p).scaleDue && s.canSend p && s.configures p then
      (s.sendCtrlFirst p ctrlScale (leBytes 2 (s.tileScale p))).setPort p fun q => { q with scaleDue := false, scale := s.tileScale p }
    else s
  (s.takeOrder p tickNs).retryOrder p

/-- RATE_FAILS of a unit. -/
def rateFailsFld (u : Nat) : Fld := laneFld u R.TILE_LANE_EVT_RATE_FAILS R.TWIN_LANE_EVT_RATE_FAILS

/-- Two rate failures in a row at the same targets on a port: one step lower down, 1.25 Gbit/s up (R239). -/
def State.portRateFail (s : State) (p : Nat) : State :=
  if (s.port p).rateFails + 1 < 2 then s.setPort p fun q => { q with rateFails := q.rateFails + 1 }
  else
    let d := s.dnTarget p - 1
    let s := (s.setPort p fun q => { q with rateFails := 0, dnLimit := d, upLimit := 0 }).fsetb (R.TILE_LANE_STATUS_RATE_LOW p) true
    s.linkEvent p 6 d

/-- The same on a twin link. -/
def State.linkRateFail (s : State) (t : Nat) : State :=
  if (nth s.twin.links t).rateFails + 1 < 2 then s.setLink t fun q => { q with rateFails := q.rateFails + 1 }
  else
    let r := s.linkRate t - 1
    (s.setLink t fun q => { q with rateFails := 0, limit := r }).twinLinkEvent t 6 r

/-- RATE_TRAIN does not complete within 20 µs (Table 08-4). -/
def xRateTrainTimeout (u : Nat) (s : State) : State :=
  if !s.unitOn u || s.laneOf u != laneRateTrain then s else
  let s := s.fadd (rateFailsFld u) 1
  let s := s.unitEvent u 5 (s.fget (rateFailsFld u))
  let s := if u < 24 then (s.portRateFail u).laneFault u 0 else s.linkRateFail (linkOf u)
  s.enterTrain u

/-! ## Retrains -/

/-- Attempts of the retrain in progress. -/
def State.retrainTries (s : State) (u : Nat) : Nat := if u < 24 then (s.port u).retrains else (nth s.twin.links (linkOf u)).retrains

/-- 100 µs pass without completion: again, or at the third time TRAIN (Table 08-4). -/
def xRetrainTimeout (u : Nat) (s : State) : State :=
  if !s.unitOn u || s.laneOf u != laneRetrain then s
  else if s.retrainTries u < 3 then
    let s := s.setHsAll u fun h => { h with trn1Rx := 0, trn1Tx := 0 }
    (if u < 24 then s.setPort u fun q => { q with retrains := q.retrains + 1 }
      else s.setLink (linkOf u) fun q => { q with retrains := q.retrains + 1 }).startTrn u
  else ((s.unitEvent u 3 (s.fget (retrainsFld u))).laneFault u 0).enterTrain u

/-- RETRAIN is written (Table 08-4). -/
def xLaneRetrain (u : Nat) (s : State) : State :=
  if s.unitOn u && laneIsUp (s.laneOf u) then s.loseActive u else s

/-! ## Electrical idle (R244 to R248) -/

/-- 1 µs with nothing to send on a lane that may idle (R244, R245). -/
def xIdleEntry (p : Nat) (s : State) : State :=
  if s.portOn p && s.lane p == laneActive && !s.legacy p && (!s.boundEnabled p || !s.owns p) && !s.totHolds p
      && (s.port p).unres.isEmpty && (s.port p).outQ.isEmpty && (s.port p).ctrlQ.isEmpty then
    (s.send (.orderedSet p 2 [])).setLane p laneIdle
  else s

/-- No 8 valid D21.5 within 400 ns of the input leaving idle (R248). From LINKED the lock that is lost so leads to TRAIN (Table 08-4; DEDUCED, log entry 154). -/
def xExitFail (p : Nat) (s : State) : State :=
  if s.portOn p && !s.legacy p && (laneIsUp (s.lane p) || (s.lane p == laneLinked && s.upIdle p)) then
    let linked := s.lane p == laneLinked
    let s := (s.fadd (R.TILE_LANE_EVT_EXIT_FAILS p) 1).fsetb (R.TILE_LANE_STATUS_UP_IDLE p) false
    let s := ((s.linkEvent p 7 (s.fget (R.TILE_LANE_EVT_EXIT_FAILS p))).laneFault p 0).dropLocks p [0]
    if linked then s.enterTrain p else s.enterRetrain p
  else s

/-! ## The reference (R233) -/

/-- The reference on LNREF is lost: fault 25, and every lane loses lock, but for a legacy lane pair, whose receivers are off (R258). -/
def xLnrefLost (s : State) : State :=
  if !s.pins.lnref then s else
  let s := { s with pins := { s.pins with lnref := false } }
  let s := if s.domOn 6 then (s.fsetb R.TILE_REFOUT_LNREF_LOST true).eventDev 0x06 0x0060 (u8 0xFF ++ u8 0x0B ++ leBytes 4 0) else s
  let lost := (List.range 26).filter fun u => s.unitOn u && !s.legacyUnit u
  let s := ({ s with safe := { s.safe with refLanes := maskOf (lost.filter fun u => s.laneOf u != laneOff) } }).raise 25 0 0
  overList (fun u s => s.lockLost u (lanesOf u)) lost s

/-- The reference returns: the lanes train again. -/
def xLnrefReturn (s : State) : State :=
  if s.pins.lnref then s else
  let s := { s with pins := { s.pins with lnref := true } }
  (overList (fun u s => if s.unitOn u && laneTrains (s.laneOf u) then s.startTrn u else s) (List.range 26) s).refOver

/-! ## PRBS and loop-back (R251 to R255) -/

/-- An accepted START clears what the last test left (Table 08-9). -/
def State.prbsClear (s : State) (p : Nat) : State :=
  let s := ((s.fset (R.TILE_PRBS_ERR_LOCAL_COUNT p) 0).fset (R.TILE_PRBS_BITS_COUNT p) 0).fset (R.TILE_PRBS_ERR_REMOTE_COUNT p) 0
  (s.fsetb (R.TILE_PRBS_STAT_DONE p) false).fsetb (R.TILE_PRBS_STAT_SYNC p) false

/-- PATTERN, 3 treated as 2. -/
def prbsPattern (v : Nat) : Nat := min v 2

/-- A START with LOOP 0: an order naming a lane tick, or PRBS_REFUSED (R252); on a legacy port no order goes out (Table 09-13). -/
def State.portPrbs (s : State) (p : Nat) : State :=
  if s.lane p != laneActive || s.boundEnabled p then s.fsetb (R.TILE_LANE_STATUS_PRBS_REFUSED p) true
  else
    let pat := prbsPattern (s.fget (R.TILE_PRBS_CTRL_PATTERN p))
    let dn := s.fbit (R.TILE_PRBS_CTRL_DN p)
    let up := s.fbit (R.TILE_PRBS_CTRL_UP p) && !s.legacy p
    ((s.fsetb (R.TILE_LANE_STATUS_PRBS_REFUSED p) false).prbsClear p).placeOrder p (.prbs pat dn up 0)

/-- A START on a twin link runs at once (R261). -/
def State.linkPrbs (s : State) (u : Nat) : State :=
  let t := linkOf u
  if s.laneOf u != laneActive then s else
  let s := (s.fset (R.TWIN_PRBS_ERR_LOCAL_COUNT t) 0).fset (R.TWIN_PRBS_BITS_COUNT t) 0
  let s := (s.fsetb (R.TWIN_PRBS_STAT_DONE t) false).fsetb (R.TWIN_PRBS_STAT_SYNC t) false
  let run : PrbsRun := ⟨prbsPattern (s.fget (R.TWIN_PRBS_CTRL_PATTERN t)), s.fbit (R.TWIN_PRBS_CTRL_DN t), s.fbit (R.TWIN_PRBS_CTRL_UP t)⟩
  (((s.setLane u lanePrbs).fsetb (R.TWIN_PRBS_STAT_RUNNING t) true).setLink t fun q => { q with prbs := some run }).linkWatch

/-- A write of START with LOOP 0, or on a twin link. -/
def xPrbsStart (u : Nat) (s : State) : State :=
  if !s.unitOn u then s else if u < 24 then (if s.fbit (R.TILE_PRBS_CTRL_LOOP u) then s else s.portPrbs u) else s.linkPrbs u

/-- A write of START with LOOP 1: accepted while EN is 0 and the domain is on; the lane runs inside the device at the rate of DN_MAX, its pins in idle; a Sounding loop-back on the port ends without a result (R255, R559). -/
def xLoopbackStart (p : Nat) (s : State) : State :=
  if !s.portOn p || s.fbit (R.TILE_LANE_CTRL_EN p) || !s.fbit (R.TILE_PRBS_CTRL_LOOP p) then s else
  let run : PrbsRun := ⟨prbsPattern (s.fget (R.TILE_PRBS_CTRL_PATTERN p)), true, true⟩
  let s := (s.setPort p fun q => { q with sounding := false, prbs := some run }).prbsClear p
  let s := s.fset (R.TILE_LANE_STATUS_DN_RATE p) (s.fget (R.TILE_LANE_CFG_DN_MAX p))
  let s := (s.fsetb (R.TILE_LANE_STATUS_PRBS_REFUSED p) false).fsetb (R.TILE_PRBS_STAT_RUNNING p) true
  s.setLane p laneLoopback

/-- The result of the checkers of some lanes, their counts summed (Table 08-10). -/
def prbsResult (cs : List Checker) : PrbsResult :=
  cs.foldl (fun r c => ⟨r.errs + c.errs, r.bits + c.checked / 1024, r.resyncs + c.resyncs, r.sync && c.sync⟩) {}

/-- The result of a run over the bits received on its lanes; a direction that carries no pattern is not checked (R252). -/
def PrbsRun.result (r : PrbsRun) (lanes : List (List Bool)) : PrbsResult :=
  if r.up then prbsResult (lanes.map (checkBits r.pattern)) else { sync := false }

/-- A test on a tile port ends. -/
def State.portPrbsDone (s : State) (p : Nat) (r : PrbsResult) : State :=
  let s := (s.portPrbsCount p r).fsetb (R.TILE_PRBS_STAT_DONE p) true
  s.linkEvent p 0x0A (s.fget (R.TILE_PRBS_ERR_LOCAL_COUNT p))

/-- A test on a twin link ends. -/
def State.linkPrbsDone (s : State) (t : Nat) (r : PrbsResult) : State :=
  let s := (s.linkPrbsCount t r).fsetb (R.TWIN_PRBS_STAT_DONE t) true
  s.twinLinkEvent t 0x0A (s.fget (R.TWIN_PRBS_ERR_LOCAL_COUNT t))

/-- The duration of a PRBS test or of a host loop-back ends (R253, R255, R261): its checkers took these bits on lanes 0 and 1, a tile port's on lane 0. -/
def xPrbsEnd (u : Nat) (bits0 bits1 : List Bool) (s : State) : State :=
  if !s.unitOn u then s
  else if s.laneOf u = lanePrbs then
    if u < 24 then (s.portPrbsDone u (((s.port u).prbs.getD {}).result [bits0])).dropLocks u [0] |>.enterRetrain u
    else ((s.linkPrbsDone (linkOf u) (((nth s.twin.links (linkOf u)).prbs.getD {}).result [bits0, bits1])).dropLocks u [0, 1]).enterTrain u
  else if s.laneOf u = laneLoopback ∧ u < 24 ∧ !(s.port u).sounding then
    ((s.portPrbsDone u (((s.port u).prbs.getD {}).result [bits0])).fset (R.TILE_LANE_STATUS_DN_RATE u) 0).setLane u laneOff
  else s

/-! ## Forwarded-clock legacy mode (R257 to R260) -/

/-- Whether LEGACY can take effect on a port: an even one from 6 to 22 whose partner's EN is 0 (R257). -/
def State.legacyFits (s : State) (p : Nat) : Bool :=
  p % 2 == 0 && decide (6 ≤ p) && decide (p ≤ 22) && !s.fbit (R.TILE_LANE_CTRL_EN (p + 1))

/-- TILE_TIME_MEAS shows the D_dn in force of a port whose LEGACY or LEG_DN_NS is written; a native port has no measurement yet (R448, Table 14-7). -/
def State.showLegDn (s : State) (p : Nat) : State :=
  s.fset (R.TILE_TIME_MEAS_DN_NS p) (if s.legacy p then s.fget (R.TILE_TIME_LEG_LEG_DN_NS p) else 0)

/-- A write of LEGACY on a port that is off: taken where it can take effect, else LEGACY_REFUSED, which stays until the next write of 1 that is taken (R257; log entry 70). -/
def xLegacyEnable (p : Nat) (on : Bool) (s : State) : State :=
  if !s.portOn p then s
  else if on && !s.legacyFits p then s.fsetb (R.TILE_LANE_STATUS_LEGACY_REFUSED p) true
  else if s.fbit (R.TILE_LANE_CTRL_EN p) then s
  else if on then ((s.fsetb (R.TILE_LANE_CTRL_LEGACY p) true).fsetb (R.TILE_LANE_STATUS_LEGACY_REFUSED p) false).showLegDn p
  else if s.legacy p then (s.fsetb (R.TILE_LANE_CTRL_LEGACY p) false).showLegDn p
  else s

/-- TILE_ALERT_N has been high for 100 µs, at least 1 ms into TRAIN (R259). -/
def xLegacyActive (p : Nat) (s : State) : State :=
  if s.portOn p && s.legacy p && s.lane p == laneTrain then
    (s.alertPin p false).portActive p true
  else s

/-- TILE_ALERT_N of a port low for 10 µs, or high again: LINK_EVENT LEGACY_ALERT and fault 24 on a legacy port in ACTIVE (R260, Table 08-9, Table 11-6). -/
def xLegacyAlert (p : Nat) (low : Bool) (s : State) : State :=
  let s := s.alertPin p low
  if low && s.portOn p && s.legacy p && s.lane p == laneActive then (s.linkEvent p 9 0).raise 24 p 0 else s

/-- TILE_ALERT_N low for 1 ms (R260). -/
def xLegacyAlertRetrain (p : Nat) (s : State) : State :=
  if s.portOn p && s.legacy p && s.lane p == laneActive then ((s.alertPin p true).laneFault p 0).enterTrain p else s

/-! ## Twin lanes (R261, R263) -/

/-- A twin link is brought up from OFF. -/
def linkUp (t : Nat) (s : State) : State :=
  if s.fbit (R.TWIN_LANE_CTRL_EN t) then s
  else ((s.fsetb (R.TWIN_LANE_CTRL_EN t) true).setLink t fun q => { q with limit := 3, rateFails := 0, badDigests := 0 }).enterTrain (24 + t)

/-- A twin link is turned off. -/
def linkDown (t : Nat) (s : State) : State :=
  let s := (((s.cutLinkPrbs t).fsetb (R.TWIN_LANE_CTRL_EN t) false).setLane (24 + t) laneOff).setLink t fun q => { q with hs := {}, hs1 := {}, rx0 := {}, rx1 := {}, prbs := none, retrains := 0 }
  (((s.fset (R.TWIN_LANE_STATUS_RATE t) 0).fsetb (R.TWIN_LANE_STATUS_DESKEWED t) false).fsetb (R.TWIN_PRBS_STAT_RUNNING t) false).linkWatch.refOver

/-- TWIN_LANE_CTRL.EN is set: straight to TRAIN (R261). -/
def xTwinLaneEnable (t : Nat) (s : State) : State := if s.domOn 8 then linkUp t s else s

/-- Whether the lanes of a link carry symbols: not in OFF, and not where both directions carry a PRBS pattern (R252, R263). -/
def State.symbolsRun (s : State) (t : Nat) : Bool :=
  let st := s.laneOf (24 + t)
  st != laneOff && !(st == lanePrbs && (match (nth s.twin.links t).prbs with | some r => r.dn | none => false))

/-- K28.3 missing from its slot, or a skew above 32 symbols: from LINKED and ACTIVE to RETRAIN, a link that trains going on with it (R263; DEDUCED, log entry 153). -/
def xDeskewFail (t : Nat) (skew : Int) (s : State) : State :=
  if !s.domOn 8 || !(s.symbolsRun t) then s else
  let st := s.laneOf (24 + t)
  let s := (s.fseti (R.TWIN_LANE_STATUS_SKEW t) skew).deskewFailed t
  if st == laneLinked || st == laneActive then (s.enterRetrain (24 + t)).linkWatch else s

/-! ## K28.3 (R263) -/

/-- 1,024 symbol slots of a twin lane in timebase ticks, by rate code. -/
def markPeriod (code : Nat) : Nat := nth [2048, 1024, 512, 320] code

/-- K28.3 goes out on both lanes of a link that carries symbols, in one slot of every 1,024, as timebase ticks pass. -/
def linkMarks (k t : Nat) (s : State) : State :=
  if s.domOn 8 && s.symbolsRun t then
    let period := markPeriod (s.fget (R.TWIN_LANE_STATUS_RATE t))
    let n := (nth s.twin.links t).markTicks + k
    (s.sends (rep (n / period) (Output.twinK t 3))).setLink t fun q => { q with markTicks := n % period }
  else s.setLink t fun q => { q with markTicks := 0 }

/-! ## What a downstream pair carries between packets and sets (R229, R255, R258, R259) -/

/-- What a transmitter sends while it has nothing else to send. -/
inductive Line where
  /-- The transmitter is off. -/
  | off
  /-- Electrical idle. -/
  | idle
  /-- Training sets: TRN1, or TRN0. -/
  | training (trn1 : Bool)
  /-- K28.5 in every symbol. -/
  | fill
  /-- The bits of a PRBS generator. -/
  | pattern (n : Nat)
  /-- The 1.25 GHz clock of a legacy pair. -/
  | clock
deriving DecidableEq, Repr

/-- The content of a lane in a state, with its handshake and PRBS test; a lane in legacy mode trains with fill. -/
def lineOf (legacy : Bool) (st : Nat) (h : Handshake) (run : Option PrbsRun) : Line :=
  if st = laneOff ∨ st = laneWait then .off
  else if laneTrains st then (if legacy then .fill else .training h.locked)
  else if st = laneIdle ∨ st = laneLoopback then .idle
  else if st = lanePrbs then (match run with | some r => if r.dn then .pattern r.pattern else .fill | none => .fill)
  else .fill

/-- What TDNp carries. The odd partner of a legacy port carries the clock while that port runs (R258). -/
def State.downLine (s : State) (p : Nat) : Line :=
  if !s.portOn p then .off
  else if s.legacyPartner p then (if s.lane (p - 1) = laneOff ∨ s.lane (p - 1) = laneWait then .off else .clock)
  else lineOf (s.legacy p) (s.lane p) (s.port p).hs (s.port p).prbs

/-- What a transmit lane of a twin link carries. -/
def State.twinLine (s : State) (t l : Nat) : Line :=
  if s.domOn 8 then lineOf false (s.laneOf (24 + t)) (s.hsOf (24 + t) l) (nth s.twin.links t).prbs else .off

end Sys2Proof.Machine
end

