-- ==== Sys2Proof/Machine/TileProto.lean ====
section
/-! DEFINITION. The tile protocol (chapter 9): upstream packets and their checks, acknowledgement and re-sending, CAP records and membership, STATUS, ownership and claims, and the ECHO measurements of R444 and R445. -/

namespace Sys2Proof.Machine

/-! ## Upstream packets (R268 to R272, R278) -/

/-- Packet types from a tile (Table 09-2). -/
def pktAck : Nat := 0x81
def pktHealth : Nat := 0x82
def pktStatus : Nat := 0x83
def pktCap : Nat := 0x84

/-- Whether a body length is one that Table 09-2 allows for an upstream type. -/
def upLenOk (kind : Nat) (body : List Byte) : Bool :=
  if kind = pktAck then body.length == 4
  else if kind = pktHealth then
    let c := leAt body 2 2
    decide (1 ≤ c) && decide (c ≤ 254) && body.length == 8 + 4 * c
  else if kind = pktStatus then body.length == 32
  else if kind = pktCap then body.length == 48
  else false

/-- Whether a PRBS test runs on a port's upstream lane. -/
def State.prbsUp (s : State) (p : Nat) : Bool := match (s.port p).prbs with | some r => r.up | none => false

/-- Whether a port receives packets: where its lane carries them, and in a PRBS test that leaves the upstream lane with symbols (R252). -/
def State.upOpen (s : State) (p : Nat) : Bool := !s.legacy p && (s.canSend p || (s.portOn p && s.lane p == lanePrbs && !(s.prbsUp p)))

/-- The candidate number of a received packet: 0 to 15 ahead of the expected one (R269). -/
def upCandidate (expect seqLo : Nat) : Nat := (expect + (seqLo + 16 - expect % 16) % 16) % 65536

/-- A packet passes its check: its number is accepted and the numbers before it are missing (R269, R278); an upstream lane that sends is not idle. -/
def State.acceptUp (s : State) (p seqLo : Nat) : State :=
  let e := s.fget (R.TILE_SEQ_UP_EXPECT p)
  let c := upCandidate e seqLo
  let s := (s.fset (R.TILE_SEQ_UP_EXPECT p) (c + 1)).fadd (R.TILE_CNT_UP_UP_GAP p) ((c + 65536 - e) % 65536)
  (s.setPort p fun q => { q with fails := 0 }).fsetb (R.TILE_LANE_STATUS_UP_IDLE p) false

/-- A packet of a type with a body: accepted, and discarded and counted where its LEN is not the type's (R272). The state where nothing may be used of it is the second part. -/
def State.takeUp (s : State) (p seqLo kind : Nat) (body : List Byte) : State × Bool :=
  if !s.upOpen p then (s, false)
  else
    let s := s.acceptUp p seqLo
    if upLenOk kind body then (s, true) else (s.fadd (R.TILE_CNT_UP_UP_FAIL p) 1, false)

/-- Whether the bytes between SOP and EOP check with the candidate number (R267, R268). -/
def State.upChecks (s : State) (p : Nat) (bytes : List Byte) (clean : Bool) : Bool :=
  let len := leAt bytes 2 2
  clean && bytes.length == 10 + len && decide (len ≤ 1024)
    && (let c := upCandidate (s.fget (R.TILE_SEQ_UP_EXPECT p)) (leAt bytes 1 1 % 16)
        leAt bytes (6 + len) 4 == crcWith (u8 p ++ u8 1 ++ leBytes 2 c) (bytes.take (6 + len)))

/-- A received packet that fails: counted, and 8 in a row retrain the port (R268 to R270, R278); one that passes its check with an unknown TYPE or a wrong LEN has its number accepted (R272). -/
def xUpstreamPacketDiscard (p : Nat) (bytes : List Byte) (clean : Bool) (s : State) : State :=
  if !s.upOpen p then s
  else if s.upChecks p bytes clean then
    if upLenOk (leAt bytes 0 1) ((bytes.drop 6).take (leAt bytes 2 2)) then s
    else (s.acceptUp p (leAt bytes 1 1 % 16)).fadd (R.TILE_CNT_UP_UP_FAIL p) 1
  else
    let s := s.fadd (R.TILE_CNT_UP_UP_FAIL p) 1
    if (s.port p).fails + 1 < 8 then s.setPort p fun q => { q with fails := q.fails + 1 }
    else (s.setPort p fun q => { q with fails := 0 }).enterRetrain p

/-! ## Acknowledgement and re-sending (R274 to R277) -/

/-- An unresolved packet leaves the list. -/
def State.dropSent (s : State) (p seq : Nat) : State := s.setPort p fun q => { q with unres := q.unres.filter fun u => u.seq != seq }

/-- A missing packet goes out again with the same header content and body, a new number and RETX (R275). -/
def State.resend (s : State) (p : Nat) (u : SentPkt) : State :=
  ((s.dropSent p u.seq).sendPkt p { u with resends := u.resends + 1 }).fadd (R.TILE_CNT_DN_RETX p) 1

/-- When the EOP of a packet of a body length would reach the tile, sent now, in ns of network time: behind what is on the lane, after the device's latency and the measured lane delay (R275, R444, R446). -/
def State.eopAt (s : State) (p len : Nat) : Nat :=
  s.nowNs + ((s.wireEnd p len - s.nowQ) / 4 + txLat (s.fget (R.TILE_LANE_STATUS_DN_RATE p)) + absNat (s.dDn p))

/-- Whether a packet sent again can still meet its deadline (Table 09-2). -/
def State.inTime (s : State) (p : Nat) (u : SentPkt) : Bool := u.due == 0 || decide (s.eopAt p u.body.length ≤ u.due)

/-- Whether a packet may go to the tile now: PHASE_DATA, SWAP, PROBE and LIMP_PAGE only while Totality is off the port and the last STATUS shows this device as owner at the epoch that the packet carries (R281, R315). -/
def State.mayGo (s : State) (p : Nat) (u : SentPkt) : Bool :=
  !pktHeldByTot u.kind || (!s.totHolds p && s.owns p && u.epoch == s.fget (R.TILE_EPOCH_TILE p))

/-- A line or SWAP packet that is not sent again waits for its deadline. -/
def State.loseSent (s : State) (p : Nat) (u : SentPkt) : State :=
  (s.dropSent p u.seq).setPort p fun q => { q with lost := q.lost ++ [u] }

/-- The third re-send of a control packet is missing: CTRL_FAIL, and the port retrains (R275). -/
def State.ctrlFail (s : State) (p : Nat) : State :=
  let s := s.fadd (R.TILE_CNT_MISC_CTRL_FAIL p) 1
  ((s.linkEvent p 0x13 (s.fget (R.TILE_CNT_MISC_CTRL_FAIL p))).raiseBrief 23 p 0).enterRetrain p

/-- The tick that a port's order names, in ns. -/
def Port.orderNs (q : Port) : Nat := match q.order with | some (.rate _ _ t) => t | some (.prbs _ _ _ t) => t | none => 0

/-- An order can no longer reach the tile 5 µs before its tick: it is dropped, and placed anew (Table 09-2). -/
def State.orderLate (s : State) (p seq : Nat) : State :=
  let s := s.dropSent p seq
  match (s.port p).order with
  | some o => s.setPort p fun q => { q with order := none, reorder := some o.untimed }
  | none => s

/-- A packet counts as missing (R274): re-sent where its deadline and its number of re-sends allow (Table 09-2). A limp page packet that may not go as it is waits, to go as a new one (R309, R315). -/
def State.pktMissing (s : State) (p : Nat) (u : SentPkt) : State :=
  if u.kind = pktPhaseData then (if s.mayGo p u && decide (u.resends < 2) && s.inTime p u then s.resend p u else s.loseSent p u)
  else if u.kind = pktSwap then (if s.mayGo p u && s.inTime p u then s.resend p u else s.loseSent p u)
  else if u.kind = pktProbe then (if s.mayGo p u && s.inTime p u then s.resend p u else s.dropSent p u.seq)
  else if !s.mayGo p u then
    (if u.kind = pktLimpPage then ((s.dropSent p u.seq).setPort p fun q => { q with again := q.again ++ [(u.kind, u.body)] }).resendLimp p else s)
  else if namesTick u.kind u.body && decide ((s.port p).orderNs < s.eopAt p u.body.length + 5000) then s.orderLate p u.seq
  else if u.resends < 3 then s.resend p u
  else s.ctrlFail p

/-- A MAP_LOAD KIND 5 whose packets have all been accepted completes (R128, R309). -/
def State.limpLoaded (s : State) (p : Nat) : State :=
  let q := s.port p
  if q.limp.isSome && !(q.unres ++ q.outQ).any (fun u => u.kind == pktLimpPage) && !q.again.any (fun e => e.1 == pktLimpPage) then s.limpLoadDone p
  else s

/-- What an ACK/NAK says of a number: accepted, missing, or nothing (R274). -/
def ackOf (ackSeq map n : Nat) : Option Bool :=
  let i := (ackSeq + 65535 - n) % 65536
  if i < 16 then some (bitOf map i) else none

/-- One unresolved packet under an ACK/NAK. -/
def ackOne (p ackSeq map : Nat) (u : SentPkt) (s : State) : State :=
  if !(s.port p).unres.any (fun v => v.seq == u.seq) then s else
  match ackOf ackSeq map u.seq with
  | some true => s.dropSent p u.seq
  | some false => s.pktMissing p u
  | none => s

/-- An ACK/NAK resolves downstream packets (R274 to R276). -/
def xAckNakReceived (p seqLo : Nat) (body : List Byte) (s : State) : State :=
  let r := s.takeUp p seqLo pktAck body
  if !r.2 then r.1 else
  let us := (r.1.port p).unres
  let s := us.foldl (fun s u => ackOne p (leAt body 0 2) (leAt body 2 2) u s) r.1
  (s.limpLoaded p).controlNext p

/-- 6 µs have passed since the EOP of a packet that is still unresolved (R274). -/
def xAckTimeout (p seq : Nat) (s : State) : State :=
  match (s.port p).unres.find? fun u => u.seq == seq with
  | some u => if s.canSend p then (s.pktMissing p u).controlNext p else s
  | none => s

/-- A line packet has missed its deadline, whether it has a number or still waits for the lane (R277). -/
def xLinePacketDeadline (p seq : Nat) (s : State) : State :=
  let line (u : SentPkt) : Bool := u.kind == pktPhaseData && (u.seq == seq || (u.seq == noSeq && decide (u.due ≤ s.nowNs)))
  if !((s.port p).unres ++ (s.port p).lost ++ (s.port p).outQ).any line then s
  else
    let s := s.setPort p fun q =>
      if q.unres.any line then { q with unres := q.unres.filter fun u => u.seq != seq }
      else if q.lost.any line then { q with lost := q.lost.eraseP line } else { q with outQ := q.outQ.eraseP line }
    let s := s.fadd (R.TILE_CNT_DN_LINES_LOST p) 1
    if (s.port p).lineTold then s
    else ((s.setPort p fun q => { q with lineTold := true }).linkEvent p 0x0D (s.fget (R.TILE_CNT_DN_LINES_LOST p))).raiseBrief 23 p 0

/-- A SWAP is still missing at its deadline (R294). -/
def xSwapDeadline (p : Nat) (s : State) : State :=
  let swap (u : SentPkt) : Bool := u.kind == pktSwap
  if !((s.port p).unres ++ (s.port p).lost ++ (s.port p).outQ).any swap then s
  else
    let s := s.setPort p fun q =>
      if q.lost.any swap then { q with lost := q.lost.eraseP swap }
      else if q.unres.any swap then { q with unres := q.unres.eraseP swap } else { q with outQ := q.outQ.eraseP swap }
    let s := s.fadd (R.TILE_CNT_MISC_SWAP_MISS p) 1
    (s.linkEvent p 0x0E (s.fget (R.TILE_CNT_MISC_SWAP_MISS p))).raiseBrief 23 p 0

/-! ## CAP records and membership (R283, R284, R633, R634) -/

/-- The first check of R283 that a record fails, 0 for none; every rate code is valid. -/
def capErr (b : List Byte) : Nat :=
  let tw := leAt b 8 2
  let th := leAt b 10 2
  let fm := bitOf (leAt b 6 1) 0
  if leAt b 5 1 ≠ 1 then 1
  else if tw < 64 ∨ 512 < tw ∨ tw % 32 ≠ 0 ∨ th < 64 ∨ 256 < th ∨ th % 8 ≠ 0 then 2
  else if fm && (decide (leAt b 22 2 < th / 8) || decide (leAt b 28 4 < 16 + tw * th * 3 / 2)) then 3
  else if leAt b 6 1 / 8 ≠ 0 ∨ leAt b 7 1 / 8 ≠ 0 ∨ leAt b 25 3 ≠ 0 then 5
  else 0

/-- A record as the device keeps it. -/
def capOf (b : List Byte) : Cap :=
  { raw := b, frameMem := bitOf (leAt b 6 1) 0, tw := leAt b 8 2, th := leAt b 10 2, dnRate := leAt b 7 1 % 4, upRate := bitsOf (leAt b 7 1) 2 1 }

/-- Offset of TILE_CAP_w of a port. -/
def capAddr (p w : Nat) : Nat := 0x60070 + p * 0x800 + 4 * w

/-- A valid record is stored and readable (R283). -/
def State.storeCap (s : State) (p : Nat) (b : List Byte) : State :=
  let s := s.setPort p fun q => { q with cap := some (capOf b), capOk := true }
  let s := overAll 12 (fun w s => s.wr (capAddr p w) (BitVec.ofNat 32 (leAt b (4 * w) 4))) s
  (s.fsetb (R.TILE_PROTO_STATUS_CAP_VALID p) true).fset (R.TILE_PROTO_STATUS_CAP_ERR p) 0

/-- A port is kept out of its surface with a code of Table 02-8 (R633, R634). -/
def State.refusePort (s : State) (p code : Nat) : State :=
  (s.fsetb (R.TILE_PROTO_STATUS_PORT_REFUSED p) true).linkEvent p 0x14 code

/-- The first of R42, R43 and R54 that a port would break in a running surface, 0 for none. -/
def State.joinErr (s : State) (n p : Nat) (m : Member) : Nat :=
  let b := s.bindOf p
  let f := b.foot m
  let others := ((s.gen n).members ++ (s.gen n).joins).filter fun q => q.port != p
  if !(decide (f.1 + f.2.2.1 ≤ s.canvasW n) && decide (f.2.1 + f.2.2.2 ≤ s.canvasH n)
      && others.all fun q => rectsApart f ((s.bindOf q.port).foot q)) then 2
  else if m.frameMem && decide (6 ≤ p) then 3
  else if !laneOk m b.mbps (s.gen n).grid then 8
  else 0

/-- A valid CAP record arrives on a port bound to an enabled surface: a newcomer joins at the next F-tick or is refused, a member with other values leaves (R633, R634). A point that the spec leaves open here: DESIGN CHOICE, log entry 137. -/
def State.capMembership (s : State) (p : Nat) : State :=
  match s.boundTo p, s.portGeom p with
  | some n, some m =>
    if !(s.running n || (s.gen n).startF.isSome) then s else
    match (s.gen n).members.find? fun q => q.port == p with
    | some q =>
      if q == m || (s.gen n).leaves.contains p then s
      else (s.setGen n fun g => { g with leaves := g.leaves ++ [p] }).refusePort p 2
    | none =>
      if s.fbit (R.TILE_PROTO_STATUS_PORT_REFUSED p) then s else
      let e := s.joinErr n p m
      let s := s.setGen n fun g => { g with joins := g.joins.filter fun q => q.port != p }
      if e = 0 then s.setGen n fun g => { g with joins := g.joins ++ [m] } else s.refusePort p e
  | _, _ => s

/-! ## Claims (R315, R410) -/

/-- CLAIM with an epoch (R313). -/
def State.sendClaim (s : State) (p epoch : Nat) : State :=
  let s := (s.fset (R.TILE_EPOCH_CLAIMED p) epoch).setPort p fun q => { q with claimOut := true }
  s.sendControl p pktClaim [0, 0, 0, 0]

/-- A tile of a bound port is claimed, with the epoch of its last STATUS plus 1, for the first S-tick of its surface at least 20 µs from now: at once, or after an S-tick that comes before then (R426, R427); a legacy tile is not claimed (Table 09-13). -/
def claimBound (p : Nat) (s : State) : State :=
  let soon := match s.boundTo p with
    | some n => s.running n && s.scanAhead n && decide ((s.gen n).advance.2.sQ < (s.nowNs + 20000) * 2 ^ 32)
    | none => false
  if s.legacy p then s
  else if soon then { s with twin := { s.twin with claimAfter := s.twin.claimAfter ++ [p] } }
  else s.sendClaim p (s.fget (R.TILE_EPOCH_TILE p) + 1)

/-- CLAIMs that waited for an S-tick of a surface. -/
def State.claimsDue (s : State) (n : Nat) : State :=
  let ps := s.twin.claimAfter.filter fun p => s.boundTo p == some n
  if ps.isEmpty then s else
  let s := { s with twin := { s.twin with claimAfter := s.twin.claimAfter.filter fun p => !ps.contains p } }
  overList (fun p s => s.sendClaim p (s.fget (R.TILE_EPOCH_TILE p) + 1)) ps s

/-- The claim of CLAIM_AUTO: after a valid CAP and the tile's first STATUS, unless this interface already owns the tile; while TWIN_CTRL.EN is 1 it is ignored (R315, R410). -/
def State.autoClaim (s : State) (p : Nat) : State :=
  if s.fbit (R.TILE_PROTO_CFG_CLAIM_AUTO p) && !(s.domOn 8 && s.fbit R.TWIN_CTRL_EN) && !s.owns p then
    s.sendClaim p (s.fget (R.TILE_EPOCH_TILE p) + 1)
  else s

/-- The claim of a LEAD for a bound tile that its STATUS shows without an owner: one that was not there when the device took the lead, or that lost its owner since (R410, R411; DEDUCED, log entry 131). An IMPAIRED device claims nothing (R425). -/
def State.claimAsLead (s : State) (p : Nat) : State :=
  if s.isLead && (s.boundTo p).isSome && (s.port p).capOk && !(s.port p).claimOut && !s.legacy p
      && s.fget (R.TILE_PROTO_STATUS_OWNER p) == 0 && !s.fbit R.TWIN_STATUS_IMPAIRED then
    s.sendClaim p (s.fget (R.TILE_EPOCH_TILE p) + 1)
  else s

/-- A CAP record arrives (R283). -/
def xCapReceived (p seqLo : Nat) (body : List Byte) (s : State) : State :=
  let r := s.takeUp p seqLo pktCap body
  if !r.2 then r.1 else
  let s := r.1
  let e := capErr body
  if e ≠ 0 then (s.fset (R.TILE_PROTO_STATUS_CAP_ERR p) e).linkEvent p 0x0C e
  else
    let new := (s.port p).cap.map (·.raw) != some body
    let first := !(s.port p).capOk && (s.port p).statusSeen
    let s := if new then s.limpTargetLost p else s
    let s := if new then s.setPort p fun q => { q with rateFails := 0 } else s
    let s := (s.storeCap p body).capMembership p
    let s := if first then s.autoClaim p else s
    if s.lane p = laneLinked then (if (s.port p).order.isSome then s else s.capInLinked p)
    else if new then s.portTrain p
    else s

/-- 100 µs without a valid CAP since PORT_ID (R284). -/
def xCapRequestTimer (p : Nat) (s : State) : State :=
  if s.portOn p && s.lane p == laneLinked && !s.legacy p && !(s.port p).capOk then s.sendCtrl p ctrlCapReq [] else s

/-! ## ECHO (R301, R444, R445) -/

/-- Insertion into an ascending list. -/
def insInt (v : Int) : List Int → List Int
  | [] => [v]
  | a :: t => if v ≤ a then v :: a :: t else a :: insInt v t

/-- Median of a list: the middle value, or the mean of the two middle ones rounded down. -/
def medianOf (vs : List Int) : Int :=
  let l := vs.foldl (fun a v => insInt v a) []
  let n := l.length
  if n % 2 = 1 then nth l (n / 2) else (nth l (n / 2 - 1) + nth l (n / 2)) / 2

/-- D_dn from one round trip (R444). -/
def State.echoDelay (s : State) (p rt : Nat) : Int :=
  let turn := match (s.port p).cap with | some c => leAt c.raw 14 2 | none => 0
  let w : Int := (rt : Int) - (turn : Int) - (txLat (s.fget (R.TILE_LANE_STATUS_DN_RATE p)) : Int) - (rxLat (s.fget (R.TILE_LANE_STATUS_UP_RATE p)) : Int)
  w / 2 + s.fint (R.TILE_TIME_CFG_ASYM_NS p)

/-- The answer to an ECHO: the median of the last 8 measurements takes effect at the port's next tick; a jump above 20 ns is counted (R445). -/
def State.echoAnswer (s : State) (p id rt : Nat) : State :=
  if !(s.port p).echoOut.contains id then s else
  let vs := (s.port p).echoes ++ [s.echoDelay p rt]
  let vs := vs.drop (vs.length - 8)
  let d := medianOf vs
  let jump := decide (20 < absNat (d - s.fint (R.TILE_TIME_MEAS_DN_NS p)))
  let s := s.setPort p fun q => { q with echoOut := q.echoOut.filter (· != id), echoes := vs, dnNext := some d }
  if jump then s.fadd (R.TILE_TIME_MEAS_JUMPS p) 1 else s

/-- ECHO_MS has passed on a port in ACTIVE (R445, R448). -/
def xEchoTimer (p : Nat) (s : State) : State := if s.laneUp p && !s.legacy p then sendEcho p s else s

/-- An ECHO has no answer after 10 µs (R445). -/
def xEchoTimeout (p id : Nat) (s : State) : State := s.setPort p fun q => { q with echoOut := q.echoOut.filter (· != id) }

/-! ## A STATUS and the twin pair (Table 13-2, R426, R427) -/

/-- The ports bound to a surface. -/
def State.boundPorts (s : State) : List Nat := (List.range 24).filter fun p => (s.boundTo p).isSome

/-- Whether a port's last STATUS shows the peer's interface as owner. -/
def State.peerOwns (s : State) (p : Nat) : Bool := s.fget (R.TILE_PROTO_STATUS_OWNER p) != 0 && !s.owns p

/-- The device's TILE_EN holds that a COMPANION took from its LEAD become its own (R420): one for each SHORT or STUCK_ON pixel of the port's map, else one for the whole port. -/
def State.ownHolds (s : State) (p : Nat) : List TileHold :=
  let ds := ((s.hl p).defects ++ ((s.hl p).lead.map Prod.snd)).filter fun d => (d.cls == clShort && !d.isolated) || d.cls == clStuckOn
  if ds.isEmpty then [⟨p, 19, 0⟩] else ds.map fun d => ⟨p, if d.cls = clShort then 17 else 18, d.idx⟩

/-- The network time in ns at which the claim that a port's STATUS shows took effect: the last S-tick of its surface, where that came after the last heartbeat, else now (R314, Table 13-11). -/
def State.claimedAt (s : State) (p : Nat) : Nat :=
  match s.boundTo p with
  | some n => let t := (s.gen n).sQ / 2 ^ 32; if s.running n && decide (s.twin.hbAt ≤ t) then min t s.nowNs else s.nowNs
  | none => s.nowNs

/-- The COMPANION becomes LEAD: the holds of R420, TWIN_TAKEOVER with the time from the last heartbeat to the claims in effect (R431), and the event. -/
def State.becomeLead (s : State) (p : Nat) : State :=
  let ps := maskList 24 s.twin.peerHeld
  let s := { s with safe := { s.safe with holds := s.safe.holds ++ ps.flatMap s.ownHolds } }
  let s := s.fset R.SAFE_TILE_HELD_PORTS (s.fget R.SAFE_TILE_HELD_PORTS ||| s.twin.peerHeld)
  let take := s.twin.handover == .takeover
  let us := min 65535 ((s.claimedAt p - s.twin.hbAt) / 1000)
  let s := ((s.fset R.TWIN_STATUS_ROLE roleLead).fset R.TWIN_TAKEOVER_LAST_US us).fadd R.TWIN_TAKEOVER_COUNT 1
  let s := { s with twin := { s.twin with handover := .none, peerHeld := 0, arb := [] } }
  s.twinEvent (if take then 3 else 5) (s.fget (R.TILE_EPOCH_TILE p)) 0

/-- The LEAD follows: a handover or a yield that has moved every bound tile is complete, and a tile taken otherwise deposes it (Table 13-2). -/
def State.leadFollows (s : State) (p : Nat) : State :=
  let yields := s.fbit R.TWIN_STATUS_YIELDING
  if s.twin.handover = .none && !yields then
    (s.fset R.TWIN_STATUS_ROLE roleCompanion).twinEvent 7 (s.fget (R.TILE_EPOCH_TILE p)) 0
  else if s.boundPorts.all fun q => !s.owns q then
    let imp := yields || s.twin.handover == .arbitration
    let s := (s.fset R.TWIN_STATUS_ROLE roleCompanion).fsetb R.TWIN_STATUS_IMPAIRED (imp || s.fbit R.TWIN_STATUS_IMPAIRED)
    let s := s.fsetb R.TWIN_STATUS_YIELDING false
    let s := { s with twin := { s.twin with handover := .none } }
    s.twinEvent 5 (s.fget (R.TILE_EPOCH_TILE p)) 0
  else s

/-- What a STATUS means for the roles of a pair. -/
def State.twinStatus (s : State) (p : Nat) : State :=
  if (s.boundTo p).isNone then s
  else if s.isLead && s.peerOwns p then s.leadFollows p
  else if s.isCompanion && s.owns p && s.twin.handover != .none then s.becomeLead p
  else s

/-! ## STATUS (R299, R315, Table 09-11) -/

/-- The registers that copy a STATUS. -/
def State.copyStatus (s : State) (p : Nat) (b : List Byte) : State :=
  let o := leAt b 0 1
  let s := (s.fset (R.TILE_PROTO_STATUS_OWNER p) (o % 4)).fsetb (R.TILE_PROTO_STATUS_OWN p) (bitOf o 2)
  let s := (s.fsetb (R.TILE_PROTO_STATUS_DARK_HOLD p) (bitOf o 5)).fsetb (R.TILE_PROTO_STATUS_LIMP_SHOWN p) (bitOf o 6)
  let s := (s.fsetb (R.TILE_PROTO_STATUS_LIMP_VALID p) (bitOf (leAt b 1 1) 0)).fset (R.TILE_PROTO_STATUS_ISOLATED p) (leAt b 26 1)
  let s := (s.fset (R.TILE_EPOCH_TILE p) (leAt b 2 2)).fset (R.TILE_REMOTE_C_TEMP p) (leAt b 4 2)
  let s := (s.fset (R.TILE_REMOTE_C_ALERT p) (leAt b 6 2)).alertPin p (leAt b 6 2 != 0)
  let s := (s.fset (R.TILE_REMOTE_A_DN_FAIL p) (leAt b 8 2)).fset (R.TILE_REMOTE_A_LINES_DARK p) (leAt b 10 2)
  let s := (s.fset (R.TILE_REMOTE_B_LATE p) (leAt b 12 2)).fset (R.TILE_REMOTE_B_OWNER_REJECT p) (leAt b 14 2)
  let s := (s.fset (R.TILE_PRBS_ERR_REMOTE_COUNT p) (leAt b 16 4)).fset (R.TILE_LIMP_VER_VERSION p) (leAt b 20 4)
  s.setPort p fun q => { q with statusAge := some 0 }

/-- LINK_EVENTs that the changes in a STATUS raise: TILE_ALERT, LIMP_PAGE, OWNER_CHANGE (Table 09-15). -/
def State.statusEvents (s : State) (p : Nat) (before : State) : State :=
  let a := s.fget (R.TILE_REMOTE_C_ALERT p)
  let old := before.fget (R.TILE_REMOTE_C_ALERT p)
  let s := if (List.range 16).any fun i => bitOf a i && !bitOf old i then (s.linkEvent p 0x11 a).raise 24 p a else s
  let v := s.fget (R.TILE_LIMP_VER_VERSION p)
  let s := if v != before.fget (R.TILE_LIMP_VER_VERSION p) && v != 0 then s.linkEvent p 0x12 v else s
  if before.owns p && !s.owns p then
    s.linkEvent p 0x0F (s.fget (R.TILE_EPOCH_TILE p) + 65536 * s.fget (R.TILE_PROTO_STATUS_OWNER p))
  else s

/-- The result of a claim (R315): ambiguous is claimed again with the epoch + 1. -/
def State.claimResult (s : State) (p res : Nat) : State :=
  if !(s.port p).claimOut then s
  else if s.owns p then s.setPort p fun q => { q with claimOut := false }
  else
    let e := s.fget (R.TILE_EPOCH_CLAIMED p)
    if res = 2 then (s.setPort p fun q => { q with claimOut := false }).linkEvent p 0x10 (e + 65536 * 2)
    else if res = 3 then (s.linkEvent p 0x10 (e + 65536 * 3)).sendClaim p (e + 1)
    else s

/-- In the last production window of a scan cycle SWAP follows the rows on a frame-memory tile, the codes then being the ones that it will show (R294, R427). -/
def State.swapOpen (s : State) (m : Member) (c : Prod) : State :=
  if m.frameMem && c.swapOk && c.ph == 7 then
    (s.sendSwap m.port c.dither c.frame ((c.sQ + c.lenQ) / 2 ^ 32 - 5000)).keepCodes m c.dither (rowsOf c.codes m.port) true
  else s

/-- The rows of the production window that is open go to a tile that a takeover or a handover has just brought to this device (R427). -/
def State.sendOpenWindow (s : State) (p : Nat) : State :=
  match s.memberOf p with
  | none => s
  | some (n, m) =>
    let c := (s.px n).prod
    if s.isLead && s.dataGoes p && laneOk m (s.dnMbps p) c.grid && decide (s.nowNs < c.windowEnd c.ph) then
      (((phaseRows m c.ph).zip ((rowsOf c.codes p).drop (c.ph * (m.th / 8)))).foldl
        (fun s r => s.sendNow p pktPhaseData (phaseDataBody r.1 c.dither c.ph m.tw c.frame r.2) (c.windowEnd c.ph)) s).swapOpen m c
    else s

/-- A newly owned tile in use is configured, and shows its limp page where the safety pair serves pages (R288, R379). -/
def State.newlyOwned (s : State) (p : Nat) (before : State) : State :=
  if before.owns p || !s.owns p || !s.laneUp p then s else
  let s := (s.configTile p).sendOpenWindow p
  if s.formFor p == .pages && decide (p < 6) then showLimpPort p s else s

/-- A STATUS arrives; `rt` is the round trip in ns of the ECHO it answers. -/
def xStatusReceived (p seqLo : Nat) (body : List Byte) (rt : Nat) (s : State) : State :=
  let r := s.takeUp p seqLo pktStatus body
  if !r.2 then r.1 else
  let before := r.1
  let s := (before.copyStatus p body).statusEvents p before
  let first := !(s.port p).statusSeen
  let s := s.setPort p fun q => { q with statusSeen := true }
  let s := if bitOf (leAt body 1 1) 2 then s.echoAnswer p (leAt body 24 2) rt else s
  let s := s.claimResult p (leAt body 0 1 / 8 % 4)
  let s := if first && (s.port p).capOk then s.autoClaim p else s
  let s := ((s.twinStatus p).newlyOwned p before).claimAsLead p
  s.isolationStatus p

/-! ## HEALTH and keepalives -/

/-- A HEALTH packet arrives (R323, R328); on a port whose samples are not judged they are not used. -/
def xHealthReceived (p seqLo : Nat) (body : List Byte) (s : State) : State :=
  let r := s.takeUp p seqLo pktHealth body
  if r.2 && r.1.judges p then r.1.healthPacket p body else r.1

/-- WDT_MS / 4 has passed: KEEPALIVE where nothing else was sent to an owned or legacy tile, and in PARK to every tile served (R301, R520). -/
def xKeepaliveTimer (p : Nat) (s : State) : State :=
  if !s.laneUp p || !s.configures p then s
  else if (s.port p).sentAny && !(s.safe.parkBeam && s.beamServes p) then s.setPort p fun q => { q with sentAny := false }
  else (s.sendCtrl p ctrlKeepalive []).setPort p fun q => { q with sentAny := false }

end Sys2Proof.Machine
end

