-- ==== Sys2Proof/Machine/PresentCmd.lean ====
section
/-! DEFINITION. Aligned commands (R417, Table 13-6), and the commands of the present path and the shade slots: PRESENT, PRESENT_TIMED, CANCEL_TIMED, SHADE_UPDATE, SHADE_CLEAR, and the end of their reads (chapters 04 and 05). -/

namespace Sys2Proof.Machine

/-! ## Aligned commands (R417, Tables 13-6 and 13-7) -/

/-- The next production window of a surface: phase, scan-cycle index, frame; 0 where none is to come. -/
def State.nextWindow (s : State) (n : Nat) : Nat × Nat × Nat :=
  let c := (s.px n).prod
  if c.grid.hz != 0 && decide (c.ph < 7) then (c.ph + 1, c.j, c.frame)
  else if s.scanAhead n then (0, (s.gen n).advance.2.j, s.aheadFrame n)
  else (0, 0, 0)

/-- The LEAD names a command's tick to the COMPANION: surface, phase, scan-cycle index, frame; shade commands carry their arguments (Table 13-7). -/
def State.sendAlign (s : State) (d : Desc) (n ph j frame : Nat) : State :=
  if !s.isLead then s else
  let args := if d.opcode = 0x10 ∨ d.opcode = 0x11 then (d.bytes.drop 16).take 44 else []
  s.sendTwin 0x42 (u8 d.ring ++ u8 d.opcode ++ leBytes 2 d.tag ++ leBytes 4 d.key ++ u8 n ++ u8 (ph % 8 + 8 * (j % 8)) ++ [0, 0]
    ++ leBytes 4 frame ++ args)

/-- The LEAD names the production window that comes next on a surface. -/
def State.alignWindow (s : State) (d : Desc) (n : Nat) : State :=
  let w := s.nextWindow n
  s.sendAlign d n w.1 w.2.1 w.2.2

/-- The LEAD names an F-tick or latch point of a surface by its frame. -/
def State.alignFrame (s : State) (d : Desc) (n frame : Nat) : State := s.sendAlign d n 0 0 frame

/-- A command of Table 13-6 with its status: refused; or in the COMPANION kept until its ALIGN (R417, R418); or applied. -/
def State.aligned (s : State) (d : Desc) (st : Status) (apply : State → State) : State :=
  let s := s.popDesc d.ring
  if st != .ok then s.complete d st 0 []
  else if s.isCompanion then { s with twin := { s.twin with waiting := s.twin.waiting ++ [{ desc := d, key := d.key }] } }
  else apply s

/-- Whether a command that a test picks waits for its ALIGN (R417). -/
def State.twinWaits (s : State) (pick : Desc → Bool) : Bool := s.isCompanion && s.twin.waiting.any fun c => pick c.desc

/-! ## Validation of presents (R106, R107, R175, R514) -/

/-- The argument and layer checks of a present, in order (R100, R106, R107, R169, R175); a region is enabled for a surface where it is active (R218). -/
def State.presentStatus (s : State) (d : Desc) (timed : Bool) : Status :=
  let n := d.target
  let ls := d.layers
  let service := s.modeNow == mService
  if !d.presentReservedOk timed || d.layerCount == 0 then .argInvalid
  else if 8 < d.layerCount then .layerCapacity
  else if !(ls.all (layerOk (s.canvasW n) (s.canvasH n) service)) || !expectsAgree ls
      || ls.any (fun r => lyRole r == 3 && lySigRegion r == 255)
      || ls.any (fun r => decide (lySigRegion r < 32) && !s.regionActive n (lySigRegion r)) then .argInvalid
  else if ls.any (fun r => decide (32 ≤ lySigRegion r) && lySigRegion r != 255) then .signatureCapacity
  else capacityStatus ls (s.otherSlots n)

/-- The present that a descriptor gives, before its reads: a layer without reads is done at once (R108, R150, R151), and with Bus Master Enable 0 one with reads is not ready (R70). -/
def State.presentOf (s : State) (d : Desc) (timed : Bool) : Present :=
  let p : Present := {
    desc := d, id := d.arg 20 4, occult := s.fbit R.PIX_COMP_CTRL_OCCULT_EN, owed := true,
    launch := if timed then d.arg 24 6 * 1000000000 + d.arg 30 4 else 0,
    layers := d.layers.zipIdx.map fun e => { record := e.1, pending := bitOf d.pendingMask e.2 } }
  { p with layers := p.layers.zipIdx.map fun (e : LayerBuf × Nat) =>
      let reads := !(p.layerReads e.2).isEmpty
      { e.1 with done := !e.1.pending && !reads, failed := !e.1.pending && reads && !s.host.busMaster } }

/-- A present of the watched surface counts against host silence and for the recovery of fault 13 (R94, Table 11-6). -/
def State.presentSeen (s : State) (n : Nat) : State :=
  let s := { s with host := { s.host with presentSeen := maskSet s.host.presentSeen n true } }
  if s.fget R.HOST_SILENCE_SURF = n then
    (s.fset R.HOST_SILENCE_CNT_COUNT 0).setMode fun m => { m with presentSinceLimp := true }
  else s

/-! ## The end of a present's reads (R108, R110, R149) -/

/-- The presents of a surface that may still have reads. -/
def SurfPix.presents (q : SurfPix) : List Present := q.next.toList ++ q.shadow.map Prod.fst ++ q.ephem

/-- Each of them changed. -/
def SurfPix.mapPresents (f : Present → Present) (q : SurfPix) : SurfPix :=
  { q with next := q.next.map f, shadow := q.shadow.map fun e => (f e.1, e.2), ephem := q.ephem.map f }

/-- The present at a position of SUB_1 changed wherever it is kept. -/
def State.editPresent (s : State) (pos : Nat) (f : Present → Present) : State :=
  let g (p : Present) : Present := if p.desc.pos = pos then f p else p
  { s with pix := { s.pix with surfs := s.pix.surfs.map (SurfPix.mapPresents g) } }

/-- The present at a position of SUB_1, with its surface. -/
def State.findPresent (s : State) (pos : Nat) : Option (Nat × Present) :=
  ((List.range 4).flatMap fun n => (s.px n).presents.map fun p => (n, p)).find? fun e => e.2.desc.pos == pos

/-- Whether a present's completion waits for its ALIGN (R418). -/
def State.awaitsAlign (s : State) (n : Nat) (p : Present) : Bool :=
  p.named.isNone && (s.px n).shadow.any fun e => e.1.desc.pos == p.desc.pos

/-- No host read of a present remains: its completion is written (R108, R110). -/
def State.settlePresent (s : State) (pos : Nat) : State :=
  match s.findPresent pos with
  | none => s
  | some (n, p) =>
    if p.owed && p.readsEnded && !s.awaitsAlign n p then
      (s.finishPresent n p).editPresent pos fun q => { q with owed := false }
    else s

/-- Every present without a read to come has its completion written. -/
def State.settleAll (s : State) : State :=
  (s.pix.surfs.flatMap fun q => q.presents.map (·.desc.pos)).foldl (fun s pos => s.settlePresent pos) s

/-- Prefetches that wait are not started once Bus Master Enable is 0: their layers are not ready (R70). -/
def State.dropPrefetches (s : State) : State :=
  let gone := s.host.heldReads.filterMap (·.layer)
  let end1 (pos : Nat) (e : LayerBuf × Nat) : LayerBuf := if gone.contains (pos, e.2) && !e.1.done then { e.1 with failed := true } else e.1
  let stop (p : Present) : Present := { p with layers := p.layers.zipIdx.map (end1 p.desc.pos) }
  { s with host := { s.host with heldReads := s.host.heldReads.filter fun q => q.layer.isNone },
           pix := { s.pix with surfs := s.pix.surfs.map (SurfPix.mapPresents stop) } }

/-- The host writes the PCIe configuration registers: Bus Master Enable 0 pauses the rings and keeps queued prefetches from starting (R70); Memory Space Enable; MSI-X Enable and Function Mask; Max_Read_Request_Size and Max_Payload_Size by their codes; ECRC, the completion timeout and ASPM (Table 03-1). -/
def xBusMaster (on memSpace msixEnable funcMask ecrcGen ecrcCheck : Bool) (mrrs mps timeout aspm : Nat) (s : State) : State :=
  if !s.domOn 5 then s else
  let s := { s with host := { s.host with busMaster := on } }
  let s := s.setPcie fun c => {
    c with memSpace := memSpace, msixEnable := msixEnable, funcMask := funcMask, ecrcGen := ecrcGen, ecrcCheck := ecrcCheck,
           timeout := timeout, aspm := aspm, mrrs := min 512 (128 * 2 ^ mrrs), mps := min 256 (128 * 2 ^ mps) }
  if on then s.resumeTraffic.pendingVectors else s.dropPrefetches.settleAll

/-- What a layer's reads brought: rows with their line CRC table, and each row and entry as read again (R149). -/
structure LayerData where
  rows : List (List Byte)
  crcs : List Byte
  rows2 : List (List Byte)
  crcs2 : List Byte
deriving DecidableEq, Repr

/-- Source row `v` as it holds: whole or occulted, good at the first or the second reading, or failed; the second part says that it was read again (R148, R149, R151). An occulted row holds what the operand gives (DESIGN CHOICE, log entry 107). -/
def fetchRow (p : Present) (i : Nat) (r : LayerRec) (b : LayerData) (v : Nat) : Option (List Byte) × Bool :=
  let n := lyRowBytes r
  let good (rows : List (List Byte)) (crcs : List Byte) : Bool := leAt crcs (4 * v) 4 == lineCrc v n (padTo 0 n (nth rows v))
  if lyLineCrc r = 0 || p.bytesOcculted i r v 0 n then (some (padTo 0 n (nth b.rows v)), false)
  else if good b.rows b.crcs then (some (padTo 0 n (nth b.rows v)), false)
  else if good b.rows2 b.crcs2 then (some (padTo 0 n (nth b.rows2 v)), true)
  else (none, true)

/-- The rows of a layer in ascending order, up to the first that fails twice: the rows, whether all held, and the rows read again. -/
def fetchRows (p : Present) (i : Nat) (r : LayerRec) (b : LayerData) : List Nat → Rows × Bool × List Nat
  | [] => ([], true, [])
  | v :: vs =>
    match fetchRow p i r b v with
    | (none, _) => ([], false, [v])
    | (some row, again) =>
      let t := fetchRows p i r b vs
      (row :: t.1, t.2.1, if again then v :: t.2.2 else t.2.2)

/-- The last read of one layer of the present at a ring position ends: with its rows, or with a host read error (R68, R108, R147, R149). -/
def xPrefetchComplete (pos layer : Nat) (ok : Bool) (b : LayerData) (s : State) : State :=
  match s.findPresent pos with
  | none => s
  | some (_, p) =>
    let l := nth p.layers layer
    if p.layers.length ≤ layer || l.pending || l.done || l.failed then s else
    let r := l.record
    let t := if ok then fetchRows p layer r b (List.range (lySrcH r)) else ([], false, [])
    let s := t.2.2.foldl (fun s v => (s.layerRead pos layer (lyAddr r + v * lyPitch r) (lyRowBytes r)).layerRead pos layer (lyLineCrc r + 4 * v) 4) s
    let l2 : LayerBuf := { l with done := t.2.1, failed := !t.2.1, rows := t.1 }
    (s.editPresent pos fun q => { q with layers := upd (fun _ => l2) q.layers layer }).settlePresent pos

/-! ## PRESENT (R46 to R48, R106 to R109) -/

/-- A PRESENT has passed its checks: reads queued, slots taken, the one before it superseded; the COMPANION keeps it for its named frame. -/
def State.presentValid (s : State) (d : Desc) : State :=
  let n := d.target
  let p := s.presentOf d false
  let s := (((s.prefetch p).takeSlots n d.layers).presentSeen n).idleRestart
  let s := if s.isCompanion then s.setPx n fun q => { q with shadow := q.shadow ++ [(p, d.key)] }
    else
      let s := match (s.px n).next with | some q => s.supersede n q | none => s
      let s := s.setPx n fun q => { q with next := some p }
      if (s.nextFrame n).isSome then s.alignFrame d n (s.targetFrame n) else s
  s.settlePresent d.pos

/-- PRESENT (opcode 0x01, SUB_1). -/
def xPresent (s : State) : State :=
  match s.ready 1 [1] with
  | none => s
  | some d =>
    let st := s.presentStatus d false
    let s := s.popDesc 1
    if st = .ok then s.presentValid d else s.complete d st 0 []

/-! ## PRESENT_TIMED and CANCEL_TIMED (R110, R111, R452 to R454) -/

/-- Frame number at which an entry validated now launches, where the surface runs on its grid (R453). -/
def State.launchFrame (s : State) (n launchNs : Nat) : Option Nat :=
  let q := s.gen n
  if s.running n && q.phase == .normal && !q.stepped && q.retime.isNone && !q.stopPend && decide (0 < q.grid.hz) then
    let cur := q.si / q.grid.n
    let first := if q.latched then cur + 2 else cur + 1
    some ((s.fget (R.TG_FRAME_FRAME_NUM n) + (max first (q.grid.firstF (launchNs * 2 ^ 32)) - cur)) % 2 ^ 32)
  else none

/-- The checks of a PRESENT_TIMED: those of a PRESENT, then its place in the queue and the pool (R110, R452). -/
def State.timedStatus (s : State) (d : Desc) : Status :=
  let st := s.presentStatus d true
  if st != .ok then st
  else if 32 ≤ (s.px d.target).ephem.length || decide (s.poolFree < (s.presentOf d true).poolNeed) then .ephemerisFull
  else .ok

/-- A PRESENT_TIMED has passed its checks: reads queued, and the entry placed in its surface's queue; the LEAD names its launch where the grid fixes it. -/
def State.timedValid (s : State) (d : Desc) : State :=
  let n := d.target
  let p := s.presentOf d true
  let s := (s.prefetch p).idleRestart
  let s := (s.setPx n fun q => { q with ephem := q.ephem ++ [p] }).showEphem n
  let s := match s.launchFrame n p.launch with
    | some k => if s.isLead then (s.alignFrame d n k).editPresent d.pos fun q => { q with named := some k } else s
    | none => s
  s.settlePresent d.pos

/-- PRESENT_TIMED (opcode 0x02, SUB_1). -/
def xPresentTimed (s : State) : State :=
  match s.ready 1 [2] with
  | none => s
  | some d =>
    let st := s.timedStatus d
    let s := s.popDesc 1
    if st = .ok then s.timedValid d else s.complete d st 0 ([0, 0, 0, 0] ++ s.timedResult d.target)

/-- Whether a CANCEL_TIMED picks an entry (R111). -/
def cancels (d : Desc) (p : Present) : Bool := d.arg 16 4 == 0xFFFFFFFF || p.id == d.arg 16 4

/-- The entries that a CANCEL_TIMED picks. -/
def State.cancelled (s : State) (d : Desc) : List Present := (s.px d.target).ephem.filter (cancels d)

/-- The checks of a CANCEL_TIMED. -/
def State.cancelStatus (s : State) (d : Desc) : Status :=
  if !d.flagsOk || !d.zero 20 60 then .argInvalid else if (s.cancelled d).isEmpty then .notFound else .ok

/-- CANCEL_TIMED takes effect: the entries go, and it completes with their number (R111). -/
def State.cancelApply (s : State) (d : Desc) : State :=
  let n := (s.cancelled d).length
  ((s.alignWindow d d.target).cancelEntries d.target 0 (cancels d)).complete d (if n = 0 then .notFound else .ok) 0 (leBytes 2 n)

/-- CANCEL_TIMED (opcode 0x03, SUB_1). -/
def xCancelTimed (s : State) : State :=
  match s.ready 1 [3] with
  | none => s
  | some d => s.aligned d (s.cancelStatus d) fun s => s.cancelApply d

/-! ## SHADE_UPDATE and SHADE_CLEAR (R112 to R114) -/

/-- The surface whose windows a shade command is named by: its own, or for SHADE_CLEAR the lowest-numbered enabled one. -/
def State.shadeSurf (s : State) (d : Desc) : Nat :=
  if d.opcode = 0x10 then d.target else ((List.range 4).filter s.surfEnabled).headD 0

/-- When a shade command is in effect: at the next production window of its surface, of any surface for SHADE_CLEAR, or at once where none comes. -/
def State.shadeEffect (s : State) (d : Desc) : EffectAt :=
  if d.opcode = 0x10 then (if s.scanAhead d.target then .window d.target else .now)
  else if (List.range 4).any s.scanAhead then .allWindows else .now

/-- Whether a SHADE_UPDATE is merged into slot 63 (R113, R200). -/
def State.shadeMerges (s : State) (d : Desc) : Bool :=
  d.opcode == 0x10 && (decide (64 ≤ d.arg 16 1) || (d.arg 16 1 == 63 && s.fbit R.PIX_SHADE_STATUS_MERGED))

/-- A shade command completes with OK; RESULT byte 24 says whether it was merged (R113, R200). -/
def State.shadeDone (s : State) (d : Desc) (merged : Bool) : State :=
  s.completeAt d .ok 0 (u8 (b2n merged)) (s.shadeEffect d)

/-- The slots take the command's content. -/
def State.shadeContent (s : State) (d : Desc) : State := if d.opcode = 0x10 then (s.shadeApply d).1 else s.shadeClearApply d

/-- A shade command applied by this device's own rules. -/
def State.shadeRun (s : State) (d : Desc) : State :=
  let m := s.shadeMerges d
  ((s.alignWindow d (s.shadeSurf d)).shadeContent d).shadeDone d m

/-- SHADE_UPDATE (opcode 0x10, SUB_0): validated, its age taken, and applied (R112, R113, R195). -/
def xShadeUpdate (s : State) : State :=
  match s.ready 0 [0x10] with
  | none => s
  | some d =>
    let st : Status := if d.shadeOk then .ok else .argInvalid
    let s := if d.shadeOk then s.shadeAge (s.shadeOf d).t0 else s
    s.aligned d st fun s => s.shadeRun d

/-- SHADE_CLEAR (opcode 0x11, SUB_0). -/
def xShadeClear (s : State) : State :=
  match s.ready 0 [0x11] with
  | none => s
  | some d => s.aligned d (if d.flagsOk && d.zero 24 60 then .ok else .argInvalid) fun s => s.shadeRun d

end Sys2Proof.Machine
end

