-- ==== Sys2Proof/Machine/Commands.lean ====
section
/-! DEFINITION. AIM, BEAM_PROFILE, SURFACE_CONFIG, RETIME, SCALER_COEFF, MODE, BLANK, UNBLANK and FENCE (chapter 04), with the enable and disable of a surface by its register. -/

namespace Sys2Proof.Machine

/-- A command that is not aligned, with its status: refused, or applied. -/
def State.command (s : State) (d : Desc) (st : Status) (apply : State → State) : State :=
  let s := s.popDesc d.ring
  if st = .ok then apply s else s.complete d st 0 []

/-! ## AIM and BEAM_PROFILE (R115, R116, R349 to R351) -/

/-- The active beam profile of a surface: in force while it runs, else the SPB's start profile (R115). -/
def State.activeProfile (s : State) (n : Nat) (b : Spb) : List Byte :=
  spbProfile b (if s.running n then (s.spill n).profile else spbStartProfile b n)

/-- The checks of an AIM (R115). -/
def State.aimStatus (s : State) (d : Desc) : Status :=
  if !d.flagsOk || !d.zero 24 60 then .argInvalid else
  match s.safe.spb with
  | none => .profileInvalid
  | some b =>
    let p := s.activeProfile d.target b
    if rangeDist (profVMin p) (profVMax p) (d.sarg 16 2) = 0 && rangeDist (profHMin p) (profHMax p) (d.sarg 18 2) = 0 then .ok else .aimRange

/-- A rate of 0, or above the SPB's, means the SPB's. -/
def aimRate (asked lim : Nat) : Nat := if asked = 0 ∨ lim < asked then lim else asked

/-- The aim targets and rates of a surface now. -/
def State.aimNow (s : State) (n : Nat) : AimOld :=
  { tick := s.ticks, tv := s.fint (R.PIX_AIM_TARGET_V n), th := s.fint (R.PIX_AIM_TARGET_H n),
    rv := s.fget (R.PIX_AIM_RATE_V n), rh := s.fget (R.PIX_AIM_RATE_H n) }

/-- AIM's targets and rates come into force; what they replace still governs an S-tick of the same timebase tick (R208). -/
def State.aimApply (s : State) (d : Desc) : State :=
  let n := d.target
  let p := match s.safe.spb with | some b => s.activeProfile n b | none => []
  let s := s.setPx n fun q => { q with aimOld := some (match q.aimOld with
    | some o => if o.tick = s.ticks then o else s.aimNow n
    | none => s.aimNow n) }
  let s := (s.fseti (R.PIX_AIM_TARGET_V n) (d.sarg 16 2)).fseti (R.PIX_AIM_TARGET_H n) (d.sarg 18 2)
  let s := (s.fset (R.PIX_AIM_RATE_V n) (aimRate (d.arg 20 2) (profVRate p))).fset (R.PIX_AIM_RATE_H n) (aimRate (d.arg 22 2) (profHRate p))
  s.completeAt d .ok 0 [] (if s.scanAhead n then .sTick n else .now)

/-- AIM (opcode 0x20, SUB_0). -/
def xAim (s : State) : State :=
  match s.ready 0 [0x20] with
  | none => s
  | some d => s.command d (s.aimStatus d) fun s => s.aimApply d

/-- The checks of a BEAM_PROFILE (R116). -/
def State.profileStatus (s : State) (d : Desc) : Status :=
  if !d.flagsOk || !d.zero 17 60 || decide (7 < d.arg 16 1) then .argInvalid else
  match s.safe.spb with
  | none => .profileInvalid
  | some b => if spbHasProfile b (d.arg 16 1) then .ok else .profileInvalid

/-- BEAM_PROFILE: the profile takes effect at the first F-tick whose X comes after now (R116, R350). On a surface without an F-tick to come it has no effect (DEDUCED, log entry 105). -/
def State.profileApply (s : State) (d : Desc) : State :=
  let n := d.target
  let f := s.windowFrame n
  if (s.nextFrame n).isSome then
    (s.setSpill n fun q => { q with nextProfile := some (d.arg 16 1, f) }).completeAt d .ok f [] (.fTick n f)
  else s.complete d .ok 0 []

/-- BEAM_PROFILE (opcode 0x21, SUB_2). -/
def xBeamProfile (s : State) : State :=
  match s.ready 2 [0x21] with
  | none => s
  | some d => s.command d (s.profileStatus d) fun s => s.profileApply d

/-! ## SURFACE_CONFIG (R117, R118) -/

/-- DWORD `i` of a command's payload content. -/
def Desc.word (d : Desc) (i : Nat) : Word := BitVec.ofNat 32 (leAt d.content (4 * i) 4)

/-- The two TG_PORTMAP words of a port in a SURFACE_CONFIG payload, SURF set to TARGET (Table 04-7). -/
def Desc.mapA (d : Desc) (p : Nat) : Word := wordSet (d.word (7 + 2 * p)) 0 3 d.target
def Desc.mapB (d : Desc) (p : Nat) : Word := d.word (8 + 2 * p)

/-- PORT_MASK. -/
def Desc.portMask (d : Desc) : Nat := (d.word 5).toNat % 2 ^ 24

/-- Reserved bits of the timing words (Table 02-6). -/
def timingWordsOk (rate guard lead off : Word) : Bool :=
  rate &&& 0xFFFFFC00 == 0 && guard &&& 0xF0008080 == 0 && lead &&& 0xFFFF0000 == 0 && off &&& 0xC0000000 == 0

/-- Reserved content of a SURFACE_CONFIG payload (R102, Tables 02-6, 02-9 and 04-7). -/
def Desc.cfgReservedOk (d : Desc) : Bool :=
  timingWordsOk (d.word 0) (d.word 1) (d.word 2) (d.word 3) && d.word 4 &&& 0xF800F000 == 0 && d.word 5 &&& 0xFF000000 == 0
  && d.word 6 == 0 && d.word 55 == 0
  && (maskList 24 d.portMask).all fun p => d.mapA p &&& 0xF80E0088 == 0 && d.mapB p &&& 0xFFFFF000 == 0

/-- The grid and canvas of a SURFACE_CONFIG payload. -/
def Desc.cfgGrid (d : Desc) : Grid := gridOfWords (d.word 0) (d.word 1) (d.word 2) (d.word 3)
def Desc.cfgW (d : Desc) : Nat := wordField (d.word 4) 0 12
def Desc.cfgH (d : Desc) : Nat := wordField (d.word 4) 16 11

/-- A port bound to another surface that counts as enabled. -/
def State.busyElsewhere (s : State) (n p : Nat) : Bool :=
  match s.boundTo p with | some m => m != n && s.surfEnabled m | none => false

/-- The status of a CFG_ERR code (R45). -/
def cfgStatus (e : Nat) : Status := if e = 0 then .ok else if e = 7 then .pixelRate else .timingInvalid

/-- What the new values of a SURFACE_CONFIG would break (R118). -/
def State.cfgErrFor (s : State) (d : Desc) : Nat :=
  cfgErr d.cfgW d.cfgH d.cfgGrid ((maskList 24 d.portMask).map fun p => s.bindOfWords p (d.mapA p) (d.mapB p)) (s.otherLoads d.target) (s.domOn 9)

/-- The checks of a SURFACE_CONFIG (R117, R118). -/
def State.configStatus (s : State) (d : Desc) : Status :=
  let n := d.target
  let act := d.arg 16 1
  if !d.flagsOk || decide (2 < act) || !d.zero 17 60 || (act != 2 && !d.cfgReservedOk) then .argInvalid
  else if s.fbit (R.TG_STATUS_RETIME_ACTIVE n) then .surfaceBusy
  else if act = 2 then .ok
  else if s.surfEnabled n || s.twinWaits (fun e => e.opcode == 0x30 && e.target == n) then .surfaceBusy
  else if (maskList 24 d.portMask).any (s.busyElsewhere n) then .portBusy
  else cfgStatus (s.cfgErrFor d)

/-- One port's binding: written from the payload where the mask names it, unbound where it was the surface's. -/
def State.cfgPort (d : Desc) (p : Nat) (s : State) : State :=
  if bitOf d.portMask p then (s.wr (portmapA p) (d.mapA p)).wr (portmapB p) (d.mapB p)
  else if s.boundTo p == some d.target then
    (s.fset (R.TG_PORTMAP_A_SURF p) 7).fsetb (R.TILE_PROTO_STATUS_PORT_REFUSED p) false
  else s

/-- The registers take the payload's values in one step (R118). -/
def State.cfgWrite (s : State) (d : Desc) : State :=
  let n := d.target
  let s := (s.putGrid n d.cfgGrid).wr (tgAddr n 0x20) (d.word 4)
  overAll 24 (State.cfgPort d) s

/-- A present that was validated before its frame was fixed is named to the COMPANION once a start fixes it (R417). -/
def State.alignNext (s : State) (n : Nat) : State :=
  match (s.px n).next, (s.gen n).startF with
  | some p, some k => s.alignFrame p.desc n (k % 2 ^ 32)
  | _, _ => s

/-- SURFACE_CONFIG takes effect: FRAME is the first F-tick with ACTION 1, and with ACTION 2 the F-tick at which a running surface stops. The COMPANION starts at the F-tick that the LEAD named (R417). -/
def State.configApply (s : State) (d : Desc) (named : Option Nat) : State :=
  let n := d.target
  let act := d.arg 16 1
  if act = 2 then
    let e : EffectAt := if s.running n then .fTick n ((s.nextFrame n).getD 0) else .now
    let f := if s.running n then (s.nextFrame n).getD 0 % 2 ^ 32 else 0
    let s := s.alignFrame d n f
    let f := if s.running n then named.getD f else f
    (s.askStop n).completeAt d .ok f [] e
  else if act = 0 then (s.cfgWrite d).complete d .ok 0 []
  else
    let s := (s.cfgWrite d).startSurface n
    let k := (s.gen n).startF.getD 0
    let ahead (f : Nat) : Nat := (f + 2 ^ 32 - k % 2 ^ 32) % 2 ^ 32
    let k := match named with | some f => if ahead f < 2 ^ 31 then k + ahead f else k | none => k
    let s := s.setGen n fun q => { q with startF := some k }
    ((s.alignFrame d n (k % 2 ^ 32)).alignNext n).completeAt d .ok (named.getD (k % 2 ^ 32)) [] (.fTick n (k % 2 ^ 32))

/-- SURFACE_CONFIG (opcode 0x30, SUB_2): ACTION 1 and 2 are aligned (Table 13-6). -/
def xSurfaceConfig (s : State) : State :=
  match s.ready 2 [0x30] with
  | none => s
  | some d =>
    if d.arg 16 1 = 0 then s.command d (s.configStatus d) fun s => s.configApply d none
    else s.aligned d (s.configStatus d) fun s => s.configApply d none

/-- TG_CTRL.ENABLE written 1 (R44, R45). -/
def xTgEnable (n : Nat) (s : State) : State := if (s.gen n).startF.isSome then s.askStart n else (s.askStart n).alignNext n

/-- TG_CTRL.ENABLE written 0 (R44, R57). -/
def xTgDisable (n : Nat) (s : State) : State := s.askStop n

/-! ## RETIME (R56 to R58, R119) -/


/-- The bindings that a RETIME's values have to fit: every bound port, a member or a port that waits to join with the size and kind of its membership, another one without a size (R58, R633, R634). -/
def State.retimeBinds (s : State) (n : Nat) : List Bind :=
  let ms := (s.gen n).joined
  (s.binds n).map fun b => { b with geom := ms.find? fun m => m.port == b.port }

/-- What a RETIME's values would break on the running configuration (R58). -/
def State.retimeErr (s : State) (n : Nat) (g : Grid) : Nat :=
  let bs := s.retimeBinds n
  let w := s.canvasW n
  let h := s.canvasH n
  if !canvasOk w h g then 1 else if !staggerOk g bs then 4 else if !leadOk g then 5 else if !offsetOk g then 6
  else if !rateOk (pixelRate w h g :: s.otherLoads n) then 7 else if !lanesOk g bs then 8 else 0

/-- The checks of a RETIME: busy while one is pending or active, a stop pending or not (R57); a stopping surface counts as disabled (R56). A point that the spec leaves open here: DESIGN CHOICE, log entry 138. -/
def State.retimeStatus (s : State) (d : Desc) : Status :=
  let n := d.target
  if !d.flagsOk || !d.zero 32 60 || !timingWordsOk (d.argWord 16) (d.argWord 20) (d.argWord 24) (d.argWord 28) then .argInvalid
  else if s.fbit (R.TG_STATUS_RETIME_PENDING n) || s.fbit (R.TG_STATUS_RETIME_ACTIVE n)
      || s.twinWaits (fun e => e.opcode == 0x31 && e.target == n) then .surfaceBusy
  else if !s.surfEnabled n || (s.gen n).stopPend then .timingInvalid
  else cfgStatus (s.retimeErr n d.retimeGrid)

/-- A RETIME is pending: it takes effect at the first F-tick whose latch point comes after now (R56). -/
def State.retimeApply (s : State) (d : Desc) (named : Option Nat) : State :=
  let n := d.target
  let s := s.setGen n fun q => { q with retime := some d.retimeGrid, retimeArmed := false }
  let s := (s.fsetb (R.TG_STATUS_RETIME_PENDING n) true).fsetb (R.TG_STATUS_RETIME_CANCELLED n) false
  (s.alignFrame d n (s.targetFrame n)).completeAt d .ok (named.getD (s.targetFrame n)) [] (.retime n)

/-- RETIME (opcode 0x31, SUB_2). -/
def xRetime (s : State) : State :=
  match s.ready 2 [0x31] with
  | none => s
  | some d => s.aligned d (s.retimeStatus d) fun s => s.retimeApply d none

/-! ## SCALER_COEFF (R120, R154) -/

/-- The 512 coefficients of a payload: 12-bit signed, two in three bytes (Table 04-8). -/
def Desc.coefs (d : Desc) : List Int := (unpack12 (d.content.take 768)).map (toSigned 12)

/-- The control points of a payload. -/
def Desc.points (d : Desc) (k : Nat) : List (Nat × Nat) := (List.range k).map fun i => (leAt d.content (4 * i) 2, leAt d.content (4 * i + 2) 2)

/-- Every phase sums to 1,024 (R154). -/
def sumsOk (cs : List Int) : Bool := (List.range 64).all fun ph => (phaseCoefs cs ph).foldl (· + ·) 0 == 1024

/-- The inactive bank after a write of a KIND (Table 04-8). -/
def ScalerBank.write (b : ScalerBank) (kind : Nat) (d : Desc) : ScalerBank :=
  if kind = 0 then { b with horiz := d.coefs } else if kind = 1 then { b with vert := d.coefs }
  else if kind = 2 then { b with mesh := d.points 165 ++ b.mesh.drop 165 }
  else { b with mesh := b.mesh.take 165 ++ d.points 132 }

/-- The checks of a SCALER_COEFF. -/
def State.scalerStatus (s : State) (d : Desc) : Status :=
  let sc := d.arg 16 1
  let kind := d.arg 17 1
  if !d.flagsOk || !d.zero 19 60 || decide (1 < sc) || decide (3 < kind) || decide (1 < d.arg 18 1)
      || (decide (kind ≤ 1) && !sumsOk d.coefs) then .argInvalid
  else if (nth s.pix.scalers sc).armed.isSome || s.twinWaits (fun e => e.opcode == 0x32 && e.arg 16 1 == sc) then .bankPending
  else .ok

/-- The number that stands for the next F-tick of a surface while none is fixed. -/
def anyFrame : Nat := 2 ^ 32

/-- SCALER_COEFF takes effect: the inactive bank is written, and with COMMIT 1 its swap armed at the next F-tick of TARGET (R120). -/
def State.scalerApply (s : State) (d : Desc) (named : Option Nat) : State :=
  let n := d.target
  let sc := d.arg 16 1
  let commit := d.arg 18 1 == 1
  let s := { s with pix := { s.pix with scalers := upd (fun q => {
    q with bankB := q.bankB.write (d.arg 17 1) d, armed := if commit then some (n, 0) else q.armed }) s.pix.scalers sc } }
  if commit then
    let f := (s.nextFrame n).getD 0
    let e : EffectAt := .fTick n ((s.nextFrame n).getD anyFrame)
    ((s.fsetb (R.PIX_SCALER_ARMED sc) true).alignFrame d n f).completeAt d .ok (named.getD f) [] e
  else s.complete d .ok 0 []

/-- SCALER_COEFF (opcode 0x32, SUB_2): with COMMIT 1 it is aligned. -/
def xScalerCoeff (s : State) : State :=
  match s.ready 2 [0x32] with
  | none => s
  | some d =>
    if d.arg 18 1 = 1 then s.aligned d (s.scalerStatus d) fun s => s.scalerApply d none
    else s.command d (s.scalerStatus d) fun s => s.scalerApply d none

/-! ## MODE (R121, R122, R510 to R512) -/

/-- The checks of a mode request. -/
def State.modeStatus (s : State) (d : Desc) : Status :=
  let dst := d.arg 16 1
  if !d.flagsOk || !d.zero 17 60 || decide (5 < dst) then .argInvalid
  else if s.fbit R.PWR_MODE_BUSY then .modeRefused
  else if dst = s.modeNow then .ok
  else if !modeAllowed s.modeNow dst || (dst == 0 && s.lightOn) then .modeRefused
  else if s.modeNow = 4 && !s.limpMayEnd then .safeRefused
  else .ok

/-- A command waits for an operation to end: its descriptor is kept under its ring. -/
def State.keepDesc (s : State) (d : Desc) : State := { s with cmds := { s.cmds with waiting := upd (· ++ [d]) s.cmds.waiting d.ring } }

/-- A mode request takes effect: completed before HOST goes off, at once for LIMP and the mode in force, else when the mode is reached (R122). -/
def State.modeApply (s : State) (d : Desc) : State :=
  let dst := d.arg 16 1
  if dst = s.modeNow then s.complete d .ok 0 []
  else if dst = 0 then (s.completeAt d .ok 0 [] (.mode 0)).enterSentinel 0
  else if dst = 3 then (s.completeAt d .ok 0 [] (.mode 3)).enterPark 0
  else if dst = 4 then (s.enterLimp .store 0 0).complete d .ok 0 []
  else if s.modeNow = 4 then (s.keepDesc d).leaveLimp dst (some (d.ring, d.pos))
  else (s.keepDesc d).beginMode dst 0 (some (d.ring, d.pos))

/-- MODE (opcode 0x40): a mode request on SUB_2; an ACTION that is neither a mode nor a blanking completes with ARG_INVALID on either ring. -/
def xMode (ring : Nat) (s : State) : State :=
  match s.ready ring [0x40] with
  | none => s
  | some d => if d.arg 16 1 = 0x10 ∨ d.arg 16 1 = 0x11 then s else s.command d (s.modeStatus d) fun s => s.modeApply d

/-! ## BLANK and UNBLANK (R121, R123) -/

/-- Reserved content of a blanking: GROUPS is 9 bits. -/
def Desc.blankOk (d : Desc) : Bool := d.flagsOk && d.arg 17 1 == 0 && decide (d.arg 18 2 < 512) && d.zero 20 60

/-- BLANK's bits join the host's request, and the request is passed to the safety pair (R123). -/
def State.blankApply (s : State) (g : Nat) : State :=
  let s := { s with safe := { s.safe with hostTot := s.safe.hostTot ||| g } }
  if g = 0 then s else (s.totRequest .host g 10).raise 10 0 0

/-- MODE with ACTION BLANK (SUB_0). -/
def xBlank (s : State) : State :=
  match s.ready 0 [0x40] with
  | none => s
  | some d =>
    if d.arg 16 1 ≠ 0x10 then s else
    s.command d (if d.blankOk then .ok else .argInvalid) fun s => (s.blankApply (d.arg 18 2)).complete d .ok 0 []

/-- Ports that a set of request bits names (R123). -/
def State.groupScope (s : State) (g : Nat) : Nat := if g = 0 then 0 else if bitOf g 8 then 2 ^ 24 - 1 else s.groupPorts g

/-- Ports held by sources other than the host's request. -/
def State.otherScope (s : State) : Nat := { s with safe := { s.safe with hostTot := 0 } }.totScope

/-- The host's request has shrunk: ports that no source holds any more leave Totality (R123, R371). A point that the spec leaves open here: DESIGN CHOICE, log entry 142. -/
def State.shrinkHost (s : State) (gone : Nat) : State :=
  let old := s.fget R.SAFE_TOT_PORTS_PORTS
  let wasDark := s.dark
  let s := s.totApply
  let s := overList totResume ((maskList 24 old).filter fun p => !s.totHolds p) s
  let s := s.totEvent [.host] gone true
  if wasDark && !s.dark then s.safeEvent 2 0 else s

/-- UNBLANK clears the bits it names and asks for the release of the ports that no remaining bit names; SAFE_REFUSED where another source holds one of them (R123). -/
def State.unblankApply (s : State) (d : Desc) (g : Nat) : State :=
  let named := s.groupScope g
  let rest := (maskList 9 s.safe.hostTot).filter fun i => !bitOf g i
  let had := s.safe.hostTot != maskOf rest
  let gone := maskOf ((maskList 9 s.safe.hostTot).filter fun i => bitOf g i)
  let s := { s with safe := { s.safe with hostTot := maskOf rest } }
  let s := if !had then s else if rest.isEmpty then s.totRelease [.host] gone else s.shrinkHost gone
  let refused := (maskList 24 named).any (bitOf s.otherScope)
  s.complete d (if refused then .safeRefused else .ok) 0 []

/-- MODE with ACTION UNBLANK (SUB_0). -/
def xUnblank (s : State) : State :=
  match s.ready 0 [0x40] with
  | none => s
  | some d =>
    if d.arg 16 1 ≠ 0x11 then s else
    s.command d (if d.blankOk then .ok else .argInvalid) fun s => s.unblankApply d (d.arg 18 2)

/-! ## FENCE (R134 to R136) -/

/-- The positions announced on each submit ring before the doorbell that announced a descriptor (R134). -/
def Ring.coverOf (q : Ring) (pos : Nat) : List Nat := match q.marks.find? fun m => decide (pos < m.1) with | some m => m.2 | none => rep 4 0

/-- A FENCE's checks. -/
def fenceStatus (d : Desc) : Status :=
  if !d.flagsOk || decide (15 < d.arg 16 1) || decide (1 < d.arg 17 1) || !d.zero 18 20 || !d.zero 24 60
      || (d.ring == 0 && d.arg 16 1 / 2 != 0) then .argInvalid
  else .ok

/-- FENCE (opcode 0x7F): pending, with the positions that it covers (R134). -/
def xFence (ring : Nat) (s : State) : State :=
  match s.ready ring [0x7F] with
  | none => s
  | some d => s.command d (fenceStatus d) fun s => s.setRing ring fun q =>
      { q with fence := some { desc := d, level := d.arg 17 1, cover := q.coverOf d.pos, timeoutUs := d.arg 20 4 } }

/-- Whether one covered ring meets a FENCE: everything covered fetched, and completed, or for LEVEL 1 in effect too (R135). -/
def Ring.fenceMet (q : Ring) (level cover pos : Nat) (own : Bool) : Bool :=
  decide (cover ≤ q.head) && q.outst.all fun o =>
    !decide (o.pos < cover) || (own && decide (pos ≤ o.pos)) || (if level = 0 then o.written else !o.live)

/-- Whether a FENCE's condition holds: a completion in the internal queue is not yet written (R91, R135). -/
def State.fenceHolds (s : State) (f : Fence) : Bool :=
  (maskList 4 (f.desc.arg 16 1)).all fun r =>
    (s.ring r).fenceMet f.level (nth f.cover r) f.desc.pos (r == f.desc.ring) && s.host.cplQueue.all fun h => h.src.all fun e =>
      !(e.1 == r && decide (e.2 < nth f.cover r)) || (r == f.desc.ring && decide (f.desc.pos ≤ e.2))

/-- A FENCE ends with a status, and its ring goes on. -/
def State.endFence (s : State) (f : Fence) (st : Status) : State :=
  (s.setRing f.desc.ring fun q => { q with fence := none }).complete f.desc st 0 []

/-- A pending FENCE's condition holds (R135). -/
def xFenceConditionMet (ring : Nat) (s : State) : State :=
  match (s.ring ring).fence with
  | none => s
  | some f => if s.fenceHolds f then s.endFence f .ok else s

/-- A FENCE's timeout expires (R135); TIMEOUT_US 0 means none. -/
def xFenceTimeout (ring : Nat) (s : State) : State :=
  match (s.ring ring).fence with
  | none => s
  | some f => if f.timeoutUs = 0 then s else s.endFence f .fenceTimeout

end Sys2Proof.Machine
end

