-- ==== Sys2Proof/Machine/Seg.lean ====
section
/-! DEFINITION. Segment channels (chapter 15): pulses, pattern sequencing, current limits, headroom and loss, faults, SEG_START, and the PMBus transactions of the rails. -/

namespace Sys2Proof.Machine

/-- The segment block, a bank and a channel, changed. -/
def State.setSeg (s : State) (f : SegSt → SegSt) : State := { s with seg := f s.seg }
def State.setBank (s : State) (b : Nat) (f : SegBank → SegBank) : State := s.setSeg fun g => { g with banks := upd f g.banks b }
def State.setChan (s : State) (c : Nat) (f : SegCh → SegCh) : State := s.setSeg fun g => { g with chans := upd f g.chans c }

/-- A bank and a channel. -/
def State.bank (s : State) (b : Nat) : SegBank := nth s.seg.banks b
def State.chan (s : State) (c : Nat) : SegCh := nth s.seg.chans c

/-- The channels of a bank (R459). -/
def bankChans (b : Nat) : List Nat := (List.range 16).map (· + 16 * b)

/-- STEP_PER and LEN with the values that Table 15-4 substitutes. -/
def State.segStepPer (s : State) (b : Nat) : Nat := max 1 (s.fget (R.SEG_BANK_CFG_STEP_PER b))
def State.segLen (s : State) (b : Nat) : Nat :=
  let v := s.fget (R.SEG_BANK_CFG_LEN b)
  if v = 0 ∨ 256 < v then 256 else v

/-- The active buffer of a bank, and the entry of a step and index in a buffer; unwritten entries read 0. -/
def SegBank.buf (k : SegBank) (active : Bool) : List Nat := if k.active == active then k.bufB else k.bufA
def bufEntry (buf : List Nat) (step i : Nat) : Nat := nth buf (16 * step + i)

/-! ## Limits (R473, R474) -/

/-- The throttling step in force (R537). -/
def State.throttle (s : State) : Nat := s.fget R.THERM_STATUS_STEP

/-- A limit in mA at throttling step `t`, in current codes: both floors of R473. -/
def limitCodes (ma t : Nat) : Nat := ma * (8 - t) / 8 * 255 / 48

/-- The bank limit and the total limit in force (R473, R474). -/
def State.bankLimit (s : State) (b : Nat) : Nat := limitCodes (min 400 (s.fget (R.SEG_BANK_PH_BANK_MA b))) s.throttle
def State.totalLimit (s : State) : Nat := limitCodes (min 3000 (s.fget R.SEG_LIMIT_TOTAL_MA)) s.throttle

/-- A channel's code before any scale: 0 with EN 0 (R460). -/
def State.chanCode (s : State) (c : Nat) : Nat := if s.fbit (R.SEG_CH_EN c) then s.fget (R.SEG_CH_CUR c) else 0

/-- Phase of index `i` of a bank (R462). -/
def State.segPhase (s : State) (b i : Nat) : Nat := (i * 1024 + s.fget (R.SEG_BANK_PH_BANK_OFS b)) % 16384

/-- The duty of an entry in period `per` of a step (R468). -/
def segDuty (entry prev per stepPer : Nat) : Nat :=
  let d : Nat := entry % 2 ^ 14
  if bitOf entry 14 then (Int.ofNat prev + Int.tdiv ((Int.ofNat d - Int.ofNat prev) * Int.ofNat (per + 1)) (Int.ofNat stepPer)).toNat else d

/-- The duties of every period of a list of steps, each the entries of sixteen channels, from the duties before the first. -/
def seqDuties (stepPer : Nat) : List Nat → List (List Nat) → List (List Nat)
  | _, [] => []
  | prev, e :: es =>
    ((List.range stepPer).map fun per => (e.zip prev).map fun q => segDuty q.1 q.2 per stepPer)
      ++ seqDuties stepPer (e.map (· % 2 ^ 14)) es

/-- Current codes on at count `x` of a period: pulses of this period, and those of the one before that run over (R462). -/
def codesAt (phases codes before now : List Nat) (x : Nat) : Nat :=
  ((phases.zip codes).zip (before.zip now)).foldl (fun a q =>
    let ph := q.1.1
    if (ph ≤ x ∧ x < ph + q.2.2) ∨ x + 16384 < ph + q.2.1 then a + q.1.2 else a) 0

/-- Largest sum of codes at one instant of a period: it lies at the start of a pulse. -/
def periodPeak (phases codes before now : List Nat) : Nat :=
  (phases.zip now).foldl (fun a q => if q.2 = 0 then a else max a (codesAt phases codes before now q.1)) 0

/-- Largest sum over a sequence of periods, from the duties of the period before it. -/
def seqPeak (phases codes : List Nat) : List Nat → List (List Nat) → Nat
  | _, [] => 0
  | before, d :: ds => max (periodPeak phases codes before d) (seqPeak phases codes d ds)

/-- The bank peak for given codes: over every period of steps 0 to LEN − 1 of the active buffer, as first played and as played again, without LOOP the last step alone (R473). -/
def State.bankPeak (s : State) (b : Nat) (codes : List Nat) : Nat :=
  let k := s.bank b
  let phases := (List.range 16).map (s.segPhase b)
  let steps := (List.range (s.segLen b)).map fun st => (List.range 16).map (bufEntry (k.buf true) st)
  let last := (steps.getLast?.getD []).map (· % 2 ^ 14)
  let per := s.segStepPer b
  let first := seqPeak phases codes k.prev0 (seqDuties per k.prev0 steps)
  let again := if s.fbit (R.SEG_BANK_CFG_LOOP b) then steps else steps.drop (steps.length - 1)
  max first (seqPeak phases codes last (seqDuties per last again))

/-- A bank's peak and scale are recomputed where that is due, at its step boundary (R473); class I fields of the bank take effect with it (R485). -/
def bankRecalc (b : Nat) (s : State) : State :=
  let k := s.bank b
  if !k.edge then s else
  let s := s.setBank b fun q => {
    q with keep := s.fbit (R.SEG_BANK_CFG_SHORT_KEEP b), hold := s.fbit (R.SEG_BANK_CFG_LIMP_HOLD b)
           limpDuty := (bankChans b).map fun c => s.fget (R.SEG_CH_LIMP_DUTY c) }
  if !k.recalc then s else
  let cur := (bankChans b).map s.chanCode
  let on := (bankChans b).map fun c => if (s.chan c).off then 0 else s.chanCode c
  let peak := s.bankPeak b on
  let lim := s.bankLimit b
  let scale (v : Nat) : Nat := if lim < peak then v * lim / peak else v
  let s := s.setBank b fun q => { q with recalc := false, curB := cur.map scale, peakB := s.bankPeak b (on.map scale) }
  let s := (s.fset (R.SEG_BANK_STAT_PEAK b) peak).fsetb (R.SEG_BANK_STAT_LIMITED b) (decide (lim < peak))
  if lim < peak then s.fadd R.SEG_COUNT_LIMITED 1 else s

/-- The total scale, taken by the banks whose step begins (R474). -/
def State.totalScale (s : State) (recomputed : Bool) : State :=
  let total := (s.seg.banks.filter SegBank.going).foldl (fun a k => a + k.peakB) 0
  let lim := s.totalLimit
  let scale (v : Nat) : Nat := if lim < total then v * lim / total else v
  let banks := s.seg.banks.map fun k => if k.edge then { k with curT := k.curB.map scale } else k
  let s := (s.setSeg fun g => { g with banks := banks }).fsetb R.SEG_STATUS_TOTAL_LIMITED (decide (lim < total))
  let taken := banks.any fun k => k.edge
  let due := recomputed || (s.seg.totalDue && taken)
  let s := if taken then s.setSeg fun g => { g with totalDue := false } else s
  if due && decide (lim < total) then s.fadd R.SEG_COUNT_LIMITED 1 else s

/-! ## Sequencing (R466 to R471) -/

/-- A SEG_PATTERN writes its entries into the inactive buffers (R126, R469): step-major from FIRST_STEP and FIRST_CH. -/
def patternEntry (d : Desc) (entries : List Nat) (b : Nat) (k : Nat) (old : Nat) : Nat :=
  let st := k / 16
  let c := 16 * b + k % 16
  let s0 := d.arg 32 1
  let c0 := d.arg 35 1
  let n := d.arg 36 1
  if s0 ≤ st ∧ st < s0 + d.arg 33 2 ∧ c0 ≤ c ∧ c < c0 + n then nth entries ((st - s0) * n + (c - c0)) else old

/-- The inactive buffer of a bank after a SEG_PATTERN. -/
def SegBank.writePattern (k : SegBank) (d : Desc) (entries : List Nat) (b : Nat) : SegBank :=
  let c0 := d.arg 35 1
  if 16 * b + 16 ≤ c0 ∨ c0 + d.arg 36 1 ≤ 16 * b then k else
  let w := ((padTo 0 4096 (k.buf false)).zipIdx).map fun e => patternEntry d entries b e.2 e.1
  if k.active then { k with bufA := w } else { k with bufB := w }

/-- One SEG_PATTERN takes effect at a period boundary, and completes (R469). -/
def State.patternNow (s : State) (d : Desc) (entries : List Nat) : State :=
  let banks := (s.seg.banks.zipIdx).map fun e => e.1.writePattern d entries e.2
  (s.setSeg fun g => { g with banks := banks }).complete d .ok 0 []

/-- Every SEG_PATTERN that waits for the boundary. -/
def State.patternsNow (s : State) : State :=
  let l := s.seg.patterns
  l.foldl (fun s (e : Desc × List Nat) => s.patternNow e.1 e.2) (s.setSeg fun g => { g with patterns := [] })

/-- Whether an armed swap is due at a period boundary (R470). -/
def SegBank.swapDue (k : SegBank) : Bool := match k.armed with | none => false | some (src, seen) => src == 2 || seen

/-- The channels' duties before a step are those of the last period. -/
def keepPrev (c : Nat) (s : State) : State := s.setChan c fun q => { q with prev := q.dutyOut }

/-- A channel of a stopped bank is off, its duties 0. -/
def quietChan (c : Nat) (s : State) : State := s.setChan c fun q => { q with pulse := false, dutyOut := 0, prev := 0 }

/-- A bank's buffers swap (R470). -/
def bankSwap (b : Nat) (s : State) : State :=
  (s.setBank b fun q => { q with active := !q.active, armed := none, recalc := true, edge := true }).fset
    R.SEG_STATUS_ARMED (maskSet (s.fget R.SEG_STATUS_ARMED) b false)

/-- A bank's sequencer at a PWM period boundary (R467): a stop, a start at step 0, a swap, the next step, or the next period of the step. -/
def bankBoundary (b : Nat) (s : State) : State :=
  let k := s.bank b
  let due := k.swapDue
  let s := s.setBank b fun q => { q with edge := false }
  if !s.fbit (R.SEG_BANK_CTRL_RUN b) then
    let s := overList quietChan (bankChans b) s
    let s := s.setBank b fun q => { q with going := false, start := false, step := 0, per := 0, prev0 := rep 16 0 }
    if due then bankSwap b s else s
  else if k.start || !k.going then
    let s := overList quietChan (bankChans b) s
    let s := s.setBank b fun q =>
      { q with going := true, start := false, edge := true, recalc := true, step := 0, per := 0, prev0 := rep 16 0 }
    if due then bankSwap b s else s
  else if due then
    let s := overList keepPrev (bankChans b) s
    bankSwap b (s.setBank b fun q => { q with step := 0, per := 0, prev0 := (bankChans b).map fun c => (s.chan c).prev })
  else if s.segStepPer b ≤ k.per + 1 then
    let s := overList keepPrev (bankChans b) s
    let next := if k.step + 1 < s.segLen b then k.step + 1 else if s.fbit (R.SEG_BANK_CFG_LOOP b) then 0 else k.step
    s.setBank b fun q => { q with per := 0, step := next, edge := true }
  else s.setBank b fun q => { q with per := k.per + 1 }

/-- The duty and NO_DIAG of a channel of a running bank in the period that begins (R466, R468). -/
def chanDuty (c : Nat) (s : State) : State :=
  let b := c / 16
  let k := s.bank b
  if !k.going then s else
  let e := bufEntry (k.buf true) k.step (c % 16)
  s.setChan c fun q => { q with dutyOut := segDuty e q.prev k.per (s.segStepPer b), noDiagOut := bitOf e 15 }

/-- STEP and BUF of a bank, shown. -/
def bankShow (b : Nat) (s : State) : State :=
  let k := s.bank b
  (s.fset (R.SEG_BANK_STAT_STEP b) k.step).fsetb (R.SEG_BANK_STAT_BUF b) k.active

/-- Trims of the sink DACs and the 40 MHz oscillator take effect at the boundary (Table 18-2). -/
def State.segTrims (s : State) : State :=
  let l := s.therm.trimNext
  let s := match l.find? fun e => e.1 == 7 with
    | some e => ({ s with therm := { s.therm with segPpm := nth e.2 0 } }).fseti R.THERM_OSC_SEG_PPM (clampInt (-32768) 32767 (nth e.2 0))
    | none => s
  { s with therm := { s.therm with trimNext := [], trims := l.foldl (fun t (e : Nat × List Int) => upd (fun _ => some e.2) t (e.1 - 1)) s.therm.trims } }

/-- SEG_START descriptors whose banks have all swapped are in effect (R135). -/
def State.swapEffects (s : State) : State :=
  let armed := s.fget R.SEG_STATUS_ARMED
  s.effectDue fun e => match e with
    | .segSwap banks => armed &&& banks == 0
    | _ => false

/-- A PWM period boundary: pattern writes, then swaps and steps, then scales, then the new period's duties and loss scale (R467 to R477). -/
def xPwmPeriodBoundary (s : State) : State :=
  if !s.domOn 11 then s else
  let s := overAll 12 bankBoundary s.patternsNow
  let recomputed := s.seg.banks.any fun k => k.edge && k.recalc
  let s := (overAll 12 bankRecalc s).totalScale recomputed
  let s := overAll 192 chanDuty s
  let s := (overAll 12 bankShow s).segTrims
  (s.setSeg fun g => { g with lsNow := g.ls, periods := g.periods + 1, checked := [] }).swapEffects

/-- SEG_START (R127): BANKS [11:0] and SOURCE 0 to 2; a later one replaces the arming of its banks (R470). -/
def segStartStatus (d : Desc) : Status :=
  if d.flagsOk && decide (d.arg 16 2 < 2 ^ 12) && decide (d.arg 18 1 < 3) && d.zero 19 60 then .ok else .argInvalid

/-- A bank is armed. -/
def armBank (src b : Nat) (s : State) : State := s.setBank b fun q => { q with armed := some (src, false) }

/-- SEG_START validated: the swaps of its banks are armed, and the command completes (R127). -/
def State.segStartApply (s : State) (d : Desc) : State :=
  let banks := d.arg 16 2
  let s := overList (armBank (d.arg 18 1)) (maskList 12 banks) s
  let s := s.fset R.SEG_STATUS_ARMED (s.fget R.SEG_STATUS_ARMED ||| banks)
  s.completeAt d .ok 0 [] (if banks = 0 then .now else .segSwap banks)

def xSegStart (s : State) : State :=
  match s.ready 2 [0x42] with
  | none => s
  | some d => s.command d (segStartStatus d) fun s => s.segStartApply d

/-- A write of SEG_BANK_CTRL.RUN (R467): 1 starts step 0, 0 stops, each at the next period boundary. -/
def xSegBankRun (b : Nat) (on : Bool) (s : State) : State :=
  if !s.domOn 11 then s else
  let was := s.fbit (R.SEG_BANK_CTRL_RUN b)
  let s := (s.fsetb (R.SEG_BANK_CTRL_RUN b) on).fset R.SEG_STATUS_RUNNING (maskSet (s.fget R.SEG_STATUS_RUNNING) b on)
  if on && !was then s.setBank b fun q => { q with start := true } else s

/-! ## The alignment edges (R463 to R465) -/

/-- The counter restarts at an edge of the alignment source: running pulses end, and the edge is a boundary (R463). -/
def State.segRestart (s : State) : State :=
  xPwmPeriodBoundary (s.setSeg fun g => { g with chans := g.chans.map fun c => { c with pulse := false } })

/-- Banks armed on a source have seen their edge (R470). -/
def State.segEdge (s : State) (src : Nat) : State :=
  s.setSeg fun g => { g with banks := g.banks.map fun k => match k.armed with
    | some (a, _) => if a = src then { k with armed := some (a, true) } else k
    | none => k }

/-- Whether a rising edge of SEG_SYNC that stays high for so long is accepted: at least 1 µs, and not within 1 ms of the last accepted one (R464). -/
def State.syncAccepted (s : State) (highNs : Nat) : Bool :=
  decide (1000 ≤ highNs) && (match s.seg.syncAt with | none => true | some t => decide (250000 < s.ticks - t))

/-- SEG_SYNC rises; `onBoundary` where the edge falls on a PWM period boundary, which is the PWM_PERIOD_BOUNDARY after it (R463, R464). -/
def xSegSyncEdge (onBoundary : Bool) (highNs : Nat) (s : State) : State :=
  if !s.domOn 11 || !s.syncAccepted highNs then s else
  let s := (s.setSeg fun g => { g with syncAt := some s.ticks }).segEdge 0
  if s.fget R.SEG_CTRL_ALIGN = 1 && !onBoundary then s.segRestart else s

/-- The spacing of internal ticks in ns (R465). -/
def State.segTickPer (s : State) : Nat := max 1 (s.fget R.SEG_TICK_TICK_PER) * 409600

/-- The network time in ns of the next internal tick: a multiple of the spacing (R465). -/
def State.segTickNext (s : State) : Nat :=
  let t := ceilDiv s.clkQ (s.segTickPer * 2 ^ 32) * s.segTickPer
  if t = s.seg.tickNs then t + s.segTickPer else t

/-- An internal tick: on the network grid while NET is on, else from the segments' own clock with TICK_FREE (R465). -/
def xSegInternalTick (onBoundary : Bool) (s : State) : State :=
  if !s.domOn 11 then s else
  let s := s.setSeg fun g => { g with tickAt := s.ticks, tickNs := s.clk.sec * 1000000000 + s.clk.ns - (s.clk.sec * 1000000000 + s.clk.ns) % s.segTickPer }
  let s := (s.fsetb R.SEG_STATUS_TICK_FREE (!s.domOn 9)).segEdge 1
  if s.fget R.SEG_CTRL_ALIGN = 2 && !onBoundary then s.segRestart else s

/-! ## Faults (R478 to R482) -/

/-- Whether a channel's fault bit is latched. -/
def State.chanLatched (s : State) (c : Nat) : Bool := bitOf (s.fget (R.SEG_FAULT_CH (c / 32))) (c % 32)

/-- A confirmation is counted and reported, or kept for the end of the boot while DIE-D is in reset (R480, R482). -/
def State.segConfirmed (s : State) (c kind : Nat) : State :=
  let s := (s.fadd R.SEG_COUNT_FAULTS 1).drivePins
  if s.aon.resetHeld || !s.domOn 1 || (s.boot.active && s.boot.cause != 4) then s.setSeg fun g => { g with unreported := g.unreported ++ [(c, kind)] }
  else s.segReport c kind

/-- A fault of a channel is confirmed: its bit is latched, and it is off from its next pulse, at once for OVERCURRENT; LED_SHORT leaves it on in a bank with SHORT_KEEP (R480). -/
def State.segConfirm (s : State) (c kind : Nat) : State :=
  if (s.chan c).off then s else
  let keep := kind == 2 && (s.bank (c / 16)).keep
  if keep && s.chanLatched c then s else
  let w := R.SEG_FAULT_CH (c / 32)
  let s := (s.fset w (maskSet (s.fget w) (c % 32) true)).fsetb R.SEG_STATUS_FAULT true
  let s := s.setChan c fun q => { q with off := q.off || !keep, openCnt := 0, shortCnt := 0, curFails := 0 }
  (s.setBank (c / 16) fun q => { q with recalc := true }).segConfirmed c kind

/-- The lowest pin voltage at pulse end among a rail's unfaulted channels within the last 10 ms: `vh` (R475). -/
def State.railVh (s : State) (r : Nat) : Option Nat :=
  (s.seg.chans.zipIdx).foldl (fun a e =>
    if s.fget (R.SEG_BANK_CFG_RAIL (e.2 / 16)) = r && !e.1.off && !s.chanLatched e.2 then
      e.1.vEnds.foldl (fun a v => if s.ticks - v.2 ≤ 2500000 then some (min v.1 (a.getD v.1)) else a) a
    else a) none

/-- Check periods that confirm a fault (Table 15-4). -/
def State.nConf (s : State) : Nat := max 1 (s.fget R.SEG_DIAG_B_N_CONF)

/-- Whether two channels are a neighbouring pin pair (R609), the lower one first. -/
def neighbourPair (a b : Nat) : Bool := (b == a + 1 && a % 32 != 31) || (b == a + 32 && decide (a ≤ 159))

/-- The count of a pair, and a count put in its place. -/
def pairCount : List (Nat × Nat × Nat) → Nat → Nat → Nat
  | [], _, _ => 0
  | (a, d, n) :: t, x, y => if a = x ∧ d = y then n else pairCount t x y
def pairSet (l : List (Nat × Nat × Nat)) (x y n : Nat) : List (Nat × Nat × Nat) :=
  let rest := l.filter fun e => !(e.1 == x && e.2.1 == y)
  if n = 0 then rest else (x, y, n) :: rest

/-- One neighbour check: the off channel's pin within NB_DV_MV of the on channel's. A pair is checked once in a PWM period; one of which a channel has EN 0 or CUR 0 is not judged (R460), nor one whose off pin lies below OPEN_MV: the count stays (R479; DEDUCED, log entry 128). -/
def State.neighbourCheck (s : State) (c : Nat) (m : Nat × Nat × Nat) : State :=
  let lo := min c m.1
  let hi := max c m.1
  if !neighbourPair lo hi || s.seg.checked.contains (lo, hi) || s.chanCode lo == 0 || s.chanCode hi == 0
      || decide (m.2.2 < s.fget R.SEG_DIAG_A_OPEN_MV) then s else
  let s := s.setSeg fun g => { g with checked := (lo, hi) :: g.checked }
  let on := m.2.1
  let off := m.2.2
  let bad := decide (max on off - min on off ≤ s.fget R.SEG_DIAG_B_NB_DV_MV)
  let n := if bad then pairCount s.seg.pairs lo (hi - lo) + 1 else 0
  if s.nConf ≤ n then
    ((s.setSeg fun g => { g with pairs := pairSet g.pairs lo (hi - lo) 0 }).segConfirm lo 4).segConfirm hi 4
  else s.setSeg fun g => { g with pairs := pairSet g.pairs lo (hi - lo) n }

/-- OPEN and LED_SHORT are judged at a pulse's end (Table 15-1). -/
def State.pulseJudge (s : State) (c mv : Nat) (lost : Bool) : State :=
  let opn := lost && decide (mv < s.fget R.SEG_DIAG_A_OPEN_MV)
  let short := match s.railVh (s.fget (R.SEG_BANK_CFG_RAIL (c / 16))) with
    | none => false
    | some vh => decide (vh + s.fget R.SEG_DIAG_A_SHORT_DV_MV < mv)
  let s := s.setChan c fun q =>
    { q with openCnt := if opn then q.openCnt + 1 else 0, shortCnt := if short then q.shortCnt + 1 else 0 }
  let s := if s.nConf ≤ (s.chan c).openCnt then s.segConfirm c 1 else s
  if s.nConf ≤ (s.chan c).shortCnt then s.segConfirm c 2 else s

/-! ## Pulses (R462, R484) -/

/-- Whether a channel outside the exemption mask is off for Totality or BLANK, or every channel for RETIRED (Table 15-2). -/
def State.chanCut (s : State) (c : Nat) : Bool :=
  ((s.totAny || s.seg.resetOff) && !s.segExempt c) || s.boot.otpLc == 4

/-- The duty that a channel's next pulse takes: its LIMP_DUTY in LIMP with LIMP_HOLD, else the bank's (Table 15-2). -/
def State.pulseDuty (s : State) (c : Nat) : Nat :=
  let k := s.bank (c / 16)
  if s.modeNow = 4 && k.hold then nth k.limpDuty (c % 16) else (s.chan c).dutyOut

/-- Whether a channel's pulse starts: its bank runs, its current is not 0, and neither a fault nor a cut keeps it off. -/
def State.chanOn (s : State) (c : Nat) : Bool :=
  s.domOn 11 && (s.bank (c / 16)).going && nth (s.bank (c / 16)).curT (c % 16) != 0 && !(s.chan c).off && !s.chanCut c

/-- The counter reaches a channel's phase: the pulse latches its duty and CUR_OUT (R462, R477). -/
def xSegPulseStart (c : Nat) (s : State) : State :=
  let d := s.pulseDuty c
  if !s.chanOn c || d = 0 then s else
  let cur := nth (s.bank (c / 16)).curT (c % 16) * s.seg.lsNow / 65536
  s.setChan c fun q => { q with pulse := true, duty := d, noDiag := q.noDiagOut, cur := cur, sumDuty := q.sumDuty + d }

/-- A pulse ends with the pin at `mv`, the sink out of regulation where `lost`; `nbs` are the neighbours off for at least 2 µs of it, with the voltages of both pins 1.5 µs into that interval (R478, R479). -/
def xSegPulseEnd (c mv : Nat) (lost : Bool) (nbs : List (Nat × Nat × Nat)) (s : State) : State :=
  let q := s.chan c
  if !q.pulse then s else
  let s := s.setChan c fun q => { q with pulse := false, mvEnd := mv }
  let s := if q.duty < 80 then s else
    let s := s.setChan c fun q => { q with vEnds := (q.vEnds.filter fun v => decide (s.ticks - v.2 ≤ 2500000)) ++ [(mv, s.ticks)] }
    if q.noDiag then s else s.pulseJudge c mv lost
  nbs.foldl (fun s m => s.neighbourCheck c m) s

/-- Sink current above 60 mA: the channel is off at once (R478, R480). -/
def xSegOvercurrent (c : Nat) (s : State) : State :=
  if !(s.chan c).pulse then s else (s.setChan c fun q => { q with pulse := false }).segConfirm c 3

/-- Once no channel bit and no rail fault is latched, fault 34 has recovered (R482). -/
def State.segRecovered (s : State) : State :=
  let any := (List.range 6).any fun w => s.fget (R.SEG_FAULT_CH w) != 0
  let s := s.fsetb R.SEG_STATUS_FAULT any
  (if any || s.fbit R.SEG_STATUS_RAIL_FAULT then s else s.clearFault 34).drivePins

/-- A cleared channel takes part again from its next pulse, its detectors afresh (R481). -/
def clearChan (c : Nat) (s : State) : State :=
  let s := s.setChan c fun q => { q with off := false, openCnt := 0, shortCnt := 0, curFails := 0 }
  let s := s.setSeg fun g => { g with pairs := g.pairs.filter fun e => !(e.1 == c || e.1 + e.2.1 == c) }
  s.setBank (c / 16) fun q => { q with recalc := true }

/-- A write to SEG_CH_CLEAR_w (R481). -/
def xSegChannelClear (w mask : Nat) (s : State) : State :=
  if !s.domOn 11 then s else
  let cs := (maskList 32 mask).filter fun k => bitOf (s.fget (R.SEG_FAULT_CH w)) k
  let s := s.fset (R.SEG_FAULT_CH w) (cs.foldl (fun m k => maskSet m k false) (s.fget (R.SEG_FAULT_CH w)))
  (overList clearChan (cs.map fun k => 32 * w + k) s).segRecovered

/-- 1 ms after both BLANK pins are deasserted in reset, the segments resume (R21, R484). -/
def xSegBlankRelease (s : State) : State :=
  if s.seg.resetOff && !bitOf s.pins.raw 2 && !bitOf s.pins.raw 3 then
    (s.setSeg fun g => { g with resetOff := false }).fsetb R.SEG_STATUS_OFF_TOT s.totAny
  else s

/-! ## Headroom and loss (R475 to R477) -/

/-- A headroom loop, changed. -/
def State.setSegRail (s : State) (r : Nat) (f : SegRail → SegRail) : State := s.setSeg fun g => { g with rails := upd f g.rails r }

/-- The transactions of a rail: PAGE first, where PAGE is not 0xFF (R476). -/
def State.segJobs (s : State) (r : Nat) (j : PmbusJob) : State :=
  s.pmbusAdd ((if s.fget (R.SEG_RAIL_CFG_PAGE r) = 0xFF then [] else [.segPage r]) ++ [j])

/-- Whether a job belongs to a headroom loop's rail. -/
def PmbusJob.ofSeg (r : Nat) : PmbusJob → Bool
  | .segPage q | .segMode q | .segVout q _ => q == r
  | _ => false

/-- A rail's headroom loop gives up: ERR and the rail fault; the rail keeps its voltage (R476). -/
def State.segRailFail (s : State) (r : Nat) : State :=
  let s := s.setSup fun u => { u with jobs := u.jobs.filter fun j => !j.ofSeg r }
  let s := (s.setSegRail r fun q => { q with tries := 0 }).fsetb (R.SEG_RAIL_STAT_ERR r) true
  (s.fsetb R.SEG_STATUS_RAIL_FAULT true).segConfirmed (0xC0 + r) 5

/-- A write of a rail's EN (R475, R481): ERR and the rail fault clear, and 1 starts the loop where it does not run. -/
def xSegRailEnable (r : Nat) (on : Bool) (s : State) : State :=
  if !s.domOn 11 then s else
  let fresh := on && (!s.fbit (R.SEG_RAIL_CFG_EN r) || s.fbit (R.SEG_RAIL_STAT_ERR r))
  let s := (s.fsetb (R.SEG_RAIL_CFG_EN r) on).fsetb (R.SEG_RAIL_STAT_ERR r) false
  let s := (s.fsetb R.SEG_STATUS_RAIL_FAULT ((List.range 4).any fun q => s.fbit (R.SEG_RAIL_STAT_ERR q))).segRecovered
  if fresh then (s.setSegRail r fun q => { q with justOn := true, tries := 0 }).segJobs r (.segMode r)
  else if on then s
  else s.setSup fun u => { u with jobs := u.jobs.filter fun j => !j.ofSeg r }

/-- The headroom target of a rail in mV. -/
def State.segHead (s : State) (r : Nat) : Nat := s.fget (R.SEG_RAIL_CFG_HEAD_10MV r) * 10

/-- The loop's next voltage (R475). -/
def headroomStep (v head lo hi : Nat) (justOn : Bool) (vh : Option Nat) : Nat :=
  let v := if justOn then hi else match vh with
    | none => v
    | some x => if x < head then v + (head - x) else if head + 100 < x then v - min (x - head - 50) 50 else v
  min hi (max lo v)

/-- One update of a rail's loop. -/
def headroomRail (r : Nat) (s : State) : State :=
  if !s.fbit (R.SEG_RAIL_CFG_EN r) || s.fbit (R.SEG_RAIL_STAT_ERR r) then s else
  let q := nth s.seg.rails r
  let v := headroomStep q.vout (s.segHead r) (s.fget (R.SEG_RAIL_LIM_VMIN_MV r)) (s.fget (R.SEG_RAIL_LIM_VMAX_MV r)) q.justOn (s.railVh r)
  let s := s.setSegRail r fun q => { q with vout := v, justOn := false }
  if v = q.vout && !q.justOn then s else s.segJobs r (.segVout r v)

/-- Every 10 ms, each enabled rail's loop runs once (R475). -/
def xHeadroomUpdate (s : State) : State := if s.domOn 11 then overAll 4 headroomRail s else s

/-- The sink loss in mW: sum of I × pin voltage at pulse end × mean duty / 16,384 (R477). -/
def State.lossMw (s : State) : Nat :=
  let sum := s.seg.chans.foldl (fun a c => a + c.cur * 48 * c.mvEnd * c.sumDuty) 0
  sum / (255 * 16384 * 1000 * max 1 s.seg.periods)

/-- Whether a rail with a channel on can be lowered: enabled, above VMIN_MV, and its `vh` more than 100 mV above its target (R477). -/
def State.railCanDrop (s : State) (r : Nat) : Bool :=
  s.fbit (R.SEG_RAIL_CFG_EN r)
    && ((List.range 192).any fun c => s.fget (R.SEG_BANK_CFG_RAIL (c / 16)) = r && s.chanOn c)
    && decide (s.fget (R.SEG_RAIL_LIM_VMIN_MV r) < (nth s.seg.rails r).vout)
    && (match s.railVh r with | none => false | some vh => decide (s.segHead r + 100 < vh))

/-- Every 10 ms the loss is estimated and the loss scale moves (R477). -/
def xLossEstimate (s : State) : State :=
  if !s.domOn 11 then s else
  let est := s.lossMw
  let lim := min 1200 (s.fget R.SEG_LIMIT_LOSS_MW)
  let ls := if lim < est then (if (List.range 4).any s.railCanDrop then s.seg.ls else s.seg.ls * lim / est)
    else if est * 10 < lim * 9 then min 65536 (s.seg.ls + 1024) else s.seg.ls
  let s := s.setSeg fun g => { g with ls := ls, periods := 0, chans := g.chans.map fun c => { c with sumDuty := 0 } }
  ((s.fset R.SEG_LOSS_EST_MW (min 65535 est)).fset R.SEG_LOSS_EST_LS (ls / 2)).fsetb R.SEG_STATUS_LOSS_LIMITED (decide (ls < 65536))

/-! ## The current check (R560) -/

/-- The channel that the check measures: the next one, in ascending order, that is on with pulses of at least 2 µs. -/
def State.checkChan (s : State) : Option Nat :=
  let c0 := s.seg.checkNext
  ((List.range 192).map fun i => (c0 + i) % 192).find? fun c => s.chanOn c && decide (80 ≤ s.pulseDuty c)

/-- Whether a current in µA misses the setting of R460 by more than 5 % + 0.2 mA. -/
def currentMisses (ua code : Nat) : Bool :=
  let set := code * 48000
  decide (set + 200 * 255 * 20 < (max (ua * 255) set - min (ua * 255) set) * 20)

/-- Every 50 ms one channel's current is measured, in µA: two failures in a row confirm CURRENT; the ADC is in ANA (R560, Table 01-2). -/
def xSegCurrentCheck (ua : Nat) (s : State) : State :=
  if !s.domOn 11 || !s.domOn 10 then s else
  match s.checkChan with
  | none => s
  | some c =>
    let s := s.setSeg fun g => { g with checkNext := (c + 1) % 192 }
    if !currentMisses ua (s.chan c).cur then s.setChan c fun q => { q with curFails := 0 }
    else
      let s := s.setChan c fun q => { q with curFails := q.curFails + 1 }
      let s := if s.domOn 1 then (s.fsetb R.TEST_ANA_SEG_FAIL true).eventDev 0x0B 0x0090
        (u8 0x41 ++ u8 1 ++ u8 c ++ [0] ++ leBytes 2 (min 65535 (ua / 10))) else s
      if 2 ≤ (s.chan c).curFails then s.segConfirm c 6 else s

/-! ## PMBus transactions end (R476, R495 to R497) -/

/-- A transaction of a headroom loop ends: repeated up to three attempts, then the rail fails (R476). -/
def State.segJobDone (s : State) (r : Nat) (j : PmbusJob) (ok : Bool) (data : Nat) : State :=
  if !s.fbit (R.SEG_RAIL_CFG_EN r) || s.fbit (R.SEG_RAIL_STAT_ERR r) then s
  else if !ok then
    if (nth s.seg.rails r).tries < 2 then
      (s.setSegRail r fun q => { q with tries := q.tries + 1 }).setSup fun u => { u with jobs := j :: u.jobs }
    else s.segRailFail r
  else
    let s := s.setSegRail r fun q => { q with tries := 0 }
    match j with
    | .segMode _ => if data / 32 % 8 = 0 then s.setSegRail r fun q => { q with exp := voutExp data } else s.segRailFail r
    | .segVout _ mv =>
      ((s.fset (R.SEG_RAIL_STAT_VOUT_MV r) (min 65535 mv)).fsetb (R.SEG_RAIL_STAT_AT_MIN r)
        (decide (mv = s.fget (R.SEG_RAIL_LIM_VMIN_MV r)))).fsetb (R.SEG_RAIL_STAT_AT_MAX r)
        (decide (mv = s.fget (R.SEG_RAIL_LIM_VMAX_MV r)))
    | _ => s

/-- VOUT_MODE of a rail of the sequencer: a mode that is not linear fails as R476 gives. -/
def State.railModeDone (s : State) (r : Nat) (ok : Bool) (data : Nat) (j : PmbusJob) : State :=
  if ok && decide (data / 32 % 8 = 0) then
    (s.setExp r data).railJobDone r false true j
  else s.railJobDone r false false j

/-- The transaction on the bus completes or fails, its data being what a read gave; a read whose PEC does not hold has failed (R476); the next due one starts (R497). -/
def xPmbusTransactionDone (ok : Bool) (data pec : Nat) (s : State) : State :=
  match s.sup.busy with
  | none => s
  | some j =>
    let ok := ok && (!j.reads || pec == s.readPec j data)
    let s := s.setSup fun u => { u with busy := none }
    let s := match j with
      | .railPage r => s.railJobDone r false ok j
      | .railVout r => s.railJobDone r true ok j
      | .railMode r => s.railModeDone r ok data j
      | .pollMode _ | .pollVout _ | .pollStatus _ => s.pollDone j ok data
      | .segPage r | .segMode r | .segVout r _ => s.segJobDone r j ok data
    s.pmbusStart

end Sys2Proof.Machine
end

