-- ==== Sys2Proof/Machine/Bulk.lean ====
section
/-! DEFINITION. Bulk commands (R124 to R133): SEG_PATTERN, MAP_LOAD, HEALTH_DUMP, SPB_LOAD, SPB_COMMIT, FW_STAGE and FW_ACTIVATE, with the end of their reads and writes, and the end of a commissioning session. -/

namespace Sys2Proof.Machine

/-! ## Sources (R124, R125) -/

/-- The source of a validated bulk command is read; a read is held while ring traffic is paused (R69, R70). -/
def State.bulkStart (s : State) (d : Desc) : State :=
  let s := { s with cmds := { s.cmds with bulk := s.cmds.bulk ++ [d] } }
  s.fetchHost { addr := d.bulkAddr, len := d.bulkLen }

/-- A byte list read as u16 values (R2). -/
def u16s : List Byte → List Nat
  | a :: b :: t => (a.toNat + 256 * b.toNat) :: u16s t
  | _ => []

/-- Values written over a list from an index, which is padded up to it. -/
def overwrite (a : α) (off : Nat) (new old : List α) : List α := padTo a off old ++ new ++ old.drop (off + new.length)

/-- SEG_PATTERN (R126). -/
def segPatternStatus (d : Desc) : Status :=
  let steps := d.arg 33 2
  let chans := d.arg 36 1
  if d.bulkOk && steps != 0 && decide (d.arg 32 1 + steps ≤ 256) && chans != 0 && decide (d.arg 35 1 + chans ≤ 192)
      && d.bulkLen == 2 * steps * chans && d.zero 37 60 then .ok else .argInvalid

def xSegPattern (s : State) : State :=
  match s.ready 3 [0x41] with
  | none => s
  | some d => s.command d (segPatternStatus d) fun s => s.bulkStart d

/-! ## MAP_LOAD (R128, R164, R166, R309, R310, R324, R343) -/

/-- KIND, INDEX and DST_OFFSET. -/
def Desc.mapKind (d : Desc) : Nat := d.arg 32 1
def Desc.mapIndex (d : Desc) : Nat := d.arg 33 1
def Desc.mapOff (d : Desc) : Nat := d.arg 36 4

/-- Largest limp page image: that of a tile of 512 × 256 pixels (R283, R307). -/
def parkMax : Nat := 12 + 512 * 256 * 3 / 2 + 4

/-- Whether a port still is one that KIND 5 may name: EN 1 as at the command, a valid CAP of a frame-memory tile that this device owns (R309). -/
def State.limpTarget (s : State) (p : Nat) : Bool :=
  s.fbit (R.TILE_PROTO_STATUS_CAP_VALID p) && s.owns p && (match (s.port p).cap with | some c => c.frameMem | none => false)

/-- The checks of MAP_LOAD before its source is read. -/
def State.mapStatus (s : State) (d : Desc) : Status :=
  let k := d.mapKind
  let t := d.target
  let fin := d.mapOff + d.bulkLen
  if !(d.bulkOk && d.zero 34 36 && d.zero 40 60 && d.mapOff % 64 == 0 && decide (k ≤ 5)) then .argInvalid
  else if k = 0 then (if fin ≤ 2 * s.canvasW t * s.canvasH t then .ok else .argInvalid)
  else if k = 3 then (if d.mapIndex < 16 ∧ fin ≤ 2 * s.canvasW t * s.canvasH t then .ok else .argInvalid)
  else if k = 4 then (if fin ≤ parkMax then .ok else .argInvalid)
  else match (s.port t).cap with
    | none => .targetInvalid
    | some c =>
      if k = 1 then (if d.mapOff = 0 then .ok else .argInvalid)
      else if k = 2 then (if fin ≤ 64 + 2 * c.tw * c.th then .ok else .argInvalid)
      else if !s.limpTarget t then .targetInvalid
      else if d.mapOff = 0 ∧ d.bulkLen = limpImageSize c.tw c.th then .ok else .argInvalid

def xMapLoad (s : State) : State :=
  match s.ready 3 [0x50] with
  | none => s
  | some d => s.command d (s.mapStatus d) fun s => s.bulkStart d

/-- The u32 entries of a defect map. -/
def mapWords : List Byte → List Nat
  | a :: b :: c :: d :: t => leNat [a, b, c, d] :: mapWords t
  | _ => []

/-- Strictly ascending pixel indices (R343). -/
def ascending : List Nat → Bool
  | a :: b :: t => decide (a < b) && ascending (b :: t)
  | _ => true

/-- The checks of a defect map's content (R343). -/
def defectMapOk (c : Cap) (src : List Byte) : Bool :=
  let n := leAt src 0 4
  src.length == 16 + 4 * n && decide (n ≤ 8192) && leAt src 4 2 == c.tw && leAt src 6 2 == c.th
    && ascending ((mapWords (src.drop 16)).map (· % 2 ^ 17))

/-- The safety pair's check of a limp page image against the LIMP profile: every code under its ceiling, every zone and the total within their limits (R310). -/
def State.limpPageOk (s : State) (b : Spb) (n p : Nat) (m : Member) (codes : List Nat) : Bool :=
  let prof := spbProfile b (spbLimpProfile b)
  let bands := profBands prof
  let bd := s.bindOf p
  let ceil (i : Nat) : Nat :=
    let q := emitPos bd m (i % m.tw) (i / m.tw)
    ceilingAt prof bands s.lampLeft (s.canvasW n) (s.canvasH n) 0 q.1 q.2
  let ests := (zoneSums m codes).zipIdx.map fun (e : Nat × Nat) => Machine.zoneEst e.1 (spbEff b (8 * p + e.2))
  (codes.zipIdx.all fun e => decide (e.1 ≤ ceil e.2))
    && (ests.zipIdx.all fun e => decide (e.1 ≤ profZoneLim prof (8 * p + e.2)))
    && decide (ests.foldl (· + ·) 0 ≤ profTotalLim prof)

/-- KIND 5 after its source has been read (R309, R310). -/
def State.limpPageStatus (s : State) (p : Nat) (img : List Byte) : Status :=
  match (s.port p).cap with
  | none => .targetInvalid
  | some c =>
    if !s.limpTarget p then .targetInvalid
    else if 32768 < limpImageScale img then .argInvalid
    else match s.boundTo p with
      | none => .targetInvalid
      | some n => match s.safe.spb with
        | none => .spbInvalid
        | some b =>
          if s.limpPageOk b n p { port := p, tw := c.tw, th := c.th, frameMem := c.frameMem } (limpImageCodes img) then .ok else .limpPageLimit

/-- The checks of a map's content. -/
def State.mapSourceStatus (s : State) (d : Desc) (src : List Byte) : Status :=
  let k := d.mapKind
  let p := d.target
  if k = 1 then
    match (s.port p).cap with
    | none => .targetInvalid
    | some c => if defectMapOk c src then .ok else .argInvalid
  else if k = 2 then
    match (s.port p).cap with
    | none => .targetInvalid
    | some c => if d.mapOff = 0 && (leAt src 0 2 != c.tw || leAt src 2 2 != c.th) then .argInvalid else .ok
  else if k = 5 then s.limpPageStatus p src
  else .ok

/-- The packets of a limp page image: offset, LAST, data of 1,016 bytes apart from the last (R308, R309); `k` packets at most. -/
def limpBodies : Nat → Nat → List Byte → List (List Byte)
  | 0, _, _ => []
  | k + 1, off, b =>
    let last := decide (b.length ≤ 1016)
    (leBytes 4 off ++ u8 (b2n last) ++ [0, 0, 0] ++ b.take 1016) :: (if last then [] else limpBodies k (off + 1016) (b.drop 1016))

/-- The running surface of a port, whose S-tick makes its maps current. -/
def State.runsOn (s : State) (p : Nat) : Option Nat := (s.boundTo p).bind fun n => if s.running n then some n else none

/-- The map of a port is current at the next S-tick of its running surface, else at once (Table 04-11). -/
def State.portMapDue (s : State) (d : Desc) : State :=
  match s.runsOn d.target with
  | some n => s.completeAt d .ok 0 [] (.sTick n)
  | none => (s.mapsCurrent d.target).complete d .ok 0 []

/-- A reload mark clears when its map has been loaded (R568). -/
def State.reloadDone (s : State) (f : Fld) (i : Nat) : State := if s.domOn 4 then s.fset f (maskSet (s.fget f) i false) else s

/-- A checked map goes to staging and the command completes; KIND 5 sends its packets and completes with the tile's last ACK. -/
def State.mapApply (s : State) (d : Desc) (src : List Byte) : State :=
  let t := d.target
  let cells := s.canvasW t * s.canvasH t
  match d.mapKind with
  | 0 =>
    let q := s.px t
    let old := (q.gainStaged.or q.gain).getD (rep cells 0x4000)
    let s := s.setPx t fun q => { q with gainStaged := some (overwrite 0x4000 (d.mapOff / 2) (u16s src) (padTo 0x4000 cells old)) }
    (s.reloadDone R.MEM_RELOAD_A_GAIN t).completeAt d .ok 0 [] (.latch t)
  | 1 =>
    let ds := (mapWords (src.drop 16)).map fun w => let e := defectOf w; { e with fill := s.fills e.cls }
    ((s.setHl t fun h => { h with staged := some ds }).reloadDone R.MEM_RELOAD_DEFECT_PORTS t).portMapDue d
  | 2 => ((s.setHl t fun h => { h with baseStaged := h.baseStaged ++ [(d.mapOff, src)] }).reloadDone R.MEM_RELOAD_BASE_PORTS t).portMapDue d
  | 3 =>
    let q := s.px t
    let old := ((nth q.patternsStaged d.mapIndex).or (nth q.patterns d.mapIndex)).getD (rep cells 0)
    let new := overwrite 0 (d.mapOff / 2) (u16s src) (padTo 0 cells old)
    let s := s.setPx t fun q => { q with patternsStaged := upd (fun _ => some new) q.patternsStaged d.mapIndex }
    (s.reloadDone R.MEM_RELOAD_A_FALLBACK t).completeAt d .ok 0 [] (.latch t)
  | 4 =>
    let s := { s with parkPats := upd (fun (k : ParkPat) => { k with image := if d.mapOff = 0 then src else overwrite 0 d.mapOff src k.image }) s.parkPats t }
    (s.reloadDone R.MEM_RELOAD_A_PARK t).completeAt d .ok 0 [] (.mode 3)
  | _ =>
    (s.keepDesc d).queueLimpLoad t d.ring d.pos ((limpBodies 1024 0 src).map fun b => (pktLimpPage, b))

/-- The LEAD names the latch point or S-tick at which a map becomes current (Table 13-6). -/
def State.mapAlign (s : State) (d : Desc) : State :=
  if d.mapKind = 0 ∨ d.mapKind = 3 then s.alignFrame d d.target (s.targetFrame d.target)
  else match s.runsOn d.target with
    | some n => s.sendAlign d n 0 (s.gen n).advance.2.j (if s.scanAhead n then s.aheadFrame n else s.fget (R.TG_FRAME_FRAME_NUM n))
    | none => s.sendAlign d ((s.boundTo d.target).getD 0) 0 0 0

/-- A map whose source has been read and checked: applied, or in the COMPANION kept until its ALIGN (R417). -/
def State.mapRead (s : State) (d : Desc) (src : List Byte) : State :=
  match s.mapSourceStatus d src with
  | .ok =>
    if s.isCompanion && decide (d.mapKind ≤ 3) then
      { s with twin := { s.twin with waiting := s.twin.waiting ++ [{ desc := d, key := d.key, source := src }] } }
    else
      let s := if d.mapKind ≤ 3 then s.mapAlign d else s
      s.mapApply d src
  | st => s.complete d st 0 []

/-! ## HEALTH_DUMP (R129, R344, R345, R569) -/

/-- The latest forward-voltage map (R344). -/
def Health.fvMap (h : Health) (c : Cap) : List Byte :=
  (List.range (c.tw * c.th)).flatMap fun i => leBytes 2 (Nat.xor 0xFFFF (regGet h.fv i).toNat)

/-- A zone of the thermal dump; one never set reads 0x00FF0000 (R345). -/
def ZoneTherm.dump (z : ZoneTherm) : List Byte :=
  match z.age with
  | none => leBytes 4 0x00FF0000
  | some a => leBytes 2 (ofSigned 16 z.temp) ++ u8 (min 255 a) ++ [0]

/-- The expanded LIMP pattern of a core port; 0 bytes for a port without an entry (R569). -/
def State.limpCopy (s : State) (p : Nat) : List Byte :=
  match s.safe.spb with
  | none => []
  | some b => match (spbLimp b).find? fun e => e.port == p with
    | none => []
    | some e => u8 p ++ [0, 0, 0] ++ leBytes 2 e.scale ++ leBytes 2 e.tw ++ leBytes 2 e.th ++ rep 6 0 ++ e.codes.flatMap (leBytes 2)

/-- The map that a dump names. -/
def State.dumpMap (s : State) (kind t : Nat) : List Byte :=
  let h := s.hl t
  match kind with
  | 0 => match (s.port t).cap with | none => h.defectMap 0 0 | some c => h.defectMap c.tw c.th
  | 1 => match (s.port t).cap with | none => [] | some c => h.fvMap c
  | 2 => h.baseMap
  | 3 => s.pix.history.flatMap id
  | 4 => s.pix.zones.flatMap ZoneTherm.dump
  | _ => s.limpCopy t

/-- Prefix of a dump's CRC (R129). -/
def dumpPrefix (target n : Nat) : List Byte := [0x51, 3] ++ leBytes 2 target ++ leBytes 4 n

/-- A dump is written to host memory; its RESULT is kept until the last write ends. A point that the spec leaves open here: DESIGN CHOICE, log entry 141. -/
def State.dumpStart (s : State) (d : Desc) : State :=
  let all := s.dumpMap (d.arg 32 1) d.target
  let out := all.take d.bulkLen
  let res := leBytes 4 out.length ++ leBytes 4 (crcWith (dumpPrefix d.target out.length) out) ++ u8 (b2n (decide (d.bulkLen < all.length)))
  let s := { s with cmds := { s.cmds with dumps := s.cmds.dumps ++ [(d, res)] } }
  s.writeHost d.bulkAddr out

def dumpStatus (d : Desc) : Status :=
  if d.bulkOk && d.bulkCrc == 0 && decide (d.arg 32 1 ≤ 5) && d.zero 33 60 then .ok else .argInvalid

def xHealthDump (s : State) : State :=
  match s.ready 3 [0x51] with
  | none => s
  | some d => s.command d (dumpStatus d) fun s => s.dumpStart d

/-- The last write of a dump ends: the oldest dump completes (R129). -/
def xHealthDumpDone (s : State) : State :=
  match s.cmds.dumps with
  | [] => s
  | (d, res) :: t => ({ s with cmds := { s.cmds with dumps := t } }).complete d .ok 0 res

/-! ## Commissioning (R395, R396, R398, R522) -/

/-- The session ends: staged SPB and confirmation go; in SERVICE mode the device returns to STANDBY with cause 4 at the next F-tick of each enabled surface (R396, R522). -/
def State.endSession (s : State) : State :=
  s.sessionOver.leaveService

/-- A session ends and another one, opened while the close waited, takes its place (DEDUCED, log entry 136). -/
def State.sessionRenew (s : State) : State :=
  let s := s.sessionOver
  ({ s with safe := { s.safe with session := true } }).fsetb R.SAFE_COMM_STATUS_SESSION true

/-- A close: deferred while a commit writes the flash (R396). -/
def State.closeSession (s : State) : State :=
  if !s.safe.session then s
  else if s.fbit R.SAFE_COMM_STATUS_COMMIT_BUSY then { s with safe := { s.safe with closeDue := true, reopen := false } }
  else s.endSession

/-! ## SPB_LOAD and SPB_COMMIT (R130, R131, R398, R401) -/

def spbLoadStatus (d : Desc) : Status := if d.bulkOk && d.zero 32 60 then .ok else .argInvalid

def xSpbLoad (s : State) : State :=
  match s.ready 3 [0x60] with
  | none => s
  | some d => s.command d (spbLoadStatus d) fun s => s.bulkStart d

/-- A read SPB image: staged with its check value where every check of R392 holds. -/
def State.spbRead (s : State) (d : Desc) (img : List Byte) : State :=
  if !s.safe.session then s.complete d .lifecycle 0 []
  else if !spbOk img d.bulkLen then s.complete d .spbInvalid 0 []
  else
    let v := spbCheckValue img
    let s := { s with safe := { s.safe with staged := some img } }
    let s := (s.fset R.SAFE_SPB_STAGED_VALUE v).fset R.SAFE_COMM_CONFIRM_VALUE 0
    ((s.fsetb R.SAFE_COMM_STATUS_STAGED true).fsetb R.SAFE_COMM_STATUS_CONFIRMED false).complete d .ok 0 (leBytes 4 v)

/-- A copy of the SPB is being written: what it holds is open until the read-back. -/
def State.spbWrite (s : State) (d : Desc) (copy held seq : Nat) (img : List Byte) : State :=
  let s := s.emit (.flashWrite (0x10000 + 0x10000 * copy) 0 (spbRecord copy seq img))
  let n := s.free
  s.drawn.setFlash fun f => { f with spbs := upd (fun _ => Config.flashAfterFail n) f.spbs copy, jobs := f.jobs ++ [.spb d.ring d.pos copy held img seq] }

/-- SPB_COMMIT: its reserved bytes, then the staged SPB, then the confirmed value (R131). -/
def State.commitStatus (s : State) (d : Desc) : Status :=
  if !(d.flagsOk && d.zero 16 60) then .argInvalid
  else match s.safe.staged with
    | none => .spbInvalid
    | some img => if s.fget R.SAFE_COMM_CONFIRM_VALUE = spbCheckValue img then .ok else .spbMismatch

/-- The commit starts with copy A. -/
def State.commitStart (s : State) (d : Desc) : State :=
  let seq := (s.flash.maxSeq + 1) % 2 ^ 32
  let s := (s.setFlash fun f => { f with maxSeq := seq }).keepDesc d
  (s.fsetb R.SAFE_COMM_STATUS_COMMIT_BUSY true).spbWrite d 0 0 seq (s.safe.staged.getD [])

def xSpbCommit (s : State) : State :=
  match s.ready 3 [0x61] with
  | none => s
  | some d => s.command d (s.commitStatus d) fun s => s.commitStart d

/-- Whether a write of an SPB copy is in progress or waits. -/
def State.spbWriting (s : State) : Bool := s.flash.jobs.any fun j => match j with | .spb .. => true | _ => false

/-- A commit ends: COMMIT_BUSY stays while another one writes, and a deferred close follows the last (R396, R406). -/
def State.commitEnd (s : State) (ring pos : Nat) (st : Status) (held : Nat) : State :=
  let busy := s.spbWriting
  let s := (s.fsetb R.SAFE_COMM_STATUS_COMMIT_BUSY busy).completeSlot ring pos st 0 (u8 held)
  if s.safe.closeDue && !busy then (if s.safe.reopen then s.sessionRenew else s.endSession) else s

/-! ## FW_STAGE and FW_ACTIVATE (R132, R133, R588) -/

/-- The slot that is not active. -/
def State.idleSlot (s : State) : Nat := 1 - s.dir.active

def fwStageStatus (d : Desc) : Status :=
  if d.bulkOk && d.arg 32 4 % 4096 == 0 && decide (d.arg 36 1 ≤ 1) && d.zero 37 60 && decide (d.arg 32 4 + d.bulkLen ≤ 8388608) then .ok
  else .argInvalid

def xFwStage (s : State) : State :=
  match s.ready 3 [0x70] with
  | none => s
  | some d => s.command d (fwStageStatus d) fun s => s.bulkStart d

/-- A read part is written to the slot that is not active, which is incomplete from now. -/
def State.fwRead (s : State) (d : Desc) (src : List Byte) : State :=
  let k := s.idleSlot
  let off := d.arg 32 4
  let s := (s.keepDesc d).emit (.flashWrite (0x100000 + 0x800000 * k) off src)
  s.setFlash fun f => { f with
    slots := upd (fun (q : FwSlot) => { q with complete := false, factory := false }) f.slots k
    jobs := f.jobs ++ [.fwPart d.ring d.pos k off src (d.arg 36 1 == 1)] }

/-- FW_ACTIVATE: the staged image's completeness and signatures, then the anti-rollback counter (R133, R580). -/
def State.activateStatus (s : State) (d : Desc) : Status :=
  let f := s.slot s.idleSlot
  if !(d.flagsOk && d.zero 16 60) then .argInvalid
  else if !(f.factory || (f.complete && Config.imageSigned f.image && Config.boardSigned f.image s.boot.otpKey)) then .fwSignature
  else if f.secVer < s.boot.otpRollback then .fwRollback
  else .ok

/-- The directory copy with the older sequence number is written first (R588): until its read-back it does not check. -/
def State.dirWrite (s : State) (copy : Nat) (second : Bool) (n : SlotDir) : State :=
  (s.emit (.flashWrite (0x1000 * copy) 0 [])).setFlash fun f => { f with
    dirs := upd (fun (q : SlotDir) => { q with good := false }) f.dirs copy, jobs := f.jobs ++ [.fwDir 0 0 copy second n] }

/-- The slot is marked as trial for the next boot; the command completes after its checks (Table 04-1). -/
def State.activateApply (s : State) (d : Desc) : State :=
  let n : SlotDir := { s.dir with good := true, seq := s.dir.seq + 1, trial := some s.idleSlot, started := false }
  (s.dirWrite s.olderDir false n).complete d .ok 0 []

def xFwActivate (s : State) : State :=
  match s.ready 3 [0x71] with
  | none => s
  | some d => s.command d (s.activateStatus d) fun s => s.activateApply d

/-! ## The end of a source read, and of a flash write -/

/-- A source that has been read and whose CRC checks is applied. -/
def State.bulkApply (s : State) (d : Desc) (src : List Byte) : State :=
  if d.opcode = 0x41 then s.setSeg fun g => { g with patterns := g.patterns ++ [(d, u16s src)] }
  else if d.opcode = 0x50 then s.mapRead d src
  else if d.opcode = 0x60 then s.spbRead d src
  else s.fwRead d src

/-- The oldest source has been read, or its read has failed (R68, R125): with its check the command's validation ends (R100). -/
def xBulkSourceReadDone (bytes : List Byte) (ok : Bool) (s : State) : State :=
  match s.cmds.bulk with
  | [] => s
  | d :: t =>
    let s := ({ s with cmds := { s.cmds with bulk := t } }).stampSlot d.ring d.pos
    let b := padTo 0 d.bulkLen bytes
    let void := s.cmds.voided.contains (d.ring, d.pos)
    let s := { s with cmds := { s.cmds with voided := s.cmds.voided.filter fun e => e != (d.ring, d.pos) } }
    if void then s.complete d .targetInvalid 0 []
    else if !ok then s.complete d .hostRead 0 []
    else if crcWith (sourcePrefix d.opcode d.target d.bulkLen) b != d.bulkCrc then s.complete d .sourceCrc 0 []
    else s.bulkApply d b

/-- A write of an SPB copy ends: copy B follows A; a failure ends the commit (R131). -/
def State.spbWritten (s : State) (ring pos copy held seq : Nat) (img : List Byte) (ok : Bool) : State :=
  if !ok then s.commitEnd ring pos .flashFail held
  else
    let s := s.setFlash fun f => { f with spbs := upd (fun _ => spbRecord copy seq img) f.spbs copy }
    if copy = 0 then s.spbWrite { ring := ring, pos := pos } 1 1 seq img else s.commitEnd ring pos .ok 3

/-- A write of a part of an image ends: after a failure the image stays incomplete until it is begun anew at offset 0 (R132; DEDUCED, log entry 149). -/
def State.partWritten (s : State) (ring pos k off : Nat) (data : List Byte) (last ok : Bool) : State :=
  let n := s.free
  let s := if ok then
      s.setFlash fun f => { f with slots := upd (fun (q : FwSlot) => { q with image := overwrite 0xFF off data q.image, complete := last && !(q.failed && off != 0), failed := q.failed && off != 0 }) f.slots k }
    else s.drawn.setFlash fun f => { f with slots := upd (fun (q : FwSlot) => { q with image := Config.flashAfterFail n, complete := false, failed := true }) f.slots k }
  s.showSlotsFw.completeSlot ring pos (if ok then .ok else .flashFail) 0 []

/-- A write of a directory copy ends: the other copy follows the first (R588). -/
def State.dirWritten (s : State) (copy : Nat) (second : Bool) (n : SlotDir) (ok : Bool) : State :=
  if !ok then s.showSlotsFw
  else
    let s := (s.setFlash fun f => { f with dirs := upd (fun _ => n) f.dirs copy }).showSlotsFw
    if second then s else s.dirWrite (1 - copy) true n

/-- The oldest flash write ends, with its read-back (R131, R132, R588). -/
def xFlashWriteDone (ok : Bool) (s : State) : State :=
  match s.flash.jobs with
  | [] => s
  | j :: t =>
    let s := s.setFlash fun f => { f with jobs := t }
    match j with
    | .spb ring pos copy held img seq => s.spbWritten ring pos copy held seq img ok
    | .fwPart ring pos k off data last => s.partWritten ring pos k off data last ok
    | .fwDir _ _ copy second n => s.dirWritten copy second n ok

end Sys2Proof.Machine
end

