-- ==== Sys2Proof/Machine/LineCode.lean ====
section
/-! DEFINITION. The code of a pixel store line (R565): the field GF(2^8), the systematic Reed–Solomon code of 76 symbols of which the first four are the line index, its encoder, and its decoder to 4 symbol errors. -/

namespace Sys2Proof.Machine

/-! ## GF(2^8) modulo x^8 + x^4 + x^3 + x^2 + 1 -/

/-- A symbol times α. -/
def gfAlpha (a : Nat) : Nat := if 128 ≤ a then Nat.xor (2 * a) 0x11D else 2 * a

/-- A symbol times the low `k` bits of another. -/
def gfMulBits : Nat → Nat → Nat → Nat
  | 0, _, _ => 0
  | k + 1, a, b => let r := gfAlpha (gfMulBits k a (b / 2)); if b % 2 = 1 then Nat.xor r a else r

/-- The product of two symbols. -/
def gfMul (a b : Nat) : Nat := gfMulBits 8 a b

/-- α to a power. -/
def gfExp : Nat → Nat
  | 0 => 1
  | n + 1 => gfAlpha (gfExp n)

/-- The inverse of a symbol, its 254th power: the product of its squarings; 0 for 0. -/
def gfInvFrom : Nat → Nat → Nat
  | 0, _ => 1
  | k + 1, a => let q := gfMul a a; gfMul q (gfInvFrom k q)
def gfInv (a : Nat) : Nat := gfInvFrom 7 a

/-- A polynomial, lowest coefficient first, at a point. -/
def gfEval (p : List Nat) (x : Nat) : Nat := p.foldr (fun c acc => Nat.xor c (gfMul acc x)) 0

/-- Sum of two polynomials. -/
def gfAdd : List Nat → List Nat → List Nat
  | [], q => q
  | p, [] => p
  | a :: p, b :: q => Nat.xor a b :: gfAdd p q

/-- A polynomial times a constant and a power of x. -/
def gfShift (c k : Nat) (p : List Nat) : List Nat := rep k 0 ++ p.map (gfMul c)

/-- Product of two polynomials. -/
def gfProduct (p q : List Nat) : List Nat := (p.zipIdx).foldl (fun acc e => gfAdd acc (gfShift e.1 e.2 q)) []

/-! ## The codeword -/

/-- The generator: the product of x − α^i for i = 0 to 7, lowest coefficient first. -/
def rsGenerator : List Nat := (List.range 8).foldl (fun g i => gfProduct g [gfExp i, 1]) [1]

/-- One symbol into the division by the generator: the remainder, highest coefficient first. -/
def rsStep (r : List Nat) (d : Nat) : List Nat :=
  let f := Nat.xor d (r.headD 0)
  gfAdd (r.drop 1 ++ [0]) ((rsGenerator.take 8).reverse.map (gfMul f))

/-- The symbols of a line before its check symbols: the line index as a little-endian u32, never stored, and the data bytes. -/
def rsMessage (line : Nat) (data : List Byte) : List Nat := (leBytes 4 line ++ data).map BitVec.toNat

/-- The 72 bytes that the store holds for a line: its 64 data bytes and 8 check symbols. -/
def rsStored (line : Nat) (data : List Byte) : List Byte :=
  data ++ ((rsMessage line data).foldl rsStep (rep 8 0)).map (BitVec.ofNat 8)

/-! ## The decoder -/

/-- The syndromes of a word, its first symbol the highest coefficient (DEDUCED, log entry 126). -/
def rsSyndromes (word : List Nat) : List Nat := (List.range 8).map fun i => gfEval word.reverse (gfExp i)

/-- The search for the shortest register that produces the syndromes: the locator, the one before its last change of length, that length, the steps since, and the discrepancy then. -/
structure RsSearch where
  loc : List Nat := [1]
  old : List Nat := [1]
  len : Nat := 0
  gap : Nat := 1
  disc : Nat := 1
deriving DecidableEq, Repr

/-- One syndrome into the search. -/
def RsSearch.step (syn : List Nat) (q : RsSearch) (n : Nat) : RsSearch :=
  let d := (List.range (q.len + 1)).foldl (fun a i => if i ≤ n then Nat.xor a (gfMul (nth q.loc i) (nth syn (n - i))) else a) 0
  if d = 0 then { q with gap := q.gap + 1 }
  else
    let loc := gfAdd q.loc (gfShift (gfMul d (gfInv q.disc)) q.gap q.old)
    if 2 * q.len ≤ n then { loc := loc, old := q.loc, len := n + 1 - q.len, gap := 1, disc := d }
    else { q with loc := loc, gap := q.gap + 1 }

/-- The error at each place that the locator names: its power of x, and the value to add there. -/
def rsErrors (syn loc : List Nat) : List (Nat × Nat) :=
  let evaluator := (gfProduct syn loc).take 8
  let slope := loc.zipIdx.drop 1 |>.map fun e => if e.2 % 2 = 1 then e.1 else 0
  (List.range 76).filterMap fun e =>
    let x := gfExp (255 - e)
    if gfEval loc x = 0 then some (e, gfMul (gfExp e) (gfMul (gfEval evaluator x) (gfInv (gfEval slope x)))) else none

/-- The decoding of a line (R566): 0 no error, 1 data symbols corrected, 2 check symbols only, 3 uncorrectable; the number of symbols corrected; and the data. -/
structure LineResult where
  outcome : Nat
  syms : Nat
  data : List Byte
deriving DecidableEq, Repr

/-- A line of the store decoded for its index: up to 4 errors are corrected; one placed in a virtual symbol, or more of them, is uncorrectable. -/
def rsDecode (line : Nat) (stored : List Byte) : LineResult :=
  let word := (leBytes 4 line).map BitVec.toNat ++ (padTo 0 72 stored).map BitVec.toNat
  let data (w : List Nat) : List Byte := ((w.drop 4).take 64).map (BitVec.ofNat 8)
  let syn := rsSyndromes word
  if syn.all (· == 0) then ⟨0, 0, data word⟩
  else
    let q := (List.range 8).foldl (RsSearch.step syn) {}
    let errs := rsErrors syn q.loc
    if 4 < q.len ∨ errs.length ≠ q.len ∨ errs.any (fun e => decide (72 ≤ e.1)) then ⟨3, 0, []⟩
    else
      let fixed := errs.foldl (fun w e => upd (Nat.xor e.2) w (75 - e.1)) word
      ⟨if errs.any (fun e => decide (8 ≤ e.1)) then 1 else 2, errs.length, data fixed⟩

end Sys2Proof.Machine
end

