-- ==== Sys2Proof/Machine/TwinAlign.lean ====
section
/-! DEFINITION. The shadow of the COMPANION (R413, R417, R418): acceptance of twin packets, ALIGNs and the commands that wait for them, and their named ticks. -/

namespace Sys2Proof.Machine

/-- The twin record, changed. -/
def State.setTwin (s : State) (f : TwinSt → TwinSt) : State := { s with twin := f s.twin }

/-! ## Acceptance (R413) -/

/-- Whether number `a` is newer than `b` in serial-number arithmetic over 16 bits. -/
def seqNewer (a b : Nat) : Bool := let d := (a + 65536 - b) % 65536; d != 0 && decide (d < 32768)

/-- Missing numbers with one more newer number accepted; those that reach 32 are lost. -/
def ageMissing (seq : Nat) (l : List (Nat × Nat)) : List (Nat × Nat) :=
  l.map fun e => if seqNewer seq e.1 then (e.1, e.2 + 1) else e

/-- A packet that passed its check arrives with a number: whether it is accepted (R413). -/
def State.twinAccept (s : State) (seq : Nat) : State × Bool :=
  let t := s.twin
  let fresh : Option (List (Nat × Nat)) := match t.high with
    | none => some []
    | some h =>
      if seqNewer seq h then
        some (t.missing ++ (List.range ((seq + 65536 - h) % 65536 - 1)).map fun i => ((h + 1 + i) % 65536, 0))
      else if (h + 65536 - seq) % 65536 ≤ 32 ∧ !t.seen.contains seq then some (t.missing.filter fun e => e.1 != seq)
      else none
  match fresh with
  | none => (s, false)
  | some missing =>
    let aged := ageMissing seq missing
    let lost := (aged.filter fun e => decide (32 ≤ e.2)).length
    let high := match t.high with | none => seq | some h => if seqNewer seq h then seq else h
    let seen := (seq :: t.seen).filter fun q => decide ((high + 65536 - q) % 65536 ≤ 32)
    ((s.setTwin fun t => { t with high := some high, seen := seen, missing := aged.filter fun e => decide (e.2 < 32) }).fadd R.TWIN_CNT_C_LOST lost, true)

/-- Whether twin packets reach this device: TWIN is on, EN is 1, and the link is ACTIVE. -/
def State.twinHears (s : State) (t : Nat) : Bool :=
  s.domOn 8 && s.fbit R.TWIN_CTRL_EN && s.fget (R.TWIN_LANE_STATUS_STATE t) == laneActive

/-- A packet that arrives on a link, accepted or not. -/
def State.twinTake (s : State) (link seq : Nat) : State × Bool := if s.twinHears link then s.twinAccept seq else (s, false)

/-! ## Named ticks (Table 13-6) -/

/-- A named tick against the next one of its kind: whether it is due, and whether it has passed. -/
inductive Named where
  | ahead | due | passed
deriving DecidableEq, Repr

/-- A frame number against the next one; a surface without one has nothing to wait for. -/
def frameNamed (next : Option Nat) (f : Nat) : Named :=
  match next with
  | none => .due
  | some k => if k % 2 ^ 32 = f then .due else if (k + 2 ^ 32 - f) % 2 ^ 32 < 2 ^ 31 then .passed else .ahead

/-- A frame and a place in it against the next ones. -/
def placeNamed (frame place f p : Nat) : Named :=
  if frame = f then (if place = p then .due else if p < place then .passed else .ahead) else frameNamed (some frame) f

/-- The named production window of an ALIGN against the next one of its surface. -/
def State.windowNamed (s : State) (a : TwinAlign) : Named :=
  if !s.scanAhead a.surf then .due else
  let w := s.nextWindow a.surf
  placeNamed w.2.2 (8 * w.2.1 + w.1) a.frame (8 * a.j + a.phase)

/-- The named S-tick of an ALIGN against the next one of its surface. -/
def State.sTickNamed (s : State) (a : TwinAlign) : Named :=
  if !s.scanAhead a.surf then .due else placeNamed (s.aheadFrame a.surf) (s.gen a.surf).advance.2.j a.frame a.j

/-- The named tick of an ALIGN against the next tick of its kind. -/
def State.alignNamed (s : State) (d : Desc) (a : TwinAlign) : Named :=
  let next := s.nextFrame a.surf
  let target := next.map fun _ => s.targetFrame a.surf
  if d.opcode = 0x30 then (if d.arg 16 1 = 1 then .due else frameNamed next a.frame)
  else if d.opcode = 0x31 then frameNamed target a.frame
  else if d.opcode = 0x32 then frameNamed next a.frame
  else if d.opcode = 0x50 then
    (if d.mapKind = 0 ∨ d.mapKind = 3 then frameNamed target a.frame else s.sTickNamed a)
  else s.windowNamed a

/-! ## Applying -/

/-- A waiting command is applied; `named` is the frame of the tick that its ALIGN names (R417, R418). -/
def State.twinApply (s : State) (c : TwinCmd) (named : Option Nat) : State :=
  let d := c.desc
  if d.opcode = 3 then s.cancelApply d
  else if d.opcode = 0x30 then
    let e := s.cfgErrFor d
    if d.arg 16 1 = 1 && (s.surfEnabled d.target || e != 0) then s.complete d (if e = 0 then .surfaceBusy else cfgStatus e) 0 []
    else s.configApply d named
  else if d.opcode = 0x31 then (if s.surfEnabled d.target then s.retimeApply d named else s.complete d .timingInvalid 0 [])
  else if d.opcode = 0x32 then s.scalerApply d named
  else if d.opcode = 0x50 then s.mapApply d c.source
  else s.shadeRun d

/-- The surface whose alignment a command bears on. -/
def TwinCmd.surf (c : TwinCmd) : Nat := match c.align with | some a => a.surf | none => c.desc.target

/-- The frame of a surface in which a command applied now takes effect. -/
def State.effectFrame (s : State) (d : Desc) (n : Nat) : Nat :=
  if d.opcode = 0x30 ∨ d.opcode = 0x32 then (s.nextFrame n).getD 0
  else if d.opcode = 0x31 ∨ (d.opcode = 0x50 ∧ (d.mapKind = 0 ∨ d.mapKind = 3)) then s.targetFrame n
  else if d.opcode = 0x50 then s.aheadFrame n
  else (s.nextWindow n).2.2

/-- A command applied at another tick than the LEAD's: the frame in which it takes effect, of a start its first one, is not aligned (R418, R423). -/
def State.twinLate (s : State) (c : TwinCmd) (named : Option Nat) : State :=
  let starts := c.desc.opcode = 0x30 ∧ c.desc.arg 16 1 = 1
  let f := s.effectFrame c.desc c.surf
  let s := s.twinApply c named
  s.notAlignedAt c.surf (if starts then (s.gen c.surf).startF.getD f else f)

/-- One waiting command with its ALIGN, if its tick is due or has passed; a start after the frame that it was named for is late as well. -/
def twinRunCmd (c : TwinCmd) (s : State) : State :=
  match c.align with
  | none => s
  | some a =>
    match s.alignNamed c.desc a with
    | .ahead => s
    | r =>
      let s := s.setTwin fun t => { t with waiting := t.waiting.filter fun w => !(w.desc.ring == c.desc.ring && w.desc.pos == c.desc.pos) }
      let s1 := s.twinApply c (some a.frame)
      let late := c.desc.opcode == 0x30 && c.desc.arg 16 1 == 1 && (match (s1.gen a.surf).startF with | some k => k % 2 ^ 32 != a.frame | none => false)
      if r = .passed || late then s.twinLate c (some a.frame) else s1

/-- The descriptor that a shade ALIGN stands for: its arguments as sent (R417). -/
def TwinAlign.shadeDesc (a : TwinAlign) : Desc :=
  { bytes := u8 a.opcode ++ [0] ++ leBytes 2 a.tag ++ leBytes 2 (if a.opcode = 0x10 then a.surf else 0) ++ rep 10 0 ++ padTo 0 44 a.args ++ rep 4 0 }

/-- Whether an ALIGN carries shade content. -/
def TwinAlign.shade (a : TwinAlign) : Bool := a.opcode == 0x10 || a.opcode == 0x11

/-- A shade ALIGN whose window is due: its content is applied, whether or not the own copy has come (R417). -/
def twinRunShade (a : TwinAlign) (s : State) : State :=
  if !a.shade || a.applied then s else
  match s.windowNamed a with
  | .ahead => s
  | r =>
    let merged := s.shadeMerges a.shadeDesc
    let s := s.setTwin fun t => { t with aligns := t.aligns.map fun b => if b == a then { b with applied := true, merged := merged } else b }
    let s := if r = .passed then s.notAlignedAt a.surf (s.nextWindow a.surf).2.2 else s
    s.shadeContent a.shadeDesc

/-- Commands and shade ALIGNs whose named tick is due take effect. -/
def State.twinRun (s : State) : State :=
  let s := s.twin.aligns.foldl (fun s a => twinRunShade a s) s
  s.twin.waiting.foldl (fun s c => twinRunCmd c s) s

/-! ## Matching (R417) -/

/-- Whether an ALIGN names a command. -/
def alignFits (a : TwinAlign) (d : Desc) (key : Nat) : Bool := a.key == key && a.ring == d.ring && a.opcode == d.opcode

/-- A present that an ALIGN names takes its frame. -/
def State.namePresent (s : State) (a : TwinAlign) : Option State :=
  let q := s.px a.surf
  let hit : Option Present :=
    if a.opcode = 1 then (q.shadow.find? fun e => e.1.named.isNone && alignFits a e.1.desc e.2).map Prod.fst
    else q.ephem.find? fun p => p.named.isNone && alignFits a p.desc p.desc.key
  hit.map fun p =>
    let s := s.editPresent p.desc.pos fun p => { p with named := some a.frame }
    s.settlePresent p.desc.pos

/-- A command that waits takes an ALIGN; a shade command whose content has been applied completes. -/
def State.nameCommand (s : State) (a : TwinAlign) : Option State :=
  match s.twin.waiting.find? fun c => c.align.isNone && alignFits a c.desc c.key with
  | none => none
  | some c =>
    let mine (w : TwinCmd) : Bool := w.desc.ring == c.desc.ring && w.desc.pos == c.desc.pos
    if a.shade then
      if a.applied then some ((s.setTwin fun t => { t with waiting := t.waiting.filter fun w => !mine w }).shadeDone c.desc a.merged)
      else none
    else some (s.setTwin fun t => { t with waiting := t.waiting.map fun w => if mine w then { w with align := some a } else w })

/-- One ALIGN meets its command, and is spent. -/
def twinMatch (a : TwinAlign) (s : State) : State :=
  let r := if a.opcode = 1 ∨ a.opcode = 2 then s.namePresent a else s.nameCommand a
  match r with
  | none => s
  | some s => s.setTwin fun t => { t with aligns := t.aligns.filter fun b => b != a }

/-- ALIGNs meet their commands, and what is due takes effect. -/
def State.twinSettle (s : State) : State :=
  let s := s.twinRun
  let s := s.twin.aligns.foldl (fun s a => twinMatch a s) s
  s.twinRun

/-- After a command of Table 13-6: a COMPANION's copy meets an ALIGN that has come before it. -/
def settled (s : State) : State := if s.isCompanion then s.twinSettle else s

/-! ## ALIGN packets -/

/-- The body of an ALIGN (Table 13-7). -/
def alignOf (b : List Byte) : TwinAlign :=
  { ring := leAt b 0 1, opcode := leAt b 1 1, tag := leAt b 2 2, key := leAt b 4 4, surf := leAt b 8 1 % 4, phase := leAt b 9 1 % 8,
    j := leAt b 9 1 / 8 % 8, frame := leAt b 12 4, args := b.drop 16 }

/-- Whether an ALIGN has come after the tick that it names (R423); of a map whose command is not at hand, against the S-tick. -/
def State.alignLate (s : State) (a : TwinAlign) : Bool :=
  let d : Desc := match s.twin.waiting.find? fun c => alignFits a c.desc c.key with
    | some c => c.desc
    | none => { bytes := u8 a.opcode ++ rep 15 0 ++ [2] ++ rep 15 0 ++ [1] ++ rep 31 0 }
  if a.opcode = 1 ∨ a.opcode = 2 then frameNamed ((s.nextFrame a.surf).map fun _ => s.targetFrame a.surf) a.frame == .passed
  else s.alignNamed d a == .passed

/-- An ALIGN arrives on a link (R417); where its tick has passed, the frame in emission is not aligned (R423). -/
def xAlignReceived (link seq : Nat) (body : List Byte) (s : State) : State :=
  let r := s.twinTake link seq
  if !r.2 || !r.1.isCompanion || !(body.length == 16 || body.length == 60) then r.1
  else
    let a := alignOf body
    let s := if r.1.alignLate a then r.1.notAligned a.surf else r.1
    (s.setTwin fun t => { t with aligns := t.aligns ++ [a] }).twinSettle

/-- A command runs without its ALIGN: ORPHAN (R418). -/
def State.orphaned (s : State) : State := (s.fadd R.TWIN_CNT_D_ORPHAN 1).twinEvent 0x0B 0 0

/-- A present without its ALIGN goes by this device's own rules; the frame in which it takes effect is not aligned. -/
def State.orphanPresent (s : State) (n : Nat) (p : Present) : State :=
  let s := s.orphaned
  let p := { p with orphan := true }
  if p.timed then (s.editPresent p.desc.pos fun q => { q with orphan := true }).settlePresent p.desc.pos
  else
    let s := match (s.px n).next with | some q => s.supersede n q | none => s
    (s.setPx n fun q => { q with next := some p, shadow := q.shadow.filter fun e => e.1.desc.pos != p.desc.pos }).settlePresent p.desc.pos

/-- The present with a key that waits for its ALIGN. -/
def State.unnamedPresent (s : State) (key : Nat) : Option (Nat × Present) :=
  (List.range 4).findSome? fun n =>
    let q := s.px n
    let a := (q.shadow.find? fun e => e.1.named.isNone && e.2 == key).map Prod.fst
    let b := q.ephem.find? fun p => p.named.isNone && !p.orphan && p.desc.key == key
    (a.or b).map fun p => (n, p)

/-- ALIGN_MS has passed (R418): for a command without its ALIGN it runs by its own rules, and for an ALIGN without its command it is dropped. -/
def xAlignTimeout (command : Bool) (key : Nat) (s : State) : State :=
  if !command then s.setTwin fun t => { t with aligns := t.aligns.filter fun a => a.key != key }
  else match s.twin.waiting.find? fun c => c.align.isNone && c.key == key with
    | some c =>
      let s := s.setTwin fun t => { t with waiting := t.waiting.filter fun w => !(w.desc.ring == c.desc.ring && w.desc.pos == c.desc.pos) }
      s.orphaned.twinLate c none
    | none =>
      if !s.isCompanion then s else
      match s.unnamedPresent key with
      | some (n, p) => s.orphanPresent n p
      | none => s

end Sys2Proof.Machine
end

