-- ==== Sys2Proof/Machine/Ticks.lean ====
section
/-! DEFINITION. The ticks of a timing generator (chapter 02): latch points with the layers, launches and compositions that they fix (chapters 05 and 14), F-ticks, S-ticks, P-ticks, TILE_SYNC, lane ticks, TICK_OUT, and host silence. -/

namespace Sys2Proof.Machine

/-- Whether PIX and NET are on, without which no generator fires. -/
def State.ticking (s : State) : Bool := s.domOn 3 && s.domOn 9

/-! ## TICK_OUT (R62, Table 02-7) -/

/-- The tick kind that TICK_OUT selects: 5 to 7 are treated as 0. -/
def State.tickKind (s : State) : Nat := let k := s.fget R.TG_TICKOUT_KIND; if 4 < k then 0 else k

/-- Half the period of a tick kind, in whole timebase ticks of 4 ns: F-ticks and latch points, S-ticks, P-ticks, seconds. -/
def State.halfTicks (s : State) (kind n : Nat) : Nat :=
  let g := (s.gen n).grid
  if kind = 4 then 125000000
  else if kind = 1 then 125000000 / g.rate
  else if kind = 2 then g.tpQ / (8 * 2 ^ 32)
  else 125000000 / g.hz

/-- The width of a TICK_OUT pulse in timebase ticks: WIDTH_US, 0 treated as 1, at most half the tick period (R62, Table 02-7). -/
def State.pulseTicks (s : State) (kind n : Nat) : Nat := min (250 * max 1 (s.fget R.TG_TICKOUT_WIDTH_US)) (s.halfTicks kind n)

/-- A tick of a kind on a surface, at a timebase tick: TICK_OUT rises where it is selected. -/
def State.tickPulseAt (s : State) (kind n tick : Nat) : State :=
  if s.fbit R.TG_TICKOUT_EN && s.ticking && s.tickKind == kind && (kind == 4 || s.fget R.TG_TICKOUT_SRC_TG == n) then
    ({ s with pins := { s.pins with tickOut := true, tickEnd := tick + s.pulseTicks kind n } }).emit (.tickOut true)
  else s

/-- A tick of a kind on a surface, now. -/
def State.tickPulse (s : State) (kind n : Nat) : State := s.tickPulseAt kind n s.ticks

/-- Some timebase ticks pass: packets that wait for a lane start as it comes free, twin links send their K28.3 (R263), and TICK_OUT marks a second of network time, on its timebase tick, where it selects it (Table 02-7). -/
def State.passTicks (s : State) (k : Nat) : State :=
  let t := overAll 24 portGoes (overList (linkMarks k) [0, 1] (s.clockTicks k))
  if t.clk.sec = s.clk.sec then t else t.tickPulseAt 4 0 (s.ticks + s.ticksTo (t.clk.sec * 1000000000 * 2 ^ 32))

/-- The next internal tick of the segments comes: on the network grid, or while NET is off after the same time of the segments' own clock (R465; log entry 163). -/
def State.toSegTick (s : State) : State :=
  if !s.domOn 11 then s
  else if s.domOn 9 then s.passTicks (s.ticksTo (s.segTickNext * 2 ^ 32))
  else s.passTicks (s.segTickPer / 4 - (s.ticks - s.seg.tickAt))

/-- The first timebase tick comes at which the local clock is at or after an instant; none passes where it is already (R39). -/
def State.arrive (s : State) (q : Nat) : State := s.passTicks (s.ticksTo q)

/-- The pulse width has passed, on the timebase tick at which the pulse ends (R62). -/
def xTickOutPulseEnd (s : State) : State :=
  if s.pins.tickOut then (s.passTicks (s.pins.tickEnd - s.ticks)).tickLow else s

/-! ## Frames of the COMPANION -/

/-- Whether frame `a` is frame `k` or an earlier one (R41). -/
def frameUpTo (k a : Nat) : Bool := decide ((k + 2 ^ 32 - a) % 2 ^ 32 < 2 ^ 31)

/-! ## What becomes current at L(k) (R630, Table 04-11, R420) -/

/-- A COMPANION's entries from DEFECT packets that name frame `k` or an earlier one join a port's map. -/
def leadDefects (k p : Nat) (s : State) : State :=
  let due := (s.hl p).lead.filter fun e => frameUpTo k e.1
  if due.isEmpty then s else
  (s.setHl p fun h => { h with
    defects := due.foldl (fun ds e => putDefect ds e.2) h.defects, lead := h.lead.filter fun e => !frameUpTo k e.1 }).showDefects p

/-- Staged gain maps and patterns of a surface, and DEFECT entries of its ports, become current. -/
def State.latchMaps (s : State) (n k : Nat) : State :=
  let q := s.px n
  let pats := (List.range 16).map fun i => (nth q.patternsStaged i).or (nth q.patterns i)
  let gain := q.gainStaged.or q.gain
  let s := s.setPx n fun q => { q with gain := gain, gainStaged := none, patterns := pats, patternsStaged := rep 16 none }
  let s := (s.showMaps n).effectDue fun e => e == .latch n
  overList (leadDefects k) ((List.range 24).filter fun p => s.boundTo p == some n) s

/-! ## The target present (R46, R48, R108, R417) -/

/-- A present takes the place of one that waits for the same frame (R48). -/
def State.replaceNext (s : State) (n : Nat) (p : Present) : State :=
  let s := match (s.px n).next with | some q => s.supersede n q | none => s
  s.setPx n fun q => { q with next := some p }

/-- A COMPANION's presents that their ALIGN names for frame `k` or an earlier one. -/
def State.shadowDue (s : State) (n k : Nat) : State :=
  let due (e : Present × Nat) : Bool := match e.1.named with | some f => frameUpTo k f | none => false
  let go := (s.px n).shadow.filter due
  let s := s.setPx n fun q => { q with shadow := q.shadow.filter fun e => !due e }
  go.foldl (fun s e => s.replaceNext n e.1) s

/-! ## Ephemeris launches (R453 to R457) -/

/-- Whether an entry's launch tick is the F-tick ahead; in the COMPANION by its ALIGN. -/
def State.launchDue (s : State) (n k : Nat) (p : Present) : Bool :=
  if s.isCompanion && !p.orphan then (match p.named with | some f => frameUpTo k f | none => false)
  else decide (p.launch * 2 ^ 32 ≤ s.nextFQ n)

/-- LATE: an F-tick at or after the launch time has passed without it, or its launch tick fell in a hold or bridge (R453, R457). -/
def State.launchLate (s : State) (n : Nat) (p : Present) : Bool :=
  let q := s.gen n
  let r := q.nextF
  match r.2.2 with
  | some i => decide (p.launch * 2 ^ 32 ≤ r.1.tickQ i) && decide (p.launch * 2 ^ 32 < r.1.tickQ (r.2.1 * r.1.n))
  | none => q.startF.isNone && decide (p.launch * 2 ^ 32 ≤ r.1.tickQ ((r.2.1 - 1) * r.1.n))

/-- UNSYNCED: the clock in FREE, or U above UNSYNC_NS (R456). -/
def State.launchUnsynced (s : State) : Bool :=
  s.clkState == clkFree || (match s.uncert with | none => true | some u => decide (s.fget R.TIME_EPH_CFG_UNSYNC_NS < u))

/-- EVT TIMED_LAUNCH with its flags and counters (R456). -/
def State.launchEvent (s : State) (n : Nat) (p : Present) : State :=
  let late := s.launchLate n p
  let un := s.launchUnsynced
  let t := s.nextFQ n / 2 ^ 32
  let s := (s.fadd (R.TIME_EPH_CNT_LATE n) (b2n late)).fadd (R.TIME_EPH_CNT_UNSYNCED n) (b2n un)
  s.eventSurf 0x03 0x0015 n (u8 n ++ u8 (b2n late + 2 * b2n un) ++ leBytes 4 p.id ++ leBytes 4 (t % 1000000000) ++ leBytes 4 (t / 1000000000 % 2 ^ 32))

/-- The PRESENT that waits for the frame of a launch is superseded (R454). -/
def State.dropNext (s : State) (n : Nat) : State :=
  match (s.px n).next with
  | some q => (s.supersede n q).setPx n fun x => { x with next := none }
  | none => s

/-- The entry that launches: refused where the slots break a capacity rule, and the frame repeats the present in use, a PRESENT for it being superseded all the same; else it supersedes what waits and takes its slots (R454, R455; log entry 127). -/
def State.launchEntry (s : State) (n k : Nat) (p : Present) : State :=
  let recs := p.layers.map (·.record)
  if capacityStatus recs (s.otherSlots n) != .ok then
    (((s.stopPresent n p).1.fadd (R.TIME_EPH_CNT_REFUSED n) 1).presentInEffect n p.desc.pos).dropNext n
  else
    let s := if s.isLead && p.named.isNone then s.alignFrame p.desc n k else s
    (((s.replaceNext n p).takeSlots n recs).presentSeen n).launchEvent n p

/-- The entries whose launch tick is frame `k`: the last one validated launches, the others are superseded (R454). -/
def State.launchAll (s : State) (n k : Nat) : State :=
  let due := (s.px n).ephem.filter (s.launchDue n k)
  match due.reverse with
  | [] => s
  | w :: rest =>
    let gone := due.map (·.desc.pos)
    let s := (s.setPx n fun q => { q with ephem := q.ephem.filter fun p => !gone.contains p.desc.pos }).showEphem n
    let s := rest.reverse.foldl (fun s p => s.supersede n p) s
    s.launchEntry n k w

/-- The prefetch of the target present ends at the latch point (R108). -/
def State.stopTarget (s : State) (n : Nat) : State :=
  match (s.px n).next with
  | none => s
  | some p => let r := s.stopPresent n p; r.1.setPx n fun q => { q with next := some r.2 }

/-! ## Layers not ready (R168 to R172) -/

/-- Whether the present names layer `i` and the layer is not ready (R168). A point that the spec leaves open here: DEDUCED, log entry 144. -/
def Present.notReady (p : Present) (i : Nat) : Bool :=
  decide (i < p.layers.length) && !p.removed.contains i && !(nth p.layers i).done

/-- The count of one layer index at a latch point, and LAYER_NOT_READY (R170). -/
def countLayer (n i : Nat) (s : State) : State :=
  match (s.px n).use with
  | none => s.setPx n fun q => { q with notReady := upd (fun _ => 0) q.notReady i }
  | some p =>
    if p.notReady i then
      let c := satAdd 255 (nth (s.px n).notReady i) 1
      let s := (s.setPx n fun q => { q with notReady := upd (fun _ => c) q.notReady i }).fadd (R.PIX_COMP_COUNT_NOT_READY n) 1
      s.eventSurf 0x05 0x0013 n (u8 n ++ u8 i ++ u8 (lyPolicy (nth p.layers i).record) ++ u8 c ++ [0, 0] ++ leBytes 4 p.id)
    else s.setPx n fun q => { q with notReady := upd (fun _ => 0) q.notReady i }

/-- The layers of the present in use that are not ready. -/
def SurfPix.notReadyNow (q : SurfPix) : Nat :=
  match q.use with
  | none => 0
  | some p => maskOf ((List.range 8).filter p.notReady)

/-- What composition takes for a layer (Table 05-5). -/
def SurfPix.layerSrc (q : SurfPix) (p : Present) (i : Nat) : LayerSrc :=
  let l := nth p.layers i
  if p.removed.contains i then .none
  else if l.done then .rows l.record l.rows
  else if lyPolicy l.record = 1 then .none
  else if lyPolicy l.record = 2 then
    (match nth q.patterns (lyFallback l.record) with | some v => .pattern l.record v | none => .none)
  else match nth q.held i with | some h => .rows h.record h.rows | none => .none

/-- Last ready content after a composed frame: replaced where the layer is ready, discarded where the present does not name it (R172). -/
def SurfPix.holdLayers (q : SurfPix) (p : Present) : SurfPix :=
  { q with held := (List.range 8).map fun i =>
      let l := nth p.layers i
      if p.layers.length ≤ i || p.removed.contains i then none
      else if l.done then some { record := l.record, rows := l.rows, timed := p.timed, pos := p.desc.pos }
      else nth q.held i }

/-! ## Composition at the latch point (R50, R52, R59, R178, R630) -/

/-- Canvas positions that the defect maps mark for fill (R167). -/
def State.deadPixels (s : State) (n : Nat) : List (Nat × Nat) :=
  (s.gen n).members.flatMap fun m =>
    ((s.hl m.port).defects.filter (·.fill)).map fun d => emitPos (s.bindOf m.port) m (d.idx % m.tw) (d.idx / m.tw)

/-- The PIX_FILL fields of a surface come into force at L(k) (R179). -/
def State.takeFill (s : State) (n : Nat) : State :=
  ((s.takeDue (R.PIX_FILL_EN n)).takeDue (R.PIX_FILL_SHARE n)).takeDue (R.PIX_FILL_MAX_ADD n)

/-- The composition of frame `k` from a present, with everything latched for it. -/
def State.jobOf (s : State) (n k : Nat) (p : Present) : Job :=
  let q := s.px n
  { surf := n, frame := k, srcs := (List.range p.layers.length).map (q.layerSrc p), ready := p.layers.map (·.done), present := p,
    gain := q.gain, dead := s.deadPixels n, feet := (s.gen n).members.map fun m => (s.bindOf m.port).foot m,
    fill := s.inForce (R.PIX_FILL_EN n) != 0, share := s.inForce (R.PIX_FILL_SHARE n), maxAdd := s.inForce (R.PIX_FILL_MAX_ADD n),
    left := s.lampLeft, width := s.canvasW n, height := s.canvasH n, banks := s.pix.scalers.map (·.bankA), held := q.held }

/-- A composition is queued; what an overrun left of an earlier one is abandoned (R52). A point that the spec leaves open here: DESIGN CHOICE, log entry 145. -/
def State.compose (s : State) (n k : Nat) (p : Present) : State :=
  let s := s.takeFill n
  let j := s.jobOf n k p
  let s := s.setPx n fun q => { q.holdLayers p with waiting := none, recompose := false, abandoned := none }
  ({ s with pix := { s.pix with jobs := (s.pix.jobs.filter fun (i : Job) => i.surf != n) ++ [j] } }).showComposing

/-- Whether an overrun of an earlier frame than `k` is left at its latch point. A composition for frame `k` itself stands where a clock step brings L(k) a second time (R439). -/
def State.overrunLeft (s : State) (n k : Nat) : Bool :=
  (match (s.px n).waiting with | some w => w.1 != k | none => false) || s.pix.jobs.any fun (j : Job) => j.surf == n && j.frame != k

/-- An overrun composition continues, for frame `k`, which is skipped (R52). -/
def State.continueOverrun (s : State) (n k : Nat) : State :=
  let s := s.setPx n fun q => { q with waiting := q.waiting.map fun w => (k, w.2) }
  let jobs := s.pix.jobs.map fun (j : Job) => if j.surf = n then { j with frame := k } else j
  let s := { s with pix := { s.pix with jobs := jobs } }
  (s.fadd (R.TG_COUNT_COMPOSE_SKIPPED n) 1).eventSurf 0x04 0x0011 n (u8 n ++ [0] ++ leBytes 4 k)

/-- What is composed at L(k): a new present, the present in use without removed symbols, or an overrun that continues; else nothing (R52, R178, R630). -/
def State.latchCompose (s : State) (n k : Nat) (new : Bool) : State :=
  let q := s.px n
  match q.use with
  | none => s
  | some p =>
    if new || q.recompose then s.compose n k p
    else if s.overrunLeft n k then s.continueOverrun n k
    else s

/-- Whether a COMPANION's present goes into another frame than the one that its ALIGN named, or went without an ALIGN (R418, R423). -/
def Present.late (p : Present) (k : Nat) : Bool := p.orphan || (match p.named with | some f => f != k % 2 ^ 32 | none => false)

/-- The latch point of frame `k` of a surface, outside a RETIME's own frame. -/
def State.latchFrame (s : State) (n k : Nat) : State :=
  let s := ((s.shadowDue n k).launchAll n k).stopTarget n
  let s := s.setGen n fun q => { q with latched := true }
  let new := (s.px n).next.isSome
  let s := match (s.px n).next with
    | some p =>
      let s := s.setPx n fun q => { q with use := some p, next := none }
      if p.late k then s.notAlignedAt n k else s
    | none => s
  let s := overAll 8 (countLayer n) s
  (s.setPx n fun q => { q with notReadyMask := q.notReadyNow }).latchCompose n k new

/-- The latch point of F(m) of a RETIME: it is armed, and no composition starts for frame m (R56, R59). A point that the spec leaves open here: DESIGN CHOICE, log entry 139. -/
def State.latchRetime (s : State) (n : Nat) : State :=
  let s := s.setGen n fun q => { q with latched := true, retimeArmed := true }
  let s := overAll 8 (countLayer n) s
  s.setPx n fun q => { q with notReadyMask := q.notReadyNow }

/-- A latch point (R46): once for each F-tick to come, LEAD_US before it (Table 02-1). -/
def xLatchPoint (n : Nat) (s : State) : State :=
  if !s.ticking then s else
  match s.nextFrame n with
  | none => s
  | some k =>
    let q := s.gen n
    if q.latched then s else
    let s := (s.arrive (s.latchQ n)).latchMaps n k
    (if q.retime.isSome && q.phase != .hold then s.latchRetime n else s.latchFrame n k).tickPulse 3 n

/-- A latch point whose timebase tick has come fires ahead of a command validated in that tick or later (R46, R111). -/
def latchIfDue (n : Nat) (s : State) : State :=
  if s.ticking && (s.nextFrame n).isSome && decide (s.latchQ n ≤ s.clkQ) then xLatchPoint n s else s

/-- The latch points whose timebase tick has come. -/
def State.latchesDue (s : State) : State := overAll 4 latchIfDue s

/-- A SAFE layer's count exceeds SAFE_N (R171). -/
def xLayerSafeLimit (n i : Nat) (s : State) : State :=
  match (s.px n).use with
  | none => s
  | some p =>
    let r := (nth p.layers i).record
    if p.notReady i && lyPolicy r == 3 && decide (lySafeN r < nth (s.px n).notReady i) && (nth (s.px n).notReady i == lySafeN r + 1 || !s.faultOn 14) then s.raise 14 n i else s

/-! ## F-ticks (R40, R44, R59, R61, R94, R633) -/

/-- The timing registers take the values of the grid that a bridge ends on (R61). -/
def State.gridReached (s : State) (n : Nat) (before after : Gen) : State :=
  if before.phase == .bridge && after.phase != .bridge then s.putGrid n after.grid else s

/-- A surface is no longer waited for by a mode transition: the exit from LIMP at its F-tick, at which its beam ends unless the exit is withdrawn, the entry into PARK once it has stopped (R512, R518). -/
def State.modeSurf (s : State) (n : Nat) (stopped : Bool) : State :=
  let s := s.recheckExit
  let ends := s.mode.trans.any fun t => t.src == 4 && t.waitSurf.contains n
  let s := if ends then overList scaleOwed ((s.gen n).members.map (·.port)) { s with safe := { s.safe with limpEnded := maskSet s.safe.limpEnded n true } } else s
  let s := s.dropWait n
  if stopped && s.mode.parkWait.contains n then
    let s := s.setMode fun m => { m with parkWait := m.parkWait.filter (· != n) }
    if s.mode.parkWait.isEmpty then s.parkServe else s
  else s

/-- THERM_SCALE of a surface comes into force at F(k); a new value goes to its tiles after their next marker (R538, R547). -/
def State.takeScale (s : State) (n : Nat) : State :=
  let old := s.inForce (R.THERM_SCALE_SCALE n)
  let s := s.takeDue (R.THERM_SCALE_SCALE n)
  if s.inForce (R.THERM_SCALE_SCALE n) = old then s
  else overList scaleOwed ((List.range 24).filter fun p => s.boundTo p == some n) s

/-- PIX_DERATE of a surface comes into force at F(k) (R224). -/
def State.takeDerate (s : State) (n : Nat) : State :=
  [R.PIX_DERATE_A_START n, R.PIX_DERATE_A_FLOOR n, R.PIX_DERATE_A_EN n, R.PIX_DERATE_B_SLOPE n, R.PIX_DERATE_B_RISE n].foldl State.takeDue s

/-- Every class F field of a surface comes into force: its generator stops (R8). -/
def State.takeAllF (s : State) (n : Nat) : State :=
  let s := { s with pix := { s.pix with fOld := [] } }
  ((((s.takeFill n).takeDerate n).takeScale n).takeBit R.PIX_SHADE_CTRL_SURF_EN n).takeBit R.PIX_OUT_CTRL_DITHER_EN n

/-- Whether a scaler's armed swap waits for a surface. -/
def Scaler.armedFor (c : Scaler) (n : Nat) : Bool := match c.armed with | some (m, _) => m == n | none => false

/-- An armed scaler swap takes effect at the surface's F-tick (R120). -/
def swapScaler (n k : Nat) (s : State) : State :=
  if (nth s.pix.scalers k).armedFor n then
    let s := { s with pix := { s.pix with scalers := upd (fun c => { bankA := c.bankB, bankB := c.bankA, armed := none }) s.pix.scalers k } }
    (s.fsetb (R.PIX_SCALER_ACTIVE_BANK k) (!s.fbit (R.PIX_SCALER_ACTIVE_BANK k))).fsetb (R.PIX_SCALER_ARMED k) false
  else s

/-- A pending stop takes effect at its F-tick (R44), and with it an armed scaler swap (R120). -/
def State.stopAtF (s : State) (n : Nat) : State :=
  let s := overAll 2 (swapScaler n) s
  let ports := (List.range 24).filter fun p => s.boundTo p == some n
  (((overList (fun p s => s.mapsCurrent p) ports s).takeAllF n).surfDisabled n).modeSurf n true

/-- Host silence at an F-tick of a surface: the count moves where the surface is the watched one (R94). -/
def State.countSilence (s : State) (n : Nat) : State :=
  let seen := bitOf s.host.presentSeen n
  let s := { s with host := { s.host with presentSeen := maskSet s.host.presentSeen n false } }
  if s.fget R.HOST_SILENCE_SURF ≠ n then s
  else if seen then s.fset R.HOST_SILENCE_CNT_COUNT 0 else s.fadd R.HOST_SILENCE_CNT_COUNT 1

/-- Commands in effect at the F-tick that begins a frame. -/
def frameEffect (n frame : Nat) (e : EffectAt) : Bool :=
  match e with
  | .fTick m f => m == n && (f == frame || f == anyFrame)
  | _ => false

/-- RETIME_PENDING and RETIME_ACTIVE at an F-tick: F(m) begins the hold, the first new F-tick ends it (R56, R59, R61). -/
def State.retimeFlags (s : State) (n : Nat) (g : Gen) : State :=
  if g.phase == .hold then
    ((s.fsetb (R.TG_STATUS_RETIME_PENDING n) false).fsetb (R.TG_STATUS_RETIME_ACTIVE n) true).effectDue fun e => e == .retime n
  else s.fsetb (R.TG_STATUS_RETIME_ACTIVE n) false

/-- A frame starts. -/
def State.frameStart (s : State) (n : Nat) (before after : Gen) : State :=
  let frame := match before.startF with
    | some k => k % 2 ^ 32
    | none => (s.fget (R.TG_FRAME_FRAME_NUM n) + 1) % 2 ^ 32
  let s := s.setGen n fun _ => { after with atF := true, latched := false, windowed := false, frameN := after.grid.n, members := after.joined, joins := [], leaves := [] }
  let s := ((s.fsetb (R.TG_STATUS_RUNNING n) true).fset (R.TG_FRAME_FRAME_NUM n) frame).gridReached n before after
  let s := ((s.retimeFlags n after).takeDerate n).takeScale n
  let s := ((s.countSilence n).modeSurf n false).effectDue (frameEffect n frame)
  let s := overAll 2 (swapScaler n) s
  let s := match (s.px n).use with | some p => s.presentInEffect n p.desc.pos | none => s
  let s := s.setTwinSurf n fun q => { q with bad := padTo false 3 (false :: q.bad), sigBad := q.sigBad.filter fun f => !frameUpTo (frame + 2 ^ 32 - 3) f }
  s.tickPulse 0 n

/-- An F-tick (R39, R40), on the timebase tick that its instant gives: a pending stop takes effect, or a frame starts. -/
def xFTick (n : Nat) (s : State) : State :=
  let q := s.gen n
  if !s.ticking || q.atF || !(s.running n || q.startF.isSome) then s
  else if !q.advance.1 then s
  else
    let s := s.arrive q.advance.2.sQ
    if q.stopPend && s.running n then (s.gridReached n q q.advance.2).stopAtF n
    else s.frameStart n q q.advance.2

/-- The host has been silent for FRAMES while light is requested (R95, fault 13). -/
def xHostSilenceLimp (s : State) : State :=
  if max 2 (s.fget R.HOST_SILENCE_FRAMES) ≤ s.fget R.HOST_SILENCE_CNT_COUNT ∧ s.lightOn ∧ !s.faultOn 13 then
    (s.fsetb R.HOST_STATUS_SILENCE_LIMP true).raise 13 (s.fget R.HOST_SILENCE_SURF) 0
  else s

/-! ## The rotating pixel lane (R223, R556) -/

/-- The MISR that a lane's test ends with, the response differing from the good one by `errs`. -/
def State.laneMisr (s : State) (lane : Nat) (errs : List Word) : Nat := (runMisr lane 3 s.test.seed 0 errs).toNat

/-- The next of the 64 LFSR seeds (R561). -/
def State.nextSeed (s : State) : State := { s with test := { s.test with seed := (s.test.seed + 1) % 64 } }

/-- The slice of the offline lane is judged by its MISR and the lanes rotate: a lane that failed is retired, and none rotates after that. -/
def State.rotateLanes (s : State) (errs : List Word) : State :=
  if !s.domOn 3 || s.fget R.PIX_LANE_STATUS_RETIRED != 0 then s else
  let o := s.fget R.PIX_LANE_STATUS_OFFLINE
  let misr := s.laneMisr o errs
  let s := if o < 5 then s.nextSeed.fadd R.TEST_LANE_CNT_TESTS 1 else s
  if !misrPass errs && decide (o < 5) then
    let s := (s.fset R.PIX_LANE_STATUS_RETIRED (2 ^ o)).fsetb R.PIX_LANE_STATUS_ROTATING false
    ((s.fset R.PIX_LANE_STATUS_OFFLINE 7).twinBad).sounding o 2 misr
  else (s.fset R.PIX_LANE_STATUS_OFFLINE (if o < 5 then (o + 1) % 5 else 0)).fsetb R.PIX_LANE_STATUS_ROTATING true

/-- The lowest-numbered enabled surface. -/
def State.lowestSurf (s : State) : Option Nat := (List.range 4).find? s.surfEnabled

/-! ## S-ticks (R37, R208, R212, R288, R419) -/

/-- One axis of the applied offset steps towards its target: the offset and the accumulator (R208). -/
def aimStep (target applied : Int) (acc rate hz : Nat) : Int × Nat :=
  let dist := target - applied
  if dist = 0 then (applied, 0)
  else
    let acc := acc + rate * 65536 / hz
    let step := min (acc / 65536) (absNat dist)
    let applied := if 0 < dist then applied + (step : Nat) else applied - (step : Nat)
    (applied, if applied = target then 0 else acc - step * 65536)

/-- The aim in force at an S-tick: an AIM validated in its timebase tick waits for the next one (R208). -/
def State.aimDue (s : State) (n : Nat) : AimOld :=
  match (s.px n).aimOld with
  | some o => if o.tick = s.ticks then o else s.aimNow n
  | none => s.aimNow n

/-- Both axes of a surface step at an S-tick. -/
def State.stepAim (s : State) (n hz : Nat) : State :=
  let q := s.px n
  let a := s.aimDue n
  let v := aimStep a.tv q.aimV q.accV a.rv hz
  let h := aimStep a.th q.aimH q.accH a.rh hz
  s.setPx n fun q => { q with aimV := v.1, accV := v.2, aimH := h.1, accH := h.2 }

/-- Scan cycles since a member tile's last STATUS. -/
def ageStatus (p : Nat) (s : State) : State := s.setPort p fun q => { q with statusAge := q.statusAge.map fun a => min 255 (a + 1) }

/-- TIMING goes ahead of a scan cycle of another length or grid (R288). -/
def State.timingAhead (s : State) (n : Nat) : State :=
  let q := s.gen n
  if !s.scanAhead n then s else
  let a := q.advance.2
  if a.lenQ = q.lenQ ∧ a.grid = q.grid then s else s.timingAll n a.grid a.lenQ

/-- The beam profile of the scan cycle to come: a new one from the first scan cycle of its frame (R350, R419). -/
def State.profileAhead (s : State) (n : Nat) : Nat :=
  match (s.spill n).nextProfile with
  | some (prof, f) => if s.scanAhead n && (s.gen n).advance.1 && f == s.aheadFrame n then prof else (s.spill n).profile
  | none => (s.spill n).profile

/-- LATCH body (Table 13-8). -/
def State.latchBody (s : State) (n : Nat) : List Byte :=
  let zs := s.surfZones n
  let q := s.px n
  let frame := if s.scanAhead n then s.aheadFrame n else s.fget (R.TG_FRAME_FRAME_NUM n)
  leBytes 4 frame ++ u8 ((s.gen n).advance.2.j % 8 + n * 8) ++ u8 (s.profileAhead n) ++ leBytes 2 zs.length
    ++ s16le q.aimV ++ s16le q.aimH ++ s16le (s.fint (R.PIX_AIM_TARGET_V n)) ++ s16le (s.fint (R.PIX_AIM_TARGET_H n))
    ++ leBytes 2 (s.fget (R.PIX_AIM_RATE_V n)) ++ leBytes 2 (s.fget (R.PIX_AIM_RATE_H n))
    ++ zs.flatMap fun z => leBytes 4 (z + (s.zone z).factor * 256)

/-- The LEAD sends what it will latch for the scan cycle to come (R419). -/
def State.sendLatch (s : State) (n : Nat) : State := if s.isLead then s.sendTwin 0x43 (s.latchBody n) else s

/-- A LATCH of the LEAD takes the place of the COMPANION's own values, at the scan cycle that it names (R419). -/
def State.useLatch (s : State) (n : Nat) (l : TwinLatch) : State :=
  let s := s.setPx n fun q => { q with aimV := l.av, aimH := l.ah, accV := 0, accH := 0 }
  let s := (s.fseti (R.PIX_AIM_TARGET_V n) l.tv).fseti (R.PIX_AIM_TARGET_H n) l.th
  let s := (s.fset (R.PIX_AIM_RATE_V n) l.rv).fset (R.PIX_AIM_RATE_H n) l.rh
  let s := if s.profileAhead n = l.profile && (s.spill n).profile = l.profile then s
    else s.setSpill n fun q => { q with nextProfile := if q.profile = l.profile then none else some (l.profile, s.aheadFrame n) }
  l.zones.foldl (fun s (e : Nat × Nat) => s.setZone e.1 fun q => { q with factor := min 65536 e.2 }) s

/-- Whether a LATCH names the scan cycle to come. -/
def State.latchNow (s : State) (n : Nat) (l : TwinLatch) : Named :=
  if !s.scanAhead n then .due else placeNamed (s.aheadFrame n) (s.gen n).advance.2.j l.frame l.j

/-- A LATCH that waits is used once the scan cycle that it names is the next one; one that is late is dropped and the frame is not aligned (R419, R423). -/
def State.takeLatch (s : State) (n : Nat) : State :=
  match (nth s.twin.surfs n).latch with
  | none => s
  | some l =>
    match s.latchNow n l with
    | .ahead => s
    | .due => (s.setTwinSurf n fun q => { q with latch := none }).useLatch n l
    | .passed => (s.setTwinSurf n fun q => { q with latch := none }).notAligned n

/-- Ports without a member tile whose zone entries age with a surface's scan cycles: those bound to it, and with the lowest running surface those of no running surface (R342; DESIGN CHOICE, log entry 123). -/
def State.agesWith (s : State) (n : Nat) (members : List Nat) (p : Nat) : Bool :=
  !members.contains p && (match s.runsOn p with | some m => m == n | none => s.lowestSurf == some n)

/-- What a scan cycle's start does once the generator stands at it. A point that the spec leaves open here: DESIGN CHOICE, log entry 147. -/
def State.scanStart (s : State) (n : Nat) (errs : List Word) : State :=
  let q := s.gen n
  let ports := (List.range 24).filter fun p => s.tickPort n p && (s.port p).timed
  let s := s.setGen n fun q => { q with fired := 0 }
  let s := ((overList (markPort (q.sQ / 2 ^ 32)) ports s).claimsDue n).timingAhead n
  let s := s.stepAim n q.grid.rate
  let s := overList (zoneStep n false) (s.surfZones n) s
  let members := q.members.map (·.port)
  let s := overList ageStatus members s
  let s := overList (fun p s => s.mapsCurrent p) ((List.range 24).filter fun p => s.boundTo p == some n) s
  let s := overList (fun p s => s.healthTick n ((s.px n).prod.dither) p) members s
  let s := overList (fun p s => s.thermPort p) ((List.range 24).filter (s.agesWith n members)) s
  let s := if s.lowestSurf = some n then s.rotateLanes errs else s
  let s := (s.sendLatch n).takeLatch n
  let s := s.effectDue fun e => e == .sTick n
  s.tickPulse 1 n

/-- An S-tick (R38, R39), on the timebase tick that its instant gives: that of an F-tick that has fired, or the next one in the frame. -/
def xSTick (n : Nat) (errs : List Word) (s : State) : State :=
  let q := s.gen n
  if !s.ticking || !s.running n then s
  else if q.atF then (s.setGen n fun q => { q with atF := false }).scanStart n errs
  else if q.advance.1 then s
  else
    let a := q.advance.2
    (((s.arrive a.sQ).setGen n fun _ => a).gridReached n q a).scanStart n errs

/-! ## P-ticks, TILE_SYNC and lane ticks -/

/-- A phase starts at the tiles, at p × T_P after the S-tick, at most eight in a scan cycle (R34, R39). -/
def xPTick (n : Nat) (s : State) : State :=
  let q := s.gen n
  if s.ticking && s.running n && !q.atF && decide (q.fired < 8) then
    ((s.arrive (q.sQ + q.fired * q.grid.phaseQ q.lenQ)).setGen n fun q => { q with fired := q.fired + 1 }).tickPulse 2 n
  else s

/-- The core ports of a surface. -/
def State.corePorts (s : State) (n : Nat) : List Nat := (List.range 6).filter fun p => s.boundTo p == some n && s.portOn p

/-- TILE_SYNC of core ports goes to a level. -/
def State.setSync (s : State) (ps : List Nat) (level : Bool) : State :=
  let s := { s with pins := { s.pins with tileSync := ps.foldl (fun m p => maskSet m p level) s.pins.tileSync } }
  s.emits (ps.map fun p => .tileSync p level)

/-- S′ − 4 µs (R37). -/
def xTileSyncRise (n : Nat) (s : State) : State := if s.ticking && s.running n then s.setSync (s.corePorts n) true else s

/-- S′ − 3 µs (R37). -/
def xTileSyncFall (n : Nat) (s : State) : State :=
  s.setSync ((s.corePorts n).filter (bitOf s.pins.tileSync)) false

/-- TIME for a lane tick (Table 09-6): FRAME 0, SCAN[7] 1. -/
def laneTimeBody (ns : Nat) (holdover : Bool) : List Byte :=
  leBytes 6 (ns / 1000000000) ++ leBytes 4 (ns % 1000000000) ++ [0, 0, 0, 0, 0x80, 0] ++ u8 (b2n holdover) ++ [0, 0, 0]

/-- The marker of a lane tick and the TIME before it on one port (R240, R285). -/
def laneTickPort (ns p : Nat) (s : State) : State :=
  markPort ns p (s.sendNow p pktTime (laneTimeBody ns (s.clkState != clkSynced)) 0)

/-- A lane tick: every port that carries symbols and is not bound to an enabled surface (R240). While NET is off the core ports that serve the LIMP or PARK beam keep their markers from the free-running timebase (R32; DESIGN CHOICE, log entry 113). -/
def xLaneTick (s : State) : State :=
  if s.domOn 9 then
    overList (laneTickPort (s.nowNs / 500000 * 500000)) ((List.range 24).filter fun p => s.canSend p && !s.boundEnabled p) s
  else if s.safe.form == .none then s
  else overList (laneTickPort (s.ticks * 4 / 500000 * 500000)) ((List.range 6).filter s.canSend) s

end Sys2Proof.Machine
end

