-- ==== Sys2Proof/Machine/Sounding.lean ====
section
/-! DEFINITION. Sounding and memory protection (chapter 19) with the Spillway's test injection (R366, R367): G-intervals, periodic slices, loop-backs, the test engine, the pixel store's decoder and scrubber, and SRAM errors. -/

namespace Sys2Proof.Machine

/-! ## Refused writes (R601) -/

/-- A refused write is logged in the GLOBAL registers, with at most one event in 1 ms (R601). -/
def State.logRefused (s : State) (addr value : Nat) (classC : Bool) : State :=
  let s := (s.fset R.GLOBAL_WREF_ADDR_ADDR addr).fset R.GLOBAL_WREF_VALUE_VALUE value
  let s := (s.fsetb R.GLOBAL_WREF_INFO_CLASS classC).fadd R.GLOBAL_WREF_INFO_COUNT 1
  let fresh := match s.host.wrefAt with | none => true | some t => decide (t + 250000 ≤ s.ticks)
  if s.fbit R.GLOBAL_WREF_INFO_EVT_EN && fresh then
    ({ s with host := { s.host with wrefAt := some s.ticks } }).eventDev 0x00 0x0003 (leBytes 4 addr ++ u8 (b2n classC) ++ [0] ++ leBytes 4 value)
  else s

/-! ## The Spillway's test injection (R366, R367) -/

/-- The 65,535 of one test position through the clamp and the output comparator: the clamped value reaches the ceiling at most, and a full code above the comparator's own ceiling, which is the same one, becomes 0. -/
def clampTest (c c2 : Nat) : List Bool :=
  [decide (spillway 65535 65536 c = min 65535 (16 * c)), decide (compareOut c2 (encodeCode 65535 15) = if c < 4095 then 0 else 4095)]

/-- The columns of one ceiling row that a test takes: one inside each interval, and one outside where the row has one. -/
def testColumns (w : Nat) (is : List Interval) : List Nat :=
  is.flatMap fun i => i.x0 :: (if i.x1 + 1 < w then [i.x1 + 1] else if 0 < i.x0 then [i.x0 - 1] else [])

/-- The results of one test (R366), each true where it is as expected: the positions of one ceiling row, which the output comparator takes from the second copy of the table (R354), a test clamp scale on a test value, a synthetic sum that must produce an excess in a shadow accumulator, and an offset out of range and a step above the rate that must both fail. -/
def spillVectors (b : Spb) (p p2 : List Byte) (w row z hz : Nat) : List Bool :=
  let is := bandAt (profBands p) row []
  let is2 := bandAt (profBands p2) row []
  let eff := max 1 (spbEff b z)
  let top := 2 ^ 20 * (profZoneLim p z + 1) / eff + 1
  (testColumns w is).flatMap (fun x => clampTest (ceilingIn x is 4095) (ceilingIn x is2 4095))
  ++ [decide (spillway 32768 32768 4095 = 16384),
      !(excessOf p [(z, zoneEst top eff)]).1.isEmpty,
      !(axisCheck (profVMin p) (profVMax p) (profVMax p + 1) {}).1,
      aimFast p hz (0, 0) (ceilDiv (profVRate p) hz + 1) 0]

/-- The results of the test that a G-interval of a surface runs: none without an SPB. The test zone is the first of the surface. -/
def State.spillResults (s : State) (n : Nat) : List Bool :=
  match s.safe.spb with
  | none => []
  | some b => spillVectors b (spbProfile b (s.spill n).profile) (spbProfile (s.safe.ceilCopy.getD b) (s.spill n).profile) (s.canvasW n) (nth s.safe.testRow n) ((s.surfZones n).headD 0) (max 1 (s.px n).prod.grid.rate)

/-- Whether a test has the results expected: `upset` names those that a fault of the Spillway turns (R367; log entry 124). -/
def State.spillPasses (s : State) (n : Nat) (upset : List Nat) : Bool :=
  (s.spillResults n).zipIdx.all fun e => e.1 != upset.contains e.2

/-- One test of a surface's rotation: a failure is repeated at the next G-interval, and a second one in a row is fault 9. -/
def State.spillTest (s : State) (n : Nat) (ok : Bool) : State :=
  let row := nth s.safe.testRow n
  let again := nth s.safe.testFailed n
  let s := (s.fset R.SAFE_TEST_STAT_ROW row).fsetb R.SAFE_TEST_STAT_FAIL (!ok)
  if ok then
    { s with safe := { s.safe with testRow := upd (fun _ => (row + 1) % 1024) s.safe.testRow n,
                                   testFailed := upd (fun _ => false) s.safe.testFailed n } }
  else
    let s := ({ s with safe := { s.safe with testFailed := upd (fun _ => true) s.safe.testFailed n } }).fadd R.SAFE_SPILL_COUNT_TEST_FAIL 1
    if again then s.raise 9 n row else s

/-! ## SRAM slices (R552 to R555) -/

/-- What one SRAM slice finds: segments skipped before it (their domains off), whether its March passes, the spare that a repair would take (1 row, 2 column, 0 none free), the array, and whether the segment holds the LIMP store or the SPB working copy. -/
structure Slice where
  skip : Nat
  pass : Bool
  spare : Nat
  array : Nat
  safeStore : Bool
deriving DecidableEq, Repr

/-- The sweep passes a segment; at the wrap its duration is shown (R554). -/
def State.nextSegment (s : State) (x : Nat) : State :=
  if x + 1 < 4096 then s.fset R.TEST_SWEEP_SEGMENT (x + 1)
  else
    let ms := (s.ticks - s.test.sweepAt) * 4 / 1000000
    let s := (s.fset R.TEST_SWEEP_SEGMENT ((x + 1) % 4096)).fset R.TEST_SWEEP_LAST_MS (min 65535 ms)
    { s with test := { s.test with sweepAt := s.ticks } }

/-- A segment has failed its March twice: soft repair while TEST_SPARES has a spare of the kind, or the fault (R551, R555). -/
def State.segmentBad (s : State) (x : Nat) (q : Slice) : State :=
  let detail := x % 4096 + q.array % 65536 * 65536
  let f := if q.spare = 1 then R.TEST_SPARES_ROWS_LEFT else R.TEST_SPARES_COLS_LEFT
  if q.spare = 0 || s.fget f == 0 then
    let s := s.sounding 0x10 1 detail
    if q.safeStore then (s.raise 27 0 detail).startReload else s.raise 29 0 detail
  else
    ((s.fadd R.TEST_CNT_A_SOFT_REPAIRS 1).fset f (s.fget f - 1)).sounding 0x10 3 detail

/-- One periodic slice (R553, R555); a segment that waits for its second test and whose domain has gone off meanwhile is skipped as any other. -/
def State.slice (s : State) (q : Slice) : State :=
  if !s.domOn 1 then s else
  let x := s.fget R.TEST_SWEEP_SEGMENT + q.skip
  let again := s.test.again && q.skip == 0
  let s := if q.pass then s else s.twinBad
  if !again && !q.pass then
    let s := { s with test := { s.test with again := true } }
    if q.skip = 0 then s else s.nextSegment (x - 1)
  else
    let s := { s with test := { s.test with again := false } }
    let s := if again then (if q.pass then s.fadd R.TEST_CNT_A_SLICE_FAIL 1 else s.segmentBad x q) else s
    s.nextSegment x

/-- The lanes that are still active after a retirement, in ascending order from lane `l` on, wrapping. -/
def activeFrom (retired l : Nat) : Nat := ((List.range 5).map fun i => (l + i) % 5).find? (fun i => !bitOf retired i) |>.getD 0

/-- Whether no production window of a running surface is open in the slice window that begins now, from 1 µs on for 6 µs: every surface is in its G-interval throughout (R34, R552). -/
def State.windowsShut (s : State) : Bool :=
  let a := s.clkQ + 1000 * 2 ^ 32
  let b := s.clkQ + 7000 * 2 ^ 32
  (List.range 4).all fun n => !s.running n || (let g := s.gen n
    decide (g.sQ + g.lenQ ≤ a + g.grid.tgQ) && decide (b ≤ g.sQ + g.lenQ))

/-- After a retirement one active lane is tested in each slice window that no production window overlaps (R557). -/
def State.laneTest (s : State) (errs : List Word) : State :=
  let retired := s.fget R.PIX_LANE_STATUS_RETIRED
  if retired = 0 || !s.domOn 3 then s
  else if !s.windowsShut then s.fadd R.TEST_LANE_CNT_SKIPPED 1
  else
    let l := activeFrom retired s.test.nextLane
    let misr := s.laneMisr l errs
    let s := ({ s with test := { s.test with nextLane := (l + 1) % 5 } }).nextSeed.fadd R.TEST_LANE_CNT_TESTS 1
    if misrPass errs then s
    else
      ((s.twinBad).sounding l 1 misr).raise 15 l misr

/-- A G-interval begins: the Spillway's test, and on the lowest-numbered enabled surface the Sounding slice and lane test (R37, R366, R552, R557). -/
def xGIntervalStart (n : Nat) (upset : List Nat) (q : Slice) (errs : List Word) (s : State) : State :=
  if !s.ticking || !s.running n then s else
  let s := s.spillTest n (s.spillPasses n upset)
  if s.lowestSurf = some n then (s.laneTest errs).slice q else s

/-- With no surface enabled a slice runs and the lanes rotate every 500 µs (R552, R556). -/
def xNoSurfaceTick (q : Slice) (errs : List Word) (s : State) : State :=
  if s.lowestSurf.isSome || !s.domOn 1 then s else (s.slice q).rotateLanes errs

/-! ## Loop-backs (R559) -/

/-- A Sounding loop-back starts on one port whose EN is 0 and whose domain is on. -/
def loopPort (p : Nat) (s : State) : State :=
  if s.portOn p && !s.fbit (R.TILE_LANE_CTRL_EN p) && s.lane p == laneOff then
    (s.setPort p fun q => { q with sounding := true }).setLane p laneLoopback
  else s

/-- Every 10 s. -/
def xLoopbackCheck (s : State) : State := if s.domOn 1 then overAll 24 loopPort s else s

/-- The 1 ms of a Sounding loop-back ends; its PRBS7 checker took these bits (R254, R559). -/
def xLoopbackCheckEnd (p : Nat) (bits : List Bool) (s : State) : State :=
  if !(s.port p).sounding then s else
  let errs := (checkBits 0 bits).errs
  let s := (s.setPort p fun q => { q with sounding := false }).setLane p laneOff
  let s := s.fset R.TEST_LOOP_FAIL_PORTS (maskSet (s.fget R.TEST_LOOP_FAIL_PORTS) p (errs != 0))
  if errs = 0 then s else (s.fsetb R.TEST_ANA_LOOP_FAIL true).sounding (0x20 + p) 1 errs

/-! ## The test engine (R563, Table 19-3) -/

/-- Whether the engine can run on a unit, with its domain on. -/
def State.engineUnit (s : State) (u : Nat) : Bool :=
  if u ≤ 4 || u == 8 || u == 9 || u == 0xA then s.domOn 3
  else if 0x20 ≤ u ∧ u < 0x38 then s.portOn (u - 0x20) else false

/-- BLANK or SERVICE. -/
def State.engineAllowed (s : State) : Bool := s.fget R.BOOT_STATUS_LC == lcBlank || s.fget R.BOOT_STATUS_LC == lcService

/-- KIND, 3 treated as 1. -/
def engineKind (k : Nat) : Nat := if k = 3 then 1 else k

/-- START in a write of value `v`: a run begins, or REFUSED is set and the write logged. -/
def State.engineStart (s : State) (unit kind v : Nat) : State :=
  if !s.domOn 1 then s else
  let s := (s.fset R.TEST_ENG_CTRL_UNIT unit).fset R.TEST_ENG_CTRL_KIND kind
  if s.engineAllowed && s.lowestSurf.isNone && s.engineUnit unit then
    let s := { s with test := { s.test with engine := some (unit, engineKind kind) } }
    ((s.fsetb R.TEST_ENG_STATUS_DONE false).fsetb R.TEST_ENG_STATUS_FAIL false).fsetb R.TEST_STATUS_ENG_BUSY true
  else (s.fsetb R.TEST_ENG_STATUS_REFUSED true).logRefused 0xB0040 v false

/-- A write of UNIT and KIND with START. -/
def xTestEngineStart (unit kind : Nat) (s : State) : State := s.engineStart unit kind (unit % 256 + 256 + kind % 4 * 512)

/-- A list of free values, the `i`-th of which is the free value `n + i`. -/
def freeList (n len : Nat) : List Nat := (List.range len).map fun i => Config.freeNat (n + i)

/-- What a destructive run leaves in a scaler bank is open. -/
def freeBank (n : Nat) : ScalerBank :=
  { horiz := (freeList n 512).map fun v => toSigned 16 (v % 65536), vert := (freeList (n + 512) 512).map fun v => toSigned 16 (v % 65536),
    mesh := ((freeList (n + 1024) 297).map fun v => (v % 65536, v / 65536 % 65536)) }

/-- What a destructive run leaves in a shade slot is open. -/
def freeShade (v : Nat) : Option Shade :=
  if v % 2 = 0 then none
  else
    let f (i : Nat) : Nat := v / 2 ^ (1 + 16 * i) % 65536
    let g (i : Nat) : Int := toSigned 32 (v / 2 ^ (400 + 32 * i) % 2 ^ 32)
    some { ellipse := bitOf v 300, accel := bitOf v 301, depth := f 0, hw := f 1, hh := f 2, radius := f 3, ramp := f 4, growth := f 5,
           owners := f 6 % 16, t0 := v / 2 ^ 320 % 2 ^ 64, x := g 0, y := g 1, vx := g 2, vy := g 3, ax := g 4, ay := g 5 }

/-- A memory run destroys its unit's content (R563). -/
def State.engineSpoils (s : State) (unit : Nat) : State :=
  let n := s.free
  if unit = 8 then
    overAll 2 (fun i s => s.fsetb (R.PIX_SCALER_ARMED i) false) { s with free := n + 5284, pix := { s.pix with scalers := (List.range 2).map fun i => { bankA := freeBank (n + 2642 * i), bankB := freeBank (n + 2642 * i + 1321), armed := none } } }
  else if unit = 9 then { s with free := n + 64, pix := { s.pix with shades := (freeList n 64).map freeShade } }
  else if unit = 0xA then
    { s with free := n + 24, pix := { s.pix with health := s.pix.health.zipIdx.map fun (e : Health × Nat) =>
        { e.1 with queue := freeList (Config.freeNat (n + e.2)) (Config.freeNat (n + e.2) % 1024), suspects := [], recs := [] } } }
  else s

/-- A run completes, its response differing from the good one by `errs`: its MISR, and FAIL where that is not the golden one (R561, R563); a memory run leaves nothing in a unit whose domain has gone off since. -/
def xTestEngineDone (errs : List Word) (s : State) : State :=
  if !s.domOn 1 then s else
  match s.test.engine with
  | none => s
  | some (u, k) =>
    let misr := (runMisr u k (s.fget R.TEST_ENG_SEED_SEED) (s.fget R.TEST_ENG_LEN_PATTERNS) errs).toNat
    let s := { s with test := { s.test with engine := none } }
    let s := if k = 0 && s.engineUnit u then s.engineSpoils u else s
    let s := (s.fset R.TEST_ENG_RESULT_MISR misr).fsetb R.TEST_STATUS_ENG_BUSY false
    (s.fsetb R.TEST_ENG_STATUS_DONE true).fsetb R.TEST_ENG_STATUS_FAIL (!misrPass errs)

/-! ## The pixel store (R566 to R568, Table 19-4) -/

/-- EVT MEMORY of the pixel store: result and data address (R571). -/
def State.memoryEvent (s : State) (result addr : Nat) : State := s.eventDev 0x0C 0x0091 ([0] ++ u8 result ++ leBytes 8 addr)

/-- A picture with the 32 pixels of a line at 0. -/
def blankLine (w line : Nat) (p : Picture) : Picture :=
  p.zipIdx.map fun row => row.1.zipIdx.map fun px => if (row.2 * w + px.2) / 32 = line then 0 else px.1

/-- A layer buffer of a surface is lost: the frame in composition and a present that waits take the layer as not ready (R168). -/
def State.loseLayer (s : State) (n i : Nat) : State :=
  let bad (p : Present) : Present := { p with layers := upd (fun l => { l with done := false, failed := true }) p.layers i }
  let s := s.setPx n fun q => { q with next := q.next.map bad }
  match s.pix.jobs.find? fun (j : Job) => j.surf == n with
  | none => s
  | some j =>
    let s := s.setPx n fun q => { q with use := q.use.map bad, held := upd (fun _ => nth j.held i) q.held i }
    let s := countLayer n i s
    let s := s.setPx n fun q => { q with notReadyMask := q.notReadyNow }
    let q := s.px n
    let fix (k : Job) : Job :=
      if k.surf = n then { k with srcs := upd (fun _ => q.layerSrc (bad k.present) i) k.srcs i, ready := upd (fun _ => false) k.ready i } else k
    { s with pix := { s.pix with jobs := s.pix.jobs.map fix } }

/-- Held content of a layer index is lost: HOLD acts as DROP. -/
def State.loseHeld (s : State) (n i : Nat) : State := s.setPx n fun q => { q with held := upd (fun _ => none) q.held i }

/-- A reload mark (R568). -/
def State.reloadMark (s : State) (f : Fld) (i : Nat) : State := if i < f.width then s.fset f (maskSet (s.fget f) i true) else s

/-- Whether a region has a surface, or a port, of that number; the other regions have no instance or name a ring position. -/
def regionHas (region target : Nat) : Bool :=
  if region = 0 ∨ region = 1 ∨ region = 2 ∨ region = 6 then decide (target < 4)
  else if region = 3 ∨ region = 4 ∨ region = 5 then decide (target < 24)
  else if region = 7 then decide (target < 6)
  else true

/-- The reaction of Table 19-4 to an uncorrectable line: its region, the surface, port or ring position it belongs to, an index within it, and the line. -/
def State.lineLost (s : State) (region target index line : Nat) : State :=
  match region with
  | 0 => if 8 ≤ index then s.loseHeld target (index - 8) else s.loseLayer target index
  | 1 =>
    let w := s.canvasW target
    if index = 0 then s.setPx target fun q => { q with picture := q.picture.map (blankLine w line), prod := { q.prod with picture := q.prod.picture.map (blankLine w line) } }
    else s.setPx target fun q => { q with waiting := q.waiting.map fun e => (e.1, blankLine w line e.2) }
  | 2 => (s.setPx target fun q => { q with gain := q.gain.map fun g => g.zipIdx.map fun e => if e.2 / 32 = line then 0x4000 else e.1 }).reloadMark R.MEM_RELOAD_A_GAIN target
  | 3 =>
    let drop (w : Word) : Word := BitVec.ofNat 32 (maskSet w.toNat 14 false)
    (s.setHl target fun h => { h with base := (h.base.map fun e => if e.1 / 32 = line then (e.1, drop e.2) else e).filter fun e => e.2 != 0 }).reloadMark R.MEM_RELOAD_BASE_PORTS target
  | 4 => s.setHl target fun h => { h with fv := h.fv.filter fun e => e.1 / 32 != line }
  | 5 => ((s.setHl target fun h => { h with defects := (h.defects.zipIdx.filter fun e => e.2 / 16 != line).map Prod.fst }).showDefects target).reloadMark R.MEM_RELOAD_DEFECT_PORTS target
  | 6 =>
    let s := s.setPx target fun q => { q with patterns := upd (fun _ => none) q.patterns index }
    let s := if index < 16 then s.fset (R.PIX_MAPSTAT_FALLBACK_LOADED target) (maskSet (s.fget (R.PIX_MAPSTAT_FALLBACK_LOADED target)) index false) else s
    s.reloadMark R.MEM_RELOAD_A_FALLBACK target
  | 7 => ({ s with parkPats := upd (fun k => { k with image := [] }) s.parkPats target }).reloadMark R.MEM_RELOAD_A_PARK target
  | 9 => { s with pix := { s.pix with history := (s.pix.history.zipIdx.filter fun e => e.2 / 4 != line).map Prod.fst } }
  | 10 =>
    let bad (p : Present) : Present := if p.desc.pos = target then { p with layers := upd (fun l => { l with done := false, failed := true }) p.layers index } else p
    { s with pix := { s.pix with surfs := s.pix.surfs.map fun q => { q with ephem := q.ephem.map bad } } }
  | _ => s

/-- Fault 26, or fault 1 for the firmware's working memory; a third one within 1 s takes LIMP from the store (R567, R568). -/
def State.lineFault (s : State) (region addr : Nat) : State :=
  let recent := (s.test.uncorr.filter fun t => decide (s.ticks < t + 250000000)) ++ [s.ticks]
  let s := { s with test := { s.test with uncorr := recent } }
  if region = 11 then s.raise 1 0 addr
  else
    let s := s.raise 26 region addr
    if 3 ≤ recent.length then (s.yieldNow).enterLimp .store 26 0x11A else s

/-- One read of a protected line (R566): the 72 bytes that the store gave, decoded for the line's index. -/
def State.lineRead (s : State) (addr : Nat) (stored : List Byte) (region target index line : Nat) : State :=
  let r := rsDecode (addr / 64) stored
  match r.outcome with
  | 0 => s
  | 1 => (((s.fadd R.MEM_ECC_CNT_A_CORRECTED 1).fadd R.MEM_ECC_CNT_B_WRITEBACKS 1).fset R.MEM_ERR_INFO_LAST_SYMS r.syms).memoryEvent 0 addr
  | 2 => ((s.fadd R.MEM_ECC_CNT_A_CHECK_ONLY 1).fadd R.MEM_ECC_CNT_B_WRITEBACKS 1).memoryEvent 1 addr
  | _ =>
    let s := ((s.fadd R.MEM_ECC_CNT_B_UNCORR 1).fset R.MEM_ERR_ADDR_ADDR addr).fset R.MEM_ERR_INFO_REGION region
    let s := if regionHas region target then s.lineLost region target index line else s
    (s.memoryEvent 2 addr).lineFault region addr

/-- A user reads a line of the pixel store. -/
def xPixelStoreRead (addr : Nat) (stored : List Byte) (region target index line : Nat) (s : State) : State :=
  if s.domOn 4 then s.lineRead addr stored region target index line else s

/-- The scrubber reads its next line; it pauses while MEM is in retention (R567). -/
def xScrubRead (stored : List Byte) (region target index line : Nat) (s : State) : State :=
  if !s.domOn 4 then s else
  let l := s.fget R.MEM_SCRUB_STAT_LINE
  let s := (s.fsetb R.MEM_STATUS_SCRUBBING true).fset R.MEM_SCRUB_STAT_LINE ((l + 1) % 14680064)
  s.lineRead (64 * l) stored region target index line

/-! ## On-die SRAM (R570, Table 19-5) -/

/-- The composition in progress is abandoned and its frame repeats as an overrun. -/
def State.abandonJob (s : State) : State :=
  match s.pix.jobs with
  | [] => s
  | j :: rest =>
    let s := ({ s with pix := { s.pix with jobs := rest } }).setPx j.surf fun q => { q with abandoned := some j.frame }
    ((s.fadd (R.TG_COUNT_COMPOSE_OVERRUN j.surf) 1).eventSurf 0x04 0x0010 j.surf (u8 j.surf ++ [0] ++ leBytes 4 j.frame)).showComposing

/-- A shade slot whose store failed covers the whole canvas of every surface at DEPTH 0. -/
def coverShade : Shade := { depth := 0, hw := 2 ^ 24 - 1, hh := 2 ^ 24 - 1, owners := 15, staleTold := true }

/-- A record is dropped as with a full ring (R92). -/
def State.dropRecord (s : State) (n : Nat) : State :=
  (s.setRing n fun r => { r with lostPend := r.lostPend + 1, seq := (r.seq + 1) % 2 ^ 32 }).fadd (if n = 5 then R.HOST_EVT_LOST_EVT else R.HOST_EVT_LOST_HLT) 1

/-- The user of an array acts (Table 19-5): 0 composition, 1 shade slot, 2 tile packet of a port, 3 pixel health queues, 4 ring engine, 5 signature units, 6 control pair memories. -/
def State.sramLost (s : State) (user target index : Nat) : State :=
  match user with
  | 0 => s.abandonJob
  | 1 => s.setShade (target % 64) (some coverShade)
  | 2 => (xLinePacketDeadline target index s).dropSent target index
  | 3 => s.fadd R.PIX_HLT_COUNT_B_DISCARDED index
  | 4 => if target < 4 then (match s.inFlight target with | some f => s.rejectDesc target f | none => s) else s.dropRecord target
  | 5 => s.notAligned (target % 4)
  | _ => s

/-- Whether the domain that holds an array's user is on: PIX, the tile port, HOST or CORE (R17, Table 01-2). -/
def State.userOn (s : State) (user target : Nat) : Bool :=
  if user = 2 then s.portOn target
  else if user = 4 then s.domOn 5
  else if user = 6 then s.domOn 2
  else s.domOn 3

/-- An SRAM read finds an error: in SAFE or elsewhere, one bit or two, with the word, the array, its user and what it held. A domain that is off reads nothing, and SAFE counts (R17). -/
def xSramEccError (safe double : Bool) (word array user target index : Nat) (s : State) : State :=
  if !s.domOn 1 || (!safe && !s.userOn user target) then s
  else if !double then s.fadd R.TEST_CNT_B_SRAM_CORR 1
  else
    let s := (s.fadd R.TEST_CNT_B_SRAM_UNCORR 1).eventDev 0x0B 0x0091 (u8 (if safe then 1 else 2) ++ u8 2 ++ leBytes 4 word ++ leBytes 2 array)
    if safe then (s.raise 27 array word).startReload
    else if user = 6 then s.raise 1 array word
    else (s.sramLost user target index).raiseBrief 28 array word

end Sys2Proof.Machine
end

