-- ==== Sys2Proof/Machine/Twin.lean ====
section
/-! DEFINITION. The twin pair (R409 to R430): roles, heartbeats, the packets of the LEAD, comparison, arbitration, handover and takeover. -/

namespace Sys2Proof.Machine

/-! ## Roles (R410, R411) -/

/-- The role changes, with its event. -/
def State.setRole (s : State) (r : Nat) : State := s.fset R.TWIN_STATUS_ROLE r

/-- The device leads: it claims every bound tile but those that the peer owns (R410); one whose lane is not there yet is claimed with its STATUS. An IMPAIRED device claims nothing (R425). -/
def State.leadClaims (s : State) : State :=
  let s := s.setRole roleLead
  let ps := s.boundPorts.filter fun p => !s.peerOwns p && !s.owns p && !s.legacy p && s.canSend p
  overList (fun p s => s.sendClaim p (s.fget (R.TILE_EPOCH_TILE p) + 1)) (if s.fbit R.TWIN_STATUS_IMPAIRED then [] else ps) s

/-- What a COMPANION held for its LEAD when it follows no longer: presents and commands without an ALIGN go by the device's own rules. -/
def State.freePresents (n : Nat) (s : State) : State :=
  let mine := (s.px n).shadow.filter fun e => e.1.named.isNone
  let s := s.setPx n fun q => { q with shadow := q.shadow.filter fun e => e.1.named.isSome }
  let s := mine.foldl (fun s e => (s.replaceNext n e.1).settlePresent e.1.desc.pos) s
  (s.px n).ephem.foldl (fun s p => s.settlePresent p.desc.pos) s

/-- A device that is no COMPANION keeps nothing waiting for an ALIGN. -/
def roleSettled (s : State) : State :=
  if s.isCompanion then s else
  let due := s.twin.waiting.filter fun c => c.align.isNone
  let s := s.setTwin fun t => { t with waiting := t.waiting.filter fun c => c.align.isSome, aligns := [] }
  let s := due.foldl (fun s c => s.twinApply c none) s
  overAll 4 State.freePresents s

/-- A write of EN 1 (Table 13-2, R412): PAIRING, both links brought up, SEQ from 0. -/
def xTwinEnable (s : State) : State :=
  if !s.domOn 8 || s.fbit R.TWIN_CTRL_EN then s else
  let s := (s.fsetb R.TWIN_CTRL_EN true).setRole rolePairing
  let s := (s.fsetb R.TWIN_STATUS_PAIR_REFUSED false).fsetb R.TWIN_STATUS_PEER_SILENT false
  let s := s.setTwin fun t => { t with
    seq := 0, high := none, seen := [], missing := [], peer := 0, peerHeld := 0, missed := 0, totClear := 0,
    handover := .none, refused := false, yields := 0, arb := [], claimAfter := [], links := t.links.map fun q => { q with down := false } }
  linkUp 1 (linkUp 0 s)

/-- A write of EN 0 (Table 13-2): SOLO; owned tiles are kept. -/
def xTwinDisable (s : State) : State :=
  if !s.domOn 8 || !s.fbit R.TWIN_CTRL_EN then s else
  let s := (s.fsetb R.TWIN_CTRL_EN false).setRole roleSolo
  let s := (s.fsetb R.TWIN_STATUS_PAIR_REFUSED false).fsetb R.TWIN_STATUS_YIELDING false
  let s := s.setTwin fun t => { t with peer := 0, peerHeld := 0, handover := .none, refused := false, arb := [], claimAfter := [] }
  roleSettled (s.clearFault 38)

/-- A write of REJOIN (R425). -/
def xTwinRejoin (s : State) : State := if s.domOn 8 then s.fsetb R.TWIN_STATUS_IMPAIRED false else s

/-- The peer's last heartbeat, byte STATE of Table 13-5. -/
def State.peerRole (s : State) : Nat := s.twin.peer % 4
def State.peerImpaired (s : State) : Bool := bitOf s.twin.peer 3

/-- A write of HANDOVER on the LEAD: a planned handover, decided by the COMPANION (R426); without one there is nobody to decide it. -/
def xTwinHandover (s : State) : State :=
  if s.isLead && s.peerRole == roleCompanion && decide (s.twin.missed < 3) && s.twin.handover == .none then
    s.setTwin fun t => { t with handover := .planned }
  else s

/-- PAIR_MS has passed in PAIRING, or TWIN_PEER has been low for PAIR_MS without a break (Table 13-2). -/
def xPairTimeout (peerLow : Bool) (s : State) : State :=
  if s.role != rolePairing then s
  else if (if peerLow then !s.fbit R.TWIN_STATUS_PEER_ALIVE else s.fget R.TWIN_CTRL_UNIT == 0) then s.leadClaims
  else s

/-! ## TWIN_PEER and TWIN_ALIVE (R409) -/

/-- SAFE samples TWIN_PEER: two low samples in a row mean that the peer is down. -/
def xTwinPeerSample (level : Bool) (s : State) : State :=
  if !s.domOn 1 || !s.domOn 8 then s
  else if level then (s.setTwin fun t => { t with peerLow := 0 }).fsetb R.TWIN_STATUS_PEER_ALIVE true
  else
    let s := s.setTwin fun t => { t with peerLow := min 2 (t.peerLow + 1) }
    if 2 ≤ s.twin.peerLow then s.fsetb R.TWIN_STATUS_PEER_ALIVE false else s

/-- The safety pair confirms itself to Tarn: TWIN_ALIVE is high unless the device yields. -/
def xSafetyConfirm (s : State) : State :=
  if !s.domOn 1 || s.aon.resetHeld || s.boot.halted || s.boot.active then s
  else { s with aon := { s.aon with twinAlive := !s.fbit R.TWIN_STATUS_YIELDING } }

/-- A confirmation is missed. -/
def xTwinAliveDrop (s : State) : State := { s with aon := { s.aon with twinAlive := false } }

/-! ## Verdicts (R425) -/

/-- A device's verdict on a frame k of a surface: no failure since F(k - 1), and no composed signature of it that did not match. -/
def State.verdict (s : State) (n frame : Nat) : Bool :=
  let q := nth s.twin.surfs n
  let back := (s.fget (R.TG_FRAME_FRAME_NUM n) + 2 ^ 32 - frame % 2 ^ 32) % 2 ^ 32 + 2
  !(q.bad.take back).any id && !q.sigBad.contains (frame % 2 ^ 32)

/-- The verdict on the last frame of every enabled surface. -/
def State.verdicts (s : State) : Bool :=
  (List.range 4).all fun n => !s.surfEnabled n || s.verdict n (s.fget (R.TG_FRAME_FRAME_NUM n) + 2 ^ 32 - 1)

/-- Whether the last two frames of every enabled surface were compared (R426). -/
def State.bothCompared (s : State) : Bool :=
  (List.range 4).all fun n => !s.surfEnabled n || ((nth s.twin.surfs n).compared.take 2 == [true, true])

/-! ## Handover and takeover (R426, R427) -/

/-- A handover or takeover is decided: every bound tile is claimed. -/
def State.takeTiles (s : State) (why : Handover) : State :=
  overList claimBound s.boundPorts (s.setTwin fun t => { t with handover := why })

/-- The COMPANION refuses a handover. -/
def State.refuseHandover (s : State) : State := (s.setTwin fun t => { t with refused := true }).twinEvent 6 0 0

/-- Whether a COMPANION would refuse a planned handover. -/
def State.plannedFails (s : State) : Bool := !(s.verdicts && s.bothCompared)

/-- A COMPANION is asked to take the lead; what it has refused it does not refuse again. -/
def State.askedToLead (s : State) (why : Handover) : State :=
  if s.twin.handover != .none then s
  else if s.fbit R.TWIN_STATUS_IMPAIRED || (why == .planned && s.plannedFails) then (if s.twin.refused then s else s.refuseHandover)
  else (s.setTwin fun t => { t with refused := false }).takeTiles why

/-! ## Heartbeats (R414, R430, R449) -/

/-- Whether sources other than the twin hold every port. -/
def State.totOthers (s : State) : Bool := (s.fsetb R.SAFE_TOT_SRC_TWIN false).totScope == 2 ^ 24 - 1

/-- STATE of a heartbeat. A planned handover shows in YIELD: the body has no other bit for it. -/
def State.heartbeatState (s : State) : Nat :=
  s.role + 4 * s.fget R.TWIN_CTRL_UNIT + 8 * b2n (s.fbit R.TWIN_STATUS_IMPAIRED)
    + 16 * b2n (s.fbit R.TWIN_STATUS_YIELDING || s.twin.handover == .planned && s.isLead) + 32 * b2n s.totOthers
    + 64 * b2n s.verdicts + 128 * b2n s.twin.refused

/-- The surface whose P-ticks time the heartbeats. -/
def State.heartbeatSurf (s : State) : Option Nat := (List.range 4).find? s.running

/-- HEARTBEAT body (Table 13-5). -/
def State.heartbeatBody (s : State) (phase : Nat) : List Byte :=
  let surf := s.heartbeatSurf
  u8 s.heartbeatState ++ u8 (if surf.isSome then phase % 8 else 8) ++ u8 (s.fget R.TWIN_STATUS_LINKS) ++ u8 0
    ++ leBytes 4 (s.fget R.SAFE_SPB_ACTIVE_VALUE) ++ leBytes 4 (match surf with | some n => s.fget (R.TG_FRAME_FRAME_NUM n) | none => 0)
    ++ leBytes 4 (s.fget R.SAFE_TILE_HELD_PORTS) ++ s.stamp

/-- A heartbeat tick: a P-tick of the lowest surface, else one every 62.5 µs (R414). -/
def xHeartbeatTick (phase : Nat) (s : State) : State :=
  if s.role = roleSolo then s else
  let s := s.setTwin fun t => { t with missed := t.missed + 1, arb := t.arb.map fun e => (e.1, e.2.1, e.2.2.1, e.2.2.2 + 1) }
  s.sendTwin 0x41 (s.heartbeatBody phase)

/-- PAIRING meets a heartbeat (Table 13-2). -/
def State.pairWith (s : State) (unit role spb : Nat) : State :=
  let own := s.fget R.TWIN_CTRL_UNIT
  if s.fbit R.TWIN_STATUS_PAIR_REFUSED then s
  else if unit = own ∨ spb ≠ s.fget R.SAFE_SPB_ACTIVE_VALUE then (s.fsetb R.TWIN_STATUS_PAIR_REFUSED true).twinEvent 2 0 0
  else if role = roleLead then (s.setRole roleCompanion).twinEvent 1 0 0
  else if role = roleSolo then s
  else if own = 0 then s.leadClaims.twinEvent 1 0 0
  else (s.setRole roleCompanion).twinEvent 1 0 0

/-- A LEAD hears its peer: fault 38 recovers once it pairs as COMPANION, and a refusal ends a handover that waited for it (R411, R426). -/
def State.leadHears (s : State) (old : Nat) : State :=
  let s := if s.peerRole = roleCompanion then s.clearFault 38 else s
  if bitOf s.twin.peer 7 && !bitOf old 7 && (s.twin.handover != .none || s.fbit R.TWIN_STATUS_YIELDING) then
    (s.setTwin fun t => { t with handover := .none }).twinEvent 6 0 0
  else s

/-- A COMPANION hears its LEAD: YIELD asks it to take the lead, as a yield where TWIN_PEER is low. While TWIN_PEER is high it may still fall (R409), so that a planned handover is refused only with the third heartbeat in a row that shows YIELD (R426; DESIGN CHOICE, log entry 151). -/
def State.companionHears (s : State) : State :=
  if s.peerRole ≠ roleLead then s
  else if !bitOf s.twin.peer 4 then s.setTwin fun t => { t with refused := false, yields := 0 }
  else if !s.fbit R.TWIN_STATUS_PEER_ALIVE then (s.setTwin fun t => { t with yields := 0 }).askedToLead .yield
  else
    let s := s.setTwin fun t => { t with yields := min 3 (t.yields + 1) }
    if s.twin.yields < 3 && s.plannedFails && !s.fbit R.TWIN_STATUS_IMPAIRED then s else s.askedToLead .planned

/-- A twin Totality ends after two heartbeats in a row with TOT_ALL 0 (R430). -/
def State.twinTotality (s : State) : State :=
  let clear := if bitOf s.twin.peer 5 then 0 else min 2 (s.twin.totClear + 1)
  let s := s.setTwin fun t => { t with totClear := clear }
  if 2 ≤ clear then s.totRelease [.twin] 0x100 else s

/-- LAG_NS of a link and its SKEW (R449). -/
def State.measureLag (s : State) (link stamp : Nat) (body : List Byte) : State :=
  let lag : Int := (stamp : Int) - (s.fget (R.TWIN_TIME_DELAY_NS link) : Int) - ((leAt body 16 4 % 2 ^ 30 + leAt body 20 4 * 1000000000 : Nat) : Int)
  let out := decide (lag < -1000 ∨ 2000 < lag)
  let s := (s.fseti (R.TWIN_TIME_LAG_NS link) (clampInt (-32768) 32767 lag)).setLink link fun q =>
    { q with lagOut := if out then min 8 (q.lagOut + 1) else 0, lagIn := if out then 0 else min 8 (q.lagIn + 1) }
  let q : TwinLink := nth s.twin.links link
  if 8 ≤ q.lagOut then s.fsetb (R.TWIN_TIME_SKEW link) true
  else if 8 ≤ q.lagIn then s.fsetb (R.TWIN_TIME_SKEW link) false
  else s

/-- A HEARTBEAT arrives on a link; `stamp` is the network time in ns of its SOP at the pins, seconds modulo 2^32 (R414, R449). -/
def xHeartbeatReceived (link seq : Nat) (body : List Byte) (stamp : Nat) (s : State) : State :=
  let hears := s.twinHears link
  let r := s.twinTake link seq
  let s := r.1
  if body.length ≠ 24 then s else
  let s := if hears then s.measureLag link stamp body else s
  if !r.2 then s else
  let old := s.twin.peer
  let s := s.setTwin fun t => { t with peer := leAt body 0 1, peerHeld := leAt body 12 4 % 2 ^ 24, missed := 0, hbAt := s.nowNs }
  let s := (s.fset R.TWIN_PEER_SPB_VALUE (leAt body 4 4)).fsetb R.TWIN_STATUS_PEER_SILENT false
  let s := if s.role = rolePairing then s.pairWith (leAt body 0 1 / 4 % 2) (leAt body 0 1 % 4) (leAt body 4 4) else s
  let s := if s.isLead then s.leadHears old else if s.isCompanion then s.companionHears else s
  s.twinTotality

/-- The COMPANION finds its LEAD silent: fault 38, and a takeover where Table 13-2 allows one (R415, R427). -/
def xLeadSilent (s : State) : State :=
  if !s.isCompanion || s.twin.missed < 3 then s else
  let s := if s.fbit R.TWIN_STATUS_PEER_SILENT then s
    else ((s.fsetb R.TWIN_STATUS_PEER_SILENT true).raise 38 0 0).totRelease [.twin] 0x100
  if !s.fbit R.TWIN_STATUS_IMPAIRED && (s.peerRole == roleLead || !s.fbit R.TWIN_STATUS_PEER_ALIVE) && s.twin.handover != .takeover then
    s.takeTiles .takeover
  else s

/-- K28.0 arrives on a twin link: Totality on every port from the twin source (Table 11-3). -/
def xTwinK280Received (link : Nat) (s : State) : State :=
  if !s.domOn 8 || !(s.laneOf (24 + link) == laneLinked || laneIsUp (s.laneOf (24 + link))) then s else
  let s := s.setTwin fun t => { t with totClear := 0 }
  if s.fbit R.SAFE_TOT_SRC_TWIN then s else (s.totRequest .twin 0x100 10).raise 10 0 0

/-! ## What the LEAD sends of a frame (R419 to R422) -/

/-- LATCH of a body (Table 13-8). -/
def latchOf (b : List Byte) : TwinLatch :=
  let si (o : Nat) : Int := toSigned 16 (leAt b o 2)
  { frame := leAt b 0 4, j := leAt b 4 1 % 8, profile := leAt b 5 1, av := si 8, ah := si 10, tv := si 12, th := si 14,
    rv := leAt b 16 2, rh := leAt b 18 2,
    zones := (List.range (leAt b 6 2)).map fun i => let e := leAt b (20 + 4 * i) 4; (e % 256, e / 256 % 2 ^ 17) }

/-- A LATCH arrives (R419). -/
def xLatchReceived (link seq : Nat) (body : List Byte) (s : State) : State :=
  let r := s.twinTake link seq
  let n := leAt body 4 1 / 8 % 4
  if !r.2 || !r.1.isCompanion || body.length < 20 || body.length != 20 + 4 * leAt body 6 2 then r.1
  else (r.1.setTwinSurf n fun q => { q with latch := some (latchOf body) }).takeLatch n

/-- A DEFECT arrives: an entry that becomes current at the latch point that it names, and a hold of TILE_EN (R420). -/
def xDefectReceived (link seq : Nat) (body : List Byte) (s : State) : State :=
  let r := s.twinTake link seq
  let p := leAt body 0 1
  if !r.2 || !r.1.isCompanion || body.length != 12 || !decide (p < 24) then r.1 else
  let s := r.1
  let act := leAt body 1 1
  let d := defectOf (leAt body 4 4)
  let f := leAt body 8 4
  let s := s.setHl p fun h => { h with
    shadow := h.shadow.filter fun e => !(e.1.idx == d.idx && e.1.cls == d.cls),
    lead := if bitOf act 4 then h.lead else h.lead ++ [(f, d)] }
  let s := if bitOf act 2 then s.setTwin fun t => { t with peerHeld := maskSet t.peerHeld p true } else s
  match s.boundTo p with
  | some n => if frameNamed ((s.nextFrame n).map fun _ => s.targetFrame n) f = .passed then s.notAligned n else s
  | none => s

/-- Pixel indices of a PROBE body (Table 09-9). -/
def probeEntries (b : List Byte) : List Nat := (List.range (leAt b 2 2)).map fun i => leAt b (4 + 4 * i) 4

/-- A PROBE_COPY arrives: it stands in place of the COMPANION's own PROBE of that scan cycle (R420). -/
def xProbeCopyReceived (link seq : Nat) (body : List Byte) (s : State) : State :=
  let r := s.twinTake link seq
  let p := leAt body 0 1
  let probe := body.drop 4
  if !r.2 || !r.1.isCompanion || body.length < 8 || probe.length != 4 + 4 * leAt probe 2 2 || !decide (p < 24) then r.1 else
  let es := probeEntries probe
  match (r.1.hl p).recs.find? fun q => q.s % 16 == leAt probe 0 1 with
  | none => r.1
  | some q => r.1.setHl p fun h => { h with
      recs := h.recs.map fun e => if e.s = q.s then { e with entries := es } else e,
      queue := h.queue.filter fun i => !es.contains i,
      suspects := h.suspects.map fun u => if u.listed.isNone && es.contains u.idx then { u with listed := some q.s, clean := false } else u }

/-- DIGEST body (Table 13-9). -/
def TwinDigest.body (d : TwinDigest) (n : Nat) : List Byte :=
  leBytes 4 d.frame ++ u8 n ++ u8 d.notReady ++ u8 (b2n d.repeated) ++ [0] ++ leBytes 4 d.key ++ leBytes 4 d.csig ++ leBytes 4 d.esig ++ leBytes 4 d.members

/-- DIGEST of a body. -/
def digestOf (b : List Byte) : TwinDigest :=
  { frame := leAt b 0 4, notReady := leAt b 5 1, repeated := bitOf (leAt b 6 1) 0, key := leAt b 8 4, csig := leAt b 12 4,
    esig := leAt b 16 4, members := leAt b 20 4 % 2 ^ 24 }

/-- P(k, 0, 7) + 2 µs: the LEAD sends its digest of the frame. -/
def xDigestSend (n : Nat) (s : State) : State :=
  if !s.isLead || !s.running n then s else
  match (nth s.twin.surfs n).own with
  | some d => s.sendTwin 0x44 (d.body n)
  | none => s

/-- A DIGEST arrives; a copy already accepted still shows that its link carried it (R424). -/
def xDigestReceived (link seq : Nat) (body : List Byte) (s : State) : State :=
  let hears := s.twinHears link
  let r := s.twinTake link seq
  let n := leAt body 4 1 % 4
  if !hears || !r.1.isCompanion || body.length != 24 then r.1 else
  let d := digestOf body
  let s := if r.2 then r.1.setTwinSurf n fun q => { q with digest := some d, links := if q.digest.map (·.frame) == some d.frame then q.links else 0 } else r.1
  s.setTwinSurf n fun q => if q.digest.map (·.frame) == some d.frame then { q with links := maskSet q.links link true } else q

/-! ## Arbitration (R425) -/

/-- The kind of Table 13-10 for a pair of verdicts, LEAD and COMPANION. -/
def arbKind (lead comp : Bool) : Nat := if lead && !comp then 9 else if !lead && comp then 0x0A else 8

/-- ARBITRATE body. -/
def arbBody (frame n : Nat) (verdict reply : Bool) : List Byte := leBytes 4 frame ++ u8 n ++ u8 (b2n verdict + 2 * b2n reply) ++ rep 6 0

/-- The COMPANION learns the LEAD's verdict. -/
def State.arbDecide (s : State) (frame n : Nat) (lead comp : Bool) : State :=
  let s := s.setTwin fun t => { t with arb := t.arb.filter fun e => !(e.1 == frame && e.2.1 == n) }
  let k := arbKind lead comp
  let s := if k = 9 then s.fsetb R.TWIN_STATUS_IMPAIRED true else s
  let s := s.twinEvent k 0 frame
  if k = 0x0A then s.askedToLead .arbitration else s

/-- The LEAD is told of a disagreement: fault 39, its own verdict in reply, and the outcome. -/
def State.arbReply (s : State) (frame n : Nat) (comp : Bool) : State :=
  let s := (s.raise 39 n frame).setTwinSurf n fun q => { q with disagreed := true, matched := 0 }
  let v := s.verdict n frame
  let s := (s.sendTwin 0x47 (arbBody frame n v true)).twinEvent (arbKind v comp) 0 frame
  if arbKind v comp = 0x0A && !s.peerImpaired then s.setTwin fun t => { t with handover := .arbitration } else s

/-- An ARBITRATE arrives. -/
def xArbitrateReceived (link seq : Nat) (body : List Byte) (s : State) : State :=
  let r := s.twinTake link seq
  if !r.2 || body.length ≠ 12 then r.1 else
  let s := r.1
  let frame := leAt body 0 4
  let n := leAt body 4 1 % 4
  let v := bitOf (leAt body 5 1) 0
  if bitOf (leAt body 5 1) 1 then
    match s.twin.arb.find? fun e => e.1 == frame && e.2.1 == n with
    | some e => if s.isCompanion then s.arbDecide frame n v e.2.2.1 else s
    | none => s
  else if s.isLead then s.arbReply frame n v
  else s

/-- The LEAD has not replied within 3 heartbeat ticks: that counts as a pass. -/
def xArbitrateReplyTimeout (s : State) : State :=
  if !s.isCompanion then s else
  (s.twin.arb.filter fun e => decide (3 ≤ e.2.2.2)).foldl (fun s e => s.arbDecide e.1 e.2.1 true e.2.2.1) s

/-! ## Comparison (R423, R424) -/

/-- A link is judged on the digest of a frame: three bad ones in a row are fault 40, and an ACTIVE link retrains. -/
def judgeLink (came : Nat) (t : Nat) (s : State) : State :=
  if bitOf came t then (s.setLink t fun q => { q with badDigests := 0 }).twinFaultOver
  else
    let s := (s.setLink t fun q => { q with badDigests := min 3 (q.badDigests + 1) }).fadd R.TWIN_CNT_C_DIGEST_BAD 1
    let q : TwinLink := nth s.twin.links t
    if q.badDigests < 3 || s.faultOn 40 && s.laneOf (24 + t) != laneActive then s
    else
      let s := s.raise 40 t 0
      if s.laneOf (24 + t) = laneActive then s.enterRetrain (24 + t) else s

/-- How a frame compares (R423). -/
inductive Compared where
  | missed | skipped | equal | differs
deriving DecidableEq, Repr

/-- Two digests of one frame against each other; `off`: the frame is not aligned. -/
def compareDigests (own : TwinDigest) (lead : Option TwinDigest) (off : Bool) : Compared :=
  match lead with
  | none => .missed
  | some d =>
    if d.frame ≠ own.frame then .missed
    else if off || d.key != own.key || d.notReady != own.notReady || d.repeated != own.repeated || d.members != own.members then .skipped
    else if d.csig = own.csig ∧ d.esig = own.esig then .equal
    else .differs

/-- One more matched frame in a row; 256 of them clear fault 39. -/
def State.frameMatched (s : State) (n : Nat) : State :=
  let s := (s.fadd R.TWIN_CNT_A_MATCHED 1).setTwinSurf n fun q => { q with matched := min 256 (q.matched + 1) }
  let s := s.setTwinSurf n fun q => { q with disagreed := q.disagreed && decide (q.matched < 256) }
  if s.twin.surfs.any fun (q : TwinSurf) => q.disagreed then s else s.clearFault 39

/-- A disagreement: counted, fault 39, and ARBITRATE with the own verdict (R423, R425). -/
def State.frameDiffers (s : State) (n frame : Nat) : State :=
  let s := (s.fadd R.TWIN_CNT_B_DISAGREE 1).fset R.TWIN_DISAGREE_FRAME_FRAME frame
  let s := (s.raise 39 n frame).setTwinSurf n fun q => { q with disagreed := true, matched := 0 }
  let v := s.verdict n frame
  (s.setTwin fun t => { t with arb := t.arb ++ [(frame, n, v, 0)] }).sendTwin 0x47 (arbBody frame n v false)

/-- A frame's comparison is over; what was noted of it and of earlier ones goes. -/
def State.compareDone (s : State) (n : Nat) (compared : Bool) : State :=
  let f := match (nth s.twin.surfs n).own with | some d => d.frame | none => s.fget (R.TG_FRAME_FRAME_NUM n)
  s.setTwinSurf n fun q => { q with own := none, digest := none, links := 0, offs := q.offs.filter fun k => !frameUpTo f k, compared := (compared :: q.compared).take 2,
                                    matched := if compared then q.matched else 0 }

/-- F(k + 1): the COMPANION compares frame k of a surface; with no twin link in ACTIVE it compares nothing (R423, R429). -/
def xTwinCompare (n : Nat) (s : State) : State :=
  if !s.isCompanion || !s.running n then s
  else if s.fget R.TWIN_STATUS_LINKS = 0 then s.compareDone n false else
  match (nth s.twin.surfs n).own with
  | none => s
  | some own =>
    let q := nth s.twin.surfs n
    let came := if q.digest.map (·.frame) = some own.frame then q.links else 0
    let s := overAll 2 (judgeLink came) s
    match compareDigests own q.digest (q.offs.contains own.frame) with
    | .missed => (s.fadd R.TWIN_CNT_B_MISSED 1).compareDone n false
    | .skipped => (s.fadd R.TWIN_CNT_A_SKIPPED 1).compareDone n false
    | .equal => (s.frameMatched n).compareDone n true
    | .differs => (s.frameDiffers n own.frame).compareDone n true

end Sys2Proof.Machine
end

