-- ==== Sys2Proof/Machine/Time.lean ====
section
/-! DEFINITION. Network time (chapter 14): gPTP reception on the two SGMII ports, port roles, clock states, slewing and stepping. -/

namespace Sys2Proof.Machine

/-! ## Ports (R440, Table 14-2) -/

/-- One gPTP port. -/
def State.netPort (s : State) (p : Nat) : NetPort := nth s.net p
def State.setNet (s : State) (p : Nat) (f : NetPort → NetPort) : State := { s with net := upd f s.net p }

/-- Port roles of NET_PORT_STATUS.ROLE. -/
def netDisabled : Nat := 0
def netSlave : Nat := 1
def netPassive : Nat := 2

/-- Whether a port takes part: the domain on, EN 1, the link up. -/
def State.netUp (s : State) (p : Nat) : Bool := s.domOn 9 && s.fbit (R.NET_PORT_CTRL_EN p) && s.fbit (R.NET_PORT_STATUS_LINK p)

/-- Whether a port may have a role other than DISABLED. -/
def State.netCapable (s : State) (p : Nat) : Bool := s.netUp p && s.fbit (R.NET_PORT_STATUS_AS_CAPABLE p)

/-- A priority vector is better than another: the first field in which they differ is the smaller. -/
def vecLess : List Nat → List Nat → Bool
  | a :: as, b :: bs => decide (a < b) || (a == b && vecLess as bs)
  | _, _ => false

/-- A port's Announce, where it may be selected. -/
def State.netAnn (s : State) (p : Nat) : Option Announce := if s.netCapable p then (s.netPort p).ann else none

/-- The slave port: its Announce wins, port 0 on a tie; of two with one grandmaster, a port that has given the role away for want of a Sync loses (Table 14-2, R442). -/
def State.slavePort (s : State) : Option Nat :=
  match s.netAnn 0, s.netAnn 1 with
  | none, none => none
  | some _, none => some 0
  | none, some _ => some 1
  | some a, some b =>
    let q0 := (s.netPort 0).silent
    let q1 := (s.netPort 1).silent
    if a.gm = b.gm ∧ q0 ≠ q1 then some (if q0 then 1 else 0)
    else some (if vecLess b.vector a.vector then 1 else 0)

/-- The roles as they follow from the Announces. -/
def State.showRoles (s : State) : State :=
  let sl := s.slavePort
  overAll 2 (fun p s => s.fset (R.NET_PORT_STATUS_ROLE p)
    (if !s.netCapable p then netDisabled else if sl = some p then netSlave else netPassive)) s

/-- NET_GM_ID. -/
def State.gmId (s : State) : Nat := s.fget R.NET_GM_ID_LO_ID + 2 ^ 32 * s.fget R.NET_GM_ID_HI_ID

/-- SYNCED ends: the increment is frozen, and EVT TIME_STATE is written (Table 14-1, R436, R441). -/
def State.loseSync (s : State) : State := (s.enterHoldover s.uncert).timeEvent 1

/-- Best master selection: roles, the grandmaster's identity, and HOLDOVER where it changes in SYNCED (Table 14-1). -/
def State.selectMaster (s : State) : State :=
  let s := s.showRoles
  match s.slavePort with
  | none => s
  | some p =>
    match s.netAnn p with
    | none => s
    | some a =>
      let changed := a.gm != s.gmId
      let s := (s.fset R.NET_GM_ID_LO_ID (a.gm % 2 ^ 32)).fset R.NET_GM_ID_HI_ID (a.gm / 2 ^ 32)
      if changed && s.clkState == clkSynced then (s.fadd R.TIME_CNT_GM_CHANGES 1).loseSync else s

/-- A frame that the device supports no feature for, another domain's message among them: discarded and counted (Table 14-2). -/
def State.netOther (s : State) (p : Nat) : State := s.fadd (R.NET_PORT_CNT_ERR p) 1

/-- A frame that is no event message arrives: 0 an Announce with its domain, its priority vector and its grandmaster's identity, 1 a Signaling message, which is ignored, 2 any other (R440, Table 14-2). -/
def xAnnounceReceived (p kind domain : Nat) (vector : List Nat) (gm : Nat) (s : State) : State :=
  if !s.netUp p || kind = 1 then s
  else if kind = 2 || domain ≠ 0 then s.netOther p
  else if !s.netCapable p then s.fadd (R.NET_PORT_CNT_ERR p) 1
  else (s.setNet p fun q => { q with ann := some { vector := vector, gm := gm % 2 ^ 64 } }).selectMaster

/-- A master's Announces have stopped (Table 14-2). -/
def xAnnounceReceiptTimeout (p : Nat) (s : State) : State :=
  if s.domOn 9 then (s.setNet p fun q => { q with ann := none, silent := false }).selectMaster else s

/-- The port that is not `p`. -/
def otherPort (p : Nat) : Nat := 1 - p

/-- The slave port has passed no Sync for one interval: the passive port with the same grandmaster takes its role (R442). -/
def xSlavePortSwitch (s : State) : State :=
  match s.slavePort with
  | none => s
  | some p =>
    match s.netAnn p, s.netAnn (otherPort p) with
    | some a, some b =>
      if a.gm = b.gm then ((s.setNet p fun q => { q with silent := true }).setNet (otherPort p) fun q => { q with silent := false }).selectMaster
      else s
    | _, _ => s

/-- A port loses what it had learned. -/
def State.netForget (s : State) (p : Nat) : State :=
  let s := (s.setNet p fun _ => {}).fsetb (R.NET_PORT_STATUS_AS_CAPABLE p) false
  s.selectMaster

/-- An SGMII link comes up or goes down (R440). -/
def xSgmiiLinkChange (p : Nat) (up : Bool) (speed : Nat) (s : State) : State :=
  if !s.domOn 9 then s else
  let s := s.fsetb (R.NET_PORT_STATUS_LINK p) up
  if up then (s.fset (R.NET_PORT_STATUS_SPEED p) (min speed 2)).showRoles else s.netForget p

/-- A write of NET_PORT_CTRL.EN. -/
def State.netEnable (s : State) (p : Nat) (on : Bool) : State :=
  let s := s.fsetb (R.NET_PORT_CTRL_EN p) on
  if on then s.showRoles else s.netForget p

/-! ## Peer delay (R440, R443) -/

/-- The stamp of an event at the SGMII interface so many units of 0.8 ns ago: the local clock with that resolution (R443). -/
def State.stampAt (s : State) (since : Nat) : Nat := s.clkQ * 5 / (4 * 2 ^ 32) - since

/-- Nanoseconds, units of 2^-16 ns, and stamps of 0.8 ns, as multiples of a fifth of 2^-16 ns. -/
def fineNs (v : Int) : Int := v * 327680
def fineMsg (v : Int) : Int := v * 5
def fineStamp (v : Int) : Int := v * 262144

/-- gPTP messages that the device sends. -/
def ptpPdelayReq : Nat := 2
def ptpPdelayResp : Nat := 3
def ptpPdelayRespFollowUp : Nat := 10

/-- More requests in a row without an answer than this end asCapable: allowedLostResponses of IEEE 802.1AS. -/
def allowedLost : Nat := 9

/-- LOG_PDELAY has passed: a Pdelay_Req goes out, and is time-stamped (R443). -/
def xPdelayReqTimer (p : Nat) (s : State) : State :=
  if !s.netUp p then s else
  let s := s.setNet p fun q => { q with lost := if q.waiting then q.lost + 1 else q.lost }
  let s := if allowedLost < (s.netPort p).lost then (s.fsetb (R.NET_PORT_STATUS_AS_CAPABLE p) false).selectMaster else s
  let s := s.setNet p fun q => { q with seq := (q.seq + 1) % 65536, sentAt := s.stampAt 0, waiting := true }
  s.emit (.ptp p ptpPdelayReq [(s.netPort p).seq])

/-- A Pdelay_Req is answered two-step: Pdelay_Resp with the receive stamp less INGRESS_NS, then its Follow_Up with the transmit stamp plus EGRESS_NS, both in fifths of a nanosecond. The request came `since` units of 0.8 ns ago, and its answer goes out `wait` such units later (R443). -/
def xPdelayReqReceived (p seq domain since wait : Nat) (s : State) : State :=
  if !s.netUp p then s
  else if domain ≠ 0 then s.netOther p
  else
  let t2 := 4 * s.stampAt since - 5 * s.fget (R.NET_PORT_LAT_INGRESS_NS p)
  let t3 := 4 * (s.stampAt since + wait) + 5 * s.fget (R.NET_PORT_LAT_EGRESS_NS p)
  (s.emit (.ptp p ptpPdelayResp [seq, t2])).emit (.ptp p ptpPdelayRespFollowUp [seq, t3])

/-- The peer delay of an exchange, in ns: half of t4 − t1 less t3 − t2, which the peer tells in 2^-16 ns; the device's stamps are corrected by INGRESS_NS and EGRESS_NS (R443). -/
def State.pdelay (s : State) (p since : Nat) (peer : Int) : Int :=
  let turn := fineStamp ((s.stampAt since : Int) - (s.netPort p).sentAt)
    - fineNs (s.fget (R.NET_PORT_LAT_INGRESS_NS p) + s.fget (R.NET_PORT_LAT_EGRESS_NS p) : Nat)
  (turn - fineMsg peer) / fineNs 2

/-- A Pdelay_Resp, received `since` units of 0.8 ns ago, and its Follow_Up complete a measurement: `peer` is t3 − t2, and `capable` what the exchange says of asCapable. -/
def xPdelayRespReceived (p seq domain since : Nat) (peer : Int) (capable : Bool) (s : State) : State :=
  let q := s.netPort p
  if !s.netUp p then s
  else if domain ≠ 0 || !q.waiting || seq != q.seq then s.fadd (R.NET_PORT_CNT_ERR p) 1
  else
    let d := s.pdelay p since peer
    let s := s.setNet p fun q => { q with waiting := false, lost := 0 }
    let s := s.fset (R.NET_PORT_PDELAY_NS p) (clampInt 0 (2 ^ 32 - 1) d).toNat
    (s.fsetb (R.NET_PORT_STATUS_AS_CAPABLE p) capable).selectMaster

/-! ## Sync (R434, R436 to R439) -/

/-- Limits of the increment: 3.996 and 4.004 ns in 8.32 (R434). -/
def incMin : Nat := 17162689315
def incMax : Nat := 17197049053

/-- The increment within its range. -/
def incClamp (v : Int) : Nat := (clampInt incMin incMax v).toNat

/-- SLEW_PPM, 1 to 1,000. -/
def State.slewPpm (s : State) : Nat := min 1000 (max 1 (s.fget R.TIME_CFG_SLEW_PPM))

/-- STEP_LIMIT_MS in ns, at least 1 ms. -/
def State.stepLimit (s : State) : Nat := max 1 (s.fget R.TIME_HOLD_STEP_LIMIT_MS) * 1000000

/-- The largest slew term: SLEW_PPM of 4 ns, in 2^-32 ns. -/
def State.slewMax (s : State) : Nat := 4 * 2 ^ 32 * s.slewPpm / 1000000

/-- The rate of the grandmaster is adopted, with a slew term that lasts until it has removed the offset (R438): `rho` is its measured rate less 1, in units of 2^-34, so that one unit moves the increment of 4 ns by 2^-32 ns (R434). -/
def State.setRate (s : State) (rho slew offset : Int) : State :=
  let base := incClamp (2 ^ 34 + rho)
  let inc := incClamp (2 ^ 34 + rho + slew)
  let sl : Int := (inc : Int) - (base : Int)
  let s := (s.setInc inc).fsetb R.TIME_STATUS_SLEWING (sl != 0)
  { s with clk := { s.clk with slewQ := sl, slewLeft := absNat offset } }

/-- A slew term that lets an offset fall: its size is the device's choice, up to SLEW_PPM, and here a free value (R438). -/
def State.slewFor (s : State) (offset : Int) : Int :=
  let v : Int := ((1 + s.freeVal % s.slewMax : Nat) : Int)
  if offset = 0 then 0 else if 0 < offset then -v else v

/-- The rate adopted with a free slew term for an offset. -/
def State.slew (s : State) (rho offset : Int) : State :=
  let v := s.slewFor offset
  (if offset = 0 then s else s.drawn).setRate rho v offset

/-- A generator in the stepped clock. Its next F-tick is the first one of the grid to come, and that of a pending start the first at or after the old one's time; the latch point and X of that F-tick lie ahead (R439). -/
def Gen.stepStart (offset : Int) (q : Gen) : Gen :=
  let moved (t : Nat) : Nat := ((t : Int) - offset).toNat
  let q := { q with latched := false, windowed := false }
  match q.startF with
  | some k => { q with startF := some (q.grid.firstF (moved (q.grid.tickQ (k * q.grid.n)))) }
  | none => { q with sQ := moved q.sQ, stepped := true }

/-- The scan cycle latched for production, in the stepped clock: the one in progress keeps its length, the one to come is that of the bridge (R186, R439). -/
def Prod.step (offset : Int) (before after : Gen) (c : Prod) : Prod :=
  let a := after.advance.2
  if c.sQ = before.advance.2.sQ then
    { c with sQ := a.sQ, lenQ := a.lenQ, j := a.j, grid := a.grid, guardQ := a.grid.tgQ, swapOk := c.swapOk && a.phase == .normal }
  else { c with sQ := ((c.sQ : Int) - offset).toNat }

/-- One enabled generator in the stepped clock, with the scan cycle latched on it; TIMING goes ahead of a lengthened scan cycle (R288). -/
def stepGen (offset : Int) (n : Nat) (s : State) : State :=
  if s.running n || (s.gen n).startF.isSome then
    let q := s.gen n
    let s := s.setGen n (Gen.stepStart offset)
    let s := s.setPx n fun x => { x with prod := x.prod.step offset q (s.gen n) }
    s.timingAhead n
  else s

/-- The clock steps: local time less the offset; every enabled generator bridges from the end of its scan cycle in progress, expressed in the stepped clock (R439). -/
def State.stepClock (s : State) (offset : Int) : State :=
  let s := { s with clk := { s.clk.setQ ((s.clkQ : Int) - offset).toNat with stepBy := none } }
  (overAll 4 (stepGen offset) s).fadd R.TIME_CNT_STEPS 1

/-- SYNCED is entered, or kept, at a Sync within SYNC_NS (Table 14-1). -/
def State.syncGood (s : State) (rho offset : Int) : State :=
  let was := s.clkState
  let s := s.slew rho offset
  let s := { s with clk := { s.clk with stepBy := none } }
  let s := ((s.fset R.TIME_STATUS_STATE clkSynced).fsetb R.TIME_STATUS_RESTORED false).showHoldover.showUnc
  if was = clkSynced then s else s.timeEvent 0

/-- A Sync beyond SYNC_NS: HOLDOVER, and a step or a slew (R438, R439, Table 14-1). -/
def State.syncFar (s : State) (rho offset : Int) : State :=
  let step := (List.range 4).all (fun n => !s.surfEnabled n) || decide (s.stepLimit * 2 ^ 32 < absNat offset)
  let now := (List.range 4).all fun n => !s.surfEnabled n
  let s := s.setRate rho 0 0
  let s := if s.clkState = clkHoldover then s else s.loseSync
  if !step then { s.slew rho offset with clk := { (s.slew rho offset).clk with stepBy := none } }
  else if now then s.stepClock offset
  else { s with clk := { s.clk with stepBy := some offset } }

/-- A saturating signed 32-bit register. -/
def s32sat (v : Int) : Int := clampInt (-(2 ^ 31)) (2 ^ 31 - 1) v

/-- The offset that a Sync shows, in 2^-32 ns: the receive stamp, taken `since` units of 0.8 ns ago, less the grandmaster's time in the message, in 2^-16 ns; the stamp is corrected by INGRESS_NS, and the link delay by ASYM_NS (R436, R443). -/
def State.syncOffset (s : State) (p : Nat) (origin : Int) (since : Nat) : Int :=
  (fineStamp (s.stampAt since) - fineMsg origin
    - fineNs ((s.fget (R.NET_PORT_LAT_INGRESS_NS p) : Int) + (s.fget (R.NET_PORT_PDELAY_NS p) : Int) + s.fint (R.NET_PORT_ASYM_ASYM_NS p))) * 65536 / 5

/-- A Sync arrives, with its Follow_Up where it is two-step: on the slave port it steers the clock (R434, Table 14-1). -/
def xSyncReceived (p domain : Nat) (origin : Int) (since : Nat) (rho : Int) (s : State) : State :=
  if !s.netUp p then s
  else if domain ≠ 0 then s.netOther p
  else if s.fget (R.NET_PORT_STATUS_ROLE p) = netDisabled then s.fadd (R.NET_PORT_CNT_ERR p) 1
  else
    let s := (s.fadd (R.NET_PORT_CNT_SYNC_RX p) 1).setNet p fun q => { q with silent := false }
    if s.fget (R.NET_PORT_STATUS_ROLE p) ≠ netSlave then s else
    let offset := s.syncOffset p origin since
    let s := s.fseti R.NET_OFFSET_NS (s32sat (offset / 2 ^ 32))
    if absNat offset ≤ s.syncNs * 2 ^ 32 then s.syncGood rho offset else s.syncFar rho offset

/-- No Sync within the receipt timeout (Table 14-1). -/
def xSyncReceiptTimeout (s : State) : State := if s.domOn 9 && s.clkState == clkSynced then s.loseSync else s

/-- The end of a G-interval of the lowest surface: a step that waits is made (R439). -/
def xClockStep (s : State) : State :=
  match s.clk.stepBy with
  | some d => if s.domOn 9 then s.stepClock d else s
  | none => s

/-- A read of TIME_NOW_NS latches the time of one timebase tick (R435). -/
def xTimeNowRead (s : State) : State :=
  if !s.domOn 9 then s else
  let s := (s.fset R.TIME_NOW_NS_NS s.clk.ns).fset R.TIME_NOW_SL_SEC (s.clk.sec % 2 ^ 32)
  (s.fset R.TIME_NOW_SH_SEC (s.clk.sec / 2 ^ 32 % 65536)).fset R.TIME_NOW_FRAC_FRAC s.clk.frac

end Sys2Proof.Machine
end

