-- ==== Sys2Proof/Machine/Thermal.lean ====
section
/-! DEFINITION. Temperature, throttling, thermal shutdown and calibration (chapter 18), and the ADC check (R558). -/

namespace Sys2Proof.Machine

/-- The thermal record, changed. -/
def State.setTherm (s : State) (f : ThermSt → ThermSt) : State := { s with therm := f s.therm }

/-- A temperature as a register holds it. -/
def tempWord (t : Int) : Int := clampInt (-32768) 32767 t

/-! ## Throttling (R537 to R540) -/

/-- THROT_TH, 80.0 to 130.0 °C, and HYST, at least 1 °C. -/
def State.throtTh (s : State) : Int := clampInt 1280 2080 (s.fint R.THERM_THROT_THROT_TH)
def State.throtHyst (s : State) : Int := (max 1 (s.fget R.THERM_THROT_HYST) : Nat)

/-- One update of R537: the counts above and below, and the step. -/
def throttleStep (en : Bool) (tg th hyst : Int) (hi lo t : Nat) : Nat × Nat × Nat :=
  if !en then (0, 0, 0)
  else if th < tg then (if 250 ≤ hi + 1 then (0, 0, min 7 (t + 1)) else (hi + 1, 0, t))
  else if tg < th - hyst * 16 then (if 250 ≤ lo + 1 then (0, 0, t - 1) else (0, lo + 1, t))
  else (0, 0, t)

/-- Every bank's limits are taken anew at its next step boundary (R473, R474, R538). -/
def State.recalcBanks (s : State) : State :=
  { s with seg := { s.seg with banks := s.seg.banks.map fun (k : SegBank) => { k with recalc := true } } }

/-- The step changes: SCALE to the tiles, segment limits, EVT THERMAL (R538, R540). -/
def State.newStep (s : State) (t : Nat) : State :=
  let s := ((s.fset R.THERM_STATUS_STEP t).fadd R.THERM_COUNT_STEPS 1).recalcBanks
  let s := s.eventDev 0x0A 0x0080 (u8 t ++ u8 0 ++ s16le (s.fint R.THERM_TEMP_GOV_T))
  overAll 24 scaleOwed s

/-- T_gov and its source, shown; a change beyond DT_CAL since the last passing run starts one (R533, R545). -/
def State.govern (s : State) : State :=
  let g := s.tGov
  let s := (s.fset R.THERM_STATUS_GOV g.1).fseti R.THERM_TEMP_GOV_T (tempWord g.2)
  let above := s.therm.passed && decide (16 * max 1 (s.fget R.THERM_CAL_CFG_DT_CAL) < absNat (g.2 - s.fint R.THERM_CAL_STAT_T_LAST))
  let was := s.therm.dtOver
  let s := s.setTherm fun t => { t with dtOver := above }
  if above && !was then s.calTrigger else s

/-- Every 1 ms (R537). -/
def xThrottleUpdate (s : State) : State :=
  if !s.domOn 10 then s else
  let s := s.govern
  let t := s.fget R.THERM_STATUS_STEP
  let r := throttleStep (s.fbit R.THERM_THROT_EN) (s.fint R.THERM_TEMP_GOV_T) s.throtTh s.throtHyst s.therm.hi s.therm.lo t
  let s := s.setTherm fun q => { q with hi := r.1, lo := r.2.1 }
  if r.2.2 = t then s else s.newStep r.2.2

/-! ## Thermal shutdown (R541) -/

/-- A junction comparator of AON has been above 145 °C for 2 µs; while SAFE is off the request stands on its wires. -/
def xThermalShutdown (s : State) : State :=
  let s := { s with aon := { s.aon with hot := true } }
  let s := if s.domOn 10 || s.domOn 1 then s.fsetb R.THERM_STATUS_SHUTDOWN true else s
  if !s.domOn 1 || s.fbit R.SAFE_TOT_SRC_THERMAL then s else s.raise 32 0 0

/-- Both temperatures have been below 125 °C for 100 ms: the safety pair releases the source. -/
def xThermalShutdownClear (s : State) : State :=
  let s := { s with aon := { s.aon with hot := false } }
  ((s.fsetb R.THERM_STATUS_SHUTDOWN false).totRelease [.thermal] 0x100).clearFault 32

/-! ## Conversions (R535, R536) -/

/-- Whether the diode and the AON sensor differ by no more than DIFF_MAX. -/
def State.diodeAgrees (s : State) : Bool :=
  decide (absNat (s.fint R.THERM_TEMP_DIE_T - s.aonTemp) ≤ 16 * s.fget R.THERM_PLAUS_DIFF_MAX)

/-- EVT CAL_FAIL (Table 18-5). -/
def State.calFail (s : State) (item attempts : Nat) : State := s.eventDev 0x0A 0x0081 (u8 item ++ u8 attempts)

/-- Recovery begins; item 5 has to pass after this (R535). -/
def State.enterRecovery (s : State) : State :=
  if s.fbit R.THERM_STATUS_RECOVERY then s
  else
    let s := s.setTherm fun t => { t with run := t.run.map fun r => { r with recovered := false } }
    ((s.fsetb R.THERM_STATUS_RECOVERY true).calFail 5 0).calTrigger

/-- The diode is converted, the mean of 4 conversions in 1/16 °C; `outside`: its code lies outside the valid range. -/
def xDieTempConversion (temp : Int) (outside : Bool) (s : State) : State :=
  if !s.domOn 10 then s else
  let s := if outside then s else s.fseti R.THERM_TEMP_DIE_T (tempWord temp)
  let s := s.setTherm fun t => { t with outside := outside, diff := if s.diodeAgrees then 0 else min 1000 (t.diff + 1) }
  if outside || decide (1000 ≤ s.therm.diff) then s.enterRecovery else s

/-- Where a remote channel's pin voltage lay: in range, above 1.8 V, or below 0.05 V (R536). -/
inductive RchLevel where
  | inside | above | below
deriving DecidableEq, Repr

/-- The level of a pin voltage in µV (R536). -/
def rchLevel (uv : Nat) : RchLevel := if 1800000 < uv then .above else if uv < 50000 then .below else .inside

/-- Binary places of log2 of a mantissa in [1, 2), held with 48 of them: one place a squaring. -/
def log2Places : Nat → Nat → Nat → Nat
  | 0, _, acc => acc
  | k + 1, m, acc =>
    let q := m * m / 2 ^ 48
    if 2 ^ 49 ≤ q then log2Places k (q / 2) (2 * acc + 1) else log2Places k q (2 * acc)

/-- ln(num / den) with 32 binary places, for num and den above 0. -/
def lnRatio (num den : Nat) : Int :=
  let e : Int := (Nat.log2 num : Int) - (Nat.log2 den : Int)
  let m := (num * 2 ^ 48 * 2 ^ (Nat.log2 den)) / (den * 2 ^ (Nat.log2 num))
  let e' := if m < 2 ^ 48 then e - 1 else e
  let m' := if m < 2 ^ 48 then 2 * m else m
  (e' * 2 ^ 32 + (log2Places 32 m' 0 : Nat)) * 2977044472 / 2 ^ 32

/-- A diode's temperature in 1/16 °C from the ΔV, in nV, of the 10:1 ratio: T = ΔV · q / (n · k · ln 10), with n = IDEAL / 16,384 and k · ln 10 / q = 198,421.4 nV/K (R536). -/
def diodeTemp (ideal dv : Nat) : Int :=
  let den : Int := (ideal * 1984214 : Nat)
  (10 * ((16 * 163840 * dv : Nat) : Int) - 43704 * den) / (10 * den)

/-- The denominator of an NTC's formula, times 5,963 · B · 2^32: 1 / 298.15 K + ln(R / R25) / B, with R = V / I (R536). -/
def ntcDen (b r25 ua uv : Nat) : Int := 20 * 2 ^ 32 * (b : Int) + 5963 * lnRatio uv (ua * 10 * r25)

/-- An NTC's temperature in 1/16 °C from the pin voltage in µV at a bias in µA (R536). -/
def ntcTemp (b r25 ua uv : Nat) : Int :=
  let den := ntcDen b r25 ua uv
  (10 * (16 * 5963 * 2 ^ 32 * (b : Int)) - 43704 * den) / (10 * den)

/-- What channel i reads, from its pin voltage in µV and the ΔV in nV of its diode's currents: the formula's value in one of the two sixteenths about it, a free one (R536; DESIGN CHOICE, log entry 129). -/
def State.rchTemp (s : State) (i uv dv : Nat) : Int :=
  let par := s.fget (R.THERM_RCH_PAR_IDEAL_OR_B i)
  if s.fbit (R.THERM_RCH_CFG_KIND i) then
    let r25 := s.fget (R.THERM_RCH_PAR_R25 i)
    let ua := if s.fbit (R.THERM_RCH_CFG_I_HIGH i) then 100 else 10
    if par = 0 ∨ r25 = 0 ∨ ntcDen par r25 ua uv ≤ 0 then Config.rchOpen ua par r25 uv
    else ntcTemp par r25 ua uv + b2n (Config.rchUp ua par r25 uv)
  else if par = 0 then Config.rchOpen 0 par 0 dv
  else diodeTemp par dv + b2n (Config.rchUp 0 par 0 dv)

/-- Conversions in a row above, below and in range, after one more. -/
def rchCount (l : RchLevel) (c : Nat × Nat × Nat) : Nat × Nat × Nat :=
  match l with
  | .above => (min 3 (c.1 + 1), 0, 0)
  | .below => (0, min 3 (c.2.1 + 1), 0)
  | .inside => (0, 0, min 3 (c.2.2 + 1))

/-- VALID of a remote channel follows EN, OPEN and SHORT. -/
def State.showRch (s : State) (i : Nat) : State :=
  s.fsetb (R.THERM_RCH_T_VALID i) (s.fbit (R.THERM_RCH_CFG_EN i) && !s.fbit (R.THERM_RCH_T_OPEN i) && !s.fbit (R.THERM_RCH_T_SHORT i))

/-- A remote channel is converted: its pin voltage in µV and the ΔV in nV of a diode's 10:1 ratio. -/
def xRemoteTempConversion (i uv dv : Nat) (s : State) : State :=
  if !s.domOn 10 || !s.fbit (R.THERM_RCH_CFG_EN i) then s else
  let s := s.setTherm fun t => { t with rch := upd (rchCount (rchLevel uv)) t.rch i }
  let c := nth s.therm.rch i
  let s := if 3 ≤ c.1 then s.fsetb (R.THERM_RCH_T_OPEN i) true else s
  let s := if 3 ≤ c.2.1 then s.fsetb (R.THERM_RCH_T_SHORT i) true else s
  let s := if 3 ≤ c.2.2 then (s.fsetb (R.THERM_RCH_T_OPEN i) false).fsetb (R.THERM_RCH_T_SHORT i) false else s
  let s := if rchLevel uv = .inside then s.fseti (R.THERM_RCH_T_TEMP i) (tempWord (s.rchTemp i uv dv)) else s
  s.showRch i

/-! ## Oscillator compensation (R544) -/

/-- The compensation entry that covers a temperature in 1/16 °C. -/
def oscEntry (t : Int) : Nat := (clampInt 0 15 ((t + 640) / 176)).toNat

/-- A table's entry: a measured one, or OTP's. -/
def oscTabAt (osc : Nat) (tab : List (Option Int)) (e : Nat) : Int := (nth tab e).getD (Config.oscError osc e)

/-- The error at a temperature, in 0.1 ppm: linear between the two entries whose middles bracket it. -/
def oscInterp (osc : Nat) (tab : List (Option Int)) (t : Int) : Int :=
  let pos := t + 552
  if pos < 0 then oscTabAt osc tab 0
  else
    let e := (pos / 176).toNat
    if 15 ≤ e then oscTabAt osc tab 15
    else
      let a := oscTabAt osc tab e
      a + divr ((oscTabAt osc tab (e + 1) - a) * (pos % 176)) 176

/-- Every 1 s, in SENTINEL too: the trims in force, which THERM_OSC shows while ANA is on (R544). -/
def xOscCompensation (s : State) : State :=
  let lpo := oscInterp 0 s.therm.lpoTab s.aonTemp
  let seg := oscInterp 1 s.therm.segTab s.aonTemp
  let s := s.setTherm fun t => { t with lpoPpm := lpo, segPpm := seg }
  if !s.domOn 10 then s
  else (s.fseti R.THERM_OSC_LPO_PPM (tempWord lpo)).fseti R.THERM_OSC_SEG_PPM (tempWord seg)

/-! ## Calibration (R542, R543, R545) -/

/-- A write of CAL_RUN. -/
def xCalRun (s : State) : State := s.calTrigger

/-- Whether an item is skipped: 7 while the clock is not SYNCED, 8 where the crystal is missing as well (R543, Table 18-2). -/
def State.calSkips (s : State) (item : Nat) : Bool :=
  (item == 7 && s.clkState != clkSynced) || (item == 8 && s.clkState != clkSynced && !s.aon.xtal)

/-- The next item of the run, 9 where none is left. -/
def State.nextItem (s : State) (item : Nat) : Nat :=
  let k := item + 1
  if s.calSkips k then (if s.calSkips (k + 1) then k + 2 else k + 1) else k

/-- A passing item's trim: at once, or at the next PWM boundary; items 7 and 8 also replace a table entry (Table 18-2, R544). -/
def State.takeTrim (s : State) (item : Nat) (mean : List Int) : State :=
  let e := oscEntry s.aonTemp
  let s := if item = 4 ∨ item = 7 then s.setTherm fun t => { t with trimNext := (t.trimNext.filter fun q => q.1 != item) ++ [(item, mean)] }
    else s.setTherm fun t => { t with trims := upd (fun _ => some mean) t.trims (item - 1) }
  if item = 7 then s.setTherm fun t => { t with segTab := upd (fun _ => some (nth mean 0)) t.segTab e }
  else if item = 8 then
    (s.setTherm fun t => { t with lpoTab := upd (fun _ => some (nth mean 0)) t.lpoTab e, lpoPpm := nth mean 0 }).fseti R.THERM_OSC_LPO_PPM (tempWord (nth mean 0))
  else s

/-- Three disagreeing attempts fail an item (R542). -/
def State.itemFails (s : State) (item : Nat) : State :=
  let s := (s.calFail item 3).fset R.THERM_CAL_STAT_FAIL_ITEM item
  (s.fsetb R.THERM_STATUS_CAL_FAULT true).raise 33 item 0

/-- The run, changed. -/
def State.setRun (s : State) (r : CalRun) : State := s.setTherm fun t => { t with run := some r }

/-- Whether two results of an item agree within its tolerance: 2 LSB, 0.05 % or 0.1 % of their mean, 0.25 °C in sixteenths, or 2 ppm in tenths (Table 18-2). -/
def itemAgrees (item : Nat) (a b : Int) : Bool :=
  let d := absNat (a - b)
  if item = 1 then decide (d ≤ 2)
  else if item = 5 then decide (d ≤ 4)
  else if 7 ≤ item then decide (d ≤ 20)
  else if item = 2 then decide (d * 4000 ≤ absNat (a + b))
  else decide (d * 2000 ≤ absNat (a + b))

/-- The mean of two results; where their sum is odd, the way it rounds is free (DESIGN CHOICE, log entry 129). -/
def calMean (a b : Int) : Int := (a + b) / 2 + (if (a + b) % 2 = 1 && Config.meanUp (a + b) then 1 else 0)

/-- The item in hand has been measured twice, or is skipped because its reference has gone meanwhile (R543); for each bank or channel that it trims: in LSB, sixteenths of a °C, tenths of a ppm, or the unit of the current or voltage (R542). -/
def xCalibrationItemDone (first second : List Int) (s : State) : State :=
  match s.therm.run with
  | none => s
  | some r =>
    if !s.domOn 10 || 8 < r.item then s
    else if s.calSkips r.item then s.setRun { r with item := s.nextItem r.item, attempts := 0 }
    else if (first.zip second).all fun e => itemAgrees r.item e.1 e.2 then
      let s := s.takeTrim r.item ((first.zip second).map fun e => calMean e.1 e.2)
      s.setRun { r with item := s.nextItem r.item, attempts := 0, diode := r.diode || r.item == 5, recovered := r.recovered || r.item == 5 }
    else if r.attempts + 1 < 3 then s.setRun { r with attempts := r.attempts + 1 }
    else (s.itemFails r.item).setRun { r with item := s.nextItem r.item, attempts := 0, failed := true }

/-- A run without a failed item passes: fault 33 recovers, and T_gov is judged against the new T_LAST (R545). -/
def State.runPasses (s : State) (r : CalRun) : State :=
  let s := (s.fset R.THERM_CAL_STAT_FAIL_RUNS 0).fseti R.THERM_CAL_STAT_T_LAST (tempWord r.tStart)
  ((s.fsetb R.THERM_STATUS_CAL_FAULT false).clearFault 33).setTherm fun t => { t with passed := true, dtOver := false }

/-- The run is over (R534, R535, R542, R545). -/
def xCalibrationRunDone (s : State) : State :=
  match s.therm.run with
  | none => s
  | some r =>
    if !s.domOn 10 || r.item < 9 then s else
    let s := (s.setTherm fun t => { t with run := none }).fsetb R.THERM_STATUS_CAL_BUSY false
    let s := s.fadd R.THERM_COUNT_CAL_RUNS 1
    let s := if r.failed then s.fadd R.THERM_CAL_STAT_FAIL_RUNS 1 else s.runPasses r
    let s := if r.diode then s.fsetb R.THERM_STATUS_STARTUP false else s
    let s := if r.recovered && s.diodeAgrees then s.fsetb R.THERM_STATUS_RECOVERY false else s
    if s.fbit R.THERM_STATUS_CAL_PENDING then (s.fsetb R.THERM_STATUS_CAL_PENDING false).calTrigger else s

/-- 60 s since a run that raised fault 33. -/
def xCalRetryTimer (s : State) : State := if s.fbit R.THERM_STATUS_CAL_FAULT then s.calTrigger else s

/-- The ADC converts its reference points: the codes, and those that the trims of item 1 predict, for AGND, REF_IN / 2 and REF_IN × 0.9 (R558). -/
def xAdcCheck (codes predicted : List Nat) (s : State) : State :=
  if !s.domOn 10 then s else
  match (List.range 3).find? fun i => decide (4 < absNat (((nth codes i : Nat) : Int) - ((nth predicted i : Nat) : Int))) with
  | none => s
  | some i => if !s.domOn 1 then s.calTrigger else ((s.fsetb R.TEST_ANA_ADC_FAIL true).sounding 0x40 1 (nth codes i % 65536 + 65536 * i)).calTrigger

end Sys2Proof.Machine
end

