-- ==== Sys2Proof/Machine/Lifecycle.lean ====
section
/-! DEFINITION. Commissioning sessions and the life cycle (R395, R396, R589 to R595). -/

namespace Sys2Proof.Machine

/-! ## Sessions (R395, R396) -/

/-- A commissioning session opens; one whose close waits for a commit is followed by it. -/
def State.openSession (s : State) : State :=
  if s.safe.session then { s with safe := { s.safe with reopen := s.safe.closeDue } }
  else ({ s with safe := { s.safe with session := true, closeDue := false } }).fsetb R.SAFE_COMM_STATUS_SESSION true

/-- A write of OPEN: in COMMISSION only. -/
def xCommOpen (s : State) : State :=
  if s.domOn 1 && s.fget R.BOOT_STATUS_LC == lcCommission then s.openSession else s

/-- A write of CLOSE. -/
def xCommClose (s : State) : State := s.closeSession

/-- 600 s without a class C write or an SPB command. -/
def xCommSessionTimeout (s : State) : State := s.closeSession

/-! ## Life-cycle transitions (R590) -/

/-- A refused write to BOOT_LC_CTRL: REFUSED, and the log of R10 with the value written. -/
def State.lcRefused (s : State) (v : Nat) (classC : Bool) : State :=
  (s.fsetb R.BOOT_LC_STATUS_REFUSED true).logRefused 0xE0010 v classC

/-- What a bit of BOOT_LC_CTRL comes to: the state it leads to, or refused, as a class C field outside a session or not. -/
inductive LcOutcome where
  | taken (s : State)
  | refused (classC : Bool)

/-- The outcome of one bit written alone. -/
def State.lcAfter (s : State) (bit : Nat) : LcOutcome → State
  | .taken t => t
  | .refused c => s.lcRefused (2 ^ bit) c

/-- Whether JTAG access to a processor pair and to the test engine is allowed: in BLANK, and in SERVICE with PERMS[1] (R595). -/
def State.debugAllowed (s : State) : Bool :=
  let lc := s.fget R.BOOT_STATUS_LC
  lc == lcBlank || (lc == lcService && bitOf (s.fget R.BOOT_LC_PERMS_PERMS) 1)

/-- Access that the state no longer allows closes; the Totality that it latched stays (R595; DEDUCED, log entry 114). -/
def State.closeDebug (s : State) : State := if s.debugAllowed then s else s.fsetb R.BOOT_STATUS_DBG_OPEN false

/-- The life-cycle state changes: the session closes, the permissions granted are 0 (in SERVICE until they are granted), and debug access that they do not allow closes (R396, R595, Table 20-8). -/
def State.setLc (s : State) (lc perms : Nat) : State :=
  (((s.showLc lc).closeSession.leaveService).fset R.BOOT_LC_PERMS_PERMS perms).closeDebug

/-- OTP holds a life-cycle state, and the device takes it. -/
def State.burnLc (s : State) (lc : Nat) : State := (s.setBoot fun b => { b with otpLc := lc }).setLc lc 0

/-- ADVANCE: BLANK to COMMISSION. -/
def State.lcAdvance (s : State) : LcOutcome :=
  if s.fget R.BOOT_STATUS_LC = lcBlank then .taken (s.burnLc lcCommission) else .refused false

/-- TO_FIELD: COMMISSION to FIELD, in a session with a service key and an SPB in use. -/
def State.lcToField (s : State) : LcOutcome :=
  if s.fget R.BOOT_STATUS_LC = lcCommission ∧ s.safe.session ∧ s.fbit R.BOOT_STATUS_SVC_KEY ∧ s.safe.spb.isSome then .taken (s.burnLc lcField)
  else .refused (!s.safe.session)

/-- KEY_BURN: the staged hash is burned, once, in a session in COMMISSION. -/
def State.lcKeyBurn (s : State) : LcOutcome :=
  if s.fget R.BOOT_STATUS_LC = lcCommission ∧ s.safe.session ∧ s.boot.otpKey.isNone then
    let hash := (List.range 8).map fun w => s.rd (0xE0120 + 4 * w)
    .taken ((s.setBoot fun b => { b with otpKey := some hash }).fsetb R.BOOT_STATUS_SVC_KEY true)
  else .refused (!s.safe.session)

/-- RETIRE: in SERVICE with PERMS[2]; the service key hash is invalidated. -/
def State.lcRetire (s : State) : LcOutcome :=
  if s.fget R.BOOT_STATUS_LC = lcService ∧ bitOf (s.fget R.BOOT_LC_PERMS_PERMS) 2 then
    .taken (((s.setBoot fun b => { b with otpKey := none }).fsetb R.BOOT_STATUS_SVC_KEY false).burnLc lcRetired)
  else .refused false

/-- A write of ADVANCE. -/
def xLcAdvance (s : State) : State := if s.domOn 2 then s.lcAfter 0 s.lcAdvance else s

/-- A write of TO_FIELD. -/
def xLcToField (s : State) : State := if s.domOn 2 then s.lcAfter 1 s.lcToField else s

/-- A write of KEY_BURN. -/
def xLcKeyBurn (s : State) : State := if s.domOn 2 then s.lcAfter 2 s.lcKeyBurn else s

/-- A write of RETIRE. -/
def xLcRetire (s : State) : State := if s.domOn 2 then s.lcAfter 6 s.lcRetire else s

/-! ## Entry into SERVICE (R591 to R594) -/

/-- A write of CHAL_REQ: 32 fresh random bytes, refused during a lockout. -/
def xChalReq (s : State) : State :=
  if !s.domOn 2 || s.boot.locked then s else
  let n := s.boot.chalCount
  let word (w : Nat) : Nat := leNat ((List.range 4).map fun i => Config.challengeByte n (4 * w + i))
  let s := s.setBoot fun b => { b with chalCount := n + 1 }
  (overAll 8 (fun w s => s.fset (R.BOOT_LC_CHAL_CHAL w) (word w)) s).fsetb R.BOOT_LC_STATUS_CHAL_VALID true

/-- 60 s have passed without an ENTER. -/
def xChallengeExpiry (s : State) : State := if s.domOn 2 then s.fsetb R.BOOT_LC_STATUS_CHAL_VALID false else s

/-- The challenge as bytes, the device ID and the response as words. -/
def State.challenge (s : State) : List Byte := (List.range 8).flatMap fun w => leBytes 4 (s.rd (0xE0040 + 4 * w)).toNat
def State.responseWords (s : State) : List Word := (List.range 33).map fun w => s.rd (0xE0080 + 4 * w)

/-- PERMS of the response: word 32. -/
def State.askedPerms (s : State) : Nat := (s.rd (0xE0080 + 4 * 32)).toNat

/-- Whether the response is good: the key's hash and the signature check, or no key is programmed in BLANK or COMMISSION; the reserved bits of PERMS are 0 (R591). -/
def State.responseOk (s : State) : Bool :=
  decide (s.askedPerms < 8) && (match s.boot.otpKey with
    | some hash => Config.responseGood hash s.challenge s.boot.otpId s.responseWords
    | none => decide (s.fget R.BOOT_STATUS_LC ≤ lcCommission))

/-- A failed ENTER: counted; at five in a row a lockout of 600 s, and a record in any case (R592, R593). -/
def State.enterFails (s : State) (last : Nat) : State :=
  let n := min 255 (s.fget R.PWR_RESET_LC_FAILS + 1)
  let s := s.fset R.BOOT_LC_STATUS_LAST last
  (s.showLock n (if s.boot.locked then s.boot.lockS else if 5 ≤ n then 600 else 0)).writeLc

/-- An accepted ENTER: SERVICE with the permissions asked for, and a session where PERMS[0] is 1. -/
def State.enterAccepted (s : State) : State :=
  let perms := s.askedPerms
  let s := ((s.fset R.BOOT_LC_STATUS_LAST 1).showLock 0 (if s.boot.locked then s.boot.lockS else 0)).writeLc
  let s := s.setLc lcService perms
  if bitOf perms 0 then s.openSession else s

/-- A write of ENTER: it consumes the challenge. -/
def xLcEnter (s : State) : State :=
  if !s.domOn 2 then s else
  let valid := s.fbit R.BOOT_LC_STATUS_CHAL_VALID
  let s := s.fsetb R.BOOT_LC_STATUS_CHAL_VALID false
  if lcService ≤ s.fget R.BOOT_STATUS_LC then s
  else if !valid then s.enterFails 3
  else if s.responseOk then s.enterAccepted else s.enterFails 2

/-- A write of LEAVE: SERVICE ends (R594). -/
def xLcLeave (s : State) : State :=
  if s.domOn 2 && s.fget R.BOOT_STATUS_LC == lcService then s.setLc s.boot.otpLc 0 else s

/-- The lockout has run down. -/
def xLockoutExpiry (s : State) : State :=
  if s.boot.locked && s.boot.lockS == 0 then s.showLock (s.fget R.PWR_RESET_LC_FAILS) 0 else s

/-- Every 10 s of a lockout a record is written (R593), by the xSPI controller of CORE (R17). -/
def xLcRecordTimer (s : State) : State := if s.boot.locked && s.domOn 1 && s.domOn 2 then s.writeLc else s

/-! ## Debug (R595) -/

/-- JTAG access to a processor pair opens, where the state allows it: Totality on every port, latched by the safety pair. -/
def xDebugAccessOpen (s : State) : State :=
  if !s.domOn 2 || !s.debugAllowed then s
  else (s.fsetb R.BOOT_STATUS_DBG_OPEN true).totRequest .safetyPair 0x100 0

end Sys2Proof.Machine
end

