-- ==== Sys2Proof/Machine/Reset.lean ====
section
/-! DEFINITION. Resets (chapter 20, R18 to R23, R632), the end of a boot and of a restoration, and host-side resets (R68, R71). -/

namespace Sys2Proof.Machine

/-! ## Power-on reset (R573, R493) -/

/-- What a power-on reset does not reach: OTP, the flash with its interrupted writes, the levels of the input pins, RESET_N among them, what has left the device, the timebase and the draws of free values. -/
def State.powerOn (s : State) : State :=
  let otp := s.boot
  let low := s.syncLow
  { State.reset with
    flash := { s.flash.cut s.free with maxSeq := 0 }
    boot := { otpLc := otp.otpLc, otpKey := otp.otpKey, otpRollback := otp.otpRollback, otpId := otp.otpId, chalCount := otp.chalCount }
    aon := { State.reset.aon with resetHeld := s.aon.resetHeld }, pins := low.pins, out := low.out, ticks := s.ticks, free := s.free + 1, pending := s.pending }

/-- VPATH has been above 2.90 V for 1 ms: every domain is reset, the straps are sampled, and the boot starts with the rails; the cause tells a collapse (Table 20-1, R575, R581). -/
def xPowerOnReset (left xspiSafe : Bool) (s : State) : State :=
  let cause := b2n s.aon.collapsed
  let s := s.powerOn
  let s := { s with aon := { s.aon with running := true } }
  let s := (s.setBoot fun b => { b with left := left, xspiSafe := xspiSafe, cause := cause }).fset R.PWR_RESET_CAUSE cause
  s.railsUp .boot

/-- 20 µs after a supply collapse was detected, or at once below 2.50 V, a power-on reset is applied to every domain, and held (R493). -/
def xCollapseResetTimeout (below25 : Bool) (s : State) : State :=
  if !s.aon.collapsed && !below25 then s else
  let s := s.powerOn
  { s with aon := { s.aon with collapsed := true } }

/-! ## RESET_N (R18 to R22, R573 to R578, R632) -/

/-- The mode machine as RESET_N leaves it: no transition, the next mode STANDBY (Table 17-2). Tarn's own state is kept. -/
def State.modeReset (s : State) : State :=
  let s := s.setMode fun m => {
    m with trans := none, limpFault := none, limpCauses := [], wokenToRun := false, evented := false, presentSinceLimp := false
           parkSurfaces := [], parkRegs := [], parkWait := [], parkPics := [], exitAt := none, limpLater := [] }
  let s := ((s.fset R.PWR_MODE_MODE 0).fset R.PWR_MODE_TARGET 1).fsetb R.PWR_MODE_BUSY true
  s.idleStop

/-- RESET_N is low after its filter: it ends a latched DARK and the holds of TILE_EN. In SENTINEL it holds back a wake besides (R381, R383, R578). -/
def xResetNAssert (s : State) : State :=
  if s.aon.resetHeld then s else
  let s := { s with aon := { s.aon with resetHeld := true, keptDark := [], keptHolds := [] } }
  if s.inSentinel then s.drivePins
  else ((s.modeReset.dieDReset).setSup fun u => { u with restoring := false, shedDue := false }).drivePins

/-- Whether a power-up of the rails for a boot or a wake is in progress: RESET_N lets it go on. -/
def State.railsComing (s : State) : Bool := s.sup.dir == .up && (s.sup.purpose == .boot || s.sup.purpose == .wake)

/-- With LIMP_SUPPLY set, the external rails go off where they are not, and the boot is that of LIMP on supply (R632). -/
def State.resetLimp (s : State) : State :=
  let s := if s.sup.shed || s.sup.dir == .down then s else s.railsDown .shed
  s.limpBoot 2

/-- The boot after RESET_N (R581): the domains come up after the rails, of which those that are on stay on (R495). -/
def State.resetBoot (s : State) : State :=
  if s.fbit R.PWR_SUPPLY_STATUS_LIMP_SUPPLY then s.resetLimp
  else if s.railsComing then s.setSup fun u => { u with purpose := .boot }
  else s.railsUp .boot

/-- RESET_N has been high for 2 µs: the straps are sampled and the boot starts; in SENTINEL, whose next boot is the wake, a held wake action is taken (R575, R578, R581). -/
def xResetNRelease (left xspiSafe : Bool) (s : State) : State :=
  if !s.aon.resetHeld then s else
  let s := { s with aon := { s.aon with resetHeld := false } }
  if s.inSentinel then
    let s := s.setBoot fun b => { b with left := left, xspiSafe := xspiSafe }
    match s.mode.wakeHeld with
    | none => s
    | some (dst, cause) => (s.setMode fun m => { m with wakeHeld := none }).beginWake dst cause
  else
    let s := s.setBoot fun b => { b with left := left, xspiSafe := xspiSafe, halted := false, cause := 2 }
    let s := s.setSup fun u => { u with railsFailed := false, recoveryUsed := false }
    s.drivePins.calTrigger.resetBoot

/-- RESET_HELD has stayed high for the stuck-reset time, counted in SENTINEL from a wake action on: STUCK_RESET, the fault pins, and TWIN_ALIVE low; fault 35 is raised once the safety pair runs (R576, R578). -/
def xStuckResetTimeout (s : State) : State :=
  if s.aon.resetHeld && (!s.inSentinel || s.mode.wakeHeld.isSome) then
    let s := s.fsetb R.PWR_RESET_STUCK_RESET true
    ({ s with aon := { s.aon with twinAlive := false } }).drivePins
  else s

/-! ## The end of a boot and of a restoration (R581, R492) -/

/-- The device leaves the boot: LIMP where a fault asked for it, else STANDBY with cause 0x0003 (Table 17-2); then what Tarn latched. -/
def State.bootMode (s : State) : State :=
  if s.mode.limpFault.isSome then (s.fsetb R.PWR_MODE_BUSY false).replay
  else (s.modeSet 1 3).idleRestart.replay

/-- The boot after a reset ends, its power-on test with it: a fault in SAFE halts it (R550). -/
def xBootComplete (p : PostResult) (s : State) : State :=
  if !s.boot.active || s.boot.step ≠ .ready || decide (2 < s.boot.cause) then s
  else if p.safeFail then s.bootHalt R.PWR_RESET_POST_SAFE_FAIL
  else (s.bootDone p []).bootMode

/-- Restoration ends: LIMP_SUPPLY clears, a domain whose request bit was cleared meanwhile comes on, and the device stays in LIMP until a MODE RUN (R492, R502). -/
def xRestorationComplete (p : PostResult) (s : State) : State :=
  if !s.boot.active || s.boot.step ≠ .ready || s.boot.cause ≠ 4 || !s.sup.restoring then s
  else
    let s := s.fsetb R.PWR_SUPPLY_STATUS_LIMP_SUPPLY false
    let s := s.setSup fun u => { u with restoring := false, shed := false, recoveryUsed := false }
    ((s.powerUp runDomains).bootDone p []).reloadWaiting

/-! ## Host-side resets (R68, R71, Table 03-2) -/

/-- The offsets that a host-side reset reaches: the ring registers, the MSI-X table and PBA, and the doorbells. -/
def hostResetReg (a : Nat) : Bool :=
  (decide (0x10100 ≤ a) && decide (a < 0x10300)) || (decide (0x18000 ≤ a) && decide (a < 0x19000)) || decide (0x100000 ≤ a)

/-- A layer read in progress is stopped, so that the layer is not ready. -/
def LayerBuf.stopped (l : LayerBuf) : LayerBuf := if l.pending || l.done then l else { l with failed := true }

/-- A surface's prefetches in progress are stopped. -/
def SurfPix.stopReads (q : SurfPix) : SurfPix := q.mapPresents fun p => { p with layers := p.layers.map LayerBuf.stopped }

/-- One surface's Ephemeris entries are cancelled, each counted in TIMED_CANCELLED. -/
def hostCancel (n : Nat) (s : State) : State :=
  (s.fadd R.HOST_RESET_CNT_TIMED_CANCELLED (s.px n).ephem.length).cancelEntries n 1 fun _ => true

/-- The configuration space after a host-side reset, as PCI Express resets it: Max_Payload_Size is kept by a function-level reset, the AER status by every one but PCIE_PERST_N (R71; PRESUMED, log entry 116). -/
def PcieCfg.afterReset (c : PcieCfg) (kind : Nat) : PcieCfg :=
  if kind = 1 then {}
  else { mps := if kind = 0 then c.mps else 128, aerCor := c.aerCor, aerUncor := c.aerUncor }

/-- A host-side reset: 0 function-level reset, 1 PCIE_PERST_N, 2 hot reset, 3 loss of the data link. Commands whose source is still to be checked are not validated and go with the descriptors; the pixel path goes on (R71). -/
def xHostSideReset (kind : Nat) (s : State) : State :=
  if !s.domOn 5 then s else
  let s := s.fadd (if kind = 0 then R.HOST_RESET_CNT_FLR else R.HOST_RESET_CNT_LINK_LOSS) 1
  let s := if kind = 0 then s
    else ((s.fsetb R.HOST_STATUS_LINK_UP false).fset R.HOST_STATUS_SPEED 0).fset R.HOST_STATUS_WIDTH 0
  let s := (s.fsetb R.HOST_STATUS_D3 false).fsetb R.HOST_STATUS_CPL_STALL false
  let s := { s with host := { s.host.ringsReset with pcie := s.host.pcie.afterReset kind } }
  let s := { s.resetRegs hostResetReg with cmds := { s.cmds with bulk := [], voided := [] } }
  let s := { s with pix := { s.pix with surfs := s.pix.surfs.map SurfPix.stopReads } }
  overAll 4 hostCancel s

/-- Errors on the link: 0 to 2 say why the data of a host read does not hold (R68), the others concern no read (R67). -/
def linkError (cause : Nat) : PcieError :=
  match cause with
  | 0 => .poisoned | 1 => .ecrc | 2 => .timeout | 3 => .receiver | 4 => .badTlp | 5 => .badDllp | 6 => .replayTimer | 7 => .replayRollover
  | 8 => .malformed | 9 => .unexpected | _ => .protocol

/-- A read of host memory fails: 0 a descriptor, 1 a payload block, 2 a layer of a present, 3 the source of the bulk command in hand; its data was poisoned, failed ECRC or did not come, which AER reports. Another cause is an error that AER reports and that fails no read (R67, R68). -/
def xHostReadFailure (kind ring pos layer cause : Nat) (s : State) : State :=
  if !s.domOn 5 then s else
  let s := s.pcieError (linkError cause)
  if 3 ≤ cause then s
  else if kind = 0 then (match s.inFlight ring with | some f => s.rejectDesc ring f | none => s)
  else if kind = 1 then
    match (s.ring ring).arrived.find? needsPayload with
    | none => s
    | some d => (s.dropDesc d).complete d .hostRead 0 []
  else if kind = 2 then xPrefetchComplete pos layer false ⟨[], [], [], []⟩ s
  else xBulkSourceReadDone [] false s

/-! ## The 32.768 kHz crystal (R621) -/

/-- The crystal is found absent: the low-power oscillator is the AON counter's source. -/
def xXtal32Absence (s : State) : State := { s with aon := { s.aon with xtal := false } }

end Sys2Proof.Machine
end

