-- ==== Sys2Proof/Machine/Limp.lean ====
section
/-! DEFINITION. What the safety pair serves and checks itself (chapter 11): the LIMP and PARK rows of frame-memory tiles (R378, R518, R520), and the second monitor of R362 to R365 with the probe budget of R341. -/

namespace Sys2Proof.Machine

/-! ## The rows of LIMP and PARK -/

/-- The state whose TG registers place a served tile on its canvas: in PARK the control pair's copy, else SAFE's own copy while PIX is off (R32; DESIGN CHOICE, log entry 113). -/
def State.placed (s : State) : State :=
  if s.safe.parkBeam then { s with regs := s.mode.parkRegs }
  else match s.safe.place with
    | some r => { s with regs := r }
    | none => s

/-- Codes that the Spillway stage lets through: a served code above the ceiling of its emitting position is held to the ceiling; aim offset 0, clamp scales 65,536, no dither (R378). A tile bound to no surface lies under no ceiling. -/
def clampServed (ceil : Nat → Nat) (codes : List Nat) : List Nat := codes.zipIdx.map fun e => min e.1 (ceil e.2)

/-- The ceiling of tile pixel `i` of a served port under a profile; the strap as read at boot, for CORE may be off (R32, R143). -/
def State.servedCeil (s : State) (prof : List Byte) (m : Member) (i : Nat) : Nat :=
  let g := s.placed
  match g.boundTo m.port with
  | none => 4095
  | some n =>
    let q := emitPos (g.bindOf m.port) m (i % m.tw) (i / m.tw)
    ceilingAt prof (profBands prof) s.boot.left (g.canvasW n) (g.canvasH n) 0 q.1 q.2

/-- The profile under which a port's rows pass: in PARK the one in force on its surface at entry, else LIMP_PROFILE. -/
def State.servedProfile (s : State) (b : List Byte) (p : Nat) : List Byte :=
  if s.safe.parkBeam then
    match s.placed.boundTo p with
    | some n => spbProfile b (s.spill n).profile
    | none => spbProfile b (spbLimpProfile b)
  else spbProfile b (spbLimpProfile b)

/-- The codes that a port is to show: its PARK pattern, or its entry of the LIMP pattern, as far as the Spillway passes them; 0 without an SPB (R404). -/
def State.servedCodes (s : State) (m : Member) : List Nat :=
  let codes := if s.safe.parkBeam then limpImageCodes (nth s.parkPats m.port).image
    else match s.limpEntryFor m.port with | some e => e.codes | none => []
  match s.safe.spb with
  | none => codes.map fun _ => 0
  | some b =>
    let prof := s.servedProfile b m.port
    clampServed (s.servedCeil prof m) codes

/-- Whether the safety pair sends rows to a core port now: a frame-memory tile that it owns and the beam serves, its lane up, Totality off it. -/
def State.servesRows (s : State) (p : Nat) : Bool :=
  s.formFor p == .store && s.beamServes p && s.owns p && s.laneUp p && !s.totHolds p && (match (s.port p).cap with | none => false | some c => c.frameMem)

/-- All rows of a served picture and the SWAP that takes them, for the scan cycle after the tile's last swap. -/
def State.sendPicture (s : State) (p tw th : Nat) (codes : List Nat) : State :=
  let sd := (s.port p).swapSd + 1
  let m : Member := { port := p, tw := tw, th := th, frameMem := true }
  let rows := (List.range 8).flatMap fun ph => (phaseRows m ph).map fun tr => (ph, tr)
  let row (tr : Nat) : List Nat := (codes.drop (tr * tw)).take tw
  let s := rows.foldl (fun s (e : Nat × Nat) => s.sendNow p pktPhaseData (phaseDataBody e.2 sd e.1 tw 0 (row e.2)) 0) s
  (s.sendSwap p sd 0 0).setHl p fun h => { h with shown := codes }

/-- One port is served: SCALE, its rows, its SWAP. -/
def serveRows (p : Nat) (s : State) : State :=
  match (s.port p).cap, s.safe.served.find? fun e => e.1 == p with
  | some c, some e => (s.sendScale p (s.tileScale p)).sendPicture p c.tw c.th e.2
  | _, _ => s

/-- The rows go out and the safety pair generates the TILE_SYNC edge at which the tiles take them. -/
def State.serveAll (s : State) : State :=
  let ps := (List.range 6).filter s.servesRows
  let s := overList serveRows ps s
  (s.setSync ps true).setSync ps false

/-- What every core port is to show, fixed when the beam is first served. -/
def State.servedNow (s : State) : List (Nat × List Nat) :=
  (List.range 6).filterMap fun p =>
    match (s.port p).cap with
    | some c => if s.formFor p == .store && s.beamServes p && c.frameMem then some (p, s.servedCodes { port := p, tw := c.tw, th := c.th, frameMem := true }) else none
    | none => none

/-- The safety pair's TILE_SYNC edge: frame-memory tiles with an entry or a PARK pattern show it (R378 step 3, R518). -/
def xLimpSwapEdge (s : State) : State :=
  if s.domOn 1 && s.safe.form == .store && !s.safe.swapped then
    let l := s.servedNow
    let s := { s with safe := { s.safe with served := l } }
    let s := s.serveAll
    { s with safe := { s.safe with swapped := true } }
  else s

/-- Every 1,000 ms the rows go out again (R378, R520). -/
def xLimpPatternResend (s : State) : State :=
  if s.domOn 1 && s.safe.form == .store && s.safe.swapped then s.serveAll else s

/-! ## The second monitor (R341, R362 to R365) -/

/-- A value, or what a unit was handed in its place. -/
def overlaid (upset : List (Nat × Nat)) (k v : Nat) : Nat := match upset.find? fun e => e.1 == k with | some e => e.2 | none => v

/-- R362: a zone sum of the Spillway differs from the signature unit's, or the excess that the safety pair recomputes from its own copy of the SPB differs from the Spillway's. -/
def pairDiffers (b : Spb) (q : PairInput) (sums : List (Nat × Nat)) : Bool :=
  let e := excessOf (spbProfile b q.profile) (q.zones.map fun z => (z.1, zoneEst (overlaid sums z.1 z.2.2) (spbEff b z.1)))
  (q.zones.any fun z => z.2.1 != overlaid sums z.1 z.2.2) || (!e.1.isEmpty || e.2) != q.excess

/-- R363: a captured code of the row in rotation lies above the ceiling that the safety pair finds itself. -/
def State.rowBad (s : State) (n : Nat) (q : PairInput) (codes : List (Nat × Nat)) : Bool :=
  let ceil := s.ceilingsOf s.safe.pairCopy q.profile n q.av
  q.codes.any fun e => decide (ceil e.1 q.row < overlaid codes e.1 e.2)

/-- R364, R365: the safety pair applies R359 and R360 itself to the offsets of the scan-out shadow, with its own account of a return; a failure makes the codes of the surface 0. -/
def State.pairAim (s : State) (b : Spb) (n : Nat) (q : PairInput) (av ah : Int) : State :=
  let r : PairSurf := if q.fresh then {} else nth s.safe.pair n
  let p := spbProfile b q.profile
  let start := match q.turn with
    | none => (r.retV, r.retH)
    | some (mv, mh) => (startReturn (profVMin p) (profVMax p) av (profVRate p) q.hz mv, startReturn (profHMin p) (profHMax p) ah (profHRate p) q.hz mh)
  let cv := axisCheck (profVMin p) (profVMax p) av start.1
  let ch := axisCheck (profHMin p) (profHMax p) ah start.2
  let out := !cv.1 || !ch.1
  let fast := match r.last with | none => false | some o => aimFast p q.hz o av ah
  let s := { s with safe := { s.safe with pair := upd (fun r => { r with last := some (av, ah), retV := cv.2, retH := ch.2, outOf := out, fast := fast }) s.safe.pair n } }
  let s := if out || fast then s.setSpill n fun q => { q with zeroed := true } else s
  let s := if out && !r.outOf then s.raise 6 n 0 else s
  if fast && !r.fast then s.raise 7 n 0 else s

/-- The highest zone charge of a scan cycle, as the tile has reported it. -/
def State.zonePeak (s : State) (p : Nat) (r : ScanRec) : Nat := s.probeUa p * r.probes.foldl max 0

/-- R341: the charge of each zone and scan cycle of a port's probed pixels under ceilings; over the budget, probing stops until the port next enters ACTIVE. PEAK_PC is of the last scan cycle that has ended. -/
def probeCheck (p : Nat) (s : State) : State :=
  let recs := (s.hl p).recs
  let last := match recs.find? fun r => decide (r.sQ + r.lenQ ≤ s.clkQ) with | some r => s.zonePeak p r | none => 0
  let peak := (recs.map (s.zonePeak p)).foldl max 0
  let s := s.fset (R.PIX_HLT_PORT_PROBE_PEAK_PC p) (min 0xFFFF last)
  if s.probeBudget < peak && !(s.hl p).probeStopped then
    (((s.setHl p fun h => { h with probeStopped := true }).tileHealth p 3 peak).raise 21 p peak)
  else s

/-- The checks of R362 to R364 on what the safety pair was handed. -/
def State.pairCheck (s : State) (b : Spb) (n : Nat) (q : PairInput) (sums codes : List (Nat × Nat)) (off : Option (Int × Int)) : State :=
  let o := off.getD (q.av, q.ah)
  let differ := pairDiffers b q sums
  let bad := s.rowBad n q codes
  let s := { s with safe := { s.safe with pair := upd (fun r => { r with due := r.due.drop 1 }) s.safe.pair n } }
  let s := if bad then s.raise 3 n 0 else s
  let s := s.pairAim b n q o.1 o.2
  if differ then s.raise 8 n 0 else s

/-- The safety pair completes its checks of the oldest scan cycle still to check, be the surface running or not: of what the units handed to it, but for the sums (zone, sum), captured codes (column, code) and offsets that a disturbed unit handed to it in their place (log entry 124); and of every port's probes (R341, R365). -/
def xSafetyPairCheckDone (n : Nat) (sums codes : List (Nat × Nat)) (off : Option (Int × Int)) (s : State) : State :=
  match s.safe.pairCopy, (nth s.safe.pair n).due with
  | some b, q :: _ => overList probeCheck q.ports (s.pairCheck b n q sums codes off)
  | _, _ => s

end Sys2Proof.Machine
end

