-- ==== Sys2Proof/Machine/RegWrite.lean ====
section
/-! DEFINITION. Host access to BAR 0: writes field by field, by access and class (R4 to R13, R66, R598 to R604), clearing of counters, and what a read returns. -/

namespace Sys2Proof.Machine

/-! ## Accesses to off blocks (R13, R505) -/

/-- An access to an off block completes and is logged, with at most one EVT OFF_ACCESS in 1 ms. -/
def State.offAccess (s : State) (a : Nat) (write : Bool) : State :=
  let d := ownerDomain a
  let s := (s.fset R.HOST_OFFACC_ADDR_ADDR a).fsetb R.HOST_OFFACC_INFO_WRITE write
  let s := (s.fset R.HOST_OFFACC_INFO_DOMAIN d).fadd R.HOST_OFFACC_INFO_COUNT 1
  let fresh := match s.host.offAccAt with | none => true | some t => decide (t + 250000 ≤ s.ticks)
  if s.fbit R.HOST_OFFACC_INFO_EVT_EN && fresh then
    ({ s with host := { s.host with offAccAt := some s.ticks } }).eventDev 0x01 0x0004 (leBytes 4 a ++ u8 (b2n write) ++ u8 d)
  else s

/-- A write to a register of BAR 0 with the effect `act`: none while HOST is off, discarded and logged at an off block; it restarts the idle timer (R514). -/
def State.barWrite (s : State) (a : Nat) (act : State → State) : State :=
  if !s.domOn 5 then s
  else if s.blockOff a then (s.offAccess a true).idleRestart
  else (act s).idleRestart

/-! ## Locks (R10, R11, and the owning blocks of each chapter) -/

/-- A class L field is locked while its owning block is enabled; `v` is the word written at offset `a`. -/
def State.locked (s : State) (a v : Nat) : Bool :=
  match a / 0x10000 with
  | 1 => s.fbit (R.HOST_RING_CTRL_ENABLE ((a - 0x10100) / 0x40))
  | 4 =>
    if a < 0x40400 then s.surfEnabled ((a - 0x40000) / 0x100)
    else
      let p := (a - 0x40800) / 8
      (match s.boundTo p with | some n => s.surfEnabled n | none => false)
        || (a % 8 == 0 && decide (bitsOf v 0 3 < 4) && s.surfEnabled (bitsOf v 0 3))
  | 5 =>
    let r := (a - 0x50400) / 8
    s.surfEnabled (s.fget (R.PIX_SIGREG_A_SURF r)) || (a % 8 == 0 && s.surfEnabled (bitsOf v 1 2))
  | 6 =>
    let p := (a - 0x60000) / 0x800
    let off := a % 0x800
    if off == 0x8 || off == 0xC then s.boundEnabled p else s.fbit (R.TILE_LANE_CTRL_EN p)
  | 7 => if a < 0x70400 then s.fbit R.TWIN_CTRL_EN else s.fbit (R.TWIN_LANE_CTRL_EN ((a - 0x70400) / 0x100))
  | 8 => if a < 0x80100 then s.fbit (R.SEG_RAIL_CFG_EN ((a - 0x80080) / 0x10)) else s.fbit (R.SEG_BANK_CTRL_RUN ((a - 0x80100) / 0x10))
  | 10 => s.fbit (R.THERM_RCH_CFG_EN ((a - 0xA0040) / 0x10))
  | 13 => s.fbit (R.NET_PORT_CTRL_EN ((a - 0xD0000) / 0x100))
  | _ => false

/-- Whether class C fields can be written: in a session in COMMISSION or SERVICE (R11). -/
def State.classCOpen (s : State) : Bool :=
  s.safe.session && (s.fget R.BOOT_STATUS_LC == lcCommission || s.fget R.BOOT_STATUS_LC == lcService)

/-! ## Classes L and C, then F, then I (R599) -/

/-- A write in progress: the state, whether a field was refused, and whether a class C one was. -/
structure Writing where
  s : State
  refused : Bool := false
  classC : Bool := false

/-- The value that a write gives a field. -/
def FieldSpec.part (f : FieldSpec) (v : Nat) : Nat := bitsOf v f.lo f.width

/-- A field of the register at an offset takes its part of the word written. -/
def State.putField (s : State) (a : Nat) (f : FieldSpec) (v : Nat) : State := s.fset ⟨a, f.lo, f.width⟩ (f.part v)

/-- CONFIRMED while an SPB is staged and SAFE_COMM_CONFIRM equals its check value (R398, Table 12-6). -/
def State.showConfirmed (s : State) : State :=
  s.fsetb R.SAFE_COMM_STATUS_CONFIRMED
    (s.fbit R.SAFE_COMM_STATUS_STAGED && s.fget R.SAFE_COMM_CONFIRM_VALUE == s.fget R.SAFE_SPB_STAGED_VALUE)

/-- A region moved to another surface holds no value of a frame of that surface (R179, R224). -/
def State.regionMoved (s : State) (a lo : Nat) : State :=
  if decide (0x50400 ≤ a) && decide (a < 0x50500) && lo == 1 then
    let r := (a - 0x50400) / 8
    (s.fset R.PIX_CSIG_VALID_VALID (maskSet (s.fget R.PIX_CSIG_VALID_VALID) r false)).fset R.PIX_ESIG_VALID_VALID
      (maskSet (s.fget R.PIX_ESIG_VALID_VALID) r false)
  else s

/-- A class L or class C field: a value equal to the one held is no change (R600); a locked field is refused. TILE_RELEASE is class C; the class C bits of BOOT_LC_CTRL are taken with the register's other bits. -/
def writeLC (before : State) (a v : Nat) (w : Writing) (f : FieldSpec) : Writing :=
  let x := f.part v
  match f.cls with
  | .l =>
    if x = before.fget ⟨a, f.lo, f.width⟩ then w
    else if a / 0x10000 = 6 ∧ a % 0x800 = 0 then
      { w with s := xLegacyEnable ((a - 0x60000) / 0x800) (x != 0) w.s, refused := w.refused || before.locked a v }
    else if before.locked a v then { w with refused := true }
    else { w with s := (w.s.putField a f v).regionMoved a f.lo }
  | .c =>
    if a = 0xE0010 then w
    else if a = 0x90028 then
      if x = 0 then w else if before.classCOpen then { w with s := xTileRelease x w.s } else { w with refused := true, classC := true }
    else if x = before.fget ⟨a, f.lo, f.width⟩ then { w with s := if a = 0x90108 ∧ before.classCOpen then w.s.showConfirmed else w.s }
    else if before.classCOpen then
      let s := w.s.putField a f v
      { w with s := if a = 0x90108 then s.showConfirmed else s }
    else { w with refused := true, classC := true }
  | _ => w

/-- The surface whose generator owns the class F fields of a register. -/
def ownerSurf (a : Nat) : Nat :=
  if a / 0x10000 = 10 then (a - 0xA0020) / 4
  else if a < 0x50080 then (a - 0x50010) / 0x10
  else (a - 0x50340) / 8

/-- Bit `n` of SURF_EN or DITHER_EN belongs to surface `n`. -/
def takeIfStopped (f : Fld) (n : Nat) (s : State) : State := if s.running n then s else s.takeBit f n

/-- A class F field: the register holds the value; it is in force at once where its surface's generator does not run (R6 to R9). -/
def writeF (a v : Nat) (s : State) (f : FieldSpec) : State :=
  if f.cls ≠ .f then s else
  let shared := a == 0x50200 || a == 0x50380
  let s := if shared || s.running (ownerSurf a) then s.keepF a else s
  let s := s.putField a f v
  let h : Fld := ⟨a, f.lo, f.width⟩
  if shared then overAll 4 (takeIfStopped h) s
  else if s.running (ownerSurf a) then s
  else if a / 0x10000 = 10 then s.takeScale (ownerSurf a)
  else s.takeForce h

/-- Enables and requests whose field the effect of the write itself sets. -/
def setByEffect (a lo : Nat) : Bool :=
  (lo == 0 && (a / 0x10000 == 6 && decide (a < 0x6C000) && a % 0x800 == 0
    || a / 0x10000 == 4 && decide (a < 0x40400) && a % 0x100 == 0
    || decide (0x10100 ≤ a) && decide (a < 0x102C0) && a % 0x40 == 0xC
    || a == 0x70000 || a == 0x70400 || a == 0x70500 || a == 0xD0000 || a == 0xD0100
    || decide (0x80100 ≤ a) && decide (a < 0x801C0) && a % 0x10 == 0))
  || a == 0x20020
  || (lo == 7 && decide (0x80080 ≤ a) && decide (a < 0x800C0) && a % 0x10 == 0)

/-- Whether what is written to a class I field at an offset takes effect at Tarn's next sample (R532). -/
def atTarnSample (a : Nat) : Bool := decide (0x20100 ≤ a) && decide (a < 0x20300)

/-- A class I field: an RW field is stored, a W1C field cleared by 1, and the seed and length of the test engine refused outside BLANK and SERVICE (R563). A WO field has its effect only, apart from the words of BOOT_LC_RESP. -/
def writeI (a v : Nat) (w : Writing) (f : FieldSpec) : Writing :=
  if f.cls ≠ .i then w else
  match f.acc with
  | .rw =>
    if setByEffect a f.lo then w
    else if (a = 0xB0044 ∨ a = 0xB0048) ∧ !w.s.engineAllowed then { w with refused := true }
    else { w with s := w.s.putField a f v }
  | .w1c =>
    let h : Fld := ⟨a, f.lo, f.width⟩
    if atTarnSample a then { w with s := w.s.setMode fun m => { m with pendClr := m.pendClr ++ [(a, f.part v * 2 ^ f.lo)] } }
    else { w with s := w.s.fset h (w.s.fget h &&& (2 ^ 32 - 1 - f.part v)) }
  | .wo => if 0xE0080 ≤ a ∧ a < 0xE0104 then { w with s := w.s.putField a f v } else w
  | .ro => w

/-! ## Clearing counters (R602 and the CLR_CNT fields of each chapter) -/

/-- The counters that a register's CLR_CNT bit names, after the bit. -/
def clrOf (a : Nat) : Option (Nat × List Fld) :=
  let word (x : Nat) : Fld := ⟨x, 0, 32⟩
  match a with
  | 0x24 => some (2, [R.GLOBAL_WREF_INFO_COUNT])
  | 0x10024 => some (6, [R.HOST_OFFACC_INFO_COUNT])
  | 0x20010 => some (0, [word 0x2000C])
  | 0x30034 => some (0, [word 0x30030, word 0x30044, word 0x3004C, word 0x30054, word 0x3005C])
  | 0x50000 => some (1, (List.range 4).flatMap fun n => [word (0x5001C + 16 * n), R.PIX_COMP_TIME_MAX_US n])
  | 0x50200 => some (16, [word 0x50218, R.PIX_SHADE_AGE_MAX_US])
  | 0x50380 => some (4, [R.PIX_OUT_COUNT_TEMP_FALLBACK])
  | 0x50600 => some (31, [word 0x50618, word 0x5061C, word 0x50620] ++ (List.range 24).map R.PIX_HLT_PORT_RPT_MAX_US)
  | 0x70000 => some (4, [word 0x7000C, word 0x70010, word 0x70014, word 0x70018])
  | 0x80000 => some (2, [word 0x80018])
  | 0x90040 => some (31, [word 0x90044])
  | 0xA0000 => some (4, [word 0xA001C])
  | 0xB0024 => some (0, [word 0xB000C, word 0xB0010, word 0xB0020])
  | 0xC0028 => some (0, [word 0xC000C, word 0xC0010])
  | _ =>
    if a / 0x10000 = 6 ∧ a < 0x6C000 ∧ a % 0x800 = 0 then some (3, [word (a + 0x14), word (a + 0x18)])
    else if a / 0x10000 = 6 ∧ a < 0x6C000 ∧ a % 0x800 = 0x40 then some (31, [word (a + 0x10), word (a + 0x14), word (a + 0x18)])
    else if a = 0x70400 ∨ a = 0x70500 then some (2, [word (a + 0x14), word (a + 0x18)])
    else if a = 0xD0000 ∨ a = 0xD0100 then some (1, [word (a + 0x18)])
    else if a / 0x10000 = 4 ∧ a < 0x40400 ∧ a % 0x100 = 0 then some (1, [word (a + 0x1C)])
    else none

/-- Fields that become 0. -/
def State.zeroed (s : State) (fs : List Fld) : State := fs.foldl (fun s f => s.fset f 0) s

/-- The counters of a register's CLR_CNT bit are cleared where the word written has it at 1. -/
def State.clrCnt (s : State) (a v : Nat) : State :=
  match clrOf a with
  | some (b, fs) => if bitOf v b then s.zeroed fs else s
  | none => s

/-! ## Effects of single registers -/

/-- HOST: ring control, and the watched surface of host silence (R86, R94, R97, R98). -/
def State.actHost (s : State) (a v : Nat) : State :=
  if 0x10100 ≤ a ∧ a < 0x102C0 ∧ a % 0x40 = 0xC then
    let n := (a - 0x10100) / 0x40
    let s := if bitOf v 0 then xRingEnable n s else xRingDisable n s
    let s := if bitOf v 1 then xRingResume n s else s
    if bitOf v 2 then xRingSkip n s else s
  else if a = 0x10004 ∧ !s.surfEnabled (s.fget R.HOST_SILENCE_SURF) then s.fset R.HOST_SILENCE_CNT_COUNT 0
  else s

/-- PWR: domain requests, the Tarn timer and HOST_WAKE (R502, R526, R530). -/
def State.actPwr (s : State) (a v : Nat) : State :=
  if a = 0x20020 then xDomainOffRequest v s
  else if a = 0x20114 then s.setMode fun m => { m with timerLoad := true }
  else s

/-- TG: ENABLE, TICK_OUT turned off, and PORT_REFUSED cleared on a port that is unbound (R44, R62, R634). -/
def State.actTg (s : State) (a v : Nat) : State :=
  if a < 0x40400 ∧ a % 0x100 = 0 then
    if bitOf v 0 then xTgEnable ((a - 0x40000) / 0x100) s else xTgDisable ((a - 0x40000) / 0x100) s
  else if a = 0x40400 ∧ !bitOf v 0 then s.tickLow
  else if 0x40800 ≤ a ∧ a < 0x408C0 ∧ a % 8 = 0 ∧ (s.boundTo ((a - 0x40800) / 8)).isNone then clearRefused ((a - 0x40800) / 8) s
  else s

/-- PIX: a port's health control (R326, R337). -/
def State.actPix (s : State) (a v : Nat) : State :=
  if 0x50700 ≤ a ∧ a < 0x50880 ∧ a % 0x10 = 0 then
    let p := (a - 0x50700) / 0x10
    let s := s.clearMass p
    if bitOf v 1 then xBaselineCapture p s else s
  else s

/-- TILE: lane control and tests (R234, R252, R255). -/
def State.actTile (s : State) (a v : Nat) : State :=
  if 0x6C000 ≤ a then s else
  let p := (a - 0x60000) / 0x800
  if a % 0x800 = 0 then
    let s := if bitOf v 0 then xLaneEnable p s else xLaneDisable p s
    if bitOf v 2 then xLaneRetrain p s else s
  else if a % 0x800 = 0x104 ∧ s.legacy p then s.showLegDn p
  else if a % 0x800 = 0x20 ∧ bitOf v 8 then (if bitOf v 4 then xLoopbackStart p s else xPrbsStart p s)
  else s

/-- TWIN: the twin function and its links (R252, R261, R411, R425, R426). -/
def State.actTwin (s : State) (a v : Nat) : State :=
  if a = 0x70000 then
    let s := if bitOf v 0 then xTwinEnable s else xTwinDisable s
    let s := if bitOf v 2 then xTwinHandover s else s
    if bitOf v 3 then xTwinRejoin s else s
  else if a < 0x70400 then s
  else
    let t := (a - 0x70400) / 0x100
    if a % 0x100 = 0 then
      let on := s.fbit (R.TWIN_LANE_CTRL_EN t)
      let s := if bitOf v 0 then (if on then s else xTwinLaneEnable t s) else if on then linkDown t s else s
      if bitOf v 1 then xLaneRetrain (24 + t) s else s
    else if a % 0x100 = 0x20 ∧ bitOf v 8 then xPrbsStart (24 + t) s
    else s

/-- A bank's peak is taken anew where CUR or EN of a channel or its BANK_MA has changed, and the total scale where TOTAL_MA has (R473, R474). -/
def State.segLimits (s before : State) (a : Nat) : State :=
  let due (b : Nat) (changed : Bool) : State := if changed then s.setBank b fun q => { q with recalc := true } else s
  if a = 0x8000C then
    (if s.fget R.SEG_LIMIT_TOTAL_MA ≠ before.fget R.SEG_LIMIT_TOTAL_MA then s.setSeg fun g => { g with totalDue := true } else s)
  else if 0x80100 ≤ a ∧ a < 0x801C0 then
    let b := (a - 0x80100) / 0x10
    due b (s.fget (R.SEG_BANK_PH_BANK_MA b) != before.fget (R.SEG_BANK_PH_BANK_MA b))
  else if 0x80200 ≤ a ∧ a < 0x80500 then
    let c := (a - 0x80200) / 4
    due (c / 16) (s.chanCode c != before.chanCode c)
  else s

/-- SEG: clears, rails, banks (R467, R475, R481). -/
def State.actSeg (s : State) (a v : Nat) : State :=
  if 0x80050 ≤ a ∧ a < 0x80068 then xSegChannelClear ((a - 0x80050) / 4) v s
  else if 0x80080 ≤ a ∧ a < 0x800C0 ∧ a % 0x10 = 0 then xSegRailEnable ((a - 0x80080) / 0x10) (bitOf v 7) s
  else if 0x80100 ≤ a ∧ a < 0x801C0 ∧ a % 0x10 = 0 then xSegBankRun ((a - 0x80100) / 0x10) (bitOf v 0) s
  else s

/-- SAFE: commissioning sessions (R395, R396). -/
def State.actSafe (s : State) (a v : Nat) : State :=
  if a = 0x90100 then
    let s := if bitOf v 0 then xCommOpen s else s
    if bitOf v 1 then xCommClose s else s
  else s

/-- THERM: calibration runs and remote channels (R536, R545). -/
def State.actTherm (s : State) (a v : Nat) : State :=
  if a = 0xA0000 ∧ bitOf v 3 then xCalRun s
  else if 0xA0040 ≤ a ∧ a < 0xA0080 ∧ a % 0x10 = 0 then s.showRch ((a - 0xA0040) / 0x10)
  else s

/-- NET: a port's enable (R440). -/
def State.actNet (s : State) (a v : Nat) : State :=
  if a = 0xD0000 ∨ a = 0xD0100 then
    let p := (a - 0xD0000) / 0x100
    if s.fbit (R.NET_PORT_CTRL_EN p) = bitOf v 0 then s else s.netEnable p (bitOf v 0)
  else s

/-- One bit of BOOT_LC_CTRL that may be refused. -/
def lcBit (v bit : Nat) (go : State → LcOutcome) (w : Writing) : Writing :=
  if !bitOf v bit then w else
  match go w.s with
  | .taken t => { w with s := t }
  | .refused c => { w with s := w.s.fsetb R.BOOT_LC_STATUS_REFUSED true, refused := true, classC := w.classC || c }

/-- BOOT: the life-cycle bits of one write, class C before class I (R590, R591, R594, R599). -/
def actBoot (a v : Nat) (w : Writing) : Writing :=
  if a ≠ 0xE0010 then w else
  let w := lcBit v 0 State.lcAdvance (lcBit v 2 State.lcKeyBurn (lcBit v 1 State.lcToField w))
  let w := { w with s := if bitOf v 3 then xChalReq w.s else w.s }
  let w := { w with s := if bitOf v 4 then xLcEnter w.s else w.s }
  let w := { w with s := if bitOf v 5 then xLcLeave w.s else w.s }
  lcBit v 6 State.lcRetire w

/-- What a write does beyond the fields it stores. -/
def State.regAct (s : State) (a v : Nat) : State :=
  match a / 0x10000 with
  | 1 => s.actHost a v
  | 2 => s.actPwr a v
  | 4 => s.actTg a v
  | 5 => s.actPix a v
  | 6 => s.actTile a v
  | 7 => s.actTwin a v
  | 8 => s.actSeg a v
  | 9 => s.actSafe a v
  | 10 => s.actTherm a v
  | 11 => if a = 0xB0040 ∧ bitOf v 8 then s.engineStart (bitsOf v 0 8) (bitsOf v 9 2) v else s
  | 13 => s.actNet a v
  | _ => s

/-- A write of a word to a register of the list whose block is on: classes L and C, F, I, then the effects, then one log of what was refused. -/
def State.writeFields (s : State) (a v : Nat) (fs : List FieldSpec) : State :=
  let w := fs.foldl (writeLC s a v) { s := s }
  let w := { w with s := fs.foldl (writeF a v) w.s }
  let w := fs.foldl (writeI a v) w
  let w := { w with s := (w.s.clrCnt a v).regAct a v }
  let w := if a / 0x10000 = 8 then { w with s := w.s.segLimits s a } else w
  let w := actBoot a v w
  if w.refused then w.s.logRefused a v w.classC else w.s

/-! ## The MSI-X table (R93) -/

/-- A write to the table: addresses and data are stored, and a vector unmasked while its PBA bit is set is sent. -/
def State.writeMsix (s : State) (a v : Nat) : State :=
  if a % 16 ≠ 12 then s.wr a (BitVec.ofNat 32 v)
  else
    let n := (a - 0x18000) / 16
    let s := s.wr a (BitVec.ofNat 32 (v % 2))
    sendPending n s

/-! ## The rows -/

/-- A write of an aligned DWORD. -/
def State.writeWord (s : State) (a v : Nat) : State :=
  s.barWrite a fun s =>
    if 0x18000 ≤ a ∧ a < 0x18100 then s.writeMsix a v
    else match findReg a with
      | some r => s.writeFields a v r.fields
      | none => s

/-- EVT ACCESS_SIZE of a BAR 0 write that is no aligned DWORD (R66). -/
def State.accessSize (s : State) (a : Nat) : State :=
  s.eventDev 0x01 0x0001 (leBytes 4 a ++ u8 0 ++ u8 1)

/-- A host write to BAR 0 of the value `v` at offset `a`; `whole` for an access of 4 bytes (R66, R599). -/
def xRegisterWrite (a v : Nat) (whole : Bool) (s : State) : State :=
  if !s.domOn 5 || decide (0x100000 ≤ a) then s
  else if !whole || a % 4 != 0 then (s.accessSize a).idleRestart
  else s.writeWord a (v % 2 ^ 32)

/-- A write of 1 to the CLR_CNT bit of a register, its other fields written with the values they hold (R602). -/
def xClrCntWrite (a : Nat) (s : State) : State :=
  s.barWrite a fun s => match clrOf a with | some (_, fs) => s.zeroed fs | none => s

/-! ## Reads (R9, R13, R435, R598, R604) -/

/-- Bits of a register that a read returns: those of its fields that are not write-only. -/
def RegSpec.readMask (r : RegSpec) : Nat :=
  r.fields.foldl (fun m f => if f.acc = .wo then m else m ||| ((2 ^ f.width - 1) * 2 ^ f.lo)) 0

/-- Registers that show what a selector names, or a condition that holds now. -/
def State.shownWord (s : State) (a : Nat) : Nat :=
  let pk : Peek := nth s.pix.peeks (s.fget R.PIX_SHADE_PEEK_SEL_SLOT)
  let z := s.zone (min 191 (s.fget R.PIX_ZONE_SEL_ZONE))
  let sz := nth s.safe.zones (min 191 (s.fget R.SAFE_SPILL_SEL_ZONE))
  let s32 (v : Int) : Nat := ofSigned 32 (clampInt (-(2 ^ 31)) (2 ^ 31 - 1) v)
  if a = 0x3001C then uncWord s.uncert % 2 ^ 32
  else if a = 0x30020 then uncWord s.uncert / 2 ^ 32
  else if a = 0x50224 then s32 pk.x
  else if a = 0x50228 then s32 pk.y
  else if a = 0x5022C then min 65535 (pk.hw / 16) + min 65535 (pk.hh / 16) * 65536
  else if a = 0x5038C then z.latched + b2n z.fallback * 2 ^ 17
  else if a = 0x50390 then ofSigned 16 z.used
  else if a = 0x90048 then sz.est
  else if a = 0x9004C then sz.q
  else if a = 0xA0000 ∧ s.modeNow ≠ 5 then 0
  else if 0x50704 ≤ a ∧ a < 0x50880 ∧ a % 0x10 = 4 then
    (wordSet (s.rd a) 20 1 (b2n (s.monitored ((a - 0x50704) / 0x10)))).toNat
  else (s.rd a).toNat

/-- What an aligned DWORD read of BAR 0 returns while HOST is on (R13, R65). -/
def State.readReg (s : State) (a : Nat) : Word :=
  if s.blockOff a then 0x0FF00FF0
  else if 0x18000 ≤ a ∧ a < 0x18100 then s.rd a
  else if a = 0x19000 then BitVec.ofNat 32 s.host.pba
  else match findReg a with
    | some r => BitVec.ofNat 32 (s.shownWord a &&& r.readMask)
    | none => 0

/-! ## What a host read is answered (R65, R66, R78, R505) -/

/-- The answer to a memory read request. -/
inductive ReadAnswer where
  /-- A completion with data. -/
  | data (w : Word)
  /-- Unsupported Request: the function does not claim the request. -/
  | unsupported
  /-- None: the link is down. -/
  | none
deriving DecidableEq, Repr

/-- What a read of a doorbell register returns: the last value accepted on a ring's page, else 0 (R78). -/
def State.readDoorbell (s : State) (off : Nat) : Word :=
  if off % 0x1000 = 0 ∧ off < 0x7000 then s.rd (0x100000 + off) else 0

/-- A memory read of `len` bytes at an offset of BAR 0 or BAR 2: its answer, and what it changes: ACCESS_SIZE of a read that is no aligned DWORD, the log of an access to an off block, the latch of TIME_NOW. The table has a command for the last one only (log entry 20). -/
def State.readBar (s : State) (bar off len : Nat) : ReadAnswer × State :=
  if !s.domOn 5 || !s.fbit R.HOST_STATUS_LINK_UP then (.none, s)
  else if !s.host.pcie.memSpace || !((bar == 0 && decide (off < 0x100000)) || (bar == 2 && decide (off < 0x10000))) then (.unsupported, s)
  else if len ≠ 4 ∨ off % 4 ≠ 0 then
    (.data 0x0FF00FF0, s.eventDev 0x01 0x0001 (leBytes 4 off ++ u8 bar ++ u8 0))
  else if bar = 2 then (.data (s.readDoorbell off), s)
  else if s.blockOff off then (.data 0x0FF00FF0, s.offAccess off false)
  else if off = 0x30004 then let t := xTimeNowRead s; (.data (t.readReg off), t)
  else (.data (s.readReg off), s)

end Sys2Proof.Machine
end

