-- ==== Sys2Proof/Machine/Rows.lean ====
section
/-! DEFINITION. What every row's meaning shares: the outcome of a command, with the levels that follow the state; and the small operations that single rows add to their family's. -/

namespace Sys2Proof.Machine

/-- The fault pins, and SAFE_STATUS while SAFE is on, follow what the device holds (R384, Table 11-7). -/
def State.levels (s : State) : State :=
  let s := s.drivePins
  if s.domOn 1 then s.showSafe else s

/-- The state after a command whose own effect leaves `t`: the descriptor reads that it lets go are issued (R88), the levels settle, and the commands that wait are as they were. -/
def State.after (s t : State) : State := { t.issueReads.levels with pending := s.pending }

/-- A command's outcome. -/
def State.done (s t : State) : Host.Outcome State Fault Refusal := .next (s.after t)

/-- Offset of the lane control register of a unit: a tile port, or 24 + t for twin link t. -/
def laneCtrl (u : Nat) : Nat := if u < 24 then 0x60000 + 0x800 * u else 0x70400 + 0x100 * (u - 24)

/-- Offset of the test control register of a unit. -/
def prbsCtrl (u : Nat) : Nat := laneCtrl u + 0x20

/-- A write of LEGACY, the port's other fields as they stand: refused as a class L field while EN is 1 (R10, R257). -/
def legacyWrite (p : Nat) (on : Bool) (s : State) : State :=
  let s := if s.fbit (R.TILE_LANE_CTRL_EN p) && s.legacy p != on then
    s.logRefused (0x60000 + 0x800 * p) (wordSet (s.rd (0x60000 + 0x800 * p)) 1 1 (b2n on)).toNat false else s
  xLegacyEnable p on s

/-- A read of a register of BAR 0 with the effect `act`: an off block answers 0x0FF0_0FF0, and the access is logged (R13, R505). -/
def State.barRead (s : State) (a : Nat) (act : State → State) : State :=
  if !s.domOn 5 then s else if s.blockOff a then s.offAccess a false else act s

/-- A BAR 2 write: one that is no aligned DWORD is discarded with EVT ACCESS_SIZE (R66). -/
def doorbellAccess (page off v : Nat) (whole : Bool) (s : State) : State :=
  if s.domOn 5 && (!whole || off % 4 != 0) then
    s.eventDev 0x01 0x0001 (leBytes 4 (page * 4096 + off) ++ u8 2 ++ u8 1)
  else xDoorbellWrite page off v s

end Sys2Proof.Machine
end

