-- ==== Sys2Proof/Machine/RowsCommands.lean ====
section
/-! DEFINITION. The meanings of the rows of the descriptors of the submit rings and their later effects (chapter 4), each by the operation that its family's file defines. -/

namespace Sys2Proof.Machine

/-- PRESENT. PRESENT at the front of ring 1 (R108). -/
def execPresent (s : State) : Host.Outcome State Fault Refusal :=
  s.done (settled (xPresent s.latchesDue))

/-- PREFETCH_COMPLETE. The last host read of a layer ends: its rows and line CRCs as read, and as read again (R108, R148). -/
def execPrefetchComplete (pos : Nat) (layer : Nat) (ok : Bool) (rows : List (List Byte)) (crcs : List Byte) (rows2 : List (List Byte)) (crcs2 : List Byte) (s : State) : Host.Outcome State Fault Refusal :=
  s.done (xPrefetchComplete pos layer ok ⟨rows, crcs, rows2, crcs2⟩ s)

/-- PRESENT_TIMED. PRESENT_TIMED at the front of ring 1 (R110). -/
def execPresentTimed (s : State) : Host.Outcome State Fault Refusal :=
  s.done (settled (xPresentTimed s.latchesDue))

/-- CANCEL_TIMED. CANCEL_TIMED (R111). -/
def execCancelTimed (s : State) : Host.Outcome State Fault Refusal :=
  s.done (settled (xCancelTimed s.latchesDue))

/-- SHADE_UPDATE. SHADE_UPDATE (R112). -/
def execShadeUpdate (s : State) : Host.Outcome State Fault Refusal :=
  s.done (settled (xShadeUpdate s))

/-- SHADE_CLEAR. SHADE_CLEAR (R114). -/
def execShadeClear (s : State) : Host.Outcome State Fault Refusal :=
  s.done (settled (xShadeClear s))

/-- AIM. AIM (R115). -/
def execAim (s : State) : Host.Outcome State Fault Refusal :=
  s.done (xAim s)

/-- BEAM_PROFILE. BEAM_PROFILE (R116). -/
def execBeamProfile (s : State) : Host.Outcome State Fault Refusal :=
  s.done (xBeamProfile s)

/-- SURFACE_CONFIG. SURFACE_CONFIG (R117). -/
def execSurfaceConfig (s : State) : Host.Outcome State Fault Refusal :=
  s.done (settled (xSurfaceConfig s))

/-- RETIME. RETIME (R56). -/
def execRetime (s : State) : Host.Outcome State Fault Refusal :=
  s.done (settled (xRetime s.latchesDue))

/-- SCALER_COEFF. SCALER_COEFF (R120). -/
def execScalerCoeff (s : State) : Host.Outcome State Fault Refusal :=
  s.done (settled (xScalerCoeff s))

/-- SEG_PATTERN. SEG_PATTERN (R126). -/
def execSegPattern (s : State) : Host.Outcome State Fault Refusal :=
  s.done (xSegPattern s)

/-- SEG_START. SEG_START (R127). -/
def execSegStart (s : State) : Host.Outcome State Fault Refusal :=
  s.done (xSegStart s)

/-- MAP_LOAD. MAP_LOAD (R128). -/
def execMapLoad (s : State) : Host.Outcome State Fault Refusal :=
  s.done (xMapLoad s)

/-- HEALTH_DUMP. HEALTH_DUMP (R129). -/
def execHealthDump (s : State) : Host.Outcome State Fault Refusal :=
  s.done (xHealthDump s)

/-- SPB_LOAD. SPB_LOAD (R130). -/
def execSpbLoad (s : State) : Host.Outcome State Fault Refusal :=
  s.done (xSpbLoad s)

/-- SPB_COMMIT. SPB_COMMIT (R131). -/
def execSpbCommit (s : State) : Host.Outcome State Fault Refusal :=
  s.done (xSpbCommit s)

/-- FW_STAGE. FW_STAGE (R132). -/
def execFwStage (s : State) : Host.Outcome State Fault Refusal :=
  s.done (xFwStage s)

/-- FW_ACTIVATE. FW_ACTIVATE (R133). -/
def execFwActivate (s : State) : Host.Outcome State Fault Refusal :=
  s.done (xFwActivate s)

/-- FENCE. FENCE at the front of a submit ring (R134). -/
def execFence (ring : Fin 4) (s : State) : Host.Outcome State Fault Refusal :=
  s.done (xFence ring.val s)

/-- FENCE_CONDITION_MET. The condition of a ring's FENCE holds (R135). -/
def execFenceConditionMet (ring : Fin 4) (s : State) : Host.Outcome State Fault Refusal :=
  s.done (xFenceConditionMet ring.val s)

/-- FENCE_TIMEOUT. The timeout of a ring's FENCE expires (R135). -/
def execFenceTimeout (ring : Fin 4) (s : State) : Host.Outcome State Fault Refusal :=
  s.done (xFenceTimeout ring.val s)

/-- BULK_SOURCE_READ_DONE. The source buffer of the oldest bulk command has been read (R125). -/
def execBulkSourceReadDone (bytes : List Byte) (ok : Bool) (s : State) : Host.Outcome State Fault Refusal :=
  s.done (settled (xBulkSourceReadDone bytes ok s))

/-- FLASH_WRITE_DONE. The oldest flash write and its read-back end (R131 to R133). -/
def execFlashWriteDone (ok : Bool) (s : State) : Host.Outcome State Fault Refusal :=
  s.done (xFlashWriteDone ok s)

/-- HEALTH_DUMP_DONE. The last host write of the oldest dump ends (R129). -/
def execHealthDumpDone (s : State) : Host.Outcome State Fault Refusal :=
  s.done (xHealthDumpDone s)

end Sys2Proof.Machine
end

