-- ==== Sys2Proof/Machine/RowsHost.lean ====
section
/-! DEFINITION. The meanings of the rows of rings, the host interface and registers (chapters 3, 14 and 21), each by the operation that its family's file defines. -/

namespace Sys2Proof.Machine

/-- DOORBELL_WRITE. A BAR 2 write: page, offset in it, value, whether it is of 4 bytes (R66, R77). -/
def execDoorbellWrite (page : Nat) (off : Nat) (value : Nat) (whole : Bool) (s : State) : Host.Outcome State Fault Refusal :=
  s.done (doorbellAccess page off (value % 2 ^ 32) whole s)

/-- DESCRIPTOR_ARRIVAL. The 64 bytes of the next descriptor of a submit ring arrive (R84). -/
def execDescriptorArrival (ring : Fin 4) (bytes : List Byte) (s : State) : Host.Outcome State Fault Refusal :=
  s.done (xDescriptorArrival ring.val bytes s)

/-- PAYLOAD_ARRIVAL. The payload block of the ring's command arrives (R82). -/
def execPayloadArrival (ring : Fin 4) (bytes : List Byte) (s : State) : Host.Outcome State Fault Refusal :=
  s.done (xPayloadArrival ring.val bytes s)

/-- HOST_READ_FAILURE. A host read fails: 0 a descriptor, 1 a payload block, 2 a layer, 3 a bulk source; 0 poisoned, 1 ECRC, 2 no completion; another cause is an error of the link that fails no read (R67, R68). -/
def execHostReadFailure (kind : Fin 4) (ring : Fin 4) (pos : Nat) (layer : Nat) (cause : Fin 11) (s : State) : Host.Outcome State Fault Refusal :=
  s.done (xHostReadFailure kind.val ring.val pos layer cause.val s)

/-- HOST_SIDE_RESET. 0 FLR, 1 PERST, 2 hot reset, 3 DL_Down (R71). -/
def execHostSideReset (kind : Fin 4) (s : State) : Host.Outcome State Fault Refusal :=
  s.done (xHostSideReset kind.val s)

/-- POWER_STATE_CHANGE. Entry into D3hot or return to D0 (R69). -/
def execPowerStateChange (d3 : Bool) (s : State) : Host.Outcome State Fault Refusal :=
  s.done (xPowerStateChange d3 s)

/-- BUS_MASTER_DISABLE. The host writes the PCIe configuration: Bus Master Enable, Memory Space Enable, MSI-X Enable and Function Mask, Max_Read_Request_Size 128 << mrrs, Max_Payload_Size 128 << mps, ECRC, completion timeout, ASPM (R64, R70, Table 03-1). -/
def execBusMasterDisable (enable : Bool) (memSpace : Bool) (msixEnable : Bool) (funcMask : Bool) (ecrcGen : Bool) (ecrcCheck : Bool) (mrrs : Fin 6) (mps : Fin 6) (timeout : Fin 16) (aspm : Fin 4) (s : State) : Host.Outcome State Fault Refusal :=
  s.done (xBusMaster enable memSpace msixEnable funcMask ecrcGen ecrcCheck mrrs.val mps.val timeout.val aspm.val s)

/-- RING_ENABLE. A write of 1 to HOST_RINGn_CTRL.ENABLE (R97). -/
def execRingEnable (ring : Fin 7) (s : State) : Host.Outcome State Fault Refusal :=
  s.done (s.barWrite (0x1010C + 0x40 * ring.val) fun s => xRingEnable ring.val s)

/-- RING_DISABLE. A write of 0 to ENABLE (R98). -/
def execRingDisable (ring : Fin 7) (s : State) : Host.Outcome State Fault Refusal :=
  s.done (s.barWrite (0x1010C + 0x40 * ring.val) fun s => xRingDisable ring.val s)

/-- RING_RESUME. A write of 1 to RESUME (R86). -/
def execRingResume (ring : Fin 7) (s : State) : Host.Outcome State Fault Refusal :=
  s.done (s.barWrite (0x1010C + 0x40 * ring.val) fun s => xRingResume ring.val s)

/-- RING_SKIP. A write of 1 to SKIP (R86). -/
def execRingSkip (ring : Fin 7) (s : State) : Host.Outcome State Fault Refusal :=
  s.done (s.barWrite (0x1010C + 0x40 * ring.val) fun s => xRingSkip ring.val s)

/-- COALESCE_TIMEOUT. The oldest unsignalled record of a ring has waited COAL_US (R93). -/
def execCoalesceTimeout (ring : Fin 7) (s : State) : Host.Outcome State Fault Refusal :=
  s.done (xCoalesceTimeout ring.val s)

/-- REGISTER_WRITE. A BAR 0 write: offset, value, whether it is of 4 bytes (R66, R599). -/
def execRegisterWrite (addr : Nat) (value : Nat) (whole : Bool) (s : State) : Host.Outcome State Fault Refusal :=
  s.done (xRegisterWrite addr value whole s)

/-- CLR_CNT_WRITE. A write of 1 to the CLR_CNT bit of the register at an offset (R602). -/
def execClrCntWrite (addr : Nat) (s : State) : Host.Outcome State Fault Refusal :=
  s.done (xClrCntWrite addr s)

/-- TIME_NOW_READ. A read of TIME_NOW_NS (R435). -/
def execTimeNowRead (s : State) : Host.Outcome State Fault Refusal :=
  s.done (s.barRead 0x30004 xTimeNowRead)

/-- PCIE_LINK_UP. The PCIe data link completes training (R65). -/
def execPcieLinkUp (speed : Fin 8) (width : Fin 8) (s : State) : Host.Outcome State Fault Refusal :=
  s.done (xPcieLinkUp speed.val width.val s)

end Sys2Proof.Machine
end

