-- ==== Sys2Proof/Machine/RowsLanes.lean ====
section
/-! DEFINITION. The meanings of the rows of lanes, tests and legacy mode (chapter 8), each by the operation that its family's file defines. -/

namespace Sys2Proof.Machine

/-- LANE_ENABLE. A write of 1 to TILE_LANE_CTRL.EN (R234). -/
def execLaneEnable (port : Fin 24) (s : State) : Host.Outcome State Fault Refusal :=
  s.done (s.barWrite (0x60000 + 0x800 * port.val) fun s => xLaneEnable port.val s)

/-- LANE_DISABLE. A write of 0 to EN (R234). -/
def execLaneDisable (port : Fin 24) (s : State) : Host.Outcome State Fault Refusal :=
  s.done (s.barWrite (0x60000 + 0x800 * port.val) fun s => xLaneDisable port.val s)

/-- EN_WAIT_EXPIRY. EN_WAIT_MS has passed (R234). -/
def execEnWaitExpiry (port : Fin 24) (s : State) : Host.Outcome State Fault Refusal :=
  s.done (xEnWaitExpiry port.val s)

/-- BRINGUP_TIMEOUT. BRINGUP_MS has passed; a unit is a tile port, or 24 + t for twin link t (R234, R262). -/
def execBringupTimeout (unit : Fin 26) (s : State) : Host.Outcome State Fault Refusal :=
  s.done (xBringupTimeout unit.val s)

/-- RECEIVER_LOCK. What the receivers of a unit's lanes 0 and 1 take in training, from which they declare lock; a twin link's lane skew (R236, R263). -/
def execReceiverLock (unit : Fin 26) (rx0 : List RxSymbol) (rx1 : List RxSymbol) (skew : Int) (s : State) : Host.Outcome State Fault Refusal :=
  s.done (xReceiverLock unit.val rx0 rx1 skew s)

/-- LOCK_LOST. What the receivers of a unit's lanes 0 and 1 take, and a mask of the lanes whose input falls below the squelch level; from it they lose lock (R236). -/
def execLockLost (unit : Fin 26) (rx0 : List RxSymbol) (rx1 : List RxSymbol) (squelch : Fin 4) (s : State) : Host.Outcome State Fault Refusal :=
  s.done (xLockLost unit.val rx0 rx1 squelch.val s)

/-- ORDERED_SET_RECEIVED. The symbol after a K28.5 outside a packet, on a lane of the unit: an ordered set, fill, or an invalid symbol (R228). -/
def execOrderedSetReceived (unit : Fin 26) (lane : Fin 2) (k : Bool) (octet : Fin 256) (s : State) : Host.Outcome State Fault Refusal :=
  s.done (xOrderedSetReceived unit.val lane.val k octet.val s)

/-- RATE_TRAIN_TIMEOUT. RATE_TRAIN has not completed in 20 µs (R234). -/
def execRateTrainTimeout (unit : Fin 26) (s : State) : Host.Outcome State Fault Refusal :=
  s.done (xRateTrainTimeout unit.val s)

/-- RETRAIN_TIMEOUT. A retrain has not completed in 100 µs (R234). -/
def execRetrainTimeout (unit : Fin 26) (s : State) : Host.Outcome State Fault Refusal :=
  s.done (xRetrainTimeout unit.val s)

/-- LANE_RETRAIN. A write of 1 to RETRAIN (R234). -/
def execLaneRetrain (unit : Fin 26) (s : State) : Host.Outcome State Fault Refusal :=
  s.done (s.barWrite (laneCtrl unit.val) fun s => xLaneRetrain unit.val s)

/-- IDLE_ENTRY. 1 µs with nothing to send (R244). -/
def execIdleEntry (port : Fin 24) (s : State) : Host.Outcome State Fault Refusal :=
  s.done (xIdleEntry port.val s)

/-- EXIT_FAIL. No 8 valid D21.5 within 400 ns of idle exit (R248). -/
def execExitFail (port : Fin 24) (s : State) : Host.Outcome State Fault Refusal :=
  s.done (xExitFail port.val s)

/-- LNREF_LOST. LNREF is lost (R233). -/
def execLnrefLost (s : State) : Host.Outcome State Fault Refusal :=
  s.done (xLnrefLost s)

/-- LNREF_RETURN. LNREF returns (R233). -/
def execLnrefReturn (s : State) : Host.Outcome State Fault Refusal :=
  s.done (xLnrefReturn s)

/-- PRBS_START. A write of START with LOOP 0, or on a twin link (R252). -/
def execPrbsStart (unit : Fin 26) (s : State) : Host.Outcome State Fault Refusal :=
  s.done (s.barWrite (prbsCtrl unit.val) fun s => xPrbsStart unit.val s)

/-- LOOPBACK_START. A write of START with LOOP 1 (R255). -/
def execLoopbackStart (port : Fin 24) (s : State) : Host.Outcome State Fault Refusal :=
  s.done (s.barWrite (0x60020 + 0x800 * port.val) fun s => xLoopbackStart port.val s)

/-- PRBS_END. The duration of a test ends; the bits that its checkers took on lanes 0 and 1 (R253, R254). -/
def execPrbsEnd (unit : Fin 26) (bits0 : List Bool) (bits1 : List Bool) (s : State) : Host.Outcome State Fault Refusal :=
  s.done (xPrbsEnd unit.val bits0 bits1 s)

/-- LEGACY_ENABLE. A write of LEGACY (R257). -/
def execLegacyEnable (port : Fin 24) (on : Bool) (s : State) : Host.Outcome State Fault Refusal :=
  s.done (s.barWrite (0x60000 + 0x800 * port.val) fun s => legacyWrite port.val on s)

/-- LEGACY_ACTIVE. TILE_ALERT_N high for 100 µs in TRAIN (R259). -/
def execLegacyActive (port : Fin 24) (s : State) : Host.Outcome State Fault Refusal :=
  s.done (xLegacyActive port.val s)

/-- LEGACY_ALERT. TILE_ALERT_N low for 10 µs, or high again (R260). -/
def execLegacyAlert (port : Fin 24) (low : Bool) (s : State) : Host.Outcome State Fault Refusal :=
  s.done (xLegacyAlert port.val low s)

/-- LEGACY_ALERT_RETRAIN. TILE_ALERT_N low for 1 ms (R260). -/
def execLegacyAlertRetrain (port : Fin 24) (s : State) : Host.Outcome State Fault Refusal :=
  s.done (xLegacyAlertRetrain port.val s)

/-- TWIN_LANE_ENABLE. A write of 1 to TWIN_LANE_CTRL.EN (R261). -/
def execTwinLaneEnable (link : Fin 2) (s : State) : Host.Outcome State Fault Refusal :=
  s.done (s.barWrite (0x70400 + 0x100 * link.val) fun s => xTwinLaneEnable link.val s)

/-- DESKEW_FAIL. K28.3 missing, or a skew above 32 symbols (R263). -/
def execDeskewFail (link : Fin 2) (skew : Int) (s : State) : Host.Outcome State Fault Refusal :=
  s.done (xDeskewFail link.val skew s)

end Sys2Proof.Machine
end

