-- ==== Sys2Proof/Machine/RowsLife.lean ====
section
/-! DEFINITION. The meanings of the rows of commissioning and the life cycle (chapters 12 and 20), each by the operation that its family's file defines. -/

namespace Sys2Proof.Machine

/-- COMM_OPEN. A write of 1 to SAFE_COMM_CTRL.OPEN (R395). -/
def execCommOpen (s : State) : Host.Outcome State Fault Refusal :=
  s.done (s.barWrite (0x90100) fun s => xCommOpen s)

/-- COMM_CLOSE. A write of 1 to CLOSE (R396). -/
def execCommClose (s : State) : Host.Outcome State Fault Refusal :=
  s.done (s.barWrite (0x90100) fun s => xCommClose s)

/-- COMM_SESSION_TIMEOUT. 600 s without a class C write or an SPB command (R396). -/
def execCommSessionTimeout (s : State) : Host.Outcome State Fault Refusal :=
  s.done (xCommSessionTimeout s)

/-- LC_ADVANCE. A write of 1 to ADVANCE (R590). -/
def execLcAdvance (s : State) : Host.Outcome State Fault Refusal :=
  s.done (s.barWrite (0xE0010) fun s => xLcAdvance s)

/-- LC_TO_FIELD. A write of 1 to TO_FIELD (R590). -/
def execLcToField (s : State) : Host.Outcome State Fault Refusal :=
  s.done (s.barWrite (0xE0010) fun s => xLcToField s)

/-- LC_KEY_BURN. A write of 1 to KEY_BURN (R590). -/
def execLcKeyBurn (s : State) : Host.Outcome State Fault Refusal :=
  s.done (s.barWrite (0xE0010) fun s => xLcKeyBurn s)

/-- CHAL_REQ. A write of 1 to CHAL_REQ (R591). -/
def execChalReq (s : State) : Host.Outcome State Fault Refusal :=
  s.done (s.barWrite (0xE0010) fun s => xChalReq s)

/-- LC_ENTER. A write of 1 to ENTER (R591). -/
def execLcEnter (s : State) : Host.Outcome State Fault Refusal :=
  s.done (s.barWrite (0xE0010) fun s => xLcEnter s)

/-- LC_LEAVE. A write of 1 to LEAVE (R594). -/
def execLcLeave (s : State) : Host.Outcome State Fault Refusal :=
  s.done (s.barWrite (0xE0010) fun s => xLcLeave s)

/-- LC_RETIRE. A write of 1 to RETIRE (R590). -/
def execLcRetire (s : State) : Host.Outcome State Fault Refusal :=
  s.done (s.barWrite (0xE0010) fun s => xLcRetire s)

/-- CHALLENGE_EXPIRY. 60 s after CHAL_REQ (R591). -/
def execChallengeExpiry (s : State) : Host.Outcome State Fault Refusal :=
  s.done (xChallengeExpiry s)

/-- LOCKOUT_EXPIRY. The 600 s lockout has run down (R592). -/
def execLockoutExpiry (s : State) : Host.Outcome State Fault Refusal :=
  s.done (xLockoutExpiry s)

/-- LC_RECORD_TIMER. 10 s of a lockout have passed (R593). -/
def execLcRecordTimer (s : State) : Host.Outcome State Fault Refusal :=
  s.done (xLcRecordTimer s)

/-- DEBUG_ACCESS_OPEN. JTAG processor access is asked for (R595). -/
def execDebugAccessOpen (s : State) : Host.Outcome State Fault Refusal :=
  s.done (xDebugAccessOpen s)

end Sys2Proof.Machine
end

