-- ==== Sys2Proof/Machine/RowsModes.lean ====
section
/-! DEFINITION. The meanings of the rows of modes, blanking and Tarn (chapters 4, 14 and 17), each by the operation that its family's file defines. -/

namespace Sys2Proof.Machine

/-- MODE. The MODE command at the front of a submit ring, of an ACTION of Table 17-2 (R121, R122). -/
def execMode (ring : Fin 4) (s : State) : Host.Outcome State Fault Refusal :=
  s.done (xMode ring.val s)

/-- BLANK. MODE BLANK on SUB_0 (R121, R123). -/
def execBlank (s : State) : Host.Outcome State Fault Refusal :=
  s.done (xBlank s)

/-- UNBLANK. MODE UNBLANK on SUB_0 (R121, R123). -/
def execUnblank (s : State) : Host.Outcome State Fault Refusal :=
  s.done (xUnblank s)

/-- MODE_TRANSITION_COMPLETE. The transition in progress completes; the operands are what the power-on test at a wake found (R531, R548). -/
def execModeTransitionComplete (units : List (Nat × Nat)) (lanes : List Nat) (safeFail : Bool) (otherFail : Bool) (durUs : Nat) (repairs : Nat) (rows : Nat) (cols : Nat) (s : State) : Host.Outcome State Fault Refusal :=
  s.done (xModeTransitionComplete ⟨units, lanes, safeFail, otherFail, durUs, repairs, rows, cols⟩ s)

/-- IDLE_TIMER_EXPIRY. The STANDBY idle timer expires (R514). -/
def execIdleTimerExpiry (s : State) : Host.Outcome State Fault Refusal :=
  s.done (xIdleTimerExpiry s)

/-- LREQ_OFF_EXPIRY. Light has been off for LREQ_OFF_100MS (R513). -/
def execLreqOffExpiry (s : State) : Host.Outcome State Fault Refusal :=
  s.done (xLreqOffExpiry s)

/-- NOSURF_CHECK. The NOSURF time after a wake to RUN has passed (R517). -/
def execNosurfCheck (s : State) : Host.Outcome State Fault Refusal :=
  s.done (xNosurfCheck s)

/-- TARN_SAMPLE. A Tarn sample of its inputs: the digital pins, WAKE_SENSE in mV, TWIN_PEER, both supplies in mV, the AON temperature (R523, Table 17-4). -/
def execTarnSample (pins : Nat) (wakeMv : Nat) (twinPeer : Bool) (vinMain : Nat) (vinBkup : Nat) (temp : Int) (s : State) : Host.Outcome State Fault Refusal :=
  s.done (xTarnSample ⟨pins, wakeMv, twinPeer, vinMain, vinBkup, temp⟩ s)

/-- TARN_TIMER_EXPIRY. The Tarn timer expires (R526). -/
def execTarnTimerExpiry (s : State) : Host.Outcome State Fault Refusal :=
  s.done (xTarnTimerExpiry s)

/-- HOST_WAKE_RELEASE. A write of 1 to PWR_WAKE_CAUSE.HOST_WAKE (R530). -/
def execHostWakeRelease (s : State) : Host.Outcome State Fault Refusal :=
  s.done (s.barWrite (0x20124) fun s => xHostWakeRelease s)

/-- XTAL32_ABSENCE. The 32.768 kHz crystal is found absent (R621). -/
def execXtal32Absence (s : State) : Host.Outcome State Fault Refusal :=
  s.done (xXtal32Absence s)

end Sys2Proof.Machine
end

