-- ==== Sys2Proof/Machine/RowsProto.lean ====
section
/-! DEFINITION. The meanings of the rows of the tile protocol and pixel health (chapters 9 and 10), each by the operation that its family's file defines. -/

namespace Sys2Proof.Machine

/-- ACK_NAK_RECEIVED. An ACK/NAK packet (R274). -/
def execAckNakReceived (port : Fin 24) (seq : Nat) (body : List Byte) (s : State) : Host.Outcome State Fault Refusal :=
  s.done (xAckNakReceived port.val seq body s)

/-- ACK_TIMEOUT. A packet unresolved 6 µs after its EOP (R274). -/
def execAckTimeout (port : Fin 24) (seq : Nat) (s : State) : Host.Outcome State Fault Refusal :=
  s.done (xAckTimeout port.val seq s)

/-- LINE_PACKET_DEADLINE. A line packet's deadline passes (R277). -/
def execLinePacketDeadline (port : Fin 24) (seq : Nat) (s : State) : Host.Outcome State Fault Refusal :=
  s.done (xLinePacketDeadline port.val seq s)

/-- SWAP_DEADLINE. A SWAP's deadline passes (R294). -/
def execSwapDeadline (port : Fin 24) (s : State) : Host.Outcome State Fault Refusal :=
  s.done (xSwapDeadline port.val s)

/-- UPSTREAM_PACKET_DISCARD. An upstream packet fails its check: its bytes, and whether its symbols were valid (R278). -/
def execUpstreamPacketDiscard (port : Fin 24) (bytes : List Byte) (clean : Bool) (s : State) : Host.Outcome State Fault Refusal :=
  s.done (xUpstreamPacketDiscard port.val bytes clean s)

/-- STATUS_RECEIVED. A STATUS packet, with the round trip of the ECHO it answers (R299, R445). -/
def execStatusReceived (port : Fin 24) (seq : Nat) (body : List Byte) (rt : Nat) (s : State) : Host.Outcome State Fault Refusal :=
  s.done (roleSettled (xStatusReceived port.val seq body rt s))

/-- CAP_RECEIVED. A CAP record (R283). -/
def execCapReceived (port : Fin 24) (seq : Nat) (body : List Byte) (s : State) : Host.Outcome State Fault Refusal :=
  s.done (xCapReceived port.val seq body s)

/-- CAP_REQUEST_TIMER. 100 µs without a valid CAP (R284). -/
def execCapRequestTimer (port : Fin 24) (s : State) : Host.Outcome State Fault Refusal :=
  s.done (xCapRequestTimer port.val s)

/-- ECHO_TIMER. ECHO_MS has passed (R445). -/
def execEchoTimer (port : Fin 24) (s : State) : Host.Outcome State Fault Refusal :=
  s.done (xEchoTimer port.val s)

/-- ECHO_TIMEOUT. An ECHO has had no answer in 10 µs (R445). -/
def execEchoTimeout (port : Fin 24) (id : Nat) (s : State) : Host.Outcome State Fault Refusal :=
  s.done (xEchoTimeout port.val id s)

/-- HEALTH_RECEIVED. A HEALTH packet (R328). -/
def execHealthReceived (port : Fin 24) (seq : Nat) (body : List Byte) (s : State) : Host.Outcome State Fault Refusal :=
  s.done (xHealthReceived port.val seq body s)

/-- MASS_FAULT. Faults and suspects of a tile in 64 scan cycles reach MASS_N (R337). -/
def execMassFault (port : Fin 24) (s : State) : Host.Outcome State Fault Refusal :=
  s.done (xMassFault port.val s)

/-- ISOLATION_TIMEOUT. An isolation is not confirmed in 5 ms (R335). -/
def execIsolationTimeout (port : Fin 24) (s : State) : Host.Outcome State Fault Refusal :=
  s.done (xIsolationTimeout port.val s)

/-- HEALTH_STALL. STALL_SC scan cycles without HEALTH (R339). -/
def execHealthStall (port : Fin 24) (s : State) : Host.Outcome State Fault Refusal :=
  s.done (xHealthStall port.val s)

/-- SAMPLE_DEADLINE. The deadline of a scan cycle's samples (R322). -/
def execSampleDeadline (port : Fin 24) (scan : Nat) (s : State) : Host.Outcome State Fault Refusal :=
  s.done (xSampleDeadline port.val scan s)

/-- BASELINE_CAPTURE. A write of 1 to CAPTURE, MON_EN as it stands (R326, R337). -/
def execBaselineCapture (port : Fin 24) (s : State) : Host.Outcome State Fault Refusal :=
  s.done (s.barWrite (0x50700 + 0x10 * port.val) fun s => xBaselineCapture port.val (s.clearMass port.val))

/-- BASELINE_CAPTURE_DONE. A capture ends (R326). -/
def execBaselineCaptureDone (port : Fin 24) (s : State) : Host.Outcome State Fault Refusal :=
  s.done (xBaselineCaptureDone port.val s)

end Sys2Proof.Machine
end

