-- ==== Sys2Proof/Machine/RowsSafety.lean ====
section
/-! DEFINITION. The meanings of the rows of the safety inputs, lockstep, LIMP and the safety pair (chapters 1 and 11), each by the operation that its family's file defines. -/

namespace Sys2Proof.Machine

/-- SAFE_SAMPLE. A SAFE sample of LIGHT_REQ_A, LIGHT_REQ_B, BLANK_A and BLANK_B (R374). -/
def execSafeSample (pins : Fin 16) (s : State) : Host.Outcome State Fault Refusal :=
  s.done (xSafeSample pins.val s)

/-- DISCREPANCY_FAULT. The disagreeing samples of LIGHT_REQ or BLANK reach N (R376). -/
def execDiscrepancyFault (blank : Bool) (s : State) : Host.Outcome State Fault Refusal :=
  s.done (xDiscrepancyFault blank s)

/-- BLANK_ASSERT. BLANK_A or BLANK_B crosses its threshold (R369). -/
def execBlankAssert (b : Bool) (s : State) : Host.Outcome State Fault Refusal :=
  s.done (xBlankAssert b s)

/-- BLANK_RELEASE. Both BLANK pins deasserted on 100 consecutive samples (R368). -/
def execBlankRelease (s : State) : Host.Outcome State Fault Refusal :=
  s.done (xBlankRelease s)

/-- K28_0_REPEAT. The 1 µs repeat of K28.0 on a port (R281). -/
def execK280Repeat (port : Fin 24) (s : State) : Host.Outcome State Fault Refusal :=
  s.done (xK28Repeat port.val s)

/-- LOCKSTEP_MISMATCH_CONTROL. The control pair's comparator fires (R27). -/
def execLockstepMismatchControl (s : State) : Host.Outcome State Fault Refusal :=
  s.done (xLockstepControl s)

/-- LOCKSTEP_MISMATCH_SAFETY. The safety pair's comparator fires (R27). -/
def execLockstepMismatchSafety (s : State) : Host.Outcome State Fault Refusal :=
  s.done (xLockstepSafety s)

/-- LIMP_SWAP_EDGE. The safety pair's TILE_SYNC edge (R378). -/
def execLimpSwapEdge (s : State) : Host.Outcome State Fault Refusal :=
  s.done (xLimpSwapEdge s)

/-- LIMP_PATTERN_RESEND. The 1,000 ms resend (R378). -/
def execLimpPatternResend (s : State) : Host.Outcome State Fault Refusal :=
  s.done (xLimpPatternResend s)

/-- KEEPALIVE_TIMER. WDT_MS / 4 with nothing sent to a port (R520). -/
def execKeepaliveTimer (port : Fin 24) (s : State) : Host.Outcome State Fault Refusal :=
  s.done (xKeepaliveTimer port.val s)

/-- SAFETY_PAIR_CHECK_DONE. The safety pair's checks of a scan cycle; the operands are the zone sums, captured codes and offsets that a disturbed unit hands to it in place of its own (R362 to R365). -/
def execSafetyPairCheckDone (surf : Fin 4) (sums : List (Nat × Nat)) (codes : List (Nat × Nat)) (off : Option (Int × Int)) (s : State) : Host.Outcome State Fault Refusal :=
  s.done (xSafetyPairCheckDone surf.val sums codes off s)

/-- EXCESS_RUN_LIMIT. A run of excess scan cycles reaches EXCESS_N (R357). -/
def execExcessRunLimit (surf : Fin 4) (s : State) : Host.Outcome State Fault Refusal :=
  s.done (xExcessRunLimit surf.val s)

/-- TILE_RELEASE. A write to SAFE_TILE_RELEASE (R383). -/
def execTileRelease (ports : Nat) (s : State) : Host.Outcome State Fault Refusal :=
  s.done (s.writeWord 0x90028 (ports % 2 ^ 24))

end Sys2Proof.Machine
end

