-- ==== Sys2Proof/Machine/RowsSegments.lean ====
section
/-! DEFINITION. The meanings of the rows of segments (chapter 15), each by the operation that its family's file defines. -/

namespace Sys2Proof.Machine

/-- PWM_PERIOD_BOUNDARY. A PWM period boundary (R467). -/
def execPwmPeriodBoundary (s : State) : Host.Outcome State Fault Refusal :=
  s.done (xPwmPeriodBoundary s)

/-- SEG_PULSE_START. The counter reaches a channel's phase (R462). -/
def execSegPulseStart (ch : Fin 192) (s : State) : Host.Outcome State Fault Refusal :=
  s.done (xSegPulseStart ch.val s)

/-- SEG_PULSE_END. A pulse ends: the channel's pin voltage, loss of regulation, and its neighbours' voltages (R478). -/
def execSegPulseEnd (ch : Fin 192) (mv : Nat) (lost : Bool) (nbs : List (Nat × Nat × Nat)) (s : State) : Host.Outcome State Fault Refusal :=
  s.done (xSegPulseEnd ch.val mv lost nbs s)

/-- SEG_OVERCURRENT. Sink current above 60 mA (R478). -/
def execSegOvercurrent (ch : Fin 192) (s : State) : Host.Outcome State Fault Refusal :=
  s.done (xSegOvercurrent ch.val s)

/-- SEG_SYNC_EDGE. SEG_SYNC rises and stays high for so many ns; whether the edge falls on a boundary (R464). -/
def execSegSyncEdge (onBoundary : Bool) (highNs : Nat) (s : State) : Host.Outcome State Fault Refusal :=
  s.done (xSegSyncEdge onBoundary highNs s)

/-- SEG_INTERNAL_TICK. An internal segment tick (R465). -/
def execSegInternalTick (onBoundary : Bool) (s : State) : Host.Outcome State Fault Refusal :=
  s.done (xSegInternalTick onBoundary s.toSegTick)

/-- SEG_CHANNEL_CLEAR. A write to SEG_CH_CLEAR_w (R481). -/
def execSegChannelClear (word : Fin 6) (mask : Nat) (s : State) : Host.Outcome State Fault Refusal :=
  s.done (s.barWrite (0x80050 + 4 * word.val) fun s => xSegChannelClear word.val (mask % 2 ^ 32) s)

/-- SEG_BANK_RUN. A write of SEG_BANK_CTRL.RUN (R467). -/
def execSegBankRun (bank : Fin 12) (on : Bool) (s : State) : Host.Outcome State Fault Refusal :=
  s.done (s.barWrite (0x80100 + 0x10 * bank.val) fun s => xSegBankRun bank.val on s)

/-- SEG_RAIL_ENABLE. A write of a segment rail's EN (R475). -/
def execSegRailEnable (rail : Fin 4) (on : Bool) (s : State) : Host.Outcome State Fault Refusal :=
  s.done (s.barWrite (0x80080 + 0x10 * rail.val) fun s => xSegRailEnable rail.val on s)

/-- HEADROOM_UPDATE. The 10 ms headroom update (R475). -/
def execHeadroomUpdate (s : State) : Host.Outcome State Fault Refusal :=
  s.done (xHeadroomUpdate s)

/-- LOSS_ESTIMATE. The 10 ms loss estimate (R477). -/
def execLossEstimate (s : State) : Host.Outcome State Fault Refusal :=
  s.done (xLossEstimate s)

/-- SEG_CURRENT_CHECK. The current of the channel in turn, measured (R560). -/
def execSegCurrentCheck (ua : Nat) (s : State) : Host.Outcome State Fault Refusal :=
  s.done (xSegCurrentCheck ua s)

/-- SEG_BLANK_RELEASE. 1 ms after both BLANK pins deassert during reset (R484). -/
def execSegBlankRelease (s : State) : Host.Outcome State Fault Refusal :=
  s.done (xSegBlankRelease s)

end Sys2Proof.Machine
end

