-- ==== Sys2Proof/Machine/RowsSounding.lean ====
section
/-! DEFINITION. The meanings of the rows of Sounding and memory protection (chapter 19), each by the operation that its family's file defines. -/

namespace Sys2Proof.Machine

/-- LOOPBACK_CHECK. The 10 s loop-back check (R559). -/
def execLoopbackCheck (s : State) : Host.Outcome State Fault Refusal :=
  s.done (xLoopbackCheck s)

/-- LOOPBACK_CHECK_END. A Sounding loop-back ends; the bits that its checker took (R559). -/
def execLoopbackCheckEnd (port : Fin 24) (bits : List Bool) (s : State) : Host.Outcome State Fault Refusal :=
  s.done (xLoopbackCheckEnd port.val bits s)

/-- TEST_ENGINE_START. A write of 1 to TEST_ENG_CTRL.START (R563). -/
def execTestEngineStart (unit : Fin 256) (kind : Fin 4) (s : State) : Host.Outcome State Fault Refusal :=
  s.done (s.barWrite (0xB0040) fun s => xTestEngineStart unit.val kind.val s)

/-- TEST_ENGINE_DONE. An engine run completes; by what its response differs from the good one (R561, R563). -/
def execTestEngineDone (errs : List Word) (s : State) : Host.Outcome State Fault Refusal :=
  s.done (xTestEngineDone errs s)

/-- PIXEL_STORE_READ. A read of a line of the pixel store: its data address, the 72 bytes stored (64 data, 8 check), and what the line holds (R565, R566, R568). -/
def execPixelStoreRead (addr : Nat) (stored : List Byte) (region : Nat) (target : Nat) (index : Nat) (line : Nat) (s : State) : Host.Outcome State Fault Refusal :=
  s.done (xPixelStoreRead addr stored region target index line s)

/-- SCRUB_READ. The scrubber's next line: the 72 bytes stored, and what it holds (R565, R567). -/
def execScrubRead (stored : List Byte) (region : Nat) (target : Nat) (index : Nat) (line : Nat) (s : State) : Host.Outcome State Fault Refusal :=
  s.done (xScrubRead stored region target index line s)

/-- SRAM_ECC_ERROR. An SRAM read finds an error (R570). -/
def execSramEccError (safe : Bool) (double : Bool) (word : Nat) (array : Nat) (user : Nat) (target : Nat) (index : Nat) (s : State) : Host.Outcome State Fault Refusal :=
  s.done (xSramEccError safe double word array user target index s)

end Sys2Proof.Machine
end

