-- ==== Sys2Proof/Machine/RowsSupply.lean ====
section
/-! DEFINITION. The meanings of the rows of supplies, resets and boot (chapters 16 and 20), each by the operation that its family's file defines. -/

namespace Sys2Proof.Machine

/-- POWER_ON_RESET. A power-on reset; the straps LAMP_SIDE and XSPI_SAFE as sampled (R573, R578). -/
def execPowerOnReset (left : Bool) (xspiSafe : Bool) (s : State) : Host.Outcome State Fault Refusal :=
  s.done (xPowerOnReset left xspiSafe s)

/-- RESET_N_ASSERT. RESET_N passes its filter low (R18, R574). -/
def execResetNAssert (s : State) : Host.Outcome State Fault Refusal :=
  s.done (xResetNAssert s)

/-- RESET_N_RELEASE. RESET_N is accepted high, the straps as sampled (R578, R581). -/
def execResetNRelease (left : Bool) (xspiSafe : Bool) (s : State) : Host.Outcome State Fault Refusal :=
  s.done (xResetNRelease left xspiSafe s)

/-- FLASH_READ_COMPLETE. The xSPI read in hand finishes, well or not (R580). -/
def execFlashReadComplete (ok : Bool) (s : State) : Host.Outcome State Fault Refusal :=
  s.done (xFlashReadComplete ok s)

/-- BOOT_COMPLETE. The boot reaches STANDBY or LIMP; the operands are what the power-on test found (R548 to R551, R581). -/
def execBootComplete (units : List (Nat × Nat)) (lanes : List Nat) (safeFail : Bool) (otherFail : Bool) (durUs : Nat) (repairs : Nat) (rows : Nat) (cols : Nat) (s : State) : Host.Outcome State Fault Refusal :=
  s.done (xBootComplete ⟨units, lanes, safeFail, otherFail, durUs, repairs, rows, cols⟩ s)

/-- STUCK_RESET_TIMEOUT. RESET_HELD has stayed high for the stuck-reset time (R576). -/
def execStuckResetTimeout (s : State) : Host.Outcome State Fault Refusal :=
  s.done (xStuckResetTimeout s)

/-- MAIN_OK_FALL. VIN_MAIN falls below V_TH: the levels of the two inputs in mV (R488). -/
def execMainOkFall (mainMv : Nat) (bkupMv : Nat) (s : State) : Host.Outcome State Fault Refusal :=
  s.done (xMainOkFall mainMv bkupMv s)

/-- MAIN_OK_RISE. VIN_MAIN rises above V_TH plus HYST: its level in mV (R488). -/
def execMainOkRise (mainMv : Nat) (s : State) : Host.Outcome State Fault Refusal :=
  s.done (xMainOkRise mainMv s)

/-- BKUP_HIGH_ENOUGH. VIN_BKUP comes to exceed VIN_MAIN by 100 mV: the levels of the two in mV (R488). -/
def execBkupHighEnough (mainMv : Nat) (bkupMv : Nat) (s : State) : Host.Outcome State Fault Refusal :=
  s.done (xBkupHighEnough mainMv bkupMv s)

/-- RIDE_THROUGH_EXPIRY. The ride-through timer expires (R489). -/
def execRideThroughExpiry (s : State) : Host.Outcome State Fault Refusal :=
  s.done (xRideThroughExpiry s)

/-- SHEDDING_START. The instant of shedding (R491). -/
def execSheddingStart (s : State) : Host.Outcome State Fault Refusal :=
  s.done (xSheddingStart s)

/-- RETURN_TIMER_EXPIRY. MAIN_OK has been high for RETURN_MS (R492). -/
def execReturnTimerExpiry (s : State) : Host.Outcome State Fault Refusal :=
  s.done (xReturnTimerExpiry s)

/-- RESTORATION_COMPLETE. Restoration ends; the operands are what the power-on test of the domains found (R492, R548). -/
def execRestorationComplete (units : List (Nat × Nat)) (lanes : List Nat) (safeFail : Bool) (otherFail : Bool) (durUs : Nat) (repairs : Nat) (rows : Nat) (cols : Nat) (s : State) : Host.Outcome State Fault Refusal :=
  s.done (xRestorationComplete ⟨units, lanes, safeFail, otherFail, durUs, repairs, rows, cols⟩ s)

/-- SUPPLY_COLLAPSE. VPATH below 2.70 V for longer than 200 ns (R493). -/
def execSupplyCollapse (s : State) : Host.Outcome State Fault Refusal :=
  s.done (xSupplyCollapse s)

/-- COLLAPSE_RESET_TIMEOUT. 20 µs after the collapse, or VPATH below 2.50 V (R493). -/
def execCollapseResetTimeout (below25 : Bool) (s : State) : Host.Outcome State Fault Refusal :=
  s.done (xCollapseResetTimeout below25 s)

/-- RAIL_POWER_GOOD_CHANGE. A RAIL_PG input changes (R495). -/
def execRailPowerGoodChange (rail : Fin 5) (high : Bool) (s : State) : Host.Outcome State Fault Refusal :=
  s.done ((xRailPowerGoodChange rail.val high s).unpark)

/-- RAIL_PG_TIMEOUT. A power good has not come within PG_MS (R496). -/
def execRailPgTimeout (rail : Fin 5) (s : State) : Host.Outcome State Fault Refusal :=
  s.done ((xRailPgTimeout rail.val s).unpark)

/-- RAIL_RETRY_TIMEOUT. 10 ms after a first rail failure (R496). -/
def execRailRetryTimeout (rail : Fin 5) (s : State) : Host.Outcome State Fault Refusal :=
  s.done (xRailRetryTimeout rail.val s)

/-- RAIL_RECOVERY_RETRY. 1 s after shedding for a rail failure (R496). -/
def execRailRecoveryRetry (s : State) : Host.Outcome State Fault Refusal :=
  s.done (xRailRecoveryRetry s)

/-- PMBUS_TRANSACTION_DONE. The PMBus transaction in hand ends; the word it read, with its PEC (R476, R497). -/
def execPmbusTransactionDone (ok : Bool) (data : Nat) (pec : Fin 256) (s : State) : Host.Outcome State Fault Refusal :=
  s.done (xPmbusTransactionDone ok data pec.val s)

/-- RAIL_STATUS_POLL. The 100 ms poll of the rails (R497). -/
def execRailStatusPoll (s : State) : Host.Outcome State Fault Refusal :=
  s.done (xRailStatusPoll s)

/-- DOMAIN_OFF_REQUEST. A write to PWR_DOM_REQ: TLB_OFF, TWIN_OFF, NET_OFF (R502). -/
def execDomainOffRequest (value : Fin 8) (s : State) : Host.Outcome State Fault Refusal :=
  s.done (s.barWrite (0x20020) fun s => xDomainOffRequest value.val s)

end Sys2Proof.Machine
end

