-- ==== Sys2Proof/Machine/RowsThermal.lean ====
section
/-! DEFINITION. The meanings of the rows of thermal control and calibration (chapters 18 and 19), each by the operation that its family's file defines. -/

namespace Sys2Proof.Machine

/-- THROTTLE_UPDATE. The 1 ms throttle update (R537). -/
def execThrottleUpdate (s : State) : Host.Outcome State Fault Refusal :=
  s.done (xThrottleUpdate s)

/-- THERMAL_SHUTDOWN. A junction comparator above 145 °C for 2 µs (R541). -/
def execThermalShutdown (s : State) : Host.Outcome State Fault Refusal :=
  s.done (xThermalShutdown s)

/-- THERMAL_SHUTDOWN_CLEAR. Both temperatures below 125 °C for 100 ms (R541). -/
def execThermalShutdownClear (s : State) : Host.Outcome State Fault Refusal :=
  s.done (xThermalShutdownClear s)

/-- DIE_TEMP_CONVERSION. The diode converted, in 1/16 °C (R535). -/
def execDieTempConversion (temp : Int) (outside : Bool) (s : State) : Host.Outcome State Fault Refusal :=
  s.done (xDieTempConversion temp outside s)

/-- REMOTE_TEMP_CONVERSION. A remote channel converted: its pin voltage in µV, and the ΔV in nV of a diode (R536). -/
def execRemoteTempConversion (channel : Fin 4) (uv : Nat) (dv : Nat) (s : State) : Host.Outcome State Fault Refusal :=
  s.done (xRemoteTempConversion channel.val uv dv s)

/-- CAL_RUN. A write of 1 to THERM_CTRL.CAL_RUN (R545). -/
def execCalRun (s : State) : Host.Outcome State Fault Refusal :=
  s.done (s.barWrite (0xA0000) fun s => xCalRun s)

/-- CALIBRATION_ITEM_DONE. A calibration item finishes: the results of its two measurements (R542). -/
def execCalibrationItemDone (first : List Int) (second : List Int) (s : State) : Host.Outcome State Fault Refusal :=
  s.done (xCalibrationItemDone first second s)

/-- CALIBRATION_RUN_DONE. A calibration run ends (R542). -/
def execCalibrationRunDone (s : State) : Host.Outcome State Fault Refusal :=
  s.done (xCalibrationRunDone s)

/-- CAL_RETRY_TIMER. 60 s after a failing run (R545). -/
def execCalRetryTimer (s : State) : Host.Outcome State Fault Refusal :=
  s.done (xCalRetryTimer s)

/-- OSC_COMPENSATION. The 1 s oscillator compensation (R544). -/
def execOscCompensation (s : State) : Host.Outcome State Fault Refusal :=
  s.done (xOscCompensation s)

/-- ADC_CHECK. The ADC's reference points: codes measured and predicted (R558). -/
def execAdcCheck (codes : List Nat) (predicted : List Nat) (s : State) : Host.Outcome State Fault Refusal :=
  s.done (xAdcCheck codes predicted s)

end Sys2Proof.Machine
end

