-- ==== Sys2Proof/Machine/RowsTicks.lean ====
section
/-! DEFINITION. The meanings of the rows of the timing generators and what their ticks start (chapters 2, 5, 7 and 19), each by the operation that its family's file defines. -/

namespace Sys2Proof.Machine

/-- F_TICK. An F-tick of a surface (R40). -/
def execFTick (surf : Fin 4) (s : State) : Host.Outcome State Fault Refusal :=
  s.done (xFTick surf.val s.twinSettle)

/-- S_TICK. An S-tick of a surface; by what the offline pixel lane's response differed in its test (R38, R556, R561). -/
def execSTick (surf : Fin 4) (errs : List Word) (s : State) : Host.Outcome State Fault Refusal :=
  s.done (xSTick surf.val errs s.twinSettle)

/-- P_TICK. A P-tick of a surface (R34). -/
def execPTick (surf : Fin 4) (s : State) : Host.Outcome State Fault Refusal :=
  s.done (xPTick surf.val s)

/-- PRODUCTION_WINDOW_OPEN. The production window of a phase opens (R34). -/
def execProductionWindowOpen (surf : Fin 4) (phase : Fin 8) (s : State) : Host.Outcome State Fault Refusal :=
  s.done (xProductionWindowOpen surf.val phase.val s.twinSettle)

/-- LATCH_POINT. L(k) of a surface (R46). -/
def execLatchPoint (surf : Fin 4) (s : State) : Host.Outcome State Fault Refusal :=
  s.done (xLatchPoint surf.val s.twinSettle)

/-- G_INTERVAL_START. A G-interval begins: the Spillway test, with the results that a fault turns, the SRAM slice and the lane slice with what they find (R37, R366, R552 to R557). -/
def execGIntervalStart (surf : Fin 4) (upset : List Nat) (skip : Nat) (pass : Bool) (spare : Nat) (array : Nat) (safeStore : Bool) (errs : List Word) (s : State) : Host.Outcome State Fault Refusal :=
  s.done (xGIntervalStart surf.val upset ⟨skip, pass, spare, array, safeStore⟩ errs s)

/-- TILE_SYNC_RISE. TILE_SYNC rises at S′ − 4 µs (R37). -/
def execTileSyncRise (surf : Fin 4) (s : State) : Host.Outcome State Fault Refusal :=
  s.done (xTileSyncRise surf.val s)

/-- TILE_SYNC_FALL. TILE_SYNC falls at S′ − 3 µs (R37). -/
def execTileSyncFall (surf : Fin 4) (s : State) : Host.Outcome State Fault Refusal :=
  s.done (xTileSyncFall surf.val s)

/-- LANE_TICK. A lane tick (R240). -/
def execLaneTick (s : State) : Host.Outcome State Fault Refusal :=
  s.done (xLaneTick s)

/-- NO_SURFACE_TICK. 500 µs with no surface enabled; what the slice and the lane test find (R552). -/
def execNoSurfaceTick (skip : Nat) (pass : Bool) (spare : Nat) (array : Nat) (safeStore : Bool) (errs : List Word) (s : State) : Host.Outcome State Fault Refusal :=
  s.done (xNoSurfaceTick ⟨skip, pass, spare, array, safeStore⟩ errs s)

/-- TICK_OUT_PULSE_END. The TICK_OUT pulse width has passed (R62). -/
def execTickOutPulseEnd (s : State) : Host.Outcome State Fault Refusal :=
  s.done (xTickOutPulseEnd s)

/-- TG_ENABLE. A write of 1 to TG_CTRL.ENABLE (R44). -/
def execTgEnable (surf : Fin 4) (s : State) : Host.Outcome State Fault Refusal :=
  s.done (s.barWrite (0x40000 + 0x100 * surf.val) fun s => xTgEnable surf.val s)

/-- TG_DISABLE. A write of 0 to TG_CTRL.ENABLE (R44). -/
def execTgDisable (surf : Fin 4) (s : State) : Host.Outcome State Fault Refusal :=
  s.done (s.barWrite (0x40000 + 0x100 * surf.val) fun s => xTgDisable surf.val s)

/-- HOST_SILENCE_LIMP. The silence count is at FRAMES while light is requested (R95). -/
def execHostSilenceLimp (s : State) : Host.Outcome State Fault Refusal :=
  s.done (xHostSilenceLimp s)

/-- COMPOSITION_COMPLETE. The last pixel of an output frame is written; how long its composition took (R50). -/
def execCompositionComplete (durationUs : Nat) (s : State) : Host.Outcome State Fault Refusal :=
  s.done (xCompositionComplete durationUs s)

/-- LAYER_SAFE_LIMIT. A SAFE layer's not-ready count exceeds SAFE_N (R171). -/
def execLayerSafeLimit (surf : Fin 4) (layer : Nat) (s : State) : Host.Outcome State Fault Refusal :=
  s.done (xLayerSafeLimit surf.val layer s)

end Sys2Proof.Machine
end

