-- ==== Sys2Proof/Machine/RowsTime.lean ====
section
/-! DEFINITION. The meanings of the rows of network time (chapter 14), each by the operation that its family's file defines. -/

namespace Sys2Proof.Machine

/-- SYNC_RECEIVED. A Sync, with its Follow_Up where it is two-step: its domain, the grandmaster time it carries in 2^-16 ns, how long ago it came in units of 0.8 ns, and the rate ratio less 1 in 2^-34 (R434, R443). -/
def execSyncReceived (port : Fin 2) (domain : Nat) (origin : Int) (since : Nat) (rho : Int) (s : State) : Host.Outcome State Fault Refusal :=
  s.done (xSyncReceived port.val domain origin since rho s)

/-- ANNOUNCE_RECEIVED. A frame that is no event message: 0 an Announce with its domain, priority vector and grandmaster identity, 1 Signaling, 2 any other (R440, Table 14-2). -/
def execAnnounceReceived (port : Fin 2) (kind : Fin 3) (domain : Nat) (vector : List Nat) (gm : Nat) (s : State) : Host.Outcome State Fault Refusal :=
  s.done (xAnnounceReceived port.val kind.val domain vector gm s)

/-- PDELAY_REQ_TIMER. The LOG_PDELAY interval has passed (R440). -/
def execPdelayReqTimer (port : Fin 2) (s : State) : Host.Outcome State Fault Refusal :=
  s.done (xPdelayReqTimer port.val s)

/-- PDELAY_REQ_RECEIVED. A Pdelay_Req: how long ago it came and how long after that it is answered, in units of 0.8 ns (R440, R443). -/
def execPdelayReqReceived (port : Fin 2) (seq : Nat) (domain : Nat) (since : Nat) (wait : Nat) (s : State) : Host.Outcome State Fault Refusal :=
  s.done (xPdelayReqReceived port.val seq domain since wait s)

/-- PDELAY_RESP_RECEIVED. A Pdelay_Resp and its follow-up: how long ago it came in units of 0.8 ns, the turnaround at the peer in 2^-16 ns, and asCapable (R440, R443). -/
def execPdelayRespReceived (port : Fin 2) (seq : Nat) (domain : Nat) (since : Nat) (peer : Int) (capable : Bool) (s : State) : Host.Outcome State Fault Refusal :=
  s.done (xPdelayRespReceived port.val seq domain since peer capable s)

/-- SYNC_RECEIPT_TIMEOUT. No Sync within the receipt timeout (R436). -/
def execSyncReceiptTimeout (s : State) : Host.Outcome State Fault Refusal :=
  s.done (xSyncReceiptTimeout s)

/-- ANNOUNCE_RECEIPT_TIMEOUT. No Announce within its receipt timeout (R440). -/
def execAnnounceReceiptTimeout (port : Fin 2) (s : State) : Host.Outcome State Fault Refusal :=
  s.done (xAnnounceReceiptTimeout port.val s)

/-- SLAVE_PORT_SWITCH. The slave port has had no Sync for an interval (R442). -/
def execSlavePortSwitch (s : State) : Host.Outcome State Fault Refusal :=
  s.done (xSlavePortSwitch s)

/-- SGMII_LINK_CHANGE. An SGMII link changes (R440). -/
def execSgmiiLinkChange (port : Fin 2) (up : Bool) (speed : Fin 4) (s : State) : Host.Outcome State Fault Refusal :=
  s.done (xSgmiiLinkChange port.val up speed.val s)

/-- CLOCK_STEP. The end of the G-interval at which the clock is stepped (R439). -/
def execClockStep (s : State) : Host.Outcome State Fault Refusal :=
  s.done (xClockStep s)

end Sys2Proof.Machine
end

