-- ==== Sys2Proof/Machine/RowsTwin.lean ====
section
/-! DEFINITION. The meanings of the rows of the twin (chapter 13), each by the operation that its family's file defines. -/

namespace Sys2Proof.Machine

/-- TWIN_ENABLE. A write of 1 to TWIN_CTRL.EN (R411). -/
def execTwinEnable (s : State) : Host.Outcome State Fault Refusal :=
  s.done (s.barWrite (0x70000) fun s => xTwinEnable s)

/-- TWIN_DISABLE. A write of 0 to EN (R411). -/
def execTwinDisable (s : State) : Host.Outcome State Fault Refusal :=
  s.done (s.barWrite (0x70000) fun s => xTwinDisable s)

/-- TWIN_HANDOVER. A write of 1 to HANDOVER (R426). -/
def execTwinHandover (s : State) : Host.Outcome State Fault Refusal :=
  s.done (s.barWrite (0x70000) fun s => xTwinHandover s)

/-- TWIN_REJOIN. A write of 1 to REJOIN (R425). -/
def execTwinRejoin (s : State) : Host.Outcome State Fault Refusal :=
  s.done (s.barWrite (0x70000) fun s => xTwinRejoin s)

/-- PAIR_TIMEOUT. PAIR_MS in PAIRING, or TWIN_PEER low for PAIR_MS (R411). -/
def execPairTimeout (peerLow : Bool) (s : State) : Host.Outcome State Fault Refusal :=
  s.done (xPairTimeout peerLow s)

/-- HEARTBEAT_TICK. A heartbeat tick (R414). -/
def execHeartbeatTick (phase : Fin 8) (s : State) : Host.Outcome State Fault Refusal :=
  s.done (xHeartbeatTick phase.val s)

/-- HEARTBEAT_RECEIVED. A HEARTBEAT packet, with its time of arrival (R414). -/
def execHeartbeatReceived (link : Fin 2) (seq : Nat) (body : List Byte) (stamp : Nat) (s : State) : Host.Outcome State Fault Refusal :=
  s.done (xHeartbeatReceived link.val seq body stamp s)

/-- ALIGN_RECEIVED. An ALIGN packet (R417). -/
def execAlignReceived (link : Fin 2) (seq : Nat) (body : List Byte) (s : State) : Host.Outcome State Fault Refusal :=
  s.done (xAlignReceived link.val seq body s)

/-- LATCH_RECEIVED. A LATCH packet (R419). -/
def execLatchReceived (link : Fin 2) (seq : Nat) (body : List Byte) (s : State) : Host.Outcome State Fault Refusal :=
  s.done (xLatchReceived link.val seq body s)

/-- DIGEST_SEND. P(k, 0, 7) + 2 µs of a surface (R422). -/
def execDigestSend (surf : Fin 4) (s : State) : Host.Outcome State Fault Refusal :=
  s.done (xDigestSend surf.val s)

/-- DIGEST_RECEIVED. A DIGEST packet (R423). -/
def execDigestReceived (link : Fin 2) (seq : Nat) (body : List Byte) (s : State) : Host.Outcome State Fault Refusal :=
  s.done (xDigestReceived link.val seq body s)

/-- DEFECT_RECEIVED. A DEFECT packet (R420). -/
def execDefectReceived (link : Fin 2) (seq : Nat) (body : List Byte) (s : State) : Host.Outcome State Fault Refusal :=
  s.done (xDefectReceived link.val seq body s)

/-- PROBE_COPY_RECEIVED. A PROBE_COPY packet (R420). -/
def execProbeCopyReceived (link : Fin 2) (seq : Nat) (body : List Byte) (s : State) : Host.Outcome State Fault Refusal :=
  s.done (xProbeCopyReceived link.val seq body s)

/-- ARBITRATE_RECEIVED. An ARBITRATE packet (R425). -/
def execArbitrateReceived (link : Fin 2) (seq : Nat) (body : List Byte) (s : State) : Host.Outcome State Fault Refusal :=
  s.done (xArbitrateReceived link.val seq body s)

/-- TWIN_K28_0_RECEIVED. K28.0 on a twin link (R368). -/
def execTwinK280Received (link : Fin 2) (s : State) : Host.Outcome State Fault Refusal :=
  s.done (xTwinK280Received link.val s)

/-- LEAD_SILENT. Three heartbeat ticks without a LEAD heartbeat (R415). -/
def execLeadSilent (s : State) : Host.Outcome State Fault Refusal :=
  s.done (xLeadSilent s)

/-- ALIGN_TIMEOUT. ALIGN_MS has passed for a command or an ALIGN of a key (R418). -/
def execAlignTimeout (command : Bool) (key : Nat) (s : State) : Host.Outcome State Fault Refusal :=
  s.done (xAlignTimeout command key s)

/-- TWIN_COMPARE. The COMPANION's comparison at F(k + 1) (R423). -/
def execTwinCompare (surf : Fin 4) (s : State) : Host.Outcome State Fault Refusal :=
  s.done (xTwinCompare surf.val s)

/-- ARBITRATE_REPLY_TIMEOUT. Three heartbeat ticks without the LEAD's reply (R425). -/
def execArbitrateReplyTimeout (s : State) : Host.Outcome State Fault Refusal :=
  s.done (xArbitrateReplyTimeout s)

/-- TWIN_PEER_SAMPLE. A SAFE sample of TWIN_PEER (R409). -/
def execTwinPeerSample (level : Bool) (s : State) : Host.Outcome State Fault Refusal :=
  s.done (xTwinPeerSample level s)

/-- SAFETY_CONFIRM. The safety pair confirms itself to Tarn (R409). -/
def execSafetyConfirm (s : State) : Host.Outcome State Fault Refusal :=
  s.done (xSafetyConfirm s)

/-- TWIN_ALIVE_DROP. A confirmation has been missed (R409). -/
def execTwinAliveDrop (s : State) : Host.Outcome State Fault Refusal :=
  s.done (xTwinAliveDrop s)

end Sys2Proof.Machine
end

