-- ==== Sys2Proof/Machine/Dispatch.lean ====
section
/-! DEFINITION. One arm for every command: a direct call of its meaning. -/

namespace Sys2Proof.Machine

def exec (i : Instr) (s : State) : Host.Outcome State Fault Refusal :=
  match i with
  | .powerOnReset left xspiSafe => Sys2Proof.Machine.execPowerOnReset left xspiSafe s
  | .resetNAssert => Sys2Proof.Machine.execResetNAssert s
  | .resetNRelease left xspiSafe => Sys2Proof.Machine.execResetNRelease left xspiSafe s
  | .flashReadComplete ok => Sys2Proof.Machine.execFlashReadComplete ok s
  | .bootComplete units lanes safeFail otherFail durUs repairs rows cols => Sys2Proof.Machine.execBootComplete units lanes safeFail otherFail durUs repairs rows cols s
  | .stuckResetTimeout => Sys2Proof.Machine.execStuckResetTimeout s
  | .mainOkFall mainMv bkupMv => Sys2Proof.Machine.execMainOkFall mainMv bkupMv s
  | .mainOkRise mainMv => Sys2Proof.Machine.execMainOkRise mainMv s
  | .bkupHighEnough mainMv bkupMv => Sys2Proof.Machine.execBkupHighEnough mainMv bkupMv s
  | .rideThroughExpiry => Sys2Proof.Machine.execRideThroughExpiry s
  | .sheddingStart => Sys2Proof.Machine.execSheddingStart s
  | .returnTimerExpiry => Sys2Proof.Machine.execReturnTimerExpiry s
  | .restorationComplete units lanes safeFail otherFail durUs repairs rows cols => Sys2Proof.Machine.execRestorationComplete units lanes safeFail otherFail durUs repairs rows cols s
  | .supplyCollapse => Sys2Proof.Machine.execSupplyCollapse s
  | .collapseResetTimeout below25 => Sys2Proof.Machine.execCollapseResetTimeout below25 s
  | .railPowerGoodChange rail high => Sys2Proof.Machine.execRailPowerGoodChange rail high s
  | .railPgTimeout rail => Sys2Proof.Machine.execRailPgTimeout rail s
  | .railRetryTimeout rail => Sys2Proof.Machine.execRailRetryTimeout rail s
  | .railRecoveryRetry => Sys2Proof.Machine.execRailRecoveryRetry s
  | .pmbusTransactionDone ok data pec => Sys2Proof.Machine.execPmbusTransactionDone ok data pec s
  | .railStatusPoll => Sys2Proof.Machine.execRailStatusPoll s
  | .domainOffRequest value => Sys2Proof.Machine.execDomainOffRequest value s
  | .mode ring => Sys2Proof.Machine.execMode ring s
  | .blank => Sys2Proof.Machine.execBlank s
  | .unblank => Sys2Proof.Machine.execUnblank s
  | .modeTransitionComplete units lanes safeFail otherFail durUs repairs rows cols => Sys2Proof.Machine.execModeTransitionComplete units lanes safeFail otherFail durUs repairs rows cols s
  | .idleTimerExpiry => Sys2Proof.Machine.execIdleTimerExpiry s
  | .lreqOffExpiry => Sys2Proof.Machine.execLreqOffExpiry s
  | .nosurfCheck => Sys2Proof.Machine.execNosurfCheck s
  | .tarnSample pins wakeMv twinPeer vinMain vinBkup temp => Sys2Proof.Machine.execTarnSample pins wakeMv twinPeer vinMain vinBkup temp s
  | .tarnTimerExpiry => Sys2Proof.Machine.execTarnTimerExpiry s
  | .hostWakeRelease => Sys2Proof.Machine.execHostWakeRelease s
  | .xtal32Absence => Sys2Proof.Machine.execXtal32Absence s
  | .safeSample pins => Sys2Proof.Machine.execSafeSample pins s
  | .discrepancyFault blank => Sys2Proof.Machine.execDiscrepancyFault blank s
  | .blankAssert b => Sys2Proof.Machine.execBlankAssert b s
  | .blankRelease => Sys2Proof.Machine.execBlankRelease s
  | .k280Repeat port => Sys2Proof.Machine.execK280Repeat port s
  | .lockstepMismatchControl => Sys2Proof.Machine.execLockstepMismatchControl s
  | .lockstepMismatchSafety => Sys2Proof.Machine.execLockstepMismatchSafety s
  | .limpSwapEdge => Sys2Proof.Machine.execLimpSwapEdge s
  | .limpPatternResend => Sys2Proof.Machine.execLimpPatternResend s
  | .keepaliveTimer port => Sys2Proof.Machine.execKeepaliveTimer port s
  | .safetyPairCheckDone surf sums codes off => Sys2Proof.Machine.execSafetyPairCheckDone surf sums codes off s
  | .excessRunLimit surf => Sys2Proof.Machine.execExcessRunLimit surf s
  | .tileRelease ports => Sys2Proof.Machine.execTileRelease ports s
  | .fTick surf => Sys2Proof.Machine.execFTick surf s
  | .sTick surf errs => Sys2Proof.Machine.execSTick surf errs s
  | .pTick surf => Sys2Proof.Machine.execPTick surf s
  | .productionWindowOpen surf phase => Sys2Proof.Machine.execProductionWindowOpen surf phase s
  | .latchPoint surf => Sys2Proof.Machine.execLatchPoint surf s
  | .gIntervalStart surf upset skip pass spare array safeStore errs => Sys2Proof.Machine.execGIntervalStart surf upset skip pass spare array safeStore errs s
  | .tileSyncRise surf => Sys2Proof.Machine.execTileSyncRise surf s
  | .tileSyncFall surf => Sys2Proof.Machine.execTileSyncFall surf s
  | .laneTick => Sys2Proof.Machine.execLaneTick s
  | .noSurfaceTick skip pass spare array safeStore errs => Sys2Proof.Machine.execNoSurfaceTick skip pass spare array safeStore errs s
  | .tickOutPulseEnd => Sys2Proof.Machine.execTickOutPulseEnd s
  | .tgEnable surf => Sys2Proof.Machine.execTgEnable surf s
  | .tgDisable surf => Sys2Proof.Machine.execTgDisable surf s
  | .hostSilenceLimp => Sys2Proof.Machine.execHostSilenceLimp s
  | .compositionComplete durationUs => Sys2Proof.Machine.execCompositionComplete durationUs s
  | .layerSafeLimit surf layer => Sys2Proof.Machine.execLayerSafeLimit surf layer s
  | .doorbellWrite page off value whole => Sys2Proof.Machine.execDoorbellWrite page off value whole s
  | .descriptorArrival ring bytes => Sys2Proof.Machine.execDescriptorArrival ring bytes s
  | .payloadArrival ring bytes => Sys2Proof.Machine.execPayloadArrival ring bytes s
  | .hostReadFailure kind ring pos layer cause => Sys2Proof.Machine.execHostReadFailure kind ring pos layer cause s
  | .hostSideReset kind => Sys2Proof.Machine.execHostSideReset kind s
  | .powerStateChange d3 => Sys2Proof.Machine.execPowerStateChange d3 s
  | .busMasterDisable enable memSpace msixEnable funcMask ecrcGen ecrcCheck mrrs mps timeout aspm => Sys2Proof.Machine.execBusMasterDisable enable memSpace msixEnable funcMask ecrcGen ecrcCheck mrrs mps timeout aspm s
  | .ringEnable ring => Sys2Proof.Machine.execRingEnable ring s
  | .ringDisable ring => Sys2Proof.Machine.execRingDisable ring s
  | .ringResume ring => Sys2Proof.Machine.execRingResume ring s
  | .ringSkip ring => Sys2Proof.Machine.execRingSkip ring s
  | .coalesceTimeout ring => Sys2Proof.Machine.execCoalesceTimeout ring s
  | .registerWrite addr value whole => Sys2Proof.Machine.execRegisterWrite addr value whole s
  | .clrCntWrite addr => Sys2Proof.Machine.execClrCntWrite addr s
  | .timeNowRead => Sys2Proof.Machine.execTimeNowRead s
  | .pcieLinkUp speed width => Sys2Proof.Machine.execPcieLinkUp speed width s
  | .present => Sys2Proof.Machine.execPresent s
  | .prefetchComplete pos layer ok rows crcs rows2 crcs2 => Sys2Proof.Machine.execPrefetchComplete pos layer ok rows crcs rows2 crcs2 s
  | .presentTimed => Sys2Proof.Machine.execPresentTimed s
  | .cancelTimed => Sys2Proof.Machine.execCancelTimed s
  | .shadeUpdate => Sys2Proof.Machine.execShadeUpdate s
  | .shadeClear => Sys2Proof.Machine.execShadeClear s
  | .aim => Sys2Proof.Machine.execAim s
  | .beamProfile => Sys2Proof.Machine.execBeamProfile s
  | .surfaceConfig => Sys2Proof.Machine.execSurfaceConfig s
  | .retime => Sys2Proof.Machine.execRetime s
  | .scalerCoeff => Sys2Proof.Machine.execScalerCoeff s
  | .segPattern => Sys2Proof.Machine.execSegPattern s
  | .segStart => Sys2Proof.Machine.execSegStart s
  | .mapLoad => Sys2Proof.Machine.execMapLoad s
  | .healthDump => Sys2Proof.Machine.execHealthDump s
  | .spbLoad => Sys2Proof.Machine.execSpbLoad s
  | .spbCommit => Sys2Proof.Machine.execSpbCommit s
  | .fwStage => Sys2Proof.Machine.execFwStage s
  | .fwActivate => Sys2Proof.Machine.execFwActivate s
  | .fence ring => Sys2Proof.Machine.execFence ring s
  | .fenceConditionMet ring => Sys2Proof.Machine.execFenceConditionMet ring s
  | .fenceTimeout ring => Sys2Proof.Machine.execFenceTimeout ring s
  | .bulkSourceReadDone bytes ok => Sys2Proof.Machine.execBulkSourceReadDone bytes ok s
  | .flashWriteDone ok => Sys2Proof.Machine.execFlashWriteDone ok s
  | .healthDumpDone => Sys2Proof.Machine.execHealthDumpDone s
  | .laneEnable port => Sys2Proof.Machine.execLaneEnable port s
  | .laneDisable port => Sys2Proof.Machine.execLaneDisable port s
  | .enWaitExpiry port => Sys2Proof.Machine.execEnWaitExpiry port s
  | .bringupTimeout unit => Sys2Proof.Machine.execBringupTimeout unit s
  | .receiverLock unit rx0 rx1 skew => Sys2Proof.Machine.execReceiverLock unit rx0 rx1 skew s
  | .lockLost unit rx0 rx1 squelch => Sys2Proof.Machine.execLockLost unit rx0 rx1 squelch s
  | .orderedSetReceived unit lane k octet => Sys2Proof.Machine.execOrderedSetReceived unit lane k octet s
  | .rateTrainTimeout unit => Sys2Proof.Machine.execRateTrainTimeout unit s
  | .retrainTimeout unit => Sys2Proof.Machine.execRetrainTimeout unit s
  | .laneRetrain unit => Sys2Proof.Machine.execLaneRetrain unit s
  | .idleEntry port => Sys2Proof.Machine.execIdleEntry port s
  | .exitFail port => Sys2Proof.Machine.execExitFail port s
  | .lnrefLost => Sys2Proof.Machine.execLnrefLost s
  | .lnrefReturn => Sys2Proof.Machine.execLnrefReturn s
  | .prbsStart unit => Sys2Proof.Machine.execPrbsStart unit s
  | .loopbackStart port => Sys2Proof.Machine.execLoopbackStart port s
  | .prbsEnd unit bits0 bits1 => Sys2Proof.Machine.execPrbsEnd unit bits0 bits1 s
  | .legacyEnable port on => Sys2Proof.Machine.execLegacyEnable port on s
  | .legacyActive port => Sys2Proof.Machine.execLegacyActive port s
  | .legacyAlert port low => Sys2Proof.Machine.execLegacyAlert port low s
  | .legacyAlertRetrain port => Sys2Proof.Machine.execLegacyAlertRetrain port s
  | .twinLaneEnable link => Sys2Proof.Machine.execTwinLaneEnable link s
  | .deskewFail link skew => Sys2Proof.Machine.execDeskewFail link skew s
  | .ackNakReceived port seq body => Sys2Proof.Machine.execAckNakReceived port seq body s
  | .ackTimeout port seq => Sys2Proof.Machine.execAckTimeout port seq s
  | .linePacketDeadline port seq => Sys2Proof.Machine.execLinePacketDeadline port seq s
  | .swapDeadline port => Sys2Proof.Machine.execSwapDeadline port s
  | .upstreamPacketDiscard port bytes clean => Sys2Proof.Machine.execUpstreamPacketDiscard port bytes clean s
  | .statusReceived port seq body rt => Sys2Proof.Machine.execStatusReceived port seq body rt s
  | .capReceived port seq body => Sys2Proof.Machine.execCapReceived port seq body s
  | .capRequestTimer port => Sys2Proof.Machine.execCapRequestTimer port s
  | .echoTimer port => Sys2Proof.Machine.execEchoTimer port s
  | .echoTimeout port id => Sys2Proof.Machine.execEchoTimeout port id s
  | .healthReceived port seq body => Sys2Proof.Machine.execHealthReceived port seq body s
  | .massFault port => Sys2Proof.Machine.execMassFault port s
  | .isolationTimeout port => Sys2Proof.Machine.execIsolationTimeout port s
  | .healthStall port => Sys2Proof.Machine.execHealthStall port s
  | .sampleDeadline port scan => Sys2Proof.Machine.execSampleDeadline port scan s
  | .baselineCapture port => Sys2Proof.Machine.execBaselineCapture port s
  | .baselineCaptureDone port => Sys2Proof.Machine.execBaselineCaptureDone port s
  | .twinEnable => Sys2Proof.Machine.execTwinEnable s
  | .twinDisable => Sys2Proof.Machine.execTwinDisable s
  | .twinHandover => Sys2Proof.Machine.execTwinHandover s
  | .twinRejoin => Sys2Proof.Machine.execTwinRejoin s
  | .pairTimeout peerLow => Sys2Proof.Machine.execPairTimeout peerLow s
  | .heartbeatTick phase => Sys2Proof.Machine.execHeartbeatTick phase s
  | .heartbeatReceived link seq body stamp => Sys2Proof.Machine.execHeartbeatReceived link seq body stamp s
  | .alignReceived link seq body => Sys2Proof.Machine.execAlignReceived link seq body s
  | .latchReceived link seq body => Sys2Proof.Machine.execLatchReceived link seq body s
  | .digestSend surf => Sys2Proof.Machine.execDigestSend surf s
  | .digestReceived link seq body => Sys2Proof.Machine.execDigestReceived link seq body s
  | .defectReceived link seq body => Sys2Proof.Machine.execDefectReceived link seq body s
  | .probeCopyReceived link seq body => Sys2Proof.Machine.execProbeCopyReceived link seq body s
  | .arbitrateReceived link seq body => Sys2Proof.Machine.execArbitrateReceived link seq body s
  | .twinK280Received link => Sys2Proof.Machine.execTwinK280Received link s
  | .leadSilent => Sys2Proof.Machine.execLeadSilent s
  | .alignTimeout command key => Sys2Proof.Machine.execAlignTimeout command key s
  | .twinCompare surf => Sys2Proof.Machine.execTwinCompare surf s
  | .arbitrateReplyTimeout => Sys2Proof.Machine.execArbitrateReplyTimeout s
  | .twinPeerSample level => Sys2Proof.Machine.execTwinPeerSample level s
  | .safetyConfirm => Sys2Proof.Machine.execSafetyConfirm s
  | .twinAliveDrop => Sys2Proof.Machine.execTwinAliveDrop s
  | .syncReceived port domain origin since rho => Sys2Proof.Machine.execSyncReceived port domain origin since rho s
  | .announceReceived port kind domain vector gm => Sys2Proof.Machine.execAnnounceReceived port kind domain vector gm s
  | .pdelayReqTimer port => Sys2Proof.Machine.execPdelayReqTimer port s
  | .pdelayReqReceived port seq domain since wait => Sys2Proof.Machine.execPdelayReqReceived port seq domain since wait s
  | .pdelayRespReceived port seq domain since peer capable => Sys2Proof.Machine.execPdelayRespReceived port seq domain since peer capable s
  | .syncReceiptTimeout => Sys2Proof.Machine.execSyncReceiptTimeout s
  | .announceReceiptTimeout port => Sys2Proof.Machine.execAnnounceReceiptTimeout port s
  | .slavePortSwitch => Sys2Proof.Machine.execSlavePortSwitch s
  | .sgmiiLinkChange port up speed => Sys2Proof.Machine.execSgmiiLinkChange port up speed s
  | .clockStep => Sys2Proof.Machine.execClockStep s
  | .pwmPeriodBoundary => Sys2Proof.Machine.execPwmPeriodBoundary s
  | .segPulseStart ch => Sys2Proof.Machine.execSegPulseStart ch s
  | .segPulseEnd ch mv lost nbs => Sys2Proof.Machine.execSegPulseEnd ch mv lost nbs s
  | .segOvercurrent ch => Sys2Proof.Machine.execSegOvercurrent ch s
  | .segSyncEdge onBoundary highNs => Sys2Proof.Machine.execSegSyncEdge onBoundary highNs s
  | .segInternalTick onBoundary => Sys2Proof.Machine.execSegInternalTick onBoundary s
  | .segChannelClear word mask => Sys2Proof.Machine.execSegChannelClear word mask s
  | .segBankRun bank on => Sys2Proof.Machine.execSegBankRun bank on s
  | .segRailEnable rail on => Sys2Proof.Machine.execSegRailEnable rail on s
  | .headroomUpdate => Sys2Proof.Machine.execHeadroomUpdate s
  | .lossEstimate => Sys2Proof.Machine.execLossEstimate s
  | .segCurrentCheck ua => Sys2Proof.Machine.execSegCurrentCheck ua s
  | .segBlankRelease => Sys2Proof.Machine.execSegBlankRelease s
  | .throttleUpdate => Sys2Proof.Machine.execThrottleUpdate s
  | .thermalShutdown => Sys2Proof.Machine.execThermalShutdown s
  | .thermalShutdownClear => Sys2Proof.Machine.execThermalShutdownClear s
  | .dieTempConversion temp outside => Sys2Proof.Machine.execDieTempConversion temp outside s
  | .remoteTempConversion channel uv dv => Sys2Proof.Machine.execRemoteTempConversion channel uv dv s
  | .calRun => Sys2Proof.Machine.execCalRun s
  | .calibrationItemDone first second => Sys2Proof.Machine.execCalibrationItemDone first second s
  | .calibrationRunDone => Sys2Proof.Machine.execCalibrationRunDone s
  | .calRetryTimer => Sys2Proof.Machine.execCalRetryTimer s
  | .oscCompensation => Sys2Proof.Machine.execOscCompensation s
  | .adcCheck codes predicted => Sys2Proof.Machine.execAdcCheck codes predicted s
  | .loopbackCheck => Sys2Proof.Machine.execLoopbackCheck s
  | .loopbackCheckEnd port bits => Sys2Proof.Machine.execLoopbackCheckEnd port bits s
  | .testEngineStart unit kind => Sys2Proof.Machine.execTestEngineStart unit kind s
  | .testEngineDone errs => Sys2Proof.Machine.execTestEngineDone errs s
  | .pixelStoreRead addr stored region target index line => Sys2Proof.Machine.execPixelStoreRead addr stored region target index line s
  | .scrubRead stored region target index line => Sys2Proof.Machine.execScrubRead stored region target index line s
  | .sramEccError safe double word array user target index => Sys2Proof.Machine.execSramEccError safe double word array user target index s
  | .commOpen => Sys2Proof.Machine.execCommOpen s
  | .commClose => Sys2Proof.Machine.execCommClose s
  | .commSessionTimeout => Sys2Proof.Machine.execCommSessionTimeout s
  | .lcAdvance => Sys2Proof.Machine.execLcAdvance s
  | .lcToField => Sys2Proof.Machine.execLcToField s
  | .lcKeyBurn => Sys2Proof.Machine.execLcKeyBurn s
  | .chalReq => Sys2Proof.Machine.execChalReq s
  | .lcEnter => Sys2Proof.Machine.execLcEnter s
  | .lcLeave => Sys2Proof.Machine.execLcLeave s
  | .lcRetire => Sys2Proof.Machine.execLcRetire s
  | .challengeExpiry => Sys2Proof.Machine.execChallengeExpiry s
  | .lockoutExpiry => Sys2Proof.Machine.execLockoutExpiry s
  | .lcRecordTimer => Sys2Proof.Machine.execLcRecordTimer s
  | .debugAccessOpen => Sys2Proof.Machine.execDebugAccessOpen s

end Sys2Proof.Machine
end

