-- ==== Sys2Proof/Machine/Idle.lean ====
section
/-! DEFINITION. What happens while no command waits: the block's timebase runs (DESIGN CHOICE, log entry 3). -/

namespace Sys2Proof.Machine

/-- One tick of the 250 MHz timebase: local time advances by the increment (R433), and TICK_OUT marks a second of network time where it selects it (Table 02-7). -/
def State.idleTick (s : State) : State := s.passTicks 1

end Sys2Proof.Machine
end

