-- ==== Sys2Proof/WellFormed.lean ====
section
/-! DEFINITION. Which commands are well formed: every operand lies in the range that the field or bus it stands for has. An ill-formed one is still executed, on its low bits or to no effect. -/

namespace Sys2Proof

/-- Whether the register at a BAR 0 offset has a CLR_CNT field (R602 and the register tables). -/
def hasClrCnt (a : Nat) : Bool :=
  [0x24, 0x10024, 0x20010, 0x30034, 0x50000, 0x50200, 0x50380, 0x50600, 0x70000, 0x70400, 0x70500, 0x80000, 0x90040, 0xA0000, 0xB0024,
    0xC0028, 0xD0000, 0xD0100].contains a
  || (decide (0x40000 ≤ a) && decide (a < 0x40400) && a % 0x100 == 0)
  || (decide (0x60000 ≤ a) && decide (a < 0x6C000) && (a % 0x800 == 0 || a % 0x800 == 0x40))

/-- The checks on one command; operands without a check have their range in their type, or none. -/
def Instr.wf : Instr → Bool
  | .powerOnReset _ _ => true
  | .resetNAssert => true
  | .resetNRelease _ _ => true
  | .flashReadComplete _ => true
  | .bootComplete _ _ _ _ durUs repairs _ _ => decide (durUs < 2 ^ 16) && decide (repairs < 256)
  | .stuckResetTimeout => true
  | .mainOkFall _ _ => true
  | .mainOkRise _ => true
  | .bkupHighEnough _ _ => true
  | .rideThroughExpiry => true
  | .sheddingStart => true
  | .returnTimerExpiry => true
  | .restorationComplete _ _ _ _ durUs repairs _ _ => decide (durUs < 2 ^ 16) && decide (repairs < 256)
  | .supplyCollapse => true
  | .collapseResetTimeout _ => true
  | .railPowerGoodChange _ _ => true
  | .railPgTimeout _ => true
  | .railRetryTimeout _ => true
  | .railRecoveryRetry => true
  | .pmbusTransactionDone _ data _ => decide (data < 2 ^ 16)
  | .railStatusPoll => true
  | .domainOffRequest _ => true
  | .mode _ => true
  | .blank => true
  | .unblank => true
  | .modeTransitionComplete _ _ _ _ durUs repairs _ _ => decide (durUs < 2 ^ 16) && decide (repairs < 256)
  | .idleTimerExpiry => true
  | .lreqOffExpiry => true
  | .nosurfCheck => true
  | .tarnSample pins wakeMv _ vinMain vinBkup _ => decide (pins < 16) && decide (wakeMv < 2 ^ 16) && decide (vinMain < 2 ^ 16) && decide (vinBkup < 2 ^ 16)
  | .tarnTimerExpiry => true
  | .hostWakeRelease => true
  | .xtal32Absence => true
  | .safeSample _ => true
  | .discrepancyFault _ => true
  | .blankAssert _ => true
  | .blankRelease => true
  | .k280Repeat _ => true
  | .lockstepMismatchControl => true
  | .lockstepMismatchSafety => true
  | .limpSwapEdge => true
  | .limpPatternResend => true
  | .keepaliveTimer _ => true
  | .safetyPairCheckDone _ _ _ off => off.all (fun o => decide (-32768 ≤ o.1) && decide (o.1 ≤ 32767) && decide (-32768 ≤ o.2) && decide (o.2 ≤ 32767))
  | .excessRunLimit _ => true
  | .tileRelease ports => decide (ports < 2 ^ 24)
  | .fTick _ => true
  | .sTick _ _ => true
  | .pTick _ => true
  | .productionWindowOpen _ _ => true
  | .latchPoint _ => true
  | .gIntervalStart _ _ _ _ _ array _ _ => decide (array < 2 ^ 16)
  | .tileSyncRise _ => true
  | .tileSyncFall _ => true
  | .laneTick => true
  | .noSurfaceTick _ _ _ array _ _ => decide (array < 2 ^ 16)
  | .tickOutPulseEnd => true
  | .tgEnable _ => true
  | .tgDisable _ => true
  | .hostSilenceLimp => true
  | .compositionComplete durationUs => decide (durationUs < 2 ^ 16)
  | .layerSafeLimit _ _ => true
  | .doorbellWrite page off value _ => decide (page < 16) && decide (off < 4096) && decide (value < 2 ^ 32)
  | .descriptorArrival _ bytes => bytes.length == 64
  | .payloadArrival _ _ => true
  | .hostReadFailure _ _ _ _ _ => true
  | .hostSideReset _ => true
  | .powerStateChange _ => true
  | .busMasterDisable _ _ _ _ _ _ _ _ _ _ => true
  | .ringEnable _ => true
  | .ringDisable _ => true
  | .ringResume _ => true
  | .ringSkip _ => true
  | .coalesceTimeout _ => true
  | .registerWrite addr value _ => decide (addr < 2 ^ 20) && decide (value < 2 ^ 32)
  | .clrCntWrite addr => hasClrCnt addr
  | .timeNowRead => true
  | .pcieLinkUp _ _ => true
  | .present => true
  | .prefetchComplete _ layer _ _ _ _ _ => decide (layer < 16)
  | .presentTimed => true
  | .cancelTimed => true
  | .shadeUpdate => true
  | .shadeClear => true
  | .aim => true
  | .beamProfile => true
  | .surfaceConfig => true
  | .retime => true
  | .scalerCoeff => true
  | .segPattern => true
  | .segStart => true
  | .mapLoad => true
  | .healthDump => true
  | .spbLoad => true
  | .spbCommit => true
  | .fwStage => true
  | .fwActivate => true
  | .fence _ => true
  | .fenceConditionMet _ => true
  | .fenceTimeout _ => true
  | .bulkSourceReadDone _ _ => true
  | .flashWriteDone _ => true
  | .healthDumpDone => true
  | .laneEnable _ => true
  | .laneDisable _ => true
  | .enWaitExpiry _ => true
  | .bringupTimeout _ => true
  | .receiverLock _ _ _ _ => true
  | .lockLost _ _ _ _ => true
  | .orderedSetReceived _ _ _ _ => true
  | .rateTrainTimeout _ => true
  | .retrainTimeout _ => true
  | .laneRetrain _ => true
  | .idleEntry _ => true
  | .exitFail _ => true
  | .lnrefLost => true
  | .lnrefReturn => true
  | .prbsStart _ => true
  | .loopbackStart _ => true
  | .prbsEnd _ _ _ => true
  | .legacyEnable _ _ => true
  | .legacyActive _ => true
  | .legacyAlert _ _ => true
  | .legacyAlertRetrain _ => true
  | .twinLaneEnable _ => true
  | .deskewFail _ _ => true
  | .ackNakReceived _ seq _ => decide (seq < 2 ^ 16)
  | .ackTimeout _ seq => decide (seq < 2 ^ 16)
  | .linePacketDeadline _ seq => decide (seq < 2 ^ 16)
  | .swapDeadline _ => true
  | .upstreamPacketDiscard _ _ _ => true
  | .statusReceived _ seq _ _ => decide (seq < 2 ^ 16)
  | .capReceived _ seq _ => decide (seq < 2 ^ 16)
  | .capRequestTimer _ => true
  | .echoTimer _ => true
  | .echoTimeout _ _ => true
  | .healthReceived _ seq _ => decide (seq < 2 ^ 16)
  | .massFault _ => true
  | .isolationTimeout _ => true
  | .healthStall _ => true
  | .sampleDeadline _ scan => decide (scan < 16)
  | .baselineCapture _ => true
  | .baselineCaptureDone _ => true
  | .twinEnable => true
  | .twinDisable => true
  | .twinHandover => true
  | .twinRejoin => true
  | .pairTimeout _ => true
  | .heartbeatTick _ => true
  | .heartbeatReceived _ seq _ _ => decide (seq < 2 ^ 16)
  | .alignReceived _ seq _ => decide (seq < 2 ^ 16)
  | .latchReceived _ seq _ => decide (seq < 2 ^ 16)
  | .digestSend _ => true
  | .digestReceived _ seq _ => decide (seq < 2 ^ 16)
  | .defectReceived _ seq _ => decide (seq < 2 ^ 16)
  | .probeCopyReceived _ seq _ => decide (seq < 2 ^ 16)
  | .arbitrateReceived _ seq _ => decide (seq < 2 ^ 16)
  | .twinK280Received _ => true
  | .leadSilent => true
  | .alignTimeout _ key => decide (key < 2 ^ 32)
  | .twinCompare _ => true
  | .arbitrateReplyTimeout => true
  | .twinPeerSample _ => true
  | .safetyConfirm => true
  | .twinAliveDrop => true
  | .syncReceived _ _ _ _ _ => true
  | .announceReceived _ _ _ _ gm => decide (gm < 2 ^ 64)
  | .pdelayReqTimer _ => true
  | .pdelayReqReceived _ seq _ _ _ => decide (seq < 2 ^ 16)
  | .pdelayRespReceived _ seq _ _ _ _ => decide (seq < 2 ^ 16)
  | .syncReceiptTimeout => true
  | .announceReceiptTimeout _ => true
  | .slavePortSwitch => true
  | .sgmiiLinkChange _ _ _ => true
  | .clockStep => true
  | .pwmPeriodBoundary => true
  | .segPulseStart _ => true
  | .segPulseEnd _ mv _ _ => decide (mv < 2 ^ 16)
  | .segOvercurrent _ => true
  | .segSyncEdge _ _ => true
  | .segInternalTick _ => true
  | .segChannelClear _ mask => decide (mask < 2 ^ 32)
  | .segBankRun _ _ => true
  | .segRailEnable _ _ => true
  | .headroomUpdate => true
  | .lossEstimate => true
  | .segCurrentCheck ua => decide (ua < 2 ^ 20)
  | .segBlankRelease => true
  | .throttleUpdate => true
  | .thermalShutdown => true
  | .thermalShutdownClear => true
  | .dieTempConversion _ _ => true
  | .remoteTempConversion _ _ _ => true
  | .calRun => true
  | .calibrationItemDone first second => first.length == second.length
  | .calibrationRunDone => true
  | .calRetryTimer => true
  | .oscCompensation => true
  | .adcCheck codes predicted => codes.length == 3 && predicted.length == 3
  | .loopbackCheck => true
  | .loopbackCheckEnd _ _ => true
  | .testEngineStart _ _ => true
  | .testEngineDone _ => true
  | .pixelStoreRead addr stored region _ _ _ => decide (addr < 2 ^ 30) && stored.length == 72 && decide (region < 16)
  | .scrubRead stored region _ _ _ => stored.length == 72 && decide (region < 16)
  | .sramEccError _ _ word array _ _ _ => decide (word < 2 ^ 32) && decide (array < 2 ^ 16)
  | .commOpen => true
  | .commClose => true
  | .commSessionTimeout => true
  | .lcAdvance => true
  | .lcToField => true
  | .lcKeyBurn => true
  | .chalReq => true
  | .lcEnter => true
  | .lcLeave => true
  | .lcRetire => true
  | .challengeExpiry => true
  | .lockoutExpiry => true
  | .lcRecordTimer => true
  | .debugAccessOpen => true

end Sys2Proof
end

