-- ==== Sys2Proof/Safety.lean ====
section
/-! DEFINITION. What counts as a safe run: the terms in which claims speak of darkness, held ports and settled levels. -/

namespace Sys2Proof.Machine

/-- The levels that follow the state have settled: the fault pins are low while a cause of R384 stands, and keep their level while DIE-D is in reset; and SAFE_STATUS shows them while SAFE is on. -/
abbrev State.settledPins (s : State) : Prop :=
  s.aon.faultPins = s.pinsLow ∧ (s.domOn 1 = true → s.fbit R.SAFE_STATUS_FAULT_PINS = s.aon.faultPins)

/-- A port is dark for certain: its TILE_EN is low. -/
def State.portDark (s : State) (p : Nat) : Prop := s.tileEn p = false

/-- Every port that Totality holds is dark (R369). -/
def State.totalityDark (s : State) : Prop := ∀ p, p < 24 → s.totHolds p = true → s.portDark p

/-- The register files keep their canonical form. -/
abbrev State.filesWf (s : State) : Prop := regWf s.regs = true ∧ regWf s.fregs = true

/-- The fixed arrays of the machine have their sizes: 7 rings (R72), 4 generators and surfaces, 24 ports, 192 zones, 64 shade slots, 192 segment channels in 12 banks with 4 rails, 2 network ports, 2 twin links, and the rest. -/
abbrev State.shape (s : State) : Prop :=
  s.host.rings.length = 7 ∧ s.gens.length = 4 ∧ s.ports.length = 24 ∧ s.pix.surfs.length = 4 ∧ s.pix.zones.length = 192
    ∧ s.pix.shades.length = 64 ∧ s.pix.health.length = 24 ∧ s.seg.chans.length = 192 ∧ s.seg.banks.length = 12
    ∧ s.seg.rails.length = 4 ∧ s.net.length = 2 ∧ s.twin.links.length = 2 ∧ s.twin.surfs.length = 4 ∧ s.safe.surfs.length = 4
    ∧ s.parkPats.length = 6 ∧ s.cmds.waiting.length = 4

/-- Every command that waits is well formed. -/
abbrev State.queueWf (s : State) : Prop := ∀ c ∈ s.pending, c.wf = true

/-! ## What a command leaves unchanged -/

/-- The parts of the state besides the registers and the queue. -/
inductive Part where
  /-- The fields as frozen while in force (R6). -/
  | fregs
  | clk | ticks | pins
  /-- The submit rings and what becomes of their commands: their completions. -/
  | submit
  /-- The event and health records that leave through EVT and HLT, with records held and MSI-X pending bits. -/
  | events
  /-- The rest of the host interface. -/
  | host
  | cmds | sup | mode | flash | boot | sleep | gens | pix | safe
  /-- What AON holds, but for the fault pins. -/
  | aon
  | ports | parkPats | seg | therm | net | twin | test | free
deriving DecidableEq, Repr

/-- A ring but for the descriptor reads in flight, which go out after any command (R87). -/
def Ring.still (q : Ring) : Ring := { q with flight := [] }

/-- The host interface but for its rings, records and pending bits, and the submit ring whose turn it is (R87). -/
def HostSt.rest (h : HostSt) : HostSt := { h with rings := [], cplQueue := [], heldRecords := [], pba := 0, turn := 1 }

/-- A part that is the same in two states. -/
def State.keeps (s t : State) : Part → Prop
  | .fregs => t.fregs = s.fregs
  | .clk => t.clk = s.clk
  | .ticks => t.ticks = s.ticks
  | .pins => t.pins = s.pins
  | .submit => t.host.rings.length = s.host.rings.length ∧ (∀ q, q < 5 → (t.ring q).still = (s.ring q).still) ∧ t.host.cplQueue = s.host.cplQueue
  | .events => (t.ring 5).still = (s.ring 5).still ∧ (t.ring 6).still = (s.ring 6).still ∧ t.host.heldRecords = s.host.heldRecords ∧ t.host.pba = s.host.pba
  | .host => t.host.rest = s.host.rest
  | .cmds => t.cmds = s.cmds
  | .sup => t.sup = s.sup
  | .mode => t.mode = s.mode
  | .flash => t.flash = s.flash
  | .boot => t.boot = s.boot
  | .sleep => t.sleep = s.sleep
  | .gens => t.gens = s.gens
  | .pix => t.pix = s.pix
  | .safe => t.safe = s.safe
  | .aon => t.aon = { s.aon with faultPins := t.aon.faultPins }
  | .ports => t.ports = s.ports
  | .parkPats => t.parkPats = s.parkPats
  | .seg => t.seg = s.seg
  | .therm => t.therm = s.therm
  | .net => t.net = s.net
  | .twin => t.twin = s.twin
  | .test => t.test = s.test
  | .free => t.free = s.free

/-- A bit of the register at an offset is a bit of a field. -/
def Fld.holds (f : Fld) (a i : Nat) : Prop := f.addr = a ∧ f.lo ≤ i ∧ i < f.lo + f.width

/-- SAFE_STATUS follows the state after every command (R384, R369). -/
def levelFields : List Fld := [R.SAFE_STATUS_STATE, R.SAFE_STATUS_TOTALITY, R.SAFE_STATUS_LIMP_PAGES, R.SAFE_STATUS_FAULT_PINS]

/-- From `s` to `t` only the parts `ps` and, of the registers, the fields `fs`, SAFE_STATUS and the 64 KiB blocks `bs` may have changed: every other part and every other register bit, reserved bits included, is as it was; the queue is as it was; and what had left the device stays. -/
def State.onlyChanges (s t : State) (ps : List Part) (fs : List Fld) (bs : List Nat := []) : Prop :=
  (∀ p, p ∉ ps → s.keeps t p)
    ∧ (∀ a i, a / 0x10000 ∉ bs → (∀ f, f ∈ levelFields ++ fs → ¬ f.holds a i) → (t.rd a).getLsbD i = (s.rd a).getLsbD i)
    ∧ t.pending = s.pending ∧ s.out <+: t.out

/-- The fields of every member of an array. -/
def each (n : Nat) (f : Nat → List Fld) : List Fld := (List.range n).flatMap f

/-- The fields of a lane unit: a tile port below 24, a twin link from 24. -/
def ofUnit (u : Nat) (tile twin : Nat → List Fld) : List Fld := if u < 24 then tile u else twin (u - 24)

/-- Whole registers: `n` words from an offset. -/
def words (a n : Nat) : List Fld := (List.range n).map fun k => ⟨a + 4 * k, 0, 32⟩

/-- Registers that follow the records of EVT and HLT: their heads and their counts of records lost (R92). -/
def eventFields : List Fld := [R.HOST_EVT_LOST_EVT, R.HOST_EVT_LOST_HLT] ++ [R.HOST_RING_HEAD_GEN 5, R.HOST_RING_HEAD_INDEX 5, R.HOST_RING_HEAD_GEN 6, R.HOST_RING_HEAD_INDEX 6]

/-- HOST_RING_HEAD of every ring (R76). -/
def headFields : List Fld := (each 7 fun i => [R.HOST_RING_HEAD_GEN i, R.HOST_RING_HEAD_INDEX i])

/-- HOST_OFFACC: an access to a block that is off (R505). -/
def offFields : List Fld := [R.HOST_OFFACC_ADDR_ADDR, R.HOST_OFFACC_INFO_COUNT, R.HOST_OFFACC_INFO_DOMAIN, R.HOST_OFFACC_INFO_WRITE]

/-- PWR_IDLE: a host command restarts the idle timer (R533). -/
def idleFields : List Fld := [R.PWR_IDLE_REMAIN_S, R.PWR_IDLE_RUNNING]

/-- GLOBAL_WREF: a refused write (R600, R601). -/
def refuseFields : List Fld := [R.GLOBAL_WREF_ADDR_ADDR, R.GLOBAL_WREF_INFO_CLASS, R.GLOBAL_WREF_INFO_COUNT, R.GLOBAL_WREF_VALUE_VALUE]

/-- What Totality changes in SAFE (R369). -/
def totFields : List Fld := [R.SAFE_TOT_PORTS_PORTS, R.SAFE_TOT_SRC_BLANK_A, R.SAFE_TOT_SRC_BLANK_B, R.SAFE_TOT_SRC_HOST, R.SAFE_TOT_SRC_SAFETY_PAIR, R.SAFE_TOT_SRC_SPILLWAY, R.SAFE_TOT_SRC_SUPPLY, R.SAFE_TOT_SRC_THERMAL, R.SAFE_TOT_SRC_TWIN]

/-- The parts that the reaction to a fault may change (Table 11-6). -/
def reactParts : List Part := [.submit, .events, .host, .cmds, .sup, .mode, .safe, .aon, .ports, .seg, .twin, .free]

/-- The registers that the reaction to a fault may change (Table 11-6). -/
def reactFields : List Fld := eventFields ++ headFields ++ [R.HOST_STATUS_CPL_STALL] ++ [R.PWR_IDLE_REMAIN_S, R.PWR_IDLE_RUNNING, R.PWR_MODE_BUSY, R.PWR_MODE_CAUSE, R.PWR_MODE_MODE, R.PWR_MODE_TARGET, R.PWR_SUPPLY_STATUS_LIMP_SUPPLY, R.SAFE_FAULT_ACT_HI_ACTIVE, R.SAFE_FAULT_ACT_LO_ACTIVE, R.SAFE_FAULT_FIRST_CODE, R.SAFE_FAULT_FIRST_INSTANCE, R.SAFE_FAULT_LAST_CODE, R.SAFE_FAULT_LAST_INSTANCE, R.SAFE_TOT_PORTS_PORTS, R.SAFE_TOT_SRC_BLANK_A, R.SAFE_TOT_SRC_BLANK_B, R.SAFE_TOT_SRC_HOST, R.SAFE_TOT_SRC_SAFETY_PAIR, R.SAFE_TOT_SRC_SPILLWAY, R.SAFE_TOT_SRC_SUPPLY, R.SAFE_TOT_SRC_THERMAL, R.SAFE_TOT_SRC_TWIN, R.SEG_STATUS_OFF_TOT, R.TWIN_STATUS_LINKS, R.TWIN_STATUS_YIELDING] ++ (each 2 fun i => [R.TWIN_LANE_STATUS_STATE i]) ++ (each 5 fun i => [R.PWR_RAIL_STAT_EN i]) ++ (each 24 fun i => [R.TILE_LANE_STATUS_STATE i, R.TILE_LANE_STATUS_UP_IDLE i, R.TILE_PRBS_BITS_COUNT i, R.TILE_PRBS_ERR_LOCAL_COUNT i, R.TILE_PRBS_STAT_RESYNC i, R.TILE_PRBS_STAT_RUNNING i, R.TILE_PRBS_STAT_SYNC i, R.TILE_PROTO_STATUS_TOTALITY_TX i, R.TILE_SEQ_DN_NEXT i])

/-- A surface's configuration (R117): the TG registers and PORTMAP that SURFACE_CONFIG writes. -/
def configFields : List Fld := (each 4 fun n => words (tgAddr n 4) 4 ++ words (tgAddr n 0x20) 1) ++ (each 24 fun p => [⟨portmapA p, 0, 32⟩, ⟨portmapB p, 0, 32⟩])

/-- The parts that commands of Table 13-6 may change when a COMPANION applies them at their tick (R417, R418). -/
def alignParts : List Part := [.submit, .events, .host, .cmds, .mode, .gens, .pix, .safe, .ports, .parkPats, .twin, .free]

/-- The registers that commands of Table 13-6 may change when a COMPANION applies them. -/
def alignFields : List Fld := eventFields ++ headFields ++ [R.HOST_STATUS_CPL_STALL] ++ configFields ++ [R.HOST_SILENCE_CNT_COUNT, R.MEM_RELOAD_A_FALLBACK, R.MEM_RELOAD_A_GAIN, R.MEM_RELOAD_A_PARK, R.MEM_RELOAD_BASE_PORTS, R.MEM_RELOAD_DEFECT_PORTS, R.PIX_COMP_STATUS_BUSY, R.PIX_COMP_STATUS_SLOTS_USED, R.PIX_COMP_STATUS_SURF, R.PIX_OUT_COUNT_TEMP_FALLBACK, R.PIX_SHADE_COUNT_MERGES, R.PIX_SHADE_STALE_HI_STALE, R.PIX_SHADE_STALE_LO_STALE, R.PIX_SHADE_STATUS_MERGED, R.PIX_SHADE_STATUS_MERGE_SURF, R.PIX_SHADE_USED_HI_USED, R.PIX_SHADE_USED_LO_USED, R.PIX_SIG_ACTIVE_ACTIVE, R.PIX_SIG_REFUSED_REFUSED, R.SAFE_FAULT_ACT_HI_ACTIVE, R.SAFE_FAULT_ACT_LO_ACTIVE, R.TWIN_CNT_C_LOST, R.TWIN_STATUS_LINKS] ++ (each 2 fun i => [R.PIX_SCALER_ARMED i, R.PIX_SCALER_IN_USE i, R.PIX_SCALER_OWNER i, R.TWIN_LANE_STATUS_STATE i]) ++ (each 4 fun i => [R.SAFE_PROFILE_EXCESS_RUN i, R.SAFE_PROFILE_RETURNING i, R.TG_CTRL_ENABLE i, R.TG_GRID_OFFSET_NS i, R.TG_GUARD_G_US i, R.TG_GUARD_PC_STEPS i, R.TG_GUARD_STAGGER_SPAN i, R.TG_LEAD_LEAD_US i, R.TG_RATE_FRAME_HZ i, R.TG_RATE_SCANS_LOG2 i, R.TG_STATUS_CFG_ERR i, R.TG_STATUS_COMPOSING i, R.TG_STATUS_RETIME_ACTIVE i, R.TG_STATUS_RETIME_CANCELLED i, R.TG_STATUS_RETIME_PENDING i, R.TG_STATUS_RUNNING i, R.TIME_EPH_CNT_CANCELLED i, R.TIME_EPH_QUEUED i]) ++ (each 24 fun i => [R.PIX_HLT_PORT_STAT_BASE_LOADED i, R.PIX_HLT_PORT_STAT_DEFECTS i, R.TILE_LANE_STATUS_STATE i, R.TILE_LANE_STATUS_UP_IDLE i, R.TILE_PRBS_BITS_COUNT i, R.TILE_PRBS_ERR_LOCAL_COUNT i, R.TILE_PRBS_STAT_RESYNC i, R.TILE_PRBS_STAT_RUNNING i, R.TILE_PRBS_STAT_SYNC i, R.TILE_PROTO_STATUS_PORT_REFUSED i, R.TILE_PROTO_STATUS_TOTALITY_TX i, R.TILE_SEQ_DN_NEXT i])

/-- No command of another device's making waits to take effect here: the device is no COMPANION, and neither ALIGNs nor commands wait for one another (R417). -/
abbrev State.alone (s : State) : Prop := s.isCompanion = false ∧ s.twin.aligns = [] ∧ s.twin.waiting = []

end Sys2Proof.Machine
end

