-- ==== Sys2Proof/Certificates/Slice0/Obligations.lean ====
section
/-! DEFINITION. The statements for the provers. Each says when a command completes and what the next state holds, or a rule of the whole machine. -/

open Sys2Proof Sys2Proof.Machine

/-- An accepted doorbell moves the announced or returned position of its ring. Commands that it says complete: doorbellWrite. -/
def Obligations.DoorbellAnnounces : Prop :=
  (∀ (s : State) (n : Fin 7) (v p : Nat),
      s.shape →
      s.domOn 5 = true →
      s.ringOn n = true →
      v < 2 ^ 32 →
      bitsOf v 24 4 = n →
      s.doorbellPos n (bitsOf v 0 12) (bitsOf v 16 1) = some p →
      ∃ t, exec (.doorbellWrite n 0 v true) s = .next t
        ∧ (t.ring n).tail = p
        ∧ (∀ m : Nat, m < 7 → (t.ring m).arrived = (s.ring m).arrived)
        ∧ t.fbit (R.HOST_RING_CTRL_ENABLE n) = true)
  ∧ (∀ (s : State) (n : Fin 7) (v : Nat),
      s.shape →
      s.domOn 5 = true →
      v < 2 ^ 32 →
      (s.ringOn n = false ∨ bitsOf v 24 4 ≠ n ∨ s.doorbellPos n (bitsOf v 0 12) (bitsOf v 16 1) = none) →
      ∃ t, exec (.doorbellWrite n 0 v true) s = .next t
        ∧ (∀ m : Nat, m < 7 → (t.ring m).tail = (s.ring m).tail ∧ (t.ring m).arrived = (s.ring m).arrived ∧ (m ≠ 5 → (t.ring m).head = (s.ring m).head))
        ∧ t.fget (R.HOST_RING_COUNT_DOORBELL_INVALID n) = min 65535 (s.fget (R.HOST_RING_COUNT_DOORBELL_INVALID n) + 1))
  ∧ (∀ (s : State) (page off v : Nat) (whole : Bool),
      s.shape →
      s.domOn 5 = true →
      (7 ≤ page ∨ off ≠ 0 ∨ whole = false) →
      ∃ t, exec (.doorbellWrite page off v whole) s = .next t
        ∧ (∀ m : Nat, m < 7 → (t.ring m).tail = (s.ring m).tail ∧ (t.ring m).arrived = (s.ring m).arrived ∧ (m ≠ 5 → (t.ring m).head = (s.ring m).head)))

/-- A descriptor that passes its checks waits to execute, and its payload joins it. Commands that it says complete: descriptorArrival, payloadArrival, hostReadFailure. -/
def Obligations.DescriptorsArrive : Prop :=
  (∀ (s : State) (r : Fin 4) (f : Flight) (b : List Byte),
      s.shape →
      s.inFlight r = some f →
      b.length = 64 →
      leAt b 60 4 = crcWith (descPrefix r f.slot f.gen) (b.take 60) →
      leAt b 1 1 % 2 = f.gen →
      s.frameChecks r b = .ok →
      ∃ t, exec (.descriptorArrival r b) s = .next t
        ∧ (t.ring r).arrived = (s.ring r).arrived ++ [{ ring := r, slot := f.slot, gen := f.gen, pos := f.pos, bytes := b }])
  ∧ (∀ (s : State) (r : Fin 4) (f : Flight) (b : List Byte),
      s.shape →
      s.inFlight r = some f →
      b.length = 64 →
      leAt b 60 4 = crcWith (descPrefix r f.slot f.gen) (b.take 60) →
      leAt b 1 1 % 2 = f.gen →
      s.frameChecks r b ≠ .ok →
      ∃ t, exec (.descriptorArrival r b) s = .next t
        ∧ (t.ring r).arrived = (s.ring r).arrived
        ∧ ((s.ring r).head = f.pos → (t.ring r).head = f.pos + 1))
  ∧ (∀ (s : State) (r : Fin 4) (f : Flight) (b : List Byte),
      s.shape →
      s.inFlight r = some f →
      b.length = 64 →
      (leAt b 60 4 ≠ crcWith (descPrefix r f.slot f.gen) (b.take 60) ∨ leAt b 1 1 % 2 ≠ f.gen) →
      ∃ t, exec (.descriptorArrival r b) s = .next t
        ∧ (t.ring r).arrived = (s.ring r).arrived
        ∧ t.fget (R.HOST_RING_COUNT_DESC_REJECT r) = min 65535 (s.fget (R.HOST_RING_COUNT_DESC_REJECT r) + 1))
  ∧ (∀ (s : State) (r : Fin 4) (d : Desc) (b : List Byte),
      s.shape →
      (s.ring r).arrived.find? needsPayload = some d →
      b.length = leAt d.bytes 6 2 →
      leAt b (leAt d.bytes 6 2 - 4) 4 = crcWith (payloadPrefix r d.slot d.gen (leAt d.bytes 6 2)) (b.take (leAt d.bytes 6 2 - 4)) →
      ∃ t, exec (.payloadArrival r b) s = .next t
        ∧ ((t.ring r).arrived = (s.ring r).arrived.map fun e => if e.pos = d.pos then { e with payload := some b } else e))
  ∧ (∀ (s : State) (r : Fin 4) (d : Desc) (b : List Byte),
      s.shape →
      (s.ring r).arrived.find? needsPayload = some d →
      d.ring = r →
      b.length = leAt d.bytes 6 2 →
      leAt b (leAt d.bytes 6 2 - 4) 4 ≠ crcWith (payloadPrefix r d.slot d.gen (leAt d.bytes 6 2)) (b.take (leAt d.bytes 6 2 - 4)) →
      ∃ t, exec (.payloadArrival r b) s = .next t
        ∧ ((t.ring r).arrived = (s.ring r).arrived.filter fun e => e.pos != d.pos))
  ∧ (∀ (s : State) (r : Fin 4) (c : Fin 11) (f : Flight),
      c.val < 3 →
      s.shape →
      s.domOn 5 = true →
      s.inFlight r = some f →
      ∃ t, exec (.hostReadFailure 0 r 0 0 c) s = .next t
        ∧ t.host.pcie.aerUncor = maskSet s.host.pcie.aerUncor (linkError c).bit true
        ∧ t.fget (R.HOST_RING_COUNT_DESC_REJECT r) = min 65535 (s.fget (R.HOST_RING_COUNT_DESC_REJECT r) + 1))
  ∧ (∀ (s : State) (r : Fin 4) (c : Fin 11) (d : Desc),
      c.val < 3 →
      s.shape →
      s.domOn 5 = true →
      (s.ring r).arrived.find? needsPayload = some d →
      d.ring = r →
      ∃ t, exec (.hostReadFailure 1 r 0 0 c) s = .next t
        ∧ ((t.ring r).arrived = (s.ring r).arrived.filter fun e => e.pos != d.pos))
  ∧ (∀ (s : State) (r : Fin 4) (pos layer : Nat) (c : Fin 11),
      c.val < 3 →
      s.domOn 5 = true →
      ∃ t, exec (.hostReadFailure 2 r pos layer c) s = .next t
        ∧ exec (.prefetchComplete pos layer false [] [] [] []) (s.pcieError (linkError c)) = .next t)
  ∧ (∀ (s : State) (r : Fin 4) (pos layer : Nat) (c : Fin 11),
      c.val < 3 →
      s.domOn 5 = true →
      ∃ t, exec (.hostReadFailure 3 r pos layer c) s = .next t
        ∧ t.host.pcie.aerUncor = maskSet s.host.pcie.aerUncor (linkError c).bit true)
  ∧ (∀ (s : State) (k r : Fin 4) (pos layer : Nat) (c : Fin 11),
      s.domOn 5 = true →
      3 ≤ c.val →
      ∃ t, exec (.hostReadFailure k r pos layer c) s = .next t
        ∧ (if (linkError c).cls = 0 then t.host.pcie.aerCor = maskSet s.host.pcie.aerCor (linkError c).bit true ∧ t.host.pcie.aerUncor = s.host.pcie.aerUncor else t.host.pcie.aerUncor = maskSet s.host.pcie.aerUncor (linkError c).bit true)
        ∧ (∀ n : Nat, n < 7 → (t.ring n).arrived = (s.ring n).arrived))

/-- Enabling, disabling, resuming and skipping act on their ring alone. Commands that it says complete: ringEnable, ringDisable, ringResume, ringSkip. -/
def Obligations.RingControlActs : Prop :=
  (∀ (s : State) (n : Fin 7),
      s.shape →
      s.domOn 5 = true →
      s.fbit (R.HOST_RING_CTRL_ENABLE n) = false →
      4 ≤ s.fget (R.HOST_RING_CFG_SIZE_LOG2 n) →
      s.fget (R.HOST_RING_CFG_SIZE_LOG2 n) ≤ 12 →
      ∃ t, exec (.ringEnable n) s = .next t
        ∧ t.fbit (R.HOST_RING_CTRL_ENABLE n) = true
        ∧ t.fbit (R.HOST_RING_STATUS_RUNNING n) = true
        ∧ t.fbit (R.HOST_RING_STATUS_HALTED n) = false
        ∧ (n.val ≠ 4 → t.fget (R.HOST_RING_HEAD_INDEX n) = 0 ∧ t.fget (R.HOST_RING_HEAD_GEN n) = 1))
  ∧ (∀ (s : State) (n : Fin 7),
      s.shape →
      s.domOn 5 = true →
      s.fbit (R.HOST_RING_CTRL_ENABLE n) = true →
      ∃ t, exec (.ringDisable n) s = .next t
        ∧ t.fbit (R.HOST_RING_CTRL_ENABLE n) = false
        ∧ t.fbit (R.HOST_RING_STATUS_RUNNING n) = false
        ∧ t.fbit (R.HOST_RING_STATUS_HALTED n) = false
        ∧ (∀ m : Nat, m < 7 → (t.ring m).arrived = (s.ring m).arrived))
  ∧ (∀ (s : State) (n : Fin 7),
      s.shape →
      s.domOn 5 = true →
      s.fbit (R.HOST_RING_STATUS_HALTED n) = true →
      ∃ t, exec (.ringResume n) s = .next t
        ∧ t.fbit (R.HOST_RING_STATUS_HALTED n) = false
        ∧ (t.ring n).head = (s.ring n).head
        ∧ (∀ m : Nat, m < 7 → (t.ring m).arrived = (s.ring m).arrived))
  ∧ (∀ (s : State) (n : Fin 7),
      s.shape →
      s.domOn 5 = true →
      s.fbit (R.HOST_RING_STATUS_HALTED n) = true →
      ∃ t, exec (.ringSkip n) s = .next t
        ∧ t.fbit (R.HOST_RING_STATUS_HALTED n) = false
        ∧ (t.ring n).head = (s.ring n).head + 1
        ∧ (∀ m : Nat, m < 7 → (t.ring m).arrived = (s.ring m).arrived))
  ∧ (∀ (s : State) (n : Fin 7),
      s.shape →
      s.domOn 5 = true →
      s.fbit (R.HOST_RING_CTRL_ENABLE n) = false →
      (s.fget (R.HOST_RING_CFG_SIZE_LOG2 n) < 4 ∨ 12 < s.fget (R.HOST_RING_CFG_SIZE_LOG2 n)) →
      ∃ t, exec (.ringEnable n) s = .next t
        ∧ t.fbit (R.HOST_RING_CTRL_ENABLE n) = false
        ∧ t.fbit (R.HOST_RING_STATUS_CFG_REFUSED n) = true
        ∧ (∀ m : Nat, m < 7 → (t.ring m).still = (s.ring m).still))
  ∧ (∀ (s : State) (n : Fin 7),
      s.shape →
      s.domOn 5 = true →
      s.fbit (R.HOST_RING_CTRL_ENABLE n) = true →
      ∃ t, exec (.ringEnable n) s = .next t
        ∧ t.fbit (R.HOST_RING_CTRL_ENABLE n) = true
        ∧ (∀ m : Nat, m < 7 → (t.ring m).still = (s.ring m).still))
  ∧ (∀ (s : State) (n : Fin 7),
      s.shape →
      s.domOn 5 = true →
      s.fbit (R.HOST_RING_CTRL_ENABLE n) = false →
      ∃ t, exec (.ringDisable n) s = .next t
        ∧ t.fbit (R.HOST_RING_CTRL_ENABLE n) = false
        ∧ (∀ m : Nat, m < 7 → (t.ring m).still = (s.ring m).still))
  ∧ (∀ (s : State) (n : Fin 7),
      s.shape →
      s.domOn 5 = true →
      s.fbit (R.HOST_RING_STATUS_HALTED n) = false →
      ∃ t, exec (.ringResume n) s = .next t
        ∧ t.fbit (R.HOST_RING_STATUS_HALTED n) = false
        ∧ (∀ m : Nat, m < 7 → (t.ring m).still = (s.ring m).still))
  ∧ (∀ (s : State) (n : Fin 7),
      s.shape →
      s.domOn 5 = true →
      s.fbit (R.HOST_RING_STATUS_HALTED n) = false →
      ∃ t, exec (.ringSkip n) s = .next t
        ∧ t.fbit (R.HOST_RING_STATUS_HALTED n) = false
        ∧ (∀ m : Nat, m < 7 → (t.ring m).still = (s.ring m).still))
  ∧ (∀ (s : State) (ring : Fin 7),
      (s.domOn 5 = false ∨ s.blockOff (0x1010C + 0x40 * ring.val) = true) →
      ∃ t, exec (.ringEnable ring) s = .next t
        ∧ (t = s.after (if s.domOn 5 = true then (s.offAccess (0x1010C + 0x40 * ring.val) true).idleRestart else s)))
  ∧ (∀ (s : State) (ring : Fin 7),
      (s.domOn 5 = false ∨ s.blockOff (0x1010C + 0x40 * ring.val) = true) →
      ∃ t, exec (.ringDisable ring) s = .next t
        ∧ (t = s.after (if s.domOn 5 = true then (s.offAccess (0x1010C + 0x40 * ring.val) true).idleRestart else s)))
  ∧ (∀ (s : State) (ring : Fin 7),
      (s.domOn 5 = false ∨ s.blockOff (0x1010C + 0x40 * ring.val) = true) →
      ∃ t, exec (.ringResume ring) s = .next t
        ∧ (t = s.after (if s.domOn 5 = true then (s.offAccess (0x1010C + 0x40 * ring.val) true).idleRestart else s)))
  ∧ (∀ (s : State) (ring : Fin 7),
      (s.domOn 5 = false ∨ s.blockOff (0x1010C + 0x40 * ring.val) = true) →
      ∃ t, exec (.ringSkip ring) s = .next t
        ∧ (t = s.after (if s.domOn 5 = true then (s.offAccess (0x1010C + 0x40 * ring.val) true).idleRestart else s)))

/-- Link, power state, bus master, resets and coalescing act as their rules give. Commands that it says complete: powerStateChange, busMasterDisable, pcieLinkUp, hostSideReset, coalesceTimeout. -/
def Obligations.HostLinkActs : Prop :=
  (∀ (s : State) (d3 : Bool),
      s.domOn 5 = true →
      ∃ t, exec (.powerStateChange d3) s = .next t
        ∧ t.fbit R.HOST_STATUS_D3 = d3)
  ∧ (∀ (s : State) (on mem en fm eg ec : Bool) (k m : Fin 6) (tmo : Fin 16) (a : Fin 4),
      s.domOn 5 = true →
      ∃ t, exec (.busMasterDisable on mem en fm eg ec k m tmo a) s = .next t
        ∧ t.host.busMaster = on
        ∧ t.host.pcie = { s.host.pcie with memSpace := mem, msixEnable := en, funcMask := fm, ecrcGen := eg, ecrcCheck := ec, timeout := tmo.val, aspm := a.val, mrrs := min 512 (128 * 2 ^ k.val), mps := min 256 (128 * 2 ^ m.val) })
  ∧ (∀ (s : State) (speed width : Fin 8),
      s.domOn 5 = true →
      ∃ t, exec (.pcieLinkUp speed width) s = .next t
        ∧ t.fbit R.HOST_STATUS_LINK_UP = true
        ∧ t.fget R.HOST_STATUS_SPEED = speed
        ∧ t.fget R.HOST_STATUS_WIDTH = width)
  ∧ (∀ (s : State) (k : Fin 4),
      s.shape →
      s.domOn 5 = true →
      ∃ t, exec (.hostSideReset k) s = .next t
        ∧ t.fbit R.HOST_STATUS_D3 = false
        ∧ (∀ n : Nat, n < 7 → t.fbit (R.HOST_RING_CTRL_ENABLE n) = false ∧ (t.ring n).arrived = [] ∧ (t.ring n).fence = none)
        ∧ t.cmds.bulk = []
        ∧ (k = 0 → t.fget R.HOST_RESET_CNT_FLR = min 255 (s.fget R.HOST_RESET_CNT_FLR + 1) ∧ t.fbit R.HOST_STATUS_LINK_UP = s.fbit R.HOST_STATUS_LINK_UP)
        ∧ (k ≠ 0 → t.fget R.HOST_RESET_CNT_LINK_LOSS = min 255 (s.fget R.HOST_RESET_CNT_LINK_LOSS + 1) ∧ t.fbit R.HOST_STATUS_LINK_UP = false))
  ∧ (∀ (s : State) (n : Fin 7),
      s.shape →
      s.ringOn n = true →
      s.ringsPaused = false →
      (s.ring n).unsig ≠ 0 →
      ∃ t, exec (.coalesceTimeout n) s = .next t
        ∧ (t.ring n).unsig = 0
        ∧ (s.host.pcie.msixEnable = true → s.vectorMasked (s.fget (R.HOST_RING_CFG_VECTOR n)) = false → s.msixOut (s.fget (R.HOST_RING_CFG_VECTOR n)) ∈ t.out))
  ∧ (∀ (s : State) (n : Fin 7),
      s.shape →
      (s.ringOn n = false ∨ s.ringsPaused = true ∨ (s.ring n).unsig = 0) →
      ∃ t, exec (.coalesceTimeout n) s = .next t
        ∧ (∀ m : Nat, m < 7 → (t.ring m).still = (s.ring m).still)
        ∧ t.host.pba = s.host.pba)

/-- A write reaches its register, clears the counters it names or is discarded; a read of TIME_NOW_NS latches the clock. Commands that it says complete: registerWrite, clrCntWrite, timeNowRead. -/
def Obligations.RegisterAccessActs : Prop :=
  (∀ (s : State) (a v : Nat),
      s.domOn 5 = true →
      a < 0x100000 →
      a % 4 = 0 →
      s.blockOff a = true →
      ∃ t, exec (.registerWrite a v true) s = .next t
        ∧ t.fget R.HOST_OFFACC_ADDR_ADDR = a % 2 ^ 20
        ∧ t.fbit R.HOST_OFFACC_INFO_WRITE = true)
  ∧ (∀ (s : State) (v : Nat),
      s.domOn 5 = true →
      s.domOn 3 = true →
      ∃ t, exec (.registerWrite 0x50220 v true) s = .next t
        ∧ t.fget R.PIX_SHADE_PEEK_SEL_SLOT = v % 64
        ∧ (∀ b : Nat, b ∈ ([0x10000, 0x10004, 0x40000, 0x50000, 0x50200, 0x60000, 0x70000, 0x80000, 0x90040, 0xA0000] : List Nat) → t.rd b = s.rd b))
  ∧ (∀ (s : State) (v : Nat),
      s.domOn 5 = true →
      s.domOn 1 = true →
      ∃ t, exec (.registerWrite 0x10 v true) s = .next t
        ∧ t.rd 0x10 = BitVec.ofNat 32 v)
  ∧ (∀ (s : State) (a v : Nat),
      s.domOn 5 = true →
      0x18000 ≤ a →
      a < 0x18100 →
      a % 4 = 0 →
      a % 16 ≠ 12 →
      ∃ t, exec (.registerWrite a v true) s = .next t
        ∧ t.rd a = BitVec.ofNat 32 v)
  ∧ (∀ (s : State) (a v : Nat) (whole : Bool),
      s.domOn 5 = true →
      (0x100000 ≤ a ∨ a % 4 ≠ 0 ∨ whole = false ∨ (s.blockOff a = false ∧ findReg a = none ∧ (a < 0x18000 ∨ 0x18100 ≤ a))) →
      ∃ t, exec (.registerWrite a v whole) s = .next t
        ∧ (∀ b : Nat, b ∈ ([0x10, 0x10000, 0x10004, 0x40000, 0x50000, 0x50200, 0x50220, 0x60000, 0x70000, 0x80000, 0x90040, 0xA0000, 0xE0000] : List Nat) → t.rd b = s.rd b))
  ∧ (∀ (s : State) (a bit : Nat) (fs : List Fld),
      s.domOn 5 = true →
      a < 0x100000 →
      s.blockOff a = false →
      clrOf a = some (bit, fs) →
      ∃ t, exec (.clrCntWrite a) s = .next t
        ∧ (∀ f ∈ fs, t.fget f = 0))
  ∧ (∀ (s : State),
      s.domOn 5 = true →
      s.domOn 9 = true →
      s.clk.ns < 2 ^ 30 →
      s.clk.sec < 2 ^ 48 →
      s.clk.frac < 2 ^ 32 →
      ∃ t, exec (.timeNowRead) s = .next t
        ∧ t.fget R.TIME_NOW_NS_NS = s.clk.ns
        ∧ t.fget R.TIME_NOW_FRAC_FRAC = s.clk.frac
        ∧ t.fget R.TIME_NOW_SL_SEC + 2 ^ 32 * t.fget R.TIME_NOW_SH_SEC = s.clk.sec)
  ∧ (∀ (s : State),
      (s.domOn 5 = false ∨ s.blockOff (0x30004) = true) →
      ∃ t, exec (.timeNowRead) s = .next t
        ∧ (t = s.after (if s.domOn 5 = true then s.offAccess (0x30004) false else s)))

/-- A power-on reset and RESET_N leave the device as chapter 20 gives. Commands that it says complete: powerOnReset, resetNAssert, resetNRelease, stuckResetTimeout, collapseResetTimeout. -/
def Obligations.ResetsAct : Prop :=
  (∀ (s : State) (left xspi : Bool),
      ∃ t, exec (.powerOnReset left xspi) s = .next t
        ∧ t.boot.left = left
        ∧ t.boot.xspiSafe = xspi
        ∧ t.fget R.PWR_RESET_CAUSE = b2n s.aon.collapsed
        ∧ t.sup.dir = .up
        ∧ t.sup.purpose = .boot
        ∧ t.aon.running = true
        ∧ t.aon.collapsed = false)
  ∧ (∀ (s : State),
      s.aon.resetHeld = false →
      s.inSentinel = false →
      ∃ t, exec (.resetNAssert) s = .next t
        ∧ t.aon.resetHeld = true
        ∧ t.fget R.PWR_MODE_MODE = 0
        ∧ t.fget R.PWR_MODE_TARGET = 1
        ∧ t.fbit R.PWR_MODE_BUSY = true
        ∧ t.aon.twinAlive = false
        ∧ t.boot.active = false)
  ∧ (∀ (s : State),
      s.aon.resetHeld = false →
      s.inSentinel = true →
      ∃ t, exec (.resetNAssert) s = .next t
        ∧ t.aon.resetHeld = true
        ∧ t.fget R.PWR_MODE_MODE = s.fget R.PWR_MODE_MODE
        ∧ t.mode = s.mode
        ∧ (∀ d : Nat, d < 12 → t.domOn d = s.domOn d))
  ∧ (∀ (s : State),
      s.aon.resetHeld = true →
      ∃ t, exec (.resetNAssert) s = .next t
        ∧ t = s.after s)
  ∧ (∀ (s : State) (left xspi : Bool),
      s.aon.resetHeld = true →
      s.inSentinel = false →
      ∃ t, exec (.resetNRelease left xspi) s = .next t
        ∧ t.aon.resetHeld = false
        ∧ t.boot.left = left
        ∧ t.boot.xspiSafe = xspi
        ∧ t.boot.halted = false
        ∧ t.boot.cause = 2)
  ∧ (∀ (s : State) (left xspi : Bool),
      s.aon.resetHeld = true →
      s.inSentinel = true →
      s.mode.wakeHeld = none →
      ∃ t, exec (.resetNRelease left xspi) s = .next t
        ∧ t.aon.resetHeld = false
        ∧ t.boot = { s.boot with left := left, xspiSafe := xspi }
        ∧ t.mode = s.mode)
  ∧ (∀ (s : State) (left xspi : Bool) (dst cause : Nat),
      s.aon.resetHeld = true →
      s.inSentinel = true →
      s.mode.wakeHeld = some (dst, cause) →
      ∃ t, exec (.resetNRelease left xspi) s = .next t
        ∧ t.aon.resetHeld = false
        ∧ t.boot.left = left
        ∧ t.boot.xspiSafe = xspi
        ∧ t.mode.wakeHeld = none
        ∧ t.mode.trans = some { src := s.modeNow, dst := dst, cause := cause }
        ∧ t.fget R.PWR_MODE_TARGET = dst % 8
        ∧ t.fbit R.PWR_MODE_BUSY = true)
  ∧ (∀ (s : State) (left xspi : Bool),
      s.aon.resetHeld = false →
      ∃ t, exec (.resetNRelease left xspi) s = .next t
        ∧ t = s.after s)
  ∧ (∀ (s : State),
      s.aon.resetHeld = true →
      (s.inSentinel = true → s.mode.wakeHeld.isSome = true) →
      ∃ t, exec (.stuckResetTimeout) s = .next t
        ∧ t.fbit R.PWR_RESET_STUCK_RESET = true
        ∧ t.aon.twinAlive = false)
  ∧ (∀ (s : State),
      (s.aon.resetHeld = false ∨ (s.inSentinel = true ∧ s.mode.wakeHeld = none)) →
      ∃ t, exec (.stuckResetTimeout) s = .next t
        ∧ t = s.after s)
  ∧ (∀ (s : State) (below : Bool),
      (s.aon.collapsed || below) = false →
      ∃ t, exec (.collapseResetTimeout below) s = .next t
        ∧ t = s.after s)
  ∧ (∀ (s : State) (below : Bool),
      (s.aon.collapsed || below) = true →
      ∃ t, exec (.collapseResetTimeout below) s = .next t
        ∧ t.aon.collapsed = true
        ∧ t.aon.running = false
        ∧ (∀ d : Nat, d < 12 → t.domOn d = State.reset.domOn d))

/-- Flash reads, the end of a boot and the end of a restoration. Commands that it says complete: flashReadComplete, bootComplete, restorationComplete. -/
def Obligations.BootSteps : Prop :=
  (∀ (s : State),
      s.boot.active = true →
      s.boot.step = .fw →
      ∃ t, exec (.flashReadComplete true) s = .next t
        ∧ t.boot.step = .ready
        ∧ t.boot.active = true)
  ∧ (∀ (s : State) (st : BootStep),
      s.boot.active = true →
      s.boot.step = st →
      st ≠ .rails →
      st ≠ .ready →
      s.boot.slow = false →
      s.boot.xspiSafe = false →
      ∃ t, exec (.flashReadComplete false) s = .next t
        ∧ t.boot.step = st
        ∧ t.boot.slow = true
        ∧ t.boot.active = true)
  ∧ (∀ (s : State),
      s.boot.active = true →
      s.boot.step = .dir →
      s.dir.trial = none →
      ∃ t, exec (.flashReadComplete true) s = .next t
        ∧ t.boot.step = .slot
        ∧ t.boot.slot = s.dir.active
        ∧ t.boot.trial = s.boot.trial)
  ∧ (∀ (s : State) (n : Nat) (d : SlotDir),
      s.boot.active = true →
      s.boot.step = .dir →
      s.dir = d →
      d.trial = some n →
      ∃ t, exec (.flashReadComplete true) s = .next t
        ∧ t.boot.step = .slot
        ∧ (if d.started = true then t.boot.slot = d.active ∧ t.boot.fallback = true ∧ t.dir.trial = none else t.boot.slot = n ∧ t.boot.trial = true ∧ t.dir.started = true ∧ t.dir.trial = some n))
  ∧ (∀ (s : State),
      s.boot.active = true →
      s.boot.step = .slot →
      s.slotValid s.boot.slot = true →
      ∃ t, exec (.flashReadComplete true) s = .next t
        ∧ t.boot.step = .spb
        ∧ t.boot.slot = s.boot.slot)
  ∧ (∀ (s : State),
      s.boot.active = true →
      s.boot.step = .slot →
      s.slotValid s.boot.slot = false →
      ∃ t, exec (.flashReadComplete true) s = .next t
        ∧ (if s.boot.trial = true then t.boot.slot = s.dir.active ∧ t.boot.trial = false ∧ t.boot.fallback = true ∧ t.dir.trial = none else if s.boot.otherTried = false then t.boot.slot = 1 - s.boot.slot ∧ t.boot.fallback = true ∧ t.boot.otherTried = true else t.boot.halted = true ∧ t.boot.active = false ∧ t.fbit R.PWR_RESET_BOOT_FAIL = true))
  ∧ (∀ (s : State),
      s.boot.active = true →
      s.boot.step = .spb →
      ∃ t, exec (.flashReadComplete true) s = .next t
        ∧ (t.boot.step = if s.boot.limpOnly = true then .ready else .fw)
        ∧ (t.safe.spb = if (chooseSpb (nth s.flash.spbs 0) (nth s.flash.spbs 1)).source = 0 then none else some (recImage (if (chooseSpb (nth s.flash.spbs 0) (nth s.flash.spbs 1)).source = 2 then nth s.flash.spbs 1 else nth s.flash.spbs 0))))
  ∧ (∀ (s : State),
      s.boot.active = false →
      s.safe.spbReload = true →
      s.domOn 2 = true →
      ∃ t, exec (.flashReadComplete true) s = .next t
        ∧ t.safe.spbReload = false)
  ∧ (∀ (s : State) (ok : Bool),
      ((s.boot.active = false ∧ (s.safe.spbReload = false ∨ s.domOn 2 = false)) ∨ (s.boot.active = true ∧ (s.boot.step = .rails ∨ s.boot.step = .ready))) →
      ∃ t, exec (.flashReadComplete ok) s = .next t
        ∧ t = s.after s)
  ∧ (∀ (s : State) (units : List (Nat × Nat)) (lanes : List Nat) (otherFail : Bool) (durUs repairs rows cols : Nat),
      s.boot.active = true →
      s.boot.step = .ready →
      s.boot.cause ≤ 2 →
      ∃ t, exec (.bootComplete units lanes true otherFail durUs repairs rows cols) s = .next t
        ∧ t.boot.halted = true
        ∧ t.boot.active = false
        ∧ t.fbit R.PWR_RESET_POST_SAFE_FAIL = true)
  ∧ (∀ (s : State) (units : List (Nat × Nat)) (lanes : List Nat) (safeFail otherFail : Bool) (durUs repairs rows cols : Nat),
      (s.boot.active = false ∨ s.boot.step ≠ .ready ∨ 2 < s.boot.cause) →
      ∃ t, exec (.bootComplete units lanes safeFail otherFail durUs repairs rows cols) s = .next t
        ∧ t = s.after s)
  ∧ (∀ (s : State) (units : List (Nat × Nat)) (lanes : List Nat) (durUs repairs rows cols : Nat),
      s.boot.active = true →
      s.boot.step = .ready →
      s.boot.cause ≤ 2 →
      s.domOn 1 = true →
      ∃ t, exec (.bootComplete units lanes false true durUs repairs rows cols) s = .next t
        ∧ t.boot.active = false
        ∧ t.faultOn 29 = true
        ∧ t.fbit R.TEST_STATUS_POST_FAIL = true)
  ∧ (∀ (s : State) (units : List (Nat × Nat)) (lanes : List Nat) (durUs repairs rows cols : Nat),
      (∀ e ∈ units, e.1 ≠ 1) →
      lanes.length < 2 →
      s.boot.active = true →
      s.boot.step = .ready →
      s.boot.cause ≤ 2 →
      s.boot.limpOnly = false →
      s.mode.limpFault = none →
      s.mode.latchedRule = none →
      ∃ t, exec (.bootComplete units lanes false false durUs repairs rows cols) s = .next t
        ∧ t.boot.active = false
        ∧ t.fget R.PWR_MODE_MODE = 1
        ∧ t.fget R.PWR_MODE_CAUSE = 3
        ∧ t.fbit R.PWR_MODE_BUSY = false
        ∧ t.fbit R.PWR_RESET_STUCK_RESET = false)
  ∧ (∀ (s : State) (units : List (Nat × Nat)) (lanes : List Nat) (safeFail otherFail : Bool) (durUs repairs rows cols : Nat),
      s.boot.active = true →
      s.boot.step = .ready →
      s.boot.cause = 4 →
      s.sup.restoring = true →
      s.boot.limpOnly = false →
      ∃ t, exec (.restorationComplete units lanes safeFail otherFail durUs repairs rows cols) s = .next t
        ∧ t.boot.active = false
        ∧ t.sup.restoring = false
        ∧ t.sup.shed = false
        ∧ t.fbit R.PWR_SUPPLY_STATUS_LIMP_SUPPLY = false)
  ∧ (∀ (s : State) (units : List (Nat × Nat)) (lanes : List Nat) (safeFail otherFail : Bool) (durUs repairs rows cols : Nat),
      (s.boot.active = false ∨ s.boot.step ≠ .ready ∨ s.boot.cause ≠ 4 ∨ s.sup.restoring = false) →
      ∃ t, exec (.restorationComplete units lanes safeFail otherFail durUs repairs rows cols) s = .next t
        ∧ t = s.after s)

/-- The power path follows MAIN_OK; ride-through, shedding and collapse follow it. Commands that it says complete: mainOkFall, mainOkRise, bkupHighEnough, rideThroughExpiry, sheddingStart, returnTimerExpiry, supplyCollapse. -/
def Obligations.PowerPathActs : Prop :=
  (∀ (s : State) (m b : Nat),
      s.fbit R.PWR_SUPPLY_STATUS_MAIN_OK = true →
      m < s.mainTh →
      ∃ t, exec (.mainOkFall m b) s = .next t
        ∧ t.fbit R.PWR_SUPPLY_STATUS_MAIN_OK = false
        ∧ (m + 100 ≤ b → t.fbit R.PWR_SUPPLY_STATUS_ON_BKUP = true ∧ t.fget R.PWR_COUNT_SWITCHOVERS = min 65535 (s.fget R.PWR_COUNT_SWITCHOVERS + 1))
        ∧ (b < m + 100 → t.fbit R.PWR_SUPPLY_STATUS_BKUP_LOW = true)
        ∧ (s.sup.restoring = true → t.sup.restoring = false ∧ t.boot.active = false ∧ t.domOn 5 = false)
        ∧ (s.sup.restoring = false → (s.modeNow ≠ 0 ∨ s.fbit R.PWR_MODE_BUSY = true) → t.fbit R.PWR_SUPPLY_STATUS_RIDING = true))
  ∧ (∀ (s : State) (m b : Nat),
      (s.fbit R.PWR_SUPPLY_STATUS_MAIN_OK = false ∨ s.mainTh ≤ m) →
      ∃ t, exec (.mainOkFall m b) s = .next t
        ∧ t = s.after s)
  ∧ (∀ (s : State) (m : Nat),
      s.fbit R.PWR_SUPPLY_STATUS_MAIN_OK = false →
      s.mainTh + s.mainHyst < m →
      ∃ t, exec (.mainOkRise m) s = .next t
        ∧ t.fbit R.PWR_SUPPLY_STATUS_MAIN_OK = true
        ∧ t.fbit R.PWR_SUPPLY_STATUS_ON_BKUP = false
        ∧ t.fbit R.PWR_SUPPLY_STATUS_BKUP_LOW = false
        ∧ t.fbit R.PWR_SUPPLY_STATUS_RIDING = false
        ∧ t.aon.mainLowMs = 0)
  ∧ (∀ (s : State) (m : Nat),
      (s.fbit R.PWR_SUPPLY_STATUS_MAIN_OK = true ∨ m ≤ s.mainTh + s.mainHyst) →
      ∃ t, exec (.mainOkRise m) s = .next t
        ∧ t = s.after s)
  ∧ (∀ (s : State) (m b : Nat),
      s.fbit R.PWR_SUPPLY_STATUS_BKUP_LOW = true →
      s.fbit R.PWR_SUPPLY_STATUS_MAIN_OK = false →
      m + 100 ≤ b →
      ∃ t, exec (.bkupHighEnough m b) s = .next t
        ∧ t.fbit R.PWR_SUPPLY_STATUS_ON_BKUP = true
        ∧ t.fbit R.PWR_SUPPLY_STATUS_BKUP_LOW = false
        ∧ t.fget R.PWR_COUNT_SWITCHOVERS = min 65535 (s.fget R.PWR_COUNT_SWITCHOVERS + 1))
  ∧ (∀ (s : State) (m b : Nat),
      (s.fbit R.PWR_SUPPLY_STATUS_BKUP_LOW = false ∨ s.fbit R.PWR_SUPPLY_STATUS_MAIN_OK = true ∨ b < m + 100) →
      ∃ t, exec (.bkupHighEnough m b) s = .next t
        ∧ t = s.after s)
  ∧ (∀ (s : State),
      s.fbit R.PWR_SUPPLY_STATUS_RIDING = true →
      s.fbit R.PWR_SUPPLY_STATUS_MAIN_OK = false →
      ∃ t, exec (.rideThroughExpiry) s = .next t
        ∧ t.fbit R.PWR_SUPPLY_STATUS_RIDING = false
        ∧ t.fbit R.PWR_SUPPLY_STATUS_MAIN_LOST = true
        ∧ t.fget R.PWR_COUNT_RIDE_FAILS = min 65535 (s.fget R.PWR_COUNT_RIDE_FAILS + 1)
        ∧ (s.domOn 1 = true → t.faultOn 30 = true ∧ t.fget R.SAFE_FAULT_LAST_CODE = 30))
  ∧ (∀ (s : State),
      (s.fbit R.PWR_SUPPLY_STATUS_RIDING = false ∨ s.fbit R.PWR_SUPPLY_STATUS_MAIN_OK = true) →
      ∃ t, exec (.rideThroughExpiry) s = .next t
        ∧ t = s.after s)
  ∧ (∀ (s : State),
      s.sup.shedDue = true →
      s.modeNow = 4 →
      s.fbit R.PWR_MODE_BUSY = false →
      ∃ t, exec (.sheddingStart) s = .next t
        ∧ t.sup.shedDue = false
        ∧ t.fbit (R.PWR_RAIL_STAT_EN 4) = false
        ∧ (∀ d : Nat, d ∈ ([2, 3, 4, 5, 7, 8, 9] : List Nat) → t.domOn d = false)
        ∧ (s.fbit (R.PWR_RAIL_STAT_PG 4) = true → t.sup.dir = .down ∧ t.sup.purpose = .shed ∧ t.sup.rail = 4)
        ∧ ((∀ r : Nat, r < 5 → s.fbit (R.PWR_RAIL_STAT_PG r) = false) → t.sup.shed = true ∧ t.sup.dir = .none ∧ ∀ r : Nat, r < 5 → t.fbit (R.PWR_RAIL_STAT_EN r) = false))
  ∧ (∀ (s : State),
      (s.sup.shedDue = false ∨ s.modeNow ≠ 4 ∨ s.fbit R.PWR_MODE_BUSY = true) →
      ∃ t, exec (.sheddingStart) s = .next t
        ∧ t = s.after s)
  ∧ (∀ (s : State),
      s.sup.shed = true →
      s.fbit R.PWR_SUPPLY_STATUS_MAIN_OK = true →
      s.sup.restoring = false →
      s.sup.railsFailed = false →
      s.inReset = false →
      s.boot.active = false →
      ∃ t, exec (.returnTimerExpiry) s = .next t
        ∧ t.sup.restoring = true
        ∧ t.sup.shed = false
        ∧ (s.railsOn = false → t.sup.dir = .up ∧ t.sup.purpose = .restore ∧ s.railAfter 0 = some t.sup.rail)
        ∧ (s.railsOn = true → t.boot.active = true ∧ t.boot.cause = 4 ∧ t.boot.step = .fw))
  ∧ (∀ (s : State),
      (s.sup.shed = false ∨ s.fbit R.PWR_SUPPLY_STATUS_MAIN_OK = false ∨ s.sup.restoring = true ∨ s.sup.railsFailed = true ∨ s.inReset = true ∨ s.boot.active = true) →
      ∃ t, exec (.returnTimerExpiry) s = .next t
        ∧ t = s.after s)
  ∧ (∀ (s : State),
      ∃ t, exec (.supplyCollapse) s = .next t
        ∧ t.aon.collapsed = true
        ∧ t.sup.dir = .none
        ∧ t.sup.step = .idle
        ∧ t.fbit R.PWR_SUPPLY_STATUS_RIDING = false
        ∧ (s.domOn 1 = true → t.fbit R.SAFE_TOT_SRC_SUPPLY = true ∧ t.faultOn 31 = true))

/-- The rail sequencer, its PMBus master and PWR_DOM_REQ. Commands that it says complete: railPowerGoodChange, railPgTimeout, railRetryTimeout, railRecoveryRetry, pmbusTransactionDone, railStatusPoll, domainOffRequest. -/
def Obligations.RailsAct : Prop :=
  (∀ (s : State) (r : Fin 5) (high : Bool),
      ∃ t, exec (.railPowerGoodChange r high) s = .next t
        ∧ t.fbit (R.PWR_RAIL_STAT_PG r) = high)
  ∧ (∀ (s : State) (r k : Fin 5),
      s.sup.dir = .up →
      s.sup.rail = r →
      s.sup.step = .waitPg →
      s.aon.resetHeld = false →
      s.railAfter (r + 1) = some k →
      k.val ≠ r.val →
      ∃ t, exec (.railPowerGoodChange r true) s = .next t
        ∧ t.sup.dir = .up
        ∧ t.sup.rail = k
        ∧ t.sup.retried = false)
  ∧ (∀ (s : State) (r : Fin 5),
      s.fbit (R.PWR_RAIL_STAT_PG r) = true →
      s.sup.dir = .down →
      s.sup.rail = r →
      s.sup.step = .waitLow →
      s.lastDown < r.val →
      ∃ t, exec (.railPowerGoodChange r false) s = .next t
        ∧ t.fbit (R.PWR_RAIL_STAT_EN (r - 1)) = false
        ∧ t.sup.rail < r ∧ t.sup.dir ≠ .up)
  ∧ (∀ (s : State) (r : Fin 5),
      s.fbit (R.PWR_RAIL_STAT_PG r) = true →
      s.fbit (R.PWR_RAIL_STAT_EN r) = true →
      (¬(s.sup.dir = .down ∧ s.sup.rail = r ∧ s.sup.step = .waitLow)) →
      s.aon.running = true →
      ∃ t, exec (.railPowerGoodChange r false) s = .next t
        ∧ t.fbit (R.PWR_RAIL_STAT_ERR r) = true
        ∧ t.fbit (R.PWR_RAIL_STAT_EN r) = false
        ∧ t.fget (R.PWR_RAIL_STAT_FAILS r) = min 255 (s.fget (R.PWR_RAIL_STAT_FAILS r) + 1))
  ∧ (∀ (s : State) (r : Fin 5),
      s.sup.rail = r →
      s.sup.dir = .up →
      s.sup.step = .waitPg →
      s.sup.retried = false →
      s.fbit (R.PWR_RAIL_STAT_PG r) = false →
      ∃ t, exec (.railPgTimeout r) s = .next t
        ∧ t.sup.step = .retryWait
        ∧ t.fbit (R.PWR_RAIL_STAT_EN r) = false
        ∧ t.fget (R.PWR_RAIL_STAT_FAILS r) = min 255 (s.fget (R.PWR_RAIL_STAT_FAILS r) + 1))
  ∧ (∀ (s : State) (r : Fin 5),
      s.sup.rail = r →
      s.sup.dir = .up →
      s.sup.step = .waitPg →
      s.sup.retried = true →
      s.fbit (R.PWR_RAIL_STAT_PG r) = false →
      ∃ t, exec (.railPgTimeout r) s = .next t
        ∧ t.fbit (R.PWR_RAIL_STAT_ERR r) = true
        ∧ t.fbit (R.PWR_RAIL_STAT_EN r) = false
        ∧ t.fget (R.PWR_RAIL_STAT_FAILS r) = min 255 (s.fget (R.PWR_RAIL_STAT_FAILS r) + 1)
        ∧ t.sup.railsFailed = true)
  ∧ (∀ (s : State) (r k : Fin 5),
      s.sup.rail = r →
      s.sup.dir = .up →
      s.sup.step = .waitPg →
      s.fbit (R.PWR_RAIL_STAT_PG r) = true →
      s.aon.resetHeld = false →
      s.railAfter (r + 1) = some k →
      ∃ t, exec (.railPgTimeout r) s = .next t
        ∧ t.sup.dir = .up
        ∧ t.sup.rail = k)
  ∧ (∀ (s : State) (r : Fin 5),
      s.sup.rail = r →
      s.sup.dir = .down →
      s.sup.step = .waitLow →
      s.lastDown < r.val →
      ∃ t, exec (.railPgTimeout r) s = .next t
        ∧ t.fbit (R.PWR_RAIL_STAT_EN (r - 1)) = false
        ∧ t.sup.rail < r ∧ t.sup.dir ≠ .up)
  ∧ (∀ (s : State) (r : Fin 5),
      s.sup.rail = r →
      s.sup.dir = .up →
      s.sup.step = .retryWait →
      ∃ t, exec (.railRetryTimeout r) s = .next t
        ∧ t.sup.retried = true
        ∧ (s.fbit (R.PWR_RAIL_CFG_PMB r) = false → t.sup.step = .waitPg ∧ t.fbit (R.PWR_RAIL_STAT_EN r) = true)
        ∧ (s.fbit (R.PWR_RAIL_CFG_PMB r) = true → t.sup.step = .setVoltage ∧ .railVout r.val ∈ t.sup.jobs))
  ∧ (∀ (s : State) (r : Fin 5),
      (s.sup.rail ≠ r ∨ s.sup.dir ≠ .up ∨ s.sup.step ≠ .retryWait) →
      ∃ t, exec (.railRetryTimeout r) s = .next t
        ∧ t = s.after s)
  ∧ (∀ (s : State),
      s.sup.railsFailed = true →
      s.sup.shed = true →
      s.sup.recoveryUsed = false →
      s.inReset = false →
      ∃ t, exec (.railRecoveryRetry) s = .next t
        ∧ t.sup.recoveryUsed = true
        ∧ (s.railsOn = false → t.sup.dir = .up ∧ t.sup.purpose = .recovery)
        ∧ (s.railsOn = true → t.boot.active = true ∧ t.sup.restoring = true))
  ∧ (∀ (s : State),
      (s.sup.railsFailed = false ∨ s.sup.shed = false ∨ s.sup.recoveryUsed = true ∨ s.inReset = true) →
      ∃ t, exec (.railRecoveryRetry) s = .next t
        ∧ t = s.after s)
  ∧ (∀ (s : State) (r : Fin 5) (data : Nat) (pec : Fin 256),
      s.sup.busy = some (.railVout r) →
      s.sup.dir = .up →
      s.sup.step = .setVoltage →
      s.sup.rail = r →
      ∃ t, exec (.pmbusTransactionDone true data pec) s = .next t
        ∧ t.sup.step = .waitPg
        ∧ t.sup.jobTries = 0
        ∧ t.fbit (R.PWR_RAIL_STAT_EN r) = true)
  ∧ (∀ (s : State) (r : Fin 5) (data : Nat) (pec : Fin 256) (j : PmbusJob),
      s.sup.busy = some j →
      (j = .railPage r ∨ j = .railVout r) →
      s.sup.dir = .up →
      s.sup.step = .setVoltage →
      s.sup.rail = r →
      ∃ t, exec (.pmbusTransactionDone false data pec) s = .next t
        ∧ (if s.sup.jobTries < 2 then t.sup.jobTries = s.sup.jobTries + 1 ∧ t.sup.busy = some j else t.fget (R.PWR_RAIL_STAT_FAILS r) = min 255 (s.fget (R.PWR_RAIL_STAT_FAILS r) + 1) ∧ t.fbit (R.PWR_RAIL_STAT_EN r) = false))
  ∧ (∀ (s : State) (r : Fin 5) (data : Nat) (pec : Fin 256),
      s.shape →
      s.sup.busy = some (.railMode r) →
      s.sup.dir = .up →
      s.sup.step = .setVoltage →
      s.sup.rail = r →
      pec = s.readPec (.railMode r) data →
      data / 32 % 8 = 0 →
      ∃ t, exec (.pmbusTransactionDone true data pec) s = .next t
        ∧ t.railExp r = toSigned 5 (data % 32))
  ∧ (∀ (s : State) (r : Fin 5) (data : Nat) (pec : Fin 256),
      s.sup.busy = some (.pollStatus r) →
      pec = s.readPec (.pollStatus r) data →
      ∃ t, exec (.pmbusTransactionDone true data pec) s = .next t
        ∧ t.fget (R.PWR_RAIL_STAT_STATUS_WORD r) = data % 2 ^ 16)
  ∧ (∀ (s : State) (r : Fin 5) (data : Nat) (pec : Fin 256) (e : Int),
      s.sup.busy = some (.pollVout r) →
      pec = s.readPec (.pollVout r) data →
      nth s.sup.exps r = some e →
      ∃ t, exec (.pmbusTransactionDone true data pec) s = .next t
        ∧ t.fget (R.PWR_RAIL_VOUT_READ_MV r) = voutMv data e % 2 ^ 16)
  ∧ (∀ (s : State) (ok : Bool) (data : Nat) (pec : Fin 256) (r : Fin 5) (j : PmbusJob),
      s.sup.busy = some j →
      (j = .pollVout r ∨ j = .pollStatus r) →
      (ok = false ∨ pec.val ≠ s.readPec j data) →
      ∃ t, exec (.pmbusTransactionDone ok data pec) s = .next t
        ∧ t.fget (R.PWR_RAIL_STAT_STATUS_WORD r) = s.fget (R.PWR_RAIL_STAT_STATUS_WORD r)
        ∧ t.fget (R.PWR_RAIL_VOUT_READ_MV r) = s.fget (R.PWR_RAIL_VOUT_READ_MV r))
  ∧ (∀ (s : State) (ok : Bool) (data : Nat) (pec : Fin 256),
      s.sup.busy = none →
      ∃ t, exec (.pmbusTransactionDone ok data pec) s = .next t
        ∧ t = s.after s)
  ∧ (∀ (s : State) (r : Fin 5),
      s.fbit (R.PWR_RAIL_STAT_EN r) = true →
      s.fbit (R.PWR_RAIL_CFG_PMB r) = true →
      ∃ t, exec (.railStatusPoll) s = .next t
        ∧ (.pollVout r.val ∈ t.sup.jobs ∨ t.sup.busy = some (.pollVout r))
        ∧ .pollStatus r.val ∈ t.sup.jobs)
  ∧ (∀ (s : State),
      (∀ r : Nat, r < 5 → s.fbit (R.PWR_RAIL_STAT_EN r) = false ∨ s.fbit (R.PWR_RAIL_CFG_PMB r) = false) →
      ∃ t, exec (.railStatusPoll) s = .next t
        ∧ t.sup.jobs.length ≤ s.sup.jobs.length
        ∧ (s.sup.busy.isSome = true → t.sup.jobs = s.sup.jobs))
  ∧ (∀ (s : State) (v : Fin 8),
      s.domOn 5 = true →
      s.blockOff 0x20020 = false →
      ∃ t, exec (.domainOffRequest v) s = .next t
        ∧ t.fbit R.PWR_DOM_REQ_TLB_OFF = bitOf v 0
        ∧ t.fbit R.PWR_DOM_REQ_TWIN_OFF = bitOf v 1
        ∧ t.fbit R.PWR_DOM_REQ_NET_OFF = bitOf v 2)
  ∧ (∀ (s : State) (v : Fin 8),
      s.domOn 5 = true →
      s.blockOff 0x20020 = false →
      s.domReqActs = true →
      ∃ t, exec (.domainOffRequest v) s = .next t
        ∧ (bitOf v 0 = false → t.domOn 7 = true)
        ∧ (bitOf v 1 = false → t.domOn 8 = true)
        ∧ (bitOf v 2 = false → t.domOn 9 = true)
        ∧ (bitOf v 0 = true → s.domOn 7 = true → (t.domOn 7 = false ↔ s.domOffRefused 7 = false))
        ∧ (bitOf v 1 = true → s.domOn 8 = true → s.domOffRefused 8 = false → t.domOn 8 = false)
        ∧ (bitOf v 2 = true → s.domOn 9 = true → s.domOffRefused 9 = false → t.domOn 9 = false))
  ∧ (∀ (s : State) (value : Fin 8),
      (s.domOn 5 = false ∨ s.blockOff (0x20020) = true) →
      ∃ t, exec (.domainOffRequest value) s = .next t
        ∧ (t = s.after (if s.domOn 5 = true then (s.offAccess (0x20020) true).idleRestart else s)))

/-- Every request for a mode, for Totality and for its release. Commands that it says complete: mode, blank, unblank. -/
def Obligations.ModeRequests : Prop :=
  (∀ (s : State) (r : Fin 4) (d : Desc) (dst : Nat),
      s.shape →
      s.ready r [0x40] = some d →
      d.ring = r →
      d.arg 16 1 = dst →
      s.modeStatus d = .ok →
      dst ≠ s.modeNow →
      (dst = 1 ∨ dst = 2 ∨ dst = 5) →
      ∃ t, exec (.mode r) s = .next t
        ∧ t.fget R.PWR_MODE_TARGET = dst
        ∧ t.fbit R.PWR_MODE_BUSY = true
        ∧ t.fget R.PWR_MODE_MODE = s.fget R.PWR_MODE_MODE
        ∧ (t.mode.trans = some { src := s.modeNow, dst := dst, cause := 0, cmd := some (d.ring, d.pos), waitSurf := if s.modeNow = 4 then (List.range 4).filter s.surfEnabled else [] })
        ∧ (t.ring r).arrived = (s.ring r).arrived.drop 1)
  ∧ (∀ (s : State) (r : Fin 4) (d : Desc),
      s.shape →
      s.ready r [0x40] = some d →
      d.ring = r →
      d.arg 16 1 = 4 →
      s.modeStatus d = .ok →
      s.modeNow ≠ 4 →
      (s.modeNow = 3 → s.fbit R.PWR_SUPPLY_STATUS_LIMP_SUPPLY = true) →
      ∃ t, exec (.mode r) s = .next t
        ∧ t.fget R.PWR_MODE_MODE = 4
        ∧ t.fbit R.PWR_MODE_BUSY = false
        ∧ t.safe.form ≠ .none
        ∧ (t.ring r).arrived = (s.ring r).arrived.drop 1)
  ∧ (∀ (s : State) (r : Fin 4) (d : Desc),
      s.shape →
      s.ready r [0x40] = some d →
      d.ring = r →
      d.arg 16 1 = 4 →
      s.modeStatus d = .ok →
      s.modeNow = 3 →
      s.fbit R.PWR_SUPPLY_STATUS_LIMP_SUPPLY = false →
      ∃ t, exec (.mode r) s = .next t
        ∧ t.fget R.PWR_MODE_MODE = 3
        ∧ t.fget R.PWR_MODE_TARGET = 4
        ∧ t.fbit R.PWR_MODE_BUSY = true
        ∧ t.safe.form ≠ .none
        ∧ t.safe.parkBeam = false
        ∧ (t.ring r).arrived = (s.ring r).arrived.drop 1)
  ∧ (∀ (s : State) (r : Fin 4) (d : Desc),
      s.shape →
      s.ready r [0x40] = some d →
      d.ring = r →
      d.arg 16 1 = 0 →
      s.modeStatus d = .ok →
      s.modeNow ≠ 0 →
      ∃ t, exec (.mode r) s = .next t
        ∧ t.fget R.PWR_MODE_TARGET = 0
        ∧ t.fbit R.PWR_MODE_BUSY = true
        ∧ t.mode.trans = some { src := s.modeNow, dst := 0, cause := 0 }
        ∧ (∀ n : Nat, n < 12 → n ≠ 0 → t.domOn n = false))
  ∧ (∀ (s : State) (r : Fin 4) (d : Desc),
      s.shape →
      s.ready r [0x40] = some d →
      d.ring = r →
      d.arg 16 1 = 3 →
      s.modeStatus d = .ok →
      s.modeNow ≠ 3 →
      ∃ t, exec (.mode r) s = .next t
        ∧ t.fget R.PWR_MODE_TARGET = 3
        ∧ t.fbit R.PWR_MODE_BUSY = true
        ∧ t.fget R.PWR_MODE_MODE = s.fget R.PWR_MODE_MODE
        ∧ t.mode.trans = some { src := s.modeNow, dst := 3, cause := 0 }
        ∧ t.mode.parkSurfaces = (List.range 4).filter s.surfEnabled
        ∧ (t.ring r).arrived = (s.ring r).arrived.drop 1)
  ∧ (∀ (s : State) (r : Fin 4) (d : Desc),
      s.shape →
      s.ready r [0x40] = some d →
      d.ring = r →
      d.arg 16 1 = s.modeNow →
      s.modeStatus d = .ok →
      ∃ t, exec (.mode r) s = .next t
        ∧ t.fget R.PWR_MODE_MODE = s.fget R.PWR_MODE_MODE
        ∧ t.fget R.PWR_MODE_TARGET = s.fget R.PWR_MODE_TARGET
        ∧ t.fbit R.PWR_MODE_BUSY = s.fbit R.PWR_MODE_BUSY
        ∧ t.mode = s.mode
        ∧ (t.ring r).arrived = (s.ring r).arrived.drop 1)
  ∧ (∀ (s : State) (r : Fin 4) (d : Desc),
      s.shape →
      s.ready r [0x40] = some d →
      d.ring = r →
      d.arg 16 1 ≠ 0x10 →
      d.arg 16 1 ≠ 0x11 →
      s.modeStatus d ≠ .ok →
      ∃ t, exec (.mode r) s = .next t
        ∧ t.fget R.PWR_MODE_MODE = s.fget R.PWR_MODE_MODE
        ∧ t.fget R.PWR_MODE_TARGET = s.fget R.PWR_MODE_TARGET
        ∧ t.fbit R.PWR_MODE_BUSY = s.fbit R.PWR_MODE_BUSY
        ∧ (t.ring r).arrived = (s.ring r).arrived.drop 1)
  ∧ (∀ (s : State) (r : Fin 4),
      s.ready r [0x40] = none →
      ∃ t, exec (.mode r) s = .next t
        ∧ t = s.after s)
  ∧ (∀ (s : State) (r : Fin 4) (d : Desc),
      s.ready r [0x40] = some d →
      (d.arg 16 1 = 0x10 ∨ d.arg 16 1 = 0x11) →
      ∃ t, exec (.mode r) s = .next t
        ∧ t = s.after s)
  ∧ (∀ (s : State) (d : Desc),
      s.shape →
      s.ready 0 [0x40] = some d →
      d.ring = 0 →
      d.arg 16 1 = 0x10 →
      d.blankOk = true →
      ∃ t, exec (.blank) s = .next t
        ∧ t.safe.hostTot = s.safe.hostTot ||| d.arg 18 2
        ∧ (d.arg 18 2 ≠ 0 → t.fbit R.SAFE_TOT_SRC_HOST = true)
        ∧ (∀ p : Nat, p < 24 → bitOf (s.groupScope (d.arg 18 2)) p = true → t.totHolds p = true)
        ∧ (t.ring 0).arrived = (s.ring 0).arrived.drop 1)
  ∧ (∀ (s : State) (d : Desc),
      s.shape →
      s.ready 0 [0x40] = some d →
      d.ring = 0 →
      d.arg 16 1 = 0x10 →
      d.blankOk = false →
      ∃ t, exec (.blank) s = .next t
        ∧ t.safe.hostTot = s.safe.hostTot
        ∧ t.fget R.SAFE_TOT_PORTS_PORTS = s.fget R.SAFE_TOT_PORTS_PORTS
        ∧ (t.ring 0).arrived = (s.ring 0).arrived.drop 1)
  ∧ (∀ (s : State) (d : Desc),
      (s.ready 0 [0x40] = none ∨ (s.ready 0 [0x40] = some d ∧ d.arg 16 1 ≠ 0x10)) →
      ∃ t, exec (.blank) s = .next t
        ∧ t = s.after s)
  ∧ (∀ (s : State) (d : Desc),
      s.shape →
      s.ready 0 [0x40] = some d →
      d.ring = 0 →
      d.arg 16 1 = 0x11 →
      d.blankOk = true →
      ∃ t, exec (.unblank) s = .next t
        ∧ (∀ i : Nat, i < 9 → bitOf t.safe.hostTot i = (bitOf s.safe.hostTot i && !bitOf (d.arg 18 2) i))
        ∧ (s.safe.hostTot ≠ 0 → s.safe.hostTot < 512 → t.safe.hostTot = 0 → t.fbit R.SAFE_TOT_SRC_HOST = false)
        ∧ (t.ring 0).arrived = (s.ring 0).arrived.drop 1)
  ∧ (∀ (s : State) (d : Desc),
      s.shape →
      s.ready 0 [0x40] = some d →
      d.ring = 0 →
      d.arg 16 1 = 0x11 →
      d.blankOk = false →
      ∃ t, exec (.unblank) s = .next t
        ∧ t.safe.hostTot = s.safe.hostTot
        ∧ t.fget R.SAFE_TOT_PORTS_PORTS = s.fget R.SAFE_TOT_PORTS_PORTS
        ∧ (t.ring 0).arrived = (s.ring 0).arrived.drop 1)
  ∧ (∀ (s : State) (d : Desc),
      (s.ready 0 [0x40] = none ∨ (s.ready 0 [0x40] = some d ∧ d.arg 16 1 ≠ 0x11)) →
      ∃ t, exec (.unblank) s = .next t
        ∧ t = s.after s)

/-- Transitions complete, timers expire, and Tarn samples. Commands that it says complete: modeTransitionComplete, idleTimerExpiry, lreqOffExpiry, nosurfCheck, tarnSample, tarnTimerExpiry, hostWakeRelease, xtal32Absence. -/
def Obligations.ModesAct : Prop :=
  (∀ (s : State) (m : ModeTrans) (units : List (Nat × Nat)) (lanes : List Nat) (safeFail otherFail : Bool) (durUs repairs rows cols : Nat),
      s.mode.trans = some m →
      m.waitSurf = [] →
      s.mode.parkWait = [] →
      m.cause ≠ 3 →
      s.unparking = false →
      m.src ≠ 0 →
      (m.dst = 1 ∨ m.dst = 2 ∨ m.dst = 5) →
      (m.dst = 5 → s.safe.session = true ∧ s.fget R.BOOT_STATUS_LC = lcService) →
      s.mode.limpFault = none →
      s.mode.latchedRule = none →
      ∃ t, exec (.modeTransitionComplete units lanes safeFail otherFail durUs repairs rows cols) s = .next t
        ∧ t.fget R.PWR_MODE_MODE = m.dst
        ∧ t.fbit R.PWR_MODE_BUSY = false
        ∧ t.fget R.PWR_MODE_CAUSE = m.cause % 2 ^ 16
        ∧ t.mode.trans = none)
  ∧ (∀ (s : State) (m : ModeTrans) (units : List (Nat × Nat)) (lanes : List Nat) (safeFail otherFail : Bool) (durUs repairs rows cols : Nat) (f : Nat),
      s.mode.trans = some m →
      m.waitSurf = [] →
      s.mode.parkWait = [] →
      m.cause ≠ 3 →
      s.unparking = false →
      m.src ≠ 0 →
      (m.dst = 1 ∨ m.dst = 2 ∨ m.dst = 5) →
      (m.dst = 5 → s.safe.session = true ∧ s.fget R.BOOT_STATUS_LC = lcService) →
      s.mode.limpFault = some f →
      ∃ t, exec (.modeTransitionComplete units lanes safeFail otherFail durUs repairs rows cols) s = .next t
        ∧ t.fget R.PWR_MODE_MODE = 4
        ∧ t.fbit R.PWR_MODE_BUSY = false
        ∧ t.mode.trans = none
        ∧ t.safe.form ≠ .none)
  ∧ (∀ (s : State) (m : ModeTrans) (units : List (Nat × Nat)) (lanes : List Nat) (safeFail otherFail : Bool) (durUs repairs rows cols : Nat) (n : Nat),
      s.mode.trans = some m →
      m.waitSurf = [] →
      s.mode.parkWait = [] →
      m.cause ≠ 3 →
      s.unparking = false →
      m.src ≠ 0 →
      (m.dst = 1 ∨ m.dst = 2 ∨ m.dst = 5) →
      (m.dst = 5 → s.safe.session = true ∧ s.fget R.BOOT_STATUS_LC = lcService) →
      s.mode.limpFault = none →
      s.mode.latchedRule = some n →
      s.mode.wakeHeld = none →
      ∃ t, exec (.modeTransitionComplete units lanes safeFail otherFail durUs repairs rows cols) s = .next t
        ∧ t.fget R.PWR_WAKE_LATCH_RULES = 0
        ∧ (if tarnAllowed m.dst (s.fget R.PWR_WAKE_LATCH_ACTION) = true then t.fbit R.PWR_WAKE_CAUSE_REPLAYED = true else t.fbit R.PWR_WAKE_LATCH_DISCARDED = true ∧ t.fget R.PWR_MODE_MODE = m.dst))
  ∧ (∀ (s : State) (m : ModeTrans) (units : List (Nat × Nat)) (lanes : List Nat) (safeFail otherFail : Bool) (durUs repairs rows cols : Nat),
      s.mode.trans = some m →
      m.waitSurf = [] →
      s.mode.parkWait = [] →
      m.cause ≠ 3 →
      s.unparking = false →
      m.dst = 0 →
      m.src ≠ 0 →
      s.sup.dir ≠ .down →
      s.mode.latchedRule = none →
      ∃ t, exec (.modeTransitionComplete units lanes safeFail otherFail durUs repairs rows cols) s = .next t
        ∧ t.fget R.PWR_MODE_MODE = m.dst
        ∧ t.fbit R.PWR_MODE_BUSY = false
        ∧ t.fget R.PWR_MODE_CAUSE = m.cause % 2 ^ 16
        ∧ t.mode.trans = none
        ∧ t.mode.limpFault = none)
  ∧ (∀ (s : State) (m : ModeTrans) (units : List (Nat × Nat)) (lanes : List Nat) (safeFail otherFail : Bool) (durUs repairs rows cols : Nat),
      s.mode.trans = some m →
      m.waitSurf = [] →
      s.mode.parkWait = [] →
      m.cause ≠ 3 →
      s.unparking = false →
      m.dst = 3 →
      m.src ≠ 0 →
      s.mode.limpFault = none →
      s.mode.latchedRule = none →
      ∃ t, exec (.modeTransitionComplete units lanes safeFail otherFail durUs repairs rows cols) s = .next t
        ∧ t.fget R.PWR_MODE_MODE = m.dst
        ∧ t.fbit R.PWR_MODE_BUSY = false
        ∧ t.fget R.PWR_MODE_CAUSE = m.cause % 2 ^ 16
        ∧ t.mode.trans = none
        ∧ t.fbit R.PWR_DOM_STATUS_MEM_RET = true
        ∧ (∀ d : Nat, d ∈ ([3, 5, 7, 8, 9] : List Nat) → t.domOn d = false))
  ∧ (∀ (s : State) (m : ModeTrans) (units : List (Nat × Nat)) (lanes : List Nat) (safeFail otherFail : Bool) (durUs repairs rows cols : Nat),
      s.mode.trans = some m →
      m.waitSurf = [] →
      s.mode.parkWait = [] →
      m.cause ≠ 3 →
      s.unparking = false →
      m.dst = 4 →
      m.src = 3 →
      s.mode.limpFault = none →
      s.mode.latchedRule = none →
      ∃ t, exec (.modeTransitionComplete units lanes safeFail otherFail durUs repairs rows cols) s = .next t
        ∧ t.fget R.PWR_MODE_MODE = m.dst
        ∧ t.fbit R.PWR_MODE_BUSY = false
        ∧ t.fget R.PWR_MODE_CAUSE = m.cause % 2 ^ 16
        ∧ t.mode.trans = none)
  ∧ (∀ (s : State) (m : ModeTrans) (units : List (Nat × Nat)) (lanes : List Nat) (safeFail otherFail : Bool) (durUs repairs rows cols : Nat),
      s.mode.trans = some m →
      m.waitSurf = [] →
      s.mode.parkWait = [] →
      m.cause ≠ 3 →
      s.unparking = false →
      m.src = 0 →
      (m.dst = 1 ∨ m.dst = 2) →
      s.boot.step = .ready →
      s.boot.limpOnly = false →
      safeFail = false →
      otherFail = false →
      (∀ e ∈ units, e.1 ≠ 1) →
      lanes.length < 2 →
      s.aon.tarnFault11 = false →
      s.aon.tarnFault12 = false →
      s.fbit R.PWR_SUPPLY_STATUS_MAIN_OK = true →
      s.mode.limpFault = none →
      s.mode.latchedRule = none →
      ∃ t, exec (.modeTransitionComplete units lanes safeFail otherFail durUs repairs rows cols) s = .next t
        ∧ t.fget R.PWR_MODE_MODE = m.dst
        ∧ t.fbit R.PWR_MODE_BUSY = false
        ∧ t.fget R.PWR_MODE_CAUSE = m.cause % 2 ^ 16
        ∧ t.mode.trans = none
        ∧ t.boot.active = false)
  ∧ (∀ (s : State) (m : ModeTrans) (units : List (Nat × Nat)) (lanes : List Nat) (safeFail otherFail : Bool) (durUs repairs rows cols : Nat),
      s.mode.trans = some m →
      m.waitSurf = [] →
      s.mode.parkWait = [] →
      m.cause ≠ 3 →
      s.unparking = false →
      m.src = 0 →
      m.dst ≠ 0 →
      s.boot.step = .ready →
      safeFail = true →
      ∃ t, exec (.modeTransitionComplete units lanes safeFail otherFail durUs repairs rows cols) s = .next t
        ∧ t.fbit R.PWR_RESET_POST_SAFE_FAIL = true
        ∧ t.boot.halted = true
        ∧ t.boot.active = false)
  ∧ (∀ (s : State) (units : List (Nat × Nat)) (lanes : List Nat) (safeFail otherFail : Bool) (durUs repairs rows cols : Nat),
      (s.mode.trans = none ∨ s.mode.parkWait ≠ [] ∨ s.unparking = true) →
      ∃ t, exec (.modeTransitionComplete units lanes safeFail otherFail durUs repairs rows cols) s = .next t
        ∧ t = s.after s)
  ∧ (∀ (s : State) (m : ModeTrans) (units : List (Nat × Nat)) (lanes : List Nat) (safeFail otherFail : Bool) (durUs repairs rows cols : Nat),
      s.mode.trans = some m →
      (m.waitSurf ≠ [] ∨ m.cause = 3 ∨ (m.src = 0 ∧ s.boot.step ≠ .ready) ∨ (m.dst = 0 ∧ s.sup.dir = .down)) →
      ∃ t, exec (.modeTransitionComplete units lanes safeFail otherFail durUs repairs rows cols) s = .next t
        ∧ t = s.after s)
  ∧ (∀ (s : State),
      s.modeNow = 1 →
      s.fbit R.PWR_MODE_BUSY = false →
      s.inForce R.PWR_MODE_CFG_IDLE_S ≠ 0 →
      s.idleHeld = false →
      ∃ t, exec (.idleTimerExpiry) s = .next t
        ∧ t.fget R.PWR_MODE_TARGET = 0
        ∧ t.fbit R.PWR_MODE_BUSY = true
        ∧ t.mode.trans = some { src := 1, dst := 0, cause := 1 }
        ∧ (∀ d : Nat, d < 12 → d ≠ 0 → t.domOn d = false))
  ∧ (∀ (s : State),
      (s.modeNow ≠ 1 ∨ s.fbit R.PWR_MODE_BUSY = true ∨ s.inForce R.PWR_MODE_CFG_IDLE_S = 0 ∨ s.idleHeld = true) →
      ∃ t, exec (.idleTimerExpiry) s = .next t
        ∧ t = s.after s)
  ∧ (∀ (s : State),
      s.modeNow = 2 →
      s.fbit R.PWR_MODE_BUSY = false →
      s.inForce R.PWR_MODE_CFG_LREQ_GATE = 1 →
      s.lightOn = false →
      ∃ t, exec (.lreqOffExpiry) s = .next t
        ∧ t.fget R.PWR_MODE_TARGET = 1
        ∧ t.fbit R.PWR_MODE_BUSY = true
        ∧ t.mode.trans = some { src := 2, dst := 1, cause := 2 })
  ∧ (∀ (s : State),
      (s.modeNow ≠ 2 ∨ s.fbit R.PWR_MODE_BUSY = true ∨ s.inForce R.PWR_MODE_CFG_LREQ_GATE ≠ 1 ∨ s.lightOn = true) →
      ∃ t, exec (.lreqOffExpiry) s = .next t
        ∧ t = s.after s)
  ∧ (∀ (s : State),
      s.mode.wokenToRun = true →
      ∃ t, exec (.nosurfCheck) s = .next t
        ∧ t.mode.wokenToRun = false
        ∧ (if s.modeNow = 2 ∧ s.lightOn = true ∧ (List.range 4).any s.surfEnabled = false ∧ s.domOn 1 = true then t.faultOn 13 = true ∧ t.fget R.SAFE_FAULT_LAST_CODE = 13 else t.faultOn 13 = s.faultOn 13))
  ∧ (∀ (s : State),
      s.mode.wokenToRun = false →
      ∃ t, exec (.nosurfCheck) s = .next t
        ∧ t = s.after s)
  ∧ (∀ (s : State) (pins wakeMv : Nat) (peer : Bool) (vinMain vinBkup : Nat) (temp : Int),
      s.aon.running = true →
      ∃ t, exec (.tarnSample pins wakeMv peer vinMain vinBkup temp) s = .next t
        ∧ t.aon.samples = s.aon.samples + 1
        ∧ t.mode.timerPulse = false
        ∧ t.mode.pendClr = []
        ∧ (t.mode.tarn = (tarnDerived s.mode.timerPulse s.mode.singleCh (s.mode.tarn.zipIdx.map fun q => s.takeTarn.tarnStep q.2 (s.takeTarn.tarnRaw ⟨pins, wakeMv, peer, vinMain, vinBkup, temp⟩ q.2) (tarnRawAnalog ⟨pins, wakeMv, peer, vinMain, vinBkup, temp⟩ q.2) q.1)))
        ∧ (t.mode.ruleWas = (List.range 16).map (s.takeTarn.tarnCond (tarnDerived s.mode.timerPulse s.mode.singleCh (s.mode.tarn.zipIdx.map fun q => s.takeTarn.tarnStep q.2 (s.takeTarn.tarnRaw ⟨pins, wakeMv, peer, vinMain, vinBkup, temp⟩ q.2) (tarnRawAnalog ⟨pins, wakeMv, peer, vinMain, vinBkup, temp⟩ q.2) q.1))))
        ∧ (s.domOn 10 = false → t.fget R.PWR_VIN_MAIN_MV = 0 ∧ t.fget R.PWR_VIN_BKUP_MV = 0)
        ∧ ((0x20124, 2 ^ 16) ∈ s.mode.pendClr → (∀ n : Nat, n < 16 → s.fbit (R.PWR_RULE_CTRL_HOST_WAKE n) = false) → t.aon.hostWakeLow = false))
  ∧ (∀ (s : State) (pins wakeMv : Nat) (peer : Bool) (vinMain vinBkup : Nat) (temp : Int) (n : Fin 16),
      s.aon.running = true →
      s.mode.latchedRule = none →
      s.fbit (R.PWR_RULE_CTRL_EN n) = true →
      s.takeTarn.tarnCond (tarnDerived s.mode.timerPulse s.mode.singleCh (s.mode.tarn.zipIdx.map fun q => s.takeTarn.tarnStep q.2 (s.takeTarn.tarnRaw ⟨pins, wakeMv, peer, vinMain, vinBkup, temp⟩ q.2) (tarnRawAnalog ⟨pins, wakeMv, peer, vinMain, vinBkup, temp⟩ q.2) q.1)) n = true →
      nth s.mode.ruleWas n = false →
      bitOf (s.fget (R.PWR_RULE_CTRL_MODES n)) s.ruleMode = true →
      ∃ t, exec (.tarnSample pins wakeMv peer vinMain vinBkup temp) s = .next t
        ∧ t.fget (R.PWR_RULE_COUNT_COUNT n) = min 65535 (s.fget (R.PWR_RULE_COUNT_COUNT n) + 1))
  ∧ (∀ (s : State) (pins wakeMv : Nat) (peer : Bool) (vinMain vinBkup : Nat) (temp : Int),
      s.aon.running = false →
      ∃ t, exec (.tarnSample pins wakeMv peer vinMain vinBkup temp) s = .next t
        ∧ t = s.after s)
  ∧ (∀ (s : State),
      s.inForce R.PWR_TARN_TIMER_TIMER_S ≠ 0 →
      ∃ t, exec (.tarnTimerExpiry) s = .next t
        ∧ t.mode.timerPulse = true
        ∧ t.mode.timerMs = 0
        ∧ t.fget R.PWR_TARN_TIMER_REMAIN_S = s.inForce R.PWR_TARN_TIMER_TIMER_S)
  ∧ (∀ (s : State),
      s.inForce R.PWR_TARN_TIMER_TIMER_S = 0 →
      ∃ t, exec (.tarnTimerExpiry) s = .next t
        ∧ t = s.after s)
  ∧ (∀ (s : State),
      s.domOn 5 = true →
      ∃ t, exec (.hostWakeRelease) s = .next t
        ∧ t.mode.pendClr = s.mode.pendClr ++ [(0x20124, 2 ^ 16)]
        ∧ t.aon.hostWakeLow = s.aon.hostWakeLow)
  ∧ (∀ (s : State),
      ∃ t, exec (.xtal32Absence) s = .next t
        ∧ t.aon.xtal = false
        ∧ (∀ d : Nat, d < 12 → t.domOn d = s.domOn d))
  ∧ (∀ (s : State),
      (s.domOn 5 = false ∨ s.blockOff (0x20124) = true) →
      ∃ t, exec (.hostWakeRelease) s = .next t
        ∧ (t = s.after (if s.domOn 5 = true then (s.offAccess (0x20124) true).idleRestart else s)))

/-- PRESENT, PRESENT_TIMED and CANCEL_TIMED take effect; the end of a read reaches its layer. Commands that it says complete: present, prefetchComplete, presentTimed, cancelTimed. -/
def Obligations.PresentsTake : Prop :=
  (∀ (s : State) (d : Desc),
      s.latchesDue.shape →
      s.latchesDue.ready 1 [1] = some d →
      d.ring = 1 →
      s.latchesDue.isCompanion = false →
      d.target < 4 →
      s.latchesDue.presentStatus d false = .ok →
      ∃ t, exec (.present) s = .next t
        ∧ (t.px d.target).next.map (·.desc) = some d
        ∧ (t.px d.target).slots = d.layers
        ∧ (t.ring 1).arrived = (s.latchesDue.ring 1).arrived.drop 1)
  ∧ (∀ (s : State) (d : Desc),
      s.latchesDue.shape →
      s.latchesDue.ready 1 [1] = some d →
      d.ring = 1 →
      s.latchesDue.isCompanion = true →
      s.latchesDue.twin.aligns = [] →
      s.latchesDue.twin.waiting.all (fun c => c.align.isNone) = true →
      d.target < 4 →
      s.latchesDue.presentStatus d false = .ok →
      ∃ t, exec (.present) s = .next t
        ∧ (t.px d.target).shadow.map (·.1.desc) = (s.latchesDue.px d.target).shadow.map (·.1.desc) ++ [d]
        ∧ (t.px d.target).slots = d.layers
        ∧ (t.ring 1).arrived = (s.latchesDue.ring 1).arrived.drop 1)
  ∧ (∀ (s : State) (d : Desc),
      s.latchesDue.ready 1 [1] = some d →
      d.ring = 1 →
      s.latchesDue.presentStatus d false ≠ .ok →
      ∃ t, exec (.present) s = .next t
        ∧ t = s.after (settled ((s.latchesDue.popDesc 1).complete d (s.latchesDue.presentStatus d false) 0 [])))
  ∧ (∀ (s : State),
      s.latchesDue.ready 1 [1] = none →
      ∃ t, exec (.present) s = .next t
        ∧ t = s.after (settled s.latchesDue))
  ∧ (∀ (s : State) (pos layer : Nat) (ok : Bool) (rows : List (List Byte)) (crcs : List Byte) (rows2 : List (List Byte)) (crcs2 : List Byte) (n : Nat) (p : Present),
      s.findPresent pos = some (n, p) →
      layer < p.layers.length →
      (nth p.layers layer).pending = false →
      (nth p.layers layer).done = false →
      (nth p.layers layer).failed = false →
      ∃ t, exec (.prefetchComplete pos layer ok rows crcs rows2 crcs2) s = .next t
        ∧ ((t.findPresent pos).map (fun e => ((nth e.2.layers layer).done, (nth e.2.layers layer).failed, (nth e.2.layers layer).rows)) = (if ok = true then let r := fetchRows p layer (nth p.layers layer).record ⟨rows, crcs, rows2, crcs2⟩ (List.range (lySrcH (nth p.layers layer).record)); some (r.2.1, !r.2.1, r.1) else some (false, true, []))))
  ∧ (∀ (s : State) (pos layer : Nat) (ok : Bool) (rows : List (List Byte)) (crcs : List Byte) (rows2 : List (List Byte)) (crcs2 : List Byte),
      (s.findPresent pos).all (fun e => decide (e.2.layers.length ≤ layer) || (nth e.2.layers layer).pending || (nth e.2.layers layer).done || (nth e.2.layers layer).failed) = true →
      ∃ t, exec (.prefetchComplete pos layer ok rows crcs rows2 crcs2) s = .next t
        ∧ t = s.after s)
  ∧ (∀ (s : State) (d : Desc),
      s.latchesDue.shape →
      s.latchesDue.ready 1 [2] = some d →
      d.ring = 1 →
      (s.latchesDue.isCompanion = true → s.latchesDue.twin.aligns = [] ∧ s.latchesDue.twin.waiting.all (fun c => c.align.isNone) = true) →
      d.target < 4 →
      s.latchesDue.timedStatus d = .ok →
      ∃ t, exec (.presentTimed) s = .next t
        ∧ (t.px d.target).ephem.map (·.desc) = (s.latchesDue.px d.target).ephem.map (·.desc) ++ [d]
        ∧ (t.ring 1).arrived = (s.latchesDue.ring 1).arrived.drop 1)
  ∧ (∀ (s : State) (d : Desc),
      s.latchesDue.ready 1 [2] = some d →
      d.ring = 1 →
      s.latchesDue.timedStatus d ≠ .ok →
      ∃ t, exec (.presentTimed) s = .next t
        ∧ t = s.after (settled ((s.latchesDue.popDesc 1).complete d (s.latchesDue.timedStatus d) 0 ([0, 0, 0, 0] ++ (s.latchesDue.popDesc 1).timedResult d.target))))
  ∧ (∀ (s : State),
      s.latchesDue.ready 1 [2] = none →
      ∃ t, exec (.presentTimed) s = .next t
        ∧ t = s.after (settled s.latchesDue))
  ∧ (∀ (s : State) (d : Desc),
      s.latchesDue.shape →
      s.latchesDue.ready 1 [3] = some d →
      d.ring = 1 →
      s.latchesDue.isCompanion = false →
      d.target < 4 →
      s.latchesDue.cancelStatus d = .ok →
      ∃ t, exec (.cancelTimed) s = .next t
        ∧ ((t.px d.target).ephem = (s.latchesDue.px d.target).ephem.filter (fun p => !cancels d p))
        ∧ (t.ring 1).arrived = (s.latchesDue.ring 1).arrived.drop 1)
  ∧ (∀ (s : State) (d : Desc),
      s.latchesDue.shape →
      s.latchesDue.ready 1 [3] = some d →
      d.ring = 1 →
      s.latchesDue.isCompanion = true →
      s.latchesDue.twin.aligns = [] →
      s.latchesDue.twin.waiting.all (fun c => c.align.isNone) = true →
      s.latchesDue.cancelStatus d = .ok →
      ∃ t, exec (.cancelTimed) s = .next t
        ∧ t.twin.waiting = s.latchesDue.twin.waiting ++ [{ desc := d, key := d.key }]
        ∧ (t.ring 1).arrived = (s.latchesDue.ring 1).arrived.drop 1)
  ∧ (∀ (s : State) (d : Desc),
      s.latchesDue.ready 1 [3] = some d →
      d.ring = 1 →
      s.latchesDue.cancelStatus d ≠ .ok →
      ∃ t, exec (.cancelTimed) s = .next t
        ∧ t = s.after (settled ((s.latchesDue.popDesc 1).complete d (s.latchesDue.cancelStatus d) 0 [])))
  ∧ (∀ (s : State),
      s.latchesDue.ready 1 [3] = none →
      ∃ t, exec (.cancelTimed) s = .next t
        ∧ t = s.after (settled s.latchesDue))

/-- Shade slots, aim and beam profile take what their commands give. Commands that it says complete: shadeUpdate, shadeClear, aim, beamProfile. -/
def Obligations.ShadesAimAndProfiles : Prop :=
  (∀ (s : State) (d : Desc),
      s.shape →
      s.ready 0 [0x10] = some d →
      d.ring = 0 →
      s.isCompanion = false →
      d.shadeOk = true →
      ∃ t, exec (.shadeUpdate) s = .next t
        ∧ (d.arg 16 1 < 63 → nth t.pix.shades (d.arg 16 1) = some (s.shadeOf d))
        ∧ (64 ≤ d.arg 16 1 ∨ (d.arg 16 1 = 63 ∧ s.fbit R.PIX_SHADE_STATUS_MERGED = true) → t.fbit R.PIX_SHADE_STATUS_MERGED = true)
        ∧ (d.arg 16 1 = 63 ∧ s.fbit R.PIX_SHADE_STATUS_MERGED = false → nth t.pix.shades 63 = some (s.shadeOf d))
        ∧ t.fget R.PIX_SHADE_AGE_LAST_US = min 65535 ((s.nowNs - (s.shadeOf d).t0) / 1000)
        ∧ (t.ring 0).arrived = (s.ring 0).arrived.drop 1)
  ∧ (∀ (s : State) (d : Desc),
      s.shape →
      s.ready 0 [0x10] = some d →
      d.ring = 0 →
      s.isCompanion = true →
      s.twin.aligns = [] →
      s.twin.waiting.all (fun c => c.align.isNone) = true →
      d.shadeOk = true →
      ∃ t, exec (.shadeUpdate) s = .next t
        ∧ t.twin.waiting = s.twin.waiting ++ [{ desc := d, key := d.key }]
        ∧ (t.ring 0).arrived = (s.ring 0).arrived.drop 1)
  ∧ (∀ (s : State) (d : Desc),
      s.ready 0 [0x10] = some d →
      d.ring = 0 →
      d.shadeOk = false →
      ∃ t, exec (.shadeUpdate) s = .next t
        ∧ t = s.after (settled ((s.popDesc 0).complete d .argInvalid 0 [])))
  ∧ (∀ (s : State),
      s.ready 0 [0x10] = none →
      ∃ t, exec (.shadeUpdate) s = .next t
        ∧ t = s.after (settled s))
  ∧ (∀ (s : State) (d : Desc),
      s.shape →
      s.ready 0 [0x11] = some d →
      d.ring = 0 →
      s.isCompanion = false →
      d.flagsOk = true →
      d.zero 24 60 = true →
      ∃ t, exec (.shadeClear) s = .next t
        ∧ (∀ i : Nat, i < 64 → nth t.pix.shades i = if bitOf (d.arg 16 8) i then none else nth s.pix.shades i)
        ∧ (t.ring 0).arrived = (s.ring 0).arrived.drop 1)
  ∧ (∀ (s : State) (d : Desc),
      s.shape →
      s.ready 0 [0x11] = some d →
      d.ring = 0 →
      s.isCompanion = true →
      s.twin.aligns = [] →
      s.twin.waiting.all (fun c => c.align.isNone) = true →
      d.flagsOk = true →
      d.zero 24 60 = true →
      ∃ t, exec (.shadeClear) s = .next t
        ∧ t.twin.waiting = s.twin.waiting ++ [{ desc := d, key := d.key }]
        ∧ (t.ring 0).arrived = (s.ring 0).arrived.drop 1)
  ∧ (∀ (s : State) (d : Desc),
      s.ready 0 [0x11] = some d →
      d.ring = 0 →
      (d.flagsOk = false ∨ d.zero 24 60 = false) →
      ∃ t, exec (.shadeClear) s = .next t
        ∧ t = s.after (settled ((s.popDesc 0).complete d .argInvalid 0 [])))
  ∧ (∀ (s : State),
      s.ready 0 [0x11] = none →
      ∃ t, exec (.shadeClear) s = .next t
        ∧ t = s.after (settled s))
  ∧ (∀ (s : State) (d : Desc),
      s.shape →
      s.ready 0 [0x20] = some d →
      d.ring = 0 →
      d.target < 4 →
      s.aimStatus d = .ok →
      ∃ t, exec (.aim) s = .next t
        ∧ t.fget (R.PIX_AIM_TARGET_V d.target) = d.arg 16 2
        ∧ t.fget (R.PIX_AIM_TARGET_H d.target) = d.arg 18 2
        ∧ (t.ring 0).arrived = (s.ring 0).arrived.drop 1)
  ∧ (∀ (s : State) (d : Desc),
      s.ready 0 [0x20] = some d →
      d.ring = 0 →
      s.aimStatus d ≠ .ok →
      ∃ t, exec (.aim) s = .next t
        ∧ t = s.after ((s.popDesc 0).complete d (s.aimStatus d) 0 []))
  ∧ (∀ (s : State),
      s.ready 0 [0x20] = none →
      ∃ t, exec (.aim) s = .next t
        ∧ t = s.after s)
  ∧ (∀ (s : State) (d : Desc),
      s.shape →
      s.ready 2 [0x21] = some d →
      d.ring = 2 →
      d.target < 4 →
      s.profileStatus d = .ok →
      s.safe.surfs.length = 4 →
      ∃ t, exec (.beamProfile) s = .next t
        ∧ ((t.spill d.target).nextProfile = if (s.nextFrame d.target).isSome then some (d.arg 16 1, s.windowFrame d.target) else (s.spill d.target).nextProfile)
        ∧ (t.ring 2).arrived = (s.ring 2).arrived.drop 1)
  ∧ (∀ (s : State) (d : Desc),
      s.ready 2 [0x21] = some d →
      d.ring = 2 →
      s.profileStatus d ≠ .ok →
      ∃ t, exec (.beamProfile) s = .next t
        ∧ t = s.after ((s.popDesc 2).complete d (s.profileStatus d) 0 []))
  ∧ (∀ (s : State),
      s.ready 2 [0x21] = none →
      ∃ t, exec (.beamProfile) s = .next t
        ∧ t = s.after s)

/-- SURFACE_CONFIG, RETIME and SCALER_COEFF write what they carry. Commands that it says complete: surfaceConfig, retime, scalerCoeff. -/
def Obligations.SurfaceCommands : Prop :=
  (∀ (s : State) (d : Desc),
      s.shape →
      s.ready 2 [0x30] = some d →
      d.ring = 2 →
      (s.isCompanion = true → s.twin.aligns = [] ∧ s.twin.waiting.all (fun c => c.align.isNone) = true) →
      d.target < 4 →
      d.arg 16 1 = 0 →
      s.configStatus d = .ok →
      ∃ t, exec (.surfaceConfig) s = .next t
        ∧ t.rd (tgAddr d.target 0x20) = d.word 4
        ∧ (∀ p : Nat, p < 24 → bitOf d.portMask p = true → t.rd (portmapA p) = d.mapA p ∧ t.rd (portmapB p) = d.mapB p)
        ∧ t.fbit (R.TG_CTRL_ENABLE d.target) = s.fbit (R.TG_CTRL_ENABLE d.target)
        ∧ (t.ring 2).arrived = (s.ring 2).arrived.drop 1)
  ∧ (∀ (s : State) (d : Desc),
      s.shape →
      s.ready 2 [0x30] = some d →
      d.ring = 2 →
      s.isCompanion = false →
      d.target < 4 →
      d.arg 16 1 = 1 →
      s.configStatus d = .ok →
      s.gens.length = 4 →
      ∃ t, exec (.surfaceConfig) s = .next t
        ∧ t.rd (tgAddr d.target 0x20) = d.word 4
        ∧ (∀ p : Nat, p < 24 → bitOf d.portMask p = true → t.rd (portmapA p) = d.mapA p ∧ t.rd (portmapB p) = d.mapB p)
        ∧ t.fbit (R.TG_CTRL_ENABLE d.target) = true
        ∧ (t.gen d.target).startF.isSome = true
        ∧ (t.gen d.target).stopPend = false
        ∧ (t.ring 2).arrived = (s.ring 2).arrived.drop 1)
  ∧ (∀ (s : State) (d : Desc),
      s.shape →
      s.ready 2 [0x30] = some d →
      d.ring = 2 →
      s.isCompanion = false →
      d.target < 4 →
      d.arg 16 1 = 2 →
      s.configStatus d = .ok →
      s.domOn 3 = true →
      s.running d.target = true →
      s.gens.length = 4 →
      ∃ t, exec (.surfaceConfig) s = .next t
        ∧ (t.gen d.target).stopPend = true
        ∧ t.fbit (R.TG_CTRL_ENABLE d.target) = false
        ∧ t.fbit (R.TG_STATUS_RETIME_PENDING d.target) = false
        ∧ (t.ring 2).arrived = (s.ring 2).arrived.drop 1)
  ∧ (∀ (s : State) (d : Desc),
      s.shape →
      s.ready 2 [0x30] = some d →
      d.ring = 2 →
      s.isCompanion = false →
      d.target < 4 →
      d.arg 16 1 = 2 →
      s.configStatus d = .ok →
      s.domOn 3 = true →
      s.running d.target = false →
      (s.gen d.target).startF.isSome = true →
      s.gens.length = 4 →
      ∃ t, exec (.surfaceConfig) s = .next t
        ∧ (t.gen d.target).startF = none
        ∧ t.fbit (R.TG_CTRL_ENABLE d.target) = false
        ∧ (t.ring 2).arrived = (s.ring 2).arrived.drop 1)
  ∧ (∀ (s : State) (d : Desc),
      s.shape →
      s.ready 2 [0x30] = some d →
      d.ring = 2 →
      s.isCompanion = false →
      d.target < 4 →
      d.arg 16 1 = 2 →
      s.configStatus d = .ok →
      (s.domOn 3 = false ∨ (s.running d.target = false ∧ (s.gen d.target).startF = none)) →
      ∃ t, exec (.surfaceConfig) s = .next t
        ∧ t.gens = s.gens
        ∧ (t.ring 2).arrived = (s.ring 2).arrived.drop 1)
  ∧ (∀ (s : State) (d : Desc),
      s.shape →
      s.ready 2 [0x30] = some d →
      d.ring = 2 →
      s.isCompanion = true →
      s.twin.aligns = [] →
      s.twin.waiting.all (fun c => c.align.isNone) = true →
      d.arg 16 1 ≠ 0 →
      s.configStatus d = .ok →
      ∃ t, exec (.surfaceConfig) s = .next t
        ∧ t.twin.waiting = s.twin.waiting ++ [{ desc := d, key := d.key }]
        ∧ (t.ring 2).arrived = (s.ring 2).arrived.drop 1)
  ∧ (∀ (s : State) (d : Desc),
      s.ready 2 [0x30] = some d →
      d.ring = 2 →
      s.configStatus d ≠ .ok →
      ∃ t, exec (.surfaceConfig) s = .next t
        ∧ t = s.after (settled ((s.popDesc 2).complete d (s.configStatus d) 0 [])))
  ∧ (∀ (s : State),
      s.ready 2 [0x30] = none →
      ∃ t, exec (.surfaceConfig) s = .next t
        ∧ t = s.after (settled s))
  ∧ (∀ (s : State) (d : Desc),
      s.latchesDue.shape →
      s.latchesDue.ready 2 [0x31] = some d →
      d.ring = 2 →
      s.latchesDue.isCompanion = false →
      d.target < 4 →
      s.latchesDue.retimeStatus d = .ok →
      ∃ t, exec (.retime) s = .next t
        ∧ (t.gen d.target).retime = some d.retimeGrid
        ∧ t.fbit (R.TG_STATUS_RETIME_PENDING d.target) = true
        ∧ (t.ring 2).arrived = (s.latchesDue.ring 2).arrived.drop 1)
  ∧ (∀ (s : State) (d : Desc),
      s.latchesDue.shape →
      s.latchesDue.ready 2 [0x31] = some d →
      d.ring = 2 →
      s.latchesDue.isCompanion = true →
      s.latchesDue.twin.aligns = [] →
      s.latchesDue.twin.waiting.all (fun c => c.align.isNone) = true →
      s.latchesDue.retimeStatus d = .ok →
      ∃ t, exec (.retime) s = .next t
        ∧ t.twin.waiting = s.latchesDue.twin.waiting ++ [{ desc := d, key := d.key }]
        ∧ (t.ring 2).arrived = (s.latchesDue.ring 2).arrived.drop 1)
  ∧ (∀ (s : State) (d : Desc),
      s.latchesDue.ready 2 [0x31] = some d →
      d.ring = 2 →
      s.latchesDue.retimeStatus d ≠ .ok →
      ∃ t, exec (.retime) s = .next t
        ∧ t = s.after (settled ((s.latchesDue.popDesc 2).complete d (s.latchesDue.retimeStatus d) 0 [])))
  ∧ (∀ (s : State),
      s.latchesDue.ready 2 [0x31] = none →
      ∃ t, exec (.retime) s = .next t
        ∧ t = s.after (settled s.latchesDue))
  ∧ (∀ (s : State) (d : Desc),
      s.shape →
      s.ready 2 [0x32] = some d →
      d.ring = 2 →
      (s.isCompanion = true → s.twin.aligns = [] ∧ s.twin.waiting.all (fun c => c.align.isNone) = true) →
      d.arg 18 1 = 0 →
      s.scalerStatus d = .ok →
      d.arg 16 1 < s.pix.scalers.length →
      ∃ t, exec (.scalerCoeff) s = .next t
        ∧ (nth t.pix.scalers (d.arg 16 1)).bankB = (nth s.pix.scalers (d.arg 16 1)).bankB.write (d.arg 17 1) d
        ∧ (t.ring 2).arrived = (s.ring 2).arrived.drop 1)
  ∧ (∀ (s : State) (d : Desc),
      s.shape →
      s.ready 2 [0x32] = some d →
      d.ring = 2 →
      s.isCompanion = false →
      d.arg 18 1 = 1 →
      s.scalerStatus d = .ok →
      d.arg 16 1 < s.pix.scalers.length →
      ∃ t, exec (.scalerCoeff) s = .next t
        ∧ (nth t.pix.scalers (d.arg 16 1)).bankB = (nth s.pix.scalers (d.arg 16 1)).bankB.write (d.arg 17 1) d
        ∧ (nth t.pix.scalers (d.arg 16 1)).armed = some (d.target, 0)
        ∧ t.fbit (R.PIX_SCALER_ARMED (d.arg 16 1)) = true
        ∧ (t.ring 2).arrived = (s.ring 2).arrived.drop 1)
  ∧ (∀ (s : State) (d : Desc),
      s.shape →
      s.ready 2 [0x32] = some d →
      d.ring = 2 →
      s.isCompanion = true →
      s.twin.aligns = [] →
      s.twin.waiting.all (fun c => c.align.isNone) = true →
      d.arg 18 1 = 1 →
      s.scalerStatus d = .ok →
      ∃ t, exec (.scalerCoeff) s = .next t
        ∧ t.twin.waiting = s.twin.waiting ++ [{ desc := d, key := d.key }]
        ∧ (t.ring 2).arrived = (s.ring 2).arrived.drop 1)
  ∧ (∀ (s : State) (d : Desc),
      s.ready 2 [0x32] = some d →
      d.ring = 2 →
      s.scalerStatus d ≠ .ok →
      ∃ t, exec (.scalerCoeff) s = .next t
        ∧ t = s.after (settled ((s.popDesc 2).complete d (s.scalerStatus d) 0 [])))
  ∧ (∀ (s : State),
      s.ready 2 [0x32] = none →
      ∃ t, exec (.scalerCoeff) s = .next t
        ∧ t = s.after (settled s))

/-- A bulk command that passes its checks waits for its source. Commands that it says complete: segPattern, mapLoad, spbLoad, fwStage, healthDump, segStart, spbCommit, fwActivate. -/
def Obligations.BulkCommandsQueue : Prop :=
  (∀ (s : State) (d : Desc),
      s.shape →
      s.ready 3 [0x41] = some d →
      d.ring = 3 →
      segPatternStatus d = .ok →
      ∃ t, exec (.segPattern) s = .next t
        ∧ t.cmds.bulk = s.cmds.bulk ++ [d]
        ∧ (t.ring 3).arrived = (s.ring 3).arrived.drop 1)
  ∧ (∀ (s : State) (d : Desc),
      s.ready 3 [0x41] = some d →
      d.ring = 3 →
      segPatternStatus d ≠ .ok →
      ∃ t, exec (.segPattern) s = .next t
        ∧ t = s.after ((s.popDesc 3).complete d (segPatternStatus d) 0 []))
  ∧ (∀ (s : State),
      s.ready 3 [0x41] = none →
      ∃ t, exec (.segPattern) s = .next t
        ∧ t = s.after s)
  ∧ (∀ (s : State) (d : Desc),
      s.shape →
      s.ready 3 [0x50] = some d →
      d.ring = 3 →
      s.mapStatus d = .ok →
      ∃ t, exec (.mapLoad) s = .next t
        ∧ t.cmds.bulk = s.cmds.bulk ++ [d]
        ∧ (t.ring 3).arrived = (s.ring 3).arrived.drop 1)
  ∧ (∀ (s : State) (d : Desc),
      s.ready 3 [0x50] = some d →
      d.ring = 3 →
      s.mapStatus d ≠ .ok →
      ∃ t, exec (.mapLoad) s = .next t
        ∧ t = s.after ((s.popDesc 3).complete d (s.mapStatus d) 0 []))
  ∧ (∀ (s : State),
      s.ready 3 [0x50] = none →
      ∃ t, exec (.mapLoad) s = .next t
        ∧ t = s.after s)
  ∧ (∀ (s : State) (d : Desc),
      s.shape →
      s.ready 3 [0x60] = some d →
      d.ring = 3 →
      spbLoadStatus d = .ok →
      ∃ t, exec (.spbLoad) s = .next t
        ∧ t.cmds.bulk = s.cmds.bulk ++ [d]
        ∧ (t.ring 3).arrived = (s.ring 3).arrived.drop 1)
  ∧ (∀ (s : State) (d : Desc),
      s.ready 3 [0x60] = some d →
      d.ring = 3 →
      spbLoadStatus d ≠ .ok →
      ∃ t, exec (.spbLoad) s = .next t
        ∧ t = s.after ((s.popDesc 3).complete d (spbLoadStatus d) 0 []))
  ∧ (∀ (s : State),
      s.ready 3 [0x60] = none →
      ∃ t, exec (.spbLoad) s = .next t
        ∧ t = s.after s)
  ∧ (∀ (s : State) (d : Desc),
      s.shape →
      s.ready 3 [0x70] = some d →
      d.ring = 3 →
      fwStageStatus d = .ok →
      ∃ t, exec (.fwStage) s = .next t
        ∧ t.cmds.bulk = s.cmds.bulk ++ [d]
        ∧ (t.ring 3).arrived = (s.ring 3).arrived.drop 1)
  ∧ (∀ (s : State) (d : Desc),
      s.ready 3 [0x70] = some d →
      d.ring = 3 →
      fwStageStatus d ≠ .ok →
      ∃ t, exec (.fwStage) s = .next t
        ∧ t = s.after ((s.popDesc 3).complete d (fwStageStatus d) 0 []))
  ∧ (∀ (s : State),
      s.ready 3 [0x70] = none →
      ∃ t, exec (.fwStage) s = .next t
        ∧ t = s.after s)
  ∧ (∀ (s : State) (d : Desc),
      s.shape →
      s.ready 3 [0x51] = some d →
      d.ring = 3 →
      dumpStatus d = .ok →
      ∃ t, exec (.healthDump) s = .next t
        ∧ t.cmds.dumps.map (·.1) = s.cmds.dumps.map (·.1) ++ [d]
        ∧ (t.ring 3).arrived = (s.ring 3).arrived.drop 1)
  ∧ (∀ (s : State) (d : Desc),
      s.ready 3 [0x51] = some d →
      d.ring = 3 →
      dumpStatus d ≠ .ok →
      ∃ t, exec (.healthDump) s = .next t
        ∧ t = s.after ((s.popDesc 3).complete d (dumpStatus d) 0 []))
  ∧ (∀ (s : State),
      s.ready 3 [0x51] = none →
      ∃ t, exec (.healthDump) s = .next t
        ∧ t = s.after s)
  ∧ (∀ (s : State) (d : Desc),
      s.shape →
      s.ready 2 [0x42] = some d →
      d.ring = 2 →
      segStartStatus d = .ok →
      ∃ t, exec (.segStart) s = .next t
        ∧ (∀ b : Nat, b < 12 → bitOf (d.arg 16 2) b = true → (t.bank b).armed = some (d.arg 18 1, false))
        ∧ (∀ b : Nat, b < 12 → bitOf (d.arg 16 2) b = false → t.bank b = s.bank b)
        ∧ (t.ring 2).arrived = (s.ring 2).arrived.drop 1)
  ∧ (∀ (s : State) (d : Desc),
      s.ready 2 [0x42] = some d →
      d.ring = 2 →
      segStartStatus d ≠ .ok →
      ∃ t, exec (.segStart) s = .next t
        ∧ t = s.after ((s.popDesc 2).complete d (segStartStatus d) 0 []))
  ∧ (∀ (s : State),
      s.ready 2 [0x42] = none →
      ∃ t, exec (.segStart) s = .next t
        ∧ t = s.after s)
  ∧ (∀ (s : State) (d : Desc),
      s.shape →
      s.ready 3 [0x61] = some d →
      d.ring = 3 →
      s.commitStatus d = .ok →
      ∃ t, exec (.spbCommit) s = .next t
        ∧ t.fbit R.SAFE_COMM_STATUS_COMMIT_BUSY = true
        ∧ t.flash.maxSeq = (s.flash.maxSeq + 1) % 2 ^ 32
        ∧ (t.ring 3).arrived = (s.ring 3).arrived.drop 1)
  ∧ (∀ (s : State) (d : Desc),
      s.ready 3 [0x61] = some d →
      d.ring = 3 →
      s.commitStatus d ≠ .ok →
      ∃ t, exec (.spbCommit) s = .next t
        ∧ t = s.after ((s.popDesc 3).complete d (s.commitStatus d) 0 []))
  ∧ (∀ (s : State),
      s.ready 3 [0x61] = none →
      ∃ t, exec (.spbCommit) s = .next t
        ∧ t = s.after s)
  ∧ (∀ (s : State) (d : Desc),
      s.shape →
      s.ready 3 [0x71] = some d →
      d.ring = 3 →
      s.activateStatus d = .ok →
      ∃ t, exec (.fwActivate) s = .next t
        ∧ t.flash.jobs = s.flash.jobs ++ [.fwDir 0 0 s.olderDir false { s.dir with good := true, seq := s.dir.seq + 1, trial := some s.idleSlot, started := false }]
        ∧ (t.ring 3).arrived = (s.ring 3).arrived.drop 1)
  ∧ (∀ (s : State) (d : Desc),
      s.ready 3 [0x71] = some d →
      d.ring = 3 →
      s.activateStatus d ≠ .ok →
      ∃ t, exec (.fwActivate) s = .next t
        ∧ t = s.after ((s.popDesc 3).complete d (s.activateStatus d) 0 []))
  ∧ (∀ (s : State),
      s.ready 3 [0x71] = none →
      ∃ t, exec (.fwActivate) s = .next t
        ∧ t = s.after s)

/-- A FENCE waits and ends; a source, a dump and a flash write end. Commands that it says complete: fence, fenceConditionMet, fenceTimeout, bulkSourceReadDone, healthDumpDone, flashWriteDone. -/
def Obligations.FencesAndBulkEnds : Prop :=
  (∀ (s : State) (r : Fin 4) (d : Desc),
      s.shape →
      s.ready r [0x7F] = some d →
      d.ring = r →
      fenceStatus d = .ok →
      ∃ t, exec (.fence r) s = .next t
        ∧ (t.ring r).fence = some { desc := d, level := d.arg 17 1, cover := (s.ring r).coverOf d.pos, timeoutUs := d.arg 20 4 }
        ∧ (t.ring r).arrived = (s.ring r).arrived.drop 1)
  ∧ (∀ (s : State) (r : Fin 4) (d : Desc),
      s.ready r [0x7F] = some d →
      d.ring = r →
      fenceStatus d ≠ .ok →
      ∃ t, exec (.fence r) s = .next t
        ∧ t = s.after ((s.popDesc r).complete d (fenceStatus d) 0 []))
  ∧ (∀ (s : State) (r : Fin 4),
      s.ready r [0x7F] = none →
      ∃ t, exec (.fence r) s = .next t
        ∧ t = s.after s)
  ∧ (∀ (s : State) (r : Fin 4) (f : Fence),
      s.shape →
      (s.ring r).fence = some f →
      s.fenceHolds f = true →
      f.desc.ring = r →
      ∃ t, exec (.fenceConditionMet r) s = .next t
        ∧ (t.ring r).fence = none
        ∧ (t.ring r).arrived = (s.ring r).arrived)
  ∧ (∀ (s : State) (r : Fin 4),
      (s.ring r).fence.all (fun f => !s.fenceHolds f) = true →
      ∃ t, exec (.fenceConditionMet r) s = .next t
        ∧ t = s.after s)
  ∧ (∀ (s : State) (r : Fin 4) (f : Fence),
      s.shape →
      (s.ring r).fence = some f →
      f.timeoutUs ≠ 0 →
      f.desc.ring = r →
      ∃ t, exec (.fenceTimeout r) s = .next t
        ∧ (t.ring r).fence = none
        ∧ (t.ring r).arrived = (s.ring r).arrived)
  ∧ (∀ (s : State) (r : Fin 4),
      (s.ring r).fence.all (fun f => f.timeoutUs == 0) = true →
      ∃ t, exec (.fenceTimeout r) s = .next t
        ∧ t = s.after s)
  ∧ (∀ (s : State) (bytes : List Byte) (ok : Bool),
      s.cmds.bulk = [] →
      ∃ t, exec (.bulkSourceReadDone bytes ok) s = .next t
        ∧ t = s.after (settled s))
  ∧ (∀ (s : State) (bytes : List Byte) (ok : Bool) (d : Desc) (l : List Desc),
      s.cmds.bulk = d :: l →
      (s.isCompanion = true → s.twin.aligns = [] ∧ s.twin.waiting.all (fun c => c.align.isNone) = true) →
      (ok = false ∨ s.cmds.voided.contains (d.ring, d.pos) = true ∨ crcWith (sourcePrefix d.opcode d.target d.bulkLen) (padTo 0 d.bulkLen bytes) ≠ d.bulkCrc) →
      ∃ t, exec (.bulkSourceReadDone bytes ok) s = .next t
        ∧ t.cmds.bulk = l
        ∧ t.flash = s.flash
        ∧ t.seg = s.seg
        ∧ t.safe.staged = s.safe.staged
        ∧ t.parkPats = s.parkPats
        ∧ t.twin.waiting = s.twin.waiting
        ∧ t.pix = s.pix)
  ∧ (∀ (s : State) (bytes : List Byte) (d : Desc) (l : List Desc),
      s.cmds.bulk = d :: l →
      s.cmds.voided.contains (d.ring, d.pos) = false →
      padTo 0 d.bulkLen bytes = bytes →
      crcWith (sourcePrefix d.opcode d.target d.bulkLen) bytes = d.bulkCrc →
      d.opcode = 0x41 →
      (s.isCompanion = true → s.twin.aligns = [] ∧ s.twin.waiting.all (fun c => c.align.isNone) = true) →
      ∃ t, exec (.bulkSourceReadDone bytes true) s = .next t
        ∧ t.cmds.bulk = l
        ∧ t.seg.patterns = s.seg.patterns ++ [(d, u16s bytes)])
  ∧ (∀ (s : State) (bytes : List Byte) (d : Desc) (l : List Desc),
      s.cmds.bulk = d :: l →
      s.cmds.voided.contains (d.ring, d.pos) = false →
      padTo 0 d.bulkLen bytes = bytes →
      crcWith (sourcePrefix d.opcode d.target d.bulkLen) bytes = d.bulkCrc →
      d.opcode = 0x50 →
      d.mapKind ≤ 3 →
      s.isCompanion = true →
      s.twin.aligns = [] →
      s.twin.waiting.all (fun c => c.align.isNone) = true →
      s.mapSourceStatus d bytes = .ok →
      ∃ t, exec (.bulkSourceReadDone bytes true) s = .next t
        ∧ t.cmds.bulk = l
        ∧ t.twin.waiting = s.twin.waiting ++ [{ desc := d, key := d.key, source := bytes }])
  ∧ (∀ (s : State) (bytes : List Byte) (d : Desc) (l : List Desc),
      s.cmds.bulk = d :: l →
      s.cmds.voided.contains (d.ring, d.pos) = false →
      padTo 0 d.bulkLen bytes = bytes →
      crcWith (sourcePrefix d.opcode d.target d.bulkLen) bytes = d.bulkCrc →
      d.opcode = 0x50 →
      d.mapKind = 0 →
      s.isCompanion = false →
      d.target < 4 →
      s.pix.surfs.length = 4 →
      ∃ t, exec (.bulkSourceReadDone bytes true) s = .next t
        ∧ t.cmds.bulk = l
        ∧ (((t.px d.target).gainStaged.getD []).drop (d.mapOff / 2)).take (u16s bytes).length = u16s bytes)
  ∧ (∀ (s : State) (bytes : List Byte) (d : Desc) (l : List Desc),
      s.cmds.bulk = d :: l →
      s.cmds.voided.contains (d.ring, d.pos) = false →
      padTo 0 d.bulkLen bytes = bytes →
      crcWith (sourcePrefix d.opcode d.target d.bulkLen) bytes = d.bulkCrc →
      d.opcode = 0x50 →
      d.mapKind = 3 →
      s.isCompanion = false →
      d.target < 4 →
      s.pix.surfs.length = 4 →
      d.mapIndex < (s.px d.target).patternsStaged.length →
      ∃ t, exec (.bulkSourceReadDone bytes true) s = .next t
        ∧ t.cmds.bulk = l
        ∧ (((nth (t.px d.target).patternsStaged d.mapIndex).getD []).drop (d.mapOff / 2)).take (u16s bytes).length = u16s bytes)
  ∧ (∀ (s : State) (bytes : List Byte) (d : Desc) (l : List Desc) (n : Nat),
      s.cmds.bulk = d :: l →
      s.cmds.voided.contains (d.ring, d.pos) = false →
      padTo 0 d.bulkLen bytes = bytes →
      crcWith (sourcePrefix d.opcode d.target d.bulkLen) bytes = d.bulkCrc →
      d.opcode = 0x50 →
      d.mapKind = 1 →
      s.isCompanion = false →
      s.mapSourceStatus d bytes = .ok →
      s.runsOn d.target = some n →
      ∃ t, exec (.bulkSourceReadDone bytes true) s = .next t
        ∧ t.cmds.bulk = l
        ∧ ((t.hl d.target).staged = some ((mapWords (bytes.drop 16)).map fun w => { defectOf w with fill := s.fills (defectOf w).cls })))
  ∧ (∀ (s : State) (bytes : List Byte) (d : Desc) (l : List Desc),
      s.cmds.bulk = d :: l →
      s.cmds.voided.contains (d.ring, d.pos) = false →
      padTo 0 d.bulkLen bytes = bytes →
      crcWith (sourcePrefix d.opcode d.target d.bulkLen) bytes = d.bulkCrc →
      d.opcode = 0x50 →
      d.mapKind = 1 →
      s.isCompanion = false →
      d.target < 24 →
      s.pix.health.length = 24 →
      s.mapSourceStatus d bytes = .ok →
      s.runsOn d.target = none →
      ∃ t, exec (.bulkSourceReadDone bytes true) s = .next t
        ∧ t.cmds.bulk = l
        ∧ (t.hl d.target).staged = none
        ∧ ((t.hl d.target).defects = (mapWords (bytes.drop 16)).map fun w => { defectOf w with fill := s.fills (defectOf w).cls }))
  ∧ (∀ (s : State) (bytes : List Byte) (d : Desc) (l : List Desc) (n : Nat),
      s.cmds.bulk = d :: l →
      s.cmds.voided.contains (d.ring, d.pos) = false →
      padTo 0 d.bulkLen bytes = bytes →
      crcWith (sourcePrefix d.opcode d.target d.bulkLen) bytes = d.bulkCrc →
      d.opcode = 0x50 →
      d.mapKind = 2 →
      s.isCompanion = false →
      s.mapSourceStatus d bytes = .ok →
      s.runsOn d.target = some n →
      ∃ t, exec (.bulkSourceReadDone bytes true) s = .next t
        ∧ t.cmds.bulk = l
        ∧ (t.hl d.target).baseStaged = (s.hl d.target).baseStaged ++ [(d.mapOff, bytes)])
  ∧ (∀ (s : State) (bytes : List Byte) (d : Desc) (l : List Desc),
      s.cmds.bulk = d :: l →
      s.cmds.voided.contains (d.ring, d.pos) = false →
      padTo 0 d.bulkLen bytes = bytes →
      crcWith (sourcePrefix d.opcode d.target d.bulkLen) bytes = d.bulkCrc →
      d.opcode = 0x50 →
      d.mapKind = 2 →
      s.isCompanion = false →
      d.target < 24 →
      s.pix.health.length = 24 →
      s.mapSourceStatus d bytes = .ok →
      s.runsOn d.target = none →
      ∃ t, exec (.bulkSourceReadDone bytes true) s = .next t
        ∧ t.cmds.bulk = l
        ∧ (t.hl d.target).baseStaged = []
        ∧ t.fbit (R.PIX_HLT_PORT_STAT_BASE_LOADED d.target) = true)
  ∧ (∀ (s : State) (bytes : List Byte) (d : Desc) (l : List Desc),
      s.cmds.bulk = d :: l →
      s.cmds.voided.contains (d.ring, d.pos) = false →
      padTo 0 d.bulkLen bytes = bytes →
      crcWith (sourcePrefix d.opcode d.target d.bulkLen) bytes = d.bulkCrc →
      d.opcode = 0x50 →
      d.mapKind = 4 →
      (s.isCompanion = true → s.twin.aligns = [] ∧ s.twin.waiting.all (fun c => c.align.isNone) = true) →
      d.target < s.parkPats.length →
      ∃ t, exec (.bulkSourceReadDone bytes true) s = .next t
        ∧ t.cmds.bulk = l
        ∧ ((nth t.parkPats d.target).image.drop d.mapOff).take bytes.length = bytes)
  ∧ (∀ (s : State) (bytes : List Byte) (d : Desc) (l : List Desc),
      s.cmds.bulk = d :: l →
      s.cmds.voided.contains (d.ring, d.pos) = false →
      padTo 0 d.bulkLen bytes = bytes →
      crcWith (sourcePrefix d.opcode d.target d.bulkLen) bytes = d.bulkCrc →
      d.opcode = 0x50 →
      d.mapKind = 5 →
      (s.isCompanion = true → s.twin.aligns = [] ∧ s.twin.waiting.all (fun c => c.align.isNone) = true) →
      d.target < 24 →
      s.ports.length = 24 →
      s.mapSourceStatus d bytes = .ok →
      ∃ t, exec (.bulkSourceReadDone bytes true) s = .next t
        ∧ t.cmds.bulk = l
        ∧ (if (s.port d.target).limp.isSome = true then (t.port d.target).limp = (s.port d.target).limp ∧ (t.port d.target).limpQ = (s.port d.target).limpQ ++ [(d.ring, d.pos, (limpBodies 1024 0 bytes).map fun b => (pktLimpPage, b))] else (t.port d.target).limp = some (d.ring, d.pos)))
  ∧ (∀ (s : State) (bytes : List Byte) (d : Desc) (l : List Desc),
      s.cmds.bulk = d :: l →
      s.cmds.voided.contains (d.ring, d.pos) = false →
      padTo 0 d.bulkLen bytes = bytes →
      crcWith (sourcePrefix d.opcode d.target d.bulkLen) bytes = d.bulkCrc →
      d.opcode = 0x50 →
      s.mapSourceStatus d bytes ≠ .ok →
      (s.isCompanion = true → s.twin.aligns = [] ∧ s.twin.waiting.all (fun c => c.align.isNone) = true) →
      ∃ t, exec (.bulkSourceReadDone bytes true) s = .next t
        ∧ t.cmds.bulk = l
        ∧ t.pix = s.pix
        ∧ t.parkPats = s.parkPats
        ∧ t.twin.waiting = s.twin.waiting
        ∧ t.ports = s.ports)
  ∧ (∀ (s : State) (bytes : List Byte) (d : Desc) (l : List Desc),
      s.cmds.bulk = d :: l →
      s.cmds.voided.contains (d.ring, d.pos) = false →
      padTo 0 d.bulkLen bytes = bytes →
      crcWith (sourcePrefix d.opcode d.target d.bulkLen) bytes = d.bulkCrc →
      d.opcode = 0x60 →
      (s.isCompanion = true → s.twin.aligns = [] ∧ s.twin.waiting.all (fun c => c.align.isNone) = true) →
      s.safe.session = true →
      spbOk bytes d.bulkLen = true →
      ∃ t, exec (.bulkSourceReadDone bytes true) s = .next t
        ∧ t.cmds.bulk = l
        ∧ t.safe.staged = some bytes
        ∧ t.fget R.SAFE_SPB_STAGED_VALUE = spbCheckValue bytes
        ∧ t.fbit R.SAFE_COMM_STATUS_STAGED = true
        ∧ t.fbit R.SAFE_COMM_STATUS_CONFIRMED = false)
  ∧ (∀ (s : State) (bytes : List Byte) (d : Desc) (l : List Desc),
      s.cmds.bulk = d :: l →
      s.cmds.voided.contains (d.ring, d.pos) = false →
      padTo 0 d.bulkLen bytes = bytes →
      crcWith (sourcePrefix d.opcode d.target d.bulkLen) bytes = d.bulkCrc →
      d.opcode = 0x60 →
      (s.isCompanion = true → s.twin.aligns = [] ∧ s.twin.waiting.all (fun c => c.align.isNone) = true) →
      (s.safe.session = false ∨ spbOk bytes d.bulkLen = false) →
      ∃ t, exec (.bulkSourceReadDone bytes true) s = .next t
        ∧ t.cmds.bulk = l
        ∧ t.safe.staged = s.safe.staged
        ∧ t.fget R.SAFE_SPB_STAGED_VALUE = s.fget R.SAFE_SPB_STAGED_VALUE)
  ∧ (∀ (s : State) (bytes : List Byte) (d : Desc) (l : List Desc),
      s.cmds.bulk = d :: l →
      s.cmds.voided.contains (d.ring, d.pos) = false →
      padTo 0 d.bulkLen bytes = bytes →
      crcWith (sourcePrefix d.opcode d.target d.bulkLen) bytes = d.bulkCrc →
      d.opcode ∉ ([0x41, 0x50, 0x60] : List Nat) →
      (s.isCompanion = true → s.twin.aligns = [] ∧ s.twin.waiting.all (fun c => c.align.isNone) = true) →
      s.idleSlot < s.flash.slots.length →
      ∃ t, exec (.bulkSourceReadDone bytes true) s = .next t
        ∧ t.cmds.bulk = l
        ∧ t.flash.jobs = s.flash.jobs ++ [.fwPart d.ring d.pos s.idleSlot (d.arg 32 4) bytes (d.arg 36 1 == 1)]
        ∧ (nth t.flash.slots s.idleSlot).complete = false
        ∧ (nth t.flash.slots s.idleSlot).factory = false)
  ∧ (∀ (s : State) (x : Desc × List Byte) (l : List (Desc × List Byte)),
      s.cmds.dumps = x :: l →
      ∃ t, exec (.healthDumpDone) s = .next t
        ∧ t.cmds.dumps = l)
  ∧ (∀ (s : State),
      s.cmds.dumps = [] →
      ∃ t, exec (.healthDumpDone) s = .next t
        ∧ t = s.after s)
  ∧ (∀ (s : State) (ok : Bool),
      s.flash.jobs = [] →
      ∃ t, exec (.flashWriteDone ok) s = .next t
        ∧ t = s.after s)
  ∧ (∀ (s : State) (ring pos held seq : Nat) (img : List Byte) (l : List FlashJob),
      s.flash.jobs = .spb ring pos 0 held img seq :: l →
      s.flash.spbs.length = 2 →
      ∃ t, exec (.flashWriteDone true) s = .next t
        ∧ t.flash.jobs = l ++ [.spb ring pos 1 1 img seq]
        ∧ nth t.flash.spbs 0 = spbRecord 0 seq img)
  ∧ (∀ (s : State) (ring pos held seq : Nat) (img : List Byte) (l : List FlashJob),
      s.flash.jobs = .spb ring pos 1 held img seq :: l →
      s.flash.spbs.length = 2 →
      ∃ t, exec (.flashWriteDone true) s = .next t
        ∧ t.flash.jobs = l
        ∧ nth t.flash.spbs 1 = spbRecord 1 seq img
        ∧ (t.fbit R.SAFE_COMM_STATUS_COMMIT_BUSY = l.any (fun j => match j with | .spb .. => true | _ => false)))
  ∧ (∀ (s : State) (ring pos copy held seq : Nat) (img : List Byte) (l : List FlashJob),
      s.flash.jobs = .spb ring pos copy held img seq :: l →
      ∃ t, exec (.flashWriteDone false) s = .next t
        ∧ t.flash.jobs = l
        ∧ t.flash.spbs = s.flash.spbs
        ∧ (t.fbit R.SAFE_COMM_STATUS_COMMIT_BUSY = l.any (fun j => match j with | .spb .. => true | _ => false)))
  ∧ (∀ (s : State) (ok : Bool) (ring pos off : Nat) (k : Fin 2) (data : List Byte) (last : Bool) (l : List FlashJob),
      s.flash.jobs = .fwPart ring pos k off data last :: l →
      s.flash.slots.length = 2 →
      ∃ t, exec (.flashWriteDone ok) s = .next t
        ∧ t.flash.jobs = l
        ∧ (if ok = true then (nth t.flash.slots k).image = overwrite 0xFF off data (nth s.flash.slots k).image ∧ (nth t.flash.slots k).complete = (last && !((nth s.flash.slots k).failed && off != 0)) else (nth t.flash.slots k).complete = false ∧ (nth t.flash.slots k).failed = true))
  ∧ (∀ (s : State) (ok : Bool) (ring pos : Nat) (n : SlotDir) (copy : Fin 2) (second : Bool) (l : List FlashJob),
      s.flash.jobs = .fwDir ring pos copy second n :: l →
      s.flash.dirs.length = 2 →
      ∃ t, exec (.flashWriteDone ok) s = .next t
        ∧ (if ok = false then t.flash.jobs = l ∧ t.flash.dirs = s.flash.dirs else nth t.flash.dirs copy = n ∧ t.flash.jobs = if second = true then l else l ++ [.fwDir 0 0 (1 - copy) true n]))

/-- Period boundaries, alignment edges and the periodic updates of the segments. Commands that it says complete: pwmPeriodBoundary, segSyncEdge, segInternalTick, headroomUpdate, lossEstimate, segCurrentCheck. -/
def Obligations.SegmentBoundariesAct : Prop :=
  (∀ (s : State),
      s.shape →
      s.domOn 11 = true →
      ∃ t, exec (.pwmPeriodBoundary) s = .next t
        ∧ (∀ b : Nat, b < 12 → (t.bank b).going = s.fbit (R.SEG_BANK_CTRL_RUN b))
        ∧ t.seg.patterns = []
        ∧ t.seg.periods = s.seg.periods + 1
        ∧ t.seg.lsNow = s.seg.ls)
  ∧ (∀ (s : State),
      s.domOn 11 = false →
      ∃ t, exec (.pwmPeriodBoundary) s = .next t
        ∧ t = s.after s)
  ∧ (∀ (s : State) (onB : Bool) (hi : Nat) (b : Fin 12) (x : Bool),
      s.shape →
      s.domOn 11 = true →
      s.syncAccepted hi = true →
      (s.fget R.SEG_CTRL_ALIGN ≠ 1 ∨ onB = true) →
      (s.bank b).armed = some (0, x) →
      ∃ t, exec (.segSyncEdge onB hi) s = .next t
        ∧ (t.bank b).armed = some (0, true)
        ∧ t.seg.chans = s.seg.chans
        ∧ t.seg.syncAt = some s.ticks)
  ∧ (∀ (s : State) (hi : Nat),
      s.shape →
      s.domOn 11 = true →
      s.syncAccepted hi = true →
      s.fget R.SEG_CTRL_ALIGN = 1 →
      ∃ t, exec (.segSyncEdge false hi) s = .next t
        ∧ (∀ c : Nat, c < 192 → (t.chan c).pulse = false)
        ∧ (∀ b : Nat, b < 12 → (t.bank b).going = s.fbit (R.SEG_BANK_CTRL_RUN b))
        ∧ t.seg.periods = s.seg.periods + 1
        ∧ t.seg.syncAt = some s.ticks)
  ∧ (∀ (s : State) (onB : Bool) (hi : Nat),
      (s.domOn 11 = false ∨ hi < 1000 ∨ s.syncAccepted hi = false) →
      ∃ t, exec (.segSyncEdge onB hi) s = .next t
        ∧ t = s.after s)
  ∧ (∀ (s : State) (onB : Bool) (b : Fin 12) (x : Bool),
      s.shape →
      s.domOn 11 = true →
      (s.fget R.SEG_CTRL_ALIGN ≠ 2 ∨ onB = true) →
      (s.bank b).armed = some (1, x) →
      ∃ t, exec (.segInternalTick onB) s = .next t
        ∧ (t.bank b).armed = some (1, true)
        ∧ t.fbit R.SEG_STATUS_TICK_FREE = !s.domOn 9
        ∧ t.seg.chans = s.seg.chans)
  ∧ (∀ (s : State),
      s.shape →
      s.domOn 11 = true →
      s.fget R.SEG_CTRL_ALIGN = 2 →
      ∃ t, exec (.segInternalTick false) s = .next t
        ∧ (∀ c : Nat, c < 192 → (t.chan c).pulse = false)
        ∧ (∀ b : Nat, b < 12 → (t.bank b).going = s.fbit (R.SEG_BANK_CTRL_RUN b))
        ∧ t.seg.periods = s.seg.periods + 1
        ∧ t.fbit R.SEG_STATUS_TICK_FREE = !s.domOn 9)
  ∧ (∀ (s : State) (onB : Bool),
      s.domOn 11 = false →
      ∃ t, exec (.segInternalTick onB) s = .next t
        ∧ t = s.after s)
  ∧ (∀ (s : State) (r : Fin 4),
      s.shape →
      s.domOn 11 = true →
      s.fbit (R.SEG_RAIL_CFG_EN r) = true →
      s.fbit (R.SEG_RAIL_STAT_ERR r) = false →
      ∃ t, exec (.headroomUpdate) s = .next t
        ∧ (nth t.seg.rails r).justOn = false
        ∧ (nth t.seg.rails r).vout = headroomStep (nth s.seg.rails r).vout (s.segHead r) (s.fget (R.SEG_RAIL_LIM_VMIN_MV r)) (s.fget (R.SEG_RAIL_LIM_VMAX_MV r)) (nth s.seg.rails r).justOn (s.railVh r)
        ∧ t.seg.chans = s.seg.chans)
  ∧ (∀ (s : State) (r : Fin 4),
      s.shape →
      s.domOn 11 = true →
      (s.fbit (R.SEG_RAIL_CFG_EN r) = false ∨ s.fbit (R.SEG_RAIL_STAT_ERR r) = true) →
      ∃ t, exec (.headroomUpdate) s = .next t
        ∧ nth t.seg.rails r = nth s.seg.rails r
        ∧ t.seg.chans = s.seg.chans)
  ∧ (∀ (s : State),
      s.domOn 11 = false →
      ∃ t, exec (.headroomUpdate) s = .next t
        ∧ t = s.after s)
  ∧ (∀ (s : State),
      s.domOn 11 = true →
      ∃ t, exec (.lossEstimate) s = .next t
        ∧ t.fget R.SEG_LOSS_EST_MW = min 65535 s.lossMw
        ∧ t.fbit R.SEG_STATUS_LOSS_LIMITED = decide (t.seg.ls < 65536)
        ∧ (t.seg.ls = if min 1200 (s.fget R.SEG_LIMIT_LOSS_MW) < s.lossMw then (if (List.range 4).any s.railCanDrop = true then s.seg.ls else s.seg.ls * (min 1200 (s.fget R.SEG_LIMIT_LOSS_MW)) / s.lossMw) else if s.lossMw * 10 < (min 1200 (s.fget R.SEG_LIMIT_LOSS_MW)) * 9 then min 65536 (s.seg.ls + 1024) else s.seg.ls)
        ∧ t.seg.periods = 0
        ∧ t.seg.banks = s.seg.banks)
  ∧ (∀ (s : State),
      s.domOn 11 = false →
      ∃ t, exec (.lossEstimate) s = .next t
        ∧ t = s.after s)
  ∧ (∀ (s : State) (ua c : Nat),
      s.shape →
      s.domOn 11 = true →
      s.domOn 10 = true →
      s.checkChan = some c →
      currentMisses ua (s.chan c).cur = false →
      ∃ t, exec (.segCurrentCheck ua) s = .next t
        ∧ (t.chan c).curFails = 0
        ∧ t.seg.checkNext = (c + 1) % 192)
  ∧ (∀ (s : State) (ua c : Nat),
      s.shape →
      s.domOn 11 = true →
      s.domOn 10 = true →
      s.checkChan = some c →
      currentMisses ua (s.chan c).cur = true →
      ∃ t, exec (.segCurrentCheck ua) s = .next t
        ∧ (if (s.chan c).curFails = 0 then (t.chan c).curFails = 1 ∧ (t.chan c).off = false else (t.chan c).curFails = 0 ∧ (t.chan c).off = true ∧ t.chanLatched c = true)
        ∧ t.seg.checkNext = (c + 1) % 192)
  ∧ (∀ (s : State) (ua : Nat),
      (s.domOn 11 = false ∨ s.domOn 10 = false ∨ s.checkChan = none) →
      ∃ t, exec (.segCurrentCheck ua) s = .next t
        ∧ t = s.after s)

/-- Pulses, faults, clears, banks and rails of the segments. Commands that it says complete: segPulseStart, segPulseEnd, segOvercurrent, segChannelClear, segBankRun, segRailEnable, segBlankRelease. -/
def Obligations.SegmentChannelsAct : Prop :=
  (∀ (s : State) (c : Fin 192),
      s.shape →
      s.chanOn c = true →
      s.pulseDuty c ≠ 0 →
      ∃ t, exec (.segPulseStart c) s = .next t
        ∧ (t.chan c).pulse = true
        ∧ (t.chan c).duty = s.pulseDuty c
        ∧ (t.chan c).cur = nth (s.bank (c / 16)).curT (c % 16) * s.seg.lsNow / 65536
        ∧ t.seg.banks = s.seg.banks)
  ∧ (∀ (s : State) (c : Fin 192),
      (s.chanOn c = false ∨ s.pulseDuty c = 0) →
      ∃ t, exec (.segPulseStart c) s = .next t
        ∧ t = s.after s)
  ∧ (∀ (s : State) (c : Fin 192) (mv : Nat) (lost : Bool) (nbs : List (Nat × Nat × Nat)),
      s.shape →
      (s.chan c).pulse = true →
      ∃ t, exec (.segPulseEnd c mv lost nbs) s = .next t
        ∧ (t.chan c).pulse = false
        ∧ (t.chan c).mvEnd = mv
        ∧ (80 ≤ (s.chan c).duty → (mv, s.ticks) ∈ (t.chan c).vEnds))
  ∧ (∀ (s : State) (c : Fin 192) (mv : Nat) (lost : Bool),
      s.shape →
      (s.chan c).pulse = true →
      ((s.chan c).duty < 80 ∨ (s.chan c).noDiag = true) →
      ∃ t, exec (.segPulseEnd c mv lost []) s = .next t
        ∧ (t.chan c).openCnt = (s.chan c).openCnt
        ∧ (t.chan c).shortCnt = (s.chan c).shortCnt
        ∧ (t.chan c).off = (s.chan c).off)
  ∧ (∀ (s : State) (c : Fin 192) (mv : Nat),
      s.shape →
      (s.chan c).pulse = true →
      80 ≤ (s.chan c).duty →
      (s.chan c).noDiag = false →
      (s.chan c).off = false →
      mv < s.fget R.SEG_DIAG_A_OPEN_MV →
      s.nConf ≤ (s.chan c).openCnt + 1 →
      ∃ t, exec (.segPulseEnd c mv true []) s = .next t
        ∧ (t.chan c).pulse = false
        ∧ t.chanLatched c = true
        ∧ (t.chan c).off = true)
  ∧ (∀ (s : State) (c : Fin 192) (mv : Nat) (lost : Bool) (nbs : List (Nat × Nat × Nat)),
      (s.chan c).pulse = false →
      ∃ t, exec (.segPulseEnd c mv lost nbs) s = .next t
        ∧ t = s.after s)
  ∧ (∀ (s : State) (c : Fin 192),
      s.shape →
      (s.chan c).pulse = true →
      (s.chan c).off = false →
      ∃ t, exec (.segOvercurrent c) s = .next t
        ∧ (t.chan c).pulse = false
        ∧ (t.chan c).off = true
        ∧ t.chanLatched c = true
        ∧ t.fbit R.SEG_STATUS_FAULT = true)
  ∧ (∀ (s : State) (c : Fin 192),
      s.shape →
      (s.chan c).pulse = true →
      (s.chan c).off = true →
      ∃ t, exec (.segOvercurrent c) s = .next t
        ∧ (t.chan c).pulse = false
        ∧ (t.chan c).off = true
        ∧ t.fget (R.SEG_FAULT_CH (c / 32)) = s.fget (R.SEG_FAULT_CH (c / 32)))
  ∧ (∀ (s : State) (c : Fin 192),
      (s.chan c).pulse = false →
      ∃ t, exec (.segOvercurrent c) s = .next t
        ∧ t = s.after s)
  ∧ (∀ (s : State) (w : Fin 6) (mask : Nat),
      s.domOn 5 = true →
      s.blockOff (0x80050 + 4 * w.val) = false →
      ∃ t, exec (.segChannelClear w mask) s = .next t
        ∧ (∀ k : Nat, k < 32 → bitOf (t.fget (R.SEG_FAULT_CH w)) k = (bitOf (s.fget (R.SEG_FAULT_CH w)) k && !bitOf mask k)))
  ∧ (∀ (s : State) (b : Fin 12) (on : Bool),
      s.shape →
      s.domOn 5 = true →
      s.blockOff (0x80100 + 0x10 * b.val) = false →
      ∃ t, exec (.segBankRun b on) s = .next t
        ∧ t.fbit (R.SEG_BANK_CTRL_RUN b) = on
        ∧ bitOf (t.fget R.SEG_STATUS_RUNNING) b = on
        ∧ (t.bank b).going = (s.bank b).going
        ∧ (on = true → s.fbit (R.SEG_BANK_CTRL_RUN b) = false → (t.bank b).start = true))
  ∧ (∀ (s : State) (r : Fin 4) (on : Bool),
      s.domOn 5 = true →
      s.blockOff (0x80080 + 0x10 * r.val) = false →
      ∃ t, exec (.segRailEnable r on) s = .next t
        ∧ t.fbit (R.SEG_RAIL_CFG_EN r) = on
        ∧ t.fbit (R.SEG_RAIL_STAT_ERR r) = false
        ∧ t.seg.chans = s.seg.chans)
  ∧ (∀ (s : State),
      s.seg.resetOff = true →
      bitOf s.pins.raw 2 = false →
      bitOf s.pins.raw 3 = false →
      ∃ t, exec (.segBlankRelease) s = .next t
        ∧ t.seg.resetOff = false
        ∧ t.seg.chans = s.seg.chans)
  ∧ (∀ (s : State),
      (s.seg.resetOff = false ∨ bitOf s.pins.raw 2 = true ∨ bitOf s.pins.raw 3 = true) →
      ∃ t, exec (.segBlankRelease) s = .next t
        ∧ t = s.after s)
  ∧ (∀ (s : State) (word : Fin 6) (mask : Nat),
      (s.domOn 5 = false ∨ s.blockOff (0x80050 + 4 * word.val) = true) →
      ∃ t, exec (.segChannelClear word mask) s = .next t
        ∧ (t = s.after (if s.domOn 5 = true then (s.offAccess (0x80050 + 4 * word.val) true).idleRestart else s)))
  ∧ (∀ (s : State) (bank : Fin 12) (on : Bool),
      (s.domOn 5 = false ∨ s.blockOff (0x80100 + 0x10 * bank.val) = true) →
      ∃ t, exec (.segBankRun bank on) s = .next t
        ∧ (t = s.after (if s.domOn 5 = true then (s.offAccess (0x80100 + 0x10 * bank.val) true).idleRestart else s)))
  ∧ (∀ (s : State) (rail : Fin 4) (on : Bool),
      (s.domOn 5 = false ∨ s.blockOff (0x80080 + 0x10 * rail.val) = true) →
      ∃ t, exec (.segRailEnable rail on) s = .next t
        ∧ (t = s.after (if s.domOn 5 = true then (s.offAccess (0x80080 + 0x10 * rail.val) true).idleRestart else s)))

/-- A lane starts and stops by its register, and bring-up restarts after its time. Commands that it says complete: laneEnable, laneDisable, twinLaneEnable, enWaitExpiry, bringupTimeout, laneRetrain, exitFail, deskewFail. -/
def Obligations.LanesStartAndStop : Prop :=
  (∀ (s : State) (p : Fin 24),
      s.shape →
      s.domOn 5 = true →
      s.blockOff (0x60000 + 0x800 * p.val) = false →
      s.legacyPartner p = false →
      s.fbit (R.TILE_LANE_CTRL_EN p) = false →
      ∃ t, exec (.laneEnable p) s = .next t
        ∧ t.fbit (R.TILE_LANE_CTRL_EN p) = true
        ∧ t.lane p = laneWait
        ∧ t.fbit (R.TILE_LANE_STATUS_RATE_LOW p) = false
        ∧ (t.port p).dnLimit = 3 ∧ (t.port p).upLimit = 1)
  ∧ (∀ (s : State) (p : Fin 24),
      s.domOn 5 = true →
      s.blockOff (0x60000 + 0x800 * p.val) = false →
      (s.legacyPartner p = true ∨ s.fbit (R.TILE_LANE_CTRL_EN p) = true) →
      ∃ t, exec (.laneEnable p) s = .next t
        ∧ t = s.after s.idleRestart)
  ∧ (∀ (s : State) (p : Fin 24),
      s.shape →
      s.domOn 5 = true →
      s.blockOff (0x60000 + 0x800 * p.val) = false →
      s.fbit (R.TILE_LANE_CTRL_EN p) = true →
      ∃ t, exec (.laneDisable p) s = .next t
        ∧ t.fbit (R.TILE_LANE_CTRL_EN p) = false
        ∧ t.lane p = laneOff
        ∧ t.fget (R.TILE_LANE_STATUS_DN_RATE p) = 0
        ∧ t.fget (R.TILE_LANE_STATUS_UP_RATE p) = 0)
  ∧ (∀ (s : State) (p : Fin 24),
      s.domOn 5 = true →
      s.blockOff (0x60000 + 0x800 * p.val) = false →
      s.fbit (R.TILE_LANE_CTRL_EN p) = false →
      ∃ t, exec (.laneDisable p) s = .next t
        ∧ t = s.after s.idleRestart)
  ∧ (∀ (s : State) (l : Fin 2),
      s.shape →
      s.domOn 5 = true →
      s.blockOff (0x70400 + 0x100 * l.val) = false →
      s.fbit (R.TWIN_LANE_CTRL_EN l) = false →
      ∃ t, exec (.twinLaneEnable l) s = .next t
        ∧ t.fbit (R.TWIN_LANE_CTRL_EN l) = true
        ∧ t.laneOf (24 + l) = laneTrain
        ∧ (nth t.twin.links l).limit = 3)
  ∧ (∀ (s : State) (l : Fin 2),
      s.domOn 5 = true →
      s.blockOff (0x70400 + 0x100 * l.val) = false →
      s.fbit (R.TWIN_LANE_CTRL_EN l) = true →
      ∃ t, exec (.twinLaneEnable l) s = .next t
        ∧ t = s.after s.idleRestart)
  ∧ (∀ (s : State) (p : Fin 24),
      s.portOn p = true →
      s.lane p = laneWait →
      ∃ t, exec (.enWaitExpiry p) s = .next t
        ∧ t.lane p = laneTrain
        ∧ t.fget (R.TILE_LANE_STATUS_DN_RATE p) = b2n (s.legacy p))
  ∧ (∀ (s : State) (p : Fin 24),
      (s.portOn p = false ∨ s.lane p ≠ laneWait) →
      ∃ t, exec (.enWaitExpiry p) s = .next t
        ∧ t = s.after s)
  ∧ (∀ (s : State) (u : Fin 26),
      s.unitOn u = true →
      (s.laneOf u = laneTrain ∨ s.laneOf u = laneLinked) →
      ∃ t, exec (.bringupTimeout u) s = .next t
        ∧ t.laneOf u = laneTrain
        ∧ t.fget (timeoutsFld u) = min (2 ^ (timeoutsFld u).width - 1) (s.fget (timeoutsFld u) + 1))
  ∧ (∀ (s : State) (u : Fin 26),
      (s.unitOn u = false ∨ (s.laneOf u ≠ laneTrain ∧ s.laneOf u ≠ laneLinked)) →
      ∃ t, exec (.bringupTimeout u) s = .next t
        ∧ t = s.after s)
  ∧ (∀ (s : State) (u : Fin 26),
      s.domOn 5 = true →
      s.blockOff (laneCtrl u.val) = false →
      s.unitOn u = true →
      laneIsUp (s.laneOf u) = true →
      ∃ t, exec (.laneRetrain u) s = .next t
        ∧ t.laneOf u = laneRetrain
        ∧ t.fget (retrainsFld u) = min (2 ^ (retrainsFld u).width - 1) (s.fget (retrainsFld u) + 1))
  ∧ (∀ (s : State) (u : Fin 26),
      s.domOn 5 = true →
      s.blockOff (laneCtrl u.val) = false →
      (s.unitOn u = false ∨ laneIsUp (s.laneOf u) = false) →
      ∃ t, exec (.laneRetrain u) s = .next t
        ∧ t = s.after s.idleRestart)
  ∧ (∀ (s : State) (p : Fin 24),
      s.portOn p = true →
      s.legacy p = false →
      laneIsUp (s.lane p) = true →
      ∃ t, exec (.exitFail p) s = .next t
        ∧ t.lane p = laneRetrain
        ∧ t.fbit (R.TILE_LANE_STATUS_UP_IDLE p) = false
        ∧ t.fget (R.TILE_LANE_EVT_EXIT_FAILS p) = min (2 ^ (R.TILE_LANE_EVT_EXIT_FAILS p).width - 1) (s.fget (R.TILE_LANE_EVT_EXIT_FAILS p) + 1))
  ∧ (∀ (s : State) (p : Fin 24),
      s.portOn p = true →
      s.legacy p = false →
      s.lane p = laneLinked →
      s.upIdle p = true →
      ∃ t, exec (.exitFail p) s = .next t
        ∧ t.lane p = laneTrain
        ∧ t.fget (R.TILE_LANE_EVT_EXIT_FAILS p) = min (2 ^ (R.TILE_LANE_EVT_EXIT_FAILS p).width - 1) (s.fget (R.TILE_LANE_EVT_EXIT_FAILS p) + 1))
  ∧ (∀ (s : State) (p : Fin 24),
      (s.portOn p = false ∨ s.legacy p = true ∨ (laneIsUp (s.lane p) = false ∧ (s.lane p ≠ laneLinked ∨ s.upIdle p = false))) →
      ∃ t, exec (.exitFail p) s = .next t
        ∧ t = s.after s)
  ∧ (∀ (s : State) (l : Fin 2) (skew : Int),
      s.domOn 8 = true →
      (s.laneOf (24 + l) = laneLinked ∨ s.laneOf (24 + l) = laneActive) →
      ∃ t, exec (.deskewFail l skew) s = .next t
        ∧ t.laneOf (24 + l) = laneRetrain
        ∧ t.fbit (R.TWIN_LANE_STATUS_DESKEWED l) = false
        ∧ t.fget (R.TWIN_LANE_EVT_DESKEW_FAILS l) = min (2 ^ (R.TWIN_LANE_EVT_DESKEW_FAILS l).width - 1) (s.fget (R.TWIN_LANE_EVT_DESKEW_FAILS l) + 1))
  ∧ (∀ (s : State) (l : Fin 2) (skew : Int),
      s.domOn 8 = true →
      s.symbolsRun l = true →
      s.laneOf (24 + l) ≠ laneLinked →
      s.laneOf (24 + l) ≠ laneActive →
      ∃ t, exec (.deskewFail l skew) s = .next t
        ∧ t.laneOf (24 + l) = s.laneOf (24 + l)
        ∧ t.fbit (R.TWIN_LANE_STATUS_DESKEWED l) = false
        ∧ t.fget (R.TWIN_LANE_EVT_DESKEW_FAILS l) = min (2 ^ (R.TWIN_LANE_EVT_DESKEW_FAILS l).width - 1) (s.fget (R.TWIN_LANE_EVT_DESKEW_FAILS l) + 1))
  ∧ (∀ (s : State) (l : Fin 2) (skew : Int),
      (s.domOn 8 = false ∨ s.symbolsRun l = false) →
      ∃ t, exec (.deskewFail l skew) s = .next t
        ∧ t = s.after s)
  ∧ (∀ (s : State) (port : Fin 24),
      (s.domOn 5 = false ∨ s.blockOff (0x60000 + 0x800 * port.val) = true) →
      ∃ t, exec (.laneEnable port) s = .next t
        ∧ (t = s.after (if s.domOn 5 = true then (s.offAccess (0x60000 + 0x800 * port.val) true).idleRestart else s)))
  ∧ (∀ (s : State) (port : Fin 24),
      (s.domOn 5 = false ∨ s.blockOff (0x60000 + 0x800 * port.val) = true) →
      ∃ t, exec (.laneDisable port) s = .next t
        ∧ (t = s.after (if s.domOn 5 = true then (s.offAccess (0x60000 + 0x800 * port.val) true).idleRestart else s)))
  ∧ (∀ (s : State) (unit : Fin 26),
      (s.domOn 5 = false ∨ s.blockOff (laneCtrl unit.val) = true) →
      ∃ t, exec (.laneRetrain unit) s = .next t
        ∧ (t = s.after (if s.domOn 5 = true then (s.offAccess (laneCtrl unit.val) true).idleRestart else s)))
  ∧ (∀ (s : State) (link : Fin 2),
      (s.domOn 5 = false ∨ s.blockOff (0x70400 + 0x100 * link.val) = true) →
      ∃ t, exec (.twinLaneEnable link) s = .next t
        ∧ (t = s.after (if s.domOn 5 = true then (s.offAccess (0x70400 + 0x100 * link.val) true).idleRestart else s)))

/-- Lock, ordered sets and the times of training move a lane between its states. Commands that it says complete: receiverLock, lockLost, orderedSetReceived, rateTrainTimeout, retrainTimeout. -/
def Obligations.TrainingActs : Prop :=
  (∀ (s : State) (u : Fin 26) (l : Fin 2) (rx0 rx1 : List RxSymbol) (skew : Int),
      s.shape →
      s.unitOn u = true →
      s.legacyUnit u = false →
      l.val ∈ lanesOf u →
      s.pins.lnref = true →
      laneTrains (s.laneOf u) = true →
      ((s.rxOf u l).take (rxTaken rx0 rx1 l)).locked = true →
      (s.hsOf u l).trn1Rx < 8 →
      ∃ t, exec (.receiverLock u rx0 rx1 skew) s = .next t
        ∧ (t.hsOf u l).locked = true
        ∧ t.laneOf u = s.laneOf u)
  ∧ (∀ (s : State) (u : Fin 26) (l : Fin 2) (rx0 rx1 : List RxSymbol) (skew : Int),
      s.shape →
      s.unitOn u = true →
      s.legacyUnit u = false →
      l.val ∈ lanesOf u →
      s.pins.lnref = true →
      laneTrains (s.laneOf u) = true →
      (s.hsOf u l).locked = true →
      (s.rxOf u l).loses (rxTaken rx0 rx1 l) = true →
      ((s.rxOf u l).take (rxTaken rx0 rx1 l)).locked = false →
      ∃ t, exec (.receiverLock u rx0 rx1 skew) s = .next t
        ∧ (t.hsOf u l).locked = false
        ∧ (t.hsOf u l).trn1Rx = 0
        ∧ t.laneOf u = s.laneOf u)
  ∧ (∀ (s : State) (u : Fin 26) (rx0 rx1 : List RxSymbol) (skew : Int),
      s.shape →
      s.unitOn u = true →
      s.legacyUnit u = false →
      u.val < 24 →
      s.pins.lnref = true →
      laneTrains (s.laneOf u) = true →
      (s.hsOf u 0).complete = true →
      (s.rxOf u 0).loses rx0 = false →
      ∃ t, exec (.receiverLock u rx0 rx1 skew) s = .next t
        ∧ (s.laneOf u = laneTrain → t.laneOf u = laneLinked)
        ∧ (s.laneOf u ≠ laneTrain → t.laneOf u = laneActive))
  ∧ (∀ (s : State) (u : Fin 26) (rx0 rx1 : List RxSymbol) (skew : Int),
      (s.unitOn u = false ∨ s.legacyUnit u = true ∨ s.pins.lnref = false ∨ laneTrains (s.laneOf u) = false) →
      ∃ t, exec (.receiverLock u rx0 rx1 skew) s = .next t
        ∧ t = s.after s)
  ∧ (∀ (s : State) (u : Fin 26) (l : Fin 2) (rx0 rx1 : List RxSymbol) (sq : Fin 4),
      s.shape →
      s.unitOn u = true →
      s.legacyUnit u = false →
      l.val ∈ lanesOf u →
      s.upIdle u = false →
      laneTrains (s.laneOf u) = true →
      (bitOf sq l = true ∨ (s.rxOf u l).loses (rxTaken rx0 rx1 l) = true) →
      ∃ t, exec (.lockLost u rx0 rx1 sq) s = .next t
        ∧ (t.hsOf u l).locked = false
        ∧ (t.hsOf u l).trn1Rx = 0
        ∧ t.laneOf u = s.laneOf u)
  ∧ (∀ (s : State) (u : Fin 26) (l : Fin 2) (rx0 rx1 : List RxSymbol) (sq : Fin 4),
      s.unitOn u = true →
      s.legacyUnit u = false →
      l.val ∈ lanesOf u →
      s.upIdle u = false →
      s.laneOf u = laneLinked →
      (bitOf sq l = true ∨ (s.rxOf u l).loses (rxTaken rx0 rx1 l) = true) →
      ∃ t, exec (.lockLost u rx0 rx1 sq) s = .next t
        ∧ t.laneOf u = laneTrain)
  ∧ (∀ (s : State) (u : Fin 26) (l : Fin 2) (rx0 rx1 : List RxSymbol) (sq : Fin 4),
      s.unitOn u = true →
      s.legacyUnit u = false →
      l.val ∈ lanesOf u →
      s.upIdle u = false →
      laneIsUp (s.laneOf u) = true →
      (bitOf sq l = true ∨ (s.rxOf u l).loses (rxTaken rx0 rx1 l) = true) →
      ∃ t, exec (.lockLost u rx0 rx1 sq) s = .next t
        ∧ t.laneOf u = laneRetrain
        ∧ t.fget (retrainsFld u) = min (2 ^ (retrainsFld u).width - 1) (s.fget (retrainsFld u) + 1))
  ∧ (∀ (s : State) (u : Fin 26) (l : Fin 2) (rx0 rx1 : List RxSymbol) (sq : Fin 4),
      s.unitOn u = true →
      s.legacyUnit u = false →
      l.val ∈ lanesOf u →
      s.upIdle u = false →
      s.laneOf u ∈ ([laneOff, laneWait, lanePrbs, laneLoopback] : List Nat) →
      ∃ t, exec (.lockLost u rx0 rx1 sq) s = .next t
        ∧ t.laneOf u = s.laneOf u
        ∧ t.fget (retrainsFld u) = s.fget (retrainsFld u))
  ∧ (∀ (s : State) (u : Fin 26) (rx0 rx1 : List RxSymbol) (sq : Fin 4),
      s.unitOn u = true →
      s.legacyUnit u = false →
      u.val < 24 →
      s.upIdle u = false →
      (lanesOf u).all (fun l => !bitOf sq l && !(s.rxOf u l).loses (rxTaken rx0 rx1 l)) = true →
      ∃ t, exec (.lockLost u rx0 rx1 sq) s = .next t
        ∧ t.laneOf u = s.laneOf u
        ∧ (s.laneOf u = laneLinked ∨ laneIsUp (s.laneOf u) = true → t.fget (R.TILE_LANE_SYMERR_COUNT u) = min (2 ^ (R.TILE_LANE_SYMERR_COUNT u).width - 1) (s.fget (R.TILE_LANE_SYMERR_COUNT u) + (s.rxOf u 0).invalid rx0)))
  ∧ (∀ (s : State) (u : Fin 26) (rx0 rx1 : List RxSymbol) (sq : Fin 4),
      s.unitOn u = true →
      s.legacyUnit u = false →
      24 ≤ u.val →
      (lanesOf u).all (fun l => !bitOf sq l && !(s.rxOf u l).loses (rxTaken rx0 rx1 l)) = true →
      ∃ t, exec (.lockLost u rx0 rx1 sq) s = .next t
        ∧ t.laneOf u = s.laneOf u)
  ∧ (∀ (s : State) (u : Fin 26) (rx0 rx1 : List RxSymbol) (sq : Fin 4),
      s.unitOn u = true →
      s.legacyUnit u = false →
      s.upIdle u = true →
      burstScan {} 0 rx0 = none →
      ∃ t, exec (.lockLost u rx0 rx1 sq) s = .next t
        ∧ t = s.after s)
  ∧ (∀ (s : State) (u : Fin 26) (rx0 rx1 : List RxSymbol) (sq : Fin 4) (r : Receiver) (rest : List RxSymbol),
      s.unitOn u = true →
      s.legacyUnit u = false →
      s.upIdle u = true →
      burstScan {} 0 rx0 = some (r, rest) →
      r.loses rest = false →
      ∃ t, exec (.lockLost u rx0 rx1 sq) s = .next t
        ∧ t.laneOf u = s.laneOf u
        ∧ t.fbit (R.TILE_LANE_STATUS_UP_IDLE u) = false)
  ∧ (∀ (s : State) (u : Fin 26) (rx0 rx1 : List RxSymbol) (sq : Fin 4),
      (s.unitOn u = false ∨ s.legacyUnit u = true) →
      ∃ t, exec (.lockLost u rx0 rx1 sq) s = .next t
        ∧ t = s.after s)
  ∧ (∀ (s : State) (u : Fin 26) (l : Fin 2),
      s.shape →
      s.unitOn u = true →
      s.legacyUnit u = false →
      l.val ∈ lanesOf u →
      laneTrains (s.laneOf u) = true →
      (s.hsOf u l).trn1Rx + 1 < 8 →
      ∃ t, exec (.orderedSetReceived u l false 0x50) s = .next t
        ∧ (t.hsOf u l).trn1Rx = (s.hsOf u l).trn1Rx + 1
        ∧ t.laneOf u = s.laneOf u)
  ∧ (∀ (s : State) (u : Fin 26),
      s.shape →
      s.unitOn u = true →
      s.legacyUnit u = false →
      u.val < 24 →
      laneTrains (s.laneOf u) = true →
      (s.hsOf u 0).locked = true →
      7 ≤ (s.hsOf u 0).trn1Rx →
      8 ≤ (s.hsOf u 0).trn1Tx →
      ∃ t, exec (.orderedSetReceived u 0 false 0x50) s = .next t
        ∧ (s.laneOf u = laneTrain → t.laneOf u = laneLinked)
        ∧ (s.laneOf u ≠ laneTrain → t.laneOf u = laneActive))
  ∧ (∀ (s : State) (u : Fin 26) (l : Fin 2),
      s.shape →
      s.unitOn u = true →
      s.legacyUnit u = false →
      laneTrains (s.laneOf u) = false →
      ∃ t, exec (.orderedSetReceived u l false 0x50) s = .next t
        ∧ t.laneOf u = s.laneOf u
        ∧ t.fget (retrainsFld u) = s.fget (retrainsFld u))
  ∧ (∀ (s : State) (u : Fin 26) (l : Fin 2),
      s.unitOn u = true →
      s.legacyUnit u = false →
      laneIsUp (s.laneOf u) = true →
      ∃ t, exec (.orderedSetReceived u l false 0x4A) s = .next t
        ∧ t.laneOf u = laneRetrain
        ∧ t.fget (retrainsFld u) = min (2 ^ (retrainsFld u).width - 1) (s.fget (retrainsFld u) + 1))
  ∧ (∀ (s : State) (u : Fin 26) (l : Fin 2),
      s.shape →
      s.unitOn u = true →
      s.legacyUnit u = false →
      l.val ∈ lanesOf u →
      laneIsUp (s.laneOf u) = false →
      ∃ t, exec (.orderedSetReceived u l false 0x4A) s = .next t
        ∧ t.laneOf u = s.laneOf u
        ∧ (laneTrains (s.laneOf u) = true → (t.hsOf u l).trn1Rx = 0))
  ∧ (∀ (s : State) (u : Fin 26) (l : Fin 2),
      s.unitOn u = true →
      s.legacyUnit u = false →
      u.val < 24 →
      (laneIsUp (s.laneOf u) = true ∨ s.laneOf u = laneLinked) →
      ∃ t, exec (.orderedSetReceived u l false 0xC4) s = .next t
        ∧ t.fbit (R.TILE_LANE_STATUS_UP_IDLE u) = true
        ∧ t.laneOf u = s.laneOf u)
  ∧ (∀ (s : State) (u : Fin 26) (l : Fin 2),
      s.unitOn u = true →
      s.legacyUnit u = false →
      (24 ≤ u.val ∨ (laneIsUp (s.laneOf u) = false ∧ s.laneOf u ≠ laneLinked)) →
      ∃ t, exec (.orderedSetReceived u l false 0xC4) s = .next t
        ∧ t.laneOf u = s.laneOf u
        ∧ (u.val < 24 → t.fbit (R.TILE_LANE_STATUS_UP_IDLE u) = s.fbit (R.TILE_LANE_STATUS_UP_IDLE u)))
  ∧ (∀ (s : State) (u : Fin 26) (l : Fin 2) (c : Fin 4),
      s.shape →
      s.unitOn u = true →
      s.legacyUnit u = false →
      24 ≤ u.val →
      s.laneOf u = laneLinked →
      (nth s.twin.links (linkOf u)).rateRx < 31 →
      ∃ t, exec (.orderedSetReceived u l false (Fin.ofNat 256 (0xA0 + c.val))) s = .next t
        ∧ (nth t.twin.links (linkOf u)).rateRx = (nth s.twin.links (linkOf u)).rateRx + 1
        ∧ (nth t.twin.links (linkOf u)).peerMax = c
        ∧ t.laneOf u = laneLinked)
  ∧ (∀ (s : State) (u : Fin 26) (l : Fin 2) (c : Fin 4),
      s.shape →
      s.unitOn u = true →
      s.legacyUnit u = false →
      24 ≤ u.val →
      s.laneOf u = laneLinked →
      31 ≤ (nth s.twin.links (linkOf u)).rateRx →
      ∃ t, exec (.orderedSetReceived u l false (Fin.ofNat 256 (0xA0 + c.val))) s = .next t
        ∧ (t.laneOf u = if min (min (s.fget (R.TWIN_LANE_CFG_MAX (linkOf u))) c) (nth s.twin.links (linkOf u)).limit = 0 then laneActive else laneRateTrain))
  ∧ (∀ (s : State) (u : Fin 26) (l : Fin 2) (c : Fin 4),
      s.unitOn u = true →
      s.legacyUnit u = false →
      (u.val < 24 ∨ s.laneOf u ≠ laneLinked) →
      ∃ t, exec (.orderedSetReceived u l false (Fin.ofNat 256 (0xA0 + c.val))) s = .next t
        ∧ t.laneOf u = s.laneOf u)
  ∧ (∀ (s : State) (u : Fin 26) (o : Fin 256),
      s.unitOn u = true →
      s.legacyUnit u = false →
      u.val < 24 →
      setOf o = none →
      s.upIdle u = false →
      laneIsUp (s.laneOf u) = true →
      ∃ t, exec (.orderedSetReceived u 0 false o) s = .next t
        ∧ (if (s.rxOf u 0).loses [.stray] = true then t.laneOf u = laneRetrain else t.laneOf u = s.laneOf u ∧ t.fget (R.TILE_LANE_SYMERR_COUNT u) = min (2 ^ (R.TILE_LANE_SYMERR_COUNT u).width - 1) (s.fget (R.TILE_LANE_SYMERR_COUNT u) + (s.rxOf u 0).invalid [.stray])))
  ∧ (∀ (s : State) (u : Fin 26) (l : Fin 2) (o : Fin 256),
      s.unitOn u = true →
      s.legacyUnit u = false →
      setOf o = none →
      s.upIdle u = true →
      laneTrains (s.laneOf u) = false →
      ∃ t, exec (.orderedSetReceived u l false o) s = .next t
        ∧ t = s.after s)
  ∧ (∀ (s : State) (u : Fin 26) (l : Fin 2) (o : Fin 256),
      s.shape →
      s.unitOn u = true →
      s.legacyUnit u = false →
      l.val ∈ lanesOf u →
      laneTrains (s.laneOf u) = true →
      ∃ t, exec (.orderedSetReceived u l true o) s = .next t
        ∧ (t.hsOf u l).trn1Rx = 0
        ∧ (t.hsOf u l).locked = (s.hsOf u l).locked
        ∧ t.laneOf u = s.laneOf u)
  ∧ (∀ (s : State) (u : Fin 26) (l : Fin 2) (o : Fin 256),
      laneTrains (s.laneOf u) = false →
      ∃ t, exec (.orderedSetReceived u l true o) s = .next t
        ∧ t = s.after s)
  ∧ (∀ (s : State) (u : Fin 26) (l : Fin 2) (k : Bool) (o : Fin 256),
      (s.unitOn u = false ∨ s.legacyUnit u = true) →
      ∃ t, exec (.orderedSetReceived u l k o) s = .next t
        ∧ t = s.after s)
  ∧ (∀ (s : State) (u : Fin 26),
      s.unitOn u = true →
      s.laneOf u = laneRateTrain →
      ∃ t, exec (.rateTrainTimeout u) s = .next t
        ∧ t.laneOf u = laneTrain
        ∧ t.fget (rateFailsFld u) = min (2 ^ (rateFailsFld u).width - 1) (s.fget (rateFailsFld u) + 1))
  ∧ (∀ (s : State) (u : Fin 26),
      (s.unitOn u = false ∨ s.laneOf u ≠ laneRateTrain) →
      ∃ t, exec (.rateTrainTimeout u) s = .next t
        ∧ t = s.after s)
  ∧ (∀ (s : State) (u : Fin 26),
      s.shape →
      s.unitOn u = true →
      s.laneOf u = laneRetrain →
      ∃ t, exec (.retrainTimeout u) s = .next t
        ∧ (s.retrainTries u < 3 → t.retrainTries u = s.retrainTries u + 1 ∧ t.laneOf u = laneRetrain)
        ∧ (3 ≤ s.retrainTries u → t.laneOf u = laneTrain))
  ∧ (∀ (s : State) (u : Fin 26),
      (s.unitOn u = false ∨ s.laneOf u ≠ laneRetrain) →
      ∃ t, exec (.retrainTimeout u) s = .next t
        ∧ t = s.after s)

/-- Electrical idle, the reference and legacy mode. Commands that it says complete: idleEntry, lnrefLost, lnrefReturn, legacyEnable, legacyActive, legacyAlert, legacyAlertRetrain. -/
def Obligations.IdleAndReferenceAct : Prop :=
  (∀ (s : State) (p : Fin 24),
      (s.portOn p && s.lane p == laneActive && !s.legacy p && (!s.boundEnabled p || !s.owns p) && !s.totHolds p && (s.port p).unres.isEmpty && (s.port p).outQ.isEmpty && (s.port p).ctrlQ.isEmpty) = true →
      ∃ t, exec (.idleEntry p) s = .next t
        ∧ t.lane p = laneIdle)
  ∧ (∀ (s : State) (p : Fin 24),
      (s.portOn p && s.lane p == laneActive && !s.legacy p && (!s.boundEnabled p || !s.owns p) && !s.totHolds p && (s.port p).unres.isEmpty && (s.port p).outQ.isEmpty && (s.port p).ctrlQ.isEmpty) = false →
      ∃ t, exec (.idleEntry p) s = .next t
        ∧ t = s.after s)
  ∧ (∀ (s : State) (u : Fin 26),
      s.pins.lnref = true →
      s.unitOn u = true →
      s.legacyUnit u = false →
      ∃ t, exec (.lnrefLost) s = .next t
        ∧ t.pins.lnref = false
        ∧ (laneIsUp (s.laneOf u) = true → t.laneOf u = laneRetrain)
        ∧ (s.laneOf u = laneLinked → t.laneOf u = laneTrain)
        ∧ (laneTrains (s.laneOf u) = true → t.laneOf u = s.laneOf u))
  ∧ (∀ (s : State) (u : Fin 26) (l : Fin 2),
      s.shape →
      s.pins.lnref = true →
      s.unitOn u = true →
      s.legacyUnit u = false →
      l.val ∈ lanesOf u →
      laneTrains (s.laneOf u) = true →
      ∃ t, exec (.lnrefLost) s = .next t
        ∧ (t.hsOf u l).locked = false
        ∧ (t.hsOf u l).trn1Rx = 0)
  ∧ (∀ (s : State),
      s.pins.lnref = false →
      ∃ t, exec (.lnrefLost) s = .next t
        ∧ t = s.after s)
  ∧ (∀ (s : State),
      s.pins.lnref = false →
      ∃ t, exec (.lnrefReturn) s = .next t
        ∧ t.pins.lnref = true
        ∧ (∀ u : Nat, u < 26 → t.laneOf u = s.laneOf u))
  ∧ (∀ (s : State),
      s.pins.lnref = true →
      ∃ t, exec (.lnrefReturn) s = .next t
        ∧ t = s.after s)
  ∧ (∀ (s : State) (p : Fin 24),
      s.domOn 5 = true →
      s.blockOff (0x60000 + 0x800 * p.val) = false →
      s.fbit (R.TILE_LANE_CTRL_EN p) = false →
      ∃ t, exec (.legacyEnable p false) s = .next t
        ∧ t.fbit (R.TILE_LANE_CTRL_LEGACY p) = false
        ∧ t.fbit (R.TILE_LANE_CTRL_EN p) = false)
  ∧ (∀ (s : State) (p : Fin 24),
      s.domOn 5 = true →
      s.blockOff (0x60000 + 0x800 * p.val) = false →
      s.fbit (R.TILE_LANE_CTRL_EN p) = false →
      p.val % 2 = 0 →
      6 ≤ p.val →
      p.val ≤ 22 →
      s.fbit (R.TILE_LANE_CTRL_EN (p.val + 1)) = false →
      ∃ t, exec (.legacyEnable p true) s = .next t
        ∧ t.fbit (R.TILE_LANE_CTRL_LEGACY p) = true
        ∧ t.fbit (R.TILE_LANE_STATUS_LEGACY_REFUSED p) = false
        ∧ t.fbit (R.TILE_LANE_CTRL_EN p) = false)
  ∧ (∀ (s : State) (p : Fin 24),
      s.domOn 5 = true →
      s.blockOff (0x60000 + 0x800 * p.val) = false →
      (p.val % 2 = 1 ∨ p.val < 6 ∨ 22 < p.val ∨ s.fbit (R.TILE_LANE_CTRL_EN (p.val + 1)) = true) →
      ∃ t, exec (.legacyEnable p true) s = .next t
        ∧ t.fbit (R.TILE_LANE_STATUS_LEGACY_REFUSED p) = true
        ∧ t.fbit (R.TILE_LANE_CTRL_LEGACY p) = s.fbit (R.TILE_LANE_CTRL_LEGACY p))
  ∧ (∀ (s : State) (p : Fin 24) (on : Bool),
      s.domOn 5 = true →
      s.blockOff (0x60000 + 0x800 * p.val) = false →
      s.fbit (R.TILE_LANE_CTRL_EN p) = true →
      ∃ t, exec (.legacyEnable p on) s = .next t
        ∧ t.fbit (R.TILE_LANE_CTRL_LEGACY p) = s.fbit (R.TILE_LANE_CTRL_LEGACY p)
        ∧ t.lane p = s.lane p)
  ∧ (∀ (s : State) (p : Fin 24),
      s.portOn p = true →
      s.legacy p = true →
      s.lane p = laneTrain →
      ∃ t, exec (.legacyActive p) s = .next t
        ∧ t.lane p = laneActive
        ∧ (t.fbit (R.TILE_LANE_STATUS_ALERT p) = if p.val % 2 = 1 ∧ s.legacy (p.val - 1) = true then s.fbit (R.TILE_LANE_STATUS_ALERT p) else false))
  ∧ (∀ (s : State) (p : Fin 24),
      (s.portOn p = false ∨ s.legacy p = false ∨ s.lane p ≠ laneTrain) →
      ∃ t, exec (.legacyActive p) s = .next t
        ∧ t = s.after s)
  ∧ (∀ (s : State) (p : Fin 24) (low : Bool),
      s.portOn p = true →
      (p.val % 2 = 0 ∨ s.legacy (p.val - 1) = false) →
      ∃ t, exec (.legacyAlert p low) s = .next t
        ∧ t.fbit (R.TILE_LANE_STATUS_ALERT p) = low
        ∧ t.lane p = s.lane p)
  ∧ (∀ (s : State) (p : Fin 24) (low : Bool),
      (low = false ∨ s.portOn p = false ∨ s.legacy p = false ∨ s.lane p ≠ laneActive) →
      ∃ t, exec (.legacyAlert p low) s = .next t
        ∧ t = s.after (s.alertPin p low))
  ∧ (∀ (s : State) (p : Fin 24),
      s.portOn p = true →
      s.legacy p = true →
      s.lane p = laneActive →
      ∃ t, exec (.legacyAlertRetrain p) s = .next t
        ∧ t.lane p = laneTrain)
  ∧ (∀ (s : State) (p : Fin 24),
      (s.portOn p = false ∨ s.legacy p = false ∨ s.lane p ≠ laneActive) →
      ∃ t, exec (.legacyAlertRetrain p) s = .next t
        ∧ t = s.after s)
  ∧ (∀ (s : State) (port : Fin 24) (on : Bool),
      (s.domOn 5 = false ∨ s.blockOff (0x60000 + 0x800 * port.val) = true) →
      ∃ t, exec (.legacyEnable port on) s = .next t
        ∧ (t = s.after (if s.domOn 5 = true then (s.offAccess (0x60000 + 0x800 * port.val) true).idleRestart else s)))

/-- PRBS and loop-back tests start, are refused and end. Commands that it says complete: prbsStart, loopbackStart, prbsEnd. -/
def Obligations.LaneTestsAct : Prop :=
  (∀ (s : State) (u : Fin 26),
      s.shape →
      s.domOn 5 = true →
      s.blockOff (prbsCtrl u.val) = false →
      u.val < 24 →
      s.unitOn u = true →
      s.fbit (R.TILE_PRBS_CTRL_LOOP u) = false →
      s.lane u = laneActive →
      s.boundEnabled u = false →
      ∃ t, exec (.prbsStart u) s = .next t
        ∧ ((t.port u).order.isSome || (t.port u).reorder.isSome) = true
        ∧ t.fbit (R.TILE_LANE_STATUS_PRBS_REFUSED u) = false
        ∧ t.fbit (R.TILE_PRBS_STAT_DONE u) = false)
  ∧ (∀ (s : State) (u : Fin 26),
      s.domOn 5 = true →
      s.blockOff (prbsCtrl u.val) = false →
      u.val < 24 →
      s.unitOn u = true →
      s.fbit (R.TILE_PRBS_CTRL_LOOP u) = false →
      (s.lane u ≠ laneActive ∨ s.boundEnabled u = true) →
      ∃ t, exec (.prbsStart u) s = .next t
        ∧ t.fbit (R.TILE_LANE_STATUS_PRBS_REFUSED u) = true
        ∧ t.lane u = s.lane u)
  ∧ (∀ (s : State) (u : Fin 26),
      s.domOn 5 = true →
      s.blockOff (prbsCtrl u.val) = false →
      24 ≤ u.val →
      s.unitOn u = true →
      s.laneOf u = laneActive →
      ∃ t, exec (.prbsStart u) s = .next t
        ∧ t.laneOf u = lanePrbs
        ∧ t.fbit (R.TWIN_PRBS_STAT_RUNNING (linkOf u)) = true)
  ∧ (∀ (s : State) (u : Fin 26),
      s.domOn 5 = true →
      s.blockOff (prbsCtrl u.val) = false →
      (s.unitOn u = false ∨ (u.val < 24 ∧ s.fbit (R.TILE_PRBS_CTRL_LOOP u) = true) ∨ (24 ≤ u.val ∧ s.laneOf u ≠ laneActive)) →
      ∃ t, exec (.prbsStart u) s = .next t
        ∧ t = s.after s.idleRestart)
  ∧ (∀ (s : State) (p : Fin 24),
      s.domOn 5 = true →
      s.blockOff (0x60020 + 0x800 * p.val) = false →
      s.portOn p = true →
      s.fbit (R.TILE_LANE_CTRL_EN p) = false →
      s.fbit (R.TILE_PRBS_CTRL_LOOP p) = true →
      ∃ t, exec (.loopbackStart p) s = .next t
        ∧ t.lane p = laneLoopback
        ∧ t.fbit (R.TILE_PRBS_STAT_RUNNING p) = true)
  ∧ (∀ (s : State) (p : Fin 24),
      s.domOn 5 = true →
      s.blockOff (0x60020 + 0x800 * p.val) = false →
      (s.portOn p = false ∨ s.fbit (R.TILE_LANE_CTRL_EN p) = true ∨ s.fbit (R.TILE_PRBS_CTRL_LOOP p) = false) →
      ∃ t, exec (.loopbackStart p) s = .next t
        ∧ t = s.after s.idleRestart)
  ∧ (∀ (s : State) (u : Fin 26) (bits0 bits1 : List Bool) (pat : Nat) (dn up : Bool),
      s.shape →
      s.unitOn u = true →
      u.val < 24 →
      s.laneOf u = lanePrbs →
      (s.port u).prbs = some ⟨pat, dn, up⟩ →
      ∃ t, exec (.prbsEnd u bits0 bits1) s = .next t
        ∧ t.lane u = laneRetrain
        ∧ t.fbit (R.TILE_PRBS_STAT_RUNNING u) = false
        ∧ t.fbit (R.TILE_PRBS_STAT_DONE u) = true
        ∧ t.fbit (R.TILE_PRBS_STAT_SYNC u) = (up && (checkBits pat bits0).sync)
        ∧ (t.fget (R.TILE_PRBS_ERR_LOCAL_COUNT u) = min (2 ^ (R.TILE_PRBS_ERR_LOCAL_COUNT u).width - 1) (s.fget (R.TILE_PRBS_ERR_LOCAL_COUNT u) + if up = true then (checkBits pat bits0).errs else 0)))
  ∧ (∀ (s : State) (u : Fin 26) (bits0 bits1 : List Bool),
      s.unitOn u = true →
      24 ≤ u.val →
      s.laneOf u = lanePrbs →
      ∃ t, exec (.prbsEnd u bits0 bits1) s = .next t
        ∧ t.laneOf u = laneTrain
        ∧ t.fbit (R.TWIN_PRBS_STAT_RUNNING (linkOf u)) = false
        ∧ t.fbit (R.TWIN_PRBS_STAT_DONE (linkOf u)) = true)
  ∧ (∀ (s : State) (u : Fin 26) (bits0 bits1 : List Bool),
      s.unitOn u = true →
      u.val < 24 →
      s.laneOf u = laneLoopback →
      (s.port u).sounding = false →
      ∃ t, exec (.prbsEnd u bits0 bits1) s = .next t
        ∧ t.lane u = laneOff
        ∧ t.fbit (R.TILE_PRBS_STAT_RUNNING u) = false
        ∧ t.fbit (R.TILE_PRBS_STAT_DONE u) = true
        ∧ t.fget (R.TILE_LANE_STATUS_DN_RATE u) = 0)
  ∧ (∀ (s : State) (u : Fin 26) (bits0 bits1 : List Bool),
      (s.unitOn u = false ∨ (s.laneOf u ≠ lanePrbs ∧ (s.laneOf u ≠ laneLoopback ∨ 24 ≤ u.val ∨ (s.port u).sounding = true))) →
      ∃ t, exec (.prbsEnd u bits0 bits1) s = .next t
        ∧ t = s.after s)
  ∧ (∀ (s : State) (unit : Fin 26),
      (s.domOn 5 = false ∨ s.blockOff (prbsCtrl unit.val) = true) →
      ∃ t, exec (.prbsStart unit) s = .next t
        ∧ (t = s.after (if s.domOn 5 = true then (s.offAccess (prbsCtrl unit.val) true).idleRestart else s)))
  ∧ (∀ (s : State) (port : Fin 24),
      (s.domOn 5 = false ∨ s.blockOff (0x60020 + 0x800 * port.val) = true) →
      ∃ t, exec (.loopbackStart port) s = .next t
        ∧ (t = s.after (if s.domOn 5 = true then (s.offAccess (0x60020 + 0x800 * port.val) true).idleRestart else s)))

/-- Upstream packets are accepted, resolve what they answer, and are discarded where they fail. Commands that it says complete: ackNakReceived, statusReceived, capReceived, upstreamPacketDiscard, healthReceived. -/
def Obligations.UpstreamPacketsAct : Prop :=
  (∀ (s : State) (p : Fin 24) (n : Nat) (body : List Byte),
      s.shape →
      s.upOpen p = true →
      body.length = 4 →
      (s.port p).ctrlQ = [] →
      (s.port p).limp = none →
      (s.port p).reorder = none →
      (s.port p).unres.all (fun u => ackOf (leAt body 0 2) (leAt body 2 2) u.seq != some false) = true →
      ∃ t, exec (.ackNakReceived p n body) s = .next t
        ∧ t.fget (R.TILE_SEQ_UP_EXPECT p) = (upCandidate (s.fget (R.TILE_SEQ_UP_EXPECT p)) n + 1) % 65536
        ∧ (t.port p).fails = 0
        ∧ ((t.port p).unres = (s.port p).unres.filter fun u => ackOf (leAt body 0 2) (leAt body 2 2) u.seq != some true))
  ∧ (∀ (s : State) (p : Fin 24) (n : Nat) (body : List Byte) (q k e due : Nat) (wb : List Byte),
      s.shape →
      s.upOpen p = true →
      s.canSend p = true →
      body.length = 4 →
      (s.port p).unres = [⟨q, pktCtrl, wb, k, e, due⟩] →
      (s.port p).ctrlQ = [] →
      (s.port p).limp = none →
      (s.port p).reorder = none →
      (s.port p).wire.all (fun w => decide (w.fin ≤ s.nowQ)) = true →
      (s.port p).outQ = [] →
      ackOf (leAt body 0 2) (leAt body 2 2) q = some false →
      k < 3 →
      namesTick pktCtrl wb = false →
      ∃ t, exec (.ackNakReceived p n body) s = .next t
        ∧ t.fget (R.TILE_SEQ_UP_EXPECT p) = (upCandidate (s.fget (R.TILE_SEQ_UP_EXPECT p)) n + 1) % 65536
        ∧ (t.port p).fails = 0
        ∧ (t.port p).unres = [⟨s.fget (R.TILE_SEQ_DN_NEXT p), pktCtrl, wb, k + 1, e, due⟩]
        ∧ t.fget (R.TILE_CNT_DN_RETX p) = min (2 ^ (R.TILE_CNT_DN_RETX p).width - 1) (s.fget (R.TILE_CNT_DN_RETX p) + 1))
  ∧ (∀ (s : State) (p : Fin 24) (n : Nat) (body : List Byte),
      s.upOpen p = false →
      ∃ t, exec (.ackNakReceived p n body) s = .next t
        ∧ t = s.after s)
  ∧ (∀ (s : State) (p : Fin 24) (n : Nat) (body : List Byte),
      s.shape →
      s.upOpen p = true →
      upLenOk pktAck body = false →
      ∃ t, exec (.ackNakReceived p n body) s = .next t
        ∧ t.fget (R.TILE_SEQ_UP_EXPECT p) = (upCandidate (s.fget (R.TILE_SEQ_UP_EXPECT p)) n + 1) % 65536
        ∧ (t.port p).fails = 0
        ∧ t.fget (R.TILE_CNT_UP_UP_FAIL p) = min (2 ^ (R.TILE_CNT_UP_UP_FAIL p).width - 1) (s.fget (R.TILE_CNT_UP_UP_FAIL p) + 1)
        ∧ (t.port p).unres = (s.port p).unres)
  ∧ (∀ (s : State) (p : Fin 24) (n rt : Nat) (body : List Byte),
      s.shape →
      s.upOpen p = true →
      body.length = 32 →
      ∃ t, exec (.statusReceived p n body rt) s = .next t
        ∧ t.fget (R.TILE_SEQ_UP_EXPECT p) = (upCandidate (s.fget (R.TILE_SEQ_UP_EXPECT p)) n + 1) % 65536
        ∧ (t.port p).fails = 0
        ∧ t.fget (R.TILE_PROTO_STATUS_OWNER p) = leAt body 0 1 % 4
        ∧ t.owns p = bitOf (leAt body 0 1) 2
        ∧ t.fget (R.TILE_EPOCH_TILE p) = leAt body 2 2
        ∧ t.fget (R.TILE_REMOTE_C_TEMP p) = leAt body 4 2
        ∧ t.fget (R.TILE_REMOTE_C_ALERT p) = leAt body 6 2
        ∧ t.fget (R.TILE_LIMP_VER_VERSION p) = leAt body 20 4
        ∧ (t.port p).statusSeen = true)
  ∧ (∀ (s : State) (p : Fin 24) (n rt : Nat) (body : List Byte),
      s.upOpen p = false →
      ∃ t, exec (.statusReceived p n body rt) s = .next t
        ∧ t = s.after (roleSettled s))
  ∧ (∀ (s : State) (p : Fin 24) (n rt : Nat) (body : List Byte),
      s.shape →
      s.upOpen p = true →
      upLenOk pktStatus body = false →
      ∃ t, exec (.statusReceived p n body rt) s = .next t
        ∧ t.fget (R.TILE_SEQ_UP_EXPECT p) = (upCandidate (s.fget (R.TILE_SEQ_UP_EXPECT p)) n + 1) % 65536
        ∧ (t.port p).fails = 0
        ∧ t.fget (R.TILE_CNT_UP_UP_FAIL p) = min (2 ^ (R.TILE_CNT_UP_UP_FAIL p).width - 1) (s.fget (R.TILE_CNT_UP_UP_FAIL p) + 1)
        ∧ t.owns p = s.owns p
        ∧ t.fget (R.TILE_EPOCH_TILE p) = s.fget (R.TILE_EPOCH_TILE p))
  ∧ (∀ (s : State) (p : Fin 24) (n : Nat) (body : List Byte),
      s.shape →
      s.upOpen p = true →
      body.length = 48 →
      capErr body = 0 →
      ∃ t, exec (.capReceived p n body) s = .next t
        ∧ (t.port p).cap = some (capOf body)
        ∧ t.fbit (R.TILE_PROTO_STATUS_CAP_VALID p) = true
        ∧ t.fget (R.TILE_PROTO_STATUS_CAP_ERR p) = 0)
  ∧ (∀ (s : State) (p : Fin 24) (n : Nat) (body : List Byte),
      s.shape →
      s.upOpen p = true →
      body.length = 48 →
      capErr body ≠ 0 →
      ∃ t, exec (.capReceived p n body) s = .next t
        ∧ t.fget (R.TILE_SEQ_UP_EXPECT p) = (upCandidate (s.fget (R.TILE_SEQ_UP_EXPECT p)) n + 1) % 65536
        ∧ (t.port p).fails = 0
        ∧ (t.port p).cap = (s.port p).cap
        ∧ t.fget (R.TILE_PROTO_STATUS_CAP_ERR p) = capErr body)
  ∧ (∀ (s : State) (p : Fin 24) (n : Nat) (body : List Byte),
      s.upOpen p = false →
      ∃ t, exec (.capReceived p n body) s = .next t
        ∧ t = s.after s)
  ∧ (∀ (s : State) (p : Fin 24) (n : Nat) (body : List Byte),
      s.shape →
      s.upOpen p = true →
      upLenOk pktCap body = false →
      ∃ t, exec (.capReceived p n body) s = .next t
        ∧ t.fget (R.TILE_SEQ_UP_EXPECT p) = (upCandidate (s.fget (R.TILE_SEQ_UP_EXPECT p)) n + 1) % 65536
        ∧ (t.port p).fails = 0
        ∧ t.fget (R.TILE_CNT_UP_UP_FAIL p) = min (2 ^ (R.TILE_CNT_UP_UP_FAIL p).width - 1) (s.fget (R.TILE_CNT_UP_UP_FAIL p) + 1)
        ∧ (t.port p).cap = (s.port p).cap
        ∧ t.lane p = s.lane p)
  ∧ (∀ (s : State) (p : Fin 24) (bytes : List Byte) (clean : Bool),
      s.shape →
      s.upOpen p = true →
      s.upChecks p bytes clean = false →
      ∃ t, exec (.upstreamPacketDiscard p bytes clean) s = .next t
        ∧ t.fget (R.TILE_CNT_UP_UP_FAIL p) = min (2 ^ (R.TILE_CNT_UP_UP_FAIL p).width - 1) (s.fget (R.TILE_CNT_UP_UP_FAIL p) + 1)
        ∧ ((s.port p).fails < 7 → (t.port p).fails = (s.port p).fails + 1 ∧ t.lane p = s.lane p)
        ∧ (7 ≤ (s.port p).fails → (t.port p).fails = 0 ∧ t.lane p = laneRetrain))
  ∧ (∀ (s : State) (p : Fin 24) (bytes : List Byte) (clean : Bool),
      s.shape →
      s.upOpen p = true →
      s.upChecks p bytes clean = true →
      upLenOk (leAt bytes 0 1) ((bytes.drop 6).take (leAt bytes 2 2)) = false →
      ∃ t, exec (.upstreamPacketDiscard p bytes clean) s = .next t
        ∧ t.fget (R.TILE_SEQ_UP_EXPECT p) = (upCandidate (s.fget (R.TILE_SEQ_UP_EXPECT p)) (leAt bytes 1 1 % 16) + 1) % 65536
        ∧ (t.port p).fails = 0
        ∧ t.fget (R.TILE_CNT_UP_UP_FAIL p) = min (2 ^ (R.TILE_CNT_UP_UP_FAIL p).width - 1) (s.fget (R.TILE_CNT_UP_UP_FAIL p) + 1))
  ∧ (∀ (s : State) (p : Fin 24) (bytes : List Byte) (clean : Bool),
      (s.upOpen p = false ∨ (s.upChecks p bytes clean = true ∧ upLenOk (leAt bytes 0 1) ((bytes.drop 6).take (leAt bytes 2 2)) = true)) →
      ∃ t, exec (.upstreamPacketDiscard p bytes clean) s = .next t
        ∧ t = s.after s)
  ∧ (∀ (s : State) (p : Fin 24) (n : Nat) (body : List Byte),
      s.shape →
      s.upOpen p = true →
      upLenOk pktHealth body = true →
      ∃ t, exec (.healthReceived p n body) s = .next t
        ∧ t.fget (R.TILE_SEQ_UP_EXPECT p) = (upCandidate (s.fget (R.TILE_SEQ_UP_EXPECT p)) n + 1) % 65536
        ∧ (t.port p).fails = 0)
  ∧ (∀ (s : State) (p : Fin 24) (n : Nat) (body : List Byte),
      s.shape →
      s.upOpen p = true →
      upLenOk pktHealth body = true →
      s.monitored p = true →
      ∃ t, exec (.healthReceived p n body) s = .next t
        ∧ (t.hl p).quiet = 0
        ∧ t.fbit (R.PIX_HLT_PORT_STAT_STALL p) = false)
  ∧ (∀ (s : State) (p : Fin 24) (n : Nat) (body : List Byte),
      s.shape →
      s.upOpen p = true →
      upLenOk pktHealth body = true →
      s.judges p = false →
      ∃ t, exec (.healthReceived p n body) s = .next t
        ∧ t.fget (R.TILE_SEQ_UP_EXPECT p) = (upCandidate (s.fget (R.TILE_SEQ_UP_EXPECT p)) n + 1) % 65536
        ∧ (t.port p).fails = 0
        ∧ t.pix = s.pix)
  ∧ (∀ (s : State) (p : Fin 24) (n : Nat) (body : List Byte),
      s.upOpen p = false →
      ∃ t, exec (.healthReceived p n body) s = .next t
        ∧ t = s.after s)
  ∧ (∀ (s : State) (p : Fin 24) (n : Nat) (body : List Byte),
      s.shape →
      s.upOpen p = true →
      upLenOk pktHealth body = false →
      ∃ t, exec (.healthReceived p n body) s = .next t
        ∧ t.fget (R.TILE_SEQ_UP_EXPECT p) = (upCandidate (s.fget (R.TILE_SEQ_UP_EXPECT p)) n + 1) % 65536
        ∧ (t.port p).fails = 0
        ∧ t.fget (R.TILE_CNT_UP_UP_FAIL p) = min (2 ^ (R.TILE_CNT_UP_UP_FAIL p).width - 1) (s.fget (R.TILE_CNT_UP_UP_FAIL p) + 1)
        ∧ t.pix = s.pix)

/-- The times of downstream packets: re-sending, lines and SWAPs given up, CAP requests and ECHOs. Commands that it says complete: ackTimeout, linePacketDeadline, swapDeadline, capRequestTimer, echoTimer, echoTimeout. -/
def Obligations.DownstreamTimersAct : Prop :=
  (∀ (s : State) (p : Fin 24) (q kind k e due : Nat) (wb : List Byte),
      s.shape →
      s.canSend p = true →
      (s.port p).unres = [⟨q, kind, wb, k, e, due⟩] →
      (s.port p).ctrlQ = [] →
      (s.port p).reorder = none →
      (s.port p).wire.all (fun w => decide (w.fin ≤ s.nowQ)) = true →
      (s.port p).outQ = [] →
      (kind = pktSwap ∨ kind = pktProbe ∨ (kind = pktPhaseData ∧ k < 2)) →
      s.mayGo p ⟨q, kind, wb, k, e, due⟩ = true →
      s.inTime p ⟨q, kind, wb, k, e, due⟩ = true →
      ∃ t, exec (.ackTimeout p q) s = .next t
        ∧ (t.port p).unres = [⟨s.fget (R.TILE_SEQ_DN_NEXT p), kind, wb, k + 1, e, due⟩]
        ∧ t.fget (R.TILE_CNT_DN_RETX p) = min (2 ^ (R.TILE_CNT_DN_RETX p).width - 1) (s.fget (R.TILE_CNT_DN_RETX p) + 1)
        ∧ t.fget (R.TILE_SEQ_DN_NEXT p) = (s.fget (R.TILE_SEQ_DN_NEXT p) + 1) % 65536)
  ∧ (∀ (s : State) (p : Fin 24) (q kind k e due : Nat) (wb : List Byte),
      s.shape →
      s.canSend p = true →
      (s.port p).unres = [⟨q, kind, wb, k, e, due⟩] →
      (s.port p).ctrlQ = [] →
      (s.port p).reorder = none →
      (s.port p).wire.all (fun w => decide (w.fin ≤ s.nowQ)) = true →
      (s.port p).outQ = [] →
      kind ∈ ([pktCtrl, pktClaim, pktLimpPage] : List Nat) →
      s.mayGo p ⟨q, kind, wb, k, e, due⟩ = true →
      k < 3 →
      namesTick kind wb = false →
      ∃ t, exec (.ackTimeout p q) s = .next t
        ∧ (t.port p).unres = [⟨s.fget (R.TILE_SEQ_DN_NEXT p), kind, wb, k + 1, e, due⟩]
        ∧ t.fget (R.TILE_CNT_DN_RETX p) = min (2 ^ (R.TILE_CNT_DN_RETX p).width - 1) (s.fget (R.TILE_CNT_DN_RETX p) + 1)
        ∧ t.fget (R.TILE_SEQ_DN_NEXT p) = (s.fget (R.TILE_SEQ_DN_NEXT p) + 1) % 65536)
  ∧ (∀ (s : State) (p : Fin 24) (q kind k e due : Nat) (wb : List Byte),
      s.shape →
      s.canSend p = true →
      (s.port p).unres = [⟨q, kind, wb, k, e, due⟩] →
      (s.port p).ctrlQ = [] →
      (s.port p).reorder = none →
      ((s.port p).wire.any (fun w => decide (s.nowQ < w.fin)) = true ∨ (s.port p).outQ ≠ []) →
      (kind = pktSwap ∨ kind = pktProbe) →
      s.mayGo p ⟨q, kind, wb, k, e, due⟩ = true →
      s.inTime p ⟨q, kind, wb, k, e, due⟩ = true →
      ∃ t, exec (.ackTimeout p q) s = .next t
        ∧ (t.port p).unres = []
        ∧ (t.port p).outQ = queuePkt ⟨q, kind, wb, k + 1, e, due⟩ (s.port p).outQ
        ∧ t.fget (R.TILE_CNT_DN_RETX p) = min (2 ^ (R.TILE_CNT_DN_RETX p).width - 1) (s.fget (R.TILE_CNT_DN_RETX p) + 1))
  ∧ (∀ (s : State) (p : Fin 24) (q kind k e due : Nat) (wb : List Byte),
      s.shape →
      s.canSend p = true →
      (s.port p).unres = [⟨q, kind, wb, k, e, due⟩] →
      (s.port p).ctrlQ = [] →
      (s.port p).reorder = none →
      (kind = pktPhaseData ∨ kind = pktSwap) →
      (s.mayGo p ⟨q, kind, wb, k, e, due⟩ && s.inTime p ⟨q, kind, wb, k, e, due⟩ && (kind != pktPhaseData || decide (k < 2))) = false →
      ∃ t, exec (.ackTimeout p q) s = .next t
        ∧ (t.port p).unres = []
        ∧ (t.port p).lost = (s.port p).lost ++ [⟨q, kind, wb, k, e, due⟩]
        ∧ t.fget (R.TILE_CNT_DN_RETX p) = s.fget (R.TILE_CNT_DN_RETX p))
  ∧ (∀ (s : State) (p : Fin 24) (q kind k e due : Nat) (wb : List Byte),
      s.shape →
      s.canSend p = true →
      (s.port p).unres = [⟨q, kind, wb, k, e, due⟩] →
      (s.port p).ctrlQ = [] →
      (s.port p).reorder = none →
      kind = pktProbe →
      (s.mayGo p ⟨q, kind, wb, k, e, due⟩ && s.inTime p ⟨q, kind, wb, k, e, due⟩) = false →
      ∃ t, exec (.ackTimeout p q) s = .next t
        ∧ (t.port p).unres = []
        ∧ (t.port p).lost = (s.port p).lost)
  ∧ (∀ (s : State) (p : Fin 24) (q kind k e due : Nat) (wb : List Byte),
      s.shape →
      s.canSend p = true →
      (s.port p).unres = [⟨q, kind, wb, k, e, due⟩] →
      (s.port p).ctrlQ = [] →
      (s.port p).reorder = none →
      kind = pktLimpPage →
      s.mayGo p ⟨q, kind, wb, k, e, due⟩ = false →
      (s.owns p = false ∨ s.totHolds p = true) →
      ∃ t, exec (.ackTimeout p q) s = .next t
        ∧ (t.port p).unres = []
        ∧ (t.port p).again = (s.port p).again ++ [(pktLimpPage, wb)])
  ∧ (∀ (s : State) (p : Fin 24) (q kind k e due : Nat) (wb : List Byte),
      s.shape →
      s.canSend p = true →
      (s.port p).unres = [⟨q, kind, wb, k, e, due⟩] →
      (s.port p).ctrlQ = [] →
      (s.port p).reorder = none →
      kind ∈ ([pktCtrl, pktClaim, pktLimpPage] : List Nat) →
      s.mayGo p ⟨q, kind, wb, k, e, due⟩ = true →
      3 ≤ k →
      namesTick kind wb = false →
      ∃ t, exec (.ackTimeout p q) s = .next t
        ∧ t.lane p = laneRetrain
        ∧ t.fget (R.TILE_CNT_MISC_CTRL_FAIL p) = min (2 ^ (R.TILE_CNT_MISC_CTRL_FAIL p).width - 1) (s.fget (R.TILE_CNT_MISC_CTRL_FAIL p) + 1))
  ∧ (∀ (s : State) (p : Fin 24) (q : Nat),
      (s.canSend p = false ∨ (s.port p).unres.all (fun u => u.seq != q) = true) →
      ∃ t, exec (.ackTimeout p q) s = .next t
        ∧ t = s.after s)
  ∧ (∀ (s : State) (p : Fin 24) (q k e due : Nat) (wb : List Byte),
      s.shape →
      (s.port p).unres = [⟨q, pktPhaseData, wb, k, e, due⟩] →
      (s.port p).lost = [] →
      ∃ t, exec (.linePacketDeadline p q) s = .next t
        ∧ (t.port p).unres = []
        ∧ (t.port p).lineTold = true
        ∧ t.fget (R.TILE_CNT_DN_LINES_LOST p) = min (2 ^ (R.TILE_CNT_DN_LINES_LOST p).width - 1) (s.fget (R.TILE_CNT_DN_LINES_LOST p) + 1))
  ∧ (∀ (s : State) (p : Fin 24) (q k e due : Nat) (wb : List Byte),
      s.shape →
      (s.port p).unres = [] →
      (s.port p).lost = [⟨q, pktPhaseData, wb, k, e, due⟩] →
      ∃ t, exec (.linePacketDeadline p q) s = .next t
        ∧ (t.port p).lost = []
        ∧ (t.port p).lineTold = true
        ∧ t.fget (R.TILE_CNT_DN_LINES_LOST p) = min (2 ^ (R.TILE_CNT_DN_LINES_LOST p).width - 1) (s.fget (R.TILE_CNT_DN_LINES_LOST p) + 1))
  ∧ (∀ (s : State) (p : Fin 24) (q : Nat),
      ((s.port p).unres ++ (s.port p).lost ++ (s.port p).outQ).all (fun u => u.kind != pktPhaseData || (u.seq != q && (u.seq != noSeq || decide (s.nowNs < u.due)))) = true →
      ∃ t, exec (.linePacketDeadline p q) s = .next t
        ∧ t = s.after s)
  ∧ (∀ (s : State) (p : Fin 24) (q k e due : Nat) (wb : List Byte),
      s.shape →
      (s.port p).unres = [⟨q, pktSwap, wb, k, e, due⟩] →
      (s.port p).lost = [] →
      ∃ t, exec (.swapDeadline p) s = .next t
        ∧ (t.port p).unres = []
        ∧ t.fget (R.TILE_CNT_MISC_SWAP_MISS p) = min (2 ^ (R.TILE_CNT_MISC_SWAP_MISS p).width - 1) (s.fget (R.TILE_CNT_MISC_SWAP_MISS p) + 1))
  ∧ (∀ (s : State) (p : Fin 24) (q k e due : Nat) (wb : List Byte),
      s.shape →
      (s.port p).unres = [] →
      (s.port p).lost = [⟨q, pktSwap, wb, k, e, due⟩] →
      ∃ t, exec (.swapDeadline p) s = .next t
        ∧ (t.port p).lost = []
        ∧ t.fget (R.TILE_CNT_MISC_SWAP_MISS p) = min (2 ^ (R.TILE_CNT_MISC_SWAP_MISS p).width - 1) (s.fget (R.TILE_CNT_MISC_SWAP_MISS p) + 1))
  ∧ (∀ (s : State) (p : Fin 24),
      ((s.port p).unres ++ (s.port p).lost ++ (s.port p).outQ).all (fun u => u.kind != pktSwap) = true →
      ∃ t, exec (.swapDeadline p) s = .next t
        ∧ t = s.after s)
  ∧ (∀ (s : State) (p : Fin 24),
      s.shape →
      s.portOn p = true →
      s.lane p = laneLinked →
      s.legacy p = false →
      (s.port p).capOk = false →
      (s.port p).ctrlQ = [] →
      (s.port p).ctrlBusy = false →
      (s.port p).wire.all (fun w => decide (w.fin ≤ s.nowQ)) = true →
      (s.port p).outQ = [] →
      ∃ t, exec (.capRequestTimer p) s = .next t
        ∧ (t.port p).unres = (s.port p).unres ++ [⟨s.fget (R.TILE_SEQ_DN_NEXT p), pktCtrl, u8 ctrlCapReq ++ [0], 0, s.sendEpoch p pktCtrl, 0⟩]
        ∧ t.fget (R.TILE_SEQ_DN_NEXT p) = (s.fget (R.TILE_SEQ_DN_NEXT p) + 1) % 65536)
  ∧ (∀ (s : State) (p : Fin 24),
      s.shape →
      s.portOn p = true →
      s.lane p = laneLinked →
      s.legacy p = false →
      (s.port p).capOk = false →
      ((s.port p).ctrlBusy = true ∨ (s.port p).ctrlQ ≠ []) →
      ∃ t, exec (.capRequestTimer p) s = .next t
        ∧ (t.port p).ctrlQ = (s.port p).ctrlQ ++ [(pktCtrl, u8 ctrlCapReq ++ [0])]
        ∧ (t.port p).unres = (s.port p).unres)
  ∧ (∀ (s : State) (p : Fin 24),
      (s.portOn p = false ∨ s.lane p ≠ laneLinked ∨ s.legacy p = true ∨ (s.port p).capOk = true) →
      ∃ t, exec (.capRequestTimer p) s = .next t
        ∧ t = s.after s)
  ∧ (∀ (s : State) (p : Fin 24),
      s.shape →
      s.laneUp p = true →
      s.legacy p = false →
      ∃ t, exec (.echoTimer p) s = .next t
        ∧ (t.port p).echoId = (s.port p).echoId % 65535 + 1
        ∧ (t.port p).echoOut = (s.port p).echoOut ++ [(s.port p).echoId % 65535 + 1])
  ∧ (∀ (s : State) (p : Fin 24),
      (s.laneUp p = false ∨ s.legacy p = true) →
      ∃ t, exec (.echoTimer p) s = .next t
        ∧ t = s.after s)
  ∧ (∀ (s : State) (p : Fin 24) (e : Nat),
      s.shape →
      ∃ t, exec (.echoTimeout p e) s = .next t
        ∧ (t.port p).echoOut = (s.port p).echoOut.filter (· != e)
        ∧ (t.port p).echoes = (s.port p).echoes)

/-- The health engine: mass faults, stalls, isolation, sample deadlines and baseline captures. Commands that it says complete: massFault, healthStall, isolationTimeout, sampleDeadline, baselineCapture, baselineCaptureDone. -/
def Obligations.HealthEngineActs : Prop :=
  (∀ (s : State) (p : Fin 24),
      s.shape →
      s.monitored p = true →
      s.fbit (R.PIX_HLT_PORT_STAT_MASS p) = false →
      max 1 (s.fget R.PIX_HLT_MASS_MASS_N) ≤ (s.hl p).recent →
      ∃ t, exec (.massFault p) s = .next t
        ∧ t.fbit (R.PIX_HLT_PORT_STAT_MASS p) = true
        ∧ bitOf (t.fget R.SAFE_TILE_HELD_PORTS) p = true
        ∧ t.fbit (R.PIX_HLT_PORT_STAT_TILE_HELD p) = s.fbit (R.PIX_HLT_PORT_STAT_TILE_HELD p))
  ∧ (∀ (s : State) (p : Fin 24),
      (s.monitored p = false ∨ s.fbit (R.PIX_HLT_PORT_STAT_MASS p) = true ∨ (s.hl p).recent < max 1 (s.fget R.PIX_HLT_MASS_MASS_N)) →
      ∃ t, exec (.massFault p) s = .next t
        ∧ t = s.after s)
  ∧ (∀ (s : State) (p : Fin 24),
      s.shape →
      s.monitored p = true →
      s.fbit (R.PIX_HLT_PORT_STAT_STALL p) = false →
      max 2 (s.fget R.PIX_HLT_CTRL_STALL_SC) ≤ (s.hl p).quiet →
      ∃ t, exec (.healthStall p) s = .next t
        ∧ t.fbit (R.PIX_HLT_PORT_STAT_STALL p) = true
        ∧ (t.hl p).quiet = (s.hl p).quiet)
  ∧ (∀ (s : State) (p : Fin 24),
      (s.monitored p = false ∨ s.fbit (R.PIX_HLT_PORT_STAT_STALL p) = true ∨ (s.hl p).quiet < max 2 (s.fget R.PIX_HLT_CTRL_STALL_SC)) →
      ∃ t, exec (.healthStall p) s = .next t
        ∧ t = s.after s)
  ∧ (∀ (s : State) (p : Fin 24) (i w : Nat) (f : Bool) (l : List IsoReq),
      s.shape →
      (s.hl p).iso = ⟨i, w, f⟩ :: l →
      ∃ t, exec (.isolationTimeout p) s = .next t
        ∧ (t.hl p).iso = l
        ∧ (f = false → bitOf (t.fget R.SAFE_TILE_HELD_PORTS) p = true ∧ t.fbit (R.PIX_HLT_PORT_STAT_TILE_HELD p) = true)
        ∧ (f = true → t.fget R.SAFE_TILE_HELD_PORTS = s.fget R.SAFE_TILE_HELD_PORTS))
  ∧ (∀ (s : State) (p : Fin 24),
      (s.hl p).iso = [] →
      ∃ t, exec (.isolationTimeout p) s = .next t
        ∧ t = s.after s)
  ∧ (∀ (s : State) (p : Fin 24) (n : Nat) (r : ScanRec),
      s.shape →
      s.judges p = true →
      (s.memberOf p).isSome = true →
      (s.hl p).recs.find? (fun r => !r.closed && r.s % 16 == n) = some r →
      ∃ t, exec (.sampleDeadline p n) s = .next t
        ∧ ((t.hl p).recs = (s.hl p).recs.map fun q => if q.s = r.s then { q with closed := true } else q))
  ∧ (∀ (s : State) (p : Fin 24) (n : Nat),
      (s.judges p = false ∨ s.memberOf p = none ∨ (s.hl p).recs.find? (fun r => !r.closed && r.s % 16 == n) = none) →
      ∃ t, exec (.sampleDeadline p n) s = .next t
        ∧ t = s.after s)
  ∧ (∀ (s : State) (p : Fin 24),
      s.shape →
      s.domOn 5 = true →
      s.blockOff (0x50700 + 0x10 * p.val) = false →
      s.monitored p = true →
      (s.hl p).capture = none →
      ∃ t, exec (.baselineCapture p) s = .next t
        ∧ (t.hl p).capture = some {}
        ∧ t.fbit (R.PIX_HLT_PORT_STAT_CAPTURING p) = true
        ∧ t.fbit (R.PIX_HLT_PORT_STAT_MASS p) = false)
  ∧ (∀ (s : State) (p : Fin 24),
      s.shape →
      s.domOn 5 = true →
      s.blockOff (0x50700 + 0x10 * p.val) = false →
      (s.monitored p = false ∨ (s.hl p).capture.isSome = true) →
      ∃ t, exec (.baselineCapture p) s = .next t
        ∧ (t.hl p).capture = (s.hl p).capture
        ∧ t.fbit (R.PIX_HLT_PORT_STAT_CAPTURING p) = s.fbit (R.PIX_HLT_PORT_STAT_CAPTURING p)
        ∧ t.fbit (R.PIX_HLT_PORT_STAT_MASS p) = false)
  ∧ (∀ (s : State) (p : Fin 24) (k : Nat) (f : Bool) (acc : List (Nat × Nat × Nat)),
      s.shape →
      256 ≤ k →
      (s.hl p).capture = some ⟨k, f, acc.map fun e => (e.1, e.2.1, (e.2.2 : Int))⟩ →
      ∃ t, exec (.baselineCaptureDone p) s = .next t
        ∧ (t.hl p).capture = none
        ∧ ((t.hl p).base = captureBase (acc.map fun e => (e.1, e.2.1, (e.2.2 : Int))))
        ∧ t.fbit (R.PIX_HLT_PORT_STAT_CAPTURING p) = false
        ∧ t.fbit (R.PIX_HLT_PORT_STAT_BASE_LOADED p) = true)
  ∧ (∀ (s : State) (p : Fin 24),
      (s.hl p).capture.all (fun c => decide (c.cycles < 256)) = true →
      ∃ t, exec (.baselineCaptureDone p) s = .next t
        ∧ t = s.after s)
  ∧ (∀ (s : State) (port : Fin 24),
      (s.domOn 5 = false ∨ s.blockOff (0x50700 + 0x10 * port.val) = true) →
      ∃ t, exec (.baselineCapture port) s = .next t
        ∧ (t = s.after (if s.domOn 5 = true then (s.offAccess (0x50700 + 0x10 * port.val) true).idleRestart else s)))

/-- A pair is enabled, timed and left by its registers. Commands that it says complete: twinEnable, twinDisable, twinHandover, twinRejoin, pairTimeout. -/
def Obligations.PairingActs : Prop :=
  (∀ (s : State),
      s.shape →
      s.domOn 8 = true →
      s.domOn 5 = true →
      s.blockOff (0x70000) = false →
      s.fbit R.TWIN_CTRL_EN = false →
      ∃ t, exec (.twinEnable) s = .next t
        ∧ t.fbit R.TWIN_CTRL_EN = true
        ∧ t.fget R.TWIN_STATUS_ROLE = rolePairing
        ∧ t.twin.seq = 0
        ∧ t.fbit (R.TWIN_LANE_CTRL_EN 0) = true
        ∧ t.fbit (R.TWIN_LANE_CTRL_EN 1) = true
        ∧ t.fbit R.TWIN_STATUS_PAIR_REFUSED = false)
  ∧ (∀ (s : State),
      s.domOn 5 = true →
      s.blockOff (0x70000) = false →
      s.fbit R.TWIN_CTRL_EN = true →
      ∃ t, exec (.twinEnable) s = .next t
        ∧ t = s.after s.idleRestart)
  ∧ (∀ (s : State),
      s.domOn 8 = true →
      s.domOn 5 = true →
      s.blockOff (0x70000) = false →
      s.fbit R.TWIN_CTRL_EN = true →
      ∃ t, exec (.twinDisable) s = .next t
        ∧ t.fbit R.TWIN_CTRL_EN = false
        ∧ t.fget R.TWIN_STATUS_ROLE = roleSolo
        ∧ t.fbit R.TWIN_STATUS_YIELDING = false
        ∧ t.twin.handover = .none)
  ∧ (∀ (s : State),
      s.domOn 5 = true →
      s.blockOff (0x70000) = false →
      s.fbit R.TWIN_CTRL_EN = false →
      ∃ t, exec (.twinDisable) s = .next t
        ∧ t = s.after s.idleRestart)
  ∧ (∀ (s : State),
      s.domOn 5 = true →
      s.blockOff (0x70000) = false →
      s.isLead = true →
      s.peerRole = roleCompanion →
      s.twin.missed < 3 →
      s.twin.handover = .none →
      ∃ t, exec (.twinHandover) s = .next t
        ∧ t.twin.handover = .planned
        ∧ t.fget R.TWIN_STATUS_ROLE = roleLead)
  ∧ (∀ (s : State),
      s.domOn 5 = true →
      s.blockOff (0x70000) = false →
      (s.isLead = false ∨ s.peerRole ≠ roleCompanion ∨ 3 ≤ s.twin.missed ∨ s.twin.handover ≠ .none) →
      ∃ t, exec (.twinHandover) s = .next t
        ∧ t = s.after s.idleRestart)
  ∧ (∀ (s : State),
      s.domOn 5 = true →
      s.blockOff (0x70000) = false →
      s.domOn 8 = true →
      ∃ t, exec (.twinRejoin) s = .next t
        ∧ t.fbit R.TWIN_STATUS_IMPAIRED = false
        ∧ t.fget R.TWIN_STATUS_ROLE = s.fget R.TWIN_STATUS_ROLE)
  ∧ (∀ (s : State),
      s.role = rolePairing →
      s.fget R.TWIN_CTRL_UNIT = 0 →
      ∃ t, exec (.pairTimeout false) s = .next t
        ∧ t.fget R.TWIN_STATUS_ROLE = roleLead)
  ∧ (∀ (s : State),
      s.role = rolePairing →
      s.fbit R.TWIN_STATUS_PEER_ALIVE = false →
      ∃ t, exec (.pairTimeout true) s = .next t
        ∧ t.fget R.TWIN_STATUS_ROLE = roleLead)
  ∧ (∀ (s : State) (w : Bool),
      (s.role ≠ rolePairing ∨ (w = true ∧ s.fbit R.TWIN_STATUS_PEER_ALIVE = true) ∨ (w = false ∧ s.fget R.TWIN_CTRL_UNIT ≠ 0)) →
      ∃ t, exec (.pairTimeout w) s = .next t
        ∧ t = s.after s)
  ∧ (∀ (s : State),
      (s.domOn 5 = false ∨ s.blockOff (0x70000) = true) →
      ∃ t, exec (.twinEnable) s = .next t
        ∧ (t = s.after (if s.domOn 5 = true then (s.offAccess (0x70000) true).idleRestart else s)))
  ∧ (∀ (s : State),
      (s.domOn 5 = false ∨ s.blockOff (0x70000) = true) →
      ∃ t, exec (.twinDisable) s = .next t
        ∧ (t = s.after (if s.domOn 5 = true then (s.offAccess (0x70000) true).idleRestart else s)))
  ∧ (∀ (s : State),
      (s.domOn 5 = false ∨ s.blockOff (0x70000) = true) →
      ∃ t, exec (.twinHandover) s = .next t
        ∧ (t = s.after (if s.domOn 5 = true then (s.offAccess (0x70000) true).idleRestart else s)))
  ∧ (∀ (s : State),
      (s.domOn 5 = false ∨ s.blockOff (0x70000) = true) →
      ∃ t, exec (.twinRejoin) s = .next t
        ∧ (t = s.after (if s.domOn 5 = true then (s.offAccess (0x70000) true).idleRestart else s)))

/-- Heartbeats are sent and heard, and their absence and the peer's pin are noticed. Commands that it says complete: heartbeatTick, heartbeatReceived, leadSilent, twinPeerSample, safetyConfirm, twinAliveDrop, twinK280Received. -/
def Obligations.HeartbeatsAct : Prop :=
  (∀ (s : State) (q : Fin 8),
      s.domOn 8 = true →
      s.role ≠ roleSolo →
      ∃ t, exec (.heartbeatTick q) s = .next t
        ∧ t.twin.missed = s.twin.missed + 1
        ∧ (t.twin.seq = if s.laneOf 24 = laneActive ∨ s.laneOf 25 = laneActive then (s.twin.seq + 1) % 65536 else s.twin.seq))
  ∧ (∀ (s : State) (q : Fin 8),
      s.role = roleSolo →
      ∃ t, exec (.heartbeatTick q) s = .next t
        ∧ t = s.after s)
  ∧ (∀ (s : State) (l : Fin 2) (n v : Nat) (body : List Byte),
      s.shape →
      (s.twinTake l n).2 = true →
      body.length = 24 →
      ∃ t, exec (.heartbeatReceived l n body v) s = .next t
        ∧ t.twin.high = (s.twinAccept n).1.twin.high
        ∧ t.twin.peer = leAt body 0 1
        ∧ t.twin.missed = 0
        ∧ t.fget R.TWIN_PEER_SPB_VALUE = leAt body 4 4
        ∧ t.fbit R.TWIN_STATUS_PEER_SILENT = false)
  ∧ (∀ (s : State) (l : Fin 2) (n v : Nat) (body : List Byte),
      (s.twinTake l n).2 = false →
      body.length = 24 →
      ∃ t, exec (.heartbeatReceived l n body v) s = .next t
        ∧ t.twin.peer = s.twin.peer
        ∧ t.twin.peerHeld = s.twin.peerHeld
        ∧ t.twin.missed = s.twin.missed
        ∧ t.fget R.TWIN_PEER_SPB_VALUE = s.fget R.TWIN_PEER_SPB_VALUE
        ∧ t.fget R.TWIN_STATUS_ROLE = s.fget R.TWIN_STATUS_ROLE)
  ∧ (∀ (s : State) (l : Fin 2) (n v : Nat) (body : List Byte),
      body.length ≠ 24 →
      ∃ t, exec (.heartbeatReceived l n body v) s = .next t
        ∧ t = s.after (s.twinTake l n).1)
  ∧ (∀ (s : State),
      s.isCompanion = true →
      3 ≤ s.twin.missed →
      ∃ t, exec (.leadSilent) s = .next t
        ∧ t.fbit R.TWIN_STATUS_PEER_SILENT = true
        ∧ ((s.fbit R.TWIN_STATUS_IMPAIRED = false ∧ s.fbit R.TWIN_STATUS_PEER_ALIVE = false) → t.twin.handover = .takeover))
  ∧ (∀ (s : State),
      (s.isCompanion = false ∨ s.twin.missed < 3) →
      ∃ t, exec (.leadSilent) s = .next t
        ∧ t = s.after s)
  ∧ (∀ (s : State),
      s.domOn 1 = true →
      s.domOn 8 = true →
      ∃ t, exec (.twinPeerSample true) s = .next t
        ∧ t.fbit R.TWIN_STATUS_PEER_ALIVE = true
        ∧ t.twin.peerLow = 0)
  ∧ (∀ (s : State),
      s.domOn 1 = true →
      s.domOn 8 = true →
      ∃ t, exec (.twinPeerSample false) s = .next t
        ∧ t.twin.peerLow = min 2 (s.twin.peerLow + 1)
        ∧ (1 ≤ s.twin.peerLow → t.fbit R.TWIN_STATUS_PEER_ALIVE = false)
        ∧ (s.twin.peerLow = 0 → t.fbit R.TWIN_STATUS_PEER_ALIVE = s.fbit R.TWIN_STATUS_PEER_ALIVE))
  ∧ (∀ (s : State) (w : Bool),
      (s.domOn 1 = false ∨ s.domOn 8 = false) →
      ∃ t, exec (.twinPeerSample w) s = .next t
        ∧ t = s.after s)
  ∧ (∀ (s : State),
      s.domOn 1 = true →
      s.aon.resetHeld = false →
      s.boot.halted = false →
      s.boot.active = false →
      ∃ t, exec (.safetyConfirm) s = .next t
        ∧ t.aon.twinAlive = !s.fbit R.TWIN_STATUS_YIELDING)
  ∧ (∀ (s : State),
      (s.domOn 1 = false ∨ s.aon.resetHeld = true ∨ s.boot.halted = true ∨ s.boot.active = true) →
      ∃ t, exec (.safetyConfirm) s = .next t
        ∧ t = s.after s)
  ∧ (∀ (s : State),
      ∃ t, exec (.twinAliveDrop) s = .next t
        ∧ t.aon.twinAlive = false)
  ∧ (∀ (s : State) (l : Fin 2),
      s.domOn 8 = true →
      (s.laneOf (24 + l) = laneLinked ∨ laneIsUp (s.laneOf (24 + l)) = true) →
      ∃ t, exec (.twinK280Received l) s = .next t
        ∧ t.fbit R.SAFE_TOT_SRC_TWIN = true
        ∧ t.twin.totClear = 0)
  ∧ (∀ (s : State) (l : Fin 2),
      (s.domOn 8 = false ∨ (s.laneOf (24 + l) ≠ laneLinked ∧ laneIsUp (s.laneOf (24 + l)) = false)) →
      ∃ t, exec (.twinK280Received l) s = .next t
        ∧ t = s.after s)

/-- A COMPANION takes what its LEAD sends. Commands that it says complete: alignReceived, latchReceived, defectReceived, probeCopyReceived, digestReceived, digestSend, alignTimeout. -/
def Obligations.LeadPacketsAct : Prop :=
  (∀ (s : State) (l : Fin 2) (n : Nat) (body : List Byte),
      s.shape →
      (s.twinTake l n).2 = true →
      s.isCompanion = true →
      (body.length = 16 ∨ body.length = 60) →
      s.twin.waiting = [] →
      (List.range 4).all (fun i => (s.px i).shadow.isEmpty && (s.px i).ephem.isEmpty) = true →
      (alignOf body).shade = false →
      ∃ t, exec (.alignReceived l n body) s = .next t
        ∧ t.twin.high = (s.twinAccept n).1.twin.high
        ∧ alignOf body ∈ t.twin.aligns)
  ∧ (∀ (s : State) (l : Fin 2) (n : Nat) (body : List Byte),
      s.shape →
      (s.twinTake l n).2 = true →
      s.isCompanion = true →
      (body.length = 16 ∨ body.length = 60) →
      ∃ t, exec (.alignReceived l n body) s = .next t
        ∧ t.twin.high = (s.twinAccept n).1.twin.high)
  ∧ (∀ (s : State) (l : Fin 2) (n : Nat) (body : List Byte),
      ((s.twinTake l n).2 = false ∨ s.isCompanion = false ∨ (body.length ≠ 16 ∧ body.length ≠ 60)) →
      ∃ t, exec (.alignReceived l n body) s = .next t
        ∧ t = s.after (s.twinTake l n).1)
  ∧ (∀ (s : State) (l : Fin 2) (n : Nat) (body : List Byte) (c : Nat),
      s.shape →
      (s.twinTake l n).2 = true →
      s.isCompanion = true →
      c = leAt body 4 1 / 8 % 4 →
      20 ≤ body.length →
      body.length = 20 + 4 * leAt body 6 2 →
      ∃ t, exec (.latchReceived l n body) s = .next t
        ∧ t.twin.high = (s.twinAccept n).1.twin.high
        ∧ (s.latchNow c (latchOf body) = .ahead → (nth t.twin.surfs c).latch = some (latchOf body))
        ∧ (s.latchNow c (latchOf body) ≠ .ahead → (nth t.twin.surfs c).latch = none)
        ∧ (s.latchNow c (latchOf body) = .due → t.fget (R.PIX_AIM_RATE_V c) = (latchOf body).rv ∧ t.fget (R.PIX_AIM_RATE_H c) = (latchOf body).rh))
  ∧ (∀ (s : State) (l : Fin 2) (n : Nat) (body : List Byte),
      ((s.twinTake l n).2 = false ∨ s.isCompanion = false ∨ body.length < 20 ∨ body.length ≠ 20 + 4 * leAt body 6 2) →
      ∃ t, exec (.latchReceived l n body) s = .next t
        ∧ t = s.after (s.twinTake l n).1)
  ∧ (∀ (s : State) (l : Fin 2) (n : Nat) (body : List Byte),
      s.shape →
      (s.twinTake l n).2 = true →
      s.isCompanion = true →
      body.length = 12 →
      leAt body 0 1 < 24 →
      ∃ t, exec (.defectReceived l n body) s = .next t
        ∧ t.twin.high = (s.twinAccept n).1.twin.high
        ∧ (bitOf (leAt body 1 1) 2 = true → bitOf t.twin.peerHeld (leAt body 0 1) = true)
        ∧ (bitOf (leAt body 1 1) 4 = false → (leAt body 8 4, defectOf (leAt body 4 4)) ∈ (t.hl (leAt body 0 1)).lead))
  ∧ (∀ (s : State) (l : Fin 2) (n : Nat) (body : List Byte),
      ((s.twinTake l n).2 = false ∨ s.isCompanion = false ∨ body.length ≠ 12 ∨ 24 ≤ leAt body 0 1) →
      ∃ t, exec (.defectReceived l n body) s = .next t
        ∧ t = s.after (s.twinTake l n).1)
  ∧ (∀ (s : State) (l : Fin 2) (n : Nat) (body : List Byte) (r : ScanRec),
      s.shape →
      (s.twinTake l n).2 = true →
      s.isCompanion = true →
      8 ≤ body.length →
      body.length = 8 + 4 * leAt body 6 2 →
      leAt body 0 1 < 24 →
      (s.hl (leAt body 0 1)).recs.find? (fun q => q.s % 16 == leAt body 4 1) = some r →
      ∃ t, exec (.probeCopyReceived l n body) s = .next t
        ∧ t.twin.high = (s.twinAccept n).1.twin.high
        ∧ (∀ q : ScanRec, q ∈ (t.hl (leAt body 0 1)).recs → q.s = r.s → q.entries = probeEntries (body.drop 4)))
  ∧ (∀ (s : State) (l : Fin 2) (n : Nat) (body : List Byte),
      ((s.twinTake l n).2 = false ∨ s.isCompanion = false ∨ body.length < 8 ∨ body.length ≠ 8 + 4 * leAt body 6 2 ∨ 24 ≤ leAt body 0 1 ∨ (s.hl (leAt body 0 1)).recs.find? (fun q => q.s % 16 == leAt body 4 1) = none) →
      ∃ t, exec (.probeCopyReceived l n body) s = .next t
        ∧ t = s.after (s.twinTake l n).1)
  ∧ (∀ (s : State) (l : Fin 2) (n : Nat) (body : List Byte),
      s.shape →
      (s.twinTake l n).2 = true →
      s.twinHears l = true →
      s.isCompanion = true →
      body.length = 24 →
      ∃ t, exec (.digestReceived l n body) s = .next t
        ∧ t.twin.high = (s.twinAccept n).1.twin.high
        ∧ (nth t.twin.surfs (leAt body 4 1 % 4)).digest = some (digestOf body)
        ∧ bitOf (nth t.twin.surfs (leAt body 4 1 % 4)).links l = true)
  ∧ (∀ (s : State) (l : Fin 2) (n : Nat) (body : List Byte),
      s.shape →
      (s.twinTake l n).2 = false →
      s.twinHears l = true →
      s.isCompanion = true →
      body.length = 24 →
      (nth s.twin.surfs (leAt body 4 1 % 4)).digest.map (·.frame) = some (digestOf body).frame →
      ∃ t, exec (.digestReceived l n body) s = .next t
        ∧ (nth t.twin.surfs (leAt body 4 1 % 4)).digest = (nth s.twin.surfs (leAt body 4 1 % 4)).digest
        ∧ (nth t.twin.surfs (leAt body 4 1 % 4)).links = maskSet (nth s.twin.surfs (leAt body 4 1 % 4)).links l true)
  ∧ (∀ (s : State) (l : Fin 2) (n : Nat) (body : List Byte),
      (s.twinHears l = false ∨ s.isCompanion = false ∨ body.length ≠ 24) →
      ∃ t, exec (.digestReceived l n body) s = .next t
        ∧ t = s.after (s.twinTake l n).1)
  ∧ (∀ (s : State) (n : Fin 4) (d : TwinDigest),
      s.domOn 8 = true →
      s.isLead = true →
      s.running n = true →
      (nth s.twin.surfs n).own = some d →
      ∃ t, exec (.digestSend n) s = .next t
        ∧ (t.twin.seq = if s.laneOf 24 = laneActive ∨ s.laneOf 25 = laneActive then (s.twin.seq + 1) % 65536 else s.twin.seq))
  ∧ (∀ (s : State) (n : Fin 4),
      (s.isLead = false ∨ s.running n = false ∨ (nth s.twin.surfs n).own = none) →
      ∃ t, exec (.digestSend n) s = .next t
        ∧ t = s.after s)
  ∧ (∀ (s : State) (key : Nat),
      ∃ t, exec (.alignTimeout false key) s = .next t
        ∧ (t.twin.aligns = s.twin.aligns.filter fun a => a.key != key))
  ∧ (∀ (s : State) (key : Nat) (c : TwinCmd),
      (s.twin.waiting.find? fun c => c.align.isNone && c.key == key) = some c →
      ∃ t, exec (.alignTimeout true key) s = .next t
        ∧ (t.twin.waiting = s.twin.waiting.filter fun w => !(w.desc.ring == c.desc.ring && w.desc.pos == c.desc.pos))
        ∧ t.fget (R.TWIN_CNT_D_ORPHAN) = min (2 ^ (R.TWIN_CNT_D_ORPHAN).width - 1) (s.fget (R.TWIN_CNT_D_ORPHAN) + 1))
  ∧ (∀ (s : State) (key : Nat) (n : Nat) (p : Present),
      (s.twin.waiting.find? fun c => c.align.isNone && c.key == key) = none →
      s.isCompanion = true →
      s.unnamedPresent key = some (n, p) →
      p.timed = false →
      n < 4 →
      s.pix.surfs.length = 4 →
      ∃ t, exec (.alignTimeout true key) s = .next t
        ∧ (t.px n).next.map (·.desc) = some p.desc
        ∧ ((t.px n).shadow = (s.px n).shadow.filter fun e => e.1.desc.pos != p.desc.pos)
        ∧ t.fget (R.TWIN_CNT_D_ORPHAN) = min (2 ^ (R.TWIN_CNT_D_ORPHAN).width - 1) (s.fget (R.TWIN_CNT_D_ORPHAN) + 1))
  ∧ (∀ (s : State) (key : Nat),
      (s.twin.waiting.find? fun c => c.align.isNone && c.key == key) = none →
      (s.isCompanion = false ∨ s.unnamedPresent key = none) →
      ∃ t, exec (.alignTimeout true key) s = .next t
        ∧ t = s.after s)

/-- Frames are compared and disagreements arbitrated. Commands that it says complete: twinCompare, arbitrateReceived, arbitrateReplyTimeout. -/
def Obligations.ComparisonActs : Prop :=
  (∀ (s : State) (n : Fin 4) (d : TwinDigest),
      s.shape →
      s.isCompanion = true →
      s.fget R.TWIN_STATUS_LINKS ≠ 0 →
      s.running n = true →
      (nth s.twin.surfs n).own = some d →
      compareDigests d (nth s.twin.surfs n).digest ((nth s.twin.surfs n).offs.contains d.frame) = .equal →
      ∃ t, exec (.twinCompare n) s = .next t
        ∧ t.fget (R.TWIN_CNT_A_MATCHED) = min (2 ^ (R.TWIN_CNT_A_MATCHED).width - 1) (s.fget (R.TWIN_CNT_A_MATCHED) + 1)
        ∧ (nth t.twin.surfs n).own = none)
  ∧ (∀ (s : State) (n : Fin 4) (d : TwinDigest),
      s.shape →
      s.isCompanion = true →
      s.fget R.TWIN_STATUS_LINKS ≠ 0 →
      s.running n = true →
      (nth s.twin.surfs n).own = some d →
      compareDigests d (nth s.twin.surfs n).digest ((nth s.twin.surfs n).offs.contains d.frame) = .differs →
      ∃ t, exec (.twinCompare n) s = .next t
        ∧ t.fget (R.TWIN_CNT_B_DISAGREE) = min (2 ^ (R.TWIN_CNT_B_DISAGREE).width - 1) (s.fget (R.TWIN_CNT_B_DISAGREE) + 1)
        ∧ t.fget R.TWIN_DISAGREE_FRAME_FRAME = d.frame % 2 ^ 32
        ∧ (nth t.twin.surfs n).disagreed = true
        ∧ ((d.frame, n.val) ∈ t.twin.arb.map fun a => (a.1, a.2.1)))
  ∧ (∀ (s : State) (n : Fin 4) (d : TwinDigest),
      s.shape →
      s.isCompanion = true →
      s.fget R.TWIN_STATUS_LINKS ≠ 0 →
      s.running n = true →
      (nth s.twin.surfs n).own = some d →
      compareDigests d (nth s.twin.surfs n).digest ((nth s.twin.surfs n).offs.contains d.frame) = .skipped →
      ∃ t, exec (.twinCompare n) s = .next t
        ∧ t.fget (R.TWIN_CNT_A_SKIPPED) = min (2 ^ (R.TWIN_CNT_A_SKIPPED).width - 1) (s.fget (R.TWIN_CNT_A_SKIPPED) + 1)
        ∧ (nth t.twin.surfs n).own = none
        ∧ t.fget R.TWIN_CNT_A_MATCHED = s.fget R.TWIN_CNT_A_MATCHED
        ∧ t.fget R.TWIN_CNT_B_DISAGREE = s.fget R.TWIN_CNT_B_DISAGREE)
  ∧ (∀ (s : State) (n : Fin 4) (d : TwinDigest),
      s.shape →
      s.isCompanion = true →
      s.fget R.TWIN_STATUS_LINKS ≠ 0 →
      s.running n = true →
      (nth s.twin.surfs n).own = some d →
      compareDigests d (nth s.twin.surfs n).digest ((nth s.twin.surfs n).offs.contains d.frame) = .missed →
      ∃ t, exec (.twinCompare n) s = .next t
        ∧ t.fget (R.TWIN_CNT_B_MISSED) = min (2 ^ (R.TWIN_CNT_B_MISSED).width - 1) (s.fget (R.TWIN_CNT_B_MISSED) + 1)
        ∧ (nth t.twin.surfs n).own = none)
  ∧ (∀ (s : State) (n : Fin 4),
      s.shape →
      s.isCompanion = true →
      s.fget R.TWIN_STATUS_LINKS = 0 →
      s.running n = true →
      ∃ t, exec (.twinCompare n) s = .next t
        ∧ (nth t.twin.surfs n).own = none
        ∧ t.fget R.TWIN_CNT_A_MATCHED = s.fget R.TWIN_CNT_A_MATCHED
        ∧ t.fget R.TWIN_CNT_B_MISSED = s.fget R.TWIN_CNT_B_MISSED
        ∧ t.fget R.TWIN_CNT_B_DISAGREE = s.fget R.TWIN_CNT_B_DISAGREE)
  ∧ (∀ (s : State) (n : Fin 4),
      (s.isCompanion = false ∨ s.running n = false ∨ (s.fget R.TWIN_STATUS_LINKS ≠ 0 ∧ (nth s.twin.surfs n).own = none)) →
      ∃ t, exec (.twinCompare n) s = .next t
        ∧ t = s.after s)
  ∧ (∀ (s : State) (l : Fin 2) (n : Nat) (body : List Byte),
      s.shape →
      (s.twinTake l n).2 = true →
      s.isLead = true →
      body.length = 12 →
      bitOf (leAt body 5 1) 1 = false →
      ∃ t, exec (.arbitrateReceived l n body) s = .next t
        ∧ t.twin.high = (s.twinAccept n).1.twin.high
        ∧ (t.twin.seq = if s.laneOf 24 = laneActive ∨ s.laneOf 25 = laneActive then (s.twin.seq + 1) % 65536 else s.twin.seq)
        ∧ (nth t.twin.surfs (leAt body 4 1 % 4)).disagreed = true)
  ∧ (∀ (s : State) (l : Fin 2) (n : Nat) (body : List Byte) (v : Bool) (w : Nat),
      s.shape →
      (s.twinTake l n).2 = true →
      s.isCompanion = true →
      body.length = 12 →
      bitOf (leAt body 5 1) 1 = true →
      s.twin.arb.find? (fun e => e.1 == leAt body 0 4 && e.2.1 == leAt body 4 1 % 4) = some (leAt body 0 4, leAt body 4 1 % 4, v, w) →
      ∃ t, exec (.arbitrateReceived l n body) s = .next t
        ∧ t.twin.high = (s.twinAccept n).1.twin.high
        ∧ ((t.twin.arb.any fun e => e.1 == leAt body 0 4 && e.2.1 == leAt body 4 1 % 4) = false)
        ∧ (arbKind (bitOf (leAt body 5 1) 0) v = 9 → t.fbit R.TWIN_STATUS_IMPAIRED = true))
  ∧ (∀ (s : State) (l : Fin 2) (n : Nat) (body : List Byte),
      ((s.twinTake l n).2 = false ∨ body.length ≠ 12 ∨ (bitOf (leAt body 5 1) 1 = false ∧ s.isLead = false) ∨ (bitOf (leAt body 5 1) 1 = true ∧ (s.isCompanion = false ∨ s.twin.arb.find? (fun e => e.1 == leAt body 0 4 && e.2.1 == leAt body 4 1 % 4) = none))) →
      ∃ t, exec (.arbitrateReceived l n body) s = .next t
        ∧ t = s.after (s.twinTake l n).1)
  ∧ (∀ (s : State) (f v : Nat) (c : Bool),
      s.isCompanion = true →
      s.twin.arb = [(f, v % 4, c, 3)] →
      ∃ t, exec (.arbitrateReplyTimeout) s = .next t
        ∧ t.twin.arb = []
        ∧ (c = false → t.fbit R.TWIN_STATUS_IMPAIRED = true))
  ∧ (∀ (s : State),
      s.isCompanion = true →
      ∃ t, exec (.arbitrateReplyTimeout) s = .next t
        ∧ (t.twin.arb.all (fun e => decide (e.2.2.2 < 3)) = true))
  ∧ (∀ (s : State),
      (s.isCompanion = false ∨ s.twin.arb.all (fun e => decide (e.2.2.2 < 3)) = true) →
      ∃ t, exec (.arbitrateReplyTimeout) s = .next t
        ∧ t = s.after s)

/-- Syncs steer the clock, and their absence ends SYNCED. Commands that it says complete: syncReceived, syncReceiptTimeout, clockStep. -/
def Obligations.NetworkTimeActs : Prop :=
  (∀ (s : State) (p : Fin 2) (domain : Nat) (origin : Int) (since : Nat) (rho : Int),
      s.netUp p = true →
      domain = 0 →
      s.fget (R.NET_PORT_STATUS_ROLE p) = netSlave →
      absNat (s.syncOffset p origin since) ≤ s.syncNs * 2 ^ 32 →
      ∃ t, exec (.syncReceived p domain origin since rho) s = .next t
        ∧ t.fget (R.NET_PORT_CNT_SYNC_RX p) = min (2 ^ (R.NET_PORT_CNT_SYNC_RX p).width - 1) (s.fget (R.NET_PORT_CNT_SYNC_RX p) + 1)
        ∧ t.clkState = clkSynced
        ∧ t.fget R.NET_OFFSET_NS = ofSigned 32 (s32sat (s.syncOffset p origin since / 2 ^ 32))
        ∧ t.clk.stepBy = none)
  ∧ (∀ (s : State) (p : Fin 2) (domain : Nat) (origin : Int) (since : Nat) (rho : Int),
      s.netUp p = true →
      domain = 0 →
      s.fget (R.NET_PORT_STATUS_ROLE p) = netSlave →
      s.syncNs * 2 ^ 32 < absNat (s.syncOffset p origin since) →
      ∃ t, exec (.syncReceived p domain origin since rho) s = .next t
        ∧ t.fget (R.NET_PORT_CNT_SYNC_RX p) = min (2 ^ (R.NET_PORT_CNT_SYNC_RX p).width - 1) (s.fget (R.NET_PORT_CNT_SYNC_RX p) + 1)
        ∧ t.clkState = clkHoldover
        ∧ t.fget R.NET_OFFSET_NS = ofSigned 32 (s32sat (s.syncOffset p origin since / 2 ^ 32)))
  ∧ (∀ (s : State) (p : Fin 2) (domain : Nat) (origin : Int) (since : Nat) (rho : Int),
      s.netUp p = true →
      domain = 0 →
      s.fget (R.NET_PORT_STATUS_ROLE p) ≠ netSlave →
      s.fget (R.NET_PORT_STATUS_ROLE p) ≠ netDisabled →
      ∃ t, exec (.syncReceived p domain origin since rho) s = .next t
        ∧ t.fget (R.NET_PORT_CNT_SYNC_RX p) = min (2 ^ (R.NET_PORT_CNT_SYNC_RX p).width - 1) (s.fget (R.NET_PORT_CNT_SYNC_RX p) + 1)
        ∧ t.clkState = s.clkState
        ∧ t.clk = s.clk
        ∧ t.fget R.NET_OFFSET_NS = s.fget R.NET_OFFSET_NS)
  ∧ (∀ (s : State) (p : Fin 2) (domain : Nat) (origin : Int) (since : Nat) (rho : Int),
      s.netUp p = true →
      (domain ≠ 0 ∨ s.fget (R.NET_PORT_STATUS_ROLE p) = netDisabled) →
      ∃ t, exec (.syncReceived p domain origin since rho) s = .next t
        ∧ t.fget (R.NET_PORT_CNT_ERR p) = min (2 ^ (R.NET_PORT_CNT_ERR p).width - 1) (s.fget (R.NET_PORT_CNT_ERR p) + 1)
        ∧ t.clkState = s.clkState
        ∧ t.clk = s.clk)
  ∧ (∀ (s : State) (p : Fin 2) (domain : Nat) (origin : Int) (since : Nat) (rho : Int),
      s.netUp p = false →
      ∃ t, exec (.syncReceived p domain origin since rho) s = .next t
        ∧ t = s.after s)
  ∧ (∀ (s : State),
      s.domOn 9 = true →
      s.clkState = clkSynced →
      ∃ t, exec (.syncReceiptTimeout) s = .next t
        ∧ t.clkState = clkHoldover
        ∧ t.fbit R.TIME_STATUS_SLEWING = false
        ∧ t.clk.slewQ = 0)
  ∧ (∀ (s : State),
      (s.domOn 9 = false ∨ s.clkState ≠ clkSynced) →
      ∃ t, exec (.syncReceiptTimeout) s = .next t
        ∧ t = s.after s)
  ∧ (∀ (s : State) (d : Int),
      s.domOn 9 = true →
      s.clk.stepBy = some d →
      ∃ t, exec (.clockStep) s = .next t
        ∧ t.clk.stepBy = none
        ∧ t.fget (R.TIME_CNT_STEPS) = min (2 ^ (R.TIME_CNT_STEPS).width - 1) (s.fget (R.TIME_CNT_STEPS) + 1)
        ∧ t.clkQ = ((s.clkQ : Int) - d).toNat)
  ∧ (∀ (s : State),
      (s.domOn 9 = false ∨ s.clk.stepBy = none) →
      ∃ t, exec (.clockStep) s = .next t
        ∧ t = s.after s)

/-- Announces, peer delay and the links of the network ports. Commands that it says complete: announceReceived, announceReceiptTimeout, slavePortSwitch, pdelayReqTimer, pdelayReqReceived, pdelayRespReceived, sgmiiLinkChange. -/
def Obligations.NetworkPortsAct : Prop :=
  (∀ (s : State) (p : Fin 2) (kind : Fin 3) (domain : Nat) (vec : List Nat) (gm : Nat),
      s.shape →
      kind.val = 0 →
      domain = 0 →
      s.netCapable p = true →
      ∃ t, exec (.announceReceived p kind domain vec gm) s = .next t
        ∧ (t.netPort p).ann = some { vector := vec, gm := gm % 2 ^ 64 })
  ∧ (∀ (s : State) (p : Fin 2) (kind : Fin 3) (domain : Nat) (vec : List Nat) (gm : Nat),
      s.netUp p = true →
      kind.val = 0 →
      domain = 0 →
      s.netCapable p = false →
      ∃ t, exec (.announceReceived p kind domain vec gm) s = .next t
        ∧ t.fget (R.NET_PORT_CNT_ERR p) = min (2 ^ (R.NET_PORT_CNT_ERR p).width - 1) (s.fget (R.NET_PORT_CNT_ERR p) + 1)
        ∧ t.netPort p = s.netPort p)
  ∧ (∀ (s : State) (p : Fin 2) (kind : Fin 3) (domain : Nat) (vec : List Nat) (gm : Nat),
      s.netUp p = true →
      (kind.val = 2 ∨ (kind.val = 0 ∧ domain ≠ 0)) →
      ∃ t, exec (.announceReceived p kind domain vec gm) s = .next t
        ∧ t.fget (R.NET_PORT_CNT_ERR p) = min (2 ^ (R.NET_PORT_CNT_ERR p).width - 1) (s.fget (R.NET_PORT_CNT_ERR p) + 1)
        ∧ t.netPort p = s.netPort p)
  ∧ (∀ (s : State) (p : Fin 2) (kind : Fin 3) (domain : Nat) (vec : List Nat) (gm : Nat),
      (s.netUp p = false ∨ kind.val = 1) →
      ∃ t, exec (.announceReceived p kind domain vec gm) s = .next t
        ∧ t = s.after s)
  ∧ (∀ (s : State) (p : Fin 2),
      s.shape →
      s.domOn 9 = true →
      ∃ t, exec (.announceReceiptTimeout p) s = .next t
        ∧ (t.netPort p).ann = none
        ∧ t.fget (R.NET_PORT_STATUS_ROLE p) ≠ netSlave)
  ∧ (∀ (s : State) (p : Fin 2),
      s.domOn 9 = false →
      ∃ t, exec (.announceReceiptTimeout p) s = .next t
        ∧ t = s.after s)
  ∧ (∀ (s : State) (a b : Announce) (p : Fin 2),
      s.shape →
      s.slavePort = some p.val →
      s.netAnn p = some a →
      s.netAnn (otherPort p) = some b →
      a.gm = b.gm →
      ∃ t, exec (.slavePortSwitch) s = .next t
        ∧ t.slavePort = some (otherPort p)
        ∧ t.fget (R.NET_PORT_STATUS_ROLE (otherPort p)) = netSlave
        ∧ t.fget (R.NET_PORT_STATUS_ROLE p) = netPassive)
  ∧ (∀ (s : State) (p : Fin 2),
      (s.slavePort = none ∨ (s.slavePort = some p.val ∧ (s.netAnn (otherPort p)).map (·.gm) ≠ (s.netAnn p).map (·.gm))) →
      ∃ t, exec (.slavePortSwitch) s = .next t
        ∧ t = s.after s)
  ∧ (∀ (s : State) (p : Fin 2),
      s.shape →
      s.netUp p = true →
      ∃ t, exec (.pdelayReqTimer p) s = .next t
        ∧ (t.netPort p).seq = ((s.netPort p).seq + 1) % 65536
        ∧ (t.netPort p).waiting = true
        ∧ (t.netPort p).sentAt = s.stampAt 0
        ∧ Output.ptp p ptpPdelayReq [((s.netPort p).seq + 1) % 65536] ∈ t.out)
  ∧ (∀ (s : State) (p : Fin 2),
      s.netUp p = false →
      ∃ t, exec (.pdelayReqTimer p) s = .next t
        ∧ t = s.after s)
  ∧ (∀ (s : State) (p : Fin 2) (seq domain since wait : Nat),
      s.netUp p = true →
      domain = 0 →
      ∃ t, exec (.pdelayReqReceived p seq domain since wait) s = .next t
        ∧ Output.ptp p ptpPdelayResp [seq, 4 * s.stampAt since - 5 * s.fget (R.NET_PORT_LAT_INGRESS_NS p)] ∈ t.out
        ∧ Output.ptp p ptpPdelayRespFollowUp [seq, 4 * (s.stampAt since + wait) + 5 * s.fget (R.NET_PORT_LAT_EGRESS_NS p)] ∈ t.out
        ∧ t.netPort p = s.netPort p)
  ∧ (∀ (s : State) (p : Fin 2) (seq domain since wait : Nat),
      s.netUp p = true →
      domain ≠ 0 →
      ∃ t, exec (.pdelayReqReceived p seq domain since wait) s = .next t
        ∧ t.fget (R.NET_PORT_CNT_ERR p) = min (2 ^ (R.NET_PORT_CNT_ERR p).width - 1) (s.fget (R.NET_PORT_CNT_ERR p) + 1)
        ∧ t.out = s.out
        ∧ t.netPort p = s.netPort p)
  ∧ (∀ (s : State) (p : Fin 2) (seq domain since wait : Nat),
      s.netUp p = false →
      ∃ t, exec (.pdelayReqReceived p seq domain since wait) s = .next t
        ∧ t = s.after s)
  ∧ (∀ (s : State) (p : Fin 2) (seq domain since : Nat) (peer : Int) (cap : Bool),
      s.shape →
      s.netUp p = true →
      domain = 0 →
      (s.netPort p).waiting = true →
      (s.netPort p).seq = seq →
      ∃ t, exec (.pdelayRespReceived p seq domain since peer cap) s = .next t
        ∧ (t.netPort p).waiting = false
        ∧ (t.netPort p).lost = 0
        ∧ t.fbit (R.NET_PORT_STATUS_AS_CAPABLE p) = cap
        ∧ t.fget (R.NET_PORT_PDELAY_NS p) = (clampInt 0 (2 ^ 32 - 1) (s.pdelay p since peer)).toNat)
  ∧ (∀ (s : State) (p : Fin 2) (seq domain since : Nat) (peer : Int) (cap : Bool),
      s.netUp p = true →
      (domain ≠ 0 ∨ (s.netPort p).waiting = false ∨ (s.netPort p).seq ≠ seq) →
      ∃ t, exec (.pdelayRespReceived p seq domain since peer cap) s = .next t
        ∧ t.fget (R.NET_PORT_CNT_ERR p) = min (2 ^ (R.NET_PORT_CNT_ERR p).width - 1) (s.fget (R.NET_PORT_CNT_ERR p) + 1)
        ∧ t.netPort p = s.netPort p)
  ∧ (∀ (s : State) (p : Fin 2) (seq domain since : Nat) (peer : Int) (cap : Bool),
      s.netUp p = false →
      ∃ t, exec (.pdelayRespReceived p seq domain since peer cap) s = .next t
        ∧ t = s.after s)
  ∧ (∀ (s : State) (p : Fin 2) (speed : Fin 4),
      s.domOn 9 = true →
      ∃ t, exec (.sgmiiLinkChange p true speed) s = .next t
        ∧ t.fbit (R.NET_PORT_STATUS_LINK p) = true
        ∧ t.fget (R.NET_PORT_STATUS_SPEED p) = min speed.val 2)
  ∧ (∀ (s : State) (p : Fin 2) (speed : Fin 4),
      s.shape →
      s.domOn 9 = true →
      ∃ t, exec (.sgmiiLinkChange p false speed) s = .next t
        ∧ t.fbit (R.NET_PORT_STATUS_LINK p) = false
        ∧ t.fbit (R.NET_PORT_STATUS_AS_CAPABLE p) = false
        ∧ t.netPort p = {}
        ∧ t.fget (R.NET_PORT_STATUS_ROLE p) = netDisabled)
  ∧ (∀ (s : State) (p : Fin 2) (up : Bool) (speed : Fin 4),
      s.domOn 9 = false →
      ∃ t, exec (.sgmiiLinkChange p up speed) s = .next t
        ∧ t = s.after s)

/-- Temperatures are converted, light is throttled, and an overheated device shuts down. Commands that it says complete: dieTempConversion, remoteTempConversion, oscCompensation, throttleUpdate, thermalShutdown, thermalShutdownClear. -/
def Obligations.ThermalActs : Prop :=
  (∀ (s : State) (v : Int),
      s.domOn 10 = true →
      ∃ t, exec (.dieTempConversion v false) s = .next t
        ∧ t.fget R.THERM_TEMP_DIE_T = ofSigned 16 (tempWord v)
        ∧ t.therm.outside = false)
  ∧ (∀ (s : State) (v : Int),
      s.domOn 10 = true →
      ∃ t, exec (.dieTempConversion v true) s = .next t
        ∧ t.fget R.THERM_TEMP_DIE_T = s.fget R.THERM_TEMP_DIE_T
        ∧ t.fbit R.THERM_STATUS_RECOVERY = true
        ∧ t.therm.outside = true)
  ∧ (∀ (s : State) (v : Int) (out : Bool),
      s.domOn 10 = false →
      ∃ t, exec (.dieTempConversion v out) s = .next t
        ∧ t = s.after s)
  ∧ (∀ (s : State) (c : Fin 4) (u v : Nat),
      s.domOn 10 = true →
      s.fbit (R.THERM_RCH_CFG_EN c) = true →
      s.shape →
      rchLevel u = .inside →
      ∃ t, exec (.remoteTempConversion c u v) s = .next t
        ∧ t.fget (R.THERM_RCH_T_TEMP c) = ofSigned 16 (tempWord (s.rchTemp c u v))
        ∧ nth t.therm.rch c = (0, 0, min 3 ((nth s.therm.rch c).2.2 + 1))
        ∧ t.fbit (R.THERM_RCH_T_OPEN c) = (s.fbit (R.THERM_RCH_T_OPEN c) && decide ((nth s.therm.rch c).2.2 < 2))
        ∧ t.fbit (R.THERM_RCH_T_SHORT c) = (s.fbit (R.THERM_RCH_T_SHORT c) && decide ((nth s.therm.rch c).2.2 < 2))
        ∧ t.fbit (R.THERM_RCH_T_VALID c) = (!t.fbit (R.THERM_RCH_T_OPEN c) && !t.fbit (R.THERM_RCH_T_SHORT c)))
  ∧ (∀ (s : State) (c : Fin 4) (u v : Nat),
      s.domOn 10 = true →
      s.fbit (R.THERM_RCH_CFG_EN c) = true →
      s.shape →
      rchLevel u = .above →
      ∃ t, exec (.remoteTempConversion c u v) s = .next t
        ∧ t.fget (R.THERM_RCH_T_TEMP c) = s.fget (R.THERM_RCH_T_TEMP c)
        ∧ nth t.therm.rch c = (min 3 ((nth s.therm.rch c).1 + 1), 0, 0)
        ∧ t.fbit (R.THERM_RCH_T_OPEN c) = (s.fbit (R.THERM_RCH_T_OPEN c) || decide (2 ≤ (nth s.therm.rch c).1))
        ∧ t.fbit (R.THERM_RCH_T_SHORT c) = s.fbit (R.THERM_RCH_T_SHORT c)
        ∧ t.fbit (R.THERM_RCH_T_VALID c) = (!t.fbit (R.THERM_RCH_T_OPEN c) && !t.fbit (R.THERM_RCH_T_SHORT c)))
  ∧ (∀ (s : State) (c : Fin 4) (u v : Nat),
      s.domOn 10 = true →
      s.fbit (R.THERM_RCH_CFG_EN c) = true →
      s.shape →
      rchLevel u = .below →
      ∃ t, exec (.remoteTempConversion c u v) s = .next t
        ∧ t.fget (R.THERM_RCH_T_TEMP c) = s.fget (R.THERM_RCH_T_TEMP c)
        ∧ nth t.therm.rch c = (0, min 3 ((nth s.therm.rch c).2.1 + 1), 0)
        ∧ t.fbit (R.THERM_RCH_T_SHORT c) = (s.fbit (R.THERM_RCH_T_SHORT c) || decide (2 ≤ (nth s.therm.rch c).2.1))
        ∧ t.fbit (R.THERM_RCH_T_OPEN c) = s.fbit (R.THERM_RCH_T_OPEN c)
        ∧ t.fbit (R.THERM_RCH_T_VALID c) = (!t.fbit (R.THERM_RCH_T_OPEN c) && !t.fbit (R.THERM_RCH_T_SHORT c)))
  ∧ (∀ (s : State) (c : Fin 4) (u v : Nat),
      (s.domOn 10 = false ∨ s.fbit (R.THERM_RCH_CFG_EN c) = false) →
      ∃ t, exec (.remoteTempConversion c u v) s = .next t
        ∧ t = s.after s)
  ∧ (∀ (s : State),
      ∃ t, exec (.oscCompensation) s = .next t
        ∧ t.therm.lpoPpm = oscInterp 0 s.therm.lpoTab s.aonTemp
        ∧ t.therm.segPpm = oscInterp 1 s.therm.segTab s.aonTemp
        ∧ (t.fget R.THERM_OSC_LPO_PPM = if s.domOn 10 = true then ofSigned 16 (tempWord (oscInterp 0 s.therm.lpoTab s.aonTemp)) else s.fget R.THERM_OSC_LPO_PPM)
        ∧ (t.fget R.THERM_OSC_SEG_PPM = if s.domOn 10 = true then ofSigned 16 (tempWord (oscInterp 1 s.therm.segTab s.aonTemp)) else s.fget R.THERM_OSC_SEG_PPM))
  ∧ (∀ (s : State),
      s.domOn 10 = true →
      s.fbit R.THERM_THROT_EN = false →
      ∃ t, exec (.throttleUpdate) s = .next t
        ∧ t.fget R.THERM_STATUS_STEP = 0
        ∧ t.therm.hi = 0
        ∧ t.therm.lo = 0
        ∧ t.fget R.THERM_STATUS_GOV = s.tGov.1 % 2 ^ (R.THERM_STATUS_GOV).width)
  ∧ (∀ (s : State),
      s.domOn 10 = true →
      s.fbit R.THERM_THROT_EN = true →
      s.throtTh < tempWord s.tGov.2 →
      ∃ t, exec (.throttleUpdate) s = .next t
        ∧ t.therm.lo = 0
        ∧ (t.therm.hi = if 249 ≤ s.therm.hi then 0 else s.therm.hi + 1)
        ∧ (t.fget R.THERM_STATUS_STEP = if 249 ≤ s.therm.hi then min 7 (s.fget R.THERM_STATUS_STEP + 1) else s.fget R.THERM_STATUS_STEP)
        ∧ (249 ≤ s.therm.hi → s.fget R.THERM_STATUS_STEP < 7 → t.fget (R.THERM_COUNT_STEPS) = min (2 ^ (R.THERM_COUNT_STEPS).width - 1) (s.fget (R.THERM_COUNT_STEPS) + 1)))
  ∧ (∀ (s : State),
      s.domOn 10 = true →
      s.fbit R.THERM_THROT_EN = true →
      tempWord s.tGov.2 ≤ s.throtTh →
      tempWord s.tGov.2 < s.throtTh - s.throtHyst * 16 →
      ∃ t, exec (.throttleUpdate) s = .next t
        ∧ t.therm.hi = 0
        ∧ (t.therm.lo = if 249 ≤ s.therm.lo then 0 else s.therm.lo + 1)
        ∧ (t.fget R.THERM_STATUS_STEP = if 249 ≤ s.therm.lo then s.fget R.THERM_STATUS_STEP - 1 else s.fget R.THERM_STATUS_STEP)
        ∧ (249 ≤ s.therm.lo → 0 < s.fget R.THERM_STATUS_STEP → t.fget (R.THERM_COUNT_STEPS) = min (2 ^ (R.THERM_COUNT_STEPS).width - 1) (s.fget (R.THERM_COUNT_STEPS) + 1)))
  ∧ (∀ (s : State),
      s.domOn 10 = true →
      s.fbit R.THERM_THROT_EN = true →
      tempWord s.tGov.2 ≤ s.throtTh →
      s.throtTh - s.throtHyst * 16 ≤ tempWord s.tGov.2 →
      ∃ t, exec (.throttleUpdate) s = .next t
        ∧ t.therm.hi = 0
        ∧ t.therm.lo = 0
        ∧ t.fget R.THERM_STATUS_STEP = s.fget R.THERM_STATUS_STEP
        ∧ t.fget R.THERM_COUNT_STEPS = s.fget R.THERM_COUNT_STEPS)
  ∧ (∀ (s : State),
      s.domOn 10 = false →
      ∃ t, exec (.throttleUpdate) s = .next t
        ∧ t = s.after s)
  ∧ (∀ (s : State),
      s.domOn 1 = true →
      s.fbit R.SAFE_TOT_SRC_THERMAL = false →
      ∃ t, exec (.thermalShutdown) s = .next t
        ∧ t.aon.hot = true
        ∧ t.fbit R.THERM_STATUS_SHUTDOWN = true
        ∧ t.fbit R.SAFE_TOT_SRC_THERMAL = true)
  ∧ (∀ (s : State),
      s.domOn 1 = true →
      s.fbit R.SAFE_TOT_SRC_THERMAL = true →
      ∃ t, exec (.thermalShutdown) s = .next t
        ∧ t.aon.hot = true
        ∧ t.fbit R.THERM_STATUS_SHUTDOWN = true
        ∧ t.fbit R.SAFE_TOT_SRC_THERMAL = true)
  ∧ (∀ (s : State),
      s.domOn 1 = false →
      ∃ t, exec (.thermalShutdown) s = .next t
        ∧ t.aon.hot = true
        ∧ t.fbit R.THERM_STATUS_SHUTDOWN = (s.fbit R.THERM_STATUS_SHUTDOWN || s.domOn 10)
        ∧ t.fget R.SAFE_TOT_SRC_THERMAL = s.fget R.SAFE_TOT_SRC_THERMAL)
  ∧ (∀ (s : State),
      ∃ t, exec (.thermalShutdownClear) s = .next t
        ∧ t.aon.hot = false
        ∧ t.fbit R.THERM_STATUS_SHUTDOWN = false
        ∧ t.fbit R.SAFE_TOT_SRC_THERMAL = false
        ∧ t.faultOn 32 = false)

/-- A calibration run starts, takes its items and ends. Commands that it says complete: calRun, calRetryTimer, calibrationItemDone, calibrationRunDone, adcCheck. -/
def Obligations.CalibrationActs : Prop :=
  (∀ (s : State),
      s.domOn 5 = true →
      s.blockOff (0xA0000) = false →
      s.domOn 10 = true →
      s.therm.run = none →
      ∃ t, exec (.calRun) s = .next t
        ∧ t.therm.run.isSome = true
        ∧ t.fbit R.THERM_STATUS_CAL_BUSY = true)
  ∧ (∀ (s : State),
      s.domOn 5 = true →
      s.blockOff (0xA0000) = false →
      s.domOn 10 = true →
      s.therm.run.isSome = true →
      ∃ t, exec (.calRun) s = .next t
        ∧ t.therm.run = s.therm.run
        ∧ t.fbit R.THERM_STATUS_CAL_PENDING = true)
  ∧ (∀ (s : State),
      s.domOn 10 = true →
      s.fbit R.THERM_STATUS_CAL_FAULT = true →
      s.therm.run = none →
      ∃ t, exec (.calRetryTimer) s = .next t
        ∧ t.therm.run.isSome = true
        ∧ t.fbit R.THERM_STATUS_CAL_BUSY = true)
  ∧ (∀ (s : State),
      s.domOn 10 = true →
      s.fbit R.THERM_STATUS_CAL_FAULT = true →
      s.therm.run.isSome = true →
      ∃ t, exec (.calRetryTimer) s = .next t
        ∧ t.therm.run = s.therm.run
        ∧ t.fbit R.THERM_STATUS_CAL_PENDING = true)
  ∧ (∀ (s : State),
      (s.domOn 10 = false ∨ s.fbit R.THERM_STATUS_CAL_FAULT = false) →
      ∃ t, exec (.calRetryTimer) s = .next t
        ∧ t = s.after s)
  ∧ (∀ (s : State) (first second : List Int) (r : CalRun),
      s.domOn 10 = true →
      s.therm.run = some r →
      r.item ≤ 8 →
      s.calSkips r.item = true →
      ∃ t, exec (.calibrationItemDone first second) s = .next t
        ∧ t.therm.run = some { r with item := s.nextItem r.item, attempts := 0 }
        ∧ t.therm.lpoTab = s.therm.lpoTab)
  ∧ (∀ (s : State) (first second : List Int) (r : CalRun),
      s.domOn 10 = true →
      s.therm.run = some r →
      r.item ≤ 8 →
      s.calSkips r.item = false →
      (first.zip second).all (fun e => itemAgrees r.item e.1 e.2) = true →
      ∃ t, exec (.calibrationItemDone first second) s = .next t
        ∧ t.therm.run = some { r with item := s.nextItem r.item, attempts := 0, diode := r.diode || r.item == 5, recovered := r.recovered || r.item == 5 })
  ∧ (∀ (s : State) (first second : List Int) (r : CalRun),
      s.domOn 10 = true →
      s.therm.run = some r →
      r.item ≤ 8 →
      s.calSkips r.item = false →
      (first.zip second).all (fun e => itemAgrees r.item e.1 e.2) = false →
      ∃ t, exec (.calibrationItemDone first second) s = .next t
        ∧ (r.attempts < 2 → t.therm.run = some { r with attempts := r.attempts + 1 })
        ∧ (2 ≤ r.attempts → t.therm.run = some { r with item := s.nextItem r.item, attempts := 0, failed := true } ∧ t.fbit R.THERM_STATUS_CAL_FAULT = true ∧ t.fget R.THERM_CAL_STAT_FAIL_ITEM = r.item))
  ∧ (∀ (s : State) (first second : List Int),
      (s.domOn 10 = false ∨ s.therm.run = none) →
      ∃ t, exec (.calibrationItemDone first second) s = .next t
        ∧ t = s.after s)
  ∧ (∀ (s : State) (first second : List Int) (r : CalRun),
      s.therm.run = some r →
      8 < r.item →
      ∃ t, exec (.calibrationItemDone first second) s = .next t
        ∧ t = s.after s)
  ∧ (∀ (s : State) (r : CalRun),
      s.domOn 10 = true →
      s.therm.run = some r →
      9 ≤ r.item →
      ∃ t, exec (.calibrationRunDone) s = .next t
        ∧ t.fbit R.THERM_STATUS_CAL_BUSY = s.fbit R.THERM_STATUS_CAL_PENDING
        ∧ t.therm.run.isSome = s.fbit R.THERM_STATUS_CAL_PENDING
        ∧ t.fbit R.THERM_STATUS_CAL_PENDING = false
        ∧ t.fget (R.THERM_COUNT_CAL_RUNS) = min (2 ^ (R.THERM_COUNT_CAL_RUNS).width - 1) (s.fget (R.THERM_COUNT_CAL_RUNS) + 1)
        ∧ (r.failed = false → t.fbit R.THERM_STATUS_CAL_FAULT = false ∧ t.fget R.THERM_CAL_STAT_FAIL_RUNS = 0)
        ∧ (r.failed = true → t.fget (R.THERM_CAL_STAT_FAIL_RUNS) = min (2 ^ (R.THERM_CAL_STAT_FAIL_RUNS).width - 1) (s.fget (R.THERM_CAL_STAT_FAIL_RUNS) + 1))
        ∧ t.fbit R.THERM_STATUS_STARTUP = (s.fbit R.THERM_STATUS_STARTUP && !r.diode)
        ∧ t.fbit R.THERM_STATUS_RECOVERY = (s.fbit R.THERM_STATUS_RECOVERY && !(r.recovered && s.diodeAgrees)))
  ∧ (∀ (s : State),
      (s.domOn 10 = false ∨ s.therm.run = none) →
      ∃ t, exec (.calibrationRunDone) s = .next t
        ∧ t = s.after s)
  ∧ (∀ (s : State) (r : CalRun),
      s.therm.run = some r →
      r.item < 9 →
      ∃ t, exec (.calibrationRunDone) s = .next t
        ∧ t = s.after s)
  ∧ (∀ (s : State) (codes predicted : List Nat),
      s.domOn 10 = true →
      ((List.range 3).find? (fun i => decide (4 < absNat (((nth codes i : Nat) : Int) - ((nth predicted i : Nat) : Int))))).isSome = true →
      ∃ t, exec (.adcCheck codes predicted) s = .next t
        ∧ (s.domOn 1 = true → t.fbit R.TEST_ANA_ADC_FAIL = true)
        ∧ (s.domOn 1 = false → t.fget R.TEST_ANA_ADC_FAIL = s.fget R.TEST_ANA_ADC_FAIL)
        ∧ t.therm.run.isSome = true
        ∧ (s.therm.run.isSome = true → t.therm.run = s.therm.run ∧ t.fbit R.THERM_STATUS_CAL_PENDING = true))
  ∧ (∀ (s : State) (codes predicted : List Nat),
      (s.domOn 10 = false ∨ (List.range 3).find? (fun i => decide (4 < absNat (((nth codes i : Nat) : Int) - ((nth predicted i : Nat) : Int)))) = none) →
      ∃ t, exec (.adcCheck codes predicted) s = .next t
        ∧ t = s.after s)
  ∧ (∀ (s : State),
      (s.domOn 5 = false ∨ s.blockOff (0xA0000) = true) →
      ∃ t, exec (.calRun) s = .next t
        ∧ (t = s.after (if s.domOn 5 = true then (s.offAccess (0xA0000) true).idleRestart else s)))

/-- Loop-backs and the test engine. Commands that it says complete: loopbackCheck, loopbackCheckEnd, testEngineStart, testEngineDone. -/
def Obligations.SoundingActs : Prop :=
  (∀ (s : State) (p : Fin 24),
      s.shape →
      s.domOn 1 = true →
      s.portOn p = true →
      s.fbit (R.TILE_LANE_CTRL_EN p) = false →
      s.lane p = laneOff →
      ∃ t, exec (.loopbackCheck) s = .next t
        ∧ t.lane p = laneLoopback
        ∧ (t.port p).sounding = true)
  ∧ (∀ (s : State) (p : Fin 24),
      s.shape →
      s.domOn 1 = true →
      (s.portOn p = false ∨ s.fbit (R.TILE_LANE_CTRL_EN p) = true ∨ s.lane p ≠ laneOff) →
      ∃ t, exec (.loopbackCheck) s = .next t
        ∧ t.lane p = s.lane p
        ∧ (t.port p).sounding = (s.port p).sounding)
  ∧ (∀ (s : State),
      s.domOn 1 = false →
      ∃ t, exec (.loopbackCheck) s = .next t
        ∧ t = s.after s)
  ∧ (∀ (s : State) (p : Fin 24) (bits : List Bool),
      (s.port p).sounding = false →
      ∃ t, exec (.loopbackCheckEnd p bits) s = .next t
        ∧ t = s.after s)
  ∧ (∀ (s : State) (p : Fin 24) (bits : List Bool),
      s.shape →
      (s.port p).sounding = true →
      ∃ t, exec (.loopbackCheckEnd p bits) s = .next t
        ∧ t.lane p = laneOff
        ∧ (t.port p).sounding = false
        ∧ bitOf (t.fget R.TEST_LOOP_FAIL_PORTS) p = ((checkBits 0 bits).errs != 0)
        ∧ ((checkBits 0 bits).errs ≠ 0 → t.fbit R.TEST_ANA_LOOP_FAIL = true))
  ∧ (∀ (s : State) (u : Fin 256) (k : Fin 4),
      s.domOn 5 = true →
      s.blockOff (0xB0040) = false →
      s.domOn 1 = true →
      s.engineAllowed = true →
      s.lowestSurf = none →
      s.engineUnit u = true →
      ∃ t, exec (.testEngineStart u k) s = .next t
        ∧ t.test.engine = some (u.val, engineKind k)
        ∧ t.fbit R.TEST_STATUS_ENG_BUSY = true
        ∧ t.fbit R.TEST_ENG_STATUS_DONE = false)
  ∧ (∀ (s : State) (u : Fin 256) (k : Fin 4),
      s.domOn 5 = true →
      s.blockOff (0xB0040) = false →
      s.domOn 1 = true →
      (s.engineAllowed = false ∨ s.lowestSurf ≠ none ∨ s.engineUnit u = false) →
      ∃ t, exec (.testEngineStart u k) s = .next t
        ∧ t.fbit R.TEST_ENG_STATUS_REFUSED = true
        ∧ t.test.engine = s.test.engine
        ∧ t.fget R.GLOBAL_WREF_ADDR_ADDR = 0xB0040)
  ∧ (∀ (s : State) (e : List Word) (u k : Nat),
      s.domOn 1 = true →
      s.test.engine = some (u, k) →
      ∃ t, exec (.testEngineDone e) s = .next t
        ∧ t.test.engine = none
        ∧ t.fbit R.TEST_STATUS_ENG_BUSY = false
        ∧ t.fbit R.TEST_ENG_STATUS_DONE = true
        ∧ t.fget R.TEST_ENG_RESULT_MISR = (runMisr u k (s.fget R.TEST_ENG_SEED_SEED) (s.fget R.TEST_ENG_LEN_PATTERNS) e).toNat
        ∧ t.fbit R.TEST_ENG_STATUS_FAIL = (runMisr u k (s.fget R.TEST_ENG_SEED_SEED) (s.fget R.TEST_ENG_LEN_PATTERNS) e != goldenMisr u k (s.fget R.TEST_ENG_SEED_SEED) (s.fget R.TEST_ENG_LEN_PATTERNS)))
  ∧ (∀ (s : State) (e : List Word),
      (s.domOn 1 = false ∨ s.test.engine = none) →
      ∃ t, exec (.testEngineDone e) s = .next t
        ∧ t = s.after s)
  ∧ (∀ (s : State) (unit : Fin 256) (kind : Fin 4),
      (s.domOn 5 = false ∨ s.blockOff (0xB0040) = true) →
      ∃ t, exec (.testEngineStart unit kind) s = .next t
        ∧ (t = s.after (if s.domOn 5 = true then (s.offAccess (0xB0040) true).idleRestart else s)))

/-- What a read of protected memory finds is counted and told. Commands that it says complete: pixelStoreRead, scrubRead, sramEccError. -/
def Obligations.MemoryProtectionActs : Prop :=
  (∀ (s : State) (a : Nat) (w : List Byte) (r g x l : Nat),
      s.domOn 4 = true →
      (rsDecode (a / 64) w).outcome = 0 →
      ∃ t, exec (.pixelStoreRead a w r g x l) s = .next t
        ∧ t.fget R.MEM_ECC_CNT_A_CORRECTED = s.fget R.MEM_ECC_CNT_A_CORRECTED
        ∧ t.pix = s.pix
        ∧ t.out = s.out)
  ∧ (∀ (s : State) (a : Nat) (w : List Byte) (r g x l : Nat),
      s.domOn 4 = true →
      (rsDecode (a / 64) w).outcome = 1 →
      ∃ t, exec (.pixelStoreRead a w r g x l) s = .next t
        ∧ t.fget (R.MEM_ECC_CNT_A_CORRECTED) = min (2 ^ (R.MEM_ECC_CNT_A_CORRECTED).width - 1) (s.fget (R.MEM_ECC_CNT_A_CORRECTED) + 1)
        ∧ t.fget (R.MEM_ECC_CNT_B_WRITEBACKS) = min (2 ^ (R.MEM_ECC_CNT_B_WRITEBACKS).width - 1) (s.fget (R.MEM_ECC_CNT_B_WRITEBACKS) + 1)
        ∧ t.fget R.MEM_ERR_INFO_LAST_SYMS = (rsDecode (a / 64) w).syms % 2 ^ (R.MEM_ERR_INFO_LAST_SYMS).width
        ∧ t.pix = s.pix)
  ∧ (∀ (s : State) (a : Nat) (w : List Byte) (r g x l : Nat),
      s.domOn 4 = true →
      (rsDecode (a / 64) w).outcome = 2 →
      ∃ t, exec (.pixelStoreRead a w r g x l) s = .next t
        ∧ t.fget (R.MEM_ECC_CNT_A_CHECK_ONLY) = min (2 ^ (R.MEM_ECC_CNT_A_CHECK_ONLY).width - 1) (s.fget (R.MEM_ECC_CNT_A_CHECK_ONLY) + 1)
        ∧ t.fget (R.MEM_ECC_CNT_B_WRITEBACKS) = min (2 ^ (R.MEM_ECC_CNT_B_WRITEBACKS).width - 1) (s.fget (R.MEM_ECC_CNT_B_WRITEBACKS) + 1)
        ∧ t.pix = s.pix)
  ∧ (∀ (s : State) (a : Nat) (w : List Byte) (r g x l : Nat),
      s.domOn 4 = true →
      (rsDecode (a / 64) w).outcome = 3 →
      ∃ t, exec (.pixelStoreRead a w r g x l) s = .next t
        ∧ t.fget (R.MEM_ECC_CNT_B_UNCORR) = min (2 ^ (R.MEM_ECC_CNT_B_UNCORR).width - 1) (s.fget (R.MEM_ECC_CNT_B_UNCORR) + 1)
        ∧ t.fget R.MEM_ERR_ADDR_ADDR = a % 2 ^ 30
        ∧ t.fget R.MEM_ERR_INFO_REGION = r % 2 ^ (R.MEM_ERR_INFO_REGION).width)
  ∧ (∀ (s : State) (a : Nat) (w : List Byte) (r g x l : Nat),
      s.domOn 4 = false →
      ∃ t, exec (.pixelStoreRead a w r g x l) s = .next t
        ∧ t = s.after s)
  ∧ (∀ (s : State) (w : List Byte) (r g x l : Nat),
      s.domOn 4 = true →
      (rsDecode (s.fget R.MEM_SCRUB_STAT_LINE) w).outcome = 0 →
      ∃ t, exec (.scrubRead w r g x l) s = .next t
        ∧ t.fget R.MEM_SCRUB_STAT_LINE = (s.fget R.MEM_SCRUB_STAT_LINE + 1) % 14680064
        ∧ t.fbit R.MEM_STATUS_SCRUBBING = true
        ∧ t.fget R.MEM_ECC_CNT_A_CORRECTED = s.fget R.MEM_ECC_CNT_A_CORRECTED
        ∧ t.fget R.MEM_ECC_CNT_B_WRITEBACKS = s.fget R.MEM_ECC_CNT_B_WRITEBACKS
        ∧ t.pix = s.pix)
  ∧ (∀ (s : State) (w : List Byte) (r g x l : Nat),
      s.domOn 4 = true →
      (rsDecode (s.fget R.MEM_SCRUB_STAT_LINE) w).outcome = 1 →
      ∃ t, exec (.scrubRead w r g x l) s = .next t
        ∧ t.fget R.MEM_SCRUB_STAT_LINE = (s.fget R.MEM_SCRUB_STAT_LINE + 1) % 14680064
        ∧ t.fbit R.MEM_STATUS_SCRUBBING = true
        ∧ t.fget (R.MEM_ECC_CNT_A_CORRECTED) = min (2 ^ (R.MEM_ECC_CNT_A_CORRECTED).width - 1) (s.fget (R.MEM_ECC_CNT_A_CORRECTED) + 1)
        ∧ t.fget (R.MEM_ECC_CNT_B_WRITEBACKS) = min (2 ^ (R.MEM_ECC_CNT_B_WRITEBACKS).width - 1) (s.fget (R.MEM_ECC_CNT_B_WRITEBACKS) + 1)
        ∧ t.pix = s.pix)
  ∧ (∀ (s : State) (w : List Byte) (r g x l : Nat),
      s.domOn 4 = true →
      (rsDecode (s.fget R.MEM_SCRUB_STAT_LINE) w).outcome = 2 →
      ∃ t, exec (.scrubRead w r g x l) s = .next t
        ∧ t.fget R.MEM_SCRUB_STAT_LINE = (s.fget R.MEM_SCRUB_STAT_LINE + 1) % 14680064
        ∧ t.fbit R.MEM_STATUS_SCRUBBING = true
        ∧ t.fget (R.MEM_ECC_CNT_A_CHECK_ONLY) = min (2 ^ (R.MEM_ECC_CNT_A_CHECK_ONLY).width - 1) (s.fget (R.MEM_ECC_CNT_A_CHECK_ONLY) + 1)
        ∧ t.fget (R.MEM_ECC_CNT_B_WRITEBACKS) = min (2 ^ (R.MEM_ECC_CNT_B_WRITEBACKS).width - 1) (s.fget (R.MEM_ECC_CNT_B_WRITEBACKS) + 1)
        ∧ t.pix = s.pix)
  ∧ (∀ (s : State) (w : List Byte) (r g x l : Nat),
      s.domOn 4 = true →
      (rsDecode (s.fget R.MEM_SCRUB_STAT_LINE) w).outcome = 3 →
      ∃ t, exec (.scrubRead w r g x l) s = .next t
        ∧ t.fget R.MEM_SCRUB_STAT_LINE = (s.fget R.MEM_SCRUB_STAT_LINE + 1) % 14680064
        ∧ t.fbit R.MEM_STATUS_SCRUBBING = true
        ∧ t.fget (R.MEM_ECC_CNT_B_UNCORR) = min (2 ^ (R.MEM_ECC_CNT_B_UNCORR).width - 1) (s.fget (R.MEM_ECC_CNT_B_UNCORR) + 1)
        ∧ t.fget R.MEM_ERR_ADDR_ADDR = 64 * s.fget R.MEM_SCRUB_STAT_LINE % 2 ^ 30
        ∧ t.fget R.MEM_ERR_INFO_REGION = r % 2 ^ (R.MEM_ERR_INFO_REGION).width)
  ∧ (∀ (s : State) (w : List Byte) (r g x l : Nat),
      s.domOn 4 = false →
      ∃ t, exec (.scrubRead w r g x l) s = .next t
        ∧ t = s.after s)
  ∧ (∀ (s : State) (b d : Bool) (w a u g x : Nat),
      (s.domOn 1 = false ∨ (b = false ∧ s.userOn u g = false)) →
      ∃ t, exec (.sramEccError b d w a u g x) s = .next t
        ∧ t = s.after s)
  ∧ (∀ (s : State) (b : Bool) (w a u g x : Nat),
      s.domOn 1 = true →
      (b = true ∨ s.userOn u g = true) →
      ∃ t, exec (.sramEccError b false w a u g x) s = .next t
        ∧ t.fget (R.TEST_CNT_B_SRAM_CORR) = min (2 ^ (R.TEST_CNT_B_SRAM_CORR).width - 1) (s.fget (R.TEST_CNT_B_SRAM_CORR) + 1)
        ∧ t.fget R.TEST_CNT_B_SRAM_UNCORR = s.fget R.TEST_CNT_B_SRAM_UNCORR)
  ∧ (∀ (s : State) (w a u g x : Nat),
      s.domOn 1 = true →
      ∃ t, exec (.sramEccError true true w a u g x) s = .next t
        ∧ t.fget (R.TEST_CNT_B_SRAM_UNCORR) = min (2 ^ (R.TEST_CNT_B_SRAM_UNCORR).width - 1) (s.fget (R.TEST_CNT_B_SRAM_UNCORR) + 1)
        ∧ t.safe.spbReload = true)
  ∧ (∀ (s : State) (w a u g x : Nat),
      s.domOn 1 = true →
      s.userOn u g = true →
      ∃ t, exec (.sramEccError false true w a u g x) s = .next t
        ∧ t.fget (R.TEST_CNT_B_SRAM_UNCORR) = min (2 ^ (R.TEST_CNT_B_SRAM_UNCORR).width - 1) (s.fget (R.TEST_CNT_B_SRAM_UNCORR) + 1))

/-- The dual-channel inputs, Totality and the lockstep comparators. Commands that it says complete: safeSample, blankAssert, blankRelease, discrepancyFault, k280Repeat, lockstepMismatchControl, lockstepMismatchSafety. -/
def Obligations.SafetyInputsAct : Prop :=
  (∀ (s : State) (k : Fin 16),
      s.domOn 1 = true →
      s.aon.resetHeld = false →
      ∃ t, exec (.safeSample k) s = .next t
        ∧ t.fget R.SAFE_INPUTS_RAW = k.val
        ∧ t.fget R.SAFE_INPUTS_SAMPLED = k.val
        ∧ t.pins.raw = k.val
        ∧ t.fbit R.SAFE_STATUS_LIGHT = t.lightOn)
  ∧ (∀ (s : State) (k : Fin 16),
      (s.domOn 1 = false ∨ s.aon.resetHeld = true) →
      ∃ t, exec (.safeSample k) s = .next t
        ∧ t = s.after { s with pins := { s.pins with raw := k.val } })
  ∧ (∀ (s : State) (b : Bool),
      (s.domOn 1 = false ∨ s.inReset = true) →
      ∃ t, exec (.blankAssert b) s = .next t
        ∧ (bitOf t.pins.raw (if b then 3 else 2) = true)
        ∧ t.safe.blankClear = 0
        ∧ t.fget R.SAFE_TOT_SRC_BLANK_A = s.fget R.SAFE_TOT_SRC_BLANK_A
        ∧ t.fget R.SAFE_TOT_SRC_BLANK_B = s.fget R.SAFE_TOT_SRC_BLANK_B
        ∧ t.mode = s.mode)
  ∧ (∀ (s : State),
      s.domOn 1 = true →
      s.inReset = false →
      ∃ t, exec (.blankAssert false) s = .next t
        ∧ t.fbit R.SAFE_TOT_SRC_BLANK_A = true
        ∧ bitOf t.pins.raw 2 = true
        ∧ t.safe.blankClear = 0
        ∧ t.faultOn 10 = true)
  ∧ (∀ (s : State),
      s.domOn 1 = true →
      s.inReset = false →
      ∃ t, exec (.blankAssert true) s = .next t
        ∧ t.fbit R.SAFE_TOT_SRC_BLANK_B = true
        ∧ bitOf t.pins.raw 3 = true
        ∧ t.safe.blankClear = 0
        ∧ t.faultOn 10 = true)
  ∧ (∀ (s : State),
      100 ≤ s.safe.blankClear →
      ∃ t, exec (.blankRelease) s = .next t
        ∧ t.fbit R.SAFE_TOT_SRC_BLANK_A = false
        ∧ t.fbit R.SAFE_TOT_SRC_BLANK_B = false)
  ∧ (∀ (s : State),
      s.safe.blankClear < 100 →
      ∃ t, exec (.blankRelease) s = .next t
        ∧ t = s.after s)
  ∧ (∀ (s : State) (b : Bool),
      (s.modeNow ≠ 0 ∨ s.fbit R.PWR_MODE_BUSY = true) →
      (s.domOn 1 = false ∨ s.fget (if b then R.SAFE_DISC_BLANK_CNT else R.SAFE_DISC_LREQ_CNT) < s.discN b ∨ s.faultOn (if b then 12 else 11) = true) →
      ∃ t, exec (.discrepancyFault b) s = .next t
        ∧ t = s.after s)
  ∧ (∀ (s : State) (b : Bool),
      s.modeNow = 0 →
      s.fbit R.PWR_MODE_BUSY = false →
      (nth s.aon.tarnDisc (if b then 2 else 0) < (if b then s.mode.tDiscBlank else s.mode.tDiscLreq)) →
      ∃ t, exec (.discrepancyFault b) s = .next t
        ∧ t = s.after s)
  ∧ (∀ (s : State) (b : Bool),
      s.domOn 1 = true →
      (s.modeNow ≠ 0 ∨ s.fbit R.PWR_MODE_BUSY = true) →
      (s.discN b ≤ s.fget (if b then R.SAFE_DISC_BLANK_CNT else R.SAFE_DISC_LREQ_CNT)) →
      ∃ t, exec (.discrepancyFault b) s = .next t
        ∧ (t.faultOn (if b then 12 else 11) = true))
  ∧ (∀ (s : State) (b : Bool),
      s.modeNow = 0 →
      s.fbit R.PWR_MODE_BUSY = false →
      ((if b then s.mode.tDiscBlank else s.mode.tDiscLreq) ≤ nth s.aon.tarnDisc (if b then 2 else 0)) →
      ∃ t, exec (.discrepancyFault b) s = .next t
        ∧ ((if b then t.aon.tarnFault12 else t.aon.tarnFault11) = true))
  ∧ (∀ (s : State) (p : Fin 24),
      s.totHolds p = true →
      s.portOn p = true →
      (s.lane p = laneActive ∨ s.lane p = laneLinked) →
      ∃ t, exec (.k280Repeat p) s = .next t
        ∧ t = s.after (s.send (.kcode p 0))
        ∧ Output.kcode p 0 ∈ t.out)
  ∧ (∀ (s : State) (p : Fin 24),
      (s.totHolds p = false ∨ s.portOn p = false ∨ (s.lane p ≠ laneActive ∧ s.lane p ≠ laneLinked)) →
      ∃ t, exec (.k280Repeat p) s = .next t
        ∧ t = s.after s)
  ∧ (∀ (s : State),
      s.domOn 1 = true →
      s.domOn 2 = true →
      ∃ t, exec (.lockstepMismatchControl) s = .next t
        ∧ t.faultOn 1 = true
        ∧ (s.fbit R.PWR_MODE_BUSY = false → s.modeNow ≠ 3 → t.modeNow = 4)
        ∧ (s.fbit R.PWR_MODE_BUSY = false → s.modeNow = 3 → s.fbit R.PWR_SUPPLY_STATUS_LIMP_SUPPLY = false → t.fget R.PWR_MODE_TARGET = 4))
  ∧ (∀ (s : State),
      (s.domOn 1 = false ∨ s.domOn 2 = false) →
      ∃ t, exec (.lockstepMismatchControl) s = .next t
        ∧ t = s.after s)
  ∧ (∀ (s : State),
      s.domOn 1 = false →
      ∃ t, exec (.lockstepMismatchSafety) s = .next t
        ∧ t = s.after s)
  ∧ (∀ (s : State),
      s.domOn 1 = true →
      ∃ t, exec (.lockstepMismatchSafety) s = .next t
        ∧ t.faultOn 2 = true
        ∧ t.fbit R.SAFE_TOT_SRC_SPILLWAY = true
        ∧ t.fbit R.SAFE_TOT_SRC_SAFETY_PAIR = true)

/-- The safety pair serves LIMP, keeps tiles alive, checks scan cycles and releases ports. Commands that it says complete: limpSwapEdge, limpPatternResend, keepaliveTimer, safetyPairCheckDone, excessRunLimit, tileRelease. -/
def Obligations.SafetyPairServes : Prop :=
  (∀ (s : State),
      s.domOn 1 = true →
      s.safe.form = .store →
      s.safe.swapped = false →
      ∃ t, exec (.limpSwapEdge) s = .next t
        ∧ t.safe.swapped = true
        ∧ t.safe.served = s.servedNow)
  ∧ (∀ (s : State),
      s.domOn 1 = true →
      s.safe.form = .store →
      s.safe.swapped = true →
      ∃ t, exec (.limpPatternResend) s = .next t
        ∧ t.safe.swapped = true
        ∧ t.safe.served = s.safe.served)
  ∧ (∀ (s : State),
      (s.domOn 1 = false ∨ s.safe.form ≠ .store ∨ s.safe.swapped = true) →
      ∃ t, exec (.limpSwapEdge) s = .next t
        ∧ t = s.after s)
  ∧ (∀ (s : State),
      (s.domOn 1 = false ∨ s.safe.form ≠ .store ∨ s.safe.swapped = false) →
      ∃ t, exec (.limpPatternResend) s = .next t
        ∧ t = s.after s)
  ∧ (∀ (s : State) (p : Fin 24),
      s.laneUp p = true →
      s.configures p = true →
      (s.port p).sentAny = true →
      (s.safe.parkBeam && s.beamServes p) = false →
      ∃ t, exec (.keepaliveTimer p) s = .next t
        ∧ (t = s.after (s.setPort p fun q => { q with sentAny := false })))
  ∧ (∀ (s : State) (p : Fin 24),
      s.laneUp p = true →
      s.configures p = true →
      ((s.port p).sentAny = false ∨ (s.safe.parkBeam && s.beamServes p) = true) →
      ∃ t, exec (.keepaliveTimer p) s = .next t
        ∧ (t = s.after ((s.sendCtrl p ctrlKeepalive []).setPort p fun q => { q with sentAny := false })))
  ∧ (∀ (s : State) (p : Fin 24),
      (s.laneUp p = false ∨ s.configures p = false) →
      ∃ t, exec (.keepaliveTimer p) s = .next t
        ∧ t = s.after s)
  ∧ (∀ (s : State) (p : Fin 24),
      s.shape →
      s.laneUp p = true →
      s.configures p = true →
      ∃ t, exec (.keepaliveTimer p) s = .next t
        ∧ (t.port p).sentAny = false)
  ∧ (∀ (s : State) (n : Fin 4) (sums codes : List (Nat × Nat)) (off : Option (Int × Int)) (b : List Byte) (q : PairInput) (rest : List PairInput),
      s.safe.pair.length = 4 →
      s.safe.pairCopy = some b →
      (nth s.safe.pair n).due = q :: rest →
      ∃ t, exec (.safetyPairCheckDone n sums codes off) s = .next t
        ∧ (nth t.safe.pair n).due = rest
        ∧ (s.domOn 1 = true → s.rowBad n q codes = true → t.faultOn 3 = true)
        ∧ (s.domOn 1 = true → pairDiffers b q sums = true → t.faultOn 8 = true))
  ∧ (∀ (s : State) (n : Fin 4) (sums codes : List (Nat × Nat)) (off : Option (Int × Int)),
      (s.safe.pairCopy = none ∨ (nth s.safe.pair n).due = []) →
      ∃ t, exec (.safetyPairCheckDone n sums codes off) s = .next t
        ∧ t = s.after s)
  ∧ (∀ (s : State) (n : Fin 4) (b : List Byte),
      s.domOn 1 = true →
      s.safe.spb = some b →
      spbExcessN b ≤ s.fget (R.SAFE_PROFILE_EXCESS_RUN n) →
      (s.spill n).told = false →
      s.shape →
      ∃ t, exec (.excessRunLimit n) s = .next t
        ∧ t.faultOn 5 = true
        ∧ t.fbit R.SAFE_TOT_SRC_SPILLWAY = true
        ∧ (t.spill n).told = true)
  ∧ (∀ (s : State) (n : Fin 4),
      (s.safe.spb = none ∨ (s.spill n).told = true) →
      ∃ t, exec (.excessRunLimit n) s = .next t
        ∧ t = s.after s)
  ∧ (∀ (s : State) (n : Fin 4) (b : List Byte),
      s.safe.spb = some b →
      s.fget (R.SAFE_PROFILE_EXCESS_RUN n) < spbExcessN b →
      ∃ t, exec (.excessRunLimit n) s = .next t
        ∧ t = s.after s)
  ∧ (∀ (s : State) (p : Fin 24) (v : Nat),
      s.domOn 5 = true →
      s.blockOff (0x90028) = false →
      s.classCOpen = true →
      v < 2 ^ 24 →
      s.shape →
      bitOf v p = true →
      (∃ h, h ∈ s.safe.holds ∧ h.port = p.val) →
      (s.safe.holds.all fun h => h.port != p.val || s.holdOver h) = true →
      ∃ t, exec (.tileRelease v) s = .next t
        ∧ (t.safe.holds.filter (fun h => h.port == p.val) = [])
        ∧ bitOf (t.fget R.SAFE_TILE_HELD_PORTS) p = false
        ∧ t.fbit (R.PIX_HLT_PORT_STAT_TILE_HELD p) = false)
  ∧ (∀ (s : State) (p : Fin 24) (v : Nat),
      s.domOn 5 = true →
      s.blockOff (0x90028) = false →
      s.classCOpen = true →
      v < 2 ^ 24 →
      s.shape →
      (bitOf v p = false ∨ (s.safe.holds.all fun h => h.port != p.val || s.holdOver h) = false) →
      ∃ t, exec (.tileRelease v) s = .next t
        ∧ (t.safe.holds.filter (fun h => h.port == p.val) = s.safe.holds.filter (fun h => h.port == p.val))
        ∧ bitOf (t.fget R.SAFE_TILE_HELD_PORTS) p = bitOf (s.fget R.SAFE_TILE_HELD_PORTS) p)
  ∧ (∀ (s : State) (v : Nat),
      s.domOn 5 = true →
      s.blockOff (0x90028) = false →
      s.classCOpen = false →
      ∃ t, exec (.tileRelease v) s = .next t
        ∧ t.safe.holds = s.safe.holds
        ∧ t.fget R.SAFE_TILE_HELD_PORTS = s.fget R.SAFE_TILE_HELD_PORTS
        ∧ (v % 2 ^ 24 ≠ 0 → t.fget R.GLOBAL_WREF_ADDR_ADDR = 0x90028))

/-- Latch points, F-ticks, S-ticks and P-ticks of a surface. Commands that it says complete: fTick, sTick, pTick, latchPoint, productionWindowOpen. -/
def Obligations.FrameTicksAct : Prop :=
  (∀ (s : State) (n : Fin 4) (k : Nat),
      s.shape →
      s.ticking = true →
      (s.gen n).atF = false →
      (s.gen n).startF = some k →
      ((s.gen n).stopPend = false ∨ s.running n = false) →
      ∃ t, exec (.fTick n) s = .next t
        ∧ t.running n = true
        ∧ t.fget (R.TG_FRAME_FRAME_NUM n) = k % 2 ^ 32
        ∧ (t.gen n).atF = true
        ∧ (t.gen n).startF = none
        ∧ (t.gen n).latched = false)
  ∧ (∀ (s : State) (n : Fin 4),
      s.shape →
      s.ticking = true →
      (s.gen n).atF = false →
      (s.gen n).startF = none →
      (s.gen n).advance.1 = true →
      (s.gen n).stopPend = false →
      s.running n = true →
      ∃ t, exec (.fTick n) s = .next t
        ∧ t.running n = true
        ∧ t.fget (R.TG_FRAME_FRAME_NUM n) = (s.fget (R.TG_FRAME_FRAME_NUM n) + 1) % 2 ^ 32
        ∧ (t.gen n).atF = true
        ∧ (t.gen n).latched = false)
  ∧ (∀ (s : State) (n : Fin 4),
      s.shape →
      s.ticking = true →
      (s.gen n).atF = false →
      (s.gen n).advance.1 = true →
      (s.gen n).stopPend = true →
      s.running n = true →
      ∃ t, exec (.fTick n) s = .next t
        ∧ t.running n = false)
  ∧ (∀ (s : State) (n : Fin 4),
      (s.ticking = false ∨ (s.gen n).atF = true ∨ (s.running n = false ∧ (s.gen n).startF = none) ∨ (s.gen n).advance.1 = false) →
      ∃ t, exec (.fTick n) s = .next t
        ∧ t = s.after s)
  ∧ (∀ (s : State) (n : Fin 4) (e : List Word),
      (s.ticking = false ∨ s.running n = false ∨ ((s.gen n).atF = false ∧ (s.gen n).advance.1 = true)) →
      ∃ t, exec (.sTick n e) s = .next t
        ∧ t = s.after s)
  ∧ (∀ (s : State) (n : Fin 4) (e : List Word),
      s.shape →
      s.ticking = true →
      s.running n = true →
      (s.gen n).atF = true →
      ∃ t, exec (.sTick n e) s = .next t
        ∧ (t.gen n).atF = false
        ∧ (t.gen n).si = (s.gen n).si
        ∧ t.running n = true)
  ∧ (∀ (s : State) (n : Fin 4) (e : List Word),
      s.shape →
      s.ticking = true →
      s.running n = true →
      (s.gen n).atF = false →
      (s.gen n).advance.1 = false →
      ∃ t, exec (.sTick n e) s = .next t
        ∧ (t.gen n).si = (s.gen n).advance.2.si
        ∧ (t.gen n).sQ = (s.gen n).advance.2.sQ
        ∧ (t.gen n).lenQ = (s.gen n).advance.2.lenQ)
  ∧ (∀ (s : State) (n : Fin 4),
      s.shape →
      s.ticking = true →
      s.running n = true →
      (s.gen n).atF = false →
      (s.gen n).fired < 8 →
      ∃ t, exec (.pTick n) s = .next t
        ∧ t.gen n = { s.gen n with fired := (s.gen n).fired + 1 }
        ∧ ((s.fbit R.TG_TICKOUT_EN = true ∧ s.tickKind = 2 ∧ s.fget R.TG_TICKOUT_SRC_TG = n) → t.pins.tickOut = true))
  ∧ (∀ (s : State) (n : Fin 4),
      (s.ticking = false ∨ s.running n = false ∨ (s.gen n).atF = true ∨ 8 ≤ (s.gen n).fired) →
      ∃ t, exec (.pTick n) s = .next t
        ∧ t = s.after s)
  ∧ (∀ (s : State) (n : Fin 4),
      (s.ticking = false ∨ s.nextFrame n = none ∨ (s.gen n).latched = true) →
      ∃ t, exec (.latchPoint n) s = .next t
        ∧ t = s.after s)
  ∧ (∀ (s : State) (n : Fin 4),
      s.shape →
      s.ticking = true →
      (s.nextFrame n).isSome = true →
      (s.gen n).latched = false →
      ∃ t, exec (.latchPoint n) s = .next t
        ∧ (t.gen n).latched = true
        ∧ (t.px n).gainStaged = none)
  ∧ (∀ (s : State) (n : Fin 4) (ph : Fin 8),
      s.shape →
      s.domOn 3 = true →
      s.domOn 9 = true →
      ph.val = 0 →
      s.scanAhead n = true →
      ∃ t, exec (.productionWindowOpen n ph) s = .next t
        ∧ (t.px n).prod.ph = 0
        ∧ (t.px n).prod.sQ = (s.gen n).advance.2.sQ
        ∧ (t.px n).prod.lenQ = (s.gen n).advance.2.lenQ)
  ∧ (∀ (s : State) (n : Fin 4) (ph : Fin 8),
      s.shape →
      s.domOn 3 = true →
      s.domOn 9 = true →
      ph.val ≠ 0 →
      (s.px n).prod.grid.hz ≠ 0 →
      ∃ t, exec (.productionWindowOpen n ph) s = .next t
        ∧ (t.px n).prod.ph = ph.val
        ∧ (t.px n).prod.sQ = (s.px n).prod.sQ)
  ∧ (∀ (s : State) (n : Fin 4) (ph : Fin 8),
      (s.domOn 3 = false ∨ s.domOn 9 = false ∨ (ph.val = 0 ∧ s.scanAhead n = false) ∨ (ph.val ≠ 0 ∧ (s.px n).prod.grid.hz = 0)) →
      ∃ t, exec (.productionWindowOpen n ph) s = .next t
        ∧ t = s.after s)

/-- Generators are enabled and disabled, and a surface's other events. Commands that it says complete: tgDisable, tgEnable, gIntervalStart, tileSyncRise, tileSyncFall, hostSilenceLimp, compositionComplete, layerSafeLimit, laneTick, noSurfaceTick, tickOutPulseEnd. -/
def Obligations.SurfaceEventsAct : Prop :=
  (∀ (s : State) (n : Fin 4),
      s.shape →
      s.domOn 5 = true →
      s.blockOff (0x40000 + 0x100 * n.val) = false →
      s.domOn 3 = true →
      s.running n = true →
      ∃ t, exec (.tgDisable n) s = .next t
        ∧ (t.gen n).stopPend = true
        ∧ t.fbit (R.TG_CTRL_ENABLE n) = false
        ∧ t.running n = true)
  ∧ (∀ (s : State) (n : Fin 4),
      s.shape →
      s.domOn 5 = true →
      s.blockOff (0x40000 + 0x100 * n.val) = false →
      s.running n = false →
      (s.gen n).startF.isSome = true →
      ∃ t, exec (.tgDisable n) s = .next t
        ∧ (t.gen n).startF = none
        ∧ t.fbit (R.TG_CTRL_ENABLE n) = false
        ∧ t.running n = false
        ∧ t.fbit (R.TG_STATUS_RETIME_PENDING n) = false)
  ∧ (∀ (s : State) (n : Fin 4),
      s.domOn 5 = true →
      s.blockOff (0x40000 + 0x100 * n.val) = false →
      s.running n = false →
      (s.gen n).startF = none →
      ∃ t, exec (.tgDisable n) s = .next t
        ∧ t = s.after s.idleRestart)
  ∧ (∀ (s : State) (n : Fin 4),
      s.shape →
      s.domOn 5 = true →
      s.blockOff (0x40000 + 0x100 * n.val) = false →
      s.running n = false →
      (s.gen n).startF.isSome = true →
      ∃ t, exec (.tgEnable n) s = .next t
        ∧ t.gens = s.gens
        ∧ t.running n = false
        ∧ t.fget (R.TG_STATUS_CFG_ERR n) = s.fget (R.TG_STATUS_CFG_ERR n))
  ∧ (∀ (s : State) (n : Fin 4),
      s.shape →
      s.domOn 5 = true →
      s.blockOff (0x40000 + 0x100 * n.val) = false →
      s.running n = false →
      (s.gen n).startF = none →
      s.cfgErrNow n = 0 →
      ∃ t, exec (.tgEnable n) s = .next t
        ∧ (t.gen n).startF = some ((s.regGrid n).firstF s.startQ)
        ∧ (t.gen n).grid = s.regGrid n
        ∧ (t.gen n).members = (s.binds n).filterMap (·.geom)
        ∧ t.running n = false
        ∧ t.fbit (R.TG_CTRL_ENABLE n) = true
        ∧ t.fget (R.TG_STATUS_CFG_ERR n) = 0)
  ∧ (∀ (s : State) (n : Fin 4),
      s.shape →
      s.domOn 5 = true →
      s.blockOff (0x40000 + 0x100 * n.val) = false →
      s.domOn 3 = true →
      s.running n = true →
      ∃ t, exec (.tgEnable n) s = .next t
        ∧ (t.gen n).stopPend = false
        ∧ t.fbit (R.TG_CTRL_ENABLE n) = true
        ∧ t.running n = true)
  ∧ (∀ (s : State) (n : Fin 4),
      s.shape →
      s.domOn 5 = true →
      s.blockOff (0x40000 + 0x100 * n.val) = false →
      s.domOn 3 = true →
      s.running n = false →
      (s.gen n).startF = none →
      s.cfgErrNow n ≠ 0 →
      ∃ t, exec (.tgEnable n) s = .next t
        ∧ t.fget (R.TG_STATUS_CFG_ERR n) = s.cfgErrNow n % 2 ^ (R.TG_STATUS_CFG_ERR n).width
        ∧ t.running n = false
        ∧ (t.gen n).startF = none)
  ∧ (∀ (s : State) (n : Fin 4) (ups : List Nat) (b e : Bool) (a c d : Nat) (f : List Word),
      s.safe.testRow.length = 4 →
      s.ticking = true →
      s.running n = true →
      s.spillPasses n ups = true →
      ∃ t, exec (.gIntervalStart n ups a b c d e f) s = .next t
        ∧ t.running n = true
        ∧ nth t.safe.testRow n = (nth s.safe.testRow n + 1) % 1024)
  ∧ (∀ (s : State) (n : Fin 4) (ups : List Nat) (b e : Bool) (a c d : Nat) (f : List Word),
      s.safe.testFailed.length = 4 →
      s.ticking = true →
      s.running n = true →
      s.spillPasses n ups = false →
      ∃ t, exec (.gIntervalStart n ups a b c d e f) s = .next t
        ∧ nth t.safe.testFailed n = true
        ∧ t.safe.testRow = s.safe.testRow
        ∧ t.fget (R.SAFE_SPILL_COUNT_TEST_FAIL) = min (2 ^ (R.SAFE_SPILL_COUNT_TEST_FAIL).width - 1) (s.fget (R.SAFE_SPILL_COUNT_TEST_FAIL) + 1)
        ∧ (nth s.safe.testFailed n = true → s.domOn 1 = true → t.faultOn 9 = true))
  ∧ (∀ (s : State) (n : Fin 4) (ups : List Nat) (b e : Bool) (a c d : Nat) (f : List Word),
      (s.ticking = false ∨ s.running n = false) →
      ∃ t, exec (.gIntervalStart n ups a b c d e f) s = .next t
        ∧ t = s.after s)
  ∧ (∀ (s : State) (n : Fin 4),
      s.ticking = true →
      s.running n = true →
      ∃ t, exec (.tileSyncRise n) s = .next t
        ∧ (∀ p : Nat, p ∈ s.corePorts n → bitOf t.pins.tileSync p = true ∧ Output.tileSync p true ∈ t.out))
  ∧ (∀ (s : State) (n : Fin 4),
      (s.ticking = false ∨ s.running n = false) →
      ∃ t, exec (.tileSyncRise n) s = .next t
        ∧ t = s.after s)
  ∧ (∀ (s : State) (n : Fin 4),
      ∃ t, exec (.tileSyncFall n) s = .next t
        ∧ (∀ p : Nat, p ∈ s.corePorts n → bitOf t.pins.tileSync p = false))
  ∧ (∀ (s : State),
      max 2 (s.fget R.HOST_SILENCE_FRAMES) ≤ s.fget R.HOST_SILENCE_CNT_COUNT →
      s.lightOn = true →
      s.faultOn 13 = false →
      ∃ t, exec (.hostSilenceLimp) s = .next t
        ∧ t.fbit R.HOST_STATUS_SILENCE_LIMP = true
        ∧ (s.domOn 1 = true → t.faultOn 13 = true)
        ∧ (s.domOn 1 = true → s.fbit R.PWR_MODE_BUSY = false → s.modeNow ≠ 3 → t.modeNow = 4)
        ∧ (s.domOn 1 = true → s.fbit R.PWR_MODE_BUSY = false → s.modeNow = 3 → s.fbit R.PWR_SUPPLY_STATUS_LIMP_SUPPLY = false → t.fget R.PWR_MODE_TARGET = 4))
  ∧ (∀ (s : State),
      (s.fget R.HOST_SILENCE_CNT_COUNT < max 2 (s.fget R.HOST_SILENCE_FRAMES) ∨ s.lightOn = false ∨ s.faultOn 13 = true) →
      ∃ t, exec (.hostSilenceLimp) s = .next t
        ∧ t = s.after s)
  ∧ (∀ (s : State) (d : Nat) (j : Job) (rest : List Job),
      s.shape →
      s.pix.jobs = j :: rest →
      j.surf < 4 →
      ∃ t, exec (.compositionComplete d) s = .next t
        ∧ t.pix.jobs = rest
        ∧ (t.px j.surf).waiting.map Prod.fst = some j.frame
        ∧ t.fbit R.PIX_COMP_STATUS_BUSY = !rest.isEmpty
        ∧ t.fget (R.PIX_COMP_TIME_LAST_US j.surf) = min d 65535)
  ∧ (∀ (s : State) (d : Nat),
      s.pix.jobs = [] →
      ∃ t, exec (.compositionComplete d) s = .next t
        ∧ t = s.after s)
  ∧ (∀ (s : State) (n : Fin 4) (i : Nat) (q : Present),
      s.domOn 1 = true →
      (s.px n).use = some q →
      q.notReady i = true →
      lyPolicy (nth q.layers i).record = 3 →
      lySafeN (nth q.layers i).record < nth (s.px n).notReady i →
      (nth (s.px n).notReady i = lySafeN (nth q.layers i).record + 1 ∨ s.faultOn 14 = false) →
      ∃ t, exec (.layerSafeLimit n i) s = .next t
        ∧ t.faultOn 14 = true
        ∧ (s.faultOn 14 = false → s.fbit R.PWR_MODE_BUSY = false → s.modeNow ≠ 3 → t.modeNow = 4)
        ∧ (s.faultOn 14 = false → s.fbit R.PWR_MODE_BUSY = false → s.modeNow = 3 → s.fbit R.PWR_SUPPLY_STATUS_LIMP_SUPPLY = false → t.fget R.PWR_MODE_TARGET = 4))
  ∧ (∀ (s : State) (n : Fin 4) (i : Nat),
      (s.domOn 1 = false ∨ (s.px n).use = none) →
      ∃ t, exec (.layerSafeLimit n i) s = .next t
        ∧ t = s.after s)
  ∧ (∀ (s : State) (n : Fin 4) (i : Nat) (q : Present),
      (s.px n).use = some q →
      (q.notReady i = false ∨ lyPolicy (nth q.layers i).record ≠ 3 ∨ nth (s.px n).notReady i ≤ lySafeN (nth q.layers i).record ∨ (s.faultOn 14 = true ∧ nth (s.px n).notReady i ≠ lySafeN (nth q.layers i).record + 1)) →
      ∃ t, exec (.layerSafeLimit n i) s = .next t
        ∧ t = s.after s)
  ∧ (∀ (s : State),
      s.domOn 9 = false →
      s.safe.form = .none →
      ∃ t, exec (.laneTick) s = .next t
        ∧ t = s.after s)
  ∧ (∀ (s : State),
      s.domOn 9 = false →
      s.safe.form ≠ .none →
      ∃ t, exec (.laneTick) s = .next t
        ∧ t.gens = s.gens
        ∧ (∀ p : Nat, p < 6 → s.canSend p = true → (t.port p).sentAny = true))
  ∧ (∀ (s : State),
      s.domOn 9 = true →
      ∃ t, exec (.laneTick) s = .next t
        ∧ t.clk = s.clk
        ∧ t.gens = s.gens
        ∧ (∀ p : Nat, p < 24 → s.canSend p = true → s.boundEnabled p = false → (t.port p).sentAny = true))
  ∧ (∀ (s : State) (a c d : Nat) (b e : Bool) (f : List Word),
      s.domOn 1 = true →
      s.domOn 3 = true →
      s.lowestSurf = none →
      s.fget R.PIX_LANE_STATUS_RETIRED = 0 →
      (misrPass f = true ∨ 5 ≤ s.fget R.PIX_LANE_STATUS_OFFLINE) →
      ∃ t, exec (.noSurfaceTick a b c d e f) s = .next t
        ∧ (t.fget R.PIX_LANE_STATUS_OFFLINE = if s.fget R.PIX_LANE_STATUS_OFFLINE < 5 then (s.fget R.PIX_LANE_STATUS_OFFLINE + 1) % 5 else 0)
        ∧ t.fbit R.PIX_LANE_STATUS_ROTATING = true)
  ∧ (∀ (s : State) (a c d : Nat) (b e : Bool) (f : List Word),
      s.domOn 1 = true →
      s.domOn 3 = true →
      s.lowestSurf = none →
      s.fget R.PIX_LANE_STATUS_RETIRED = 0 →
      misrPass f = false →
      s.fget R.PIX_LANE_STATUS_OFFLINE < 5 →
      ∃ t, exec (.noSurfaceTick a b c d e f) s = .next t
        ∧ t.fget R.PIX_LANE_STATUS_RETIRED = 2 ^ s.fget R.PIX_LANE_STATUS_OFFLINE
        ∧ t.fget R.PIX_LANE_STATUS_OFFLINE = 7
        ∧ t.fbit R.PIX_LANE_STATUS_ROTATING = false)
  ∧ (∀ (s : State) (a c d : Nat) (b e : Bool) (f : List Word),
      s.domOn 1 = true →
      s.lowestSurf = none →
      (s.domOn 3 = false ∨ s.fget R.PIX_LANE_STATUS_RETIRED ≠ 0) →
      ∃ t, exec (.noSurfaceTick a b c d e f) s = .next t
        ∧ t.fget R.PIX_LANE_STATUS_OFFLINE = s.fget R.PIX_LANE_STATUS_OFFLINE
        ∧ t.fget R.PIX_LANE_STATUS_RETIRED = s.fget R.PIX_LANE_STATUS_RETIRED)
  ∧ (∀ (s : State) (a c d : Nat) (b e : Bool) (f : List Word),
      (s.domOn 1 = false ∨ s.lowestSurf.isSome = true) →
      ∃ t, exec (.noSurfaceTick a b c d e f) s = .next t
        ∧ t = s.after s)
  ∧ (∀ (s : State),
      s.pins.tickOut = false →
      ∃ t, exec (.tickOutPulseEnd) s = .next t
        ∧ t = s.after s)
  ∧ (∀ (s : State),
      ∃ t, exec (.tickOutPulseEnd) s = .next t
        ∧ t.pins.tickOut = false
        ∧ (s.pins.tickOut = true → Output.tickOut false ∈ t.out))
  ∧ (∀ (s : State) (surf : Fin 4),
      (s.domOn 5 = false ∨ s.blockOff (0x40000 + 0x100 * surf.val) = true) →
      ∃ t, exec (.tgEnable surf) s = .next t
        ∧ (t = s.after (if s.domOn 5 = true then (s.offAccess (0x40000 + 0x100 * surf.val) true).idleRestart else s)))
  ∧ (∀ (s : State) (surf : Fin 4),
      (s.domOn 5 = false ∨ s.blockOff (0x40000 + 0x100 * surf.val) = true) →
      ∃ t, exec (.tgDisable surf) s = .next t
        ∧ (t = s.after (if s.domOn 5 = true then (s.offAccess (0x40000 + 0x100 * surf.val) true).idleRestart else s)))

/-- Commissioning sessions open and close. Commands that it says complete: commOpen, commClose, commSessionTimeout. -/
def Obligations.SessionsAct : Prop :=
  (∀ (s : State),
      s.domOn 5 = true →
      s.blockOff (0x90100) = false →
      s.domOn 1 = true →
      s.fget R.BOOT_STATUS_LC = lcCommission →
      s.safe.session = false →
      ∃ t, exec (.commOpen) s = .next t
        ∧ t.safe.session = true
        ∧ t.fbit R.SAFE_COMM_STATUS_SESSION = true)
  ∧ (∀ (s : State),
      s.domOn 5 = true →
      s.blockOff (0x90100) = false →
      s.domOn 1 = true →
      s.fget R.BOOT_STATUS_LC = lcCommission →
      s.safe.session = true →
      ∃ t, exec (.commOpen) s = .next t
        ∧ t.safe.session = true
        ∧ t.safe.reopen = s.safe.closeDue
        ∧ t.safe.staged = s.safe.staged)
  ∧ (∀ (s : State),
      s.domOn 5 = true →
      s.blockOff (0x90100) = false →
      s.fget R.BOOT_STATUS_LC ≠ lcCommission →
      ∃ t, exec (.commOpen) s = .next t
        ∧ t = s.after s.idleRestart)
  ∧ (∀ (s : State),
      s.domOn 5 = true →
      s.blockOff (0x90100) = false →
      s.safe.session = true →
      s.fbit R.SAFE_COMM_STATUS_COMMIT_BUSY = true →
      ∃ t, exec (.commClose) s = .next t
        ∧ t.safe.session = true
        ∧ t.safe.closeDue = true
        ∧ t.safe.reopen = false)
  ∧ (∀ (s : State),
      s.domOn 5 = true →
      s.blockOff (0x90100) = false →
      s.safe.session = false →
      ∃ t, exec (.commClose) s = .next t
        ∧ t = s.after s.idleRestart)
  ∧ (∀ (s : State),
      s.safe.session = false →
      ∃ t, exec (.commSessionTimeout) s = .next t
        ∧ t = s.after s)
  ∧ (∀ (s : State),
      s.domOn 5 = true →
      s.blockOff (0x90100) = false →
      s.safe.session = true →
      s.fbit R.SAFE_COMM_STATUS_COMMIT_BUSY = false →
      ∃ t, exec (.commClose) s = .next t
        ∧ t.safe.session = false
        ∧ t.safe.staged = none
        ∧ t.fbit R.SAFE_COMM_STATUS_SESSION = false
        ∧ t.fbit R.SAFE_COMM_STATUS_CONFIRMED = false
        ∧ t.fget R.SAFE_SPB_STAGED_VALUE = 0)
  ∧ (∀ (s : State),
      s.safe.session = true →
      s.fbit R.SAFE_COMM_STATUS_COMMIT_BUSY = false →
      ∃ t, exec (.commSessionTimeout) s = .next t
        ∧ t.safe.session = false
        ∧ t.safe.staged = none
        ∧ t.fbit R.SAFE_COMM_STATUS_SESSION = false)
  ∧ (∀ (s : State),
      s.safe.session = true →
      s.fbit R.SAFE_COMM_STATUS_COMMIT_BUSY = true →
      ∃ t, exec (.commSessionTimeout) s = .next t
        ∧ t.safe.session = true
        ∧ t.safe.closeDue = true)
  ∧ (∀ (s : State),
      (s.domOn 5 = false ∨ s.blockOff (0x90100) = true) →
      ∃ t, exec (.commOpen) s = .next t
        ∧ (t = s.after (if s.domOn 5 = true then (s.offAccess (0x90100) true).idleRestart else s)))
  ∧ (∀ (s : State),
      (s.domOn 5 = false ∨ s.blockOff (0x90100) = true) →
      ∃ t, exec (.commClose) s = .next t
        ∧ (t = s.after (if s.domOn 5 = true then (s.offAccess (0x90100) true).idleRestart else s)))

/-- The life cycle moves by its commands only as its states allow. Commands that it says complete: lcAdvance, lcToField, lcKeyBurn, lcRetire, lcLeave, debugAccessOpen. -/
def Obligations.LifeCycleActs : Prop :=
  (∀ (s : State),
      s.domOn 5 = true →
      s.blockOff (0xE0010) = false →
      s.domOn 2 = true →
      s.fget R.BOOT_STATUS_LC = lcBlank →
      ∃ t, exec (.lcAdvance) s = .next t
        ∧ t.fget R.BOOT_STATUS_LC = lcCommission
        ∧ t.boot.otpLc = lcCommission)
  ∧ (∀ (s : State),
      s.domOn 5 = true →
      s.blockOff (0xE0010) = false →
      s.domOn 2 = true →
      s.fget R.BOOT_STATUS_LC ≠ lcBlank →
      ∃ t, exec (.lcAdvance) s = .next t
        ∧ t.fget R.BOOT_STATUS_LC = s.fget R.BOOT_STATUS_LC
        ∧ t.boot.otpLc = s.boot.otpLc
        ∧ t.fbit R.BOOT_LC_STATUS_REFUSED = true)
  ∧ (∀ (s : State),
      s.domOn 5 = true →
      s.blockOff (0xE0010) = false →
      s.domOn 2 = true →
      s.fget R.BOOT_STATUS_LC = lcCommission →
      s.safe.session = true →
      s.fbit R.BOOT_STATUS_SVC_KEY = true →
      s.safe.spb.isSome = true →
      ∃ t, exec (.lcToField) s = .next t
        ∧ t.fget R.BOOT_STATUS_LC = lcField
        ∧ t.boot.otpLc = lcField)
  ∧ (∀ (s : State),
      s.domOn 5 = true →
      s.blockOff (0xE0010) = false →
      s.domOn 2 = true →
      (s.fget R.BOOT_STATUS_LC ≠ lcCommission ∨ s.safe.session = false ∨ s.fbit R.BOOT_STATUS_SVC_KEY = false ∨ s.safe.spb = none) →
      ∃ t, exec (.lcToField) s = .next t
        ∧ t.fget R.BOOT_STATUS_LC = s.fget R.BOOT_STATUS_LC
        ∧ t.fbit R.BOOT_LC_STATUS_REFUSED = true)
  ∧ (∀ (s : State),
      s.domOn 5 = true →
      s.blockOff (0xE0010) = false →
      s.domOn 2 = true →
      s.fget R.BOOT_STATUS_LC = lcCommission →
      s.safe.session = true →
      s.boot.otpKey = none →
      ∃ t, exec (.lcKeyBurn) s = .next t
        ∧ (t.boot.otpKey = some ((List.range 8).map fun w => s.rd (0xE0120 + 4 * w)))
        ∧ t.fbit R.BOOT_STATUS_SVC_KEY = true)
  ∧ (∀ (s : State),
      s.domOn 5 = true →
      s.blockOff (0xE0010) = false →
      s.domOn 2 = true →
      (s.boot.otpKey.isSome = true ∨ s.fget R.BOOT_STATUS_LC ≠ lcCommission ∨ s.safe.session = false) →
      ∃ t, exec (.lcKeyBurn) s = .next t
        ∧ t.boot.otpKey = s.boot.otpKey
        ∧ t.fbit R.BOOT_LC_STATUS_REFUSED = true)
  ∧ (∀ (s : State),
      s.domOn 5 = true →
      s.blockOff (0xE0010) = false →
      s.domOn 2 = true →
      s.fget R.BOOT_STATUS_LC = lcService →
      bitOf (s.fget R.BOOT_LC_PERMS_PERMS) 2 = true →
      ∃ t, exec (.lcRetire) s = .next t
        ∧ t.fget R.BOOT_STATUS_LC = lcRetired
        ∧ t.boot.otpKey = none
        ∧ t.fbit R.BOOT_STATUS_SVC_KEY = false
        ∧ t.fget R.BOOT_LC_PERMS_PERMS = 0)
  ∧ (∀ (s : State),
      s.domOn 5 = true →
      s.blockOff (0xE0010) = false →
      s.domOn 2 = true →
      (s.fget R.BOOT_STATUS_LC ≠ lcService ∨ bitOf (s.fget R.BOOT_LC_PERMS_PERMS) 2 = false) →
      ∃ t, exec (.lcRetire) s = .next t
        ∧ t.fget R.BOOT_STATUS_LC = s.fget R.BOOT_STATUS_LC
        ∧ t.fbit R.BOOT_LC_STATUS_REFUSED = true)
  ∧ (∀ (s : State),
      s.domOn 5 = true →
      s.blockOff (0xE0010) = false →
      s.domOn 2 = true →
      s.fget R.BOOT_STATUS_LC = lcService →
      ∃ t, exec (.lcLeave) s = .next t
        ∧ t.fget R.BOOT_STATUS_LC = s.boot.otpLc % 2 ^ (R.BOOT_STATUS_LC).width
        ∧ t.fget R.BOOT_LC_PERMS_PERMS = 0)
  ∧ (∀ (s : State),
      s.domOn 5 = true →
      s.blockOff (0xE0010) = false →
      s.domOn 2 = true →
      s.fget R.BOOT_STATUS_LC ≠ lcService →
      ∃ t, exec (.lcLeave) s = .next t
        ∧ t = s.after s.idleRestart)
  ∧ (∀ (s : State),
      s.domOn 2 = true →
      (s.fget R.BOOT_STATUS_LC = lcBlank ∨ (s.fget R.BOOT_STATUS_LC = lcService ∧ bitOf (s.fget R.BOOT_LC_PERMS_PERMS) 1 = true)) →
      ∃ t, exec (.debugAccessOpen) s = .next t
        ∧ t.fbit R.BOOT_STATUS_DBG_OPEN = true
        ∧ t.fbit R.SAFE_TOT_SRC_SAFETY_PAIR = true)
  ∧ (∀ (s : State),
      (s.domOn 2 = false ∨ (s.fget R.BOOT_STATUS_LC ≠ lcBlank ∧ (s.fget R.BOOT_STATUS_LC ≠ lcService ∨ bitOf (s.fget R.BOOT_LC_PERMS_PERMS) 1 = false))) →
      ∃ t, exec (.debugAccessOpen) s = .next t
        ∧ t = s.after s)
  ∧ (∀ (s : State),
      (s.domOn 5 = false ∨ s.blockOff (0xE0010) = true) →
      ∃ t, exec (.lcAdvance) s = .next t
        ∧ (t = s.after (if s.domOn 5 = true then (s.offAccess (0xE0010) true).idleRestart else s)))
  ∧ (∀ (s : State),
      (s.domOn 5 = false ∨ s.blockOff (0xE0010) = true) →
      ∃ t, exec (.lcToField) s = .next t
        ∧ (t = s.after (if s.domOn 5 = true then (s.offAccess (0xE0010) true).idleRestart else s)))
  ∧ (∀ (s : State),
      (s.domOn 5 = false ∨ s.blockOff (0xE0010) = true) →
      ∃ t, exec (.lcKeyBurn) s = .next t
        ∧ (t = s.after (if s.domOn 5 = true then (s.offAccess (0xE0010) true).idleRestart else s)))
  ∧ (∀ (s : State),
      (s.domOn 5 = false ∨ s.blockOff (0xE0010) = true) →
      ∃ t, exec (.lcLeave) s = .next t
        ∧ (t = s.after (if s.domOn 5 = true then (s.offAccess (0xE0010) true).idleRestart else s)))
  ∧ (∀ (s : State),
      (s.domOn 5 = false ∨ s.blockOff (0xE0010) = true) →
      ∃ t, exec (.lcRetire) s = .next t
        ∧ (t = s.after (if s.domOn 5 = true then (s.offAccess (0xE0010) true).idleRestart else s)))

/-- Challenges, entry into SERVICE and the lockout. Commands that it says complete: chalReq, lcEnter, challengeExpiry, lockoutExpiry, lcRecordTimer. -/
def Obligations.ServiceEntryActs : Prop :=
  (∀ (s : State),
      s.domOn 5 = true →
      s.blockOff (0xE0010) = false →
      s.domOn 2 = true →
      s.boot.locked = false →
      ∃ t, exec (.chalReq) s = .next t
        ∧ t.fbit R.BOOT_LC_STATUS_CHAL_VALID = true
        ∧ t.boot.chalCount = s.boot.chalCount + 1)
  ∧ (∀ (s : State),
      s.domOn 5 = true →
      s.blockOff (0xE0010) = false →
      s.domOn 2 = true →
      s.boot.locked = true →
      ∃ t, exec (.chalReq) s = .next t
        ∧ t = s.after s.idleRestart)
  ∧ (∀ (s : State),
      s.domOn 5 = true →
      s.blockOff (0xE0010) = false →
      s.domOn 2 = true →
      s.fbit R.BOOT_LC_STATUS_CHAL_VALID = false →
      s.fget R.BOOT_STATUS_LC < lcService →
      ∃ t, exec (.lcEnter) s = .next t
        ∧ t.fget R.BOOT_LC_STATUS_LAST = 3
        ∧ t.fget R.PWR_RESET_LC_FAILS = min 255 (s.fget R.PWR_RESET_LC_FAILS + 1)
        ∧ t.fget R.BOOT_STATUS_LC = s.fget R.BOOT_STATUS_LC
        ∧ ((s.boot.locked = false ∧ 4 ≤ s.fget R.PWR_RESET_LC_FAILS) → t.boot.locked = true ∧ t.boot.lockS = 600))
  ∧ (∀ (s : State),
      s.domOn 5 = true →
      s.blockOff (0xE0010) = false →
      s.domOn 2 = true →
      s.fbit R.BOOT_LC_STATUS_CHAL_VALID = true →
      s.fget R.BOOT_STATUS_LC < lcService →
      s.responseOk = true →
      ∃ t, exec (.lcEnter) s = .next t
        ∧ t.fget R.BOOT_STATUS_LC = lcService
        ∧ t.fget R.BOOT_LC_STATUS_LAST = 1
        ∧ t.fget R.PWR_RESET_LC_FAILS = 0
        ∧ t.fget R.BOOT_LC_PERMS_PERMS = s.askedPerms % 2 ^ (R.BOOT_LC_PERMS_PERMS).width
        ∧ t.fbit R.BOOT_LC_STATUS_CHAL_VALID = false)
  ∧ (∀ (s : State),
      s.domOn 5 = true →
      s.blockOff (0xE0010) = false →
      s.domOn 2 = true →
      s.fbit R.BOOT_LC_STATUS_CHAL_VALID = true →
      s.fget R.BOOT_STATUS_LC < lcService →
      s.responseOk = false →
      ∃ t, exec (.lcEnter) s = .next t
        ∧ t.fget R.BOOT_LC_STATUS_LAST = 2
        ∧ t.fget R.PWR_RESET_LC_FAILS = min 255 (s.fget R.PWR_RESET_LC_FAILS + 1)
        ∧ t.fget R.BOOT_STATUS_LC = s.fget R.BOOT_STATUS_LC
        ∧ t.fbit R.BOOT_LC_STATUS_CHAL_VALID = false)
  ∧ (∀ (s : State),
      s.domOn 5 = true →
      s.blockOff (0xE0010) = false →
      s.domOn 2 = true →
      lcService ≤ s.fget R.BOOT_STATUS_LC →
      ∃ t, exec (.lcEnter) s = .next t
        ∧ t.fbit R.BOOT_LC_STATUS_CHAL_VALID = false
        ∧ t.fget R.BOOT_STATUS_LC = s.fget R.BOOT_STATUS_LC
        ∧ t.fget R.BOOT_LC_STATUS_LAST = s.fget R.BOOT_LC_STATUS_LAST
        ∧ t.fget R.PWR_RESET_LC_FAILS = s.fget R.PWR_RESET_LC_FAILS
        ∧ t.boot.locked = s.boot.locked)
  ∧ (∀ (s : State),
      s.domOn 2 = false →
      ∃ t, exec (.challengeExpiry) s = .next t
        ∧ t = s.after s)
  ∧ (∀ (s : State),
      s.domOn 2 = true →
      ∃ t, exec (.challengeExpiry) s = .next t
        ∧ t.fbit R.BOOT_LC_STATUS_CHAL_VALID = false)
  ∧ (∀ (s : State),
      s.boot.locked = true →
      s.boot.lockS = 0 →
      ∃ t, exec (.lockoutExpiry) s = .next t
        ∧ t.boot.locked = false
        ∧ t.fget R.PWR_RESET_LC_FAILS = s.fget R.PWR_RESET_LC_FAILS)
  ∧ (∀ (s : State),
      (s.boot.locked = false ∨ s.boot.lockS ≠ 0) →
      ∃ t, exec (.lockoutExpiry) s = .next t
        ∧ t = s.after s)
  ∧ (∀ (s : State),
      (s.boot.locked = false ∨ s.domOn 1 = false ∨ s.domOn 2 = false) →
      ∃ t, exec (.lcRecordTimer) s = .next t
        ∧ t = s.after s)
  ∧ (∀ (s : State),
      s.boot.locked = true →
      s.domOn 1 = true →
      s.domOn 2 = true →
      ∃ t, exec (.lcRecordTimer) s = .next t
        ∧ t.boot.lcSeq = (s.boot.lcSeq + 1) % 2 ^ 32
        ∧ t.boot.lcSector = 1 - s.boot.lcSector
        ∧ t.boot.lockS = s.boot.lockS)
  ∧ (∀ (s : State),
      (s.domOn 5 = false ∨ s.blockOff (0xE0010) = true) →
      ∃ t, exec (.chalReq) s = .next t
        ∧ (t = s.after (if s.domOn 5 = true then (s.offAccess (0xE0010) true).idleRestart else s)))
  ∧ (∀ (s : State),
      (s.domOn 5 = false ∨ s.blockOff (0xE0010) = true) →
      ∃ t, exec (.lcEnter) s = .next t
        ∧ (t = s.after (if s.domOn 5 = true then (s.offAccess (0xE0010) true).idleRestart else s)))

/-- What the supply, power and mode commands leave unchanged: the parts and fields that each may change. Commands that it says complete: powerOnReset, resetNAssert, resetNRelease, flashReadComplete, bootComplete, stuckResetTimeout, mainOkFall, mainOkRise, bkupHighEnough, rideThroughExpiry, sheddingStart, returnTimerExpiry, restorationComplete, supplyCollapse, collapseResetTimeout, railPowerGoodChange, railPgTimeout, railRetryTimeout, railRecoveryRetry, pmbusTransactionDone, railStatusPoll, domainOffRequest, mode, blank, unblank, modeTransitionComplete, idleTimerExpiry, lreqOffExpiry, nosurfCheck, tarnSample, tarnTimerExpiry, hostWakeRelease, xtal32Absence. -/
def Obligations.FrameSupplyAndModes : Prop :=
  (∀ (s : State) (left : Bool) (xspiSafe : Bool),
      ∃ t, exec (.powerOnReset left xspiSafe) s = .next t
        ∧ s.onlyChanges t [.fregs, .clk, .ticks, .pins, .submit, .events, .host, .cmds, .sup, .mode, .flash, .boot, .sleep, .gens, .pix, .safe, .aon, .ports, .parkPats, .seg, .therm, .net, .twin, .test, .free] [] [0, 1, 2, 3, 4, 5, 6, 7, 8, 9, 10, 11, 12, 13, 14, 16, 17])
  ∧ (∀ (s : State),
      ∃ t, exec (.resetNAssert) s = .next t
        ∧ s.onlyChanges t [.fregs, .clk, .pins, .submit, .events, .host, .cmds, .sup, .mode, .flash, .boot, .gens, .pix, .safe, .aon, .ports, .parkPats, .seg, .therm, .net, .twin, .test, .free] ([R.PWR_DOM_STATUS_MEM_RET, R.PWR_DOM_STATUS_ON, R.PWR_DOM_STATUS_TLA_LIMP, R.PWR_MODE_BUSY, R.PWR_MODE_MODE, R.PWR_MODE_TARGET, R.SEG_STATUS_CLK_FREE, R.SEG_STATUS_OFF_TOT, R.SEG_STATUS_TICK_FREE] ++ idleFields) [0, 1, 3, 4, 5, 6, 7, 9, 11, 12, 13, 14, 16, 17])
  ∧ (∀ (s : State) (left : Bool) (xspiSafe : Bool),
      ∃ t, exec (.resetNRelease left xspiSafe) s = .next t
        ∧ (s.onlyChanges t [.fregs, .submit, .events, .host, .cmds, .sup, .mode, .boot, .pix, .safe, .aon, .ports, .seg, .therm, .twin, .test, .free] ([R.BOOT_FW_SEC_SEC_A, R.BOOT_FW_SEC_SEC_B, R.BOOT_FW_SEC_VALID_A, R.BOOT_FW_SEC_VALID_B, R.BOOT_FW_VER_A_VERSION, R.BOOT_FW_VER_B_VERSION, R.BOOT_LC_STATUS_LOCKED, R.BOOT_LC_STATUS_LOCK_S, R.BOOT_STATUS_FALLBACK, R.BOOT_STATUS_LAMP_SIDE, R.BOOT_STATUS_LC, R.BOOT_STATUS_ROLLBACK, R.BOOT_STATUS_SLOT, R.BOOT_STATUS_SVC_KEY, R.BOOT_STATUS_TRIAL_PENDING, R.BOOT_STATUS_XSPI_SAFE, R.BOOT_STATUS_XSPI_SLOW, R.PWR_DOM_STATUS_ON, R.PWR_DOM_STATUS_TLA_LIMP, R.PWR_MODE_BUSY, R.PWR_MODE_CAUSE, R.PWR_MODE_MODE, R.PWR_MODE_TARGET, R.PWR_RESET_CAUSE, R.PWR_SUPPLY_STATUS_LIMP_SUPPLY, R.SAFE_FAULT_ACT_HI_ACTIVE, R.SAFE_FAULT_ACT_LO_ACTIVE, R.SAFE_FAULT_FIRST_CODE, R.SAFE_FAULT_FIRST_INSTANCE, R.SAFE_FAULT_LAST_CODE, R.SAFE_FAULT_LAST_INSTANCE, R.SAFE_INPUTS_RAW, R.SAFE_TILE_HELD_PORTS] ++ eventFields ++ idleFields ++ totFields ++ headFields ++ [R.HOST_STATUS_CPL_STALL] ++ (each 4 fun i => [R.BOOT_DEV_ID_ID i]) ++ (each 5 fun i => [R.PWR_RAIL_STAT_EN i])) [3, 4, 5, 6, 7, 8, 10, 11, 12, 13]))
  ∧ (∀ (s : State) (ok : Bool),
      ∃ t, exec (.flashReadComplete ok) s = .next t
        ∧ (s.onlyChanges t [.fregs, .clk, .pins, .submit, .events, .host, .cmds, .sup, .mode, .flash, .boot, .gens, .pix, .safe, .aon, .ports, .parkPats, .seg, .therm, .net, .twin, .test, .free] ([R.PWR_DOM_STATUS_MEM_RET, R.PWR_DOM_STATUS_ON, R.PWR_DOM_STATUS_TLA_LIMP, R.PWR_MODE_BUSY, R.PWR_MODE_CAUSE, R.PWR_MODE_MODE, R.PWR_MODE_TARGET, R.PWR_RESET_BOOT_FAIL, R.PWR_RESET_LC_FAILS, R.PWR_RESET_STUCK_MS, R.PWR_SUPPLY_STATUS_LIMP_SUPPLY] ++ idleFields ++ (each 5 fun i => [R.PWR_RAIL_STAT_EN i])) [0, 1, 3, 4, 5, 6, 7, 8, 9, 10, 11, 12, 13, 14, 16, 17]))
  ∧ (∀ (s : State) (units : List (Nat × Nat)) (lanes : List Nat) (safeFail : Bool) (otherFail : Bool) (durUs : Nat) (repairs : Nat) (rows : Nat) (cols : Nat),
      ∃ t, exec (.bootComplete units lanes safeFail otherFail durUs repairs rows cols) s = .next t
        ∧ (s.onlyChanges t [.fregs, .clk, .pins, .submit, .events, .host, .cmds, .sup, .mode, .flash, .boot, .sleep, .gens, .pix, .safe, .aon, .ports, .parkPats, .seg, .therm, .net, .twin, .test, .free] ([R.PWR_DOM_STATUS_MEM_RET, R.PWR_DOM_STATUS_ON, R.PWR_DOM_STATUS_TLA_LIMP, R.PWR_MODE_BUSY, R.PWR_MODE_CAUSE, R.PWR_MODE_MODE, R.PWR_MODE_TARGET, R.PWR_RESET_CAUSE, R.PWR_RESET_POST_SAFE_FAIL, R.PWR_RESET_STUCK_RESET, R.PWR_SUPPLY_STATUS_LIMP_SUPPLY, R.PWR_WAKE_CAUSE_REPLAYED, R.PWR_WAKE_LATCH_ACTION, R.PWR_WAKE_LATCH_DISCARDED, R.PWR_WAKE_LATCH_RULES] ++ idleFields ++ (each 5 fun i => [R.PWR_RAIL_STAT_EN i])) [0, 1, 3, 4, 5, 6, 7, 8, 9, 10, 11, 12, 13, 14, 16, 17]))
  ∧ (∀ (s : State),
      ∃ t, exec (.stuckResetTimeout) s = .next t
        ∧ s.onlyChanges t [.host, .aon] [R.PWR_RESET_STUCK_RESET])
  ∧ (∀ (s : State) (mainMv : Nat) (bkupMv : Nat),
      ∃ t, exec (.mainOkFall mainMv bkupMv) s = .next t
        ∧ (s.onlyChanges t [.fregs, .clk, .pins, .submit, .events, .host, .cmds, .sup, .mode, .flash, .boot, .gens, .pix, .safe, .aon, .ports, .parkPats, .seg, .therm, .net, .twin, .test, .free] ([R.PWR_COUNT_SWITCHOVERS, R.PWR_DOM_STATUS_MEM_RET, R.PWR_DOM_STATUS_ON, R.PWR_DOM_STATUS_TLA_LIMP, R.PWR_MODE_BUSY, R.PWR_MODE_TARGET, R.PWR_SUPPLY_STATUS_BKUP_LOW, R.PWR_SUPPLY_STATUS_MAIN_OK, R.PWR_SUPPLY_STATUS_ON_BKUP, R.PWR_SUPPLY_STATUS_RIDING] ++ (each 5 fun i => [R.PWR_RAIL_STAT_EN i])) [0, 1, 3, 4, 5, 6, 7, 8, 9, 10, 11, 12, 13, 14, 16, 17]))
  ∧ (∀ (s : State) (mainMv : Nat),
      ∃ t, exec (.mainOkRise mainMv) s = .next t
        ∧ s.onlyChanges t [.host, .aon] [R.PWR_SUPPLY_STATUS_BKUP_LOW, R.PWR_SUPPLY_STATUS_MAIN_OK, R.PWR_SUPPLY_STATUS_ON_BKUP, R.PWR_SUPPLY_STATUS_RIDING])
  ∧ (∀ (s : State) (mainMv : Nat) (bkupMv : Nat),
      ∃ t, exec (.bkupHighEnough mainMv bkupMv) s = .next t
        ∧ s.onlyChanges t [.host] [R.PWR_COUNT_SWITCHOVERS, R.PWR_SUPPLY_STATUS_BKUP_LOW, R.PWR_SUPPLY_STATUS_ON_BKUP])
  ∧ (∀ (s : State),
      s.domOn 1 = true →
      ∃ t, exec (.rideThroughExpiry) s = .next t
        ∧ s.onlyChanges t (reactParts ++ [.sup]) ([R.PWR_COUNT_RIDE_FAILS, R.PWR_SUPPLY_STATUS_MAIN_LOST, R.PWR_SUPPLY_STATUS_RIDING] ++ reactFields))
  ∧ (∀ (s : State),
      s.domOn 1 = false →
      ∃ t, exec (.rideThroughExpiry) s = .next t
        ∧ (s.onlyChanges t [.fregs, .submit, .events, .host, .cmds, .sup, .mode, .boot, .pix, .safe, .aon, .ports, .seg, .therm, .twin, .test, .free] ([R.PWR_COUNT_RIDE_FAILS, R.PWR_DOM_STATUS_ON, R.PWR_DOM_STATUS_TLA_LIMP, R.PWR_MODE_BUSY, R.PWR_MODE_CAUSE, R.PWR_MODE_MODE, R.PWR_MODE_TARGET, R.PWR_RESET_CAUSE, R.PWR_SUPPLY_STATUS_LIMP_SUPPLY, R.PWR_SUPPLY_STATUS_MAIN_LOST, R.PWR_SUPPLY_STATUS_RIDING] ++ idleFields ++ (each 5 fun i => [R.PWR_RAIL_STAT_EN i])) [0, 1, 3, 4, 5, 6, 7, 8, 9, 10, 11, 12, 13, 14, 16, 17]))
  ∧ (∀ (s : State),
      ∃ t, exec (.sheddingStart) s = .next t
        ∧ (s.onlyChanges t [.fregs, .clk, .pins, .submit, .events, .host, .cmds, .sup, .mode, .flash, .boot, .gens, .pix, .safe, .ports, .parkPats, .seg, .therm, .net, .twin, .test, .free] ([R.PWR_DOM_STATUS_MEM_RET, R.PWR_DOM_STATUS_ON, R.PWR_DOM_STATUS_TLA_LIMP, R.SAFE_COMM_CONFIRM_VALUE, R.SAFE_COMM_STATUS_COMMIT_BUSY, R.SAFE_COMM_STATUS_CONFIRMED, R.SAFE_COMM_STATUS_SESSION, R.SAFE_COMM_STATUS_STAGED, R.SAFE_SPB_STAGED_VALUE, R.SEG_STATUS_CLK_FREE, R.SEG_STATUS_TICK_FREE] ++ (each 5 fun i => [R.PWR_RAIL_STAT_EN i])) [1, 3, 4, 5, 6, 7, 12, 13, 14, 16, 17]))
  ∧ (∀ (s : State),
      ∃ t, exec (.returnTimerExpiry) s = .next t
        ∧ (s.onlyChanges t (reactParts ++ [.boot, .pix, .therm, .test]) ([R.BOOT_FW_SEC_SEC_A, R.BOOT_FW_SEC_SEC_B, R.BOOT_FW_SEC_VALID_A, R.BOOT_FW_SEC_VALID_B, R.BOOT_FW_VER_A_VERSION, R.BOOT_FW_VER_B_VERSION, R.BOOT_LC_STATUS_LOCKED, R.BOOT_LC_STATUS_LOCK_S, R.BOOT_STATUS_FALLBACK, R.BOOT_STATUS_LAMP_SIDE, R.BOOT_STATUS_LC, R.BOOT_STATUS_ROLLBACK, R.BOOT_STATUS_SLOT, R.BOOT_STATUS_SVC_KEY, R.BOOT_STATUS_TRIAL_PENDING, R.BOOT_STATUS_XSPI_SAFE, R.BOOT_STATUS_XSPI_SLOW, R.MEM_STATUS_READY, R.MEM_STATUS_SCRUBBING, R.PWR_DOM_STATUS_ON, R.PWR_DOM_STATUS_TLA_LIMP, R.PWR_RESET_CAUSE, R.SAFE_INPUTS_RAW, R.SAFE_TILE_HELD_PORTS, R.SEG_STATUS_CLK_FREE, R.SEG_STATUS_TICK_FREE, R.TEST_STATUS_ENG_ALLOWED, R.THERM_STATUS_CAL_BUSY, R.THERM_STATUS_CAL_PENDING, R.THERM_STATUS_SHUTDOWN] ++ reactFields ++ (each 4 fun i => [R.BOOT_DEV_ID_ID i, R.TG_STATUS_HOLDOVER i]) ++ (each 24 fun i => [R.PIX_HLT_PORT_STAT_DEFECTS i, R.PIX_HLT_PORT_STAT_TILE_HELD i, R.TILE_LANE_STATUS_ALERT i]))))
  ∧ (∀ (s : State) (units : List (Nat × Nat)) (lanes : List Nat) (safeFail : Bool) (otherFail : Bool) (durUs : Nat) (repairs : Nat) (rows : Nat) (cols : Nat),
      ∃ t, exec (.restorationComplete units lanes safeFail otherFail durUs repairs rows cols) s = .next t
        ∧ (s.onlyChanges t (reactParts ++ [.flash, .boot, .pix, .therm, .test]) ([R.BOOT_STATUS_ROLLBACK, R.BOOT_STATUS_TRIAL_PENDING, R.MEM_STATUS_READY, R.MEM_STATUS_SCRUBBING, R.PIX_LANE_STATUS_OFFLINE, R.PIX_LANE_STATUS_RETIRED, R.PIX_LANE_STATUS_ROTATING, R.PWR_DOM_STATUS_ON, R.PWR_RESET_STUCK_RESET, R.SAFE_INPUTS_RAW, R.SAFE_TILE_HELD_PORTS, R.SEG_STATUS_CLK_FREE, R.SEG_STATUS_TICK_FREE, R.TEST_POST_DURATION_US, R.TEST_POST_REPAIRS, R.TEST_SPARES_COLS_LEFT, R.TEST_SPARES_ROWS_LEFT, R.TEST_STATUS_POST_DONE, R.TEST_STATUS_POST_FAIL, R.THERM_STATUS_CAL_BUSY, R.THERM_STATUS_CAL_PENDING, R.THERM_STATUS_SHUTDOWN] ++ reactFields ++ (each 4 fun i => [R.TG_STATUS_HOLDOVER i]) ++ (each 24 fun i => [R.PIX_HLT_PORT_STAT_DEFECTS i, R.PIX_HLT_PORT_STAT_TILE_HELD i, R.TILE_LANE_STATUS_ALERT i]))))
  ∧ (∀ (s : State),
      ∃ t, exec (.supplyCollapse) s = .next t
        ∧ s.onlyChanges t (reactParts) ([R.PWR_SUPPLY_STATUS_RIDING] ++ reactFields))
  ∧ (∀ (s : State) (below25 : Bool),
      ∃ t, exec (.collapseResetTimeout below25) s = .next t
        ∧ s.onlyChanges t [.fregs, .clk, .ticks, .pins, .submit, .events, .host, .cmds, .sup, .mode, .flash, .boot, .sleep, .gens, .pix, .safe, .aon, .ports, .parkPats, .seg, .therm, .net, .twin, .test, .free] [] [0, 1, 2, 3, 4, 5, 6, 7, 8, 9, 10, 11, 12, 13, 14, 16, 17])
  ∧ (∀ (s : State) (rail : Fin 5) (high : Bool),
      ∃ t, exec (.railPowerGoodChange rail high) s = .next t
        ∧ (s.onlyChanges t [.fregs, .clk, .submit, .events, .host, .cmds, .sup, .mode, .boot, .sleep, .gens, .pix, .safe, .aon, .ports, .seg, .therm, .twin, .test, .free] ([R.BOOT_FW_SEC_SEC_A, R.BOOT_FW_SEC_SEC_B, R.BOOT_FW_SEC_VALID_A, R.BOOT_FW_SEC_VALID_B, R.BOOT_FW_VER_A_VERSION, R.BOOT_FW_VER_B_VERSION, R.BOOT_LC_STATUS_LOCKED, R.BOOT_LC_STATUS_LOCK_S, R.BOOT_STATUS_FALLBACK, R.BOOT_STATUS_LAMP_SIDE, R.BOOT_STATUS_LC, R.BOOT_STATUS_ROLLBACK, R.BOOT_STATUS_SLOT, R.BOOT_STATUS_SVC_KEY, R.BOOT_STATUS_TRIAL_PENDING, R.BOOT_STATUS_XSPI_SAFE, R.BOOT_STATUS_XSPI_SLOW, R.PWR_DOM_STATUS_MEM_RET, R.PWR_DOM_STATUS_ON, R.PWR_DOM_STATUS_TLA_LIMP, R.PWR_MODE_BUSY, R.PWR_MODE_CAUSE, R.PWR_MODE_MODE, R.PWR_MODE_TARGET, R.PWR_RESET_CAUSE, R.PWR_SUPPLY_STATUS_LIMP_SUPPLY, R.SAFE_FAULT_ACT_HI_ACTIVE, R.SAFE_FAULT_ACT_LO_ACTIVE, R.SAFE_FAULT_FIRST_CODE, R.SAFE_FAULT_FIRST_INSTANCE, R.SAFE_FAULT_LAST_CODE, R.SAFE_FAULT_LAST_INSTANCE, R.SAFE_INPUTS_RAW, R.SAFE_TILE_HELD_PORTS, R.PWR_RAIL_STAT_ERR rail, R.PWR_RAIL_STAT_FAILS rail, R.PWR_RAIL_STAT_PG rail] ++ eventFields ++ idleFields ++ totFields ++ headFields ++ [R.HOST_STATUS_CPL_STALL] ++ (each 4 fun i => [R.BOOT_DEV_ID_ID i, R.SAFE_PROFILE_EXCESS_RUN i]) ++ (each 5 fun i => [R.PWR_RAIL_STAT_EN i])) [3, 4, 5, 6, 7, 8, 10, 11, 12, 13]))
  ∧ (∀ (s : State) (rail : Fin 5),
      ∃ t, exec (.railPgTimeout rail) s = .next t
        ∧ (s.onlyChanges t [.fregs, .clk, .submit, .events, .host, .cmds, .sup, .mode, .boot, .sleep, .gens, .pix, .safe, .aon, .ports, .seg, .therm, .twin, .test, .free] ([R.BOOT_FW_SEC_SEC_A, R.BOOT_FW_SEC_SEC_B, R.BOOT_FW_SEC_VALID_A, R.BOOT_FW_SEC_VALID_B, R.BOOT_FW_VER_A_VERSION, R.BOOT_FW_VER_B_VERSION, R.BOOT_LC_STATUS_LOCKED, R.BOOT_LC_STATUS_LOCK_S, R.BOOT_STATUS_FALLBACK, R.BOOT_STATUS_LAMP_SIDE, R.BOOT_STATUS_LC, R.BOOT_STATUS_ROLLBACK, R.BOOT_STATUS_SLOT, R.BOOT_STATUS_SVC_KEY, R.BOOT_STATUS_TRIAL_PENDING, R.BOOT_STATUS_XSPI_SAFE, R.BOOT_STATUS_XSPI_SLOW, R.PWR_DOM_STATUS_MEM_RET, R.PWR_DOM_STATUS_ON, R.PWR_DOM_STATUS_TLA_LIMP, R.PWR_MODE_BUSY, R.PWR_MODE_CAUSE, R.PWR_MODE_MODE, R.PWR_MODE_TARGET, R.PWR_RESET_CAUSE, R.PWR_SUPPLY_STATUS_LIMP_SUPPLY, R.SAFE_FAULT_ACT_HI_ACTIVE, R.SAFE_FAULT_ACT_LO_ACTIVE, R.SAFE_FAULT_FIRST_CODE, R.SAFE_FAULT_FIRST_INSTANCE, R.SAFE_FAULT_LAST_CODE, R.SAFE_FAULT_LAST_INSTANCE, R.SAFE_INPUTS_RAW, R.SAFE_TILE_HELD_PORTS, R.PWR_RAIL_STAT_ERR rail, R.PWR_RAIL_STAT_FAILS rail] ++ eventFields ++ idleFields ++ totFields ++ headFields ++ [R.HOST_STATUS_CPL_STALL] ++ (each 4 fun i => [R.BOOT_DEV_ID_ID i, R.SAFE_PROFILE_EXCESS_RUN i]) ++ (each 5 fun i => [R.PWR_RAIL_STAT_EN i])) [3, 4, 5, 6, 7, 8, 10, 11, 12, 13]))
  ∧ (∀ (s : State) (rail : Fin 5),
      ∃ t, exec (.railRetryTimeout rail) s = .next t
        ∧ s.onlyChanges t [.host, .sup] [R.PWR_RAIL_STAT_EN rail])
  ∧ (∀ (s : State),
      ∃ t, exec (.railRecoveryRetry) s = .next t
        ∧ (s.onlyChanges t (reactParts ++ [.boot, .pix, .therm, .test]) ([R.BOOT_FW_SEC_SEC_A, R.BOOT_FW_SEC_SEC_B, R.BOOT_FW_SEC_VALID_A, R.BOOT_FW_SEC_VALID_B, R.BOOT_FW_VER_A_VERSION, R.BOOT_FW_VER_B_VERSION, R.BOOT_LC_STATUS_LOCKED, R.BOOT_LC_STATUS_LOCK_S, R.BOOT_STATUS_FALLBACK, R.BOOT_STATUS_LAMP_SIDE, R.BOOT_STATUS_LC, R.BOOT_STATUS_ROLLBACK, R.BOOT_STATUS_SLOT, R.BOOT_STATUS_SVC_KEY, R.BOOT_STATUS_TRIAL_PENDING, R.BOOT_STATUS_XSPI_SAFE, R.BOOT_STATUS_XSPI_SLOW, R.MEM_STATUS_READY, R.MEM_STATUS_SCRUBBING, R.PWR_DOM_STATUS_ON, R.PWR_DOM_STATUS_TLA_LIMP, R.PWR_RESET_CAUSE, R.SAFE_INPUTS_RAW, R.SAFE_TILE_HELD_PORTS, R.SEG_STATUS_CLK_FREE, R.SEG_STATUS_TICK_FREE, R.TEST_STATUS_ENG_ALLOWED, R.THERM_STATUS_CAL_BUSY, R.THERM_STATUS_CAL_PENDING, R.THERM_STATUS_SHUTDOWN] ++ reactFields ++ (each 4 fun i => [R.BOOT_DEV_ID_ID i, R.TG_STATUS_HOLDOVER i]) ++ (each 24 fun i => [R.PIX_HLT_PORT_STAT_DEFECTS i, R.PIX_HLT_PORT_STAT_TILE_HELD i, R.TILE_LANE_STATUS_ALERT i]))))
  ∧ (∀ (s : State) (ok : Bool) (data : Nat) (pec : Fin 256),
      ∃ t, exec (.pmbusTransactionDone ok data pec) s = .next t
        ∧ (s.onlyChanges t [.fregs, .submit, .events, .host, .cmds, .sup, .mode, .boot, .pix, .safe, .aon, .ports, .seg, .therm, .twin, .test, .free] ([R.BOOT_FW_SEC_SEC_A, R.BOOT_FW_SEC_SEC_B, R.BOOT_FW_SEC_VALID_A, R.BOOT_FW_SEC_VALID_B, R.BOOT_FW_VER_A_VERSION, R.BOOT_FW_VER_B_VERSION, R.BOOT_LC_STATUS_LOCKED, R.BOOT_LC_STATUS_LOCK_S, R.BOOT_STATUS_FALLBACK, R.BOOT_STATUS_LAMP_SIDE, R.BOOT_STATUS_LC, R.BOOT_STATUS_ROLLBACK, R.BOOT_STATUS_SLOT, R.BOOT_STATUS_SVC_KEY, R.BOOT_STATUS_TRIAL_PENDING, R.BOOT_STATUS_XSPI_SAFE, R.BOOT_STATUS_XSPI_SLOW, R.PWR_DOM_STATUS_ON, R.PWR_DOM_STATUS_TLA_LIMP, R.PWR_MODE_BUSY, R.PWR_MODE_CAUSE, R.PWR_MODE_MODE, R.PWR_MODE_TARGET, R.PWR_RESET_CAUSE, R.PWR_SUPPLY_STATUS_LIMP_SUPPLY, R.SAFE_FAULT_ACT_HI_ACTIVE, R.SAFE_FAULT_ACT_LO_ACTIVE, R.SAFE_FAULT_FIRST_CODE, R.SAFE_FAULT_FIRST_INSTANCE, R.SAFE_FAULT_LAST_CODE, R.SAFE_FAULT_LAST_INSTANCE, R.SAFE_INPUTS_RAW, R.SAFE_TILE_HELD_PORTS] ++ eventFields ++ idleFields ++ totFields ++ headFields ++ [R.HOST_STATUS_CPL_STALL] ++ (each 4 fun i => [R.BOOT_DEV_ID_ID i]) ++ (each 5 fun i => [R.PWR_RAIL_STAT_EN i, R.PWR_RAIL_STAT_ERR i, R.PWR_RAIL_STAT_FAILS i, R.PWR_RAIL_STAT_STATUS_WORD i, R.PWR_RAIL_VOUT_READ_MV i])) [3, 4, 5, 6, 7, 8, 10, 11, 12, 13]))
  ∧ (∀ (s : State),
      ∃ t, exec (.railStatusPoll) s = .next t
        ∧ s.onlyChanges t [.host, .sup] [])
  ∧ (∀ (s : State) (value : Fin 8),
      ∃ t, exec (.domainOffRequest value) s = .next t
        ∧ (s.onlyChanges t [.fregs, .clk, .pins, .submit, .events, .host, .cmds, .sup, .mode, .flash, .gens, .pix, .safe, .aon, .ports, .parkPats, .seg, .therm, .net, .twin, .test, .free] ([R.PWR_DOM_REQ_NET_OFF, R.PWR_DOM_REQ_TLB_OFF, R.PWR_DOM_REQ_TWIN_OFF, R.PWR_DOM_STATUS_ON, R.PWR_DOM_STATUS_REFUSED, R.PWR_MODE_BUSY, R.PWR_MODE_CAUSE, R.PWR_MODE_MODE, R.PWR_MODE_TARGET, R.PWR_SUPPLY_STATUS_LIMP_SUPPLY] ++ idleFields ++ (each 5 fun i => [R.PWR_RAIL_STAT_EN i])) [0, 1, 3, 4, 5, 6, 7, 8, 9, 10, 11, 12, 13, 14, 16, 17]))
  ∧ (∀ (s : State) (ring : Fin 4),
      ∃ t, exec (.mode ring) s = .next t
        ∧ (s.onlyChanges t [.fregs, .clk, .pins, .submit, .events, .host, .cmds, .sup, .mode, .flash, .sleep, .gens, .pix, .safe, .aon, .ports, .parkPats, .seg, .therm, .net, .twin, .test, .free] ([R.PWR_DOM_STATUS_ON, R.PWR_MODE_BUSY, R.PWR_MODE_CAUSE, R.PWR_MODE_MODE, R.PWR_MODE_PARK_SKIPPED, R.PWR_MODE_TARGET] ++ idleFields ++ (each 5 fun i => [R.PWR_RAIL_STAT_EN i])) [0, 1, 3, 4, 5, 6, 7, 8, 9, 10, 11, 12, 13, 14, 16, 17]))
  ∧ (∀ (s : State),
      ∃ t, exec (.blank) s = .next t
        ∧ s.onlyChanges t (reactParts) (reactFields))
  ∧ (∀ (s : State),
      ∃ t, exec (.unblank) s = .next t
        ∧ (s.onlyChanges t [.submit, .events, .host, .safe, .ports, .seg, .twin, .free] ([R.SAFE_FAULT_ACT_HI_ACTIVE, R.SAFE_FAULT_ACT_LO_ACTIVE, R.SEG_STATUS_OFF_TOT, R.TWIN_STATUS_LINKS] ++ eventFields ++ totFields ++ headFields ++ [R.HOST_STATUS_CPL_STALL] ++ (each 2 fun i => [R.TWIN_LANE_STATUS_STATE i]) ++ (each 24 fun i => [R.TILE_LANE_STATUS_STATE i, R.TILE_LANE_STATUS_UP_IDLE i, R.TILE_PRBS_BITS_COUNT i, R.TILE_PRBS_ERR_LOCAL_COUNT i, R.TILE_PRBS_STAT_RESYNC i, R.TILE_PRBS_STAT_RUNNING i, R.TILE_PRBS_STAT_SYNC i, R.TILE_PROTO_STATUS_TOTALITY_TX i, R.TILE_SEQ_DN_NEXT i]))))
  ∧ (∀ (s : State) (units : List (Nat × Nat)) (lanes : List Nat) (safeFail : Bool) (otherFail : Bool) (durUs : Nat) (repairs : Nat) (rows : Nat) (cols : Nat),
      ∃ t, exec (.modeTransitionComplete units lanes safeFail otherFail durUs repairs rows cols) s = .next t
        ∧ (s.onlyChanges t [.fregs, .clk, .pins, .submit, .events, .host, .cmds, .sup, .mode, .flash, .boot, .sleep, .gens, .pix, .safe, .aon, .ports, .parkPats, .seg, .therm, .net, .twin, .test, .free] ([R.PWR_DOM_STATUS_MEM_RET, R.PWR_DOM_STATUS_ON, R.PWR_DOM_STATUS_TLA_LIMP, R.PWR_MODE_BUSY, R.PWR_MODE_CAUSE, R.PWR_MODE_MODE, R.PWR_MODE_TARGET, R.PWR_RESET_CAUSE, R.PWR_RESET_POST_SAFE_FAIL, R.PWR_RESET_STUCK_RESET, R.PWR_SUPPLY_STATUS_LIMP_SUPPLY, R.PWR_SUPPLY_STATUS_RIDING, R.PWR_WAKE_CAUSE_HOST_WAKE, R.PWR_WAKE_CAUSE_REPLAYED, R.PWR_WAKE_LATCH_ACTION, R.PWR_WAKE_LATCH_DISCARDED, R.PWR_WAKE_LATCH_RULES] ++ idleFields ++ (each 5 fun i => [R.PWR_RAIL_STAT_EN i])) [0, 1, 3, 4, 5, 6, 7, 8, 9, 10, 11, 12, 13, 14, 16, 17]))
  ∧ (∀ (s : State),
      ∃ t, exec (.idleTimerExpiry) s = .next t
        ∧ (s.onlyChanges t [.fregs, .clk, .pins, .submit, .events, .host, .cmds, .sup, .mode, .flash, .sleep, .gens, .pix, .safe, .aon, .ports, .parkPats, .seg, .therm, .net, .twin, .test, .free] ([R.PWR_DOM_STATUS_ON, R.PWR_MODE_BUSY, R.PWR_MODE_TARGET] ++ idleFields ++ (each 5 fun i => [R.PWR_RAIL_STAT_EN i])) [0, 1, 3, 4, 5, 6, 7, 8, 9, 10, 11, 12, 13, 14, 16, 17]))
  ∧ (∀ (s : State),
      ∃ t, exec (.lreqOffExpiry) s = .next t
        ∧ s.onlyChanges t [.host, .mode] ([R.PWR_MODE_BUSY, R.PWR_MODE_TARGET] ++ idleFields))
  ∧ (∀ (s : State),
      ∃ t, exec (.nosurfCheck) s = .next t
        ∧ s.onlyChanges t (reactParts) (reactFields))
  ∧ (∀ (s : State) (pins : Nat) (wakeMv : Nat) (twinPeer : Bool) (vinMain : Nat) (vinBkup : Nat) (temp : Int),
      ∃ t, exec (.tarnSample pins wakeMv twinPeer vinMain vinBkup temp) s = .next t
        ∧ (s.onlyChanges t [.fregs, .clk, .submit, .events, .host, .cmds, .sup, .mode, .boot, .sleep, .gens, .pix, .safe, .aon, .ports, .seg, .therm, .twin, .test, .free] ([R.PWR_DOM_STATUS_MEM_RET, R.PWR_DOM_STATUS_ON, R.PWR_DOM_STATUS_TLA_LIMP, R.PWR_MODE_BUSY, R.PWR_MODE_CAUSE, R.PWR_MODE_CFG_IDLE_S, R.PWR_MODE_CFG_LREQ_GATE, R.PWR_MODE_MODE, R.PWR_MODE_TARGET, R.PWR_RESET_CAUSE, R.PWR_SUPPLY_STATUS_LIMP_SUPPLY, R.PWR_SUPPLY_STATUS_MAIN_LOST, R.PWR_TARN_AIN_A_VIN_BKUP, R.PWR_TARN_AIN_A_VIN_MAIN, R.PWR_TARN_AIN_B_TEMP, R.PWR_TARN_IN_VALUE, R.PWR_TARN_TIMER_REMAIN_S, R.PWR_TARN_TIMER_TIMER_S, R.PWR_VIN_BKUP_MV, R.PWR_VIN_MAIN_MV, R.PWR_WAKE_CAUSE_HOST_WAKE, R.PWR_WAKE_CAUSE_REPLAYED, R.PWR_WAKE_CAUSE_RULES, R.PWR_WAKE_LATCH_ACTION, R.PWR_WAKE_LATCH_DISCARDED, R.PWR_WAKE_LATCH_RULES] ++ idleFields ++ (each 5 fun i => [R.PWR_RAIL_STAT_EN i]) ++ (each 16 fun i => [R.PWR_RULE_COUNT_COUNT i])) [0, 1, 3, 4, 5, 6, 7, 8, 9, 10, 11, 12, 13, 14]))
  ∧ (∀ (s : State),
      ∃ t, exec (.tarnTimerExpiry) s = .next t
        ∧ s.onlyChanges t [.host, .mode] [R.PWR_TARN_TIMER_REMAIN_S])
  ∧ (∀ (s : State),
      ∃ t, exec (.hostWakeRelease) s = .next t
        ∧ s.onlyChanges t [.events, .host, .mode] (eventFields ++ offFields ++ idleFields))
  ∧ (∀ (s : State),
      ∃ t, exec (.xtal32Absence) s = .next t
        ∧ s.onlyChanges t [.host, .aon] [])

/-- What the commands of the safe functions leave unchanged: the parts and fields that each may change. Commands that it says complete: safeSample, discrepancyFault, blankAssert, blankRelease, k280Repeat, lockstepMismatchControl, lockstepMismatchSafety, limpSwapEdge, limpPatternResend, keepaliveTimer, safetyPairCheckDone, excessRunLimit, tileRelease. -/
def Obligations.FrameSafety : Prop :=
  (∀ (s : State) (pins : Fin 16),
      ∃ t, exec (.safeSample pins) s = .next t
        ∧ (s.onlyChanges t [.fregs, .clk, .pins, .submit, .events, .host, .cmds, .sup, .mode, .boot, .sleep, .gens, .pix, .safe, .aon, .ports, .seg, .therm, .twin, .test, .free] ([R.PWR_DOM_STATUS_MEM_RET, R.PWR_DOM_STATUS_ON, R.PWR_DOM_STATUS_TLA_LIMP, R.PWR_MODE_BUSY, R.PWR_MODE_CAUSE, R.PWR_MODE_MODE, R.PWR_MODE_TARGET, R.PWR_RESET_CAUSE, R.PWR_SUPPLY_STATUS_LIMP_SUPPLY] ++ idleFields ++ (each 5 fun i => [R.PWR_RAIL_STAT_EN i])) [0, 1, 3, 4, 5, 6, 7, 8, 9, 10, 11, 12, 13, 14, 16, 17]))
  ∧ (∀ (s : State) (blank : Bool),
      ∃ t, exec (.discrepancyFault blank) s = .next t
        ∧ s.onlyChanges t (reactParts) ([R.SAFE_DISC_BLANK_CNT, R.SAFE_DISC_LREQ_CNT] ++ reactFields))
  ∧ (∀ (s : State) (b : Bool),
      ∃ t, exec (.blankAssert b) s = .next t
        ∧ s.onlyChanges t (reactParts ++ [.pins]) ([R.SAFE_INPUTS_RAW] ++ reactFields))
  ∧ (∀ (s : State),
      ∃ t, exec (.blankRelease) s = .next t
        ∧ (s.onlyChanges t [.events, .host, .ports, .seg, .twin, .free] ([R.SAFE_FAULT_ACT_HI_ACTIVE, R.SAFE_FAULT_ACT_LO_ACTIVE, R.SEG_STATUS_OFF_TOT, R.TWIN_STATUS_LINKS] ++ eventFields ++ totFields ++ (each 2 fun i => [R.TWIN_LANE_STATUS_STATE i]) ++ (each 24 fun i => [R.TILE_LANE_STATUS_STATE i, R.TILE_LANE_STATUS_UP_IDLE i, R.TILE_PRBS_BITS_COUNT i, R.TILE_PRBS_ERR_LOCAL_COUNT i, R.TILE_PRBS_STAT_RESYNC i, R.TILE_PRBS_STAT_RUNNING i, R.TILE_PRBS_STAT_SYNC i, R.TILE_PROTO_STATUS_TOTALITY_TX i, R.TILE_SEQ_DN_NEXT i]))))
  ∧ (∀ (s : State) (port : Fin 24),
      ∃ t, exec (.k280Repeat port) s = .next t
        ∧ s.onlyChanges t [.host, .ports, .twin] [])
  ∧ (∀ (s : State),
      ∃ t, exec (.lockstepMismatchControl) s = .next t
        ∧ s.onlyChanges t (reactParts) (reactFields))
  ∧ (∀ (s : State),
      ∃ t, exec (.lockstepMismatchSafety) s = .next t
        ∧ s.onlyChanges t (reactParts) (reactFields))
  ∧ (∀ (s : State),
      ∃ t, exec (.limpSwapEdge) s = .next t
        ∧ (s.onlyChanges t [.pins, .host, .pix, .safe, .ports, .twin] ((each 24 fun i => [R.TILE_LANE_STATUS_STATE i, R.TILE_SEQ_DN_NEXT i]))))
  ∧ (∀ (s : State),
      ∃ t, exec (.limpPatternResend) s = .next t
        ∧ (s.onlyChanges t [.pins, .host, .pix, .ports, .twin] ((each 24 fun i => [R.TILE_LANE_STATUS_STATE i, R.TILE_SEQ_DN_NEXT i]))))
  ∧ (∀ (s : State) (port : Fin 24),
      ∃ t, exec (.keepaliveTimer port) s = .next t
        ∧ s.onlyChanges t [.host, .ports, .twin] [R.TILE_LANE_STATUS_STATE port, R.TILE_SEQ_DN_NEXT port])
  ∧ (∀ (s : State) (surf : Fin 4) (sums : List (Nat × Nat)) (codes : List (Nat × Nat)) (off : Option (Int × Int)),
      ∃ t, exec (.safetyPairCheckDone surf sums codes off) s = .next t
        ∧ (s.onlyChanges t (reactParts ++ [.pix]) (reactFields ++ (each 24 fun i => [R.PIX_HLT_PORT_PROBE_PEAK_PC i]))))
  ∧ (∀ (s : State) (surf : Fin 4),
      ∃ t, exec (.excessRunLimit surf) s = .next t
        ∧ s.onlyChanges t (reactParts) (reactFields))
  ∧ (∀ (s : State) (ports : Nat),
      ∃ t, exec (.tileRelease ports) s = .next t
        ∧ (s.onlyChanges t [.events, .host, .mode, .safe] ([R.SAFE_FAULT_ACT_HI_ACTIVE, R.SAFE_FAULT_ACT_LO_ACTIVE, R.SAFE_TILE_HELD_PORTS] ++ eventFields ++ offFields ++ idleFields ++ refuseFields ++ (each 24 fun i => [R.PIX_HLT_PORT_STAT_TILE_HELD i]))))

/-- What the ticks and events of a surface leave unchanged: the parts and fields that each may change. Commands that it says complete: fTick, sTick, pTick, productionWindowOpen, latchPoint, gIntervalStart, tileSyncRise, tileSyncFall, laneTick, noSurfaceTick, tickOutPulseEnd, tgEnable, tgDisable, hostSilenceLimp, compositionComplete, layerSafeLimit. -/
def Obligations.FrameTicks : Prop :=
  (∀ (s : State) (surf : Fin 4),
      s.alone →
      ∃ t, exec (.fTick surf) s = .next t
        ∧ (s.onlyChanges t [.fregs, .clk, .ticks, .pins, .submit, .events, .host, .cmds, .mode, .gens, .pix, .safe, .ports, .parkPats, .twin] ([R.HOST_SILENCE_CNT_COUNT, R.PIX_COMP_STATUS_BUSY, R.PIX_COMP_STATUS_SLOTS_USED, R.PIX_COMP_STATUS_SURF, R.PIX_OUT_CTRL_DITHER_EN, R.PIX_SHADE_CTRL_SURF_EN, R.PIX_SIG_ACTIVE_ACTIVE, R.PWR_MODE_BUSY, R.PWR_MODE_PARK_SKIPPED, R.PWR_MODE_TARGET, R.SAFE_FAULT_ACT_HI_ACTIVE, R.SAFE_FAULT_ACT_LO_ACTIVE, R.TIME_INC_HI_NS, R.TIME_INC_LO_FRAC, R.TIME_STATUS_SLEWING, R.SAFE_PROFILE_EXCESS_RUN surf, R.SAFE_PROFILE_RETURNING surf, R.TG_CTRL_ENABLE surf, R.TG_FRAME_FRAME_NUM surf, R.TG_STATUS_RETIME_ACTIVE surf, R.TG_STATUS_RUNNING surf, R.TIME_EPH_QUEUED surf] ++ headFields ++ [R.HOST_STATUS_CPL_STALL] ++ (each 2 fun i => [R.PIX_SCALER_ACTIVE_BANK i, R.PIX_SCALER_ARMED i, R.PIX_SCALER_IN_USE i, R.PIX_SCALER_OWNER i, R.TWIN_LANE_STATUS_STATE i]) ++ (each 4 fun i => [R.PIX_DERATE_A_EN i, R.PIX_DERATE_A_FLOOR i, R.PIX_DERATE_A_START i, R.PIX_DERATE_B_RISE i, R.PIX_DERATE_B_SLOPE i, R.PIX_FILL_EN i, R.PIX_FILL_MAX_ADD i, R.PIX_FILL_SHARE i, R.TG_GRID_OFFSET_NS i, R.TG_GUARD_G_US i, R.TG_GUARD_PC_STEPS i, R.TG_GUARD_STAGGER_SPAN i, R.TG_LEAD_LEAD_US i, R.TG_RATE_FRAME_HZ i, R.TG_RATE_SCANS_LOG2 i, R.TG_STATUS_COMPOSING i, R.TG_STATUS_RETIME_PENDING i, R.THERM_SCALE_SCALE i, R.TIME_EPH_CNT_CANCELLED i]) ++ (each 24 fun i => [R.PIX_HLT_PORT_STAT_BASE_LOADED i, R.PIX_HLT_PORT_STAT_DEFECTS i, R.TILE_LANE_STATUS_STATE i, R.TILE_SEQ_DN_NEXT i]))))
  ∧ (∀ (s : State) (surf : Fin 4),
      ∃ t, exec (.fTick surf) s = .next t
        ∧ (s.onlyChanges t (alignParts ++ [.fregs, .clk, .ticks, .pins]) ([R.PIX_OUT_CTRL_DITHER_EN, R.PIX_SHADE_CTRL_SURF_EN, R.PWR_MODE_BUSY, R.PWR_MODE_PARK_SKIPPED, R.PWR_MODE_TARGET, R.TIME_INC_HI_NS, R.TIME_INC_LO_FRAC, R.TIME_STATUS_SLEWING, R.TG_FRAME_FRAME_NUM surf] ++ alignFields ++ (each 2 fun i => [R.PIX_SCALER_ACTIVE_BANK i]) ++ (each 4 fun i => [R.PIX_DERATE_A_EN i, R.PIX_DERATE_A_FLOOR i, R.PIX_DERATE_A_START i, R.PIX_DERATE_B_RISE i, R.PIX_DERATE_B_SLOPE i, R.PIX_FILL_EN i, R.PIX_FILL_MAX_ADD i, R.PIX_FILL_SHARE i, R.THERM_SCALE_SCALE i]))))
  ∧ (∀ (s : State) (surf : Fin 4) (errs : List Word),
      s.alone →
      ∃ t, exec (.sTick surf errs) s = .next t
        ∧ (s.onlyChanges t [.clk, .ticks, .pins, .submit, .events, .host, .gens, .pix, .safe, .ports, .twin, .test, .free] ([R.PIX_LANE_STATUS_OFFLINE, R.PIX_LANE_STATUS_RETIRED, R.PIX_LANE_STATUS_ROTATING, R.PIX_OUT_COUNT_TEMP_FALLBACK, R.SAFE_FAULT_ACT_HI_ACTIVE, R.SAFE_FAULT_ACT_LO_ACTIVE, R.TEST_LANE_CNT_TESTS, R.TIME_INC_HI_NS, R.TIME_INC_LO_FRAC, R.TIME_STATUS_SLEWING, R.TWIN_CNT_D_HEALTH_DIFF, R.TWIN_STATUS_LINKS] ++ eventFields ++ headFields ++ (each 2 fun i => [R.TWIN_LANE_STATUS_STATE i]) ++ (each 4 fun i => [R.PIX_AIM_RATE_H i, R.PIX_AIM_RATE_V i, R.PIX_AIM_TARGET_H i, R.PIX_AIM_TARGET_V i, R.TG_GRID_OFFSET_NS i, R.TG_GUARD_G_US i, R.TG_GUARD_PC_STEPS i, R.TG_GUARD_STAGGER_SPAN i, R.TG_LEAD_LEAD_US i, R.TG_RATE_FRAME_HZ i, R.TG_RATE_SCANS_LOG2 i]) ++ (each 24 fun i => [R.PIX_HLT_PORT_STAT_BASE_LOADED i, R.PIX_HLT_PORT_STAT_DEFECTS i, R.TILE_EPOCH_CLAIMED i, R.TILE_LANE_STATUS_DN_RATE i, R.TILE_LANE_STATUS_STATE i, R.TILE_LANE_STATUS_UP_IDLE i, R.TILE_LANE_STATUS_UP_RATE i, R.TILE_PRBS_BITS_COUNT i, R.TILE_PRBS_ERR_LOCAL_COUNT i, R.TILE_PRBS_STAT_RESYNC i, R.TILE_PRBS_STAT_RUNNING i, R.TILE_PRBS_STAT_SYNC i, R.TILE_PROTO_STATUS_TOTALITY_TX i, R.TILE_SEQ_DN_NEXT i, R.TILE_TIME_MEAS_DN_NS i]))))
  ∧ (∀ (s : State) (surf : Fin 4) (errs : List Word),
      ∃ t, exec (.sTick surf errs) s = .next t
        ∧ (s.onlyChanges t (alignParts ++ [.clk, .ticks, .pins, .test]) ([R.PIX_LANE_STATUS_OFFLINE, R.PIX_LANE_STATUS_RETIRED, R.PIX_LANE_STATUS_ROTATING, R.TEST_LANE_CNT_TESTS, R.TIME_INC_HI_NS, R.TIME_INC_LO_FRAC, R.TIME_STATUS_SLEWING, R.TWIN_CNT_D_HEALTH_DIFF] ++ alignFields ++ (each 4 fun i => [R.PIX_AIM_RATE_H i, R.PIX_AIM_RATE_V i, R.PIX_AIM_TARGET_H i, R.PIX_AIM_TARGET_V i]) ++ (each 24 fun i => [R.TILE_EPOCH_CLAIMED i, R.TILE_LANE_STATUS_DN_RATE i, R.TILE_LANE_STATUS_UP_RATE i, R.TILE_TIME_MEAS_DN_NS i]))))
  ∧ (∀ (s : State) (surf : Fin 4),
      ∃ t, exec (.pTick surf) s = .next t
        ∧ (s.onlyChanges t [.clk, .ticks, .pins, .host, .gens, .ports, .twin] ([R.TIME_INC_HI_NS, R.TIME_INC_LO_FRAC, R.TIME_STATUS_SLEWING] ++ (each 2 fun i => [R.TWIN_LANE_STATUS_STATE i]) ++ (each 24 fun i => [R.TILE_LANE_STATUS_STATE i, R.TILE_SEQ_DN_NEXT i]))))
  ∧ (∀ (s : State) (surf : Fin 4) (phase : Fin 8),
      s.alone →
      ∃ t, exec (.productionWindowOpen surf phase) s = .next t
        ∧ (s.onlyChanges t (reactParts ++ [.fregs, .gens, .pix]) ([R.PIX_ESIG_VALID_VALID, R.PIX_HLT_COUNT_B_RESAMPLES, R.PIX_HLT_COUNT_C_QUEUE_DROP, R.PIX_OUT_CTRL_DITHER_EN, R.PIX_SHADE_CTRL_SURF_EN, R.PIX_SHADE_STALE_HI_STALE, R.PIX_SHADE_STALE_LO_STALE, R.PIX_SHADE_USED_HI_USED, R.PIX_SHADE_USED_LO_USED, R.SAFE_SPILL_COUNT_EXCESS, R.PIX_AIM_APPLIED_H surf, R.PIX_AIM_APPLIED_V surf, R.PIX_AIM_RATE_V surf, R.PIX_AIM_TARGET_V surf, R.SAFE_PROFILE_EXCESS_RUN surf, R.SAFE_PROFILE_PROFILE surf, R.SAFE_PROFILE_RETURNING surf, R.SAFE_TOTAL_EST_EST surf] ++ reactFields ++ (each 4 fun i => [R.PIX_AIM_RATE_H i, R.PIX_AIM_TARGET_H i, R.TG_COUNT_COMPOSE_OVERRUN i]) ++ (each 24 fun i => [R.PIX_HLT_PORT_PROBE_DEFERRED i]) ++ (each 32 fun i => [R.PIX_ESIG_SIGNATURE i]))))
  ∧ (∀ (s : State) (surf : Fin 4) (phase : Fin 8),
      ∃ t, exec (.productionWindowOpen surf phase) s = .next t
        ∧ (s.onlyChanges t (alignParts ++ [.fregs, .sup, .aon, .seg]) ([R.PIX_ESIG_VALID_VALID, R.PIX_HLT_COUNT_B_RESAMPLES, R.PIX_HLT_COUNT_C_QUEUE_DROP, R.PIX_OUT_CTRL_DITHER_EN, R.PIX_SHADE_CTRL_SURF_EN, R.PWR_MODE_BUSY, R.PWR_MODE_CAUSE, R.PWR_MODE_MODE, R.PWR_MODE_TARGET, R.PWR_SUPPLY_STATUS_LIMP_SUPPLY, R.SAFE_FAULT_FIRST_CODE, R.SAFE_FAULT_FIRST_INSTANCE, R.SAFE_FAULT_LAST_CODE, R.SAFE_FAULT_LAST_INSTANCE, R.SAFE_SPILL_COUNT_EXCESS, R.SEG_STATUS_OFF_TOT, R.TWIN_STATUS_YIELDING, R.PIX_AIM_APPLIED_H surf, R.PIX_AIM_APPLIED_V surf, R.PIX_AIM_RATE_V surf, R.PIX_AIM_TARGET_V surf, R.SAFE_PROFILE_PROFILE surf, R.SAFE_TOTAL_EST_EST surf] ++ alignFields ++ idleFields ++ totFields ++ (each 4 fun i => [R.PIX_AIM_RATE_H i, R.PIX_AIM_TARGET_H i, R.TG_COUNT_COMPOSE_OVERRUN i]) ++ (each 5 fun i => [R.PWR_RAIL_STAT_EN i]) ++ (each 24 fun i => [R.PIX_HLT_PORT_PROBE_DEFERRED i]) ++ (each 32 fun i => [R.PIX_ESIG_SIGNATURE i]))))
  ∧ (∀ (s : State) (surf : Fin 4),
      s.alone →
      ∃ t, exec (.latchPoint surf) s = .next t
        ∧ (s.onlyChanges t [.fregs, .clk, .ticks, .pins, .submit, .events, .host, .mode, .gens, .pix, .ports, .twin] ([R.HOST_SILENCE_CNT_COUNT, R.PIX_COMP_STATUS_BUSY, R.PIX_COMP_STATUS_SLOTS_USED, R.PIX_COMP_STATUS_SURF, R.TIME_INC_HI_NS, R.TIME_INC_LO_FRAC, R.TIME_STATUS_SLEWING, R.PIX_MAPSTAT_FALLBACK_LOADED surf, R.PIX_MAPSTAT_GAIN_LOADED surf] ++ eventFields ++ headFields ++ [R.HOST_STATUS_CPL_STALL] ++ (each 2 fun i => [R.PIX_SCALER_IN_USE i, R.PIX_SCALER_OWNER i, R.TWIN_LANE_STATUS_STATE i]) ++ (each 4 fun i => [R.PIX_COMP_COUNT_NOT_READY i, R.PIX_FILL_EN i, R.PIX_FILL_MAX_ADD i, R.PIX_FILL_SHARE i, R.TG_COUNT_COMPOSE_SKIPPED i, R.TG_STATUS_COMPOSING i, R.TIME_EPH_CNT_LATE i, R.TIME_EPH_CNT_REFUSED i, R.TIME_EPH_CNT_UNSYNCED i, R.TIME_EPH_QUEUED i]) ++ (each 24 fun i => [R.PIX_HLT_PORT_STAT_DEFECTS i, R.TILE_LANE_STATUS_STATE i, R.TILE_SEQ_DN_NEXT i]))))
  ∧ (∀ (s : State) (surf : Fin 4),
      ∃ t, exec (.latchPoint surf) s = .next t
        ∧ (s.onlyChanges t (alignParts ++ [.fregs, .clk, .ticks, .pins]) ([R.TIME_INC_HI_NS, R.TIME_INC_LO_FRAC, R.TIME_STATUS_SLEWING, R.PIX_MAPSTAT_FALLBACK_LOADED surf, R.PIX_MAPSTAT_GAIN_LOADED surf] ++ alignFields ++ (each 4 fun i => [R.PIX_COMP_COUNT_NOT_READY i, R.PIX_FILL_EN i, R.PIX_FILL_MAX_ADD i, R.PIX_FILL_SHARE i, R.TG_COUNT_COMPOSE_SKIPPED i, R.TIME_EPH_CNT_LATE i, R.TIME_EPH_CNT_REFUSED i, R.TIME_EPH_CNT_UNSYNCED i]))))
  ∧ (∀ (s : State) (surf : Fin 4) (upset : List Nat) (skip : Nat) (pass : Bool) (spare : Nat) (array : Nat) (safeStore : Bool) (errs : List Word),
      ∃ t, exec (.gIntervalStart surf upset skip pass spare array safeStore errs) s = .next t
        ∧ s.onlyChanges t (reactParts ++ [.test]) ([R.SAFE_SPILL_COUNT_TEST_FAIL, R.SAFE_TEST_STAT_FAIL, R.SAFE_TEST_STAT_ROW, R.TEST_CNT_A_SLICE_FAIL, R.TEST_CNT_A_SOFT_REPAIRS, R.TEST_LANE_CNT_SKIPPED, R.TEST_LANE_CNT_TESTS, R.TEST_SPARES_COLS_LEFT, R.TEST_SPARES_ROWS_LEFT, R.TEST_SWEEP_LAST_MS, R.TEST_SWEEP_SEGMENT] ++ reactFields))
  ∧ (∀ (s : State) (surf : Fin 4),
      ∃ t, exec (.tileSyncRise surf) s = .next t
        ∧ s.onlyChanges t [.pins, .host] [])
  ∧ (∀ (s : State) (surf : Fin 4),
      ∃ t, exec (.tileSyncFall surf) s = .next t
        ∧ s.onlyChanges t [.pins, .host] [])
  ∧ (∀ (s : State),
      ∃ t, exec (.laneTick) s = .next t
        ∧ (s.onlyChanges t [.host, .ports, .twin, .free] ([R.SAFE_FAULT_ACT_HI_ACTIVE, R.SAFE_FAULT_ACT_LO_ACTIVE, R.TWIN_STATUS_LINKS] ++ (each 2 fun i => [R.TWIN_LANE_STATUS_STATE i]) ++ (each 24 fun i => [R.TILE_LANE_STATUS_DN_RATE i, R.TILE_LANE_STATUS_STATE i, R.TILE_LANE_STATUS_UP_IDLE i, R.TILE_LANE_STATUS_UP_RATE i, R.TILE_PRBS_BITS_COUNT i, R.TILE_PRBS_ERR_LOCAL_COUNT i, R.TILE_PRBS_STAT_RESYNC i, R.TILE_PRBS_STAT_RUNNING i, R.TILE_PRBS_STAT_SYNC i, R.TILE_PROTO_STATUS_TOTALITY_TX i, R.TILE_SEQ_DN_NEXT i, R.TILE_TIME_MEAS_DN_NS i]))))
  ∧ (∀ (s : State) (skip : Nat) (pass : Bool) (spare : Nat) (array : Nat) (safeStore : Bool) (errs : List Word),
      ∃ t, exec (.noSurfaceTick skip pass spare array safeStore errs) s = .next t
        ∧ s.onlyChanges t (reactParts ++ [.test]) ([R.PIX_LANE_STATUS_OFFLINE, R.PIX_LANE_STATUS_RETIRED, R.PIX_LANE_STATUS_ROTATING, R.TEST_CNT_A_SLICE_FAIL, R.TEST_CNT_A_SOFT_REPAIRS, R.TEST_LANE_CNT_TESTS, R.TEST_SPARES_COLS_LEFT, R.TEST_SPARES_ROWS_LEFT, R.TEST_SWEEP_LAST_MS, R.TEST_SWEEP_SEGMENT] ++ reactFields))
  ∧ (∀ (s : State),
      ∃ t, exec (.tickOutPulseEnd) s = .next t
        ∧ (s.onlyChanges t [.clk, .ticks, .pins, .host, .ports, .twin] ([R.TIME_INC_HI_NS, R.TIME_INC_LO_FRAC, R.TIME_STATUS_SLEWING] ++ (each 2 fun i => [R.TWIN_LANE_STATUS_STATE i]) ++ (each 24 fun i => [R.TILE_LANE_STATUS_STATE i, R.TILE_SEQ_DN_NEXT i]))))
  ∧ (∀ (s : State) (surf : Fin 4),
      ∃ t, exec (.tgEnable surf) s = .next t
        ∧ (s.onlyChanges t [.events, .host, .mode, .gens, .pix, .safe, .ports, .twin, .free] ([R.PIX_OUT_COUNT_TEMP_FALLBACK, R.PIX_SIG_ACTIVE_ACTIVE, R.PIX_SIG_REFUSED_REFUSED, R.SAFE_FAULT_ACT_HI_ACTIVE, R.SAFE_FAULT_ACT_LO_ACTIVE, R.TWIN_STATUS_LINKS, R.SAFE_PROFILE_EXCESS_RUN surf, R.TG_CTRL_ENABLE surf, R.TG_STATUS_CFG_ERR surf] ++ eventFields ++ offFields ++ idleFields ++ (each 2 fun i => [R.TWIN_LANE_STATUS_STATE i]) ++ (each 24 fun i => [R.TILE_LANE_STATUS_STATE i, R.TILE_LANE_STATUS_UP_IDLE i, R.TILE_PRBS_BITS_COUNT i, R.TILE_PRBS_ERR_LOCAL_COUNT i, R.TILE_PRBS_STAT_RESYNC i, R.TILE_PRBS_STAT_RUNNING i, R.TILE_PRBS_STAT_SYNC i, R.TILE_PROTO_STATUS_PORT_REFUSED i, R.TILE_PROTO_STATUS_TOTALITY_TX i, R.TILE_SEQ_DN_NEXT i]))))
  ∧ (∀ (s : State) (surf : Fin 4),
      ∃ t, exec (.tgDisable surf) s = .next t
        ∧ (s.onlyChanges t [.submit, .events, .host, .mode, .gens, .pix, .safe] ([R.HOST_SILENCE_CNT_COUNT, R.PIX_COMP_STATUS_BUSY, R.PIX_COMP_STATUS_SLOTS_USED, R.PIX_COMP_STATUS_SURF, R.PIX_SIG_ACTIVE_ACTIVE, R.SAFE_FAULT_ACT_HI_ACTIVE, R.SAFE_FAULT_ACT_LO_ACTIVE, R.SAFE_PROFILE_EXCESS_RUN surf, R.SAFE_PROFILE_RETURNING surf, R.TG_CTRL_ENABLE surf, R.TG_STATUS_RETIME_ACTIVE surf, R.TG_STATUS_RETIME_CANCELLED surf, R.TG_STATUS_RETIME_PENDING surf, R.TIME_EPH_QUEUED surf] ++ eventFields ++ offFields ++ idleFields ++ headFields ++ [R.HOST_STATUS_CPL_STALL] ++ (each 2 fun i => [R.PIX_SCALER_IN_USE i, R.PIX_SCALER_OWNER i]) ++ (each 4 fun i => [R.TG_STATUS_COMPOSING i, R.TG_STATUS_RUNNING i, R.TIME_EPH_CNT_CANCELLED i]))))
  ∧ (∀ (s : State),
      ∃ t, exec (.hostSilenceLimp) s = .next t
        ∧ s.onlyChanges t (reactParts) ([R.HOST_STATUS_SILENCE_LIMP] ++ reactFields))
  ∧ (∀ (s : State) (durationUs : Nat),
      ∃ t, exec (.compositionComplete durationUs) s = .next t
        ∧ (s.onlyChanges t [.events, .host, .pix, .twin] ([R.PIX_COMP_STATUS_BUSY, R.PIX_COMP_STATUS_SURF, R.PIX_CSIG_VALID_VALID] ++ eventFields ++ (each 4 fun i => [R.PIX_COMP_COUNT_SIG_FAIL i, R.PIX_COMP_TIME_LAST_US i, R.PIX_COMP_TIME_MAX_US i, R.TG_STATUS_COMPOSING i]) ++ (each 32 fun i => [R.PIX_CSIG_SIGNATURE i]))))
  ∧ (∀ (s : State) (surf : Fin 4) (layer : Nat),
      ∃ t, exec (.layerSafeLimit surf layer) s = .next t
        ∧ s.onlyChanges t (reactParts) (reactFields))

/-- What the commands of the host interface leave unchanged: the parts and fields that each may change. Commands that it says complete: doorbellWrite, descriptorArrival, payloadArrival, hostReadFailure, hostSideReset, powerStateChange, busMasterDisable, ringEnable, ringDisable, ringResume, ringSkip, coalesceTimeout, clrCntWrite, timeNowRead, pcieLinkUp. -/
def Obligations.FrameHost : Prop :=
  (∀ (s : State) (page : Nat) (off : Nat) (value : Nat) (whole : Bool),
      ∃ t, exec (.doorbellWrite page off value whole) s = .next t
        ∧ (s.onlyChanges t [.submit, .events, .host, .mode] (eventFields ++ idleFields ++ headFields ++ [R.HOST_STATUS_CPL_STALL] ++ (each 7 fun i => [R.HOST_RING_COUNT_DOORBELL_INVALID i]) ++ [⟨doorbellAddr page, 0, 32⟩])))
  ∧ (∀ (s : State) (ring : Fin 4) (bytes : List Byte),
      ∃ t, exec (.descriptorArrival ring bytes) s = .next t
        ∧ s.onlyChanges t [.submit, .events, .host] ([R.HOST_RING_COUNT_DESC_REJECT ring, R.HOST_RING_STATUS_HALTED ring, R.HOST_RING_STATUS_RUNNING ring] ++ headFields ++ [R.HOST_STATUS_CPL_STALL]))
  ∧ (∀ (s : State) (ring : Fin 4) (bytes : List Byte),
      ∃ t, exec (.payloadArrival ring bytes) s = .next t
        ∧ s.onlyChanges t [.submit, .events, .host] (headFields ++ [R.HOST_STATUS_CPL_STALL]))
  ∧ (∀ (s : State) (kind : Fin 4) (ring : Fin 4) (pos : Nat) (layer : Nat) (cause : Fin 11),
      ∃ t, exec (.hostReadFailure kind ring pos layer cause) s = .next t
        ∧ (s.onlyChanges t [.submit, .events, .host, .cmds, .flash, .pix, .safe, .ports, .parkPats, .seg, .twin] ([R.MEM_RELOAD_A_FALLBACK, R.MEM_RELOAD_A_GAIN, R.MEM_RELOAD_A_PARK, R.MEM_RELOAD_BASE_PORTS, R.MEM_RELOAD_DEFECT_PORTS, R.SAFE_COMM_CONFIRM_VALUE, R.SAFE_COMM_STATUS_CONFIRMED, R.SAFE_COMM_STATUS_STAGED, R.SAFE_SPB_STAGED_VALUE] ++ headFields ++ [R.HOST_STATUS_CPL_STALL] ++ (each 7 fun i => [R.HOST_RING_COUNT_DESC_REJECT i, R.HOST_RING_STATUS_HALTED i, R.HOST_RING_STATUS_RUNNING i]) ++ (each 24 fun i => [R.PIX_HLT_PORT_STAT_BASE_LOADED i, R.PIX_HLT_PORT_STAT_DEFECTS i, R.TILE_LANE_STATUS_STATE i, R.TILE_SEQ_DN_NEXT i]))))
  ∧ (∀ (s : State) (kind : Fin 4),
      ∃ t, exec (.hostSideReset kind) s = .next t
        ∧ (s.onlyChanges t [.fregs, .submit, .events, .host, .cmds, .pix] ((each 4 fun i => [R.TIME_EPH_CNT_CANCELLED i, R.TIME_EPH_QUEUED i])) [1, 16, 17]))
  ∧ (∀ (s : State) (d3 : Bool),
      ∃ t, exec (.powerStateChange d3) s = .next t
        ∧ s.onlyChanges t [.submit, .events, .host] ([R.HOST_STATUS_D3] ++ eventFields ++ headFields ++ [R.HOST_STATUS_CPL_STALL]))
  ∧ (∀ (s : State) (enable : Bool) (memSpace : Bool) (msixEnable : Bool) (funcMask : Bool) (ecrcGen : Bool) (ecrcCheck : Bool) (mrrs : Fin 6) (mps : Fin 6) (timeout : Fin 16) (aspm : Fin 4),
      ∃ t, exec (.busMasterDisable enable memSpace msixEnable funcMask ecrcGen ecrcCheck mrrs mps timeout aspm) s = .next t
        ∧ s.onlyChanges t [.submit, .events, .host, .pix] (eventFields ++ headFields ++ [R.HOST_STATUS_CPL_STALL]))
  ∧ (∀ (s : State) (ring : Fin 7),
      ∃ t, exec (.ringEnable ring) s = .next t
        ∧ s.onlyChanges t [.submit, .events, .host, .mode] ([R.HOST_RING_CTRL_ENABLE ring, R.HOST_RING_STATUS_CFG_REFUSED ring, R.HOST_RING_STATUS_HALTED ring, R.HOST_RING_STATUS_RUNNING ring] ++ eventFields ++ offFields ++ idleFields ++ headFields ++ [R.HOST_STATUS_CPL_STALL] ++ [⟨doorbellAddr ring, 0, 32⟩]))
  ∧ (∀ (s : State) (ring : Fin 7),
      ∃ t, exec (.ringDisable ring) s = .next t
        ∧ s.onlyChanges t [.submit, .events, .host, .mode] ([R.HOST_RING_CTRL_ENABLE ring, R.HOST_RING_STATUS_HALTED ring, R.HOST_RING_STATUS_RUNNING ring] ++ eventFields ++ offFields ++ idleFields ++ headFields))
  ∧ (∀ (s : State) (ring : Fin 7),
      ∃ t, exec (.ringResume ring) s = .next t
        ∧ s.onlyChanges t [.events, .host, .mode] ([R.HOST_RING_STATUS_HALTED ring, R.HOST_RING_STATUS_RUNNING ring] ++ eventFields ++ offFields ++ idleFields))
  ∧ (∀ (s : State) (ring : Fin 7),
      ∃ t, exec (.ringSkip ring) s = .next t
        ∧ s.onlyChanges t [.submit, .events, .host, .mode] ([R.HOST_RING_STATUS_HALTED ring, R.HOST_RING_STATUS_RUNNING ring] ++ eventFields ++ offFields ++ idleFields ++ headFields))
  ∧ (∀ (s : State) (ring : Fin 7),
      ∃ t, exec (.coalesceTimeout ring) s = .next t
        ∧ s.onlyChanges t [.submit, .events, .host] [])
  ∧ (∀ (s : State) (addr : Nat),
      ∃ t, exec (.clrCntWrite addr) s = .next t
        ∧ (s.onlyChanges t [.events, .host, .mode] (eventFields ++ offFields ++ idleFields ++ (match clrOf addr with | some (_, fs) => fs | none => []))))
  ∧ (∀ (s : State),
      ∃ t, exec (.timeNowRead) s = .next t
        ∧ s.onlyChanges t [.events, .host] ([R.TIME_NOW_FRAC_FRAC, R.TIME_NOW_NS_NS, R.TIME_NOW_SH_SEC, R.TIME_NOW_SL_SEC] ++ eventFields ++ offFields))
  ∧ (∀ (s : State) (speed : Fin 8) (width : Fin 8),
      ∃ t, exec (.pcieLinkUp speed width) s = .next t
        ∧ s.onlyChanges t [.host] [R.HOST_STATUS_LINK_UP, R.HOST_STATUS_SPEED, R.HOST_STATUS_WIDTH])

/-- What the commands of the submit rings leave unchanged: the parts and fields that each may change. Commands that it says complete: present, prefetchComplete, presentTimed, cancelTimed, shadeUpdate, shadeClear, aim, beamProfile, surfaceConfig, retime, scalerCoeff, segPattern, segStart, mapLoad, healthDump, spbLoad, spbCommit, fwStage, fwActivate, fence, fenceConditionMet, fenceTimeout, bulkSourceReadDone, flashWriteDone, healthDumpDone. -/
def Obligations.FrameDescriptors : Prop :=
  (∀ (s : State),
      s.alone →
      ∃ t, exec (.present) s = .next t
        ∧ (s.onlyChanges t [.fregs, .clk, .ticks, .pins, .submit, .events, .host, .mode, .gens, .pix, .ports, .twin] ([R.HOST_SILENCE_CNT_COUNT, R.PIX_COMP_STATUS_BUSY, R.PIX_COMP_STATUS_SLOTS_USED, R.PIX_COMP_STATUS_SURF, R.TIME_INC_HI_NS, R.TIME_INC_LO_FRAC, R.TIME_STATUS_SLEWING] ++ eventFields ++ idleFields ++ headFields ++ [R.HOST_STATUS_CPL_STALL] ++ (each 2 fun i => [R.PIX_SCALER_IN_USE i, R.PIX_SCALER_OWNER i, R.TWIN_LANE_STATUS_STATE i]) ++ (each 4 fun i => [R.PIX_COMP_COUNT_NOT_READY i, R.PIX_FILL_EN i, R.PIX_FILL_MAX_ADD i, R.PIX_FILL_SHARE i, R.PIX_MAPSTAT_FALLBACK_LOADED i, R.PIX_MAPSTAT_GAIN_LOADED i, R.TG_COUNT_COMPOSE_SKIPPED i, R.TG_STATUS_COMPOSING i, R.TIME_EPH_CNT_LATE i, R.TIME_EPH_CNT_REFUSED i, R.TIME_EPH_CNT_UNSYNCED i, R.TIME_EPH_QUEUED i]) ++ (each 24 fun i => [R.PIX_HLT_PORT_STAT_DEFECTS i, R.TILE_LANE_STATUS_STATE i, R.TILE_SEQ_DN_NEXT i]))))
  ∧ (∀ (s : State),
      ∃ t, exec (.present) s = .next t
        ∧ (s.onlyChanges t (alignParts ++ [.fregs, .clk, .ticks, .pins]) ([R.TIME_INC_HI_NS, R.TIME_INC_LO_FRAC, R.TIME_STATUS_SLEWING] ++ alignFields ++ idleFields ++ (each 4 fun i => [R.PIX_COMP_COUNT_NOT_READY i, R.PIX_FILL_EN i, R.PIX_FILL_MAX_ADD i, R.PIX_FILL_SHARE i, R.PIX_MAPSTAT_FALLBACK_LOADED i, R.PIX_MAPSTAT_GAIN_LOADED i, R.TG_COUNT_COMPOSE_SKIPPED i, R.TIME_EPH_CNT_LATE i, R.TIME_EPH_CNT_REFUSED i, R.TIME_EPH_CNT_UNSYNCED i]))))
  ∧ (∀ (s : State) (pos : Nat) (layer : Nat) (ok : Bool) (rows : List (List Byte)) (crcs : List Byte) (rows2 : List (List Byte)) (crcs2 : List Byte),
      ∃ t, exec (.prefetchComplete pos layer ok rows crcs rows2 crcs2) s = .next t
        ∧ s.onlyChanges t [.submit, .events, .host, .pix] (headFields ++ [R.HOST_STATUS_CPL_STALL]))
  ∧ (∀ (s : State),
      s.alone →
      ∃ t, exec (.presentTimed) s = .next t
        ∧ (s.onlyChanges t [.fregs, .clk, .ticks, .pins, .submit, .events, .host, .mode, .gens, .pix, .ports, .twin] ([R.HOST_SILENCE_CNT_COUNT, R.PIX_COMP_STATUS_BUSY, R.PIX_COMP_STATUS_SLOTS_USED, R.PIX_COMP_STATUS_SURF, R.TIME_INC_HI_NS, R.TIME_INC_LO_FRAC, R.TIME_STATUS_SLEWING] ++ eventFields ++ idleFields ++ headFields ++ [R.HOST_STATUS_CPL_STALL] ++ (each 2 fun i => [R.PIX_SCALER_IN_USE i, R.PIX_SCALER_OWNER i, R.TWIN_LANE_STATUS_STATE i]) ++ (each 4 fun i => [R.PIX_COMP_COUNT_NOT_READY i, R.PIX_FILL_EN i, R.PIX_FILL_MAX_ADD i, R.PIX_FILL_SHARE i, R.PIX_MAPSTAT_FALLBACK_LOADED i, R.PIX_MAPSTAT_GAIN_LOADED i, R.TG_COUNT_COMPOSE_SKIPPED i, R.TG_STATUS_COMPOSING i, R.TIME_EPH_CNT_LATE i, R.TIME_EPH_CNT_REFUSED i, R.TIME_EPH_CNT_UNSYNCED i, R.TIME_EPH_QUEUED i]) ++ (each 24 fun i => [R.PIX_HLT_PORT_STAT_DEFECTS i, R.TILE_LANE_STATUS_STATE i, R.TILE_SEQ_DN_NEXT i]))))
  ∧ (∀ (s : State),
      ∃ t, exec (.presentTimed) s = .next t
        ∧ (s.onlyChanges t (alignParts ++ [.fregs, .clk, .ticks, .pins]) ([R.TIME_INC_HI_NS, R.TIME_INC_LO_FRAC, R.TIME_STATUS_SLEWING] ++ alignFields ++ idleFields ++ (each 4 fun i => [R.PIX_COMP_COUNT_NOT_READY i, R.PIX_FILL_EN i, R.PIX_FILL_MAX_ADD i, R.PIX_FILL_SHARE i, R.PIX_MAPSTAT_FALLBACK_LOADED i, R.PIX_MAPSTAT_GAIN_LOADED i, R.TG_COUNT_COMPOSE_SKIPPED i, R.TIME_EPH_CNT_LATE i, R.TIME_EPH_CNT_REFUSED i, R.TIME_EPH_CNT_UNSYNCED i]))))
  ∧ (∀ (s : State),
      s.alone →
      ∃ t, exec (.cancelTimed) s = .next t
        ∧ (s.onlyChanges t [.fregs, .clk, .ticks, .pins, .submit, .events, .host, .mode, .gens, .pix, .ports, .twin] ([R.HOST_SILENCE_CNT_COUNT, R.PIX_COMP_STATUS_BUSY, R.PIX_COMP_STATUS_SLOTS_USED, R.PIX_COMP_STATUS_SURF, R.TIME_INC_HI_NS, R.TIME_INC_LO_FRAC, R.TIME_STATUS_SLEWING] ++ eventFields ++ headFields ++ [R.HOST_STATUS_CPL_STALL] ++ (each 2 fun i => [R.PIX_SCALER_IN_USE i, R.PIX_SCALER_OWNER i, R.TWIN_LANE_STATUS_STATE i]) ++ (each 4 fun i => [R.PIX_COMP_COUNT_NOT_READY i, R.PIX_FILL_EN i, R.PIX_FILL_MAX_ADD i, R.PIX_FILL_SHARE i, R.PIX_MAPSTAT_FALLBACK_LOADED i, R.PIX_MAPSTAT_GAIN_LOADED i, R.TG_COUNT_COMPOSE_SKIPPED i, R.TG_STATUS_COMPOSING i, R.TIME_EPH_CNT_CANCELLED i, R.TIME_EPH_CNT_LATE i, R.TIME_EPH_CNT_REFUSED i, R.TIME_EPH_CNT_UNSYNCED i, R.TIME_EPH_QUEUED i]) ++ (each 24 fun i => [R.PIX_HLT_PORT_STAT_DEFECTS i, R.TILE_LANE_STATUS_STATE i, R.TILE_SEQ_DN_NEXT i]))))
  ∧ (∀ (s : State),
      ∃ t, exec (.cancelTimed) s = .next t
        ∧ (s.onlyChanges t (alignParts ++ [.fregs, .clk, .ticks, .pins]) ([R.TIME_INC_HI_NS, R.TIME_INC_LO_FRAC, R.TIME_STATUS_SLEWING] ++ alignFields ++ (each 4 fun i => [R.PIX_COMP_COUNT_NOT_READY i, R.PIX_FILL_EN i, R.PIX_FILL_MAX_ADD i, R.PIX_FILL_SHARE i, R.PIX_MAPSTAT_FALLBACK_LOADED i, R.PIX_MAPSTAT_GAIN_LOADED i, R.TG_COUNT_COMPOSE_SKIPPED i, R.TIME_EPH_CNT_LATE i, R.TIME_EPH_CNT_REFUSED i, R.TIME_EPH_CNT_UNSYNCED i]))))
  ∧ (∀ (s : State),
      s.alone →
      ∃ t, exec (.shadeUpdate) s = .next t
        ∧ s.onlyChanges t [.submit, .events, .host, .pix, .ports, .twin] ([R.PIX_SHADE_AGE_LAST_US, R.PIX_SHADE_AGE_MAX_US, R.PIX_SHADE_COUNT_FUTURE_CAPTURE, R.PIX_SHADE_COUNT_MERGES, R.PIX_SHADE_STALE_HI_STALE, R.PIX_SHADE_STALE_LO_STALE, R.PIX_SHADE_STATUS_MERGED, R.PIX_SHADE_STATUS_MERGE_SURF, R.PIX_SHADE_USED_HI_USED, R.PIX_SHADE_USED_LO_USED] ++ eventFields ++ headFields ++ [R.HOST_STATUS_CPL_STALL]))
  ∧ (∀ (s : State),
      ∃ t, exec (.shadeUpdate) s = .next t
        ∧ s.onlyChanges t (alignParts) ([R.PIX_SHADE_AGE_LAST_US, R.PIX_SHADE_AGE_MAX_US, R.PIX_SHADE_COUNT_FUTURE_CAPTURE] ++ alignFields))
  ∧ (∀ (s : State),
      s.alone →
      ∃ t, exec (.shadeClear) s = .next t
        ∧ s.onlyChanges t [.submit, .events, .host, .pix, .ports, .twin] ([R.PIX_SHADE_COUNT_MERGES, R.PIX_SHADE_STALE_HI_STALE, R.PIX_SHADE_STALE_LO_STALE, R.PIX_SHADE_STATUS_MERGED, R.PIX_SHADE_STATUS_MERGE_SURF, R.PIX_SHADE_USED_HI_USED, R.PIX_SHADE_USED_LO_USED] ++ eventFields ++ headFields ++ [R.HOST_STATUS_CPL_STALL]))
  ∧ (∀ (s : State),
      ∃ t, exec (.shadeClear) s = .next t
        ∧ s.onlyChanges t (alignParts) (alignFields))
  ∧ (∀ (s : State),
      ∃ t, exec (.aim) s = .next t
        ∧ (s.onlyChanges t [.submit, .events, .host, .pix] (headFields ++ [R.HOST_STATUS_CPL_STALL] ++ (each 4 fun i => [R.PIX_AIM_RATE_H i, R.PIX_AIM_RATE_V i, R.PIX_AIM_TARGET_H i, R.PIX_AIM_TARGET_V i]))))
  ∧ (∀ (s : State),
      ∃ t, exec (.beamProfile) s = .next t
        ∧ s.onlyChanges t [.submit, .events, .host, .safe] (headFields ++ [R.HOST_STATUS_CPL_STALL]))
  ∧ (∀ (s : State),
      s.alone →
      ∃ t, exec (.surfaceConfig) s = .next t
        ∧ (s.onlyChanges t [.submit, .events, .host, .mode, .gens, .pix, .safe, .ports, .twin, .free] ([R.HOST_SILENCE_CNT_COUNT, R.PIX_COMP_STATUS_BUSY, R.PIX_COMP_STATUS_SLOTS_USED, R.PIX_COMP_STATUS_SURF, R.PIX_OUT_COUNT_TEMP_FALLBACK, R.PIX_SIG_ACTIVE_ACTIVE, R.PIX_SIG_REFUSED_REFUSED, R.SAFE_FAULT_ACT_HI_ACTIVE, R.SAFE_FAULT_ACT_LO_ACTIVE, R.TWIN_STATUS_LINKS] ++ headFields ++ [R.HOST_STATUS_CPL_STALL] ++ (each 2 fun i => [R.PIX_SCALER_IN_USE i, R.PIX_SCALER_OWNER i, R.TWIN_LANE_STATUS_STATE i]) ++ (each 4 fun i => [R.SAFE_PROFILE_EXCESS_RUN i, R.SAFE_PROFILE_RETURNING i, R.TG_CTRL_ENABLE i, R.TG_GRID_OFFSET_NS i, R.TG_GUARD_G_US i, R.TG_GUARD_PC_STEPS i, R.TG_GUARD_STAGGER_SPAN i, R.TG_LEAD_LEAD_US i, R.TG_RATE_FRAME_HZ i, R.TG_RATE_SCANS_LOG2 i, R.TG_STATUS_CFG_ERR i, R.TG_STATUS_COMPOSING i, R.TG_STATUS_RETIME_ACTIVE i, R.TG_STATUS_RETIME_CANCELLED i, R.TG_STATUS_RETIME_PENDING i, R.TG_STATUS_RUNNING i, R.TIME_EPH_CNT_CANCELLED i, R.TIME_EPH_QUEUED i]) ++ (each 24 fun i => [R.TG_PORTMAP_A_SURF i, R.TILE_LANE_STATUS_STATE i, R.TILE_LANE_STATUS_UP_IDLE i, R.TILE_PRBS_BITS_COUNT i, R.TILE_PRBS_ERR_LOCAL_COUNT i, R.TILE_PRBS_STAT_RESYNC i, R.TILE_PRBS_STAT_RUNNING i, R.TILE_PRBS_STAT_SYNC i, R.TILE_PROTO_STATUS_PORT_REFUSED i, R.TILE_PROTO_STATUS_TOTALITY_TX i, R.TILE_SEQ_DN_NEXT i]) ++ configFields)))
  ∧ (∀ (s : State),
      ∃ t, exec (.surfaceConfig) s = .next t
        ∧ s.onlyChanges t (alignParts) (alignFields))
  ∧ (∀ (s : State),
      s.alone →
      ∃ t, exec (.retime) s = .next t
        ∧ (s.onlyChanges t [.fregs, .clk, .ticks, .pins, .submit, .events, .host, .mode, .gens, .pix, .ports, .twin] ([R.HOST_SILENCE_CNT_COUNT, R.PIX_COMP_STATUS_BUSY, R.PIX_COMP_STATUS_SLOTS_USED, R.PIX_COMP_STATUS_SURF, R.TIME_INC_HI_NS, R.TIME_INC_LO_FRAC, R.TIME_STATUS_SLEWING] ++ eventFields ++ headFields ++ [R.HOST_STATUS_CPL_STALL] ++ (each 2 fun i => [R.PIX_SCALER_IN_USE i, R.PIX_SCALER_OWNER i, R.TWIN_LANE_STATUS_STATE i]) ++ (each 4 fun i => [R.PIX_COMP_COUNT_NOT_READY i, R.PIX_FILL_EN i, R.PIX_FILL_MAX_ADD i, R.PIX_FILL_SHARE i, R.PIX_MAPSTAT_FALLBACK_LOADED i, R.PIX_MAPSTAT_GAIN_LOADED i, R.TG_COUNT_COMPOSE_SKIPPED i, R.TG_STATUS_COMPOSING i, R.TG_STATUS_RETIME_CANCELLED i, R.TG_STATUS_RETIME_PENDING i, R.TIME_EPH_CNT_LATE i, R.TIME_EPH_CNT_REFUSED i, R.TIME_EPH_CNT_UNSYNCED i, R.TIME_EPH_QUEUED i]) ++ (each 24 fun i => [R.PIX_HLT_PORT_STAT_DEFECTS i, R.TILE_LANE_STATUS_STATE i, R.TILE_SEQ_DN_NEXT i]))))
  ∧ (∀ (s : State),
      ∃ t, exec (.retime) s = .next t
        ∧ (s.onlyChanges t (alignParts ++ [.fregs, .clk, .ticks, .pins]) ([R.TIME_INC_HI_NS, R.TIME_INC_LO_FRAC, R.TIME_STATUS_SLEWING] ++ alignFields ++ (each 4 fun i => [R.PIX_COMP_COUNT_NOT_READY i, R.PIX_FILL_EN i, R.PIX_FILL_MAX_ADD i, R.PIX_FILL_SHARE i, R.PIX_MAPSTAT_FALLBACK_LOADED i, R.PIX_MAPSTAT_GAIN_LOADED i, R.TG_COUNT_COMPOSE_SKIPPED i, R.TIME_EPH_CNT_LATE i, R.TIME_EPH_CNT_REFUSED i, R.TIME_EPH_CNT_UNSYNCED i]))))
  ∧ (∀ (s : State),
      s.alone →
      ∃ t, exec (.scalerCoeff) s = .next t
        ∧ (s.onlyChanges t [.submit, .events, .host, .pix, .ports, .twin] (headFields ++ [R.HOST_STATUS_CPL_STALL] ++ (each 2 fun i => [R.PIX_SCALER_ARMED i]))))
  ∧ (∀ (s : State),
      ∃ t, exec (.scalerCoeff) s = .next t
        ∧ s.onlyChanges t (alignParts) (alignFields))
  ∧ (∀ (s : State),
      ∃ t, exec (.segPattern) s = .next t
        ∧ s.onlyChanges t [.submit, .events, .host, .cmds] (headFields ++ [R.HOST_STATUS_CPL_STALL]))
  ∧ (∀ (s : State),
      ∃ t, exec (.segStart) s = .next t
        ∧ s.onlyChanges t [.submit, .events, .host, .seg] ([R.SEG_STATUS_ARMED] ++ headFields ++ [R.HOST_STATUS_CPL_STALL]))
  ∧ (∀ (s : State),
      ∃ t, exec (.mapLoad) s = .next t
        ∧ s.onlyChanges t [.submit, .events, .host, .cmds] (headFields ++ [R.HOST_STATUS_CPL_STALL]))
  ∧ (∀ (s : State),
      ∃ t, exec (.healthDump) s = .next t
        ∧ s.onlyChanges t [.submit, .events, .host, .cmds] (headFields ++ [R.HOST_STATUS_CPL_STALL]))
  ∧ (∀ (s : State),
      ∃ t, exec (.spbLoad) s = .next t
        ∧ s.onlyChanges t [.submit, .events, .host, .cmds] (headFields ++ [R.HOST_STATUS_CPL_STALL]))
  ∧ (∀ (s : State),
      ∃ t, exec (.spbCommit) s = .next t
        ∧ s.onlyChanges t [.submit, .events, .host, .cmds, .flash, .free] ([R.SAFE_COMM_STATUS_COMMIT_BUSY] ++ headFields ++ [R.HOST_STATUS_CPL_STALL]))
  ∧ (∀ (s : State),
      ∃ t, exec (.fwStage) s = .next t
        ∧ s.onlyChanges t [.submit, .events, .host, .cmds] (headFields ++ [R.HOST_STATUS_CPL_STALL]))
  ∧ (∀ (s : State),
      ∃ t, exec (.fwActivate) s = .next t
        ∧ s.onlyChanges t [.submit, .events, .host, .flash] (headFields ++ [R.HOST_STATUS_CPL_STALL]))
  ∧ (∀ (s : State) (ring : Fin 4),
      ∃ t, exec (.fence ring) s = .next t
        ∧ s.onlyChanges t [.submit, .events, .host] (headFields ++ [R.HOST_STATUS_CPL_STALL]))
  ∧ (∀ (s : State) (ring : Fin 4),
      ∃ t, exec (.fenceConditionMet ring) s = .next t
        ∧ s.onlyChanges t [.submit, .events, .host] (headFields ++ [R.HOST_STATUS_CPL_STALL]))
  ∧ (∀ (s : State) (ring : Fin 4),
      ∃ t, exec (.fenceTimeout ring) s = .next t
        ∧ s.onlyChanges t [.submit, .events, .host] (headFields ++ [R.HOST_STATUS_CPL_STALL]))
  ∧ (∀ (s : State) (bytes : List Byte) (ok : Bool),
      s.alone →
      ∃ t, exec (.bulkSourceReadDone bytes ok) s = .next t
        ∧ (s.onlyChanges t [.submit, .events, .host, .cmds, .flash, .pix, .safe, .ports, .parkPats, .seg, .twin] ([R.MEM_RELOAD_A_FALLBACK, R.MEM_RELOAD_A_GAIN, R.MEM_RELOAD_A_PARK, R.MEM_RELOAD_BASE_PORTS, R.MEM_RELOAD_DEFECT_PORTS, R.SAFE_COMM_CONFIRM_VALUE, R.SAFE_COMM_STATUS_CONFIRMED, R.SAFE_COMM_STATUS_STAGED, R.SAFE_SPB_STAGED_VALUE] ++ headFields ++ [R.HOST_STATUS_CPL_STALL] ++ (each 24 fun i => [R.PIX_HLT_PORT_STAT_BASE_LOADED i, R.PIX_HLT_PORT_STAT_DEFECTS i, R.TILE_LANE_STATUS_STATE i, R.TILE_SEQ_DN_NEXT i]))))
  ∧ (∀ (s : State) (bytes : List Byte) (ok : Bool),
      ∃ t, exec (.bulkSourceReadDone bytes ok) s = .next t
        ∧ s.onlyChanges t (alignParts ++ [.flash, .seg]) ([R.SAFE_COMM_CONFIRM_VALUE, R.SAFE_COMM_STATUS_CONFIRMED, R.SAFE_COMM_STATUS_STAGED, R.SAFE_SPB_STAGED_VALUE] ++ alignFields))
  ∧ (∀ (s : State) (ok : Bool),
      ∃ t, exec (.flashWriteDone ok) s = .next t
        ∧ s.onlyChanges t [.submit, .events, .host, .cmds, .mode, .flash, .safe, .free] ([R.BOOT_FW_SEC_SEC_A, R.BOOT_FW_SEC_SEC_B, R.BOOT_FW_SEC_VALID_A, R.BOOT_FW_SEC_VALID_B, R.BOOT_FW_VER_A_VERSION, R.BOOT_FW_VER_B_VERSION, R.BOOT_STATUS_TRIAL_PENDING, R.PWR_MODE_BUSY, R.PWR_MODE_TARGET, R.SAFE_COMM_CONFIRM_VALUE, R.SAFE_COMM_STATUS_COMMIT_BUSY, R.SAFE_COMM_STATUS_CONFIRMED, R.SAFE_COMM_STATUS_SESSION, R.SAFE_COMM_STATUS_STAGED, R.SAFE_SPB_STAGED_VALUE] ++ idleFields ++ headFields ++ [R.HOST_STATUS_CPL_STALL]))
  ∧ (∀ (s : State),
      ∃ t, exec (.healthDumpDone) s = .next t
        ∧ s.onlyChanges t [.submit, .events, .host, .cmds] (headFields ++ [R.HOST_STATUS_CPL_STALL]))

/-- What the commands of the lanes leave unchanged: the parts and fields that each may change. Commands that it says complete: laneEnable, laneDisable, enWaitExpiry, bringupTimeout, receiverLock, lockLost, orderedSetReceived, rateTrainTimeout, retrainTimeout, laneRetrain, idleEntry, exitFail, lnrefLost, lnrefReturn, prbsStart, loopbackStart, prbsEnd, legacyEnable, legacyActive, legacyAlert, legacyAlertRetrain, twinLaneEnable, deskewFail. -/
def Obligations.FrameLanes : Prop :=
  (∀ (s : State) (port : Fin 24),
      ∃ t, exec (.laneEnable port) s = .next t
        ∧ s.onlyChanges t [.events, .host, .mode, .ports, .twin] ([R.SAFE_FAULT_ACT_HI_ACTIVE, R.SAFE_FAULT_ACT_LO_ACTIVE, R.TWIN_STATUS_LINKS, R.TILE_LANE_CTRL_EN port, R.TILE_LANE_STATUS_RATE_LOW port, R.TILE_LANE_STATUS_STATE port, R.TILE_PRBS_STAT_RUNNING port] ++ eventFields ++ offFields ++ idleFields))
  ∧ (∀ (s : State) (port : Fin 24),
      ∃ t, exec (.laneDisable port) s = .next t
        ∧ s.onlyChanges t [.submit, .events, .host, .cmds, .mode, .ports, .twin, .free] ([R.SAFE_FAULT_ACT_HI_ACTIVE, R.SAFE_FAULT_ACT_LO_ACTIVE, R.TWIN_STATUS_LINKS, R.TILE_LANE_CTRL_EN port, R.TILE_LANE_STATUS_DN_RATE port, R.TILE_LANE_STATUS_STATE port, R.TILE_LANE_STATUS_UP_IDLE port, R.TILE_LANE_STATUS_UP_RATE port, R.TILE_PRBS_BITS_COUNT port, R.TILE_PRBS_ERR_LOCAL_COUNT port, R.TILE_PRBS_STAT_RESYNC port, R.TILE_PRBS_STAT_RUNNING port, R.TILE_PRBS_STAT_SYNC port, R.TILE_PROTO_STATUS_TOTALITY_TX port] ++ eventFields ++ offFields ++ idleFields ++ headFields ++ [R.HOST_STATUS_CPL_STALL]))
  ∧ (∀ (s : State) (port : Fin 24),
      ∃ t, exec (.enWaitExpiry port) s = .next t
        ∧ s.onlyChanges t [.host, .ports, .twin] [R.SAFE_FAULT_ACT_HI_ACTIVE, R.SAFE_FAULT_ACT_LO_ACTIVE, R.TWIN_STATUS_LINKS, R.TILE_LANE_STATUS_DN_RATE port, R.TILE_LANE_STATUS_STATE port, R.TILE_LANE_STATUS_UP_IDLE port, R.TILE_LANE_STATUS_UP_RATE port, R.TILE_PRBS_STAT_RUNNING port, R.TILE_PROTO_STATUS_TOTALITY_TX port, R.TILE_SEQ_DN_NEXT port, R.TILE_SEQ_UP_EXPECT port])
  ∧ (∀ (s : State) (unit : Fin 26),
      ∃ t, exec (.bringupTimeout unit) s = .next t
        ∧ (s.onlyChanges t [.events, .host, .safe, .ports, .twin] ([R.SAFE_FAULT_ACT_HI_ACTIVE, R.SAFE_FAULT_ACT_LO_ACTIVE, R.SAFE_FAULT_FIRST_CODE, R.SAFE_FAULT_FIRST_INSTANCE, R.SAFE_FAULT_LAST_CODE, R.SAFE_FAULT_LAST_INSTANCE, R.TWIN_STATUS_LINKS] ++ eventFields ++ ofUnit unit (fun p => [R.TILE_LANE_EVT_TIMEOUTS p, R.TILE_LANE_STATUS_DN_RATE p, R.TILE_LANE_STATUS_STATE p, R.TILE_LANE_STATUS_UP_IDLE p, R.TILE_LANE_STATUS_UP_RATE p, R.TILE_PRBS_STAT_RUNNING p, R.TILE_PROTO_STATUS_TOTALITY_TX p, R.TILE_SEQ_DN_NEXT p, R.TILE_SEQ_UP_EXPECT p]) (fun l => [R.TWIN_LANE_EVT_TIMEOUTS l, R.TWIN_LANE_STATUS_DESKEWED l, R.TWIN_LANE_STATUS_RATE l, R.TWIN_LANE_STATUS_STATE l, R.TWIN_PRBS_STAT_RUNNING l]))))
  ∧ (∀ (s : State) (unit : Fin 26) (rx0 : List RxSymbol) (rx1 : List RxSymbol) (skew : Int),
      ∃ t, exec (.receiverLock unit rx0 rx1 skew) s = .next t
        ∧ (s.onlyChanges t [.events, .host, .pix, .safe, .ports, .twin] ([R.SAFE_FAULT_ACT_HI_ACTIVE, R.SAFE_FAULT_ACT_LO_ACTIVE, R.SAFE_FAULT_FIRST_CODE, R.SAFE_FAULT_FIRST_INSTANCE, R.SAFE_FAULT_LAST_CODE, R.SAFE_FAULT_LAST_INSTANCE, R.TWIN_STATUS_LINKS] ++ eventFields ++ ofUnit unit (fun p => [R.PIX_HLT_PORT_STAT_BASE_LOADED p, R.PIX_HLT_PORT_STAT_CAPTURING p, R.PIX_HLT_PORT_STAT_MASS p, R.TILE_LANE_STATUS_STATE p, R.TILE_PROTO_STATUS_TOTALITY_TX p, R.TILE_SEQ_DN_NEXT p, R.TILE_SEQ_UP_EXPECT p]) (fun l => [R.TWIN_LANE_EVT_DESKEW_FAILS l, R.TWIN_LANE_STATUS_DESKEWED l, R.TWIN_LANE_STATUS_SKEW l, R.TWIN_LANE_STATUS_STATE l]))))
  ∧ (∀ (s : State) (unit : Fin 26) (rx0 : List RxSymbol) (rx1 : List RxSymbol) (squelch : Fin 4),
      ∃ t, exec (.lockLost unit rx0 rx1 squelch) s = .next t
        ∧ (s.onlyChanges t [.events, .host, .ports, .twin] ([R.SAFE_FAULT_ACT_HI_ACTIVE, R.SAFE_FAULT_ACT_LO_ACTIVE, R.SAFE_FAULT_FIRST_CODE, R.SAFE_FAULT_FIRST_INSTANCE, R.SAFE_FAULT_LAST_CODE, R.SAFE_FAULT_LAST_INSTANCE, R.TWIN_STATUS_LINKS] ++ eventFields ++ ofUnit unit (fun p => [R.TILE_LANE_EVT_RETRAINS p, R.TILE_LANE_STATUS_DN_RATE p, R.TILE_LANE_STATUS_STATE p, R.TILE_LANE_STATUS_UP_IDLE p, R.TILE_LANE_STATUS_UP_RATE p, R.TILE_LANE_SYMERR_COUNT p, R.TILE_PRBS_STAT_RUNNING p, R.TILE_PROTO_STATUS_TOTALITY_TX p, R.TILE_SEQ_DN_NEXT p, R.TILE_SEQ_UP_EXPECT p]) (fun l => [R.TWIN_LANE_EVT_RETRAINS l, R.TWIN_LANE_STATUS_DESKEWED l, R.TWIN_LANE_STATUS_RATE l, R.TWIN_LANE_STATUS_STATE l, R.TWIN_LANE_SYMERR_LANE0 l, R.TWIN_LANE_SYMERR_LANE1 l, R.TWIN_PRBS_STAT_RUNNING l]))))
  ∧ (∀ (s : State) (unit : Fin 26) (lane : Fin 2) (k : Bool) (octet : Fin 256),
      ∃ t, exec (.orderedSetReceived unit lane k octet) s = .next t
        ∧ (s.onlyChanges t [.events, .host, .pix, .safe, .ports, .twin] ([R.SAFE_FAULT_ACT_HI_ACTIVE, R.SAFE_FAULT_ACT_LO_ACTIVE, R.SAFE_FAULT_FIRST_CODE, R.SAFE_FAULT_FIRST_INSTANCE, R.SAFE_FAULT_LAST_CODE, R.SAFE_FAULT_LAST_INSTANCE, R.TWIN_STATUS_LINKS] ++ eventFields ++ ofUnit unit (fun p => [R.PIX_HLT_PORT_STAT_BASE_LOADED p, R.PIX_HLT_PORT_STAT_CAPTURING p, R.PIX_HLT_PORT_STAT_MASS p, R.TILE_LANE_EVT_RETRAINS p, R.TILE_LANE_STATUS_DN_RATE p, R.TILE_LANE_STATUS_STATE p, R.TILE_LANE_STATUS_UP_IDLE p, R.TILE_LANE_STATUS_UP_RATE p, R.TILE_LANE_SYMERR_COUNT p, R.TILE_PRBS_STAT_RUNNING p, R.TILE_PROTO_STATUS_TOTALITY_TX p, R.TILE_SEQ_DN_NEXT p, R.TILE_SEQ_UP_EXPECT p]) (fun l => [R.TWIN_LANE_EVT_RETRAINS l, R.TWIN_LANE_STATUS_DESKEWED l, R.TWIN_LANE_STATUS_RATE l, R.TWIN_LANE_STATUS_STATE l, R.TWIN_LANE_SYMERR_LANE0 l, R.TWIN_LANE_SYMERR_LANE1 l, R.TWIN_PRBS_STAT_RUNNING l]))))
  ∧ (∀ (s : State) (unit : Fin 26),
      ∃ t, exec (.rateTrainTimeout unit) s = .next t
        ∧ (s.onlyChanges t [.events, .host, .safe, .ports, .twin] ([R.SAFE_FAULT_ACT_HI_ACTIVE, R.SAFE_FAULT_ACT_LO_ACTIVE, R.SAFE_FAULT_FIRST_CODE, R.SAFE_FAULT_FIRST_INSTANCE, R.SAFE_FAULT_LAST_CODE, R.SAFE_FAULT_LAST_INSTANCE, R.TWIN_STATUS_LINKS] ++ eventFields ++ ofUnit unit (fun p => [R.TILE_LANE_EVT_RATE_FAILS p, R.TILE_LANE_STATUS_DN_RATE p, R.TILE_LANE_STATUS_RATE_LOW p, R.TILE_LANE_STATUS_STATE p, R.TILE_LANE_STATUS_UP_IDLE p, R.TILE_LANE_STATUS_UP_RATE p, R.TILE_PRBS_STAT_RUNNING p, R.TILE_PROTO_STATUS_TOTALITY_TX p, R.TILE_SEQ_DN_NEXT p, R.TILE_SEQ_UP_EXPECT p]) (fun l => [R.TWIN_LANE_EVT_RATE_FAILS l, R.TWIN_LANE_STATUS_DESKEWED l, R.TWIN_LANE_STATUS_RATE l, R.TWIN_LANE_STATUS_STATE l, R.TWIN_PRBS_STAT_RUNNING l]))))
  ∧ (∀ (s : State) (unit : Fin 26),
      ∃ t, exec (.retrainTimeout unit) s = .next t
        ∧ (s.onlyChanges t [.events, .host, .safe, .ports, .twin] ([R.SAFE_FAULT_ACT_HI_ACTIVE, R.SAFE_FAULT_ACT_LO_ACTIVE, R.SAFE_FAULT_FIRST_CODE, R.SAFE_FAULT_FIRST_INSTANCE, R.SAFE_FAULT_LAST_CODE, R.SAFE_FAULT_LAST_INSTANCE, R.TWIN_STATUS_LINKS] ++ eventFields ++ ofUnit unit (fun p => [R.TILE_LANE_EVT_RETRAINS p, R.TILE_LANE_STATUS_DN_RATE p, R.TILE_LANE_STATUS_STATE p, R.TILE_LANE_STATUS_UP_IDLE p, R.TILE_LANE_STATUS_UP_RATE p, R.TILE_PRBS_STAT_RUNNING p, R.TILE_PROTO_STATUS_TOTALITY_TX p, R.TILE_SEQ_DN_NEXT p, R.TILE_SEQ_UP_EXPECT p]) (fun l => [R.TWIN_LANE_EVT_RETRAINS l, R.TWIN_LANE_STATUS_DESKEWED l, R.TWIN_LANE_STATUS_RATE l, R.TWIN_LANE_STATUS_STATE l, R.TWIN_PRBS_STAT_RUNNING l]))))
  ∧ (∀ (s : State) (unit : Fin 26),
      ∃ t, exec (.laneRetrain unit) s = .next t
        ∧ (s.onlyChanges t [.events, .host, .mode, .ports, .twin] ([R.SAFE_FAULT_ACT_HI_ACTIVE, R.SAFE_FAULT_ACT_LO_ACTIVE, R.SAFE_FAULT_FIRST_CODE, R.SAFE_FAULT_FIRST_INSTANCE, R.SAFE_FAULT_LAST_CODE, R.SAFE_FAULT_LAST_INSTANCE, R.TWIN_STATUS_LINKS] ++ eventFields ++ offFields ++ idleFields ++ ofUnit unit (fun p => [R.TILE_LANE_EVT_RETRAINS p, R.TILE_LANE_STATUS_STATE p, R.TILE_LANE_STATUS_UP_IDLE p, R.TILE_PROTO_STATUS_TOTALITY_TX p]) (fun l => [R.TWIN_LANE_EVT_RETRAINS l, R.TWIN_LANE_STATUS_STATE l]))))
  ∧ (∀ (s : State) (port : Fin 24),
      ∃ t, exec (.idleEntry port) s = .next t
        ∧ s.onlyChanges t [.host, .ports, .twin] [R.SAFE_FAULT_ACT_HI_ACTIVE, R.SAFE_FAULT_ACT_LO_ACTIVE, R.TWIN_STATUS_LINKS, R.TILE_LANE_STATUS_STATE port])
  ∧ (∀ (s : State) (port : Fin 24),
      ∃ t, exec (.exitFail port) s = .next t
        ∧ s.onlyChanges t [.events, .host, .safe, .ports, .twin] ([R.SAFE_FAULT_ACT_HI_ACTIVE, R.SAFE_FAULT_ACT_LO_ACTIVE, R.SAFE_FAULT_FIRST_CODE, R.SAFE_FAULT_FIRST_INSTANCE, R.SAFE_FAULT_LAST_CODE, R.SAFE_FAULT_LAST_INSTANCE, R.TWIN_STATUS_LINKS, R.TILE_LANE_EVT_EXIT_FAILS port, R.TILE_LANE_STATUS_DN_RATE port, R.TILE_LANE_STATUS_STATE port, R.TILE_LANE_STATUS_UP_IDLE port, R.TILE_LANE_STATUS_UP_RATE port, R.TILE_PRBS_STAT_RUNNING port, R.TILE_PROTO_STATUS_TOTALITY_TX port, R.TILE_SEQ_DN_NEXT port, R.TILE_SEQ_UP_EXPECT port] ++ eventFields))
  ∧ (∀ (s : State),
      ∃ t, exec (.lnrefLost) s = .next t
        ∧ (s.onlyChanges t [.pins, .events, .host, .safe, .ports, .twin] ([R.SAFE_FAULT_ACT_HI_ACTIVE, R.SAFE_FAULT_ACT_LO_ACTIVE, R.SAFE_FAULT_FIRST_CODE, R.SAFE_FAULT_FIRST_INSTANCE, R.SAFE_FAULT_LAST_CODE, R.SAFE_FAULT_LAST_INSTANCE, R.TILE_REFOUT_LNREF_LOST, R.TWIN_STATUS_LINKS] ++ eventFields ++ (each 2 fun i => [R.TWIN_LANE_EVT_RETRAINS i, R.TWIN_LANE_STATUS_DESKEWED i, R.TWIN_LANE_STATUS_RATE i, R.TWIN_LANE_STATUS_STATE i, R.TWIN_PRBS_STAT_RUNNING i]) ++ (each 24 fun i => [R.TILE_LANE_EVT_RETRAINS i, R.TILE_LANE_STATUS_DN_RATE i, R.TILE_LANE_STATUS_STATE i, R.TILE_LANE_STATUS_UP_IDLE i, R.TILE_LANE_STATUS_UP_RATE i, R.TILE_PRBS_STAT_RUNNING i, R.TILE_PROTO_STATUS_TOTALITY_TX i, R.TILE_SEQ_DN_NEXT i, R.TILE_SEQ_UP_EXPECT i]))))
  ∧ (∀ (s : State),
      ∃ t, exec (.lnrefReturn) s = .next t
        ∧ (s.onlyChanges t [.pins, .host, .ports, .twin] ([R.SAFE_FAULT_ACT_HI_ACTIVE, R.SAFE_FAULT_ACT_LO_ACTIVE] ++ (each 2 fun i => [R.TWIN_LANE_STATUS_STATE i]) ++ (each 24 fun i => [R.TILE_LANE_STATUS_STATE i]))))
  ∧ (∀ (s : State) (unit : Fin 26),
      ∃ t, exec (.prbsStart unit) s = .next t
        ∧ (s.onlyChanges t [.events, .host, .mode, .ports, .twin] ([R.SAFE_FAULT_ACT_HI_ACTIVE, R.SAFE_FAULT_ACT_LO_ACTIVE, R.SAFE_FAULT_FIRST_CODE, R.SAFE_FAULT_FIRST_INSTANCE, R.SAFE_FAULT_LAST_CODE, R.SAFE_FAULT_LAST_INSTANCE, R.TWIN_STATUS_LINKS] ++ eventFields ++ offFields ++ idleFields ++ ofUnit unit (fun p => [R.TILE_LANE_STATUS_PRBS_REFUSED p, R.TILE_LANE_STATUS_STATE p, R.TILE_PRBS_BITS_COUNT p, R.TILE_PRBS_ERR_LOCAL_COUNT p, R.TILE_PRBS_ERR_REMOTE_COUNT p, R.TILE_PRBS_STAT_DONE p, R.TILE_PRBS_STAT_SYNC p, R.TILE_SEQ_DN_NEXT p]) (fun l => [R.TWIN_LANE_STATUS_STATE l, R.TWIN_PRBS_BITS_COUNT l, R.TWIN_PRBS_ERR_LOCAL_COUNT l, R.TWIN_PRBS_STAT_DONE l, R.TWIN_PRBS_STAT_RUNNING l, R.TWIN_PRBS_STAT_SYNC l]))))
  ∧ (∀ (s : State) (port : Fin 24),
      ∃ t, exec (.loopbackStart port) s = .next t
        ∧ s.onlyChanges t [.events, .host, .mode, .ports, .twin] ([R.SAFE_FAULT_ACT_HI_ACTIVE, R.SAFE_FAULT_ACT_LO_ACTIVE, R.TWIN_STATUS_LINKS, R.TILE_LANE_STATUS_DN_RATE port, R.TILE_LANE_STATUS_PRBS_REFUSED port, R.TILE_LANE_STATUS_STATE port, R.TILE_PRBS_BITS_COUNT port, R.TILE_PRBS_ERR_LOCAL_COUNT port, R.TILE_PRBS_ERR_REMOTE_COUNT port, R.TILE_PRBS_STAT_DONE port, R.TILE_PRBS_STAT_RUNNING port, R.TILE_PRBS_STAT_SYNC port] ++ eventFields ++ offFields ++ idleFields))
  ∧ (∀ (s : State) (unit : Fin 26) (bits0 : List Bool) (bits1 : List Bool),
      ∃ t, exec (.prbsEnd unit bits0 bits1) s = .next t
        ∧ (s.onlyChanges t [.events, .host, .ports, .twin] ([R.SAFE_FAULT_ACT_HI_ACTIVE, R.SAFE_FAULT_ACT_LO_ACTIVE, R.TWIN_STATUS_LINKS] ++ eventFields ++ ofUnit unit (fun p => [R.TILE_LANE_STATUS_DN_RATE p, R.TILE_LANE_STATUS_STATE p, R.TILE_LANE_STATUS_UP_IDLE p, R.TILE_LANE_STATUS_UP_RATE p, R.TILE_PRBS_BITS_COUNT p, R.TILE_PRBS_ERR_LOCAL_COUNT p, R.TILE_PRBS_STAT_DONE p, R.TILE_PRBS_STAT_RESYNC p, R.TILE_PRBS_STAT_RUNNING p, R.TILE_PRBS_STAT_SYNC p, R.TILE_PROTO_STATUS_TOTALITY_TX p, R.TILE_SEQ_DN_NEXT p, R.TILE_SEQ_UP_EXPECT p]) (fun l => [R.TWIN_LANE_STATUS_DESKEWED l, R.TWIN_LANE_STATUS_RATE l, R.TWIN_LANE_STATUS_STATE l, R.TWIN_PRBS_BITS_COUNT l, R.TWIN_PRBS_ERR_LOCAL_COUNT l, R.TWIN_PRBS_STAT_DONE l, R.TWIN_PRBS_STAT_RESYNC l, R.TWIN_PRBS_STAT_RUNNING l, R.TWIN_PRBS_STAT_SYNC l]))))
  ∧ (∀ (s : State) (port : Fin 24) (on : Bool),
      ∃ t, exec (.legacyEnable port on) s = .next t
        ∧ s.onlyChanges t [.events, .host, .mode] ([R.TILE_LANE_CTRL_LEGACY port, R.TILE_LANE_STATUS_LEGACY_REFUSED port, R.TILE_TIME_MEAS_DN_NS port] ++ eventFields ++ offFields ++ idleFields ++ refuseFields))
  ∧ (∀ (s : State) (port : Fin 24),
      ∃ t, exec (.legacyActive port) s = .next t
        ∧ s.onlyChanges t [.pins, .events, .host, .pix, .safe, .ports, .twin] ([R.SAFE_FAULT_ACT_HI_ACTIVE, R.SAFE_FAULT_ACT_LO_ACTIVE, R.TWIN_STATUS_LINKS, R.PIX_HLT_PORT_STAT_BASE_LOADED port, R.PIX_HLT_PORT_STAT_CAPTURING port, R.PIX_HLT_PORT_STAT_MASS port, R.TILE_LANE_STATUS_ALERT port, R.TILE_LANE_STATUS_STATE port, R.TILE_PROTO_STATUS_TOTALITY_TX port, R.TILE_SEQ_DN_NEXT port] ++ eventFields))
  ∧ (∀ (s : State) (port : Fin 24) (low : Bool),
      ∃ t, exec (.legacyAlert port low) s = .next t
        ∧ s.onlyChanges t [.pins, .events, .host] ([R.SAFE_FAULT_ACT_HI_ACTIVE, R.SAFE_FAULT_ACT_LO_ACTIVE, R.SAFE_FAULT_FIRST_CODE, R.SAFE_FAULT_FIRST_INSTANCE, R.SAFE_FAULT_LAST_CODE, R.SAFE_FAULT_LAST_INSTANCE, R.TILE_LANE_STATUS_ALERT port] ++ eventFields))
  ∧ (∀ (s : State) (port : Fin 24),
      ∃ t, exec (.legacyAlertRetrain port) s = .next t
        ∧ s.onlyChanges t [.pins, .events, .host, .safe, .ports, .twin] ([R.SAFE_FAULT_ACT_HI_ACTIVE, R.SAFE_FAULT_ACT_LO_ACTIVE, R.SAFE_FAULT_FIRST_CODE, R.SAFE_FAULT_FIRST_INSTANCE, R.SAFE_FAULT_LAST_CODE, R.SAFE_FAULT_LAST_INSTANCE, R.TWIN_STATUS_LINKS, R.TILE_LANE_STATUS_ALERT port, R.TILE_LANE_STATUS_DN_RATE port, R.TILE_LANE_STATUS_STATE port, R.TILE_LANE_STATUS_UP_IDLE port, R.TILE_LANE_STATUS_UP_RATE port, R.TILE_PRBS_STAT_RUNNING port, R.TILE_PROTO_STATUS_TOTALITY_TX port, R.TILE_SEQ_DN_NEXT port, R.TILE_SEQ_UP_EXPECT port] ++ eventFields))
  ∧ (∀ (s : State) (link : Fin 2),
      ∃ t, exec (.twinLaneEnable link) s = .next t
        ∧ s.onlyChanges t [.events, .host, .mode, .ports, .twin] ([R.SAFE_FAULT_ACT_HI_ACTIVE, R.SAFE_FAULT_ACT_LO_ACTIVE, R.TWIN_STATUS_LINKS, R.TWIN_LANE_CTRL_EN link, R.TWIN_LANE_STATUS_DESKEWED link, R.TWIN_LANE_STATUS_RATE link, R.TWIN_LANE_STATUS_STATE link, R.TWIN_PRBS_STAT_RUNNING link] ++ eventFields ++ offFields ++ idleFields))
  ∧ (∀ (s : State) (link : Fin 2) (skew : Int),
      ∃ t, exec (.deskewFail link skew) s = .next t
        ∧ s.onlyChanges t [.events, .host, .ports, .twin] ([R.SAFE_FAULT_ACT_HI_ACTIVE, R.SAFE_FAULT_ACT_LO_ACTIVE, R.SAFE_FAULT_FIRST_CODE, R.SAFE_FAULT_FIRST_INSTANCE, R.SAFE_FAULT_LAST_CODE, R.SAFE_FAULT_LAST_INSTANCE, R.TWIN_STATUS_LINKS, R.TWIN_LANE_EVT_DESKEW_FAILS link, R.TWIN_LANE_STATUS_DESKEWED link, R.TWIN_LANE_STATUS_SKEW link, R.TWIN_LANE_STATUS_STATE link] ++ eventFields))

/-- What the commands of the tile protocol, pixel health and the twin link leave unchanged: the parts and fields that each may change. Commands that it says complete: ackNakReceived, ackTimeout, linePacketDeadline, swapDeadline, upstreamPacketDiscard, statusReceived, capReceived, capRequestTimer, echoTimer, echoTimeout, healthReceived, massFault, isolationTimeout, healthStall, sampleDeadline, baselineCapture, baselineCaptureDone, twinEnable, twinDisable, twinHandover, twinRejoin, pairTimeout, heartbeatTick, heartbeatReceived, alignReceived, latchReceived, digestSend, digestReceived, defectReceived, probeCopyReceived, arbitrateReceived, twinK280Received, leadSilent, alignTimeout, twinCompare, arbitrateReplyTimeout, twinPeerSample, safetyConfirm, twinAliveDrop. -/
def Obligations.FrameProtocolAndTwin : Prop :=
  (∀ (s : State) (port : Fin 24) (seq : Nat) (body : List Byte),
      ∃ t, exec (.ackNakReceived port seq body) s = .next t
        ∧ s.onlyChanges t [.submit, .events, .host, .cmds, .ports, .twin] ([R.SAFE_FAULT_ACT_HI_ACTIVE, R.SAFE_FAULT_ACT_LO_ACTIVE, R.SAFE_FAULT_FIRST_CODE, R.SAFE_FAULT_FIRST_INSTANCE, R.SAFE_FAULT_LAST_CODE, R.SAFE_FAULT_LAST_INSTANCE, R.TWIN_STATUS_LINKS, R.TILE_CNT_DN_RETX port, R.TILE_CNT_MISC_CTRL_FAIL port, R.TILE_CNT_UP_UP_FAIL port, R.TILE_CNT_UP_UP_GAP port, R.TILE_LANE_STATUS_STATE port, R.TILE_LANE_STATUS_UP_IDLE port, R.TILE_PROTO_STATUS_TOTALITY_TX port, R.TILE_SEQ_DN_NEXT port, R.TILE_SEQ_UP_EXPECT port] ++ eventFields ++ headFields ++ [R.HOST_STATUS_CPL_STALL]))
  ∧ (∀ (s : State) (port : Fin 24) (seq : Nat),
      ∃ t, exec (.ackTimeout port seq) s = .next t
        ∧ s.onlyChanges t [.events, .host, .ports, .twin] ([R.SAFE_FAULT_ACT_HI_ACTIVE, R.SAFE_FAULT_ACT_LO_ACTIVE, R.SAFE_FAULT_FIRST_CODE, R.SAFE_FAULT_FIRST_INSTANCE, R.SAFE_FAULT_LAST_CODE, R.SAFE_FAULT_LAST_INSTANCE, R.TWIN_STATUS_LINKS, R.TILE_CNT_DN_RETX port, R.TILE_CNT_MISC_CTRL_FAIL port, R.TILE_LANE_STATUS_STATE port, R.TILE_LANE_STATUS_UP_IDLE port, R.TILE_PROTO_STATUS_TOTALITY_TX port, R.TILE_SEQ_DN_NEXT port] ++ eventFields))
  ∧ (∀ (s : State) (port : Fin 24) (seq : Nat),
      ∃ t, exec (.linePacketDeadline port seq) s = .next t
        ∧ s.onlyChanges t [.events, .host, .ports] ([R.SAFE_FAULT_ACT_HI_ACTIVE, R.SAFE_FAULT_ACT_LO_ACTIVE, R.SAFE_FAULT_FIRST_CODE, R.SAFE_FAULT_FIRST_INSTANCE, R.SAFE_FAULT_LAST_CODE, R.SAFE_FAULT_LAST_INSTANCE, R.TILE_CNT_DN_LINES_LOST port] ++ eventFields))
  ∧ (∀ (s : State) (port : Fin 24),
      ∃ t, exec (.swapDeadline port) s = .next t
        ∧ s.onlyChanges t [.events, .host, .ports] ([R.SAFE_FAULT_ACT_HI_ACTIVE, R.SAFE_FAULT_ACT_LO_ACTIVE, R.SAFE_FAULT_FIRST_CODE, R.SAFE_FAULT_FIRST_INSTANCE, R.SAFE_FAULT_LAST_CODE, R.SAFE_FAULT_LAST_INSTANCE, R.TILE_CNT_MISC_SWAP_MISS port] ++ eventFields))
  ∧ (∀ (s : State) (port : Fin 24) (bytes : List Byte) (clean : Bool),
      ∃ t, exec (.upstreamPacketDiscard port bytes clean) s = .next t
        ∧ s.onlyChanges t [.host, .ports, .twin] [R.SAFE_FAULT_ACT_HI_ACTIVE, R.SAFE_FAULT_ACT_LO_ACTIVE, R.TWIN_STATUS_LINKS, R.TILE_CNT_UP_UP_FAIL port, R.TILE_CNT_UP_UP_GAP port, R.TILE_LANE_STATUS_STATE port, R.TILE_LANE_STATUS_UP_IDLE port, R.TILE_PROTO_STATUS_TOTALITY_TX port, R.TILE_SEQ_UP_EXPECT port])
  ∧ (∀ (s : State) (port : Fin 24) (seq : Nat) (body : List Byte) (rt : Nat),
      ∃ t, exec (.statusReceived port seq body rt) s = .next t
        ∧ (s.onlyChanges t (alignParts ++ [.pins, .sup, .aon, .seg]) ([R.PWR_MODE_BUSY, R.PWR_MODE_CAUSE, R.PWR_MODE_MODE, R.PWR_MODE_TARGET, R.PWR_SUPPLY_STATUS_LIMP_SUPPLY, R.SAFE_FAULT_FIRST_CODE, R.SAFE_FAULT_FIRST_INSTANCE, R.SAFE_FAULT_LAST_CODE, R.SAFE_FAULT_LAST_INSTANCE, R.SAFE_TILE_HELD_PORTS, R.SEG_STATUS_OFF_TOT, R.TWIN_STATUS_IMPAIRED, R.TWIN_STATUS_ROLE, R.TWIN_STATUS_YIELDING, R.TWIN_TAKEOVER_COUNT, R.TWIN_TAKEOVER_LAST_US, R.TILE_CNT_UP_UP_FAIL port, R.TILE_CNT_UP_UP_GAP port, R.TILE_EPOCH_TILE port, R.TILE_LANE_STATUS_ALERT port, R.TILE_LIMP_VER_VERSION port, R.TILE_PRBS_ERR_REMOTE_COUNT port, R.TILE_PROTO_STATUS_DARK_HOLD port, R.TILE_PROTO_STATUS_ISOLATED port, R.TILE_PROTO_STATUS_LIMP_SHOWN port, R.TILE_PROTO_STATUS_LIMP_VALID port, R.TILE_PROTO_STATUS_OWN port, R.TILE_PROTO_STATUS_OWNER port, R.TILE_REMOTE_A_DN_FAIL port, R.TILE_REMOTE_A_LINES_DARK port, R.TILE_REMOTE_B_LATE port, R.TILE_REMOTE_B_OWNER_REJECT port, R.TILE_REMOTE_C_ALERT port, R.TILE_REMOTE_C_TEMP port, R.TILE_SEQ_UP_EXPECT port] ++ alignFields ++ idleFields ++ totFields ++ (each 5 fun i => [R.PWR_RAIL_STAT_EN i]) ++ (each 24 fun i => [R.PIX_HLT_PORT_STAT_TILE_HELD i, R.TILE_EPOCH_CLAIMED i, R.TILE_TIME_MEAS_JUMPS i]))))
  ∧ (∀ (s : State) (port : Fin 24) (seq : Nat) (body : List Byte),
      ∃ t, exec (.capReceived port seq body) s = .next t
        ∧ (s.onlyChanges t [.submit, .events, .host, .cmds, .gens, .pix, .safe, .ports, .twin] ([R.SAFE_FAULT_ACT_HI_ACTIVE, R.SAFE_FAULT_ACT_LO_ACTIVE, R.TWIN_STATUS_LINKS, R.TILE_CNT_UP_UP_FAIL port, R.TILE_CNT_UP_UP_GAP port, R.TILE_LANE_STATUS_DN_RATE port, R.TILE_LANE_STATUS_STATE port, R.TILE_LANE_STATUS_UP_IDLE port, R.TILE_LANE_STATUS_UP_RATE port, R.TILE_PRBS_STAT_RUNNING port, R.TILE_PROTO_STATUS_CAP_ERR port, R.TILE_PROTO_STATUS_CAP_VALID port, R.TILE_PROTO_STATUS_PORT_REFUSED port, R.TILE_PROTO_STATUS_TOTALITY_TX port, R.TILE_SEQ_UP_EXPECT port] ++ eventFields ++ headFields ++ [R.HOST_STATUS_CPL_STALL] ++ (each 2 fun i => [R.TWIN_LANE_STATUS_STATE i]) ++ (each 24 fun i => [R.PIX_HLT_PORT_STAT_BASE_LOADED i, R.PIX_HLT_PORT_STAT_CAPTURING i, R.PIX_HLT_PORT_STAT_MASS i, R.TILE_EPOCH_CLAIMED i, R.TILE_SEQ_DN_NEXT i]) ++ (words (capAddr port 0) 12))))
  ∧ (∀ (s : State) (port : Fin 24),
      ∃ t, exec (.capRequestTimer port) s = .next t
        ∧ s.onlyChanges t [.host, .ports, .twin] [R.TILE_LANE_STATUS_STATE port, R.TILE_SEQ_DN_NEXT port])
  ∧ (∀ (s : State) (port : Fin 24),
      ∃ t, exec (.echoTimer port) s = .next t
        ∧ s.onlyChanges t [.host, .ports, .twin] [R.TILE_LANE_STATUS_STATE port, R.TILE_SEQ_DN_NEXT port])
  ∧ (∀ (s : State) (port : Fin 24) (id : Nat),
      ∃ t, exec (.echoTimeout port id) s = .next t
        ∧ s.onlyChanges t [.host, .ports] [])
  ∧ (∀ (s : State) (port : Fin 24) (seq : Nat) (body : List Byte),
      ∃ t, exec (.healthReceived port seq body) s = .next t
        ∧ (s.onlyChanges t (reactParts ++ [.pix]) ([R.PIX_HLT_COUNT_A_FAULTS, R.PIX_HLT_COUNT_B_DISCARDED, R.PIX_HLT_COUNT_C_LATE_HEALTH, R.SAFE_TILE_HELD_PORTS, R.PIX_HLT_PORT_STAT_STALL port, R.TILE_CNT_UP_UP_FAIL port, R.TILE_CNT_UP_UP_GAP port, R.TILE_SEQ_UP_EXPECT port] ++ reactFields ++ (each 24 fun i => [R.PIX_HLT_PORT_RPT_LAST_US i, R.PIX_HLT_PORT_RPT_MAX_US i, R.PIX_HLT_PORT_STAT_DEFECTS i, R.PIX_HLT_PORT_STAT_FULL i, R.PIX_HLT_PORT_STAT_MASS i, R.PIX_HLT_PORT_STAT_TILE_HELD i]))))
  ∧ (∀ (s : State) (port : Fin 24),
      ∃ t, exec (.massFault port) s = .next t
        ∧ (s.onlyChanges t (reactParts) ([R.SAFE_TILE_HELD_PORTS, R.PIX_HLT_PORT_STAT_MASS port] ++ reactFields ++ (each 24 fun i => [R.PIX_HLT_PORT_STAT_TILE_HELD i]))))
  ∧ (∀ (s : State) (port : Fin 24),
      ∃ t, exec (.isolationTimeout port) s = .next t
        ∧ s.onlyChanges t (reactParts ++ [.pix]) ([R.SAFE_TILE_HELD_PORTS, R.PIX_HLT_PORT_STAT_TILE_HELD port] ++ reactFields))
  ∧ (∀ (s : State) (port : Fin 24),
      ∃ t, exec (.healthStall port) s = .next t
        ∧ s.onlyChanges t [.events, .host] ([R.SAFE_FAULT_ACT_HI_ACTIVE, R.SAFE_FAULT_ACT_LO_ACTIVE, R.SAFE_FAULT_FIRST_CODE, R.SAFE_FAULT_FIRST_INSTANCE, R.SAFE_FAULT_LAST_CODE, R.SAFE_FAULT_LAST_INSTANCE, R.PIX_HLT_PORT_STAT_STALL port] ++ eventFields))
  ∧ (∀ (s : State) (port : Fin 24) (scan : Nat),
      ∃ t, exec (.sampleDeadline port scan) s = .next t
        ∧ s.onlyChanges t [.host, .pix] [R.PIX_HLT_COUNT_A_SUSPECT_CLEARED, R.PIX_HLT_COUNT_C_QUEUE_DROP])
  ∧ (∀ (s : State) (port : Fin 24),
      ∃ t, exec (.baselineCapture port) s = .next t
        ∧ s.onlyChanges t [.events, .host, .mode, .pix] ([R.PIX_HLT_PORT_STAT_CAPTURING port, R.PIX_HLT_PORT_STAT_MASS port] ++ eventFields ++ offFields ++ idleFields))
  ∧ (∀ (s : State) (port : Fin 24),
      ∃ t, exec (.baselineCaptureDone port) s = .next t
        ∧ s.onlyChanges t [.events, .host, .pix] ([R.PIX_HLT_PORT_STAT_BASE_LOADED port, R.PIX_HLT_PORT_STAT_CAPTURING port] ++ eventFields))
  ∧ (∀ (s : State),
      ∃ t, exec (.twinEnable) s = .next t
        ∧ (s.onlyChanges t [.events, .host, .mode, .ports, .twin] ([R.SAFE_FAULT_ACT_HI_ACTIVE, R.SAFE_FAULT_ACT_LO_ACTIVE, R.TWIN_CTRL_EN, R.TWIN_STATUS_LINKS, R.TWIN_STATUS_PAIR_REFUSED, R.TWIN_STATUS_PEER_SILENT, R.TWIN_STATUS_ROLE] ++ eventFields ++ offFields ++ idleFields ++ (each 2 fun i => [R.TWIN_LANE_CTRL_EN i, R.TWIN_LANE_STATUS_DESKEWED i, R.TWIN_LANE_STATUS_RATE i, R.TWIN_LANE_STATUS_STATE i, R.TWIN_PRBS_STAT_RUNNING i]) ++ (each 24 fun i => [R.TILE_LANE_STATUS_DN_RATE i, R.TILE_LANE_STATUS_STATE i, R.TILE_LANE_STATUS_UP_IDLE i, R.TILE_LANE_STATUS_UP_RATE i, R.TILE_PRBS_STAT_RUNNING i, R.TILE_PROTO_STATUS_TOTALITY_TX i, R.TILE_SEQ_DN_NEXT i, R.TILE_SEQ_UP_EXPECT i]))))
  ∧ (∀ (s : State),
      ∃ t, exec (.twinDisable) s = .next t
        ∧ s.onlyChanges t (alignParts) ([R.TWIN_CTRL_EN, R.TWIN_STATUS_PAIR_REFUSED, R.TWIN_STATUS_ROLE, R.TWIN_STATUS_YIELDING] ++ alignFields ++ offFields ++ idleFields))
  ∧ (∀ (s : State),
      ∃ t, exec (.twinHandover) s = .next t
        ∧ s.onlyChanges t [.events, .host, .mode, .twin] (eventFields ++ offFields ++ idleFields))
  ∧ (∀ (s : State),
      ∃ t, exec (.twinRejoin) s = .next t
        ∧ s.onlyChanges t [.events, .host, .mode] ([R.TWIN_STATUS_IMPAIRED] ++ eventFields ++ offFields ++ idleFields))
  ∧ (∀ (s : State) (peerLow : Bool),
      ∃ t, exec (.pairTimeout peerLow) s = .next t
        ∧ (s.onlyChanges t [.host, .ports, .twin] ([R.TWIN_STATUS_ROLE] ++ (each 24 fun i => [R.TILE_EPOCH_CLAIMED i, R.TILE_LANE_STATUS_STATE i, R.TILE_SEQ_DN_NEXT i]))))
  ∧ (∀ (s : State) (phase : Fin 8),
      ∃ t, exec (.heartbeatTick phase) s = .next t
        ∧ s.onlyChanges t [.host, .ports, .twin] [])
  ∧ (∀ (s : State) (link : Fin 2) (seq : Nat) (body : List Byte) (stamp : Nat),
      ∃ t, exec (.heartbeatReceived link seq body stamp) s = .next t
        ∧ (s.onlyChanges t [.events, .host, .ports, .seg, .twin, .free] ([R.SAFE_FAULT_ACT_HI_ACTIVE, R.SAFE_FAULT_ACT_LO_ACTIVE, R.SEG_STATUS_OFF_TOT, R.TWIN_CNT_C_LOST, R.TWIN_PEER_SPB_VALUE, R.TWIN_STATUS_LINKS, R.TWIN_STATUS_PAIR_REFUSED, R.TWIN_STATUS_PEER_SILENT, R.TWIN_STATUS_ROLE, R.TWIN_TIME_LAG_NS link] ++ eventFields ++ totFields ++ (each 2 fun i => [R.TWIN_LANE_STATUS_STATE i, R.TWIN_TIME_SKEW i]) ++ (each 24 fun i => [R.TILE_EPOCH_CLAIMED i, R.TILE_LANE_STATUS_STATE i, R.TILE_LANE_STATUS_UP_IDLE i, R.TILE_PRBS_BITS_COUNT i, R.TILE_PRBS_ERR_LOCAL_COUNT i, R.TILE_PRBS_STAT_RESYNC i, R.TILE_PRBS_STAT_RUNNING i, R.TILE_PRBS_STAT_SYNC i, R.TILE_PROTO_STATUS_TOTALITY_TX i, R.TILE_SEQ_DN_NEXT i]))))
  ∧ (∀ (s : State) (link : Fin 2) (seq : Nat) (body : List Byte),
      s.alone →
      ∃ t, exec (.alignReceived link seq body) s = .next t
        ∧ s.onlyChanges t [.host, .twin] [R.TWIN_CNT_C_LOST])
  ∧ (∀ (s : State) (link : Fin 2) (seq : Nat) (body : List Byte),
      ∃ t, exec (.alignReceived link seq body) s = .next t
        ∧ s.onlyChanges t (alignParts) (alignFields))
  ∧ (∀ (s : State) (link : Fin 2) (seq : Nat) (body : List Byte),
      ∃ t, exec (.latchReceived link seq body) s = .next t
        ∧ (s.onlyChanges t [.host, .pix, .safe, .twin] ([R.TWIN_CNT_C_LOST] ++ (each 4 fun i => [R.PIX_AIM_RATE_H i, R.PIX_AIM_RATE_V i, R.PIX_AIM_TARGET_H i, R.PIX_AIM_TARGET_V i]))))
  ∧ (∀ (s : State) (surf : Fin 4),
      ∃ t, exec (.digestSend surf) s = .next t
        ∧ s.onlyChanges t [.host, .ports, .twin] [])
  ∧ (∀ (s : State) (link : Fin 2) (seq : Nat) (body : List Byte),
      ∃ t, exec (.digestReceived link seq body) s = .next t
        ∧ s.onlyChanges t [.host, .twin] [R.TWIN_CNT_C_LOST])
  ∧ (∀ (s : State) (link : Fin 2) (seq : Nat) (body : List Byte),
      ∃ t, exec (.defectReceived link seq body) s = .next t
        ∧ s.onlyChanges t [.host, .pix, .twin] [R.TWIN_CNT_C_LOST])
  ∧ (∀ (s : State) (link : Fin 2) (seq : Nat) (body : List Byte),
      ∃ t, exec (.probeCopyReceived link seq body) s = .next t
        ∧ s.onlyChanges t [.host, .pix, .twin] [R.TWIN_CNT_C_LOST])
  ∧ (∀ (s : State) (link : Fin 2) (seq : Nat) (body : List Byte),
      ∃ t, exec (.arbitrateReceived link seq body) s = .next t
        ∧ (s.onlyChanges t (reactParts) ([R.TWIN_CNT_C_LOST, R.TWIN_STATUS_IMPAIRED] ++ reactFields ++ (each 24 fun i => [R.TILE_EPOCH_CLAIMED i]))))
  ∧ (∀ (s : State) (link : Fin 2),
      ∃ t, exec (.twinK280Received link) s = .next t
        ∧ s.onlyChanges t (reactParts) (reactFields))
  ∧ (∀ (s : State),
      ∃ t, exec (.leadSilent) s = .next t
        ∧ (s.onlyChanges t (reactParts) ([R.TWIN_STATUS_PEER_SILENT] ++ reactFields ++ (each 24 fun i => [R.TILE_EPOCH_CLAIMED i]))))
  ∧ (∀ (s : State) (command : Bool) (key : Nat),
      ∃ t, exec (.alignTimeout command key) s = .next t
        ∧ s.onlyChanges t (alignParts) ([R.TWIN_CNT_D_ORPHAN] ++ alignFields))
  ∧ (∀ (s : State) (surf : Fin 4),
      ∃ t, exec (.twinCompare surf) s = .next t
        ∧ s.onlyChanges t (reactParts) ([R.TWIN_CNT_A_MATCHED, R.TWIN_CNT_A_SKIPPED, R.TWIN_CNT_B_DISAGREE, R.TWIN_CNT_B_MISSED, R.TWIN_CNT_C_DIGEST_BAD, R.TWIN_DISAGREE_FRAME_FRAME] ++ reactFields))
  ∧ (∀ (s : State),
      ∃ t, exec (.arbitrateReplyTimeout) s = .next t
        ∧ (s.onlyChanges t [.events, .host, .ports, .twin] ([R.TWIN_STATUS_IMPAIRED] ++ eventFields ++ (each 24 fun i => [R.TILE_EPOCH_CLAIMED i, R.TILE_LANE_STATUS_STATE i, R.TILE_SEQ_DN_NEXT i]))))
  ∧ (∀ (s : State) (level : Bool),
      ∃ t, exec (.twinPeerSample level) s = .next t
        ∧ s.onlyChanges t [.host, .twin] [R.TWIN_STATUS_PEER_ALIVE])
  ∧ (∀ (s : State),
      ∃ t, exec (.safetyConfirm) s = .next t
        ∧ s.onlyChanges t [.host, .aon] [])
  ∧ (∀ (s : State),
      ∃ t, exec (.twinAliveDrop) s = .next t
        ∧ s.onlyChanges t [.host, .aon] [])

/-- What the commands of time, segments, temperature and calibration leave unchanged: the parts and fields that each may change. Commands that it says complete: syncReceived, announceReceived, pdelayReqTimer, pdelayReqReceived, pdelayRespReceived, syncReceiptTimeout, announceReceiptTimeout, slavePortSwitch, sgmiiLinkChange, clockStep, pwmPeriodBoundary, segPulseStart, segPulseEnd, segOvercurrent, segSyncEdge, segInternalTick, segChannelClear, segBankRun, segRailEnable, headroomUpdate, lossEstimate, segCurrentCheck, segBlankRelease, throttleUpdate, thermalShutdown, thermalShutdownClear, dieTempConversion, remoteTempConversion, calRun, calibrationItemDone, calibrationRunDone, calRetryTimer, oscCompensation, adcCheck. -/
def Obligations.FrameTimeSegmentsThermal : Prop :=
  (∀ (s : State) (port : Fin 2) (domain : Nat) (origin : Int) (since : Nat) (rho : Int),
      ∃ t, exec (.syncReceived port domain origin since rho) s = .next t
        ∧ (s.onlyChanges t [.clk, .events, .host, .gens, .pix, .ports, .net, .twin, .free] ([R.NET_OFFSET_NS, R.TIME_CNT_STEPS, R.TIME_INC_HI_NS, R.TIME_INC_LO_FRAC, R.TIME_STATUS_RESTORED, R.TIME_STATUS_SLEWING, R.TIME_STATUS_STATE, R.TIME_UNC_HI_UNC, R.TIME_UNC_LO_UNC, R.NET_PORT_CNT_ERR port, R.NET_PORT_CNT_SYNC_RX port] ++ eventFields ++ (each 4 fun i => [R.TG_STATUS_HOLDOVER i]) ++ (each 24 fun i => [R.TILE_LANE_STATUS_STATE i, R.TILE_SEQ_DN_NEXT i]))))
  ∧ (∀ (s : State) (port : Fin 2) (kind : Fin 3) (domain : Nat) (vector : List Nat) (gm : Nat),
      ∃ t, exec (.announceReceived port kind domain vector gm) s = .next t
        ∧ (s.onlyChanges t [.clk, .events, .host, .net] ([R.NET_GM_ID_HI_ID, R.NET_GM_ID_LO_ID, R.TIME_CNT_GM_CHANGES, R.TIME_INC_HI_NS, R.TIME_INC_LO_FRAC, R.TIME_STATUS_SLEWING, R.TIME_STATUS_STATE, R.TIME_UNC_HI_UNC, R.TIME_UNC_LO_UNC, R.NET_PORT_CNT_ERR port] ++ eventFields ++ (each 2 fun i => [R.NET_PORT_STATUS_ROLE i]) ++ (each 4 fun i => [R.TG_STATUS_HOLDOVER i]))))
  ∧ (∀ (s : State) (port : Fin 2),
      ∃ t, exec (.pdelayReqTimer port) s = .next t
        ∧ (s.onlyChanges t [.clk, .events, .host, .net] ([R.NET_GM_ID_HI_ID, R.NET_GM_ID_LO_ID, R.TIME_CNT_GM_CHANGES, R.TIME_INC_HI_NS, R.TIME_INC_LO_FRAC, R.TIME_STATUS_SLEWING, R.TIME_STATUS_STATE, R.TIME_UNC_HI_UNC, R.TIME_UNC_LO_UNC] ++ eventFields ++ (each 2 fun i => [R.NET_PORT_STATUS_AS_CAPABLE i, R.NET_PORT_STATUS_ROLE i]) ++ (each 4 fun i => [R.TG_STATUS_HOLDOVER i]))))
  ∧ (∀ (s : State) (port : Fin 2) (seq : Nat) (domain : Nat) (since : Nat) (wait : Nat),
      ∃ t, exec (.pdelayReqReceived port seq domain since wait) s = .next t
        ∧ s.onlyChanges t [.host] [R.NET_PORT_CNT_ERR port])
  ∧ (∀ (s : State) (port : Fin 2) (seq : Nat) (domain : Nat) (since : Nat) (peer : Int) (capable : Bool),
      ∃ t, exec (.pdelayRespReceived port seq domain since peer capable) s = .next t
        ∧ (s.onlyChanges t [.clk, .events, .host, .net] ([R.NET_GM_ID_HI_ID, R.NET_GM_ID_LO_ID, R.TIME_CNT_GM_CHANGES, R.TIME_INC_HI_NS, R.TIME_INC_LO_FRAC, R.TIME_STATUS_SLEWING, R.TIME_STATUS_STATE, R.TIME_UNC_HI_UNC, R.TIME_UNC_LO_UNC, R.NET_PORT_CNT_ERR port, R.NET_PORT_PDELAY_NS port, R.NET_PORT_STATUS_AS_CAPABLE port] ++ eventFields ++ (each 2 fun i => [R.NET_PORT_STATUS_ROLE i]) ++ (each 4 fun i => [R.TG_STATUS_HOLDOVER i]))))
  ∧ (∀ (s : State),
      ∃ t, exec (.syncReceiptTimeout) s = .next t
        ∧ (s.onlyChanges t [.clk, .events, .host] ([R.TIME_INC_HI_NS, R.TIME_INC_LO_FRAC, R.TIME_STATUS_SLEWING, R.TIME_STATUS_STATE, R.TIME_UNC_HI_UNC, R.TIME_UNC_LO_UNC] ++ eventFields ++ (each 4 fun i => [R.TG_STATUS_HOLDOVER i]))))
  ∧ (∀ (s : State) (port : Fin 2),
      ∃ t, exec (.announceReceiptTimeout port) s = .next t
        ∧ (s.onlyChanges t [.clk, .events, .host, .net] ([R.NET_GM_ID_HI_ID, R.NET_GM_ID_LO_ID, R.TIME_CNT_GM_CHANGES, R.TIME_INC_HI_NS, R.TIME_INC_LO_FRAC, R.TIME_STATUS_SLEWING, R.TIME_STATUS_STATE, R.TIME_UNC_HI_UNC, R.TIME_UNC_LO_UNC] ++ eventFields ++ (each 2 fun i => [R.NET_PORT_STATUS_ROLE i]) ++ (each 4 fun i => [R.TG_STATUS_HOLDOVER i]))))
  ∧ (∀ (s : State),
      ∃ t, exec (.slavePortSwitch) s = .next t
        ∧ (s.onlyChanges t [.clk, .events, .host, .net] ([R.NET_GM_ID_HI_ID, R.NET_GM_ID_LO_ID, R.TIME_CNT_GM_CHANGES, R.TIME_INC_HI_NS, R.TIME_INC_LO_FRAC, R.TIME_STATUS_SLEWING, R.TIME_STATUS_STATE, R.TIME_UNC_HI_UNC, R.TIME_UNC_LO_UNC] ++ eventFields ++ (each 2 fun i => [R.NET_PORT_STATUS_ROLE i]) ++ (each 4 fun i => [R.TG_STATUS_HOLDOVER i]))))
  ∧ (∀ (s : State) (port : Fin 2) (up : Bool) (speed : Fin 4),
      ∃ t, exec (.sgmiiLinkChange port up speed) s = .next t
        ∧ (s.onlyChanges t [.clk, .events, .host, .net] ([R.NET_GM_ID_HI_ID, R.NET_GM_ID_LO_ID, R.TIME_CNT_GM_CHANGES, R.TIME_INC_HI_NS, R.TIME_INC_LO_FRAC, R.TIME_STATUS_SLEWING, R.TIME_STATUS_STATE, R.TIME_UNC_HI_UNC, R.TIME_UNC_LO_UNC, R.NET_PORT_STATUS_AS_CAPABLE port, R.NET_PORT_STATUS_LINK port, R.NET_PORT_STATUS_SPEED port] ++ eventFields ++ (each 2 fun i => [R.NET_PORT_STATUS_ROLE i]) ++ (each 4 fun i => [R.TG_STATUS_HOLDOVER i]))))
  ∧ (∀ (s : State),
      ∃ t, exec (.clockStep) s = .next t
        ∧ (s.onlyChanges t [.clk, .host, .gens, .pix, .ports, .twin] ([R.TIME_CNT_STEPS] ++ (each 24 fun i => [R.TILE_LANE_STATUS_STATE i, R.TILE_SEQ_DN_NEXT i]))))
  ∧ (∀ (s : State),
      ∃ t, exec (.pwmPeriodBoundary) s = .next t
        ∧ (s.onlyChanges t [.submit, .events, .host, .seg, .therm] ([R.SEG_COUNT_LIMITED, R.SEG_STATUS_ARMED, R.SEG_STATUS_TOTAL_LIMITED, R.THERM_OSC_SEG_PPM] ++ headFields ++ [R.HOST_STATUS_CPL_STALL] ++ (each 12 fun i => [R.SEG_BANK_STAT_BUF i, R.SEG_BANK_STAT_LIMITED i, R.SEG_BANK_STAT_PEAK i, R.SEG_BANK_STAT_STEP i]))))
  ∧ (∀ (s : State) (ch : Fin 192),
      ∃ t, exec (.segPulseStart ch) s = .next t
        ∧ s.onlyChanges t [.host, .seg] [])
  ∧ (∀ (s : State) (ch : Fin 192) (mv : Nat) (lost : Bool) (nbs : List (Nat × Nat × Nat)),
      ∃ t, exec (.segPulseEnd ch mv lost nbs) s = .next t
        ∧ (s.onlyChanges t (reactParts) ([R.SEG_COUNT_FAULTS, R.SEG_STATUS_FAULT] ++ reactFields ++ (each 6 fun i => [R.SEG_FAULT_CH i]))))
  ∧ (∀ (s : State) (ch : Fin 192),
      ∃ t, exec (.segOvercurrent ch) s = .next t
        ∧ (s.onlyChanges t (reactParts) ([R.SEG_COUNT_FAULTS, R.SEG_STATUS_FAULT] ++ reactFields ++ (each 6 fun i => [R.SEG_FAULT_CH i]))))
  ∧ (∀ (s : State) (onBoundary : Bool) (highNs : Nat),
      ∃ t, exec (.segSyncEdge onBoundary highNs) s = .next t
        ∧ (s.onlyChanges t [.submit, .events, .host, .seg, .therm] ([R.SEG_COUNT_LIMITED, R.SEG_STATUS_ARMED, R.SEG_STATUS_TOTAL_LIMITED, R.THERM_OSC_SEG_PPM] ++ headFields ++ [R.HOST_STATUS_CPL_STALL] ++ (each 12 fun i => [R.SEG_BANK_STAT_BUF i, R.SEG_BANK_STAT_LIMITED i, R.SEG_BANK_STAT_PEAK i, R.SEG_BANK_STAT_STEP i]))))
  ∧ (∀ (s : State) (onBoundary : Bool),
      ∃ t, exec (.segInternalTick onBoundary) s = .next t
        ∧ (s.onlyChanges t [.clk, .ticks, .pins, .submit, .events, .host, .ports, .seg, .therm, .twin] ([R.SEG_COUNT_LIMITED, R.SEG_STATUS_ARMED, R.SEG_STATUS_TICK_FREE, R.SEG_STATUS_TOTAL_LIMITED, R.THERM_OSC_SEG_PPM, R.TIME_INC_HI_NS, R.TIME_INC_LO_FRAC, R.TIME_STATUS_SLEWING] ++ headFields ++ [R.HOST_STATUS_CPL_STALL] ++ (each 2 fun i => [R.TWIN_LANE_STATUS_STATE i]) ++ (each 12 fun i => [R.SEG_BANK_STAT_BUF i, R.SEG_BANK_STAT_LIMITED i, R.SEG_BANK_STAT_PEAK i, R.SEG_BANK_STAT_STEP i]) ++ (each 24 fun i => [R.TILE_LANE_STATUS_STATE i, R.TILE_SEQ_DN_NEXT i]))))
  ∧ (∀ (s : State) (word : Fin 6) (mask : Nat),
      ∃ t, exec (.segChannelClear word mask) s = .next t
        ∧ s.onlyChanges t [.events, .host, .mode, .seg] ([R.SAFE_FAULT_ACT_HI_ACTIVE, R.SAFE_FAULT_ACT_LO_ACTIVE, R.SEG_STATUS_FAULT, R.SEG_FAULT_CH word] ++ eventFields ++ offFields ++ idleFields))
  ∧ (∀ (s : State) (bank : Fin 12) (on : Bool),
      ∃ t, exec (.segBankRun bank on) s = .next t
        ∧ s.onlyChanges t [.events, .host, .mode, .seg] ([R.SEG_STATUS_RUNNING, R.SEG_BANK_CTRL_RUN bank] ++ eventFields ++ offFields ++ idleFields))
  ∧ (∀ (s : State) (rail : Fin 4) (on : Bool),
      ∃ t, exec (.segRailEnable rail on) s = .next t
        ∧ s.onlyChanges t [.events, .host, .sup, .mode, .seg] ([R.SAFE_FAULT_ACT_HI_ACTIVE, R.SAFE_FAULT_ACT_LO_ACTIVE, R.SEG_STATUS_FAULT, R.SEG_STATUS_RAIL_FAULT, R.SEG_RAIL_CFG_EN rail, R.SEG_RAIL_STAT_ERR rail] ++ eventFields ++ offFields ++ idleFields))
  ∧ (∀ (s : State),
      ∃ t, exec (.headroomUpdate) s = .next t
        ∧ s.onlyChanges t [.host, .sup, .seg] [])
  ∧ (∀ (s : State),
      ∃ t, exec (.lossEstimate) s = .next t
        ∧ s.onlyChanges t [.host, .seg] [R.SEG_LOSS_EST_LS, R.SEG_LOSS_EST_MW, R.SEG_STATUS_LOSS_LIMITED])
  ∧ (∀ (s : State) (ua : Nat),
      ∃ t, exec (.segCurrentCheck ua) s = .next t
        ∧ (s.onlyChanges t (reactParts) ([R.SEG_COUNT_FAULTS, R.SEG_STATUS_FAULT, R.TEST_ANA_SEG_FAIL] ++ reactFields ++ (each 6 fun i => [R.SEG_FAULT_CH i]))))
  ∧ (∀ (s : State),
      ∃ t, exec (.segBlankRelease) s = .next t
        ∧ s.onlyChanges t [.host, .seg] [R.SEG_STATUS_OFF_TOT])
  ∧ (∀ (s : State),
      ∃ t, exec (.throttleUpdate) s = .next t
        ∧ s.onlyChanges t [.events, .host, .ports, .seg, .therm] ([R.THERM_COUNT_STEPS, R.THERM_STATUS_CAL_BUSY, R.THERM_STATUS_CAL_PENDING, R.THERM_STATUS_GOV, R.THERM_STATUS_STEP, R.THERM_TEMP_GOV_T] ++ eventFields))
  ∧ (∀ (s : State),
      ∃ t, exec (.thermalShutdown) s = .next t
        ∧ s.onlyChanges t (reactParts) ([R.THERM_STATUS_SHUTDOWN] ++ reactFields))
  ∧ (∀ (s : State),
      ∃ t, exec (.thermalShutdownClear) s = .next t
        ∧ (s.onlyChanges t [.events, .host, .aon, .ports, .seg, .twin, .free] ([R.SAFE_FAULT_ACT_HI_ACTIVE, R.SAFE_FAULT_ACT_LO_ACTIVE, R.SEG_STATUS_OFF_TOT, R.THERM_STATUS_SHUTDOWN, R.TWIN_STATUS_LINKS] ++ eventFields ++ totFields ++ (each 2 fun i => [R.TWIN_LANE_STATUS_STATE i]) ++ (each 24 fun i => [R.TILE_LANE_STATUS_STATE i, R.TILE_LANE_STATUS_UP_IDLE i, R.TILE_PRBS_BITS_COUNT i, R.TILE_PRBS_ERR_LOCAL_COUNT i, R.TILE_PRBS_STAT_RESYNC i, R.TILE_PRBS_STAT_RUNNING i, R.TILE_PRBS_STAT_SYNC i, R.TILE_PROTO_STATUS_TOTALITY_TX i, R.TILE_SEQ_DN_NEXT i]))))
  ∧ (∀ (s : State) (temp : Int) (outside : Bool),
      ∃ t, exec (.dieTempConversion temp outside) s = .next t
        ∧ s.onlyChanges t [.events, .host, .therm] ([R.THERM_STATUS_CAL_BUSY, R.THERM_STATUS_CAL_PENDING, R.THERM_STATUS_RECOVERY, R.THERM_TEMP_DIE_T] ++ eventFields))
  ∧ (∀ (s : State) (channel : Fin 4) (uv : Nat) (dv : Nat),
      ∃ t, exec (.remoteTempConversion channel uv dv) s = .next t
        ∧ (s.onlyChanges t [.host, .therm] ([R.THERM_RCH_T_TEMP channel, R.THERM_RCH_T_VALID channel] ++ (each 4 fun i => [R.THERM_RCH_T_OPEN i, R.THERM_RCH_T_SHORT i]))))
  ∧ (∀ (s : State),
      ∃ t, exec (.calRun) s = .next t
        ∧ s.onlyChanges t [.events, .host, .mode, .therm] ([R.THERM_STATUS_CAL_BUSY, R.THERM_STATUS_CAL_PENDING] ++ eventFields ++ offFields ++ idleFields))
  ∧ (∀ (s : State) (first : List Int) (second : List Int),
      ∃ t, exec (.calibrationItemDone first second) s = .next t
        ∧ s.onlyChanges t (reactParts ++ [.therm]) ([R.THERM_CAL_STAT_FAIL_ITEM, R.THERM_OSC_LPO_PPM, R.THERM_STATUS_CAL_FAULT] ++ reactFields))
  ∧ (∀ (s : State),
      ∃ t, exec (.calibrationRunDone) s = .next t
        ∧ s.onlyChanges t [.host, .therm] [R.SAFE_FAULT_ACT_HI_ACTIVE, R.SAFE_FAULT_ACT_LO_ACTIVE, R.THERM_CAL_STAT_FAIL_RUNS, R.THERM_CAL_STAT_T_LAST, R.THERM_COUNT_CAL_RUNS, R.THERM_STATUS_CAL_BUSY, R.THERM_STATUS_CAL_FAULT, R.THERM_STATUS_CAL_PENDING, R.THERM_STATUS_RECOVERY, R.THERM_STATUS_STARTUP])
  ∧ (∀ (s : State),
      ∃ t, exec (.calRetryTimer) s = .next t
        ∧ s.onlyChanges t [.host, .therm] [R.THERM_STATUS_CAL_BUSY, R.THERM_STATUS_CAL_PENDING])
  ∧ (∀ (s : State),
      ∃ t, exec (.oscCompensation) s = .next t
        ∧ s.onlyChanges t [.host, .therm] [R.THERM_OSC_LPO_PPM, R.THERM_OSC_SEG_PPM])
  ∧ (∀ (s : State) (codes : List Nat) (predicted : List Nat),
      ∃ t, exec (.adcCheck codes predicted) s = .next t
        ∧ s.onlyChanges t [.events, .host, .therm] ([R.TEST_ANA_ADC_FAIL, R.THERM_STATUS_CAL_BUSY, R.THERM_STATUS_CAL_PENDING] ++ eventFields))

/-- What the commands of the self-test, memory, commissioning and the life cycle leave unchanged: the parts and fields that each may change. Commands that it says complete: loopbackCheck, loopbackCheckEnd, testEngineStart, testEngineDone, pixelStoreRead, scrubRead, sramEccError, commOpen, commClose, commSessionTimeout, lcAdvance, lcToField, lcKeyBurn, chalReq, lcEnter, lcLeave, lcRetire, challengeExpiry, lockoutExpiry, lcRecordTimer, debugAccessOpen. -/
def Obligations.FrameSoundingAndLife : Prop :=
  (∀ (s : State),
      ∃ t, exec (.loopbackCheck) s = .next t
        ∧ (s.onlyChanges t [.host, .ports, .twin] ([R.SAFE_FAULT_ACT_HI_ACTIVE, R.SAFE_FAULT_ACT_LO_ACTIVE, R.TWIN_STATUS_LINKS] ++ (each 2 fun i => [R.TWIN_LANE_STATUS_STATE i]) ++ (each 24 fun i => [R.TILE_LANE_STATUS_STATE i]))))
  ∧ (∀ (s : State) (port : Fin 24) (bits : List Bool),
      ∃ t, exec (.loopbackCheckEnd port bits) s = .next t
        ∧ s.onlyChanges t [.events, .host, .ports, .twin] ([R.SAFE_FAULT_ACT_HI_ACTIVE, R.SAFE_FAULT_ACT_LO_ACTIVE, R.TEST_ANA_LOOP_FAIL, R.TEST_LOOP_FAIL_PORTS, R.TWIN_STATUS_LINKS, R.TILE_LANE_STATUS_STATE port] ++ eventFields))
  ∧ (∀ (s : State) (unit : Fin 256) (kind : Fin 4),
      ∃ t, exec (.testEngineStart unit kind) s = .next t
        ∧ s.onlyChanges t [.events, .host, .mode, .test] ([R.TEST_ENG_CTRL_KIND, R.TEST_ENG_CTRL_UNIT, R.TEST_ENG_STATUS_DONE, R.TEST_ENG_STATUS_FAIL, R.TEST_ENG_STATUS_REFUSED, R.TEST_STATUS_ENG_BUSY] ++ eventFields ++ offFields ++ idleFields ++ refuseFields))
  ∧ (∀ (s : State) (errs : List Word),
      ∃ t, exec (.testEngineDone errs) s = .next t
        ∧ (s.onlyChanges t [.host, .pix, .test, .free] ([R.TEST_ENG_RESULT_MISR, R.TEST_ENG_STATUS_DONE, R.TEST_ENG_STATUS_FAIL, R.TEST_STATUS_ENG_BUSY] ++ (each 2 fun i => [R.PIX_SCALER_ARMED i]))))
  ∧ (∀ (s : State) (addr : Nat) (stored : List Byte) (region : Nat) (target : Nat) (index : Nat) (line : Nat),
      ∃ t, exec (.pixelStoreRead addr stored region target index line) s = .next t
        ∧ (s.onlyChanges t (reactParts ++ [.pix, .parkPats, .test]) ([R.MEM_ECC_CNT_A_CHECK_ONLY, R.MEM_ECC_CNT_A_CORRECTED, R.MEM_ECC_CNT_B_UNCORR, R.MEM_ECC_CNT_B_WRITEBACKS, R.MEM_ERR_ADDR_ADDR, R.MEM_ERR_INFO_LAST_SYMS, R.MEM_ERR_INFO_REGION, R.MEM_RELOAD_A_FALLBACK, R.MEM_RELOAD_A_GAIN, R.MEM_RELOAD_A_PARK, R.MEM_RELOAD_BASE_PORTS, R.MEM_RELOAD_DEFECT_PORTS] ++ reactFields ++ (each 4 fun i => [R.PIX_COMP_COUNT_NOT_READY i, R.PIX_MAPSTAT_FALLBACK_LOADED i]) ++ (each 24 fun i => [R.PIX_HLT_PORT_STAT_DEFECTS i]))))
  ∧ (∀ (s : State) (stored : List Byte) (region : Nat) (target : Nat) (index : Nat) (line : Nat),
      ∃ t, exec (.scrubRead stored region target index line) s = .next t
        ∧ (s.onlyChanges t (reactParts ++ [.pix, .parkPats, .test]) ([R.MEM_ECC_CNT_A_CHECK_ONLY, R.MEM_ECC_CNT_A_CORRECTED, R.MEM_ECC_CNT_B_UNCORR, R.MEM_ECC_CNT_B_WRITEBACKS, R.MEM_ERR_ADDR_ADDR, R.MEM_ERR_INFO_LAST_SYMS, R.MEM_ERR_INFO_REGION, R.MEM_RELOAD_A_FALLBACK, R.MEM_RELOAD_A_GAIN, R.MEM_RELOAD_A_PARK, R.MEM_RELOAD_BASE_PORTS, R.MEM_RELOAD_DEFECT_PORTS, R.MEM_SCRUB_STAT_LINE, R.MEM_STATUS_SCRUBBING] ++ reactFields ++ (each 4 fun i => [R.PIX_COMP_COUNT_NOT_READY i, R.PIX_MAPSTAT_FALLBACK_LOADED i]) ++ (each 24 fun i => [R.PIX_HLT_PORT_STAT_DEFECTS i]))))
  ∧ (∀ (s : State) (safe : Bool) (double : Bool) (word : Nat) (array : Nat) (user : Nat) (target : Nat) (index : Nat),
      ∃ t, exec (.sramEccError safe double word array user target index) s = .next t
        ∧ (s.onlyChanges t (reactParts ++ [.pix]) ([R.PIX_COMP_STATUS_BUSY, R.PIX_COMP_STATUS_SURF, R.PIX_HLT_COUNT_B_DISCARDED, R.PIX_SHADE_USED_HI_USED, R.PIX_SHADE_USED_LO_USED, R.TEST_CNT_B_SRAM_CORR, R.TEST_CNT_B_SRAM_UNCORR] ++ reactFields ++ (each 4 fun i => [R.TG_COUNT_COMPOSE_OVERRUN i, R.TG_STATUS_COMPOSING i]) ++ (each 7 fun i => [R.HOST_RING_COUNT_DESC_REJECT i, R.HOST_RING_STATUS_HALTED i, R.HOST_RING_STATUS_RUNNING i]) ++ (each 24 fun i => [R.TILE_CNT_DN_LINES_LOST i]))))
  ∧ (∀ (s : State),
      ∃ t, exec (.commOpen) s = .next t
        ∧ s.onlyChanges t [.events, .host, .mode, .safe] ([R.SAFE_COMM_STATUS_SESSION] ++ eventFields ++ offFields ++ idleFields))
  ∧ (∀ (s : State),
      ∃ t, exec (.commClose) s = .next t
        ∧ s.onlyChanges t [.events, .host, .mode, .safe] ([R.PWR_MODE_BUSY, R.PWR_MODE_TARGET, R.SAFE_COMM_CONFIRM_VALUE, R.SAFE_COMM_STATUS_CONFIRMED, R.SAFE_COMM_STATUS_SESSION, R.SAFE_COMM_STATUS_STAGED, R.SAFE_SPB_STAGED_VALUE] ++ eventFields ++ offFields ++ idleFields))
  ∧ (∀ (s : State),
      ∃ t, exec (.commSessionTimeout) s = .next t
        ∧ s.onlyChanges t [.host, .mode, .safe] ([R.PWR_MODE_BUSY, R.PWR_MODE_TARGET, R.SAFE_COMM_CONFIRM_VALUE, R.SAFE_COMM_STATUS_CONFIRMED, R.SAFE_COMM_STATUS_SESSION, R.SAFE_COMM_STATUS_STAGED, R.SAFE_SPB_STAGED_VALUE] ++ idleFields))
  ∧ (∀ (s : State),
      ∃ t, exec (.lcAdvance) s = .next t
        ∧ s.onlyChanges t [.events, .host, .mode, .boot, .safe] ([R.BOOT_LC_PERMS_PERMS, R.BOOT_LC_STATUS_REFUSED, R.BOOT_STATUS_DBG_OPEN, R.BOOT_STATUS_LC, R.PWR_MODE_BUSY, R.PWR_MODE_TARGET, R.SAFE_COMM_CONFIRM_VALUE, R.SAFE_COMM_STATUS_CONFIRMED, R.SAFE_COMM_STATUS_SESSION, R.SAFE_COMM_STATUS_STAGED, R.SAFE_SPB_STAGED_VALUE, R.TEST_STATUS_ENG_ALLOWED] ++ eventFields ++ offFields ++ idleFields ++ refuseFields))
  ∧ (∀ (s : State),
      ∃ t, exec (.lcToField) s = .next t
        ∧ s.onlyChanges t [.events, .host, .mode, .boot, .safe] ([R.BOOT_LC_PERMS_PERMS, R.BOOT_LC_STATUS_REFUSED, R.BOOT_STATUS_DBG_OPEN, R.BOOT_STATUS_LC, R.PWR_MODE_BUSY, R.PWR_MODE_TARGET, R.SAFE_COMM_CONFIRM_VALUE, R.SAFE_COMM_STATUS_CONFIRMED, R.SAFE_COMM_STATUS_SESSION, R.SAFE_COMM_STATUS_STAGED, R.SAFE_SPB_STAGED_VALUE, R.TEST_STATUS_ENG_ALLOWED] ++ eventFields ++ offFields ++ idleFields ++ refuseFields))
  ∧ (∀ (s : State),
      ∃ t, exec (.lcKeyBurn) s = .next t
        ∧ s.onlyChanges t [.events, .host, .mode, .boot] ([R.BOOT_LC_STATUS_REFUSED, R.BOOT_STATUS_SVC_KEY] ++ eventFields ++ offFields ++ idleFields ++ refuseFields))
  ∧ (∀ (s : State),
      ∃ t, exec (.chalReq) s = .next t
        ∧ (s.onlyChanges t [.events, .host, .mode, .boot] ([R.BOOT_LC_STATUS_CHAL_VALID] ++ eventFields ++ offFields ++ idleFields ++ (each 8 fun i => [R.BOOT_LC_CHAL_CHAL i]))))
  ∧ (∀ (s : State),
      ∃ t, exec (.lcEnter) s = .next t
        ∧ s.onlyChanges t [.events, .host, .mode, .flash, .boot, .safe] ([R.BOOT_LC_PERMS_PERMS, R.BOOT_LC_STATUS_CHAL_VALID, R.BOOT_LC_STATUS_LAST, R.BOOT_LC_STATUS_LOCKED, R.BOOT_LC_STATUS_LOCK_S, R.BOOT_STATUS_DBG_OPEN, R.BOOT_STATUS_LC, R.PWR_MODE_BUSY, R.PWR_MODE_TARGET, R.PWR_RESET_LC_FAILS, R.SAFE_COMM_CONFIRM_VALUE, R.SAFE_COMM_STATUS_CONFIRMED, R.SAFE_COMM_STATUS_SESSION, R.SAFE_COMM_STATUS_STAGED, R.SAFE_SPB_STAGED_VALUE, R.TEST_STATUS_ENG_ALLOWED] ++ eventFields ++ offFields ++ idleFields))
  ∧ (∀ (s : State),
      ∃ t, exec (.lcLeave) s = .next t
        ∧ s.onlyChanges t [.events, .host, .mode, .safe] ([R.BOOT_LC_PERMS_PERMS, R.BOOT_STATUS_DBG_OPEN, R.BOOT_STATUS_LC, R.PWR_MODE_BUSY, R.PWR_MODE_TARGET, R.SAFE_COMM_CONFIRM_VALUE, R.SAFE_COMM_STATUS_CONFIRMED, R.SAFE_COMM_STATUS_SESSION, R.SAFE_COMM_STATUS_STAGED, R.SAFE_SPB_STAGED_VALUE, R.TEST_STATUS_ENG_ALLOWED] ++ eventFields ++ offFields ++ idleFields))
  ∧ (∀ (s : State),
      ∃ t, exec (.lcRetire) s = .next t
        ∧ s.onlyChanges t [.events, .host, .mode, .boot, .safe] ([R.BOOT_LC_PERMS_PERMS, R.BOOT_LC_STATUS_REFUSED, R.BOOT_STATUS_DBG_OPEN, R.BOOT_STATUS_LC, R.BOOT_STATUS_SVC_KEY, R.PWR_MODE_BUSY, R.PWR_MODE_TARGET, R.SAFE_COMM_CONFIRM_VALUE, R.SAFE_COMM_STATUS_CONFIRMED, R.SAFE_COMM_STATUS_SESSION, R.SAFE_COMM_STATUS_STAGED, R.SAFE_SPB_STAGED_VALUE, R.TEST_STATUS_ENG_ALLOWED] ++ eventFields ++ offFields ++ idleFields ++ refuseFields))
  ∧ (∀ (s : State),
      ∃ t, exec (.challengeExpiry) s = .next t
        ∧ s.onlyChanges t [.host] [R.BOOT_LC_STATUS_CHAL_VALID])
  ∧ (∀ (s : State),
      ∃ t, exec (.lockoutExpiry) s = .next t
        ∧ s.onlyChanges t [.host, .boot] [R.BOOT_LC_STATUS_LOCKED, R.BOOT_LC_STATUS_LOCK_S, R.PWR_RESET_LC_FAILS])
  ∧ (∀ (s : State),
      ∃ t, exec (.lcRecordTimer) s = .next t
        ∧ s.onlyChanges t [.host, .flash, .boot] [])
  ∧ (∀ (s : State),
      ∃ t, exec (.debugAccessOpen) s = .next t
        ∧ (s.onlyChanges t [.events, .host, .ports, .seg, .twin, .free] ([R.BOOT_STATUS_DBG_OPEN, R.SAFE_FAULT_ACT_HI_ACTIVE, R.SAFE_FAULT_ACT_LO_ACTIVE, R.SEG_STATUS_OFF_TOT, R.TWIN_STATUS_LINKS] ++ eventFields ++ totFields ++ (each 2 fun i => [R.TWIN_LANE_STATUS_STATE i]) ++ (each 24 fun i => [R.TILE_LANE_STATUS_STATE i, R.TILE_LANE_STATUS_UP_IDLE i, R.TILE_PRBS_BITS_COUNT i, R.TILE_PRBS_ERR_LOCAL_COUNT i, R.TILE_PRBS_STAT_RESYNC i, R.TILE_PRBS_STAT_RUNNING i, R.TILE_PRBS_STAT_SYNC i, R.TILE_PROTO_STATUS_TOTALITY_TX i, R.TILE_SEQ_DN_NEXT i]))))

/-- A step runs the command at the front of the queue -/
def Obligations.StepRunsTheFront : Prop :=
  ∀ (c : Instr) (s : State), step { s with pending := c :: s.pending } = exec c s

/-- On an empty queue one timebase tick passes (DESIGN CHOICE, log entry 3), which advances local time as R433 gives. -/
def Obligations.IdleTickAddsTheIncrement : Prop :=
  ∀ s : State, s.pending = [] →
    ∃ t, step s = .next t ∧ t.pending = [] ∧ t.ticks = s.ticks + 1
      ∧ (s.domOn 9 = false ∨ s.clk.slewQ = 0 ∨ 1 < s.slewTicks → t.regs = s.regs ∧ t.clk.slewQ = s.clk.slewQ)
      ∧ (s.domOn 9 = true → s.slewTicks ≤ 1 → s.clk.slewQ ≠ 0 →
          t.regs = ((s.setInc s.baseQ).fsetb R.TIME_STATUS_SLEWING false).regs ∧ t.clk.slewQ = 0)
      ∧ (s.domOn 9 = true → t.clkQ = s.clkQ + s.passedQ 1 ∧ t.clk.ns < 1000000000 ∧ t.clk.frac < 2 ^ 32)
      ∧ (s.domOn 9 = false → t.clk = s.clk)

/-- The state in reset -/
def Obligations.ResetState : Prop :=
  State.reset.pending = [] ∧ State.reset.out = []
  ∧ (∀ a : Nat, State.reset.rd a = regGet resetWords a)
  ∧ (∀ d : Nat, 1 ≤ d → d < 12 → State.reset.domOn d = false)
  ∧ State.reset.settledPins ∧ State.reset.shape ∧ State.reset.filesWf

/-- Every command answers a next state and leaves the queue alone -/
def Obligations.EveryCommandCompletes : Prop :=
  ∀ (c : Instr) (s : State), ∃ t, exec c s = .next t ∧ t.pending = s.pending

/-- FAULT_A_N and FAULT_B_N follow the faults, and keep their level while DIE-D is in reset -/
def Obligations.FaultPinsFollowTheFaults : Prop :=
  (∀ s t : State, s.settledPins → step s = .next t → t.settledPins)
  ∧ (∀ (c : Instr) (s t : State), exec c s = .next t → t.settledPins)
  ∧ (∀ (c : Instr) (s t : State) (f : Nat), exec c s = .next t →
      1 ≤ f → f < 41 → faultDrivesPins f = true → t.faultOn f = true → t.aon.faultPins = true)
  ∧ (∀ (c : Instr) (s t : State), exec c s = .next t → t.fbit R.PWR_RESET_STUCK_RESET = true → t.aon.faultPins = true)
  ∧ (∀ s t : State, exec .resetNAssert s = .next t → s.inSentinel = false → s.aon.faultPins = true → t.aon.faultPins = true)
  ∧ (∀ (c : Instr) (s t : State), (∀ a b : Bool, c ≠ .powerOnReset a b ∧ c ≠ .collapseResetTimeout a) → exec c s = .next t → s.aon.resetHeld = true → s.inSentinel = false → s.aon.faultPins = true →
      t.aon.resetHeld = true → t.inSentinel = false → t.aon.faultPins = true)

/-- Every step keeps the sizes of the arrays -/
def Obligations.StepKeepsShape : Prop :=
  ∀ s t : State, s.shape → step s = .next t → t.shape

/-- Every step keeps the canonical form of the register files -/
def Obligations.StepKeepsRegisterFiles : Prop :=
  ∀ s t : State, s.filesWf → step s = .next t → t.filesWf

/-- SERVICE ends on LEAVE, RESET_N, power-on reset or SENTINEL -/
def Obligations.ServiceEnds : Prop :=
  (∀ s : State, s.domOn 5 = true → s.blockOff 0xE0010 = false → s.domOn 2 = true → s.fget R.BOOT_STATUS_LC = lcService → s.boot.otpLc < 3 →
      ∃ t, exec .lcLeave s = .next t ∧ t.fget R.BOOT_STATUS_LC = s.boot.otpLc)
  ∧ (∀ s : State, s.domOn 2 = true → s.aon.resetHeld = false → s.inSentinel = false →
      ∃ t, exec .resetNAssert s = .next t ∧ t.fget R.BOOT_STATUS_LC ≠ lcService)
  ∧ (∀ (s : State) (a b : Bool), ∃ t, exec (.powerOnReset a b) s = .next t ∧ t.fget R.BOOT_STATUS_LC ≠ lcService)
  ∧ (∀ (c : Instr) (s t : State), exec c s = .next t → s.domOn 2 = true → s.fbit R.PWR_MODE_BUSY = false →
      t.fbit R.PWR_MODE_BUSY = true → t.fget R.PWR_MODE_TARGET = 0 → t.fget R.BOOT_STATUS_LC ≠ lcService)

/-- BLANK forces every TILE_EN low while RESET_N is low -/
def Obligations.BlankInReset : Prop :=
  (∀ (s : State) (p : Nat), s.aon.resetHeld = true → (bitOf s.pins.raw 2 = true ∨ bitOf s.pins.raw 3 = true) → s.tileEn p = false)
  ∧ (∀ (s : State) (b : Bool), s.aon.resetHeld = true →
      ∃ t, exec (.blankAssert b) s = .next t ∧ t.aon.resetHeld = true ∧ ∀ p : Nat, t.tileEn p = false)
end

