-- ==== Sys2Proof/Laws/Regs.lean ====
section
/-! SUPPORT. The laws of the register file: a field reads what was written to it, every other field reads as before, and the canonical form is kept. -/

namespace Sys2Proof.Machine

/-! ## The file -/

theorem regGet_regDel_same (r : RegFile) (x : Nat) : regGet (regDel r x) x = 0 := by
  induction r with
  | nil => rfl
  | cons e t ih =>
    obtain ⟨a, v⟩ := e
    by_cases h : x = a
    · simp [regDel, h] at *; simpa [h] using ih
    · simp [regDel, regGet, h, ih]

theorem regGet_regDel_other (r : RegFile) (x y : Nat) (h : y ≠ x) : regGet (regDel r x) y = regGet r y := by
  induction r with
  | nil => rfl
  | cons e t ih =>
    obtain ⟨a, v⟩ := e
    by_cases hx : x = a
    · subst hx; simp [regDel, regGet, h, ih]
    · by_cases hy : y = a
      · simp [regDel, regGet, hx, hy]
      · simp [regDel, regGet, hx, hy, ih]

theorem regGet_regIns_other (r : RegFile) (x y : Nat) (w : Word) (h : y ≠ x) : regGet (regIns r x w) y = regGet r y := by
  induction r with
  | nil => simp [regIns, regGet, h]
  | cons e t ih =>
    obtain ⟨a, v⟩ := e
    by_cases hx : x < a
    · simp [regIns, hx, regGet, h]
    · by_cases hy : y = a <;> simp [regIns, hx, regGet, hy, ih]

/-- Whether an offset is listed. -/
theorem regGet_regIns_same (r : RegFile) (x : Nat) (w : Word) : regGet (regIns (regDel r x) x w) x = w := by
  induction r with
  | nil => simp [regDel, regIns, regGet]
  | cons e t ih =>
    obtain ⟨a, v⟩ := e
    by_cases hx : x = a
    · simpa [regDel, hx] using (by simpa [hx] using ih)
    · by_cases hl : x < a
      · simp [regDel, hx, regIns, hl, regGet]
      · simp [regDel, hx, regIns, hl, regGet, ih]

theorem regGet_regPut_same (r : RegFile) (x : Nat) (w : Word) : regGet (regPut r x w) x = w := by
  unfold regPut
  split
  · simp_all [regGet_regDel_same]
  · exact regGet_regIns_same r x w

theorem regGet_regPut_other (r : RegFile) (x y : Nat) (w : Word) (h : y ≠ x) : regGet (regPut r x w) y = regGet r y := by
  unfold regPut
  split
  · exact regGet_regDel_other r x y h
  · rw [regGet_regIns_other _ _ _ _ h, regGet_regDel_other _ _ _ h]

/-! ## Bits of a word -/

theorem wordSet_low_lt (w : Word) (lo width v : Nat) : w.toNat % 2 ^ lo + v % 2 ^ width * 2 ^ lo < 2 ^ (lo + width) := by
  have hv : v % 2 ^ width + 1 ≤ 2 ^ width := Nat.mod_lt _ (Nat.two_pow_pos width)
  have hlo : w.toNat % 2 ^ lo < 2 ^ lo := Nat.mod_lt _ (Nat.two_pow_pos lo)
  have h2 := Nat.mul_le_mul_right (2 ^ lo) hv
  rw [Nat.add_mul, Nat.one_mul, ← Nat.pow_add, Nat.add_comm width lo] at h2
  omega

/-- The bits below, inside and above the field that was replaced. -/
theorem wordSet_toNat (w : Word) (lo width v : Nat) (h : lo + width ≤ 32) :
    (wordSet w lo width v).toNat
      = w.toNat % 2 ^ lo + v % 2 ^ width * 2 ^ lo + w.toNat / 2 ^ (lo + width) * 2 ^ (lo + width) := by
  have hb := wordSet_low_lt w lo width v
  have he : 2 ^ 32 = 2 ^ (32 - (lo + width)) * 2 ^ (lo + width) := by
    rw [← Nat.pow_add, Nat.sub_add_cancel h]
  have hd : w.toNat / 2 ^ (lo + width) + 1 ≤ 2 ^ (32 - (lo + width)) := by
    rw [Nat.succ_le_iff, Nat.div_lt_iff_lt_mul (Nat.two_pow_pos _), ← he]; exact w.isLt
  have h2 := Nat.mul_le_mul_right (2 ^ (lo + width)) hd
  rw [← he, Nat.add_mul, Nat.one_mul] at h2
  unfold wordSet
  rw [BitVec.toNat_ofNat, Nat.mod_eq_of_lt (by omega)]

theorem wordField_wordSet_same (w : Word) (lo width v : Nat) (h : lo + width ≤ 32) :
    wordField (wordSet w lo width v) lo width = v % 2 ^ width := by
  unfold wordField
  rw [wordSet_toNat w lo width v h]
  have : w.toNat % 2 ^ lo + v % 2 ^ width * 2 ^ lo + w.toNat / 2 ^ (lo + width) * 2 ^ (lo + width)
      = w.toNat % 2 ^ lo + 2 ^ lo * (v % 2 ^ width + w.toNat / 2 ^ (lo + width) * 2 ^ width) := by
    rw [Nat.pow_add]; ring
  rw [this, Nat.add_mul_div_left _ _ (Nat.two_pow_pos lo), Nat.div_eq_of_lt (Nat.mod_lt _ (Nat.two_pow_pos lo)), Nat.zero_add,
    Nat.add_mul_mod_self_right, Nat.mod_mod]

theorem wordField_wordSet_above (w : Word) (lo width v lo' width' : Nat) (h : lo + width ≤ lo') (h' : lo' + width' ≤ 32) :
    wordField (wordSet w lo width v) lo' width' = wordField w lo' width' := by
  by_cases h0 : width' = 0
  · subst h0; simp [wordField, Nat.mod_one]
  unfold wordField
  rw [wordSet_toNat w lo width v (by omega)]
  have hsplit : 2 ^ lo' = 2 ^ (lo + width) * 2 ^ (lo' - (lo + width)) := by
    rw [← Nat.pow_add, Nat.add_sub_cancel' h]
  rw [hsplit, ← Nat.div_div_eq_div_mul, ← Nat.div_div_eq_div_mul, Nat.add_mul_div_right _ _ (Nat.two_pow_pos _),
    Nat.div_eq_of_lt (wordSet_low_lt w lo width v), Nat.zero_add]

/-- A field below bit `lo` depends on the bits below `lo` alone. -/
theorem low_field (n lo lo' width' : Nat) (h : lo' + width' ≤ lo) : n / 2 ^ lo' % 2 ^ width' = n % 2 ^ lo / 2 ^ lo' % 2 ^ width' := by
  have e : 2 ^ lo = 2 ^ lo' * 2 ^ (lo - lo') := by rw [← Nat.pow_add, Nat.add_sub_cancel' (by omega)]
  rw [e, Nat.mod_mul_right_div_self, Nat.mod_mod_of_dvd]
  exact Nat.pow_dvd_pow 2 (by omega)

theorem wordField_wordSet_below (w : Word) (lo width v lo' width' : Nat) (h : lo' + width' ≤ lo) (h' : lo + width ≤ 32) :
    wordField (wordSet w lo width v) lo' width' = wordField w lo' width' := by
  unfold wordField
  rw [wordSet_toNat w lo width v h', low_field _ lo _ _ h, low_field w.toNat lo _ _ h]
  have : w.toNat % 2 ^ lo + v % 2 ^ width * 2 ^ lo + w.toNat / 2 ^ (lo + width) * 2 ^ (lo + width)
      = w.toNat % 2 ^ lo + 2 ^ lo * (v % 2 ^ width + w.toNat / 2 ^ (lo + width) * 2 ^ width) := by
    rw [Nat.pow_add]; ring
  rw [this, Nat.add_mul_mod_self_left, Nat.mod_mod]

/-! ## Fields -/

/-- Two fields share no bit. -/
def Fld.apart (f g : Fld) : Bool := f.addr != g.addr || decide (f.lo + f.width ≤ g.lo) || decide (g.lo + g.width ≤ f.lo)

/-- A field lies inside its register. -/
def Fld.fits (f : Fld) : Bool := decide (f.lo + f.width ≤ 32)

theorem fget_fset_same (s : State) (f : Fld) (v : Nat) (h : f.lo + f.width ≤ 32) : (s.fset f v).fget f = v % 2 ^ f.width := by
  simp [State.fget, State.fset, State.wr, State.rd, regGet_regPut_same, wordField_wordSet_same _ _ _ _ h]

theorem fget_fset_addr (s : State) (f g : Fld) (v : Nat) (h : g.addr ≠ f.addr) : (s.fset f v).fget g = s.fget g := by
  simp [State.fget, State.fset, State.wr, State.rd, regGet_regPut_other _ _ _ _ h]

theorem fget_fset_apart (s : State) (f g : Fld) (v : Nat) (h : f.apart g = true) (hf : f.fits = true) (hg : g.fits = true) :
    (s.fset f v).fget g = s.fget g := by
  by_cases ha : g.addr = f.addr
  · simp [Fld.apart, Fld.fits, ha] at h hf hg
    rcases h with h | h
    · simp [State.fget, State.fset, State.wr, State.rd, ha, regGet_regPut_same, wordField_wordSet_above _ _ _ _ _ _ h hg]
    · simp [State.fget, State.fset, State.wr, State.rd, ha, regGet_regPut_same, wordField_wordSet_below _ _ _ _ _ _ h hf]
  · exact fget_fset_addr s f g v ha

theorem fbit_fsetb_same (s : State) (f : Fld) (b : Bool) (h : f.lo + f.width ≤ 32) (hw : f.width = 1) : (s.fsetb f b).fbit f = b := by
  simp [State.fbit, State.fsetb, fget_fset_same _ _ _ h, hw]
  cases b <;> simp [b2n]

theorem rd_wr_same (s : State) (a : Nat) (w : Word) : (s.wr a w).rd a = w := regGet_regPut_same _ _ _

theorem rd_wr_other (s : State) (a b : Nat) (w : Word) (h : b ≠ a) : (s.wr a w).rd b = s.rd b := regGet_regPut_other _ _ _ _ h

end Sys2Proof.Machine
end

