-- ==== Sys2Proof/Laws/State.lean ====
section
/-! SUPPORT. Each named update of State, field by field: what it changes and that it leaves the rest. -/

namespace Sys2Proof.Machine

variable (s : State)

@[simp] theorem State.setFlash_regs (f : FlashSt → FlashSt) : (s.setFlash f).regs = s.regs := rfl
@[simp] theorem State.setFlash_fregs (f : FlashSt → FlashSt) : (s.setFlash f).fregs = s.fregs := rfl
@[simp] theorem State.setFlash_clk (f : FlashSt → FlashSt) : (s.setFlash f).clk = s.clk := rfl
@[simp] theorem State.setFlash_ticks (f : FlashSt → FlashSt) : (s.setFlash f).ticks = s.ticks := rfl
@[simp] theorem State.setFlash_pins (f : FlashSt → FlashSt) : (s.setFlash f).pins = s.pins := rfl
@[simp] theorem State.setFlash_host (f : FlashSt → FlashSt) : (s.setFlash f).host = s.host := rfl
@[simp] theorem State.setFlash_ring (f : FlashSt → FlashSt) (k : Nat) : (s.setFlash f).ring k = s.ring k := by simp [State.ring]
@[simp] theorem State.setFlash_cmds (f : FlashSt → FlashSt) : (s.setFlash f).cmds = s.cmds := rfl
@[simp] theorem State.setFlash_sup (f : FlashSt → FlashSt) : (s.setFlash f).sup = s.sup := rfl
@[simp] theorem State.setFlash_mode (f : FlashSt → FlashSt) : (s.setFlash f).mode = s.mode := rfl
@[simp] theorem State.setFlash_flash (f : FlashSt → FlashSt) : (s.setFlash f).flash = f s.flash := rfl
@[simp] theorem State.setFlash_boot (f : FlashSt → FlashSt) : (s.setFlash f).boot = s.boot := rfl
@[simp] theorem State.setFlash_sleep (f : FlashSt → FlashSt) : (s.setFlash f).sleep = s.sleep := rfl
@[simp] theorem State.setFlash_gens (f : FlashSt → FlashSt) : (s.setFlash f).gens = s.gens := rfl
@[simp] theorem State.setFlash_pix (f : FlashSt → FlashSt) : (s.setFlash f).pix = s.pix := rfl
@[simp] theorem State.setFlash_safe (f : FlashSt → FlashSt) : (s.setFlash f).safe = s.safe := rfl
@[simp] theorem State.setFlash_aon (f : FlashSt → FlashSt) : (s.setFlash f).aon = s.aon := rfl
@[simp] theorem State.setFlash_ports (f : FlashSt → FlashSt) : (s.setFlash f).ports = s.ports := rfl
@[simp] theorem State.setFlash_parkPats (f : FlashSt → FlashSt) : (s.setFlash f).parkPats = s.parkPats := rfl
@[simp] theorem State.setFlash_seg (f : FlashSt → FlashSt) : (s.setFlash f).seg = s.seg := rfl
@[simp] theorem State.setFlash_therm (f : FlashSt → FlashSt) : (s.setFlash f).therm = s.therm := rfl
@[simp] theorem State.setFlash_net (f : FlashSt → FlashSt) : (s.setFlash f).net = s.net := rfl
@[simp] theorem State.setFlash_twin (f : FlashSt → FlashSt) : (s.setFlash f).twin = s.twin := rfl
@[simp] theorem State.setFlash_test (f : FlashSt → FlashSt) : (s.setFlash f).test = s.test := rfl
@[simp] theorem State.setFlash_out (f : FlashSt → FlashSt) : (s.setFlash f).out = s.out := rfl
@[simp] theorem State.setFlash_free (f : FlashSt → FlashSt) : (s.setFlash f).free = s.free := rfl
@[simp] theorem State.setFlash_pending (f : FlashSt → FlashSt) : (s.setFlash f).pending = s.pending := rfl
@[simp] theorem State.setFlash_fget (f : FlashSt → FlashSt) (g : Fld) : (s.setFlash f).fget g = s.fget g := rfl
@[simp] theorem State.setFlash_fbit (f : FlashSt → FlashSt) (g : Fld) : (s.setFlash f).fbit g = s.fbit g := rfl
@[simp] theorem State.setFlash_rd (f : FlashSt → FlashSt) (x : Nat) : (s.setFlash f).rd x = s.rd x := rfl
@[simp] theorem State.setFlash_domOn (f : FlashSt → FlashSt) (x : Nat) : (s.setFlash f).domOn x = s.domOn x := rfl

@[simp] theorem State.setBoot_regs (f : BootSt → BootSt) : (s.setBoot f).regs = s.regs := rfl
@[simp] theorem State.setBoot_fregs (f : BootSt → BootSt) : (s.setBoot f).fregs = s.fregs := rfl
@[simp] theorem State.setBoot_clk (f : BootSt → BootSt) : (s.setBoot f).clk = s.clk := rfl
@[simp] theorem State.setBoot_ticks (f : BootSt → BootSt) : (s.setBoot f).ticks = s.ticks := rfl
@[simp] theorem State.setBoot_pins (f : BootSt → BootSt) : (s.setBoot f).pins = s.pins := rfl
@[simp] theorem State.setBoot_host (f : BootSt → BootSt) : (s.setBoot f).host = s.host := rfl
@[simp] theorem State.setBoot_ring (f : BootSt → BootSt) (k : Nat) : (s.setBoot f).ring k = s.ring k := by simp [State.ring]
@[simp] theorem State.setBoot_cmds (f : BootSt → BootSt) : (s.setBoot f).cmds = s.cmds := rfl
@[simp] theorem State.setBoot_sup (f : BootSt → BootSt) : (s.setBoot f).sup = s.sup := rfl
@[simp] theorem State.setBoot_mode (f : BootSt → BootSt) : (s.setBoot f).mode = s.mode := rfl
@[simp] theorem State.setBoot_flash (f : BootSt → BootSt) : (s.setBoot f).flash = s.flash := rfl
@[simp] theorem State.setBoot_boot (f : BootSt → BootSt) : (s.setBoot f).boot = f s.boot := rfl
@[simp] theorem State.setBoot_sleep (f : BootSt → BootSt) : (s.setBoot f).sleep = s.sleep := rfl
@[simp] theorem State.setBoot_gens (f : BootSt → BootSt) : (s.setBoot f).gens = s.gens := rfl
@[simp] theorem State.setBoot_pix (f : BootSt → BootSt) : (s.setBoot f).pix = s.pix := rfl
@[simp] theorem State.setBoot_safe (f : BootSt → BootSt) : (s.setBoot f).safe = s.safe := rfl
@[simp] theorem State.setBoot_aon (f : BootSt → BootSt) : (s.setBoot f).aon = s.aon := rfl
@[simp] theorem State.setBoot_ports (f : BootSt → BootSt) : (s.setBoot f).ports = s.ports := rfl
@[simp] theorem State.setBoot_parkPats (f : BootSt → BootSt) : (s.setBoot f).parkPats = s.parkPats := rfl
@[simp] theorem State.setBoot_seg (f : BootSt → BootSt) : (s.setBoot f).seg = s.seg := rfl
@[simp] theorem State.setBoot_therm (f : BootSt → BootSt) : (s.setBoot f).therm = s.therm := rfl
@[simp] theorem State.setBoot_net (f : BootSt → BootSt) : (s.setBoot f).net = s.net := rfl
@[simp] theorem State.setBoot_twin (f : BootSt → BootSt) : (s.setBoot f).twin = s.twin := rfl
@[simp] theorem State.setBoot_test (f : BootSt → BootSt) : (s.setBoot f).test = s.test := rfl
@[simp] theorem State.setBoot_out (f : BootSt → BootSt) : (s.setBoot f).out = s.out := rfl
@[simp] theorem State.setBoot_free (f : BootSt → BootSt) : (s.setBoot f).free = s.free := rfl
@[simp] theorem State.setBoot_pending (f : BootSt → BootSt) : (s.setBoot f).pending = s.pending := rfl
@[simp] theorem State.setBoot_fget (f : BootSt → BootSt) (g : Fld) : (s.setBoot f).fget g = s.fget g := rfl
@[simp] theorem State.setBoot_fbit (f : BootSt → BootSt) (g : Fld) : (s.setBoot f).fbit g = s.fbit g := rfl
@[simp] theorem State.setBoot_rd (f : BootSt → BootSt) (x : Nat) : (s.setBoot f).rd x = s.rd x := rfl
@[simp] theorem State.setBoot_domOn (f : BootSt → BootSt) (x : Nat) : (s.setBoot f).domOn x = s.domOn x := rfl

@[simp] theorem State.setHl_regs (p : Nat) (f : Health → Health) : (s.setHl p f).regs = s.regs := rfl
@[simp] theorem State.setHl_fregs (p : Nat) (f : Health → Health) : (s.setHl p f).fregs = s.fregs := rfl
@[simp] theorem State.setHl_clk (p : Nat) (f : Health → Health) : (s.setHl p f).clk = s.clk := rfl
@[simp] theorem State.setHl_ticks (p : Nat) (f : Health → Health) : (s.setHl p f).ticks = s.ticks := rfl
@[simp] theorem State.setHl_pins (p : Nat) (f : Health → Health) : (s.setHl p f).pins = s.pins := rfl
@[simp] theorem State.setHl_host (p : Nat) (f : Health → Health) : (s.setHl p f).host = s.host := rfl
@[simp] theorem State.setHl_ring (p : Nat) (f : Health → Health) (k : Nat) : (s.setHl p f).ring k = s.ring k := by simp [State.ring]
@[simp] theorem State.setHl_cmds (p : Nat) (f : Health → Health) : (s.setHl p f).cmds = s.cmds := rfl
@[simp] theorem State.setHl_sup (p : Nat) (f : Health → Health) : (s.setHl p f).sup = s.sup := rfl
@[simp] theorem State.setHl_mode (p : Nat) (f : Health → Health) : (s.setHl p f).mode = s.mode := rfl
@[simp] theorem State.setHl_flash (p : Nat) (f : Health → Health) : (s.setHl p f).flash = s.flash := rfl
@[simp] theorem State.setHl_boot (p : Nat) (f : Health → Health) : (s.setHl p f).boot = s.boot := rfl
@[simp] theorem State.setHl_sleep (p : Nat) (f : Health → Health) : (s.setHl p f).sleep = s.sleep := rfl
@[simp] theorem State.setHl_gens (p : Nat) (f : Health → Health) : (s.setHl p f).gens = s.gens := rfl
@[simp] theorem State.setHl_safe (p : Nat) (f : Health → Health) : (s.setHl p f).safe = s.safe := rfl
@[simp] theorem State.setHl_aon (p : Nat) (f : Health → Health) : (s.setHl p f).aon = s.aon := rfl
@[simp] theorem State.setHl_ports (p : Nat) (f : Health → Health) : (s.setHl p f).ports = s.ports := rfl
@[simp] theorem State.setHl_parkPats (p : Nat) (f : Health → Health) : (s.setHl p f).parkPats = s.parkPats := rfl
@[simp] theorem State.setHl_seg (p : Nat) (f : Health → Health) : (s.setHl p f).seg = s.seg := rfl
@[simp] theorem State.setHl_therm (p : Nat) (f : Health → Health) : (s.setHl p f).therm = s.therm := rfl
@[simp] theorem State.setHl_net (p : Nat) (f : Health → Health) : (s.setHl p f).net = s.net := rfl
@[simp] theorem State.setHl_twin (p : Nat) (f : Health → Health) : (s.setHl p f).twin = s.twin := rfl
@[simp] theorem State.setHl_test (p : Nat) (f : Health → Health) : (s.setHl p f).test = s.test := rfl
@[simp] theorem State.setHl_out (p : Nat) (f : Health → Health) : (s.setHl p f).out = s.out := rfl
@[simp] theorem State.setHl_free (p : Nat) (f : Health → Health) : (s.setHl p f).free = s.free := rfl
@[simp] theorem State.setHl_pending (p : Nat) (f : Health → Health) : (s.setHl p f).pending = s.pending := rfl
@[simp] theorem State.setHl_fget (p : Nat) (f : Health → Health) (g : Fld) : (s.setHl p f).fget g = s.fget g := rfl
@[simp] theorem State.setHl_fbit (p : Nat) (f : Health → Health) (g : Fld) : (s.setHl p f).fbit g = s.fbit g := rfl
@[simp] theorem State.setHl_rd (p : Nat) (f : Health → Health) (x : Nat) : (s.setHl p f).rd x = s.rd x := rfl
@[simp] theorem State.setHl_domOn (p : Nat) (f : Health → Health) (x : Nat) : (s.setHl p f).domOn x = s.domOn x := rfl

@[simp] theorem State.setLink_regs (t : Nat) (f : TwinLink → TwinLink) : (s.setLink t f).regs = s.regs := rfl
@[simp] theorem State.setLink_fregs (t : Nat) (f : TwinLink → TwinLink) : (s.setLink t f).fregs = s.fregs := rfl
@[simp] theorem State.setLink_clk (t : Nat) (f : TwinLink → TwinLink) : (s.setLink t f).clk = s.clk := rfl
@[simp] theorem State.setLink_ticks (t : Nat) (f : TwinLink → TwinLink) : (s.setLink t f).ticks = s.ticks := rfl
@[simp] theorem State.setLink_pins (t : Nat) (f : TwinLink → TwinLink) : (s.setLink t f).pins = s.pins := rfl
@[simp] theorem State.setLink_host (t : Nat) (f : TwinLink → TwinLink) : (s.setLink t f).host = s.host := rfl
@[simp] theorem State.setLink_ring (t : Nat) (f : TwinLink → TwinLink) (k : Nat) : (s.setLink t f).ring k = s.ring k := by simp [State.ring]
@[simp] theorem State.setLink_cmds (t : Nat) (f : TwinLink → TwinLink) : (s.setLink t f).cmds = s.cmds := rfl
@[simp] theorem State.setLink_sup (t : Nat) (f : TwinLink → TwinLink) : (s.setLink t f).sup = s.sup := rfl
@[simp] theorem State.setLink_mode (t : Nat) (f : TwinLink → TwinLink) : (s.setLink t f).mode = s.mode := rfl
@[simp] theorem State.setLink_flash (t : Nat) (f : TwinLink → TwinLink) : (s.setLink t f).flash = s.flash := rfl
@[simp] theorem State.setLink_boot (t : Nat) (f : TwinLink → TwinLink) : (s.setLink t f).boot = s.boot := rfl
@[simp] theorem State.setLink_sleep (t : Nat) (f : TwinLink → TwinLink) : (s.setLink t f).sleep = s.sleep := rfl
@[simp] theorem State.setLink_gens (t : Nat) (f : TwinLink → TwinLink) : (s.setLink t f).gens = s.gens := rfl
@[simp] theorem State.setLink_pix (t : Nat) (f : TwinLink → TwinLink) : (s.setLink t f).pix = s.pix := rfl
@[simp] theorem State.setLink_safe (t : Nat) (f : TwinLink → TwinLink) : (s.setLink t f).safe = s.safe := rfl
@[simp] theorem State.setLink_aon (t : Nat) (f : TwinLink → TwinLink) : (s.setLink t f).aon = s.aon := rfl
@[simp] theorem State.setLink_ports (t : Nat) (f : TwinLink → TwinLink) : (s.setLink t f).ports = s.ports := rfl
@[simp] theorem State.setLink_parkPats (t : Nat) (f : TwinLink → TwinLink) : (s.setLink t f).parkPats = s.parkPats := rfl
@[simp] theorem State.setLink_seg (t : Nat) (f : TwinLink → TwinLink) : (s.setLink t f).seg = s.seg := rfl
@[simp] theorem State.setLink_therm (t : Nat) (f : TwinLink → TwinLink) : (s.setLink t f).therm = s.therm := rfl
@[simp] theorem State.setLink_net (t : Nat) (f : TwinLink → TwinLink) : (s.setLink t f).net = s.net := rfl
@[simp] theorem State.setLink_test (t : Nat) (f : TwinLink → TwinLink) : (s.setLink t f).test = s.test := rfl
@[simp] theorem State.setLink_out (t : Nat) (f : TwinLink → TwinLink) : (s.setLink t f).out = s.out := rfl
@[simp] theorem State.setLink_free (t : Nat) (f : TwinLink → TwinLink) : (s.setLink t f).free = s.free := rfl
@[simp] theorem State.setLink_pending (t : Nat) (f : TwinLink → TwinLink) : (s.setLink t f).pending = s.pending := rfl
@[simp] theorem State.setLink_fget (t : Nat) (f : TwinLink → TwinLink) (g : Fld) : (s.setLink t f).fget g = s.fget g := rfl
@[simp] theorem State.setLink_fbit (t : Nat) (f : TwinLink → TwinLink) (g : Fld) : (s.setLink t f).fbit g = s.fbit g := rfl
@[simp] theorem State.setLink_rd (t : Nat) (f : TwinLink → TwinLink) (x : Nat) : (s.setLink t f).rd x = s.rd x := rfl
@[simp] theorem State.setLink_domOn (t : Nat) (f : TwinLink → TwinLink) (x : Nat) : (s.setLink t f).domOn x = s.domOn x := rfl

@[simp] theorem State.setMode_regs (f : ModeSt → ModeSt) : (s.setMode f).regs = s.regs := rfl
@[simp] theorem State.setMode_fregs (f : ModeSt → ModeSt) : (s.setMode f).fregs = s.fregs := rfl
@[simp] theorem State.setMode_clk (f : ModeSt → ModeSt) : (s.setMode f).clk = s.clk := rfl
@[simp] theorem State.setMode_ticks (f : ModeSt → ModeSt) : (s.setMode f).ticks = s.ticks := rfl
@[simp] theorem State.setMode_pins (f : ModeSt → ModeSt) : (s.setMode f).pins = s.pins := rfl
@[simp] theorem State.setMode_host (f : ModeSt → ModeSt) : (s.setMode f).host = s.host := rfl
@[simp] theorem State.setMode_ring (f : ModeSt → ModeSt) (k : Nat) : (s.setMode f).ring k = s.ring k := by simp [State.ring]
@[simp] theorem State.setMode_cmds (f : ModeSt → ModeSt) : (s.setMode f).cmds = s.cmds := rfl
@[simp] theorem State.setMode_sup (f : ModeSt → ModeSt) : (s.setMode f).sup = s.sup := rfl
@[simp] theorem State.setMode_mode (f : ModeSt → ModeSt) : (s.setMode f).mode = f s.mode := rfl
@[simp] theorem State.setMode_flash (f : ModeSt → ModeSt) : (s.setMode f).flash = s.flash := rfl
@[simp] theorem State.setMode_boot (f : ModeSt → ModeSt) : (s.setMode f).boot = s.boot := rfl
@[simp] theorem State.setMode_sleep (f : ModeSt → ModeSt) : (s.setMode f).sleep = s.sleep := rfl
@[simp] theorem State.setMode_gens (f : ModeSt → ModeSt) : (s.setMode f).gens = s.gens := rfl
@[simp] theorem State.setMode_pix (f : ModeSt → ModeSt) : (s.setMode f).pix = s.pix := rfl
@[simp] theorem State.setMode_safe (f : ModeSt → ModeSt) : (s.setMode f).safe = s.safe := rfl
@[simp] theorem State.setMode_aon (f : ModeSt → ModeSt) : (s.setMode f).aon = s.aon := rfl
@[simp] theorem State.setMode_ports (f : ModeSt → ModeSt) : (s.setMode f).ports = s.ports := rfl
@[simp] theorem State.setMode_parkPats (f : ModeSt → ModeSt) : (s.setMode f).parkPats = s.parkPats := rfl
@[simp] theorem State.setMode_seg (f : ModeSt → ModeSt) : (s.setMode f).seg = s.seg := rfl
@[simp] theorem State.setMode_therm (f : ModeSt → ModeSt) : (s.setMode f).therm = s.therm := rfl
@[simp] theorem State.setMode_net (f : ModeSt → ModeSt) : (s.setMode f).net = s.net := rfl
@[simp] theorem State.setMode_twin (f : ModeSt → ModeSt) : (s.setMode f).twin = s.twin := rfl
@[simp] theorem State.setMode_test (f : ModeSt → ModeSt) : (s.setMode f).test = s.test := rfl
@[simp] theorem State.setMode_out (f : ModeSt → ModeSt) : (s.setMode f).out = s.out := rfl
@[simp] theorem State.setMode_free (f : ModeSt → ModeSt) : (s.setMode f).free = s.free := rfl
@[simp] theorem State.setMode_pending (f : ModeSt → ModeSt) : (s.setMode f).pending = s.pending := rfl
@[simp] theorem State.setMode_fget (f : ModeSt → ModeSt) (g : Fld) : (s.setMode f).fget g = s.fget g := rfl
@[simp] theorem State.setMode_fbit (f : ModeSt → ModeSt) (g : Fld) : (s.setMode f).fbit g = s.fbit g := rfl
@[simp] theorem State.setMode_rd (f : ModeSt → ModeSt) (x : Nat) : (s.setMode f).rd x = s.rd x := rfl
@[simp] theorem State.setMode_domOn (f : ModeSt → ModeSt) (x : Nat) : (s.setMode f).domOn x = s.domOn x := rfl

@[simp] theorem State.wr_regs (a : Nat) (w : Word) : (s.wr a w).regs = regPut s.regs a w := rfl
@[simp] theorem State.wr_fregs (a : Nat) (w : Word) : (s.wr a w).fregs = s.fregs := rfl
@[simp] theorem State.wr_clk (a : Nat) (w : Word) : (s.wr a w).clk = s.clk := rfl
@[simp] theorem State.wr_ticks (a : Nat) (w : Word) : (s.wr a w).ticks = s.ticks := rfl
@[simp] theorem State.wr_pins (a : Nat) (w : Word) : (s.wr a w).pins = s.pins := rfl
@[simp] theorem State.wr_host (a : Nat) (w : Word) : (s.wr a w).host = s.host := rfl
@[simp] theorem State.wr_ring (a : Nat) (w : Word) (k : Nat) : (s.wr a w).ring k = s.ring k := by simp [State.ring]
@[simp] theorem State.wr_cmds (a : Nat) (w : Word) : (s.wr a w).cmds = s.cmds := rfl
@[simp] theorem State.wr_sup (a : Nat) (w : Word) : (s.wr a w).sup = s.sup := rfl
@[simp] theorem State.wr_mode (a : Nat) (w : Word) : (s.wr a w).mode = s.mode := rfl
@[simp] theorem State.wr_flash (a : Nat) (w : Word) : (s.wr a w).flash = s.flash := rfl
@[simp] theorem State.wr_boot (a : Nat) (w : Word) : (s.wr a w).boot = s.boot := rfl
@[simp] theorem State.wr_sleep (a : Nat) (w : Word) : (s.wr a w).sleep = s.sleep := rfl
@[simp] theorem State.wr_gens (a : Nat) (w : Word) : (s.wr a w).gens = s.gens := rfl
@[simp] theorem State.wr_pix (a : Nat) (w : Word) : (s.wr a w).pix = s.pix := rfl
@[simp] theorem State.wr_safe (a : Nat) (w : Word) : (s.wr a w).safe = s.safe := rfl
@[simp] theorem State.wr_aon (a : Nat) (w : Word) : (s.wr a w).aon = s.aon := rfl
@[simp] theorem State.wr_ports (a : Nat) (w : Word) : (s.wr a w).ports = s.ports := rfl
@[simp] theorem State.wr_parkPats (a : Nat) (w : Word) : (s.wr a w).parkPats = s.parkPats := rfl
@[simp] theorem State.wr_seg (a : Nat) (w : Word) : (s.wr a w).seg = s.seg := rfl
@[simp] theorem State.wr_therm (a : Nat) (w : Word) : (s.wr a w).therm = s.therm := rfl
@[simp] theorem State.wr_net (a : Nat) (w : Word) : (s.wr a w).net = s.net := rfl
@[simp] theorem State.wr_twin (a : Nat) (w : Word) : (s.wr a w).twin = s.twin := rfl
@[simp] theorem State.wr_test (a : Nat) (w : Word) : (s.wr a w).test = s.test := rfl
@[simp] theorem State.wr_out (a : Nat) (w : Word) : (s.wr a w).out = s.out := rfl
@[simp] theorem State.wr_free (a : Nat) (w : Word) : (s.wr a w).free = s.free := rfl
@[simp] theorem State.wr_pending (a : Nat) (w : Word) : (s.wr a w).pending = s.pending := rfl

@[simp] theorem State.fset_fregs (f : Fld) (v : Nat) : (s.fset f v).fregs = s.fregs := rfl
@[simp] theorem State.fset_clk (f : Fld) (v : Nat) : (s.fset f v).clk = s.clk := rfl
@[simp] theorem State.fset_ticks (f : Fld) (v : Nat) : (s.fset f v).ticks = s.ticks := rfl
@[simp] theorem State.fset_pins (f : Fld) (v : Nat) : (s.fset f v).pins = s.pins := rfl
@[simp] theorem State.fset_host (f : Fld) (v : Nat) : (s.fset f v).host = s.host := rfl
@[simp] theorem State.fset_ring (f : Fld) (v : Nat) (k : Nat) : (s.fset f v).ring k = s.ring k := by simp [State.ring]
@[simp] theorem State.fset_cmds (f : Fld) (v : Nat) : (s.fset f v).cmds = s.cmds := rfl
@[simp] theorem State.fset_sup (f : Fld) (v : Nat) : (s.fset f v).sup = s.sup := rfl
@[simp] theorem State.fset_mode (f : Fld) (v : Nat) : (s.fset f v).mode = s.mode := rfl
@[simp] theorem State.fset_flash (f : Fld) (v : Nat) : (s.fset f v).flash = s.flash := rfl
@[simp] theorem State.fset_boot (f : Fld) (v : Nat) : (s.fset f v).boot = s.boot := rfl
@[simp] theorem State.fset_sleep (f : Fld) (v : Nat) : (s.fset f v).sleep = s.sleep := rfl
@[simp] theorem State.fset_gens (f : Fld) (v : Nat) : (s.fset f v).gens = s.gens := rfl
@[simp] theorem State.fset_pix (f : Fld) (v : Nat) : (s.fset f v).pix = s.pix := rfl
@[simp] theorem State.fset_safe (f : Fld) (v : Nat) : (s.fset f v).safe = s.safe := rfl
@[simp] theorem State.fset_aon (f : Fld) (v : Nat) : (s.fset f v).aon = s.aon := rfl
@[simp] theorem State.fset_ports (f : Fld) (v : Nat) : (s.fset f v).ports = s.ports := rfl
@[simp] theorem State.fset_parkPats (f : Fld) (v : Nat) : (s.fset f v).parkPats = s.parkPats := rfl
@[simp] theorem State.fset_seg (f : Fld) (v : Nat) : (s.fset f v).seg = s.seg := rfl
@[simp] theorem State.fset_therm (f : Fld) (v : Nat) : (s.fset f v).therm = s.therm := rfl
@[simp] theorem State.fset_net (f : Fld) (v : Nat) : (s.fset f v).net = s.net := rfl
@[simp] theorem State.fset_twin (f : Fld) (v : Nat) : (s.fset f v).twin = s.twin := rfl
@[simp] theorem State.fset_test (f : Fld) (v : Nat) : (s.fset f v).test = s.test := rfl
@[simp] theorem State.fset_out (f : Fld) (v : Nat) : (s.fset f v).out = s.out := rfl
@[simp] theorem State.fset_free (f : Fld) (v : Nat) : (s.fset f v).free = s.free := rfl
@[simp] theorem State.fset_pending (f : Fld) (v : Nat) : (s.fset f v).pending = s.pending := rfl

@[simp] theorem State.fsetb_fregs (f : Fld) (b : Bool) : (s.fsetb f b).fregs = s.fregs := rfl
@[simp] theorem State.fsetb_clk (f : Fld) (b : Bool) : (s.fsetb f b).clk = s.clk := rfl
@[simp] theorem State.fsetb_ticks (f : Fld) (b : Bool) : (s.fsetb f b).ticks = s.ticks := rfl
@[simp] theorem State.fsetb_pins (f : Fld) (b : Bool) : (s.fsetb f b).pins = s.pins := rfl
@[simp] theorem State.fsetb_host (f : Fld) (b : Bool) : (s.fsetb f b).host = s.host := rfl
@[simp] theorem State.fsetb_ring (f : Fld) (b : Bool) (k : Nat) : (s.fsetb f b).ring k = s.ring k := by simp [State.ring]
@[simp] theorem State.fsetb_cmds (f : Fld) (b : Bool) : (s.fsetb f b).cmds = s.cmds := rfl
@[simp] theorem State.fsetb_sup (f : Fld) (b : Bool) : (s.fsetb f b).sup = s.sup := rfl
@[simp] theorem State.fsetb_mode (f : Fld) (b : Bool) : (s.fsetb f b).mode = s.mode := rfl
@[simp] theorem State.fsetb_flash (f : Fld) (b : Bool) : (s.fsetb f b).flash = s.flash := rfl
@[simp] theorem State.fsetb_boot (f : Fld) (b : Bool) : (s.fsetb f b).boot = s.boot := rfl
@[simp] theorem State.fsetb_sleep (f : Fld) (b : Bool) : (s.fsetb f b).sleep = s.sleep := rfl
@[simp] theorem State.fsetb_gens (f : Fld) (b : Bool) : (s.fsetb f b).gens = s.gens := rfl
@[simp] theorem State.fsetb_pix (f : Fld) (b : Bool) : (s.fsetb f b).pix = s.pix := rfl
@[simp] theorem State.fsetb_safe (f : Fld) (b : Bool) : (s.fsetb f b).safe = s.safe := rfl
@[simp] theorem State.fsetb_aon (f : Fld) (b : Bool) : (s.fsetb f b).aon = s.aon := rfl
@[simp] theorem State.fsetb_ports (f : Fld) (b : Bool) : (s.fsetb f b).ports = s.ports := rfl
@[simp] theorem State.fsetb_parkPats (f : Fld) (b : Bool) : (s.fsetb f b).parkPats = s.parkPats := rfl
@[simp] theorem State.fsetb_seg (f : Fld) (b : Bool) : (s.fsetb f b).seg = s.seg := rfl
@[simp] theorem State.fsetb_therm (f : Fld) (b : Bool) : (s.fsetb f b).therm = s.therm := rfl
@[simp] theorem State.fsetb_net (f : Fld) (b : Bool) : (s.fsetb f b).net = s.net := rfl
@[simp] theorem State.fsetb_twin (f : Fld) (b : Bool) : (s.fsetb f b).twin = s.twin := rfl
@[simp] theorem State.fsetb_test (f : Fld) (b : Bool) : (s.fsetb f b).test = s.test := rfl
@[simp] theorem State.fsetb_out (f : Fld) (b : Bool) : (s.fsetb f b).out = s.out := rfl
@[simp] theorem State.fsetb_free (f : Fld) (b : Bool) : (s.fsetb f b).free = s.free := rfl
@[simp] theorem State.fsetb_pending (f : Fld) (b : Bool) : (s.fsetb f b).pending = s.pending := rfl

@[simp] theorem State.fadd_fregs (f : Fld) (k : Nat) : (s.fadd f k).fregs = s.fregs := rfl
@[simp] theorem State.fadd_clk (f : Fld) (k : Nat) : (s.fadd f k).clk = s.clk := rfl
@[simp] theorem State.fadd_ticks (f : Fld) (k : Nat) : (s.fadd f k).ticks = s.ticks := rfl
@[simp] theorem State.fadd_pins (f : Fld) (k : Nat) : (s.fadd f k).pins = s.pins := rfl
@[simp] theorem State.fadd_host (f : Fld) (k : Nat) : (s.fadd f k).host = s.host := rfl
@[simp] theorem State.fadd_ring (f : Fld) (k : Nat) (m : Nat) : (s.fadd f k).ring m = s.ring m := by simp [State.ring]
@[simp] theorem State.fadd_cmds (f : Fld) (k : Nat) : (s.fadd f k).cmds = s.cmds := rfl
@[simp] theorem State.fadd_sup (f : Fld) (k : Nat) : (s.fadd f k).sup = s.sup := rfl
@[simp] theorem State.fadd_mode (f : Fld) (k : Nat) : (s.fadd f k).mode = s.mode := rfl
@[simp] theorem State.fadd_flash (f : Fld) (k : Nat) : (s.fadd f k).flash = s.flash := rfl
@[simp] theorem State.fadd_boot (f : Fld) (k : Nat) : (s.fadd f k).boot = s.boot := rfl
@[simp] theorem State.fadd_sleep (f : Fld) (k : Nat) : (s.fadd f k).sleep = s.sleep := rfl
@[simp] theorem State.fadd_gens (f : Fld) (k : Nat) : (s.fadd f k).gens = s.gens := rfl
@[simp] theorem State.fadd_pix (f : Fld) (k : Nat) : (s.fadd f k).pix = s.pix := rfl
@[simp] theorem State.fadd_safe (f : Fld) (k : Nat) : (s.fadd f k).safe = s.safe := rfl
@[simp] theorem State.fadd_aon (f : Fld) (k : Nat) : (s.fadd f k).aon = s.aon := rfl
@[simp] theorem State.fadd_ports (f : Fld) (k : Nat) : (s.fadd f k).ports = s.ports := rfl
@[simp] theorem State.fadd_parkPats (f : Fld) (k : Nat) : (s.fadd f k).parkPats = s.parkPats := rfl
@[simp] theorem State.fadd_seg (f : Fld) (k : Nat) : (s.fadd f k).seg = s.seg := rfl
@[simp] theorem State.fadd_therm (f : Fld) (k : Nat) : (s.fadd f k).therm = s.therm := rfl
@[simp] theorem State.fadd_net (f : Fld) (k : Nat) : (s.fadd f k).net = s.net := rfl
@[simp] theorem State.fadd_twin (f : Fld) (k : Nat) : (s.fadd f k).twin = s.twin := rfl
@[simp] theorem State.fadd_test (f : Fld) (k : Nat) : (s.fadd f k).test = s.test := rfl
@[simp] theorem State.fadd_out (f : Fld) (k : Nat) : (s.fadd f k).out = s.out := rfl
@[simp] theorem State.fadd_free (f : Fld) (k : Nat) : (s.fadd f k).free = s.free := rfl
@[simp] theorem State.fadd_pending (f : Fld) (k : Nat) : (s.fadd f k).pending = s.pending := rfl

@[simp] theorem State.fseti_fregs (f : Fld) (v : Int) : (s.fseti f v).fregs = s.fregs := rfl
@[simp] theorem State.fseti_clk (f : Fld) (v : Int) : (s.fseti f v).clk = s.clk := rfl
@[simp] theorem State.fseti_ticks (f : Fld) (v : Int) : (s.fseti f v).ticks = s.ticks := rfl
@[simp] theorem State.fseti_pins (f : Fld) (v : Int) : (s.fseti f v).pins = s.pins := rfl
@[simp] theorem State.fseti_host (f : Fld) (v : Int) : (s.fseti f v).host = s.host := rfl
@[simp] theorem State.fseti_ring (f : Fld) (v : Int) (k : Nat) : (s.fseti f v).ring k = s.ring k := by simp [State.ring]
@[simp] theorem State.fseti_cmds (f : Fld) (v : Int) : (s.fseti f v).cmds = s.cmds := rfl
@[simp] theorem State.fseti_sup (f : Fld) (v : Int) : (s.fseti f v).sup = s.sup := rfl
@[simp] theorem State.fseti_mode (f : Fld) (v : Int) : (s.fseti f v).mode = s.mode := rfl
@[simp] theorem State.fseti_flash (f : Fld) (v : Int) : (s.fseti f v).flash = s.flash := rfl
@[simp] theorem State.fseti_boot (f : Fld) (v : Int) : (s.fseti f v).boot = s.boot := rfl
@[simp] theorem State.fseti_sleep (f : Fld) (v : Int) : (s.fseti f v).sleep = s.sleep := rfl
@[simp] theorem State.fseti_gens (f : Fld) (v : Int) : (s.fseti f v).gens = s.gens := rfl
@[simp] theorem State.fseti_pix (f : Fld) (v : Int) : (s.fseti f v).pix = s.pix := rfl
@[simp] theorem State.fseti_safe (f : Fld) (v : Int) : (s.fseti f v).safe = s.safe := rfl
@[simp] theorem State.fseti_aon (f : Fld) (v : Int) : (s.fseti f v).aon = s.aon := rfl
@[simp] theorem State.fseti_ports (f : Fld) (v : Int) : (s.fseti f v).ports = s.ports := rfl
@[simp] theorem State.fseti_parkPats (f : Fld) (v : Int) : (s.fseti f v).parkPats = s.parkPats := rfl
@[simp] theorem State.fseti_seg (f : Fld) (v : Int) : (s.fseti f v).seg = s.seg := rfl
@[simp] theorem State.fseti_therm (f : Fld) (v : Int) : (s.fseti f v).therm = s.therm := rfl
@[simp] theorem State.fseti_net (f : Fld) (v : Int) : (s.fseti f v).net = s.net := rfl
@[simp] theorem State.fseti_twin (f : Fld) (v : Int) : (s.fseti f v).twin = s.twin := rfl
@[simp] theorem State.fseti_test (f : Fld) (v : Int) : (s.fseti f v).test = s.test := rfl
@[simp] theorem State.fseti_out (f : Fld) (v : Int) : (s.fseti f v).out = s.out := rfl
@[simp] theorem State.fseti_free (f : Fld) (v : Int) : (s.fseti f v).free = s.free := rfl
@[simp] theorem State.fseti_pending (f : Fld) (v : Int) : (s.fseti f v).pending = s.pending := rfl

@[simp] theorem State.domSet_fregs (d : Nat) (b : Bool) : (s.domSet d b).fregs = s.fregs := rfl
@[simp] theorem State.domSet_clk (d : Nat) (b : Bool) : (s.domSet d b).clk = s.clk := rfl
@[simp] theorem State.domSet_ticks (d : Nat) (b : Bool) : (s.domSet d b).ticks = s.ticks := rfl
@[simp] theorem State.domSet_pins (d : Nat) (b : Bool) : (s.domSet d b).pins = s.pins := rfl
@[simp] theorem State.domSet_host (d : Nat) (b : Bool) : (s.domSet d b).host = s.host := rfl
@[simp] theorem State.domSet_ring (d : Nat) (b : Bool) (k : Nat) : (s.domSet d b).ring k = s.ring k := by simp [State.ring]
@[simp] theorem State.domSet_cmds (d : Nat) (b : Bool) : (s.domSet d b).cmds = s.cmds := rfl
@[simp] theorem State.domSet_sup (d : Nat) (b : Bool) : (s.domSet d b).sup = s.sup := rfl
@[simp] theorem State.domSet_mode (d : Nat) (b : Bool) : (s.domSet d b).mode = s.mode := rfl
@[simp] theorem State.domSet_flash (d : Nat) (b : Bool) : (s.domSet d b).flash = s.flash := rfl
@[simp] theorem State.domSet_boot (d : Nat) (b : Bool) : (s.domSet d b).boot = s.boot := rfl
@[simp] theorem State.domSet_sleep (d : Nat) (b : Bool) : (s.domSet d b).sleep = s.sleep := rfl
@[simp] theorem State.domSet_gens (d : Nat) (b : Bool) : (s.domSet d b).gens = s.gens := rfl
@[simp] theorem State.domSet_pix (d : Nat) (b : Bool) : (s.domSet d b).pix = s.pix := rfl
@[simp] theorem State.domSet_safe (d : Nat) (b : Bool) : (s.domSet d b).safe = s.safe := rfl
@[simp] theorem State.domSet_aon (d : Nat) (b : Bool) : (s.domSet d b).aon = s.aon := rfl
@[simp] theorem State.domSet_ports (d : Nat) (b : Bool) : (s.domSet d b).ports = s.ports := rfl
@[simp] theorem State.domSet_parkPats (d : Nat) (b : Bool) : (s.domSet d b).parkPats = s.parkPats := rfl
@[simp] theorem State.domSet_seg (d : Nat) (b : Bool) : (s.domSet d b).seg = s.seg := rfl
@[simp] theorem State.domSet_therm (d : Nat) (b : Bool) : (s.domSet d b).therm = s.therm := rfl
@[simp] theorem State.domSet_net (d : Nat) (b : Bool) : (s.domSet d b).net = s.net := rfl
@[simp] theorem State.domSet_twin (d : Nat) (b : Bool) : (s.domSet d b).twin = s.twin := rfl
@[simp] theorem State.domSet_test (d : Nat) (b : Bool) : (s.domSet d b).test = s.test := rfl
@[simp] theorem State.domSet_out (d : Nat) (b : Bool) : (s.domSet d b).out = s.out := rfl
@[simp] theorem State.domSet_free (d : Nat) (b : Bool) : (s.domSet d b).free = s.free := rfl
@[simp] theorem State.domSet_pending (d : Nat) (b : Bool) : (s.domSet d b).pending = s.pending := rfl

/-- Showing a head writes two fields. -/
theorem State.showHead_fsets (n : Nat) : ∃ f g v w, s.showHead n = (s.fset f v).fset g w := ⟨_, _, _, _, rfl⟩

@[simp] theorem State.showHead_fregs (n : Nat) : (s.showHead n).fregs = s.fregs := by
  obtain ⟨_, _, _, _, h⟩ := s.showHead_fsets n
  rw [h]; rfl
@[simp] theorem State.showHead_clk (n : Nat) : (s.showHead n).clk = s.clk := by
  obtain ⟨_, _, _, _, h⟩ := s.showHead_fsets n
  rw [h]; rfl
@[simp] theorem State.showHead_ticks (n : Nat) : (s.showHead n).ticks = s.ticks := by
  obtain ⟨_, _, _, _, h⟩ := s.showHead_fsets n
  rw [h]; rfl
@[simp] theorem State.showHead_pins (n : Nat) : (s.showHead n).pins = s.pins := by
  obtain ⟨_, _, _, _, h⟩ := s.showHead_fsets n
  rw [h]; rfl
@[simp] theorem State.showHead_host (n : Nat) : (s.showHead n).host = s.host := by
  obtain ⟨_, _, _, _, h⟩ := s.showHead_fsets n
  rw [h]; rfl
@[simp] theorem State.showHead_ring (n : Nat) (k : Nat) : (s.showHead n).ring k = s.ring k := by simp [State.ring]
@[simp] theorem State.showHead_cmds (n : Nat) : (s.showHead n).cmds = s.cmds := by
  obtain ⟨_, _, _, _, h⟩ := s.showHead_fsets n
  rw [h]; rfl
@[simp] theorem State.showHead_sup (n : Nat) : (s.showHead n).sup = s.sup := by
  obtain ⟨_, _, _, _, h⟩ := s.showHead_fsets n
  rw [h]; rfl
@[simp] theorem State.showHead_mode (n : Nat) : (s.showHead n).mode = s.mode := by
  obtain ⟨_, _, _, _, h⟩ := s.showHead_fsets n
  rw [h]; rfl
@[simp] theorem State.showHead_flash (n : Nat) : (s.showHead n).flash = s.flash := by
  obtain ⟨_, _, _, _, h⟩ := s.showHead_fsets n
  rw [h]; rfl
@[simp] theorem State.showHead_boot (n : Nat) : (s.showHead n).boot = s.boot := by
  obtain ⟨_, _, _, _, h⟩ := s.showHead_fsets n
  rw [h]; rfl
@[simp] theorem State.showHead_sleep (n : Nat) : (s.showHead n).sleep = s.sleep := by
  obtain ⟨_, _, _, _, h⟩ := s.showHead_fsets n
  rw [h]; rfl
@[simp] theorem State.showHead_gens (n : Nat) : (s.showHead n).gens = s.gens := by
  obtain ⟨_, _, _, _, h⟩ := s.showHead_fsets n
  rw [h]; rfl
@[simp] theorem State.showHead_pix (n : Nat) : (s.showHead n).pix = s.pix := by
  obtain ⟨_, _, _, _, h⟩ := s.showHead_fsets n
  rw [h]; rfl
@[simp] theorem State.showHead_safe (n : Nat) : (s.showHead n).safe = s.safe := by
  obtain ⟨_, _, _, _, h⟩ := s.showHead_fsets n
  rw [h]; rfl
@[simp] theorem State.showHead_aon (n : Nat) : (s.showHead n).aon = s.aon := by
  obtain ⟨_, _, _, _, h⟩ := s.showHead_fsets n
  rw [h]; rfl
@[simp] theorem State.showHead_ports (n : Nat) : (s.showHead n).ports = s.ports := by
  obtain ⟨_, _, _, _, h⟩ := s.showHead_fsets n
  rw [h]; rfl
@[simp] theorem State.showHead_parkPats (n : Nat) : (s.showHead n).parkPats = s.parkPats := by
  obtain ⟨_, _, _, _, h⟩ := s.showHead_fsets n
  rw [h]; rfl
@[simp] theorem State.showHead_seg (n : Nat) : (s.showHead n).seg = s.seg := by
  obtain ⟨_, _, _, _, h⟩ := s.showHead_fsets n
  rw [h]; rfl
@[simp] theorem State.showHead_therm (n : Nat) : (s.showHead n).therm = s.therm := by
  obtain ⟨_, _, _, _, h⟩ := s.showHead_fsets n
  rw [h]; rfl
@[simp] theorem State.showHead_net (n : Nat) : (s.showHead n).net = s.net := by
  obtain ⟨_, _, _, _, h⟩ := s.showHead_fsets n
  rw [h]; rfl
@[simp] theorem State.showHead_twin (n : Nat) : (s.showHead n).twin = s.twin := by
  obtain ⟨_, _, _, _, h⟩ := s.showHead_fsets n
  rw [h]; rfl
@[simp] theorem State.showHead_test (n : Nat) : (s.showHead n).test = s.test := by
  obtain ⟨_, _, _, _, h⟩ := s.showHead_fsets n
  rw [h]; rfl
@[simp] theorem State.showHead_out (n : Nat) : (s.showHead n).out = s.out := by
  obtain ⟨_, _, _, _, h⟩ := s.showHead_fsets n
  rw [h]; rfl
@[simp] theorem State.showHead_free (n : Nat) : (s.showHead n).free = s.free := by
  obtain ⟨_, _, _, _, h⟩ := s.showHead_fsets n
  rw [h]; rfl
@[simp] theorem State.showHead_pending (n : Nat) : (s.showHead n).pending = s.pending := by
  obtain ⟨_, _, _, _, h⟩ := s.showHead_fsets n
  rw [h]; rfl

@[simp] theorem State.takeForce_regs (f : Fld) : (s.takeForce f).regs = s.regs := rfl
@[simp] theorem State.takeForce_clk (f : Fld) : (s.takeForce f).clk = s.clk := rfl
@[simp] theorem State.takeForce_ticks (f : Fld) : (s.takeForce f).ticks = s.ticks := rfl
@[simp] theorem State.takeForce_pins (f : Fld) : (s.takeForce f).pins = s.pins := rfl
@[simp] theorem State.takeForce_host (f : Fld) : (s.takeForce f).host = s.host := rfl
@[simp] theorem State.takeForce_ring (f : Fld) (k : Nat) : (s.takeForce f).ring k = s.ring k := by simp [State.ring]
@[simp] theorem State.takeForce_cmds (f : Fld) : (s.takeForce f).cmds = s.cmds := rfl
@[simp] theorem State.takeForce_sup (f : Fld) : (s.takeForce f).sup = s.sup := rfl
@[simp] theorem State.takeForce_mode (f : Fld) : (s.takeForce f).mode = s.mode := rfl
@[simp] theorem State.takeForce_flash (f : Fld) : (s.takeForce f).flash = s.flash := rfl
@[simp] theorem State.takeForce_boot (f : Fld) : (s.takeForce f).boot = s.boot := rfl
@[simp] theorem State.takeForce_sleep (f : Fld) : (s.takeForce f).sleep = s.sleep := rfl
@[simp] theorem State.takeForce_gens (f : Fld) : (s.takeForce f).gens = s.gens := rfl
@[simp] theorem State.takeForce_pix (f : Fld) : (s.takeForce f).pix = s.pix := rfl
@[simp] theorem State.takeForce_safe (f : Fld) : (s.takeForce f).safe = s.safe := rfl
@[simp] theorem State.takeForce_aon (f : Fld) : (s.takeForce f).aon = s.aon := rfl
@[simp] theorem State.takeForce_ports (f : Fld) : (s.takeForce f).ports = s.ports := rfl
@[simp] theorem State.takeForce_parkPats (f : Fld) : (s.takeForce f).parkPats = s.parkPats := rfl
@[simp] theorem State.takeForce_seg (f : Fld) : (s.takeForce f).seg = s.seg := rfl
@[simp] theorem State.takeForce_therm (f : Fld) : (s.takeForce f).therm = s.therm := rfl
@[simp] theorem State.takeForce_net (f : Fld) : (s.takeForce f).net = s.net := rfl
@[simp] theorem State.takeForce_twin (f : Fld) : (s.takeForce f).twin = s.twin := rfl
@[simp] theorem State.takeForce_test (f : Fld) : (s.takeForce f).test = s.test := rfl
@[simp] theorem State.takeForce_out (f : Fld) : (s.takeForce f).out = s.out := rfl
@[simp] theorem State.takeForce_free (f : Fld) : (s.takeForce f).free = s.free := rfl
@[simp] theorem State.takeForce_pending (f : Fld) : (s.takeForce f).pending = s.pending := rfl
@[simp] theorem State.takeForce_fget (f : Fld) (g : Fld) : (s.takeForce f).fget g = s.fget g := rfl
@[simp] theorem State.takeForce_fbit (f : Fld) (g : Fld) : (s.takeForce f).fbit g = s.fbit g := rfl
@[simp] theorem State.takeForce_rd (f : Fld) (x : Nat) : (s.takeForce f).rd x = s.rd x := rfl
@[simp] theorem State.takeForce_domOn (f : Fld) (x : Nat) : (s.takeForce f).domOn x = s.domOn x := rfl

@[simp] theorem State.takeDue_regs (f : Fld) : (s.takeDue f).regs = s.regs := rfl
@[simp] theorem State.takeDue_clk (f : Fld) : (s.takeDue f).clk = s.clk := rfl
@[simp] theorem State.takeDue_ticks (f : Fld) : (s.takeDue f).ticks = s.ticks := rfl
@[simp] theorem State.takeDue_pins (f : Fld) : (s.takeDue f).pins = s.pins := rfl
@[simp] theorem State.takeDue_host (f : Fld) : (s.takeDue f).host = s.host := rfl
@[simp] theorem State.takeDue_ring (f : Fld) (k : Nat) : (s.takeDue f).ring k = s.ring k := by simp [State.ring]
@[simp] theorem State.takeDue_cmds (f : Fld) : (s.takeDue f).cmds = s.cmds := rfl
@[simp] theorem State.takeDue_sup (f : Fld) : (s.takeDue f).sup = s.sup := rfl
@[simp] theorem State.takeDue_mode (f : Fld) : (s.takeDue f).mode = s.mode := rfl
@[simp] theorem State.takeDue_flash (f : Fld) : (s.takeDue f).flash = s.flash := rfl
@[simp] theorem State.takeDue_boot (f : Fld) : (s.takeDue f).boot = s.boot := rfl
@[simp] theorem State.takeDue_sleep (f : Fld) : (s.takeDue f).sleep = s.sleep := rfl
@[simp] theorem State.takeDue_gens (f : Fld) : (s.takeDue f).gens = s.gens := rfl
@[simp] theorem State.takeDue_pix (f : Fld) : (s.takeDue f).pix = s.pix := rfl
@[simp] theorem State.takeDue_safe (f : Fld) : (s.takeDue f).safe = s.safe := rfl
@[simp] theorem State.takeDue_aon (f : Fld) : (s.takeDue f).aon = s.aon := rfl
@[simp] theorem State.takeDue_ports (f : Fld) : (s.takeDue f).ports = s.ports := rfl
@[simp] theorem State.takeDue_parkPats (f : Fld) : (s.takeDue f).parkPats = s.parkPats := rfl
@[simp] theorem State.takeDue_seg (f : Fld) : (s.takeDue f).seg = s.seg := rfl
@[simp] theorem State.takeDue_therm (f : Fld) : (s.takeDue f).therm = s.therm := rfl
@[simp] theorem State.takeDue_net (f : Fld) : (s.takeDue f).net = s.net := rfl
@[simp] theorem State.takeDue_twin (f : Fld) : (s.takeDue f).twin = s.twin := rfl
@[simp] theorem State.takeDue_test (f : Fld) : (s.takeDue f).test = s.test := rfl
@[simp] theorem State.takeDue_out (f : Fld) : (s.takeDue f).out = s.out := rfl
@[simp] theorem State.takeDue_free (f : Fld) : (s.takeDue f).free = s.free := rfl
@[simp] theorem State.takeDue_pending (f : Fld) : (s.takeDue f).pending = s.pending := rfl
@[simp] theorem State.takeDue_fget (f : Fld) (g : Fld) : (s.takeDue f).fget g = s.fget g := rfl
@[simp] theorem State.takeDue_fbit (f : Fld) (g : Fld) : (s.takeDue f).fbit g = s.fbit g := rfl
@[simp] theorem State.takeDue_rd (f : Fld) (x : Nat) : (s.takeDue f).rd x = s.rd x := rfl
@[simp] theorem State.takeDue_domOn (f : Fld) (x : Nat) : (s.takeDue f).domOn x = s.domOn x := rfl

@[simp] theorem State.keepF_regs (a : Nat) : (s.keepF a).regs = s.regs := rfl
@[simp] theorem State.keepF_fregs (a : Nat) : (s.keepF a).fregs = s.fregs := rfl
@[simp] theorem State.keepF_clk (a : Nat) : (s.keepF a).clk = s.clk := rfl
@[simp] theorem State.keepF_ticks (a : Nat) : (s.keepF a).ticks = s.ticks := rfl
@[simp] theorem State.keepF_pins (a : Nat) : (s.keepF a).pins = s.pins := rfl
@[simp] theorem State.keepF_host (a : Nat) : (s.keepF a).host = s.host := rfl
@[simp] theorem State.keepF_ring (a : Nat) (k : Nat) : (s.keepF a).ring k = s.ring k := by simp [State.ring]
@[simp] theorem State.keepF_cmds (a : Nat) : (s.keepF a).cmds = s.cmds := rfl
@[simp] theorem State.keepF_sup (a : Nat) : (s.keepF a).sup = s.sup := rfl
@[simp] theorem State.keepF_mode (a : Nat) : (s.keepF a).mode = s.mode := rfl
@[simp] theorem State.keepF_flash (a : Nat) : (s.keepF a).flash = s.flash := rfl
@[simp] theorem State.keepF_boot (a : Nat) : (s.keepF a).boot = s.boot := rfl
@[simp] theorem State.keepF_sleep (a : Nat) : (s.keepF a).sleep = s.sleep := rfl
@[simp] theorem State.keepF_gens (a : Nat) : (s.keepF a).gens = s.gens := rfl
@[simp] theorem State.keepF_safe (a : Nat) : (s.keepF a).safe = s.safe := rfl
@[simp] theorem State.keepF_aon (a : Nat) : (s.keepF a).aon = s.aon := rfl
@[simp] theorem State.keepF_ports (a : Nat) : (s.keepF a).ports = s.ports := rfl
@[simp] theorem State.keepF_parkPats (a : Nat) : (s.keepF a).parkPats = s.parkPats := rfl
@[simp] theorem State.keepF_seg (a : Nat) : (s.keepF a).seg = s.seg := rfl
@[simp] theorem State.keepF_therm (a : Nat) : (s.keepF a).therm = s.therm := rfl
@[simp] theorem State.keepF_net (a : Nat) : (s.keepF a).net = s.net := rfl
@[simp] theorem State.keepF_twin (a : Nat) : (s.keepF a).twin = s.twin := rfl
@[simp] theorem State.keepF_test (a : Nat) : (s.keepF a).test = s.test := rfl
@[simp] theorem State.keepF_out (a : Nat) : (s.keepF a).out = s.out := rfl
@[simp] theorem State.keepF_free (a : Nat) : (s.keepF a).free = s.free := rfl
@[simp] theorem State.keepF_pending (a : Nat) : (s.keepF a).pending = s.pending := rfl
@[simp] theorem State.keepF_fget (a : Nat) (g : Fld) : (s.keepF a).fget g = s.fget g := rfl
@[simp] theorem State.keepF_fbit (a : Nat) (g : Fld) : (s.keepF a).fbit g = s.fbit g := rfl
@[simp] theorem State.keepF_rd (a : Nat) (x : Nat) : (s.keepF a).rd x = s.rd x := rfl
@[simp] theorem State.keepF_domOn (a : Nat) (x : Nat) : (s.keepF a).domOn x = s.domOn x := rfl

@[simp] theorem State.emit_regs (o : Output) : (s.emit o).regs = s.regs := rfl
@[simp] theorem State.emit_fregs (o : Output) : (s.emit o).fregs = s.fregs := rfl
@[simp] theorem State.emit_clk (o : Output) : (s.emit o).clk = s.clk := rfl
@[simp] theorem State.emit_ticks (o : Output) : (s.emit o).ticks = s.ticks := rfl
@[simp] theorem State.emit_pins (o : Output) : (s.emit o).pins = s.pins := rfl
@[simp] theorem State.emit_host (o : Output) : (s.emit o).host = s.host := rfl
@[simp] theorem State.emit_ring (o : Output) (k : Nat) : (s.emit o).ring k = s.ring k := by simp [State.ring]
@[simp] theorem State.emit_cmds (o : Output) : (s.emit o).cmds = s.cmds := rfl
@[simp] theorem State.emit_sup (o : Output) : (s.emit o).sup = s.sup := rfl
@[simp] theorem State.emit_mode (o : Output) : (s.emit o).mode = s.mode := rfl
@[simp] theorem State.emit_flash (o : Output) : (s.emit o).flash = s.flash := rfl
@[simp] theorem State.emit_boot (o : Output) : (s.emit o).boot = s.boot := rfl
@[simp] theorem State.emit_sleep (o : Output) : (s.emit o).sleep = s.sleep := rfl
@[simp] theorem State.emit_gens (o : Output) : (s.emit o).gens = s.gens := rfl
@[simp] theorem State.emit_pix (o : Output) : (s.emit o).pix = s.pix := rfl
@[simp] theorem State.emit_safe (o : Output) : (s.emit o).safe = s.safe := rfl
@[simp] theorem State.emit_aon (o : Output) : (s.emit o).aon = s.aon := rfl
@[simp] theorem State.emit_ports (o : Output) : (s.emit o).ports = s.ports := rfl
@[simp] theorem State.emit_parkPats (o : Output) : (s.emit o).parkPats = s.parkPats := rfl
@[simp] theorem State.emit_seg (o : Output) : (s.emit o).seg = s.seg := rfl
@[simp] theorem State.emit_therm (o : Output) : (s.emit o).therm = s.therm := rfl
@[simp] theorem State.emit_net (o : Output) : (s.emit o).net = s.net := rfl
@[simp] theorem State.emit_twin (o : Output) : (s.emit o).twin = s.twin := rfl
@[simp] theorem State.emit_test (o : Output) : (s.emit o).test = s.test := rfl
@[simp] theorem State.emit_out (o : Output) : (s.emit o).out = s.out ++ [o] := rfl
@[simp] theorem State.emit_free (o : Output) : (s.emit o).free = s.free := rfl
@[simp] theorem State.emit_pending (o : Output) : (s.emit o).pending = s.pending := rfl
@[simp] theorem State.emit_fget (o : Output) (g : Fld) : (s.emit o).fget g = s.fget g := rfl
@[simp] theorem State.emit_fbit (o : Output) (g : Fld) : (s.emit o).fbit g = s.fbit g := rfl
@[simp] theorem State.emit_rd (o : Output) (x : Nat) : (s.emit o).rd x = s.rd x := rfl
@[simp] theorem State.emit_domOn (o : Output) (x : Nat) : (s.emit o).domOn x = s.domOn x := rfl

@[simp] theorem State.emits_regs (os : List Output) : (s.emits os).regs = s.regs := rfl
@[simp] theorem State.emits_fregs (os : List Output) : (s.emits os).fregs = s.fregs := rfl
@[simp] theorem State.emits_clk (os : List Output) : (s.emits os).clk = s.clk := rfl
@[simp] theorem State.emits_ticks (os : List Output) : (s.emits os).ticks = s.ticks := rfl
@[simp] theorem State.emits_pins (os : List Output) : (s.emits os).pins = s.pins := rfl
@[simp] theorem State.emits_host (os : List Output) : (s.emits os).host = s.host := rfl
@[simp] theorem State.emits_ring (os : List Output) (k : Nat) : (s.emits os).ring k = s.ring k := by simp [State.ring]
@[simp] theorem State.emits_cmds (os : List Output) : (s.emits os).cmds = s.cmds := rfl
@[simp] theorem State.emits_sup (os : List Output) : (s.emits os).sup = s.sup := rfl
@[simp] theorem State.emits_mode (os : List Output) : (s.emits os).mode = s.mode := rfl
@[simp] theorem State.emits_flash (os : List Output) : (s.emits os).flash = s.flash := rfl
@[simp] theorem State.emits_boot (os : List Output) : (s.emits os).boot = s.boot := rfl
@[simp] theorem State.emits_sleep (os : List Output) : (s.emits os).sleep = s.sleep := rfl
@[simp] theorem State.emits_gens (os : List Output) : (s.emits os).gens = s.gens := rfl
@[simp] theorem State.emits_pix (os : List Output) : (s.emits os).pix = s.pix := rfl
@[simp] theorem State.emits_safe (os : List Output) : (s.emits os).safe = s.safe := rfl
@[simp] theorem State.emits_aon (os : List Output) : (s.emits os).aon = s.aon := rfl
@[simp] theorem State.emits_ports (os : List Output) : (s.emits os).ports = s.ports := rfl
@[simp] theorem State.emits_parkPats (os : List Output) : (s.emits os).parkPats = s.parkPats := rfl
@[simp] theorem State.emits_seg (os : List Output) : (s.emits os).seg = s.seg := rfl
@[simp] theorem State.emits_therm (os : List Output) : (s.emits os).therm = s.therm := rfl
@[simp] theorem State.emits_net (os : List Output) : (s.emits os).net = s.net := rfl
@[simp] theorem State.emits_twin (os : List Output) : (s.emits os).twin = s.twin := rfl
@[simp] theorem State.emits_test (os : List Output) : (s.emits os).test = s.test := rfl
@[simp] theorem State.emits_out (os : List Output) : (s.emits os).out = s.out ++ os := rfl
@[simp] theorem State.emits_free (os : List Output) : (s.emits os).free = s.free := rfl
@[simp] theorem State.emits_pending (os : List Output) : (s.emits os).pending = s.pending := rfl
@[simp] theorem State.emits_fget (os : List Output) (g : Fld) : (s.emits os).fget g = s.fget g := rfl
@[simp] theorem State.emits_fbit (os : List Output) (g : Fld) : (s.emits os).fbit g = s.fbit g := rfl
@[simp] theorem State.emits_rd (os : List Output) (x : Nat) : (s.emits os).rd x = s.rd x := rfl
@[simp] theorem State.emits_domOn (os : List Output) (x : Nat) : (s.emits os).domOn x = s.domOn x := rfl

@[simp] theorem State.drawn_regs : (s.drawn).regs = s.regs := rfl
@[simp] theorem State.drawn_fregs : (s.drawn).fregs = s.fregs := rfl
@[simp] theorem State.drawn_clk : (s.drawn).clk = s.clk := rfl
@[simp] theorem State.drawn_ticks : (s.drawn).ticks = s.ticks := rfl
@[simp] theorem State.drawn_pins : (s.drawn).pins = s.pins := rfl
@[simp] theorem State.drawn_host : (s.drawn).host = s.host := rfl
@[simp] theorem State.drawn_ring (k : Nat) : (s.drawn).ring k = s.ring k := by simp [State.ring]
@[simp] theorem State.drawn_cmds : (s.drawn).cmds = s.cmds := rfl
@[simp] theorem State.drawn_sup : (s.drawn).sup = s.sup := rfl
@[simp] theorem State.drawn_mode : (s.drawn).mode = s.mode := rfl
@[simp] theorem State.drawn_flash : (s.drawn).flash = s.flash := rfl
@[simp] theorem State.drawn_boot : (s.drawn).boot = s.boot := rfl
@[simp] theorem State.drawn_sleep : (s.drawn).sleep = s.sleep := rfl
@[simp] theorem State.drawn_gens : (s.drawn).gens = s.gens := rfl
@[simp] theorem State.drawn_pix : (s.drawn).pix = s.pix := rfl
@[simp] theorem State.drawn_safe : (s.drawn).safe = s.safe := rfl
@[simp] theorem State.drawn_aon : (s.drawn).aon = s.aon := rfl
@[simp] theorem State.drawn_ports : (s.drawn).ports = s.ports := rfl
@[simp] theorem State.drawn_parkPats : (s.drawn).parkPats = s.parkPats := rfl
@[simp] theorem State.drawn_seg : (s.drawn).seg = s.seg := rfl
@[simp] theorem State.drawn_therm : (s.drawn).therm = s.therm := rfl
@[simp] theorem State.drawn_net : (s.drawn).net = s.net := rfl
@[simp] theorem State.drawn_twin : (s.drawn).twin = s.twin := rfl
@[simp] theorem State.drawn_test : (s.drawn).test = s.test := rfl
@[simp] theorem State.drawn_out : (s.drawn).out = s.out := rfl
@[simp] theorem State.drawn_free : (s.drawn).free = s.free + 1 := rfl
@[simp] theorem State.drawn_pending : (s.drawn).pending = s.pending := rfl
@[simp] theorem State.drawn_fget (g : Fld) : (s.drawn).fget g = s.fget g := rfl
@[simp] theorem State.drawn_fbit (g : Fld) : (s.drawn).fbit g = s.fbit g := rfl
@[simp] theorem State.drawn_rd (x : Nat) : (s.drawn).rd x = s.rd x := rfl
@[simp] theorem State.drawn_domOn (x : Nat) : (s.drawn).domOn x = s.domOn x := rfl

@[simp] theorem State.setPort_regs (p : Nat) (f : Port → Port) : (s.setPort p f).regs = s.regs := rfl
@[simp] theorem State.setPort_fregs (p : Nat) (f : Port → Port) : (s.setPort p f).fregs = s.fregs := rfl
@[simp] theorem State.setPort_clk (p : Nat) (f : Port → Port) : (s.setPort p f).clk = s.clk := rfl
@[simp] theorem State.setPort_ticks (p : Nat) (f : Port → Port) : (s.setPort p f).ticks = s.ticks := rfl
@[simp] theorem State.setPort_pins (p : Nat) (f : Port → Port) : (s.setPort p f).pins = s.pins := rfl
@[simp] theorem State.setPort_host (p : Nat) (f : Port → Port) : (s.setPort p f).host = s.host := rfl
@[simp] theorem State.setPort_ring (p : Nat) (f : Port → Port) (k : Nat) : (s.setPort p f).ring k = s.ring k := by simp [State.ring]
@[simp] theorem State.setPort_cmds (p : Nat) (f : Port → Port) : (s.setPort p f).cmds = s.cmds := rfl
@[simp] theorem State.setPort_sup (p : Nat) (f : Port → Port) : (s.setPort p f).sup = s.sup := rfl
@[simp] theorem State.setPort_mode (p : Nat) (f : Port → Port) : (s.setPort p f).mode = s.mode := rfl
@[simp] theorem State.setPort_flash (p : Nat) (f : Port → Port) : (s.setPort p f).flash = s.flash := rfl
@[simp] theorem State.setPort_boot (p : Nat) (f : Port → Port) : (s.setPort p f).boot = s.boot := rfl
@[simp] theorem State.setPort_sleep (p : Nat) (f : Port → Port) : (s.setPort p f).sleep = s.sleep := rfl
@[simp] theorem State.setPort_gens (p : Nat) (f : Port → Port) : (s.setPort p f).gens = s.gens := rfl
@[simp] theorem State.setPort_pix (p : Nat) (f : Port → Port) : (s.setPort p f).pix = s.pix := rfl
@[simp] theorem State.setPort_safe (p : Nat) (f : Port → Port) : (s.setPort p f).safe = s.safe := rfl
@[simp] theorem State.setPort_aon (p : Nat) (f : Port → Port) : (s.setPort p f).aon = s.aon := rfl
@[simp] theorem State.setPort_parkPats (p : Nat) (f : Port → Port) : (s.setPort p f).parkPats = s.parkPats := rfl
@[simp] theorem State.setPort_seg (p : Nat) (f : Port → Port) : (s.setPort p f).seg = s.seg := rfl
@[simp] theorem State.setPort_therm (p : Nat) (f : Port → Port) : (s.setPort p f).therm = s.therm := rfl
@[simp] theorem State.setPort_net (p : Nat) (f : Port → Port) : (s.setPort p f).net = s.net := rfl
@[simp] theorem State.setPort_twin (p : Nat) (f : Port → Port) : (s.setPort p f).twin = s.twin := rfl
@[simp] theorem State.setPort_test (p : Nat) (f : Port → Port) : (s.setPort p f).test = s.test := rfl
@[simp] theorem State.setPort_out (p : Nat) (f : Port → Port) : (s.setPort p f).out = s.out := rfl
@[simp] theorem State.setPort_free (p : Nat) (f : Port → Port) : (s.setPort p f).free = s.free := rfl
@[simp] theorem State.setPort_pending (p : Nat) (f : Port → Port) : (s.setPort p f).pending = s.pending := rfl
@[simp] theorem State.setPort_fget (p : Nat) (f : Port → Port) (g : Fld) : (s.setPort p f).fget g = s.fget g := rfl
@[simp] theorem State.setPort_fbit (p : Nat) (f : Port → Port) (g : Fld) : (s.setPort p f).fbit g = s.fbit g := rfl
@[simp] theorem State.setPort_rd (p : Nat) (f : Port → Port) (x : Nat) : (s.setPort p f).rd x = s.rd x := rfl
@[simp] theorem State.setPort_domOn (p : Nat) (f : Port → Port) (x : Nat) : (s.setPort p f).domOn x = s.domOn x := rfl

@[simp] theorem State.setPx_regs (n : Nat) (f : SurfPix → SurfPix) : (s.setPx n f).regs = s.regs := rfl
@[simp] theorem State.setPx_fregs (n : Nat) (f : SurfPix → SurfPix) : (s.setPx n f).fregs = s.fregs := rfl
@[simp] theorem State.setPx_clk (n : Nat) (f : SurfPix → SurfPix) : (s.setPx n f).clk = s.clk := rfl
@[simp] theorem State.setPx_ticks (n : Nat) (f : SurfPix → SurfPix) : (s.setPx n f).ticks = s.ticks := rfl
@[simp] theorem State.setPx_pins (n : Nat) (f : SurfPix → SurfPix) : (s.setPx n f).pins = s.pins := rfl
@[simp] theorem State.setPx_host (n : Nat) (f : SurfPix → SurfPix) : (s.setPx n f).host = s.host := rfl
@[simp] theorem State.setPx_ring (n : Nat) (f : SurfPix → SurfPix) (k : Nat) : (s.setPx n f).ring k = s.ring k := by simp [State.ring]
@[simp] theorem State.setPx_cmds (n : Nat) (f : SurfPix → SurfPix) : (s.setPx n f).cmds = s.cmds := rfl
@[simp] theorem State.setPx_sup (n : Nat) (f : SurfPix → SurfPix) : (s.setPx n f).sup = s.sup := rfl
@[simp] theorem State.setPx_mode (n : Nat) (f : SurfPix → SurfPix) : (s.setPx n f).mode = s.mode := rfl
@[simp] theorem State.setPx_flash (n : Nat) (f : SurfPix → SurfPix) : (s.setPx n f).flash = s.flash := rfl
@[simp] theorem State.setPx_boot (n : Nat) (f : SurfPix → SurfPix) : (s.setPx n f).boot = s.boot := rfl
@[simp] theorem State.setPx_sleep (n : Nat) (f : SurfPix → SurfPix) : (s.setPx n f).sleep = s.sleep := rfl
@[simp] theorem State.setPx_gens (n : Nat) (f : SurfPix → SurfPix) : (s.setPx n f).gens = s.gens := rfl
@[simp] theorem State.setPx_safe (n : Nat) (f : SurfPix → SurfPix) : (s.setPx n f).safe = s.safe := rfl
@[simp] theorem State.setPx_aon (n : Nat) (f : SurfPix → SurfPix) : (s.setPx n f).aon = s.aon := rfl
@[simp] theorem State.setPx_ports (n : Nat) (f : SurfPix → SurfPix) : (s.setPx n f).ports = s.ports := rfl
@[simp] theorem State.setPx_parkPats (n : Nat) (f : SurfPix → SurfPix) : (s.setPx n f).parkPats = s.parkPats := rfl
@[simp] theorem State.setPx_seg (n : Nat) (f : SurfPix → SurfPix) : (s.setPx n f).seg = s.seg := rfl
@[simp] theorem State.setPx_therm (n : Nat) (f : SurfPix → SurfPix) : (s.setPx n f).therm = s.therm := rfl
@[simp] theorem State.setPx_net (n : Nat) (f : SurfPix → SurfPix) : (s.setPx n f).net = s.net := rfl
@[simp] theorem State.setPx_twin (n : Nat) (f : SurfPix → SurfPix) : (s.setPx n f).twin = s.twin := rfl
@[simp] theorem State.setPx_test (n : Nat) (f : SurfPix → SurfPix) : (s.setPx n f).test = s.test := rfl
@[simp] theorem State.setPx_out (n : Nat) (f : SurfPix → SurfPix) : (s.setPx n f).out = s.out := rfl
@[simp] theorem State.setPx_free (n : Nat) (f : SurfPix → SurfPix) : (s.setPx n f).free = s.free := rfl
@[simp] theorem State.setPx_pending (n : Nat) (f : SurfPix → SurfPix) : (s.setPx n f).pending = s.pending := rfl
@[simp] theorem State.setPx_fget (n : Nat) (f : SurfPix → SurfPix) (g : Fld) : (s.setPx n f).fget g = s.fget g := rfl
@[simp] theorem State.setPx_fbit (n : Nat) (f : SurfPix → SurfPix) (g : Fld) : (s.setPx n f).fbit g = s.fbit g := rfl
@[simp] theorem State.setPx_rd (n : Nat) (f : SurfPix → SurfPix) (x : Nat) : (s.setPx n f).rd x = s.rd x := rfl
@[simp] theorem State.setPx_domOn (n : Nat) (f : SurfPix → SurfPix) (x : Nat) : (s.setPx n f).domOn x = s.domOn x := rfl

@[simp] theorem State.setRing_regs (n : Nat) (f : Ring → Ring) : (s.setRing n f).regs = s.regs := rfl
@[simp] theorem State.setRing_fregs (n : Nat) (f : Ring → Ring) : (s.setRing n f).fregs = s.fregs := rfl
@[simp] theorem State.setRing_clk (n : Nat) (f : Ring → Ring) : (s.setRing n f).clk = s.clk := rfl
@[simp] theorem State.setRing_ticks (n : Nat) (f : Ring → Ring) : (s.setRing n f).ticks = s.ticks := rfl
@[simp] theorem State.setRing_pins (n : Nat) (f : Ring → Ring) : (s.setRing n f).pins = s.pins := rfl
@[simp] theorem State.setRing_host (n : Nat) (f : Ring → Ring) : (s.setRing n f).host = { s.host with rings := upd f s.host.rings n } := rfl
@[simp] theorem State.setRing_cmds (n : Nat) (f : Ring → Ring) : (s.setRing n f).cmds = s.cmds := rfl
@[simp] theorem State.setRing_sup (n : Nat) (f : Ring → Ring) : (s.setRing n f).sup = s.sup := rfl
@[simp] theorem State.setRing_mode (n : Nat) (f : Ring → Ring) : (s.setRing n f).mode = s.mode := rfl
@[simp] theorem State.setRing_flash (n : Nat) (f : Ring → Ring) : (s.setRing n f).flash = s.flash := rfl
@[simp] theorem State.setRing_boot (n : Nat) (f : Ring → Ring) : (s.setRing n f).boot = s.boot := rfl
@[simp] theorem State.setRing_sleep (n : Nat) (f : Ring → Ring) : (s.setRing n f).sleep = s.sleep := rfl
@[simp] theorem State.setRing_gens (n : Nat) (f : Ring → Ring) : (s.setRing n f).gens = s.gens := rfl
@[simp] theorem State.setRing_pix (n : Nat) (f : Ring → Ring) : (s.setRing n f).pix = s.pix := rfl
@[simp] theorem State.setRing_safe (n : Nat) (f : Ring → Ring) : (s.setRing n f).safe = s.safe := rfl
@[simp] theorem State.setRing_aon (n : Nat) (f : Ring → Ring) : (s.setRing n f).aon = s.aon := rfl
@[simp] theorem State.setRing_ports (n : Nat) (f : Ring → Ring) : (s.setRing n f).ports = s.ports := rfl
@[simp] theorem State.setRing_parkPats (n : Nat) (f : Ring → Ring) : (s.setRing n f).parkPats = s.parkPats := rfl
@[simp] theorem State.setRing_seg (n : Nat) (f : Ring → Ring) : (s.setRing n f).seg = s.seg := rfl
@[simp] theorem State.setRing_therm (n : Nat) (f : Ring → Ring) : (s.setRing n f).therm = s.therm := rfl
@[simp] theorem State.setRing_net (n : Nat) (f : Ring → Ring) : (s.setRing n f).net = s.net := rfl
@[simp] theorem State.setRing_twin (n : Nat) (f : Ring → Ring) : (s.setRing n f).twin = s.twin := rfl
@[simp] theorem State.setRing_test (n : Nat) (f : Ring → Ring) : (s.setRing n f).test = s.test := rfl
@[simp] theorem State.setRing_out (n : Nat) (f : Ring → Ring) : (s.setRing n f).out = s.out := rfl
@[simp] theorem State.setRing_free (n : Nat) (f : Ring → Ring) : (s.setRing n f).free = s.free := rfl
@[simp] theorem State.setRing_pending (n : Nat) (f : Ring → Ring) : (s.setRing n f).pending = s.pending := rfl
@[simp] theorem State.setRing_fget (n : Nat) (f : Ring → Ring) (g : Fld) : (s.setRing n f).fget g = s.fget g := rfl
@[simp] theorem State.setRing_fbit (n : Nat) (f : Ring → Ring) (g : Fld) : (s.setRing n f).fbit g = s.fbit g := rfl
@[simp] theorem State.setRing_rd (n : Nat) (f : Ring → Ring) (x : Nat) : (s.setRing n f).rd x = s.rd x := rfl
@[simp] theorem State.setRing_domOn (n : Nat) (f : Ring → Ring) (x : Nat) : (s.setRing n f).domOn x = s.domOn x := rfl

@[simp] theorem State.setTwinSurf_regs (n : Nat) (f : TwinSurf → TwinSurf) : (s.setTwinSurf n f).regs = s.regs := rfl
@[simp] theorem State.setTwinSurf_fregs (n : Nat) (f : TwinSurf → TwinSurf) : (s.setTwinSurf n f).fregs = s.fregs := rfl
@[simp] theorem State.setTwinSurf_clk (n : Nat) (f : TwinSurf → TwinSurf) : (s.setTwinSurf n f).clk = s.clk := rfl
@[simp] theorem State.setTwinSurf_ticks (n : Nat) (f : TwinSurf → TwinSurf) : (s.setTwinSurf n f).ticks = s.ticks := rfl
@[simp] theorem State.setTwinSurf_pins (n : Nat) (f : TwinSurf → TwinSurf) : (s.setTwinSurf n f).pins = s.pins := rfl
@[simp] theorem State.setTwinSurf_host (n : Nat) (f : TwinSurf → TwinSurf) : (s.setTwinSurf n f).host = s.host := rfl
@[simp] theorem State.setTwinSurf_ring (n : Nat) (f : TwinSurf → TwinSurf) (k : Nat) : (s.setTwinSurf n f).ring k = s.ring k := by simp [State.ring]
@[simp] theorem State.setTwinSurf_cmds (n : Nat) (f : TwinSurf → TwinSurf) : (s.setTwinSurf n f).cmds = s.cmds := rfl
@[simp] theorem State.setTwinSurf_sup (n : Nat) (f : TwinSurf → TwinSurf) : (s.setTwinSurf n f).sup = s.sup := rfl
@[simp] theorem State.setTwinSurf_mode (n : Nat) (f : TwinSurf → TwinSurf) : (s.setTwinSurf n f).mode = s.mode := rfl
@[simp] theorem State.setTwinSurf_flash (n : Nat) (f : TwinSurf → TwinSurf) : (s.setTwinSurf n f).flash = s.flash := rfl
@[simp] theorem State.setTwinSurf_boot (n : Nat) (f : TwinSurf → TwinSurf) : (s.setTwinSurf n f).boot = s.boot := rfl
@[simp] theorem State.setTwinSurf_sleep (n : Nat) (f : TwinSurf → TwinSurf) : (s.setTwinSurf n f).sleep = s.sleep := rfl
@[simp] theorem State.setTwinSurf_gens (n : Nat) (f : TwinSurf → TwinSurf) : (s.setTwinSurf n f).gens = s.gens := rfl
@[simp] theorem State.setTwinSurf_pix (n : Nat) (f : TwinSurf → TwinSurf) : (s.setTwinSurf n f).pix = s.pix := rfl
@[simp] theorem State.setTwinSurf_safe (n : Nat) (f : TwinSurf → TwinSurf) : (s.setTwinSurf n f).safe = s.safe := rfl
@[simp] theorem State.setTwinSurf_aon (n : Nat) (f : TwinSurf → TwinSurf) : (s.setTwinSurf n f).aon = s.aon := rfl
@[simp] theorem State.setTwinSurf_ports (n : Nat) (f : TwinSurf → TwinSurf) : (s.setTwinSurf n f).ports = s.ports := rfl
@[simp] theorem State.setTwinSurf_parkPats (n : Nat) (f : TwinSurf → TwinSurf) : (s.setTwinSurf n f).parkPats = s.parkPats := rfl
@[simp] theorem State.setTwinSurf_seg (n : Nat) (f : TwinSurf → TwinSurf) : (s.setTwinSurf n f).seg = s.seg := rfl
@[simp] theorem State.setTwinSurf_therm (n : Nat) (f : TwinSurf → TwinSurf) : (s.setTwinSurf n f).therm = s.therm := rfl
@[simp] theorem State.setTwinSurf_net (n : Nat) (f : TwinSurf → TwinSurf) : (s.setTwinSurf n f).net = s.net := rfl
@[simp] theorem State.setTwinSurf_test (n : Nat) (f : TwinSurf → TwinSurf) : (s.setTwinSurf n f).test = s.test := rfl
@[simp] theorem State.setTwinSurf_out (n : Nat) (f : TwinSurf → TwinSurf) : (s.setTwinSurf n f).out = s.out := rfl
@[simp] theorem State.setTwinSurf_free (n : Nat) (f : TwinSurf → TwinSurf) : (s.setTwinSurf n f).free = s.free := rfl
@[simp] theorem State.setTwinSurf_pending (n : Nat) (f : TwinSurf → TwinSurf) : (s.setTwinSurf n f).pending = s.pending := rfl
@[simp] theorem State.setTwinSurf_fget (n : Nat) (f : TwinSurf → TwinSurf) (g : Fld) : (s.setTwinSurf n f).fget g = s.fget g := rfl
@[simp] theorem State.setTwinSurf_fbit (n : Nat) (f : TwinSurf → TwinSurf) (g : Fld) : (s.setTwinSurf n f).fbit g = s.fbit g := rfl
@[simp] theorem State.setTwinSurf_rd (n : Nat) (f : TwinSurf → TwinSurf) (x : Nat) : (s.setTwinSurf n f).rd x = s.rd x := rfl
@[simp] theorem State.setTwinSurf_domOn (n : Nat) (f : TwinSurf → TwinSurf) (x : Nat) : (s.setTwinSurf n f).domOn x = s.domOn x := rfl

@[simp] theorem State.setSeg_regs (f : SegSt → SegSt) : (s.setSeg f).regs = s.regs := rfl
@[simp] theorem State.setSeg_fregs (f : SegSt → SegSt) : (s.setSeg f).fregs = s.fregs := rfl
@[simp] theorem State.setSeg_clk (f : SegSt → SegSt) : (s.setSeg f).clk = s.clk := rfl
@[simp] theorem State.setSeg_ticks (f : SegSt → SegSt) : (s.setSeg f).ticks = s.ticks := rfl
@[simp] theorem State.setSeg_pins (f : SegSt → SegSt) : (s.setSeg f).pins = s.pins := rfl
@[simp] theorem State.setSeg_host (f : SegSt → SegSt) : (s.setSeg f).host = s.host := rfl
@[simp] theorem State.setSeg_ring (f : SegSt → SegSt) (k : Nat) : (s.setSeg f).ring k = s.ring k := by simp [State.ring]
@[simp] theorem State.setSeg_cmds (f : SegSt → SegSt) : (s.setSeg f).cmds = s.cmds := rfl
@[simp] theorem State.setSeg_sup (f : SegSt → SegSt) : (s.setSeg f).sup = s.sup := rfl
@[simp] theorem State.setSeg_mode (f : SegSt → SegSt) : (s.setSeg f).mode = s.mode := rfl
@[simp] theorem State.setSeg_flash (f : SegSt → SegSt) : (s.setSeg f).flash = s.flash := rfl
@[simp] theorem State.setSeg_boot (f : SegSt → SegSt) : (s.setSeg f).boot = s.boot := rfl
@[simp] theorem State.setSeg_sleep (f : SegSt → SegSt) : (s.setSeg f).sleep = s.sleep := rfl
@[simp] theorem State.setSeg_gens (f : SegSt → SegSt) : (s.setSeg f).gens = s.gens := rfl
@[simp] theorem State.setSeg_pix (f : SegSt → SegSt) : (s.setSeg f).pix = s.pix := rfl
@[simp] theorem State.setSeg_safe (f : SegSt → SegSt) : (s.setSeg f).safe = s.safe := rfl
@[simp] theorem State.setSeg_aon (f : SegSt → SegSt) : (s.setSeg f).aon = s.aon := rfl
@[simp] theorem State.setSeg_ports (f : SegSt → SegSt) : (s.setSeg f).ports = s.ports := rfl
@[simp] theorem State.setSeg_parkPats (f : SegSt → SegSt) : (s.setSeg f).parkPats = s.parkPats := rfl
@[simp] theorem State.setSeg_seg (f : SegSt → SegSt) : (s.setSeg f).seg = f s.seg := rfl
@[simp] theorem State.setSeg_therm (f : SegSt → SegSt) : (s.setSeg f).therm = s.therm := rfl
@[simp] theorem State.setSeg_net (f : SegSt → SegSt) : (s.setSeg f).net = s.net := rfl
@[simp] theorem State.setSeg_twin (f : SegSt → SegSt) : (s.setSeg f).twin = s.twin := rfl
@[simp] theorem State.setSeg_test (f : SegSt → SegSt) : (s.setSeg f).test = s.test := rfl
@[simp] theorem State.setSeg_out (f : SegSt → SegSt) : (s.setSeg f).out = s.out := rfl
@[simp] theorem State.setSeg_free (f : SegSt → SegSt) : (s.setSeg f).free = s.free := rfl
@[simp] theorem State.setSeg_pending (f : SegSt → SegSt) : (s.setSeg f).pending = s.pending := rfl
@[simp] theorem State.setSeg_fget (f : SegSt → SegSt) (g : Fld) : (s.setSeg f).fget g = s.fget g := rfl
@[simp] theorem State.setSeg_fbit (f : SegSt → SegSt) (g : Fld) : (s.setSeg f).fbit g = s.fbit g := rfl
@[simp] theorem State.setSeg_rd (f : SegSt → SegSt) (x : Nat) : (s.setSeg f).rd x = s.rd x := rfl
@[simp] theorem State.setSeg_domOn (f : SegSt → SegSt) (x : Nat) : (s.setSeg f).domOn x = s.domOn x := rfl

@[simp] theorem State.setSup_regs (f : SupplySt → SupplySt) : (s.setSup f).regs = s.regs := rfl
@[simp] theorem State.setSup_fregs (f : SupplySt → SupplySt) : (s.setSup f).fregs = s.fregs := rfl
@[simp] theorem State.setSup_clk (f : SupplySt → SupplySt) : (s.setSup f).clk = s.clk := rfl
@[simp] theorem State.setSup_ticks (f : SupplySt → SupplySt) : (s.setSup f).ticks = s.ticks := rfl
@[simp] theorem State.setSup_pins (f : SupplySt → SupplySt) : (s.setSup f).pins = s.pins := rfl
@[simp] theorem State.setSup_host (f : SupplySt → SupplySt) : (s.setSup f).host = s.host := rfl
@[simp] theorem State.setSup_ring (f : SupplySt → SupplySt) (k : Nat) : (s.setSup f).ring k = s.ring k := by simp [State.ring]
@[simp] theorem State.setSup_cmds (f : SupplySt → SupplySt) : (s.setSup f).cmds = s.cmds := rfl
@[simp] theorem State.setSup_sup (f : SupplySt → SupplySt) : (s.setSup f).sup = f s.sup := rfl
@[simp] theorem State.setSup_mode (f : SupplySt → SupplySt) : (s.setSup f).mode = s.mode := rfl
@[simp] theorem State.setSup_flash (f : SupplySt → SupplySt) : (s.setSup f).flash = s.flash := rfl
@[simp] theorem State.setSup_boot (f : SupplySt → SupplySt) : (s.setSup f).boot = s.boot := rfl
@[simp] theorem State.setSup_sleep (f : SupplySt → SupplySt) : (s.setSup f).sleep = s.sleep := rfl
@[simp] theorem State.setSup_gens (f : SupplySt → SupplySt) : (s.setSup f).gens = s.gens := rfl
@[simp] theorem State.setSup_pix (f : SupplySt → SupplySt) : (s.setSup f).pix = s.pix := rfl
@[simp] theorem State.setSup_safe (f : SupplySt → SupplySt) : (s.setSup f).safe = s.safe := rfl
@[simp] theorem State.setSup_aon (f : SupplySt → SupplySt) : (s.setSup f).aon = s.aon := rfl
@[simp] theorem State.setSup_ports (f : SupplySt → SupplySt) : (s.setSup f).ports = s.ports := rfl
@[simp] theorem State.setSup_parkPats (f : SupplySt → SupplySt) : (s.setSup f).parkPats = s.parkPats := rfl
@[simp] theorem State.setSup_seg (f : SupplySt → SupplySt) : (s.setSup f).seg = s.seg := rfl
@[simp] theorem State.setSup_therm (f : SupplySt → SupplySt) : (s.setSup f).therm = s.therm := rfl
@[simp] theorem State.setSup_net (f : SupplySt → SupplySt) : (s.setSup f).net = s.net := rfl
@[simp] theorem State.setSup_twin (f : SupplySt → SupplySt) : (s.setSup f).twin = s.twin := rfl
@[simp] theorem State.setSup_test (f : SupplySt → SupplySt) : (s.setSup f).test = s.test := rfl
@[simp] theorem State.setSup_out (f : SupplySt → SupplySt) : (s.setSup f).out = s.out := rfl
@[simp] theorem State.setSup_free (f : SupplySt → SupplySt) : (s.setSup f).free = s.free := rfl
@[simp] theorem State.setSup_pending (f : SupplySt → SupplySt) : (s.setSup f).pending = s.pending := rfl
@[simp] theorem State.setSup_fget (f : SupplySt → SupplySt) (g : Fld) : (s.setSup f).fget g = s.fget g := rfl
@[simp] theorem State.setSup_fbit (f : SupplySt → SupplySt) (g : Fld) : (s.setSup f).fbit g = s.fbit g := rfl
@[simp] theorem State.setSup_rd (f : SupplySt → SupplySt) (x : Nat) : (s.setSup f).rd x = s.rd x := rfl
@[simp] theorem State.setSup_domOn (f : SupplySt → SupplySt) (x : Nat) : (s.setSup f).domOn x = s.domOn x := rfl

@[simp] theorem State.setZone_regs (z : Nat) (f : ZoneTherm → ZoneTherm) : (s.setZone z f).regs = s.regs := rfl
@[simp] theorem State.setZone_fregs (z : Nat) (f : ZoneTherm → ZoneTherm) : (s.setZone z f).fregs = s.fregs := rfl
@[simp] theorem State.setZone_clk (z : Nat) (f : ZoneTherm → ZoneTherm) : (s.setZone z f).clk = s.clk := rfl
@[simp] theorem State.setZone_ticks (z : Nat) (f : ZoneTherm → ZoneTherm) : (s.setZone z f).ticks = s.ticks := rfl
@[simp] theorem State.setZone_pins (z : Nat) (f : ZoneTherm → ZoneTherm) : (s.setZone z f).pins = s.pins := rfl
@[simp] theorem State.setZone_host (z : Nat) (f : ZoneTherm → ZoneTherm) : (s.setZone z f).host = s.host := rfl
@[simp] theorem State.setZone_ring (z : Nat) (f : ZoneTherm → ZoneTherm) (k : Nat) : (s.setZone z f).ring k = s.ring k := by simp [State.ring]
@[simp] theorem State.setZone_cmds (z : Nat) (f : ZoneTherm → ZoneTherm) : (s.setZone z f).cmds = s.cmds := rfl
@[simp] theorem State.setZone_sup (z : Nat) (f : ZoneTherm → ZoneTherm) : (s.setZone z f).sup = s.sup := rfl
@[simp] theorem State.setZone_mode (z : Nat) (f : ZoneTherm → ZoneTherm) : (s.setZone z f).mode = s.mode := rfl
@[simp] theorem State.setZone_flash (z : Nat) (f : ZoneTherm → ZoneTherm) : (s.setZone z f).flash = s.flash := rfl
@[simp] theorem State.setZone_boot (z : Nat) (f : ZoneTherm → ZoneTherm) : (s.setZone z f).boot = s.boot := rfl
@[simp] theorem State.setZone_sleep (z : Nat) (f : ZoneTherm → ZoneTherm) : (s.setZone z f).sleep = s.sleep := rfl
@[simp] theorem State.setZone_gens (z : Nat) (f : ZoneTherm → ZoneTherm) : (s.setZone z f).gens = s.gens := rfl
@[simp] theorem State.setZone_safe (z : Nat) (f : ZoneTherm → ZoneTherm) : (s.setZone z f).safe = s.safe := rfl
@[simp] theorem State.setZone_aon (z : Nat) (f : ZoneTherm → ZoneTherm) : (s.setZone z f).aon = s.aon := rfl
@[simp] theorem State.setZone_ports (z : Nat) (f : ZoneTherm → ZoneTherm) : (s.setZone z f).ports = s.ports := rfl
@[simp] theorem State.setZone_parkPats (z : Nat) (f : ZoneTherm → ZoneTherm) : (s.setZone z f).parkPats = s.parkPats := rfl
@[simp] theorem State.setZone_seg (z : Nat) (f : ZoneTherm → ZoneTherm) : (s.setZone z f).seg = s.seg := rfl
@[simp] theorem State.setZone_therm (z : Nat) (f : ZoneTherm → ZoneTherm) : (s.setZone z f).therm = s.therm := rfl
@[simp] theorem State.setZone_net (z : Nat) (f : ZoneTherm → ZoneTherm) : (s.setZone z f).net = s.net := rfl
@[simp] theorem State.setZone_twin (z : Nat) (f : ZoneTherm → ZoneTherm) : (s.setZone z f).twin = s.twin := rfl
@[simp] theorem State.setZone_test (z : Nat) (f : ZoneTherm → ZoneTherm) : (s.setZone z f).test = s.test := rfl
@[simp] theorem State.setZone_out (z : Nat) (f : ZoneTherm → ZoneTherm) : (s.setZone z f).out = s.out := rfl
@[simp] theorem State.setZone_free (z : Nat) (f : ZoneTherm → ZoneTherm) : (s.setZone z f).free = s.free := rfl
@[simp] theorem State.setZone_pending (z : Nat) (f : ZoneTherm → ZoneTherm) : (s.setZone z f).pending = s.pending := rfl
@[simp] theorem State.setZone_fget (z : Nat) (f : ZoneTherm → ZoneTherm) (g : Fld) : (s.setZone z f).fget g = s.fget g := rfl
@[simp] theorem State.setZone_fbit (z : Nat) (f : ZoneTherm → ZoneTherm) (g : Fld) : (s.setZone z f).fbit g = s.fbit g := rfl
@[simp] theorem State.setZone_rd (z : Nat) (f : ZoneTherm → ZoneTherm) (x : Nat) : (s.setZone z f).rd x = s.rd x := rfl
@[simp] theorem State.setZone_domOn (z : Nat) (f : ZoneTherm → ZoneTherm) (x : Nat) : (s.setZone z f).domOn x = s.domOn x := rfl

@[simp] theorem State.setSpill_regs (n : Nat) (f : SpillSurf → SpillSurf) : (s.setSpill n f).regs = s.regs := rfl
@[simp] theorem State.setSpill_fregs (n : Nat) (f : SpillSurf → SpillSurf) : (s.setSpill n f).fregs = s.fregs := rfl
@[simp] theorem State.setSpill_clk (n : Nat) (f : SpillSurf → SpillSurf) : (s.setSpill n f).clk = s.clk := rfl
@[simp] theorem State.setSpill_ticks (n : Nat) (f : SpillSurf → SpillSurf) : (s.setSpill n f).ticks = s.ticks := rfl
@[simp] theorem State.setSpill_pins (n : Nat) (f : SpillSurf → SpillSurf) : (s.setSpill n f).pins = s.pins := rfl
@[simp] theorem State.setSpill_host (n : Nat) (f : SpillSurf → SpillSurf) : (s.setSpill n f).host = s.host := rfl
@[simp] theorem State.setSpill_ring (n : Nat) (f : SpillSurf → SpillSurf) (k : Nat) : (s.setSpill n f).ring k = s.ring k := by simp [State.ring]
@[simp] theorem State.setSpill_cmds (n : Nat) (f : SpillSurf → SpillSurf) : (s.setSpill n f).cmds = s.cmds := rfl
@[simp] theorem State.setSpill_sup (n : Nat) (f : SpillSurf → SpillSurf) : (s.setSpill n f).sup = s.sup := rfl
@[simp] theorem State.setSpill_mode (n : Nat) (f : SpillSurf → SpillSurf) : (s.setSpill n f).mode = s.mode := rfl
@[simp] theorem State.setSpill_flash (n : Nat) (f : SpillSurf → SpillSurf) : (s.setSpill n f).flash = s.flash := rfl
@[simp] theorem State.setSpill_boot (n : Nat) (f : SpillSurf → SpillSurf) : (s.setSpill n f).boot = s.boot := rfl
@[simp] theorem State.setSpill_sleep (n : Nat) (f : SpillSurf → SpillSurf) : (s.setSpill n f).sleep = s.sleep := rfl
@[simp] theorem State.setSpill_gens (n : Nat) (f : SpillSurf → SpillSurf) : (s.setSpill n f).gens = s.gens := rfl
@[simp] theorem State.setSpill_pix (n : Nat) (f : SpillSurf → SpillSurf) : (s.setSpill n f).pix = s.pix := rfl
@[simp] theorem State.setSpill_aon (n : Nat) (f : SpillSurf → SpillSurf) : (s.setSpill n f).aon = s.aon := rfl
@[simp] theorem State.setSpill_ports (n : Nat) (f : SpillSurf → SpillSurf) : (s.setSpill n f).ports = s.ports := rfl
@[simp] theorem State.setSpill_parkPats (n : Nat) (f : SpillSurf → SpillSurf) : (s.setSpill n f).parkPats = s.parkPats := rfl
@[simp] theorem State.setSpill_seg (n : Nat) (f : SpillSurf → SpillSurf) : (s.setSpill n f).seg = s.seg := rfl
@[simp] theorem State.setSpill_therm (n : Nat) (f : SpillSurf → SpillSurf) : (s.setSpill n f).therm = s.therm := rfl
@[simp] theorem State.setSpill_net (n : Nat) (f : SpillSurf → SpillSurf) : (s.setSpill n f).net = s.net := rfl
@[simp] theorem State.setSpill_twin (n : Nat) (f : SpillSurf → SpillSurf) : (s.setSpill n f).twin = s.twin := rfl
@[simp] theorem State.setSpill_test (n : Nat) (f : SpillSurf → SpillSurf) : (s.setSpill n f).test = s.test := rfl
@[simp] theorem State.setSpill_out (n : Nat) (f : SpillSurf → SpillSurf) : (s.setSpill n f).out = s.out := rfl
@[simp] theorem State.setSpill_free (n : Nat) (f : SpillSurf → SpillSurf) : (s.setSpill n f).free = s.free := rfl
@[simp] theorem State.setSpill_pending (n : Nat) (f : SpillSurf → SpillSurf) : (s.setSpill n f).pending = s.pending := rfl
@[simp] theorem State.setSpill_fget (n : Nat) (f : SpillSurf → SpillSurf) (g : Fld) : (s.setSpill n f).fget g = s.fget g := rfl
@[simp] theorem State.setSpill_fbit (n : Nat) (f : SpillSurf → SpillSurf) (g : Fld) : (s.setSpill n f).fbit g = s.fbit g := rfl
@[simp] theorem State.setSpill_rd (n : Nat) (f : SpillSurf → SpillSurf) (x : Nat) : (s.setSpill n f).rd x = s.rd x := rfl
@[simp] theorem State.setSpill_domOn (n : Nat) (f : SpillSurf → SpillSurf) (x : Nat) : (s.setSpill n f).domOn x = s.domOn x := rfl

@[simp] theorem State.setTherm_regs (f : ThermSt → ThermSt) : (s.setTherm f).regs = s.regs := rfl
@[simp] theorem State.setTherm_fregs (f : ThermSt → ThermSt) : (s.setTherm f).fregs = s.fregs := rfl
@[simp] theorem State.setTherm_clk (f : ThermSt → ThermSt) : (s.setTherm f).clk = s.clk := rfl
@[simp] theorem State.setTherm_ticks (f : ThermSt → ThermSt) : (s.setTherm f).ticks = s.ticks := rfl
@[simp] theorem State.setTherm_pins (f : ThermSt → ThermSt) : (s.setTherm f).pins = s.pins := rfl
@[simp] theorem State.setTherm_host (f : ThermSt → ThermSt) : (s.setTherm f).host = s.host := rfl
@[simp] theorem State.setTherm_ring (f : ThermSt → ThermSt) (k : Nat) : (s.setTherm f).ring k = s.ring k := by simp [State.ring]
@[simp] theorem State.setTherm_cmds (f : ThermSt → ThermSt) : (s.setTherm f).cmds = s.cmds := rfl
@[simp] theorem State.setTherm_sup (f : ThermSt → ThermSt) : (s.setTherm f).sup = s.sup := rfl
@[simp] theorem State.setTherm_mode (f : ThermSt → ThermSt) : (s.setTherm f).mode = s.mode := rfl
@[simp] theorem State.setTherm_flash (f : ThermSt → ThermSt) : (s.setTherm f).flash = s.flash := rfl
@[simp] theorem State.setTherm_boot (f : ThermSt → ThermSt) : (s.setTherm f).boot = s.boot := rfl
@[simp] theorem State.setTherm_sleep (f : ThermSt → ThermSt) : (s.setTherm f).sleep = s.sleep := rfl
@[simp] theorem State.setTherm_gens (f : ThermSt → ThermSt) : (s.setTherm f).gens = s.gens := rfl
@[simp] theorem State.setTherm_pix (f : ThermSt → ThermSt) : (s.setTherm f).pix = s.pix := rfl
@[simp] theorem State.setTherm_safe (f : ThermSt → ThermSt) : (s.setTherm f).safe = s.safe := rfl
@[simp] theorem State.setTherm_aon (f : ThermSt → ThermSt) : (s.setTherm f).aon = s.aon := rfl
@[simp] theorem State.setTherm_ports (f : ThermSt → ThermSt) : (s.setTherm f).ports = s.ports := rfl
@[simp] theorem State.setTherm_parkPats (f : ThermSt → ThermSt) : (s.setTherm f).parkPats = s.parkPats := rfl
@[simp] theorem State.setTherm_seg (f : ThermSt → ThermSt) : (s.setTherm f).seg = s.seg := rfl
@[simp] theorem State.setTherm_therm (f : ThermSt → ThermSt) : (s.setTherm f).therm = f s.therm := rfl
@[simp] theorem State.setTherm_net (f : ThermSt → ThermSt) : (s.setTherm f).net = s.net := rfl
@[simp] theorem State.setTherm_twin (f : ThermSt → ThermSt) : (s.setTherm f).twin = s.twin := rfl
@[simp] theorem State.setTherm_test (f : ThermSt → ThermSt) : (s.setTherm f).test = s.test := rfl
@[simp] theorem State.setTherm_out (f : ThermSt → ThermSt) : (s.setTherm f).out = s.out := rfl
@[simp] theorem State.setTherm_free (f : ThermSt → ThermSt) : (s.setTherm f).free = s.free := rfl
@[simp] theorem State.setTherm_pending (f : ThermSt → ThermSt) : (s.setTherm f).pending = s.pending := rfl
@[simp] theorem State.setTherm_fget (f : ThermSt → ThermSt) (g : Fld) : (s.setTherm f).fget g = s.fget g := rfl
@[simp] theorem State.setTherm_fbit (f : ThermSt → ThermSt) (g : Fld) : (s.setTherm f).fbit g = s.fbit g := rfl
@[simp] theorem State.setTherm_rd (f : ThermSt → ThermSt) (x : Nat) : (s.setTherm f).rd x = s.rd x := rfl
@[simp] theorem State.setTherm_domOn (f : ThermSt → ThermSt) (x : Nat) : (s.setTherm f).domOn x = s.domOn x := rfl

@[simp] theorem State.setNet_regs (p : Nat) (f : NetPort → NetPort) : (s.setNet p f).regs = s.regs := rfl
@[simp] theorem State.setNet_fregs (p : Nat) (f : NetPort → NetPort) : (s.setNet p f).fregs = s.fregs := rfl
@[simp] theorem State.setNet_clk (p : Nat) (f : NetPort → NetPort) : (s.setNet p f).clk = s.clk := rfl
@[simp] theorem State.setNet_ticks (p : Nat) (f : NetPort → NetPort) : (s.setNet p f).ticks = s.ticks := rfl
@[simp] theorem State.setNet_pins (p : Nat) (f : NetPort → NetPort) : (s.setNet p f).pins = s.pins := rfl
@[simp] theorem State.setNet_host (p : Nat) (f : NetPort → NetPort) : (s.setNet p f).host = s.host := rfl
@[simp] theorem State.setNet_ring (p : Nat) (f : NetPort → NetPort) (k : Nat) : (s.setNet p f).ring k = s.ring k := by simp [State.ring]
@[simp] theorem State.setNet_cmds (p : Nat) (f : NetPort → NetPort) : (s.setNet p f).cmds = s.cmds := rfl
@[simp] theorem State.setNet_sup (p : Nat) (f : NetPort → NetPort) : (s.setNet p f).sup = s.sup := rfl
@[simp] theorem State.setNet_mode (p : Nat) (f : NetPort → NetPort) : (s.setNet p f).mode = s.mode := rfl
@[simp] theorem State.setNet_flash (p : Nat) (f : NetPort → NetPort) : (s.setNet p f).flash = s.flash := rfl
@[simp] theorem State.setNet_boot (p : Nat) (f : NetPort → NetPort) : (s.setNet p f).boot = s.boot := rfl
@[simp] theorem State.setNet_sleep (p : Nat) (f : NetPort → NetPort) : (s.setNet p f).sleep = s.sleep := rfl
@[simp] theorem State.setNet_gens (p : Nat) (f : NetPort → NetPort) : (s.setNet p f).gens = s.gens := rfl
@[simp] theorem State.setNet_pix (p : Nat) (f : NetPort → NetPort) : (s.setNet p f).pix = s.pix := rfl
@[simp] theorem State.setNet_safe (p : Nat) (f : NetPort → NetPort) : (s.setNet p f).safe = s.safe := rfl
@[simp] theorem State.setNet_aon (p : Nat) (f : NetPort → NetPort) : (s.setNet p f).aon = s.aon := rfl
@[simp] theorem State.setNet_ports (p : Nat) (f : NetPort → NetPort) : (s.setNet p f).ports = s.ports := rfl
@[simp] theorem State.setNet_parkPats (p : Nat) (f : NetPort → NetPort) : (s.setNet p f).parkPats = s.parkPats := rfl
@[simp] theorem State.setNet_seg (p : Nat) (f : NetPort → NetPort) : (s.setNet p f).seg = s.seg := rfl
@[simp] theorem State.setNet_therm (p : Nat) (f : NetPort → NetPort) : (s.setNet p f).therm = s.therm := rfl
@[simp] theorem State.setNet_twin (p : Nat) (f : NetPort → NetPort) : (s.setNet p f).twin = s.twin := rfl
@[simp] theorem State.setNet_test (p : Nat) (f : NetPort → NetPort) : (s.setNet p f).test = s.test := rfl
@[simp] theorem State.setNet_out (p : Nat) (f : NetPort → NetPort) : (s.setNet p f).out = s.out := rfl
@[simp] theorem State.setNet_free (p : Nat) (f : NetPort → NetPort) : (s.setNet p f).free = s.free := rfl
@[simp] theorem State.setNet_pending (p : Nat) (f : NetPort → NetPort) : (s.setNet p f).pending = s.pending := rfl
@[simp] theorem State.setNet_fget (p : Nat) (f : NetPort → NetPort) (g : Fld) : (s.setNet p f).fget g = s.fget g := rfl
@[simp] theorem State.setNet_fbit (p : Nat) (f : NetPort → NetPort) (g : Fld) : (s.setNet p f).fbit g = s.fbit g := rfl
@[simp] theorem State.setNet_rd (p : Nat) (f : NetPort → NetPort) (x : Nat) : (s.setNet p f).rd x = s.rd x := rfl
@[simp] theorem State.setNet_domOn (p : Nat) (f : NetPort → NetPort) (x : Nat) : (s.setNet p f).domOn x = s.domOn x := rfl

@[simp] theorem State.setGen_regs (n : Nat) (f : Gen → Gen) : (s.setGen n f).regs = s.regs := rfl
@[simp] theorem State.setGen_fregs (n : Nat) (f : Gen → Gen) : (s.setGen n f).fregs = s.fregs := rfl
@[simp] theorem State.setGen_clk (n : Nat) (f : Gen → Gen) : (s.setGen n f).clk = s.clk := rfl
@[simp] theorem State.setGen_ticks (n : Nat) (f : Gen → Gen) : (s.setGen n f).ticks = s.ticks := rfl
@[simp] theorem State.setGen_pins (n : Nat) (f : Gen → Gen) : (s.setGen n f).pins = s.pins := rfl
@[simp] theorem State.setGen_host (n : Nat) (f : Gen → Gen) : (s.setGen n f).host = s.host := rfl
@[simp] theorem State.setGen_ring (n : Nat) (f : Gen → Gen) (k : Nat) : (s.setGen n f).ring k = s.ring k := by simp [State.ring]
@[simp] theorem State.setGen_cmds (n : Nat) (f : Gen → Gen) : (s.setGen n f).cmds = s.cmds := rfl
@[simp] theorem State.setGen_sup (n : Nat) (f : Gen → Gen) : (s.setGen n f).sup = s.sup := rfl
@[simp] theorem State.setGen_mode (n : Nat) (f : Gen → Gen) : (s.setGen n f).mode = s.mode := rfl
@[simp] theorem State.setGen_flash (n : Nat) (f : Gen → Gen) : (s.setGen n f).flash = s.flash := rfl
@[simp] theorem State.setGen_boot (n : Nat) (f : Gen → Gen) : (s.setGen n f).boot = s.boot := rfl
@[simp] theorem State.setGen_sleep (n : Nat) (f : Gen → Gen) : (s.setGen n f).sleep = s.sleep := rfl
@[simp] theorem State.setGen_pix (n : Nat) (f : Gen → Gen) : (s.setGen n f).pix = s.pix := rfl
@[simp] theorem State.setGen_safe (n : Nat) (f : Gen → Gen) : (s.setGen n f).safe = s.safe := rfl
@[simp] theorem State.setGen_aon (n : Nat) (f : Gen → Gen) : (s.setGen n f).aon = s.aon := rfl
@[simp] theorem State.setGen_ports (n : Nat) (f : Gen → Gen) : (s.setGen n f).ports = s.ports := rfl
@[simp] theorem State.setGen_parkPats (n : Nat) (f : Gen → Gen) : (s.setGen n f).parkPats = s.parkPats := rfl
@[simp] theorem State.setGen_seg (n : Nat) (f : Gen → Gen) : (s.setGen n f).seg = s.seg := rfl
@[simp] theorem State.setGen_therm (n : Nat) (f : Gen → Gen) : (s.setGen n f).therm = s.therm := rfl
@[simp] theorem State.setGen_net (n : Nat) (f : Gen → Gen) : (s.setGen n f).net = s.net := rfl
@[simp] theorem State.setGen_twin (n : Nat) (f : Gen → Gen) : (s.setGen n f).twin = s.twin := rfl
@[simp] theorem State.setGen_test (n : Nat) (f : Gen → Gen) : (s.setGen n f).test = s.test := rfl
@[simp] theorem State.setGen_out (n : Nat) (f : Gen → Gen) : (s.setGen n f).out = s.out := rfl
@[simp] theorem State.setGen_free (n : Nat) (f : Gen → Gen) : (s.setGen n f).free = s.free := rfl
@[simp] theorem State.setGen_pending (n : Nat) (f : Gen → Gen) : (s.setGen n f).pending = s.pending := rfl
@[simp] theorem State.setGen_fget (n : Nat) (f : Gen → Gen) (g : Fld) : (s.setGen n f).fget g = s.fget g := rfl
@[simp] theorem State.setGen_fbit (n : Nat) (f : Gen → Gen) (g : Fld) : (s.setGen n f).fbit g = s.fbit g := rfl
@[simp] theorem State.setGen_rd (n : Nat) (f : Gen → Gen) (x : Nat) : (s.setGen n f).rd x = s.rd x := rfl
@[simp] theorem State.setGen_domOn (n : Nat) (f : Gen → Gen) (x : Nat) : (s.setGen n f).domOn x = s.domOn x := rfl

@[simp] theorem State.setTwin_regs (f : TwinSt → TwinSt) : (s.setTwin f).regs = s.regs := rfl
@[simp] theorem State.setTwin_fregs (f : TwinSt → TwinSt) : (s.setTwin f).fregs = s.fregs := rfl
@[simp] theorem State.setTwin_clk (f : TwinSt → TwinSt) : (s.setTwin f).clk = s.clk := rfl
@[simp] theorem State.setTwin_ticks (f : TwinSt → TwinSt) : (s.setTwin f).ticks = s.ticks := rfl
@[simp] theorem State.setTwin_pins (f : TwinSt → TwinSt) : (s.setTwin f).pins = s.pins := rfl
@[simp] theorem State.setTwin_host (f : TwinSt → TwinSt) : (s.setTwin f).host = s.host := rfl
@[simp] theorem State.setTwin_ring (f : TwinSt → TwinSt) (k : Nat) : (s.setTwin f).ring k = s.ring k := by simp [State.ring]
@[simp] theorem State.setTwin_cmds (f : TwinSt → TwinSt) : (s.setTwin f).cmds = s.cmds := rfl
@[simp] theorem State.setTwin_sup (f : TwinSt → TwinSt) : (s.setTwin f).sup = s.sup := rfl
@[simp] theorem State.setTwin_mode (f : TwinSt → TwinSt) : (s.setTwin f).mode = s.mode := rfl
@[simp] theorem State.setTwin_flash (f : TwinSt → TwinSt) : (s.setTwin f).flash = s.flash := rfl
@[simp] theorem State.setTwin_boot (f : TwinSt → TwinSt) : (s.setTwin f).boot = s.boot := rfl
@[simp] theorem State.setTwin_sleep (f : TwinSt → TwinSt) : (s.setTwin f).sleep = s.sleep := rfl
@[simp] theorem State.setTwin_gens (f : TwinSt → TwinSt) : (s.setTwin f).gens = s.gens := rfl
@[simp] theorem State.setTwin_pix (f : TwinSt → TwinSt) : (s.setTwin f).pix = s.pix := rfl
@[simp] theorem State.setTwin_safe (f : TwinSt → TwinSt) : (s.setTwin f).safe = s.safe := rfl
@[simp] theorem State.setTwin_aon (f : TwinSt → TwinSt) : (s.setTwin f).aon = s.aon := rfl
@[simp] theorem State.setTwin_ports (f : TwinSt → TwinSt) : (s.setTwin f).ports = s.ports := rfl
@[simp] theorem State.setTwin_parkPats (f : TwinSt → TwinSt) : (s.setTwin f).parkPats = s.parkPats := rfl
@[simp] theorem State.setTwin_seg (f : TwinSt → TwinSt) : (s.setTwin f).seg = s.seg := rfl
@[simp] theorem State.setTwin_therm (f : TwinSt → TwinSt) : (s.setTwin f).therm = s.therm := rfl
@[simp] theorem State.setTwin_net (f : TwinSt → TwinSt) : (s.setTwin f).net = s.net := rfl
@[simp] theorem State.setTwin_twin (f : TwinSt → TwinSt) : (s.setTwin f).twin = f s.twin := rfl
@[simp] theorem State.setTwin_test (f : TwinSt → TwinSt) : (s.setTwin f).test = s.test := rfl
@[simp] theorem State.setTwin_out (f : TwinSt → TwinSt) : (s.setTwin f).out = s.out := rfl
@[simp] theorem State.setTwin_free (f : TwinSt → TwinSt) : (s.setTwin f).free = s.free := rfl
@[simp] theorem State.setTwin_pending (f : TwinSt → TwinSt) : (s.setTwin f).pending = s.pending := rfl
@[simp] theorem State.setTwin_fget (f : TwinSt → TwinSt) (g : Fld) : (s.setTwin f).fget g = s.fget g := rfl
@[simp] theorem State.setTwin_fbit (f : TwinSt → TwinSt) (g : Fld) : (s.setTwin f).fbit g = s.fbit g := rfl
@[simp] theorem State.setTwin_rd (f : TwinSt → TwinSt) (x : Nat) : (s.setTwin f).rd x = s.rd x := rfl
@[simp] theorem State.setTwin_domOn (f : TwinSt → TwinSt) (x : Nat) : (s.setTwin f).domOn x = s.domOn x := rfl

@[simp] theorem State.setBank_regs (b : Nat) (f : SegBank → SegBank) : (s.setBank b f).regs = s.regs := rfl
@[simp] theorem State.setBank_fregs (b : Nat) (f : SegBank → SegBank) : (s.setBank b f).fregs = s.fregs := rfl
@[simp] theorem State.setBank_clk (b : Nat) (f : SegBank → SegBank) : (s.setBank b f).clk = s.clk := rfl
@[simp] theorem State.setBank_ticks (b : Nat) (f : SegBank → SegBank) : (s.setBank b f).ticks = s.ticks := rfl
@[simp] theorem State.setBank_pins (b : Nat) (f : SegBank → SegBank) : (s.setBank b f).pins = s.pins := rfl
@[simp] theorem State.setBank_host (b : Nat) (f : SegBank → SegBank) : (s.setBank b f).host = s.host := rfl
@[simp] theorem State.setBank_cmds (b : Nat) (f : SegBank → SegBank) : (s.setBank b f).cmds = s.cmds := rfl
@[simp] theorem State.setBank_sup (b : Nat) (f : SegBank → SegBank) : (s.setBank b f).sup = s.sup := rfl
@[simp] theorem State.setBank_mode (b : Nat) (f : SegBank → SegBank) : (s.setBank b f).mode = s.mode := rfl
@[simp] theorem State.setBank_flash (b : Nat) (f : SegBank → SegBank) : (s.setBank b f).flash = s.flash := rfl
@[simp] theorem State.setBank_boot (b : Nat) (f : SegBank → SegBank) : (s.setBank b f).boot = s.boot := rfl
@[simp] theorem State.setBank_sleep (b : Nat) (f : SegBank → SegBank) : (s.setBank b f).sleep = s.sleep := rfl
@[simp] theorem State.setBank_gens (b : Nat) (f : SegBank → SegBank) : (s.setBank b f).gens = s.gens := rfl
@[simp] theorem State.setBank_pix (b : Nat) (f : SegBank → SegBank) : (s.setBank b f).pix = s.pix := rfl
@[simp] theorem State.setBank_safe (b : Nat) (f : SegBank → SegBank) : (s.setBank b f).safe = s.safe := rfl
@[simp] theorem State.setBank_aon (b : Nat) (f : SegBank → SegBank) : (s.setBank b f).aon = s.aon := rfl
@[simp] theorem State.setBank_ports (b : Nat) (f : SegBank → SegBank) : (s.setBank b f).ports = s.ports := rfl
@[simp] theorem State.setBank_parkPats (b : Nat) (f : SegBank → SegBank) : (s.setBank b f).parkPats = s.parkPats := rfl
@[simp] theorem State.setBank_seg (b : Nat) (f : SegBank → SegBank) : (s.setBank b f).seg = { s.seg with banks := upd f s.seg.banks b } := rfl
@[simp] theorem State.setBank_therm (b : Nat) (f : SegBank → SegBank) : (s.setBank b f).therm = s.therm := rfl
@[simp] theorem State.setBank_net (b : Nat) (f : SegBank → SegBank) : (s.setBank b f).net = s.net := rfl
@[simp] theorem State.setBank_twin (b : Nat) (f : SegBank → SegBank) : (s.setBank b f).twin = s.twin := rfl
@[simp] theorem State.setBank_test (b : Nat) (f : SegBank → SegBank) : (s.setBank b f).test = s.test := rfl
@[simp] theorem State.setBank_out (b : Nat) (f : SegBank → SegBank) : (s.setBank b f).out = s.out := rfl
@[simp] theorem State.setBank_free (b : Nat) (f : SegBank → SegBank) : (s.setBank b f).free = s.free := rfl
@[simp] theorem State.setBank_pending (b : Nat) (f : SegBank → SegBank) : (s.setBank b f).pending = s.pending := rfl
@[simp] theorem State.setBank_ring (b : Nat) (f : SegBank → SegBank) (k : Nat) : (s.setBank b f).ring k = s.ring k := by simp [State.ring]
@[simp] theorem State.setBank_fget (b : Nat) (f : SegBank → SegBank) (g : Fld) : (s.setBank b f).fget g = s.fget g := rfl
@[simp] theorem State.setBank_fbit (b : Nat) (f : SegBank → SegBank) (g : Fld) : (s.setBank b f).fbit g = s.fbit g := rfl
@[simp] theorem State.setBank_rd (b : Nat) (f : SegBank → SegBank) (x : Nat) : (s.setBank b f).rd x = s.rd x := rfl
@[simp] theorem State.setBank_domOn (b : Nat) (f : SegBank → SegBank) (x : Nat) : (s.setBank b f).domOn x = s.domOn x := rfl

@[simp] theorem State.setChan_regs (c : Nat) (f : SegCh → SegCh) : (s.setChan c f).regs = s.regs := rfl
@[simp] theorem State.setChan_fregs (c : Nat) (f : SegCh → SegCh) : (s.setChan c f).fregs = s.fregs := rfl
@[simp] theorem State.setChan_clk (c : Nat) (f : SegCh → SegCh) : (s.setChan c f).clk = s.clk := rfl
@[simp] theorem State.setChan_ticks (c : Nat) (f : SegCh → SegCh) : (s.setChan c f).ticks = s.ticks := rfl
@[simp] theorem State.setChan_pins (c : Nat) (f : SegCh → SegCh) : (s.setChan c f).pins = s.pins := rfl
@[simp] theorem State.setChan_host (c : Nat) (f : SegCh → SegCh) : (s.setChan c f).host = s.host := rfl
@[simp] theorem State.setChan_cmds (c : Nat) (f : SegCh → SegCh) : (s.setChan c f).cmds = s.cmds := rfl
@[simp] theorem State.setChan_sup (c : Nat) (f : SegCh → SegCh) : (s.setChan c f).sup = s.sup := rfl
@[simp] theorem State.setChan_mode (c : Nat) (f : SegCh → SegCh) : (s.setChan c f).mode = s.mode := rfl
@[simp] theorem State.setChan_flash (c : Nat) (f : SegCh → SegCh) : (s.setChan c f).flash = s.flash := rfl
@[simp] theorem State.setChan_boot (c : Nat) (f : SegCh → SegCh) : (s.setChan c f).boot = s.boot := rfl
@[simp] theorem State.setChan_sleep (c : Nat) (f : SegCh → SegCh) : (s.setChan c f).sleep = s.sleep := rfl
@[simp] theorem State.setChan_gens (c : Nat) (f : SegCh → SegCh) : (s.setChan c f).gens = s.gens := rfl
@[simp] theorem State.setChan_pix (c : Nat) (f : SegCh → SegCh) : (s.setChan c f).pix = s.pix := rfl
@[simp] theorem State.setChan_safe (c : Nat) (f : SegCh → SegCh) : (s.setChan c f).safe = s.safe := rfl
@[simp] theorem State.setChan_aon (c : Nat) (f : SegCh → SegCh) : (s.setChan c f).aon = s.aon := rfl
@[simp] theorem State.setChan_ports (c : Nat) (f : SegCh → SegCh) : (s.setChan c f).ports = s.ports := rfl
@[simp] theorem State.setChan_parkPats (c : Nat) (f : SegCh → SegCh) : (s.setChan c f).parkPats = s.parkPats := rfl
@[simp] theorem State.setChan_seg (c : Nat) (f : SegCh → SegCh) : (s.setChan c f).seg = { s.seg with chans := upd f s.seg.chans c } := rfl
@[simp] theorem State.setChan_therm (c : Nat) (f : SegCh → SegCh) : (s.setChan c f).therm = s.therm := rfl
@[simp] theorem State.setChan_net (c : Nat) (f : SegCh → SegCh) : (s.setChan c f).net = s.net := rfl
@[simp] theorem State.setChan_twin (c : Nat) (f : SegCh → SegCh) : (s.setChan c f).twin = s.twin := rfl
@[simp] theorem State.setChan_test (c : Nat) (f : SegCh → SegCh) : (s.setChan c f).test = s.test := rfl
@[simp] theorem State.setChan_out (c : Nat) (f : SegCh → SegCh) : (s.setChan c f).out = s.out := rfl
@[simp] theorem State.setChan_free (c : Nat) (f : SegCh → SegCh) : (s.setChan c f).free = s.free := rfl
@[simp] theorem State.setChan_pending (c : Nat) (f : SegCh → SegCh) : (s.setChan c f).pending = s.pending := rfl
@[simp] theorem State.setChan_ring (c : Nat) (f : SegCh → SegCh) (k : Nat) : (s.setChan c f).ring k = s.ring k := by simp [State.ring]
@[simp] theorem State.setChan_fget (c : Nat) (f : SegCh → SegCh) (g : Fld) : (s.setChan c f).fget g = s.fget g := rfl
@[simp] theorem State.setChan_fbit (c : Nat) (f : SegCh → SegCh) (g : Fld) : (s.setChan c f).fbit g = s.fbit g := rfl
@[simp] theorem State.setChan_rd (c : Nat) (f : SegCh → SegCh) (x : Nat) : (s.setChan c f).rd x = s.rd x := rfl
@[simp] theorem State.setChan_domOn (c : Nat) (f : SegCh → SegCh) (x : Nat) : (s.setChan c f).domOn x = s.domOn x := rfl

@[simp] theorem State.setSegRail_regs (r : Nat) (f : SegRail → SegRail) : (s.setSegRail r f).regs = s.regs := rfl
@[simp] theorem State.setSegRail_fregs (r : Nat) (f : SegRail → SegRail) : (s.setSegRail r f).fregs = s.fregs := rfl
@[simp] theorem State.setSegRail_clk (r : Nat) (f : SegRail → SegRail) : (s.setSegRail r f).clk = s.clk := rfl
@[simp] theorem State.setSegRail_ticks (r : Nat) (f : SegRail → SegRail) : (s.setSegRail r f).ticks = s.ticks := rfl
@[simp] theorem State.setSegRail_pins (r : Nat) (f : SegRail → SegRail) : (s.setSegRail r f).pins = s.pins := rfl
@[simp] theorem State.setSegRail_host (r : Nat) (f : SegRail → SegRail) : (s.setSegRail r f).host = s.host := rfl
@[simp] theorem State.setSegRail_cmds (r : Nat) (f : SegRail → SegRail) : (s.setSegRail r f).cmds = s.cmds := rfl
@[simp] theorem State.setSegRail_sup (r : Nat) (f : SegRail → SegRail) : (s.setSegRail r f).sup = s.sup := rfl
@[simp] theorem State.setSegRail_mode (r : Nat) (f : SegRail → SegRail) : (s.setSegRail r f).mode = s.mode := rfl
@[simp] theorem State.setSegRail_flash (r : Nat) (f : SegRail → SegRail) : (s.setSegRail r f).flash = s.flash := rfl
@[simp] theorem State.setSegRail_boot (r : Nat) (f : SegRail → SegRail) : (s.setSegRail r f).boot = s.boot := rfl
@[simp] theorem State.setSegRail_sleep (r : Nat) (f : SegRail → SegRail) : (s.setSegRail r f).sleep = s.sleep := rfl
@[simp] theorem State.setSegRail_gens (r : Nat) (f : SegRail → SegRail) : (s.setSegRail r f).gens = s.gens := rfl
@[simp] theorem State.setSegRail_pix (r : Nat) (f : SegRail → SegRail) : (s.setSegRail r f).pix = s.pix := rfl
@[simp] theorem State.setSegRail_safe (r : Nat) (f : SegRail → SegRail) : (s.setSegRail r f).safe = s.safe := rfl
@[simp] theorem State.setSegRail_aon (r : Nat) (f : SegRail → SegRail) : (s.setSegRail r f).aon = s.aon := rfl
@[simp] theorem State.setSegRail_ports (r : Nat) (f : SegRail → SegRail) : (s.setSegRail r f).ports = s.ports := rfl
@[simp] theorem State.setSegRail_parkPats (r : Nat) (f : SegRail → SegRail) : (s.setSegRail r f).parkPats = s.parkPats := rfl
@[simp] theorem State.setSegRail_seg (r : Nat) (f : SegRail → SegRail) : (s.setSegRail r f).seg = { s.seg with rails := upd f s.seg.rails r } := rfl
@[simp] theorem State.setSegRail_therm (r : Nat) (f : SegRail → SegRail) : (s.setSegRail r f).therm = s.therm := rfl
@[simp] theorem State.setSegRail_net (r : Nat) (f : SegRail → SegRail) : (s.setSegRail r f).net = s.net := rfl
@[simp] theorem State.setSegRail_twin (r : Nat) (f : SegRail → SegRail) : (s.setSegRail r f).twin = s.twin := rfl
@[simp] theorem State.setSegRail_test (r : Nat) (f : SegRail → SegRail) : (s.setSegRail r f).test = s.test := rfl
@[simp] theorem State.setSegRail_out (r : Nat) (f : SegRail → SegRail) : (s.setSegRail r f).out = s.out := rfl
@[simp] theorem State.setSegRail_free (r : Nat) (f : SegRail → SegRail) : (s.setSegRail r f).free = s.free := rfl
@[simp] theorem State.setSegRail_pending (r : Nat) (f : SegRail → SegRail) : (s.setSegRail r f).pending = s.pending := rfl
@[simp] theorem State.setSegRail_ring (r : Nat) (f : SegRail → SegRail) (k : Nat) : (s.setSegRail r f).ring k = s.ring k := by simp [State.ring]
@[simp] theorem State.setSegRail_fget (r : Nat) (f : SegRail → SegRail) (g : Fld) : (s.setSegRail r f).fget g = s.fget g := rfl
@[simp] theorem State.setSegRail_fbit (r : Nat) (f : SegRail → SegRail) (g : Fld) : (s.setSegRail r f).fbit g = s.fbit g := rfl
@[simp] theorem State.setSegRail_rd (r : Nat) (f : SegRail → SegRail) (x : Nat) : (s.setSegRail r f).rd x = s.rd x := rfl
@[simp] theorem State.setSegRail_domOn (r : Nat) (f : SegRail → SegRail) (x : Nat) : (s.setSegRail r f).domOn x = s.domOn x := rfl

@[simp] theorem State.setRun_regs (r : CalRun) : (s.setRun r).regs = s.regs := rfl
@[simp] theorem State.setRun_fregs (r : CalRun) : (s.setRun r).fregs = s.fregs := rfl
@[simp] theorem State.setRun_clk (r : CalRun) : (s.setRun r).clk = s.clk := rfl
@[simp] theorem State.setRun_ticks (r : CalRun) : (s.setRun r).ticks = s.ticks := rfl
@[simp] theorem State.setRun_pins (r : CalRun) : (s.setRun r).pins = s.pins := rfl
@[simp] theorem State.setRun_host (r : CalRun) : (s.setRun r).host = s.host := rfl
@[simp] theorem State.setRun_cmds (r : CalRun) : (s.setRun r).cmds = s.cmds := rfl
@[simp] theorem State.setRun_sup (r : CalRun) : (s.setRun r).sup = s.sup := rfl
@[simp] theorem State.setRun_mode (r : CalRun) : (s.setRun r).mode = s.mode := rfl
@[simp] theorem State.setRun_flash (r : CalRun) : (s.setRun r).flash = s.flash := rfl
@[simp] theorem State.setRun_boot (r : CalRun) : (s.setRun r).boot = s.boot := rfl
@[simp] theorem State.setRun_sleep (r : CalRun) : (s.setRun r).sleep = s.sleep := rfl
@[simp] theorem State.setRun_gens (r : CalRun) : (s.setRun r).gens = s.gens := rfl
@[simp] theorem State.setRun_pix (r : CalRun) : (s.setRun r).pix = s.pix := rfl
@[simp] theorem State.setRun_safe (r : CalRun) : (s.setRun r).safe = s.safe := rfl
@[simp] theorem State.setRun_aon (r : CalRun) : (s.setRun r).aon = s.aon := rfl
@[simp] theorem State.setRun_ports (r : CalRun) : (s.setRun r).ports = s.ports := rfl
@[simp] theorem State.setRun_parkPats (r : CalRun) : (s.setRun r).parkPats = s.parkPats := rfl
@[simp] theorem State.setRun_seg (r : CalRun) : (s.setRun r).seg = s.seg := rfl
@[simp] theorem State.setRun_therm (r : CalRun) : (s.setRun r).therm = { s.therm with run := some r } := rfl
@[simp] theorem State.setRun_net (r : CalRun) : (s.setRun r).net = s.net := rfl
@[simp] theorem State.setRun_twin (r : CalRun) : (s.setRun r).twin = s.twin := rfl
@[simp] theorem State.setRun_test (r : CalRun) : (s.setRun r).test = s.test := rfl
@[simp] theorem State.setRun_out (r : CalRun) : (s.setRun r).out = s.out := rfl
@[simp] theorem State.setRun_free (r : CalRun) : (s.setRun r).free = s.free := rfl
@[simp] theorem State.setRun_pending (r : CalRun) : (s.setRun r).pending = s.pending := rfl
@[simp] theorem State.setRun_ring (r : CalRun) (k : Nat) : (s.setRun r).ring k = s.ring k := by simp [State.ring]
@[simp] theorem State.setRun_fget (r : CalRun) (g : Fld) : (s.setRun r).fget g = s.fget g := rfl
@[simp] theorem State.setRun_fbit (r : CalRun) (g : Fld) : (s.setRun r).fbit g = s.fbit g := rfl
@[simp] theorem State.setRun_rd (r : CalRun) (x : Nat) : (s.setRun r).rd x = s.rd x := rfl
@[simp] theorem State.setRun_domOn (r : CalRun) (x : Nat) : (s.setRun r).domOn x = s.domOn x := rfl

@[simp] theorem State.setPcie_regs (f : PcieCfg → PcieCfg) : (s.setPcie f).regs = s.regs := rfl
@[simp] theorem State.setPcie_fregs (f : PcieCfg → PcieCfg) : (s.setPcie f).fregs = s.fregs := rfl
@[simp] theorem State.setPcie_clk (f : PcieCfg → PcieCfg) : (s.setPcie f).clk = s.clk := rfl
@[simp] theorem State.setPcie_ticks (f : PcieCfg → PcieCfg) : (s.setPcie f).ticks = s.ticks := rfl
@[simp] theorem State.setPcie_pins (f : PcieCfg → PcieCfg) : (s.setPcie f).pins = s.pins := rfl
@[simp] theorem State.setPcie_host (f : PcieCfg → PcieCfg) : (s.setPcie f).host = { s.host with pcie := f s.host.pcie } := rfl
@[simp] theorem State.setPcie_cmds (f : PcieCfg → PcieCfg) : (s.setPcie f).cmds = s.cmds := rfl
@[simp] theorem State.setPcie_sup (f : PcieCfg → PcieCfg) : (s.setPcie f).sup = s.sup := rfl
@[simp] theorem State.setPcie_mode (f : PcieCfg → PcieCfg) : (s.setPcie f).mode = s.mode := rfl
@[simp] theorem State.setPcie_flash (f : PcieCfg → PcieCfg) : (s.setPcie f).flash = s.flash := rfl
@[simp] theorem State.setPcie_boot (f : PcieCfg → PcieCfg) : (s.setPcie f).boot = s.boot := rfl
@[simp] theorem State.setPcie_sleep (f : PcieCfg → PcieCfg) : (s.setPcie f).sleep = s.sleep := rfl
@[simp] theorem State.setPcie_gens (f : PcieCfg → PcieCfg) : (s.setPcie f).gens = s.gens := rfl
@[simp] theorem State.setPcie_pix (f : PcieCfg → PcieCfg) : (s.setPcie f).pix = s.pix := rfl
@[simp] theorem State.setPcie_safe (f : PcieCfg → PcieCfg) : (s.setPcie f).safe = s.safe := rfl
@[simp] theorem State.setPcie_aon (f : PcieCfg → PcieCfg) : (s.setPcie f).aon = s.aon := rfl
@[simp] theorem State.setPcie_ports (f : PcieCfg → PcieCfg) : (s.setPcie f).ports = s.ports := rfl
@[simp] theorem State.setPcie_parkPats (f : PcieCfg → PcieCfg) : (s.setPcie f).parkPats = s.parkPats := rfl
@[simp] theorem State.setPcie_seg (f : PcieCfg → PcieCfg) : (s.setPcie f).seg = s.seg := rfl
@[simp] theorem State.setPcie_therm (f : PcieCfg → PcieCfg) : (s.setPcie f).therm = s.therm := rfl
@[simp] theorem State.setPcie_net (f : PcieCfg → PcieCfg) : (s.setPcie f).net = s.net := rfl
@[simp] theorem State.setPcie_twin (f : PcieCfg → PcieCfg) : (s.setPcie f).twin = s.twin := rfl
@[simp] theorem State.setPcie_test (f : PcieCfg → PcieCfg) : (s.setPcie f).test = s.test := rfl
@[simp] theorem State.setPcie_out (f : PcieCfg → PcieCfg) : (s.setPcie f).out = s.out := rfl
@[simp] theorem State.setPcie_free (f : PcieCfg → PcieCfg) : (s.setPcie f).free = s.free := rfl
@[simp] theorem State.setPcie_pending (f : PcieCfg → PcieCfg) : (s.setPcie f).pending = s.pending := rfl
@[simp] theorem State.setPcie_ring (f : PcieCfg → PcieCfg) (k : Nat) : (s.setPcie f).ring k = s.ring k := by simp [State.ring, State.setPcie]
@[simp] theorem State.setPcie_fget (f : PcieCfg → PcieCfg) (g : Fld) : (s.setPcie f).fget g = s.fget g := rfl
@[simp] theorem State.setPcie_fbit (f : PcieCfg → PcieCfg) (g : Fld) : (s.setPcie f).fbit g = s.fbit g := rfl
@[simp] theorem State.setPcie_rd (f : PcieCfg → PcieCfg) (x : Nat) : (s.setPcie f).rd x = s.rd x := rfl
@[simp] theorem State.setPcie_domOn (f : PcieCfg → PcieCfg) (x : Nat) : (s.setPcie f).domOn x = s.domOn x := rfl

@[simp] theorem State.setHs_regs (u l : Nat) (f : Handshake → Handshake) : (s.setHs u l f).regs = s.regs := by unfold State.setHs; split <;> rfl
@[simp] theorem State.setHs_fregs (u l : Nat) (f : Handshake → Handshake) : (s.setHs u l f).fregs = s.fregs := by unfold State.setHs; split <;> rfl
@[simp] theorem State.setHs_clk (u l : Nat) (f : Handshake → Handshake) : (s.setHs u l f).clk = s.clk := by unfold State.setHs; split <;> rfl
@[simp] theorem State.setHs_ticks (u l : Nat) (f : Handshake → Handshake) : (s.setHs u l f).ticks = s.ticks := by unfold State.setHs; split <;> rfl
@[simp] theorem State.setHs_pins (u l : Nat) (f : Handshake → Handshake) : (s.setHs u l f).pins = s.pins := by unfold State.setHs; split <;> rfl
@[simp] theorem State.setHs_host (u l : Nat) (f : Handshake → Handshake) : (s.setHs u l f).host = s.host := by unfold State.setHs; split <;> rfl
@[simp] theorem State.setHs_cmds (u l : Nat) (f : Handshake → Handshake) : (s.setHs u l f).cmds = s.cmds := by unfold State.setHs; split <;> rfl
@[simp] theorem State.setHs_sup (u l : Nat) (f : Handshake → Handshake) : (s.setHs u l f).sup = s.sup := by unfold State.setHs; split <;> rfl
@[simp] theorem State.setHs_mode (u l : Nat) (f : Handshake → Handshake) : (s.setHs u l f).mode = s.mode := by unfold State.setHs; split <;> rfl
@[simp] theorem State.setHs_flash (u l : Nat) (f : Handshake → Handshake) : (s.setHs u l f).flash = s.flash := by unfold State.setHs; split <;> rfl
@[simp] theorem State.setHs_boot (u l : Nat) (f : Handshake → Handshake) : (s.setHs u l f).boot = s.boot := by unfold State.setHs; split <;> rfl
@[simp] theorem State.setHs_sleep (u l : Nat) (f : Handshake → Handshake) : (s.setHs u l f).sleep = s.sleep := by unfold State.setHs; split <;> rfl
@[simp] theorem State.setHs_gens (u l : Nat) (f : Handshake → Handshake) : (s.setHs u l f).gens = s.gens := by unfold State.setHs; split <;> rfl
@[simp] theorem State.setHs_pix (u l : Nat) (f : Handshake → Handshake) : (s.setHs u l f).pix = s.pix := by unfold State.setHs; split <;> rfl
@[simp] theorem State.setHs_safe (u l : Nat) (f : Handshake → Handshake) : (s.setHs u l f).safe = s.safe := by unfold State.setHs; split <;> rfl
@[simp] theorem State.setHs_aon (u l : Nat) (f : Handshake → Handshake) : (s.setHs u l f).aon = s.aon := by unfold State.setHs; split <;> rfl
@[simp] theorem State.setHs_parkPats (u l : Nat) (f : Handshake → Handshake) : (s.setHs u l f).parkPats = s.parkPats := by unfold State.setHs; split <;> rfl
@[simp] theorem State.setHs_seg (u l : Nat) (f : Handshake → Handshake) : (s.setHs u l f).seg = s.seg := by unfold State.setHs; split <;> rfl
@[simp] theorem State.setHs_therm (u l : Nat) (f : Handshake → Handshake) : (s.setHs u l f).therm = s.therm := by unfold State.setHs; split <;> rfl
@[simp] theorem State.setHs_net (u l : Nat) (f : Handshake → Handshake) : (s.setHs u l f).net = s.net := by unfold State.setHs; split <;> rfl
@[simp] theorem State.setHs_test (u l : Nat) (f : Handshake → Handshake) : (s.setHs u l f).test = s.test := by unfold State.setHs; split <;> rfl
@[simp] theorem State.setHs_out (u l : Nat) (f : Handshake → Handshake) : (s.setHs u l f).out = s.out := by unfold State.setHs; split <;> rfl
@[simp] theorem State.setHs_free (u l : Nat) (f : Handshake → Handshake) : (s.setHs u l f).free = s.free := by unfold State.setHs; split <;> rfl
@[simp] theorem State.setHs_pending (u l : Nat) (f : Handshake → Handshake) : (s.setHs u l f).pending = s.pending := by unfold State.setHs; split <;> rfl
@[simp] theorem State.setHs_fget (u l : Nat) (f : Handshake → Handshake) (g : Fld) : (s.setHs u l f).fget g = s.fget g := by unfold State.setHs; split <;> rfl
@[simp] theorem State.setHs_fbit (u l : Nat) (f : Handshake → Handshake) (g : Fld) : (s.setHs u l f).fbit g = s.fbit g := by unfold State.setHs; split <;> rfl
@[simp] theorem State.setHs_rd (u l : Nat) (f : Handshake → Handshake) (x : Nat) : (s.setHs u l f).rd x = s.rd x := by unfold State.setHs; split <;> rfl
@[simp] theorem State.setHs_domOn (u l : Nat) (f : Handshake → Handshake) (x : Nat) : (s.setHs u l f).domOn x = s.domOn x := by unfold State.setHs; split <;> rfl

@[simp] theorem State.setRx_regs (u l : Nat) (f : Receiver → Receiver) : (s.setRx u l f).regs = s.regs := by unfold State.setRx; split <;> rfl
@[simp] theorem State.setRx_fregs (u l : Nat) (f : Receiver → Receiver) : (s.setRx u l f).fregs = s.fregs := by unfold State.setRx; split <;> rfl
@[simp] theorem State.setRx_clk (u l : Nat) (f : Receiver → Receiver) : (s.setRx u l f).clk = s.clk := by unfold State.setRx; split <;> rfl
@[simp] theorem State.setRx_ticks (u l : Nat) (f : Receiver → Receiver) : (s.setRx u l f).ticks = s.ticks := by unfold State.setRx; split <;> rfl
@[simp] theorem State.setRx_pins (u l : Nat) (f : Receiver → Receiver) : (s.setRx u l f).pins = s.pins := by unfold State.setRx; split <;> rfl
@[simp] theorem State.setRx_host (u l : Nat) (f : Receiver → Receiver) : (s.setRx u l f).host = s.host := by unfold State.setRx; split <;> rfl
@[simp] theorem State.setRx_cmds (u l : Nat) (f : Receiver → Receiver) : (s.setRx u l f).cmds = s.cmds := by unfold State.setRx; split <;> rfl
@[simp] theorem State.setRx_sup (u l : Nat) (f : Receiver → Receiver) : (s.setRx u l f).sup = s.sup := by unfold State.setRx; split <;> rfl
@[simp] theorem State.setRx_mode (u l : Nat) (f : Receiver → Receiver) : (s.setRx u l f).mode = s.mode := by unfold State.setRx; split <;> rfl
@[simp] theorem State.setRx_flash (u l : Nat) (f : Receiver → Receiver) : (s.setRx u l f).flash = s.flash := by unfold State.setRx; split <;> rfl
@[simp] theorem State.setRx_boot (u l : Nat) (f : Receiver → Receiver) : (s.setRx u l f).boot = s.boot := by unfold State.setRx; split <;> rfl
@[simp] theorem State.setRx_sleep (u l : Nat) (f : Receiver → Receiver) : (s.setRx u l f).sleep = s.sleep := by unfold State.setRx; split <;> rfl
@[simp] theorem State.setRx_gens (u l : Nat) (f : Receiver → Receiver) : (s.setRx u l f).gens = s.gens := by unfold State.setRx; split <;> rfl
@[simp] theorem State.setRx_pix (u l : Nat) (f : Receiver → Receiver) : (s.setRx u l f).pix = s.pix := by unfold State.setRx; split <;> rfl
@[simp] theorem State.setRx_safe (u l : Nat) (f : Receiver → Receiver) : (s.setRx u l f).safe = s.safe := by unfold State.setRx; split <;> rfl
@[simp] theorem State.setRx_aon (u l : Nat) (f : Receiver → Receiver) : (s.setRx u l f).aon = s.aon := by unfold State.setRx; split <;> rfl
@[simp] theorem State.setRx_parkPats (u l : Nat) (f : Receiver → Receiver) : (s.setRx u l f).parkPats = s.parkPats := by unfold State.setRx; split <;> rfl
@[simp] theorem State.setRx_seg (u l : Nat) (f : Receiver → Receiver) : (s.setRx u l f).seg = s.seg := by unfold State.setRx; split <;> rfl
@[simp] theorem State.setRx_therm (u l : Nat) (f : Receiver → Receiver) : (s.setRx u l f).therm = s.therm := by unfold State.setRx; split <;> rfl
@[simp] theorem State.setRx_net (u l : Nat) (f : Receiver → Receiver) : (s.setRx u l f).net = s.net := by unfold State.setRx; split <;> rfl
@[simp] theorem State.setRx_test (u l : Nat) (f : Receiver → Receiver) : (s.setRx u l f).test = s.test := by unfold State.setRx; split <;> rfl
@[simp] theorem State.setRx_out (u l : Nat) (f : Receiver → Receiver) : (s.setRx u l f).out = s.out := by unfold State.setRx; split <;> rfl
@[simp] theorem State.setRx_free (u l : Nat) (f : Receiver → Receiver) : (s.setRx u l f).free = s.free := by unfold State.setRx; split <;> rfl
@[simp] theorem State.setRx_pending (u l : Nat) (f : Receiver → Receiver) : (s.setRx u l f).pending = s.pending := by unfold State.setRx; split <;> rfl
@[simp] theorem State.setRx_fget (u l : Nat) (f : Receiver → Receiver) (g : Fld) : (s.setRx u l f).fget g = s.fget g := by unfold State.setRx; split <;> rfl
@[simp] theorem State.setRx_fbit (u l : Nat) (f : Receiver → Receiver) (g : Fld) : (s.setRx u l f).fbit g = s.fbit g := by unfold State.setRx; split <;> rfl
@[simp] theorem State.setRx_rd (u l : Nat) (f : Receiver → Receiver) (x : Nat) : (s.setRx u l f).rd x = s.rd x := by unfold State.setRx; split <;> rfl
@[simp] theorem State.setRx_domOn (u l : Nat) (f : Receiver → Receiver) (x : Nat) : (s.setRx u l f).domOn x = s.domOn x := by unfold State.setRx; split <;> rfl

end Sys2Proof.Machine
end

