-- ==== Sys2Proof/Laws/After.lean ====
section
/-! SUPPORT. What the end of every command does (`State.after`): it issues descriptor reads and settles levels, and touches nothing else. -/

namespace Sys2Proof.Machine

theorem nth_upd [Inhabited α] (f : α → α) (l : List α) (n m : Nat) :
    nth (upd f l n) m = if n = m ∧ m < l.length then f (nth l m) else nth l m := by
  induction l generalizing n m with
  | nil => simp [upd, nth]
  | cons a t ih =>
    cases n <;> cases m <;> simp [upd, nth, ih]

theorem upd_length (f : α → α) (l : List α) (n : Nat) : (upd f l n).length = l.length := by
  induction l generalizing n with
  | nil => rfl
  | cons a t ih => cases n <;> simp [upd, ih]

/-! ## Issuing reads -/

/-- A state that differs from another only in the reads in flight on the rings, the submit ring whose turn it is, and in what has left the device, which is added to by host reads. -/
structure OnlyReads (s t : State) : Prop where
  regs : t.regs = s.regs
  fregs : t.fregs = s.fregs
  clk : t.clk = s.clk
  ticks : t.ticks = s.ticks
  pins : t.pins = s.pins
  cmds : t.cmds = s.cmds
  sup : t.sup = s.sup
  mode : t.mode = s.mode
  flash : t.flash = s.flash
  boot : t.boot = s.boot
  sleep : t.sleep = s.sleep
  gens : t.gens = s.gens
  pix : t.pix = s.pix
  safe : t.safe = s.safe
  aon : t.aon = s.aon
  ports : t.ports = s.ports
  parkPats : t.parkPats = s.parkPats
  seg : t.seg = s.seg
  therm : t.therm = s.therm
  net : t.net = s.net
  twin : t.twin = s.twin
  test : t.test = s.test
  free : t.free = s.free
  pending : t.pending = s.pending
  host : t.host = { s.host with rings := t.host.rings, turn := t.host.turn }
  ring : ∀ n, t.ring n = { s.ring n with flight := (t.ring n).flight }
  out : ∃ rs : List Output, t.out = s.out ++ rs ∧ ∀ o ∈ rs, ∃ a n, o = Output.hostRead a n

theorem OnlyReads.refl (s : State) : OnlyReads s s := by
  constructor <;> first | rfl | (intro n; rfl) | exact ⟨[], by simp, by simp⟩

theorem OnlyReads.trans {s t u : State} (h : OnlyReads s t) (k : OnlyReads t u) : OnlyReads s u where
  regs := k.regs.trans h.regs
  fregs := k.fregs.trans h.fregs
  clk := k.clk.trans h.clk
  ticks := k.ticks.trans h.ticks
  pins := k.pins.trans h.pins
  cmds := k.cmds.trans h.cmds
  sup := k.sup.trans h.sup
  mode := k.mode.trans h.mode
  flash := k.flash.trans h.flash
  boot := k.boot.trans h.boot
  sleep := k.sleep.trans h.sleep
  gens := k.gens.trans h.gens
  pix := k.pix.trans h.pix
  safe := k.safe.trans h.safe
  aon := k.aon.trans h.aon
  ports := k.ports.trans h.ports
  parkPats := k.parkPats.trans h.parkPats
  seg := k.seg.trans h.seg
  therm := k.therm.trans h.therm
  net := k.net.trans h.net
  twin := k.twin.trans h.twin
  test := k.test.trans h.test
  free := k.free.trans h.free
  pending := k.pending.trans h.pending
  host := by rw [k.host, h.host]
  ring := fun n => by rw [k.ring n, h.ring n]
  out := by
    obtain ⟨r1, e1, p1⟩ := h.out
    obtain ⟨r2, e2, p2⟩ := k.out
    refine ⟨r1 ++ r2, by rw [e2, e1, List.append_assoc], ?_⟩
    intro o ho
    rcases List.mem_append.1 ho with h | h
    exacts [p1 o h, p2 o h]

theorem issueRead_only (r : Nat) (s : State) : OnlyReads s (issueRead r s) := by
  unfold issueRead
  split
  · exact OnlyReads.refl s
  · unfold State.readHost
    constructor
    case out =>
      refine ⟨_, rfl, fun o ho => ?_⟩
      obtain ⟨e, -, rfl⟩ := List.mem_map.1 ho
      exact ⟨_, _, rfl⟩
    case ring =>
      intro n
      simp only [State.ring, State.emits_host, State.setRing_host, nth_upd]
      split <;> simp
    all_goals simp

theorem serveTurn_only (r : Nat) (s : State) : OnlyReads s (serveTurn r s) := by
  unfold serveTurn
  dsimp only
  split
  · refine (issueRead_only r s).trans ?_
    constructor <;> first | rfl | (intro n; rfl) | exact ⟨[], by simp, by simp⟩
  · exact OnlyReads.refl s

theorem overList_only (f : Nat → State → State) (h : ∀ i s, OnlyReads s (f i s)) (l : List Nat) (s : State) :
    OnlyReads s (overList f l s) := by
  induction l generalizing s with
  | nil => exact OnlyReads.refl s
  | cons i t ih => exact (h i s).trans (ih (f i s))

theorem issueReads_only (s : State) : OnlyReads s s.issueReads := by
  unfold State.issueReads
  dsimp only
  split
  · exact issueRead_only 0 s
  · exact (issueRead_only 0 s).trans (overList_only _ serveTurn_only _ _)

theorem OnlyReads.rd {s t : State} (h : OnlyReads s t) (a : Nat) : t.rd a = s.rd a := by unfold State.rd; rw [h.regs]
theorem OnlyReads.fget {s t : State} (h : OnlyReads s t) (f : Fld) : t.fget f = s.fget f := by unfold State.fget; rw [h.rd]
theorem OnlyReads.fbit {s t : State} (h : OnlyReads s t) (f : Fld) : t.fbit f = s.fbit f := by unfold State.fbit; rw [h.fget]
theorem OnlyReads.pinsWanted {s t : State} (h : OnlyReads s t) : t.pinsWanted = s.pinsWanted := by
  simp only [State.pinsWanted, State.faultOn, h.fbit, h.boot, h.aon, h.mode]
theorem OnlyReads.pinsLow {s t : State} (h : OnlyReads s t) : t.pinsLow = s.pinsLow := by
  simp only [State.pinsLow, State.inSentinel, State.modeNow, h.pinsWanted, h.fbit, h.fget, h.aon]

/-! ## Settling levels -/

/-- A state that differs from another only in SAFE_STATUS and the fault pins. -/
structure OnlyLevels (s t : State) : Prop where
  fregs : t.fregs = s.fregs
  clk : t.clk = s.clk
  ticks : t.ticks = s.ticks
  pins : t.pins = s.pins
  host : t.host = s.host
  cmds : t.cmds = s.cmds
  sup : t.sup = s.sup
  mode : t.mode = s.mode
  flash : t.flash = s.flash
  boot : t.boot = s.boot
  sleep : t.sleep = s.sleep
  gens : t.gens = s.gens
  pix : t.pix = s.pix
  safe : t.safe = s.safe
  ports : t.ports = s.ports
  parkPats : t.parkPats = s.parkPats
  seg : t.seg = s.seg
  therm : t.therm = s.therm
  net : t.net = s.net
  twin : t.twin = s.twin
  test : t.test = s.test
  out : t.out = s.out
  free : t.free = s.free
  pending : t.pending = s.pending
  aon : t.aon = { s.aon with faultPins := t.aon.faultPins }
  rd : ∀ a, a ≠ 0x90000 → t.rd a = s.rd a

theorem OnlyLevels.refl (s : State) : OnlyLevels s s := by
  constructor <;> first | rfl | (intro a _; rfl)

theorem OnlyLevels.trans {s t u : State} (h : OnlyLevels s t) (k : OnlyLevels t u) : OnlyLevels s u where
  fregs := k.fregs.trans h.fregs
  clk := k.clk.trans h.clk
  ticks := k.ticks.trans h.ticks
  pins := k.pins.trans h.pins
  host := k.host.trans h.host
  cmds := k.cmds.trans h.cmds
  sup := k.sup.trans h.sup
  mode := k.mode.trans h.mode
  flash := k.flash.trans h.flash
  boot := k.boot.trans h.boot
  sleep := k.sleep.trans h.sleep
  gens := k.gens.trans h.gens
  pix := k.pix.trans h.pix
  safe := k.safe.trans h.safe
  ports := k.ports.trans h.ports
  parkPats := k.parkPats.trans h.parkPats
  seg := k.seg.trans h.seg
  therm := k.therm.trans h.therm
  net := k.net.trans h.net
  twin := k.twin.trans h.twin
  test := k.test.trans h.test
  out := k.out.trans h.out
  free := k.free.trans h.free
  pending := k.pending.trans h.pending
  aon := by rw [k.aon, h.aon]
  rd := fun a ha => (k.rd a ha).trans (h.rd a ha)

theorem fset_levels (s : State) (f : Fld) (v : Nat) (hf : f.addr = 0x90000) : OnlyLevels s (s.fset f v) := by
  constructor
  case rd => exact fun _ ha => regGet_regPut_other _ _ _ _ (by rw [hf]; exact ha)
  all_goals simp

theorem drivePins_only (s : State) : OnlyLevels s s.drivePins := by
  have h : OnlyLevels s { s with aon := { s.aon with faultPins := s.pinsLow } } := by
    constructor <;> first | rfl | (intro a _; rfl)
  unfold State.drivePins
  dsimp only
  split
  · exact h.trans (fset_levels _ _ _ rfl)
  · exact h

theorem showSafe_only (s : State) : OnlyLevels s s.showSafe :=
  ((fset_levels _ _ _ rfl).trans (fset_levels _ _ _ rfl)).trans (fset_levels _ _ _ rfl)

theorem levels_only (s : State) : OnlyLevels s s.levels := by
  unfold State.levels
  dsimp only
  split
  · exact (drivePins_only s).trans (showSafe_only _)
  · exact drivePins_only s

theorem drivePins_pins (s : State) : s.drivePins.aon.faultPins = s.pinsLow := by
  unfold State.drivePins; dsimp only; split <;> rfl

theorem showSafe_aon (s : State) : s.showSafe.aon = s.aon := by simp [State.showSafe]

theorem levels_pins (s : State) : s.levels.aon.faultPins = s.pinsLow := by
  unfold State.levels; dsimp only
  split
  · rw [showSafe_aon]; exact drivePins_pins s
  · exact drivePins_pins s

/-! ## The state after a command -/

variable (s t : State)

@[simp] theorem after_pending : (s.after t).pending = s.pending := rfl

@[simp] theorem after_fregs : (s.after t).fregs = t.fregs := (levels_only _).fregs.trans (issueReads_only t).fregs
@[simp] theorem after_clk : (s.after t).clk = t.clk := (levels_only _).clk.trans (issueReads_only t).clk
@[simp] theorem after_ticks : (s.after t).ticks = t.ticks := (levels_only _).ticks.trans (issueReads_only t).ticks
@[simp] theorem after_pins : (s.after t).pins = t.pins := (levels_only _).pins.trans (issueReads_only t).pins
@[simp] theorem after_cmds : (s.after t).cmds = t.cmds := (levels_only _).cmds.trans (issueReads_only t).cmds
@[simp] theorem after_sup : (s.after t).sup = t.sup := (levels_only _).sup.trans (issueReads_only t).sup
@[simp] theorem after_mode : (s.after t).mode = t.mode := (levels_only _).mode.trans (issueReads_only t).mode
@[simp] theorem after_flash : (s.after t).flash = t.flash := (levels_only _).flash.trans (issueReads_only t).flash
@[simp] theorem after_boot : (s.after t).boot = t.boot := (levels_only _).boot.trans (issueReads_only t).boot
@[simp] theorem after_sleep : (s.after t).sleep = t.sleep := (levels_only _).sleep.trans (issueReads_only t).sleep
@[simp] theorem after_gens : (s.after t).gens = t.gens := (levels_only _).gens.trans (issueReads_only t).gens
@[simp] theorem after_pix : (s.after t).pix = t.pix := (levels_only _).pix.trans (issueReads_only t).pix
@[simp] theorem after_safe : (s.after t).safe = t.safe := (levels_only _).safe.trans (issueReads_only t).safe
@[simp] theorem after_ports : (s.after t).ports = t.ports := (levels_only _).ports.trans (issueReads_only t).ports
@[simp] theorem after_parkPats : (s.after t).parkPats = t.parkPats := (levels_only _).parkPats.trans (issueReads_only t).parkPats
@[simp] theorem after_seg : (s.after t).seg = t.seg := (levels_only _).seg.trans (issueReads_only t).seg
@[simp] theorem after_therm : (s.after t).therm = t.therm := (levels_only _).therm.trans (issueReads_only t).therm
@[simp] theorem after_net : (s.after t).net = t.net := (levels_only _).net.trans (issueReads_only t).net
@[simp] theorem after_twin : (s.after t).twin = t.twin := (levels_only _).twin.trans (issueReads_only t).twin
@[simp] theorem after_test : (s.after t).test = t.test := (levels_only _).test.trans (issueReads_only t).test
@[simp] theorem after_free : (s.after t).free = t.free := (levels_only _).free.trans (issueReads_only t).free

theorem after_host : (s.after t).host = t.issueReads.host := (levels_only _).host

theorem after_hostRest : (s.after t).host = { t.host with rings := (s.after t).host.rings, turn := (s.after t).host.turn } := by
  rw [after_host]; exact (issueReads_only t).host

@[simp] theorem after_busMaster : (s.after t).host.busMaster = t.host.busMaster := by rw [after_hostRest]
@[simp] theorem after_pcie : (s.after t).host.pcie = t.host.pcie := by rw [after_hostRest]
@[simp] theorem after_presentSeen : (s.after t).host.presentSeen = t.host.presentSeen := by rw [after_hostRest]
@[simp] theorem after_cplQueue : (s.after t).host.cplQueue = t.host.cplQueue := by rw [after_hostRest]
@[simp] theorem after_heldRecords : (s.after t).host.heldRecords = t.host.heldRecords := by rw [after_hostRest]
@[simp] theorem after_heldReads : (s.after t).host.heldReads = t.host.heldReads := by rw [after_hostRest]
@[simp] theorem after_pba : (s.after t).host.pba = t.host.pba := by rw [after_hostRest]
@[simp] theorem after_offAccAt : (s.after t).host.offAccAt = t.host.offAccAt := by rw [after_hostRest]
@[simp] theorem after_wrefAt : (s.after t).host.wrefAt = t.host.wrefAt := by rw [after_hostRest]

theorem after_ring (n : Nat) : (s.after t).ring n = { t.ring n with flight := ((s.after t).ring n).flight } := by
  have e : ∀ m, (s.after t).ring m = t.issueReads.ring m := fun m => by unfold State.ring; rw [after_host]
  rw [e]; exact (issueReads_only t).ring n

@[simp] theorem after_ring_head (n : Nat) : ((s.after t).ring n).head = (t.ring n).head := by rw [after_ring]
@[simp] theorem after_ring_tail (n : Nat) : ((s.after t).ring n).tail = (t.ring n).tail := by rw [after_ring]
@[simp] theorem after_ring_marks (n : Nat) : ((s.after t).ring n).marks = (t.ring n).marks := by rw [after_ring]
@[simp] theorem after_ring_arrived (n : Nat) : ((s.after t).ring n).arrived = (t.ring n).arrived := by rw [after_ring]
@[simp] theorem after_ring_outst (n : Nat) : ((s.after t).ring n).outst = (t.ring n).outst := by rw [after_ring]
@[simp] theorem after_ring_fence (n : Nat) : ((s.after t).ring n).fence = (t.ring n).fence := by rw [after_ring]
@[simp] theorem after_ring_seq (n : Nat) : ((s.after t).ring n).seq = (t.ring n).seq := by rw [after_ring]
@[simp] theorem after_ring_lostPend (n : Nat) : ((s.after t).ring n).lostPend = (t.ring n).lostPend := by rw [after_ring]
@[simp] theorem after_ring_unsig (n : Nat) : ((s.after t).ring n).unsig = (t.ring n).unsig := by rw [after_ring]

/-- What has left the device: what the command's effect left, then host reads of descriptors. -/
theorem after_out : ∃ rs : List Output, (s.after t).out = t.out ++ rs ∧ ∀ o ∈ rs, ∃ a n, o = Output.hostRead a n := by
  have e : (s.after t).out = t.issueReads.out := (levels_only _).out
  rw [e]; exact (issueReads_only t).out

theorem after_emitted {o : Output} (h : o ∈ t.out) : o ∈ (s.after t).out := by
  obtain ⟨rs, e, -⟩ := after_out s t
  rw [e]; exact List.mem_append_left _ h

theorem after_aon : (s.after t).aon = { t.aon with faultPins := t.pinsLow } := by
  have e : (s.after t).aon = t.issueReads.levels.aon := rfl
  rw [e, (levels_only _).aon, levels_pins, (issueReads_only t).pinsLow, (issueReads_only t).aon]

theorem after_rd (a : Nat) (h : a ≠ 0x90000) : (s.after t).rd a = t.rd a :=
  ((levels_only _).rd a h).trans ((issueReads_only t).rd a)

theorem after_fget (f : Fld) (h : f.addr ≠ 0x90000) : (s.after t).fget f = t.fget f := by
  unfold State.fget; rw [after_rd s t f.addr h]

theorem after_fbit (f : Fld) (h : f.addr ≠ 0x90000) : (s.after t).fbit f = t.fbit f := by
  unfold State.fbit; rw [after_fget s t f h]

theorem after_domOn (d : Nat) : (s.after t).domOn d = t.domOn d := by
  unfold State.domOn; rw [after_fget s t _ (by decide)]

end Sys2Proof.Machine
end

