-- ==== Sys2Proof/Laws/Records.lean ====
section
/-! SUPPORT. What writing records can do (chapter 03): completions, events and health records touch the three device-to-host rings, their heads, the lost counts and CPL_STALL, and nothing else. -/

namespace Sys2Proof.Machine

/-- The registers that writing records changes: HOST_STATUS (CPL_STALL), HOST_EVT_LOST and the heads of the rings. -/
def recordReg (a : Nat) : Prop := a = 0x10000 ∨ a = 0x1000C ∨ ∃ n, a = 0x10110 + n * 0x40

/-- A state that differs from another only by records written, held, queued or dropped, and by completions marked as written. -/
structure OnlyRecords (s t : State) : Prop where
  fregs : t.fregs = s.fregs
  clk : t.clk = s.clk
  ticks : t.ticks = s.ticks
  pins : t.pins = s.pins
  cmds : t.cmds = s.cmds
  sup : t.sup = s.sup
  mode : t.mode = s.mode
  flash : t.flash = s.flash
  boot : t.boot = s.boot
  sleep : t.sleep = s.sleep
  gens : t.gens = s.gens
  pix : t.pix = s.pix
  safe : t.safe = s.safe
  aon : t.aon = s.aon
  ports : t.ports = s.ports
  parkPats : t.parkPats = s.parkPats
  seg : t.seg = s.seg
  therm : t.therm = s.therm
  net : t.net = s.net
  twin : t.twin = s.twin
  test : t.test = s.test
  free : t.free = s.free
  pending : t.pending = s.pending
  rd : ∀ a, ¬ recordReg a → t.rd a = s.rd a
  status : ∀ f : Fld, f.addr = 0x10000 → f.lo + f.width ≤ 8 → t.fget f = s.fget f
  busMaster : t.host.busMaster = s.host.busMaster
  pcie : t.host.pcie = s.host.pcie
  turn : t.host.turn = s.host.turn
  presentSeen : t.host.presentSeen = s.host.presentSeen
  rings : t.host.rings.length = s.host.rings.length
  tail : ∀ n, (t.ring n).tail = (s.ring n).tail
  marks : ∀ n, (t.ring n).marks = (s.ring n).marks
  flight : ∀ n, (t.ring n).flight = (s.ring n).flight
  arrived : ∀ n, (t.ring n).arrived = (s.ring n).arrived
  fence : ∀ n, (t.ring n).fence = (s.ring n).fence
  out : ∃ os : List Output, t.out = s.out ++ os

theorem OnlyRecords.refl (s : State) : OnlyRecords s s := by
  constructor <;> first | rfl | exact ⟨[], by simp⟩ | (intros; rfl)

theorem OnlyRecords.trans {s t u : State} (h : OnlyRecords s t) (k : OnlyRecords t u) : OnlyRecords s u where
  fregs := k.fregs.trans h.fregs
  clk := k.clk.trans h.clk
  ticks := k.ticks.trans h.ticks
  pins := k.pins.trans h.pins
  cmds := k.cmds.trans h.cmds
  sup := k.sup.trans h.sup
  mode := k.mode.trans h.mode
  flash := k.flash.trans h.flash
  boot := k.boot.trans h.boot
  sleep := k.sleep.trans h.sleep
  gens := k.gens.trans h.gens
  pix := k.pix.trans h.pix
  safe := k.safe.trans h.safe
  aon := k.aon.trans h.aon
  ports := k.ports.trans h.ports
  parkPats := k.parkPats.trans h.parkPats
  seg := k.seg.trans h.seg
  therm := k.therm.trans h.therm
  net := k.net.trans h.net
  twin := k.twin.trans h.twin
  test := k.test.trans h.test
  free := k.free.trans h.free
  pending := k.pending.trans h.pending
  busMaster := k.busMaster.trans h.busMaster
  pcie := k.pcie.trans h.pcie
  turn := k.turn.trans h.turn
  presentSeen := k.presentSeen.trans h.presentSeen
  rings := k.rings.trans h.rings
  rd := fun a ha => (k.rd a ha).trans (h.rd a ha)
  status := fun f a b => (k.status f a b).trans (h.status f a b)
  tail := fun n => (k.tail n).trans (h.tail n)
  marks := fun n => (k.marks n).trans (h.marks n)
  flight := fun n => (k.flight n).trans (h.flight n)
  arrived := fun n => (k.arrived n).trans (h.arrived n)
  fence := fun n => (k.fence n).trans (h.fence n)
  out := by
    obtain ⟨a, e⟩ := h.out
    obtain ⟨b, e'⟩ := k.out
    exact ⟨a ++ b, by rw [e', e, List.append_assoc]⟩

theorem ring_setRing (s : State) (n m : Nat) (f : Ring → Ring) :
    (s.setRing n f).ring m = if n = m ∧ m < s.host.rings.length then f (s.ring m) else s.ring m := nth_upd _ _ _ _

theorem ring_setRing_same (s : State) (n : Nat) (f : Ring → Ring) (h : n < s.host.rings.length) : (s.setRing n f).ring n = f (s.ring n) := by
  rw [ring_setRing, if_pos ⟨rfl, h⟩]

theorem ring_setRing_other (s : State) (n m : Nat) (f : Ring → Ring) (h : n ≠ m) : (s.setRing n f).ring m = s.ring m := by
  rw [ring_setRing, if_neg (fun k => h k.1)]

/-- A change of one ring that keeps a part of it keeps that part of every ring. -/
theorem ring_setRing_keep {α : Type} (g : Ring → α) (s : State) (n m : Nat) (f : Ring → Ring) (h : ∀ q, g (f q) = g q) :
    g ((s.setRing n f).ring m) = g (s.ring m) := by
  rw [ring_setRing]; split
  · exact h _
  · rfl

/-- A change of a ring that leaves what the host announced, what is in flight and what waits. -/
theorem setRing_records (s : State) (n : Nat) (f : Ring → Ring)
    (ht : ∀ q : Ring, (f q).tail = q.tail) (hm : ∀ q : Ring, (f q).marks = q.marks) (hf : ∀ q : Ring, (f q).flight = q.flight)
    (ha : ∀ q : Ring, (f q).arrived = q.arrived) (he : ∀ q : Ring, (f q).fence = q.fence) :
    OnlyRecords s (s.setRing n f) := by
  constructor
  case rings => simp [upd_length]
  case out => exact ⟨[], by simp⟩
  case tail => intro m; rw [ring_setRing]; split <;> simp [ht]
  case marks => intro m; rw [ring_setRing]; split <;> simp [hm]
  case flight => intro m; rw [ring_setRing]; split <;> simp [hf]
  case arrived => intro m; rw [ring_setRing]; split <;> simp [ha]
  case fence => intro m; rw [ring_setRing]; split <;> simp [he]
  case rd => intro a _; simp
  case status => intro f _ _; simp
  all_goals simp

theorem fset_records (s : State) (f : Fld) (v : Nat) (h : recordReg f.addr)
    (hs : f.addr = 0x10000 → 8 ≤ f.lo ∧ f.lo + f.width ≤ 32) : OnlyRecords s (s.fset f v) := by
  constructor
  case rd => intro a ha; exact regGet_regPut_other _ _ _ _ (by rintro rfl; exact ha h)
  case status =>
    intro g hg hl
    by_cases e : g.addr = f.addr
    · obtain ⟨h1, h2⟩ := hs (e ▸ hg)
      exact fget_fset_apart s f g v (by simp [Fld.apart, e]; omega) (by simp [Fld.fits]; omega) (by simp [Fld.fits]; omega)
    · exact fget_fset_addr s f g v e
  case out => exact ⟨[], by simp⟩
  all_goals first | rfl | (intros; rfl)

theorem emit_records (s : State) (o : Output) : OnlyRecords s (s.emit o) := by
  constructor
  case out => exact ⟨[o], rfl⟩
  all_goals first | rfl | (intros; rfl)

theorem showHead_records (s : State) (n : Nat) : OnlyRecords s (s.showHead n) := by
  unfold State.showHead
  dsimp only
  refine (fset_records _ _ _ (Or.inr (Or.inr ⟨n, rfl⟩)) ?_).trans (fset_records _ _ _ (Or.inr (Or.inr ⟨n, rfl⟩)) ?_)
  all_goals (intro h; simp [R.HOST_RING_HEAD_INDEX, R.HOST_RING_HEAD_GEN] at h; omega)

theorem sendVector_records (s : State) (v : Nat) : OnlyRecords s (s.sendVector v) := by
  unfold State.sendVector
  split
  · exact OnlyRecords.refl s
  split
  · refine OnlyRecords.trans (t := { s with host := { s.host with pba := maskSet s.host.pba v true } }) ?_ (emit_records _ _)
    constructor
    case out => exact ⟨[], by simp⟩
    all_goals first | rfl | (intros; rfl)
  · exact emit_records _ _

theorem emits_records (s : State) (os : List Output) : OnlyRecords s (s.emits os) := by
  constructor
  case out => exact ⟨os, rfl⟩
  all_goals first | rfl | (intros; rfl)

theorem readHost_records (s : State) (addr len : Nat) : OnlyRecords s (s.readHost addr len) := emits_records _ _

theorem writeHost_records (s : State) (addr : Nat) (bytes : List Byte) : OnlyRecords s (s.writeHost addr bytes) := emits_records _ _

theorem sendPending_records (v : Nat) (s : State) : OnlyRecords s (sendPending v s) := by
  unfold sendPending
  split
  · refine OnlyRecords.trans (t := { s with host := { s.host with pba := maskSet s.host.pba v false } }) ?_ (emit_records _ _)
    constructor
    case out => exact ⟨[], by simp⟩
    all_goals first | rfl | (intros; rfl)
  · exact OnlyRecords.refl s

theorem overList_records (f : Nat → State → State) (h : ∀ i s, OnlyRecords s (f i s)) (l : List Nat) (s : State) :
    OnlyRecords s (overList f l s) := by
  induction l generalizing s with
  | nil => exact OnlyRecords.refl s
  | cons i t ih => exact (h i s).trans (ih (f i s))

theorem pendingVectors_records (s : State) : OnlyRecords s s.pendingVectors := overList_records _ sendPending_records _ s

theorem signal_records (s : State) (n : Nat) : OnlyRecords s (s.signal n) := by
  unfold State.signal
  refine (setRing_records s n _ ?_ ?_ ?_ ?_ ?_).trans (sendVector_records _ _)
  all_goals (intro q; rfl)

theorem coalesce_records (s : State) (n : Nat) (irq : Bool) : OnlyRecords s (s.coalesce n irq) := by
  have h : OnlyRecords s (s.setRing n fun r => { r with unsig := r.unsig + 1 }) := by
    refine setRing_records s n _ ?_ ?_ ?_ ?_ ?_
    all_goals (intro q; rfl)
  unfold State.coalesce
  dsimp only
  split
  · exact h.trans (signal_records _ _)
  · exact h

theorem putRecord_records (s : State) (n : Nat) (body : List Byte) (irq : Bool) : OnlyRecords s (s.putRecord n body irq) := by
  unfold State.putRecord
  dsimp only
  refine (((emit_records s _).trans (setRing_records _ n _ ?_ ?_ ?_ ?_ ?_)).trans (showHead_records _ n)).trans
    (coalesce_records _ n irq)
  all_goals (intro q; rfl)

theorem fadd_records (s : State) (n k : Nat) : OnlyRecords s (s.fadd (if n = 5 then R.HOST_EVT_LOST_EVT else R.HOST_EVT_LOST_HLT) k) := by
  unfold State.fadd
  refine fset_records _ _ _ ?_ ?_ <;> split <;> simp [R.HOST_EVT_LOST_EVT, R.HOST_EVT_LOST_HLT, recordReg]

theorem record_records (s : State) (n : Nat) (body : List Byte) : OnlyRecords s (s.record n body) := by
  have h1 : ∀ s : State, OnlyRecords s (s.setRing n fun r => { r with seq := (r.seq + 1) % 2 ^ 32 }) := by
    intro s; refine setRing_records s n _ ?_ ?_ ?_ ?_ ?_
    all_goals (intro q; rfl)
  unfold State.record
  dsimp only
  split
  · refine (h1 s).trans ?_
    constructor
    case out => exact ⟨[], by simp⟩
    all_goals first | rfl | (intros; rfl)
  · split
    · refine (h1 s).trans ((setRing_records _ n _ ?_ ?_ ?_ ?_ ?_).trans (putRecord_records _ _ _ _))
      all_goals (intro q; rfl)
    · refine (h1 s).trans ((setRing_records _ n _ ?_ ?_ ?_ ?_ ?_).trans (fadd_records _ _ _))
      all_goals (intro q; rfl)

theorem event_records (s : State) (source code frame : Nat) (body : List Byte) : OnlyRecords s (s.event source code frame body) :=
  record_records s 5 _
theorem eventDev_records (s : State) (source code : Nat) (body : List Byte) : OnlyRecords s (s.eventDev source code body) :=
  event_records _ _ _ _ _
theorem eventSurf_records (s : State) (source code surf : Nat) (body : List Byte) : OnlyRecords s (s.eventSurf source code surf body) :=
  event_records _ _ _ _ _
theorem health_records (s : State) (code frame : Nat) (body : List Byte) : OnlyRecords s (s.health code frame body) :=
  record_records s 6 _

theorem completeRecord_records (s : State) (src : Nat × Nat) (body : List Byte) (irq : Bool) :
    OnlyRecords s (s.completeRecord src body irq) := by
  unfold State.completeRecord
  split
  · exact putRecord_records _ _ _ _
  · have h : OnlyRecords s { s with host := { s.host with cplQueue := s.host.cplQueue ++ [⟨4, body, irq, [src]⟩] } } := by
      constructor
      case out => exact ⟨[], by simp⟩
      all_goals first | rfl | (intros; rfl)
    dsimp only
    split
    · refine h.trans (fset_records _ _ _ (Or.inl rfl) (fun _ => ⟨by decide, by decide⟩))
    · exact h

theorem quietRecord_records (s : State) (src : Nat × Nat) : OnlyRecords s (s.quietRecord src) := by
  unfold State.quietRecord
  constructor
  case out => exact ⟨[], by simp⟩
  all_goals first | rfl | (intros; rfl)

theorem flushList_records (ring : Nat) (acc os : List Outstanding) (s : State) : OnlyRecords s (flushList ring s acc os).1 := by
  induction os generalizing s acc with
  | nil => exact OnlyRecords.refl s
  | cons o os ih =>
    unfold flushList
    split
    · exact ih _ s
    · split
      · dsimp only
        refine OnlyRecords.trans ?_ (ih _ _)
        split
        · exact quietRecord_records s _
        · exact completeRecord_records s _ _ o.irq
      · exact OnlyRecords.refl s

theorem flushRing_records (s : State) (ring : Nat) : OnlyRecords s (s.flushRing ring) := by
  unfold State.flushRing
  refine (flushList_records ring [] (s.ring ring).outst s).trans (setRing_records _ ring _ ?_ ?_ ?_ ?_ ?_)
  all_goals (intro q; rfl)

theorem completeAt_records (s : State) (d : Desc) (st : Status) (frame : Nat) (result : List Byte) (eff : EffectAt) :
    OnlyRecords s (s.completeAt d st frame result eff) := by
  unfold State.completeAt
  refine (setRing_records s d.ring _ ?_ ?_ ?_ ?_ ?_).trans (flushRing_records _ _)
  all_goals (intro q; rfl)

theorem complete_records (s : State) (d : Desc) (st : Status) (frame : Nat) (result : List Byte) :
    OnlyRecords s (s.complete d st frame result) := completeAt_records _ _ _ _ _ _

theorem drainCpl_records (n : Nat) (s : State) : OnlyRecords s (drainCpl n s) := by
  induction n generalizing s with
  | zero => exact OnlyRecords.refl s
  | succ n ih =>
    unfold drainCpl
    split
    · exact OnlyRecords.refl s
    · split
      · refine OnlyRecords.trans ?_ (ih _)
        refine OnlyRecords.trans (t := { s with host := { s.host with cplQueue := _ } }) ?_ (putRecord_records _ 4 _ _)
        constructor
        case out => exact ⟨[], by simp⟩
        all_goals first | rfl | (intros; rfl)
      · exact OnlyRecords.refl s

theorem drainHeld_records (l : List HeldRecord) (s : State) : OnlyRecords s (drainHeld l s) := by
  induction l generalizing s with
  | nil => exact OnlyRecords.refl s
  | cons h l ih =>
    unfold drainHeld
    dsimp only
    split
    · refine ((setRing_records s h.ring _ ?_ ?_ ?_ ?_ ?_).trans (putRecord_records _ _ _ _)).trans (ih _)
      all_goals (intro q; rfl)
    · refine ((setRing_records s h.ring _ ?_ ?_ ?_ ?_ ?_).trans (fadd_records _ _ _)).trans (ih _)
      all_goals (intro q; rfl)

theorem resumeCpl_records (s : State) : OnlyRecords s s.resumeCpl := by
  unfold State.resumeCpl
  dsimp only
  split
  · exact (drainCpl_records _ s).trans (fset_records _ _ _ (Or.inl rfl) (fun _ => ⟨by decide, by decide⟩))
  · exact drainCpl_records _ s

theorem resumeTraffic_records (s : State) : OnlyRecords s s.resumeTraffic := by
  unfold State.resumeTraffic
  split
  · exact OnlyRecords.refl s
  · dsimp only
    have h : ∀ (l : List HeldRead) (u : State), OnlyRecords u (l.foldl (fun s q => s.readHost q.addr q.len) u) := by
      intro l
      induction l with
      | nil => exact OnlyRecords.refl
      | cons q l ih => exact fun u => (readHost_records u q.addr q.len).trans (ih _)
    refine ((OnlyRecords.trans ?_ ((drainHeld_records _ _).trans (resumeCpl_records _))).trans (h _ _)).trans (pendingVectors_records _)
    constructor
    case out => exact ⟨[], by simp⟩
    all_goals first | rfl | (intros; rfl)

end Sys2Proof.Machine
end

