-- ==== Sys2Proof/Laws/Access.lean ====
section
/-! SUPPORT. Accesses to BAR 0: what the idle timer's restart, a logged access and a write can touch. -/

namespace Sys2Proof.Machine

/-- A state that differs from another only in the idle timer (R514). -/
structure OnlyIdle (s t : State) : Prop where
  fregs : t.fregs = s.fregs
  clk : t.clk = s.clk
  ticks : t.ticks = s.ticks
  pins : t.pins = s.pins
  host : t.host = s.host
  cmds : t.cmds = s.cmds
  sup : t.sup = s.sup
  flash : t.flash = s.flash
  boot : t.boot = s.boot
  sleep : t.sleep = s.sleep
  gens : t.gens = s.gens
  pix : t.pix = s.pix
  safe : t.safe = s.safe
  aon : t.aon = s.aon
  ports : t.ports = s.ports
  parkPats : t.parkPats = s.parkPats
  seg : t.seg = s.seg
  therm : t.therm = s.therm
  net : t.net = s.net
  twin : t.twin = s.twin
  test : t.test = s.test
  out : t.out = s.out
  free : t.free = s.free
  pending : t.pending = s.pending
  rd : ∀ a, a / 0x10000 ≠ 2 → t.rd a = s.rd a

theorem OnlyIdle.refl (s : State) : OnlyIdle s s := by
  constructor <;> first | rfl | (intros; rfl)

theorem OnlyIdle.trans {s t u : State} (h : OnlyIdle s t) (k : OnlyIdle t u) : OnlyIdle s u where
  fregs := k.fregs.trans h.fregs
  clk := k.clk.trans h.clk
  ticks := k.ticks.trans h.ticks
  pins := k.pins.trans h.pins
  host := k.host.trans h.host
  cmds := k.cmds.trans h.cmds
  sup := k.sup.trans h.sup
  flash := k.flash.trans h.flash
  boot := k.boot.trans h.boot
  sleep := k.sleep.trans h.sleep
  gens := k.gens.trans h.gens
  pix := k.pix.trans h.pix
  safe := k.safe.trans h.safe
  aon := k.aon.trans h.aon
  ports := k.ports.trans h.ports
  parkPats := k.parkPats.trans h.parkPats
  seg := k.seg.trans h.seg
  therm := k.therm.trans h.therm
  net := k.net.trans h.net
  twin := k.twin.trans h.twin
  test := k.test.trans h.test
  out := k.out.trans h.out
  free := k.free.trans h.free
  pending := k.pending.trans h.pending
  rd := fun a ha => (k.rd a ha).trans (h.rd a ha)

theorem fset_idle (s : State) (f : Fld) (v : Nat) (h : f.addr / 0x10000 = 2) : OnlyIdle s (s.fset f v) := by
  constructor
  case rd => intro a ha; exact regGet_regPut_other _ _ _ _ (by rintro rfl; exact ha h)
  all_goals rfl

theorem idleRestart_only (s : State) : OnlyIdle s s.idleRestart := by
  unfold State.idleRestart
  split
  · have h : ∀ (u : State) (f : ModeSt → ModeSt), OnlyIdle u (u.setMode f) := by
      intro u f; constructor <;> first | rfl | (intros; rfl)
    exact ((fset_idle s R.PWR_IDLE_REMAIN_S _ rfl).trans (fset_idle _ R.PWR_IDLE_RUNNING _ rfl)).trans (h _ _)
  · exact OnlyIdle.refl s

theorem idleRestart_fget (s : State) (f : Fld) (h : f.addr / 0x10000 ≠ 2) : s.idleRestart.fget f = s.fget f := by
  unfold State.fget; rw [(idleRestart_only s).rd _ h]
theorem idleRestart_fbit (s : State) (f : Fld) (h : f.addr / 0x10000 ≠ 2) : s.idleRestart.fbit f = s.fbit f := by
  unfold State.fbit; rw [idleRestart_fget s f h]
theorem idleRestart_ring (s : State) (n : Nat) : s.idleRestart.ring n = s.ring n := by
  unfold State.ring; rw [(idleRestart_only s).host]

/-- A write to a block that is on, with its effect, then the restart of the idle timer. -/
theorem barWrite_on (s : State) (a : Nat) (act : State → State) (h5 : s.domOn 5 = true) (hb : s.blockOff a = false) :
    s.barWrite a act = (act s).idleRestart := by
  simp [State.barWrite, h5, hb]

theorem barWrite_off (s : State) (a : Nat) (act : State → State) (h5 : s.domOn 5 = true) (hb : s.blockOff a = true) :
    s.barWrite a act = (s.offAccess a true).idleRestart := by
  simp [State.barWrite, h5, hb]

/-- The HOST block is never off where HOST is on. -/
theorem blockOff_host (s : State) (a : Nat) (ha : a / 0x10000 = 1) (h5 : s.domOn 5 = true) : s.blockOff a = false := by
  simp [State.blockOff, ownerDomain, ha, h5]

/-- Setting fields to 0 never sets a bit: a field that reads 0 still does. -/
theorem wordSet_zero_testBit (w : Word) (lo width i : Nat) (h : lo + width ≤ 32) :
    (wordSet w lo width 0).toNat.testBit i = (w.toNat.testBit i && !(decide (lo ≤ i) && decide (i < lo + width))) := by
  rw [wordSet_toNat w lo width 0 h]
  have e : w.toNat % 2 ^ lo + 0 % 2 ^ width * 2 ^ lo + w.toNat / 2 ^ (lo + width) * 2 ^ (lo + width)
      = 2 ^ (lo + width) * (w.toNat / 2 ^ (lo + width)) + w.toNat % 2 ^ lo := by
    rw [Nat.zero_mod]; ring
  have hlt : w.toNat % 2 ^ lo < 2 ^ (lo + width) :=
    Nat.lt_of_lt_of_le (Nat.mod_lt _ (Nat.two_pow_pos lo)) (Nat.pow_le_pow_right (by decide) (by omega))
  rw [e, Nat.testBit_two_pow_mul_add _ hlt]
  split
  · rename_i hi
    rw [Nat.testBit_mod_two_pow]
    by_cases hl : i < lo
    · simp [hl, show ¬ lo ≤ i by omega]
    · simp [hl, hi, show lo ≤ i by omega]
  · rename_i hi
    rw [Nat.testBit_div_two_pow]
    simp [hi, show i - (lo + width) + (lo + width) = i by omega]

theorem wordField_zero_iff (w : Word) (lo width : Nat) : wordField w lo width = 0 ↔ ∀ i, lo ≤ i → i < lo + width → w.toNat.testBit i = false := by
  unfold wordField
  constructor
  · intro h i h1 h2
    have := congrArg (fun n => n.testBit (i - lo)) h
    simpa [Nat.testBit_mod_two_pow, Nat.testBit_div_two_pow, show i - lo < width by omega, show i - lo + lo = i by omega,
      show lo + (i - lo) = i by omega] using this
  · intro h
    apply Nat.eq_of_testBit_eq
    intro j
    rw [Nat.testBit_mod_two_pow, Nat.testBit_div_two_pow, Nat.zero_testBit]
    by_cases hj : j < width
    · have := h (j + lo) (by omega) (by omega)
      simp [hj, this]
    · simp [hj]

theorem fset_zero_keeps (s : State) (f g : Fld) (hg : g.lo + g.width ≤ 32) (h : s.fget f = 0) : (s.fset g 0).fget f = 0 := by
  by_cases ha : f.addr = g.addr
  · unfold State.fget State.fset at *
    rw [ha, rd_wr_same]
    rw [ha] at h
    rw [wordField_zero_iff] at *
    intro i h1 h2
    rw [wordSet_zero_testBit _ _ _ _ hg, h i h1 h2]; rfl
  · rw [fget_fset_addr s g f 0 ha]; exact h

/-- Cleared fields read 0. -/
theorem zeroed_reads (fs : List Fld) (s : State) (hf : ∀ f ∈ fs, f.lo + f.width ≤ 32) : ∀ f ∈ fs, (s.zeroed fs).fget f = 0 := by
  have keep : ∀ (fs : List Fld) (s : State) (f : Fld), (∀ g ∈ fs, g.lo + g.width ≤ 32) → s.fget f = 0 → (s.zeroed fs).fget f = 0 := by
    intro fs
    induction fs with
    | nil => intro s f _ h; exact h
    | cons g gs ih =>
      intro s f hg h
      exact ih (s.fset g 0) f (fun x hx => hg x (List.mem_cons_of_mem _ hx)) (fset_zero_keeps s f g (hg g List.mem_cons_self) h)
  induction fs generalizing s with
  | nil => intro f hf; cases hf
  | cons g gs ih =>
    intro f hm
    have hgs : ∀ x ∈ gs, x.lo + x.width ≤ 32 := fun x hx => hf x (List.mem_cons_of_mem _ hx)
    rcases List.mem_cons.1 hm with rfl | hm
    · exact keep gs _ _ hgs (by rw [fget_fset_same _ _ _ (hf f List.mem_cons_self)]; simp)
    · exact ih (s.fset g 0) hgs f hm

/-- Every counter that a CLR_CNT bit names lies inside its register. -/
theorem clrOf_fits (a bit : Nat) (fs : List Fld) (h : clrOf a = some (bit, fs)) : ∀ f ∈ fs, f.lo + f.width ≤ 32 := by
  unfold clrOf at h
  have e : ∀ l : List Fld, (l.all fun f => decide (f.lo + f.width ≤ 32)) = true → ∀ f ∈ l, f.lo + f.width ≤ 32 := by
    intro l hl f hf; simpa using List.all_eq_true.1 hl f hf
  split at h
  all_goals first
    | (obtain ⟨-, rfl⟩ : _ ∧ _ = fs := by simpa using h
       exact e _ (by rfl))
    | skip
  split at h
  · obtain ⟨-, rfl⟩ : _ ∧ _ = fs := by simpa using h
    intro f hf; simp at hf; rcases hf with rfl | rfl <;> simp
  · split at h
    · obtain ⟨-, rfl⟩ : _ ∧ _ = fs := by simpa using h
      intro f hf; simp at hf; rcases hf with rfl | rfl | rfl <;> simp
    · split at h
      · obtain ⟨-, rfl⟩ : _ ∧ _ = fs := by simpa using h
        intro f hf; simp at hf; rcases hf with rfl | rfl <;> simp
      · split at h
        · obtain ⟨-, rfl⟩ : _ ∧ _ = fs := by simpa using h
          intro f hf; simp at hf; rw [hf]; simp
        · split at h
          · obtain ⟨-, rfl⟩ : _ ∧ _ = fs := by simpa using h
            intro f hf; simp at hf; rw [hf]; simp
          · cases h

/-- A write of a HOST field changes no register of another block. -/
theorem fset_host_rd (s : State) (f : Fld) (v b : Nat) (hf : f.addr / 0x10000 = 1) (hb : b / 0x10000 ≠ 1) : (s.fset f v).rd b = s.rd b :=
  regGet_regPut_other _ _ _ _ (by rintro rfl; exact hb hf)

end Sys2Proof.Machine
end

