-- ==== Sys2Proof/Laws/Signatures.lean ====
section
/-! SUPPORT. The MISR is linear, so that a test passes exactly where its error stream compacts to 0 (R561). -/

namespace Sys2Proof.Laws

open Sys2Proof.Machine

theorem xor_twice (c x : Word) : c ^^^ (c ^^^ x) = x := by
  rw [← BitVec.xor_assoc, BitVec.xor_self, BitVec.zero_xor]

theorem misrStep_xor (a b w e : Word) : misrStep (a ^^^ b) (w ^^^ e) = misrStep a w ^^^ misrStep b e := by
  unfold misrStep
  rw [BitVec.shiftLeft_xor_distrib, BitVec.msb_xor]
  cases a.msb <;> cases b.msb <;> simp <;> ac_nf
  rw [xor_twice]

theorem misr_xor (a b : Word) (ws es : List Word) (h : ws.length = es.length) :
    misr (a ^^^ b) (List.zipWith (· ^^^ ·) ws es) = misr a ws ^^^ misr b es := by
  induction ws generalizing a b es with
  | nil => cases es with
    | nil => rfl
    | cons _ _ => simp at h
  | cons w ws ih =>
    cases es with
    | nil => simp at h
    | cons e es =>
      have hl : ws.length = es.length := by simpa using h
      have := ih (misrStep a w) (misrStep b e) es hl
      simpa [misr, misrStep_xor] using this

/-- The MISR of a test is that of the response itself: the good one with the errors in it. -/
theorem runMisr_response (u k d n : Nat) (errs : List Word) (h : (Config.goodResponse u k d n).length = errs.length) :
    runMisr u k d n errs = misr 0xFFFFFFFF (List.zipWith (· ^^^ ·) (Config.goodResponse u k d n) errs) := by
  have := misr_xor 0xFFFFFFFF 0 (Config.goodResponse u k d n) errs h
  simpa [runMisr, goldenMisr] using this.symm

/-- The golden signature is met exactly where the errors compact to 0. -/
theorem runMisr_golden (u k d n : Nat) (errs : List Word) :
    runMisr u k d n errs = goldenMisr u k d n ↔ misrPass errs = true := by
  simp only [runMisr, misrPass, beq_iff_eq]
  constructor
  · intro h
    have := congrArg (goldenMisr u k d n ^^^ ·) h
    simpa [← BitVec.xor_assoc] using this
  · intro h; rw [h]; exact BitVec.xor_zero

end Sys2Proof.Laws
end

