-- ==== Sys2Proof/Tests/Slice0.lean ====
section
/-! SUPPORT. The model's own tests: a witness for every statement's conditions, ill-formed commands refused, and the line codes. -/

open Sys2Proof Sys2Proof.Machine

namespace Sys2Proof.Tests

set_option Elab.async false

/-- The reset state with every register at 0, on which a test sets what it needs. -/
def bare : State := { State.reset with regs := [], fregs := [] }

/-- Every domain on. -/
def upAll (s : State) : State := s.fset R.PWR_DOM_STATUS_ON 0xFFF

/-- Every domain on and TLA not in its LIMP form. -/
def upLanes (s : State) : State := (upAll s).fsetb R.PWR_DOM_STATUS_TLA_LIMP false

/-- A die in role SOLO. -/
def alone (s : State) : State := s.fset R.TWIN_STATUS_ROLE 0

/-- A descriptor of a ring: its opcode, target, argument fields (offset, bytes, value) and payload length. -/
def mkD (ring op target : Nat) (args : List (Nat × Nat × Nat)) (plen : Nat := 0) : Desc :=
  let b0 : List Byte := BitVec.ofNat 8 op :: 0 :: (leBytes 2 7 ++ leBytes 2 target ++ leBytes 2 plen ++ rep 56 0)
  let b := args.foldl (fun b (a : Nat × Nat × Nat) => b.take a.1 ++ leBytes a.2.1 a.2.2 ++ b.drop (a.1 + a.2.1)) b0
  { ring := ring, slot := 5, gen := 1, pos := 5, bytes := b, payload := if plen = 0 then none else some (rep plen 0) }

/-- The descriptor waits alone on its ring. -/
def withD (s : State) (d : Desc) : State :=
  (s.fsetb R.HOST_STATUS_CPL_STALL false).setRing d.ring fun q =>
    { q with arrived := [d], fence := none, outst := [{ pos := d.pos, slot := d.slot }] }

/-- A SURFACE_CONFIG payload: 60 frames a second at 16 ticks. -/
def CFGP : List Byte :=
  leBytes 4 0x3f0 ++ leBytes 4 0x10 ++ leBytes 4 0x3e8 ++ leBytes 4 0 ++ leBytes 4 0x400040 ++ leBytes 4 1 ++ leBytes 4 0
    ++ leBytes 4 7 ++ rep 192 0

/-- No surface enabled or running. -/
def noSurf (s : State) : State :=
  overAll 4 (fun n s => ((s.fsetb (R.TG_CTRL_ENABLE n) false).fsetb (R.TG_STATUS_RUNNING n) false).fsetb
    (R.TG_STATUS_RETIME_ACTIVE n) false) s

/-- The timing words of a RETIME. -/
def RETP : List Byte := leBytes 4 0x378 ++ leBytes 4 0x10 ++ leBytes 4 0x3e8 ++ leBytes 4 0

/-- A layer record. -/
def LYR : List Byte :=
  leBytes 8 0x30000000 ++ leBytes 4 0x80
    ++ [2,0,0,0,4,1,0,0,0x40,0,0x40,0,0,0,0,0,0x40,0,0x40,0,0xff,0xff,0,0xff] ++ rep 76 0

/-- A settings block. -/
def spbBytes : List Byte := rep 12 0 ++ [255] ++ rep 499 0

/-- A received comma of a running disparity. -/
def comma (neg : Bool) : RxSymbol := .group (BitVec.ofNat 10 (codeGroup neg symComma))

/-- 64 fill symbols of alternating disparity. -/
def fill64 : List RxSymbol := (List.range 64).map fun i => comma (i % 2 == 0)

/-- Sixteen symbols of the burst, then a comma. -/
def burst16 : List RxSymbol := comma false :: rep 9 (.group 0x2AA)

/-- A well-formed settings block of one profile. -/
def goodSpb : List Byte :=
  [0x53,0x50,0x42,0x31,1,0,0x98,3,0,0,0,0,1,0,0,0,0,0,0,2,1,0,1,1,0,0,100,0] ++ rep 452 0 ++ [0,2] ++ rep 38 0
    ++ [1,0,1,0,0,0,0,0,1,0,0,0] ++ rep 388 0

/-- A function of a number, with the number found first. -/
def onNat (f : Nat → Nat) : Nat → Nat
  | 0 => f 0
  | n + 1 => f (n + 1)

theorem onNat_eq (f : Nat → Nat) (n : Nat) : onNat f n = f n := by cases n <;> rfl

/-- The CRC register after a list of bytes, with its value found after each. -/
def crcRunS : List Byte → Nat → Nat
  | [], c => c
  | b :: bs, c => onNat (crcRunS bs) (crcByte c b)

theorem crcRun_strict (bs : List Byte) : ∀ c, crcRun c bs = crcRunS bs c := by
  induction bs with
  | nil => exact fun _ => rfl
  | cons b bs ih => exact fun c => (ih (crcByte c b)).trans (onNat_eq _ _).symm

theorem crcWith_strict (p b : List Byte) : crcWith p b = Nat.xor (crcRunS b (crcRunS p 0xFFFFFFFF)) 0xFFFFFFFF := by
  simp only [crcWith, crcRun_strict]

/-- Each clause of DoorbellAnnounces has a state and operands that meet its conditions. -/
theorem test_DoorbellAnnounces_witness :
    (∃ (s : State) (n : Fin 7) (v : Nat) (p : Nat),
      s.shape
      ∧ s.domOn 5 = true
      ∧ s.ringOn n = true
      ∧ v < 2 ^ 32
      ∧ bitsOf v 24 4 = n
      ∧ s.doorbellPos n (bitsOf v 0 12) (bitsOf v 16 1) = some p)
  ∧ (∃ (s : State) (n : Fin 7) (v : Nat),
      s.shape
      ∧ s.domOn 5 = true
      ∧ v < 2 ^ 32
      ∧ (s.ringOn n = false ∨ bitsOf v 24 4 ≠ n ∨ s.doorbellPos n (bitsOf v 0 12) (bitsOf v 16 1) = none))
  ∧ (∃ (s : State) (page : Nat) (off : Nat) (whole : Bool),
      s.shape
      ∧ s.domOn 5 = true
      ∧ (7 ≤ page ∨ off ≠ 0 ∨ whole = false)) :=
  ⟨⟨(fun (n : Fin 7) => ((State.reset.fset R.PWR_DOM_STATUS_ON 0x3FF).fsetb (R.HOST_RING_CTRL_ENABLE n) true : State)) (0), 0, 65540, (fun (n : Fin 7) (v : Nat) => (((State.reset.doorbellPos n (bitsOf v 0 12) (bitsOf v 16 1)).getD 0) : Nat)) (0) (65540), by decide +kernel⟩,
    ⟨bare.fset R.PWR_DOM_STATUS_ON 0x3FF, 0, 1, by decide +kernel⟩,
    ⟨bare.fset R.PWR_DOM_STATUS_ON 0x3FF, 2, 4, false, by decide +kernel⟩⟩

/-- Each clause of DescriptorsArrive has a state and operands that meet its conditions. -/
theorem test_DescriptorsArrive_witness :
    (∃ (s : State) (r : Fin 4) (f : Flight) (b : List Byte),
      s.shape
      ∧ s.inFlight r = some f
      ∧ b.length = 64
      ∧ leAt b 60 4 = crcWith (descPrefix r f.slot f.gen) (b.take 60)
      ∧ leAt b 1 1 % 2 = f.gen
      ∧ s.frameChecks r b = .ok)
  ∧ (∃ (s : State) (r : Fin 4) (f : Flight) (b : List Byte),
      s.shape
      ∧ s.inFlight r = some f
      ∧ b.length = 64
      ∧ leAt b 60 4 = crcWith (descPrefix r f.slot f.gen) (b.take 60)
      ∧ leAt b 1 1 % 2 = f.gen
      ∧ s.frameChecks r b ≠ .ok)
  ∧ (∃ (s : State) (r : Fin 4) (f : Flight) (b : List Byte),
      s.shape
      ∧ s.inFlight r = some f
      ∧ b.length = 64
      ∧ (leAt b 60 4 ≠ crcWith (descPrefix r f.slot f.gen) (b.take 60) ∨ leAt b 1 1 % 2 ≠ f.gen))
  ∧ (∃ (s : State) (r : Fin 4) (d : Desc) (b : List Byte),
      s.shape
      ∧ (s.ring r).arrived.find? needsPayload = some d
      ∧ b.length = leAt d.bytes 6 2
      ∧ leAt b (leAt d.bytes 6 2 - 4) 4 = crcWith (payloadPrefix r d.slot d.gen (leAt d.bytes 6 2)) (b.take (leAt d.bytes 6 2 - 4)))
  ∧ (∃ (s : State) (r : Fin 4) (d : Desc) (b : List Byte),
      s.shape
      ∧ (s.ring r).arrived.find? needsPayload = some d
      ∧ d.ring = r
      ∧ b.length = leAt d.bytes 6 2
      ∧ leAt b (leAt d.bytes 6 2 - 4) 4 ≠ crcWith (payloadPrefix r d.slot d.gen (leAt d.bytes 6 2)) (b.take (leAt d.bytes 6 2 - 4)))
  ∧ (∃ (s : State) (r : Fin 4) (c : Fin 11) (f : Flight),
      c.val < 3
      ∧ s.shape
      ∧ s.domOn 5 = true
      ∧ s.inFlight r = some f)
  ∧ (∃ (s : State) (r : Fin 4) (c : Fin 11) (d : Desc),
      c.val < 3
      ∧ s.shape
      ∧ s.domOn 5 = true
      ∧ (s.ring r).arrived.find? needsPayload = some d
      ∧ d.ring = r)
  ∧ (∃ (s : State) (c : Fin 11),
      c.val < 3
      ∧ s.domOn 5 = true)
  ∧ (∃ (s : State) (c : Fin 11),
      s.domOn 5 = true
      ∧ 3 ≤ c.val) :=
  ⟨⟨(fun (r : Fin 4) => ((bare.fset R.PWR_DOM_STATUS_ON 0x3FF).setRing r fun q => { q with head := 3, flight := [{ pos := 3, slot := 3, gen := 1 }] } : State)) (1), 1, { pos := 3, slot := 3, gen := 1 }, ([127, 1] ++ rep 58 0 ++ [137, 217, 106, 10] : List Byte), by decide +kernel⟩,
    ⟨(fun (r : Fin 4) => ((bare.fset R.PWR_DOM_STATUS_ON 0x3FF).setRing r fun q => { q with head := 3, flight := [{ pos := 3, slot := 3, gen := 1 }] } : State)) (3), 3, { pos := 3, slot := 3, gen := 1 }, ([48, 1] ++ rep 58 0 ++ [41, 64, 111, 209] : List Byte), by decide +kernel⟩,
    ⟨(fun (r : Fin 4) => ((bare.fset R.PWR_DOM_STATUS_ON 0x3FF).setRing r fun q => { q with head := 3, flight := [{ pos := 3, slot := 3, gen := 1 }] } : State)) (3), 3, { pos := 3, slot := 3, gen := 1 }, ([24, 3, 0, 3, 1, 3, 240, 1, 3, 3, 21, 2, 3, 2, 141, 72, 3, 154, 2, 1, 125, 75, 3] ++ rep 41 0 : List Byte), by decide +kernel⟩,
    ⟨(fun (r : Fin 4) (d : Desc) => (bare.setRing r fun q => { q with arrived := [d] } : State)) (3) ({ ring := 3, slot := 1, gen := 1, pos := 1, bytes := ([24, 3, 0, 3, 1, 3, 20] ++ rep 57 0 : List Byte), payload := none }), 3, { ring := 3, slot := 1, gen := 1, pos := 1, bytes := ([24, 3, 0, 3, 1, 3, 20] ++ rep 57 0 : List Byte), payload := none }, ([136, 0, 2, 255] ++ rep 12 0 ++ [73, 108, 208, 156] : List Byte), by decide +kernel⟩,
    ⟨(fun (r : Fin 4) (d : Desc) => (bare.setRing r fun q => { q with arrived := [d] } : State)) (3) ({ ring := 3, slot := 1, gen := 1, pos := 1, bytes := ([24, 3, 0, 3, 1, 3, 20] ++ rep 57 0 : List Byte), payload := none }), 3, { ring := 3, slot := 1, gen := 1, pos := 1, bytes := ([24, 3, 0, 3, 1, 3, 20] ++ rep 57 0 : List Byte), payload := none }, ([136, 0, 2, 255] ++ rep 16 0 : List Byte), by decide +kernel⟩,
    ⟨(fun (r : Fin 4) => ((bare.fset R.PWR_DOM_STATUS_ON 0x3FF).setRing r fun q => { q with flight := [{ pos := 3, slot := 3, gen := 1 }] } : State)) (0), 0, 1, { pos := 3, slot := 3, gen := 1 }, by decide +kernel⟩,
    ⟨(fun (r : Fin 4) (d : Desc) => ((bare.fset R.PWR_DOM_STATUS_ON 0x3FF).setRing r fun q => { q with arrived := q.arrived ++ [d] } : State)) (0) ({ ring := 0, slot := 1, gen := 1, pos := 1, bytes := ([86, 160, 21, 1, 0, 127, 20] ++ rep 57 0 : List Byte), payload := none }), 0, 1, { ring := 0, slot := 1, gen := 1, pos := 1, bytes := ([86, 160, 21, 1, 0, 127, 20] ++ rep 57 0 : List Byte), payload := none }, by decide +kernel⟩,
    ⟨bare.fset R.PWR_DOM_STATUS_ON 0x3FF, 2, by decide +kernel⟩,
    ⟨bare.fset R.PWR_DOM_STATUS_ON 0x3FF, 9, by decide +kernel⟩⟩

/-- Each clause of RingControlActs has a state and operands that meet its conditions. -/
theorem test_RingControlActs_witness :
    (∃ (s : State) (n : Fin 7),
      s.shape
      ∧ s.domOn 5 = true
      ∧ s.fbit (R.HOST_RING_CTRL_ENABLE n) = false
      ∧ 4 ≤ s.fget (R.HOST_RING_CFG_SIZE_LOG2 n)
      ∧ s.fget (R.HOST_RING_CFG_SIZE_LOG2 n) ≤ 12)
  ∧ (∃ (s : State) (n : Fin 7),
      s.shape
      ∧ s.domOn 5 = true
      ∧ s.fbit (R.HOST_RING_CTRL_ENABLE n) = true)
  ∧ (∃ (s : State) (n : Fin 7),
      s.shape
      ∧ s.domOn 5 = true
      ∧ s.fbit (R.HOST_RING_STATUS_HALTED n) = true)
  ∧ (∃ (s : State) (n : Fin 7),
      s.shape
      ∧ s.domOn 5 = true
      ∧ s.fbit (R.HOST_RING_CTRL_ENABLE n) = false
      ∧ (s.fget (R.HOST_RING_CFG_SIZE_LOG2 n) < 4 ∨ 12 < s.fget (R.HOST_RING_CFG_SIZE_LOG2 n)))
  ∧ (∃ (s : State) (n : Fin 7),
      s.shape
      ∧ s.domOn 5 = true
      ∧ s.fbit (R.HOST_RING_CTRL_ENABLE n) = false)
  ∧ (∃ (s : State) (n : Fin 7),
      s.shape
      ∧ s.domOn 5 = true
      ∧ s.fbit (R.HOST_RING_STATUS_HALTED n) = false)
  ∧ (∃ (s : State) (ring : Fin 7),
      (s.domOn 5 = false ∨ s.blockOff (0x1010C + 0x40 * ring.val) = true)) :=
  ⟨⟨(fun (n : Fin 7) => ((bare.fset R.PWR_DOM_STATUS_ON 0x3FF).fsetb (R.HOST_RING_CTRL_ENABLE n) false |>.fset (R.HOST_RING_CFG_SIZE_LOG2 n) 4 : State)) (0), 0, by decide +kernel⟩,
    ⟨(fun (n : Fin 7) => ((bare.fset R.PWR_DOM_STATUS_ON 0x3FF).fsetb (R.HOST_RING_CTRL_ENABLE n) true : State)) (0), 0, by decide +kernel⟩,
    ⟨(fun (n : Fin 7) => ((bare.fset R.PWR_DOM_STATUS_ON 0x3FF).fsetb (R.HOST_RING_STATUS_HALTED n) true : State)) (0), 0, by decide +kernel⟩,
    ⟨(fun (n : Fin 7) => ((bare.fset R.PWR_DOM_STATUS_ON 0x3FF).fsetb (R.HOST_RING_CTRL_ENABLE n) false |>.fset (R.HOST_RING_CFG_SIZE_LOG2 n) (bare.ticks % 4) : State)) (0), 0, by decide +kernel⟩,
    ⟨(fun (n : Fin 7) => ((bare.fset R.PWR_DOM_STATUS_ON 0x3FF).fsetb (R.HOST_RING_CTRL_ENABLE n) false : State)) (0), 0, by decide +kernel⟩,
    ⟨(fun (n : Fin 7) => ((bare.fset R.PWR_DOM_STATUS_ON 0x3FF).fsetb (R.HOST_RING_STATUS_HALTED n) false : State)) (0), 0, by decide +kernel⟩,
    ⟨bare.fset R.PWR_DOM_STATUS_ON 0, 0, by decide +kernel⟩⟩

/-- Each clause of HostLinkActs has a state and operands that meet its conditions. -/
theorem test_HostLinkActs_witness :
    (∃ (s : State),
      s.domOn 5 = true)
  ∧ (∃ (s : State),
      s.shape
      ∧ s.domOn 5 = true)
  ∧ (∃ (s : State) (n : Fin 7),
      s.shape
      ∧ s.ringOn n = true
      ∧ s.ringsPaused = false
      ∧ (s.ring n).unsig ≠ 0)
  ∧ (∃ (s : State) (n : Fin 7),
      s.shape
      ∧ (s.ringOn n = false ∨ s.ringsPaused = true ∨ (s.ring n).unsig = 0)) :=
  ⟨⟨(bare.fset R.PWR_DOM_STATUS_ON 0x3FF), by decide +kernel⟩,
    ⟨(bare.fset R.PWR_DOM_STATUS_ON 0x3FF), by decide +kernel⟩,
    ⟨(fun (n : Fin 7) => ((fun x : State => { x with host := { x.host with busMaster := true } }) ((((bare.fset R.PWR_DOM_STATUS_ON 0x3FF).fsetb (R.HOST_RING_CTRL_ENABLE n) true).fsetb R.HOST_STATUS_D3 false).fsetb R.HOST_STATUS_LINK_UP true |>.setRing n fun q => { q with unsig := 3 }) : State)) (0), 0, by decide +kernel⟩,
    ⟨bare, 0, by decide +kernel⟩⟩

/-- Each clause of RegisterAccessActs has a state and operands that meet its conditions. -/
theorem test_RegisterAccessActs_witness :
    (∃ (s : State) (a : Nat),
      s.domOn 5 = true
      ∧ a < 0x100000
      ∧ a % 4 = 0
      ∧ s.blockOff a = true)
  ∧ (∃ (s : State),
      s.domOn 5 = true
      ∧ s.domOn 3 = true)
  ∧ (∃ (s : State),
      s.domOn 5 = true
      ∧ s.domOn 1 = true)
  ∧ (∃ (s : State) (a : Nat),
      s.domOn 5 = true
      ∧ 0x18000 ≤ a
      ∧ a < 0x18100
      ∧ a % 4 = 0
      ∧ a % 16 ≠ 12)
  ∧ (∃ (s : State) (a : Nat) (whole : Bool),
      s.domOn 5 = true
      ∧ (0x100000 ≤ a ∨ a % 4 ≠ 0 ∨ whole = false ∨ (s.blockOff a = false ∧ findReg a = none ∧ (a < 0x18000 ∨ 0x18100 ≤ a))))
  ∧ (∃ (s : State) (a : Nat) (bit : Nat) (fs : List Fld),
      s.domOn 5 = true
      ∧ a < 0x100000
      ∧ s.blockOff a = false
      ∧ clrOf a = some (bit, fs))
  ∧ (∃ (s : State),
      s.domOn 5 = true
      ∧ s.domOn 9 = true
      ∧ s.clk.ns < 2 ^ 30
      ∧ s.clk.sec < 2 ^ 48
      ∧ s.clk.frac < 2 ^ 32)
  ∧ (∃ (s : State),
      (s.domOn 5 = false ∨ s.blockOff (0x30004) = true)) :=
  ⟨⟨bare.fset R.PWR_DOM_STATUS_ON 0x20, 0x50000, by decide +kernel⟩,
    ⟨(bare.fset R.PWR_DOM_STATUS_ON 0x3FF), by decide +kernel⟩,
    ⟨(bare.fset R.PWR_DOM_STATUS_ON 0x3FF), by decide +kernel⟩,
    ⟨(bare.fset R.PWR_DOM_STATUS_ON 0x3FF), 98400, by decide +kernel⟩,
    ⟨(bare.fset R.PWR_DOM_STATUS_ON 0x3FF), 648524, false, by decide +kernel⟩,
    ⟨(bare.fset R.PWR_DOM_STATUS_ON 0x3FF), 460032, (fun (a : Nat) => (((clrOf a).getD (0,[])).1 : Nat)) (460032), (fun (a : Nat) => (((clrOf a).getD (0,[])).2 : List Fld)) (460032), by decide +kernel⟩,
    ⟨(bare.fset R.PWR_DOM_STATUS_ON 0x3FF), by decide +kernel⟩,
    ⟨if bare.ticks % 2 = 0 then bare.fset R.PWR_DOM_STATUS_ON 0x20 else bare, by decide +kernel⟩⟩

/-- Each clause of ResetsAct has a state and operands that meet its conditions. -/
theorem test_ResetsAct_witness :
    (∃ (s : State),
      s.aon.resetHeld = false
      ∧ s.inSentinel = false)
  ∧ (∃ (s : State),
      s.aon.resetHeld = false
      ∧ s.inSentinel = true)
  ∧ (∃ (s : State),
      s.aon.resetHeld = true)
  ∧ (∃ (s : State),
      s.aon.resetHeld = true
      ∧ s.inSentinel = false)
  ∧ (∃ (s : State),
      s.aon.resetHeld = true
      ∧ s.inSentinel = true
      ∧ s.mode.wakeHeld = none)
  ∧ (∃ (s : State) (dst : Nat) (cause : Nat),
      s.aon.resetHeld = true
      ∧ s.inSentinel = true
      ∧ s.mode.wakeHeld = some (dst, cause))
  ∧ (∃ (s : State),
      s.aon.resetHeld = false)
  ∧ (∃ (s : State),
      s.aon.resetHeld = true
      ∧ (s.inSentinel = true → s.mode.wakeHeld.isSome = true))
  ∧ (∃ (s : State),
      (s.aon.resetHeld = false ∨ (s.inSentinel = true ∧ s.mode.wakeHeld = none)))
  ∧ (∃ (s : State) (below : Bool),
      (s.aon.collapsed || below) = false)
  ∧ (∃ (s : State) (below : Bool),
      (s.aon.collapsed || below) = true) :=
  ⟨⟨{ (upAll bare) with aon := { bare.aon with resetHeld := false } }.fset R.PWR_MODE_MODE 2, by decide +kernel⟩,
    ⟨{ bare with aon := { bare.aon with resetHeld := false } }.fset R.PWR_MODE_MODE 0, by decide +kernel⟩,
    ⟨{ bare with aon := { bare.aon with resetHeld := true } }, by decide +kernel⟩,
    ⟨{ (upAll bare) with aon := { bare.aon with resetHeld := true } }.fset R.PWR_MODE_MODE 2, by decide +kernel⟩,
    ⟨{ bare with aon := { bare.aon with resetHeld := true }, mode := { bare.mode with wakeHeld := none } }.fset R.PWR_MODE_MODE 0, by decide +kernel⟩,
    ⟨(fun (dst : Nat) (cause : Nat) => ({ bare with aon := { bare.aon with resetHeld := true }, mode := { bare.mode with wakeHeld := some (dst, cause) } }.fset R.PWR_MODE_MODE 0 : State)) (1) (2), 1, 2, by decide +kernel⟩,
    ⟨bare, by decide +kernel⟩,
    ⟨{ (upAll bare) with aon := { bare.aon with resetHeld := true } }.fset R.PWR_MODE_MODE 2, by decide +kernel⟩,
    ⟨bare, by decide +kernel⟩,
    ⟨bare, false, by decide +kernel⟩,
    ⟨{ bare with aon := { bare.aon with collapsed := true } }, true, by decide +kernel⟩⟩

/-- Each clause of BootSteps has a state and operands that meet its conditions. -/
theorem test_BootSteps_witness :
    (∃ (s : State),
      s.boot.active = true
      ∧ s.boot.step = .fw)
  ∧ (∃ (s : State) (st : BootStep),
      s.boot.active = true
      ∧ s.boot.step = st
      ∧ st ≠ .rails
      ∧ st ≠ .ready
      ∧ s.boot.slow = false
      ∧ s.boot.xspiSafe = false)
  ∧ (∃ (s : State),
      s.boot.active = true
      ∧ s.boot.step = .dir
      ∧ s.dir.trial = none)
  ∧ (∃ (s : State) (n : Nat) (d : SlotDir),
      s.boot.active = true
      ∧ s.boot.step = .dir
      ∧ s.dir = d
      ∧ d.trial = some n)
  ∧ (∃ (s : State),
      s.boot.active = true
      ∧ s.boot.step = .slot
      ∧ s.slotValid s.boot.slot = true)
  ∧ (∃ (s : State),
      s.boot.active = true
      ∧ s.boot.step = .slot
      ∧ s.slotValid s.boot.slot = false)
  ∧ (∃ (s : State),
      s.boot.active = true
      ∧ s.boot.step = .spb)
  ∧ (∃ (s : State),
      s.boot.active = false
      ∧ s.safe.spbReload = true
      ∧ s.domOn 2 = true)
  ∧ (∃ (s : State),
      ((s.boot.active = false ∧ (s.safe.spbReload = false ∨ s.domOn 2 = false)) ∨ (s.boot.active = true ∧ (s.boot.step = .rails ∨ s.boot.step = .ready))))
  ∧ (∃ (s : State),
      s.boot.active = true
      ∧ s.boot.step = .ready
      ∧ s.boot.cause ≤ 2)
  ∧ (∃ (s : State),
      (s.boot.active = false ∨ s.boot.step ≠ .ready ∨ 2 < s.boot.cause))
  ∧ (∃ (s : State),
      s.boot.active = true
      ∧ s.boot.step = .ready
      ∧ s.boot.cause ≤ 2
      ∧ s.domOn 1 = true)
  ∧ (∃ (s : State) (units : List (Nat × Nat)) (lanes : List Nat),
      (∀ e ∈ units, e.1 ≠ 1)
      ∧ lanes.length < 2
      ∧ s.boot.active = true
      ∧ s.boot.step = .ready
      ∧ s.boot.cause ≤ 2
      ∧ s.boot.limpOnly = false
      ∧ s.mode.limpFault = none
      ∧ s.mode.latchedRule = none)
  ∧ (∃ (s : State),
      s.boot.active = true
      ∧ s.boot.step = .ready
      ∧ s.boot.cause = 4
      ∧ s.sup.restoring = true
      ∧ s.boot.limpOnly = false)
  ∧ (∃ (s : State),
      (s.boot.active = false ∨ s.boot.step ≠ .ready ∨ s.boot.cause ≠ 4 ∨ s.sup.restoring = false)) :=
  ⟨⟨{ bare with boot := { bare.boot with active := true, step := .fw } }, by decide +kernel⟩,
    ⟨(fun (st : BootStep) => ({ bare with boot := { bare.boot with active := true, step := st, slow := false, xspiSafe := false } } : State)) (Sys2Proof.Machine.BootStep.fw), Sys2Proof.Machine.BootStep.fw, by decide +kernel⟩,
    ⟨{ bare with boot := { bare.boot with active := true, step := .dir } }, by decide +kernel⟩,
    ⟨(fun (d : SlotDir) => ({ bare with boot := { bare.boot with active := true, step := .dir }, flash := { bare.flash with dirs := [d, d] } } : State)) ({ good := true, seq := 5, active := 0, trial := some 1, started := true }), 1, { good := true, seq := 5, active := 0, trial := some 1, started := true }, by decide +kernel⟩,
    ⟨{ bare with boot := { bare.boot with active := true, step := .slot } }, by decide +kernel⟩,
    ⟨{ bare with boot := { bare.boot with active := true, step := .slot, slot := bare.ticks % 2, otherTried := bare.ticks % 3 = 0 }, flash := { bare.flash with slots := [{}, {}] } }, by decide +kernel⟩,
    ⟨{ bare with boot := { bare.boot with active := true, step := .spb } }, by decide +kernel⟩,
    ⟨{ (upAll bare) with boot := { bare.boot with active := false }, safe := { bare.safe with spbReload := true } }, by decide +kernel⟩,
    ⟨bare, by decide +kernel⟩,
    ⟨{ (upAll bare) with boot := { bare.boot with active := true, step := .ready, cause := 2 } }, by decide +kernel⟩,
    ⟨bare, by decide +kernel⟩,
    ⟨{ (upAll bare) with boot := { bare.boot with active := true, step := .ready, cause := 2 } }, by decide +kernel⟩,
    ⟨{ (upAll bare) with boot := { bare.boot with active := true, step := .ready, cause := 2, limpOnly := false }, mode := { bare.mode with limpFault := none, latchedRule := none } }, [(0, 9), (0, 9), (0, 9)], [], by decide +kernel⟩,
    ⟨{ (upAll bare) with boot := { bare.boot with active := true, step := .ready, cause := 4, limpOnly := false }, sup := { bare.sup with restoring := true } }, by decide +kernel⟩,
    ⟨bare, by decide +kernel⟩⟩

/-- Each clause of PowerPathActs has a state and operands that meet its conditions. -/
theorem test_PowerPathActs_witness :
    (∃ (s : State) (m : Nat),
      s.fbit R.PWR_SUPPLY_STATUS_MAIN_OK = true
      ∧ m < s.mainTh)
  ∧ (∃ (s : State) (m : Nat),
      (s.fbit R.PWR_SUPPLY_STATUS_MAIN_OK = false ∨ s.mainTh ≤ m))
  ∧ (∃ (s : State) (m : Nat),
      s.fbit R.PWR_SUPPLY_STATUS_MAIN_OK = false
      ∧ s.mainTh + s.mainHyst < m)
  ∧ (∃ (s : State) (m : Nat),
      (s.fbit R.PWR_SUPPLY_STATUS_MAIN_OK = true ∨ m ≤ s.mainTh + s.mainHyst))
  ∧ (∃ (s : State) (m : Nat) (b : Nat),
      s.fbit R.PWR_SUPPLY_STATUS_BKUP_LOW = true
      ∧ s.fbit R.PWR_SUPPLY_STATUS_MAIN_OK = false
      ∧ m + 100 ≤ b)
  ∧ (∃ (s : State) (m : Nat) (b : Nat),
      (s.fbit R.PWR_SUPPLY_STATUS_BKUP_LOW = false ∨ s.fbit R.PWR_SUPPLY_STATUS_MAIN_OK = true ∨ b < m + 100))
  ∧ (∃ (s : State),
      s.fbit R.PWR_SUPPLY_STATUS_RIDING = true
      ∧ s.fbit R.PWR_SUPPLY_STATUS_MAIN_OK = false)
  ∧ (∃ (s : State),
      (s.fbit R.PWR_SUPPLY_STATUS_RIDING = false ∨ s.fbit R.PWR_SUPPLY_STATUS_MAIN_OK = true))
  ∧ (∃ (s : State),
      s.sup.shedDue = true
      ∧ s.modeNow = 4
      ∧ s.fbit R.PWR_MODE_BUSY = false)
  ∧ (∃ (s : State),
      (s.sup.shedDue = false ∨ s.modeNow ≠ 4 ∨ s.fbit R.PWR_MODE_BUSY = true))
  ∧ (∃ (s : State),
      s.sup.shed = true
      ∧ s.fbit R.PWR_SUPPLY_STATUS_MAIN_OK = true
      ∧ s.sup.restoring = false
      ∧ s.sup.railsFailed = false
      ∧ s.inReset = false
      ∧ s.boot.active = false)
  ∧ (∃ (s : State),
      (s.sup.shed = false ∨ s.fbit R.PWR_SUPPLY_STATUS_MAIN_OK = false ∨ s.sup.restoring = true ∨ s.sup.railsFailed = true ∨ s.inReset = true ∨ s.boot.active = true)) :=
  ⟨⟨{ bare.fsetb R.PWR_SUPPLY_STATUS_MAIN_OK true with sup := { bare.sup with restoring := bare.ticks % 2 = 0 } }, 1299, by decide +kernel⟩,
    ⟨bare, 1299, by decide +kernel⟩,
    ⟨bare.fsetb R.PWR_SUPPLY_STATUS_MAIN_OK false, 20002, by decide +kernel⟩,
    ⟨State.reset, 3299, by decide +kernel⟩,
    ⟨(bare.fsetb R.PWR_SUPPLY_STATUS_MAIN_OK false).fsetb R.PWR_SUPPLY_STATUS_BKUP_LOW true, 256606708, 256606810, by decide +kernel⟩,
    ⟨bare, 256606708, 16, by decide +kernel⟩,
    ⟨((upAll bare).fsetb R.PWR_SUPPLY_STATUS_MAIN_OK false).fsetb R.PWR_SUPPLY_STATUS_RIDING true, by decide +kernel⟩,
    ⟨bare, by decide +kernel⟩,
    ⟨{ (((bare.fset (R.PWR_RAIL_STAT_PG 4) (bare.ticks % 2)).fset R.PWR_MODE_MODE 4).fsetb R.PWR_MODE_BUSY false) with sup := { bare.sup with shedDue := true } }, by decide +kernel⟩,
    ⟨bare, by decide +kernel⟩,
    ⟨{ (bare.fsetb R.PWR_SUPPLY_STATUS_MAIN_OK true) with aon := { bare.aon with resetHeld := false }, boot := { bare.boot with active := false, halted := false }, sup := { bare.sup with shed := true, restoring := false, railsFailed := false } }, by decide +kernel⟩,
    ⟨bare, by decide +kernel⟩⟩

/-- Each clause of RailsAct has a state and operands that meet its conditions. -/
theorem test_RailsAct_witness :
    (∃ (s : State) (r : Fin 5) (k : Fin 5),
      s.sup.dir = .up
      ∧ s.sup.rail = r
      ∧ s.sup.step = .waitPg
      ∧ s.aon.resetHeld = false
      ∧ s.railAfter (r + 1) = some k
      ∧ k.val ≠ r.val)
  ∧ (∃ (s : State) (r : Fin 5),
      s.fbit (R.PWR_RAIL_STAT_PG r) = true
      ∧ s.sup.dir = .down
      ∧ s.sup.rail = r
      ∧ s.sup.step = .waitLow
      ∧ s.lastDown < r.val)
  ∧ (∃ (s : State) (r : Fin 5),
      s.fbit (R.PWR_RAIL_STAT_PG r) = true
      ∧ s.fbit (R.PWR_RAIL_STAT_EN r) = true
      ∧ (¬(s.sup.dir = .down ∧ s.sup.rail = r ∧ s.sup.step = .waitLow))
      ∧ s.aon.running = true)
  ∧ (∃ (s : State) (r : Fin 5),
      s.sup.rail = r
      ∧ s.sup.dir = .up
      ∧ s.sup.step = .waitPg
      ∧ s.sup.retried = false
      ∧ s.fbit (R.PWR_RAIL_STAT_PG r) = false)
  ∧ (∃ (s : State) (r : Fin 5),
      s.sup.rail = r
      ∧ s.sup.dir = .up
      ∧ s.sup.step = .waitPg
      ∧ s.sup.retried = true
      ∧ s.fbit (R.PWR_RAIL_STAT_PG r) = false)
  ∧ (∃ (s : State) (r : Fin 5) (k : Fin 5),
      s.sup.rail = r
      ∧ s.sup.dir = .up
      ∧ s.sup.step = .waitPg
      ∧ s.fbit (R.PWR_RAIL_STAT_PG r) = true
      ∧ s.aon.resetHeld = false
      ∧ s.railAfter (r + 1) = some k)
  ∧ (∃ (s : State) (r : Fin 5),
      s.sup.rail = r
      ∧ s.sup.dir = .down
      ∧ s.sup.step = .waitLow
      ∧ s.lastDown < r.val)
  ∧ (∃ (s : State) (r : Fin 5),
      s.sup.rail = r
      ∧ s.sup.dir = .up
      ∧ s.sup.step = .retryWait)
  ∧ (∃ (s : State) (r : Fin 5),
      (s.sup.rail ≠ r ∨ s.sup.dir ≠ .up ∨ s.sup.step ≠ .retryWait))
  ∧ (∃ (s : State),
      s.sup.railsFailed = true
      ∧ s.sup.shed = true
      ∧ s.sup.recoveryUsed = false
      ∧ s.inReset = false)
  ∧ (∃ (s : State),
      (s.sup.railsFailed = false ∨ s.sup.shed = false ∨ s.sup.recoveryUsed = true ∨ s.inReset = true))
  ∧ (∃ (s : State) (r : Fin 5),
      s.sup.busy = some (.railVout r)
      ∧ s.sup.dir = .up
      ∧ s.sup.step = .setVoltage
      ∧ s.sup.rail = r)
  ∧ (∃ (s : State) (r : Fin 5) (j : PmbusJob),
      s.sup.busy = some j
      ∧ (j = .railPage r ∨ j = .railVout r)
      ∧ s.sup.dir = .up
      ∧ s.sup.step = .setVoltage
      ∧ s.sup.rail = r)
  ∧ (∃ (s : State) (r : Fin 5) (data : Nat) (pec : Fin 256),
      s.shape
      ∧ s.sup.busy = some (.railMode r)
      ∧ s.sup.dir = .up
      ∧ s.sup.step = .setVoltage
      ∧ s.sup.rail = r
      ∧ pec = s.readPec (.railMode r) data
      ∧ data / 32 % 8 = 0)
  ∧ (∃ (s : State) (r : Fin 5) (data : Nat) (pec : Fin 256),
      s.sup.busy = some (.pollStatus r)
      ∧ pec = s.readPec (.pollStatus r) data)
  ∧ (∃ (s : State) (r : Fin 5) (data : Nat) (pec : Fin 256) (e : Int),
      s.sup.busy = some (.pollVout r)
      ∧ pec = s.readPec (.pollVout r) data
      ∧ nth s.sup.exps r = some e)
  ∧ (∃ (s : State) (ok : Bool) (data : Nat) (pec : Fin 256) (r : Fin 5) (j : PmbusJob),
      s.sup.busy = some j
      ∧ (j = .pollVout r ∨ j = .pollStatus r)
      ∧ (ok = false ∨ pec.val ≠ s.readPec j data))
  ∧ (∃ (s : State),
      s.sup.busy = none)
  ∧ (∃ (s : State) (r : Fin 5),
      s.fbit (R.PWR_RAIL_STAT_EN r) = true
      ∧ s.fbit (R.PWR_RAIL_CFG_PMB r) = true)
  ∧ (∃ (s : State),
      (∀ r : Nat, r < 5 → s.fbit (R.PWR_RAIL_STAT_EN r) = false ∨ s.fbit (R.PWR_RAIL_CFG_PMB r) = false))
  ∧ (∃ (s : State),
      s.domOn 5 = true
      ∧ s.blockOff 0x20020 = false)
  ∧ (∃ (s : State),
      s.domOn 5 = true
      ∧ s.blockOff 0x20020 = false
      ∧ s.domReqActs = true)
  ∧ (∃ (s : State),
      (s.domOn 5 = false ∨ s.blockOff (0x20020) = true)) :=
  ⟨⟨(fun (r : Fin 5) => ({ bare.fsetb (R.PWR_RAIL_STAT_PG 0) false with sup := { bare.sup with rail := r, dir := .up, step := .waitPg }, aon := { bare.aon with resetHeld := false } } : State)) (3), 3, (fun (r : Fin 5) => ((Fin.ofNat 5 ((bare.railAfter (r + 1)).getD 0)) : Fin 5)) (3), by decide +kernel⟩,
    ⟨(fun (r : Fin 5) => ({ bare.fsetb (R.PWR_RAIL_STAT_PG r) true with sup := { bare.sup with rail := r, dir := .down, step := .waitLow } } : State)) (4), 4, by decide +kernel⟩,
    ⟨(fun (r : Fin 5) => ({ (bare.fsetb (R.PWR_RAIL_STAT_PG r) true).fsetb (R.PWR_RAIL_STAT_EN r) true with aon := { bare.aon with running := true } } : State)) (4), 4, by decide +kernel⟩,
    ⟨(fun (r : Fin 5) => ({ (bare.fsetb (R.PWR_RAIL_STAT_PG r) false) with sup := { bare.sup with rail := r, dir := .up, step := .waitPg, retried := false } } : State)) (4), 4, by decide +kernel⟩,
    ⟨(fun (r : Fin 5) => ({ (bare.fsetb (R.PWR_RAIL_STAT_PG r) false) with sup := { bare.sup with rail := r, dir := .up, step := .waitPg, retried := true } } : State)) (4), 4, by decide +kernel⟩,
    ⟨(fun (r : Fin 5) => ({ (bare.fsetb (R.PWR_RAIL_STAT_PG r) true) with sup := { bare.sup with rail := r, dir := .up, step := .waitPg }, aon := { bare.aon with resetHeld := false } } : State)) (2), 2, (fun (r : Fin 5) => ((Fin.ofNat 5 ((bare.railAfter (r + 1)).getD 0)) : Fin 5)) (2), by decide +kernel⟩,
    ⟨(fun (r : Fin 5) => ({ bare with sup := { bare.sup with rail := r, dir := .down, step := .waitLow } } : State)) (4), 4, by decide +kernel⟩,
    ⟨(fun (r : Fin 5) => ({ bare with sup := { bare.sup with rail := r, dir := .up, step := .retryWait } } : State)) (4), 4, by decide +kernel⟩,
    ⟨bare, 4, by decide +kernel⟩,
    ⟨{ bare with aon := { bare.aon with resetHeld := false }, boot := { bare.boot with halted := false }, sup := { bare.sup with railsFailed := true, shed := true, recoveryUsed := false } }, by decide +kernel⟩,
    ⟨bare, by decide +kernel⟩,
    ⟨(fun (r : Fin 5) => ({ bare with sup := { bare.sup with busy := some (.railVout r), dir := .up, step := .setVoltage, rail := r } } : State)) (4), 4, by decide +kernel⟩,
    ⟨(fun (r : Fin 5) (j : PmbusJob) => ({ bare with sup := { bare.sup with busy := some j, dir := .up, step := .setVoltage, rail := r, jobs := [], jobTries := 0 } } : State)) (4) (Sys2Proof.Machine.PmbusJob.railPage 4), 4, Sys2Proof.Machine.PmbusJob.railPage 4, by decide +kernel⟩,
    ⟨(fun (r : Fin 5) => ({ bare with sup := { bare.sup with busy := some (.railMode r), dir := .up, step := .setVoltage, rail := r } } : State)) (4), 4, 20, (fun (r : Fin 5) (data : Nat) => ((Fin.ofNat 256 (bare.readPec (.railMode r) data)) : Fin 256)) (4) (20), by decide +kernel⟩,
    ⟨(fun (r : Fin 5) => ({ bare with sup := { bare.sup with busy := some (.pollStatus r) } } : State)) (4), 4, 1, (fun (r : Fin 5) (data : Nat) => ((Fin.ofNat 256 (bare.readPec (.pollStatus r) data)) : Fin 256)) (4) (1), by decide +kernel⟩,
    ⟨(fun (r : Fin 5) (e : Int) => ({ bare with sup := { bare.sup with busy := some (.pollVout r), exps := rep 5 (some e) } } : State)) (4) (-4), 4, 1, (fun (r : Fin 5) (data : Nat) => ((Fin.ofNat 256 (bare.readPec (.pollVout r) data)) : Fin 256)) (4) (1), -4, by decide +kernel⟩,
    ⟨(fun (j : PmbusJob) => ({ bare with sup := { bare.sup with busy := some j } } : State)) (Sys2Proof.Machine.PmbusJob.pollStatus 2), true, 1, 24, 2, Sys2Proof.Machine.PmbusJob.pollStatus 2, by decide +kernel⟩,
    ⟨bare, by decide +kernel⟩,
    ⟨(fun (r : Fin 5) => ((bare.fsetb (R.PWR_RAIL_STAT_EN r) true).fsetb (R.PWR_RAIL_CFG_PMB r) true : State)) (4), 4, by decide +kernel⟩,
    ⟨bare, by decide +kernel⟩,
    ⟨upAll bare, by decide +kernel⟩,
    ⟨(upAll bare).fset R.PWR_MODE_MODE 2, by decide +kernel⟩,
    ⟨if bare.ticks % 2 = 0 then bare.fset R.PWR_DOM_STATUS_ON 0x20 else bare, by decide +kernel⟩⟩

/-- Each clause of ModeRequests has a state and operands that meet its conditions. -/
theorem test_ModeRequests_witness :
    (∃ (s : State) (r : Fin 4) (d : Desc) (dst : Nat),
      s.shape
      ∧ s.ready r [0x40] = some d
      ∧ d.ring = r
      ∧ d.arg 16 1 = dst
      ∧ s.modeStatus d = .ok
      ∧ dst ≠ s.modeNow
      ∧ (dst = 1 ∨ dst = 2 ∨ dst = 5))
  ∧ (∃ (s : State) (r : Fin 4) (d : Desc),
      s.shape
      ∧ s.ready r [0x40] = some d
      ∧ d.ring = r
      ∧ d.arg 16 1 = 4
      ∧ s.modeStatus d = .ok
      ∧ s.modeNow ≠ 4
      ∧ (s.modeNow = 3 → s.fbit R.PWR_SUPPLY_STATUS_LIMP_SUPPLY = true))
  ∧ (∃ (s : State) (r : Fin 4) (d : Desc),
      s.shape
      ∧ s.ready r [0x40] = some d
      ∧ d.ring = r
      ∧ d.arg 16 1 = 4
      ∧ s.modeStatus d = .ok
      ∧ s.modeNow = 3
      ∧ s.fbit R.PWR_SUPPLY_STATUS_LIMP_SUPPLY = false)
  ∧ (∃ (s : State) (r : Fin 4) (d : Desc),
      s.shape
      ∧ s.ready r [0x40] = some d
      ∧ d.ring = r
      ∧ d.arg 16 1 = 0
      ∧ s.modeStatus d = .ok
      ∧ s.modeNow ≠ 0)
  ∧ (∃ (s : State) (r : Fin 4) (d : Desc),
      s.shape
      ∧ s.ready r [0x40] = some d
      ∧ d.ring = r
      ∧ d.arg 16 1 = 3
      ∧ s.modeStatus d = .ok
      ∧ s.modeNow ≠ 3)
  ∧ (∃ (s : State) (r : Fin 4) (d : Desc),
      s.shape
      ∧ s.ready r [0x40] = some d
      ∧ d.ring = r
      ∧ d.arg 16 1 = s.modeNow
      ∧ s.modeStatus d = .ok)
  ∧ (∃ (s : State) (r : Fin 4) (d : Desc),
      s.shape
      ∧ s.ready r [0x40] = some d
      ∧ d.ring = r
      ∧ d.arg 16 1 ≠ 0x10
      ∧ d.arg 16 1 ≠ 0x11
      ∧ s.modeStatus d ≠ .ok)
  ∧ (∃ (s : State) (r : Fin 4),
      s.ready r [0x40] = none)
  ∧ (∃ (s : State) (r : Fin 4) (d : Desc),
      s.ready r [0x40] = some d
      ∧ (d.arg 16 1 = 0x10 ∨ d.arg 16 1 = 0x11))
  ∧ (∃ (s : State) (d : Desc),
      s.shape
      ∧ s.ready 0 [0x40] = some d
      ∧ d.ring = 0
      ∧ d.arg 16 1 = 0x10
      ∧ d.blankOk = true)
  ∧ (∃ (s : State) (d : Desc),
      s.shape
      ∧ s.ready 0 [0x40] = some d
      ∧ d.ring = 0
      ∧ d.arg 16 1 = 0x10
      ∧ d.blankOk = false)
  ∧ (∃ (s : State) (d : Desc),
      (s.ready 0 [0x40] = none ∨ (s.ready 0 [0x40] = some d ∧ d.arg 16 1 ≠ 0x10)))
  ∧ (∃ (s : State) (d : Desc),
      s.shape
      ∧ s.ready 0 [0x40] = some d
      ∧ d.ring = 0
      ∧ d.arg 16 1 = 0x11
      ∧ d.blankOk = true)
  ∧ (∃ (s : State) (d : Desc),
      s.shape
      ∧ s.ready 0 [0x40] = some d
      ∧ d.ring = 0
      ∧ d.arg 16 1 = 0x11
      ∧ d.blankOk = false)
  ∧ (∃ (s : State) (d : Desc),
      (s.ready 0 [0x40] = none ∨ (s.ready 0 [0x40] = some d ∧ d.arg 16 1 ≠ 0x11))) :=
  ⟨⟨(fun (d : Desc) (dst : Nat) => (((withD (upAll bare) d).fset R.PWR_MODE_MODE (if dst = 1 then 2 + 2 * (bare.ticks % 2) else 1)).fsetb R.PWR_MODE_BUSY false : State)) ({ ring := 3, slot := 5, gen := 1, pos := 5, bytes := ([64, 0, 7] ++ rep 13 0 ++ [1] ++ rep 47 0 : List Byte), payload := none }) ((fun (d : Desc) => ((d.arg 16 1) : Nat)) ({ ring := 3, slot := 5, gen := 1, pos := 5, bytes := ([64, 0, 7] ++ rep 13 0 ++ [1] ++ rep 47 0 : List Byte), payload := none })), 3, { ring := 3, slot := 5, gen := 1, pos := 5, bytes := ([64, 0, 7] ++ rep 13 0 ++ [1] ++ rep 47 0 : List Byte), payload := none }, (fun (d : Desc) => ((d.arg 16 1) : Nat)) ({ ring := 3, slot := 5, gen := 1, pos := 5, bytes := ([64, 0, 7] ++ rep 13 0 ++ [1] ++ rep 47 0 : List Byte), payload := none }), by decide +kernel⟩,
    ⟨(fun (d : Desc) => (((withD (upAll bare) d).fset R.PWR_MODE_MODE (1 + bare.ticks % 2)).fsetb R.PWR_MODE_BUSY false : State)) ({ ring := 3, slot := 5, gen := 1, pos := 5, bytes := ([64, 0, 7] ++ rep 13 0 ++ [4] ++ rep 47 0 : List Byte), payload := none }), 3, { ring := 3, slot := 5, gen := 1, pos := 5, bytes := ([64, 0, 7] ++ rep 13 0 ++ [4] ++ rep 47 0 : List Byte), payload := none }, by decide +kernel⟩,
    ⟨(fun (d : Desc) => (((((withD (upAll bare) d).fset R.PWR_MODE_MODE (3)).fsetb R.PWR_MODE_BUSY false).fsetb R.PWR_SUPPLY_STATUS_LIMP_SUPPLY false) : State)) ({ ring := 3, slot := 5, gen := 1, pos := 5, bytes := ([64, 0, 7] ++ rep 13 0 ++ [4] ++ rep 47 0 : List Byte), payload := none }), 3, { ring := 3, slot := 5, gen := 1, pos := 5, bytes := ([64, 0, 7] ++ rep 13 0 ++ [4] ++ rep 47 0 : List Byte), payload := none }, by decide +kernel⟩,
    ⟨(fun (d : Desc) => ((((withD (upAll bare) d).fset R.PWR_MODE_MODE (1)).fsetb R.PWR_MODE_BUSY false).fset R.SAFE_INPUTS_SAMPLED 0 : State)) ({ ring := 3, slot := 5, gen := 1, pos := 5, bytes := ([64, 0, 7] ++ rep 61 0 : List Byte), payload := none }), 3, { ring := 3, slot := 5, gen := 1, pos := 5, bytes := ([64, 0, 7] ++ rep 61 0 : List Byte), payload := none }, by decide +kernel⟩,
    ⟨(fun (d : Desc) => (((withD (upAll bare) d).fset R.PWR_MODE_MODE (1 + bare.ticks % 2)).fsetb R.PWR_MODE_BUSY false : State)) ({ ring := 3, slot := 5, gen := 1, pos := 5, bytes := ([64, 0, 7] ++ rep 13 0 ++ [3] ++ rep 47 0 : List Byte), payload := none }), 3, { ring := 3, slot := 5, gen := 1, pos := 5, bytes := ([64, 0, 7] ++ rep 13 0 ++ [3] ++ rep 47 0 : List Byte), payload := none }, by decide +kernel⟩,
    ⟨(fun (d : Desc) => (((withD (upAll bare) d).fset R.PWR_MODE_MODE (d.arg 16 1)).fsetb R.PWR_MODE_BUSY false : State)) ({ ring := 3, slot := 5, gen := 1, pos := 5, bytes := ([64, 0, 7] ++ rep 13 0 ++ [3] ++ rep 47 0 : List Byte), payload := none }), 3, { ring := 3, slot := 5, gen := 1, pos := 5, bytes := ([64, 0, 7] ++ rep 13 0 ++ [3] ++ rep 47 0 : List Byte), payload := none }, by decide +kernel⟩,
    ⟨(fun (d : Desc) => (withD (upAll bare) d : State)) ({ ring := 3, slot := 5, gen := 1, pos := 5, bytes := ([64, 0, 7] ++ rep 13 0 ++ [1] ++ rep 13 0 ++ [1] ++ rep 33 0 : List Byte), payload := none }), 3, { ring := 3, slot := 5, gen := 1, pos := 5, bytes := ([64, 0, 7] ++ rep 13 0 ++ [1] ++ rep 13 0 ++ [1] ++ rep 33 0 : List Byte), payload := none }, by decide +kernel⟩,
    ⟨bare, 3, by decide +kernel⟩,
    ⟨(fun (d : Desc) => (withD (upAll bare) d : State)) ({ ring := 3, slot := 5, gen := 1, pos := 5, bytes := ([64, 0, 7] ++ rep 13 0 ++ [16] ++ rep 47 0 : List Byte), payload := none }), 3, { ring := 3, slot := 5, gen := 1, pos := 5, bytes := ([64, 0, 7] ++ rep 13 0 ++ [16] ++ rep 47 0 : List Byte), payload := none }, by decide +kernel⟩,
    ⟨(fun (d : Desc) => (withD (upAll bare) d : State)) ({ ring := 0, slot := 5, gen := 1, pos := 5, bytes := ([64, 0, 7] ++ rep 13 0 ++ [16, 0, 83, 1] ++ rep 44 0 : List Byte), payload := none }), { ring := 0, slot := 5, gen := 1, pos := 5, bytes := ([64, 0, 7] ++ rep 13 0 ++ [16, 0, 83, 1] ++ rep 44 0 : List Byte), payload := none }, by decide +kernel⟩,
    ⟨(fun (d : Desc) => (withD (upAll bare) d : State)) ({ ring := 0, slot := 5, gen := 1, pos := 5, bytes := ([64, 0, 7] ++ rep 13 0 ++ [16, 0, 83, 3] ++ rep 44 0 : List Byte), payload := none }), { ring := 0, slot := 5, gen := 1, pos := 5, bytes := ([64, 0, 7] ++ rep 13 0 ++ [16, 0, 83, 3] ++ rep 44 0 : List Byte), payload := none }, by decide +kernel⟩,
    ⟨(fun (d : Desc) => (withD (upAll bare) d : State)) ({ ring := 0, slot := 5, gen := 1, pos := 5, bytes := ([64, 0, 7] ++ rep 13 0 ++ [11] ++ rep 47 0 : List Byte), payload := none }), { ring := 0, slot := 5, gen := 1, pos := 5, bytes := ([64, 0, 7] ++ rep 13 0 ++ [11] ++ rep 47 0 : List Byte), payload := none }, by decide +kernel⟩,
    ⟨(fun (d : Desc) => ({ withD (upAll bare) d with safe := { bare.safe with hostTot := 0x1A5 &&& 511 } } : State)) ({ ring := 0, slot := 5, gen := 1, pos := 5, bytes := ([64, 0, 7] ++ rep 13 0 ++ [17, 0, 83, 1] ++ rep 44 0 : List Byte), payload := none }), { ring := 0, slot := 5, gen := 1, pos := 5, bytes := ([64, 0, 7] ++ rep 13 0 ++ [17, 0, 83, 1] ++ rep 44 0 : List Byte), payload := none }, by decide +kernel⟩,
    ⟨(fun (d : Desc) => (withD (upAll bare) d : State)) ({ ring := 0, slot := 5, gen := 1, pos := 5, bytes := ([64, 0, 7] ++ rep 13 0 ++ [17, 0, 83, 3] ++ rep 44 0 : List Byte), payload := none }), { ring := 0, slot := 5, gen := 1, pos := 5, bytes := ([64, 0, 7] ++ rep 13 0 ++ [17, 0, 83, 3] ++ rep 44 0 : List Byte), payload := none }, by decide +kernel⟩,
    ⟨(fun (d : Desc) => (withD (upAll bare) d : State)) ({ ring := 0, slot := 5, gen := 1, pos := 5, bytes := ([64, 0, 7] ++ rep 13 0 ++ [11] ++ rep 47 0 : List Byte), payload := none }), { ring := 0, slot := 5, gen := 1, pos := 5, bytes := ([64, 0, 7] ++ rep 13 0 ++ [11] ++ rep 47 0 : List Byte), payload := none }, by decide +kernel⟩⟩

/-- Each clause of ModesAct has a state and operands that meet its conditions. -/
theorem test_ModesAct_witness :
    (∃ (s : State) (m : ModeTrans),
      s.mode.trans = some m
      ∧ m.waitSurf = []
      ∧ s.mode.parkWait = []
      ∧ m.cause ≠ 3
      ∧ s.unparking = false
      ∧ m.src ≠ 0
      ∧ (m.dst = 1 ∨ m.dst = 2 ∨ m.dst = 5)
      ∧ (m.dst = 5 → s.safe.session = true ∧ s.fget R.BOOT_STATUS_LC = lcService)
      ∧ s.mode.limpFault = none
      ∧ s.mode.latchedRule = none)
  ∧ (∃ (s : State) (m : ModeTrans) (f : Nat),
      s.mode.trans = some m
      ∧ m.waitSurf = []
      ∧ s.mode.parkWait = []
      ∧ m.cause ≠ 3
      ∧ s.unparking = false
      ∧ m.src ≠ 0
      ∧ (m.dst = 1 ∨ m.dst = 2 ∨ m.dst = 5)
      ∧ (m.dst = 5 → s.safe.session = true ∧ s.fget R.BOOT_STATUS_LC = lcService)
      ∧ s.mode.limpFault = some f)
  ∧ (∃ (s : State) (m : ModeTrans) (n : Nat),
      s.mode.trans = some m
      ∧ m.waitSurf = []
      ∧ s.mode.parkWait = []
      ∧ m.cause ≠ 3
      ∧ s.unparking = false
      ∧ m.src ≠ 0
      ∧ (m.dst = 1 ∨ m.dst = 2 ∨ m.dst = 5)
      ∧ (m.dst = 5 → s.safe.session = true ∧ s.fget R.BOOT_STATUS_LC = lcService)
      ∧ s.mode.limpFault = none
      ∧ s.mode.latchedRule = some n
      ∧ s.mode.wakeHeld = none)
  ∧ (∃ (s : State) (m : ModeTrans),
      s.mode.trans = some m
      ∧ m.waitSurf = []
      ∧ s.mode.parkWait = []
      ∧ m.cause ≠ 3
      ∧ s.unparking = false
      ∧ m.dst = 0
      ∧ m.src ≠ 0
      ∧ s.sup.dir ≠ .down
      ∧ s.mode.latchedRule = none)
  ∧ (∃ (s : State) (m : ModeTrans),
      s.mode.trans = some m
      ∧ m.waitSurf = []
      ∧ s.mode.parkWait = []
      ∧ m.cause ≠ 3
      ∧ s.unparking = false
      ∧ m.dst = 3
      ∧ m.src ≠ 0
      ∧ s.mode.limpFault = none
      ∧ s.mode.latchedRule = none)
  ∧ (∃ (s : State) (m : ModeTrans),
      s.mode.trans = some m
      ∧ m.waitSurf = []
      ∧ s.mode.parkWait = []
      ∧ m.cause ≠ 3
      ∧ s.unparking = false
      ∧ m.dst = 4
      ∧ m.src = 3
      ∧ s.mode.limpFault = none
      ∧ s.mode.latchedRule = none)
  ∧ (∃ (s : State) (m : ModeTrans) (units : List (Nat × Nat)) (lanes : List Nat) (safeFail : Bool) (otherFail : Bool),
      s.mode.trans = some m
      ∧ m.waitSurf = []
      ∧ s.mode.parkWait = []
      ∧ m.cause ≠ 3
      ∧ s.unparking = false
      ∧ m.src = 0
      ∧ (m.dst = 1 ∨ m.dst = 2)
      ∧ s.boot.step = .ready
      ∧ s.boot.limpOnly = false
      ∧ safeFail = false
      ∧ otherFail = false
      ∧ (∀ e ∈ units, e.1 ≠ 1)
      ∧ lanes.length < 2
      ∧ s.aon.tarnFault11 = false
      ∧ s.aon.tarnFault12 = false
      ∧ s.fbit R.PWR_SUPPLY_STATUS_MAIN_OK = true
      ∧ s.mode.limpFault = none
      ∧ s.mode.latchedRule = none)
  ∧ (∃ (s : State) (m : ModeTrans) (safeFail : Bool),
      s.mode.trans = some m
      ∧ m.waitSurf = []
      ∧ s.mode.parkWait = []
      ∧ m.cause ≠ 3
      ∧ s.unparking = false
      ∧ m.src = 0
      ∧ m.dst ≠ 0
      ∧ s.boot.step = .ready
      ∧ safeFail = true)
  ∧ (∃ (s : State),
      (s.mode.trans = none ∨ s.mode.parkWait ≠ [] ∨ s.unparking = true))
  ∧ (∃ (s : State) (m : ModeTrans),
      s.mode.trans = some m
      ∧ (m.waitSurf ≠ [] ∨ m.cause = 3 ∨ (m.src = 0 ∧ s.boot.step ≠ .ready) ∨ (m.dst = 0 ∧ s.sup.dir = .down)))
  ∧ (∃ (s : State),
      s.modeNow = 1
      ∧ s.fbit R.PWR_MODE_BUSY = false
      ∧ s.inForce R.PWR_MODE_CFG_IDLE_S ≠ 0
      ∧ s.idleHeld = false)
  ∧ (∃ (s : State),
      (s.modeNow ≠ 1 ∨ s.fbit R.PWR_MODE_BUSY = true ∨ s.inForce R.PWR_MODE_CFG_IDLE_S = 0 ∨ s.idleHeld = true))
  ∧ (∃ (s : State),
      s.modeNow = 2
      ∧ s.fbit R.PWR_MODE_BUSY = false
      ∧ s.inForce R.PWR_MODE_CFG_LREQ_GATE = 1
      ∧ s.lightOn = false)
  ∧ (∃ (s : State),
      (s.modeNow ≠ 2 ∨ s.fbit R.PWR_MODE_BUSY = true ∨ s.inForce R.PWR_MODE_CFG_LREQ_GATE ≠ 1 ∨ s.lightOn = true))
  ∧ (∃ (s : State),
      s.mode.wokenToRun = true)
  ∧ (∃ (s : State),
      s.mode.wokenToRun = false)
  ∧ (∃ (s : State),
      s.aon.running = true)
  ∧ (∃ (s : State) (pins : Nat) (wakeMv : Nat) (peer : Bool) (vinMain : Nat) (vinBkup : Nat) (temp : Int) (n : Fin 16),
      s.aon.running = true
      ∧ s.mode.latchedRule = none
      ∧ s.fbit (R.PWR_RULE_CTRL_EN n) = true
      ∧ s.takeTarn.tarnCond (tarnDerived s.mode.timerPulse s.mode.singleCh (s.mode.tarn.zipIdx.map fun q => s.takeTarn.tarnStep q.2 (s.takeTarn.tarnRaw ⟨pins, wakeMv, peer, vinMain, vinBkup, temp⟩ q.2) (tarnRawAnalog ⟨pins, wakeMv, peer, vinMain, vinBkup, temp⟩ q.2) q.1)) n = true
      ∧ nth s.mode.ruleWas n = false
      ∧ bitOf (s.fget (R.PWR_RULE_CTRL_MODES n)) s.ruleMode = true)
  ∧ (∃ (s : State),
      s.aon.running = false)
  ∧ (∃ (s : State),
      s.inForce R.PWR_TARN_TIMER_TIMER_S ≠ 0)
  ∧ (∃ (s : State),
      s.inForce R.PWR_TARN_TIMER_TIMER_S = 0)
  ∧ (∃ (s : State),
      s.domOn 5 = true)
  ∧ (∃ (s : State),
      (s.domOn 5 = false ∨ s.blockOff (0x20124) = true)) :=
  ⟨⟨(fun (m : ModeTrans) => ({ (upAll bare) with mode := { bare.mode with trans := some m, parkWait := [], limpFault := none, latchedRule := none } } : State)) ({ src := 5, dst := 1, cause := 17, cmd := none, waitSurf := [] }), { src := 5, dst := 1, cause := 17, cmd := none, waitSurf := [] }, by decide +kernel⟩,
    ⟨(fun (m : ModeTrans) (f : Nat) => ({ (upAll bare) with mode := { bare.mode with trans := some m, parkWait := [], limpFault := some f, latchedRule := none } } : State)) ({ src := 5, dst := 1, cause := 17, cmd := none, waitSurf := [] }) (11), { src := 5, dst := 1, cause := 17, cmd := none, waitSurf := [] }, 11, by decide +kernel⟩,
    ⟨(fun (m : ModeTrans) (n : Nat) => (({ (upAll bare) with mode := { bare.mode with trans := some m, parkWait := [], limpFault := none, latchedRule := some n } }.fset R.PWR_WAKE_LATCH_ACTION (bare.ticks % 4)) : State)) ({ src := 5, dst := 1, cause := 17, cmd := none, waitSurf := [] }) (11), { src := 5, dst := 1, cause := 17, cmd := none, waitSurf := [] }, 11, by decide +kernel⟩,
    ⟨(fun (m : ModeTrans) => ({ { (upAll bare) with mode := { bare.mode with trans := some m, parkWait := [], limpFault := none, latchedRule := none } } with sup := { bare.sup with dir := .none } } : State)) ({ src := 1, dst := 0, cause := 17, cmd := none, waitSurf := [] }), { src := 1, dst := 0, cause := 17, cmd := none, waitSurf := [] }, by decide +kernel⟩,
    ⟨(fun (m : ModeTrans) => ({ (upAll bare) with mode := { bare.mode with trans := some m, parkWait := [], limpFault := none, latchedRule := none } } : State)) ({ src := 2, dst := 3, cause := 17, cmd := none, waitSurf := [] }), { src := 2, dst := 3, cause := 17, cmd := none, waitSurf := [] }, by decide +kernel⟩,
    ⟨(fun (m : ModeTrans) => (({ (upAll bare) with mode := { bare.mode with trans := some m, parkWait := [], limpFault := none, latchedRule := none } }).fsetb R.PWR_DOM_STATUS_MEM_RET false : State)) ({ src := 3, dst := 4, cause := 17, cmd := none, waitSurf := [] }), { src := 3, dst := 4, cause := 17, cmd := none, waitSurf := [] }, by decide +kernel⟩,
    ⟨(fun (m : ModeTrans) => (({ { (upAll bare) with mode := { bare.mode with trans := some m, parkWait := [], limpFault := none, latchedRule := none } } with boot := { bare.boot with step := .ready, limpOnly := false }, aon := { bare.aon with tarnFault11 := false, tarnFault12 := false } }.fsetb R.PWR_SUPPLY_STATUS_MAIN_OK true) : State)) ({ src := 0, dst := 1, cause := 17, cmd := none, waitSurf := [] }), { src := 0, dst := 1, cause := 17, cmd := none, waitSurf := [] }, [], [], false, false, by decide +kernel⟩,
    ⟨(fun (m : ModeTrans) => ({ { (upAll bare) with mode := { bare.mode with trans := some m, parkWait := [], limpFault := none, latchedRule := none } } with boot := { bare.boot with step := .ready } } : State)) ({ src := 0, dst := 1, cause := 17, cmd := none, waitSurf := [] }), { src := 0, dst := 1, cause := 17, cmd := none, waitSurf := [] }, true, by decide +kernel⟩,
    ⟨bare, by decide +kernel⟩,
    ⟨(fun (m : ModeTrans) => ({ (upAll bare) with mode := { bare.mode with trans := some m, parkWait := [], limpFault := none, latchedRule := none } } : State)) ({ src := 4, dst := 1, cause := 3, cmd := none, waitSurf := [] }), { src := 4, dst := 1, cause := 3, cmd := none, waitSurf := [] }, by decide +kernel⟩,
    ⟨(((((bare.fset R.PWR_MODE_MODE 1).fset R.PWR_DOM_STATUS_ON 0xFFF).fset R.PWR_MODE_CFG_IDLE_S 60).fsetb R.PWR_MODE_BUSY false)).takeForce R.PWR_MODE_CFG_IDLE_S, by decide +kernel⟩,
    ⟨bare, by decide +kernel⟩,
    ⟨((((bare.fset R.PWR_MODE_MODE 2).fsetb R.PWR_MODE_CFG_LREQ_GATE true).fsetb R.PWR_MODE_BUSY false)).takeForce R.PWR_MODE_CFG_LREQ_GATE, by decide +kernel⟩,
    ⟨bare, by decide +kernel⟩,
    ⟨{ (upAll bare).fset R.PWR_MODE_MODE 2 with mode := { bare.mode with wokenToRun := true }, gens := if bare.ticks % 2 = 0 then rep 4 {} else bare.gens }, by decide +kernel⟩,
    ⟨bare, by decide +kernel⟩,
    ⟨{ bare with aon := { bare.aon with running := true }, mode := { bare.mode with pendClr := bare.mode.pendClr ++ [(0x20124, 2 ^ 16)] } }, by decide +kernel⟩,
    ⟨(fun (n : Fin 16) => ({ (((((bare.fsetb (R.PWR_RULE_CTRL_EN n) true).fset (R.PWR_RULE_TERM_A_INPUT n) 3).fset (R.PWR_RULE_CTRL_MODES n) 63).fset (R.PWR_RULE_TERM_A_OP n) 7).fset (R.PWR_RULE_TERM_B_OP n) 0) with aon := { bare.aon with running := true }, mode := { bare.mode with latchedRule := none, ruleWas := rep 16 false } } : State)) (4), 256606708, 16, false, 2049417926, 0, 1014680980, 4, by decide +kernel⟩,
    ⟨bare, by decide +kernel⟩,
    ⟨(bare.fset R.PWR_TARN_TIMER_TIMER_S 77).takeForce R.PWR_TARN_TIMER_TIMER_S, by decide +kernel⟩,
    ⟨bare, by decide +kernel⟩,
    ⟨upAll bare, by decide +kernel⟩,
    ⟨if bare.ticks % 2 = 0 then bare.fset R.PWR_DOM_STATUS_ON 0x20 else bare, by decide +kernel⟩⟩

/-- Each clause of PresentsTake has a state and operands that meet its conditions. -/
theorem test_PresentsTake_witness :
    (∃ (s : State) (d : Desc),
      s.latchesDue.shape
      ∧ s.latchesDue.ready 1 [1] = some d
      ∧ d.ring = 1
      ∧ s.latchesDue.isCompanion = false
      ∧ d.target < 4
      ∧ s.latchesDue.presentStatus d false = .ok)
  ∧ (∃ (s : State) (d : Desc),
      s.latchesDue.shape
      ∧ s.latchesDue.ready 1 [1] = some d
      ∧ d.ring = 1
      ∧ s.latchesDue.isCompanion = true
      ∧ s.latchesDue.twin.aligns = []
      ∧ s.latchesDue.twin.waiting.all (fun c => c.align.isNone) = true
      ∧ d.target < 4
      ∧ s.latchesDue.presentStatus d false = .ok)
  ∧ (∃ (s : State) (d : Desc),
      s.latchesDue.ready 1 [1] = some d
      ∧ d.ring = 1
      ∧ s.latchesDue.presentStatus d false ≠ .ok)
  ∧ (∃ (s : State),
      s.latchesDue.ready 1 [1] = none)
  ∧ (∃ (s : State) (pos : Nat) (layer : Nat) (n : Nat) (p : Present),
      s.findPresent pos = some (n, p)
      ∧ layer < p.layers.length
      ∧ (nth p.layers layer).pending = false
      ∧ (nth p.layers layer).done = false
      ∧ (nth p.layers layer).failed = false)
  ∧ (∃ (s : State) (pos : Nat) (layer : Nat),
      (s.findPresent pos).all (fun e => decide (e.2.layers.length ≤ layer) || (nth e.2.layers layer).pending || (nth e.2.layers layer).done || (nth e.2.layers layer).failed) = true)
  ∧ (∃ (s : State) (d : Desc),
      s.latchesDue.shape
      ∧ s.latchesDue.ready 1 [2] = some d
      ∧ d.ring = 1
      ∧ (s.latchesDue.isCompanion = true → s.latchesDue.twin.aligns = [] ∧ s.latchesDue.twin.waiting.all (fun c => c.align.isNone) = true)
      ∧ d.target < 4
      ∧ s.latchesDue.timedStatus d = .ok)
  ∧ (∃ (s : State) (d : Desc),
      s.latchesDue.ready 1 [2] = some d
      ∧ d.ring = 1
      ∧ s.latchesDue.timedStatus d ≠ .ok)
  ∧ (∃ (s : State),
      s.latchesDue.ready 1 [2] = none)
  ∧ (∃ (s : State) (d : Desc),
      s.latchesDue.shape
      ∧ s.latchesDue.ready 1 [3] = some d
      ∧ d.ring = 1
      ∧ s.latchesDue.isCompanion = false
      ∧ d.target < 4
      ∧ s.latchesDue.cancelStatus d = .ok)
  ∧ (∃ (s : State) (d : Desc),
      s.latchesDue.shape
      ∧ s.latchesDue.ready 1 [3] = some d
      ∧ d.ring = 1
      ∧ s.latchesDue.isCompanion = true
      ∧ s.latchesDue.twin.aligns = []
      ∧ s.latchesDue.twin.waiting.all (fun c => c.align.isNone) = true
      ∧ s.latchesDue.cancelStatus d = .ok)
  ∧ (∃ (s : State) (d : Desc),
      s.latchesDue.ready 1 [3] = some d
      ∧ d.ring = 1
      ∧ s.latchesDue.cancelStatus d ≠ .ok)
  ∧ (∃ (s : State),
      s.latchesDue.ready 1 [3] = none) :=
  ⟨⟨(fun (d : Desc) => ((withD (alone (upAll bare)) d).wr (tgAddr d.target 0x20) 0x00400040 : State)) ({ ring := 1, slot := 5, gen := 1, pos := 5, bytes := ([1, 0, 7, 0, 3, 0, 116] ++ rep 9 0 ++ [1, 0, 0, 0, 99] ++ rep 43 0 : List Byte), payload := some ([0, 0, 0, 48, 0, 0, 0, 0, 128, 0, 0, 0, 2, 0, 0, 0, 4, 1, 0, 0, 64, 0, 64, 0, 0, 0, 0, 0, 64, 0, 64, 0, 255, 255, 0, 255] ++ rep 80 0 : List Byte) }), { ring := 1, slot := 5, gen := 1, pos := 5, bytes := ([1, 0, 7, 0, 3, 0, 116] ++ rep 9 0 ++ [1, 0, 0, 0, 99] ++ rep 43 0 : List Byte), payload := some ([0, 0, 0, 48, 0, 0, 0, 0, 128, 0, 0, 0, 2, 0, 0, 0, 4, 1, 0, 0, 64, 0, 64, 0, 0, 0, 0, 0, 64, 0, 64, 0, 255, 255, 0, 255] ++ rep 80 0 : List Byte) }, by decide +kernel⟩,
    ⟨(fun (d : Desc) => ((let u := State.fset ((withD (alone (upAll bare)) d).wr (tgAddr d.target 0x20) 0x00400040) R.TWIN_STATUS_ROLE 3; { u with twin := { u.twin with aligns := [], waiting := [] } }) : State)) ({ ring := 1, slot := 5, gen := 1, pos := 5, bytes := ([1, 0, 7, 0, 3, 0, 116] ++ rep 9 0 ++ [1, 0, 0, 0, 99] ++ rep 43 0 : List Byte), payload := some ([0, 0, 0, 48, 0, 0, 0, 0, 128, 0, 0, 0, 2, 0, 0, 0, 4, 1, 0, 0, 64, 0, 64, 0, 0, 0, 0, 0, 64, 0, 64, 0, 255, 255, 0, 255] ++ rep 80 0 : List Byte) }), { ring := 1, slot := 5, gen := 1, pos := 5, bytes := ([1, 0, 7, 0, 3, 0, 116] ++ rep 9 0 ++ [1, 0, 0, 0, 99] ++ rep 43 0 : List Byte), payload := some ([0, 0, 0, 48, 0, 0, 0, 0, 128, 0, 0, 0, 2, 0, 0, 0, 4, 1, 0, 0, 64, 0, 64, 0, 0, 0, 0, 0, 64, 0, 64, 0, 255, 255, 0, 255] ++ rep 80 0 : List Byte) }, by decide +kernel⟩,
    ⟨(fun (d : Desc) => ((withD (alone (upAll bare)) d).wr (tgAddr d.target 0x20) 0x00400040 : State)) ({ ring := 1, slot := 5, gen := 1, pos := 5, bytes := ([1, 0, 7, 0, 3, 0, 116] ++ rep 9 0 ++ [9, 0, 0, 0, 99] ++ rep 43 0 : List Byte), payload := some ([0, 0, 0, 48, 0, 0, 0, 0, 128, 0, 0, 0, 2, 0, 0, 0, 4, 1, 0, 0, 64, 0, 64, 0, 0, 0, 0, 0, 64, 0, 64, 0, 255, 255, 0, 255] ++ rep 80 0 : List Byte) }), { ring := 1, slot := 5, gen := 1, pos := 5, bytes := ([1, 0, 7, 0, 3, 0, 116] ++ rep 9 0 ++ [9, 0, 0, 0, 99] ++ rep 43 0 : List Byte), payload := some ([0, 0, 0, 48, 0, 0, 0, 0, 128, 0, 0, 0, 2, 0, 0, 0, 4, 1, 0, 0, 64, 0, 64, 0, 0, 0, 0, 0, 64, 0, 64, 0, 255, 255, 0, 255] ++ rep 80 0 : List Byte) }, by decide +kernel⟩,
    ⟨bare, by decide +kernel⟩,
    ⟨(fun (p : Present) => (let u := bare.setPx 0 (fun q => { q with next := some p }); u : State)) ({ desc := mkD 1 1 0 [] , layers := [{}, { record := LYR }, {}] }), 5, 2, (fun (pos : Nat) => (((bare.findPresent pos).getD (0, {})).1 : Nat)) (5), { desc := mkD 1 1 0 [] , layers := [{}, { record := LYR }, {}] }, by decide +kernel⟩,
    ⟨bare, 256606708, 16, by decide +kernel⟩,
    ⟨(fun (d : Desc) => ((withD (alone (upAll bare)) d).wr (tgAddr d.target 0x20) 0x00400040 : State)) ({ ring := 1, slot := 5, gen := 1, pos := 5, bytes := ([2, 0, 7, 0, 3, 0, 116] ++ rep 9 0 ++ [1, 0, 0, 0, 99, 0, 0, 0, 5] ++ rep 39 0 : List Byte), payload := some ([0, 0, 0, 48, 0, 0, 0, 0, 128, 0, 0, 0, 2, 0, 0, 0, 4, 1, 0, 0, 64, 0, 64, 0, 0, 0, 0, 0, 64, 0, 64, 0, 255, 255, 0, 255] ++ rep 80 0 : List Byte) }), { ring := 1, slot := 5, gen := 1, pos := 5, bytes := ([2, 0, 7, 0, 3, 0, 116] ++ rep 9 0 ++ [1, 0, 0, 0, 99, 0, 0, 0, 5] ++ rep 39 0 : List Byte), payload := some ([0, 0, 0, 48, 0, 0, 0, 0, 128, 0, 0, 0, 2, 0, 0, 0, 4, 1, 0, 0, 64, 0, 64, 0, 0, 0, 0, 0, 64, 0, 64, 0, 255, 255, 0, 255] ++ rep 80 0 : List Byte) }, by decide +kernel⟩,
    ⟨(fun (d : Desc) => ((withD (alone (upAll bare)) d).wr (tgAddr d.target 0x20) 0x00400040 : State)) ({ ring := 1, slot := 5, gen := 1, pos := 5, bytes := ([2, 0, 7, 0, 3, 0, 116] ++ rep 9 0 ++ [9, 0, 0, 0, 99] ++ rep 43 0 : List Byte), payload := some ([0, 0, 0, 48, 0, 0, 0, 0, 128, 0, 0, 0, 2, 0, 0, 0, 4, 1, 0, 0, 64, 0, 64, 0, 0, 0, 0, 0, 64, 0, 64, 0, 255, 255, 0, 255] ++ rep 80 0 : List Byte) }), { ring := 1, slot := 5, gen := 1, pos := 5, bytes := ([2, 0, 7, 0, 3, 0, 116] ++ rep 9 0 ++ [9, 0, 0, 0, 99] ++ rep 43 0 : List Byte), payload := some ([0, 0, 0, 48, 0, 0, 0, 0, 128, 0, 0, 0, 2, 0, 0, 0, 4, 1, 0, 0, 64, 0, 64, 0, 0, 0, 0, 0, 64, 0, 64, 0, 255, 255, 0, 255] ++ rep 80 0 : List Byte) }, by decide +kernel⟩,
    ⟨bare, by decide +kernel⟩,
    ⟨(fun (d : Desc) => ((withD (alone (upAll bare)) d).setPx d.target fun q => { q with ephem := [{ id := 1 }, { id := 2 }, { id := 1 }] } : State)) ({ ring := 1, slot := 5, gen := 1, pos := 5, bytes := ([3, 0, 7, 0, 3] ++ rep 11 0 ++ [255, 255, 255, 255] ++ rep 44 0 : List Byte), payload := none }), { ring := 1, slot := 5, gen := 1, pos := 5, bytes := ([3, 0, 7, 0, 3] ++ rep 11 0 ++ [255, 255, 255, 255] ++ rep 44 0 : List Byte), payload := none }, by decide +kernel⟩,
    ⟨(fun (d : Desc) => ((let u := State.fset ((withD (alone (upAll bare)) d).setPx d.target fun q => { q with ephem := [{ id := 1 }, { id := 2 }, { id := 1 }] }) R.TWIN_STATUS_ROLE 3; { u with twin := { u.twin with aligns := [], waiting := [] } }) : State)) ({ ring := 1, slot := 5, gen := 1, pos := 5, bytes := ([3, 0, 7, 0, 3] ++ rep 11 0 ++ [255, 255, 255, 255] ++ rep 44 0 : List Byte), payload := none }), { ring := 1, slot := 5, gen := 1, pos := 5, bytes := ([3, 0, 7, 0, 3] ++ rep 11 0 ++ [255, 255, 255, 255] ++ rep 44 0 : List Byte), payload := none }, by decide +kernel⟩,
    ⟨(fun (d : Desc) => ((withD (alone (upAll bare)) d).setPx d.target fun q => { q with ephem := [{ id := 1 }, { id := 2 }, { id := 1 }] } : State)) ({ ring := 1, slot := 5, gen := 1, pos := 5, bytes := ([3, 0, 7, 0, 3] ++ rep 11 0 ++ [7] ++ rep 13 0 ++ [1] ++ rep 33 0 : List Byte), payload := none }), { ring := 1, slot := 5, gen := 1, pos := 5, bytes := ([3, 0, 7, 0, 3] ++ rep 11 0 ++ [7] ++ rep 13 0 ++ [1] ++ rep 33 0 : List Byte), payload := none }, by decide +kernel⟩,
    ⟨bare, by decide +kernel⟩⟩

/-- Each clause of ShadesAimAndProfiles has a state and operands that meet its conditions. -/
theorem test_ShadesAimAndProfiles_witness :
    (∃ (s : State) (d : Desc),
      s.shape
      ∧ s.ready 0 [0x10] = some d
      ∧ d.ring = 0
      ∧ s.isCompanion = false
      ∧ d.shadeOk = true)
  ∧ (∃ (s : State) (d : Desc),
      s.shape
      ∧ s.ready 0 [0x10] = some d
      ∧ d.ring = 0
      ∧ s.isCompanion = true
      ∧ s.twin.aligns = []
      ∧ s.twin.waiting.all (fun c => c.align.isNone) = true
      ∧ d.shadeOk = true)
  ∧ (∃ (s : State) (d : Desc),
      s.ready 0 [0x10] = some d
      ∧ d.ring = 0
      ∧ d.shadeOk = false)
  ∧ (∃ (s : State),
      s.ready 0 [0x10] = none)
  ∧ (∃ (s : State) (d : Desc),
      s.shape
      ∧ s.ready 0 [0x11] = some d
      ∧ d.ring = 0
      ∧ s.isCompanion = false
      ∧ d.flagsOk = true
      ∧ d.zero 24 60 = true)
  ∧ (∃ (s : State) (d : Desc),
      s.shape
      ∧ s.ready 0 [0x11] = some d
      ∧ d.ring = 0
      ∧ s.isCompanion = true
      ∧ s.twin.aligns = []
      ∧ s.twin.waiting.all (fun c => c.align.isNone) = true
      ∧ d.flagsOk = true
      ∧ d.zero 24 60 = true)
  ∧ (∃ (s : State) (d : Desc),
      s.ready 0 [0x11] = some d
      ∧ d.ring = 0
      ∧ (d.flagsOk = false ∨ d.zero 24 60 = false))
  ∧ (∃ (s : State),
      s.ready 0 [0x11] = none)
  ∧ (∃ (s : State) (d : Desc),
      s.shape
      ∧ s.ready 0 [0x20] = some d
      ∧ d.ring = 0
      ∧ d.target < 4
      ∧ s.aimStatus d = .ok)
  ∧ (∃ (s : State) (d : Desc),
      s.ready 0 [0x20] = some d
      ∧ d.ring = 0
      ∧ s.aimStatus d ≠ .ok)
  ∧ (∃ (s : State),
      s.ready 0 [0x20] = none)
  ∧ (∃ (s : State) (d : Desc),
      s.shape
      ∧ s.ready 2 [0x21] = some d
      ∧ d.ring = 2
      ∧ d.target < 4
      ∧ s.profileStatus d = .ok
      ∧ s.safe.surfs.length = 4)
  ∧ (∃ (s : State) (d : Desc),
      s.ready 2 [0x21] = some d
      ∧ d.ring = 2
      ∧ s.profileStatus d ≠ .ok)
  ∧ (∃ (s : State),
      s.ready 2 [0x21] = none) :=
  ⟨⟨(fun (d : Desc) => ({ withD (alone (upAll bare)) d with pix := { bare.pix with shades := rep 64 none } } : State)) ({ ring := 0, slot := 5, gen := 1, pos := 5, bytes := ([16, 0, 7, 0, 3] ++ rep 11 0 ++ [54, 1, 24, 178, 116, 156, 4] ++ rep 29 0 ++ [147, 2] ++ rep 10 0 : List Byte), payload := none }), { ring := 0, slot := 5, gen := 1, pos := 5, bytes := ([16, 0, 7, 0, 3] ++ rep 11 0 ++ [54, 1, 24, 178, 116, 156, 4] ++ rep 29 0 ++ [147, 2] ++ rep 10 0 : List Byte), payload := none }, by decide +kernel⟩,
    ⟨(fun (d : Desc) => ((let u := State.fset (withD (alone (upAll bare)) d) R.TWIN_STATUS_ROLE 3; { u with twin := { u.twin with aligns := [], waiting := [] } }) : State)) ({ ring := 0, slot := 5, gen := 1, pos := 5, bytes := ([16, 0, 7, 0, 3] ++ rep 11 0 ++ [54, 1, 24, 178, 116, 156, 4] ++ rep 29 0 ++ [147, 2] ++ rep 10 0 : List Byte), payload := none }), { ring := 0, slot := 5, gen := 1, pos := 5, bytes := ([16, 0, 7, 0, 3] ++ rep 11 0 ++ [54, 1, 24, 178, 116, 156, 4] ++ rep 29 0 ++ [147, 2] ++ rep 10 0 : List Byte), payload := none }, by decide +kernel⟩,
    ⟨(fun (d : Desc) => (withD (alone (upAll bare)) d : State)) ({ ring := 0, slot := 5, gen := 1, pos := 5, bytes := ([16, 0, 7, 0, 3] ++ rep 11 0 ++ [54, 4] ++ rep 46 0 : List Byte), payload := none }), { ring := 0, slot := 5, gen := 1, pos := 5, bytes := ([16, 0, 7, 0, 3] ++ rep 11 0 ++ [54, 4] ++ rep 46 0 : List Byte), payload := none }, by decide +kernel⟩,
    ⟨bare, by decide +kernel⟩,
    ⟨(fun (d : Desc) => ({ withD (alone (upAll bare)) d with pix := { bare.pix with shades := rep 64 (some {}) } } : State)) ({ ring := 0, slot := 5, gen := 1, pos := 5, bytes := ([17, 0, 7] ++ rep 13 0 ++ [83, 57, 144, 110, 244, 129, 75, 15] ++ rep 40 0 : List Byte), payload := none }), { ring := 0, slot := 5, gen := 1, pos := 5, bytes := ([17, 0, 7] ++ rep 13 0 ++ [83, 57, 144, 110, 244, 129, 75, 15] ++ rep 40 0 : List Byte), payload := none }, by decide +kernel⟩,
    ⟨(fun (d : Desc) => ((let u := State.fset (withD (alone (upAll bare)) d) R.TWIN_STATUS_ROLE 3; { u with twin := { u.twin with aligns := [], waiting := [] } }) : State)) ({ ring := 0, slot := 5, gen := 1, pos := 5, bytes := ([17, 0, 7] ++ rep 13 0 ++ [83, 57, 144, 110, 244, 129, 75, 15] ++ rep 40 0 : List Byte), payload := none }), { ring := 0, slot := 5, gen := 1, pos := 5, bytes := ([17, 0, 7] ++ rep 13 0 ++ [83, 57, 144, 110, 244, 129, 75, 15] ++ rep 40 0 : List Byte), payload := none }, by decide +kernel⟩,
    ⟨(fun (d : Desc) => (withD (alone (upAll bare)) d : State)) ({ ring := 0, slot := 5, gen := 1, pos := 5, bytes := ([17, 0, 7] ++ rep 21 0 ++ [5] ++ rep 39 0 : List Byte), payload := none }), { ring := 0, slot := 5, gen := 1, pos := 5, bytes := ([17, 0, 7] ++ rep 21 0 ++ [5] ++ rep 39 0 : List Byte), payload := none }, by decide +kernel⟩,
    ⟨bare, by decide +kernel⟩,
    ⟨(fun (d : Desc) => ({ withD (alone (upAll bare)) d with safe := { bare.safe with spb := some spbBytes } } : State)) ({ ring := 0, slot := 5, gen := 1, pos := 5, bytes := ([32, 0, 7, 0, 3] ++ rep 59 0 : List Byte), payload := none }), { ring := 0, slot := 5, gen := 1, pos := 5, bytes := ([32, 0, 7, 0, 3] ++ rep 59 0 : List Byte), payload := none }, by decide +kernel⟩,
    ⟨(fun (d : Desc) => ({ withD (alone (upAll bare)) d with safe := { bare.safe with spb := some spbBytes } } : State)) ({ ring := 0, slot := 5, gen := 1, pos := 5, bytes := ([32, 0, 7, 0, 3] ++ rep 11 0 ++ [7] ++ rep 23 0 ++ [1] ++ rep 23 0 : List Byte), payload := none }), { ring := 0, slot := 5, gen := 1, pos := 5, bytes := ([32, 0, 7, 0, 3] ++ rep 11 0 ++ [7] ++ rep 23 0 ++ [1] ++ rep 23 0 : List Byte), payload := none }, by decide +kernel⟩,
    ⟨bare, by decide +kernel⟩,
    ⟨(fun (d : Desc) => ({ withD (alone (upAll bare)) d with safe := { bare.safe with spb := some spbBytes } } : State)) ({ ring := 2, slot := 5, gen := 1, pos := 5, bytes := ([33, 0, 7, 0, 3] ++ rep 59 0 : List Byte), payload := none }), { ring := 2, slot := 5, gen := 1, pos := 5, bytes := ([33, 0, 7, 0, 3] ++ rep 59 0 : List Byte), payload := none }, by decide +kernel⟩,
    ⟨(fun (d : Desc) => ({ withD (alone (upAll bare)) d with safe := { bare.safe with spb := some spbBytes } } : State)) ({ ring := 2, slot := 5, gen := 1, pos := 5, bytes := ([33, 0, 7, 0, 3] ++ rep 11 0 ++ [9] ++ rep 23 0 ++ [1] ++ rep 23 0 : List Byte), payload := none }), { ring := 2, slot := 5, gen := 1, pos := 5, bytes := ([33, 0, 7, 0, 3] ++ rep 11 0 ++ [9] ++ rep 23 0 ++ [1] ++ rep 23 0 : List Byte), payload := none }, by decide +kernel⟩,
    ⟨bare, by decide +kernel⟩⟩

/-- Each clause of SurfaceCommands has a state and operands that meet its conditions. -/
theorem test_SurfaceCommands_witness :
    (∃ (s : State) (d : Desc),
      s.shape
      ∧ s.ready 2 [0x30] = some d
      ∧ d.ring = 2
      ∧ (s.isCompanion = true → s.twin.aligns = [] ∧ s.twin.waiting.all (fun c => c.align.isNone) = true)
      ∧ d.target < 4
      ∧ d.arg 16 1 = 0
      ∧ s.configStatus d = .ok)
  ∧ (∃ (s : State) (d : Desc),
      s.shape
      ∧ s.ready 2 [0x30] = some d
      ∧ d.ring = 2
      ∧ s.isCompanion = false
      ∧ d.target < 4
      ∧ d.arg 16 1 = 1
      ∧ s.configStatus d = .ok
      ∧ s.gens.length = 4)
  ∧ (∃ (s : State) (d : Desc),
      s.shape
      ∧ s.ready 2 [0x30] = some d
      ∧ d.ring = 2
      ∧ s.isCompanion = false
      ∧ d.target < 4
      ∧ d.arg 16 1 = 2
      ∧ s.configStatus d = .ok
      ∧ s.domOn 3 = true
      ∧ s.running d.target = true
      ∧ s.gens.length = 4)
  ∧ (∃ (s : State) (d : Desc),
      s.shape
      ∧ s.ready 2 [0x30] = some d
      ∧ d.ring = 2
      ∧ s.isCompanion = false
      ∧ d.target < 4
      ∧ d.arg 16 1 = 2
      ∧ s.configStatus d = .ok
      ∧ s.domOn 3 = true
      ∧ s.running d.target = false
      ∧ (s.gen d.target).startF.isSome = true
      ∧ s.gens.length = 4)
  ∧ (∃ (s : State) (d : Desc),
      s.shape
      ∧ s.ready 2 [0x30] = some d
      ∧ d.ring = 2
      ∧ s.isCompanion = false
      ∧ d.target < 4
      ∧ d.arg 16 1 = 2
      ∧ s.configStatus d = .ok
      ∧ (s.domOn 3 = false ∨ (s.running d.target = false ∧ (s.gen d.target).startF = none)))
  ∧ (∃ (s : State) (d : Desc),
      s.shape
      ∧ s.ready 2 [0x30] = some d
      ∧ d.ring = 2
      ∧ s.isCompanion = true
      ∧ s.twin.aligns = []
      ∧ s.twin.waiting.all (fun c => c.align.isNone) = true
      ∧ d.arg 16 1 ≠ 0
      ∧ s.configStatus d = .ok)
  ∧ (∃ (s : State) (d : Desc),
      s.ready 2 [0x30] = some d
      ∧ d.ring = 2
      ∧ s.configStatus d ≠ .ok)
  ∧ (∃ (s : State),
      s.ready 2 [0x30] = none)
  ∧ (∃ (s : State) (d : Desc),
      s.latchesDue.shape
      ∧ s.latchesDue.ready 2 [0x31] = some d
      ∧ d.ring = 2
      ∧ s.latchesDue.isCompanion = false
      ∧ d.target < 4
      ∧ s.latchesDue.retimeStatus d = .ok)
  ∧ (∃ (s : State) (d : Desc),
      s.latchesDue.shape
      ∧ s.latchesDue.ready 2 [0x31] = some d
      ∧ d.ring = 2
      ∧ s.latchesDue.isCompanion = true
      ∧ s.latchesDue.twin.aligns = []
      ∧ s.latchesDue.twin.waiting.all (fun c => c.align.isNone) = true
      ∧ s.latchesDue.retimeStatus d = .ok)
  ∧ (∃ (s : State) (d : Desc),
      s.latchesDue.ready 2 [0x31] = some d
      ∧ d.ring = 2
      ∧ s.latchesDue.retimeStatus d ≠ .ok)
  ∧ (∃ (s : State),
      s.latchesDue.ready 2 [0x31] = none)
  ∧ (∃ (s : State) (d : Desc),
      s.shape
      ∧ s.ready 2 [0x32] = some d
      ∧ d.ring = 2
      ∧ (s.isCompanion = true → s.twin.aligns = [] ∧ s.twin.waiting.all (fun c => c.align.isNone) = true)
      ∧ d.arg 18 1 = 0
      ∧ s.scalerStatus d = .ok
      ∧ d.arg 16 1 < s.pix.scalers.length)
  ∧ (∃ (s : State) (d : Desc),
      s.shape
      ∧ s.ready 2 [0x32] = some d
      ∧ d.ring = 2
      ∧ s.isCompanion = false
      ∧ d.arg 18 1 = 1
      ∧ s.scalerStatus d = .ok
      ∧ d.arg 16 1 < s.pix.scalers.length)
  ∧ (∃ (s : State) (d : Desc),
      s.shape
      ∧ s.ready 2 [0x32] = some d
      ∧ d.ring = 2
      ∧ s.isCompanion = true
      ∧ s.twin.aligns = []
      ∧ s.twin.waiting.all (fun c => c.align.isNone) = true
      ∧ d.arg 18 1 = 1
      ∧ s.scalerStatus d = .ok)
  ∧ (∃ (s : State) (d : Desc),
      s.ready 2 [0x32] = some d
      ∧ d.ring = 2
      ∧ s.scalerStatus d ≠ .ok)
  ∧ (∃ (s : State),
      s.ready 2 [0x32] = none) :=
  ⟨⟨(fun (d : Desc) => (noSurf ({ withD (alone (upAll bare)) d with gens := rep 4 {} }.setPort 0 fun q => { q with cap := some { tw := 64, th := 64, frameMem := true } }) : State)) ({ ring := 2, slot := 5, gen := 1, pos := 5, bytes := ([48, 0, 7, 0, 3, 0, 228] ++ rep 57 0 : List Byte), payload := some ([240, 3, 0, 0, 16, 0, 0, 0, 232, 3] ++ rep 6 0 ++ [64, 0, 64, 0, 1] ++ rep 7 0 ++ [7] ++ rep 199 0 : List Byte) }), { ring := 2, slot := 5, gen := 1, pos := 5, bytes := ([48, 0, 7, 0, 3, 0, 228] ++ rep 57 0 : List Byte), payload := some ([240, 3, 0, 0, 16, 0, 0, 0, 232, 3] ++ rep 6 0 ++ [64, 0, 64, 0, 1] ++ rep 7 0 ++ [7] ++ rep 199 0 : List Byte) }, by decide +kernel⟩,
    ⟨(fun (d : Desc) => (noSurf ({ withD (alone (upAll bare)) d with gens := rep 4 {} }.setPort 0 fun q => { q with cap := some { tw := 64, th := 64, frameMem := true } }) : State)) ({ ring := 2, slot := 5, gen := 1, pos := 5, bytes := ([48, 0, 7, 0, 3, 0, 228] ++ rep 9 0 ++ [1] ++ rep 47 0 : List Byte), payload := some ([240, 3, 0, 0, 16, 0, 0, 0, 232, 3] ++ rep 6 0 ++ [64, 0, 64, 0, 1] ++ rep 7 0 ++ [7] ++ rep 199 0 : List Byte) }), { ring := 2, slot := 5, gen := 1, pos := 5, bytes := ([48, 0, 7, 0, 3, 0, 228] ++ rep 9 0 ++ [1] ++ rep 47 0 : List Byte), payload := some ([240, 3, 0, 0, 16, 0, 0, 0, 232, 3] ++ rep 6 0 ++ [64, 0, 64, 0, 1] ++ rep 7 0 ++ [7] ++ rep 199 0 : List Byte) }, by decide +kernel⟩,
    ⟨(fun (d : Desc) => (((withD (alone (upAll bare)) d).fsetb (R.TG_STATUS_RUNNING d.target) true).setGen d.target fun q => { q with startF := none, stopPend := false } : State)) ({ ring := 2, slot := 5, gen := 1, pos := 5, bytes := ([48, 0, 7, 0, 3, 0, 228] ++ rep 9 0 ++ [2] ++ rep 47 0 : List Byte), payload := some ([240, 3, 0, 0, 16, 0, 0, 0, 232, 3] ++ rep 6 0 ++ [64, 0, 64, 0, 1] ++ rep 7 0 ++ [7] ++ rep 199 0 : List Byte) }), { ring := 2, slot := 5, gen := 1, pos := 5, bytes := ([48, 0, 7, 0, 3, 0, 228] ++ rep 9 0 ++ [2] ++ rep 47 0 : List Byte), payload := some ([240, 3, 0, 0, 16, 0, 0, 0, 232, 3] ++ rep 6 0 ++ [64, 0, 64, 0, 1] ++ rep 7 0 ++ [7] ++ rep 199 0 : List Byte) }, by decide +kernel⟩,
    ⟨(fun (d : Desc) => (((withD (alone (upAll bare)) d).fsetb (R.TG_STATUS_RUNNING d.target) false).setGen d.target fun q => { q with startF := some 9 } : State)) ({ ring := 2, slot := 5, gen := 1, pos := 5, bytes := ([48, 0, 7, 0, 3, 0, 228] ++ rep 9 0 ++ [2] ++ rep 47 0 : List Byte), payload := some ([240, 3, 0, 0, 16, 0, 0, 0, 232, 3] ++ rep 6 0 ++ [64, 0, 64, 0, 1] ++ rep 7 0 ++ [7] ++ rep 199 0 : List Byte) }), { ring := 2, slot := 5, gen := 1, pos := 5, bytes := ([48, 0, 7, 0, 3, 0, 228] ++ rep 9 0 ++ [2] ++ rep 47 0 : List Byte), payload := some ([240, 3, 0, 0, 16, 0, 0, 0, 232, 3] ++ rep 6 0 ++ [64, 0, 64, 0, 1] ++ rep 7 0 ++ [7] ++ rep 199 0 : List Byte) }, by decide +kernel⟩,
    ⟨(fun (d : Desc) => (noSurf ({ withD (alone (upAll bare)) d with gens := rep 4 {} }.setPort 0 fun q => { q with cap := some { tw := 64, th := 64, frameMem := true } }) : State)) ({ ring := 2, slot := 5, gen := 1, pos := 5, bytes := ([48, 0, 7, 0, 3, 0, 228] ++ rep 9 0 ++ [2] ++ rep 47 0 : List Byte), payload := some ([240, 3, 0, 0, 16, 0, 0, 0, 232, 3] ++ rep 6 0 ++ [64, 0, 64, 0, 1] ++ rep 7 0 ++ [7] ++ rep 199 0 : List Byte) }), { ring := 2, slot := 5, gen := 1, pos := 5, bytes := ([48, 0, 7, 0, 3, 0, 228] ++ rep 9 0 ++ [2] ++ rep 47 0 : List Byte), payload := some ([240, 3, 0, 0, 16, 0, 0, 0, 232, 3] ++ rep 6 0 ++ [64, 0, 64, 0, 1] ++ rep 7 0 ++ [7] ++ rep 199 0 : List Byte) }, by decide +kernel⟩,
    ⟨(fun (d : Desc) => ((let u := State.fset (noSurf ({ withD (alone (upAll bare)) d with gens := rep 4 {} }.setPort 0 fun q => { q with cap := some { tw := 64, th := 64, frameMem := true } })) R.TWIN_STATUS_ROLE 3; { u with twin := { u.twin with aligns := [], waiting := [] } }) : State)) ({ ring := 2, slot := 5, gen := 1, pos := 5, bytes := ([48, 0, 7, 0, 3, 0, 228] ++ rep 9 0 ++ [2] ++ rep 47 0 : List Byte), payload := some ([240, 3, 0, 0, 16, 0, 0, 0, 232, 3] ++ rep 6 0 ++ [64, 0, 64, 0, 1] ++ rep 7 0 ++ [7] ++ rep 199 0 : List Byte) }), { ring := 2, slot := 5, gen := 1, pos := 5, bytes := ([48, 0, 7, 0, 3, 0, 228] ++ rep 9 0 ++ [2] ++ rep 47 0 : List Byte), payload := some ([240, 3, 0, 0, 16, 0, 0, 0, 232, 3] ++ rep 6 0 ++ [64, 0, 64, 0, 1] ++ rep 7 0 ++ [7] ++ rep 199 0 : List Byte) }, by decide +kernel⟩,
    ⟨(fun (d : Desc) => (withD (alone (upAll bare)) d : State)) ({ ring := 2, slot := 5, gen := 1, pos := 5, bytes := ([48, 0, 7, 0, 0, 0, 228] ++ rep 9 0 ++ [4] ++ rep 47 0 : List Byte), payload := some ([240, 3, 0, 0, 16, 0, 0, 0, 232, 3] ++ rep 6 0 ++ [64, 0, 64, 0, 1] ++ rep 7 0 ++ [7] ++ rep 199 0 : List Byte) }), { ring := 2, slot := 5, gen := 1, pos := 5, bytes := ([48, 0, 7, 0, 0, 0, 228] ++ rep 9 0 ++ [4] ++ rep 47 0 : List Byte), payload := some ([240, 3, 0, 0, 16, 0, 0, 0, 232, 3] ++ rep 6 0 ++ [64, 0, 64, 0, 1] ++ rep 7 0 ++ [7] ++ rep 199 0 : List Byte) }, by decide +kernel⟩,
    ⟨bare, by decide +kernel⟩,
    ⟨(fun (d : Desc) => ((fun x : State => x.fsetb (R.TG_CTRL_ENABLE d.target) true) ((((((withD (alone (upAll bare)) d).setGen d.target (fun q => { q with phase := .normal, stopPend := false, startF := some 3 })).wr (tgAddr d.target 0x20) 0x00400040).fsetb (R.TG_STATUS_RETIME_PENDING d.target) false).fsetb (R.TG_STATUS_RETIME_ACTIVE d.target) false)) : State)) (mkD 2 0x31 0 [(16,4,0x378),(20,4,16),(24,4,1000)] 0), mkD 2 0x31 0 [(16,4,0x378),(20,4,16),(24,4,1000)] 0, by decide +kernel⟩,
    ⟨(fun (d : Desc) => ((fun x : State => x.fsetb (R.TG_CTRL_ENABLE d.target) true) ((let u := State.fset ((((((withD (alone (upAll bare)) d).setGen d.target (fun q => { q with phase := .normal, stopPend := false, startF := some 3 })).wr (tgAddr d.target 0x20) 0x00400040).fsetb (R.TG_STATUS_RETIME_PENDING d.target) false).fsetb (R.TG_STATUS_RETIME_ACTIVE d.target) false)) R.TWIN_STATUS_ROLE 3; { u with twin := { u.twin with aligns := [], waiting := [] } })) : State)) (mkD 2 0x31 0 [(16,4,0x378),(20,4,16),(24,4,1000)] 0), mkD 2 0x31 0 [(16,4,0x378),(20,4,16),(24,4,1000)] 0, by decide +kernel⟩,
    ⟨(fun (d : Desc) => (withD (alone (upAll bare)) d : State)) ({ ring := 2, slot := 5, gen := 1, pos := 5, bytes := ([49, 0, 7, 0, 3] ++ rep 11 0 ++ [12] ++ rep 47 0 : List Byte), payload := none }), { ring := 2, slot := 5, gen := 1, pos := 5, bytes := ([49, 0, 7, 0, 3] ++ rep 11 0 ++ [12] ++ rep 47 0 : List Byte), payload := none }, by decide +kernel⟩,
    ⟨bare, by decide +kernel⟩,
    ⟨(fun (d : Desc) => ({ withD (alone (upAll bare)) d with pix := { bare.pix with scalers := bare.pix.scalers.map fun q => { q with armed := none } } } : State)) ({ ring := 2, slot := 5, gen := 1, pos := 5, bytes := ([50, 0, 7, 0, 0, 0, 20, 2] ++ rep 8 0 ++ [1, 3] ++ rep 46 0 : List Byte), payload := some (rep 532 0 : List Byte) }), { ring := 2, slot := 5, gen := 1, pos := 5, bytes := ([50, 0, 7, 0, 0, 0, 20, 2] ++ rep 8 0 ++ [1, 3] ++ rep 46 0 : List Byte), payload := some (rep 532 0 : List Byte) }, by decide +kernel⟩,
    ⟨(fun (d : Desc) => ({ withD (alone (upAll bare)) d with pix := { bare.pix with scalers := bare.pix.scalers.map fun q => { q with armed := none } } } : State)) ({ ring := 2, slot := 5, gen := 1, pos := 5, bytes := ([50, 0, 7, 0, 0, 0, 20, 2] ++ rep 8 0 ++ [1, 3, 1] ++ rep 45 0 : List Byte), payload := some (rep 532 0 : List Byte) }), { ring := 2, slot := 5, gen := 1, pos := 5, bytes := ([50, 0, 7, 0, 0, 0, 20, 2] ++ rep 8 0 ++ [1, 3, 1] ++ rep 45 0 : List Byte), payload := some (rep 532 0 : List Byte) }, by decide +kernel⟩,
    ⟨(fun (d : Desc) => ((let u := State.fset ({ withD (alone (upAll bare)) d with pix := { bare.pix with scalers := bare.pix.scalers.map fun q => { q with armed := none } } }) R.TWIN_STATUS_ROLE 3; { u with twin := { u.twin with aligns := [], waiting := [] } }) : State)) ({ ring := 2, slot := 5, gen := 1, pos := 5, bytes := ([50, 0, 7, 0, 0, 0, 20, 2] ++ rep 8 0 ++ [1, 3, 1] ++ rep 45 0 : List Byte), payload := some (rep 532 0 : List Byte) }), { ring := 2, slot := 5, gen := 1, pos := 5, bytes := ([50, 0, 7, 0, 0, 0, 20, 2] ++ rep 8 0 ++ [1, 3, 1] ++ rep 45 0 : List Byte), payload := some (rep 532 0 : List Byte) }, by decide +kernel⟩,
    ⟨(fun (d : Desc) => (withD (alone (upAll bare)) d : State)) ({ ring := 2, slot := 5, gen := 1, pos := 5, bytes := ([50, 0, 7, 0, 1, 0, 152, 2] ++ rep 9 0 ++ [2, 3] ++ rep 45 0 : List Byte), payload := some (rep 664 0 : List Byte) }), { ring := 2, slot := 5, gen := 1, pos := 5, bytes := ([50, 0, 7, 0, 1, 0, 152, 2] ++ rep 9 0 ++ [2, 3] ++ rep 45 0 : List Byte), payload := some (rep 664 0 : List Byte) }, by decide +kernel⟩,
    ⟨bare, by decide +kernel⟩⟩

/-- Each clause of BulkCommandsQueue has a state and operands that meet its conditions. -/
theorem test_BulkCommandsQueue_witness :
    (∃ (s : State) (d : Desc),
      s.shape
      ∧ s.ready 3 [0x41] = some d
      ∧ d.ring = 3
      ∧ segPatternStatus d = .ok)
  ∧ (∃ (s : State) (d : Desc),
      s.ready 3 [0x41] = some d
      ∧ d.ring = 3
      ∧ segPatternStatus d ≠ .ok)
  ∧ (∃ (s : State),
      s.ready 3 [0x41] = none)
  ∧ (∃ (s : State) (d : Desc),
      s.shape
      ∧ s.ready 3 [0x50] = some d
      ∧ d.ring = 3
      ∧ s.mapStatus d = .ok)
  ∧ (∃ (s : State) (d : Desc),
      s.ready 3 [0x50] = some d
      ∧ d.ring = 3
      ∧ s.mapStatus d ≠ .ok)
  ∧ (∃ (s : State),
      s.ready 3 [0x50] = none)
  ∧ (∃ (s : State) (d : Desc),
      s.shape
      ∧ s.ready 3 [0x60] = some d
      ∧ d.ring = 3
      ∧ spbLoadStatus d = .ok)
  ∧ (∃ (s : State) (d : Desc),
      s.ready 3 [0x60] = some d
      ∧ d.ring = 3
      ∧ spbLoadStatus d ≠ .ok)
  ∧ (∃ (s : State),
      s.ready 3 [0x60] = none)
  ∧ (∃ (s : State) (d : Desc),
      s.shape
      ∧ s.ready 3 [0x70] = some d
      ∧ d.ring = 3
      ∧ fwStageStatus d = .ok)
  ∧ (∃ (s : State) (d : Desc),
      s.ready 3 [0x70] = some d
      ∧ d.ring = 3
      ∧ fwStageStatus d ≠ .ok)
  ∧ (∃ (s : State),
      s.ready 3 [0x70] = none)
  ∧ (∃ (s : State) (d : Desc),
      s.shape
      ∧ s.ready 3 [0x51] = some d
      ∧ d.ring = 3
      ∧ dumpStatus d = .ok)
  ∧ (∃ (s : State) (d : Desc),
      s.ready 3 [0x51] = some d
      ∧ d.ring = 3
      ∧ dumpStatus d ≠ .ok)
  ∧ (∃ (s : State),
      s.ready 3 [0x51] = none)
  ∧ (∃ (s : State) (d : Desc),
      s.shape
      ∧ s.ready 2 [0x42] = some d
      ∧ d.ring = 2
      ∧ segStartStatus d = .ok)
  ∧ (∃ (s : State) (d : Desc),
      s.ready 2 [0x42] = some d
      ∧ d.ring = 2
      ∧ segStartStatus d ≠ .ok)
  ∧ (∃ (s : State),
      s.ready 2 [0x42] = none)
  ∧ (∃ (s : State) (d : Desc),
      s.shape
      ∧ s.ready 3 [0x61] = some d
      ∧ d.ring = 3
      ∧ s.commitStatus d = .ok)
  ∧ (∃ (s : State) (d : Desc),
      s.ready 3 [0x61] = some d
      ∧ d.ring = 3
      ∧ s.commitStatus d ≠ .ok)
  ∧ (∃ (s : State),
      s.ready 3 [0x61] = none)
  ∧ (∃ (s : State) (d : Desc),
      s.shape
      ∧ s.ready 3 [0x71] = some d
      ∧ d.ring = 3
      ∧ s.activateStatus d = .ok)
  ∧ (∃ (s : State) (d : Desc),
      s.ready 3 [0x71] = some d
      ∧ d.ring = 3
      ∧ s.activateStatus d ≠ .ok)
  ∧ (∃ (s : State),
      s.ready 3 [0x71] = none) :=
  ⟨⟨(fun (d : Desc) => ({ withD (alone (upAll bare)) d with cmds := { bare.cmds with bulk := [] } } : State)) ({ ring := 3, slot := 5, gen := 1, pos := 5, bytes := ([65, 0, 7] ++ rep 21 0 ++ [64] ++ rep 8 0 ++ [2, 0, 0, 16] ++ rep 27 0 : List Byte), payload := none }), { ring := 3, slot := 5, gen := 1, pos := 5, bytes := ([65, 0, 7] ++ rep 21 0 ++ [64] ++ rep 8 0 ++ [2, 0, 0, 16] ++ rep 27 0 : List Byte), payload := none }, by decide +kernel⟩,
    ⟨(fun (d : Desc) => ({ withD (alone (upAll bare)) d with cmds := { bare.cmds with bulk := [] } } : State)) ({ ring := 3, slot := 5, gen := 1, pos := 5, bytes := ([65, 0, 7, 0, 77] ++ rep 12 0 ++ [9] ++ rep 26 0 ++ [3] ++ rep 15 0 ++ [1, 0, 0, 0] : List Byte), payload := none }), { ring := 3, slot := 5, gen := 1, pos := 5, bytes := ([65, 0, 7, 0, 77] ++ rep 12 0 ++ [9] ++ rep 26 0 ++ [3] ++ rep 15 0 ++ [1, 0, 0, 0] : List Byte), payload := none }, by decide +kernel⟩,
    ⟨bare, by decide +kernel⟩,
    ⟨(fun (d : Desc) => ({ withD (alone (upAll bare)) d with cmds := { bare.cmds with bulk := [] } } : State)) ({ ring := 3, slot := 5, gen := 1, pos := 5, bytes := ([80, 0, 7] ++ rep 21 0 ++ [64] ++ rep 7 0 ++ [4] ++ rep 31 0 : List Byte), payload := none }), { ring := 3, slot := 5, gen := 1, pos := 5, bytes := ([80, 0, 7] ++ rep 21 0 ++ [64] ++ rep 7 0 ++ [4] ++ rep 31 0 : List Byte), payload := none }, by decide +kernel⟩,
    ⟨(fun (d : Desc) => ({ withD (alone (upAll bare)) d with cmds := { bare.cmds with bulk := [] } } : State)) ({ ring := 3, slot := 5, gen := 1, pos := 5, bytes := ([80, 0, 7, 0, 77] ++ rep 12 0 ++ [9] ++ rep 26 0 ++ [3] ++ rep 15 0 ++ [1, 0, 0, 0] : List Byte), payload := none }), { ring := 3, slot := 5, gen := 1, pos := 5, bytes := ([80, 0, 7, 0, 77] ++ rep 12 0 ++ [9] ++ rep 26 0 ++ [3] ++ rep 15 0 ++ [1, 0, 0, 0] : List Byte), payload := none }, by decide +kernel⟩,
    ⟨bare, by decide +kernel⟩,
    ⟨(fun (d : Desc) => ({ withD (alone (upAll bare)) d with cmds := { bare.cmds with bulk := [] } } : State)) ({ ring := 3, slot := 5, gen := 1, pos := 5, bytes := ([96, 0, 7] ++ rep 21 0 ++ [64] ++ rep 39 0 : List Byte), payload := none }), { ring := 3, slot := 5, gen := 1, pos := 5, bytes := ([96, 0, 7] ++ rep 21 0 ++ [64] ++ rep 39 0 : List Byte), payload := none }, by decide +kernel⟩,
    ⟨(fun (d : Desc) => ({ withD (alone (upAll bare)) d with cmds := { bare.cmds with bulk := [] } } : State)) ({ ring := 3, slot := 5, gen := 1, pos := 5, bytes := ([96, 0, 7, 0, 77] ++ rep 12 0 ++ [9] ++ rep 26 0 ++ [3] ++ rep 15 0 ++ [1, 0, 0, 0] : List Byte), payload := none }), { ring := 3, slot := 5, gen := 1, pos := 5, bytes := ([96, 0, 7, 0, 77] ++ rep 12 0 ++ [9] ++ rep 26 0 ++ [3] ++ rep 15 0 ++ [1, 0, 0, 0] : List Byte), payload := none }, by decide +kernel⟩,
    ⟨bare, by decide +kernel⟩,
    ⟨(fun (d : Desc) => ({ withD (alone (upAll bare)) d with cmds := { bare.cmds with bulk := [] } } : State)) ({ ring := 3, slot := 5, gen := 1, pos := 5, bytes := ([112, 0, 7] ++ rep 21 0 ++ [64] ++ rep 39 0 : List Byte), payload := none }), { ring := 3, slot := 5, gen := 1, pos := 5, bytes := ([112, 0, 7] ++ rep 21 0 ++ [64] ++ rep 39 0 : List Byte), payload := none }, by decide +kernel⟩,
    ⟨(fun (d : Desc) => ({ withD (alone (upAll bare)) d with cmds := { bare.cmds with bulk := [] } } : State)) ({ ring := 3, slot := 5, gen := 1, pos := 5, bytes := ([112, 0, 7, 0, 77] ++ rep 12 0 ++ [9] ++ rep 26 0 ++ [3] ++ rep 15 0 ++ [1, 0, 0, 0] : List Byte), payload := none }), { ring := 3, slot := 5, gen := 1, pos := 5, bytes := ([112, 0, 7, 0, 77] ++ rep 12 0 ++ [9] ++ rep 26 0 ++ [3] ++ rep 15 0 ++ [1, 0, 0, 0] : List Byte), payload := none }, by decide +kernel⟩,
    ⟨bare, by decide +kernel⟩,
    ⟨(fun (d : Desc) => ({ withD (alone (upAll bare)) d with cmds := { bare.cmds with bulk := [] } } : State)) ({ ring := 3, slot := 5, gen := 1, pos := 5, bytes := ([81, 0, 7] ++ rep 21 0 ++ [64] ++ rep 7 0 ++ [3] ++ rep 31 0 : List Byte), payload := none }), { ring := 3, slot := 5, gen := 1, pos := 5, bytes := ([81, 0, 7] ++ rep 21 0 ++ [64] ++ rep 7 0 ++ [3] ++ rep 31 0 : List Byte), payload := none }, by decide +kernel⟩,
    ⟨(fun (d : Desc) => ({ withD (alone (upAll bare)) d with cmds := { bare.cmds with bulk := [] } } : State)) ({ ring := 3, slot := 5, gen := 1, pos := 5, bytes := ([81, 0, 7, 0, 77] ++ rep 12 0 ++ [9] ++ rep 26 0 ++ [3] ++ rep 15 0 ++ [1, 0, 0, 0] : List Byte), payload := none }), { ring := 3, slot := 5, gen := 1, pos := 5, bytes := ([81, 0, 7, 0, 77] ++ rep 12 0 ++ [9] ++ rep 26 0 ++ [3] ++ rep 15 0 ++ [1, 0, 0, 0] : List Byte), payload := none }, by decide +kernel⟩,
    ⟨bare, by decide +kernel⟩,
    ⟨(fun (d : Desc) => ({ withD (alone (upAll bare)) d with cmds := { bare.cmds with bulk := [] } } : State)) ({ ring := 2, slot := 5, gen := 1, pos := 5, bytes := ([66, 0, 7] ++ rep 13 0 ++ [83, 9] ++ rep 46 0 : List Byte), payload := none }), { ring := 2, slot := 5, gen := 1, pos := 5, bytes := ([66, 0, 7] ++ rep 13 0 ++ [83, 9] ++ rep 46 0 : List Byte), payload := none }, by decide +kernel⟩,
    ⟨(fun (d : Desc) => ({ withD (alone (upAll bare)) d with cmds := { bare.cmds with bulk := [] } } : State)) ({ ring := 2, slot := 5, gen := 1, pos := 5, bytes := ([66, 0, 7, 0, 77] ++ rep 12 0 ++ [9] ++ rep 26 0 ++ [3] ++ rep 15 0 ++ [1, 0, 0, 0] : List Byte), payload := none }), { ring := 2, slot := 5, gen := 1, pos := 5, bytes := ([66, 0, 7, 0, 77] ++ rep 12 0 ++ [9] ++ rep 26 0 ++ [3] ++ rep 15 0 ++ [1, 0, 0, 0] : List Byte), payload := none }, by decide +kernel⟩,
    ⟨bare, by decide +kernel⟩,
    ⟨(fun (d : Desc) => ({ { withD (alone (upAll bare)) d with cmds := { bare.cmds with bulk := [] } } with safe := { bare.safe with staged := some [1, 2, 3, 4] } }.fset R.SAFE_COMM_CONFIRM_VALUE (spbCheckValue [1, 2, 3, 4]) : State)) (mkD 3 0x61 0 []), mkD 3 0x61 0 [], by decide +kernel⟩,
    ⟨(fun (d : Desc) => ({ withD (alone (upAll bare)) d with cmds := { bare.cmds with bulk := [] } } : State)) ({ ring := 3, slot := 5, gen := 1, pos := 5, bytes := ([97, 0, 7, 0, 77] ++ rep 12 0 ++ [9] ++ rep 26 0 ++ [3] ++ rep 15 0 ++ [1, 0, 0, 0] : List Byte), payload := none }), { ring := 3, slot := 5, gen := 1, pos := 5, bytes := ([97, 0, 7, 0, 77] ++ rep 12 0 ++ [9] ++ rep 26 0 ++ [3] ++ rep 15 0 ++ [1, 0, 0, 0] : List Byte), payload := none }, by decide +kernel⟩,
    ⟨bare, by decide +kernel⟩,
    ⟨(fun (d : Desc) => ({ { withD (alone (upAll bare)) d with cmds := { bare.cmds with bulk := [] } } with flash := { bare.flash with slots := [{ factory := true }, { factory := true }] }, boot := { bare.boot with otpRollback := 0 } } : State)) ((mkD 3 0x71 0 [])), (mkD 3 0x71 0 []), by decide +kernel⟩,
    ⟨(fun (d : Desc) => ({ withD (alone (upAll bare)) d with cmds := { bare.cmds with bulk := [] } } : State)) ({ ring := 3, slot := 5, gen := 1, pos := 5, bytes := ([113, 0, 7, 0, 77] ++ rep 12 0 ++ [9] ++ rep 26 0 ++ [3] ++ rep 15 0 ++ [1, 0, 0, 0] : List Byte), payload := none }), { ring := 3, slot := 5, gen := 1, pos := 5, bytes := ([113, 0, 7, 0, 77] ++ rep 12 0 ++ [9] ++ rep 26 0 ++ [3] ++ rep 15 0 ++ [1, 0, 0, 0] : List Byte), payload := none }, by decide +kernel⟩,
    ⟨bare, by decide +kernel⟩⟩

/-- Each clause of FencesAndBulkEnds has a state and operands that meet its conditions. -/
theorem test_FencesAndBulkEnds_witness :
    (∃ (s : State) (r : Fin 4) (d : Desc),
      s.shape
      ∧ s.ready r [0x7F] = some d
      ∧ d.ring = r
      ∧ fenceStatus d = .ok)
  ∧ (∃ (s : State) (r : Fin 4) (d : Desc),
      s.ready r [0x7F] = some d
      ∧ d.ring = r
      ∧ fenceStatus d ≠ .ok)
  ∧ (∃ (s : State) (r : Fin 4),
      s.ready r [0x7F] = none)
  ∧ (∃ (s : State) (r : Fin 4) (f : Fence),
      s.shape
      ∧ (s.ring r).fence = some f
      ∧ s.fenceHolds f = true
      ∧ f.desc.ring = r)
  ∧ (∃ (s : State) (r : Fin 4),
      (s.ring r).fence.all (fun f => !s.fenceHolds f) = true)
  ∧ (∃ (s : State) (r : Fin 4) (f : Fence),
      s.shape
      ∧ (s.ring r).fence = some f
      ∧ f.timeoutUs ≠ 0
      ∧ f.desc.ring = r)
  ∧ (∃ (s : State) (r : Fin 4),
      (s.ring r).fence.all (fun f => f.timeoutUs == 0) = true)
  ∧ (∃ (s : State),
      s.cmds.bulk = [])
  ∧ (∃ (s : State) (bytes : List Byte) (ok : Bool) (d : Desc) (l : List Desc),
      s.cmds.bulk = d :: l
      ∧ (s.isCompanion = true → s.twin.aligns = [] ∧ s.twin.waiting.all (fun c => c.align.isNone) = true)
      ∧ (ok = false ∨ s.cmds.voided.contains (d.ring, d.pos) = true ∨ crcWith (sourcePrefix d.opcode d.target d.bulkLen) (padTo 0 d.bulkLen bytes) ≠ d.bulkCrc))
  ∧ (∃ (s : State) (bytes : List Byte) (d : Desc) (l : List Desc),
      s.cmds.bulk = d :: l
      ∧ s.cmds.voided.contains (d.ring, d.pos) = false
      ∧ padTo 0 d.bulkLen bytes = bytes
      ∧ crcWith (sourcePrefix d.opcode d.target d.bulkLen) bytes = d.bulkCrc
      ∧ d.opcode = 0x41
      ∧ (s.isCompanion = true → s.twin.aligns = [] ∧ s.twin.waiting.all (fun c => c.align.isNone) = true))
  ∧ (∃ (s : State) (bytes : List Byte) (d : Desc) (l : List Desc),
      s.cmds.bulk = d :: l
      ∧ s.cmds.voided.contains (d.ring, d.pos) = false
      ∧ padTo 0 d.bulkLen bytes = bytes
      ∧ crcWith (sourcePrefix d.opcode d.target d.bulkLen) bytes = d.bulkCrc
      ∧ d.opcode = 0x50
      ∧ d.mapKind ≤ 3
      ∧ s.isCompanion = true
      ∧ s.twin.aligns = []
      ∧ s.twin.waiting.all (fun c => c.align.isNone) = true
      ∧ s.mapSourceStatus d bytes = .ok)
  ∧ (∃ (s : State) (bytes : List Byte) (d : Desc) (l : List Desc),
      s.cmds.bulk = d :: l
      ∧ s.cmds.voided.contains (d.ring, d.pos) = false
      ∧ padTo 0 d.bulkLen bytes = bytes
      ∧ crcWith (sourcePrefix d.opcode d.target d.bulkLen) bytes = d.bulkCrc
      ∧ d.opcode = 0x50
      ∧ d.mapKind = 0
      ∧ s.isCompanion = false
      ∧ d.target < 4
      ∧ s.pix.surfs.length = 4)
  ∧ (∃ (s : State) (bytes : List Byte) (d : Desc) (l : List Desc),
      s.cmds.bulk = d :: l
      ∧ s.cmds.voided.contains (d.ring, d.pos) = false
      ∧ padTo 0 d.bulkLen bytes = bytes
      ∧ crcWith (sourcePrefix d.opcode d.target d.bulkLen) bytes = d.bulkCrc
      ∧ d.opcode = 0x50
      ∧ d.mapKind = 3
      ∧ s.isCompanion = false
      ∧ d.target < 4
      ∧ s.pix.surfs.length = 4
      ∧ d.mapIndex < (s.px d.target).patternsStaged.length)
  ∧ (∃ (s : State) (bytes : List Byte) (d : Desc) (l : List Desc) (n : Nat),
      s.cmds.bulk = d :: l
      ∧ s.cmds.voided.contains (d.ring, d.pos) = false
      ∧ padTo 0 d.bulkLen bytes = bytes
      ∧ crcWith (sourcePrefix d.opcode d.target d.bulkLen) bytes = d.bulkCrc
      ∧ d.opcode = 0x50
      ∧ d.mapKind = 1
      ∧ s.isCompanion = false
      ∧ s.mapSourceStatus d bytes = .ok
      ∧ s.runsOn d.target = some n)
  ∧ (∃ (s : State) (bytes : List Byte) (d : Desc) (l : List Desc),
      s.cmds.bulk = d :: l
      ∧ s.cmds.voided.contains (d.ring, d.pos) = false
      ∧ padTo 0 d.bulkLen bytes = bytes
      ∧ crcWith (sourcePrefix d.opcode d.target d.bulkLen) bytes = d.bulkCrc
      ∧ d.opcode = 0x50
      ∧ d.mapKind = 1
      ∧ s.isCompanion = false
      ∧ d.target < 24
      ∧ s.pix.health.length = 24
      ∧ s.mapSourceStatus d bytes = .ok
      ∧ s.runsOn d.target = none)
  ∧ (∃ (s : State) (bytes : List Byte) (d : Desc) (l : List Desc) (n : Nat),
      s.cmds.bulk = d :: l
      ∧ s.cmds.voided.contains (d.ring, d.pos) = false
      ∧ padTo 0 d.bulkLen bytes = bytes
      ∧ crcWith (sourcePrefix d.opcode d.target d.bulkLen) bytes = d.bulkCrc
      ∧ d.opcode = 0x50
      ∧ d.mapKind = 2
      ∧ s.isCompanion = false
      ∧ s.mapSourceStatus d bytes = .ok
      ∧ s.runsOn d.target = some n)
  ∧ (∃ (s : State) (bytes : List Byte) (d : Desc) (l : List Desc),
      s.cmds.bulk = d :: l
      ∧ s.cmds.voided.contains (d.ring, d.pos) = false
      ∧ padTo 0 d.bulkLen bytes = bytes
      ∧ crcWith (sourcePrefix d.opcode d.target d.bulkLen) bytes = d.bulkCrc
      ∧ d.opcode = 0x50
      ∧ d.mapKind = 2
      ∧ s.isCompanion = false
      ∧ d.target < 24
      ∧ s.pix.health.length = 24
      ∧ s.mapSourceStatus d bytes = .ok
      ∧ s.runsOn d.target = none)
  ∧ (∃ (s : State) (bytes : List Byte) (d : Desc) (l : List Desc),
      s.cmds.bulk = d :: l
      ∧ s.cmds.voided.contains (d.ring, d.pos) = false
      ∧ padTo 0 d.bulkLen bytes = bytes
      ∧ crcWith (sourcePrefix d.opcode d.target d.bulkLen) bytes = d.bulkCrc
      ∧ d.opcode = 0x50
      ∧ d.mapKind = 4
      ∧ (s.isCompanion = true → s.twin.aligns = [] ∧ s.twin.waiting.all (fun c => c.align.isNone) = true)
      ∧ d.target < s.parkPats.length)
  ∧ (∃ (s : State) (bytes : List Byte) (d : Desc) (l : List Desc),
      s.cmds.bulk = d :: l
      ∧ s.cmds.voided.contains (d.ring, d.pos) = false
      ∧ padTo 0 d.bulkLen bytes = bytes
      ∧ crcWith (sourcePrefix d.opcode d.target d.bulkLen) bytes = d.bulkCrc
      ∧ d.opcode = 0x50
      ∧ d.mapKind = 5
      ∧ (s.isCompanion = true → s.twin.aligns = [] ∧ s.twin.waiting.all (fun c => c.align.isNone) = true)
      ∧ d.target < 24
      ∧ s.ports.length = 24
      ∧ s.mapSourceStatus d bytes = .ok)
  ∧ (∃ (s : State) (bytes : List Byte) (d : Desc) (l : List Desc),
      s.cmds.bulk = d :: l
      ∧ s.cmds.voided.contains (d.ring, d.pos) = false
      ∧ padTo 0 d.bulkLen bytes = bytes
      ∧ crcWith (sourcePrefix d.opcode d.target d.bulkLen) bytes = d.bulkCrc
      ∧ d.opcode = 0x50
      ∧ s.mapSourceStatus d bytes ≠ .ok
      ∧ (s.isCompanion = true → s.twin.aligns = [] ∧ s.twin.waiting.all (fun c => c.align.isNone) = true))
  ∧ (∃ (s : State) (bytes : List Byte) (d : Desc) (l : List Desc),
      s.cmds.bulk = d :: l
      ∧ s.cmds.voided.contains (d.ring, d.pos) = false
      ∧ padTo 0 d.bulkLen bytes = bytes
      ∧ crcWith (sourcePrefix d.opcode d.target d.bulkLen) bytes = d.bulkCrc
      ∧ d.opcode = 0x60
      ∧ (s.isCompanion = true → s.twin.aligns = [] ∧ s.twin.waiting.all (fun c => c.align.isNone) = true)
      ∧ s.safe.session = true
      ∧ spbOk bytes d.bulkLen = true)
  ∧ (∃ (s : State) (bytes : List Byte) (d : Desc) (l : List Desc),
      s.cmds.bulk = d :: l
      ∧ s.cmds.voided.contains (d.ring, d.pos) = false
      ∧ padTo 0 d.bulkLen bytes = bytes
      ∧ crcWith (sourcePrefix d.opcode d.target d.bulkLen) bytes = d.bulkCrc
      ∧ d.opcode = 0x60
      ∧ (s.isCompanion = true → s.twin.aligns = [] ∧ s.twin.waiting.all (fun c => c.align.isNone) = true)
      ∧ (s.safe.session = false ∨ spbOk bytes d.bulkLen = false))
  ∧ (∃ (s : State) (bytes : List Byte) (d : Desc) (l : List Desc),
      s.cmds.bulk = d :: l
      ∧ s.cmds.voided.contains (d.ring, d.pos) = false
      ∧ padTo 0 d.bulkLen bytes = bytes
      ∧ crcWith (sourcePrefix d.opcode d.target d.bulkLen) bytes = d.bulkCrc
      ∧ d.opcode ∉ ([0x41, 0x50, 0x60] : List Nat)
      ∧ (s.isCompanion = true → s.twin.aligns = [] ∧ s.twin.waiting.all (fun c => c.align.isNone) = true)
      ∧ s.idleSlot < s.flash.slots.length)
  ∧ (∃ (s : State) (x : Desc × List Byte) (l : List (Desc × List Byte)),
      s.cmds.dumps = x :: l)
  ∧ (∃ (s : State),
      s.cmds.dumps = [])
  ∧ (∃ (s : State),
      s.flash.jobs = [])
  ∧ (∃ (s : State) (ring : Nat) (pos : Nat) (held : Nat) (seq : Nat) (img : List Byte) (l : List FlashJob),
      s.flash.jobs = .spb ring pos 0 held img seq :: l
      ∧ s.flash.spbs.length = 2)
  ∧ (∃ (s : State) (ring : Nat) (pos : Nat) (held : Nat) (seq : Nat) (img : List Byte) (l : List FlashJob),
      s.flash.jobs = .spb ring pos 1 held img seq :: l
      ∧ s.flash.spbs.length = 2)
  ∧ (∃ (s : State) (ring : Nat) (pos : Nat) (copy : Nat) (held : Nat) (seq : Nat) (img : List Byte) (l : List FlashJob),
      s.flash.jobs = .spb ring pos copy held img seq :: l)
  ∧ (∃ (s : State) (ring : Nat) (pos : Nat) (off : Nat) (k : Fin 2) (data : List Byte) (last : Bool) (l : List FlashJob),
      s.flash.jobs = .fwPart ring pos k off data last :: l
      ∧ s.flash.slots.length = 2)
  ∧ (∃ (s : State) (ring : Nat) (pos : Nat) (n : SlotDir) (copy : Fin 2) (second : Bool) (l : List FlashJob),
      s.flash.jobs = .fwDir ring pos copy second n :: l
      ∧ s.flash.dirs.length = 2) :=
  ⟨⟨(fun (d : Desc) => (withD (alone (upAll bare)) d : State)) ({ ring := 3, slot := 5, gen := 1, pos := 5, bytes := ([127, 0, 7] ++ rep 13 0 ++ [1, 0, 0, 0, 13] ++ rep 43 0 : List Byte), payload := none }), 3, { ring := 3, slot := 5, gen := 1, pos := 5, bytes := ([127, 0, 7] ++ rep 13 0 ++ [1, 0, 0, 0, 13] ++ rep 43 0 : List Byte), payload := none }, by decide +kernel⟩,
    ⟨(fun (d : Desc) => (withD (alone (upAll bare)) d : State)) ({ ring := 3, slot := 5, gen := 1, pos := 5, bytes := ([127, 0, 7] ++ rep 13 0 ++ [16, 7] ++ rep 46 0 : List Byte), payload := none }), 3, { ring := 3, slot := 5, gen := 1, pos := 5, bytes := ([127, 0, 7] ++ rep 13 0 ++ [16, 7] ++ rep 46 0 : List Byte), payload := none }, by decide +kernel⟩,
    ⟨bare, 3, by decide +kernel⟩,
    ⟨(fun (r : Fin 4) (f : Fence) => (bare.setRing r fun q => { q with fence := some f, outst := [] } : State)) (3) ({ desc := { ring := 3, slot := 5, gen := 1, pos := 5, bytes := ([127, 0, 7] ++ rep 13 0 ++ [4] ++ rep 47 0 : List Byte), payload := none }, level := 1, cover := [0, 0, 0, 0], timeoutUs := 0 }), 3, { desc := { ring := 3, slot := 5, gen := 1, pos := 5, bytes := ([127, 0, 7] ++ rep 13 0 ++ [4] ++ rep 47 0 : List Byte), payload := none }, level := 1, cover := [0, 0, 0, 0], timeoutUs := 0 }, by decide +kernel⟩,
    ⟨bare, 3, by decide +kernel⟩,
    ⟨(fun (r : Fin 4) (f : Fence) => (bare.setRing r fun q => { q with fence := some f, outst := [] } : State)) (0) ({ desc := { ring := 0, slot := 5, gen := 1, pos := 5, bytes := ([127, 0, 7] ++ rep 13 0 ++ [3] ++ rep 47 0 : List Byte), payload := none }, level := 0, cover := [0, 0, 0, 0], timeoutUs := 5 }), 0, { desc := { ring := 0, slot := 5, gen := 1, pos := 5, bytes := ([127, 0, 7] ++ rep 13 0 ++ [3] ++ rep 47 0 : List Byte), payload := none }, level := 0, cover := [0, 0, 0, 0], timeoutUs := 5 }, by decide +kernel⟩,
    ⟨bare, 3, by decide +kernel⟩,
    ⟨{ bare with cmds := { bare.cmds with bulk := [] } }, by decide +kernel⟩,
    ⟨(fun (d : Desc) (l : List Desc) => ({ withD (alone (upAll bare)) d with cmds := { bare.cmds with bulk := d :: l } } : State)) ((fun (bytes : List Byte) => ({ ring := 3, slot := 5, gen := 1, pos := 5, bytes := ([80, 0, 7] ++ rep 21 0 ++ [64] ++ rep 39 0 : List Byte), payload := none } : Desc)) (([1, 0, 198, 0, 148, 84, 171, 0, 20, 212, 157, 62, 0, 30, 1, 201, 2, 21, 0, 0] : List Byte))) (bare.cmds.bulk), ([1, 0, 198, 0, 148, 84, 171, 0, 20, 212, 157, 62, 0, 30, 1, 201, 2, 21, 0, 0] : List Byte), true, (fun (bytes : List Byte) => ({ ring := 3, slot := 5, gen := 1, pos := 5, bytes := ([80, 0, 7] ++ rep 21 0 ++ [64] ++ rep 39 0 : List Byte), payload := none } : Desc)) (([1, 0, 198, 0, 148, 84, 171, 0, 20, 212, 157, 62, 0, 30, 1, 201, 2, 21, 0, 0] : List Byte)), bare.cmds.bulk, by decide +kernel⟩,
    ⟨(fun (d : Desc) (l : List Desc) => ({ withD (alone (upAll bare)) d with cmds := { bare.cmds with bulk := d :: l } } : State)) ((fun (bytes : List Byte) => ({ ring := 3, slot := 5, gen := 1, pos := 5, bytes := ([65, 0, 7] ++ rep 21 0 ++ [8, 0, 0, 0, 109, 209, 244, 209] ++ rep 32 0 : List Byte), payload := none } : Desc)) (([83, 244, 45, 24, 116, 139, 198, 220] : List Byte))) ([]), ([83, 244, 45, 24, 116, 139, 198, 220] : List Byte), (fun (bytes : List Byte) => ({ ring := 3, slot := 5, gen := 1, pos := 5, bytes := ([65, 0, 7] ++ rep 21 0 ++ [8, 0, 0, 0, 109, 209, 244, 209] ++ rep 32 0 : List Byte), payload := none } : Desc)) (([83, 244, 45, 24, 116, 139, 198, 220] : List Byte)), [], by decide +kernel⟩,
    ⟨(fun (d : Desc) (l : List Desc) => ((let u := State.fset ({ withD (alone (upAll bare)) d with cmds := { bare.cmds with bulk := d :: l } }) R.TWIN_STATUS_ROLE 3; { u with twin := { u.twin with aligns := [], waiting := [] } }) : State)) ((fun (bytes : List Byte) => ({ ring := 3, slot := 5, gen := 1, pos := 5, bytes := ([80, 0, 7] ++ rep 21 0 ++ [8, 0, 0, 0, 44, 244, 222, 53] ++ rep 32 0 : List Byte), payload := none } : Desc)) (([83, 244, 45, 24, 116, 139, 198, 220] : List Byte))) ([]), ([83, 244, 45, 24, 116, 139, 198, 220] : List Byte), (fun (bytes : List Byte) => ({ ring := 3, slot := 5, gen := 1, pos := 5, bytes := ([80, 0, 7] ++ rep 21 0 ++ [8, 0, 0, 0, 44, 244, 222, 53] ++ rep 32 0 : List Byte), payload := none } : Desc)) (([83, 244, 45, 24, 116, 139, 198, 220] : List Byte)), [], by decide +kernel⟩,
    ⟨(fun (d : Desc) (l : List Desc) => ({ withD (alone (upAll bare)) d with cmds := { bare.cmds with bulk := d :: l } } : State)) ((fun (bytes : List Byte) => ({ ring := 3, slot := 5, gen := 1, pos := 5, bytes := ([80, 0, 7, 0, 2] ++ rep 19 0 ++ [8, 0, 0, 0, 160, 94, 208, 157, 0, 0, 0, 0, 6] ++ rep 27 0 : List Byte), payload := none } : Desc)) (([83, 244, 45, 24, 116, 139, 198, 220] : List Byte))) ([]), ([83, 244, 45, 24, 116, 139, 198, 220] : List Byte), (fun (bytes : List Byte) => ({ ring := 3, slot := 5, gen := 1, pos := 5, bytes := ([80, 0, 7, 0, 2] ++ rep 19 0 ++ [8, 0, 0, 0, 160, 94, 208, 157, 0, 0, 0, 0, 6] ++ rep 27 0 : List Byte), payload := none } : Desc)) (([83, 244, 45, 24, 116, 139, 198, 220] : List Byte)), [], by decide +kernel⟩,
    ⟨(fun (d : Desc) (l : List Desc) => ({ withD (alone (upAll bare)) d with cmds := { bare.cmds with bulk := d :: l } } : State)) ((fun (bytes : List Byte) => ({ ring := 3, slot := 5, gen := 1, pos := 5, bytes := ([80, 0, 7, 0, 2] ++ rep 19 0 ++ [8, 0, 0, 0, 160, 94, 208, 157, 3, 1, 0, 0, 4] ++ rep 27 0 : List Byte), payload := none } : Desc)) (([83, 244, 45, 24, 116, 139, 198, 220] : List Byte))) ([]), ([83, 244, 45, 24, 116, 139, 198, 220] : List Byte), (fun (bytes : List Byte) => ({ ring := 3, slot := 5, gen := 1, pos := 5, bytes := ([80, 0, 7, 0, 2] ++ rep 19 0 ++ [8, 0, 0, 0, 160, 94, 208, 157, 3, 1, 0, 0, 4] ++ rep 27 0 : List Byte), payload := none } : Desc)) (([83, 244, 45, 24, 116, 139, 198, 220] : List Byte)), [], by decide +kernel⟩,
    ⟨(fun (d : Desc) (l : List Desc) => ((fun x : State => (x.fset (R.TG_PORTMAP_A_SURF 3) 0).fsetb (R.TG_STATUS_RUNNING 0) true) (({ withD (alone (upAll bare)) d with cmds := { bare.cmds with bulk := d :: l } }).setPort 3 fun q => { q with cap := some { tw := 64, th := 64, frameMem := true } }) : State)) ((fun (bytes : List Byte) => (mkD 3 0x50 3 [(24,4,20),(28,4,crcWith (sourcePrefix 0x50 3 20) bytes),(32,1,1)] : Desc)) (leBytes 4 1 ++ leBytes 2 64 ++ leBytes 2 64 ++ rep 8 0 ++ leBytes 4 7)) ([]), leBytes 4 1 ++ leBytes 2 64 ++ leBytes 2 64 ++ rep 8 0 ++ leBytes 4 7, (fun (bytes : List Byte) => (mkD 3 0x50 3 [(24,4,20),(28,4,crcWith (sourcePrefix 0x50 3 20) bytes),(32,1,1)] : Desc)) (leBytes 4 1 ++ leBytes 2 64 ++ leBytes 2 64 ++ rep 8 0 ++ leBytes 4 7), [], 0, by decide +kernel⟩,
    ⟨(fun (d : Desc) (l : List Desc) => (({ withD (alone (upAll bare)) d with cmds := { bare.cmds with bulk := d :: l } }).setPort 3 fun q => { q with cap := some { tw := 64, th := 64, frameMem := true } } : State)) ((fun (bytes : List Byte) => ({ ring := 3, slot := 5, gen := 1, pos := 5, bytes := ([80, 0, 7, 0, 3] ++ rep 19 0 ++ [20, 0, 0, 0, 53, 190, 243, 115, 1] ++ rep 31 0 : List Byte), payload := none } : Desc)) (([1, 0, 0, 0, 64, 0, 64] ++ rep 9 0 ++ [7, 0, 0, 0] : List Byte))) ([]), ([1, 0, 0, 0, 64, 0, 64] ++ rep 9 0 ++ [7, 0, 0, 0] : List Byte), (fun (bytes : List Byte) => ({ ring := 3, slot := 5, gen := 1, pos := 5, bytes := ([80, 0, 7, 0, 3] ++ rep 19 0 ++ [20, 0, 0, 0, 53, 190, 243, 115, 1] ++ rep 31 0 : List Byte), payload := none } : Desc)) (([1, 0, 0, 0, 64, 0, 64] ++ rep 9 0 ++ [7, 0, 0, 0] : List Byte)), [], by decide +kernel⟩,
    ⟨(fun (d : Desc) (l : List Desc) => ((fun x : State => (x.fset (R.TG_PORTMAP_A_SURF 3) 0).fsetb (R.TG_STATUS_RUNNING 0) true) (({ withD (alone (upAll bare)) d with cmds := { bare.cmds with bulk := d :: l } }).setPort 3 fun q => { q with cap := some { tw := 64, th := 64, frameMem := true } }) : State)) ((fun (bytes : List Byte) => (mkD 3 0x50 3 [(24,4,12),(28,4,crcWith (sourcePrefix 0x50 3 12) bytes),(32,1,2)] : Desc)) (leBytes 2 64 ++ leBytes 2 64 ++ rep 8 5)) ([]), leBytes 2 64 ++ leBytes 2 64 ++ rep 8 5, (fun (bytes : List Byte) => (mkD 3 0x50 3 [(24,4,12),(28,4,crcWith (sourcePrefix 0x50 3 12) bytes),(32,1,2)] : Desc)) (leBytes 2 64 ++ leBytes 2 64 ++ rep 8 5), [], 0, by decide +kernel⟩,
    ⟨(fun (d : Desc) (l : List Desc) => (({ withD (alone (upAll bare)) d with cmds := { bare.cmds with bulk := d :: l } }).setPort 3 fun q => { q with cap := some { tw := 64, th := 64, frameMem := true } } : State)) ((fun (bytes : List Byte) => ({ ring := 3, slot := 5, gen := 1, pos := 5, bytes := ([80, 0, 7, 0, 3] ++ rep 19 0 ++ [12, 0, 0, 0, 233, 39, 23, 142, 2] ++ rep 31 0 : List Byte), payload := none } : Desc)) (([64, 0, 64, 0] ++ rep 8 5 : List Byte))) ([]), ([64, 0, 64, 0] ++ rep 8 5 : List Byte), (fun (bytes : List Byte) => ({ ring := 3, slot := 5, gen := 1, pos := 5, bytes := ([80, 0, 7, 0, 3] ++ rep 19 0 ++ [12, 0, 0, 0, 233, 39, 23, 142, 2] ++ rep 31 0 : List Byte), payload := none } : Desc)) (([64, 0, 64, 0] ++ rep 8 5 : List Byte)), [], by decide +kernel⟩,
    ⟨(fun (d : Desc) (l : List Desc) => ({ { withD (alone (upAll bare)) d with cmds := { bare.cmds with bulk := d :: l } } with parkPats := rep 24 {} } : State)) ((fun (bytes : List Byte) => ({ ring := 3, slot := 5, gen := 1, pos := 5, bytes := ([80, 0, 7, 0, 3] ++ rep 19 0 ++ [8, 0, 0, 0, 230, 11, 215, 201, 4] ++ rep 31 0 : List Byte), payload := none } : Desc)) (([83, 244, 45, 24, 116, 139, 198, 220] : List Byte))) ([]), ([83, 244, 45, 24, 116, 139, 198, 220] : List Byte), (fun (bytes : List Byte) => ({ ring := 3, slot := 5, gen := 1, pos := 5, bytes := ([80, 0, 7, 0, 3] ++ rep 19 0 ++ [8, 0, 0, 0, 230, 11, 215, 201, 4] ++ rep 31 0 : List Byte), payload := none } : Desc)) (([83, 244, 45, 24, 116, 139, 198, 220] : List Byte)), [], by decide +kernel⟩,
    ⟨(fun (d : Desc) (l : List Desc) => ({ (((((({ withD (alone (upAll bare)) d with cmds := { bare.cmds with bulk := d :: l } }).setPort 3 fun q => { q with cap := some { tw := 64, th := 64, frameMem := true } }).fsetb (R.TILE_PROTO_STATUS_CAP_VALID 3) true).fsetb (R.TILE_PROTO_STATUS_OWN 3) true).fset (R.TG_PORTMAP_A_SURF 3) 0)) with safe := { bare.safe with spb := some spbBytes } } : State)) ((fun (bytes : List Byte) => ({ ring := 3, slot := 5, gen := 1, pos := 5, bytes := ([80, 0, 7, 0, 3] ++ rep 19 0 ++ [24, 0, 0, 0, 40, 123, 11, 201, 5] ++ rep 31 0 : List Byte), payload := none } : Desc)) ((rep 24 0))) ([]), (rep 24 0), (fun (bytes : List Byte) => ({ ring := 3, slot := 5, gen := 1, pos := 5, bytes := ([80, 0, 7, 0, 3] ++ rep 19 0 ++ [24, 0, 0, 0, 40, 123, 11, 201, 5] ++ rep 31 0 : List Byte), payload := none } : Desc)) ((rep 24 0)), [], by decide +kernel⟩,
    ⟨(fun (d : Desc) (l : List Desc) => ({ withD (alone (upAll bare)) d with cmds := { bare.cmds with bulk := d :: l } } : State)) ((fun (bytes : List Byte) => ({ ring := 3, slot := 5, gen := 1, pos := 5, bytes := ([80, 0, 7, 0, 3] ++ rep 19 0 ++ [12, 0, 0, 0, 207, 246, 28, 249, 5] ++ rep 31 0 : List Byte), payload := none } : Desc)) (([83, 244, 45, 24, 116, 139, 198, 220, 172, 163, 148, 133] : List Byte))) ([]), ([83, 244, 45, 24, 116, 139, 198, 220, 172, 163, 148, 133] : List Byte), (fun (bytes : List Byte) => ({ ring := 3, slot := 5, gen := 1, pos := 5, bytes := ([80, 0, 7, 0, 3] ++ rep 19 0 ++ [12, 0, 0, 0, 207, 246, 28, 249, 5] ++ rep 31 0 : List Byte), payload := none } : Desc)) (([83, 244, 45, 24, 116, 139, 198, 220, 172, 163, 148, 133] : List Byte)), [], by decide +kernel⟩,
    ⟨(fun (d : Desc) (l : List Desc) => ({ { withD (alone (upAll bare)) d with cmds := { bare.cmds with bulk := d :: l } } with safe := { bare.safe with session := true } } : State)) (mkD 3 0x60 0 [(24,4,920),(28,4,3074135186)]) ([]), goodSpb, mkD 3 0x60 0 [(24,4,920),(28,4,3074135186)], [], by decide +kernel, by decide +kernel, by decide +kernel, (crcWith_strict _ _).trans (by decide +kernel), by decide +kernel, by decide +kernel, by decide +kernel, by decide +kernel⟩,
    ⟨(fun (d : Desc) (l : List Desc) => ({ withD (alone (upAll bare)) d with cmds := { bare.cmds with bulk := d :: l } } : State)) ((fun (bytes : List Byte) => ({ ring := 3, slot := 5, gen := 1, pos := 5, bytes := ([96, 0, 7] ++ rep 21 0 ++ [8, 0, 0, 0, 237, 141, 180, 15] ++ rep 32 0 : List Byte), payload := none } : Desc)) (([83, 244, 45, 24, 116, 139, 198, 220] : List Byte))) ([]), ([83, 244, 45, 24, 116, 139, 198, 220] : List Byte), (fun (bytes : List Byte) => ({ ring := 3, slot := 5, gen := 1, pos := 5, bytes := ([96, 0, 7] ++ rep 21 0 ++ [8, 0, 0, 0, 237, 141, 180, 15] ++ rep 32 0 : List Byte), payload := none } : Desc)) (([83, 244, 45, 24, 116, 139, 198, 220] : List Byte)), [], by decide +kernel⟩,
    ⟨(fun (d : Desc) (l : List Desc) => ({ { withD (alone (upAll bare)) d with cmds := { bare.cmds with bulk := d :: l } } with flash := { bare.flash with slots := [{ complete := true }, { complete := true }] } } : State)) ((fun (bytes : List Byte) => ({ ring := 3, slot := 5, gen := 1, pos := 5, bytes := ([112, 0, 7] ++ rep 21 0 ++ [8, 0, 0, 0, 82, 165, 146, 25] ++ rep 32 0 : List Byte), payload := none } : Desc)) (([83, 244, 45, 24, 116, 139, 198, 220] : List Byte))) ([]), ([83, 244, 45, 24, 116, 139, 198, 220] : List Byte), (fun (bytes : List Byte) => ({ ring := 3, slot := 5, gen := 1, pos := 5, bytes := ([112, 0, 7] ++ rep 21 0 ++ [8, 0, 0, 0, 82, 165, 146, 25] ++ rep 32 0 : List Byte), payload := none } : Desc)) (([83, 244, 45, 24, 116, 139, 198, 220] : List Byte)), [], by decide +kernel⟩,
    ⟨(fun (x : Desc × List Byte) (l : List (Desc × List Byte)) => ({ bare with cmds := { bare.cmds with dumps := x :: l } } : State)) ((mkD 3 0x51 0 [], [])) (bare.cmds.dumps), (mkD 3 0x51 0 [], []), bare.cmds.dumps, by decide +kernel⟩,
    ⟨{ bare with cmds := { bare.cmds with dumps := [] } }, by decide +kernel⟩,
    ⟨{ bare with flash := { bare.flash with jobs := [] } }, by decide +kernel⟩,
    ⟨(fun (ring : Nat) (pos : Nat) (held : Nat) (seq : Nat) (img : List Byte) (l : List FlashJob) => ({ bare with flash := { bare.flash with jobs := .spb ring pos 0 held img seq :: l } } : State)) (3) (1) (0) (2049417926) (spbBytes) (bare.flash.jobs), 3, 1, 0, 2049417926, spbBytes, bare.flash.jobs, by decide +kernel⟩,
    ⟨(fun (ring : Nat) (pos : Nat) (held : Nat) (seq : Nat) (img : List Byte) (l : List FlashJob) => ({ bare with flash := { bare.flash with jobs := .spb ring pos 1 held img seq :: l } } : State)) (3) (1) (0) (2049417926) (spbBytes) (bare.flash.jobs), 3, 1, 0, 2049417926, spbBytes, bare.flash.jobs, by decide +kernel⟩,
    ⟨(fun (ring : Nat) (pos : Nat) (copy : Nat) (held : Nat) (seq : Nat) (img : List Byte) (l : List FlashJob) => ({ bare with flash := { bare.flash with jobs := .spb ring pos copy held img seq :: l } } : State)) (3) (1) (0) (3) (15) (spbBytes) (bare.flash.jobs), 3, 1, 0, 3, 15, spbBytes, bare.flash.jobs, by decide +kernel⟩,
    ⟨(fun (ring : Nat) (pos : Nat) (off : Nat) (k : Fin 2) (data : List Byte) (last : Bool) (l : List FlashJob) => ({ bare with flash := { bare.flash with jobs := .fwPart ring pos k off data last :: l } } : State)) (0) (16) (12) (1) (([0, 148] : List Byte)) (true) (bare.flash.jobs), 0, 16, 12, 1, ([0, 148] : List Byte), true, bare.flash.jobs, by decide +kernel⟩,
    ⟨(fun (ring : Nat) (pos : Nat) (n : SlotDir) (copy : Fin 2) (second : Bool) (l : List FlashJob) => ({ bare with flash := { bare.flash with jobs := .fwDir ring pos copy second n :: l } } : State)) (1) (0) ({ seq := 9, active := 1 }) (1) (false) (bare.flash.jobs), 1, 0, { seq := 9, active := 1 }, 1, false, bare.flash.jobs, by decide +kernel⟩⟩

/-- Each clause of SegmentBoundariesAct has a state and operands that meet its conditions. -/
theorem test_SegmentBoundariesAct_witness :
    (∃ (s : State),
      s.shape
      ∧ s.domOn 11 = true)
  ∧ (∃ (s : State),
      s.domOn 11 = false)
  ∧ (∃ (s : State) (onB : Bool) (hi : Nat) (b : Fin 12) (x : Bool),
      s.shape
      ∧ s.domOn 11 = true
      ∧ s.syncAccepted hi = true
      ∧ (s.fget R.SEG_CTRL_ALIGN ≠ 1 ∨ onB = true)
      ∧ (s.bank b).armed = some (0, x))
  ∧ (∃ (s : State) (hi : Nat),
      s.shape
      ∧ s.domOn 11 = true
      ∧ s.syncAccepted hi = true
      ∧ s.fget R.SEG_CTRL_ALIGN = 1)
  ∧ (∃ (s : State) (hi : Nat),
      (s.domOn 11 = false ∨ hi < 1000 ∨ s.syncAccepted hi = false))
  ∧ (∃ (s : State) (onB : Bool) (b : Fin 12) (x : Bool),
      s.shape
      ∧ s.domOn 11 = true
      ∧ (s.fget R.SEG_CTRL_ALIGN ≠ 2 ∨ onB = true)
      ∧ (s.bank b).armed = some (1, x))
  ∧ (∃ (s : State),
      s.shape
      ∧ s.domOn 11 = true
      ∧ s.fget R.SEG_CTRL_ALIGN = 2)
  ∧ (∃ (s : State) (r : Fin 4),
      s.shape
      ∧ s.domOn 11 = true
      ∧ s.fbit (R.SEG_RAIL_CFG_EN r) = true
      ∧ s.fbit (R.SEG_RAIL_STAT_ERR r) = false)
  ∧ (∃ (s : State) (r : Fin 4),
      s.shape
      ∧ s.domOn 11 = true
      ∧ (s.fbit (R.SEG_RAIL_CFG_EN r) = false ∨ s.fbit (R.SEG_RAIL_STAT_ERR r) = true))
  ∧ (∃ (s : State),
      s.domOn 11 = true)
  ∧ (∃ (s : State) (ua : Nat) (c : Nat),
      s.shape
      ∧ s.domOn 11 = true
      ∧ s.domOn 10 = true
      ∧ s.checkChan = some c
      ∧ currentMisses ua (s.chan c).cur = false)
  ∧ (∃ (s : State) (ua : Nat) (c : Nat),
      s.shape
      ∧ s.domOn 11 = true
      ∧ s.domOn 10 = true
      ∧ s.checkChan = some c
      ∧ currentMisses ua (s.chan c).cur = true)
  ∧ (∃ (s : State),
      (s.domOn 11 = false ∨ s.domOn 10 = false ∨ s.checkChan = none)) :=
  ⟨⟨((fun s : State => ((overAll 12 (fun b s => (s.fset (R.SEG_BANK_CFG_LEN b) 3).fset (R.SEG_BANK_CFG_STEP_PER b) 2) (upAll s)))) bare), by decide +kernel⟩,
    ⟨bare.fset R.PWR_DOM_STATUS_ON 0x7FF, by decide +kernel⟩,
    ⟨(fun (b : Fin 12) (x : Bool) => (((fun s : State => ({ ((overAll 12 (fun b s => (s.fset (R.SEG_BANK_CFG_LEN b) 3).fset (R.SEG_BANK_CFG_STEP_PER b) 2) (upAll s)).setBank b fun q => { q with armed := some (0, x) }) with ticks := s.ticks + 300000 })) bare) : State)) (6) (false), false, 1659, 6, false, by decide +kernel⟩,
    ⟨((fun s : State => ({ ((overAll 12 (fun b s => (s.fset (R.SEG_BANK_CFG_LEN b) 3).fset (R.SEG_BANK_CFG_STEP_PER b) 2) (upAll s)).fset R.SEG_CTRL_ALIGN 1) with ticks := s.ticks + 300000 })) bare), 1299, by decide +kernel⟩,
    ⟨((fun s : State => ((overAll 12 (fun b s => (s.fset (R.SEG_BANK_CFG_LEN b) 3).fset (R.SEG_BANK_CFG_STEP_PER b) 2) (upAll s)))) bare), 292, by decide +kernel⟩,
    ⟨(fun (b : Fin 12) (x : Bool) => (((fun s : State => ({ ((((overAll 12 (fun b s => (s.fset (R.SEG_BANK_CFG_LEN b) 3).fset (R.SEG_BANK_CFG_STEP_PER b) 2) (upAll s)).fset R.SEG_TICK_TICK_PER 1).fset R.TIME_INC_HI_NS 4).fset R.TIME_INC_LO_FRAC 0) with clk := {} }.setBank b fun q => { q with armed := some (1, x) })) bare) : State)) (0) (true), true, 0, true, by decide +kernel⟩,
    ⟨((fun s : State => (({ ((((overAll 12 (fun b s => (s.fset (R.SEG_BANK_CFG_LEN b) 3).fset (R.SEG_BANK_CFG_STEP_PER b) 2) (upAll s)).fset R.SEG_TICK_TICK_PER 1).fset R.TIME_INC_HI_NS 4).fset R.TIME_INC_LO_FRAC 0) with clk := {} }.fset R.SEG_CTRL_ALIGN 2))) bare), by decide +kernel⟩,
    ⟨(fun (r : Fin 4) => (((upAll bare).fsetb (R.SEG_RAIL_CFG_EN r) true).fsetb (R.SEG_RAIL_STAT_ERR r) false : State)) (3), 3, by decide +kernel⟩,
    ⟨upAll bare, 3, by decide +kernel⟩,
    ⟨upAll bare, by decide +kernel⟩,
    ⟨{ ((((upAll bare).setBank 0 fun q => { q with going := true, curT := rep 16 4 }).setChan 7 fun q => { q with off := false, dutyOut := 100, cur := 0, curFails := bare.ticks % 2 }).fset R.SAFE_TOT_PORTS_PORTS 0) with boot := { bare.boot with otpLc := 0 } }.setSeg fun g => { g with checkNext := 7, resetOff := false }, 0, 7, by decide +kernel⟩,
    ⟨{ ((((upAll bare).setBank 0 fun q => { q with going := true, curT := rep 16 4 }).setChan 7 fun q => { q with off := false, dutyOut := 100, cur := 0, curFails := bare.ticks % 2 }).fset R.SAFE_TOT_PORTS_PORTS 0) with boot := { bare.boot with otpLc := 0 } }.setSeg fun g => { g with checkNext := 7, resetOff := false }, 60000, 7, by decide +kernel⟩,
    ⟨bare, by decide +kernel⟩⟩

/-- Each clause of SegmentChannelsAct has a state and operands that meet its conditions. -/
theorem test_SegmentChannelsAct_witness :
    (∃ (s : State) (c : Fin 192),
      s.shape
      ∧ s.chanOn c = true
      ∧ s.pulseDuty c ≠ 0)
  ∧ (∃ (s : State) (c : Fin 192),
      (s.chanOn c = false ∨ s.pulseDuty c = 0))
  ∧ (∃ (s : State) (c : Fin 192),
      s.shape
      ∧ (s.chan c).pulse = true)
  ∧ (∃ (s : State) (c : Fin 192),
      s.shape
      ∧ (s.chan c).pulse = true
      ∧ ((s.chan c).duty < 80 ∨ (s.chan c).noDiag = true))
  ∧ (∃ (s : State) (c : Fin 192) (mv : Nat),
      s.shape
      ∧ (s.chan c).pulse = true
      ∧ 80 ≤ (s.chan c).duty
      ∧ (s.chan c).noDiag = false
      ∧ (s.chan c).off = false
      ∧ mv < s.fget R.SEG_DIAG_A_OPEN_MV
      ∧ s.nConf ≤ (s.chan c).openCnt + 1)
  ∧ (∃ (s : State) (c : Fin 192),
      (s.chan c).pulse = false)
  ∧ (∃ (s : State) (c : Fin 192),
      s.shape
      ∧ (s.chan c).pulse = true
      ∧ (s.chan c).off = false)
  ∧ (∃ (s : State) (c : Fin 192),
      s.shape
      ∧ (s.chan c).pulse = true
      ∧ (s.chan c).off = true)
  ∧ (∃ (s : State) (w : Fin 6),
      s.domOn 5 = true
      ∧ s.blockOff (0x80050 + 4 * w.val) = false)
  ∧ (∃ (s : State) (b : Fin 12),
      s.shape
      ∧ s.domOn 5 = true
      ∧ s.blockOff (0x80100 + 0x10 * b.val) = false)
  ∧ (∃ (s : State) (r : Fin 4),
      s.domOn 5 = true
      ∧ s.blockOff (0x80080 + 0x10 * r.val) = false)
  ∧ (∃ (s : State),
      s.seg.resetOff = true
      ∧ bitOf s.pins.raw 2 = false
      ∧ bitOf s.pins.raw 3 = false)
  ∧ (∃ (s : State),
      (s.seg.resetOff = false ∨ bitOf s.pins.raw 2 = true ∨ bitOf s.pins.raw 3 = true))
  ∧ (∃ (s : State) (word : Fin 6),
      (s.domOn 5 = false ∨ s.blockOff (0x80050 + 4 * word.val) = true))
  ∧ (∃ (s : State) (bank : Fin 12),
      (s.domOn 5 = false ∨ s.blockOff (0x80100 + 0x10 * bank.val) = true))
  ∧ (∃ (s : State) (rail : Fin 4),
      (s.domOn 5 = false ∨ s.blockOff (0x80080 + 0x10 * rail.val) = true)) :=
  ⟨⟨(fun (c : Fin 192) => ({ ((((upAll bare).setBank (c.val/16) fun q => { q with going := true, curT := rep 16 4 }).setChan c fun q => { q with off := false, dutyOut := 100, cur := 0 }).fset R.SAFE_TOT_PORTS_PORTS 0) with boot := { bare.boot with otpLc := 0 } }.setSeg fun g => { g with resetOff := false } : State)) (83), 83, by decide +kernel⟩,
    ⟨bare, 83, by decide +kernel⟩,
    ⟨(fun (c : Fin 192) => ((upAll bare).setChan c fun q => { q with pulse := true, duty := 100, openCnt := 3, shortCnt := 3 } : State)) (83), 83, by decide +kernel⟩,
    ⟨(fun (c : Fin 192) => ((upAll bare).setChan c fun q => { q with pulse := true, duty := 79, openCnt := 3, shortCnt := 3 } : State)) (83), 83, by decide +kernel⟩,
    ⟨(fun (c : Fin 192) => (((upAll bare).fset R.SEG_DIAG_A_OPEN_MV 200).setChan c fun q => { q with pulse := true, duty := 100, noDiag := false, off := false, openCnt := 300, shortCnt := 0 } : State)) (83), 83, 10, by decide +kernel⟩,
    ⟨bare, 83, by decide +kernel⟩,
    ⟨(fun (c : Fin 192) => ((upAll bare).setChan c fun q => { q with pulse := true, off := false } : State)) (83), 83, by decide +kernel⟩,
    ⟨(fun (c : Fin 192) => ((upAll bare).setChan c fun q => { q with pulse := true, off := true } : State)) (83), 83, by decide +kernel⟩,
    ⟨(fun (w : Fin 6) (mask : Nat) => ((upAll bare).fset (R.SEG_FAULT_CH w) (mask * 3) : State)) (5) (256606708), 5, by decide +kernel⟩,
    ⟨upAll bare, 11, by decide +kernel⟩,
    ⟨upAll bare, 3, by decide +kernel⟩,
    ⟨{ bare with seg := { bare.seg with resetOff := true }, pins := { bare.pins with raw := 0 } }, by decide +kernel⟩,
    ⟨bare, by decide +kernel⟩,
    ⟨if bare.ticks % 2 = 0 then bare.fset R.PWR_DOM_STATUS_ON 0x20 else bare, 5, by decide +kernel⟩,
    ⟨if bare.ticks % 2 = 0 then bare.fset R.PWR_DOM_STATUS_ON 0x20 else bare, 11, by decide +kernel⟩,
    ⟨if bare.ticks % 2 = 0 then bare.fset R.PWR_DOM_STATUS_ON 0x20 else bare, 3, by decide +kernel⟩⟩

/-- Each clause of LanesStartAndStop has a state and operands that meet its conditions. -/
theorem test_LanesStartAndStop_witness :
    (∃ (s : State) (p : Fin 24),
      s.shape
      ∧ s.domOn 5 = true
      ∧ s.blockOff (0x60000 + 0x800 * p.val) = false
      ∧ s.legacyPartner p = false
      ∧ s.fbit (R.TILE_LANE_CTRL_EN p) = false)
  ∧ (∃ (s : State) (p : Fin 24),
      s.domOn 5 = true
      ∧ s.blockOff (0x60000 + 0x800 * p.val) = false
      ∧ (s.legacyPartner p = true ∨ s.fbit (R.TILE_LANE_CTRL_EN p) = true))
  ∧ (∃ (s : State) (p : Fin 24),
      s.shape
      ∧ s.domOn 5 = true
      ∧ s.blockOff (0x60000 + 0x800 * p.val) = false
      ∧ s.fbit (R.TILE_LANE_CTRL_EN p) = true)
  ∧ (∃ (s : State) (p : Fin 24),
      s.domOn 5 = true
      ∧ s.blockOff (0x60000 + 0x800 * p.val) = false
      ∧ s.fbit (R.TILE_LANE_CTRL_EN p) = false)
  ∧ (∃ (s : State) (l : Fin 2),
      s.shape
      ∧ s.domOn 5 = true
      ∧ s.blockOff (0x70400 + 0x100 * l.val) = false
      ∧ s.fbit (R.TWIN_LANE_CTRL_EN l) = false)
  ∧ (∃ (s : State) (l : Fin 2),
      s.domOn 5 = true
      ∧ s.blockOff (0x70400 + 0x100 * l.val) = false
      ∧ s.fbit (R.TWIN_LANE_CTRL_EN l) = true)
  ∧ (∃ (s : State) (p : Fin 24),
      s.portOn p = true
      ∧ s.lane p = laneWait)
  ∧ (∃ (s : State) (p : Fin 24),
      (s.portOn p = false ∨ s.lane p ≠ laneWait))
  ∧ (∃ (s : State) (u : Fin 26),
      s.unitOn u = true
      ∧ (s.laneOf u = laneTrain ∨ s.laneOf u = laneLinked))
  ∧ (∃ (s : State) (u : Fin 26),
      (s.unitOn u = false ∨ (s.laneOf u ≠ laneTrain ∧ s.laneOf u ≠ laneLinked)))
  ∧ (∃ (s : State) (u : Fin 26),
      s.domOn 5 = true
      ∧ s.blockOff (laneCtrl u.val) = false
      ∧ s.unitOn u = true
      ∧ laneIsUp (s.laneOf u) = true)
  ∧ (∃ (s : State) (u : Fin 26),
      s.domOn 5 = true
      ∧ s.blockOff (laneCtrl u.val) = false
      ∧ (s.unitOn u = false ∨ laneIsUp (s.laneOf u) = false))
  ∧ (∃ (s : State) (p : Fin 24),
      s.portOn p = true
      ∧ s.legacy p = false
      ∧ laneIsUp (s.lane p) = true)
  ∧ (∃ (s : State) (p : Fin 24),
      s.portOn p = true
      ∧ s.legacy p = false
      ∧ s.lane p = laneLinked
      ∧ s.upIdle p = true)
  ∧ (∃ (s : State) (p : Fin 24),
      (s.portOn p = false ∨ s.legacy p = true ∨ (laneIsUp (s.lane p) = false ∧ (s.lane p ≠ laneLinked ∨ s.upIdle p = false))))
  ∧ (∃ (s : State) (l : Fin 2),
      s.domOn 8 = true
      ∧ (s.laneOf (24 + l) = laneLinked ∨ s.laneOf (24 + l) = laneActive))
  ∧ (∃ (s : State) (l : Fin 2),
      s.domOn 8 = true
      ∧ s.symbolsRun l = true
      ∧ s.laneOf (24 + l) ≠ laneLinked
      ∧ s.laneOf (24 + l) ≠ laneActive)
  ∧ (∃ (s : State) (l : Fin 2),
      (s.domOn 8 = false ∨ s.symbolsRun l = false))
  ∧ (∃ (s : State) (port : Fin 24),
      (s.domOn 5 = false ∨ s.blockOff (0x60000 + 0x800 * port.val) = true))
  ∧ (∃ (s : State) (unit : Fin 26),
      (s.domOn 5 = false ∨ s.blockOff (laneCtrl unit.val) = true))
  ∧ (∃ (s : State) (link : Fin 2),
      (s.domOn 5 = false ∨ s.blockOff (0x70400 + 0x100 * link.val) = true)) :=
  ⟨⟨(fun (p : Fin 24) => ((upLanes bare).fsetb (R.TILE_LANE_CTRL_EN p) false : State)) (11), 11, by decide +kernel⟩,
    ⟨(fun (p : Fin 24) => ((upLanes bare).fsetb (R.TILE_LANE_CTRL_EN p) true : State)) (11), 11, by decide +kernel⟩,
    ⟨(fun (p : Fin 24) => ((upLanes bare).fsetb (R.TILE_LANE_CTRL_EN p) true : State)) (11), 11, by decide +kernel⟩,
    ⟨(fun (p : Fin 24) => ((upLanes bare).fsetb (R.TILE_LANE_CTRL_EN p) false : State)) (11), 11, by decide +kernel⟩,
    ⟨(fun (l : Fin 2) => ((upLanes bare).fsetb (R.TWIN_LANE_CTRL_EN l) false : State)) (1), 1, by decide +kernel⟩,
    ⟨(fun (l : Fin 2) => ((upLanes bare).fsetb (R.TWIN_LANE_CTRL_EN l) true : State)) (1), 1, by decide +kernel⟩,
    ⟨(fun (p : Fin 24) => (((upLanes bare).fset (stateFld p.val) laneWait) : State)) (11), 11, by decide +kernel⟩,
    ⟨bare, 11, by decide +kernel⟩,
    ⟨(fun (u : Fin 26) => (((upLanes bare).fset (stateFld u.val) (2 + u.val % 2)) : State)) (9), 9, by decide +kernel⟩,
    ⟨bare, 9, by decide +kernel⟩,
    ⟨(fun (u : Fin 26) => (((upLanes bare).fset (stateFld u.val) 5) : State)) (9), 9, by decide +kernel⟩,
    ⟨(fun (u : Fin 26) => (((upLanes bare).fset (stateFld u.val) 2) : State)) (9), 9, by decide +kernel⟩,
    ⟨(fun (p : Fin 24) => ((((upLanes bare).fset (stateFld p.val) (5 + p.val % 2)).fsetb (R.TILE_LANE_CTRL_LEGACY p) false) : State)) (11), 11, by decide +kernel⟩,
    ⟨(fun (p : Fin 24) => (((((upLanes bare).fset (stateFld p.val) laneLinked).fsetb (R.TILE_LANE_CTRL_LEGACY p) false).fsetb (R.TILE_LANE_STATUS_UP_IDLE p) true) : State)) (11), 11, by decide +kernel⟩,
    ⟨bare, 11, by decide +kernel⟩,
    ⟨(fun (l : Fin 2) => (((upLanes bare).fset (stateFld (24 + l.val)) 5) : State)) (1), 1, by decide +kernel⟩,
    ⟨(fun (l : Fin 2) => (((upLanes bare).fset (stateFld (24 + l.val)) 2) : State)) (1), 1, by decide +kernel⟩,
    ⟨bare, 1, by decide +kernel⟩,
    ⟨if bare.ticks % 2 = 0 then bare.fset R.PWR_DOM_STATUS_ON 0x20 else bare, 11, by decide +kernel⟩,
    ⟨if bare.ticks % 2 = 0 then bare.fset R.PWR_DOM_STATUS_ON 0x20 else bare, 9, by decide +kernel⟩,
    ⟨if bare.ticks % 2 = 0 then bare.fset R.PWR_DOM_STATUS_ON 0x20 else bare, 1, by decide +kernel⟩⟩

/-- Each clause of TrainingActs has a state and operands that meet its conditions. -/
theorem test_TrainingActs_witness :
    (∃ (s : State) (u : Fin 26) (l : Fin 2) (rx0 : List RxSymbol) (rx1 : List RxSymbol),
      s.shape
      ∧ s.unitOn u = true
      ∧ s.legacyUnit u = false
      ∧ l.val ∈ lanesOf u
      ∧ s.pins.lnref = true
      ∧ laneTrains (s.laneOf u) = true
      ∧ ((s.rxOf u l).take (rxTaken rx0 rx1 l)).locked = true
      ∧ (s.hsOf u l).trn1Rx < 8)
  ∧ (∃ (s : State) (u : Fin 26) (l : Fin 2) (rx0 : List RxSymbol) (rx1 : List RxSymbol),
      s.shape
      ∧ s.unitOn u = true
      ∧ s.legacyUnit u = false
      ∧ l.val ∈ lanesOf u
      ∧ s.pins.lnref = true
      ∧ laneTrains (s.laneOf u) = true
      ∧ (s.hsOf u l).locked = true
      ∧ (s.rxOf u l).loses (rxTaken rx0 rx1 l) = true
      ∧ ((s.rxOf u l).take (rxTaken rx0 rx1 l)).locked = false)
  ∧ (∃ (s : State) (u : Fin 26) (rx0 : List RxSymbol),
      s.shape
      ∧ s.unitOn u = true
      ∧ s.legacyUnit u = false
      ∧ u.val < 24
      ∧ s.pins.lnref = true
      ∧ laneTrains (s.laneOf u) = true
      ∧ (s.hsOf u 0).complete = true
      ∧ (s.rxOf u 0).loses rx0 = false)
  ∧ (∃ (s : State) (u : Fin 26),
      (s.unitOn u = false ∨ s.legacyUnit u = true ∨ s.pins.lnref = false ∨ laneTrains (s.laneOf u) = false))
  ∧ (∃ (s : State) (u : Fin 26) (l : Fin 2) (rx0 : List RxSymbol) (rx1 : List RxSymbol) (sq : Fin 4),
      s.shape
      ∧ s.unitOn u = true
      ∧ s.legacyUnit u = false
      ∧ l.val ∈ lanesOf u
      ∧ s.upIdle u = false
      ∧ laneTrains (s.laneOf u) = true
      ∧ (bitOf sq l = true ∨ (s.rxOf u l).loses (rxTaken rx0 rx1 l) = true))
  ∧ (∃ (s : State) (u : Fin 26) (l : Fin 2) (rx0 : List RxSymbol) (rx1 : List RxSymbol) (sq : Fin 4),
      s.unitOn u = true
      ∧ s.legacyUnit u = false
      ∧ l.val ∈ lanesOf u
      ∧ s.upIdle u = false
      ∧ s.laneOf u = laneLinked
      ∧ (bitOf sq l = true ∨ (s.rxOf u l).loses (rxTaken rx0 rx1 l) = true))
  ∧ (∃ (s : State) (u : Fin 26) (l : Fin 2) (rx0 : List RxSymbol) (rx1 : List RxSymbol) (sq : Fin 4),
      s.unitOn u = true
      ∧ s.legacyUnit u = false
      ∧ l.val ∈ lanesOf u
      ∧ s.upIdle u = false
      ∧ laneIsUp (s.laneOf u) = true
      ∧ (bitOf sq l = true ∨ (s.rxOf u l).loses (rxTaken rx0 rx1 l) = true))
  ∧ (∃ (s : State) (u : Fin 26) (l : Fin 2),
      s.unitOn u = true
      ∧ s.legacyUnit u = false
      ∧ l.val ∈ lanesOf u
      ∧ s.upIdle u = false
      ∧ s.laneOf u ∈ ([laneOff, laneWait, lanePrbs, laneLoopback] : List Nat))
  ∧ (∃ (s : State) (u : Fin 26) (rx0 : List RxSymbol) (rx1 : List RxSymbol) (sq : Fin 4),
      s.unitOn u = true
      ∧ s.legacyUnit u = false
      ∧ u.val < 24
      ∧ s.upIdle u = false
      ∧ (lanesOf u).all (fun l => !bitOf sq l && !(s.rxOf u l).loses (rxTaken rx0 rx1 l)) = true)
  ∧ (∃ (s : State) (u : Fin 26) (rx0 : List RxSymbol) (rx1 : List RxSymbol) (sq : Fin 4),
      s.unitOn u = true
      ∧ s.legacyUnit u = false
      ∧ 24 ≤ u.val
      ∧ (lanesOf u).all (fun l => !bitOf sq l && !(s.rxOf u l).loses (rxTaken rx0 rx1 l)) = true)
  ∧ (∃ (s : State) (u : Fin 26) (rx0 : List RxSymbol),
      s.unitOn u = true
      ∧ s.legacyUnit u = false
      ∧ s.upIdle u = true
      ∧ burstScan {} 0 rx0 = none)
  ∧ (∃ (s : State) (u : Fin 26) (rx0 : List RxSymbol) (r : Receiver) (rest : List RxSymbol),
      s.unitOn u = true
      ∧ s.legacyUnit u = false
      ∧ s.upIdle u = true
      ∧ burstScan {} 0 rx0 = some (r, rest)
      ∧ r.loses rest = false)
  ∧ (∃ (s : State) (u : Fin 26),
      (s.unitOn u = false ∨ s.legacyUnit u = true))
  ∧ (∃ (s : State) (u : Fin 26) (l : Fin 2),
      s.shape
      ∧ s.unitOn u = true
      ∧ s.legacyUnit u = false
      ∧ l.val ∈ lanesOf u
      ∧ laneTrains (s.laneOf u) = true
      ∧ (s.hsOf u l).trn1Rx + 1 < 8)
  ∧ (∃ (s : State) (u : Fin 26),
      s.shape
      ∧ s.unitOn u = true
      ∧ s.legacyUnit u = false
      ∧ u.val < 24
      ∧ laneTrains (s.laneOf u) = true
      ∧ (s.hsOf u 0).locked = true
      ∧ 7 ≤ (s.hsOf u 0).trn1Rx
      ∧ 8 ≤ (s.hsOf u 0).trn1Tx)
  ∧ (∃ (s : State) (u : Fin 26),
      s.shape
      ∧ s.unitOn u = true
      ∧ s.legacyUnit u = false
      ∧ laneTrains (s.laneOf u) = false)
  ∧ (∃ (s : State) (u : Fin 26),
      s.unitOn u = true
      ∧ s.legacyUnit u = false
      ∧ laneIsUp (s.laneOf u) = true)
  ∧ (∃ (s : State) (u : Fin 26) (l : Fin 2),
      s.shape
      ∧ s.unitOn u = true
      ∧ s.legacyUnit u = false
      ∧ l.val ∈ lanesOf u
      ∧ laneIsUp (s.laneOf u) = false)
  ∧ (∃ (s : State) (u : Fin 26),
      s.unitOn u = true
      ∧ s.legacyUnit u = false
      ∧ u.val < 24
      ∧ (laneIsUp (s.laneOf u) = true ∨ s.laneOf u = laneLinked))
  ∧ (∃ (s : State) (u : Fin 26),
      s.unitOn u = true
      ∧ s.legacyUnit u = false
      ∧ (24 ≤ u.val ∨ (laneIsUp (s.laneOf u) = false ∧ s.laneOf u ≠ laneLinked)))
  ∧ (∃ (s : State) (u : Fin 26),
      s.shape
      ∧ s.unitOn u = true
      ∧ s.legacyUnit u = false
      ∧ 24 ≤ u.val
      ∧ s.laneOf u = laneLinked
      ∧ (nth s.twin.links (linkOf u)).rateRx < 31)
  ∧ (∃ (s : State) (u : Fin 26),
      s.shape
      ∧ s.unitOn u = true
      ∧ s.legacyUnit u = false
      ∧ 24 ≤ u.val
      ∧ s.laneOf u = laneLinked
      ∧ 31 ≤ (nth s.twin.links (linkOf u)).rateRx)
  ∧ (∃ (s : State) (u : Fin 26),
      s.unitOn u = true
      ∧ s.legacyUnit u = false
      ∧ (u.val < 24 ∨ s.laneOf u ≠ laneLinked))
  ∧ (∃ (s : State) (u : Fin 26) (o : Fin 256),
      s.unitOn u = true
      ∧ s.legacyUnit u = false
      ∧ u.val < 24
      ∧ setOf o = none
      ∧ s.upIdle u = false
      ∧ laneIsUp (s.laneOf u) = true)
  ∧ (∃ (s : State) (u : Fin 26) (o : Fin 256),
      s.unitOn u = true
      ∧ s.legacyUnit u = false
      ∧ setOf o = none
      ∧ s.upIdle u = true
      ∧ laneTrains (s.laneOf u) = false)
  ∧ (∃ (s : State) (u : Fin 26) (l : Fin 2),
      s.shape
      ∧ s.unitOn u = true
      ∧ s.legacyUnit u = false
      ∧ l.val ∈ lanesOf u
      ∧ laneTrains (s.laneOf u) = true)
  ∧ (∃ (s : State) (u : Fin 26),
      laneTrains (s.laneOf u) = false)
  ∧ (∃ (s : State) (u : Fin 26),
      s.unitOn u = true
      ∧ s.laneOf u = laneRateTrain)
  ∧ (∃ (s : State) (u : Fin 26),
      (s.unitOn u = false ∨ s.laneOf u ≠ laneRateTrain))
  ∧ (∃ (s : State) (u : Fin 26),
      s.shape
      ∧ s.unitOn u = true
      ∧ s.laneOf u = laneRetrain)
  ∧ (∃ (s : State) (u : Fin 26),
      (s.unitOn u = false ∨ s.laneOf u ≠ laneRetrain)) :=
  ⟨⟨(fun (u : Fin 26) => ({ ((((((upLanes bare).fset (stateFld u.val) 2)).setPort u fun q => { q with hs := {}, rx := {} }).fset (R.TILE_LANE_CTRL_LEGACY (u.val % 24)) 0).fset (R.TILE_LANE_STATUS_UP_IDLE (u.val % 24)) 0) with pins := { bare.pins with lnref := true } } : State)) (9), 9, 0, fill64, fill64, by decide +kernel⟩,
    ⟨(fun (u : Fin 26) (l : Fin 2) => ({ (((((((((upLanes bare).fset (stateFld u.val) 2)).setPort u fun q => { q with hs := {}, rx := {} }).fset (R.TILE_LANE_CTRL_LEGACY (u.val % 24)) 0).fset (R.TILE_LANE_STATUS_UP_IDLE (u.val % 24)) 0)).setHs u l fun h => { h with locked := true, trn1Rx := 5 }).setRx u l fun _ => { neg := some true, run := 64 }) with pins := { bare.pins with lnref := true } } : State)) (9) (0), 9, 0, (rep 8 .stray), (rep 8 .stray), by decide +kernel⟩,
    ⟨(fun (u : Fin 26) => ({ (((((((upLanes bare).fset (stateFld u.val) (nth [2, 4, 7] (bare.ticks % 3)))).setPort u fun q => { q with hs := {}, rx := {} }).fset (R.TILE_LANE_CTRL_LEGACY (u.val % 24)) 0).fset (R.TILE_LANE_STATUS_UP_IDLE (u.val % 24)) 0).setPort u fun q => { q with hs := { locked := true, trn1Rx := 8, trn1Tx := 9 }, rx := { neg := some true, run := 64 } }) with pins := { bare.pins with lnref := true } } : State)) (9), 9, [], by decide +kernel⟩,
    ⟨bare, 9, by decide +kernel⟩,
    ⟨(fun (u : Fin 26) => (((((((upLanes bare).fset (stateFld u.val) 2)).setPort u fun q => { q with hs := {}, rx := {} }).fset (R.TILE_LANE_CTRL_LEGACY (u.val % 24)) 0).fset (R.TILE_LANE_STATUS_UP_IDLE (u.val % 24)) 0) : State)) (9), 9, 0, [], [Sys2Proof.RxSymbol.stray, Sys2Proof.RxSymbol.group 0x3dc#10, Sys2Proof.RxSymbol.group 0x2a3#10, Sys2Proof.RxSymbol.group 0x085#10], 3, by decide +kernel⟩,
    ⟨(fun (u : Fin 26) => (((((((upLanes bare).fset (stateFld u.val) 3)).setPort u fun q => { q with hs := {}, rx := {} }).fset (R.TILE_LANE_CTRL_LEGACY (u.val % 24)) 0).fset (R.TILE_LANE_STATUS_UP_IDLE (u.val % 24)) 0) : State)) (9), 9, 0, [], [Sys2Proof.RxSymbol.stray, Sys2Proof.RxSymbol.group 0x3dc#10, Sys2Proof.RxSymbol.group 0x2a3#10, Sys2Proof.RxSymbol.group 0x085#10], 3, by decide +kernel⟩,
    ⟨(fun (u : Fin 26) => (((((((upLanes bare).fset (stateFld u.val) 5)).setPort u fun q => { q with hs := {}, rx := {} }).fset (R.TILE_LANE_CTRL_LEGACY (u.val % 24)) 0).fset (R.TILE_LANE_STATUS_UP_IDLE (u.val % 24)) 0) : State)) (9), 9, 0, [], [Sys2Proof.RxSymbol.stray, Sys2Proof.RxSymbol.group 0x3dc#10, Sys2Proof.RxSymbol.group 0x2a3#10, Sys2Proof.RxSymbol.group 0x085#10], 3, by decide +kernel⟩,
    ⟨(fun (u : Fin 26) => (((((((upLanes bare).fset (stateFld u.val) (nth [0, 1, 8, 9] (bare.ticks % 4)))).setPort u fun q => { q with hs := {}, rx := {} }).fset (R.TILE_LANE_CTRL_LEGACY (u.val % 24)) 0).fset (R.TILE_LANE_STATUS_UP_IDLE (u.val % 24)) 0) : State)) (9), 9, 0, by decide +kernel⟩,
    ⟨(fun (u : Fin 26) => (((((((upLanes bare).fset (stateFld u.val) 5)).setPort u fun q => { q with hs := {}, rx := {} }).fset (R.TILE_LANE_CTRL_LEGACY (u.val % 24)) 0).fset (R.TILE_LANE_STATUS_UP_IDLE (u.val % 24)) 0) : State)) (9), 9, fill64, [], 0, by decide +kernel⟩,
    ⟨(fun (u : Fin 26) => (((((((upLanes bare).fset (stateFld u.val) 5)).setPort u fun q => { q with hs := {}, rx := {} }).fset (R.TILE_LANE_CTRL_LEGACY (u.val % 24)) 0).fset (R.TILE_LANE_STATUS_UP_IDLE (u.val % 24)) 0) : State)) (25), 25, fill64, [], 0, by decide +kernel⟩,
    ⟨(fun (u : Fin 26) => ((((((((upLanes bare).fset (stateFld u.val) 5)).setPort u fun q => { q with hs := {}, rx := {} }).fset (R.TILE_LANE_CTRL_LEGACY (u.val % 24)) 0).fset (R.TILE_LANE_STATUS_UP_IDLE (u.val % 24)) 0).fsetb (R.TILE_LANE_STATUS_UP_IDLE u) true) : State)) (11), 11, [], by decide +kernel⟩,
    ⟨(fun (u : Fin 26) => ((((((((upLanes bare).fset (stateFld u.val) 6)).setPort u fun q => { q with hs := {}, rx := {} }).fset (R.TILE_LANE_CTRL_LEGACY (u.val % 24)) 0).fset (R.TILE_LANE_STATUS_UP_IDLE (u.val % 24)) 0).fsetb (R.TILE_LANE_STATUS_UP_IDLE u) true) : State)) (11), 11, burst16, (fun (rx0 : List RxSymbol) => (((burstScan {} 0 rx0).getD ({}, [])).1 : Receiver)) (burst16), (fun (rx0 : List RxSymbol) => (((burstScan {} 0 rx0).getD ({}, [])).2 : List RxSymbol)) (burst16), by decide +kernel⟩,
    ⟨bare, 9, by decide +kernel⟩,
    ⟨(fun (u : Fin 26) (l : Fin 2) => (((((((upLanes bare).fset (stateFld u.val) 2)).setPort u fun q => { q with hs := {}, rx := {} }).fset (R.TILE_LANE_CTRL_LEGACY (u.val % 24)) 0).fset (R.TILE_LANE_STATUS_UP_IDLE (u.val % 24)) 0).setHs u l fun h => { h with trn1Rx := 3 } : State)) (9) (0), 9, 0, by decide +kernel⟩,
    ⟨(fun (u : Fin 26) => ((((((((upLanes bare).fset (stateFld u.val) (nth [2, 4, 7] (bare.ticks % 3)))).setPort u fun q => { q with hs := {}, rx := {} }).fset (R.TILE_LANE_CTRL_LEGACY (u.val % 24)) 0).fset (R.TILE_LANE_STATUS_UP_IDLE (u.val % 24)) 0).setPort u fun q => { q with hs := { locked := true, trn1Rx := 7, trn1Tx := 9 }, rx := { neg := some true, run := 64 } }) : State)) (9), 9, by decide +kernel⟩,
    ⟨(fun (u : Fin 26) => (((((((upLanes bare).fset (stateFld u.val) 5)).setPort u fun q => { q with hs := {}, rx := {} }).fset (R.TILE_LANE_CTRL_LEGACY (u.val % 24)) 0).fset (R.TILE_LANE_STATUS_UP_IDLE (u.val % 24)) 0) : State)) (9), 9, by decide +kernel⟩,
    ⟨(fun (u : Fin 26) => (((((((upLanes bare).fset (stateFld u.val) 5)).setPort u fun q => { q with hs := {}, rx := {} }).fset (R.TILE_LANE_CTRL_LEGACY (u.val % 24)) 0).fset (R.TILE_LANE_STATUS_UP_IDLE (u.val % 24)) 0) : State)) (9), 9, by decide +kernel⟩,
    ⟨(fun (u : Fin 26) (l : Fin 2) => (((((((upLanes bare).fset (stateFld u.val) 2)).setPort u fun q => { q with hs := {}, rx := {} }).fset (R.TILE_LANE_CTRL_LEGACY (u.val % 24)) 0).fset (R.TILE_LANE_STATUS_UP_IDLE (u.val % 24)) 0).setHs u l fun h => { h with trn1Rx := 3 } : State)) (9) (0), 9, 0, by decide +kernel⟩,
    ⟨(fun (u : Fin 26) => (((((((upLanes bare).fset (stateFld u.val) (3 + 2 * (bare.ticks % 2)))).setPort u fun q => { q with hs := {}, rx := {} }).fset (R.TILE_LANE_CTRL_LEGACY (u.val % 24)) 0).fset (R.TILE_LANE_STATUS_UP_IDLE (u.val % 24)) 0) : State)) (9), 9, by decide +kernel⟩,
    ⟨(fun (u : Fin 26) => (((((((upLanes bare).fset (stateFld u.val) 2)).setPort u fun q => { q with hs := {}, rx := {} }).fset (R.TILE_LANE_CTRL_LEGACY (u.val % 24)) 0).fset (R.TILE_LANE_STATUS_UP_IDLE (u.val % 24)) 0) : State)) (9), 9, by decide +kernel⟩,
    ⟨(fun (u : Fin 26) => ((((((((upLanes bare).fset (stateFld u.val) 3)).setPort u fun q => { q with hs := {}, rx := {} }).fset (R.TILE_LANE_CTRL_LEGACY (u.val % 24)) 0).fset (R.TILE_LANE_STATUS_UP_IDLE (u.val % 24)) 0).setLink (linkOf u) fun q => { q with rateRx := 30 }) : State)) (25), 25, by decide +kernel⟩,
    ⟨(fun (u : Fin 26) => ((((((((upLanes bare).fset (stateFld u.val) 3)).setPort u fun q => { q with hs := {}, rx := {} }).fset (R.TILE_LANE_CTRL_LEGACY (u.val % 24)) 0).fset (R.TILE_LANE_STATUS_UP_IDLE (u.val % 24)) 0).setLink (linkOf u) fun q => { q with rateRx := 31 }) : State)) (25), 25, by decide +kernel⟩,
    ⟨(fun (u : Fin 26) => (((((((upLanes bare).fset (stateFld u.val) 5)).setPort u fun q => { q with hs := {}, rx := {} }).fset (R.TILE_LANE_CTRL_LEGACY (u.val % 24)) 0).fset (R.TILE_LANE_STATUS_UP_IDLE (u.val % 24)) 0) : State)) (9), 9, by decide +kernel⟩,
    ⟨(fun (u : Fin 26) => (((((((upLanes bare).fset (stateFld u.val) 5)).setPort u fun q => { q with hs := {}, rx := {} }).fset (R.TILE_LANE_CTRL_LEGACY (u.val % 24)) 0).fset (R.TILE_LANE_STATUS_UP_IDLE (u.val % 24)) 0) : State)) (9), 9, 244, by decide +kernel⟩,
    ⟨(fun (u : Fin 26) => ((((((((upLanes bare).fset (stateFld u.val) 5)).setPort u fun q => { q with hs := {}, rx := {} }).fset (R.TILE_LANE_CTRL_LEGACY (u.val % 24)) 0).fset (R.TILE_LANE_STATUS_UP_IDLE (u.val % 24)) 0).fset (R.TILE_LANE_STATUS_UP_IDLE (u.val % 24)) 1) : State)) (9), 9, 7, by decide +kernel⟩,
    ⟨(fun (u : Fin 26) (l : Fin 2) => (((((((upLanes bare).fset (stateFld u.val) 2)).setPort u fun q => { q with hs := {}, rx := {} }).fset (R.TILE_LANE_CTRL_LEGACY (u.val % 24)) 0).fset (R.TILE_LANE_STATUS_UP_IDLE (u.val % 24)) 0).setHs u l fun h => { h with trn1Rx := 3 } : State)) (9) (0), 9, 0, by decide +kernel⟩,
    ⟨(fun (u : Fin 26) => (((((((upLanes bare).fset (stateFld u.val) 5)).setPort u fun q => { q with hs := {}, rx := {} }).fset (R.TILE_LANE_CTRL_LEGACY (u.val % 24)) 0).fset (R.TILE_LANE_STATUS_UP_IDLE (u.val % 24)) 0) : State)) (9), 9, by decide +kernel⟩,
    ⟨(fun (u : Fin 26) => (((upLanes bare).fset (stateFld u.val) 4) : State)) (9), 9, by decide +kernel⟩,
    ⟨bare, 9, by decide +kernel⟩,
    ⟨(fun (u : Fin 26) => (((upLanes bare).fset (stateFld u.val) 7) : State)) (9), 9, by decide +kernel⟩,
    ⟨bare, 9, by decide +kernel⟩⟩

/-- Each clause of IdleAndReferenceAct has a state and operands that meet its conditions. -/
theorem test_IdleAndReferenceAct_witness :
    (∃ (s : State) (p : Fin 24),
      (s.portOn p && s.lane p == laneActive && !s.legacy p && (!s.boundEnabled p || !s.owns p) && !s.totHolds p && (s.port p).unres.isEmpty && (s.port p).outQ.isEmpty && (s.port p).ctrlQ.isEmpty) = true)
  ∧ (∃ (s : State) (p : Fin 24),
      (s.portOn p && s.lane p == laneActive && !s.legacy p && (!s.boundEnabled p || !s.owns p) && !s.totHolds p && (s.port p).unres.isEmpty && (s.port p).outQ.isEmpty && (s.port p).ctrlQ.isEmpty) = false)
  ∧ (∃ (s : State) (u : Fin 26),
      s.pins.lnref = true
      ∧ s.unitOn u = true
      ∧ s.legacyUnit u = false)
  ∧ (∃ (s : State) (u : Fin 26) (l : Fin 2),
      s.shape
      ∧ s.pins.lnref = true
      ∧ s.unitOn u = true
      ∧ s.legacyUnit u = false
      ∧ l.val ∈ lanesOf u
      ∧ laneTrains (s.laneOf u) = true)
  ∧ (∃ (s : State),
      s.pins.lnref = false)
  ∧ (∃ (s : State),
      s.pins.lnref = true)
  ∧ (∃ (s : State) (p : Fin 24),
      s.domOn 5 = true
      ∧ s.blockOff (0x60000 + 0x800 * p.val) = false
      ∧ s.fbit (R.TILE_LANE_CTRL_EN p) = false)
  ∧ (∃ (s : State) (p : Fin 24),
      s.domOn 5 = true
      ∧ s.blockOff (0x60000 + 0x800 * p.val) = false
      ∧ s.fbit (R.TILE_LANE_CTRL_EN p) = false
      ∧ p.val % 2 = 0
      ∧ 6 ≤ p.val
      ∧ p.val ≤ 22
      ∧ s.fbit (R.TILE_LANE_CTRL_EN (p.val + 1)) = false)
  ∧ (∃ (s : State) (p : Fin 24),
      s.domOn 5 = true
      ∧ s.blockOff (0x60000 + 0x800 * p.val) = false
      ∧ (p.val % 2 = 1 ∨ p.val < 6 ∨ 22 < p.val ∨ s.fbit (R.TILE_LANE_CTRL_EN (p.val + 1)) = true))
  ∧ (∃ (s : State) (p : Fin 24),
      s.domOn 5 = true
      ∧ s.blockOff (0x60000 + 0x800 * p.val) = false
      ∧ s.fbit (R.TILE_LANE_CTRL_EN p) = true)
  ∧ (∃ (s : State) (p : Fin 24),
      s.portOn p = true
      ∧ s.legacy p = true
      ∧ s.lane p = laneTrain)
  ∧ (∃ (s : State) (p : Fin 24),
      (s.portOn p = false ∨ s.legacy p = false ∨ s.lane p ≠ laneTrain))
  ∧ (∃ (s : State) (p : Fin 24),
      s.portOn p = true
      ∧ (p.val % 2 = 0 ∨ s.legacy (p.val - 1) = false))
  ∧ (∃ (s : State) (p : Fin 24) (low : Bool),
      (low = false ∨ s.portOn p = false ∨ s.legacy p = false ∨ s.lane p ≠ laneActive))
  ∧ (∃ (s : State) (p : Fin 24),
      s.portOn p = true
      ∧ s.legacy p = true
      ∧ s.lane p = laneActive)
  ∧ (∃ (s : State) (p : Fin 24),
      (s.portOn p = false ∨ s.legacy p = false ∨ s.lane p ≠ laneActive))
  ∧ (∃ (s : State) (port : Fin 24),
      (s.domOn 5 = false ∨ s.blockOff (0x60000 + 0x800 * port.val) = true)) :=
  ⟨⟨(fun (p : Fin 24) => (((((((upLanes bare).fset (stateFld p.val) 5).fsetb (R.TILE_LANE_CTRL_LEGACY p) false).fsetb (R.TILE_PROTO_STATUS_OWN p) false).fset R.SAFE_TOT_PORTS_PORTS 0).setPort p fun q => { q with unres := [], outQ := [], ctrlQ := [] }) : State)) (11), 11, by decide +kernel⟩,
    ⟨bare, 11, by decide +kernel⟩,
    ⟨(fun (u : Fin 26) => ({ ((((((upLanes bare).fset (stateFld u.val) (nth [2, 3, 4, 5, 6, 7] (bare.ticks % 6)))).setPort u fun q => { q with hs := {}, rx := {} }).fset (R.TILE_LANE_CTRL_LEGACY (u.val % 24)) 0).fset (R.TILE_LANE_STATUS_UP_IDLE (u.val % 24)) 0) with pins := { bare.pins with lnref := true } } : State)) (9), 9, by decide +kernel⟩,
    ⟨(fun (u : Fin 26) => ({ ((((((upLanes bare).fset (stateFld u.val) 2)).setPort u fun q => { q with hs := {}, rx := {} }).fset (R.TILE_LANE_CTRL_LEGACY (u.val % 24)) 0).fset (R.TILE_LANE_STATUS_UP_IDLE (u.val % 24)) 0) with pins := { bare.pins with lnref := true } } : State)) (9), 9, 0, by decide +kernel⟩,
    ⟨{ bare with pins := { bare.pins with lnref := false } }, by decide +kernel⟩,
    ⟨{ bare with pins := { bare.pins with lnref := true } }, by decide +kernel⟩,
    ⟨(fun (p : Fin 24) => ((upLanes bare).fsetb (R.TILE_LANE_CTRL_EN p) false : State)) (11), 11, by decide +kernel⟩,
    ⟨(fun (p : Fin 24) => (((upLanes bare).fsetb (R.TILE_LANE_CTRL_EN p) false).fsetb (R.TILE_LANE_CTRL_EN (p.val+1)) false : State)) (12), 12, by decide +kernel⟩,
    ⟨(upLanes bare), 11, by decide +kernel⟩,
    ⟨(fun (p : Fin 24) => ((upLanes bare).fsetb (R.TILE_LANE_CTRL_EN p) true : State)) (11), 11, by decide +kernel⟩,
    ⟨(fun (p : Fin 24) => (((upLanes bare).fset (stateFld p.val) 2).fsetb (R.TILE_LANE_CTRL_LEGACY p) true : State)) (11), 11, by decide +kernel⟩,
    ⟨bare, 11, by decide +kernel⟩,
    ⟨(fun (p : Fin 24) => (((upLanes bare).fset (stateFld p.val) 5).fsetb (R.TILE_LANE_CTRL_LEGACY p) true : State)) (11), 11, by decide +kernel⟩,
    ⟨(upLanes bare), 11, false, by decide +kernel⟩,
    ⟨(fun (p : Fin 24) => (((upLanes bare).fset (stateFld p.val) 5).fsetb (R.TILE_LANE_CTRL_LEGACY p) true : State)) (11), 11, by decide +kernel⟩,
    ⟨bare, 11, by decide +kernel⟩,
    ⟨if bare.ticks % 2 = 0 then bare.fset R.PWR_DOM_STATUS_ON 0x20 else bare, 11, by decide +kernel⟩⟩

/-- Each clause of LaneTestsAct has a state and operands that meet its conditions. -/
theorem test_LaneTestsAct_witness :
    (∃ (s : State) (u : Fin 26),
      s.shape
      ∧ s.domOn 5 = true
      ∧ s.blockOff (prbsCtrl u.val) = false
      ∧ u.val < 24
      ∧ s.unitOn u = true
      ∧ s.fbit (R.TILE_PRBS_CTRL_LOOP u) = false
      ∧ s.lane u = laneActive
      ∧ s.boundEnabled u = false)
  ∧ (∃ (s : State) (u : Fin 26),
      s.domOn 5 = true
      ∧ s.blockOff (prbsCtrl u.val) = false
      ∧ u.val < 24
      ∧ s.unitOn u = true
      ∧ s.fbit (R.TILE_PRBS_CTRL_LOOP u) = false
      ∧ (s.lane u ≠ laneActive ∨ s.boundEnabled u = true))
  ∧ (∃ (s : State) (u : Fin 26),
      s.domOn 5 = true
      ∧ s.blockOff (prbsCtrl u.val) = false
      ∧ 24 ≤ u.val
      ∧ s.unitOn u = true
      ∧ s.laneOf u = laneActive)
  ∧ (∃ (s : State) (u : Fin 26),
      s.domOn 5 = true
      ∧ s.blockOff (prbsCtrl u.val) = false
      ∧ (s.unitOn u = false ∨ (u.val < 24 ∧ s.fbit (R.TILE_PRBS_CTRL_LOOP u) = true) ∨ (24 ≤ u.val ∧ s.laneOf u ≠ laneActive)))
  ∧ (∃ (s : State) (p : Fin 24),
      s.domOn 5 = true
      ∧ s.blockOff (0x60020 + 0x800 * p.val) = false
      ∧ s.portOn p = true
      ∧ s.fbit (R.TILE_LANE_CTRL_EN p) = false
      ∧ s.fbit (R.TILE_PRBS_CTRL_LOOP p) = true)
  ∧ (∃ (s : State) (p : Fin 24),
      s.domOn 5 = true
      ∧ s.blockOff (0x60020 + 0x800 * p.val) = false
      ∧ (s.portOn p = false ∨ s.fbit (R.TILE_LANE_CTRL_EN p) = true ∨ s.fbit (R.TILE_PRBS_CTRL_LOOP p) = false))
  ∧ (∃ (s : State) (u : Fin 26) (pat : Nat) (dn : Bool) (up : Bool),
      s.shape
      ∧ s.unitOn u = true
      ∧ u.val < 24
      ∧ s.laneOf u = lanePrbs
      ∧ (s.port u).prbs = some ⟨pat, dn, up⟩)
  ∧ (∃ (s : State) (u : Fin 26),
      s.unitOn u = true
      ∧ 24 ≤ u.val
      ∧ s.laneOf u = lanePrbs)
  ∧ (∃ (s : State) (u : Fin 26),
      s.unitOn u = true
      ∧ u.val < 24
      ∧ s.laneOf u = laneLoopback
      ∧ (s.port u).sounding = false)
  ∧ (∃ (s : State) (u : Fin 26),
      (s.unitOn u = false ∨ (s.laneOf u ≠ lanePrbs ∧ (s.laneOf u ≠ laneLoopback ∨ 24 ≤ u.val ∨ (s.port u).sounding = true))))
  ∧ (∃ (s : State) (unit : Fin 26),
      (s.domOn 5 = false ∨ s.blockOff (prbsCtrl unit.val) = true))
  ∧ (∃ (s : State) (port : Fin 24),
      (s.domOn 5 = false ∨ s.blockOff (0x60020 + 0x800 * port.val) = true)) :=
  ⟨⟨(fun (u : Fin 26) => (((((upLanes bare).fset (stateFld u.val) 5).fset (R.TG_PORTMAP_A_SURF u) 7).fsetb (R.TILE_PRBS_CTRL_LOOP u) false) : State)) (9), 9, by decide +kernel⟩,
    ⟨(fun (u : Fin 26) => ((((upLanes bare).fset (stateFld u.val) 3).fsetb (R.TILE_PRBS_CTRL_LOOP u) false) : State)) (9), 9, by decide +kernel⟩,
    ⟨(fun (u : Fin 26) => (((upLanes bare).fset (stateFld u.val) 5) : State)) (25), 25, by decide +kernel⟩,
    ⟨(fun (u : Fin 26) => ((((upLanes bare).fset (stateFld u.val) 4).fset (R.TILE_PRBS_CTRL_LOOP (u.val % 24)) 1) : State)) (9), 9, by decide +kernel⟩,
    ⟨(fun (p : Fin 24) => (((upLanes bare).fsetb (R.TILE_LANE_CTRL_EN p) false).fsetb (R.TILE_PRBS_CTRL_LOOP p) true : State)) (11), 11, by decide +kernel⟩,
    ⟨(fun (p : Fin 24) => (((upLanes bare).fsetb (R.TILE_LANE_CTRL_EN p) true) : State)) (11), 11, by decide +kernel⟩,
    ⟨(fun (u : Fin 26) (pat : Nat) (dn : Bool) (up : Bool) => (((upLanes bare).fset (stateFld u.val) 8).setPort u fun q => { q with prbs := some ⟨pat, dn, up⟩ } : State)) (9) (0) (false) (true), 9, 0, false, true, by decide +kernel⟩,
    ⟨(fun (u : Fin 26) => (((upLanes bare).fset (stateFld u.val) 8) : State)) (25), 25, by decide +kernel⟩,
    ⟨(fun (u : Fin 26) => ((((upLanes bare).fset (stateFld u.val) 9).setPort u fun q => { q with sounding := false }) : State)) (9), 9, by decide +kernel⟩,
    ⟨bare, 9, by decide +kernel⟩,
    ⟨if bare.ticks % 2 = 0 then bare.fset R.PWR_DOM_STATUS_ON 0x20 else bare, 9, by decide +kernel⟩,
    ⟨if bare.ticks % 2 = 0 then bare.fset R.PWR_DOM_STATUS_ON 0x20 else bare, 11, by decide +kernel⟩⟩

/-- Each clause of UpstreamPacketsAct has a state and operands that meet its conditions. -/
theorem test_UpstreamPacketsAct_witness :
    (∃ (s : State) (p : Fin 24) (body : List Byte),
      s.shape
      ∧ s.upOpen p = true
      ∧ body.length = 4
      ∧ (s.port p).ctrlQ = []
      ∧ (s.port p).limp = none
      ∧ (s.port p).reorder = none
      ∧ (s.port p).unres.all (fun u => ackOf (leAt body 0 2) (leAt body 2 2) u.seq != some false) = true)
  ∧ (∃ (s : State) (p : Fin 24) (body : List Byte) (q : Nat) (k : Nat) (e : Nat) (due : Nat) (wb : List Byte),
      s.shape
      ∧ s.upOpen p = true
      ∧ s.canSend p = true
      ∧ body.length = 4
      ∧ (s.port p).unres = [⟨q, pktCtrl, wb, k, e, due⟩]
      ∧ (s.port p).ctrlQ = []
      ∧ (s.port p).limp = none
      ∧ (s.port p).reorder = none
      ∧ (s.port p).wire.all (fun w => decide (w.fin ≤ s.nowQ)) = true
      ∧ (s.port p).outQ = []
      ∧ ackOf (leAt body 0 2) (leAt body 2 2) q = some false
      ∧ k < 3
      ∧ namesTick pktCtrl wb = false)
  ∧ (∃ (s : State) (p : Fin 24),
      s.upOpen p = false)
  ∧ (∃ (s : State) (p : Fin 24) (body : List Byte),
      s.shape
      ∧ s.upOpen p = true
      ∧ upLenOk pktAck body = false)
  ∧ (∃ (s : State) (p : Fin 24) (body : List Byte),
      s.shape
      ∧ s.upOpen p = true
      ∧ body.length = 32)
  ∧ (∃ (s : State) (p : Fin 24) (body : List Byte),
      s.shape
      ∧ s.upOpen p = true
      ∧ upLenOk pktStatus body = false)
  ∧ (∃ (s : State) (p : Fin 24) (body : List Byte),
      s.shape
      ∧ s.upOpen p = true
      ∧ body.length = 48
      ∧ capErr body = 0)
  ∧ (∃ (s : State) (p : Fin 24) (body : List Byte),
      s.shape
      ∧ s.upOpen p = true
      ∧ body.length = 48
      ∧ capErr body ≠ 0)
  ∧ (∃ (s : State) (p : Fin 24) (body : List Byte),
      s.shape
      ∧ s.upOpen p = true
      ∧ upLenOk pktCap body = false)
  ∧ (∃ (s : State) (p : Fin 24) (bytes : List Byte) (clean : Bool),
      s.shape
      ∧ s.upOpen p = true
      ∧ s.upChecks p bytes clean = false)
  ∧ (∃ (s : State) (p : Fin 24) (bytes : List Byte) (clean : Bool),
      s.shape
      ∧ s.upOpen p = true
      ∧ s.upChecks p bytes clean = true
      ∧ upLenOk (leAt bytes 0 1) ((bytes.drop 6).take (leAt bytes 2 2)) = false)
  ∧ (∃ (s : State) (p : Fin 24) (bytes : List Byte) (clean : Bool),
      (s.upOpen p = false ∨ (s.upChecks p bytes clean = true ∧ upLenOk (leAt bytes 0 1) ((bytes.drop 6).take (leAt bytes 2 2)) = true)))
  ∧ (∃ (s : State) (p : Fin 24) (body : List Byte),
      s.shape
      ∧ s.upOpen p = true
      ∧ upLenOk pktHealth body = true)
  ∧ (∃ (s : State) (p : Fin 24) (body : List Byte),
      s.shape
      ∧ s.upOpen p = true
      ∧ upLenOk pktHealth body = true
      ∧ s.monitored p = true)
  ∧ (∃ (s : State) (p : Fin 24) (body : List Byte),
      s.shape
      ∧ s.upOpen p = true
      ∧ upLenOk pktHealth body = true
      ∧ s.judges p = false)
  ∧ (∃ (s : State) (p : Fin 24) (body : List Byte),
      s.shape
      ∧ s.upOpen p = true
      ∧ upLenOk pktHealth body = false) :=
  ⟨⟨(fun (p : Fin 24) => (((((upLanes bare).fset (R.TILE_LANE_STATUS_STATE p) 5).fsetb (R.TILE_LANE_CTRL_LEGACY p) false).fset R.SAFE_TOT_PORTS_PORTS 0).setPort p fun z => { z with limp := none, ctrlQ := [], reorder := none, unres := [⟨3, 1, [], 0, 0, 0⟩, ⟨9, 4, [], 0, 0, 0⟩, ⟨7, 2, [], 0, 0, 0⟩] } : State)) (11), 11, ([8, 0, 255, 255] : List Byte), by decide +kernel⟩,
    ⟨(fun (p : Fin 24) (q : Nat) (k : Nat) (e : Nat) (due : Nat) (wb : List Byte) => (((((((upLanes bare).fset (R.TILE_LANE_STATUS_STATE p) 5).fsetb (R.TILE_LANE_CTRL_LEGACY p) false).fset R.SAFE_TOT_PORTS_PORTS 0).setPort p fun z => { z with unres := [⟨q, pktCtrl, wb, k, e, due⟩], ctrlQ := [] }).setPort p fun z => { z with limp := none, wire := [], outQ := [], reorder := none }) : State)) (11) (0) (0) (2049417926) (0) ((rep 4 9)), 11, ([8, 0, 0, 0] : List Byte), 0, 0, 2049417926, 0, (rep 4 9), by decide +kernel⟩,
    ⟨(fun (p : Fin 24) => (bare.fsetb (R.TILE_LANE_CTRL_LEGACY p) true : State)) (11), 11, by decide +kernel⟩,
    ⟨(fun (p : Fin 24) => (((((upLanes bare).fset (R.TILE_LANE_STATUS_STATE p) 5).fsetb (R.TILE_LANE_CTRL_LEGACY p) false).fset R.SAFE_TOT_PORTS_PORTS 0) : State)) (11), 11, ([24, 24, 24] : List Byte), by decide +kernel⟩,
    ⟨(fun (p : Fin 24) => (((((upLanes bare).fset (R.TILE_LANE_STATUS_STATE p) 5).fsetb (R.TILE_LANE_CTRL_LEGACY p) false).fset R.SAFE_TOT_PORTS_PORTS 0) : State)) (11), 11, (rep 32 139 : List Byte), by decide +kernel⟩,
    ⟨(fun (p : Fin 24) => (((((upLanes bare).fset (R.TILE_LANE_STATUS_STATE p) 5).fsetb (R.TILE_LANE_CTRL_LEGACY p) false).fset R.SAFE_TOT_PORTS_PORTS 0) : State)) (11), 11, ([139, 139, 139] : List Byte), by decide +kernel⟩,
    ⟨(fun (p : Fin 24) => (((((upLanes bare).fset (R.TILE_LANE_STATUS_STATE p) 5).fsetb (R.TILE_LANE_CTRL_LEGACY p) false).fset R.SAFE_TOT_PORTS_PORTS 0) : State)) (11), 11, ([0, 0, 0, 0, 0, 1, 0, 0, 64, 0, 64] ++ rep 11 0 ++ [8, 0, 0, 0, 0, 0, 56, 24] ++ rep 18 0 : List Byte), by decide +kernel⟩,
    ⟨(fun (p : Fin 24) => (((((upLanes bare).fset (R.TILE_LANE_STATUS_STATE p) 5).fsetb (R.TILE_LANE_CTRL_LEGACY p) false).fset R.SAFE_TOT_PORTS_PORTS 0) : State)) (11), 11, (rep 48 24 : List Byte), by decide +kernel⟩,
    ⟨(fun (p : Fin 24) => (((((upLanes bare).fset (R.TILE_LANE_STATUS_STATE p) 5).fsetb (R.TILE_LANE_CTRL_LEGACY p) false).fset R.SAFE_TOT_PORTS_PORTS 0) : State)) (11), 11, ([24, 24, 24] : List Byte), by decide +kernel⟩,
    ⟨(fun (p : Fin 24) (bytes : List Byte) => (((((upLanes bare).fset (R.TILE_LANE_STATUS_STATE p) 5).fsetb (R.TILE_LANE_CTRL_LEGACY p) false).fset R.SAFE_TOT_PORTS_PORTS 0).setPort p fun z => { z with fails := 5 + (bytes.length / 4) % 3 } : State)) (11) (([24, 3, 0, 3, 1, 3, 240, 1, 3, 3, 21, 2, 3, 2, 141, 72, 3, 154, 2, 1, 125, 75, 3, 0] : List Byte)), 11, ([24, 3, 0, 3, 1, 3, 240, 1, 3, 3, 21, 2, 3, 2, 141, 72, 3, 154, 2, 1, 125, 75, 3, 0] : List Byte), true, by decide +kernel⟩,
    ⟨(fun (p : Fin 24) => ((((((upLanes bare).fset (R.TILE_LANE_STATUS_STATE p) 5).fsetb (R.TILE_LANE_CTRL_LEGACY p) false).fset R.SAFE_TOT_PORTS_PORTS 0).fset (R.TILE_SEQ_UP_EXPECT p) 0) : State)) (11), 11, ([9, 0, 2, 0, 0, 0, 1, 2, 3, 216, 243, 67] : List Byte), true, by decide +kernel⟩,
    ⟨(fun (p : Fin 24) => (bare.fsetb (R.TILE_LANE_CTRL_LEGACY p) true : State)) (11), 11, ([24, 3, 0, 3, 1, 3, 240, 1, 3, 3, 21, 2, 3, 2, 141, 72, 3, 154, 2, 1, 125, 75, 3, 0] : List Byte), true, by decide +kernel⟩,
    ⟨(fun (p : Fin 24) => (((((upLanes bare).fset (R.TILE_LANE_STATUS_STATE p) 5).fsetb (R.TILE_LANE_CTRL_LEGACY p) false).fset R.SAFE_TOT_PORTS_PORTS 0) : State)) (11), 11, ([4, 24, 2, 0, 144, 1, 0, 0, 216, 0, 88, 2, 24, 0, 232, 3] : List Byte), by decide +kernel⟩,
    ⟨(fun (p : Fin 24) => (((((((((upLanes bare).fset (R.TILE_LANE_STATUS_STATE p) 5).fsetb (R.TILE_LANE_CTRL_LEGACY p) false).fset R.SAFE_TOT_PORTS_PORTS 0).setGen 0 fun g => { g with members := [⟨p.val,64,64,false⟩] }).fsetb (R.TG_CTRL_ENABLE 0) true).fsetb R.PIX_HLT_CTRL_EN true).fsetb (R.PIX_HLT_PORT_CTRL_MON_EN p) true).fsetb (R.TILE_PROTO_STATUS_OWN p) true : State)) (11), 11, ([4, 24, 2, 0, 144, 1, 0, 0, 216, 0, 88, 2, 24, 0, 232, 3] : List Byte), by decide +kernel⟩,
    ⟨(fun (p : Fin 24) => (((((upLanes bare).fset (R.TILE_LANE_STATUS_STATE p) 5).fsetb (R.TILE_LANE_CTRL_LEGACY p) false).fset R.SAFE_TOT_PORTS_PORTS 0) : State)) (11), 11, ([4, 24, 2, 0, 144, 1, 0, 0, 216, 0, 88, 2, 24, 0, 232, 3] : List Byte), by decide +kernel⟩,
    ⟨(fun (p : Fin 24) => (((((upLanes bare).fset (R.TILE_LANE_STATUS_STATE p) 5).fsetb (R.TILE_LANE_CTRL_LEGACY p) false).fset R.SAFE_TOT_PORTS_PORTS 0) : State)) (11), 11, ([24, 24, 24] : List Byte), by decide +kernel⟩⟩

/-- Each clause of DownstreamTimersAct has a state and operands that meet its conditions. -/
theorem test_DownstreamTimersAct_witness :
    (∃ (s : State) (p : Fin 24) (q : Nat) (kind : Nat) (k : Nat) (e : Nat) (due : Nat) (wb : List Byte),
      s.shape
      ∧ s.canSend p = true
      ∧ (s.port p).unres = [⟨q, kind, wb, k, e, due⟩]
      ∧ (s.port p).ctrlQ = []
      ∧ (s.port p).reorder = none
      ∧ (s.port p).wire.all (fun w => decide (w.fin ≤ s.nowQ)) = true
      ∧ (s.port p).outQ = []
      ∧ (kind = pktSwap ∨ kind = pktProbe ∨ (kind = pktPhaseData ∧ k < 2))
      ∧ s.mayGo p ⟨q, kind, wb, k, e, due⟩ = true
      ∧ s.inTime p ⟨q, kind, wb, k, e, due⟩ = true)
  ∧ (∃ (s : State) (p : Fin 24) (q : Nat) (kind : Nat) (k : Nat) (e : Nat) (due : Nat) (wb : List Byte),
      s.shape
      ∧ s.canSend p = true
      ∧ (s.port p).unres = [⟨q, kind, wb, k, e, due⟩]
      ∧ (s.port p).ctrlQ = []
      ∧ (s.port p).reorder = none
      ∧ (s.port p).wire.all (fun w => decide (w.fin ≤ s.nowQ)) = true
      ∧ (s.port p).outQ = []
      ∧ kind ∈ ([pktCtrl, pktClaim, pktLimpPage] : List Nat)
      ∧ s.mayGo p ⟨q, kind, wb, k, e, due⟩ = true
      ∧ k < 3
      ∧ namesTick kind wb = false)
  ∧ (∃ (s : State) (p : Fin 24) (q : Nat) (kind : Nat) (k : Nat) (e : Nat) (due : Nat) (wb : List Byte),
      s.shape
      ∧ s.canSend p = true
      ∧ (s.port p).unres = [⟨q, kind, wb, k, e, due⟩]
      ∧ (s.port p).ctrlQ = []
      ∧ (s.port p).reorder = none
      ∧ ((s.port p).wire.any (fun w => decide (s.nowQ < w.fin)) = true ∨ (s.port p).outQ ≠ [])
      ∧ (kind = pktSwap ∨ kind = pktProbe)
      ∧ s.mayGo p ⟨q, kind, wb, k, e, due⟩ = true
      ∧ s.inTime p ⟨q, kind, wb, k, e, due⟩ = true)
  ∧ (∃ (s : State) (p : Fin 24) (q : Nat) (kind : Nat) (k : Nat) (e : Nat) (due : Nat) (wb : List Byte),
      s.shape
      ∧ s.canSend p = true
      ∧ (s.port p).unres = [⟨q, kind, wb, k, e, due⟩]
      ∧ (s.port p).ctrlQ = []
      ∧ (s.port p).reorder = none
      ∧ (kind = pktPhaseData ∨ kind = pktSwap)
      ∧ (s.mayGo p ⟨q, kind, wb, k, e, due⟩ && s.inTime p ⟨q, kind, wb, k, e, due⟩ && (kind != pktPhaseData || decide (k < 2))) = false)
  ∧ (∃ (s : State) (p : Fin 24) (q : Nat) (kind : Nat) (k : Nat) (e : Nat) (due : Nat) (wb : List Byte),
      s.shape
      ∧ s.canSend p = true
      ∧ (s.port p).unres = [⟨q, kind, wb, k, e, due⟩]
      ∧ (s.port p).ctrlQ = []
      ∧ (s.port p).reorder = none
      ∧ kind = pktProbe
      ∧ (s.mayGo p ⟨q, kind, wb, k, e, due⟩ && s.inTime p ⟨q, kind, wb, k, e, due⟩) = false)
  ∧ (∃ (s : State) (p : Fin 24) (q : Nat) (kind : Nat) (k : Nat) (e : Nat) (due : Nat) (wb : List Byte),
      s.shape
      ∧ s.canSend p = true
      ∧ (s.port p).unres = [⟨q, kind, wb, k, e, due⟩]
      ∧ (s.port p).ctrlQ = []
      ∧ (s.port p).reorder = none
      ∧ kind = pktLimpPage
      ∧ s.mayGo p ⟨q, kind, wb, k, e, due⟩ = false
      ∧ (s.owns p = false ∨ s.totHolds p = true))
  ∧ (∃ (s : State) (p : Fin 24) (q : Nat) (kind : Nat) (k : Nat) (e : Nat) (due : Nat) (wb : List Byte),
      s.shape
      ∧ s.canSend p = true
      ∧ (s.port p).unres = [⟨q, kind, wb, k, e, due⟩]
      ∧ (s.port p).ctrlQ = []
      ∧ (s.port p).reorder = none
      ∧ kind ∈ ([pktCtrl, pktClaim, pktLimpPage] : List Nat)
      ∧ s.mayGo p ⟨q, kind, wb, k, e, due⟩ = true
      ∧ 3 ≤ k
      ∧ namesTick kind wb = false)
  ∧ (∃ (s : State) (p : Fin 24) (q : Nat),
      (s.canSend p = false ∨ (s.port p).unres.all (fun u => u.seq != q) = true))
  ∧ (∃ (s : State) (p : Fin 24) (q : Nat) (k : Nat) (e : Nat) (due : Nat) (wb : List Byte),
      s.shape
      ∧ (s.port p).unres = [⟨q, pktPhaseData, wb, k, e, due⟩]
      ∧ (s.port p).lost = [])
  ∧ (∃ (s : State) (p : Fin 24) (q : Nat) (k : Nat) (e : Nat) (due : Nat) (wb : List Byte),
      s.shape
      ∧ (s.port p).unres = []
      ∧ (s.port p).lost = [⟨q, pktPhaseData, wb, k, e, due⟩])
  ∧ (∃ (s : State) (p : Fin 24) (q : Nat),
      ((s.port p).unres ++ (s.port p).lost ++ (s.port p).outQ).all (fun u => u.kind != pktPhaseData || (u.seq != q && (u.seq != noSeq || decide (s.nowNs < u.due)))) = true)
  ∧ (∃ (s : State) (p : Fin 24) (q : Nat) (k : Nat) (e : Nat) (due : Nat) (wb : List Byte),
      s.shape
      ∧ (s.port p).unres = [⟨q, pktSwap, wb, k, e, due⟩]
      ∧ (s.port p).lost = [])
  ∧ (∃ (s : State) (p : Fin 24) (q : Nat) (k : Nat) (e : Nat) (due : Nat) (wb : List Byte),
      s.shape
      ∧ (s.port p).unres = []
      ∧ (s.port p).lost = [⟨q, pktSwap, wb, k, e, due⟩])
  ∧ (∃ (s : State) (p : Fin 24),
      ((s.port p).unres ++ (s.port p).lost ++ (s.port p).outQ).all (fun u => u.kind != pktSwap) = true)
  ∧ (∃ (s : State) (p : Fin 24),
      s.shape
      ∧ s.portOn p = true
      ∧ s.lane p = laneLinked
      ∧ s.legacy p = false
      ∧ (s.port p).capOk = false
      ∧ (s.port p).ctrlQ = []
      ∧ (s.port p).ctrlBusy = false
      ∧ (s.port p).wire.all (fun w => decide (w.fin ≤ s.nowQ)) = true
      ∧ (s.port p).outQ = [])
  ∧ (∃ (s : State) (p : Fin 24),
      s.shape
      ∧ s.portOn p = true
      ∧ s.lane p = laneLinked
      ∧ s.legacy p = false
      ∧ (s.port p).capOk = false
      ∧ ((s.port p).ctrlBusy = true ∨ (s.port p).ctrlQ ≠ []))
  ∧ (∃ (s : State) (p : Fin 24),
      (s.portOn p = false ∨ s.lane p ≠ laneLinked ∨ s.legacy p = true ∨ (s.port p).capOk = true))
  ∧ (∃ (s : State) (p : Fin 24),
      s.shape
      ∧ s.laneUp p = true
      ∧ s.legacy p = false)
  ∧ (∃ (s : State) (p : Fin 24),
      (s.laneUp p = false ∨ s.legacy p = true))
  ∧ (∃ (s : State),
      s.shape) :=
  ⟨⟨(fun (p : Fin 24) (q : Nat) (kind : Nat) (k : Nat) (e : Nat) (due : Nat) (wb : List Byte) => ((((((((upLanes bare).fset (R.TILE_LANE_STATUS_STATE p) 5).fsetb (R.TILE_LANE_CTRL_LEGACY p) false).fset R.SAFE_TOT_PORTS_PORTS 0).setPort p fun z => { z with unres := [⟨q, kind, wb, k, e, due⟩], ctrlQ := [] }).setPort p fun z => { z with wire := [], outQ := [], reorder := none }).fsetb (R.TILE_PROTO_STATUS_OWN p) true) : State)) (11) (1) (2) (0) ((fun (p : Fin 24) => ((bare.fget (R.TILE_EPOCH_TILE p)) : Nat)) (11)) (1000000000000000000) ((rep 4 9)), 11, 1, 2, 0, (fun (p : Fin 24) => ((bare.fget (R.TILE_EPOCH_TILE p)) : Nat)) (11), 1000000000000000000, (rep 4 9), by decide +kernel⟩,
    ⟨(fun (p : Fin 24) (q : Nat) (kind : Nat) (k : Nat) (e : Nat) (due : Nat) (wb : List Byte) => ((((((((upLanes bare).fset (R.TILE_LANE_STATUS_STATE p) 5).fsetb (R.TILE_LANE_CTRL_LEGACY p) false).fset R.SAFE_TOT_PORTS_PORTS 0).setPort p fun z => { z with unres := [⟨q, kind, wb, k, e, due⟩], ctrlQ := [] }).setPort p fun z => { z with wire := [], outQ := [], reorder := none }).fsetb (R.TILE_PROTO_STATUS_OWN p) true) : State)) (11) (1) (6) (0) ((fun (p : Fin 24) => ((bare.fget (R.TILE_EPOCH_TILE p)) : Nat)) (11)) (1000000000000000000) ((rep 4 9)), 11, 1, 6, 0, (fun (p : Fin 24) => ((bare.fget (R.TILE_EPOCH_TILE p)) : Nat)) (11), 1000000000000000000, (rep 4 9), by decide +kernel⟩,
    ⟨(fun (p : Fin 24) (q : Nat) (kind : Nat) (k : Nat) (e : Nat) (due : Nat) (wb : List Byte) => ((((((((upLanes bare).fset (R.TILE_LANE_STATUS_STATE p) 5).fsetb (R.TILE_LANE_CTRL_LEGACY p) false).fset R.SAFE_TOT_PORTS_PORTS 0).setPort p fun z => { z with unres := [⟨q, kind, wb, k, e, due⟩], ctrlQ := [] }).fsetb (R.TILE_PROTO_STATUS_OWN p) true).setPort p fun z => { z with reorder := none, outQ := [⟨noSeq, 4, [], 0, 0, 0⟩] }) : State)) (11) (1) (2) (3) ((fun (p : Fin 24) => ((bare.fget (R.TILE_EPOCH_TILE p)) : Nat)) (11)) (0) (([0, 148] : List Byte)), 11, 1, 2, 3, (fun (p : Fin 24) => ((bare.fget (R.TILE_EPOCH_TILE p)) : Nat)) (11), 0, ([0, 148] : List Byte), by decide +kernel⟩,
    ⟨(fun (p : Fin 24) (q : Nat) (kind : Nat) (k : Nat) (e : Nat) (due : Nat) (wb : List Byte) => (((((((((upLanes bare).fset (R.TILE_LANE_STATUS_STATE p) 5).fsetb (R.TILE_LANE_CTRL_LEGACY p) false).fset R.SAFE_TOT_PORTS_PORTS 0).setPort p fun z => { z with unres := [⟨q, kind, wb, k, e, due⟩], ctrlQ := [] }).setPort p fun z => { z with wire := [], outQ := [], reorder := none }).fsetb (R.TILE_PROTO_STATUS_OWN p) false)) : State)) (11) (1) (1) (0) ((fun (p : Fin 24) => ((bare.fget (R.TILE_EPOCH_TILE p)) : Nat)) (11)) (1000000000000000000) ((rep 4 9)), 11, 1, 1, 0, (fun (p : Fin 24) => ((bare.fget (R.TILE_EPOCH_TILE p)) : Nat)) (11), 1000000000000000000, (rep 4 9), by decide +kernel⟩,
    ⟨(fun (p : Fin 24) (q : Nat) (kind : Nat) (k : Nat) (e : Nat) (due : Nat) (wb : List Byte) => (((((((((upLanes bare).fset (R.TILE_LANE_STATUS_STATE p) 5).fsetb (R.TILE_LANE_CTRL_LEGACY p) false).fset R.SAFE_TOT_PORTS_PORTS 0).setPort p fun z => { z with unres := [⟨q, kind, wb, k, e, due⟩], ctrlQ := [] }).setPort p fun z => { z with wire := [], outQ := [], reorder := none }).fsetb (R.TILE_PROTO_STATUS_OWN p) false)) : State)) (11) (1) (3) (0) ((fun (p : Fin 24) => ((bare.fget (R.TILE_EPOCH_TILE p)) : Nat)) (11)) (1000000000000000000) ((rep 4 9)), 11, 1, 3, 0, (fun (p : Fin 24) => ((bare.fget (R.TILE_EPOCH_TILE p)) : Nat)) (11), 1000000000000000000, (rep 4 9), by decide +kernel⟩,
    ⟨(fun (p : Fin 24) (q : Nat) (kind : Nat) (k : Nat) (e : Nat) (due : Nat) (wb : List Byte) => (((((((((upLanes bare).fset (R.TILE_LANE_STATUS_STATE p) 5).fsetb (R.TILE_LANE_CTRL_LEGACY p) false).fset R.SAFE_TOT_PORTS_PORTS 0).setPort p fun z => { z with unres := [⟨q, kind, wb, k, e, due⟩], ctrlQ := [] }).setPort p fun z => { z with wire := [], outQ := [], reorder := none }).fsetb (R.TILE_PROTO_STATUS_OWN p) false)) : State)) (11) (1) (7) (0) ((fun (p : Fin 24) => ((bare.fget (R.TILE_EPOCH_TILE p)) : Nat)) (11)) (1000000000000000000) ((rep 4 9)), 11, 1, 7, 0, (fun (p : Fin 24) => ((bare.fget (R.TILE_EPOCH_TILE p)) : Nat)) (11), 1000000000000000000, (rep 4 9), by decide +kernel⟩,
    ⟨(fun (p : Fin 24) (q : Nat) (kind : Nat) (k : Nat) (e : Nat) (due : Nat) (wb : List Byte) => ((((((((upLanes bare).fset (R.TILE_LANE_STATUS_STATE p) 5).fsetb (R.TILE_LANE_CTRL_LEGACY p) false).fset R.SAFE_TOT_PORTS_PORTS 0).setPort p fun z => { z with unres := [⟨q, kind, wb, k, e, due⟩], ctrlQ := [] }).setPort p fun z => { z with wire := [], outQ := [], reorder := none }).fsetb (R.TILE_PROTO_STATUS_OWN p) true) : State)) (11) (1) (6) (3) ((fun (p : Fin 24) => ((bare.fget (R.TILE_EPOCH_TILE p)) : Nat)) (11)) (1000000000000000000) ((rep 4 9)), 11, 1, 6, 3, (fun (p : Fin 24) => ((bare.fget (R.TILE_EPOCH_TILE p)) : Nat)) (11), 1000000000000000000, (rep 4 9), by decide +kernel⟩,
    ⟨bare, 11, 1, by decide +kernel⟩,
    ⟨(fun (p : Fin 24) (q : Nat) (k : Nat) (e : Nat) (due : Nat) (wb : List Byte) => ((((((upLanes bare).fset (R.TILE_LANE_STATUS_STATE p) 5).fsetb (R.TILE_LANE_CTRL_LEGACY p) false).fset R.SAFE_TOT_PORTS_PORTS 0).setPort p fun z => { z with unres := [⟨q, pktPhaseData, wb, k, e, due⟩], ctrlQ := [] }) : State)) (11) (1) (0) (2049417926) (0) (([1, 3, 240, 1, 3, 3, 21, 2, 3, 2, 141, 72, 3, 154, 2, 1, 125, 75, 3, 0] : List Byte)), 11, 1, 0, 2049417926, 0, ([1, 3, 240, 1, 3, 3, 21, 2, 3, 2, 141, 72, 3, 154, 2, 1, 125, 75, 3, 0] : List Byte), by decide +kernel⟩,
    ⟨(fun (p : Fin 24) (q : Nat) (k : Nat) (e : Nat) (due : Nat) (wb : List Byte) => ((bare.setPort p fun z => { z with unres := [], lost := [⟨q, pktPhaseData, wb, k, e, due⟩] }) : State)) (11) (1) (0) (2049417926) (0) (([1, 3, 240, 1, 3, 3, 21, 2, 3, 2, 141, 72, 3, 154, 2, 1, 125, 75, 3, 0] : List Byte)), 11, 1, 0, 2049417926, 0, ([1, 3, 240, 1, 3, 3, 21, 2, 3, 2, 141, 72, 3, 154, 2, 1, 125, 75, 3, 0] : List Byte), by decide +kernel⟩,
    ⟨bare, 11, 1, by decide +kernel⟩,
    ⟨(fun (p : Fin 24) (q : Nat) (k : Nat) (e : Nat) (due : Nat) (wb : List Byte) => ((((((upLanes bare).fset (R.TILE_LANE_STATUS_STATE p) 5).fsetb (R.TILE_LANE_CTRL_LEGACY p) false).fset R.SAFE_TOT_PORTS_PORTS 0).setPort p fun z => { z with unres := [⟨q, pktSwap, wb, k, e, due⟩], ctrlQ := [] }) : State)) (11) (1) (0) (2049417926) (0) (([1, 3, 240, 1, 3, 3, 21, 2, 3, 2, 141, 72, 3, 154, 2, 1, 125, 75, 3, 0] : List Byte)), 11, 1, 0, 2049417926, 0, ([1, 3, 240, 1, 3, 3, 21, 2, 3, 2, 141, 72, 3, 154, 2, 1, 125, 75, 3, 0] : List Byte), by decide +kernel⟩,
    ⟨(fun (p : Fin 24) (q : Nat) (k : Nat) (e : Nat) (due : Nat) (wb : List Byte) => ((bare.setPort p fun z => { z with unres := [], lost := [⟨q, pktSwap, wb, k, e, due⟩] }) : State)) (11) (1) (0) (2049417926) (0) (([1, 3, 240, 1, 3, 3, 21, 2, 3, 2, 141, 72, 3, 154, 2, 1, 125, 75, 3, 0] : List Byte)), 11, 1, 0, 2049417926, 0, ([1, 3, 240, 1, 3, 3, 21, 2, 3, 2, 141, 72, 3, 154, 2, 1, 125, 75, 3, 0] : List Byte), by decide +kernel⟩,
    ⟨bare, 11, by decide +kernel⟩,
    ⟨(fun (p : Fin 24) => (((((((upLanes bare).fset (R.TILE_LANE_STATUS_STATE p) 5).fsetb (R.TILE_LANE_CTRL_LEGACY p) false).fset R.SAFE_TOT_PORTS_PORTS 0).fset (R.TILE_LANE_STATUS_STATE p) 3).setPort p fun z => { z with unres := [], ctrlQ := [], capOk := false, wire := [], outQ := [] }) : State)) (11), 11, by decide +kernel⟩,
    ⟨(fun (p : Fin 24) => (((((((upLanes bare).fset (R.TILE_LANE_STATUS_STATE p) 5).fsetb (R.TILE_LANE_CTRL_LEGACY p) false).fset R.SAFE_TOT_PORTS_PORTS 0).fset (R.TILE_LANE_STATUS_STATE p) 3).setPort p fun z => { z with ctrlQ := [(4, [])], capOk := false }) : State)) (11), 11, by decide +kernel⟩,
    ⟨bare, 11, by decide +kernel⟩,
    ⟨(fun (p : Fin 24) => (((((upLanes bare).fset (R.TILE_LANE_STATUS_STATE p) 5).fsetb (R.TILE_LANE_CTRL_LEGACY p) false).fset R.SAFE_TOT_PORTS_PORTS 0) : State)) (11), 11, by decide +kernel⟩,
    ⟨bare, 11, by decide +kernel⟩,
    ⟨(fun (p : Fin 24) (e : Nat) => (bare.setPort p fun z => { z with echoOut := [e, e+1] } : State)) (11) (1), by decide +kernel⟩⟩

/-- Each clause of HealthEngineActs has a state and operands that meet its conditions. -/
theorem test_HealthEngineActs_witness :
    (∃ (s : State) (p : Fin 24),
      s.shape
      ∧ s.monitored p = true
      ∧ s.fbit (R.PIX_HLT_PORT_STAT_MASS p) = false
      ∧ max 1 (s.fget R.PIX_HLT_MASS_MASS_N) ≤ (s.hl p).recent)
  ∧ (∃ (s : State) (p : Fin 24),
      (s.monitored p = false ∨ s.fbit (R.PIX_HLT_PORT_STAT_MASS p) = true ∨ (s.hl p).recent < max 1 (s.fget R.PIX_HLT_MASS_MASS_N)))
  ∧ (∃ (s : State) (p : Fin 24),
      s.shape
      ∧ s.monitored p = true
      ∧ s.fbit (R.PIX_HLT_PORT_STAT_STALL p) = false
      ∧ max 2 (s.fget R.PIX_HLT_CTRL_STALL_SC) ≤ (s.hl p).quiet)
  ∧ (∃ (s : State) (p : Fin 24),
      (s.monitored p = false ∨ s.fbit (R.PIX_HLT_PORT_STAT_STALL p) = true ∨ (s.hl p).quiet < max 2 (s.fget R.PIX_HLT_CTRL_STALL_SC)))
  ∧ (∃ (s : State) (p : Fin 24) (i : Nat) (w : Nat) (f : Bool) (l : List IsoReq),
      s.shape
      ∧ (s.hl p).iso = ⟨i, w, f⟩ :: l)
  ∧ (∃ (s : State) (p : Fin 24),
      (s.hl p).iso = [])
  ∧ (∃ (s : State) (p : Fin 24) (n : Nat) (r : ScanRec),
      s.shape
      ∧ s.judges p = true
      ∧ (s.memberOf p).isSome = true
      ∧ (s.hl p).recs.find? (fun r => !r.closed && r.s % 16 == n) = some r)
  ∧ (∃ (s : State) (p : Fin 24) (n : Nat),
      (s.judges p = false ∨ s.memberOf p = none ∨ (s.hl p).recs.find? (fun r => !r.closed && r.s % 16 == n) = none))
  ∧ (∃ (s : State) (p : Fin 24),
      s.shape
      ∧ s.domOn 5 = true
      ∧ s.blockOff (0x50700 + 0x10 * p.val) = false
      ∧ s.monitored p = true
      ∧ (s.hl p).capture = none)
  ∧ (∃ (s : State) (p : Fin 24),
      s.shape
      ∧ s.domOn 5 = true
      ∧ s.blockOff (0x50700 + 0x10 * p.val) = false
      ∧ (s.monitored p = false ∨ (s.hl p).capture.isSome = true))
  ∧ (∃ (s : State) (p : Fin 24) (k : Nat) (f : Bool) (acc : List (Nat × Nat × Nat)),
      s.shape
      ∧ 256 ≤ k
      ∧ (s.hl p).capture = some ⟨k, f, acc.map fun e => (e.1, e.2.1, (e.2.2 : Int))⟩)
  ∧ (∃ (s : State) (p : Fin 24),
      (s.hl p).capture.all (fun c => decide (c.cycles < 256)) = true)
  ∧ (∃ (s : State) (port : Fin 24),
      (s.domOn 5 = false ∨ s.blockOff (0x50700 + 0x10 * port.val) = true)) :=
  ⟨⟨(fun (p : Fin 24) => (((((((((((upLanes bare).fset (R.TILE_LANE_STATUS_STATE p) 5).fsetb (R.TILE_LANE_CTRL_LEGACY p) false).fset R.SAFE_TOT_PORTS_PORTS 0).setGen 0 fun g => { g with members := [⟨p.val,64,64,false⟩] }).fsetb (R.TG_CTRL_ENABLE 0) true).fsetb R.PIX_HLT_CTRL_EN true).fsetb (R.PIX_HLT_PORT_CTRL_MON_EN p) true).fsetb (R.TILE_PROTO_STATUS_OWN p) true).fsetb (R.PIX_HLT_PORT_STAT_MASS p) false).setHl p fun h => { h with cyc := 5, marks := [(5,1024)] } : State)) (0), 0, by decide +kernel⟩,
    ⟨bare, 11, by decide +kernel⟩,
    ⟨(fun (p : Fin 24) => (((((((((((upLanes bare).fset (R.TILE_LANE_STATUS_STATE p) 5).fsetb (R.TILE_LANE_CTRL_LEGACY p) false).fset R.SAFE_TOT_PORTS_PORTS 0).setGen 0 fun g => { g with members := [⟨p.val,64,64,false⟩] }).fsetb (R.TG_CTRL_ENABLE 0) true).fsetb R.PIX_HLT_CTRL_EN true).fsetb (R.PIX_HLT_PORT_CTRL_MON_EN p) true).fsetb (R.TILE_PROTO_STATUS_OWN p) true).fsetb (R.PIX_HLT_PORT_STAT_STALL p) false).setHl p fun h => { h with quiet := 300 } : State)) (11), 11, by decide +kernel⟩,
    ⟨bare, 11, by decide +kernel⟩,
    ⟨(fun (p : Fin 24) (i : Nat) (w : Nat) (f : Bool) (l : List IsoReq) => (((((upLanes bare).fset (R.TILE_LANE_STATUS_STATE p) 5).fsetb (R.TILE_LANE_CTRL_LEGACY p) false).fset R.SAFE_TOT_PORTS_PORTS 0).setHl p fun h => { h with iso := ⟨i, w, f⟩ :: l } : State)) (11) (1) (0) (true) ((fun (i : Nat) => ([⟨i + 1, 2, false⟩] : List IsoReq)) (1)), 11, 1, 0, true, (fun (i : Nat) => ([⟨i + 1, 2, false⟩] : List IsoReq)) (1), by decide +kernel⟩,
    ⟨(fun (p : Fin 24) => (bare.setHl p fun h => { h with iso := [] } : State)) (11), 11, by decide +kernel⟩,
    ⟨(fun (p : Fin 24) => ((((((((((upLanes bare).fset (R.TILE_LANE_STATUS_STATE p) 5).fsetb (R.TILE_LANE_CTRL_LEGACY p) false).fset R.SAFE_TOT_PORTS_PORTS 0).setGen 0 fun g => { g with members := [⟨p.val,64,64,false⟩] }).fsetb (R.TG_CTRL_ENABLE 0) true).fsetb R.PIX_HLT_CTRL_EN true).fsetb (R.PIX_HLT_PORT_CTRL_MON_EN p) true).fsetb (R.TILE_PROTO_STATUS_OWN p) true).setHl p fun h => { h with recs := [{ s := 2 }, { s := 3 }] } : State)) (11), 11, 3, { s := 3 }, by decide +kernel⟩,
    ⟨bare, 11, 1, by decide +kernel⟩,
    ⟨(fun (p : Fin 24) => ((((((((((upLanes bare).fset (R.TILE_LANE_STATUS_STATE p) 5).fsetb (R.TILE_LANE_CTRL_LEGACY p) false).fset R.SAFE_TOT_PORTS_PORTS 0).setGen 0 fun g => { g with members := [⟨p.val,64,64,false⟩] }).fsetb (R.TG_CTRL_ENABLE 0) true).fsetb R.PIX_HLT_CTRL_EN true).fsetb (R.PIX_HLT_PORT_CTRL_MON_EN p) true).fsetb (R.TILE_PROTO_STATUS_OWN p) true).setHl p fun h => { h with capture := none } : State)) (11), 11, by decide +kernel⟩,
    ⟨(fun (p : Fin 24) => ((((((((((upLanes bare).fset (R.TILE_LANE_STATUS_STATE p) 5).fsetb (R.TILE_LANE_CTRL_LEGACY p) false).fset R.SAFE_TOT_PORTS_PORTS 0).setGen 0 fun g => { g with members := [⟨p.val,64,64,false⟩] }).fsetb (R.TG_CTRL_ENABLE 0) true).fsetb R.PIX_HLT_CTRL_EN true).fsetb (R.PIX_HLT_PORT_CTRL_MON_EN p) true).fsetb (R.TILE_PROTO_STATUS_OWN p) true).setHl p fun h => { h with capture := some {} } : State)) (11), 11, by decide +kernel⟩,
    ⟨(fun (p : Fin 24) (k : Nat) (f : Bool) (acc : List (Nat × Nat × Nat)) => ((((((((((upLanes bare).fset (R.TILE_LANE_STATUS_STATE p) 5).fsetb (R.TILE_LANE_CTRL_LEGACY p) false).fset R.SAFE_TOT_PORTS_PORTS 0).setGen 0 fun g => { g with members := [⟨p.val,64,64,false⟩] }).fsetb (R.TG_CTRL_ENABLE 0) true).fsetb R.PIX_HLT_CTRL_EN true).fsetb (R.PIX_HLT_PORT_CTRL_MON_EN p) true).fsetb (R.TILE_PROTO_STATUS_OWN p) true).setHl p fun h => { h with capture := some ⟨k, f, acc.map fun e => (e.1, e.2.1, (e.2.2 : Int))⟩ } : State)) (11) (256) (true) ([]), 11, 256, true, [], by decide +kernel⟩,
    ⟨bare, 11, by decide +kernel⟩,
    ⟨if bare.ticks % 2 = 0 then bare.fset R.PWR_DOM_STATUS_ON 0x20 else bare, 11, by decide +kernel⟩⟩

/-- Each clause of PairingActs has a state and operands that meet its conditions. -/
theorem test_PairingActs_witness :
    (∃ (s : State),
      s.shape
      ∧ s.domOn 8 = true
      ∧ s.domOn 5 = true
      ∧ s.blockOff (0x70000) = false
      ∧ s.fbit R.TWIN_CTRL_EN = false)
  ∧ (∃ (s : State),
      s.domOn 5 = true
      ∧ s.blockOff (0x70000) = false
      ∧ s.fbit R.TWIN_CTRL_EN = true)
  ∧ (∃ (s : State),
      s.domOn 8 = true
      ∧ s.domOn 5 = true
      ∧ s.blockOff (0x70000) = false
      ∧ s.fbit R.TWIN_CTRL_EN = true)
  ∧ (∃ (s : State),
      s.domOn 5 = true
      ∧ s.blockOff (0x70000) = false
      ∧ s.fbit R.TWIN_CTRL_EN = false)
  ∧ (∃ (s : State),
      s.domOn 5 = true
      ∧ s.blockOff (0x70000) = false
      ∧ s.isLead = true
      ∧ s.peerRole = roleCompanion
      ∧ s.twin.missed < 3
      ∧ s.twin.handover = .none)
  ∧ (∃ (s : State),
      s.domOn 5 = true
      ∧ s.blockOff (0x70000) = false
      ∧ (s.isLead = false ∨ s.peerRole ≠ roleCompanion ∨ 3 ≤ s.twin.missed ∨ s.twin.handover ≠ .none))
  ∧ (∃ (s : State),
      s.domOn 5 = true
      ∧ s.blockOff (0x70000) = false
      ∧ s.domOn 8 = true)
  ∧ (∃ (s : State),
      s.role = rolePairing
      ∧ s.fget R.TWIN_CTRL_UNIT = 0)
  ∧ (∃ (s : State),
      s.role = rolePairing
      ∧ s.fbit R.TWIN_STATUS_PEER_ALIVE = false)
  ∧ (∃ (s : State) (w : Bool),
      (s.role ≠ rolePairing ∨ (w = true ∧ s.fbit R.TWIN_STATUS_PEER_ALIVE = true) ∨ (w = false ∧ s.fget R.TWIN_CTRL_UNIT ≠ 0)))
  ∧ (∃ (s : State),
      (s.domOn 5 = false ∨ s.blockOff (0x70000) = true)) :=
  ⟨⟨(upLanes bare).fsetb R.TWIN_CTRL_EN false, by decide +kernel⟩,
    ⟨(upLanes bare).fsetb R.TWIN_CTRL_EN true, by decide +kernel⟩,
    ⟨(upLanes bare).fsetb R.TWIN_CTRL_EN true, by decide +kernel⟩,
    ⟨(upLanes bare).fsetb R.TWIN_CTRL_EN false, by decide +kernel⟩,
    ⟨((((((upLanes bare).fsetb R.TWIN_CTRL_EN true).fset (R.TWIN_LANE_STATUS_STATE 0) 5).fset (R.TWIN_LANE_STATUS_STATE 1) 5).fset R.TWIN_STATUS_ROLE 2).setTwin fun w => { w with peer := 3, missed := 0, handover := .none }), by decide +kernel⟩,
    ⟨(((((upLanes bare).fsetb R.TWIN_CTRL_EN true).fset (R.TWIN_LANE_STATUS_STATE 0) 5).fset (R.TWIN_LANE_STATUS_STATE 1) 5).fset R.TWIN_STATUS_ROLE 3), by decide +kernel⟩,
    ⟨(((((upLanes bare).fsetb R.TWIN_CTRL_EN true).fset (R.TWIN_LANE_STATUS_STATE 0) 5).fset (R.TWIN_LANE_STATUS_STATE 1) 5).fset R.TWIN_STATUS_ROLE 3), by decide +kernel⟩,
    ⟨(((((upLanes bare).fsetb R.TWIN_CTRL_EN true).fset (R.TWIN_LANE_STATUS_STATE 0) 5).fset (R.TWIN_LANE_STATUS_STATE 1) 5).fset R.TWIN_STATUS_ROLE 1).fset R.TWIN_CTRL_UNIT 0, by decide +kernel⟩,
    ⟨(((((upLanes bare).fsetb R.TWIN_CTRL_EN true).fset (R.TWIN_LANE_STATUS_STATE 0) 5).fset (R.TWIN_LANE_STATUS_STATE 1) 5).fset R.TWIN_STATUS_ROLE 1).fsetb R.TWIN_STATUS_PEER_ALIVE false, by decide +kernel⟩,
    ⟨bare, true, by decide +kernel⟩,
    ⟨if bare.ticks % 2 = 0 then bare.fset R.PWR_DOM_STATUS_ON 0x20 else bare, by decide +kernel⟩⟩

/-- Each clause of HeartbeatsAct has a state and operands that meet its conditions. -/
theorem test_HeartbeatsAct_witness :
    (∃ (s : State),
      s.domOn 8 = true
      ∧ s.role ≠ roleSolo)
  ∧ (∃ (s : State),
      s.role = roleSolo)
  ∧ (∃ (s : State) (l : Fin 2) (n : Nat) (body : List Byte),
      s.shape
      ∧ (s.twinTake l n).2 = true
      ∧ body.length = 24)
  ∧ (∃ (s : State) (l : Fin 2) (n : Nat) (body : List Byte),
      (s.twinTake l n).2 = false
      ∧ body.length = 24)
  ∧ (∃ (body : List Byte),
      body.length ≠ 24)
  ∧ (∃ (s : State),
      s.isCompanion = true
      ∧ 3 ≤ s.twin.missed)
  ∧ (∃ (s : State),
      (s.isCompanion = false ∨ s.twin.missed < 3))
  ∧ (∃ (s : State),
      s.domOn 1 = true
      ∧ s.domOn 8 = true)
  ∧ (∃ (s : State),
      (s.domOn 1 = false ∨ s.domOn 8 = false))
  ∧ (∃ (s : State),
      s.domOn 1 = true
      ∧ s.aon.resetHeld = false
      ∧ s.boot.halted = false
      ∧ s.boot.active = false)
  ∧ (∃ (s : State),
      (s.domOn 1 = false ∨ s.aon.resetHeld = true ∨ s.boot.halted = true ∨ s.boot.active = true))
  ∧ (∃ (s : State) (l : Fin 2),
      s.domOn 8 = true
      ∧ (s.laneOf (24 + l) = laneLinked ∨ laneIsUp (s.laneOf (24 + l)) = true))
  ∧ (∃ (s : State) (l : Fin 2),
      (s.domOn 8 = false ∨ (s.laneOf (24 + l) ≠ laneLinked ∧ laneIsUp (s.laneOf (24 + l)) = false))) :=
  ⟨⟨(((((upLanes bare).fsetb R.TWIN_CTRL_EN true).fset (R.TWIN_LANE_STATUS_STATE 0) 5).fset (R.TWIN_LANE_STATUS_STATE 1) 5).fset R.TWIN_STATUS_ROLE 2), by decide +kernel⟩,
    ⟨alone bare, by decide +kernel⟩,
    ⟨((((((upLanes bare).fsetb R.TWIN_CTRL_EN true).fset (R.TWIN_LANE_STATUS_STATE 0) 5).fset (R.TWIN_LANE_STATUS_STATE 1) 5).fset R.TWIN_STATUS_ROLE 2).setTwin fun w => { w with high := none }), 1, 1, ([139] ++ rep 11 0 ++ [6, 0, 0, 0, 77] ++ rep 7 0 : List Byte), by decide +kernel⟩,
    ⟨bare, 0, 4, rep 24 0, by decide +kernel⟩,
    ⟨([0] : List Byte), by decide +kernel⟩,
    ⟨((((((upLanes bare).fsetb R.TWIN_CTRL_EN true).fset (R.TWIN_LANE_STATUS_STATE 0) 5).fset (R.TWIN_LANE_STATUS_STATE 1) 5).fset R.TWIN_STATUS_ROLE 3).setTwin fun w => { w with missed := 3 }), by decide +kernel⟩,
    ⟨bare, by decide +kernel⟩,
    ⟨upAll bare, by decide +kernel⟩,
    ⟨bare, by decide +kernel⟩,
    ⟨{ upAll bare with aon := { bare.aon with resetHeld := false }, boot := { bare.boot with halted := false, active := false } }, by decide +kernel⟩,
    ⟨bare, by decide +kernel⟩,
    ⟨(((((upLanes bare).fsetb R.TWIN_CTRL_EN true).fset (R.TWIN_LANE_STATUS_STATE 0) 5).fset (R.TWIN_LANE_STATUS_STATE 1) 5).fset R.TWIN_STATUS_ROLE 3), 1, by decide +kernel⟩,
    ⟨bare, 1, by decide +kernel⟩⟩

/-- Each clause of LeadPacketsAct has a state and operands that meet its conditions. -/
theorem test_LeadPacketsAct_witness :
    (∃ (s : State) (l : Fin 2) (n : Nat) (body : List Byte),
      s.shape
      ∧ (s.twinTake l n).2 = true
      ∧ s.isCompanion = true
      ∧ (body.length = 16 ∨ body.length = 60)
      ∧ s.twin.waiting = []
      ∧ (List.range 4).all (fun i => (s.px i).shadow.isEmpty && (s.px i).ephem.isEmpty) = true
      ∧ (alignOf body).shade = false)
  ∧ (∃ (s : State) (l : Fin 2) (n : Nat) (body : List Byte),
      s.shape
      ∧ (s.twinTake l n).2 = true
      ∧ s.isCompanion = true
      ∧ (body.length = 16 ∨ body.length = 60))
  ∧ (∃ (s : State) (l : Fin 2) (n : Nat) (body : List Byte),
      ((s.twinTake l n).2 = false ∨ s.isCompanion = false ∨ (body.length ≠ 16 ∧ body.length ≠ 60)))
  ∧ (∃ (s : State) (l : Fin 2) (n : Nat) (body : List Byte) (c : Nat),
      s.shape
      ∧ (s.twinTake l n).2 = true
      ∧ s.isCompanion = true
      ∧ c = leAt body 4 1 / 8 % 4
      ∧ 20 ≤ body.length
      ∧ body.length = 20 + 4 * leAt body 6 2)
  ∧ (∃ (s : State) (l : Fin 2) (n : Nat) (body : List Byte),
      ((s.twinTake l n).2 = false ∨ s.isCompanion = false ∨ body.length < 20 ∨ body.length ≠ 20 + 4 * leAt body 6 2))
  ∧ (∃ (s : State) (l : Fin 2) (n : Nat) (body : List Byte),
      s.shape
      ∧ (s.twinTake l n).2 = true
      ∧ s.isCompanion = true
      ∧ body.length = 12
      ∧ leAt body 0 1 < 24)
  ∧ (∃ (s : State) (l : Fin 2) (n : Nat) (body : List Byte),
      ((s.twinTake l n).2 = false ∨ s.isCompanion = false ∨ body.length ≠ 12 ∨ 24 ≤ leAt body 0 1))
  ∧ (∃ (s : State) (l : Fin 2) (n : Nat) (body : List Byte) (r : ScanRec),
      s.shape
      ∧ (s.twinTake l n).2 = true
      ∧ s.isCompanion = true
      ∧ 8 ≤ body.length
      ∧ body.length = 8 + 4 * leAt body 6 2
      ∧ leAt body 0 1 < 24
      ∧ (s.hl (leAt body 0 1)).recs.find? (fun q => q.s % 16 == leAt body 4 1) = some r)
  ∧ (∃ (s : State) (l : Fin 2) (n : Nat) (body : List Byte),
      ((s.twinTake l n).2 = false ∨ s.isCompanion = false ∨ body.length < 8 ∨ body.length ≠ 8 + 4 * leAt body 6 2 ∨ 24 ≤ leAt body 0 1 ∨ (s.hl (leAt body 0 1)).recs.find? (fun q => q.s % 16 == leAt body 4 1) = none))
  ∧ (∃ (s : State) (l : Fin 2) (n : Nat) (body : List Byte),
      s.shape
      ∧ (s.twinTake l n).2 = true
      ∧ s.twinHears l = true
      ∧ s.isCompanion = true
      ∧ body.length = 24)
  ∧ (∃ (s : State) (l : Fin 2) (n : Nat) (body : List Byte),
      s.shape
      ∧ (s.twinTake l n).2 = false
      ∧ s.twinHears l = true
      ∧ s.isCompanion = true
      ∧ body.length = 24
      ∧ (nth s.twin.surfs (leAt body 4 1 % 4)).digest.map (·.frame) = some (digestOf body).frame)
  ∧ (∃ (s : State) (l : Fin 2) (body : List Byte),
      (s.twinHears l = false ∨ s.isCompanion = false ∨ body.length ≠ 24))
  ∧ (∃ (s : State) (n : Fin 4) (d : TwinDigest),
      s.domOn 8 = true
      ∧ s.isLead = true
      ∧ s.running n = true
      ∧ (nth s.twin.surfs n).own = some d)
  ∧ (∃ (s : State) (n : Fin 4),
      (s.isLead = false ∨ s.running n = false ∨ (nth s.twin.surfs n).own = none))
  ∧ (∃ (s : State) (key : Nat) (c : TwinCmd),
      (s.twin.waiting.find? fun c => c.align.isNone && c.key == key) = some c)
  ∧ (∃ (s : State) (key : Nat) (n : Nat) (p : Present),
      (s.twin.waiting.find? fun c => c.align.isNone && c.key == key) = none
      ∧ s.isCompanion = true
      ∧ s.unnamedPresent key = some (n, p)
      ∧ p.timed = false
      ∧ n < 4
      ∧ s.pix.surfs.length = 4)
  ∧ (∃ (s : State) (key : Nat),
      (s.twin.waiting.find? fun c => c.align.isNone && c.key == key) = none
      ∧ (s.isCompanion = false ∨ s.unnamedPresent key = none)) :=
  ⟨⟨((fun s : State => (State.setTwin (overAll 4 (fun i s => s.setPx i fun q => { q with shadow := [], ephem := [] }) (((((((upLanes s).fsetb R.TWIN_CTRL_EN true).fset (R.TWIN_LANE_STATUS_STATE 0) 5).fset (R.TWIN_LANE_STATUS_STATE 1) 5).fset R.TWIN_STATUS_ROLE 3).setTwin fun w => { w with high := none }))) fun w => { w with waiting := [] })) bare), 1, 1, ([16, 0] ++ rep 14 3 : List Byte), by decide +kernel⟩,
    ⟨((((((upLanes bare).fsetb R.TWIN_CTRL_EN true).fset (R.TWIN_LANE_STATUS_STATE 0) 5).fset (R.TWIN_LANE_STATUS_STATE 1) 5).fset R.TWIN_STATUS_ROLE 3).setTwin fun w => { w with high := none }), 1, 1, ([16, 0] ++ rep 58 3 : List Byte), by decide +kernel⟩,
    ⟨((((((upLanes bare).fsetb R.TWIN_CTRL_EN true).fset (R.TWIN_LANE_STATUS_STATE 0) 5).fset (R.TWIN_LANE_STATUS_STATE 1) 5).fset R.TWIN_STATUS_ROLE 3).setTwin fun w => { w with high := none }), 1, 1, ([3, 0, 3, 1, 3, 240, 1, 3, 3, 21, 2, 3, 2, 141, 72, 3, 154, 2, 1, 125, 75, 3, 0, 137, 0, 0, 1, 183, 140, 0, 2, 241, 0, 2, 3, 153] : List Byte), by decide +kernel⟩,
    ⟨((((((upLanes bare).fsetb R.TWIN_CTRL_EN true).fset (R.TWIN_LANE_STATUS_STATE 0) 5).fset (R.TWIN_LANE_STATUS_STATE 1) 5).fset R.TWIN_STATUS_ROLE 3).setTwin fun w => { w with high := none }), 1, 1, ([1, 0, 0, 0, 20] ++ rep 15 0 : List Byte), (fun (body : List Byte) => ((leAt body 4 1 / 8 % 4) : Nat)) (([1, 0, 0, 0, 20] ++ rep 15 0 : List Byte)), by decide +kernel⟩,
    ⟨((((((upLanes bare).fsetb R.TWIN_CTRL_EN true).fset (R.TWIN_LANE_STATUS_STATE 0) 5).fset (R.TWIN_LANE_STATUS_STATE 1) 5).fset R.TWIN_STATUS_ROLE 3).setTwin fun w => { w with high := none }), 1, 1, ([3, 0, 3, 1, 3, 240, 1, 3, 3, 21, 2, 3, 2, 141, 72, 3, 154, 2, 1, 125, 75, 3, 0, 137, 0, 0, 1, 183, 140, 0, 2, 241, 0, 2, 3, 153] : List Byte), by decide +kernel⟩,
    ⟨((((((upLanes bare).fsetb R.TWIN_CTRL_EN true).fset (R.TWIN_LANE_STATUS_STATE 0) 5).fset (R.TWIN_LANE_STATUS_STATE 1) 5).fset R.TWIN_STATUS_ROLE 3).setTwin fun w => { w with high := none }), 1, 1, ([16, 20, 0, 0, 139, 145, 25, 0, 6, 0, 0, 0] : List Byte), by decide +kernel⟩,
    ⟨((((((upLanes bare).fsetb R.TWIN_CTRL_EN true).fset (R.TWIN_LANE_STATUS_STATE 0) 5).fset (R.TWIN_LANE_STATUS_STATE 1) 5).fset R.TWIN_STATUS_ROLE 3).setTwin fun w => { w with high := none }), 1, 1, ([3, 0, 3, 1, 3, 240, 1, 3, 3, 21, 2, 3, 2, 141, 72, 3, 154, 2, 1, 125, 75, 3, 0, 137, 0, 0, 1, 183, 140, 0, 2, 241, 0, 2, 3, 153] : List Byte), by decide +kernel⟩,
    ⟨(fun (body : List Byte) => (((((((upLanes bare).fsetb R.TWIN_CTRL_EN true).fset (R.TWIN_LANE_STATUS_STATE 0) 5).fset (R.TWIN_LANE_STATUS_STATE 1) 5).fset R.TWIN_STATUS_ROLE 3).setTwin fun w => { w with high := none }).setHl (leAt body 0 1) fun h => { h with recs := [{ s := 2 }, { s := 3 }] } : State)) (([16, 0, 0, 0, 3, 1, 1, 0, 9, 0, 0, 0] : List Byte)), 1, 1, ([16, 0, 0, 0, 3, 1, 1, 0, 9, 0, 0, 0] : List Byte), { s := 3 }, by decide +kernel⟩,
    ⟨((((((upLanes bare).fsetb R.TWIN_CTRL_EN true).fset (R.TWIN_LANE_STATUS_STATE 0) 5).fset (R.TWIN_LANE_STATUS_STATE 1) 5).fset R.TWIN_STATUS_ROLE 3).setTwin fun w => { w with high := none }), 1, 1, ([3, 0, 3, 1, 3, 240, 1, 3, 3, 21, 2, 3, 2, 141, 72, 3, 154, 2, 1, 125, 75, 3, 0, 137, 0, 0, 1, 183, 140, 0, 2, 241, 0, 2, 3, 153] : List Byte), by decide +kernel⟩,
    ⟨((((((upLanes bare).fsetb R.TWIN_CTRL_EN true).fset (R.TWIN_LANE_STATUS_STATE 0) 5).fset (R.TWIN_LANE_STATUS_STATE 1) 5).fset R.TWIN_STATUS_ROLE 3).setTwin fun w => { w with high := none }), 1, 1, ([1, 0, 0, 0, 0] ++ rep 19 1 : List Byte), by decide +kernel⟩,
    ⟨(fun (body : List Byte) => (((((((upLanes bare).fsetb R.TWIN_CTRL_EN true).fset (R.TWIN_LANE_STATUS_STATE 0) 5).fset (R.TWIN_LANE_STATUS_STATE 1) 5).fset R.TWIN_STATUS_ROLE 3).setTwin fun w => { w with high := some 5, seen := [5] }).setTwinSurf (leAt body 4 1 % 4) fun q => { q with digest := some (digestOf body) } : State)) (([6, 0, 0, 0] ++ rep 20 1 : List Byte)), 1, 5, ([6, 0, 0, 0] ++ rep 20 1 : List Byte), by decide +kernel⟩,
    ⟨((((((upLanes bare).fsetb R.TWIN_CTRL_EN true).fset (R.TWIN_LANE_STATUS_STATE 0) 5).fset (R.TWIN_LANE_STATUS_STATE 1) 5).fset R.TWIN_STATUS_ROLE 2).setTwin fun w => { w with high := none }), 1, ([3, 0, 3, 1, 3, 240, 1, 3, 3, 21, 2, 3, 2, 141, 72, 3, 154, 2, 1, 125, 75, 3, 0, 137, 0, 0, 1, 183, 140, 0, 2, 241, 0, 2, 3, 153] : List Byte), by decide +kernel⟩,
    ⟨(fun (n : Fin 4) (d : TwinDigest) => ((((((((upLanes bare).fsetb R.TWIN_CTRL_EN true).fset (R.TWIN_LANE_STATUS_STATE 0) 5).fset (R.TWIN_LANE_STATUS_STATE 1) 5).fset R.TWIN_STATUS_ROLE 2).setTwinSurf n fun q => { q with own := some d }).fsetb (R.TG_CTRL_ENABLE n) true).fsetb (R.TG_STATUS_RUNNING n) true : State)) (3) ({ frame := 5 }), 3, { frame := 5 }, by decide +kernel⟩,
    ⟨bare, 3, by decide +kernel⟩,
    ⟨(fun (c : TwinCmd) => (((((((upLanes bare).fsetb R.TWIN_CTRL_EN true).fset (R.TWIN_LANE_STATUS_STATE 0) 5).fset (R.TWIN_LANE_STATUS_STATE 1) 5).fset R.TWIN_STATUS_ROLE 3).setTwin fun w => { w with waiting := c :: w.waiting }) : State)) ((fun (key : Nat) => ({ desc := { ring := 0, slot := 5, gen := 1, pos := 5, bytes := ([17, 0, 7] ++ rep 13 0 ++ [83, 57, 144, 110] ++ rep 44 0 : List Byte), payload := none }, key := 77, align := none, source := [] } : TwinCmd)) (77)), 77, (fun (key : Nat) => ({ desc := { ring := 0, slot := 5, gen := 1, pos := 5, bytes := ([17, 0, 7] ++ rep 13 0 ++ [83, 57, 144, 110] ++ rep 44 0 : List Byte), payload := none }, key := 77, align := none, source := [] } : TwinCmd)) (77), by decide +kernel⟩,
    ⟨(fun (p : Present) => ((((((((upLanes bare).fsetb R.TWIN_CTRL_EN true).fset (R.TWIN_LANE_STATUS_STATE 0) 5).fset (R.TWIN_LANE_STATUS_STATE 1) 5).fset R.TWIN_STATUS_ROLE 3).setTwin fun w => { w with waiting := [] }).setPx 0 fun q => { q with shadow := [(p, 77)] }) : State)) ({ desc := mkD 1 1 0 [] }), 77, 0, { desc := mkD 1 1 0 [] }, by decide +kernel⟩,
    ⟨(((((upLanes bare).fsetb R.TWIN_CTRL_EN true).fset (R.TWIN_LANE_STATUS_STATE 0) 5).fset (R.TWIN_LANE_STATUS_STATE 1) 5).fset R.TWIN_STATUS_ROLE 2), 256606708, by decide +kernel⟩⟩

/-- Each clause of ComparisonActs has a state and operands that meet its conditions. -/
theorem test_ComparisonActs_witness :
    (∃ (s : State) (n : Fin 4) (d : TwinDigest),
      s.shape
      ∧ s.isCompanion = true
      ∧ s.fget R.TWIN_STATUS_LINKS ≠ 0
      ∧ s.running n = true
      ∧ (nth s.twin.surfs n).own = some d
      ∧ compareDigests d (nth s.twin.surfs n).digest ((nth s.twin.surfs n).offs.contains d.frame) = .equal)
  ∧ (∃ (s : State) (n : Fin 4) (d : TwinDigest),
      s.shape
      ∧ s.isCompanion = true
      ∧ s.fget R.TWIN_STATUS_LINKS ≠ 0
      ∧ s.running n = true
      ∧ (nth s.twin.surfs n).own = some d
      ∧ compareDigests d (nth s.twin.surfs n).digest ((nth s.twin.surfs n).offs.contains d.frame) = .differs)
  ∧ (∃ (s : State) (n : Fin 4) (d : TwinDigest),
      s.shape
      ∧ s.isCompanion = true
      ∧ s.fget R.TWIN_STATUS_LINKS ≠ 0
      ∧ s.running n = true
      ∧ (nth s.twin.surfs n).own = some d
      ∧ compareDigests d (nth s.twin.surfs n).digest ((nth s.twin.surfs n).offs.contains d.frame) = .skipped)
  ∧ (∃ (s : State) (n : Fin 4) (d : TwinDigest),
      s.shape
      ∧ s.isCompanion = true
      ∧ s.fget R.TWIN_STATUS_LINKS ≠ 0
      ∧ s.running n = true
      ∧ (nth s.twin.surfs n).own = some d
      ∧ compareDigests d (nth s.twin.surfs n).digest ((nth s.twin.surfs n).offs.contains d.frame) = .missed)
  ∧ (∃ (s : State) (n : Fin 4),
      s.shape
      ∧ s.isCompanion = true
      ∧ s.fget R.TWIN_STATUS_LINKS = 0
      ∧ s.running n = true)
  ∧ (∃ (s : State) (n : Fin 4),
      (s.isCompanion = false ∨ s.running n = false ∨ (s.fget R.TWIN_STATUS_LINKS ≠ 0 ∧ (nth s.twin.surfs n).own = none)))
  ∧ (∃ (s : State) (l : Fin 2) (n : Nat) (body : List Byte),
      s.shape
      ∧ (s.twinTake l n).2 = true
      ∧ s.isLead = true
      ∧ body.length = 12
      ∧ bitOf (leAt body 5 1) 1 = false)
  ∧ (∃ (s : State) (l : Fin 2) (n : Nat) (body : List Byte) (v : Bool) (w : Nat),
      s.shape
      ∧ (s.twinTake l n).2 = true
      ∧ s.isCompanion = true
      ∧ body.length = 12
      ∧ bitOf (leAt body 5 1) 1 = true
      ∧ s.twin.arb.find? (fun e => e.1 == leAt body 0 4 && e.2.1 == leAt body 4 1 % 4) = some (leAt body 0 4, leAt body 4 1 % 4, v, w))
  ∧ (∃ (s : State) (l : Fin 2) (n : Nat) (body : List Byte),
      ((s.twinTake l n).2 = false ∨ body.length ≠ 12 ∨ (bitOf (leAt body 5 1) 1 = false ∧ s.isLead = false) ∨ (bitOf (leAt body 5 1) 1 = true ∧ (s.isCompanion = false ∨ s.twin.arb.find? (fun e => e.1 == leAt body 0 4 && e.2.1 == leAt body 4 1 % 4) = none))))
  ∧ (∃ (s : State) (f : Nat) (v : Nat) (c : Bool),
      s.isCompanion = true
      ∧ s.twin.arb = [(f, v % 4, c, 3)])
  ∧ (∃ (s : State),
      s.isCompanion = true)
  ∧ (∃ (s : State),
      (s.isCompanion = false ∨ s.twin.arb.all (fun e => decide (e.2.2.2 < 3)) = true)) :=
  ⟨⟨(fun (n : Fin 4) (d : TwinDigest) (e : Option TwinDigest) => (((((((((upLanes bare).fsetb R.TWIN_CTRL_EN true).fset (R.TWIN_LANE_STATUS_STATE 0) 5).fset (R.TWIN_LANE_STATUS_STATE 1) 5).fset R.TWIN_STATUS_ROLE 3).setTwinSurf n fun q => { q with own := some d, digest := e, offs := [] }).fsetb (R.TG_CTRL_ENABLE n) true).fsetb (R.TG_STATUS_RUNNING n) true).fset R.TWIN_STATUS_LINKS 3 : State)) (3) ({ frame := 6, notReady := 0, repeated := false, key := 0, csig := 2, esig := 0, members := 0 }) ((fun (d : TwinDigest) => ((some d) : Option TwinDigest)) ({ frame := 6, notReady := 0, repeated := false, key := 0, csig := 2, esig := 0, members := 0 })), 3, { frame := 6, notReady := 0, repeated := false, key := 0, csig := 2, esig := 0, members := 0 }, by decide +kernel⟩,
    ⟨(fun (n : Fin 4) (d : TwinDigest) (e : Option TwinDigest) => (((((((((upLanes bare).fsetb R.TWIN_CTRL_EN true).fset (R.TWIN_LANE_STATUS_STATE 0) 5).fset (R.TWIN_LANE_STATUS_STATE 1) 5).fset R.TWIN_STATUS_ROLE 3).setTwinSurf n fun q => { q with own := some d, digest := e, offs := [] }).fsetb (R.TG_CTRL_ENABLE n) true).fsetb (R.TG_STATUS_RUNNING n) true).fset R.TWIN_STATUS_LINKS 3 : State)) (3) ({ frame := 6, notReady := 0, repeated := false, key := 0, csig := 2, esig := 0, members := 0 }) ((fun (d : TwinDigest) => ((some { d with csig := d.csig + 1 }) : Option TwinDigest)) ({ frame := 6, notReady := 0, repeated := false, key := 0, csig := 2, esig := 0, members := 0 })), 3, { frame := 6, notReady := 0, repeated := false, key := 0, csig := 2, esig := 0, members := 0 }, by decide +kernel⟩,
    ⟨(fun (n : Fin 4) (d : TwinDigest) (e : Option TwinDigest) => (((((((((upLanes bare).fsetb R.TWIN_CTRL_EN true).fset (R.TWIN_LANE_STATUS_STATE 0) 5).fset (R.TWIN_LANE_STATUS_STATE 1) 5).fset R.TWIN_STATUS_ROLE 3).setTwinSurf n fun q => { q with own := some d, digest := e, offs := [] }).fsetb (R.TG_CTRL_ENABLE n) true).fsetb (R.TG_STATUS_RUNNING n) true).fset R.TWIN_STATUS_LINKS 3 : State)) (3) ({ frame := 6, notReady := 0, repeated := false, key := 0, csig := 2, esig := 0, members := 0 }) ((fun (d : TwinDigest) => ((some { d with key := d.key + 1 }) : Option TwinDigest)) ({ frame := 6, notReady := 0, repeated := false, key := 0, csig := 2, esig := 0, members := 0 })), 3, { frame := 6, notReady := 0, repeated := false, key := 0, csig := 2, esig := 0, members := 0 }, by decide +kernel⟩,
    ⟨(fun (n : Fin 4) (d : TwinDigest) (e : Option TwinDigest) => (((((((((upLanes bare).fsetb R.TWIN_CTRL_EN true).fset (R.TWIN_LANE_STATUS_STATE 0) 5).fset (R.TWIN_LANE_STATUS_STATE 1) 5).fset R.TWIN_STATUS_ROLE 3).setTwinSurf n fun q => { q with own := some d, digest := e, offs := [] }).fsetb (R.TG_CTRL_ENABLE n) true).fsetb (R.TG_STATUS_RUNNING n) true).fset R.TWIN_STATUS_LINKS 3 : State)) (3) ({ frame := 6, notReady := 0, repeated := false, key := 0, csig := 2, esig := 0, members := 0 }) (none), 3, { frame := 6, notReady := 0, repeated := false, key := 0, csig := 2, esig := 0, members := 0 }, by decide +kernel⟩,
    ⟨(fun (n : Fin 4) => (((((upAll bare).fsetb (R.TG_CTRL_ENABLE n) true).fsetb (R.TG_STATUS_RUNNING n) true).fset R.TWIN_STATUS_LINKS 0).fset R.TWIN_STATUS_ROLE 3 : State)) (3), 3, by decide +kernel⟩,
    ⟨bare, 3, by decide +kernel⟩,
    ⟨((((((upLanes bare).fsetb R.TWIN_CTRL_EN true).fset (R.TWIN_LANE_STATUS_STATE 0) 5).fset (R.TWIN_LANE_STATUS_STATE 1) 5).fset R.TWIN_STATUS_ROLE 2).setTwin fun w => { w with high := none }), 1, 1, ([1, 0, 0, 0, 0, 1] ++ rep 6 0 : List Byte), by decide +kernel⟩,
    ⟨(fun (body : List Byte) (v : Bool) (w : Nat) => ((((((((upLanes bare).fsetb R.TWIN_CTRL_EN true).fset (R.TWIN_LANE_STATUS_STATE 0) 5).fset (R.TWIN_LANE_STATUS_STATE 1) 5).fset R.TWIN_STATUS_ROLE 3).setTwin fun w => { w with high := none }).setTwin fun w1 => { w1 with arb := [(leAt body 0 4, leAt body 4 1 % 4, v, w)] }) : State)) (([1, 0, 0, 0, 0, 3] ++ rep 6 0 : List Byte)) (false) (0), 1, 1, ([1, 0, 0, 0, 0, 3] ++ rep 6 0 : List Byte), false, 0, by decide +kernel⟩,
    ⟨((((((upLanes bare).fsetb R.TWIN_CTRL_EN true).fset (R.TWIN_LANE_STATUS_STATE 0) 5).fset (R.TWIN_LANE_STATUS_STATE 1) 5).fset R.TWIN_STATUS_ROLE 3).setTwin fun w => { w with high := none }), 1, 1, ([1, 0, 0, 0, 0, 3] ++ rep 6 0 : List Byte), by decide +kernel⟩,
    ⟨(fun (f : Nat) (v : Nat) (c : Bool) => (((((((upLanes bare).fsetb R.TWIN_CTRL_EN true).fset (R.TWIN_LANE_STATUS_STATE 0) 5).fset (R.TWIN_LANE_STATUS_STATE 1) 5).fset R.TWIN_STATUS_ROLE 3).setTwin fun w => { w with arb := [(f, v % 4, c, 3)] }) : State)) (256606708) (16) (false), 256606708, 16, false, by decide +kernel⟩,
    ⟨((((((upLanes bare).fsetb R.TWIN_CTRL_EN true).fset (R.TWIN_LANE_STATUS_STATE 0) 5).fset (R.TWIN_LANE_STATUS_STATE 1) 5).fset R.TWIN_STATUS_ROLE 3).setTwin fun w => { w with arb := [(1, 2, true, 3), (2, 2, false, 1), (3, 1, false, 4)] }), by decide +kernel⟩,
    ⟨bare, by decide +kernel⟩⟩

/-- Each clause of NetworkTimeActs has a state and operands that meet its conditions. -/
theorem test_NetworkTimeActs_witness :
    (∃ (s : State) (p : Fin 2) (domain : Nat) (origin : Int) (since : Nat),
      s.netUp p = true
      ∧ domain = 0
      ∧ s.fget (R.NET_PORT_STATUS_ROLE p) = netSlave
      ∧ absNat (s.syncOffset p origin since) ≤ s.syncNs * 2 ^ 32)
  ∧ (∃ (s : State) (p : Fin 2) (domain : Nat) (origin : Int) (since : Nat),
      s.netUp p = true
      ∧ domain = 0
      ∧ s.fget (R.NET_PORT_STATUS_ROLE p) = netSlave
      ∧ s.syncNs * 2 ^ 32 < absNat (s.syncOffset p origin since))
  ∧ (∃ (s : State) (p : Fin 2) (domain : Nat),
      s.netUp p = true
      ∧ domain = 0
      ∧ s.fget (R.NET_PORT_STATUS_ROLE p) ≠ netSlave
      ∧ s.fget (R.NET_PORT_STATUS_ROLE p) ≠ netDisabled)
  ∧ (∃ (s : State) (p : Fin 2) (domain : Nat),
      s.netUp p = true
      ∧ (domain ≠ 0 ∨ s.fget (R.NET_PORT_STATUS_ROLE p) = netDisabled))
  ∧ (∃ (s : State) (p : Fin 2),
      s.netUp p = false)
  ∧ (∃ (s : State),
      s.domOn 9 = true
      ∧ s.clkState = clkSynced)
  ∧ (∃ (s : State),
      (s.domOn 9 = false ∨ s.clkState ≠ clkSynced))
  ∧ (∃ (s : State) (d : Int),
      s.domOn 9 = true
      ∧ s.clk.stepBy = some d)
  ∧ (∃ (s : State),
      (s.domOn 9 = false ∨ s.clk.stepBy = none)) :=
  ⟨⟨(fun (p : Fin 2) => (((((((upAll bare).fsetb (R.NET_PORT_CTRL_EN p) true).fsetb (R.NET_PORT_STATUS_LINK p) true)).fsetb (R.NET_PORT_STATUS_AS_CAPABLE p) true).fset (R.NET_PORT_STATUS_ROLE p) 1) : State)) (1), 1, 0, 524288, 13, by decide +kernel⟩,
    ⟨(fun (p : Fin 2) => (((((((upAll bare).fsetb (R.NET_PORT_CTRL_EN p) true).fsetb (R.NET_PORT_STATUS_LINK p) true)).fsetb (R.NET_PORT_STATUS_AS_CAPABLE p) true).fset (R.NET_PORT_STATUS_ROLE p) 1) : State)) (0), 0, 0, 160872404, 21, by decide +kernel⟩,
    ⟨(fun (p : Fin 2) => (((((((upAll bare).fsetb (R.NET_PORT_CTRL_EN p) true).fsetb (R.NET_PORT_STATUS_LINK p) true)).fsetb (R.NET_PORT_STATUS_AS_CAPABLE p) true).fset (R.NET_PORT_STATUS_ROLE p) 1).fset (R.NET_PORT_STATUS_ROLE p) 2 : State)) (1), 1, 0, by decide +kernel⟩,
    ⟨(fun (p : Fin 2) => (((((((upAll bare).fsetb (R.NET_PORT_CTRL_EN p) true).fsetb (R.NET_PORT_STATUS_LINK p) true)).fsetb (R.NET_PORT_STATUS_AS_CAPABLE p) true).fset (R.NET_PORT_STATUS_ROLE p) 1).fset (R.NET_PORT_STATUS_ROLE p) 0 : State)) (1), 1, 0, by decide +kernel⟩,
    ⟨bare, 1, by decide +kernel⟩,
    ⟨(upAll bare).fset R.TIME_STATUS_STATE 1, by decide +kernel⟩,
    ⟨bare, by decide +kernel⟩,
    ⟨(fun (d : Int) => ({ upAll bare with clk := { bare.clk with stepBy := some d } } : State)) (256606708), 256606708, by decide +kernel⟩,
    ⟨{ bare with clk := { bare.clk with stepBy := none } }, by decide +kernel⟩⟩

/-- Each clause of NetworkPortsAct has a state and operands that meet its conditions. -/
theorem test_NetworkPortsAct_witness :
    (∃ (s : State) (p : Fin 2) (kind : Fin 3) (domain : Nat),
      s.shape
      ∧ kind.val = 0
      ∧ domain = 0
      ∧ s.netCapable p = true)
  ∧ (∃ (s : State) (p : Fin 2) (kind : Fin 3) (domain : Nat),
      s.netUp p = true
      ∧ kind.val = 0
      ∧ domain = 0
      ∧ s.netCapable p = false)
  ∧ (∃ (s : State) (p : Fin 2) (kind : Fin 3) (domain : Nat),
      s.netUp p = true
      ∧ (kind.val = 2 ∨ (kind.val = 0 ∧ domain ≠ 0)))
  ∧ (∃ (s : State) (p : Fin 2) (kind : Fin 3),
      (s.netUp p = false ∨ kind.val = 1))
  ∧ (∃ (s : State),
      s.shape
      ∧ s.domOn 9 = true)
  ∧ (∃ (s : State),
      s.domOn 9 = false)
  ∧ (∃ (s : State) (a : Announce) (b : Announce) (p : Fin 2),
      s.shape
      ∧ s.slavePort = some p.val
      ∧ s.netAnn p = some a
      ∧ s.netAnn (otherPort p) = some b
      ∧ a.gm = b.gm)
  ∧ (∃ (s : State) (p : Fin 2),
      (s.slavePort = none ∨ (s.slavePort = some p.val ∧ (s.netAnn (otherPort p)).map (·.gm) ≠ (s.netAnn p).map (·.gm))))
  ∧ (∃ (s : State) (p : Fin 2),
      s.shape
      ∧ s.netUp p = true)
  ∧ (∃ (s : State) (p : Fin 2),
      s.netUp p = false)
  ∧ (∃ (s : State) (p : Fin 2) (domain : Nat),
      s.netUp p = true
      ∧ domain = 0)
  ∧ (∃ (s : State) (p : Fin 2) (domain : Nat),
      s.netUp p = true
      ∧ domain ≠ 0)
  ∧ (∃ (s : State) (p : Fin 2) (seq : Nat) (domain : Nat),
      s.shape
      ∧ s.netUp p = true
      ∧ domain = 0
      ∧ (s.netPort p).waiting = true
      ∧ (s.netPort p).seq = seq)
  ∧ (∃ (s : State) (p : Fin 2) (seq : Nat) (domain : Nat),
      s.netUp p = true
      ∧ (domain ≠ 0 ∨ (s.netPort p).waiting = false ∨ (s.netPort p).seq ≠ seq))
  ∧ (∃ (s : State),
      s.domOn 9 = true) :=
  ⟨⟨(fun (p : Fin 2) => ((((((upAll bare).fsetb (R.NET_PORT_CTRL_EN p) true).fsetb (R.NET_PORT_STATUS_LINK p) true)).fsetb (R.NET_PORT_STATUS_AS_CAPABLE p) true) : State)) (1), 1, 0, 0, by decide +kernel⟩,
    ⟨(fun (p : Fin 2) => ((((((upAll bare).fsetb (R.NET_PORT_CTRL_EN p) true).fsetb (R.NET_PORT_STATUS_LINK p) true)).fsetb (R.NET_PORT_STATUS_AS_CAPABLE p) true).fsetb (R.NET_PORT_STATUS_AS_CAPABLE p) false : State)) (1), 1, 0, 0, by decide +kernel⟩,
    ⟨(fun (p : Fin 2) => ((((((upAll bare).fsetb (R.NET_PORT_CTRL_EN p) true).fsetb (R.NET_PORT_STATUS_LINK p) true)).fsetb (R.NET_PORT_STATUS_AS_CAPABLE p) true) : State)) (1), 1, 0, 16, by decide +kernel⟩,
    ⟨bare, 1, 0, by decide +kernel⟩,
    ⟨(fun (p : Fin 2) => ((((((upAll bare).fsetb (R.NET_PORT_CTRL_EN p) true).fsetb (R.NET_PORT_STATUS_LINK p) true)).fsetb (R.NET_PORT_STATUS_AS_CAPABLE p) true) : State)) (1), by decide +kernel⟩,
    ⟨bare, by decide +kernel⟩,
    ⟨(fun (a : Announce) (b : Announce) => (((fun s : State => (let s := (((((upAll s).fsetb (R.NET_PORT_CTRL_EN 0) true).fsetb (R.NET_PORT_STATUS_LINK 0) true)).fsetb (R.NET_PORT_STATUS_AS_CAPABLE 0) true); let s := (((((upAll s).fsetb (R.NET_PORT_CTRL_EN 1) true).fsetb (R.NET_PORT_STATUS_LINK 1) true)).fsetb (R.NET_PORT_STATUS_AS_CAPABLE 1) true); (s.setNet 0 fun q => { q with ann := some a, silent := false }).setNet 1 fun q => { q with ann := some b, silent := false })) bare) : State)) ({ vector := [1], gm := 7 }) ({ vector := [2], gm := 7 }), { vector := [1], gm := 7 }, { vector := [2], gm := 7 }, 0, by decide +kernel⟩,
    ⟨bare, 1, by decide +kernel⟩,
    ⟨(fun (p : Fin 2) => ((((((upAll bare).fsetb (R.NET_PORT_CTRL_EN p) true).fsetb (R.NET_PORT_STATUS_LINK p) true)).fsetb (R.NET_PORT_STATUS_AS_CAPABLE p) true) : State)) (1), 1, by decide +kernel⟩,
    ⟨bare, 1, by decide +kernel⟩,
    ⟨(fun (p : Fin 2) => ((((((upAll bare).fsetb (R.NET_PORT_CTRL_EN p) true).fsetb (R.NET_PORT_STATUS_LINK p) true)).fsetb (R.NET_PORT_STATUS_AS_CAPABLE p) true) : State)) (1), 1, 0, by decide +kernel⟩,
    ⟨(fun (p : Fin 2) => ((((((upAll bare).fsetb (R.NET_PORT_CTRL_EN p) true).fsetb (R.NET_PORT_STATUS_LINK p) true)).fsetb (R.NET_PORT_STATUS_AS_CAPABLE p) true) : State)) (1), 1, 3, by decide +kernel⟩,
    ⟨(fun (p : Fin 2) (seq : Nat) => ((((((upAll bare).fsetb (R.NET_PORT_CTRL_EN p) true).fsetb (R.NET_PORT_STATUS_LINK p) true)).fsetb (R.NET_PORT_STATUS_AS_CAPABLE p) true).setNet p fun q => { q with waiting := true, seq := seq } : State)) (1) (1), 1, 1, 0, by decide +kernel⟩,
    ⟨(fun (p : Fin 2) => ((((((upAll bare).fsetb (R.NET_PORT_CTRL_EN p) true).fsetb (R.NET_PORT_STATUS_LINK p) true)).fsetb (R.NET_PORT_STATUS_AS_CAPABLE p) true) : State)) (1), 1, 1, 0, by decide +kernel⟩,
    ⟨upAll bare, by decide +kernel⟩⟩

/-- Each clause of ThermalActs has a state and operands that meet its conditions. -/
theorem test_ThermalActs_witness :
    (∃ (s : State),
      s.domOn 10 = true)
  ∧ (∃ (s : State),
      s.domOn 10 = false)
  ∧ (∃ (s : State) (c : Fin 4) (u : Nat),
      s.domOn 10 = true
      ∧ s.fbit (R.THERM_RCH_CFG_EN c) = true
      ∧ s.shape
      ∧ rchLevel u = .inside)
  ∧ (∃ (s : State) (c : Fin 4) (u : Nat),
      s.domOn 10 = true
      ∧ s.fbit (R.THERM_RCH_CFG_EN c) = true
      ∧ s.shape
      ∧ rchLevel u = .above)
  ∧ (∃ (s : State) (c : Fin 4) (u : Nat),
      s.domOn 10 = true
      ∧ s.fbit (R.THERM_RCH_CFG_EN c) = true
      ∧ s.shape
      ∧ rchLevel u = .below)
  ∧ (∃ (s : State) (c : Fin 4),
      (s.domOn 10 = false ∨ s.fbit (R.THERM_RCH_CFG_EN c) = false))
  ∧ (∃ (s : State),
      s.domOn 10 = true
      ∧ s.fbit R.THERM_THROT_EN = false)
  ∧ (∃ (s : State),
      s.domOn 10 = true
      ∧ s.fbit R.THERM_THROT_EN = true
      ∧ s.throtTh < tempWord s.tGov.2)
  ∧ (∃ (s : State),
      s.domOn 10 = true
      ∧ s.fbit R.THERM_THROT_EN = true
      ∧ tempWord s.tGov.2 ≤ s.throtTh
      ∧ tempWord s.tGov.2 < s.throtTh - s.throtHyst * 16)
  ∧ (∃ (s : State),
      s.domOn 10 = true
      ∧ s.fbit R.THERM_THROT_EN = true
      ∧ tempWord s.tGov.2 ≤ s.throtTh
      ∧ s.throtTh - s.throtHyst * 16 ≤ tempWord s.tGov.2)
  ∧ (∃ (s : State),
      s.domOn 1 = true
      ∧ s.fbit R.SAFE_TOT_SRC_THERMAL = false)
  ∧ (∃ (s : State),
      s.domOn 1 = true
      ∧ s.fbit R.SAFE_TOT_SRC_THERMAL = true)
  ∧ (∃ (s : State),
      s.domOn 1 = false) :=
  ⟨⟨upAll bare, by decide +kernel⟩,
    ⟨bare.fset R.PWR_DOM_STATUS_ON 0xBFF, by decide +kernel⟩,
    ⟨(fun (c : Fin 4) => (((upAll bare).fsetb (R.THERM_RCH_CFG_EN c) true).setTherm fun q => { q with rch := upd (fun _ => (0,0,bare.ticks % 4)) (rep 4 (0,0,0)) c } : State)) (3), 3, 388292, by decide +kernel⟩,
    ⟨(fun (c : Fin 4) => (((upAll bare).fsetb (R.THERM_RCH_CFG_EN c) true).setTherm fun q => { q with rch := upd (fun _ => (bare.ticks % 4,0,0)) (rep 4 (0,0,0)) c } : State)) (3), 3, 2138293, by decide +kernel⟩,
    ⟨(fun (c : Fin 4) => (((upAll bare).fsetb (R.THERM_RCH_CFG_EN c) true).setTherm fun q => { q with rch := upd (fun _ => (0,bare.ticks % 4,0)) (rep 4 (0,0,0)) c } : State)) (3), 3, 38292, by decide +kernel⟩,
    ⟨(fun (c : Fin 4) => (bare.fsetb (R.THERM_RCH_CFG_EN c) false : State)) (3), 3, by decide +kernel⟩,
    ⟨(upAll bare).fsetb R.THERM_THROT_EN false, by decide +kernel⟩,
    ⟨(((((((upAll bare).fsetb R.THERM_THROT_EN true).fseti R.THERM_TEMP_DIE_T 2300).fsetb R.THERM_STATUS_STARTUP false).fset R.THERM_STATUS_STEP (bare.ticks % 8)).fsetb R.THERM_STATUS_RECOVERY false).setTherm fun q => { q with hi := 248 + bare.ticks % 3 }), by decide +kernel⟩,
    ⟨(((((((upAll bare).fsetb R.THERM_THROT_EN true).fseti R.THERM_TEMP_DIE_T 100).fsetb R.THERM_STATUS_STARTUP false).fset R.THERM_STATUS_STEP (bare.ticks % 8)).fsetb R.THERM_STATUS_RECOVERY false).setTherm fun q => { q with lo := 248 + bare.ticks % 3 }), by decide +kernel⟩,
    ⟨((fun s : State => (let s := (((((((upAll s).fsetb R.THERM_THROT_EN true).fseti R.THERM_TEMP_DIE_T 1400).fsetb R.THERM_STATUS_STARTUP false).fset R.THERM_STATUS_STEP 3).fsetb R.THERM_STATUS_RECOVERY false).setTherm fun q => { q with lo := 100 }); let g := s.tGov.2; (s.fseti R.THERM_THROT_THROT_TH (g + 1)).fset R.THERM_THROT_HYST 3)) bare), by decide +kernel⟩,
    ⟨(upAll bare).fsetb R.SAFE_TOT_SRC_THERMAL false, by decide +kernel⟩,
    ⟨(upAll bare).fsetb R.SAFE_TOT_SRC_THERMAL true, by decide +kernel⟩,
    ⟨bare.fset R.PWR_DOM_STATUS_ON (if bare.ticks % 2 = 0 then 1 else 0xFFD), by decide +kernel⟩⟩

/-- Each clause of CalibrationActs has a state and operands that meet its conditions. -/
theorem test_CalibrationActs_witness :
    (∃ (s : State),
      s.domOn 5 = true
      ∧ s.blockOff (0xA0000) = false
      ∧ s.domOn 10 = true
      ∧ s.therm.run = none)
  ∧ (∃ (s : State),
      s.domOn 5 = true
      ∧ s.blockOff (0xA0000) = false
      ∧ s.domOn 10 = true
      ∧ s.therm.run.isSome = true)
  ∧ (∃ (s : State),
      s.domOn 10 = true
      ∧ s.fbit R.THERM_STATUS_CAL_FAULT = true
      ∧ s.therm.run = none)
  ∧ (∃ (s : State),
      s.domOn 10 = true
      ∧ s.fbit R.THERM_STATUS_CAL_FAULT = true
      ∧ s.therm.run.isSome = true)
  ∧ (∃ (s : State),
      (s.domOn 10 = false ∨ s.fbit R.THERM_STATUS_CAL_FAULT = false))
  ∧ (∃ (s : State) (r : CalRun),
      s.domOn 10 = true
      ∧ s.therm.run = some r
      ∧ r.item ≤ 8
      ∧ s.calSkips r.item = true)
  ∧ (∃ (s : State) (first : List Int) (second : List Int) (r : CalRun),
      s.domOn 10 = true
      ∧ s.therm.run = some r
      ∧ r.item ≤ 8
      ∧ s.calSkips r.item = false
      ∧ (first.zip second).all (fun e => itemAgrees r.item e.1 e.2) = true)
  ∧ (∃ (s : State) (first : List Int) (second : List Int) (r : CalRun),
      s.domOn 10 = true
      ∧ s.therm.run = some r
      ∧ r.item ≤ 8
      ∧ s.calSkips r.item = false
      ∧ (first.zip second).all (fun e => itemAgrees r.item e.1 e.2) = false)
  ∧ (∃ (s : State),
      (s.domOn 10 = false ∨ s.therm.run = none))
  ∧ (∃ (s : State) (r : CalRun),
      s.therm.run = some r
      ∧ 8 < r.item)
  ∧ (∃ (s : State) (r : CalRun),
      s.domOn 10 = true
      ∧ s.therm.run = some r
      ∧ 9 ≤ r.item)
  ∧ (∃ (s : State) (r : CalRun),
      s.therm.run = some r
      ∧ r.item < 9)
  ∧ (∃ (s : State) (codes : List Nat) (predicted : List Nat),
      s.domOn 10 = true
      ∧ ((List.range 3).find? (fun i => decide (4 < absNat (((nth codes i : Nat) : Int) - ((nth predicted i : Nat) : Int))))).isSome = true)
  ∧ (∃ (s : State) (codes : List Nat) (predicted : List Nat),
      (s.domOn 10 = false ∨ (List.range 3).find? (fun i => decide (4 < absNat (((nth codes i : Nat) : Int) - ((nth predicted i : Nat) : Int)))) = none))
  ∧ (∃ (s : State),
      (s.domOn 5 = false ∨ s.blockOff (0xA0000) = true)) :=
  ⟨⟨((upAll bare).setTherm fun q => { q with run := none }), by decide +kernel⟩,
    ⟨((upAll bare).setTherm fun q => { q with run := some { item := 3, attempts := 0, failed := false, diode := false, recovered := false, tStart := 300 } }), by decide +kernel⟩,
    ⟨((upAll bare).setTherm fun q => { q with run := none }).fsetb R.THERM_STATUS_CAL_FAULT true, by decide +kernel⟩,
    ⟨((upAll bare).setTherm fun q => { q with run := some { item := 3, attempts := 0, failed := false, diode := false, recovered := false, tStart := 300 } }).fsetb R.THERM_STATUS_CAL_FAULT true, by decide +kernel⟩,
    ⟨bare, by decide +kernel⟩,
    ⟨(((upAll bare).setTherm fun q => { q with run := some { item := 7, attempts := 1, failed := false, diode := false, recovered := false, tStart := 300 } })).fset R.TIME_STATUS_STATE 0, ({ item := 7, attempts := 1, failed := false, diode := false, recovered := false, tStart := 300 }), by decide +kernel⟩,
    ⟨((upAll bare).setTherm fun q => { q with run := some { item := (bare.ticks % 9), attempts := 2, failed := false, diode := false, recovered := false, tStart := 300 } }), [-1, -3, 0, -1, -3643], (fun (first : List Int) => (first : List Int)) ([-1, -3, 0, -1, -3643]), ({ item := (bare.ticks % 9), attempts := 2, failed := false, diode := false, recovered := false, tStart := 300 }), by decide +kernel⟩,
    ⟨((upAll bare).setTherm fun q => { q with run := some { item := (bare.ticks % 9), attempts := (bare.ticks % 4), failed := false, diode := false, recovered := false, tStart := 300 } }), [5,-70], [5,70], ({ item := (bare.ticks % 9), attempts := (bare.ticks % 4), failed := false, diode := false, recovered := false, tStart := 300 }), by decide +kernel⟩,
    ⟨bare, by decide +kernel⟩,
    ⟨((upAll bare).setTherm fun q => { q with run := some { item := 9, attempts := 0, failed := false, diode := false, recovered := false, tStart := 300 } }), ({ item := 9, attempts := 0, failed := false, diode := false, recovered := false, tStart := 300 }), by decide +kernel⟩,
    ⟨((upAll bare).setTherm fun q => { q with run := some { item := (9 + bare.ticks % 2), attempts := 0, failed := (bare.ticks % 3 == 0), diode := false, recovered := (bare.ticks % 5 < 3), tStart := 300 } }).fsetb R.THERM_STATUS_CAL_PENDING (bare.ticks % 7 < 3), ({ item := (9 + bare.ticks % 2), attempts := 0, failed := (bare.ticks % 3 == 0), diode := false, recovered := (bare.ticks % 5 < 3), tStart := 300 }), by decide +kernel⟩,
    ⟨((upAll bare).setTherm fun q => { q with run := some { item := 4, attempts := 0, failed := false, diode := false, recovered := false, tStart := 300 } }), ({ item := 4, attempts := 0, failed := false, diode := false, recovered := false, tStart := 300 }), by decide +kernel⟩,
    ⟨if bare.ticks % 2 = 0 then upAll bare else bare.fset R.PWR_DOM_STATUS_ON 0xFFD, [3,2048,3600], [3, 2050, 3500], by decide +kernel⟩,
    ⟨upAll bare, [3,2048,3600], [3, 2052, 3600], by decide +kernel⟩,
    ⟨if bare.ticks % 2 = 0 then bare.fset R.PWR_DOM_STATUS_ON 0x20 else bare, by decide +kernel⟩⟩

/-- Each clause of SoundingActs has a state and operands that meet its conditions. -/
theorem test_SoundingActs_witness :
    (∃ (s : State) (p : Fin 24),
      s.shape
      ∧ s.domOn 1 = true
      ∧ s.portOn p = true
      ∧ s.fbit (R.TILE_LANE_CTRL_EN p) = false
      ∧ s.lane p = laneOff)
  ∧ (∃ (s : State) (p : Fin 24),
      s.shape
      ∧ s.domOn 1 = true
      ∧ (s.portOn p = false ∨ s.fbit (R.TILE_LANE_CTRL_EN p) = true ∨ s.lane p ≠ laneOff))
  ∧ (∃ (s : State),
      s.domOn 1 = false)
  ∧ (∃ (s : State) (p : Fin 24),
      (s.port p).sounding = false)
  ∧ (∃ (s : State) (p : Fin 24),
      s.shape
      ∧ (s.port p).sounding = true)
  ∧ (∃ (s : State) (u : Fin 256),
      s.domOn 5 = true
      ∧ s.blockOff (0xB0040) = false
      ∧ s.domOn 1 = true
      ∧ s.engineAllowed = true
      ∧ s.lowestSurf = none
      ∧ s.engineUnit u = true)
  ∧ (∃ (s : State) (u : Fin 256),
      s.domOn 5 = true
      ∧ s.blockOff (0xB0040) = false
      ∧ s.domOn 1 = true
      ∧ (s.engineAllowed = false ∨ s.lowestSurf ≠ none ∨ s.engineUnit u = false))
  ∧ (∃ (s : State) (u : Nat) (k : Nat),
      s.domOn 1 = true
      ∧ s.test.engine = some (u, k))
  ∧ (∃ (s : State),
      (s.domOn 1 = false ∨ s.test.engine = none))
  ∧ (∃ (s : State),
      (s.domOn 5 = false ∨ s.blockOff (0xB0040) = true)) :=
  ⟨⟨(fun (p : Fin 24) => (((upLanes bare).fsetb (R.TILE_LANE_CTRL_EN p) false).fset (R.TILE_LANE_STATUS_STATE p) 0 : State)) (11), 11, by decide +kernel⟩,
    ⟨(upLanes bare).fsetb (R.TILE_LANE_CTRL_EN 0) true, 0, by decide +kernel⟩,
    ⟨bare.fset R.PWR_DOM_STATUS_ON 0xFFD, by decide +kernel⟩,
    ⟨bare, 11, by decide +kernel⟩,
    ⟨(fun (p : Fin 24) => (bare.setPort p fun q => { q with sounding := true } : State)) (11), 11, by decide +kernel⟩,
    ⟨(noSurf (upLanes bare)).fset R.BOOT_STATUS_LC 3, 4, by decide +kernel⟩,
    ⟨upAll bare, 83, by decide +kernel⟩,
    ⟨(fun (u : Nat) (k : Nat) => ({ upAll bare with test := { bare.test with engine := some (u, k) } } : State)) (8) (2), 8, 2, by decide +kernel⟩,
    ⟨bare, by decide +kernel⟩,
    ⟨if bare.ticks % 2 = 0 then bare.fset R.PWR_DOM_STATUS_ON 0x20 else bare, by decide +kernel⟩⟩

/-- Each clause of MemoryProtectionActs has a state and operands that meet its conditions. -/
theorem test_MemoryProtectionActs_witness :
    (∃ (s : State) (a : Nat) (w : List Byte),
      s.domOn 4 = true
      ∧ (rsDecode (a / 64) w).outcome = 0)
  ∧ (∃ (s : State) (a : Nat) (w : List Byte),
      s.domOn 4 = true
      ∧ (rsDecode (a / 64) w).outcome = 1)
  ∧ (∃ (s : State) (a : Nat) (w : List Byte),
      s.domOn 4 = true
      ∧ (rsDecode (a / 64) w).outcome = 2)
  ∧ (∃ (s : State) (a : Nat) (w : List Byte),
      s.domOn 4 = true
      ∧ (rsDecode (a / 64) w).outcome = 3)
  ∧ (∃ (s : State),
      s.domOn 4 = false)
  ∧ (∃ (s : State) (w : List Byte),
      s.domOn 4 = true
      ∧ (rsDecode (s.fget R.MEM_SCRUB_STAT_LINE) w).outcome = 0)
  ∧ (∃ (s : State) (w : List Byte),
      s.domOn 4 = true
      ∧ (rsDecode (s.fget R.MEM_SCRUB_STAT_LINE) w).outcome = 1)
  ∧ (∃ (s : State) (w : List Byte),
      s.domOn 4 = true
      ∧ (rsDecode (s.fget R.MEM_SCRUB_STAT_LINE) w).outcome = 2)
  ∧ (∃ (s : State) (w : List Byte),
      s.domOn 4 = true
      ∧ (rsDecode (s.fget R.MEM_SCRUB_STAT_LINE) w).outcome = 3)
  ∧ (∃ (s : State) (b : Bool) (u : Nat) (g : Nat),
      (s.domOn 1 = false ∨ (b = false ∧ s.userOn u g = false)))
  ∧ (∃ (s : State) (b : Bool) (u : Nat) (g : Nat),
      s.domOn 1 = true
      ∧ (b = true ∨ s.userOn u g = true))
  ∧ (∃ (s : State),
      s.domOn 1 = true)
  ∧ (∃ (s : State) (u : Nat) (g : Nat),
      s.domOn 1 = true
      ∧ s.userOn u g = true) :=
  ⟨⟨upAll bare, 256606708, (rep 64 0 ++ [235, 175, 86, 153, 133, 139, 162, 51] : List Byte), by decide +kernel⟩,
    ⟨upAll bare, 256606708, (rep 7 0 ++ [1] ++ rep 32 0 ++ [3] ++ rep 23 0 ++ [235, 175, 86, 153, 133, 139, 162, 51] : List Byte), by decide +kernel⟩,
    ⟨upAll bare, 256606708, (rep 64 0 ++ [235, 175, 86, 153, 133, 139, 163, 51] : List Byte), by decide +kernel⟩,
    ⟨upAll bare, 256606708, ([9] ++ rep 9 0 ++ [9] ++ rep 9 0 ++ [9] ++ rep 9 0 ++ [9] ++ rep 9 0 ++ [9] ++ rep 9 0 ++ [9] ++ rep 13 0 ++ [235, 175, 86, 153, 133, 139, 162, 51] : List Byte), by decide +kernel⟩,
    ⟨bare.fset R.PWR_DOM_STATUS_ON 0xFEF, by decide +kernel⟩,
    ⟨(upAll bare).fset R.MEM_SCRUB_STAT_LINE (bare.ticks % 14680064), ([1, 0, 198, 0, 148, 84, 171, 0, 20, 212, 157, 62, 0, 30, 1, 201, 2, 21] ++ rep 46 0 ++ [198, 137, 81, 16, 49, 85, 140, 232] : List Byte), by decide +kernel⟩,
    ⟨(upAll bare).fset R.MEM_SCRUB_STAT_LINE (bare.ticks % 14680064), ([1, 0, 198, 0, 148, 84, 171, 1, 20, 212, 157, 62, 0, 30, 1, 201, 2, 21] ++ rep 22 0 ++ [3] ++ rep 23 0 ++ [198, 137, 81, 16, 49, 85, 140, 232] : List Byte), by decide +kernel⟩,
    ⟨(upAll bare).fset R.MEM_SCRUB_STAT_LINE (bare.ticks % 14680064), ([1, 0, 198, 0, 148, 84, 171, 0, 20, 212, 157, 62, 0, 30, 1, 201, 2, 21] ++ rep 46 0 ++ [198, 137, 81, 16, 49, 85, 141, 232] : List Byte), by decide +kernel⟩,
    ⟨(upAll bare).fset R.MEM_SCRUB_STAT_LINE (bare.ticks % 14680064), ([10, 0, 198, 0, 148, 84, 171, 0, 20, 212, 166, 62, 0, 30, 1, 201, 2, 21, 0, 0, 9] ++ rep 9 0 ++ [9] ++ rep 9 0 ++ [9] ++ rep 9 0 ++ [9] ++ rep 13 0 ++ [198, 137, 81, 16, 49, 85, 140, 232] : List Byte), by decide +kernel⟩,
    ⟨bare, true, 15, 3, by decide +kernel⟩,
    ⟨upAll bare, true, 2049417926, 0, by decide +kernel⟩,
    ⟨upAll bare, by decide +kernel⟩,
    ⟨upAll bare, 4, 11, by decide +kernel⟩⟩

/-- Each clause of SafetyInputsAct has a state and operands that meet its conditions. -/
theorem test_SafetyInputsAct_witness :
    (∃ (s : State),
      s.domOn 1 = true
      ∧ s.aon.resetHeld = false)
  ∧ (∃ (s : State),
      (s.domOn 1 = false ∨ s.aon.resetHeld = true))
  ∧ (∃ (s : State),
      (s.domOn 1 = false ∨ s.inReset = true))
  ∧ (∃ (s : State),
      s.domOn 1 = true
      ∧ s.inReset = false)
  ∧ (∃ (s : State),
      100 ≤ s.safe.blankClear)
  ∧ (∃ (s : State),
      s.safe.blankClear < 100)
  ∧ (∃ (s : State) (b : Bool),
      (s.modeNow ≠ 0 ∨ s.fbit R.PWR_MODE_BUSY = true)
      ∧ (s.domOn 1 = false ∨ s.fget (if b then R.SAFE_DISC_BLANK_CNT else R.SAFE_DISC_LREQ_CNT) < s.discN b ∨ s.faultOn (if b then 12 else 11) = true))
  ∧ (∃ (s : State) (b : Bool),
      s.modeNow = 0
      ∧ s.fbit R.PWR_MODE_BUSY = false
      ∧ (nth s.aon.tarnDisc (if b then 2 else 0) < (if b then s.mode.tDiscBlank else s.mode.tDiscLreq)))
  ∧ (∃ (s : State) (b : Bool),
      s.domOn 1 = true
      ∧ (s.modeNow ≠ 0 ∨ s.fbit R.PWR_MODE_BUSY = true)
      ∧ (s.discN b ≤ s.fget (if b then R.SAFE_DISC_BLANK_CNT else R.SAFE_DISC_LREQ_CNT)))
  ∧ (∃ (s : State) (b : Bool),
      s.modeNow = 0
      ∧ s.fbit R.PWR_MODE_BUSY = false
      ∧ ((if b then s.mode.tDiscBlank else s.mode.tDiscLreq) ≤ nth s.aon.tarnDisc (if b then 2 else 0)))
  ∧ (∃ (s : State) (p : Fin 24),
      s.totHolds p = true
      ∧ s.portOn p = true
      ∧ (s.lane p = laneActive ∨ s.lane p = laneLinked))
  ∧ (∃ (s : State) (p : Fin 24),
      (s.totHolds p = false ∨ s.portOn p = false ∨ (s.lane p ≠ laneActive ∧ s.lane p ≠ laneLinked)))
  ∧ (∃ (s : State),
      s.domOn 1 = true
      ∧ s.domOn 2 = true)
  ∧ (∃ (s : State),
      (s.domOn 1 = false ∨ s.domOn 2 = false))
  ∧ (∃ (s : State),
      s.domOn 1 = false)
  ∧ (∃ (s : State),
      s.domOn 1 = true) :=
  ⟨⟨{ upAll bare with aon := { bare.aon with resetHeld := false }, boot := { bare.boot with halted := false } }, by decide +kernel⟩,
    ⟨bare, by decide +kernel⟩,
    ⟨bare, by decide +kernel⟩,
    ⟨{ upAll bare with aon := { bare.aon with resetHeld := false }, boot := { bare.boot with halted := false } }, by decide +kernel⟩,
    ⟨{ bare with safe := { bare.safe with blankClear := 100 } }, by decide +kernel⟩,
    ⟨bare, by decide +kernel⟩,
    ⟨bare.fset R.PWR_MODE_MODE 2, true, by decide +kernel⟩,
    ⟨{ (bare.fset R.PWR_MODE_MODE 0).fsetb R.PWR_MODE_BUSY false with aon := { bare.aon with tarnDisc := [6,6,6,6] }, mode := { bare.mode with tDiscBlank := 7, tDiscLreq := 7 } }, true, by decide +kernel⟩,
    ⟨(((upAll bare).fset R.SAFE_DISC_BLANK_CNT 60000).fset R.SAFE_DISC_LREQ_CNT 60000).fset R.PWR_MODE_MODE 2, true, by decide +kernel⟩,
    ⟨{ (bare.fset R.PWR_MODE_MODE 0).fsetb R.PWR_MODE_BUSY false with aon := { bare.aon with tarnDisc := [900,900,900,900] }, mode := { bare.mode with tDiscBlank := 7, tDiscLreq := 7 } }, true, by decide +kernel⟩,
    ⟨(fun (p : Fin 24) => (((upLanes bare).fset R.SAFE_TOT_PORTS_PORTS (2^24-1)).fset (R.TILE_LANE_STATUS_STATE p) (3 + 2 * (bare.ticks % 2)) : State)) (11), 11, by decide +kernel⟩,
    ⟨bare, 11, by decide +kernel⟩,
    ⟨upAll bare, by decide +kernel⟩,
    ⟨bare, by decide +kernel⟩,
    ⟨bare, by decide +kernel⟩,
    ⟨upAll bare, by decide +kernel⟩⟩

/-- Each clause of SafetyPairServes has a state and operands that meet its conditions. -/
theorem test_SafetyPairServes_witness :
    (∃ (s : State),
      s.domOn 1 = true
      ∧ s.safe.form = .store
      ∧ s.safe.swapped = false)
  ∧ (∃ (s : State),
      s.domOn 1 = true
      ∧ s.safe.form = .store
      ∧ s.safe.swapped = true)
  ∧ (∃ (s : State),
      (s.domOn 1 = false ∨ s.safe.form ≠ .store ∨ s.safe.swapped = true))
  ∧ (∃ (s : State),
      (s.domOn 1 = false ∨ s.safe.form ≠ .store ∨ s.safe.swapped = false))
  ∧ (∃ (s : State) (p : Fin 24),
      s.laneUp p = true
      ∧ s.configures p = true
      ∧ (s.port p).sentAny = true
      ∧ (s.safe.parkBeam && s.beamServes p) = false)
  ∧ (∃ (s : State) (p : Fin 24),
      s.laneUp p = true
      ∧ s.configures p = true
      ∧ ((s.port p).sentAny = false ∨ (s.safe.parkBeam && s.beamServes p) = true))
  ∧ (∃ (s : State) (p : Fin 24),
      (s.laneUp p = false ∨ s.configures p = false))
  ∧ (∃ (s : State) (p : Fin 24),
      s.shape
      ∧ s.laneUp p = true
      ∧ s.configures p = true)
  ∧ (∃ (s : State) (n : Fin 4) (b : List Byte) (q : PairInput) (rest : List PairInput),
      s.safe.pair.length = 4
      ∧ s.safe.pairCopy = some b
      ∧ (nth s.safe.pair n).due = q :: rest)
  ∧ (∃ (s : State) (n : Fin 4),
      (s.safe.pairCopy = none ∨ (nth s.safe.pair n).due = []))
  ∧ (∃ (s : State) (n : Fin 4) (b : List Byte),
      s.domOn 1 = true
      ∧ s.safe.spb = some b
      ∧ spbExcessN b ≤ s.fget (R.SAFE_PROFILE_EXCESS_RUN n)
      ∧ (s.spill n).told = false
      ∧ s.shape)
  ∧ (∃ (s : State) (n : Fin 4),
      (s.safe.spb = none ∨ (s.spill n).told = true))
  ∧ (∃ (s : State) (n : Fin 4) (b : List Byte),
      s.safe.spb = some b
      ∧ s.fget (R.SAFE_PROFILE_EXCESS_RUN n) < spbExcessN b)
  ∧ (∃ (s : State) (p : Fin 24) (v : Nat),
      s.domOn 5 = true
      ∧ s.blockOff (0x90028) = false
      ∧ s.classCOpen = true
      ∧ v < 2 ^ 24
      ∧ s.shape
      ∧ bitOf v p = true
      ∧ (∃ h, h ∈ s.safe.holds ∧ h.port = p.val)
      ∧ (s.safe.holds.all fun h => h.port != p.val || s.holdOver h) = true)
  ∧ (∃ (s : State) (p : Fin 24) (v : Nat),
      s.domOn 5 = true
      ∧ s.blockOff (0x90028) = false
      ∧ s.classCOpen = true
      ∧ v < 2 ^ 24
      ∧ s.shape
      ∧ (bitOf v p = false ∨ (s.safe.holds.all fun h => h.port != p.val || s.holdOver h) = false))
  ∧ (∃ (s : State),
      s.domOn 5 = true
      ∧ s.blockOff (0x90028) = false
      ∧ s.classCOpen = false) :=
  ⟨⟨{ upLanes bare with safe := { bare.safe with form := .store, swapped := false } }, by decide +kernel⟩,
    ⟨{ upLanes bare with safe := { bare.safe with form := .store, swapped := true } }, by decide +kernel⟩,
    ⟨bare, by decide +kernel⟩,
    ⟨bare, by decide +kernel⟩,
    ⟨(fun (p : Fin 24) => ((((upLanes bare).fset (R.TILE_LANE_STATUS_STATE p) 5).fsetb (R.TILE_PROTO_STATUS_OWN p) true).setPort p fun q => { q with sentAny := true } : State)) (11), 11, by decide +kernel⟩,
    ⟨(fun (p : Fin 24) => ((((upLanes bare).fset (R.TILE_LANE_STATUS_STATE p) 5).fsetb (R.TILE_PROTO_STATUS_OWN p) true).setPort p fun q => { q with sentAny := false } : State)) (11), 11, by decide +kernel⟩,
    ⟨bare, 11, by decide +kernel⟩,
    ⟨(fun (p : Fin 24) => (((upLanes bare).fset (R.TILE_LANE_STATUS_STATE p) 5).fsetb (R.TILE_PROTO_STATUS_OWN p) true : State)) (11), 11, by decide +kernel⟩,
    ⟨(fun (n : Fin 4) (b : List Byte) (q : PairInput) (rest : List PairInput) => ({ (upAll bare).fsetb (R.TG_STATUS_RUNNING n) true with safe := { bare.safe with spb := some spbBytes, pairCopy := some b, pair := upd (fun r => { r with due := q :: rest }) bare.safe.pair n } } : State)) (3) (spbBytes) ((fun (sums : List (Nat × Nat)) (codes : List (Nat × Nat)) => ({ zones := [(0, 5, 5 + sums.length % 2)], row := 2, codes := [(1, 65535), (4, 0)] } : PairInput)) ([]) ([(16, 3)])) ((fun (codes : List (Nat × Nat)) => ([{ zones := [], excess := false, row := 0, codes := [], av := 0, ah := 0, profile := 0, hz := 0, turn := none, fresh := true, ports := [] }] : List PairInput)) ([(16, 3)])), 3, spbBytes, (fun (sums : List (Nat × Nat)) (codes : List (Nat × Nat)) => ({ zones := [(0, 5, 5 + sums.length % 2)], row := 2, codes := [(1, 65535), (4, 0)] } : PairInput)) ([]) ([(16, 3)]), (fun (codes : List (Nat × Nat)) => ([{ zones := [], excess := false, row := 0, codes := [], av := 0, ah := 0, profile := 0, hz := 0, turn := none, fresh := true, ports := [] }] : List PairInput)) ([(16, 3)]), by decide +kernel⟩,
    ⟨bare, 3, by decide +kernel⟩,
    ⟨(fun (n : Fin 4) => (({ (upAll bare).fset (R.SAFE_PROFILE_EXCESS_RUN n) 63 with safe := { bare.safe with spb := some spbBytes } }).setSpill n fun q => { q with told := false } : State)) (3), 3, spbBytes, by decide +kernel⟩,
    ⟨bare, 3, by decide +kernel⟩,
    ⟨(fun (n : Fin 4) => ({ (upAll bare).fset (R.SAFE_PROFILE_EXCESS_RUN n) 0 with safe := { bare.safe with spb := some (spbBytes.map fun _ => 1) } } : State)) (3), 3, (spbBytes.map fun _ => 1), by decide +kernel⟩,
    ⟨(fun (p : Fin 24) => (({ ((upAll bare).fset R.BOOT_STATUS_LC 3).fset R.SAFE_TILE_HELD_PORTS 0xFFFFFF with safe := { bare.safe with session := true, holds := [⟨p, 19, 0⟩, ⟨p, 17, 5⟩, ⟨23 - p.val, 18, 1⟩] } }) : State)) (11), 11, 4950516, by decide +kernel⟩,
    ⟨(fun (p : Fin 24) => ((({ ((upAll bare).fset R.BOOT_STATUS_LC 3).fset R.SAFE_TILE_HELD_PORTS 0xFFFFFF with safe := { bare.safe with session := true, holds := [⟨p, 19, 0⟩, ⟨p, 17, 5⟩, ⟨23 - p.val, 18, 1⟩] } })).fsetb (R.PIX_HLT_PORT_STAT_MASS p) true : State)) (11), 11, 4950516, by decide +kernel⟩,
    ⟨({ ((upAll bare).fset R.BOOT_STATUS_LC 3).fset R.SAFE_TILE_HELD_PORTS 0xFFFFFF with safe := { bare.safe with session := false, holds := [⟨5, 19, 0⟩, ⟨5, 17, 5⟩, ⟨23 - 4, 18, 1⟩] } }), by decide +kernel⟩⟩

/-- Each clause of FrameTicksAct has a state and operands that meet its conditions. -/
theorem test_FrameTicksAct_witness :
    (∃ (s : State) (n : Fin 4) (k : Nat),
      s.shape
      ∧ s.ticking = true
      ∧ (s.gen n).atF = false
      ∧ (s.gen n).startF = some k
      ∧ ((s.gen n).stopPend = false ∨ s.running n = false))
  ∧ (∃ (s : State) (n : Fin 4),
      s.shape
      ∧ s.ticking = true
      ∧ (s.gen n).atF = false
      ∧ (s.gen n).startF = none
      ∧ (s.gen n).advance.1 = true
      ∧ (s.gen n).stopPend = false
      ∧ s.running n = true)
  ∧ (∃ (s : State) (n : Fin 4),
      s.shape
      ∧ s.ticking = true
      ∧ (s.gen n).atF = false
      ∧ (s.gen n).advance.1 = true
      ∧ (s.gen n).stopPend = true
      ∧ s.running n = true)
  ∧ (∃ (s : State) (n : Fin 4),
      (s.ticking = false ∨ (s.gen n).atF = true ∨ (s.running n = false ∧ (s.gen n).startF = none) ∨ (s.gen n).advance.1 = false))
  ∧ (∃ (s : State) (n : Fin 4),
      (s.ticking = false ∨ s.running n = false ∨ ((s.gen n).atF = false ∧ (s.gen n).advance.1 = true)))
  ∧ (∃ (s : State) (n : Fin 4),
      s.shape
      ∧ s.ticking = true
      ∧ s.running n = true
      ∧ (s.gen n).atF = true)
  ∧ (∃ (s : State) (n : Fin 4),
      s.shape
      ∧ s.ticking = true
      ∧ s.running n = true
      ∧ (s.gen n).atF = false
      ∧ (s.gen n).advance.1 = false)
  ∧ (∃ (s : State) (n : Fin 4),
      s.shape
      ∧ s.ticking = true
      ∧ s.running n = true
      ∧ (s.gen n).atF = false
      ∧ (s.gen n).fired < 8)
  ∧ (∃ (s : State) (n : Fin 4),
      (s.ticking = false ∨ s.running n = false ∨ (s.gen n).atF = true ∨ 8 ≤ (s.gen n).fired))
  ∧ (∃ (s : State) (n : Fin 4),
      (s.ticking = false ∨ s.nextFrame n = none ∨ (s.gen n).latched = true))
  ∧ (∃ (s : State) (n : Fin 4),
      s.shape
      ∧ s.ticking = true
      ∧ (s.nextFrame n).isSome = true
      ∧ (s.gen n).latched = false)
  ∧ (∃ (s : State) (n : Fin 4) (ph : Fin 8),
      s.shape
      ∧ s.domOn 3 = true
      ∧ s.domOn 9 = true
      ∧ ph.val = 0
      ∧ s.scanAhead n = true)
  ∧ (∃ (s : State) (n : Fin 4) (ph : Fin 8),
      s.shape
      ∧ s.domOn 3 = true
      ∧ s.domOn 9 = true
      ∧ ph.val ≠ 0
      ∧ (s.px n).prod.grid.hz ≠ 0)
  ∧ (∃ (s : State) (n : Fin 4) (ph : Fin 8),
      (s.domOn 3 = false ∨ s.domOn 9 = false ∨ (ph.val = 0 ∧ s.scanAhead n = false) ∨ (ph.val ≠ 0 ∧ (s.px n).prod.grid.hz = 0))) :=
  ⟨⟨(fun (n : Fin 4) (k : Nat) => (((((upLanes bare).fset (R.TWIN_LANE_STATUS_STATE 0) 0 |>.fset (R.TWIN_LANE_STATUS_STATE 1) 0).setGen n fun q => { q with grid := (gridOfWords 0x3f0 0x10 0x3e8 0), startF := some k, atF := false, stopPend := false, stepped := false, phase := .normal, latched := false, retime := none, members := [] })) : State)) (3) (1), 3, 1, by decide +kernel⟩,
    ⟨(fun (n : Fin 4) => ((((((upLanes bare).fset (R.TWIN_LANE_STATUS_STATE 0) 0 |>.fset (R.TWIN_LANE_STATUS_STATE 1) 0).setGen n fun q => { q with grid := (gridOfWords 0x3f0 0x10 0x3e8 0), si := 3, startF := none, atF := false, stopPend := false, stepped := false, phase := .normal, latched := false, retime := none, members := [] }).fsetb (R.TG_STATUS_RUNNING n) true).fsetb (R.TG_CTRL_ENABLE n) true).setGen n fun q => { q with si := q.grid.n * 5 - 1 } : State)) (3), 3, by decide +kernel⟩,
    ⟨(fun (n : Fin 4) => ((((((upLanes bare).fset (R.TWIN_LANE_STATUS_STATE 0) 0 |>.fset (R.TWIN_LANE_STATUS_STATE 1) 0).setGen n fun q => { q with grid := (gridOfWords 0x3f0 0x10 0x3e8 0), si := 3, startF := none, atF := false, stopPend := false, stepped := false, phase := .normal, latched := false, retime := none, members := [] }).fsetb (R.TG_STATUS_RUNNING n) true).fsetb (R.TG_CTRL_ENABLE n) true).setGen n fun q => { q with si := q.grid.n * 5 - 1, stopPend := true } : State)) (3), 3, by decide +kernel⟩,
    ⟨(fun (n : Fin 4) => ((((((upLanes bare).fset (R.TWIN_LANE_STATUS_STATE 0) 0 |>.fset (R.TWIN_LANE_STATUS_STATE 1) 0).setGen n fun q => { q with grid := (gridOfWords 0x3f0 0x10 0x3e8 0), si := 3, startF := none, atF := false, stopPend := false, stepped := false, phase := .normal, latched := false, retime := none, members := [] }).fsetb (R.TG_STATUS_RUNNING n) true).fsetb (R.TG_CTRL_ENABLE n) true).setGen n fun q => { q with atF := true } : State)) (3), 3, by decide +kernel⟩,
    ⟨(fun (n : Fin 4) => ((((((upLanes bare).fset (R.TWIN_LANE_STATUS_STATE 0) 0 |>.fset (R.TWIN_LANE_STATUS_STATE 1) 0).setGen n fun q => { q with grid := (gridOfWords 0x3f0 0x10 0x3e8 0), si := 3, startF := none, atF := false, stopPend := false, stepped := false, phase := .normal, latched := false, retime := none, members := [] }).fsetb (R.TG_STATUS_RUNNING n) true).fsetb (R.TG_CTRL_ENABLE n) true).setGen n fun q => { q with si := q.grid.n * 5 - 1 } : State)) (3), 3, by decide +kernel⟩,
    ⟨(fun (n : Fin 4) => ((((((upLanes bare).fset (R.TWIN_LANE_STATUS_STATE 0) 0 |>.fset (R.TWIN_LANE_STATUS_STATE 1) 0).setGen n fun q => { q with grid := (gridOfWords 0x3f0 0x10 0x3e8 0), si := 3, startF := none, atF := false, stopPend := false, stepped := false, phase := .normal, latched := false, retime := none, members := [] }).fsetb (R.TG_STATUS_RUNNING n) true).fsetb (R.TG_CTRL_ENABLE n) true).setGen n fun q => { q with atF := true } : State)) (3), 3, by decide +kernel⟩,
    ⟨(fun (n : Fin 4) => ((((((upLanes bare).fset (R.TWIN_LANE_STATUS_STATE 0) 0 |>.fset (R.TWIN_LANE_STATUS_STATE 1) 0).setGen n fun q => { q with grid := (gridOfWords 0x3f0 0x10 0x3e8 0), si := 3, startF := none, atF := false, stopPend := false, stepped := false, phase := .normal, latched := false, retime := none, members := [] }).fsetb (R.TG_STATUS_RUNNING n) true).fsetb (R.TG_CTRL_ENABLE n) true).setGen n fun q => { q with si := q.grid.n * 5 } : State)) (3), 3, by decide +kernel⟩,
    ⟨(fun (n : Fin 4) => ((((((upLanes bare).fset (R.TWIN_LANE_STATUS_STATE 0) 0 |>.fset (R.TWIN_LANE_STATUS_STATE 1) 0).setGen n fun q => { q with grid := (gridOfWords 0x3f0 0x10 0x3e8 0), si := 3, startF := none, atF := false, stopPend := false, stepped := false, phase := .normal, latched := false, retime := none, members := [] }).fsetb (R.TG_STATUS_RUNNING n) true).fsetb (R.TG_CTRL_ENABLE n) true).setGen n fun q => { q with fired := q.si % 8 } : State)) (3), 3, by decide +kernel⟩,
    ⟨(fun (n : Fin 4) => ((((((upLanes bare).fset (R.TWIN_LANE_STATUS_STATE 0) 0 |>.fset (R.TWIN_LANE_STATUS_STATE 1) 0).setGen n fun q => { q with grid := (gridOfWords 0x3f0 0x10 0x3e8 0), si := 3, startF := none, atF := false, stopPend := false, stepped := false, phase := .normal, latched := false, retime := none, members := [] }).fsetb (R.TG_STATUS_RUNNING n) true).fsetb (R.TG_CTRL_ENABLE n) true).setGen n fun q => { q with fired := 8 } : State)) (3), 3, by decide +kernel⟩,
    ⟨(fun (n : Fin 4) => ((((((upLanes bare).fset (R.TWIN_LANE_STATUS_STATE 0) 0 |>.fset (R.TWIN_LANE_STATUS_STATE 1) 0).setGen n fun q => { q with grid := (gridOfWords 0x3f0 0x10 0x3e8 0), si := 3, startF := none, atF := false, stopPend := false, stepped := false, phase := .normal, latched := false, retime := none, members := [] }).fsetb (R.TG_STATUS_RUNNING n) true).fsetb (R.TG_CTRL_ENABLE n) true).setGen n fun q => { q with latched := true } : State)) (3), 3, by decide +kernel⟩,
    ⟨(fun (n : Fin 4) => ((((((upLanes bare).fset (R.TWIN_LANE_STATUS_STATE 0) 0 |>.fset (R.TWIN_LANE_STATUS_STATE 1) 0).setGen n fun q => { q with grid := (gridOfWords 0x3f0 0x10 0x3e8 0), si := 3, startF := none, atF := false, stopPend := false, stepped := false, phase := .normal, latched := false, retime := none, members := [] }).fsetb (R.TG_STATUS_RUNNING n) true).fsetb (R.TG_CTRL_ENABLE n) true) : State)) (3), 3, by decide +kernel⟩,
    ⟨(fun (n : Fin 4) => ((((((upLanes bare).fset (R.TWIN_LANE_STATUS_STATE 0) 0 |>.fset (R.TWIN_LANE_STATUS_STATE 1) 0).setGen n fun q => { q with grid := (gridOfWords 0x3f0 0x10 0x3e8 0), si := 3, startF := none, atF := false, stopPend := false, stepped := false, phase := .normal, latched := false, retime := none, members := [] }).fsetb (R.TG_STATUS_RUNNING n) true).fsetb (R.TG_CTRL_ENABLE n) true) : State)) (3), 3, (Fin.ofNat 8 0), by decide +kernel⟩,
    ⟨(fun (n : Fin 4) => ((((((upLanes bare).fset (R.TWIN_LANE_STATUS_STATE 0) 0 |>.fset (R.TWIN_LANE_STATUS_STATE 1) 0).setGen n fun q => { q with grid := (gridOfWords 0x3f0 0x10 0x3e8 0), si := 3, startF := none, atF := false, stopPend := false, stepped := false, phase := .normal, latched := false, retime := none, members := [] }).fsetb (R.TG_STATUS_RUNNING n) true).fsetb (R.TG_CTRL_ENABLE n) true).setPx n fun x => { x with prod := { x.prod with grid := (gridOfWords 0x3f0 0x10 0x3e8 0) } } : State)) (3), 3, 4, by decide +kernel⟩,
    ⟨bare, 3, 4, by decide +kernel⟩⟩

/-- Each clause of SurfaceEventsAct has a state and operands that meet its conditions. -/
theorem test_SurfaceEventsAct_witness :
    (∃ (s : State) (n : Fin 4),
      s.shape
      ∧ s.domOn 5 = true
      ∧ s.blockOff (0x40000 + 0x100 * n.val) = false
      ∧ s.domOn 3 = true
      ∧ s.running n = true)
  ∧ (∃ (s : State) (n : Fin 4),
      s.shape
      ∧ s.domOn 5 = true
      ∧ s.blockOff (0x40000 + 0x100 * n.val) = false
      ∧ s.running n = false
      ∧ (s.gen n).startF.isSome = true)
  ∧ (∃ (s : State) (n : Fin 4),
      s.domOn 5 = true
      ∧ s.blockOff (0x40000 + 0x100 * n.val) = false
      ∧ s.running n = false
      ∧ (s.gen n).startF = none)
  ∧ (∃ (s : State) (n : Fin 4),
      s.shape
      ∧ s.domOn 5 = true
      ∧ s.blockOff (0x40000 + 0x100 * n.val) = false
      ∧ s.running n = false
      ∧ (s.gen n).startF = none
      ∧ s.cfgErrNow n = 0)
  ∧ (∃ (s : State) (n : Fin 4),
      s.shape
      ∧ s.domOn 5 = true
      ∧ s.blockOff (0x40000 + 0x100 * n.val) = false
      ∧ s.domOn 3 = true
      ∧ s.running n = false
      ∧ (s.gen n).startF = none
      ∧ s.cfgErrNow n ≠ 0)
  ∧ (∃ (s : State) (n : Fin 4) (ups : List Nat),
      s.safe.testRow.length = 4
      ∧ s.ticking = true
      ∧ s.running n = true
      ∧ s.spillPasses n ups = true)
  ∧ (∃ (s : State) (n : Fin 4) (ups : List Nat),
      s.safe.testFailed.length = 4
      ∧ s.ticking = true
      ∧ s.running n = true
      ∧ s.spillPasses n ups = false)
  ∧ (∃ (s : State) (n : Fin 4),
      (s.ticking = false ∨ s.running n = false))
  ∧ (∃ (s : State) (n : Fin 4),
      s.ticking = true
      ∧ s.running n = true)
  ∧ (∃ (s : State),
      max 2 (s.fget R.HOST_SILENCE_FRAMES) ≤ s.fget R.HOST_SILENCE_CNT_COUNT
      ∧ s.lightOn = true
      ∧ s.faultOn 13 = false)
  ∧ (∃ (s : State),
      (s.fget R.HOST_SILENCE_CNT_COUNT < max 2 (s.fget R.HOST_SILENCE_FRAMES) ∨ s.lightOn = false ∨ s.faultOn 13 = true))
  ∧ (∃ (s : State) (j : Job) (rest : List Job),
      s.shape
      ∧ s.pix.jobs = j :: rest
      ∧ j.surf < 4)
  ∧ (∃ (s : State),
      s.pix.jobs = [])
  ∧ (∃ (s : State) (n : Fin 4) (i : Nat) (q : Present),
      s.domOn 1 = true
      ∧ (s.px n).use = some q
      ∧ q.notReady i = true
      ∧ lyPolicy (nth q.layers i).record = 3
      ∧ lySafeN (nth q.layers i).record < nth (s.px n).notReady i
      ∧ (nth (s.px n).notReady i = lySafeN (nth q.layers i).record + 1 ∨ s.faultOn 14 = false))
  ∧ (∃ (s : State) (n : Fin 4),
      (s.domOn 1 = false ∨ (s.px n).use = none))
  ∧ (∃ (s : State) (n : Fin 4) (i : Nat) (q : Present),
      (s.px n).use = some q
      ∧ (q.notReady i = false ∨ lyPolicy (nth q.layers i).record ≠ 3 ∨ nth (s.px n).notReady i ≤ lySafeN (nth q.layers i).record ∨ (s.faultOn 14 = true ∧ nth (s.px n).notReady i ≠ lySafeN (nth q.layers i).record + 1)))
  ∧ (∃ (s : State),
      s.domOn 9 = false
      ∧ s.safe.form = .none)
  ∧ (∃ (s : State),
      s.domOn 9 = false
      ∧ s.safe.form ≠ .none)
  ∧ (∃ (s : State),
      s.domOn 9 = true)
  ∧ (∃ (s : State) (f : List Word),
      s.domOn 1 = true
      ∧ s.domOn 3 = true
      ∧ s.lowestSurf = none
      ∧ s.fget R.PIX_LANE_STATUS_RETIRED = 0
      ∧ (misrPass f = true ∨ 5 ≤ s.fget R.PIX_LANE_STATUS_OFFLINE))
  ∧ (∃ (s : State) (f : List Word),
      s.domOn 1 = true
      ∧ s.domOn 3 = true
      ∧ s.lowestSurf = none
      ∧ s.fget R.PIX_LANE_STATUS_RETIRED = 0
      ∧ misrPass f = false
      ∧ s.fget R.PIX_LANE_STATUS_OFFLINE < 5)
  ∧ (∃ (s : State),
      s.domOn 1 = true
      ∧ s.lowestSurf = none
      ∧ (s.domOn 3 = false ∨ s.fget R.PIX_LANE_STATUS_RETIRED ≠ 0))
  ∧ (∃ (s : State),
      (s.domOn 1 = false ∨ s.lowestSurf.isSome = true))
  ∧ (∃ (s : State),
      s.pins.tickOut = false)
  ∧ (∃ (s : State) (surf : Fin 4),
      (s.domOn 5 = false ∨ s.blockOff (0x40000 + 0x100 * surf.val) = true)) :=
  ⟨⟨(fun (n : Fin 4) => ((((((upLanes bare).fset (R.TWIN_LANE_STATUS_STATE 0) 0 |>.fset (R.TWIN_LANE_STATUS_STATE 1) 0).setGen n fun q => { q with grid := (gridOfWords 0x3f0 0x10 0x3e8 0), si := 3, startF := none, atF := false, stopPend := false, stepped := false, phase := .normal, latched := false, retime := none, members := [] }).fsetb (R.TG_STATUS_RUNNING n) true).fsetb (R.TG_CTRL_ENABLE n) true) : State)) (3), 3, by decide +kernel⟩,
    ⟨(fun (n : Fin 4) => (((((upLanes bare).fset (R.TWIN_LANE_STATUS_STATE 0) 0 |>.fset (R.TWIN_LANE_STATUS_STATE 1) 0).setGen n fun q => { q with grid := (gridOfWords 0x3f0 0x10 0x3e8 0), startF := some 9, atF := false, stopPend := false, stepped := false, phase := .normal, latched := false, retime := none, members := [] })) : State)) (3), 3, by decide +kernel⟩,
    ⟨noSurf (upLanes bare), 3, by decide +kernel⟩,
    ⟨(fun (n : Fin 4) => (((fun s : State => (let s := noSurf ({ upLanes s with gens := rep 4 {} }.setPort 0 fun q => { q with cap := some { tw := 64, th := 64, frameMem := true } }); let s := overAll 24 (fun p s => (s.wr (portmapA p) 7).wr (portmapB p) 0) s; (((((s.wr (portmapA 0) (BitVec.ofNat 32 n.val)).wr (tgAddr n 4) 0x3f0).wr (tgAddr n 8) 0x10).wr (tgAddr n 0xC) 0x3e8).wr (tgAddr n 0x10) 0).wr (tgAddr n 0x20) 0x400040)) bare) : State)) (3), 3, by decide +kernel⟩,
    ⟨noSurf (upLanes bare), 3, by decide +kernel⟩,
    ⟨(fun (n : Fin 4) => ((((((upLanes bare).fset (R.TWIN_LANE_STATUS_STATE 0) 0 |>.fset (R.TWIN_LANE_STATUS_STATE 1) 0).setGen n fun q => { q with grid := (gridOfWords 0x3f0 0x10 0x3e8 0), si := 3, startF := none, atF := false, stopPend := false, stepped := false, phase := .normal, latched := false, retime := none, members := [] }).fsetb (R.TG_STATUS_RUNNING n) true).fsetb (R.TG_CTRL_ENABLE n) true) : State)) (3), 3, [], by decide +kernel⟩,
    ⟨(fun (n : Fin 4) => ((fun x : State => { x with safe := { x.safe with spb := some spbBytes } }) ((((((upLanes bare).fset (R.TWIN_LANE_STATUS_STATE 0) 0 |>.fset (R.TWIN_LANE_STATUS_STATE 1) 0).setGen n fun q => { q with grid := (gridOfWords 0x3f0 0x10 0x3e8 0), si := 3, startF := none, atF := false, stopPend := false, stepped := false, phase := .normal, latched := false, retime := none, members := [] }).fsetb (R.TG_STATUS_RUNNING n) true).fsetb (R.TG_CTRL_ENABLE n) true)) : State)) (0), 0, [0], by decide +kernel⟩,
    ⟨bare, 3, by decide +kernel⟩,
    ⟨(fun (n : Fin 4) => (((((((upLanes bare).fset (R.TWIN_LANE_STATUS_STATE 0) 0 |>.fset (R.TWIN_LANE_STATUS_STATE 1) 0).setGen n fun q => { q with grid := (gridOfWords 0x3f0 0x10 0x3e8 0), si := 3, startF := none, atF := false, stopPend := false, stepped := false, phase := .normal, latched := false, retime := none, members := [] }).fsetb (R.TG_STATUS_RUNNING n) true).fsetb (R.TG_CTRL_ENABLE n) true).fset (R.TG_PORTMAP_A_SURF 0) n) : State)) (3), 3, by decide +kernel⟩,
    ⟨({ (((upAll bare).fset R.HOST_SILENCE_FRAMES 3).fset R.HOST_SILENCE_CNT_COUNT 9) with pins := { bare.pins with raw := 3 } }).fset R.SAFE_INPUTS_SAMPLED 3 |>.clearFault 13, by decide +kernel⟩,
    ⟨bare, by decide +kernel⟩,
    ⟨(fun (j : Job) (rest : List Job) => ({ bare with pix := { bare.pix with jobs := j :: rest } } : State)) ({ surf := 1, frame := 28, srcs := [], ready := [], present := { desc := { ring := 0, slot := 0, gen := 0, pos := 0, bytes := [], payload := none }, id := 0, layers := [], occult := false, owed := false, launch := 0, named := none, orphan := false, removed := [], waived := [] }, gain := none, dead := [], feet := [], fill := false, share := 0, maxAdd := 0, left := false, width := 0, height := 0, banks := [], held := [] }) ([{ surf := 3, frame := 51, srcs := [], ready := [], present := { desc := { ring := 0, slot := 0, gen := 0, pos := 0, bytes := [], payload := none }, id := 0, layers := [], occult := false, owed := false, launch := 0, named := none, orphan := false, removed := [], waived := [] }, gain := none, dead := [], feet := [], fill := false, share := 0, maxAdd := 0, left := false, width := 0, height := 0, banks := [], held := [] }]), { surf := 1, frame := 28, srcs := [], ready := [], present := { desc := { ring := 0, slot := 0, gen := 0, pos := 0, bytes := [], payload := none }, id := 0, layers := [], occult := false, owed := false, launch := 0, named := none, orphan := false, removed := [], waived := [] }, gain := none, dead := [], feet := [], fill := false, share := 0, maxAdd := 0, left := false, width := 0, height := 0, banks := [], held := [] }, [{ surf := 3, frame := 51, srcs := [], ready := [], present := { desc := { ring := 0, slot := 0, gen := 0, pos := 0, bytes := [], payload := none }, id := 0, layers := [], occult := false, owed := false, launch := 0, named := none, orphan := false, removed := [], waived := [] }, gain := none, dead := [], feet := [], fill := false, share := 0, maxAdd := 0, left := false, width := 0, height := 0, banks := [], held := [] }], by decide +kernel⟩,
    ⟨bare, by decide +kernel⟩,
    ⟨(fun (n : Fin 4) (q : Present) => (((upAll bare).setPx n fun x => { x with use := some q, notReady := rep 8 4 }).clearFault 14 : State)) (3) ({ layers := [{ record := rep 16 0 ++ [3] ++ rep 15 0 }, { record := rep 16 0 ++ [3] ++ rep 15 0 }] }), 3, 0, { layers := [{ record := rep 16 0 ++ [3] ++ rep 15 0 }, { record := rep 16 0 ++ [3] ++ rep 15 0 }] }, by decide +kernel⟩,
    ⟨bare, 3, by decide +kernel⟩,
    ⟨(fun (n : Fin 4) (q : Present) => ((upAll bare).setPx n fun x => { x with use := some q, notReady := rep 8 0 } : State)) (3) ({ layers := [{ record := rep 16 0 ++ [2] ++ rep 15 0 }, { record := rep 16 0 ++ [3] ++ rep 15 0 }] }), 3, 0, { layers := [{ record := rep 16 0 ++ [2] ++ rep 15 0 }, { record := rep 16 0 ++ [3] ++ rep 15 0 }] }, by decide +kernel⟩,
    ⟨(bare.fset R.PWR_DOM_STATUS_ON 0xDFF), by decide +kernel⟩,
    ⟨{ ((upLanes bare).fset R.PWR_DOM_STATUS_ON 0xDFF) with safe := { bare.safe with form := .store } }, by decide +kernel⟩,
    ⟨upLanes bare, by decide +kernel⟩,
    ⟨(noSurf (upLanes bare)).fset R.PIX_LANE_STATUS_RETIRED 0, [0, 0], by decide +kernel⟩,
    ⟨((noSurf (upLanes bare)).fset R.PIX_LANE_STATUS_RETIRED 0).fset R.PIX_LANE_STATUS_OFFLINE (bare.ticks % 5), [0, 5], by decide +kernel⟩,
    ⟨(noSurf (upLanes bare)).fset R.PIX_LANE_STATUS_RETIRED 4, by decide +kernel⟩,
    ⟨bare, by decide +kernel⟩,
    ⟨{ bare with pins := { bare.pins with tickOut := false } }, by decide +kernel⟩,
    ⟨if bare.ticks % 2 = 0 then bare.fset R.PWR_DOM_STATUS_ON 0x20 else bare, 3, by decide +kernel⟩⟩

/-- Each clause of SessionsAct has a state and operands that meet its conditions. -/
theorem test_SessionsAct_witness :
    (∃ (s : State),
      s.domOn 5 = true
      ∧ s.blockOff (0x90100) = false
      ∧ s.domOn 1 = true
      ∧ s.fget R.BOOT_STATUS_LC = lcCommission
      ∧ s.safe.session = false)
  ∧ (∃ (s : State),
      s.domOn 5 = true
      ∧ s.blockOff (0x90100) = false
      ∧ s.domOn 1 = true
      ∧ s.fget R.BOOT_STATUS_LC = lcCommission
      ∧ s.safe.session = true)
  ∧ (∃ (s : State),
      s.domOn 5 = true
      ∧ s.blockOff (0x90100) = false
      ∧ s.fget R.BOOT_STATUS_LC ≠ lcCommission)
  ∧ (∃ (s : State),
      s.domOn 5 = true
      ∧ s.blockOff (0x90100) = false
      ∧ s.safe.session = true
      ∧ s.fbit R.SAFE_COMM_STATUS_COMMIT_BUSY = true)
  ∧ (∃ (s : State),
      s.domOn 5 = true
      ∧ s.blockOff (0x90100) = false
      ∧ s.safe.session = false)
  ∧ (∃ (s : State),
      s.safe.session = false)
  ∧ (∃ (s : State),
      s.domOn 5 = true
      ∧ s.blockOff (0x90100) = false
      ∧ s.safe.session = true
      ∧ s.fbit R.SAFE_COMM_STATUS_COMMIT_BUSY = false)
  ∧ (∃ (s : State),
      s.safe.session = true
      ∧ s.fbit R.SAFE_COMM_STATUS_COMMIT_BUSY = false)
  ∧ (∃ (s : State),
      s.safe.session = true
      ∧ s.fbit R.SAFE_COMM_STATUS_COMMIT_BUSY = true)
  ∧ (∃ (s : State),
      (s.domOn 5 = false ∨ s.blockOff (0x90100) = true)) :=
  ⟨⟨{ ((upAll bare).fset R.BOOT_STATUS_LC 1) with safe := { bare.safe with session := false } }, by decide +kernel⟩,
    ⟨{ ((upAll bare).fset R.BOOT_STATUS_LC 1) with safe := { bare.safe with session := true, closeDue := (bare.ticks % 2 == 0) } }, by decide +kernel⟩,
    ⟨((upAll bare).fset R.BOOT_STATUS_LC 2), by decide +kernel⟩,
    ⟨({ upAll bare with safe := { bare.safe with session := true } }).fsetb R.SAFE_COMM_STATUS_COMMIT_BUSY true, by decide +kernel⟩,
    ⟨{ upAll bare with safe := { bare.safe with session := false } }, by decide +kernel⟩,
    ⟨{ upAll bare with safe := { bare.safe with session := false } }, by decide +kernel⟩,
    ⟨({ upAll bare with safe := { bare.safe with session := true } }).fsetb R.SAFE_COMM_STATUS_COMMIT_BUSY false, by decide +kernel⟩,
    ⟨({ upAll bare with safe := { bare.safe with session := true } }).fsetb R.SAFE_COMM_STATUS_COMMIT_BUSY false, by decide +kernel⟩,
    ⟨({ upAll bare with safe := { bare.safe with session := true } }).fsetb R.SAFE_COMM_STATUS_COMMIT_BUSY true, by decide +kernel⟩,
    ⟨if bare.ticks % 2 = 0 then bare.fset R.PWR_DOM_STATUS_ON 0x20 else bare, by decide +kernel⟩⟩

/-- Each clause of LifeCycleActs has a state and operands that meet its conditions. -/
theorem test_LifeCycleActs_witness :
    (∃ (s : State),
      s.domOn 5 = true
      ∧ s.blockOff (0xE0010) = false
      ∧ s.domOn 2 = true
      ∧ s.fget R.BOOT_STATUS_LC = lcBlank)
  ∧ (∃ (s : State),
      s.domOn 5 = true
      ∧ s.blockOff (0xE0010) = false
      ∧ s.domOn 2 = true
      ∧ s.fget R.BOOT_STATUS_LC ≠ lcBlank)
  ∧ (∃ (s : State),
      s.domOn 5 = true
      ∧ s.blockOff (0xE0010) = false
      ∧ s.domOn 2 = true
      ∧ s.fget R.BOOT_STATUS_LC = lcCommission
      ∧ s.safe.session = true
      ∧ s.fbit R.BOOT_STATUS_SVC_KEY = true
      ∧ s.safe.spb.isSome = true)
  ∧ (∃ (s : State),
      s.domOn 5 = true
      ∧ s.blockOff (0xE0010) = false
      ∧ s.domOn 2 = true
      ∧ (s.fget R.BOOT_STATUS_LC ≠ lcCommission ∨ s.safe.session = false ∨ s.fbit R.BOOT_STATUS_SVC_KEY = false ∨ s.safe.spb = none))
  ∧ (∃ (s : State),
      s.domOn 5 = true
      ∧ s.blockOff (0xE0010) = false
      ∧ s.domOn 2 = true
      ∧ s.fget R.BOOT_STATUS_LC = lcCommission
      ∧ s.safe.session = true
      ∧ s.boot.otpKey = none)
  ∧ (∃ (s : State),
      s.domOn 5 = true
      ∧ s.blockOff (0xE0010) = false
      ∧ s.domOn 2 = true
      ∧ (s.boot.otpKey.isSome = true ∨ s.fget R.BOOT_STATUS_LC ≠ lcCommission ∨ s.safe.session = false))
  ∧ (∃ (s : State),
      s.domOn 5 = true
      ∧ s.blockOff (0xE0010) = false
      ∧ s.domOn 2 = true
      ∧ s.fget R.BOOT_STATUS_LC = lcService
      ∧ bitOf (s.fget R.BOOT_LC_PERMS_PERMS) 2 = true)
  ∧ (∃ (s : State),
      s.domOn 5 = true
      ∧ s.blockOff (0xE0010) = false
      ∧ s.domOn 2 = true
      ∧ (s.fget R.BOOT_STATUS_LC ≠ lcService ∨ bitOf (s.fget R.BOOT_LC_PERMS_PERMS) 2 = false))
  ∧ (∃ (s : State),
      s.domOn 5 = true
      ∧ s.blockOff (0xE0010) = false
      ∧ s.domOn 2 = true
      ∧ s.fget R.BOOT_STATUS_LC = lcService)
  ∧ (∃ (s : State),
      s.domOn 5 = true
      ∧ s.blockOff (0xE0010) = false
      ∧ s.domOn 2 = true
      ∧ s.fget R.BOOT_STATUS_LC ≠ lcService)
  ∧ (∃ (s : State),
      s.domOn 2 = true
      ∧ (s.fget R.BOOT_STATUS_LC = lcBlank ∨ (s.fget R.BOOT_STATUS_LC = lcService ∧ bitOf (s.fget R.BOOT_LC_PERMS_PERMS) 1 = true)))
  ∧ (∃ (s : State),
      (s.domOn 2 = false ∨ (s.fget R.BOOT_STATUS_LC ≠ lcBlank ∧ (s.fget R.BOOT_STATUS_LC ≠ lcService ∨ bitOf (s.fget R.BOOT_LC_PERMS_PERMS) 1 = false))))
  ∧ (∃ (s : State),
      (s.domOn 5 = false ∨ s.blockOff (0xE0010) = true)) :=
  ⟨⟨((upAll bare).fset R.BOOT_STATUS_LC 0), by decide +kernel⟩,
    ⟨((upAll bare).fset R.BOOT_STATUS_LC 2), by decide +kernel⟩,
    ⟨({ ((upAll bare).fset R.BOOT_STATUS_LC 1) with safe := { bare.safe with session := true, spb := some spbBytes } }).fsetb R.BOOT_STATUS_SVC_KEY true, by decide +kernel⟩,
    ⟨({ ((upAll bare).fset R.BOOT_STATUS_LC 1) with safe := { bare.safe with session := true, spb := none } }).fsetb R.BOOT_STATUS_SVC_KEY true, by decide +kernel⟩,
    ⟨({ ((upAll bare).fset R.BOOT_STATUS_LC 1) with safe := { bare.safe with session := true }, boot := { bare.boot with otpKey := none } }), by decide +kernel⟩,
    ⟨({ ((upAll bare).fset R.BOOT_STATUS_LC 1) with safe := { bare.safe with session := true }, boot := { bare.boot with otpKey := some [] } }), by decide +kernel⟩,
    ⟨((upAll bare).fset R.BOOT_STATUS_LC 3).fset R.BOOT_LC_PERMS_PERMS 7, by decide +kernel⟩,
    ⟨((upAll bare).fset R.BOOT_STATUS_LC 1), by decide +kernel⟩,
    ⟨((upAll bare).fset R.BOOT_STATUS_LC 3), by decide +kernel⟩,
    ⟨((upAll bare).fset R.BOOT_STATUS_LC 1), by decide +kernel⟩,
    ⟨((upAll bare).fset R.BOOT_STATUS_LC 0), by decide +kernel⟩,
    ⟨((upAll bare).fset R.BOOT_STATUS_LC 2), by decide +kernel⟩,
    ⟨if bare.ticks % 2 = 0 then bare.fset R.PWR_DOM_STATUS_ON 0x20 else bare, by decide +kernel⟩⟩

/-- Each clause of ServiceEntryActs has a state and operands that meet its conditions. -/
theorem test_ServiceEntryActs_witness :
    (∃ (s : State),
      s.domOn 5 = true
      ∧ s.blockOff (0xE0010) = false
      ∧ s.domOn 2 = true
      ∧ s.boot.locked = false)
  ∧ (∃ (s : State),
      s.domOn 5 = true
      ∧ s.blockOff (0xE0010) = false
      ∧ s.domOn 2 = true
      ∧ s.boot.locked = true)
  ∧ (∃ (s : State),
      s.domOn 5 = true
      ∧ s.blockOff (0xE0010) = false
      ∧ s.domOn 2 = true
      ∧ s.fbit R.BOOT_LC_STATUS_CHAL_VALID = false
      ∧ s.fget R.BOOT_STATUS_LC < lcService)
  ∧ (∃ (s : State),
      s.domOn 5 = true
      ∧ s.blockOff (0xE0010) = false
      ∧ s.domOn 2 = true
      ∧ s.fbit R.BOOT_LC_STATUS_CHAL_VALID = true
      ∧ s.fget R.BOOT_STATUS_LC < lcService
      ∧ s.responseOk = true)
  ∧ (∃ (s : State),
      s.domOn 5 = true
      ∧ s.blockOff (0xE0010) = false
      ∧ s.domOn 2 = true
      ∧ s.fbit R.BOOT_LC_STATUS_CHAL_VALID = true
      ∧ s.fget R.BOOT_STATUS_LC < lcService
      ∧ s.responseOk = false)
  ∧ (∃ (s : State),
      s.domOn 5 = true
      ∧ s.blockOff (0xE0010) = false
      ∧ s.domOn 2 = true
      ∧ lcService ≤ s.fget R.BOOT_STATUS_LC)
  ∧ (∃ (s : State),
      s.domOn 2 = false)
  ∧ (∃ (s : State),
      s.domOn 2 = true)
  ∧ (∃ (s : State),
      s.boot.locked = true
      ∧ s.boot.lockS = 0)
  ∧ (∃ (s : State),
      (s.boot.locked = false ∨ s.boot.lockS ≠ 0))
  ∧ (∃ (s : State),
      (s.boot.locked = false ∨ s.domOn 1 = false ∨ s.domOn 2 = false))
  ∧ (∃ (s : State),
      s.boot.locked = true
      ∧ s.domOn 1 = true
      ∧ s.domOn 2 = true)
  ∧ (∃ (s : State),
      (s.domOn 5 = false ∨ s.blockOff (0xE0010) = true)) :=
  ⟨⟨{ upAll bare with boot := { bare.boot with locked := false } }, by decide +kernel⟩,
    ⟨{ upAll bare with boot := { bare.boot with locked := true } }, by decide +kernel⟩,
    ⟨((upAll bare).fset R.BOOT_STATUS_LC 2).fsetb R.BOOT_LC_STATUS_CHAL_VALID false, by decide +kernel⟩,
    ⟨({ (((upAll bare).fset R.BOOT_STATUS_LC 1).fsetb R.BOOT_LC_STATUS_CHAL_VALID true) with boot := { bare.boot with otpKey := none } }).wr 0xE0100 5, by decide +kernel⟩,
    ⟨({ (((upAll bare).fset R.BOOT_STATUS_LC 1).fsetb R.BOOT_LC_STATUS_CHAL_VALID true) with boot := { bare.boot with otpKey := none } }).wr 0xE0100 55, by decide +kernel⟩,
    ⟨((upAll bare).fset R.BOOT_STATUS_LC 3), by decide +kernel⟩,
    ⟨bare.fset R.PWR_DOM_STATUS_ON 0xFFB, by decide +kernel⟩,
    ⟨upAll bare, by decide +kernel⟩,
    ⟨{ upAll bare with boot := { bare.boot with locked := true, lockS := 0 } }, by decide +kernel⟩,
    ⟨bare, by decide +kernel⟩,
    ⟨bare, by decide +kernel⟩,
    ⟨{ upAll bare with boot := { bare.boot with locked := true } }, by decide +kernel⟩,
    ⟨if bare.ticks % 2 = 0 then bare.fset R.PWR_DOM_STATUS_ON 0x20 else bare, by decide +kernel⟩⟩

/-- Each clause of FrameSupplyAndModes has a state and operands that meet its conditions. -/
theorem test_FrameSupplyAndModes_witness :
    (∃ (s : State),
      s.domOn 1 = true)
  ∧ (∃ (s : State),
      s.domOn 1 = false) :=
  ⟨⟨bare.fset R.PWR_DOM_STATUS_ON 0xFFF, by decide +kernel⟩,
    ⟨bare.fset R.PWR_DOM_STATUS_ON 0xFFD, by decide +kernel⟩⟩

/-- Each clause of FrameTicks has a state and operands that meet its conditions. -/
theorem test_FrameTicks_witness :
    ∃ (s : State),
      s.alone :=
  ⟨bare, by decide +kernel⟩

/-- Each clause of FrameDescriptors has a state and operands that meet its conditions. -/
theorem test_FrameDescriptors_witness :
    ∃ (s : State),
      s.alone :=
  ⟨bare, by decide +kernel⟩

/-- Each clause of FrameProtocolAndTwin has a state and operands that meet its conditions. -/
theorem test_FrameProtocolAndTwin_witness :
    ∃ (s : State),
      s.alone :=
  ⟨bare, by decide +kernel⟩

/-! ## The machine's statements -/

/-- A machine that slews by one unit a tick over the last tick of its offset. -/
def slewing : State := { upAll State.reset with clk := { State.reset.clk with slewQ := -1, slewLeft := 1 } }

/-- An idle tick is reached with NET off, with NET on, and at the end of a slew. -/
theorem test_IdleTickAddsTheIncrement_witness :
    (State.reset.pending = [] ∧ State.reset.domOn 9 = false) ∧ ((upAll State.reset).pending = [] ∧ (upAll State.reset).domOn 9 = true)
      ∧ (slewing.pending = [] ∧ slewing.domOn 9 = true ∧ slewing.slewTicks ≤ 1 ∧ slewing.clk.slewQ ≠ 0) := by
  decide +kernel

/-- The conditions of EveryCommandCompletes and StepRunsTheFront are empty; those of the two that a step keeps hold at reset, and a step is taken there. -/
theorem test_StepKeeps_witness : ∃ t, State.reset.shape ∧ State.reset.filesWf ∧ step State.reset = .next t :=
  ⟨_, by decide +kernel, by decide +kernel, rfl⟩

/-- A machine in LIMP with the fault pins low, and the same held in reset. -/
def runLow : State :=
  { (upAll State.reset).fset R.PWR_MODE_MODE 1 with aon := { State.reset.aon with faultPins := true, resetHeld := false } }
def stuckLow : State := { runLow with aon := { runLow.aon with resetHeld := true } }

/-- The conditions of FaultPinsFollowTheFaults: settled levels with a step, a latched fault that drives the pins, the stuck-reset bit, and low pins before RESET_N and while it is held. -/
theorem test_FaultPinsFollowTheFaults_witness :
    (∃ t, State.reset.settledPins ∧ step State.reset = .next t)
  ∧ (∃ t, exec (.pcieLinkUp 3 4) (((upAll State.reset).fsetb R.PWR_RESET_STUCK_RESET true).fsetb (faultFld 1) true) = .next t
      ∧ faultDrivesPins 1 = true ∧ t.faultOn 1 = true ∧ t.fbit R.PWR_RESET_STUCK_RESET = true)
  ∧ (∃ t, runLow.inSentinel = false ∧ runLow.aon.faultPins = true ∧ exec .resetNAssert runLow = .next t)
  ∧ (∃ t, (∀ a b : Bool, Instr.pcieLinkUp 3 4 ≠ .powerOnReset a b ∧ Instr.pcieLinkUp 3 4 ≠ .collapseResetTimeout a)
      ∧ stuckLow.aon.resetHeld = true ∧ stuckLow.inSentinel = false ∧ stuckLow.aon.faultPins = true
      ∧ exec (.pcieLinkUp 3 4) stuckLow = .next t ∧ t.aon.resetHeld = true ∧ t.inSentinel = false) :=
  ⟨⟨_, by decide +kernel, rfl⟩, ⟨_, rfl, by decide +kernel⟩, ⟨_, by decide +kernel, by decide +kernel, rfl⟩,
    ⟨_, fun _ _ => ⟨nofun, nofun⟩, by decide +kernel, by decide +kernel, by decide +kernel, rfl, by decide +kernel⟩⟩

/-- The conditions of ServiceEnds: SERVICE with a closed life cycle below it, RESET_N outside SENTINEL, and a mode transition to LIMP that begins. -/
theorem test_ServiceEnds_witness :
    (((upAll State.reset).fset R.BOOT_STATUS_LC lcService).domOn 5 = true
      ∧ ((upAll State.reset).fset R.BOOT_STATUS_LC lcService).blockOff 0xE0010 = false
      ∧ ((upAll State.reset).fset R.BOOT_STATUS_LC lcService).domOn 2 = true
      ∧ ((upAll State.reset).fset R.BOOT_STATUS_LC lcService).fget R.BOOT_STATUS_LC = lcService ∧ State.reset.boot.otpLc < 3)
  ∧ ((upAll State.reset).domOn 2 = true ∧ (upAll State.reset).aon.resetHeld = false ∧ (upAll State.reset).inSentinel = false)
  ∧ (∃ s t, exec .idleTimerExpiry s = .next t ∧ s.domOn 2 = true ∧ s.fbit R.PWR_MODE_BUSY = false
      ∧ t.fbit R.PWR_MODE_BUSY = true ∧ t.fget R.PWR_MODE_TARGET = 0) :=
  ⟨by decide +kernel, by decide +kernel, ⟨((((upAll State.reset).fset R.PWR_MODE_MODE 1).fset R.PWR_MODE_CFG_IDLE_S 60).fsetb R.PWR_MODE_BUSY false).takeForce R.PWR_MODE_CFG_IDLE_S, _, rfl, by decide +kernel⟩⟩

/-- The conditions of BlankInReset. -/
theorem test_BlankInReset_witness :
    ∃ s : State, s.aon.resetHeld = true ∧ (bitOf s.pins.raw 2 = true ∨ bitOf s.pins.raw 3 = true) :=
  ⟨{ State.reset with aon := { State.reset.aon with resetHeld := true }, pins := { State.reset.pins with raw := 4 } }, by decide +kernel⟩

/-! ## Ill-formed commands are refused -/

/-- One ill-formed command for each kind of check. -/
theorem test_wf_refuses :
    (([.bootComplete [] [] false false 65536 0 0 0, .bootComplete [] [] false false 0 256 0 0, .restorationComplete [] [] false false 65536 0 0 0,
       .modeTransitionComplete [] [] false false 0 256 0 0, .pmbusTransactionDone true 65536 0, .tileRelease (2 ^ 24), .compositionComplete 65536,
       .doorbellWrite 16 0 0 true, .doorbellWrite 0 4096 0 true, .doorbellWrite 0 0 (2 ^ 32) true, .descriptorArrival 0 (rep 63 0),
       .registerWrite (2 ^ 20) 0 true, .registerWrite 0 (2 ^ 32) true, .clrCntWrite 4, .ackNakReceived 0 65536 [], .sampleDeadline 0 16,
       .alignTimeout false (2 ^ 32), .segPulseEnd 0 65536 false [], .segCurrentCheck (2 ^ 20), .calibrationItemDone [1] [],
       .adcCheck [1, 2] [1, 2, 3]] : List Instr).all fun c => !c.wf) = true := by
  decide +kernel

/-- The greatest operands of the same checks are accepted. -/
theorem test_wf_accepts :
    (([.bootComplete [] [] false false 65535 255 0 0, .pmbusTransactionDone true 65535 0, .tileRelease (2 ^ 24 - 1), .compositionComplete 65535,
       .doorbellWrite 15 4095 (2 ^ 32 - 1) true, .descriptorArrival 0 (rep 64 0), .registerWrite (2 ^ 20 - 1) (2 ^ 32 - 1) true,
       .clrCntWrite 0x24, .ackNakReceived 0 65535 [], .sampleDeadline 0 15, .alignTimeout false (2 ^ 32 - 1)] : List Instr).all fun c => c.wf) = true := by
  decide +kernel

/-! ## The line code, the ordered sets, the patterns and the pixel store's code -/

/-- K28.5 is 0011111010 at negative running disparity and 1100000101 at positive (R225; the tables R225 names). -/
theorem test_comma_groups : codeGroup true symComma = 0b0011111010 ∧ codeGroup false symComma = 0b1100000101 := by decide +kernel

/-- D21.5 is 1010101010 at either running disparity. -/
theorem test_d21_5 : codeGroup true (dataSym 0xB5) = 0b1010101010 ∧ codeGroup false (dataSym 0xB5) = 0b1010101010 := by decide +kernel

/-- No two symbols that a lane may carry share a code group at one running disparity: each code group is read as the symbol sent. -/
theorem test_code_groups_distinct :
    (allSymbols.all fun s => symbolAt true (codeGroup true s) == some s && symbolAt false (codeGroup false s) == some s) = true := by
  decide +kernel

/-- The octets of Table 08-3 stand for their sets, and no other octet does. -/
theorem test_ordered_sets :
    setOf 0x4A = some (0, 0) ∧ setOf 0x50 = some (1, 0) ∧ setOf 0xC4 = some (2, 0) ∧ setOf 0xA3 = some (3, 3) ∧ setOf 0xA4 = none := by
  decide +kernel

/-- 64 valid symbols aligned on K28.5 give lock, 63 do not (R236). -/
theorem test_receiver_lock : (Receiver.take {} fill64).locked = true ∧ (Receiver.take {} (fill64.take 63)).locked = false := by decide +kernel

/-- The PRBS7 generator starts from all ones: its next bits are six zeros and a one, and it repeats after 127 (R251). -/
theorem test_prbs7 :
    prbsBits 0 7 (prbsStart 0) = [false, false, false, false, false, false, true]
      ∧ (prbsBits 0 134 (prbsStart 0)).drop 127 = (prbsBits 0 7 (prbsStart 0)) := by decide +kernel

/-- The check symbols of a line of zeros of line 0 are zeros, so the code word reads without error (R565). -/
theorem test_rs_zero : rsStored 0 (rep 64 0) = rep 72 0 := by decide +kernel

/-- A line written for line 5 reads back with one wrong byte corrected, and is uncorrectable for line 6 (R565, R566). -/
theorem test_rs_line :
    rsDecode 5 (upd (fun _ => 9) (rsStored 5 (rep 64 7)) 10) = ⟨1, 1, rep 64 7⟩
      ∧ (rsDecode 6 (rsStored 5 (rep 64 7))).outcome = 3 := by decide +kernel

/-- CRC-32C of the nine digits is its published check value E3069283 (R3). -/
theorem test_crc_check : crcWith [] [0x31, 0x32, 0x33, 0x34, 0x35, 0x36, 0x37, 0x38, 0x39] = 0xE3069283 := by decide +kernel

end Sys2Proof.Tests
end

namespace Sys2Proof.Machine

/-! ## What an operation may touch -/

section Runs

variable {R : State → State → Prop}

/-- What every step of a run keeps, the run keeps. -/
theorem foldl_rel {α : Type} (hr : ∀ s, R s s) (ht : ∀ {s t u}, R s t → R t u → R s u) (f : State → α → State) (l : List α)
    (hf : ∀ u, ∀ x ∈ l, R u (f u x)) (s : State) : R s (l.foldl f s) := by
  induction l generalizing s with
  | nil => exact hr s
  | cons x l ih => exact ht (hf s x List.mem_cons_self) (ih (fun u y hy => hf u y (List.mem_cons_of_mem x hy)) _)

theorem overList_rel (hr : ∀ s, R s s) (ht : ∀ {s t u}, R s t → R t u → R s u) (f : Nat → State → State) (l : List Nat)
    (hf : ∀ i ∈ l, ∀ u, R u (f i u)) (s : State) : R s (overList f l s) := by
  induction l generalizing s with
  | nil => exact hr s
  | cons x l ih => exact ht (hf x List.mem_cons_self s) (ih (fun i hi => hf i (List.mem_cons_of_mem x hi)) _)

end Runs

section Within

/-- `t` differs from `s` at most in the parts that `forget` erases and in the registers at the offsets that `regs` picks. -/
structure Within (forget : State → State) (regs : Nat → Prop) (s t : State) : Prop where
  rest : forget { t with regs := [] } = forget { s with regs := [] }
  rd : ∀ a, ¬ regs a → t.rd a = s.rd a

variable {F G : State → State} {P Q : Nat → Prop} {s t u : State}

theorem Within.refl (s : State) : Within F P s s := ⟨rfl, fun _ _ => rfl⟩

theorem Within.trans (h : Within F P s t) (k : Within F P t u) : Within F P s u :=
  ⟨k.rest.trans h.rest, fun a ha => (k.rd a ha).trans (h.rd a ha)⟩

/-- More parts forgotten, more registers picked. -/
theorem Within.mono (h : Within F P s t) (hF : ∀ x, G (F x) = G x) (hP : ∀ a, P a → Q a) : Within G Q s t :=
  ⟨by rw [← hF, h.rest, hF], fun a ha => h.rd a fun hp => ha (hP a hp)⟩

/-- A change of forgotten parts alone. -/
theorem Within.parts (h : F { t with regs := [] } = F { s with regs := [] }) (hr : t.regs = s.regs) : Within F P s t :=
  ⟨h, fun a _ => by unfold State.rd; rw [hr]⟩

theorem Within.fset {f : Fld} {v : Nat} (h : Within F P s t) (ha : P f.addr) : Within F P s (t.fset f v) :=
  ⟨h.rest, fun a hn => (rd_wr_other t f.addr a _ (by rintro rfl; exact hn ha)).trans (h.rd a hn)⟩

theorem Within.fsetb {f : Fld} {b : Bool} (h : Within F P s t) (ha : P f.addr) : Within F P s (t.fsetb f b) := h.fset ha

theorem Within.fadd {f : Fld} {k : Nat} (h : Within F P s t) (ha : P f.addr) : Within F P s (t.fadd f k) := h.fset ha

theorem Within.fget (h : Within F P s t) (f : Fld) (ha : ¬ P f.addr) : t.fget f = s.fget f := by
  unfold State.fget; rw [h.rd _ ha]

theorem Within.fbit (h : Within F P s t) (f : Fld) (ha : ¬ P f.addr) : t.fbit f = s.fbit f := by
  unfold State.fbit; rw [h.fget f ha]

theorem Within.ite {c : Prop} [Decidable c] (ht : Within F P s t) (he : Within F P s u) : Within F P s (if c then t else u) := by
  split
  · exact ht
  · exact he

theorem Within.foldl {α : Type} (f : State → α → State) (l : List α) (hf : ∀ u, ∀ x ∈ l, Within F P u (f u x)) (s : State) :
    Within F P s (l.foldl f s) := foldl_rel .refl .trans f l hf s

theorem Within.overList (f : Nat → State → State) (l : List Nat) (hf : ∀ i ∈ l, ∀ u, Within F P u (f i u)) (s : State) :
    Within F P s (overList f l s) := overList_rel .refl .trans f l hf s

theorem Within.overAll (n : Nat) (f : Nat → State → State) (hf : ∀ i, i < n → ∀ u, Within F P u (f i u)) (s : State) :
    Within F P s (overAll n f s) :=
  Within.overList f _ (fun i hi => hf i (List.mem_range.1 hi)) s

end Within

/-! ## Rings and lanes -/

/-- The state without the host interface, the commands in hand, the ports and twin links, what has left the device, and the draws of free values. -/
def State.sansIo (s : State) : State := { s with host := {}, cmds := {}, out := [], ports := [], twin := {}, free := 0 }

/-- The registers that records change, the ring heads lying at 0x10 of each 0x40 bytes, and those of the tile ports. -/
abbrev ioReg (a : Nat) : Prop := a = 0x10000 ∨ a = 0x1000C ∨ a % 0x40 = 0x10 ∨ a / 0x10000 = 6

/-- Only what goes on over the rings and the lanes changes. -/
abbrev OnlyIo := Within State.sansIo ioReg

theorem tile_io {p : Nat} (k : Nat) (hp : p < 24) (hk : k < 0x800) : ioReg (0x60000 + k + p * 0x800) := by
  unfold ioReg; omega

theorem recordReg_io (a : Nat) (h : recordReg a) : ioReg a := by
  unfold ioReg
  rcases h with rfl | rfl | ⟨n, rfl⟩ <;> omega

theorem OnlyRecords.io {s t : State} (h : OnlyRecords s t) : OnlyIo s t where
  rest := by
    cases s; cases t
    obtain ⟨rfl, rfl, rfl, rfl, rfl, rfl, rfl, rfl, rfl, rfl, rfl, rfl, rfl, rfl, rfl, rfl, rfl, rfl, rfl, rfl, rfl, rfl, rfl, -⟩ := h
    rfl
  rd a ha := h.rd a fun hr => ha (recordReg_io a hr)

section Links

variable {s t : State}

theorem Within.setPort {p : Nat} {f : Port → Port} (h : OnlyIo s t) : OnlyIo s (t.setPort p f) := h.trans (.parts rfl rfl)
theorem Within.setLink {l : Nat} {f : TwinLink → TwinLink} (h : OnlyIo s t) : OnlyIo s (t.setLink l f) := h.trans (.parts rfl rfl)
theorem Within.emits {os : List Output} (h : OnlyIo s t) : OnlyIo s (t.emits os) := h.trans (.parts rfl rfl)

theorem Within.send {o : Output} (h : OnlyIo s t) : OnlyIo s (t.send o) := by
  refine h.trans ?_
  unfold State.send State.laneSent
  split <;> exact .parts rfl rfl

theorem exitIdle_io {p : Nat} (hp : p < 24) (s : State) : OnlyIo s (s.exitIdle p) := by
  unfold State.exitIdle
  split
  · exact .send (.fset (.refl s) (tile_io 0x10 hp (by decide)))
  · exact .refl s

theorem startPkt_io {p : Nat} (hp : p < 24) (u : SentPkt) (at_ : Nat) (s : State) : OnlyIo s (s.startPkt p u at_) := by
  unfold State.startPkt
  dsimp only
  split
  · exact .setPort (.setPort (.send (.fset (exitIdle_io hp s) (tile_io 0x4C hp (by decide)))))
  · exact .setPort (.send (.fset (exitIdle_io hp s) (tile_io 0x4C hp (by decide))))

theorem sendPkt_io {p : Nat} (hp : p < 24) (u : SentPkt) (s : State) : OnlyIo s (s.sendPkt p u) := by
  unfold State.sendPkt
  split
  · exact .setPort (.refl s)
  · exact startPkt_io hp _ _ s

theorem sendNow_io {p : Nat} (hp : p < 24) (kind : Nat) (body : List Byte) (due : Nat) (s : State) :
    OnlyIo s (s.sendNow p kind body due) := sendPkt_io hp _ s

theorem sendControl_io {p : Nat} (hp : p < 24) (kind : Nat) (body : List Byte) (s : State) : OnlyIo s (s.sendControl p kind body) := by
  unfold State.sendControl
  split
  · exact .refl s
  split
  · exact .setPort (.refl s)
  · exact sendNow_io hp _ _ _ s

theorem sendCtrl_io {p : Nat} (hp : p < 24) (sub : Nat) (rest : List Byte) (s : State) : OnlyIo s (s.sendCtrl p sub rest) :=
  sendControl_io hp _ _ s

theorem nextControl_io {p : Nat} (hp : p < 24) (s : State) : OnlyIo s (s.nextControl p) := by
  unfold State.nextControl
  split
  · exact .refl s
  split
  · exact .refl s
  · exact .trans (.setPort (.refl s)) (sendNow_io hp _ _ _ _)

theorem sendQueued_io {p : Nat} (hp : p < 24) (k : Nat) (s : State) : OnlyIo s (sendQueued p k s) := by
  induction k generalizing s with
  | zero => exact .refl s
  | succ k ih =>
    unfold sendQueued
    split
    · exact .refl s
    extract_lets at_
    split
    · exact .trans (.trans (.setPort (.refl s)) (startPkt_io hp _ _ _)) (ih _)
    · exact .refl s

theorem portGoes_io {p : Nat} (hp : p < 24) (s : State) : OnlyIo s (portGoes p s) := sendQueued_io hp _ s

theorem abandonWire_io (p : Nat) (s : State) : OnlyIo s (s.abandonWire p) := .emits (.setPort (.refl s))

/-! ### A PRBS test that ends in RETRAIN -/

theorem setHs_io (u l : Nat) (f : Handshake → Handshake) (s : State) : OnlyIo s (s.setHs u l f) := by
  unfold State.setHs
  split
  · exact .setPort (.refl s)
  · exact .setLink (.refl s)

theorem setRx_io (u l : Nat) (f : Receiver → Receiver) (s : State) : OnlyIo s (s.setRx u l f) := by
  unfold State.setRx
  split
  · exact .setPort (.refl s)
  · exact .setLink (.refl s)

theorem dropLocks_io (u : Nat) (ls : List Nat) (s : State) : OnlyIo s (s.dropLocks u ls) :=
  .foldl _ _ (fun v l _ => .trans (setRx_io u l _ v) (setHs_io u l _ _)) s

theorem sendTrn_io (u l : Nat) (s : State) : OnlyIo s (s.sendTrn u l) := by
  unfold State.sendTrn
  split
  · exact .refl s
  · exact .send (setHs_io u l _ s)

theorem startTrn_io (u : Nat) (s : State) : OnlyIo s (s.startTrn u) := by
  unfold State.startTrn
  dsimp only
  refine .trans ?_ (.foldl _ _ (fun v l _ => sendTrn_io u l v) _)
  split
  · exact .setPort (.refl s)
  · exact .setLink (.refl s)

theorem stateFld_tile {p : Nat} (hp : p < 24) : stateFld p = R.TILE_LANE_STATUS_STATE p := if_pos hp

theorem setLane_io {p : Nat} (hp : p < 24) (st : Nat) (s : State) : OnlyIo s (s.setLane p st) := by
  unfold State.setLane
  rw [stateFld_tile hp]
  dsimp only
  rw [if_pos hp]
  exact .fset (.refl s) (tile_io 0x10 hp (by decide))

theorem enterRetrain_io {p : Nat} (hp : p < 24) (s : State) : OnlyIo s (s.enterRetrain p) := by
  have h1 : OnlyIo s (if decide (p < 24) && s.laneOf p == laneIdle then s.send (.exitBurst p) else s) := by
    split
    · exact .send (.refl s)
    · exact .refl s
  have h2 := h1.trans (setLane_io hp laneRetrain _)
  unfold State.enterRetrain
  dsimp only
  refine .trans ?_ (startTrn_io p _)
  rw [if_pos hp]
  exact .fsetb (.fsetb (.setPort (h2.trans (.foldl _ _ (fun v l _ => setHs_io p l _ v) _))) (tile_io 0x44 hp (by decide)))
    (tile_io 0x10 hp (by decide))

theorem portPrbsCount_io {p : Nat} (hp : p < 24) (r : PrbsResult) (s : State) : OnlyIo s (s.portPrbsCount p r) := by
  unfold State.portPrbsCount
  exact .setPort (.fsetb (.fsetb (.fadd (.fadd (.fadd (.refl s) (tile_io 0x2C hp (by decide))) (tile_io 0x30 hp (by decide)))
    (tile_io 0x28 hp (by decide))) (tile_io 0x28 hp (by decide))) (tile_io 0x28 hp (by decide)))

theorem cutPortPrbs_io {p : Nat} (hp : p < 24) (s : State) : OnlyIo s (s.cutPortPrbs p) := by
  unfold State.cutPortPrbs
  split
  · exact .refl s
  · refine .trans (t := { s with free := s.free + 4 }) (.parts rfl rfl) (portPrbsCount_io hp _ _)

theorem endPrbs_io {p : Nat} (hp : p < 24) (s : State) : OnlyIo s (s.endPrbs p) := by
  unfold State.endPrbs
  split
  · exact .trans (.trans (.fsetb (cutPortPrbs_io hp s) (tile_io 0x28 hp (by decide))) (dropLocks_io p _ _)) (enterRetrain_io hp _)
  · exact .refl s

/-! ### Totality and LIMP on the lanes -/

theorem totPort_io {p : Nat} (hp : p < 24) (s : State) : OnlyIo s (totPort p s) := by
  have h : OnlyIo s (if s.portOn p && (s.lane p == laneLinked || s.lane p == laneActive || s.lane p == laneIdle) then
      portGoes p (((((s.exitIdle p).abandonWire p).send (.kcode p 0)).fsetb (R.TILE_PROTO_STATUS_TOTALITY_TX p) true).nextControl p) else s) := by
    split
    · exact .trans (.trans (.fsetb (.send (.trans (exitIdle_io hp s) (abandonWire_io p _))) (tile_io 0x44 hp (by decide)))
        (nextControl_io hp _)) (portGoes_io hp _)
    · exact .refl s
  unfold totPort
  dsimp only
  refine .trans ?_ (endPrbs_io hp _)
  split
  · exact .setPort h
  · exact h

theorem resendLimp_io {p : Nat} (hp : p < 24) (s : State) : OnlyIo s (s.resendLimp p) := by
  unfold State.resendLimp
  split
  · exact .refl s
  · exact .trans (.setPort (.refl s)) (.foldl _ _ (fun v e _ => sendNow_io hp _ _ _ v) _)

theorem totResume_io {p : Nat} (hp : p < 24) (s : State) : OnlyIo s (totResume p s) := by
  unfold totResume
  dsimp only
  refine .trans (t := s.fsetb (R.TILE_PROTO_STATUS_TOTALITY_TX p) false) (.fsetb (.refl s) (tile_io 0x44 hp (by decide))) ?_
  split
  · exact .refl _
  split
  · exact .trans (sendCtrl_io hp _ _ _) (resendLimp_io hp _)
  · exact .setPort (.refl _)

theorem showLimpPort_io {p : Nat} (hp : p < 24) (s : State) : OnlyIo s (showLimpPort p s) := by
  unfold showLimpPort
  split
  · exact sendCtrl_io hp _ _ s
  · exact .refl s

theorem completeSlot_io (ring pos : Nat) (st : Status) (frame : Nat) (result : List Byte) (s : State) :
    OnlyIo s (s.completeSlot ring pos st frame result) := by
  unfold State.completeSlot
  split
  · exact .refl s
  · refine .trans ?_ (complete_records _ _ _ _ _).io
    exact .parts rfl rfl

theorem eventDev_io (source code : Nat) (body : List Byte) (s : State) : OnlyIo s (s.eventDev source code body) :=
  (eventDev_records s source code body).io

theorem mem_maskList {n m i : Nat} (h : i ∈ maskList n m) : i < n := List.mem_range.1 (List.mem_of_mem_filter h)

end Links

end Sys2Proof.Machine

namespace Sys2Proof.Machine

/-! ## Levels, records of faults, and Totality -/

section Faults

variable {s t : State}

/-- The state without the level of the fault pins. -/
def State.sansPins (s : State) : State := { s with aon := { s.aon with faultPins := false } }

theorem OnlyLevels.within (h : OnlyLevels s t) : Within State.sansPins (· = 0x90000) s t where
  rest := by
    cases s; cases t
    obtain ⟨rfl, rfl, rfl, rfl, rfl, rfl, rfl, rfl, rfl, rfl, rfl, rfl, rfl, rfl, rfl, rfl, rfl, rfl, rfl, rfl, rfl, rfl, rfl, rfl, haon, -⟩ := h
    dsimp only at haon
    rw [haon]
    rfl
  rd a ha := h.rd a ha

/-- The registers that the record of a fault changes: SAFE_STATUS and SAFE_FAULT, besides those of records. -/
abbrev reportReg (a : Nat) : Prop := ioReg a ∨ (0x90000 ≤ a ∧ a ≤ 0x90010)

/-- Only the record of a fault, or its end, changes. -/
abbrev OnlyReport := Within (fun s => s.sansIo.sansPins) reportReg

theorem Within.report (h : OnlyIo s t) : OnlyReport s t := h.mono (fun _ => rfl) fun _ => Or.inl

theorem OnlyLevels.report (h : OnlyLevels s t) : OnlyReport s t := h.within.mono (fun _ => rfl) fun _ ha => Or.inr (by omega)

theorem faultFld_report (f : Nat) : reportReg (faultFld f).addr := by
  unfold faultFld
  split <;> exact Or.inr ⟨by simp, by simp⟩

theorem latchFault_report (f : Nat) (s : State) : OnlyReport s (s.latchFault f) :=
  .trans (.fsetb (.refl s) (faultFld_report f)) (drivePins_only _).report

theorem clearFault_report (f : Nat) (s : State) : OnlyReport s (s.clearFault f) := by
  unfold State.clearFault
  split
  · exact .trans (.fsetb (.refl s) (faultFld_report f)) (drivePins_only _).report
  · exact .refl s

theorem recordFault_report (f inst detail : Nat) (s : State) : OnlyReport s (s.recordFault f inst detail) := by
  have h : OnlyReport s (if s.fget R.SAFE_FAULT_FIRST_CODE = 0 then
      (s.fset R.SAFE_FAULT_FIRST_CODE f).fset R.SAFE_FAULT_FIRST_INSTANCE inst else s) := by
    split
    · exact .fset (.fset (.refl s) (Or.inr (by decide))) (Or.inr (by decide))
    · exact .refl s
  unfold State.recordFault
  exact .trans (.trans (.fset (.fset h (Or.inr (by decide))) (Or.inr (by decide))) (latchFault_report f _)) (eventDev_io _ _ _ _).report

theorem latchFault_faultOn {f : Nat} (h32 : f ≤ 32) (s : State) : (s.latchFault f).faultOn f = true := by
  have hf : faultFld f = ⟨0x9000C, f - 1, 1⟩ := if_pos h32
  unfold State.latchFault State.faultOn
  rw [(drivePins_only _).within.fbit _ (by simp [hf]), fbit_fsetb_same _ _ _ (by rw [hf]; dsimp only; omega) (by rw [hf])]

/-- A fault of SAFE_FAULT_ACT_LO stands once it is recorded. -/
theorem recordFault_faultOn {f : Nat} (h32 : f ≤ 32) (inst detail : Nat) (s : State) :
    (s.recordFault f inst detail).faultOn f = true := by
  have hf : faultFld f = ⟨0x9000C, f - 1, 1⟩ := if_pos h32
  unfold State.recordFault
  dsimp only
  unfold State.faultOn
  rw [(eventDev_io _ _ _ _).fbit _ (by simp [hf])]
  exact latchFault_faultOn h32 _

/-- A fault that is only reported, and that no twin takes into account (Table 11-6). -/
theorem raise_of_report {f : Nat} (hr : reactionOf f = .report) (h1 : [1, 8, 9, 15, 26, 27, 28, 29].contains f = false)
    (h2 : [1, 8, 9, 15, 27, 29, 30].contains f = false) (inst detail : Nat) (s : State) :
    s.raise f inst detail = if s.domOn 1 then s.recordFault f inst detail else s := by
  simp only [State.raise, State.reactTo, State.twinFault, hr, h1, h2, Bool.false_eq_true, if_false]

theorem raise_report {f : Nat} (hr : reactionOf f = .report) (h1 : [1, 8, 9, 15, 26, 27, 28, 29].contains f = false)
    (h2 : [1, 8, 9, 15, 27, 29, 30].contains f = false) (inst detail : Nat) (s : State) : OnlyReport s (s.raise f inst detail) := by
  rw [raise_of_report hr h1 h2]
  split
  · exact recordFault_report f inst detail s
  · exact .refl s

/-! ### What a fault does to a twin pair, and Totality -/

/-- The state without what Totality changes: lanes, rings, the fault pins, TWIN_ALIVE and the segments' pulses. -/
def State.sansTot (s : State) : State := { s.sansIo with seg := {}, aon := { s.aon with faultPins := false, twinAlive := false } }

/-- The registers that Totality changes besides its sources: TWIN, SEG_STATUS, SAFE_STATUS and SAFE_TOT_PORTS. -/
abbrev totReg (a : Nat) : Prop := ioReg a ∨ a / 0x10000 = 7 ∨ a = 0x80008 ∨ a = 0x90000 ∨ a = 0x90018

/-- Only what Totality changes. -/
abbrev OnlyTot := Within State.sansTot totReg

theorem Within.tot (h : OnlyIo s t) : OnlyTot s t := h.mono (fun _ => rfl) fun _ => Or.inl

theorem OnlyLevels.tot (h : OnlyLevels s t) : OnlyTot s t := h.within.mono (fun _ => rfl) fun _ ha => by unfold totReg; omega

theorem yieldNow_tot (s : State) : OnlyTot s s.yieldNow := by
  unfold State.yieldNow
  split
  · refine .trans ?_ (eventDev_io _ _ _ _).tot
    exact .fsetb (.parts rfl rfl) (Or.inr (Or.inl rfl))
  · exact .refl s

theorem twinFault_tot (f : Nat) (s : State) : OnlyTot s (s.twinFault f) := by
  have h : OnlyTot s (if [1, 8, 9, 15, 26, 27, 28, 29].contains f then s.twinBad else s) := by
    split
    · exact .parts rfl rfl
    · exact .refl s
  unfold State.twinFault
  dsimp only
  split
  · exact h.trans (yieldNow_tot _)
  · exact h

theorem segFollowTot_tot (s : State) : OnlyTot s s.segFollowTot := by
  unfold State.segFollowTot
  split
  · exact .fsetb (.parts rfl rfl) (by decide)
  · exact .fsetb (.refl s) (by decide)

theorem totApply_tot (s : State) : OnlyTot s s.totApply := by
  unfold State.totApply
  refine .trans (.trans ?_ (segFollowTot_tot _)) (showSafe_only _).tot
  refine .trans (t := s.fset R.SAFE_TOT_PORTS_PORTS s.totScope) (.fset (.refl s) (by decide)) ?_
  exact .overList _ _ (fun p hp u => (totPort_io (mem_maskList (List.mem_of_mem_filter hp)) u).tot) _

theorem totEvent_io (srcs : List TotSrc) (groups : Nat) (released : Bool) (s : State) : OnlyIo s (s.totEvent srcs groups released) :=
  eventDev_io _ _ _ s

theorem safeEvent_io (kind fault : Nat) (s : State) : OnlyIo s (s.safeEvent kind fault) := eventDev_io _ _ _ s

/-- A request of Totality latches its source; the rest follows from it. -/
theorem totRequest_tot (src : TotSrc) (groups fault : Nat) (s : State) :
    OnlyTot (s.fsetb src.fld true) (s.totRequest src groups fault) := by
  unfold State.totRequest
  extract_lets wasDark a b c
  have ha : OnlyTot (s.fsetb src.fld true) a := totApply_tot _
  have hb : OnlyTot (s.fsetb src.fld true) b := by
    unfold b
    split
    · exact ha.trans (Within.send (.send (.refl a))).tot
    · exact ha
  have hc : OnlyTot (s.fsetb src.fld true) c := hb.trans (totEvent_io _ _ _ _).tot
  split
  · exact hc.trans (safeEvent_io _ _ _).tot
  · exact hc

end Faults

end Sys2Proof.Machine

namespace Sys2Proof.Machine

/-! ## Rails -/

section Rails

variable {s t : State}

/-- The state without the supplies, what has left the device aside. -/
def State.sansSup (s : State) : State := { s with sup := {}, out := [] }

/-- The registers of the rails. -/
abbrev railReg (a : Nat) : Prop := 0x20040 ≤ a ∧ a < 0x20090

/-- Only the rail sequencer and the rails' registers change. -/
abbrev OnlyRails := Within State.sansSup railReg

theorem Within.setSup {f : SupplySt → SupplySt} (h : OnlyRails s t) : OnlyRails s (t.setSup f) := h.trans (.parts rfl rfl)

theorem pmbusStart_rails (s : State) : OnlyRails s s.pmbusStart := by
  unfold State.pmbusStart
  split
  · exact .refl s
  split
  · exact .refl s
  · exact .parts rfl rfl

theorem pmbusAdd_rails (js : List PmbusJob) (s : State) : OnlyRails s (s.pmbusAdd js) := .trans (.setSup (.refl s)) (pmbusStart_rails _)

theorem railEn_rails {r : Nat} (hr : r < 5) (b : Bool) (s : State) : OnlyRails s (s.railEn r b) :=
  .fsetb (.refl s) (by show 0x20040 ≤ 0x20048 + r * 0x10 ∧ 0x20048 + r * 0x10 < 0x20090; omega)

theorem railBegin_rails {r : Nat} (hr : r < 5) (s : State) : OnlyRails s (s.railBegin r) := by
  unfold State.railBegin
  split
  · exact .trans (.setSup (.refl _)) (pmbusAdd_rails _ _)
  · exact .trans (.setSup (.refl _)) (railEn_rails hr true _)

theorem railStart_rails {r : Nat} (hr : r < 5) (s : State) : OnlyRails s (s.railStart r) :=
  .trans (.setSup (.refl s)) (railBegin_rails hr _)

theorem railAfter_lt {r i : Nat} (h : s.railAfter r = some i) : i < 5 := List.mem_range.1 (List.mem_of_find?_eq_some h)

theorem railsDownDone_rails (s : State) : OnlyRails s s.railsDownDone := by
  unfold State.railsDownDone
  dsimp only
  split
  · exact .setSup (.setSup (.refl s))
  · exact .setSup (.refl s)

theorem railDrop_rails {r : Nat} (hr : r < 5) (s : State) : OnlyRails s (State.railDrop r s) := by
  induction r generalizing s with
  | zero =>
    have h : OnlyRails s ((s.setSup fun u => { u with rail := 0, step := .waitLow }).railEn 0 false) :=
      .trans (.setSup (.refl s)) (railEn_rails hr false _)
    unfold State.railDrop
    dsimp only
    split
    · exact h
    · exact h.trans (railsDownDone_rails _)
  | succ r ih =>
    have h : OnlyRails s ((s.setSup fun u => { u with rail := r + 1, step := .waitLow }).railEn (r + 1) false) :=
      .trans (.setSup (.refl s)) (railEn_rails hr false _)
    unfold State.railDrop
    dsimp only
    split
    · exact h
    split
    · exact h.trans (railsDownDone_rails _)
    · exact h.trans (ih (by omega) _)

theorem railsDown_rails (why : RailPurpose) (s : State) : OnlyRails s (s.railsDown why) :=
  .trans (.setSup (.refl s)) (railDrop_rails (by decide) _)

end Rails

/-! ## LIMP -/

section Limp

variable {s t : State}

/-- The state without what the entry into LIMP changes. -/
def State.sansLimp (s : State) : State := { s.sansTot with mode := { wakeHeld := s.mode.wakeHeld }, safe := {}, sup := {} }

/-- The registers that the entry into LIMP changes: those of PWR and SAFE_STATUS, besides what Totality changes. -/
abbrev limpReg (a : Nat) : Prop := totReg a ∨ a / 0x10000 = 2

/-- Only what the entry into LIMP changes. -/
abbrev OnlyLimp := Within State.sansLimp limpReg

theorem Within.limp (h : OnlyTot s t) : OnlyLimp s t := h.mono (fun _ => rfl) fun _ => Or.inl

theorem OnlyRails.limp (h : OnlyRails s t) : OnlyLimp s t := h.mono (fun _ => rfl) fun _ ha => Or.inr (by unfold railReg at ha; omega)

theorem showLimps_io (s : State) : OnlyIo s (overAll 6 showLimpPort s) :=
  .overAll 6 _ (fun i hi u => showLimpPort_io (p := i) (by omega) u) s

theorem idleStop_limp (s : State) : OnlyLimp s s.idleStop := .fsetb (.fset (.refl s) (Or.inr rfl)) (Or.inr rfl)

theorem modeEvent_io (src dst cause : Nat) (s : State) : OnlyIo s (s.modeEvent src dst cause) := eventDev_io _ _ _ s

/-- The LIMP beam taking a form changes lanes and SAFE_STATUS, and of the rest SAFE alone. -/
theorem limpForm_within (form : LimpForm) (s : State) :
    Within (fun x => { x.sansTot with safe := {} }) totReg s (s.limpForm form) := by
  unfold State.limpForm
  extract_lets f kept _ u
  refine .trans ?_ ((showSafe_only _).tot.mono (fun _ => rfl) fun _ h => h)
  refine .trans (t := u) (.parts rfl rfl) ?_
  split
  · exact (showLimps_io u).tot.mono (fun _ => rfl) fun _ h => h
  · exact .refl u

theorem limpForm_limp (form : LimpForm) (s : State) : OnlyLimp s (s.limpForm form) :=
  (limpForm_within form s).mono (fun _ => rfl) fun _ => Or.inl

/-- Withdrawing an exit from LIMP leaves TARGET and BUSY as LIMP has them, and the mode as it is. -/
theorem withdrawExit_limp (s : State) : OnlyLimp s s.withdrawExit := by
  unfold State.withdrawExit
  split
  · exact .refl s
  split
  · exact .refl s
  extract_lets _ a b _ c d
  have hb : OnlyLimp s b := .fset (.fsetb (.parts rfl rfl) (Or.inr rfl)) (Or.inr rfl)
  have hc : OnlyLimp s c := hb.trans (.parts rfl rfl)
  have hd : OnlyLimp s d := by
    unfold d
    split
    · exact hc.trans (showLimps_io c).tot.limp
    · exact hc
  split
  · exact hd
  · exact hd.trans (completeSlot_io _ _ _ _ _ d).tot.limp

theorem modeSet_limp (dst cause : Nat) (s : State) : OnlyLimp s (s.modeSet dst cause) := by
  unfold State.modeSet
  extract_lets src a b
  have ha : OnlyLimp s a := .fset (.fset (.fset (.refl s) (Or.inr rfl)) (Or.inr rfl)) (Or.inr rfl)
  refine .trans (.fsetb ?_ (Or.inr rfl)) (modeEvent_io _ _ _ _).tot.limp
  unfold b
  split
  · exact ha
  · exact ha.trans (idleStop_limp a)

/-- The decision to leave PARK for LIMP, as the mode record has it. -/
def State.parkLeft (s : State) (cause : Nat) : State :=
  { s with mode := { s.mode with trans := some { src := 3, dst := 4, cause := cause }, exitAt := some s.ticks } }

theorem parkLeft_limp (cause : Nat) (s : State) : OnlyLimp s (s.parkLeft cause) := .parts rfl rfl

theorem parkLeft_fget (cause : Nat) (f : Fld) (s : State) : (s.parkLeft cause).fget f = s.fget f := rfl

/-- After the decision to leave PARK for LIMP only the rails go on. -/
theorem limpFromPark_rails (cause : Nat) (s : State) :
    OnlyRails (((s.fset R.PWR_MODE_TARGET 4).fsetb R.PWR_MODE_BUSY true).parkLeft cause).idleStop (s.limpFromPark cause) := by
  rw [State.limpFromPark]
  unfold State.parkLeft
  dsimp only
  generalize State.idleStop _ = b
  split
  · rename_i r hr
    exact .trans (.setSup (.refl b)) (railStart_rails (railAfter_lt hr) _)
  · exact .refl b

theorem limpFromPark_limp (cause : Nat) (s : State) : OnlyLimp s (s.limpFromPark cause) := by
  have hd : OnlyLimp s ((s.fset R.PWR_MODE_TARGET 4).fsetb R.PWR_MODE_BUSY true) := .fsetb (.fset (.refl s) (Or.inr rfl)) (Or.inr rfl)
  exact ((hd.trans (parkLeft_limp cause _)).trans (idleStop_limp _)).trans (limpFromPark_rails cause s).limp

theorem takeLimp_limp (form : LimpForm) (fault cause : Nat) (s : State) : OnlyLimp s (s.takeLimp form fault cause) := by
  unfold State.takeLimp
  split
  · exact (withdrawExit_limp s).trans (limpForm_limp form _)
  split
  · exact .parts rfl rfl
  extract_lets _ a b
  have ha : OnlyLimp s a := .parts rfl rfl
  refine .trans (.trans (ha.trans ?_) (limpForm_limp form _)) (safeEvent_io _ _ _).tot.limp
  unfold b
  split
  · exact limpFromPark_limp cause a
  · exact modeSet_limp 4 cause a

theorem enterLimp_limp (form : LimpForm) (fault cause : Nat) (s : State) : OnlyLimp s (s.enterLimp form fault cause) := by
  unfold State.enterLimp
  extract_lets ending _ a
  refine .trans ?_ (takeLimp_limp form fault cause a)
  unfold a
  split
  · exact .refl s
  split
  · exact .parts rfl rfl
  · exact .parts rfl rfl

end Limp

end Sys2Proof.Machine

namespace Sys2Proof.Machine

/-! ## Bits of a mask -/

theorem bitOf_eq_testBit (v i : Nat) : bitOf v i = v.testBit i := by
  rw [bitOf, Nat.testBit_eq_decide_div_mod_eq]
  rfl

theorem bitOf_maskSet (m i j : Nat) (b : Bool) : bitOf (maskSet m i b) j = if j = i then b else bitOf m j := by
  have hlow : m % 2 ^ i < 2 ^ i := Nat.mod_lt _ (Nat.two_pow_pos i)
  have hb : b2n b < 2 := by cases b <;> decide
  have hlt : 2 ^ i * b2n b + m % 2 ^ i < 2 ^ (i + 1) := by
    have := Nat.mul_le_mul_left (2 ^ i) (Nat.le_of_lt_succ hb)
    rw [Nat.pow_succ]; omega
  have e : maskSet m i b = 2 ^ (i + 1) * (m / 2 ^ (i + 1)) + (2 ^ i * b2n b + m % 2 ^ i) := by
    unfold maskSet; ring
  rw [bitOf_eq_testBit, bitOf_eq_testBit, e, Nat.testBit_two_pow_mul_add _ hlt, Nat.testBit_two_pow_mul_add _ hlow]
  rcases Nat.lt_trichotomy j i with h | rfl | h
  · rw [if_pos (by omega), if_pos h, if_neg (by omega), Nat.testBit_mod_two_pow, decide_eq_true h, Bool.true_and]
  · rw [if_pos (by omega), if_neg (by omega), if_pos rfl, Nat.sub_self]
    cases b <;> rfl
  · rw [if_neg (by omega), if_neg (by omega), Nat.testBit_div_two_pow, show j - (i + 1) + (i + 1) = j by omega]

/-! ## Readings through a change -/

section Readings

variable {F : State → State} {P : Nat → Prop} {s t : State}

/-- A reading that `forget` leaves alone is the same. -/
theorem Within.part {α : Type} (h : Within F P s t) (g : State → α) (hg : ∀ x, g (F { x with regs := [] }) = g x) : g t = g s := by
  rw [← hg t, h.rest, hg]

theorem domOn_fset (s : State) (f : Fld) (v d : Nat) (hf : f.addr ≠ 0x20024) : (s.fset f v).domOn d = s.domOn d := by
  unfold State.domOn; rw [fget_fset_addr s f R.PWR_DOM_STATUS_ON v hf.symm]

theorem domOn_fsetb (s : State) (f : Fld) (b : Bool) (d : Nat) (hf : f.addr ≠ 0x20024) : (s.fsetb f b).domOn d = s.domOn d :=
  domOn_fset s f _ d hf

theorem Within.domOn (h : Within F P s t) (ha : ¬ P 0x20024) (d : Nat) : t.domOn d = s.domOn d := by
  unfold State.domOn; rw [h.fget _ ha]

theorem Within.faultOn (h : Within F P s t) {f : Nat} (hf : f ≤ 32) (ha : ¬ P 0x9000C) : t.faultOn f = s.faultOn f :=
  h.fbit _ (by rw [show faultFld f = ⟨0x9000C, f - 1, 1⟩ from if_pos hf]; exact ha)

theorem after_faultOn (s t : State) {f : Nat} (hf : f ≤ 32) : (s.after t).faultOn f = t.faultOn f :=
  after_fbit s t _ (by simp [faultFld, hf])

theorem fbit_eq_false {f : Fld} : s.fbit f = false ↔ s.fget f = 0 := by simp [State.fbit]

end Readings

/-! ## BLANK -/

section Blank

variable {s : State}

/-- BLANK turns the segments' pulses off and shows it, no more. -/
theorem segBlankOff_only (s : State) : Within (fun x => { x with seg := {} }) (· = 0x80008) s s.segBlankOff := by
  unfold State.segBlankOff
  split
  · exact .refl s
  · exact .fsetb (.parts rfl rfl) rfl

theorem segBlankOff_tot (s : State) : OnlyTot s s.segBlankOff :=
  (segBlankOff_only s).mono (fun _ => rfl) fun a ha => by unfold totReg; omega

/-- The state in which a BLANK pin has just crossed its threshold. -/
def State.blankSeen (s : State) (b : Bool) : State :=
  { s with pins := { s.pins with raw := maskSet s.pins.raw (if b then 3 else 2) true }, safe := { s.safe with blankClear := 0 } }

/-- The request that an asserted BLANK pin makes with SAFE on and out of reset. -/
def State.blankAsked (s : State) (b : Bool) : State :=
  let u := s.blankSeen b
  (u.fset R.SAFE_INPUTS_RAW u.pins.raw).totRequest (if b then .blankB else .blankA) (u.srcGroups .blankA) 10

theorem xBlankAssert_eq (b : Bool) (s : State) :
    xBlankAssert b s = if s.inReset then (s.blankSeen b).segBlankOff
      else if !s.domOn 1 then s.blankSeen b else (s.blankAsked b).raise 10 0 0 := rfl

/-- While DIE-D is in reset or SAFE is off a BLANK pin reaches the segments alone (R21). -/
theorem xBlankAssert_reset (b : Bool) (h : s.domOn 1 = false ∨ s.inReset = true) : OnlyTot (s.blankSeen b) (xBlankAssert b s) := by
  rw [xBlankAssert_eq]
  split
  · exact segBlankOff_tot _
  · rename_i hr
    rw [h.resolve_right hr]
    exact .refl _

theorem blankSeen_raw (b : Bool) (s : State) : bitOf (s.blankSeen b).pins.raw (if b then 3 else 2) = true := by
  simp [State.blankSeen, bitOf_maskSet]

theorem blankAsked_only (b : Bool) (s : State) :
    OnlyTot (((s.blankSeen b).fset R.SAFE_INPUTS_RAW (s.blankSeen b).pins.raw).fsetb (if b then TotSrc.blankB else .blankA).fld true)
      (s.blankAsked b) := totRequest_tot _ _ _ _

theorem raise10_report (s : State) : OnlyReport s (s.raise 10 0 0) := raise_report rfl (by decide) (by decide) 0 0 s

/-- With SAFE on and out of reset a BLANK pin latches its source and raises fault 10 (R368, R369). -/
theorem xBlankAssert_latches (b : Bool) (hd : s.domOn 1 = true) (hr : s.inReset = false) :
    (xBlankAssert b s).fbit (if b then TotSrc.blankB else .blankA).fld = true
      ∧ bitOf (xBlankAssert b s).pins.raw (if b then 3 else 2) = true
      ∧ (xBlankAssert b s).safe.blankClear = 0
      ∧ (xBlankAssert b s).faultOn 10 = true := by
  have he : xBlankAssert b s = (s.blankAsked b).raise 10 0 0 := by rw [xBlankAssert_eq, hr, hd]; rfl
  have ha := blankAsked_only b s
  have hk := raise10_report (s.blankAsked b)
  have haddr : (if b then TotSrc.blankB else .blankA).fld.addr = 0x90014 := by cases b <;> rfl
  rw [he]
  refine ⟨?_, ?_, ?_, ?_⟩
  · rw [hk.fbit _ (by rw [haddr]; decide), ha.fbit _ (by rw [haddr]; decide)]
    cases b <;> exact fbit_fsetb_same _ _ _ (by decide) rfl
  · rw [hk.part State.pins fun _ => rfl, ha.part State.pins fun _ => rfl]
    exact blankSeen_raw b s
  · rw [hk.part State.safe fun _ => rfl, ha.part State.safe fun _ => rfl]
    rfl
  · have hd' : (s.blankAsked b).domOn 1 = true := by
      rw [ha.domOn (by decide), domOn_fsetb _ _ _ _ (by rw [haddr]; decide), domOn_fset _ _ _ _ (by decide)]
      exact hd
    rw [raise_of_report rfl (by decide) (by decide), if_pos hd']
    exact recordFault_faultOn (by decide) _ _ _

end Blank
end Sys2Proof.Machine

namespace Sys2Proof.Machine

/-! ## Release of Totality -/

section Release

/-- Any register but SAFE_TOT_SRC. -/
abbrev notSrcReg (a : Nat) : Prop := a ≠ 0x90014

/-- Only parts that Totality changes differ, and SAFE_TOT_SRC is as it was. -/
abbrev KeepsSrc := Within State.sansTot notSrcReg

theorem Within.keepsSrc {s t : State} (h : OnlyTot s t) : KeepsSrc s t :=
  h.mono (fun _ => rfl) fun a ha => by unfold totReg ioReg at ha; unfold notSrcReg; omega

theorem OnlyReport.keepsSrc {s t : State} (h : OnlyReport s t) : KeepsSrc s t :=
  h.mono (fun _ => rfl) fun a ha => by unfold reportReg ioReg at ha; unfold notSrcReg; omega

/-- The sources that are released. -/
def State.srcsOff (s : State) (srcs : List TotSrc) : State := srcs.foldl (fun s q => s.fsetb q.fld false) s

theorem srcsOff_eq (s : State) (srcs : List TotSrc) : s.srcsOff srcs = s.zeroed (srcs.map TotSrc.fld) := by
  unfold State.srcsOff State.zeroed
  rw [List.foldl_map]
  rfl

theorem srcsOff_fbit {srcs : List TotSrc} {q : TotSrc} (hq : q ∈ srcs) (s : State) : (s.srcsOff srcs).fbit q.fld = false := by
  rw [fbit_eq_false, srcsOff_eq]
  refine zeroed_reads _ s (fun f hf => ?_) q.fld (List.mem_map_of_mem hq)
  obtain ⟨p, -, rfl⟩ := List.mem_map.1 hf
  cases p <;> decide

theorem TotSrc.fld_addr (q : TotSrc) : q.fld.addr = 0x90014 := by cases q <;> rfl

/-- A release takes back its sources and what follows from them; without one of them latched there is nothing to take back. -/
theorem totRelease_only (srcs : List TotSrc) (groups : Nat) (s : State) :
    KeepsSrc (s.srcsOff srcs) (s.totRelease srcs groups) ∨ (s.totRelease srcs groups = s ∧ ∀ q ∈ srcs, s.fbit q.fld = false) := by
  unfold State.totRelease
  extract_lets latched old wasDark a b c d
  split
  · rename_i h
    exact Or.inr ⟨rfl, by simpa [latched] using h⟩
  have ha : KeepsSrc (s.srcsOff srcs) a := (totApply_tot _).keepsSrc
  have hb : KeepsSrc (s.srcsOff srcs) b := ha.trans
    (.overList _ _ (fun p hp u => (totResume_io (mem_maskList (List.mem_of_mem_filter hp)) u).tot.keepsSrc) _)
  have hc : KeepsSrc (s.srcsOff srcs) c := by
    unfold c
    split
    · exact hb
    · exact hb.trans (OnlyReport.keepsSrc (clearFault_report 10 b))
  have hd : KeepsSrc (s.srcsOff srcs) d := hc.trans (totEvent_io _ _ _ _).tot.keepsSrc
  refine Or.inl ?_
  split
  · exact hd.trans (safeEvent_io _ _ _).tot.keepsSrc
  · exact hd

theorem totRelease_fbit {srcs : List TotSrc} {q : TotSrc} (hq : q ∈ srcs) (groups : Nat) (s : State) :
    (s.totRelease srcs groups).fbit q.fld = false := by
  rcases totRelease_only srcs groups s with h | ⟨h, hf⟩
  · rw [h.fbit _ (by rw [q.fld_addr]; decide)]
    exact srcsOff_fbit hq s
  · rw [h]
    exact hf q hq

end Release

/-! ## LIMP after fault 1, DARK after fault 2 -/

section Lockstep

variable {s : State}

theorem enterLimp_eq (form : LimpForm) (fault cause : Nat) (s : State) :
    ∃ f : ModeSt → ModeSt, (∀ m, (f m).trans = m.trans) ∧ s.enterLimp form fault cause = (s.setMode f).takeLimp form fault cause := by
  unfold State.enterLimp
  extract_lets ending _ a
  unfold a
  split
  · exact ⟨id, fun _ => rfl, rfl⟩
  split
  · exact ⟨fun m => { m with limpLater := m.limpLater ++ [fault] }, fun _ => rfl, rfl⟩
  · exact ⟨fun m => { m with limpCauses := m.limpCauses ++ [fault] }, fun _ => rfl, rfl⟩

theorem withdrawExit_modeNow (s : State) : s.withdrawExit.modeNow = s.modeNow := by
  unfold State.withdrawExit
  split
  · rfl
  split
  · rfl
  extract_lets _ a b _ c d
  have hc : c.modeNow = s.modeNow := by
    show b.fget R.PWR_MODE_MODE = s.fget R.PWR_MODE_MODE
    unfold b a
    rw [fget_fset_apart _ _ _ _ (by decide) (by decide) (by decide)]
    exact fget_fset_apart _ _ _ _ (by decide) (by decide) (by decide)
  have hd : d.modeNow = s.modeNow := by
    unfold d
    split
    · exact ((showLimps_io c).fget _ (by decide)).trans hc
    · exact hc
  split
  · exact hd
  · exact ((completeSlot_io _ _ _ _ _ d).fget _ (by decide)).trans hd

theorem modeSet_modeNow {dst : Nat} (hd : dst < 8) (cause : Nat) (s : State) : (s.modeSet dst cause).modeNow = dst := by
  unfold State.modeSet
  extract_lets src a b
  have ha : a.fget R.PWR_MODE_MODE = dst := by
    unfold a
    rw [fget_fset_apart _ _ _ _ (by decide) (by decide) (by decide), fget_fset_apart _ _ _ _ (by decide) (by decide) (by decide),
      fget_fset_same _ _ _ (by decide)]
    exact Nat.mod_eq_of_lt hd
  have hb : b.fget R.PWR_MODE_MODE = dst := by
    unfold b State.idleStop
    split
    · exact ha
    · rw [State.fsetb, fget_fset_addr _ _ _ _ (by decide), fget_fset_addr _ _ _ _ (by decide), ha]
  unfold State.modeNow
  rw [(modeEvent_io _ _ _ _).fget _ (by decide), State.fsetb, fget_fset_apart _ _ _ _ (by decide) (by decide) (by decide), hb]

theorem takeLimp_modeNow (form : LimpForm) (fault cause : Nat) (hb : s.fbit R.PWR_MODE_BUSY = false) (h3 : s.modeNow ≠ 3) :
    (s.takeLimp form fault cause).modeNow = 4 := by
  unfold State.takeLimp
  split
  · rename_i h
    have h4 : s.modeNow = 4 := by simp at h; exact h.1
    exact ((limpForm_within form _).fget _ (by decide)).trans ((withdrawExit_modeNow s).trans h4)
  rw [if_neg (by simp [hb])]
  extract_lets _ a b
  have h3' : a.modeNow ≠ 3 := h3
  have hm : b.modeNow = 4 := by
    unfold b
    rw [if_neg (by simp [h3'])]
    exact modeSet_modeNow (by decide) cause a
  exact ((safeEvent_io _ _ _).fget _ (by decide)).trans (((limpForm_within form b).fget _ (by decide)).trans hm)

theorem idleStop_mode (f : Fld) (hf : f.addr = 0x20100) (s : State) : s.idleStop.fget f = s.fget f := by
  unfold State.idleStop State.fsetb
  rw [fget_fset_addr _ _ _ _ (by rw [hf]; decide), fget_fset_addr _ _ _ _ (by rw [hf]; decide)]

theorem limpFromPark_target (cause : Nat) (s : State) : (s.limpFromPark cause).fget R.PWR_MODE_TARGET = 4 := by
  rw [(limpFromPark_rails cause s).fget _ (by decide), idleStop_mode _ rfl, parkLeft_fget, State.fsetb,
    fget_fset_apart _ _ _ _ (by decide) (by decide) (by decide)]
  exact fget_fset_same _ _ _ (by decide)

theorem takeLimp_target (form : LimpForm) (fault cause : Nat) (hb : s.fbit R.PWR_MODE_BUSY = false) (h3 : s.modeNow = 3)
    (hl : s.fbit R.PWR_SUPPLY_STATUS_LIMP_SUPPLY = false) : (s.takeLimp form fault cause).fget R.PWR_MODE_TARGET = 4 := by
  unfold State.takeLimp
  rw [if_neg (by simp [h3]), if_neg (by simp [hb])]
  extract_lets _ a b
  have hm : b.fget R.PWR_MODE_TARGET = 4 := by
    unfold b
    rw [if_pos (by simp only [Bool.and_eq_true, decide_eq_true_eq, Bool.not_eq_true']; exact ⟨h3, hl⟩)]
    exact limpFromPark_target cause a
  exact ((safeEvent_io _ _ _).fget _ (by decide)).trans (((limpForm_within form b).fget _ (by decide)).trans hm)

/-- The state in which fault 1 has been recorded and its reaction is to come. -/
def State.lockstepSeen (s : State) (f : Nat) : State := (s.recordFault f 0 0).twinFault f

theorem lockstepSeen_faultOn {f : Nat} (hf : f ≤ 32) (s : State) : (s.lockstepSeen f).faultOn f = true :=
  ((twinFault_tot f _).faultOn hf (by decide)).trans (recordFault_faultOn hf 0 0 s)

theorem lockstepSeen_fget (f : Nat) (g : Fld) (hg : g.addr / 0x10000 = 2) (hm : g.addr % 0x40 ≠ 0x10) (s : State) :
    (s.lockstepSeen f).fget g = s.fget g :=
  ((twinFault_tot f _).fget g (by unfold totReg ioReg; omega)).trans
    ((recordFault_report f 0 0 s).fget g (by unfold reportReg ioReg; omega))

theorem raise_on (hd : s.domOn 1 = true) (f : Nat) : s.raise f 0 0 = (s.lockstepSeen f).reactTo f := if_pos hd

theorem raise_off (hd : s.domOn 1 = false) (f inst detail : Nat) : s.raise f inst detail = s := by
  unfold State.raise; rw [hd]; rfl

/-- Fault 1 (R27): it stands, and the device is in LIMP, or on its way there from PARK. -/
theorem raise1_acts (hd : s.domOn 1 = true) :
    (s.raise 1 0 0).faultOn 1 = true
      ∧ (s.fbit R.PWR_MODE_BUSY = false → s.modeNow ≠ 3 → (s.raise 1 0 0).modeNow = 4)
      ∧ (s.fbit R.PWR_MODE_BUSY = false → s.modeNow = 3 → s.fbit R.PWR_SUPPLY_STATUS_LIMP_SUPPLY = false →
          (s.raise 1 0 0).fget R.PWR_MODE_TARGET = 4) := by
  rw [raise_on hd]
  obtain ⟨f, -, hf⟩ := enterLimp_eq .store 1 (0x100 + 1) (s.lockstepSeen 1)
  have hr : (s.lockstepSeen 1).reactTo 1 = (s.lockstepSeen 1).enterLimp .store 1 (0x100 + 1) := rfl
  have hb : ((s.lockstepSeen 1).setMode f).fbit R.PWR_MODE_BUSY = s.fbit R.PWR_MODE_BUSY := by
    unfold State.fbit
    rw [State.setMode_fget, lockstepSeen_fget 1 _ rfl (by decide)]
  have hl : ((s.lockstepSeen 1).setMode f).fbit R.PWR_SUPPLY_STATUS_LIMP_SUPPLY = s.fbit R.PWR_SUPPLY_STATUS_LIMP_SUPPLY := by
    unfold State.fbit
    rw [State.setMode_fget, lockstepSeen_fget 1 _ rfl (by decide)]
  have hm : ((s.lockstepSeen 1).setMode f).modeNow = s.modeNow := by
    unfold State.modeNow
    rw [State.setMode_fget, lockstepSeen_fget 1 _ rfl (by decide)]
  refine ⟨?_, fun h1 h3 => ?_, fun h1 h3 h2 => ?_⟩
  · rw [hr, (enterLimp_limp _ _ _ _).faultOn (by decide) (by decide)]
    exact lockstepSeen_faultOn (by decide) s
  · rw [hr, hf]
    exact takeLimp_modeNow _ _ _ (hb.trans h1) (by rw [hm]; exact h3)
  · rw [hr, hf]
    exact takeLimp_target _ _ _ (hb.trans h1) (hm.trans h3) (hl.trans h2)

/-- Fault 2 (R27): it stands, and the Spillway's request with the safety pair's latch it. -/
theorem raise2_acts (hd : s.domOn 1 = true) :
    (s.raise 2 0 0).faultOn 2 = true
      ∧ (s.raise 2 0 0).fbit R.SAFE_TOT_SRC_SPILLWAY = true
      ∧ (s.raise 2 0 0).fbit R.SAFE_TOT_SRC_SAFETY_PAIR = true := by
  have h := totRequest_tot .spillway 0x100 2 (s.lockstepSeen 2)
  have hr : s.raise 2 0 0 = ((s.lockstepSeen 2).totRequest .spillway 0x100 2).fsetb R.SAFE_TOT_SRC_SAFETY_PAIR true := raise_on hd 2
  rw [hr]
  refine ⟨?_, ?_, fbit_fsetb_same _ _ _ (by decide) rfl⟩
  · unfold State.faultOn State.fbit
    rw [State.fsetb, fget_fset_addr _ _ _ _ (by decide), h.fget _ (by decide), State.fsetb, fget_fset_addr _ _ _ _ (by decide)]
    exact lockstepSeen_faultOn (by decide) s
  · unfold State.fbit
    rw [State.fsetb, fget_fset_apart _ _ _ _ (by decide) (by decide) (by decide), h.fget _ (by decide)]
    exact fbit_fsetb_same _ _ _ (by decide) rfl

end Lockstep

end Sys2Proof.Machine

namespace Sys2Proof.Machine

section BlankInReset

variable {s : State}

/-- While RESET_N is low, an asserted BLANK pin forces every TILE_EN low (R19). -/
theorem tileEn_of_blank (hr : s.aon.resetHeld = true) (hb : bitOf s.pins.raw 2 = true ∨ bitOf s.pins.raw 3 = true) (p : Nat) :
    s.tileEn p = false := by
  have hin : s.inReset = true := by simp [State.inReset, hr]
  unfold State.tileEn
  rw [if_pos hin]
  split
  · rfl
  · rcases hb with h | h <;> simp [h]

theorem xBlankAssert_pins (b : Bool) (h : s.domOn 1 = false ∨ s.inReset = true) : (xBlankAssert b s).pins = (s.blankSeen b).pins :=
  (xBlankAssert_reset b h).part State.pins fun _ => rfl

theorem xBlankAssert_resetHeld (b : Bool) (h : s.domOn 1 = false ∨ s.inReset = true) :
    (xBlankAssert b s).aon.resetHeld = s.aon.resetHeld :=
  (xBlankAssert_reset b h).part (fun x => x.aon.resetHeld) fun _ => rfl

/-- Settles O60: in reset the pin's level is all that BLANK_ASSERT changes of what TILE_EN depends on. -/
theorem blankInReset : Obligations.BlankInReset := by
  unfold Obligations.BlankInReset
  refine ⟨fun s p hr hb => tileEn_of_blank hr hb p, fun s b hr => ⟨_, rfl, ?_⟩⟩
  have hin : s.domOn 1 = false ∨ s.inReset = true := Or.inr (by simp [State.inReset, hr])
  have hheld : (s.after (xBlankAssert b s)).aon.resetHeld = true := by rw [after_aon]; exact (xBlankAssert_resetHeld b hin).trans hr
  have hpins : (s.after (xBlankAssert b s)).pins = (s.blankSeen b).pins := by rw [after_pins, xBlankAssert_pins b hin]
  have hraw := blankSeen_raw b s
  refine ⟨hheld, tileEn_of_blank hheld ?_⟩
  rw [hpins]
  cases b
  · exact Or.inl hraw
  · exact Or.inr hraw

end BlankInReset
end Sys2Proof.Machine

namespace Sys2Proof.Machine

/-! ## Domains coming on -/

section DomainsOn

variable {s t : State}

theorem domOn_domSet {d e : Nat} (he : e < 12) (b : Bool) (s : State) : (s.domSet d b).domOn e = if e = d then b else s.domOn e := by
  have h : (s.domSet d b).fget R.PWR_DOM_STATUS_ON = maskSet (s.fget R.PWR_DOM_STATUS_ON) d b % 2 ^ 12 := fget_fset_same s _ _ (by decide)
  unfold State.domOn
  rw [h, bitOf_eq_testBit, Nat.testBit_mod_two_pow, decide_eq_true he, Bool.true_and, ← bitOf_eq_testBit]
  exact bitOf_maskSet _ _ _ _

/-- The state without what a domain other than SAFE changes as it comes on. -/
def State.sansUp (s : State) : State := { s with pix := {}, therm := ThermSt.init, safe := { s.safe with place := none } }

/-- The registers outside PWR and SAFE. -/
abbrev upReg (a : Nat) : Prop := a / 0x10000 ≠ 2 ∧ a / 0x10000 ≠ 9

/-- Only what a domain other than SAFE changes as it comes on. -/
abbrev OnlyUp := Within State.sansUp upReg

theorem segClock_up (s : State) : OnlyUp s s.segClock := by
  unfold State.segClock
  split
  · exact .refl s
  split
  · exact .fsetb (.refl s) (by decide)
  · exact .fsetb (.fsetb (.refl s) (by decide)) (by decide)

theorem calTrigger_up (s : State) : OnlyUp s s.calTrigger := by
  unfold State.calTrigger
  split
  · exact .refl s
  split
  · exact .fsetb (.refl s) (by decide)
  · exact .fsetb (.parts rfl rfl) (by decide)

theorem showHoldover_up (s : State) : OnlyUp s s.showHoldover := by
  unfold State.showHoldover
  dsimp only
  split
  · exact .overAll 4 _ (fun n hn u => .fsetb (.refl u) (by unfold upReg; simp only [R.TG_STATUS_HOLDOVER]; omega)) s
  · exact .refl s

theorem pixOnPort_up {p : Nat} (hp : p < 24) (s : State) : OnlyUp s (pixOnPort p s) := by
  unfold pixOnPort
  extract_lets u
  have h : OnlyUp s u := .fset (.refl s) (by unfold upReg; simp only [R.PIX_HLT_PORT_STAT_DEFECTS]; omega)
  clear_value u
  split
  · exact h
  · exact h.trans (.parts rfl rfl)

theorem tile_up {p : Nat} (k : Nat) (hp : p < 24) (hk : k < 0x800) : upReg (0x60000 + k + p * 0x800) := by unfold upReg; omega

theorem waitPort_up {p : Nat} (hp : p < 24) (s : State) : OnlyUp s (waitPort p s) := by
  have h : OnlyUp s (s.fsetb (R.TILE_LANE_STATUS_ALERT p) (bitOf s.pins.tileAlert p)) := .fsetb (.refl s) (tile_up 0x10 hp (by decide))
  unfold waitPort
  dsimp only
  split
  · exact .fset h (tile_up 0x10 hp (by decide))
  · exact h

/-- What a domain changes as it comes on, besides its bit: SAFE excepted. -/
theorem domainOn_up {d : Nat} (hd : d ≠ 1) (h : s.domOn d = false) : OnlyUp (s.domSet d true) (domainOn d s) := by
  unfold domainOn
  rw [if_neg (by simp [h])]
  extract_lets u v
  have hu : OnlyUp (s.domSet d true) u := segClock_up _
  rw [if_neg hd]
  split
  · exact hu.trans (calTrigger_up u)
  split
  · exact .fsetb (.fsetb hu (by decide)) (by decide)
  split
  · refine .trans (hu.trans (.trans (t := { u with safe := { u.safe with place := none } }) ?_ (showHoldover_up _)))
      (.overAll 24 _ (fun p hp v => pixOnPort_up hp v) _)
    exact .parts rfl rfl
  split
  · exact hu.trans (.overAll 12 _ (fun p hp v => waitPort_up (p := p) (by omega) v) u)
  split
  · refine hu.trans (.overList _ _ (fun p hp v => waitPort_up (p := p) ?_ v) u)
    obtain ⟨q, hq, rfl⟩ := List.mem_map.1 hp
    have := List.mem_range.1 hq
    omega
  · exact hu

theorem domainOn_of_on {d : Nat} (h : s.domOn d = true) : domainOn d s = s := if_pos h

end DomainsOn
end Sys2Proof.Machine

namespace Sys2Proof.Machine

/-! ## The inputs of SAFE through an exit from PARK -/

section Inputs

variable {s t u : State}

/-- The BLANK pins, SAMPLED with the SPB that judges it, and LIGHT are as they were, and SAFE stays on. -/
structure KeepsInputs (s t : State) : Prop where
  pins : t.pins = s.pins
  spb : t.safe.spb = s.safe.spb
  sampled : t.rd 0x9001C = s.rd 0x9001C
  light : t.fget R.SAFE_STATUS_LIGHT = s.fget R.SAFE_STATUS_LIGHT
  safeOn : s.domOn 1 = true → t.domOn 1 = true

theorem KeepsInputs.refl (s : State) : KeepsInputs s s := ⟨rfl, rfl, rfl, rfl, id⟩

theorem KeepsInputs.trans (h : KeepsInputs s t) (k : KeepsInputs t u) : KeepsInputs s u :=
  ⟨k.pins.trans h.pins, k.spb.trans h.spb, k.sampled.trans h.sampled, k.light.trans h.light, fun hd => k.safeOn (h.safeOn hd)⟩

theorem KeepsInputs.lightOn (h : KeepsInputs s t) : t.lightOn = s.lightOn := by
  unfold State.lightOn State.lreqSingle State.fget
  rw [h.spb, show R.SAFE_INPUTS_SAMPLED.addr = 0x9001C from rfl, h.sampled]

/-- What is left of a state where only the pins and the SPB count. -/
def State.inputsOnly (s : State) : State := { pins := s.pins, safe := { spb := s.safe.spb } }

/-- Any register but SAFE_INPUTS, SAFE_STATUS and PWR_DOM_STATUS. -/
abbrev apartReg (a : Nat) : Prop := a ≠ 0x9001C ∧ a ≠ 0x90000 ∧ a ≠ 0x20024

/-- Anything changes but the inputs of SAFE. -/
abbrev OnlyApart := Within State.inputsOnly apartReg

theorem Within.keepsInputs (h : OnlyApart s t) : KeepsInputs s t where
  pins := h.part State.pins fun _ => rfl
  spb := h.part (fun x => x.safe.spb) fun _ => rfl
  sampled := h.rd _ (by decide)
  light := h.fget _ (by decide)
  safeOn hd := by rw [h.domOn (by decide)]; exact hd

/-- A change of parts other than the pins and the SPB. -/
theorem Within.elsewhere (h : OnlyApart s t) (hp : u.pins = t.pins) (hs : u.safe.spb = t.safe.spb) (hr : u.regs = t.regs) : OnlyApart s u :=
  h.trans (.parts (by unfold State.inputsOnly; rw [← hp, ← hs]) hr)

theorem OnlyIo.apart (h : OnlyIo s t) : OnlyApart s t :=
  h.mono (fun _ => rfl) fun a ha => by unfold ioReg at ha; unfold apartReg; omega

theorem OnlyUp.apart (h : OnlyUp s t) : OnlyApart s t :=
  h.mono (fun _ => rfl) fun a ha => by unfold upReg at ha; unfold apartReg; omega

theorem OnlyRails.apart (h : OnlyRails s t) : OnlyApart s t :=
  h.mono (fun _ => rfl) fun a ha => by unfold railReg at ha; unfold apartReg; omega

theorem setMode_apart (f : ModeSt → ModeSt) (s : State) : OnlyApart s (s.setMode f) := .parts rfl rfl

theorem idleRestart_apart (s : State) : OnlyApart s s.idleRestart := by
  unfold State.idleRestart
  extract_lets v
  split
  · exact .trans (.fsetb (.fset (.refl s) (by decide)) (by decide)) (setMode_apart _ _)
  · exact .refl s

/-! ### Domains and clocks -/

theorem domSet_keepsInputs (d : Nat) (s : State) : KeepsInputs s (s.domSet d true) where
  pins := rfl
  spb := rfl
  sampled := rd_wr_other s _ _ _ (by decide)
  light := fget_fset_addr _ _ _ _ (by decide)
  safeOn hd := by rw [domOn_domSet (by decide), hd]; split <;> rfl

theorem domainOn_keepsInputs (d : Nat) (h1 : s.domOn 1 = true) : KeepsInputs s (domainOn d s) := by
  by_cases hd : s.domOn d = true
  · rw [domainOn_of_on hd]; exact .refl s
  · have hne : d ≠ 1 := by rintro rfl; exact hd h1
    exact (domSet_keepsInputs d s).trans (OnlyUp.apart (domainOn_up hne (by simpa using hd))).keepsInputs

theorem powerUp_keepsInputs (ds : List Nat) (h1 : s.domOn 1 = true) : KeepsInputs s (s.powerUp ds) :=
  overList_rel (R := fun s t => s.domOn 1 = true → KeepsInputs s t) (fun s _ => .refl s) (fun h k hd => (h hd).trans (k ((h hd).safeOn hd)))
    domainOn _ (fun d _ _ => domainOn_keepsInputs d) s h1

theorem showUnc_apart (s : State) : OnlyApart s s.showUnc := .fset (.fset (.refl s) (by decide)) (by decide)

theorem enterHoldover_apart (u : Option Nat) (s : State) : OnlyApart s (s.enterHoldover u) := by
  unfold State.enterHoldover State.setInc
  extract_lets a _ b
  have ha : OnlyApart s a := .fsetb (.fset (.fset (.refl s) (by decide)) (by decide)) (by decide)
  have hb : OnlyApart s b := ha.elsewhere rfl rfl rfl
  exact .trans (.trans (.fset hb (by decide)) (OnlyUp.apart (showHoldover_up _))) (showUnc_apart _)

theorem clockRestore_apart (s : State) : OnlyApart s s.clockRestore := by
  unfold State.clockRestore
  extract_lets r dc q changed ppm w a b c
  split
  · have ha : OnlyApart s a := (Within.refl s).elsewhere rfl rfl rfl
    have hb : OnlyApart s b := .fsetb (.fsetb (.fsetb ha (by decide)) (by decide)) (by decide)
    exact (hb.trans (enterHoldover_apart _ b)).trans (OnlyIo.apart (eventDev_io _ _ _ _))
  · have hc : OnlyApart s c := (Within.refl s).elsewhere rfl rfl rfl
    exact .trans (.trans (.fsetb (.fset hc (by decide)) (by decide)) (OnlyUp.apart (showHoldover_up _))) (showUnc_apart _)

end Inputs
end Sys2Proof.Machine

namespace Sys2Proof.Machine

section Unpark

variable {s t u : State}

/-! ### Surfaces that start -/

theorem endPrbsFor_apart {p : Nat} (hp : p < 24) (s : State) : OnlyApart s (endPrbsFor p s) :=
  OnlyIo.apart (.trans (.setPort (.refl s)) (endPrbs_io hp _))

theorem clearRefused_apart {p : Nat} (hp : p < 24) (s : State) : OnlyApart s (clearRefused p s) :=
  OnlyIo.apart (.fsetb (.refl s) (tile_io 0x44 hp (by decide)))

theorem activateRegion_apart (n : Nat) (fs : List (Nat × Nat × Nat × Nat)) (r : Nat) (s : State) : OnlyApart s (activateRegion n fs r s) := by
  unfold activateRegion
  split
  · split
    · exact .fset (.refl s) (by decide)
    · exact .refl s
  · exact .fset (.fset (.refl s) (by decide)) (by decide)

theorem spillStart_apart (n frame : Nat) (s : State) : OnlyApart s (s.spillStart n frame) := by
  unfold State.spillStart
  extract_lets prof a zs _ b _ c
  have ha : OnlyApart s a := (Within.refl s).elsewhere rfl rfl rfl
  have hb : OnlyApart s b := ha.elsewhere rfl rfl rfl
  have hc : OnlyApart s c := hb.elsewhere rfl rfl rfl
  exact hc.fset (by unfold apartReg; simp only [R.SAFE_PROFILE_EXCESS_RUN]; omega)

theorem zoneStep_apart (n : Nat) (atEnable : Bool) (z : Nat) (s : State) : OnlyApart s (zoneStep n atEnable z s) := by
  unfold zoneStep
  split
  · exact (Within.refl s).elsewhere rfl rfl rfl
  extract_lets q tgt rise a
  have ha : OnlyApart s a := (Within.refl s).elsewhere rfl rfl rfl
  split
  · exact ha.fadd (by decide)
  · exact ha

theorem sendTiming_apart {p : Nat} (hp : p < 24) (g : Grid) (lenQ : Nat) (s : State) : OnlyApart s (s.sendTiming p g lenQ) := by
  unfold State.sendTiming
  split
  · exact OnlyIo.apart (sendCtrl_io hp _ _ s)
  · exact .refl s

theorem timingAll_apart (n : Nat) (g : Grid) (lenQ : Nat) (s : State) : OnlyApart s (s.timingAll n g lenQ) :=
  .overList _ _ (fun _ hp u => sendTiming_apart (List.mem_range.1 (List.mem_of_mem_filter hp)) g lenQ u) s

theorem binds_port_lt {n p : Nat} (h : p ∈ (s.binds n).map (·.port)) : p < 24 := by
  simp only [State.binds, List.map_map, List.mem_map] at h
  obtain ⟨q, hq, rfl⟩ := h
  exact List.mem_range.1 (List.mem_of_mem_filter hq)

/-- ENABLE and CFG_ERR of a surface lie apart from LIGHT and the sampled inputs, whatever its number. -/
theorem tgFset_keepsInputs {f : Fld} {k : Nat} (hk : f.addr = 0x40000 + k * 0x100 ∧ f.lo = 0 ∧ f.width = 1 ∨ f.addr = 0x40018 + k * 0x100)
    (v : Nat) (s : State) : KeepsInputs s (s.fset f v) where
  pins := rfl
  spb := rfl
  sampled := rd_wr_other s _ _ _ (by omega)
  light := by
    rcases hk with ⟨-, hl, hw⟩ | hk
    · exact fget_fset_apart _ _ _ _ (by simp [Fld.apart, hl, hw, R.SAFE_STATUS_LIGHT]) (by simp [Fld.fits, hl, hw]) (by decide)
    · exact fget_fset_addr _ _ _ _ (by simp only [R.SAFE_STATUS_LIGHT]; omega)
  safeOn hd := by rw [domOn_fset _ _ _ _ (by omega)]; exact hd

theorem startSurface_keepsInputs (n : Nat) (s : State) : KeepsInputs s (s.startSurface n) := by
  unfold State.startSurface
  extract_lets g k bs ms a b ports c fs d e f
  have ha : OnlyApart s a := (Within.refl s).elsewhere rfl rfl rfl
  have hb : KeepsInputs s b :=
    (ha.keepsInputs.trans (tgFset_keepsInputs (k := n) (.inl ⟨rfl, rfl, rfl⟩) _ _)).trans (tgFset_keepsInputs (k := n) (.inr rfl) _ _)
  have hc : OnlyApart b c := .trans (.overList _ _ (fun _ hp u => clearRefused_apart (binds_port_lt hp) u) b)
    (.overList _ _ (fun _ hp u => endPrbsFor_apart (binds_port_lt hp) u) _)
  have hd : OnlyApart b d := hc.trans (.overAll 32 _ (fun r _ u => activateRegion_apart n fs r u) c)
  have he : OnlyApart b e := hd.trans (spillStart_apart n _ d)
  have hf : OnlyApart b f := he.trans (.overList _ _ (fun z _ u => zoneStep_apart n true z u) e)
  exact hb.trans (hf.trans (timingAll_apart n g _ f)).keepsInputs

theorem askStart_keepsInputs (n : Nat) (s : State) : KeepsInputs s (s.askStart n) := by
  unfold State.askStart
  split
  · exact .refl s
  split
  · have h : OnlyApart s (s.setGen n fun q => { q with stopPend := false }) := (Within.refl s).elsewhere rfl rfl rfl
    exact h.keepsInputs.trans (tgFset_keepsInputs (k := n) (.inl ⟨rfl, rfl, rfl⟩) _ _)
  split
  · exact .refl s
  extract_lets e
  split
  · exact startSurface_keepsInputs n s
  · exact tgFset_keepsInputs (k := n) (.inr rfl) _ s

/-! ### The registers that come back -/

/-- A register without a writable field does not take a copied word. -/
theorem restoreReg_rd {b : Nat} (hb : ∀ r, findReg b = some r → ∀ f ∈ r.fields, f.acc ≠ .rw) (copy : RegFile) (a : Nat) (s : State) :
    (restoreReg copy a s).rd b = s.rd b := by
  have fold_eq : ∀ (l : List FieldSpec) (w : Word), (∀ f ∈ l, f.acc ≠ .rw) →
      l.foldl (fun w f => if f.acc == .rw then wordSet w f.lo f.width (wordField (regGet copy a) f.lo f.width) else w) w = w := by
    intro l
    induction l with
    | nil => exact fun _ _ => rfl
    | cons f l ih =>
      intro w hl
      obtain ⟨hf, hl⟩ := List.forall_mem_cons.1 hl
      rw [List.foldl_cons, if_neg (by simpa using hf)]
      exact ih w hl
  unfold restoreReg
  split
  · rfl
  · rename_i r hr
    by_cases h : b = a
    · subst h
      exact (rd_wr_same s b _).trans (fold_eq r.fields _ (hb r hr))
    · exact rd_wr_other s a b _ h

theorem restoreReg_keepsInputs (copy : RegFile) (a : Nat) (s : State) : KeepsInputs s (restoreReg copy a s) := by
  have key : ∀ b ∈ [0x9001C, 0x90000, 0x20024], (restoreReg copy a s).rd b = s.rd b := by
    intro b hb
    apply restoreReg_rd
    have h : ∀ b ∈ [0x9001C, 0x90000, 0x20024], ((findReg b).all fun r => r.fields.all fun f => f.acc != .rw) = true := by decide +kernel
    intro r hr f hf
    have := h b hb
    rw [hr] at this
    simpa using List.all_eq_true.1 this f hf
  have hdom : (restoreReg copy a s).domOn 1 = s.domOn 1 := by
    unfold State.domOn State.fget
    rw [show R.PWR_DOM_STATUS_ON.addr = 0x20024 from rfl, key _ (by simp)]
  have hsame : (restoreReg copy a s).pins = s.pins ∧ (restoreReg copy a s).safe = s.safe := by
    unfold restoreReg
    split <;> exact ⟨rfl, rfl⟩
  exact ⟨hsame.1, by rw [hsame.2], key _ (by simp),
    by unfold State.fget; rw [show R.SAFE_STATUS_LIGHT.addr = 0x90000 from rfl, key _ (by simp)], fun hd => by rw [hdom]; exact hd⟩

theorem parkRestore_keepsInputs (s : State) : KeepsInputs s s.parkRestore := by
  unfold State.parkRestore
  extract_lets a copy own b c
  have ha : OnlyApart s a := by
    refine .overAll 24 _ (fun p hp u => ?_) s
    split
    · exact OnlyIo.apart (.fsetb (.setPort (.refl u)) (tile_io 0x44 hp (by decide)))
    · exact .refl u
  have hb : KeepsInputs s b := ha.keepsInputs.trans (overList_rel .refl .trans _ _ (fun r _ u => restoreReg_keepsInputs copy r u) a)
  have hc : OnlyApart b c := .overAll 4 _ (fun n hn u => .fsetb (.refl u) (by unfold apartReg; simp only [R.TG_CTRL_ENABLE]; omega)) b
  refine hb.trans (hc.trans (.overAll 24 _ (fun p hp u => ?_) c)).keepsInputs
  split
  · exact OnlyUp.apart (waitPort_up hp u)
  · exact .refl u

/-! ### The exit -/

theorem showMaps_apart {n : Nat} (hn : n < 4) (s : State) : OnlyApart s (s.showMaps n) :=
  .fset (.fsetb (.refl s) (by unfold apartReg; simp only [R.PIX_MAPSTAT_GAIN_LOADED]; omega))
    (by unfold apartReg; simp only [R.PIX_MAPSTAT_FALLBACK_LOADED]; omega)

/-- The bits of PWR_DOM_STATUS above ON. -/
theorem domStatus_keepsInputs {f : Fld} (ha : f.addr = 0x20024) (hl : 12 ≤ f.lo) (hf : f.fits = true) (v : Nat) (s : State) :
    KeepsInputs s (s.fset f v) where
  pins := rfl
  spb := rfl
  sampled := rd_wr_other s _ _ _ (by omega)
  light := fget_fset_addr _ _ _ _ (by rw [ha]; decide)
  safeOn hd := by
    unfold State.domOn
    rw [fget_fset_apart _ _ _ _ (by simp [Fld.apart, R.PWR_DOM_STATUS_ON, hl]) hf (by decide)]
    exact hd

theorem parkExit_keepsInputs (h1 : s.domOn 1 = true) : KeepsInputs s s.parkExit := by
  unfold State.parkExit
  extract_lets a b c d e f _
  have ha : KeepsInputs s a := domStatus_keepsInputs rfl (by decide) (by decide) _ s
  have hb : KeepsInputs s b := (ha.trans (domSet_keepsInputs 4 a)).trans
    (Within.keepsInputs (.fsetb (.fsetb (.refl _) (by decide)) (by decide)))
  have hc : KeepsInputs s c := ((hb.trans (powerUp_keepsInputs _ (hb.safeOn h1))).trans
    (domStatus_keepsInputs (f := R.PWR_DOM_STATUS_TLA_LIMP) rfl (by decide) (by decide) _ _)).trans
    (Within.keepsInputs (.overAll 4 _ (fun n hn u => showMaps_apart hn u) _))
  have hd : KeepsInputs s d := (hc.trans (parkRestore_keepsInputs c)).trans (clockRestore_apart _).keepsInputs
  have he : KeepsInputs s e := hd.trans (overList_rel .refl .trans _ _ (fun n _ u => askStart_keepsInputs n u) d)
  have hf : KeepsInputs s f := by
    refine he.trans (foldl_rel .refl .trans _ _ (fun u x _ => ?_) e)
    exact Within.keepsInputs ((Within.refl u).elsewhere rfl rfl rfl)
  have hg : OnlyApart f { f with cmds := { f.cmds with parkCaps := [] } } := .parts rfl rfl
  exact hf.trans (hg.trans (setMode_apart _ _)).keepsInputs

theorem beginMode_apart (dst cause : Nat) (cmd : Option (Nat × Nat)) (s : State) : OnlyApart s (s.beginMode dst cause cmd) := by
  unfold State.beginMode State.idleStop
  extract_lets src a
  have ha : OnlyApart s a := .fsetb (.fset (.refl s) (by decide)) (by decide)
  exact .fsetb (.fset (ha.trans (setMode_apart _ a)) (by decide)) (by decide)

/-- Rails that come up for an exit from PARK are all that comes up. -/
theorem railsUp_unpark_rails (s : State) : OnlyRails s (s.railsUp .unpark) := by
  unfold State.railsUp State.railUpFrom
  have h : OnlyRails s (s.setSup fun u => { u with dir := .up, purpose := .unpark, shed := false }) := .setSup (.refl s)
  split
  · rename_i i hi
    exact h.trans (railStart_rails (railAfter_lt hi) _)
  · refine h.trans ?_
    unfold State.railsUpDone
    extract_lets v
    have hv : OnlyRails (s.setSup fun u => { u with dir := .up, purpose := .unpark, shed := false }) v := .setSup (.refl _)
    split
    · exact hv
    · exact hv

theorem leavePark_keepsInputs (dst cause : Nat) (h1 : s.domOn 1 = true) : KeepsInputs s (s.leavePark dst cause) := by
  unfold State.leavePark State.unpark
  have ha : OnlyApart s ((s.beginMode dst cause none).setMode fun m => { m with exitAt := some s.ticks }) :=
    (beginMode_apart dst cause none s).trans (setMode_apart _ _)
  have hb := (ha.trans (OnlyRails.apart (railsUp_unpark_rails _))).keepsInputs
  split
  · exact hb.trans (parkExit_keepsInputs (hb.safeOn h1))
  · exact hb

theorem lightLevel_keepsInputs (h1 : s.domOn 1 = true) : KeepsInputs s s.lightLevel := by
  unfold State.lightLevel
  split
  · split
    · exact (beginMode_apart 2 2 none s).keepsInputs
    split
    · exact leavePark_keepsInputs 2 2 h1
    · exact .refl s
  · exact .refl s

theorem restoreBeam_apart (s : State) : OnlyApart s s.restoreBeam := by
  unfold State.restoreBeam
  split
  · exact (Within.refl s).elsewhere rfl rfl rfl
  · exact OnlyIo.apart (showLimps_io s)
  · exact .refl s

end Unpark
end Sys2Proof.Machine

namespace Sys2Proof.Machine

section SafeSample

variable {s t : State}

/-- A write to another field of SAFE_STATUS. -/
theorem fset_light {f : Fld} (hf : f.fits = true) (ha : f.apart R.SAFE_STATUS_LIGHT = true) (v : Nat) (s : State) :
    (s.fset f v).fget R.SAFE_STATUS_LIGHT = s.fget R.SAFE_STATUS_LIGHT := fget_fset_apart _ _ _ _ ha hf (by decide)

/-- Settling the levels leaves LIGHT as the samples have it. -/
theorem after_light (s t : State) : (s.after t).fget R.SAFE_STATUS_LIGHT = t.fget R.SAFE_STATUS_LIGHT := by
  have hpins : ∀ u : State, u.drivePins.fget R.SAFE_STATUS_LIGHT = u.fget R.SAFE_STATUS_LIGHT := by
    intro u
    unfold State.drivePins
    dsimp only
    split
    · exact fset_light (by decide) (by decide) _ _
    · rfl
  have hshow : ∀ u : State, u.showSafe.fget R.SAFE_STATUS_LIGHT = u.fget R.SAFE_STATUS_LIGHT := by
    intro u
    unfold State.showSafe State.fsetb
    rw [fset_light (by decide) (by decide), fset_light (by decide) (by decide), fset_light (by decide) (by decide)]
  have hread : t.issueReads.fget R.SAFE_STATUS_LIGHT = t.fget R.SAFE_STATUS_LIGHT := (issueReads_only t).fget _
  show t.issueReads.levels.fget R.SAFE_STATUS_LIGHT = _
  unfold State.levels
  dsimp only
  split
  · rw [hshow, hpins, hread]
  · rw [hpins, hread]

theorem after_lightOn (s t : State) : (s.after t).lightOn = t.lightOn := by
  unfold State.lightOn State.lreqSingle
  rw [after_fget _ _ _ (by decide), after_safe]

/-- The state without SAFE's own record, what has gone on over the rings, and the fault pins. -/
def State.sansDisc (s : State) : State := { s.sansIo.sansPins with safe := {} }

/-- SAFE_DISC, besides the registers of the record of a fault. -/
abbrev discReg (a : Nat) : Prop := reportReg a ∨ a = 0x90020

/-- Only what the judgement of a pair of inputs changes. -/
abbrev OnlyDisc := Within State.sansDisc discReg

/-- Judging a pair changes the records of its fault besides SAFE_DISC and the run of agreeing samples. -/
theorem safeDisc_report (blank a b : Bool) (s : State) :
    OnlyDisc s (s.safeDisc blank a b) := by
  unfold State.safeDisc
  extract_lets f agr r u _ v
  have hf : f.addr = 0x90020 := by unfold f; cases blank <;> rfl
  have hu : OnlyDisc s u := .fset (.refl s) (.inr hf)
  clear_value u
  have hv : OnlyDisc s v := by
    refine hu.trans ?_
    unfold v
    split
    · exact .parts rfl rfl
    · exact .parts rfl rfl
  clear_value v
  split
  · exact hv.trans ((clearFault_report _ v).mono (fun _ => rfl) fun _ h => .inl h)
  · exact hv

/-- The pins as a sample takes them, and the two pairs as it judges them. -/
def State.pinsSampled (s : State) (k : Nat) : State :=
  (({ s with pins := { s.pins with raw := k % 16 } } : State).fset R.SAFE_INPUTS_RAW (k % 16)).fset R.SAFE_INPUTS_SAMPLED (k % 16)
def State.pairsJudged (s : State) (k : Nat) : State :=
  let u := if s.lreqSingle then s else s.safeDisc false (bitOf k 0) (bitOf k 1)
  let u := u.safeDisc true (bitOf k 2) (bitOf k 3)
  { u with safe := { u.safe with blankClear := if bitOf k 2 || bitOf k 3 then 0 else u.safe.blankClear + 1 } }

/-- The light request as it is shown, and what it sets going. -/
def State.lightShown (s : State) : State := s.fsetb R.SAFE_STATUS_LIGHT s.lightOn
def State.lightFollowed (s : State) (was : Bool) : State :=
  let u := if s.lightOn && !was then s.restoreBeam else s
  (if u.lightOn then u.idleRestart else u).lightLevel

theorem xSafeSample_on (k : Nat) (hd : s.domOn 1 = true) (hr : s.aon.resetHeld = false) :
    xSafeSample k s = ((s.pinsSampled k).pairsJudged k).lightShown.lightFollowed s.lightOn := by
  unfold xSafeSample
  rw [if_neg (by simp [hd, hr])]
  rfl

theorem pinsSampled_raw {k : Nat} (hk : k < 16) (s : State) : (s.pinsSampled k).fget R.SAFE_INPUTS_RAW = k := by
  unfold State.pinsSampled
  rw [fget_fset_apart _ _ _ _ (by decide) (by decide) (by decide), fget_fset_same _ _ _ (by decide), Nat.mod_eq_of_lt hk]
  exact Nat.mod_eq_of_lt hk

theorem pinsSampled_sampled {k : Nat} (hk : k < 16) (s : State) : (s.pinsSampled k).fget R.SAFE_INPUTS_SAMPLED = k := by
  unfold State.pinsSampled
  rw [fget_fset_same _ _ _ (by decide), Nat.mod_eq_of_lt hk]
  exact Nat.mod_eq_of_lt hk

theorem pinsSampled_domOn (k d : Nat) (s : State) : (s.pinsSampled k).domOn d = s.domOn d := by
  unfold State.pinsSampled
  rw [domOn_fset _ _ _ _ (by decide), domOn_fset _ _ _ _ (by decide)]
  rfl

theorem pairsJudged_only (k : Nat) (s : State) : OnlyDisc s (s.pairsJudged k) := by
  unfold State.pairsJudged
  extract_lets u v
  have hu : OnlyDisc s u := .ite (.refl s) (safeDisc_report false _ _ s)
  have hv : OnlyDisc s v := hu.trans (safeDisc_report true _ _ u)
  clear_value v
  exact hv.trans (.parts rfl rfl)

theorem lightShown_lightOn (s : State) : s.lightShown.lightOn = s.lightOn := by
  unfold State.lightShown State.lightOn State.lreqSingle State.fsetb
  rw [fget_fset_addr _ _ _ _ (by decide)]
  rfl

theorem lightShown_light (s : State) : s.lightShown.fbit R.SAFE_STATUS_LIGHT = s.lightOn := fbit_fsetb_same s _ _ (by decide) rfl

theorem lightFollowed_keepsInputs (was : Bool) (h1 : s.domOn 1 = true) : KeepsInputs s (s.lightFollowed was) := by
  unfold State.lightFollowed
  extract_lets u
  have hu : KeepsInputs s u := Within.keepsInputs (.ite (restoreBeam_apart s) (.refl s))
  have hi : KeepsInputs u (if u.lightOn then u.idleRestart else u) := Within.keepsInputs (.ite (idleRestart_apart u) (.refl u))
  have hv := hu.trans hi
  exact hv.trans (lightLevel_keepsInputs (hv.safeOn h1))

/-- What one sample shows with SAFE on and out of reset (R374, R375). -/
theorem xSafeSample_shows {k : Nat} (hk : k < 16) (hd : s.domOn 1 = true) (hr : s.aon.resetHeld = false) :
    (xSafeSample k s).fget R.SAFE_INPUTS_RAW = k ∧ (xSafeSample k s).fget R.SAFE_INPUTS_SAMPLED = k
      ∧ (xSafeSample k s).pins.raw = k ∧ (xSafeSample k s).fbit R.SAFE_STATUS_LIGHT = (xSafeSample k s).lightOn := by
  rw [xSafeSample_on k hd hr]
  have hj := pairsJudged_only k (s.pinsSampled k)
  have hs : OnlyDisc (s.pinsSampled k) ((s.pinsSampled k).pairsJudged k).lightShown := hj.fsetb (by decide)
  have h := lightFollowed_keepsInputs (s := ((s.pinsSampled k).pairsJudged k).lightShown) s.lightOn
    (by rw [hs.domOn (by decide), pinsSampled_domOn]; exact hd)
  have hin := h.sampled.trans (hs.rd _ (by decide))
  refine ⟨?_, ?_, ?_, ?_⟩
  · exact (congrArg (fun w => wordField w 0 4) hin).trans (pinsSampled_raw hk s)
  · exact (congrArg (fun w => wordField w 4 4) hin).trans (pinsSampled_sampled hk s)
  · rw [h.pins, hs.part State.pins fun _ => rfl]
    exact Nat.mod_eq_of_lt hk
  · have hlight := lightShown_light ((s.pinsSampled k).pairsJudged k)
    rw [h.lightOn, lightShown_lightOn, ← hlight]
    exact congrArg (fun v => v != 0) h.light

end SafeSample
end Sys2Proof.Machine

namespace Sys2Proof.Machine

section SafetyInputs

variable {s t : State}

theorem xSafeSample_off {k : Nat} (hk : k < 16) (h : s.domOn 1 = false ∨ s.aon.resetHeld = true) :
    xSafeSample k s = { s with pins := { s.pins with raw := k } } := by
  unfold xSafeSample
  rw [if_pos (by simpa using h), Nat.mod_eq_of_lt hk]

/-- A BLANK pin that finds SAFE off or DIE-D in reset changes neither the sources nor the mode. -/
theorem xBlankAssert_follows (b : Bool) (h : s.domOn 1 = false ∨ s.inReset = true) :
    bitOf (xBlankAssert b s).pins.raw (if b then 3 else 2) = true ∧ (xBlankAssert b s).safe.blankClear = 0
      ∧ (xBlankAssert b s).fget R.SAFE_TOT_SRC_BLANK_A = s.fget R.SAFE_TOT_SRC_BLANK_A
      ∧ (xBlankAssert b s).fget R.SAFE_TOT_SRC_BLANK_B = s.fget R.SAFE_TOT_SRC_BLANK_B
      ∧ (xBlankAssert b s).mode = s.mode := by
  have hx := xBlankAssert_reset b h
  refine ⟨?_, ?_, hx.fget _ (by decide), hx.fget _ (by decide), hx.part State.mode fun _ => rfl⟩
  · rw [xBlankAssert_pins b h]
    exact blankSeen_raw b s
  · rw [hx.part State.safe fun _ => rfl]
    rfl

theorem xBlankRelease_sources (h : 100 ≤ s.safe.blankClear) :
    (xBlankRelease s).fbit R.SAFE_TOT_SRC_BLANK_A = false ∧ (xBlankRelease s).fbit R.SAFE_TOT_SRC_BLANK_B = false := by
  unfold xBlankRelease
  rw [if_neg (by omega)]
  exact ⟨totRelease_fbit (q := .blankA) (by simp) _ s, totRelease_fbit (q := .blankB) (by simp) _ s⟩

/-! ### Discrepancies -/

theorem not_sentinel_iff : (s.modeNow ≠ 0 ∨ s.fbit R.PWR_MODE_BUSY = true) ↔ (decide (s.modeNow = 0) && !s.fbit R.PWR_MODE_BUSY) = false := by
  simp only [Bool.and_eq_false_iff, decide_eq_false_iff_not, Bool.not_eq_false', ne_eq]

theorem xDiscrepancyFault_safe (b : Bool) (h : s.modeNow ≠ 0 ∨ s.fbit R.PWR_MODE_BUSY = true) :
    xDiscrepancyFault b s =
      if decide (s.discN b ≤ s.fget (if b then R.SAFE_DISC_BLANK_CNT else R.SAFE_DISC_LREQ_CNT)) && !s.faultOn (if b then 12 else 11)
      then s.raise (if b then 12 else 11) 0 0 else s := by
  unfold xDiscrepancyFault
  rw [not_sentinel_iff.1 h]
  rfl

theorem xDiscrepancyFault_below (b : Bool) (h : s.modeNow ≠ 0 ∨ s.fbit R.PWR_MODE_BUSY = true)
    (hc : s.domOn 1 = false ∨ s.fget (if b then R.SAFE_DISC_BLANK_CNT else R.SAFE_DISC_LREQ_CNT) < s.discN b
      ∨ s.faultOn (if b then 12 else 11) = true) : xDiscrepancyFault b s = s := by
  rw [xDiscrepancyFault_safe b h]
  rcases hc with hd | hc | hc
  · rw [raise_off hd]
    exact ite_self s
  · rw [decide_eq_false (by omega)]
    rfl
  · rw [hc, Bool.not_true, Bool.and_false]
    rfl

theorem raise_disc_faultOn (b : Bool) (hd : s.domOn 1 = true) :
    (s.raise (if b then 12 else 11) 0 0).faultOn (if b then 12 else 11) = true := by
  rw [raise_of_report (by cases b <;> rfl) (by cases b <;> decide) (by cases b <;> decide), if_pos hd]
  exact recordFault_faultOn (by cases b <;> decide) 0 0 s

theorem xDiscrepancyFault_raises (b : Bool) (hd : s.domOn 1 = true) (h : s.modeNow ≠ 0 ∨ s.fbit R.PWR_MODE_BUSY = true)
    (hc : s.discN b ≤ s.fget (if b then R.SAFE_DISC_BLANK_CNT else R.SAFE_DISC_LREQ_CNT)) :
    (xDiscrepancyFault b s).faultOn (if b then 12 else 11) = true := by
  rw [xDiscrepancyFault_safe b h, decide_eq_true hc, Bool.true_and]
  cases hf : s.faultOn (if b then 12 else 11) with
  | true => exact hf
  | false => exact raise_disc_faultOn b hd

theorem xDiscrepancyFault_sentinel (b : Bool) (h0 : s.modeNow = 0) (hb : s.fbit R.PWR_MODE_BUSY = false) :
    xDiscrepancyFault b s =
      if (if b then s.mode.tDiscBlank else s.mode.tDiscLreq) ≤ nth s.aon.tarnDisc (if b then 2 else 0) then
        (if b then { s with aon := { s.aon with tarnFault12 := true } }
          else { s with aon := { s.aon with tarnFault11 := true } }).drivePins
      else s := by
  unfold xDiscrepancyFault
  rw [if_pos (by simp [h0, hb])]

theorem xDiscrepancyFault_tarn (b : Bool) (h0 : s.modeNow = 0) (hb : s.fbit R.PWR_MODE_BUSY = false)
    (hc : (if b then s.mode.tDiscBlank else s.mode.tDiscLreq) ≤ nth s.aon.tarnDisc (if b then 2 else 0)) :
    (if b then (xDiscrepancyFault b s).aon.tarnFault12 else (xDiscrepancyFault b s).aon.tarnFault11) = true := by
  rw [xDiscrepancyFault_sentinel b h0 hb, if_pos hc, (drivePins_only _).aon]
  cases b <;> rfl

/-! ### K28.0 -/

theorem send_emits (o : Output) (s : State) : o ∈ (s.send o).out := by
  have h : ∀ u : State, o ∈ (u.emit o).out := fun u => List.mem_append_right _ (List.mem_singleton_self o)
  unfold State.send State.laneSent
  split <;> exact h _

theorem xK28Repeat_held {p : Nat} (ht : s.totHolds p = true) (hp : s.portOn p = true) (hl : s.lane p = laneActive ∨ s.lane p = laneLinked) :
    xK28Repeat p s = s.send (.kcode p 0) := by
  unfold xK28Repeat
  rw [ht, hp, if_pos (by simpa [or_comm] using hl)]

theorem xK28Repeat_free {p : Nat} (h : s.totHolds p = false ∨ s.portOn p = false ∨ (s.lane p ≠ laneActive ∧ s.lane p ≠ laneLinked)) :
    xK28Repeat p s = s := by
  unfold xK28Repeat
  refine if_neg fun hc => ?_
  simp only [Bool.and_eq_true, Bool.or_eq_true, beq_iff_eq] at hc
  obtain ⟨⟨ht, hp⟩, hl⟩ := hc
  rcases h with h | h | ⟨ha, hk⟩
  · simp [ht] at h
  · simp [hp] at h
  · exact hl.elim hk ha

/-- Settles O36: each input's command by what it shows, latches or raises, one lemma each. -/
theorem safetyInputsAct : Obligations.SafetyInputsAct := by
  unfold Obligations.SafetyInputsAct
  refine ⟨?_, ?_, ?_, ?_, ?_, ?_, ?_, ?_, ?_, ?_, ?_, ?_, ?_, ?_, ?_, ?_, ?_⟩
  · intro s k hd hr
    obtain ⟨hraw, hsam, hpin, hlight⟩ := xSafeSample_shows k.isLt hd hr
    refine ⟨_, rfl, ?_, ?_, ?_, ?_⟩
    · rw [after_fget _ _ _ (by decide)]; exact hraw
    · rw [after_fget _ _ _ (by decide)]; exact hsam
    · rw [after_pins]; exact hpin
    · rw [after_lightOn]
      unfold State.fbit
      rw [after_light]
      exact hlight
  · intro s k h
    exact ⟨_, rfl, congrArg s.after (xSafeSample_off k.isLt h)⟩
  · intro s b h
    obtain ⟨hraw, hclear, hA, hB, hmode⟩ := xBlankAssert_follows b h
    refine ⟨_, rfl, ?_, ?_, ?_, ?_, ?_⟩
    · rw [after_pins]; exact hraw
    · rw [after_safe]; exact hclear
    · rw [after_fget _ _ _ (by decide)]; exact hA
    · rw [after_fget _ _ _ (by decide)]; exact hB
    · rw [after_mode]; exact hmode
  · intro s hd hr
    obtain ⟨hsrc, hraw, hclear, hfault⟩ := xBlankAssert_latches false hd hr
    refine ⟨_, rfl, ?_, ?_, ?_, ?_⟩
    · rw [after_fbit _ _ _ (by decide)]; exact hsrc
    · rw [after_pins]; exact hraw
    · rw [after_safe]; exact hclear
    · rw [after_faultOn _ _ (by decide)]; exact hfault
  · intro s hd hr
    obtain ⟨hsrc, hraw, hclear, hfault⟩ := xBlankAssert_latches true hd hr
    refine ⟨_, rfl, ?_, ?_, ?_, ?_⟩
    · rw [after_fbit _ _ _ (by decide)]; exact hsrc
    · rw [after_pins]; exact hraw
    · rw [after_safe]; exact hclear
    · rw [after_faultOn _ _ (by decide)]; exact hfault
  · intro s h
    obtain ⟨hA, hB⟩ := xBlankRelease_sources h
    refine ⟨_, rfl, ?_, ?_⟩
    · rw [after_fbit _ _ _ (by decide)]; exact hA
    · rw [after_fbit _ _ _ (by decide)]; exact hB
  · intro s h
    exact ⟨_, rfl, congrArg s.after (if_pos h)⟩
  · intro s b h hc
    exact ⟨_, rfl, congrArg s.after (xDiscrepancyFault_below b h hc)⟩
  · intro s b h0 hb hc
    exact ⟨_, rfl, congrArg s.after ((xDiscrepancyFault_sentinel b h0 hb).trans (if_neg (by omega)))⟩
  · intro s b hd h hc
    refine ⟨_, rfl, ?_⟩
    rw [after_faultOn _ _ (by cases b <;> decide)]
    exact xDiscrepancyFault_raises b hd h hc
  · intro s b h0 hb hc
    refine ⟨_, rfl, ?_⟩
    rw [after_aon]
    exact xDiscrepancyFault_tarn b h0 hb hc
  · intro s p ht hp hl
    have h := xK28Repeat_held ht hp hl
    refine ⟨_, rfl, congrArg s.after h, after_emitted _ _ ?_⟩
    rw [h]
    exact send_emits _ s
  · intro s p h
    exact ⟨_, rfl, congrArg s.after (xK28Repeat_free h)⟩
  · intro s hd h2
    obtain ⟨hf, hlimp, hpark⟩ := raise1_acts hd
    refine ⟨s.after (xLockstepControl s), rfl, ?_⟩
    rw [show xLockstepControl s = s.raise 1 0 0 from if_pos h2, after_faultOn _ _ (by decide), after_fget _ _ _ (by decide)]
    refine ⟨hf, fun h1 h3 => ?_, hpark⟩
    unfold State.modeNow
    rw [after_fget _ _ _ (by decide)]
    exact hlimp h1 h3
  · intro s h
    refine ⟨_, rfl, congrArg s.after ?_⟩
    unfold xLockstepControl
    rcases h with h | h
    · rw [raise_off h]
      exact ite_self s
    · rw [h]
      rfl
  · intro s h
    exact ⟨_, rfl, congrArg s.after (raise_off h 2 0 0)⟩
  · intro s hd
    obtain ⟨hf, hspill, hpair⟩ := raise2_acts hd
    refine ⟨_, rfl, ?_, ?_, ?_⟩
    · rw [after_faultOn _ _ (by decide)]; exact hf
    · rw [after_fbit _ _ _ (by decide)]; exact hspill
    · rw [after_fbit _ _ _ (by decide)]; exact hpair

end SafetyInputs
end Sys2Proof.Machine

namespace Sys2Proof.Machine

section Starts

variable {s t u : State}

/-! ## The decision in progress, the reset and the boot through a power-up -/

/-- What is left of a state where only the boot, the mode and the reset count. -/
def State.startOnly (s : State) : State :=
  { boot := { left := s.boot.left, xspiSafe := s.boot.xspiSafe, halted := s.boot.halted }, mode := s.mode, aon := { resetHeld := s.aon.resetHeld } }

/-- Anything changes but the straps, the mode and the reset. -/
abbrev OnlyBeside := Within State.startOnly (· ≠ 0x20100)

theorem OnlyIo.beside (h : OnlyIo s t) : OnlyBeside s t := h.mono (fun _ => rfl) fun a ha => by unfold ioReg at ha; omega
theorem OnlyReport.beside (h : OnlyReport s t) : OnlyBeside s t :=
  h.mono (fun _ => rfl) fun a ha => by unfold reportReg ioReg at ha; omega
theorem OnlyTot.beside (h : OnlyTot s t) : OnlyBeside s t := h.mono (fun _ => rfl) fun a ha => by unfold totReg ioReg at ha; omega
theorem OnlyUp.beside (h : OnlyUp s t) : OnlyBeside s t := h.mono (fun _ => rfl) fun a ha => by unfold upReg at ha; omega
theorem OnlyRails.beside (h : OnlyRails s t) : OnlyBeside s t := h.mono (fun _ => rfl) fun a ha => by unfold railReg at ha; omega

/-- The straps and the reset are as they were, and so is the decision of a transition in progress, outside LIMP. -/
structure KeepsStart (s t : State) : Prop where
  left : t.boot.left = s.boot.left
  xspiSafe : t.boot.xspiSafe = s.boot.xspiSafe
  halted : t.boot.halted = s.boot.halted
  resetHeld : t.aon.resetHeld = s.aon.resetHeld
  wakeHeld : t.mode.wakeHeld = s.mode.wakeHeld
  decided : s.fbit R.PWR_MODE_BUSY = true → s.modeNow ≠ 4 → t.mode.trans = s.mode.trans ∧ t.rd 0x20100 = s.rd 0x20100

theorem KeepsStart.refl (s : State) : KeepsStart s s := ⟨rfl, rfl, rfl, rfl, rfl, fun _ _ => ⟨rfl, rfl⟩⟩

theorem KeepsStart.trans (h : KeepsStart s t) (k : KeepsStart t u) : KeepsStart s u where
  left := k.left.trans h.left
  xspiSafe := k.xspiSafe.trans h.xspiSafe
  halted := k.halted.trans h.halted
  resetHeld := k.resetHeld.trans h.resetHeld
  wakeHeld := k.wakeHeld.trans h.wakeHeld
  decided hb hm := by
    obtain ⟨ht, hr⟩ := h.decided hb hm
    have hb' : t.fbit R.PWR_MODE_BUSY = true := by
      rw [← hb]; unfold State.fbit State.fget; rw [show R.PWR_MODE_BUSY.addr = 0x20100 from rfl, hr]
    have hm' : t.modeNow ≠ 4 := by
      unfold State.modeNow State.fget at *; rw [show R.PWR_MODE_MODE.addr = 0x20100 from rfl] at *; rw [hr]; exact hm
    obtain ⟨kt, kr⟩ := k.decided hb' hm'
    exact ⟨kt.trans ht, kr.trans hr⟩

theorem Within.keepsStart (h : OnlyBeside s t) : KeepsStart s t where
  left := h.part (fun x => x.boot.left) fun _ => rfl
  xspiSafe := h.part (fun x => x.boot.xspiSafe) fun _ => rfl
  halted := h.part (fun x => x.boot.halted) fun _ => rfl
  resetHeld := h.part (fun x => x.aon.resetHeld) fun _ => rfl
  wakeHeld := h.part (fun x => x.mode.wakeHeld) fun _ => rfl
  decided _ _ := ⟨h.part (fun x => x.mode.trans) fun _ => rfl, h.rd _ (by simp)⟩

/-! ### Faults -/

/-- LIMP waits for the end of a transition in progress (R512). -/
theorem takeLimp_of_busy (form : LimpForm) (fault cause : Nat) (hb : s.fbit R.PWR_MODE_BUSY = true) (h4 : s.modeNow ≠ 4) :
    (s.takeLimp form fault cause).mode.trans = s.mode.trans ∧ (s.takeLimp form fault cause).rd 0x20100 = s.rd 0x20100 := by
  unfold State.takeLimp
  rw [if_neg (by simp [h4]), if_pos hb]
  exact ⟨rfl, rfl⟩

theorem enterLimp_keepsStart (form : LimpForm) (fault cause : Nat) (s : State) : KeepsStart s (s.enterLimp form fault cause) where
  left := (enterLimp_limp form fault cause s).part (fun x => x.boot.left) fun _ => rfl
  xspiSafe := (enterLimp_limp form fault cause s).part (fun x => x.boot.xspiSafe) fun _ => rfl
  halted := (enterLimp_limp form fault cause s).part (fun x => x.boot.halted) fun _ => rfl
  resetHeld := (enterLimp_limp form fault cause s).part (fun x => x.aon.resetHeld) fun _ => rfl
  wakeHeld := (enterLimp_limp form fault cause s).part (fun x => x.mode.wakeHeld) fun _ => rfl
  decided hb hm := by
    obtain ⟨f, hf, he⟩ := enterLimp_eq form fault cause s
    obtain ⟨ht, hr⟩ := takeLimp_of_busy (s := s.setMode f) form fault cause hb hm
    rw [he]
    exact ⟨ht.trans (hf s.mode), hr⟩

theorem TotSrc.fld_beside (src : TotSrc) : src.fld.addr ≠ 0x20100 := by rw [src.fld_addr]; decide

theorem totRequest_beside (src : TotSrc) (groups fault : Nat) (s : State) : OnlyBeside s (s.totRequest src groups fault) :=
  .trans (.fsetb (.refl s) src.fld_beside) (OnlyTot.beside (totRequest_tot src groups fault s))

theorem reactTo_keepsStart (f : Nat) (s : State) : KeepsStart s (s.reactTo f) := by
  unfold State.reactTo
  split
  · exact .refl s
  · exact enterLimp_keepsStart _ _ _ s
  · exact enterLimp_keepsStart _ _ _ s
  · exact Within.keepsStart (.fsetb (totRequest_beside _ _ _ s) (by decide))
  · exact (totRequest_beside _ _ _ s).keepsStart
  · refine KeepsStart.trans ?_ (enterLimp_keepsStart _ _ _ _)
    refine Within.keepsStart (.fsetb ?_ (by decide))
    exact .parts rfl rfl

theorem raise_keepsStart (f inst detail : Nat) (s : State) : KeepsStart s (s.raise f inst detail) := by
  unfold State.raise
  split
  · exact .trans (Within.keepsStart (.trans (OnlyReport.beside (recordFault_report f inst detail s)) (OnlyTot.beside (twinFault_tot f _))))
      (reactTo_keepsStart f _)
  · exact .refl s

/-! ### Domains -/

theorem blankLevel_keepsStart (b : Bool) (s : State) : KeepsStart s (blankLevel b s) := by
  have h : OnlyBeside s ({ s with seg := { s.seg with resetOff := false } }.fset R.SAFE_INPUTS_RAW s.pins.raw) :=
    .fset (.parts rfl rfl) (by decide)
  unfold blankLevel
  generalize (if b then TotSrc.blankB else .blankA) = src, (if b then 3 else 2) = pin
  split
  · exact (h.trans (totRequest_beside src _ 10 _)).keepsStart.trans (raise_keepsStart 10 0 0 _)
  · exact .refl s

theorem relatch_keepsStart (s : State) : KeepsStart s s.relatch := by
  unfold State.relatch
  extract_lets a b ps c d
  have ha : KeepsStart s a :=
    foldl_rel .refl .trans _ _ (fun u f _ => (Within.keepsStart (OnlyReport.beside (latchFault_report f u))).trans (reactTo_keepsStart f _)) s
  have hb : OnlyBeside a b := .foldl _ _ (fun u h _ => OnlyReport.beside (latchFault_report h.fault u)) a
  have hc : OnlyBeside a c := hb.trans (.overList _ _ (fun p _ u => .fsetb (.refl u) (by simp only [R.PIX_HLT_PORT_STAT_TILE_HELD]; omega)) b)
  have hd : OnlyBeside a d := hc.fset (by decide)
  clear_value d
  refine ha.trans (Within.keepsStart (hd.trans ?_))
  exact .parts rfl rfl

theorem hotLevel_keepsStart (s : State) : KeepsStart s s.hotLevel := by
  unfold State.hotLevel
  split
  · exact (Within.keepsStart (.fsetb (.refl s) (by decide))).trans (raise_keepsStart 32 0 0 _)
  · exact .refl s

theorem domSet_beside (d : Nat) (b : Bool) (s : State) : OnlyBeside s (s.domSet d b) := .fset (.refl s) (by decide)

/-- SAFE comes on with what stands on its wires and what it kept through SENTINEL (R381, R541). -/
theorem domainOn_safe_keepsStart (h : s.domOn 1 = false) : KeepsStart s (domainOn 1 s) := by
  unfold domainOn
  rw [if_neg (by simp [h])]
  extract_lets u
  have hu : OnlyBeside s u := (domSet_beside 1 true s).trans (OnlyUp.beside (segClock_up _))
  rw [if_neg (by decide), if_pos rfl]
  clear_value u
  have hv : OnlyBeside s { u with test := { sweepAt := u.ticks } } := hu.trans (.parts rfl rfl)
  exact (((hv.keepsStart.trans (blankLevel_keepsStart false _)).trans (blankLevel_keepsStart true _)).trans (relatch_keepsStart _)).trans
    (hotLevel_keepsStart _)

theorem domainOn_keepsStart (d : Nat) (s : State) : KeepsStart s (domainOn d s) := by
  cases hd : s.domOn d with
  | true => rw [domainOn_of_on hd]; exact .refl s
  | false =>
    by_cases h1 : d = 1
    · subst h1; exact domainOn_safe_keepsStart hd
    · exact ((domSet_beside d true s).trans (OnlyUp.beside (domainOn_up h1 hd))).keepsStart

theorem powerUp_keepsStart (ds : List Nat) (s : State) : KeepsStart s (s.powerUp ds) :=
  overList_rel .refl .trans _ _ (fun d _ => domainOn_keepsStart d) s

end Starts
end Sys2Proof.Machine

namespace Sys2Proof.Machine

section Resets

variable {s t u : State}

/-! ## Registers at their reset words -/

theorem regGet_filter {pick : Nat → Bool} {a : Nat} (ha : pick a = false) (r : RegFile) :
    regGet (r.filter fun e => !pick e.1) a = regGet r a := by
  induction r with
  | nil => rfl
  | cons e r ih =>
    obtain ⟨x, v⟩ := e
    by_cases hx : a = x
    · subst hx; simp [ha, regGet]
    · by_cases hp : pick x = true
      · simp [hp, regGet, hx, ih]
      · simp [hp, regGet, hx, ih]

theorem regGet_regInsert_other {e : Nat × Word} {a : Nat} (ha : e.1 ≠ a) (r : RegFile) : regGet (regInsert r e) a = regGet r a := by
  induction r with
  | nil => simp [regInsert, regGet, ha.symm]
  | cons f r ih =>
    obtain ⟨x, v⟩ := f
    unfold regInsert
    split
    · simp [regGet, ha.symm]
    · simp [regGet, ih]

theorem regGet_foldl_regInsert {a : Nat} {l : RegFile} (hl : ∀ e ∈ l, e.1 ≠ a) (r : RegFile) :
    regGet (l.foldl regInsert r) a = regGet r a := by
  induction l generalizing r with
  | nil => rfl
  | cons e l ih =>
    obtain ⟨he, hl⟩ := List.forall_mem_cons.1 hl
    exact (ih hl _).trans (regGet_regInsert_other he r)

/-- A reset leaves the registers that it does not pick. -/
theorem resetRegs_rd {pick : Nat → Bool} {a : Nat} (ha : pick a = false) (s : State) : (s.resetRegs pick).rd a = s.rd a := by
  have hback : ∀ e ∈ resetWords.filter fun e => pick e.1, e.1 ≠ a := by
    rintro e he rfl
    rw [(List.mem_filter.1 he).2] at ha
    cases ha
  exact (regGet_foldl_regInsert hback _).trans (regGet_filter ha s.regs)

theorem resetRegs_beside {pick : Nat → Bool} (hp : pick 0x20100 = false) (s : State) : OnlyBeside s (s.resetRegs pick) :=
  ⟨rfl, fun a ha => by obtain rfl : a = 0x20100 := not_not.1 ha; exact resetRegs_rd hp s⟩

/-! ## Domains going off -/

/-- What is left of a state where only the reset counts. -/
def State.heldOnly (s : State) : State := { aon := { resetHeld := s.aon.resetHeld } }

/-- Anything changes but PWR_MODE and whether RESET_N is low. -/
abbrev OnlyOff := Within State.heldOnly (· ≠ 0x20100)

theorem Within.off (h : OnlyBeside s t) : OnlyOff s t := h.mono (fun _ => rfl) fun _ ha => ha

theorem sessionOver_off (s : State) : OnlyOff s s.sessionOver := by
  unfold State.sessionOver
  extract_lets _ a b
  have ha : OnlyOff s a := .parts rfl rfl
  exact .fset (.fset (.fsetb (.fsetb (.fsetb ha (by decide)) (by decide)) (by decide)) (by decide)) (by decide)

theorem commitCut_off (service : Bool) (s : State) : OnlyOff s (s.commitCut service) := by
  unfold State.commitCut
  extract_lets a
  have ha : OnlyOff s a := .fsetb (.refl s) (by decide)
  split
  · exact ha.trans (sessionOver_off a)
  · exact ha

theorem syncLow_off (s : State) : OnlyOff s s.syncLow := by
  unfold State.syncLow
  extract_lets ps w _ a b
  split <;> exact .parts rfl rfl

theorem resetPorts_off (l : List Nat) (s : State) : OnlyOff s (overList resetPort l s) :=
  .overList resetPort l (fun _ _ _ => .parts rfl rfl) s

theorem resetHidden_off (d : Nat) (s : State) : OnlyOff s (s.resetHidden d) := by
  have hmem : OnlyOff s { s with pix := s.pix.storeLost, parkPats := rep 6 {}, mode := { s.mode with parkPics := [] } } := .parts rfl rfl
  have hgen : OnlyOff s { s with gens := rep 4 {}, pix := s.pix.logicReset } := .parts rfl rfl
  unfold State.resetHidden
  refine .ite (.parts rfl rfl) ?_
  refine .ite (.parts rfl rfl) ?_
  refine .ite (hgen.trans (syncLow_off _)) ?_
  refine .ite hmem ?_
  refine .ite (.parts rfl rfl) ?_
  refine .ite (resetPorts_off _ s) ?_
  refine .ite (resetPorts_off _ s) ?_
  refine .ite (.parts rfl rfl) ?_
  refine .ite (.parts rfl rfl) ?_
  refine .ite (.parts rfl rfl) ?_
  exact .ite (.parts rfl rfl) (.refl s)

theorem resetDomain_off (d : Nat) (s : State) : OnlyOff s (s.resetDomain d) := by
  unfold State.resetDomain
  extract_lets t
  have ht : OnlyOff s t := (Within.off (resetRegs_beside (by simp) s)).trans (resetHidden_off d _)
  split
  · exact ht.trans (commitCut_off _ t)
  · exact ht

theorem tickLow_off (s : State) : OnlyOff s s.tickLow := by
  unfold State.tickLow
  split
  · exact .parts rfl rfl
  · exact .refl s

theorem domainOff_off (d : Nat) (s : State) : OnlyOff s (domainOff d s) := by
  unfold domainOff
  split
  · extract_lets _ a b
    have ha : OnlyOff s a := by
      unfold a
      split
      · exact .parts rfl rfl
      · exact .refl s
    have hb : OnlyOff s b := (ha.trans (resetDomain_off d a)).trans (Within.off ((domSet_beside d false _).trans (OnlyUp.beside (segClock_up _))))
    split
    · exact (hb.trans (Within.off (OnlyUp.beside (showHoldover_up b)))).trans (tickLow_off _)
    · exact hb
  · exact .refl s

theorem powerDown_off (ds : List Nat) (s : State) : OnlyOff s (s.powerDown ds) := .overList _ _ (fun d _ u => domainOff_off d u) s

theorem storeOff_off (s : State) : OnlyOff s s.storeOff := (resetDomain_off 4 s).fsetb (by decide)

end Resets
end Sys2Proof.Machine

namespace Sys2Proof.Machine

section Boots

variable {s t u : State}

/-! ## The boot -/

theorem showOtp_beside (s : State) : OnlyBeside s s.showOtp := by
  unfold State.showOtp State.showLc
  extract_lets b c d e f
  have hc : OnlyBeside s c := .fsetb (.fsetb (.fset (.refl s) (by decide)) (by decide)) (by decide)
  have hd : OnlyBeside s d := .fsetb (.fset hc (by decide)) (by decide)
  have he : OnlyBeside s e := .fsetb (.fsetb hd (by decide)) (by decide)
  have hf : OnlyBeside s f := .fset (.fsetb he (by decide)) (by decide)
  exact hf.trans (.overAll 4 _ (fun w hw v => .fset (.refl v) (by simp only [R.BOOT_DEV_ID_ID]; omega)) f)

/-- The firmware that BOOT shows is registers alone. -/
theorem showFw_only (s : State) : Within (fun x => x) (· ≠ 0x20100) s s.showFw := by
  unfold State.showFw State.showSlotsFw
  refine .ite ?_ (.refl s)
  extract_lets va vb a b c
  have ha : Within (fun x => x) (· ≠ 0x20100) s a := .fset (.fsetb (.fset (.refl s) (by decide)) (by decide)) (by decide)
  have hb : Within (fun x => x) (· ≠ 0x20100) s b := .fset ha (by decide)
  have hc : Within (fun x => x) (· ≠ 0x20100) s c := .fset (.fset hb (by decide)) (by decide)
  exact .fsetb (.fsetb (.fsetb hc (by decide)) (by decide)) (by decide)

theorem showFw_beside (s : State) : OnlyBeside s s.showFw := (showFw_only s).mono (fun _ => rfl) fun _ h => h

theorem showFw_boot (s : State) : s.showFw.boot = s.boot := (showFw_only s).part State.boot fun _ => rfl

theorem bootDomains_beside (cause : Nat) (s : State) : OnlyBeside s (s.bootDomains cause) := by
  unfold State.bootDomains
  extract_lets a b c
  have ha : OnlyBeside s a := .parts rfl rfl
  have hb : OnlyBeside s b := .ite (ha.trans (showOtp_beside a)) ha
  have hc : OnlyBeside s c := .fset hb (by decide)
  clear_value c
  have hd : OnlyBeside c (c.setBoot fun b => { b with active := true, cause := cause }) := .parts rfl rfl
  have he : OnlyBeside c (c.setBoot fun b =>
    { b with active := true, cause := cause, otherTried := false, fallback := false, spbBad := false, trial := false }) := .parts rfl rfl
  refine .ite (.trans (hc.trans (hd.trans (showFw_beside _))) ?_) (.trans (hc.trans he) ?_)
  · exact .parts rfl rfl
  · exact .parts rfl rfl

theorem bootDomains_cause (cause : Nat) (s : State) : (s.bootDomains cause).boot.cause = cause := by
  unfold State.bootDomains State.bootRead
  extract_lets a b c
  split
  · show (c.setBoot fun b => { b with active := true, cause := cause }).showFw.boot.cause = cause
    rw [showFw_boot]
    rfl
  · rfl

theorem tlaToLimp_beside (s : State) : OnlyBeside s s.tlaToLimp :=
  .fsetb (.trans (resetRegs_beside (by decide) s) (.overList resetPort _ (fun _ _ _ => .parts rfl rfl) _)) (by decide)

theorem tlaToFull_beside (s : State) : OnlyBeside s s.tlaToFull := .fsetb (.refl s) (by decide)

theorem domainsUp_keepsStart (s : State) : KeepsStart s s.domainsUp := by
  have h : OnlyBeside s (s.setBoot fun b => { b with limpOnly := false }) := .parts rfl rfl
  exact (h.keepsStart.trans (powerUp_keepsStart _ _)).trans (tlaToFull_beside _).keepsStart

theorem limpBoot_keepsStart (cause : Nat) (s : State) : KeepsStart s (s.limpBoot cause) := by
  have h : OnlyBeside s (s.setBoot fun b => { b with limpOnly := true }) := .parts rfl rfl
  exact ((h.trans (tlaToLimp_beside _)).keepsStart.trans (powerUp_keepsStart _ _)).trans (bootDomains_beside cause _).keepsStart

/-! ## The rails -/

/-- Once the rails of a boot or a wake are up the domains come up and the boot starts (R516, R578). -/
theorem railsUpDone_keepsStart (s : State) : KeepsStart s s.railsUpDone := by
  unfold State.railsUpDone
  extract_lets a
  have ha : OnlyBeside s a := .parts rfl rfl
  clear_value a
  split
  · exact ha.keepsStart
  have hb : OnlyBeside s (a.setSup fun u => { u with railsFailed := false, restoring := true }) := ha.trans (.parts rfl rfl)
  split
  · exact (hb.keepsStart.trans (domainsUp_keepsStart _)).trans (bootDomains_beside 4 _).keepsStart
  · exact (hb.keepsStart.trans (domainsUp_keepsStart _)).trans (bootDomains_beside 4 _).keepsStart
  · exact (ha.keepsStart.trans (domainsUp_keepsStart _)).trans (bootDomains_beside 3 _).keepsStart
  · exact (ha.keepsStart.trans (domainsUp_keepsStart _)).trans (bootDomains_beside _ _).keepsStart
  · exact ha.keepsStart

theorem railsUp_keepsStart (why : RailPurpose) (s : State) : KeepsStart s (s.railsUp why) := by
  have h : OnlyBeside s (s.setSup fun u => { u with dir := .up, purpose := why, shed := false }) := .parts rfl rfl
  unfold State.railsUp State.railUpFrom
  split
  · rename_i i hi
    exact (h.trans (OnlyRails.beside (railStart_rails (railAfter_lt hi) _))).keepsStart
  · exact h.keepsStart.trans (railsUpDone_keepsStart _)

/-- The cause of a boot outlasts the power-up of its rails. -/
theorem railsUp_boot_cause (hr : s.aon.resetHeld = false) : (s.railsUp .boot).boot.cause = s.boot.cause := by
  unfold State.railsUp State.railUpFrom
  split
  · rename_i i hi
    exact (railStart_rails (railAfter_lt hi) _).part (fun x => x.boot.cause) fun _ => rfl
  · unfold State.railsUpDone
    extract_lets a
    rw [if_neg (by rw [show a.aon.resetHeld = s.aon.resetHeld from rfl, hr]; decide)]
    exact bootDomains_cause _ _

theorem resetBoot_keepsStart (s : State) : KeepsStart s s.resetBoot := by
  unfold State.resetBoot
  split
  · unfold State.resetLimp
    extract_lets a
    have ha : OnlyBeside s a := .ite (.refl s) (OnlyRails.beside (railsDown_rails .shed s))
    exact ha.keepsStart.trans (limpBoot_keepsStart 2 a)
  split
  · exact Within.keepsStart (.parts rfl rfl)
  · exact railsUp_keepsStart .boot s

theorem resetBoot_cause (hr : s.aon.resetHeld = false) (hc : s.boot.cause = 2) : s.resetBoot.boot.cause = 2 := by
  unfold State.resetBoot
  split
  · exact bootDomains_cause 2 _
  split
  · exact hc
  · exact (railsUp_boot_cause hr).trans hc

end Boots
end Sys2Proof.Machine

namespace Sys2Proof.Machine

section ResetsAct

variable {s t u : State}

/-! ## The power-on reset -/

theorem pmbusStart_way (s : State) : s.pmbusStart.sup.dir = s.sup.dir ∧ s.pmbusStart.sup.purpose = s.sup.purpose := by
  unfold State.pmbusStart
  split
  · exact ⟨rfl, rfl⟩
  split
  · exact ⟨rfl, rfl⟩
  · exact ⟨rfl, rfl⟩

/-- A rail that starts leaves the direction and the purpose of its sequence. -/
theorem railStart_way (r : Nat) (s : State) : (s.railStart r).sup.dir = s.sup.dir ∧ (s.railStart r).sup.purpose = s.sup.purpose := by
  unfold State.railStart State.railBegin
  split
  · exact pmbusStart_way _
  · exact ⟨rfl, rfl⟩

theorem railAfter_zero (h : s.railOn 0 = false) : s.railAfter 0 = some 0 := by
  unfold State.railAfter
  exact List.find?_cons_of_pos (by simp [h])

theorem railsUp_of_off (why : RailPurpose) (h : s.railOn 0 = false) :
    OnlyRails s (s.railsUp why) ∧ (s.railsUp why).sup.dir = .up ∧ (s.railsUp why).sup.purpose = why := by
  have hr : s.railsUp why = (s.setSup fun u => { u with dir := .up, purpose := why, shed := false }).railStart 0 := by
    unfold State.railsUp State.railUpFrom
    rw [railAfter_zero (s := s.setSup _) h]
  obtain ⟨hd, hp⟩ := railStart_way 0 (s.setSup fun u => { u with dir := .up, purpose := why, shed := false })
  rw [hr]
  exact ⟨.trans (.setSup (.refl s)) (railStart_rails (by decide) _), hd, hp⟩

theorem reset_rail0_off : State.reset.fbit (R.PWR_RAIL_STAT_EN 0) = false := by decide +kernel

/-- The state in which the boot of a power-on reset is to start. -/
def State.powerOnSampled (left xspiSafe : Bool) (s : State) : State :=
  let u := { s.powerOn with aon := { s.powerOn.aon with running := true } }
  (u.setBoot fun b => { b with left := left, xspiSafe := xspiSafe, cause := b2n s.aon.collapsed }).fset R.PWR_RESET_CAUSE (b2n s.aon.collapsed)

theorem powerOnSampled_rail0 (left xspiSafe : Bool) (s : State) : (s.powerOnSampled left xspiSafe).railOn 0 = false := by
  have h : (s.powerOnSampled left xspiSafe).fbit (R.PWR_RAIL_STAT_EN 0) = false := by
    unfold State.fbit State.powerOnSampled
    rw [fget_fset_addr _ _ _ _ (by decide)]
    exact reset_rail0_off
  unfold State.railOn
  rw [h]
  rfl

theorem powerOnSampled_cause (left xspiSafe : Bool) (s : State) :
    (s.powerOnSampled left xspiSafe).fget R.PWR_RESET_CAUSE = b2n s.aon.collapsed := by
  unfold State.powerOnSampled
  rw [fget_fset_same _ _ _ (by decide)]
  cases s.aon.collapsed <;> rfl

theorem xPowerOnReset_eq (left xspiSafe : Bool) (s : State) :
    xPowerOnReset left xspiSafe s = (s.powerOnSampled left xspiSafe).railsUp .boot := by
  unfold xPowerOnReset State.powerOnSampled
  generalize s.powerOn = u
  rfl

theorem xPowerOnReset_acts (left xspiSafe : Bool) (s : State) :
    OnlyRails (s.powerOnSampled left xspiSafe) (xPowerOnReset left xspiSafe s)
      ∧ (xPowerOnReset left xspiSafe s).sup.dir = .up ∧ (xPowerOnReset left xspiSafe s).sup.purpose = .boot := by
  rw [xPowerOnReset_eq]
  exact railsUp_of_off .boot (powerOnSampled_rail0 left xspiSafe s)

/-! ## RESET_N -/

theorem dieDReset_acts (s : State) :
    s.dieDReset.aon.twinAlive = false ∧ s.dieDReset.boot.active = false ∧ OnlyOff s s.dieDReset := by
  unfold State.dieDReset
  extract_lets a _ b
  have ha : OnlyOff s a := .fsetb ((powerDown_off dieD s).trans (storeOff_off _)) (by decide)
  clear_value a
  have hb : OnlyOff s b := ha.trans (.parts rfl rfl)
  split
  · have h := segBlankOff_only b
    have haon : b.segBlankOff.aon = b.aon := h.part State.aon fun _ => rfl
    have hboot : b.segBlankOff.boot = b.boot := h.part State.boot fun _ => rfl
    exact ⟨by rw [haon]; rfl, by rw [hboot]; rfl, hb.trans (h.mono (fun _ => rfl) fun r hr => by omega)⟩
  · exact ⟨rfl, rfl, .fsetb hb (by decide)⟩

theorem OnlyLevels.off (h : OnlyLevels s t) : OnlyOff s t := h.within.mono (fun _ => rfl) fun a ha => by omega

theorem modeReset_mode (s : State) :
    s.modeReset.fget R.PWR_MODE_MODE = 0 ∧ s.modeReset.fget R.PWR_MODE_TARGET = 1 ∧ s.modeReset.fbit R.PWR_MODE_BUSY = true := by
  unfold State.modeReset State.idleStop State.fbit State.fsetb
  refine ⟨?_, ?_, ?_⟩
  · rw [fget_fset_addr _ _ _ _ (by decide), fget_fset_addr _ _ _ _ (by decide), fget_fset_apart _ _ _ _ (by decide) (by decide) (by decide),
      fget_fset_apart _ _ _ _ (by decide) (by decide) (by decide), fget_fset_same _ _ _ (by decide)]
    rfl
  · rw [fget_fset_addr _ _ _ _ (by decide), fget_fset_addr _ _ _ _ (by decide), fget_fset_apart _ _ _ _ (by decide) (by decide) (by decide),
      fget_fset_same _ _ _ (by decide)]
    rfl
  · rw [fget_fset_addr _ _ _ _ (by decide), fget_fset_addr _ _ _ _ (by decide), fget_fset_same _ _ _ (by decide)]
    rfl

theorem modeReset_aon (s : State) : s.modeReset.aon = s.aon := by
  unfold State.modeReset State.idleStop
  rw [State.fsetb_aon, State.fset_aon, State.fsetb_aon, State.fset_aon, State.fset_aon, State.setMode_aon]

/-- The state in which RESET_N is held low. -/
def State.resetFallen (s : State) : State := { s with aon := { s.aon with resetHeld := true, keptDark := [], keptHolds := [] } }

theorem xResetNAssert_eq (hr : s.aon.resetHeld = false) :
    xResetNAssert s = if s.inSentinel then s.resetFallen.drivePins
      else (s.resetFallen.modeReset.dieDReset.setSup fun u => { u with restoring := false, shedDue := false }).drivePins := by
  rw [xResetNAssert, if_neg (by simp [hr])]
  rfl

/-- DIE-D in reset with RESET_N low, and the levels after it. -/
theorem resetDone_acts (f : SupplySt → SupplySt) (s : State) :
    OnlyOff s (s.dieDReset.setSup f).drivePins ∧ (s.dieDReset.setSup f).drivePins.aon.twinAlive = false
      ∧ (s.dieDReset.setSup f).drivePins.boot.active = false := by
  obtain ⟨htwin, hactive, hoff⟩ := dieDReset_acts s
  generalize s.dieDReset = d at *
  have hsup : OnlyOff d (d.setSup f) := .parts rfl rfl
  have hp := drivePins_only (d.setSup f)
  refine ⟨(hoff.trans hsup).trans (OnlyLevels.off hp), ?_, ?_⟩
  · rw [hp.aon]
    exact htwin
  · rw [hp.boot]
    exact hactive

/-- RESET_N falls outside SENTINEL (R573, R578). -/
theorem xResetNAssert_acts (hr : s.aon.resetHeld = false) (hs : s.inSentinel = false) :
    (xResetNAssert s).aon.resetHeld = true ∧ (xResetNAssert s).fget R.PWR_MODE_MODE = 0
      ∧ (xResetNAssert s).fget R.PWR_MODE_TARGET = 1 ∧ (xResetNAssert s).fbit R.PWR_MODE_BUSY = true
      ∧ (xResetNAssert s).aon.twinAlive = false ∧ (xResetNAssert s).boot.active = false := by
  rw [xResetNAssert_eq hr, if_neg (by simp [hs])]
  obtain ⟨hmode, htarget, hbusy⟩ := modeReset_mode s.resetFallen
  have hheld : s.resetFallen.modeReset.aon.resetHeld = true := by rw [modeReset_aon]; rfl
  obtain ⟨hoff, htwin, hactive⟩ := resetDone_acts (fun u => { u with restoring := false, shedDue := false }) s.resetFallen.modeReset
  refine ⟨?_, ?_, ?_, ?_, htwin, hactive⟩
  · rw [hoff.part (fun x => x.aon.resetHeld) fun _ => rfl]
    exact hheld
  · rw [hoff.fget _ (by decide)]
    exact hmode
  · rw [hoff.fget _ (by decide)]
    exact htarget
  · rw [hoff.fbit _ (by decide)]
    exact hbusy

/-- RESET_N falls in SENTINEL: only the reset is held (R578). -/
theorem xResetNAssert_sentinel (hr : s.aon.resetHeld = false) (hs : s.inSentinel = true) :
    OnlyLevels s.resetFallen (xResetNAssert s) := by
  rw [xResetNAssert_eq hr, if_pos hs]
  exact drivePins_only s.resetFallen

/-- The state in which RESET_N has risen and the straps are sampled. -/
def State.resetRisen (left xspiSafe : Bool) (s : State) : State :=
  { s with aon := { s.aon with resetHeld := false }, boot := { s.boot with left := left, xspiSafe := xspiSafe } }

/-- The state in which the boot of a RESET_N is to start. -/
def State.resetSampled (left xspiSafe : Bool) (s : State) : State :=
  let u := (s.resetRisen left xspiSafe).setBoot fun b => { b with halted := false, cause := 2 }
  (u.setSup fun u => { u with railsFailed := false, recoveryUsed := false }).drivePins.calTrigger

theorem xResetNRelease_eq (left xspiSafe : Bool) (hr : s.aon.resetHeld = true) :
    xResetNRelease left xspiSafe s =
      if s.inSentinel then
        match s.mode.wakeHeld with
        | none => s.resetRisen left xspiSafe
        | some (dst, cause) => ((s.resetRisen left xspiSafe).setMode fun m => { m with wakeHeld := none }).beginWake dst cause
      else (s.resetSampled left xspiSafe).resetBoot := by
  unfold xResetNRelease
  rw [if_neg (by simp [hr])]
  rfl

theorem resetSampled_acts (left xspiSafe : Bool) (s : State) :
    (s.resetSampled left xspiSafe).aon.resetHeld = false ∧ (s.resetSampled left xspiSafe).boot.left = left
      ∧ (s.resetSampled left xspiSafe).boot.xspiSafe = xspiSafe ∧ (s.resetSampled left xspiSafe).boot.halted = false
      ∧ (s.resetSampled left xspiSafe).boot.cause = 2 := by
  unfold State.resetSampled
  extract_lets u
  have hp := drivePins_only (u.setSup fun v => { v with railsFailed := false, recoveryUsed := false })
  have hc := calTrigger_up (u.setSup fun v => { v with railsFailed := false, recoveryUsed := false }).drivePins
  have hb := (hc.part State.boot fun _ => rfl).trans hp.boot
  have ha := hc.part State.aon fun _ => rfl
  rw [ha, hb, hp.aon]
  exact ⟨rfl, rfl, rfl, rfl, rfl⟩

/-- RESET_N rises outside SENTINEL: the straps are sampled and the boot is one of cause 2 (R578). -/
theorem xResetNRelease_acts (left xspiSafe : Bool) (hr : s.aon.resetHeld = true) (hs : s.inSentinel = false) :
    (xResetNRelease left xspiSafe s).aon.resetHeld = false ∧ (xResetNRelease left xspiSafe s).boot.left = left
      ∧ (xResetNRelease left xspiSafe s).boot.xspiSafe = xspiSafe ∧ (xResetNRelease left xspiSafe s).boot.halted = false
      ∧ (xResetNRelease left xspiSafe s).boot.cause = 2 := by
  rw [xResetNRelease_eq left xspiSafe hr, hs]
  obtain ⟨hheld, hleft, hxspi, hhalt, hcause⟩ := resetSampled_acts left xspiSafe s
  have hk := resetBoot_keepsStart (s.resetSampled left xspiSafe)
  exact ⟨hk.resetHeld.trans hheld, hk.left.trans hleft, hk.xspiSafe.trans hxspi, hk.halted.trans hhalt, resetBoot_cause hheld hcause⟩

/-- Tarn's wake action starts with a transition to its target (R516). -/
theorem beginMode_acts (dst cause : Nat) (s : State) :
    (s.beginMode dst cause none).mode = { s.mode with trans := some { src := s.modeNow, dst := dst, cause := cause } }
      ∧ (s.beginMode dst cause none).fget R.PWR_MODE_TARGET = dst % 8
      ∧ (s.beginMode dst cause none).fbit R.PWR_MODE_BUSY = true
      ∧ (s.beginMode dst cause none).modeNow = s.modeNow := by
  unfold State.beginMode State.idleStop State.modeNow State.fbit State.fsetb
  refine ⟨rfl, ?_, ?_, ?_⟩
  · rw [fget_fset_addr _ _ _ _ (by decide), fget_fset_addr _ _ _ _ (by decide), State.setMode_fget,
      fget_fset_apart _ _ _ _ (by decide) (by decide) (by decide), fget_fset_same _ _ _ (by decide)]
    rfl
  · rw [fget_fset_addr _ _ _ _ (by decide), fget_fset_addr _ _ _ _ (by decide), State.setMode_fget, fget_fset_same _ _ _ (by decide)]
    rfl
  · rw [fget_fset_addr _ _ _ _ (by decide), fget_fset_addr _ _ _ _ (by decide), State.setMode_fget,
      fget_fset_apart _ _ _ _ (by decide) (by decide) (by decide), fget_fset_apart _ _ _ _ (by decide) (by decide) (by decide)]

/-- A wake action leads to its transition, whatever comes on with the rails. -/
theorem beginWake_acts (dst cause : Nat) (h0 : s.modeNow = 0) :
    KeepsStart (s.beginMode dst cause none) (s.beginWake dst cause)
      ∧ (s.beginWake dst cause).mode.trans = some { src := s.modeNow, dst := dst, cause := cause }
      ∧ (s.beginWake dst cause).fget R.PWR_MODE_TARGET = dst % 8
      ∧ (s.beginWake dst cause).fbit R.PWR_MODE_BUSY = true := by
  have hk : KeepsStart (s.beginMode dst cause none) (s.beginWake dst cause) := railsUp_keepsStart .wake _
  obtain ⟨hmode, htarget, hbusy, hnow⟩ := beginMode_acts dst cause s
  obtain ⟨htrans, hrd⟩ := hk.decided hbusy (by rw [hnow, h0]; decide)
  refine ⟨hk, ?_, ?_, ?_⟩
  · rw [htrans, hmode]
  · rw [← htarget]
    exact congrArg (fun w => wordField w 3 3) hrd
  · rw [← hbusy]
    exact congrArg (fun w => wordField w 6 1 != 0) hrd

/-- RESET_N rises in SENTINEL with a wake action held: it is taken now (R578). -/
theorem xResetNRelease_wakes (left xspiSafe : Bool) {dst cause : Nat} (hr : s.aon.resetHeld = true) (hs : s.inSentinel = true)
    (hw : s.mode.wakeHeld = some (dst, cause)) :
    (xResetNRelease left xspiSafe s).aon.resetHeld = false ∧ (xResetNRelease left xspiSafe s).boot.left = left
      ∧ (xResetNRelease left xspiSafe s).boot.xspiSafe = xspiSafe ∧ (xResetNRelease left xspiSafe s).mode.wakeHeld = none
      ∧ (xResetNRelease left xspiSafe s).mode.trans = some { src := s.modeNow, dst := dst, cause := cause }
      ∧ (xResetNRelease left xspiSafe s).fget R.PWR_MODE_TARGET = dst % 8
      ∧ (xResetNRelease left xspiSafe s).fbit R.PWR_MODE_BUSY = true := by
  have h0 : s.modeNow = 0 := by simp [State.inSentinel] at hs; exact hs.1
  rw [xResetNRelease_eq left xspiSafe hr, if_pos hs, hw]
  dsimp only
  obtain ⟨hk, htrans, htarget, hbusy⟩ :=
    beginWake_acts (s := (s.resetRisen left xspiSafe).setMode fun m => { m with wakeHeld := none }) dst cause h0
  exact ⟨hk.resetHeld.trans rfl, hk.left.trans rfl, hk.xspiSafe.trans rfl, hk.wakeHeld.trans rfl, htrans, htarget, hbusy⟩

/-! ## A reset that stays, and a collapse -/

theorem xStuckResetTimeout_acts (hr : s.aon.resetHeld = true) (hs : s.inSentinel = true → s.mode.wakeHeld.isSome = true) :
    (xStuckResetTimeout s).fbit R.PWR_RESET_STUCK_RESET = true ∧ (xStuckResetTimeout s).aon.twinAlive = false := by
  unfold xStuckResetTimeout
  rw [if_pos (by cases h : s.inSentinel <;> simp_all)]
  extract_lets a _
  have hp := drivePins_only { a with aon := { a.aon with twinAlive := false } }
  constructor
  · rw [hp.within.fbit _ (by decide)]
    exact fbit_fsetb_same s _ _ (by decide) rfl
  · rw [hp.aon]

theorem xStuckResetTimeout_idle (h : s.aon.resetHeld = false ∨ (s.inSentinel = true ∧ s.mode.wakeHeld = none)) :
    xStuckResetTimeout s = s := by
  unfold xStuckResetTimeout
  refine if_neg ?_
  rcases h with h | ⟨h, hw⟩
  · simp [h]
  · simp [h, hw]

theorem xCollapseResetTimeout_eq {below : Bool} (h : (s.aon.collapsed || below) = true) :
    xCollapseResetTimeout below s = { s.powerOn with aon := { s.powerOn.aon with collapsed := true } } := by
  unfold xCollapseResetTimeout
  rw [← Bool.not_or, h]
  rfl

theorem xCollapseResetTimeout_idle {below : Bool} (h : (s.aon.collapsed || below) = false) : xCollapseResetTimeout below s = s := by
  unfold xCollapseResetTimeout
  refine if_pos ?_
  rw [← Bool.not_or, h]
  rfl

/-- Settles O6: the effect of each of the five commands, then the settling of the levels after it. -/
theorem resetsAct : Obligations.ResetsAct := by
  unfold Obligations.ResetsAct
  refine ⟨?_, ?_, ?_, ?_, ?_, ?_, ?_, ?_, ?_, ?_, ?_, ?_⟩
  · intro s left xspi
    obtain ⟨hx, hdir, hwhy⟩ := xPowerOnReset_acts left xspi s
    refine ⟨s.after (xPowerOnReset left xspi s), rfl, ?_, ?_, ?_, ?_, ?_, ?_, ?_⟩
    · rw [after_boot, hx.part State.boot fun _ => rfl]
      rfl
    · rw [after_boot, hx.part State.boot fun _ => rfl]
      rfl
    · rw [after_fget _ _ _ (by decide), hx.fget _ (by decide)]
      exact powerOnSampled_cause left xspi s
    · rw [after_sup]; exact hdir
    · rw [after_sup]; exact hwhy
    · rw [after_aon, hx.part State.aon fun _ => rfl]
      rfl
    · rw [after_aon, hx.part State.aon fun _ => rfl]
      rfl
  · intro s hr hs
    obtain ⟨hheld, hmode, htarget, hbusy, htwin, hactive⟩ := xResetNAssert_acts hr hs
    refine ⟨s.after (xResetNAssert s), rfl, ?_, ?_, ?_, ?_, ?_, ?_⟩
    · rw [after_aon]; exact hheld
    · rw [after_fget _ _ _ (by decide)]; exact hmode
    · rw [after_fget _ _ _ (by decide)]; exact htarget
    · rw [after_fbit _ _ _ (by decide)]; exact hbusy
    · rw [after_aon]; exact htwin
    · rw [after_boot]; exact hactive
  · intro s hr hs
    have hx := xResetNAssert_sentinel hr hs
    refine ⟨s.after (xResetNAssert s), rfl, ?_, ?_, ?_, fun d _ => ?_⟩
    · rw [after_aon, hx.aon]
      rfl
    · rw [after_fget _ _ _ (by decide), hx.within.fget _ (by decide)]
      rfl
    · rw [after_mode, hx.mode]
      rfl
    · rw [after_domOn, hx.within.domOn (by decide)]
      rfl
  · intro s hr
    exact ⟨_, rfl, congrArg s.after (if_pos hr)⟩
  · intro s left xspi hr hs
    obtain ⟨hheld, hleft, hxspi, hhalt, hcause⟩ := xResetNRelease_acts left xspi hr hs
    refine ⟨s.after (xResetNRelease left xspi s), rfl, ?_⟩
    rw [after_aon, after_boot]
    exact ⟨hheld, hleft, hxspi, hhalt, hcause⟩
  · intro s left xspi hr hs hw
    have hx : xResetNRelease left xspi s = s.resetRisen left xspi := by
      rw [xResetNRelease_eq left xspi hr, if_pos hs, hw]
    refine ⟨s.after (xResetNRelease left xspi s), rfl, ?_⟩
    rw [after_aon, after_boot, after_mode, hx]
    exact ⟨rfl, rfl, rfl⟩
  · intro s left xspi dst cause hr hs hw
    obtain ⟨hheld, hleft, hxspi, hnone, htrans, htarget, hbusy⟩ := xResetNRelease_wakes left xspi hr hs hw
    refine ⟨s.after (xResetNRelease left xspi s), rfl, ?_⟩
    rw [after_aon, after_boot, after_mode, after_fget _ _ _ (by decide), after_fbit _ _ _ (by decide)]
    exact ⟨hheld, hleft, hxspi, hnone, htrans, htarget, hbusy⟩
  · intro s left xspi hr
    exact ⟨_, rfl, congrArg s.after (if_pos (by simp [hr]))⟩
  · intro s hr hs
    obtain ⟨hstuck, htwin⟩ := xStuckResetTimeout_acts hr hs
    refine ⟨s.after (xStuckResetTimeout s), rfl, ?_, ?_⟩
    · rw [after_fbit _ _ _ (by decide)]; exact hstuck
    · rw [after_aon]; exact htwin
  · intro s h
    exact ⟨_, rfl, congrArg s.after (xStuckResetTimeout_idle h)⟩
  · intro s below h
    exact ⟨_, rfl, congrArg s.after (xCollapseResetTimeout_idle h)⟩
  · intro s below h
    refine ⟨s.after (xCollapseResetTimeout below s), rfl, ?_, ?_, fun d _ => ?_⟩
    · rw [after_aon, xCollapseResetTimeout_eq h]
    · rw [after_aon, xCollapseResetTimeout_eq h]
      rfl
    · rw [after_domOn, xCollapseResetTimeout_eq h]
      rfl

end ResetsAct
end Sys2Proof.Machine

namespace Sys2Proof.Machine

section Segments

variable {s t u : State}

/-! ## Channels -/

theorem chan_setChan {c : Nat} (hc : c < s.seg.chans.length) (f : SegCh → SegCh) : (s.setChan c f).chan c = f (s.chan c) := by
  unfold State.chan State.setChan State.setSeg
  rw [nth_upd, if_pos ⟨rfl, hc⟩]

/-- A reading of channels that a change of one of them leaves alone. -/
theorem chan_setChan_part {α : Type} (g : SegCh → α) (d c : Nat) {f : SegCh → SegCh} (hf : ∀ q, g (f q) = g q) :
    g ((s.setChan d f).chan c) = g (s.chan c) := by
  unfold State.chan State.setChan State.setSeg
  rw [nth_upd]
  split
  · exact hf _
  · rfl

theorem setChan_latched (c e : Nat) (f : SegCh → SegCh) (s : State) : (s.setChan c f).chanLatched e = s.chanLatched e := rfl

theorem setChan_fbit (c : Nat) (f : SegCh → SegCh) (g : Fld) (s : State) : (s.setChan c f).fbit g = s.fbit g := rfl

theorem setChan_length (c : Nat) (f : SegCh → SegCh) (s : State) : (s.setChan c f).seg.chans.length = s.seg.chans.length := upd_length f _ c

/-! ## A fault that is confirmed -/

/-- The state without the list of faults that wait for their report, besides what goes on over the rings and the fault pins. -/
def State.sansReport (s : State) : State := { s.sansIo.sansPins with seg := { s.seg with unreported := [] } }

/-- SEG_COUNT, besides the registers of the record of a fault. -/
abbrev countReg (a : Nat) : Prop := reportReg a ∨ a = 0x80018

/-- Only what the report of a confirmed fault changes. -/
abbrev OnlyConfirmed := Within State.sansReport countReg

theorem OnlyReport.confirmed (h : OnlyReport s t) : OnlyConfirmed s t := h.mono (fun _ => rfl) fun _ => Or.inl

theorem segConfirmed_only (c kind : Nat) (s : State) : OnlyConfirmed s (s.segConfirmed c kind) := by
  unfold State.segConfirmed State.segReport
  extract_lets a
  have ha : OnlyConfirmed s a :=
    .trans (.fadd (.refl s) (Or.inr rfl)) (OnlyReport.confirmed (OnlyLevels.report (drivePins_only _)))
  clear_value a
  have he : OnlyReport a (a.eventDev 0x08 0x0070 (u8 c ++ u8 kind)) := (eventDev_io _ _ _ a).report
  split
  · exact ha.trans (.parts rfl rfl)
  · exact ha.trans (OnlyReport.confirmed (he.trans (raise_report rfl (by decide) (by decide) c kind _)))

theorem segConfirmed_chans (d : Nat) (f : SegBank → SegBank) (c kind : Nat) (s : State) :
    ((s.setBank d f).segConfirmed c kind).seg.chans = s.seg.chans :=
  (segConfirmed_only c kind (s.setBank d f)).part (fun x => x.seg.chans) fun _ => rfl

theorem segConfirmed_chan (d : Nat) (f : SegBank → SegBank) (c kind e : Nat) (s : State) :
    ((s.setBank d f).segConfirmed c kind).chan e = s.chan e := by
  unfold State.chan; rw [segConfirmed_chans]

theorem segConfirmed_latched (d : Nat) (f : SegBank → SegBank) (c kind : Nat) {e : Nat} (he : e < 192) (s : State) :
    ((s.setBank d f).segConfirmed c kind).chanLatched e = s.chanLatched e := by
  unfold State.chanLatched
  rw [(segConfirmed_only c kind _).fget _ (by simp only [R.SEG_FAULT_CH]; unfold countReg reportReg ioReg; omega)]
  rfl

theorem segConfirmed_fault (d : Nat) (f : SegBank → SegBank) (c kind : Nat) (s : State) :
    ((s.setBank d f).segConfirmed c kind).fbit R.SEG_STATUS_FAULT = s.fbit R.SEG_STATUS_FAULT :=
  (segConfirmed_only c kind _).fbit _ (by decide)

/-- A pulse that has ended, with its pin voltage, stays as it is. -/
structure KeepsPulses (s t : State) : Prop where
  pulse : ∀ c, (t.chan c).pulse = (s.chan c).pulse
  mvEnd : ∀ c, (t.chan c).mvEnd = (s.chan c).mvEnd
  vEnds : ∀ c, (t.chan c).vEnds = (s.chan c).vEnds

theorem KeepsPulses.refl (s : State) : KeepsPulses s s := ⟨fun _ => rfl, fun _ => rfl, fun _ => rfl⟩

theorem KeepsPulses.trans (h : KeepsPulses s t) (k : KeepsPulses t u) : KeepsPulses s u :=
  ⟨fun c => (k.pulse c).trans (h.pulse c), fun c => (k.mvEnd c).trans (h.mvEnd c), fun c => (k.vEnds c).trans (h.vEnds c)⟩

theorem keepsPulses_of_chans (h : t.seg.chans = s.seg.chans) : KeepsPulses s t := by
  have hc : ∀ c, t.chan c = s.chan c := fun c => by unfold State.chan; rw [h]
  exact ⟨fun c => by rw [hc], fun c => by rw [hc], fun c => by rw [hc]⟩

theorem keepsPulses_setChan (d : Nat) {f : SegCh → SegCh} (hp : ∀ q, (f q).pulse = q.pulse) (hm : ∀ q, (f q).mvEnd = q.mvEnd)
    (hv : ∀ q, (f q).vEnds = q.vEnds) (s : State) : KeepsPulses s (s.setChan d f) :=
  ⟨fun c => chan_setChan_part SegCh.pulse d c hp, fun c => chan_setChan_part SegCh.mvEnd d c hm,
    fun c => chan_setChan_part SegCh.vEnds d c hv⟩

/-- The record of a confirmed fault: its bit and FAULT. -/
def State.segLatched (s : State) (c : Nat) : State :=
  (s.fset (R.SEG_FAULT_CH (c / 32)) (maskSet (s.fget (R.SEG_FAULT_CH (c / 32))) (c % 32) true)).fsetb R.SEG_STATUS_FAULT true

theorem segLatched_seg (c : Nat) (s : State) : (s.segLatched c).seg = s.seg := by
  unfold State.segLatched
  rw [State.fsetb_seg, State.fset_seg]

theorem segLatched_latched (c : Nat) (s : State) : (s.segLatched c).chanLatched c = true := by
  unfold State.segLatched State.chanLatched State.fsetb
  rw [fget_fset_addr _ _ _ _ (by simp only [R.SEG_FAULT_CH, R.SEG_STATUS_FAULT]; omega),
    fget_fset_same s (R.SEG_FAULT_CH (c / 32)) _ (by simp [R.SEG_FAULT_CH]),
    show (R.SEG_FAULT_CH (c / 32)).width = 32 from rfl, bitOf_eq_testBit, Nat.testBit_mod_two_pow, ← bitOf_eq_testBit, bitOf_maskSet,
    if_pos rfl, Bool.and_true, decide_eq_true_eq]
  omega

theorem segLatched_fault (c : Nat) (s : State) : (s.segLatched c).fbit R.SEG_STATUS_FAULT = true := fbit_fsetb_same _ _ _ (by decide) rfl

theorem segConfirm_eq (c kind : Nat) (s : State) :
    s.segConfirm c kind =
      if (s.chan c).off then s
      else if kind == 2 && (s.bank (c / 16)).keep && s.chanLatched c then s
      else (((s.segLatched c).setChan c fun q =>
        { q with off := q.off || !(kind == 2 && (s.bank (c / 16)).keep), openCnt := 0, shortCnt := 0, curFails := 0 }).setBank (c / 16)
          fun q => { q with recalc := true }).segConfirmed c kind := rfl

theorem segConfirm_keepsPulses (c kind : Nat) (s : State) : KeepsPulses s (s.segConfirm c kind) := by
  rw [segConfirm_eq]
  split
  · exact .refl s
  split
  · exact .refl s
  have hl : KeepsPulses s (s.segLatched c) := keepsPulses_of_chans (by rw [segLatched_seg])
  generalize s.segLatched c = u at hl
  refine .trans (hl.trans ?_) (keepsPulses_of_chans (segConfirmed_chans _ _ c kind _))
  refine keepsPulses_setChan c ?_ ?_ ?_ u
  all_goals exact fun _ => rfl

theorem neighbourCheck_keepsPulses (c : Nat) (m : Nat × Nat × Nat) (s : State) : KeepsPulses s (s.neighbourCheck c m) := by
  unfold State.neighbourCheck
  extract_lets lo hi a on off bad n
  split
  · exact .refl s
  have ha : KeepsPulses s a := keepsPulses_of_chans rfl
  clear_value a
  split
  · refine .trans (.trans (ha.trans ?_) (segConfirm_keepsPulses lo 4 _)) (segConfirm_keepsPulses hi 4 _)
    exact keepsPulses_of_chans rfl
  · exact ha.trans (keepsPulses_of_chans rfl)

/-- A fault other than LED_SHORT that is confirmed latches its bit and turns the channel off (R480). -/
theorem segConfirm_latches {c kind : Nat} (hc : c < 192) (hl : s.seg.chans.length = 192) (hoff : (s.chan c).off = false) (hk : kind ≠ 2) :
    (s.segConfirm c kind).chanLatched c = true ∧ ((s.segConfirm c kind).chan c).off = true
      ∧ ((s.segConfirm c kind).chan c).shortCnt = 0 ∧ (s.segConfirm c kind).fbit R.SEG_STATUS_FAULT = true := by
  rw [segConfirm_eq, if_neg (by simp [hoff]), if_neg (by simp [hk])]
  have hlen : (s.segLatched c).seg.chans.length = 192 := by rw [segLatched_seg, hl]
  have hlatch := segLatched_latched c s
  have hfault := segLatched_fault c s
  generalize s.segLatched c = u at *
  have hchan := chan_setChan (s := u) (c := c) (by rw [hlen]; exact hc) fun q =>
    { q with off := q.off || !(kind == 2 && (s.bank (c / 16)).keep), openCnt := 0, shortCnt := 0, curFails := 0 }
  refine ⟨?_, ?_, ?_, ?_⟩
  · rw [segConfirmed_latched _ _ c kind hc, setChan_latched]
    exact hlatch
  · rw [segConfirmed_chan, hchan]
    simp [hk]
  · rw [segConfirmed_chan, hchan]
  · rw [segConfirmed_fault, setChan_fbit]
    exact hfault

end Segments
end Sys2Proof.Machine

namespace Sys2Proof.Machine

section Pulses

variable {s t u : State}

theorem after_chan (s t : State) (c : Nat) : (s.after t).chan c = t.chan c := by unfold State.chan; rw [after_seg]

theorem after_bank (s t : State) (b : Nat) : (s.after t).bank b = t.bank b := by unfold State.bank; rw [after_seg]

theorem after_chanLatched (s t : State) {c : Nat} (hc : c < 192) : (s.after t).chanLatched c = t.chanLatched c := by
  unfold State.chanLatched; rw [after_fget _ _ _ (by simp only [R.SEG_FAULT_CH]; omega)]

theorem shape_chans (h : s.shape) : s.seg.chans.length = 192 := by
  obtain ⟨-, -, -, -, -, -, -, hc, -⟩ := h
  exact hc

theorem shape_banks (h : s.shape) : s.seg.banks.length = 12 := by
  obtain ⟨-, -, -, -, -, -, -, -, hb, -⟩ := h
  exact hb

/-! ## A pulse -/

/-- A pulse as it starts: the channel with its duty and its scaled current latched (R462, R477). -/
def State.chanStarted (s : State) (c : Nat) (q : SegCh) : SegCh :=
  { q with pulse := true, duty := s.pulseDuty c, noDiag := q.noDiagOut, cur := nth (s.bank (c / 16)).curT (c % 16) * s.seg.lsNow / 65536,
           sumDuty := q.sumDuty + s.pulseDuty c }

theorem xSegPulseStart_eq (c : Nat) (s : State) :
    xSegPulseStart c s = if !s.chanOn c || decide (s.pulseDuty c = 0) then s else s.setChan c (s.chanStarted c) := rfl

/-- A channel as its pulse ends, and one whose pulse was long enough to be judged (R475, R484). -/
def SegCh.ended (mv : Nat) (q : SegCh) : SegCh := { q with pulse := false, mvEnd := mv }
def SegCh.sampled (mv now : Nat) (q : SegCh) : SegCh :=
  { q with vEnds := (q.vEnds.filter fun v => decide (now - v.2 ≤ 2500000)) ++ [(mv, now)] }

/-- What a pulse's end does before the neighbours are checked. -/
def State.pulseEnded (s : State) (c mv : Nat) (lost : Bool) : State :=
  let u := s.setChan c (SegCh.ended mv)
  if (s.chan c).duty < 80 then u
  else if (s.chan c).noDiag then u.setChan c (SegCh.sampled mv s.ticks)
  else (u.setChan c (SegCh.sampled mv s.ticks)).pulseJudge c mv lost

theorem xSegPulseEnd_eq (c mv : Nat) (lost : Bool) (nbs : List (Nat × Nat × Nat)) (hp : (s.chan c).pulse = true) :
    xSegPulseEnd c mv lost nbs s = nbs.foldl (fun u m => u.neighbourCheck c m) (s.pulseEnded c mv lost) := by
  unfold xSegPulseEnd
  rw [if_neg (by simp [hp])]
  rfl

theorem pulseJudge_keepsPulses (c mv : Nat) (lost : Bool) (s : State) : KeepsPulses s (s.pulseJudge c mv lost) := by
  unfold State.pulseJudge
  extract_lets opn short a b
  have ha : KeepsPulses s a := by
    refine keepsPulses_setChan c ?_ ?_ ?_ s
    all_goals exact fun _ => rfl
  clear_value a
  have hb : KeepsPulses s b := by
    unfold b
    split
    · exact ha.trans (segConfirm_keepsPulses c 1 a)
    · exact ha
  clear_value b
  split
  · exact hb.trans (segConfirm_keepsPulses c 2 b)
  · exact hb

variable {c : Nat}

theorem chan_ended (hc : c < s.seg.chans.length) (mv : Nat) : (s.setChan c (SegCh.ended mv)).chan c = (s.chan c).ended mv := chan_setChan hc _

theorem chan_sampled (hc : c < s.seg.chans.length) (mv now : Nat) :
    ((s.setChan c (SegCh.ended mv)).setChan c (SegCh.sampled mv now)).chan c = ((s.chan c).ended mv).sampled mv now := by
  rw [chan_setChan (by rw [setChan_length]; exact hc), chan_ended hc]

/-- However it is judged, a pulse that ends is over, with its voltage kept. -/
theorem pulseEnded_chan (hc : c < s.seg.chans.length) (mv : Nat) (lost : Bool) :
    ((s.pulseEnded c mv lost).chan c).pulse = false ∧ ((s.pulseEnded c mv lost).chan c).mvEnd = mv
      ∧ (80 ≤ (s.chan c).duty → (mv, s.ticks) ∈ ((s.pulseEnded c mv lost).chan c).vEnds) := by
  have hs := chan_sampled hc mv s.ticks
  have hmem : (mv, s.ticks) ∈ (((s.chan c).ended mv).sampled mv s.ticks).vEnds := List.mem_append_right _ (List.mem_singleton_self _)
  unfold State.pulseEnded
  dsimp only
  split
  · rw [chan_ended hc]
    exact ⟨rfl, rfl, fun h => by omega⟩
  split
  · rw [hs]
    exact ⟨rfl, rfl, fun _ => hmem⟩
  · have hk := pulseJudge_keepsPulses c mv lost ((s.setChan c (SegCh.ended mv)).setChan c (SegCh.sampled mv s.ticks))
    rw [hk.pulse, hk.mvEnd, hk.vEnds, hs]
    exact ⟨rfl, rfl, fun _ => hmem⟩

theorem xSegPulseEnd_chan (hc : c < s.seg.chans.length) (mv : Nat) (lost : Bool) (nbs : List (Nat × Nat × Nat))
    (hp : (s.chan c).pulse = true) :
    ((xSegPulseEnd c mv lost nbs s).chan c).pulse = false ∧ ((xSegPulseEnd c mv lost nbs s).chan c).mvEnd = mv
      ∧ (80 ≤ (s.chan c).duty → (mv, s.ticks) ∈ ((xSegPulseEnd c mv lost nbs s).chan c).vEnds) := by
  rw [xSegPulseEnd_eq c mv lost nbs hp]
  have hk : KeepsPulses (s.pulseEnded c mv lost) (nbs.foldl (fun u m => u.neighbourCheck c m) (s.pulseEnded c mv lost)) :=
    foldl_rel .refl .trans _ _ (fun u m _ => neighbourCheck_keepsPulses c m u) _
  rw [hk.pulse, hk.mvEnd, hk.vEnds]
  exact pulseEnded_chan hc mv lost

/-- A pulse under 2 µs, or one that is not to be judged, counts for neither fault (R478). -/
theorem pulseEnded_unjudged (hc : c < s.seg.chans.length) (mv : Nat) (lost : Bool) (h : (s.chan c).duty < 80 ∨ (s.chan c).noDiag = true) :
    ((s.pulseEnded c mv lost).chan c).openCnt = (s.chan c).openCnt ∧ ((s.pulseEnded c mv lost).chan c).shortCnt = (s.chan c).shortCnt
      ∧ ((s.pulseEnded c mv lost).chan c).off = (s.chan c).off := by
  unfold State.pulseEnded
  dsimp only
  split
  · rw [chan_ended hc]
    exact ⟨rfl, rfl, rfl⟩
  · rename_i hd
    rw [if_pos (h.resolve_left hd), chan_sampled hc]
    exact ⟨rfl, rfl, rfl⟩

/-- The pulse that completes a channel's count of OPEN confirms the fault (R478, R480). -/
theorem pulseJudge_open (hc : c < 192) (hl : s.seg.chans.length = 192) {mv : Nat} (hoff : (s.chan c).off = false)
    (hmv : mv < s.fget R.SEG_DIAG_A_OPEN_MV) (hn : s.nConf ≤ (s.chan c).openCnt + 1) :
    (s.pulseJudge c mv true).chanLatched c = true ∧ ((s.pulseJudge c mv true).chan c).off = true := by
  unfold State.pulseJudge
  extract_lets opn short a b
  have hopn : opn = true := by simp [opn, hmv]
  have ha : a.chan c = { s.chan c with openCnt := (s.chan c).openCnt + 1, shortCnt := if short then (s.chan c).shortCnt + 1 else 0 } := by
    unfold a
    rw [chan_setChan (by rw [hl]; exact hc), hopn]
    rfl
  have hla : a.seg.chans.length = 192 := (setChan_length c _ s).trans hl
  have hna : a.nConf = s.nConf := rfl
  clear_value a
  obtain ⟨hlatch, hoffb, hshort, -⟩ := segConfirm_latches (s := a) (kind := 1) hc hla (by rw [ha]; exact hoff) (by decide)
  have hb : b = a.segConfirm c 1 := if_pos (by rw [hna, ha]; exact hn)
  clear_value b
  subst hb
  rw [if_neg (by rw [hshort]; unfold State.nConf; omega)]
  exact ⟨hlatch, hoffb⟩

theorem xSegOvercurrent_eq (hp : (s.chan c).pulse = true) :
    xSegOvercurrent c s = (s.setChan c fun q => { q with pulse := false }).segConfirm c 3 := by
  unfold xSegOvercurrent
  rw [if_neg (by simp [hp])]

end Pulses
end Sys2Proof.Machine

namespace Sys2Proof.Machine

section SegRegisters

variable {s t u : State}

/-! ## Writes to the registers of SEG -/

theorem segOn_of_blockOff {a : Nat} (ha : a / 0x10000 = 8) (h : s.blockOff a = false) : s.domOn 11 = true := by
  unfold State.blockOff ownerDomain at h
  rw [ha] at h
  simpa using h

/-- A write to a block that is off, or with HOST off, has no effect of its own. -/
theorem barWrite_refused {a : Nat} (act : State → State) (h : s.domOn 5 = false ∨ s.blockOff a = true) :
    s.barWrite a act = if s.domOn 5 = true then (s.offAccess a true).idleRestart else s := by
  cases h5 : s.domOn 5 with
  | false => simp [State.barWrite, h5]
  | true =>
    rw [if_pos rfl]
    exact barWrite_off s a act h5 (h.resolve_left (by simp [h5]))

/-- Recovery touches FAULT, the bit of fault 34 and the levels. -/
theorem segRecovered_only (s : State) : Within State.sansPins (fun a => a = 0x80008 ∨ a = 0x90000 ∨ a = 0x90010) s s.segRecovered := by
  unfold State.segRecovered State.clearFault
  extract_lets any a
  have ha : Within State.sansPins (fun a => a = 0x80008 ∨ a = 0x90000 ∨ a = 0x90010) s a := .fsetb (.refl s) (.inl rfl)
  clear_value a
  have hl : ∀ u : State, Within State.sansPins (fun a => a = 0x80008 ∨ a = 0x90000 ∨ a = 0x90010) u u.drivePins := fun u =>
    (drivePins_only u).within.mono (fun _ => rfl) fun _ h => .inr (.inl h)
  refine .trans (.ite ha (ha.trans (.ite ?_ (.refl a)))) (hl _)
  exact .trans (.fsetb (.refl a) (.inr (.inr rfl))) (hl _)

/-! ### SEG_CH_CLEAR -/

theorem bitOf_foldl_maskSet_false (l : List Nat) (m k : Nat) :
    bitOf (l.foldl (fun m i => maskSet m i false) m) k = (bitOf m k && !decide (k ∈ l)) := by
  induction l generalizing m with
  | nil => simp
  | cons i l ih =>
    rw [List.foldl_cons, ih, bitOf_maskSet]
    by_cases h : k = i <;> simp [h]

/-- The state without the segments. -/
def State.sansSeg (s : State) : State := { s with seg := {} }

theorem setSeg_only (f : SegSt → SegSt) (s : State) : Within State.sansSeg (fun _ => False) s (s.setSeg f) := .parts rfl rfl

theorem clearChan_only (c : Nat) (s : State) : Within State.sansSeg (fun _ => False) s (clearChan c s) := by
  unfold clearChan
  extract_lets a b
  have ha : Within State.sansSeg (fun _ => False) s a := setSeg_only _ s
  have hb : Within State.sansSeg (fun _ => False) s b := ha.trans (setSeg_only _ a)
  exact hb.trans (setSeg_only _ b)

theorem xSegChannelClear_bits {w : Nat} (hw : w < 6) (mask : Nat) (hd : s.domOn 11 = true) {k : Nat} (hk : k < 32) :
    bitOf ((xSegChannelClear w (mask % 2 ^ 32) s).fget (R.SEG_FAULT_CH w)) k
      = (bitOf (s.fget (R.SEG_FAULT_CH w)) k && !bitOf mask k) := by
  unfold xSegChannelClear
  rw [if_neg (by simp [hd])]
  extract_lets cs a
  have hcs : (k ∈ cs) ↔ bitOf mask k = true ∧ bitOf (s.fget (R.SEG_FAULT_CH w)) k = true := by
    simp only [cs, maskList, List.mem_filter, List.mem_range]
    rw [bitOf_eq_testBit (mask % 2 ^ 32), Nat.testBit_mod_two_pow, ← bitOf_eq_testBit, decide_eq_true hk, Bool.true_and]
    simp only [hk, true_and]
  have ha : bitOf (a.fget (R.SEG_FAULT_CH w)) k = (bitOf (s.fget (R.SEG_FAULT_CH w)) k && !bitOf mask k) := by
    unfold a
    rw [fget_fset_same s (R.SEG_FAULT_CH w) _ (by simp [R.SEG_FAULT_CH]), show (R.SEG_FAULT_CH w).width = 32 from rfl, bitOf_eq_testBit,
      Nat.testBit_mod_two_pow, ← bitOf_eq_testBit, bitOf_foldl_maskSet_false, decide_eq_true hk, Bool.true_and]
    cases hm : bitOf mask k <;> cases hs : bitOf (s.fget (R.SEG_FAULT_CH w)) k <;> simp [hcs, hm, hs]
  rw [(segRecovered_only _).fget _ (by simp only [R.SEG_FAULT_CH]; omega),
    (Within.overList clearChan _ (fun c _ u => clearChan_only c u) a).fget _ id]
  exact ha

/-! ### SEG_BANK_CTRL -/

theorem bank_setBank {b : Nat} (hb : b < s.seg.banks.length) (f : SegBank → SegBank) : (s.setBank b f).bank b = f (s.bank b) := by
  unfold State.bank State.setBank State.setSeg
  rw [nth_upd, if_pos ⟨rfl, hb⟩]

/-- RUN of a bank: the bit, its copy in RUNNING, and the start that waits for a boundary (R467). -/
theorem xSegBankRun_acts {b : Nat} (hb : b < 12) (hl : s.seg.banks.length = 12) (on : Bool) (hd : s.domOn 11 = true) :
    (xSegBankRun b on s).fbit (R.SEG_BANK_CTRL_RUN b) = on ∧ bitOf ((xSegBankRun b on s).fget R.SEG_STATUS_RUNNING) b = on
      ∧ ((xSegBankRun b on s).bank b).going = (s.bank b).going
      ∧ (on = true → s.fbit (R.SEG_BANK_CTRL_RUN b) = false → ((xSegBankRun b on s).bank b).start = true) := by
  unfold xSegBankRun
  rw [if_neg (by simp [hd])]
  extract_lets was a
  have hrun : a.fbit (R.SEG_BANK_CTRL_RUN b) = on := by
    unfold a State.fbit
    rw [fget_fset_addr _ _ _ _ (by simp only [R.SEG_BANK_CTRL_RUN, R.SEG_STATUS_RUNNING]; omega)]
    exact fbit_fsetb_same s (R.SEG_BANK_CTRL_RUN b) on (by simp [R.SEG_BANK_CTRL_RUN]) rfl
  have hrunning : bitOf (a.fget R.SEG_STATUS_RUNNING) b = on := by
    unfold a
    rw [fget_fset_same _ _ _ (by decide), show R.SEG_STATUS_RUNNING.width = 12 from rfl, bitOf_eq_testBit, Nat.testBit_mod_two_pow,
      decide_eq_true hb, Bool.true_and, ← bitOf_eq_testBit, bitOf_maskSet, if_pos rfl]
  have hseg : a.seg = s.seg := by unfold a; rw [State.fset_seg, State.fsetb_seg]
  clear_value a
  have hbank : a.bank b = s.bank b := by unfold State.bank; rw [hseg]
  split
  · have hset : (a.setBank b fun q => { q with start := true }).bank b = { a.bank b with start := true } :=
      bank_setBank (by rw [hseg, hl]; exact hb) _
    rw [hset, hbank]
    exact ⟨hrun, hrunning, rfl, fun _ _ => rfl⟩
  · rename_i h
    rw [hbank]
    exact ⟨hrun, hrunning, rfl, fun h1 h2 => absurd (by simp [h1, was, h2]) h⟩

/-! ### SEG_RAIL_CFG -/

/-- The state without the supplies and the records of the rails of SEG. -/
def State.sansRails (s : State) : State := { s.sansSup with seg := { s.seg with rails := [] } }

/-- What a rail's EN sets going: the record of the rail and its PMBus jobs. -/
theorem segRailJobs_only (r : Nat) (fresh on : Bool) (s : State) :
    Within State.sansRails railReg s
      (if fresh then (s.setSegRail r fun q => { q with justOn := true, tries := 0 }).segJobs r (.segMode r)
        else if on then s
        else s.setSup fun u => { u with jobs := u.jobs.filter fun j => !j.ofSeg r }) := by
  refine .ite ?_ (.ite (.refl s) (.parts rfl rfl))
  have h : Within State.sansRails railReg s (s.setSegRail r fun q => { q with justOn := true, tries := 0 }) := .parts rfl rfl
  exact h.trans ((pmbusAdd_rails _ _).mono (fun _ => rfl) fun _ h => h)

/-- The record of a rail's EN: the bit, and ERR cleared. -/
def State.railEnabled (s : State) (r : Nat) (on : Bool) : State :=
  (s.fsetb (R.SEG_RAIL_CFG_EN r) on).fsetb (R.SEG_RAIL_STAT_ERR r) false

theorem railEnabled_en (r : Nat) (on : Bool) (s : State) : (s.railEnabled r on).fbit (R.SEG_RAIL_CFG_EN r) = on := by
  unfold State.railEnabled State.fbit State.fsetb
  rw [fget_fset_addr _ _ _ _ (by simp only [R.SEG_RAIL_CFG_EN, R.SEG_RAIL_STAT_ERR]; omega)]
  exact fbit_fsetb_same s (R.SEG_RAIL_CFG_EN r) on (by simp [R.SEG_RAIL_CFG_EN]) rfl

theorem railEnabled_err (r : Nat) (on : Bool) (s : State) : (s.railEnabled r on).fbit (R.SEG_RAIL_STAT_ERR r) = false :=
  fbit_fsetb_same _ (R.SEG_RAIL_STAT_ERR r) false (by simp [R.SEG_RAIL_STAT_ERR]) rfl

theorem railEnabled_seg (r : Nat) (on : Bool) (s : State) : (s.railEnabled r on).seg = s.seg := by
  unfold State.railEnabled; rw [State.fsetb_seg, State.fsetb_seg]

/-- After the record of EN: RAIL_FAULT and the recovery, the rail's jobs and the levels. -/
abbrev railAfterReg (a : Nat) : Prop := a = 0x80008 ∨ a = 0x90000 ∨ a = 0x90010 ∨ railReg a

theorem xSegRailEnable_only (r : Nat) (on : Bool) (hd : s.domOn 11 = true) :
    Within (fun x => x.sansRails.sansPins) railAfterReg (s.railEnabled r on) (xSegRailEnable r on s) := by
  unfold xSegRailEnable
  rw [if_neg (by simp [hd])]
  extract_lets fresh a b
  have hb : Within (fun x => x.sansRails.sansPins) railAfterReg a b :=
    .trans (.fsetb (.refl a) (.inl rfl)) ((segRecovered_only _).mono (fun _ => rfl) fun _ h => by unfold railAfterReg; omega)
  exact hb.trans ((segRailJobs_only r fresh on b).mono (fun _ => rfl) fun _ h => .inr (.inr (.inr h)))

/-- EN of a rail: the bit, and ERR cleared by it (R475). -/
theorem xSegRailEnable_acts {r : Nat} (hr : r < 4) (on : Bool) (hd : s.domOn 11 = true) :
    (xSegRailEnable r on s).fbit (R.SEG_RAIL_CFG_EN r) = on ∧ (xSegRailEnable r on s).fbit (R.SEG_RAIL_STAT_ERR r) = false
      ∧ (xSegRailEnable r on s).seg.chans = s.seg.chans := by
  have h := xSegRailEnable_only r on hd
  refine ⟨?_, ?_, ?_⟩
  · rw [h.fbit _ (by simp only [R.SEG_RAIL_CFG_EN]; unfold railAfterReg railReg; omega)]
    exact railEnabled_en r on s
  · rw [h.fbit _ (by simp only [R.SEG_RAIL_STAT_ERR]; unfold railAfterReg railReg; omega)]
    exact railEnabled_err r on s
  · rw [h.part (fun x => x.seg.chans) fun _ => rfl, railEnabled_seg]

/-! ### The hold of the reset -/

theorem xSegBlankRelease_idle (h : s.seg.resetOff = false ∨ bitOf s.pins.raw 2 = true ∨ bitOf s.pins.raw 3 = true) :
    xSegBlankRelease s = s := by
  unfold xSegBlankRelease
  refine if_neg ?_
  rcases h with h | h | h <;> simp [h]

theorem xSegBlankRelease_seg (hr : s.seg.resetOff = true) (h2 : bitOf s.pins.raw 2 = false) (h3 : bitOf s.pins.raw 3 = false) :
    (xSegBlankRelease s).seg = { s.seg with resetOff := false } := by
  unfold xSegBlankRelease
  rw [if_pos (by simp [hr, h2, h3])]
  rfl

end SegRegisters

/-! ## The commands of the segments -/

/-- Settles O18: a pulse's start and end by its channel alone, a confirmed fault by its latch, each write by its register. -/
theorem segmentChannelsAct : Obligations.SegmentChannelsAct := by
  unfold Obligations.SegmentChannelsAct
  refine ⟨?_, ?_, ?_, ?_, ?_, ?_, ?_, ?_, ?_, ?_, ?_, ?_, ?_, ?_, ?_, ?_, ?_⟩
  · intro s c hs hon hduty
    have hx : xSegPulseStart c s = s.setChan c (s.chanStarted c) := by rw [xSegPulseStart_eq, if_neg (by simp [hon, hduty])]
    have hc : (s.setChan c (s.chanStarted c)).chan c = s.chanStarted c (s.chan c) := chan_setChan (by rw [shape_chans hs]; exact c.isLt) _
    refine ⟨s.after (xSegPulseStart c s), rfl, ?_⟩
    rw [after_chan, after_seg, hx, hc]
    exact ⟨rfl, rfl, rfl, rfl⟩
  · intro s c h
    refine ⟨_, rfl, congrArg s.after ?_⟩
    rw [xSegPulseStart_eq]
    exact if_pos (by simpa using h)
  · intro s c mv lost nbs hs hp
    refine ⟨s.after (xSegPulseEnd c mv lost nbs s), rfl, ?_⟩
    rw [after_chan]
    exact xSegPulseEnd_chan (by rw [shape_chans hs]; exact c.isLt) mv lost nbs hp
  · intro s c mv lost hs hp h
    refine ⟨s.after (xSegPulseEnd c mv lost [] s), rfl, ?_⟩
    rw [after_chan, xSegPulseEnd_eq c mv lost [] hp]
    exact pulseEnded_unjudged (by rw [shape_chans hs]; exact c.isLt) mv lost h
  · intro s c mv hs hp hd hn hoff hmv hconf
    have hlen : c.val < s.seg.chans.length := by rw [shape_chans hs]; exact c.isLt
    obtain ⟨hpulse, -, -⟩ := pulseEnded_chan hlen mv true
    have he : s.pulseEnded c mv true = ((s.setChan c (SegCh.ended mv)).setChan c (SegCh.sampled mv s.ticks)).pulseJudge c mv true := by
      unfold State.pulseEnded
      dsimp only
      rw [if_neg (by omega), if_neg (by simp [hn])]
    have hch := chan_sampled hlen mv s.ticks
    have hlatch := pulseJudge_open (s := (s.setChan c (SegCh.ended mv)).setChan c (SegCh.sampled mv s.ticks)) c.isLt
      (by rw [setChan_length, setChan_length, shape_chans hs]) (mv := mv) (by rw [hch]; exact hoff) hmv (by rw [hch]; exact hconf)
    refine ⟨s.after (xSegPulseEnd c mv true [] s), rfl, ?_⟩
    rw [after_chan, after_chanLatched _ _ c.isLt, xSegPulseEnd_eq c mv true [] hp, List.foldl_nil]
    refine ⟨hpulse, ?_⟩
    rw [he]
    exact hlatch
  · intro s c mv lost nbs hp
    refine ⟨_, rfl, congrArg s.after ?_⟩
    exact if_pos (by simp [hp])
  · intro s c hs hp hoff
    have hlen : c.val < s.seg.chans.length := by rw [shape_chans hs]; exact c.isLt
    have hch : (s.setChan c fun q => { q with pulse := false }).chan c = { s.chan c with pulse := false } := chan_setChan hlen _
    obtain ⟨hlatch, hoff', -, hfault⟩ := segConfirm_latches (s := s.setChan c fun q => { q with pulse := false }) (kind := 3) c.isLt
      (by rw [setChan_length, shape_chans hs]) (by rw [hch]; exact hoff) (by decide)
    refine ⟨s.after (xSegOvercurrent c s), rfl, ?_⟩
    rw [after_chan, after_chanLatched _ _ c.isLt, after_fbit _ _ _ (by decide), xSegOvercurrent_eq hp,
      (segConfirm_keepsPulses c 3 _).pulse, hch]
    exact ⟨rfl, hoff', hlatch, hfault⟩
  · intro s c hs hp hoff
    have hlen : c.val < s.seg.chans.length := by rw [shape_chans hs]; exact c.isLt
    have hch : (s.setChan c fun q => { q with pulse := false }).chan c = { s.chan c with pulse := false } := chan_setChan hlen _
    have hx : xSegOvercurrent c s = s.setChan c fun q => { q with pulse := false } := by
      rw [xSegOvercurrent_eq hp, segConfirm_eq, if_pos (by rw [hch]; exact hoff)]
    refine ⟨s.after (xSegOvercurrent c s), rfl, ?_⟩
    rw [after_chan, after_fget _ _ _ (by simp only [R.SEG_FAULT_CH]; omega), hx, hch]
    exact ⟨rfl, hoff, rfl⟩
  · intro s c hp
    exact ⟨_, rfl, congrArg s.after (if_pos (by simp [hp]))⟩
  · intro s w mask h5 hb
    refine ⟨s.after (s.barWrite (0x80050 + 4 * w.val) fun s => xSegChannelClear w.val (mask % 2 ^ 32) s), rfl, fun k hk => ?_⟩
    rw [after_fget _ _ _ (by simp only [R.SEG_FAULT_CH]; omega), barWrite_on _ _ _ h5 hb,
      idleRestart_fget _ _ (by simp only [R.SEG_FAULT_CH]; omega)]
    exact xSegChannelClear_bits w.isLt mask (segOn_of_blockOff (by omega) hb) hk
  · intro s b on hs h5 hb
    obtain ⟨hrun, hrunning, hgoing, hstart⟩ := xSegBankRun_acts b.isLt (shape_banks hs) on (segOn_of_blockOff (by omega) hb)
    refine ⟨s.after (s.barWrite (0x80100 + 0x10 * b.val) fun s => xSegBankRun b.val on s), rfl, ?_⟩
    have hseg := (idleRestart_only (xSegBankRun b.val on s)).seg
    rw [after_fbit _ _ _ (by simp only [R.SEG_BANK_CTRL_RUN]; omega), after_fget _ _ _ (by decide), after_bank, barWrite_on _ _ _ h5 hb,
      idleRestart_fbit _ _ (by simp only [R.SEG_BANK_CTRL_RUN]; omega), idleRestart_fget _ _ (by decide),
      show (xSegBankRun b.val on s).idleRestart.bank b = (xSegBankRun b.val on s).bank b by unfold State.bank; rw [hseg]]
    exact ⟨hrun, hrunning, hgoing, hstart⟩
  · intro s r on h5 hb
    obtain ⟨hen, herr, hchans⟩ := xSegRailEnable_acts r.isLt on (segOn_of_blockOff (by omega) hb)
    refine ⟨s.after (s.barWrite (0x80080 + 0x10 * r.val) fun s => xSegRailEnable r.val on s), rfl, ?_⟩
    rw [after_fbit _ _ _ (by simp only [R.SEG_RAIL_CFG_EN]; omega), after_fbit _ _ _ (by simp only [R.SEG_RAIL_STAT_ERR]; omega), after_seg,
      barWrite_on _ _ _ h5 hb, idleRestart_fbit _ _ (by simp only [R.SEG_RAIL_CFG_EN]; omega),
      idleRestart_fbit _ _ (by simp only [R.SEG_RAIL_STAT_ERR]; omega), (idleRestart_only _).seg]
    exact ⟨hen, herr, hchans⟩
  · intro s hr h2 h3
    refine ⟨s.after (xSegBlankRelease s), rfl, ?_⟩
    rw [after_seg, xSegBlankRelease_seg hr h2 h3]
    exact ⟨rfl, rfl⟩
  · intro s h
    exact ⟨_, rfl, congrArg s.after (xSegBlankRelease_idle h)⟩
  · intro s word mask h
    exact ⟨_, rfl, congrArg s.after (barWrite_refused _ h)⟩
  · intro s bank on h
    exact ⟨_, rfl, congrArg s.after (barWrite_refused _ h)⟩
  · intro s rail on h
    exact ⟨_, rfl, congrArg s.after (barWrite_refused _ h)⟩

end Sys2Proof.Machine

namespace Sys2Proof.Machine

section FrameTicks

/-! ## F_TICK of a COMPANION -/

variable {s : State} {n : Nat}

/-- A generator whose F-tick has fired takes no other before its S-tick (R40). -/
theorem xFTick_of_atF (h : (s.gen n).atF = true) : xFTick n s = s := by
  unfold xFTick
  simp [h]

theorem after_gen (s t : State) (n : Nat) : (s.after t).gen n = t.gen n := by unfold State.gen; rw [after_gens]

/-- A SURFACE_CONFIG that stops surface 0 (ACTION 2), with the ALIGN that names frame 1 for it (R117, R417). -/
def stopNamed : TwinCmd :=
  { desc := { ring := 2, bytes := u8 0x30 ++ rep 15 0 ++ u8 2 ++ rep 47 0 }
    align := some { ring := 2, opcode := 0x30, surf := 0, frame := 1 } }

/-- A COMPANION with every domain on: the F-tick of frame 0 of surface 0 has fired, and the stop named for frame 1 waits. -/
def stopWaits : State :=
  let u : State := { State.reset with
    gens := { grid := { hz := 60, n := 8 }, atF := true } :: rep 3 {}
    twin := { TwinSt.init with waiting := [stopNamed] } }
  (((u.fset R.PWR_DOM_STATUS_ON 0xFFF).fset R.TWIN_STATUS_ROLE roleCompanion).fsetb (R.TG_CTRL_ENABLE 0) true).fsetb (R.TG_STATUS_RUNNING 0) true

/-- Frame 1 is the next one, so that the stop takes effect as the twin settles. -/
theorem stopWaits_settled : stopWaits.twinSettle.gen 0 = { stopWaits.gen 0 with stopPend := true } := by decide +kernel

/-- An F_TICK that is not the generator's next tick makes the stop pending all the same. -/
theorem stopWaits_fTick : (xFTick 0 stopWaits.twinSettle).gen 0 = { stopWaits.gen 0 with stopPend := true } := by
  have hatF : (stopWaits.twinSettle.gen 0).atF = true := by rw [stopWaits_settled]; rfl
  rw [xFTick_of_atF hatF, stopWaits_settled]

end FrameTicks

/-- Refutes O38: F_TICK, S_TICK, LATCH_POINT and PRODUCTION_WINDOW_OPEN settle the twin before they act (R417), so that one of them
that does nothing of its own still lets a COMPANION's waiting command take effect; the statement lacks `State.alone`. In `stopWaits`
the generator's next tick is the S-tick, and F_TICK makes its stop pending. -/
theorem not_frameTicksAct : ¬ Obligations.FrameTicksAct := by
  unfold Obligations.FrameTicksAct
  rintro ⟨-, -, -, hidle, -⟩
  obtain ⟨t, hexec, rfl⟩ := hidle stopWaits 0 (.inr (.inl rfl))
  have hrun : exec (.fTick 0) stopWaits = .next (stopWaits.after (xFTick 0 stopWaits.twinSettle)) := rfl
  have hsame : stopWaits.after (xFTick 0 stopWaits.twinSettle) = stopWaits.after stopWaits :=
    Host.Outcome.next.inj (hrun.symm.trans hexec)
  have hgen := congrArg (fun u : State => (u.gen 0).stopPend) hsame
  simp only [after_gen, stopWaits_fTick] at hgen
  exact absurd hgen (by decide)

section LaneTicks

/-! ## LANE_TICK without the ports' records -/

/-- Every domain on and the lane of port 0 ACTIVE, but no port has a record. -/
def portless : State :=
  (({ State.reset with ports := [] } : State).fset R.PWR_DOM_STATUS_ON 0xFFF).fset (R.TILE_LANE_STATUS_STATE 0) laneActive

theorem portless_carries : portless.domOn 9 = true ∧ portless.canSend 0 = true ∧ portless.boundEnabled 0 = false := by decide +kernel

/-- A lane tick gives no port a record. -/
theorem portless_laneTick : (xLaneTick portless).ports = [] := by decide +kernel

end LaneTicks

/-- Refutes O39: the clauses of LANE_TICK lack `State.shape`. Whether a port carries symbols is read from the registers, but what it has
sent from its record, which `portless` has for none: port 0 carries symbols on no surface, and does not send. -/
theorem not_surfaceEventsAct : ¬ Obligations.SurfaceEventsAct := by
  unfold Obligations.SurfaceEventsAct
  rintro ⟨-, -, -, -, -, -, -, -, -, -, -, -, -, -, -, -, -, -, -, -, -, -, hlane, -⟩
  obtain ⟨hnet, hsend, hfree⟩ := portless_carries
  obtain ⟨t, hexec, -, -, hsent⟩ := hlane portless hnet
  have hrun : exec .laneTick portless = .next (portless.after (xLaneTick portless)) := rfl
  obtain rfl : portless.after (xLaneTick portless) = t := Host.Outcome.next.inj (hrun.symm.trans hexec)
  have hport := hsent 0 (by decide) hsend hfree
  rw [State.port, after_ports, portless_laneTick] at hport
  exact absurd hport (by decide)

end Sys2Proof.Machine

namespace Sys2Proof.Machine

section Doorbells

variable {s : State} {n m : Nat}

/-! ## Doorbells -/

/-! ### A record goes into its own ring -/

theorem sendVector_ring (s : State) (v m : Nat) : (s.sendVector v).ring m = s.ring m := by
  unfold State.sendVector
  split
  · rfl
  split
  · rfl
  · rfl

theorem coalesce_ring_other (h : n ≠ m) (irq : Bool) (s : State) : (s.coalesce n irq).ring m = s.ring m := by
  unfold State.coalesce State.signal
  dsimp only
  split
  · rw [sendVector_ring, ring_setRing_other _ _ _ _ h, ring_setRing_other _ _ _ _ h]
  · exact ring_setRing_other _ _ _ _ h

theorem putRecord_ring_other (h : n ≠ m) (body : List Byte) (irq : Bool) (s : State) : (s.putRecord n body irq).ring m = s.ring m := by
  unfold State.putRecord
  exact (coalesce_ring_other h irq _).trans (ring_setRing_other _ _ _ _ h)

theorem record_ring_other (h : n ≠ m) (body : List Byte) (s : State) : (s.record n body).ring m = s.ring m := by
  unfold State.record
  dsimp only
  split
  · exact ring_setRing_other _ _ _ _ h
  split
  · rw [putRecord_ring_other h, ring_setRing_other _ _ _ _ h, ring_setRing_other _ _ _ _ h]
  · exact (ring_setRing_other _ _ _ _ h).trans (ring_setRing_other _ _ _ _ h)

/-! ### Readings through records and register writes -/

theorem OnlyRecords.fget {s t : State} (h : OnlyRecords s t) (f : Fld) (hf : ¬ recordReg f.addr) : t.fget f = s.fget f := by
  unfold State.fget; rw [h.rd _ hf]

theorem OnlyRecords.fbit {s t : State} (h : OnlyRecords s t) (f : Fld) (hf : ¬ recordReg f.addr) : t.fbit f = s.fbit f := by
  unfold State.fbit; rw [h.fget f hf]

theorem wr_host (s : State) (a : Nat) (w : Word) : (s.wr a w).host = s.host := rfl

theorem wr_ring (s : State) (a : Nat) (w : Word) (m : Nat) : (s.wr a w).ring m = s.ring m := rfl

theorem wr_fget (s : State) (a : Nat) (w : Word) (f : Fld) (h : f.addr ≠ a) : (s.wr a w).fget f = s.fget f := by
  unfold State.fget; rw [rd_wr_other s a _ w h]

theorem wr_fbit (s : State) (a : Nat) (w : Word) (f : Fld) (h : f.addr ≠ a) : (s.wr a w).fbit f = s.fbit f := by
  unfold State.fbit; rw [wr_fget s a w f h]

theorem setRing_fget (s : State) (n : Nat) (g : Ring → Ring) (f : Fld) : (s.setRing n g).fget f = s.fget f := rfl

theorem setRing_fbit (s : State) (n : Nat) (g : Ring → Ring) (f : Fld) : (s.setRing n g).fbit f = s.fbit f := rfl

/-! ### What a doorbell that is not taken leaves -/

/-- Both sides of every ring stand, but for the head of EVT, and so do the descriptors that wait. -/
structure Unrung (s t : State) : Prop where
  tail : ∀ m, (t.ring m).tail = (s.ring m).tail
  arrived : ∀ m, (t.ring m).arrived = (s.ring m).arrived
  head : ∀ m, m ≠ 5 → (t.ring m).head = (s.ring m).head

theorem Unrung.refl (s : State) : Unrung s s := ⟨fun _ => rfl, fun _ => rfl, fun _ _ => rfl⟩

theorem Unrung.trans {s t u : State} (h : Unrung s t) (k : Unrung t u) : Unrung s u where
  tail m := (k.tail m).trans (h.tail m)
  arrived m := (k.arrived m).trans (h.arrived m)
  head m hm := (k.head m hm).trans (h.head m hm)

theorem fadd_unrung (f : Fld) (k : Nat) (s : State) : Unrung s (s.fadd f k) := ⟨fun _ => rfl, fun _ => rfl, fun _ _ => rfl⟩

theorem eventDev_unrung (source code : Nat) (body : List Byte) (s : State) : Unrung s (s.eventDev source code body) where
  tail := (eventDev_records s source code body).tail
  arrived := (eventDev_records s source code body).arrived
  head _ hm := congrArg Ring.head (record_ring_other (Ne.symm hm) _ s)

/-- The end of the command leaves them too. -/
theorem Unrung.after {s t : State} (h : Unrung s t) (u : State) : Unrung s (u.after t) where
  tail m := (after_ring_tail u t m).trans (h.tail m)
  arrived m := (after_ring_arrived u t m).trans (h.arrived m)
  head m hm := (after_ring_head u t m).trans (h.head m hm)

theorem satAdd_one (k a : Nat) (h : a ≤ k) : satAdd k a 1 = min k (a + 1) := by
  unfold satAdd
  split <;> omega

theorem fget_lt (s : State) (f : Fld) : s.fget f < 2 ^ f.width := Nat.mod_lt _ (Nat.two_pow_pos _)

/-- A counter that counts one more stays at its limit (R602). -/
theorem fget_fadd_one (s : State) (f : Fld) (h : f.lo + f.width ≤ 32) :
    (s.fadd f 1).fget f = min (2 ^ f.width - 1) (s.fget f + 1) := by
  have hlt := fget_lt s f
  unfold State.fadd
  rw [fget_fset_same _ _ _ h, satAdd_one _ _ (by omega), Nat.mod_eq_of_lt (by omega)]

/-- A doorbell that is not taken is counted, and told by EVT (R77). -/
theorem doorbellInvalid_acts (n v : Nat) (s : State) :
    Unrung s (s.doorbellInvalid n v) ∧ (s.doorbellInvalid n v).fget (R.HOST_RING_COUNT_DOORBELL_INVALID n)
      = min 65535 (s.fget (R.HOST_RING_COUNT_DOORBELL_INVALID n) + 1) := by
  unfold State.doorbellInvalid State.doorbellEvent
  refine ⟨(fadd_unrung _ _ s).trans (eventDev_unrung _ _ _ _), ?_⟩
  rw [(eventDev_records _ _ _ _).fget _ (by unfold recordReg; simp only [R.HOST_RING_COUNT_DOORBELL_INVALID]; omega),
    fget_fadd_one _ _ (by simp only [R.HOST_RING_COUNT_DOORBELL_INVALID]; decide)]
  simp only [R.HOST_RING_COUNT_DOORBELL_INVALID]
  rfl

/-- A whole DWORD at offset 0 of a ring's page is a doorbell. -/
theorem doorbellAccess_whole (page v : Nat) (s : State) : doorbellAccess page 0 v true s = xDoorbellWrite page 0 v s := by
  unfold doorbellAccess
  rw [if_neg (by simp)]

/-- A doorbell that R77 does not accept. -/
theorem xDoorbellWrite_invalid {v : Nat} (hn : n < 7) (h5 : s.domOn 5 = true)
    (h : s.ringOn n = false ∨ bitsOf v 24 4 ≠ n ∨ s.doorbellPos n (bitsOf v 0 12) (bitsOf v 16 1) = none) :
    xDoorbellWrite n 0 v s = s.doorbellInvalid n v := by
  unfold xDoorbellWrite
  rw [if_neg (by simp [h5]), if_neg (by omega), if_neg (by simp)]
  split
  · rfl
  · rename_i hne
    have hp : s.doorbellPos n (bitsOf v 0 12) (bitsOf v 16 1) = none := by
      rcases h with h | h | h
      · simp [h] at hne
      · simp [h] at hne
      · exact h
    rw [hp]

/-- A write to BAR 2 that is no doorbell of a ring at most writes an event (R66, R78). -/
theorem doorbellAccess_elsewhere {page off v : Nat} {whole : Bool} (h : 7 ≤ page ∨ off ≠ 0 ∨ whole = false) (s : State) :
    Unrung s (doorbellAccess page off v whole s) := by
  unfold doorbellAccess
  split
  · exact eventDev_unrung _ _ _ s
  rename_i hw
  unfold xDoorbellWrite
  split
  · exact .refl s
  rename_i h5
  split
  · exact eventDev_unrung _ _ _ s
  split
  · exact .refl s
  · simp_all

/-! ### A doorbell that is taken -/

/-- The state in which a doorbell of a ring has been taken. -/
def State.rung (s : State) (n v p : Nat) : State :=
  (((s.wr (doorbellAddr n) (BitVec.ofNat 32 (bitsOf v 0 12 + bitsOf v 16 1 * 2 ^ 16 + n * 2 ^ 24))).setRing n fun q =>
    { q with tail := p, marks := if n < 4 && q.tail != p then q.marks ++ [(p, (List.range 4).map fun n => (s.ring n).tail)] else q.marks })).idleRestart

theorem xDoorbellWrite_taken {v p : Nat} (hn : n < 7) (hon : s.ringOn n = true) (hv : bitsOf v 24 4 = n)
    (hp : s.doorbellPos n (bitsOf v 0 12) (bitsOf v 16 1) = some p) :
    xDoorbellWrite n 0 v s = if n = 4 then (s.rung n v p).resumeCpl else s.rung n v p := by
  have h5 : s.domOn 5 = true := by
    unfold State.ringOn at hon
    exact (Bool.and_eq_true_iff.1 hon).2
  unfold xDoorbellWrite
  rw [if_neg (by simp [h5]), if_neg (by omega), if_neg (by simp), if_neg (by simp [hon, hv]), hp]
  rfl

theorem xDoorbellWrite_records {v p : Nat} (hn : n < 7) (hon : s.ringOn n = true) (hv : bitsOf v 24 4 = n)
    (hp : s.doorbellPos n (bitsOf v 0 12) (bitsOf v 16 1) = some p) : OnlyRecords (s.rung n v p) (xDoorbellWrite n 0 v s) := by
  rw [xDoorbellWrite_taken hn hon hv hp]
  split
  · exact resumeCpl_records _
  · exact .refl _

theorem rung_ring (s : State) (n v p m : Nat) :
    ((s.rung n v p).ring m).arrived = (s.ring m).arrived ∧ (n < s.host.rings.length → ((s.rung n v p).ring n).tail = p) := by
  unfold State.rung
  rw [idleRestart_ring, idleRestart_ring]
  refine ⟨?_, fun h => ?_⟩
  · rw [ring_setRing]
    split <;> rw [wr_ring]
  · rw [ring_setRing_same _ n _ (by rw [wr_host]; exact h)]

theorem rung_enable (s : State) (v p : Nat) (hn : n < 7) :
    (s.rung n v p).fbit (R.HOST_RING_CTRL_ENABLE n) = s.fbit (R.HOST_RING_CTRL_ENABLE n) := by
  unfold State.rung
  rw [idleRestart_fbit _ _ (by simp only [R.HOST_RING_CTRL_ENABLE]; omega)]
  rw [setRing_fbit, wr_fbit _ _ _ _ (by unfold doorbellAddr; simp only [R.HOST_RING_CTRL_ENABLE]; omega)]

theorem shape_rings (h : s.shape) : s.host.rings.length = 7 := h.1

end Doorbells

/-- Settles O1: an accepted doorbell by its ring's record, every other write by the event that it writes at most. -/
theorem doorbellAnnounces : Obligations.DoorbellAnnounces := by
  unfold Obligations.DoorbellAnnounces
  refine ⟨?_, ?_, ?_⟩
  · intro s n v p hs h5 hon hv hr hp
    have hrec := xDoorbellWrite_records n.isLt hon hr hp
    have hrun : exec (.doorbellWrite n 0 v true) s = .next (s.after (xDoorbellWrite n 0 v s)) := by
      show State.done s _ = _
      rw [Nat.mod_eq_of_lt hv, doorbellAccess_whole]
      rfl
    refine ⟨_, hrun, ?_, fun m _ => ?_, ?_⟩
    · rw [after_ring_tail, hrec.tail]
      exact (rung_ring s n v p n).2 (by rw [shape_rings hs]; exact n.isLt)
    · rw [after_ring_arrived, hrec.arrived]
      exact (rung_ring s n v p m).1
    · rw [after_fbit _ _ _ (by simp only [R.HOST_RING_CTRL_ENABLE]; omega)]
      rw [hrec.fbit _ (by unfold recordReg; simp only [R.HOST_RING_CTRL_ENABLE]; omega)]
      have h1 : s.fbit (R.HOST_RING_CTRL_ENABLE n) = true := (Bool.and_eq_true_iff.1 hon).1
      exact (rung_enable s v p n.isLt).trans h1
  · intro s n v hs h5 hv h
    have hrun : exec (.doorbellWrite n 0 v true) s = .next (s.after (s.doorbellInvalid n v)) := by
      show State.done s _ = _
      rw [Nat.mod_eq_of_lt hv, doorbellAccess_whole, xDoorbellWrite_invalid n.isLt h5 h]
      rfl
    obtain ⟨hrings, hcount⟩ := doorbellInvalid_acts n v s
    have hafter := hrings.after s
    refine ⟨_, hrun, fun m _ => ⟨hafter.tail m, hafter.arrived m, hafter.head m⟩, ?_⟩
    rw [after_fget _ _ _ (by simp only [R.HOST_RING_COUNT_DOORBELL_INVALID]; omega)]
    exact hcount
  · intro s page off v whole hs h5 h
    have hafter := (doorbellAccess_elsewhere (v := v % 2 ^ 32) h s).after s
    exact ⟨_, rfl, fun m _ => ⟨hafter.tail m, hafter.arrived m, hafter.head m⟩⟩

end Sys2Proof.Machine

namespace Sys2Proof.Machine

section RingControl

variable {s : State} {n m : Nat}

/-! ## Ring control -/

/-! ### Bits through other fields -/

theorem fbit_fset_addr (s : State) (f g : Fld) (v : Nat) (h : g.addr ≠ f.addr) : (s.fset f v).fbit g = s.fbit g := by
  unfold State.fbit; rw [fget_fset_addr s f g v h]

/-- One field lies below the other in its register. -/
def Fld.beside (f g : Fld) : Bool := decide (f.lo + f.width ≤ g.lo) || decide (g.lo + g.width ≤ f.lo)

theorem fget_fset_beside (s : State) (f g : Fld) (v : Nat) (h : f.beside g = true) (hf : f.fits = true) (hg : g.fits = true) :
    (s.fset f v).fget g = s.fget g :=
  fget_fset_apart s f g v (by unfold Fld.apart; rw [Bool.or_assoc]; exact Bool.or_eq_true_iff.2 (.inr h)) hf hg

theorem fbit_fset_beside (s : State) (f g : Fld) (v : Nat) (h : f.beside g = true) (hf : f.fits = true) (hg : g.fits = true) :
    (s.fset f v).fbit g = s.fbit g := by
  unfold State.fbit; rw [fget_fset_beside s f g v h hf hg]

theorem fbit_fsetb_self (s : State) (f : Fld) (b : Bool) (hf : f.fits = true) (hw : f.width = 1) : (s.fsetb f b).fbit f = b :=
  fbit_fsetb_same s f b (of_decide_eq_true hf) hw

theorem fget_fset_self (s : State) (f : Fld) (v : Nat) (hf : f.fits = true) : (s.fset f v).fget f = v % 2 ^ f.width :=
  fget_fset_same s f v (of_decide_eq_true hf)

theorem showHead_fbit (s : State) (n : Nat) (f : Fld) (h : f.addr ≠ 0x10110 + n * 0x40) : (s.showHead n).fbit f = s.fbit f := by
  unfold State.showHead
  rw [fbit_fset_addr _ _ _ _ h, fbit_fset_addr _ _ _ _ h]

theorem showHead_ring (s : State) (n m : Nat) : (s.showHead n).ring m = s.ring m := rfl

/-! ### A write to a register of a ring -/

/-- RING_CTRL lies in the HOST block, which is on where HOST is. -/
theorem barWrite_ringCtrl (hn : n < 7) (h5 : s.domOn 5 = true) (act : State → State) :
    s.barWrite (0x1010C + 0x40 * n) act = (act s).idleRestart :=
  barWrite_on _ _ _ h5 (blockOff_host s _ (by omega) h5)

theorem after_idle_fget (s t : State) (f : Fld) (hf : f.addr / 0x10000 = 1) : (s.after t.idleRestart).fget f = t.fget f := by
  rw [after_fget _ _ _ (by omega), idleRestart_fget _ _ (by omega)]

theorem after_idle_fbit (s t : State) (f : Fld) (hf : f.addr / 0x10000 = 1) : (s.after t.idleRestart).fbit f = t.fbit f := by
  unfold State.fbit; rw [after_idle_fget _ _ _ hf]

theorem after_idle_head (s t : State) (m : Nat) : ((s.after t.idleRestart).ring m).head = (t.ring m).head := by
  rw [after_ring_head, idleRestart_ring]

theorem after_idle_arrived (s t : State) (m : Nat) : ((s.after t.idleRestart).ring m).arrived = (t.ring m).arrived := by
  rw [after_ring_arrived, idleRestart_ring]

/-- But for descriptor reads, which go out after any command, a ring is what the command left. -/
theorem after_still (s t : State) (m : Nat) : ((s.after t).ring m).still = (t.ring m).still := by
  rw [after_ring]; rfl

theorem after_idle_still (s t : State) (m : Nat) : ((s.after t.idleRestart).ring m).still = (t.ring m).still := by
  rw [after_still, idleRestart_ring]

/-! ### Enabling -/

/-- The position at which a ring starts is index 0 of generation 1 for every size (R74, R97). -/
theorem restart_position (q : Ring) {k : Nat} (hk : k ≤ 12) : posIndex (2 ^ k) q.restart = 0 ∧ posGen (2 ^ k) q.restart = 1 := by
  have h : q.restart = 2 ^ k * (2 * ((q.head + q.flight.length + 8191) / 8192 * 2 ^ (12 - k))) := by
    have h12 : 2 ^ k * 2 ^ (12 - k) = 4096 := by rw [← Nat.pow_add, Nat.add_sub_cancel' hk]
    calc q.restart = (q.head + q.flight.length + 8191) / 8192 * (2 * (2 ^ k * 2 ^ (12 - k))) := by rw [h12]; rfl
      _ = _ := by ring
  unfold posIndex posGen
  rw [h, Nat.mul_mod_right, Nat.mul_div_cancel_left _ (Nat.two_pow_pos k)]
  omega

/-- The state in which a ring has been enabled, before CPL goes on. -/
def State.ringStarted (s : State) (n : Nat) : State :=
  let u := (((s.fsetb (R.HOST_RING_CTRL_ENABLE n) true).fsetb (R.HOST_RING_STATUS_RUNNING n) true).fsetb
    (R.HOST_RING_STATUS_CFG_REFUSED n) false).fsetb (R.HOST_RING_STATUS_HALTED n) false
  ((u.setRing n fun q => { q with head := q.restart, tail := q.restart, marks := [], unsig := 0 }).showHead n).wr
    (doorbellAddr n) (BitVec.ofNat 32 (2 ^ 16 + n * 2 ^ 24))

theorem xRingEnable_enabled (h : s.fbit (R.HOST_RING_CTRL_ENABLE n) = true) : xRingEnable n s = s := by
  unfold xRingEnable
  rw [if_pos (by simp [h])]

theorem xRingEnable_refused (h5 : s.domOn 5 = true) (h : s.fbit (R.HOST_RING_CTRL_ENABLE n) = false)
    (hk : s.fget (R.HOST_RING_CFG_SIZE_LOG2 n) < 4 ∨ 12 < s.fget (R.HOST_RING_CFG_SIZE_LOG2 n)) :
    xRingEnable n s = s.fsetb (R.HOST_RING_STATUS_CFG_REFUSED n) true := by
  unfold xRingEnable
  rw [if_neg (by simp [h, h5])]
  exact if_pos hk

theorem xRingEnable_started (h5 : s.domOn 5 = true) (h : s.fbit (R.HOST_RING_CTRL_ENABLE n) = false)
    (h4 : 4 ≤ s.fget (R.HOST_RING_CFG_SIZE_LOG2 n)) (h12 : s.fget (R.HOST_RING_CFG_SIZE_LOG2 n) ≤ 12) :
    xRingEnable n s = if n = 4 then (s.ringStarted n).resumeCpl else s.ringStarted n := by
  unfold xRingEnable
  rw [if_neg (by simp [h, h5])]
  exact if_neg (by omega)

theorem xRingEnable_records (h5 : s.domOn 5 = true) (h : s.fbit (R.HOST_RING_CTRL_ENABLE n) = false)
    (h4 : 4 ≤ s.fget (R.HOST_RING_CFG_SIZE_LOG2 n)) (h12 : s.fget (R.HOST_RING_CFG_SIZE_LOG2 n) ≤ 12) :
    OnlyRecords (s.ringStarted n) (xRingEnable n s) := by
  rw [xRingEnable_started h5 h h4 h12]
  split
  · exact resumeCpl_records _
  · exact .refl _

/-- A field of CTRL or STATUS of a ring reads in the enabled ring as the four bits were written. -/
theorem ringStarted_fbit {f : Fld} (hf : f.addr = 0x1010C + n * 0x40 ∨ f.addr = 0x10114 + n * 0x40) (s : State) :
    (s.ringStarted n).fbit f = ((((s.fsetb (R.HOST_RING_CTRL_ENABLE n) true).fsetb (R.HOST_RING_STATUS_RUNNING n) true).fsetb
      (R.HOST_RING_STATUS_CFG_REFUSED n) false).fsetb (R.HOST_RING_STATUS_HALTED n) false).fbit f := by
  unfold State.ringStarted
  rw [wr_fbit _ _ _ _ (by unfold doorbellAddr; omega), showHead_fbit _ _ _ (by omega), setRing_fbit]

theorem ringStarted_bits (n : Nat) (s : State) :
    (s.ringStarted n).fbit (R.HOST_RING_CTRL_ENABLE n) = true ∧ (s.ringStarted n).fbit (R.HOST_RING_STATUS_RUNNING n) = true
      ∧ (s.ringStarted n).fbit (R.HOST_RING_STATUS_HALTED n) = false := by
  have hctrl : 0x1010C + n * 0x40 ≠ 0x10114 + n * 0x40 := by omega
  refine ⟨?_, ?_, ?_⟩
  · rw [ringStarted_fbit (.inl rfl), State.fsetb, fbit_fset_addr _ _ _ _ hctrl, State.fsetb, fbit_fset_addr _ _ _ _ hctrl,
      State.fsetb, fbit_fset_addr _ _ _ _ hctrl]
    exact fbit_fsetb_self _ _ _ rfl rfl
  · rw [ringStarted_fbit (.inr rfl), State.fsetb,
      fbit_fset_beside _ _ _ _ rfl rfl rfl, State.fsetb,
      fbit_fset_beside _ _ _ _ rfl rfl rfl]
    exact fbit_fsetb_self _ _ _ rfl rfl
  · rw [ringStarted_fbit (.inr rfl)]
    exact fbit_fsetb_self _ _ _ rfl rfl

/-- HOST_RINGn_HEAD shows the index and the generation of the head. -/
theorem showHead_head (n : Nat) (s : State) :
    (s.showHead n).fget (R.HOST_RING_HEAD_INDEX n) = posIndex (s.ringSize n) (s.ring n).head % 2 ^ 12
      ∧ (s.showHead n).fget (R.HOST_RING_HEAD_GEN n) = posGen (s.ringSize n) (s.ring n).head % 2 ^ 1 := by
  unfold State.showHead
  refine ⟨?_, fget_fset_self _ _ _ rfl⟩
  rw [fget_fset_beside _ _ _ _ rfl rfl rfl]
  exact fget_fset_self _ _ _ rfl

theorem ringStarted_head (hn : n < s.host.rings.length) (h12 : s.fget (R.HOST_RING_CFG_SIZE_LOG2 n) ≤ 12) :
    (s.ringStarted n).fget (R.HOST_RING_HEAD_INDEX n) = 0 ∧ (s.ringStarted n).fget (R.HOST_RING_HEAD_GEN n) = 1 := by
  unfold State.ringStarted
  extract_lets u
  have hu : u.fget (R.HOST_RING_CFG_SIZE_LOG2 n) = s.fget (R.HOST_RING_CFG_SIZE_LOG2 n) := by
    have hctrl : 0x10108 + n * 0x40 ≠ 0x1010C + n * 0x40 := by omega
    have hstat : 0x10108 + n * 0x40 ≠ 0x10114 + n * 0x40 := by omega
    unfold u State.fsetb
    rw [fget_fset_addr _ _ _ _ hstat, fget_fset_addr _ _ _ _ hstat, fget_fset_addr _ _ _ _ hstat, fget_fset_addr _ _ _ _ hctrl]
  have hlen : n < u.host.rings.length := hn
  have haddr : 0x10110 + n * 0x40 ≠ doorbellAddr n := by unfold doorbellAddr; omega
  rw [wr_fget _ _ _ _ haddr, wr_fget _ _ _ _ haddr]
  obtain ⟨hidx, hgen⟩ := showHead_head n (u.setRing n fun q => { q with head := q.restart, tail := q.restart, marks := [], unsig := 0 })
  rw [hidx, hgen, ring_setRing_same _ _ _ hlen]
  unfold State.ringSize
  rw [setRing_fget, hu]
  obtain ⟨hi, hg⟩ := restart_position (u.ring n) h12
  rw [hi, hg]
  exact ⟨rfl, rfl⟩

/-! ### Disabling -/

theorem xRingDisable_disabled (h : s.fbit (R.HOST_RING_CTRL_ENABLE n) = false) : xRingDisable n s = s := by
  unfold xRingDisable
  rw [if_pos (by simp [h])]

/-- The state in which a ring has been disabled. -/
def State.ringStopped (s : State) (n : Nat) : State :=
  (((s.fsetb (R.HOST_RING_CTRL_ENABLE n) false).fsetb (R.HOST_RING_STATUS_RUNNING n) false).fsetb (R.HOST_RING_STATUS_HALTED n) false).setRing n
    fun q => { q with tail := q.head + q.flight.length }

theorem xRingDisable_stopped (h5 : s.domOn 5 = true) (h : s.fbit (R.HOST_RING_CTRL_ENABLE n) = true) :
    xRingDisable n s = s.ringStopped n := by
  unfold xRingDisable
  exact if_neg (by simp [h, h5])

theorem ringStopped_bits (n : Nat) (s : State) :
    (s.ringStopped n).fbit (R.HOST_RING_CTRL_ENABLE n) = false ∧ (s.ringStopped n).fbit (R.HOST_RING_STATUS_RUNNING n) = false
      ∧ (s.ringStopped n).fbit (R.HOST_RING_STATUS_HALTED n) = false := by
  have hctrl : 0x1010C + n * 0x40 ≠ 0x10114 + n * 0x40 := by omega
  unfold State.ringStopped
  rw [setRing_fbit, setRing_fbit, setRing_fbit]
  refine ⟨?_, ?_, fbit_fsetb_self _ _ _ rfl rfl⟩
  · rw [State.fsetb, fbit_fset_addr _ _ _ _ hctrl, State.fsetb, fbit_fset_addr _ _ _ _ hctrl]
    exact fbit_fsetb_self _ _ _ rfl rfl
  · rw [State.fsetb, fbit_fset_beside _ _ _ _ rfl rfl rfl]
    exact fbit_fsetb_self _ _ _ rfl rfl

theorem ringStopped_arrived (s : State) (n m : Nat) : ((s.ringStopped n).ring m).arrived = (s.ring m).arrived := by
  unfold State.ringStopped
  rw [ring_setRing]
  split <;> rfl

/-! ### A ring that halted -/

theorem haltRing_halted (s : State) (n : Nat) (b : Bool) : (s.haltRing n b).fbit (R.HOST_RING_STATUS_HALTED n) = b := by
  unfold State.haltRing
  rw [State.fsetb, fbit_fset_beside _ _ _ _ rfl rfl rfl]
  exact fbit_fsetb_self _ _ _ rfl rfl

theorem haltRing_ring (s : State) (n : Nat) (b : Bool) (m : Nat) : (s.haltRing n b).ring m = s.ring m := rfl

theorem xRingResume_halted (h : s.fbit (R.HOST_RING_STATUS_HALTED n) = true) : xRingResume n s = s.haltRing n false := if_pos h

theorem xRingResume_serving (h : s.fbit (R.HOST_RING_STATUS_HALTED n) = false) : xRingResume n s = s := if_neg (by simp [h])

theorem xRingSkip_serving (h : s.fbit (R.HOST_RING_STATUS_HALTED n) = false) : xRingSkip n s = s := if_neg (by simp [h])

/-- SKIP of a halted ring goes one slot on. -/
theorem xRingSkip_halted (hn : n < s.host.rings.length) (h : s.fbit (R.HOST_RING_STATUS_HALTED n) = true) :
    (xRingSkip n s).fbit (R.HOST_RING_STATUS_HALTED n) = false ∧ ((xRingSkip n s).ring n).head = (s.ring n).head + 1
      ∧ ∀ m, ((xRingSkip n s).ring m).arrived = (s.ring m).arrived := by
  have hx : xRingSkip n s = ((s.haltRing n false).setRing n fun q => { q with head := q.head + 1 }).showHead n := if_pos h
  have hlen : n < (s.haltRing n false).host.rings.length := hn
  rw [hx]
  refine ⟨?_, ?_, fun m => ?_⟩
  · rw [showHead_fbit _ _ _ (by simp only [R.HOST_RING_STATUS_HALTED]; omega), setRing_fbit, haltRing_halted]
  · rw [showHead_ring, ring_setRing_same _ _ _ hlen, haltRing_ring]
  · rw [showHead_ring, ring_setRing, haltRing_ring]
    split <;> rfl

/-! ### A command that leaves every ring -/

/-- A register write with no effect on the rings leaves a bit of a ring and all that the rings hold. -/
theorem barWrite_still {act : State → State} {t : State} (hn : n < 7) (h5 : s.domOn 5 = true) (hact : act s = t)
    (hr : ∀ m, t.ring m = s.ring m) (m : Nat) :
    ((s.after (s.barWrite (0x1010C + 0x40 * n) act)).ring m).still = (s.ring m).still := by
  rw [barWrite_ringCtrl hn h5, hact, after_idle_still, hr]

theorem barWrite_bit {act : State → State} {t : State} (hn : n < 7) (h5 : s.domOn 5 = true) (hact : act s = t) {f : Fld}
    (hf : f.addr = 0x1010C + n * 0x40 ∨ f.addr = 0x10114 + n * 0x40) :
    (s.after (s.barWrite (0x1010C + 0x40 * n) act)).fbit f = t.fbit f := by
  rw [barWrite_ringCtrl hn h5, hact, after_idle_fbit _ _ _ (by omega)]

end RingControl

/-- Settles O3: each by its ring's record and the bits of its CTRL and STATUS. -/
theorem ringControlActs : Obligations.RingControlActs := by
  unfold Obligations.RingControlActs
  refine ⟨?_, ?_, ?_, ?_, ?_, ?_, ?_, ?_, ?_, ?_, ?_, ?_, ?_⟩
  · intro s n hs h5 hen h4 h12
    obtain ⟨hon, hrun, hhalt⟩ := ringStarted_bits n s
    have hrec := xRingEnable_records h5 hen h4 h12
    refine ⟨_, rfl, ?_, ?_, ?_, fun hcpl => ?_⟩
    · rw [barWrite_bit n.isLt h5 rfl (.inl rfl), hrec.fbit _ (by unfold recordReg; simp only [R.HOST_RING_CTRL_ENABLE]; omega), hon]
    · rw [barWrite_bit n.isLt h5 rfl (.inr rfl), hrec.fbit _ (by unfold recordReg; simp only [R.HOST_RING_STATUS_RUNNING]; omega), hrun]
    · rw [barWrite_bit n.isLt h5 rfl (.inr rfl), hrec.fbit _ (by unfold recordReg; simp only [R.HOST_RING_STATUS_HALTED]; omega), hhalt]
    · have hx : xRingEnable n s = s.ringStarted n := by rw [xRingEnable_started h5 hen h4 h12, if_neg hcpl]
      rw [barWrite_ringCtrl n.isLt h5, hx, after_idle_fget _ _ _ (by simp only [R.HOST_RING_HEAD_INDEX]; omega),
        after_idle_fget _ _ _ (by simp only [R.HOST_RING_HEAD_GEN]; omega)]
      exact ringStarted_head (by rw [shape_rings hs]; exact n.isLt) h12
  · intro s n _ h5 hen
    have hx := xRingDisable_stopped h5 hen
    obtain ⟨hon, hrun, hhalt⟩ := ringStopped_bits n s
    refine ⟨_, rfl, ?_, ?_, ?_, fun m _ => ?_⟩
    · rw [barWrite_bit n.isLt h5 hx (.inl rfl), hon]
    · rw [barWrite_bit n.isLt h5 hx (.inr rfl), hrun]
    · rw [barWrite_bit n.isLt h5 hx (.inr rfl), hhalt]
    · rw [barWrite_ringCtrl n.isLt h5, after_idle_arrived, hx, ringStopped_arrived]
  · intro s n _ h5 hhalt
    have hx := xRingResume_halted hhalt
    refine ⟨_, rfl, ?_, ?_, fun m _ => ?_⟩
    · rw [barWrite_bit n.isLt h5 hx (.inr rfl), haltRing_halted]
    · rw [barWrite_ringCtrl n.isLt h5, after_idle_head, hx, haltRing_ring]
    · rw [barWrite_ringCtrl n.isLt h5, after_idle_arrived, hx, haltRing_ring]
  · intro s n hs h5 hhalt
    obtain ⟨hbit, hhead, harr⟩ := xRingSkip_halted (by rw [shape_rings hs]; exact n.isLt) hhalt
    refine ⟨_, rfl, ?_, ?_, fun m _ => ?_⟩
    · rw [barWrite_bit n.isLt h5 rfl (.inr rfl), hbit]
    · rw [barWrite_ringCtrl n.isLt h5, after_idle_head, hhead]
    · rw [barWrite_ringCtrl n.isLt h5, after_idle_arrived, harr]
  · intro s n _ h5 hen hk
    have hx := xRingEnable_refused h5 hen hk
    refine ⟨_, rfl, ?_, ?_, fun m _ => barWrite_still n.isLt h5 hx (fun _ => rfl) m⟩
    · rw [barWrite_bit n.isLt h5 hx (.inl rfl), State.fsetb,
        fbit_fset_addr _ _ _ _ (by simp only [R.HOST_RING_CTRL_ENABLE, R.HOST_RING_STATUS_CFG_REFUSED]; omega), hen]
    · rw [barWrite_bit n.isLt h5 hx (.inr rfl)]
      exact fbit_fsetb_self _ _ _ rfl rfl
  · intro s n _ h5 hen
    have hx := xRingEnable_enabled hen
    exact ⟨_, rfl, (barWrite_bit n.isLt h5 hx (.inl rfl)).trans hen, fun m _ => barWrite_still n.isLt h5 hx (fun _ => rfl) m⟩
  · intro s n _ h5 hen
    have hx := xRingDisable_disabled hen
    exact ⟨_, rfl, (barWrite_bit n.isLt h5 hx (.inl rfl)).trans hen, fun m _ => barWrite_still n.isLt h5 hx (fun _ => rfl) m⟩
  · intro s n _ h5 hhalt
    have hx := xRingResume_serving hhalt
    exact ⟨_, rfl, (barWrite_bit n.isLt h5 hx (.inr rfl)).trans hhalt, fun m _ => barWrite_still n.isLt h5 hx (fun _ => rfl) m⟩
  · intro s n _ h5 hhalt
    have hx := xRingSkip_serving hhalt
    exact ⟨_, rfl, (barWrite_bit n.isLt h5 hx (.inr rfl)).trans hhalt, fun m _ => barWrite_still n.isLt h5 hx (fun _ => rfl) m⟩
  · exact fun s n h => ⟨_, rfl, congrArg s.after (barWrite_refused (xRingEnable n) h)⟩
  · exact fun s n h => ⟨_, rfl, congrArg s.after (barWrite_refused (xRingDisable n) h)⟩
  · exact fun s n h => ⟨_, rfl, congrArg s.after (barWrite_refused (xRingResume n) h)⟩
  · exact fun s n h => ⟨_, rfl, congrArg s.after (barWrite_refused (xRingSkip n) h)⟩

end Sys2Proof.Machine

namespace Sys2Proof.Machine

section HostLink

variable {s t u : State} {n m : Nat}

/-! ## The host link -/

/-! ### What completing presents can do -/

theorem nth_map_keep {α β : Type} [Inhabited α] (g : α → β) (f : α → α) (h : ∀ q, g (f q) = g q) (l : List α) (n : Nat) :
    g (nth (l.map f) n) = g (nth l n) := by
  induction l generalizing n with
  | nil => rfl
  | cons a l ih =>
    cases n with
    | zero => exact h a
    | succ n => exact ih n

/-- An effect that comes is an entry of what is owed, no more. -/
theorem effectDue_records (due : EffectAt → Bool) (s : State) : OnlyRecords s (s.effectDue due) := by
  unfold State.effectDue
  constructor
  case out => exact ⟨[], by simp⟩
  case rings => simp
  case tail => intro n; apply nth_map_keep Ring.tail; intro _; rfl
  case marks => intro n; apply nth_map_keep Ring.marks; intro _; rfl
  case flight => intro n; apply nth_map_keep Ring.flight; intro _; rfl
  case arrived => intro n; apply nth_map_keep Ring.arrived; intro _; rfl
  case fence => intro n; apply nth_map_keep Ring.fence; intro _; rfl
  all_goals first | rfl | (intros; rfl)

theorem dropReads_records (pos : Nat) (s : State) : OnlyRecords s (s.dropReads pos) := by
  unfold State.dropReads
  constructor
  case out => exact ⟨[], by simp⟩
  all_goals first | rfl | (intros; rfl)

theorem finishPresent_records (n : Nat) (p : Present) (s : State) : OnlyRecords s (s.finishPresent n p) := by
  unfold State.finishPresent
  split
  · exact completeAt_records _ _ _ _ _ _
  · exact .refl s

theorem stopPresent_records (n : Nat) (p : Present) (s : State) : OnlyRecords s (s.stopPresent n p).1 :=
  (dropReads_records _ s).trans (finishPresent_records n _ _)

/-- Writing the completion of a present writes records and marks the present where it is kept. -/
theorem settlePresent_eq (pos : Nat) (s : State) :
    s.settlePresent pos = s ∨ ∃ u, OnlyRecords s u ∧ s.settlePresent pos = u.editPresent pos fun q => { q with owed := false } := by
  unfold State.settlePresent
  split
  · exact .inl rfl
  · rename_i n p _
    split
    · exact .inr ⟨_, finishPresent_records n p s, rfl⟩
    · exact .inl rfl

/-! ### Power states and configuration -/

theorem xPowerStateChange_d3 (d3 : Bool) (h5 : s.domOn 5 = true) : (xPowerStateChange d3 s).fbit R.HOST_STATUS_D3 = d3 := by
  have hset : (s.fsetb R.HOST_STATUS_D3 d3).fbit R.HOST_STATUS_D3 = d3 := fbit_fsetb_self _ _ _ rfl rfl
  unfold xPowerStateChange
  rw [if_neg (by simp [h5])]
  split
  · exact hset
  · unfold State.fbit
    rw [(resumeTraffic_records _).status _ rfl (by decide)]
    exact hset

/-- Bus Master Enable and the configuration space are as they were. -/
abbrev KeepsPcie (s t : State) : Prop := t.host.busMaster = s.host.busMaster ∧ t.host.pcie = s.host.pcie

theorem OnlyRecords.pcieKept (h : OnlyRecords s t) : KeepsPcie s t := ⟨h.busMaster, h.pcie⟩

theorem settlePresent_pcie (pos : Nat) (s : State) : KeepsPcie s (s.settlePresent pos) := by
  rcases settlePresent_eq pos s with h | ⟨u, hu, h⟩
  · rw [h]; exact ⟨rfl, rfl⟩
  · rw [h]; exact hu.pcieKept

theorem settleAll_pcie (s : State) : KeepsPcie s s.settleAll :=
  foldl_rel (fun _ => ⟨rfl, rfl⟩) (fun h k => ⟨k.1.trans h.1, k.2.trans h.2⟩) _ _ (fun u pos _ => settlePresent_pcie pos u) s

/-- Bus Master Enable and the configuration space are what the host has written; what follows leaves them. -/
theorem xBusMaster_written (on mem en fm eg ec : Bool) (k m tmo a : Nat) (h5 : s.domOn 5 = true) :
    (xBusMaster on mem en fm eg ec k m tmo a s).host.busMaster = on
      ∧ (xBusMaster on mem en fm eg ec k m tmo a s).host.pcie = { s.host.pcie with
          memSpace := mem, msixEnable := en, funcMask := fm, ecrcGen := eg, ecrcCheck := ec, timeout := tmo, aspm := a,
          mrrs := min 512 (128 * 2 ^ k), mps := min 256 (128 * 2 ^ m) } := by
  unfold xBusMaster
  rw [if_neg (by simp [h5])]
  extract_lets _ u v
  have hv : v.host.busMaster = on ∧ v.host.pcie = { s.host.pcie with
      memSpace := mem, msixEnable := en, funcMask := fm, ecrcGen := eg, ecrcCheck := ec, timeout := tmo, aspm := a,
      mrrs := min 512 (128 * 2 ^ k), mps := min 256 (128 * 2 ^ m) } := ⟨rfl, rfl⟩
  have hkeep : KeepsPcie v (if on = true then v.resumeTraffic.pendingVectors else v.dropPrefetches.settleAll) := by
    split
    · exact ((resumeTraffic_records v).trans (pendingVectors_records _)).pcieKept
    · exact settleAll_pcie v.dropPrefetches
  exact ⟨hkeep.1.trans hv.1, hkeep.2.trans hv.2⟩

theorem xPcieLinkUp_shows {speed width : Nat} (hs : speed < 8) (hw : width < 8) (h5 : s.domOn 5 = true) :
    (xPcieLinkUp speed width s).fbit R.HOST_STATUS_LINK_UP = true ∧ (xPcieLinkUp speed width s).fget R.HOST_STATUS_SPEED = speed
      ∧ (xPcieLinkUp speed width s).fget R.HOST_STATUS_WIDTH = width := by
  unfold xPcieLinkUp
  rw [if_neg (by simp [h5])]
  refine ⟨?_, ?_, ?_⟩
  · rw [fbit_fset_beside _ _ _ _ rfl rfl rfl, fbit_fset_beside _ _ _ _ rfl rfl rfl]
    exact fbit_fsetb_self _ _ _ rfl rfl
  · rw [fget_fset_beside _ _ _ _ rfl rfl rfl, fget_fset_self _ _ _ rfl]
    exact Nat.mod_eq_of_lt hs
  · rw [fget_fset_self _ _ _ rfl]
    exact Nat.mod_eq_of_lt hw

/-! ### Coalescing -/

theorem signal_unsig (hn : n < s.host.rings.length) : ((s.signal n).ring n).unsig = 0 := by
  unfold State.signal
  rw [sendVector_ring, ring_setRing_same _ _ _ hn]

theorem signal_sends (he : s.host.pcie.msixEnable = true) (hm : s.vectorMasked (s.fget (R.HOST_RING_CFG_VECTOR n)) = false) :
    s.msixOut (s.fget (R.HOST_RING_CFG_VECTOR n)) ∈ (s.signal n).out := by
  unfold State.signal State.sendVector
  rw [if_neg (by simp [he]), if_neg (by rw [Bool.not_eq_true]; exact hm)]
  exact List.mem_append_right _ (List.mem_singleton.2 rfl)

theorem xCoalesceTimeout_signals (hon : s.ringOn n = true) (hp : s.ringsPaused = false) (hu : (s.ring n).unsig ≠ 0) :
    xCoalesceTimeout n s = s.signal n := if_neg (by simp [hon, hp, hu])

theorem xCoalesceTimeout_idle (h : s.ringOn n = false ∨ s.ringsPaused = true ∨ (s.ring n).unsig = 0) : xCoalesceTimeout n s = s :=
  if_pos (by rcases h with h | h | h <;> simp [h])

/-! ### Host-side resets -/

/-- Only what cancelling timed presents changes: records and completions, TIMED_CANCELLED above the two counts of resets, and TIME_EPH. -/
structure OnlyCancels (s t : State) : Prop where
  cmds : t.cmds = s.cmds
  arrived : ∀ n, (t.ring n).arrived = (s.ring n).arrived
  fence : ∀ n, (t.ring n).fence = (s.ring n).fence
  rd : ∀ a, a ≠ 0x10010 → a / 0x10000 ≠ 3 → ¬ recordReg a → t.rd a = s.rd a
  status : ∀ f : Fld, f.addr = 0x10000 → f.lo + f.width ≤ 8 → t.fget f = s.fget f
  resets : ∀ f : Fld, f.addr = 0x10010 → f.lo + f.width ≤ 16 → t.fget f = s.fget f

theorem OnlyCancels.refl (s : State) : OnlyCancels s s := by
  constructor <;> intros <;> rfl

theorem OnlyCancels.trans (h : OnlyCancels s t) (k : OnlyCancels t u) : OnlyCancels s u where
  cmds := k.cmds.trans h.cmds
  arrived n := (k.arrived n).trans (h.arrived n)
  fence n := (k.fence n).trans (h.fence n)
  rd a h1 h2 h3 := (k.rd a h1 h2 h3).trans (h.rd a h1 h2 h3)
  status f h1 h2 := (k.status f h1 h2).trans (h.status f h1 h2)
  resets f h1 h2 := (k.resets f h1 h2).trans (h.resets f h1 h2)

theorem OnlyRecords.cancels (h : OnlyRecords s t) : OnlyCancels s t where
  cmds := h.cmds
  arrived := h.arrived
  fence := h.fence
  rd a _ _ h3 := h.rd a h3
  status := h.status
  resets f hf _ := h.fget f (by rw [hf]; unfold recordReg; omega)

/-- A field of TIME. -/
theorem fset_time_cancels {f : Fld} (hf : f.addr / 0x10000 = 3) (v : Nat) (s : State) : OnlyCancels s (s.fset f v) where
  cmds := rfl
  arrived _ := rfl
  fence _ := rfl
  rd a _ h2 _ := rd_wr_other s _ _ _ (by rintro rfl; exact h2 hf)
  status g hg _ := fget_fset_addr s f g v (by omega)
  resets g hg _ := fget_fset_addr s f g v (by omega)

/-- A field above the counts of resets. -/
theorem fset_count_cancels {f : Fld} (hf : f.addr = 0x10010) (hlo : 16 ≤ f.lo) (hfit : f.fits = true) (v : Nat) (s : State) :
    OnlyCancels s (s.fset f v) where
  cmds := rfl
  arrived _ := rfl
  fence _ := rfl
  rd a h1 _ _ := rd_wr_other s _ a _ (by rw [hf]; exact h1)
  status g hg _ := fget_fset_addr s f g v (by rw [hg, hf]; decide)
  resets g hg hl := fget_fset_beside s f g v (by simp [Fld.beside]; omega) hfit (by simp [Fld.fits]; omega)

theorem cancelEntry_cancels (hn : n < 4) (counted : Nat) (p : Present) (s : State) : OnlyCancels s (s.cancelEntry n counted p) := by
  unfold State.cancelEntry State.presentInEffect State.fadd
  exact .trans (.trans (stopPresent_records n p s).cancels (fset_time_cancels (by simp only [R.TIME_EPH_CNT_CANCELLED]; omega) _ _))
    (effectDue_records _ _).cancels

theorem setPx_cancels (n : Nat) (f : SurfPix → SurfPix) (s : State) : OnlyCancels s (s.setPx n f) := by
  constructor <;> intros <;> rfl

theorem cancelEntries_cancels (hn : n < 4) (counted : Nat) (pick : Present → Bool) (s : State) :
    OnlyCancels s (s.cancelEntries n counted pick) := by
  unfold State.cancelEntries State.showEphem
  exact .trans (.trans (setPx_cancels n _ s) (foldl_rel .refl .trans _ _ (fun v p _ => cancelEntry_cancels hn counted p v) _))
    (fset_time_cancels (by simp only [R.TIME_EPH_QUEUED]; omega) _ _)

theorem hostCancel_cancels (hn : n < 4) (s : State) : OnlyCancels s (hostCancel n s) := by
  unfold hostCancel State.fadd
  exact .trans (fset_count_cancels rfl (Nat.le_refl 16) rfl _ s) (cancelEntries_cancels hn _ _ _)

/-- The registers of HOST at a host-side reset: its count, the link where it is lost, and D0. -/
def State.linkReset (s : State) (kind : Nat) : State :=
  let u := s.fadd (if kind = 0 then R.HOST_RESET_CNT_FLR else R.HOST_RESET_CNT_LINK_LOSS) 1
  let v := if kind = 0 then u else ((u.fsetb R.HOST_STATUS_LINK_UP false).fset R.HOST_STATUS_SPEED 0).fset R.HOST_STATUS_WIDTH 0
  (v.fsetb R.HOST_STATUS_D3 false).fsetb R.HOST_STATUS_CPL_STALL false

/-- The rings, their registers, the bulk commands and the reads of presents at a host-side reset. -/
def State.ringsCleared (s : State) (kind : Nat) : State :=
  let u := { s with host := { s.host.ringsReset with pcie := s.host.pcie.afterReset kind } }
  let v := { u.resetRegs hostResetReg with cmds := { u.cmds with bulk := [], voided := [] } }
  { v with pix := { v.pix with surfs := v.pix.surfs.map SurfPix.stopReads } }

theorem xHostSideReset_eq (kind : Nat) (h5 : s.domOn 5 = true) :
    xHostSideReset kind s = overAll 4 hostCancel ((s.linkReset kind).ringsCleared kind) := by
  unfold xHostSideReset
  exact if_neg (by simp [h5])

theorem xHostSideReset_cancels (kind : Nat) (h5 : s.domOn 5 = true) :
    OnlyCancels ((s.linkReset kind).ringsCleared kind) (xHostSideReset kind s) := by
  rw [xHostSideReset_eq kind h5]
  exact overList_rel .refl .trans hostCancel _ (fun n hn u => hostCancel_cancels (List.mem_range.1 hn) u) _

theorem linkReset_d3 (kind : Nat) (s : State) : (s.linkReset kind).fbit R.HOST_STATUS_D3 = false := by
  unfold State.linkReset
  extract_lets u v
  rw [State.fsetb, fbit_fset_beside _ _ _ _ rfl rfl rfl]
  exact fbit_fsetb_self v R.HOST_STATUS_D3 false rfl rfl

/-- D3 and CPL_STALL are all that follows in HOST_STATUS. -/
theorem awake_keeps (f : Fld) (h3 : R.HOST_STATUS_D3.apart f = true) (hc : R.HOST_STATUS_CPL_STALL.apart f = true) (hf : f.fits = true)
    (s : State) : ((s.fsetb R.HOST_STATUS_D3 false).fsetb R.HOST_STATUS_CPL_STALL false).fget f = s.fget f := by
  unfold State.fsetb
  rw [fget_fset_apart _ _ _ _ hc rfl hf, fget_fset_apart _ _ _ _ h3 rfl hf]

theorem linkReset_function (s : State) :
    (s.linkReset 0).fget R.HOST_RESET_CNT_FLR = min 255 (s.fget R.HOST_RESET_CNT_FLR + 1)
      ∧ (s.linkReset 0).fbit R.HOST_STATUS_LINK_UP = s.fbit R.HOST_STATUS_LINK_UP := by
  have hx : s.linkReset 0 = ((s.fadd R.HOST_RESET_CNT_FLR 1).fsetb R.HOST_STATUS_D3 false).fsetb R.HOST_STATUS_CPL_STALL false := rfl
  rw [hx]
  refine ⟨?_, ?_⟩
  · rw [awake_keeps _ rfl rfl rfl]
    exact fget_fadd_one s _ (by decide)
  · unfold State.fbit State.fadd
    rw [awake_keeps _ rfl rfl rfl, fget_fset_addr _ _ _ _ (by decide)]

theorem linkReset_link {kind : Nat} (hk : kind ≠ 0) (s : State) :
    (s.linkReset kind).fget R.HOST_RESET_CNT_LINK_LOSS = min 255 (s.fget R.HOST_RESET_CNT_LINK_LOSS + 1)
      ∧ (s.linkReset kind).fbit R.HOST_STATUS_LINK_UP = false := by
  unfold State.linkReset
  simp only [if_neg hk]
  refine ⟨?_, ?_⟩
  · rw [awake_keeps _ rfl rfl rfl, fget_fset_addr _ _ _ _ (by decide), fget_fset_addr _ _ _ _ (by decide), State.fsetb,
      fget_fset_addr _ _ _ _ (by decide)]
    exact fget_fadd_one s _ (by decide)
  · unfold State.fbit
    rw [awake_keeps _ rfl rfl rfl, fget_fset_beside _ _ _ _ rfl rfl rfl, fget_fset_beside _ _ _ _ rfl rfl rfl]
    exact fbit_fsetb_self _ R.HOST_STATUS_LINK_UP false rfl rfl

theorem nth_map_all {α : Type} [Inhabited α] {P : α → Prop} (f : α → α) (hd : P default) (hf : ∀ q, P (f q)) (l : List α) (n : Nat) :
    P (nth (l.map f) n) := by
  induction l generalizing n with
  | nil => exact hd
  | cons a l ih =>
    cases n with
    | zero => exact hf a
    | succ n => exact ih n

theorem ringsCleared_ring (kind n : Nat) (s : State) :
    ((s.ringsCleared kind).ring n).arrived = [] ∧ ((s.ringsCleared kind).ring n).fence = none :=
  nth_map_all (P := fun q : Ring => q.arrived = [] ∧ q.fence = none) (fun q : Ring => { head := q.restart, tail := q.restart })
    ⟨rfl, rfl⟩ (fun _ => ⟨rfl, rfl⟩) s.host.rings n

theorem ringsCleared_rd (kind a : Nat) (s : State) : (s.ringsCleared kind).rd a = (s.resetRegs hostResetReg).rd a := by
  unfold State.rd State.ringsCleared State.resetRegs
  dsimp only

theorem ringsCleared_fget (kind : Nat) {f : Fld} (hf : hostResetReg f.addr = false) (s : State) :
    (s.ringsCleared kind).fget f = s.fget f := by
  unfold State.fget
  rw [ringsCleared_rd, resetRegs_rd hf]

theorem regGet_filter_picked {pick : Nat → Bool} {a : Nat} (ha : pick a = true) (r : RegFile) :
    regGet (r.filter fun e => !pick e.1) a = 0 := by
  induction r with
  | nil => rfl
  | cons e r ih =>
    obtain ⟨x, v⟩ := e
    by_cases hp : pick x = true
    · rw [List.filter_cons_of_neg (by simp [hp]), ih]
    · rw [List.filter_cons_of_pos (by simp [hp])]
      exact (if_neg (by rintro rfl; exact hp ha)).trans ih

/-- A register that a reset picks and whose reset word is 0 reads 0. -/
theorem resetRegs_rd_zero {pick : Nat → Bool} {a : Nat} (ha : pick a = true) (hz : ∀ e ∈ resetWords, e.1 ≠ a) (s : State) :
    (s.resetRegs pick).rd a = 0 :=
  (regGet_foldl_regInsert (fun e he => hz e (List.mem_of_mem_filter he)) _).trans (regGet_filter_picked ha s.regs)

/-- ENABLE of every ring is 0 at reset. -/
theorem resetWords_ctrl : ∀ n < 7, ∀ e ∈ resetWords, e.1 ≠ 0x1010C + n * 0x40 := by decide +kernel

theorem ringsCleared_enable (kind : Nat) (hn : n < 7) (s : State) :
    (s.ringsCleared kind).fbit (R.HOST_RING_CTRL_ENABLE n) = false := by
  have hpick : hostResetReg (0x1010C + n * 0x40) = true := by unfold hostResetReg; simp; omega
  have h := resetRegs_rd_zero hpick (resetWords_ctrl n hn) s
  rw [fbit_eq_false, State.fget, ringsCleared_rd, show (R.HOST_RING_CTRL_ENABLE n).addr = 0x1010C + n * 0x40 from rfl, h]
  simp [wordField]

/-- What a host-side reset leaves of the rings and of the commands in hand. -/
theorem xHostSideReset_clears (kind : Nat) (h5 : s.domOn 5 = true) (hn : n < 7) :
    (xHostSideReset kind s).fbit (R.HOST_RING_CTRL_ENABLE n) = false ∧ ((xHostSideReset kind s).ring n).arrived = []
      ∧ ((xHostSideReset kind s).ring n).fence = none := by
  have hc := xHostSideReset_cancels kind h5
  obtain ⟨harr, hfence⟩ := ringsCleared_ring kind n (s.linkReset kind)
  refine ⟨?_, (hc.arrived n).trans harr, (hc.fence n).trans hfence⟩
  rw [fbit_eq_false, State.fget, hc.rd _ (by simp only [R.HOST_RING_CTRL_ENABLE]; omega) (by simp only [R.HOST_RING_CTRL_ENABLE]; omega)
    (by unfold recordReg; simp only [R.HOST_RING_CTRL_ENABLE]; omega)]
  exact fbit_eq_false.1 (ringsCleared_enable kind hn _)

/-- The low bits of HOST_STATUS and the counts of resets are what the link's reset made them. -/
theorem xHostSideReset_status (kind : Nat) (h5 : s.domOn 5 = true) {f : Fld} (hf : f.addr = 0x10000) (hl : f.lo + f.width ≤ 8) :
    (xHostSideReset kind s).fget f = (s.linkReset kind).fget f := by
  rw [(xHostSideReset_cancels kind h5).status f hf hl, ringsCleared_fget kind (by rw [hf]; rfl)]

theorem xHostSideReset_count (kind : Nat) (h5 : s.domOn 5 = true) {f : Fld} (hf : f.addr = 0x10010) (hl : f.lo + f.width ≤ 16) :
    (xHostSideReset kind s).fget f = (s.linkReset kind).fget f := by
  rw [(xHostSideReset_cancels kind h5).resets f hf hl, ringsCleared_fget kind (by rw [hf]; rfl)]

end HostLink

/-- Settles O4: each by the bits and records that it writes, a host-side reset with the timed presents that it cancels. -/
theorem hostLinkActs : Obligations.HostLinkActs := by
  unfold Obligations.HostLinkActs
  refine ⟨?_, ?_, ?_, ?_, ?_, ?_⟩
  · intro s d3 h5
    refine ⟨s.after (xPowerStateChange d3 s), rfl, ?_⟩
    rw [after_fbit _ _ _ (by decide), xPowerStateChange_d3 d3 h5]
  · intro s on mem en fm eg ec k m tmo a h5
    obtain ⟨hon, hcfg⟩ := xBusMaster_written (s := s) on mem en fm eg ec k m tmo a h5
    refine ⟨s.after (xBusMaster on mem en fm eg ec k m tmo a s), rfl, ?_, ?_⟩
    · rw [after_busMaster, hon]
    · rw [after_pcie, hcfg]
  · intro s speed width h5
    obtain ⟨hup, hspeed, hwidth⟩ := xPcieLinkUp_shows (s := s) speed.isLt width.isLt h5
    refine ⟨s.after (xPcieLinkUp speed width s), rfl, ?_, ?_, ?_⟩
    · rw [after_fbit _ _ _ (by decide), hup]
    · rw [after_fget _ _ _ (by decide), hspeed]
    · rw [after_fget _ _ _ (by decide), hwidth]
  · intro s k _ h5
    refine ⟨s.after (xHostSideReset k s), rfl, ?_, fun n hn => ?_, ?_, fun hk => ?_, fun hk => ?_⟩
    · rw [after_fbit _ _ _ (by decide), State.fbit, xHostSideReset_status k h5 rfl (by decide)]
      exact linkReset_d3 k s
    · rw [after_fbit _ _ _ (by simp only [R.HOST_RING_CTRL_ENABLE]; omega), after_ring_arrived, after_ring_fence]
      exact xHostSideReset_clears k h5 hn
    · rw [after_cmds, (xHostSideReset_cancels k h5).cmds]
      rfl
    · subst hk
      obtain ⟨hcount, hup⟩ := linkReset_function s
      rw [after_fget _ _ _ (by decide), after_fbit _ _ _ (by decide), State.fbit, xHostSideReset_count _ h5 rfl (by decide),
        xHostSideReset_status _ h5 rfl (by decide)]
      exact ⟨hcount, hup⟩
    · have hk' : k.val ≠ 0 := fun h => hk (Fin.ext h)
      obtain ⟨hcount, hup⟩ := linkReset_link hk' s
      rw [after_fget _ _ _ (by decide), after_fbit _ _ _ (by decide), State.fbit, xHostSideReset_count _ h5 rfl (by decide),
        xHostSideReset_status _ h5 rfl (by decide)]
      exact ⟨hcount, hup⟩
  · intro s n hs hon hp hu
    have hx := xCoalesceTimeout_signals hon hp hu
    refine ⟨s.after (xCoalesceTimeout n s), rfl, ?_, fun he hm => after_emitted _ _ ?_⟩
    · rw [after_ring_unsig, hx]
      exact signal_unsig (by rw [shape_rings hs]; exact n.isLt)
    · rw [hx]
      exact signal_sends he hm
  · intro s n _ h
    have hx := xCoalesceTimeout_idle h
    refine ⟨s.after (xCoalesceTimeout n s), rfl, fun m _ => ?_, ?_⟩
    · rw [after_still, hx]
    · rw [after_pba, hx]

end Sys2Proof.Machine

namespace Sys2Proof.Machine

section Presents

variable {s t u : State} {n m : Nat}

/-! ## Presents -/

/-! ### What happens beside the presents -/

/-- What waits for its turn or for an ALIGN is as it was: descriptors, ALIGNs and commands. -/
structure KeepsTwin (s t : State) : Prop where
  arrived : ∀ n, (t.ring n).arrived = (s.ring n).arrived
  aligns : t.twin.aligns = s.twin.aligns
  waiting : t.twin.waiting = s.twin.waiting
  companion : t.isCompanion = s.isCompanion

/-- And so is PIX. -/
structure KeepsPix (s t : State) : Prop extends KeepsTwin s t where
  pix : t.pix = s.pix

theorem KeepsTwin.refl (s : State) : KeepsTwin s s := ⟨fun _ => rfl, rfl, rfl, rfl⟩

theorem KeepsTwin.trans (h : KeepsTwin s t) (k : KeepsTwin t u) : KeepsTwin s u :=
  ⟨fun n => (k.arrived n).trans (h.arrived n), k.aligns.trans h.aligns, k.waiting.trans h.waiting, k.companion.trans h.companion⟩

theorem KeepsPix.refl (s : State) : KeepsPix s s := ⟨.refl s, rfl⟩

theorem KeepsPix.trans (h : KeepsPix s t) (k : KeepsPix t u) : KeepsPix s u := ⟨h.toKeepsTwin.trans k.toKeepsTwin, k.pix.trans h.pix⟩

theorem KeepsPix.px (h : KeepsPix s t) (n : Nat) : t.px n = s.px n := by unfold State.px; rw [h.pix]

/-- The role is read from two registers. -/
theorem isCompanion_congr (hr : t.fget R.TWIN_STATUS_ROLE = s.fget R.TWIN_STATUS_ROLE) (hd : t.domOn 8 = s.domOn 8) :
    t.isCompanion = s.isCompanion := by
  unfold State.isCompanion State.role; rw [hr, hd]

theorem OnlyRecords.presents (h : OnlyRecords s t) : KeepsPix s t where
  arrived := h.arrived
  aligns := by rw [h.twin]
  waiting := by rw [h.twin]
  companion := isCompanion_congr (h.fget _ (by unfold recordReg; simp only [R.TWIN_STATUS_ROLE]; omega))
    (by unfold State.domOn; rw [h.fget _ (by unfold recordReg; simp only [R.PWR_DOM_STATUS_ON]; omega)])
  pix := h.pix

theorem fset_presents {f : Fld} (h7 : f.addr ≠ 0x70008) (h2 : f.addr ≠ 0x20024) (v : Nat) (s : State) : KeepsPix s (s.fset f v) where
  arrived _ := rfl
  aligns := rfl
  waiting := rfl
  companion := isCompanion_congr (fget_fset_addr s f _ v h7.symm) (domOn_fset s f v 8 h2)
  pix := rfl

theorem setPx_twin (n : Nat) (f : SurfPix → SurfPix) (s : State) : KeepsTwin s (s.setPx n f) := ⟨fun _ => rfl, rfl, rfl, rfl⟩

theorem px_setPx (hn : n < s.pix.surfs.length) (f : SurfPix → SurfPix) : (s.setPx n f).px n = f (s.px n) :=
  (nth_upd f s.pix.surfs n n).trans (if_pos ⟨rfl, hn⟩)

theorem setMode_presents (f : ModeSt → ModeSt) (s : State) : KeepsPix s (s.setMode f) := ⟨⟨fun _ => rfl, rfl, rfl, rfl⟩, rfl⟩

theorem idleRestart_presents (s : State) : KeepsPix s s.idleRestart := by
  unfold State.idleRestart
  split
  · exact ((fset_presents (by decide) (by decide) _ s).trans (fset_presents (by decide) (by decide) _ _)).trans (setMode_presents _ _)
  · exact .refl s

theorem presentSeen_presents (n : Nat) (s : State) : KeepsPix s (s.presentSeen n) := by
  unfold State.presentSeen
  extract_lets _ u
  have hu : KeepsPix s u := ⟨⟨fun _ => rfl, rfl, rfl, rfl⟩, rfl⟩
  split
  · exact (hu.trans (fset_presents (by decide) (by decide) _ u)).trans (setMode_presents _ _)
  · exact hu

theorem showSlots_presents (s : State) : KeepsPix s s.showSlots := by
  unfold State.showSlots overAll
  refine .trans (fset_presents (f := R.PIX_COMP_STATUS_SLOTS_USED) (by decide) (by decide) _ s)
    (overList_rel .refl .trans _ _ (fun k hk u => ?_) _)
  have hk : k < 2 := List.mem_range.1 hk
  exact (fset_presents (by simp only [R.PIX_SCALER_IN_USE]; omega) (by simp only [R.PIX_SCALER_IN_USE]; omega) _ u).trans
    (fset_presents (by simp only [R.PIX_SCALER_OWNER]; omega) (by simp only [R.PIX_SCALER_OWNER]; omega) _ _)

theorem showEphem_presents (hn : n < 4) (s : State) : KeepsPix s (s.showEphem n) :=
  fset_presents (by simp only [R.TIME_EPH_QUEUED]; omega) (by simp only [R.TIME_EPH_QUEUED]; omega) _ s

/-! ### Reads and completions -/

theorem fetchHost_records (q : HeldRead) (s : State) : OnlyRecords s (s.fetchHost q) := by
  unfold State.fetchHost
  split
  · constructor
    case out => exact ⟨[], by simp⟩
    all_goals first | rfl | (intros; rfl)
  · exact readHost_records _ _ _

theorem layerRead_records (pos layer addr len : Nat) (s : State) : OnlyRecords s (s.layerRead pos layer addr len) := by
  unfold State.layerRead
  split
  · exact fetchHost_records _ s
  · exact .refl s

theorem prefetch_records (p : Present) (s : State) : OnlyRecords s (s.prefetch p) :=
  foldl_rel .refl .trans _ _ (fun u i _ => foldl_rel .refl .trans _ _ (fun v q _ => layerRead_records _ i q.1 q.2 v) u) s

theorem supersede_records (n : Nat) (p : Present) (s : State) : OnlyRecords s (s.supersede n p) := by
  unfold State.supersede State.supersededEvent State.presentInEffect
  exact ((stopPresent_records n p s).trans (eventSurf_records _ _ _ _ _)).trans (effectDue_records _ _)

/-! ### What the LEAD sends -/

theorem send_presents (o : Output) (s : State) : KeepsPix s (s.send o) := by
  unfold State.send State.laneSent
  split <;> exact ⟨⟨fun _ => rfl, rfl, rfl, rfl⟩, rfl⟩

theorem sendTwin_presents (kind : Nat) (body : List Byte) (s : State) : KeepsPix s (s.sendTwin kind body) := by
  unfold State.sendTwin
  split
  · exact .refl s
  extract_lets seq unit links
  split
  · exact .refl s
  · have h : KeepsPix s (s.sends (links.map fun t => .twinPacket t kind seq (twinBytes t unit kind seq body))) :=
      foldl_rel .refl .trans _ _ (fun u o _ => send_presents o u) s
    exact h.trans ⟨⟨fun _ => rfl, rfl, rfl, rfl⟩, rfl⟩

theorem sendAlign_presents (d : Desc) (n ph j frame : Nat) (s : State) : KeepsPix s (s.sendAlign d n ph j frame) := by
  unfold State.sendAlign
  split
  · exact .refl s
  · exact sendTwin_presents _ _ s

/-! ### The presents that a surface keeps -/

/-- The presents of a surface by their descriptors, and the layer slots held. -/
def SurfPix.orders (q : SurfPix) : Option Desc × List LayerRec × List Desc × List Desc :=
  (q.next.map (·.desc), q.slots, q.shadow.map (·.1.desc), q.ephem.map (·.desc))

theorem mapPresents_orders {g : Present → Present} (hg : ∀ p, (g p).desc = p.desc) (q : SurfPix) : (q.mapPresents g).orders = q.orders := by
  simp [SurfPix.mapPresents, SurfPix.orders, Option.map_map, List.map_map, Function.comp_def, hg]

theorem editPresent_orders (pos : Nat) {f : Present → Present} (hf : ∀ p, (f p).desc = p.desc) (n : Nat) (s : State) :
    ((s.editPresent pos f).px n).orders = (s.px n).orders :=
  nth_map_keep SurfPix.orders _ (mapPresents_orders fun p => by split <;> simp [hf]) s.pix.surfs n

theorem editPresent_twin (pos : Nat) (f : Present → Present) (s : State) : KeepsTwin s (s.editPresent pos f) := ⟨fun _ => rfl, rfl, rfl, rfl⟩

theorem settlePresent_orders (pos n : Nat) (s : State) : ((s.settlePresent pos).px n).orders = (s.px n).orders := by
  rcases settlePresent_eq pos s with h | ⟨u, hu, h⟩
  · rw [h]
  · rw [h, editPresent_orders pos (f := fun q => { q with owed := false }) (fun _ => rfl) n u, hu.presents.px]

theorem settlePresent_twin (pos : Nat) (s : State) : KeepsTwin s (s.settlePresent pos) := by
  rcases settlePresent_eq pos s with h | ⟨u, hu, h⟩
  · rw [h]; exact .refl s
  · rw [h]; exact hu.presents.toKeepsTwin.trans (editPresent_twin _ _ u)

/-! ### A COMPANION with nothing to match -/

theorem twinRun_quiet (ha : s.twin.aligns = []) (hw : s.twin.waiting.all (fun c => c.align.isNone) = true) : s.twinRun = s := by
  unfold State.twinRun
  rw [ha]
  have h : ∀ l : List TwinCmd, l.all (fun c => c.align.isNone) = true → l.foldl (fun s c => twinRunCmd c s) s = s := by
    intro l hl
    induction l with
    | nil => rfl
    | cons c l ih =>
      obtain ⟨hc, hl⟩ := Bool.and_eq_true_iff.1 (List.all_cons ▸ hl)
      have hrun : twinRunCmd c s = s := by unfold twinRunCmd; rw [Option.isNone_iff_eq_none.1 hc]
      rw [List.foldl_cons, hrun, ih hl]
  exact h _ hw

/-- Where no ALIGN has come, nothing settles. -/
theorem settled_quiet (h : s.isCompanion = true → s.twin.aligns = [] ∧ s.twin.waiting.all (fun c => c.align.isNone) = true) : settled s = s := by
  unfold settled
  split
  · rename_i hc
    obtain ⟨ha, hw⟩ := h hc
    unfold State.twinSettle
    rw [twinRun_quiet ha hw]
    dsimp only
    rw [ha]
    exact twinRun_quiet ha hw
  · rfl

theorem KeepsTwin.settled (h : KeepsTwin s t)
    (hq : s.isCompanion = true → s.twin.aligns = [] ∧ s.twin.waiting.all (fun c => c.align.isNone) = true) : settled t = t :=
  settled_quiet (by rw [h.companion, h.aligns, h.waiting]; exact hq)

/-! ### The descriptor that a command takes off its ring -/

theorem ready_front {r : Nat} {ops : List Nat} {d : Desc} (h : s.ready r ops = some d) : s.front r = some d := by
  unfold State.ready at h
  split at h
  · cases h
  · rename_i e he
    split at h
    · rw [he, Option.some.inj h]
    · cases h

theorem popDesc_eq {r : Nat} {d : Desc} (h : s.front r = some d) :
    s.popDesc r = (s.stampSlot r d.pos).setRing r fun q => { q with arrived := q.arrived.drop 1 } := by
  unfold State.popDesc
  rw [h]

theorem popDesc_arrived {r : Nat} {d : Desc} (h : s.front r = some d) (hr : r < s.host.rings.length) :
    ((s.popDesc r).ring r).arrived = (s.ring r).arrived.drop 1 := by
  have hlen : r < (s.stampSlot r d.pos).host.rings.length := by
    unfold State.stampSlot
    rw [State.setRing_host]
    simpa [upd_length] using hr
  rw [popDesc_eq h, ring_setRing_same _ _ _ hlen]
  unfold State.stampSlot
  rw [ring_setRing_same _ _ _ hr]

/-- Taking a descriptor off its ring leaves all but the rings. -/
theorem popDesc_rest {r : Nat} {d : Desc} (h : s.front r = some d) :
    (s.popDesc r).pix = s.pix ∧ (s.popDesc r).twin = s.twin ∧ (s.popDesc r).isCompanion = s.isCompanion := by
  rw [popDesc_eq h]
  exact ⟨rfl, rfl, rfl⟩

/-! ### PRESENT -/

theorem takeSlots_px (hn : n < s.pix.surfs.length) (rs : List LayerRec) : (s.takeSlots n rs).px n = { s.px n with slots := rs } :=
  ((showSlots_presents _).px n).trans (px_setPx hn _)

theorem takeSlots_twin (n : Nat) (rs : List LayerRec) (s : State) : KeepsTwin s (s.takeSlots n rs) :=
  (setPx_twin n _ s).trans (showSlots_presents _).toKeepsTwin

theorem takeSlots_surfs (n : Nat) (rs : List LayerRec) (s : State) : (s.takeSlots n rs).pix.surfs.length = s.pix.surfs.length := by
  unfold State.takeSlots
  rw [(showSlots_presents _).pix]
  exact upd_length _ _ _

/-- The state in which the reads of a valid PRESENT are under way and its slots taken. -/
def State.presentTaken (s : State) (d : Desc) : State :=
  (((s.prefetch (s.presentOf d false)).takeSlots d.target d.layers).presentSeen d.target).idleRestart

theorem presentTaken_twin (d : Desc) (s : State) : KeepsTwin s (s.presentTaken d) :=
  (((prefetch_records _ s).presents.toKeepsTwin.trans (takeSlots_twin _ _ _)).trans (presentSeen_presents _ _).toKeepsTwin).trans
    (idleRestart_presents _).toKeepsTwin

theorem presentTaken_pix (d : Desc) (s : State) :
    (s.presentTaken d).pix = ((s.prefetch (s.presentOf d false)).takeSlots d.target d.layers).pix :=
  ((presentSeen_presents _ _).trans (idleRestart_presents _)).pix

theorem presentTaken_px {d : Desc} (hd : d.target < s.pix.surfs.length) :
    (s.presentTaken d).px d.target = { s.px d.target with slots := d.layers } := by
  have hpre := (prefetch_records (s.presentOf d false) s).presents
  have h := takeSlots_px (s := s.prefetch (s.presentOf d false)) (by rw [hpre.pix]; exact hd) d.layers
  rw [hpre.px] at h
  unfold State.px at *
  rw [presentTaken_pix, h]

theorem presentTaken_surfs (d : Desc) (s : State) : (s.presentTaken d).pix.surfs.length = s.pix.surfs.length := by
  rw [presentTaken_pix, takeSlots_surfs, (prefetch_records _ s).pix]

/-- What a valid PRESENT makes of its surface: the next present, or on a COMPANION one more that waits for a named frame. -/
theorem presentValid_acts {d : Desc} (hd : d.target < s.pix.surfs.length) :
    KeepsTwin s (s.presentValid d)
      ∧ (s.isCompanion = false → ((s.presentValid d).px d.target).orders
          = (some d, d.layers, (s.px d.target).shadow.map (·.1.desc), (s.px d.target).ephem.map (·.desc)))
      ∧ (s.isCompanion = true → ((s.presentValid d).px d.target).orders
          = ((s.px d.target).next.map (·.desc), d.layers, (s.px d.target).shadow.map (·.1.desc) ++ [d], (s.px d.target).ephem.map (·.desc))) := by
  have htaken := presentTaken_twin d s
  have hpx := presentTaken_px hd
  have hlen : d.target < (s.presentTaken d).pix.surfs.length := by rw [presentTaken_surfs]; exact hd
  have hx : s.presentValid d = (if (s.presentTaken d).isCompanion = true then
        (s.presentTaken d).setPx d.target fun q => { q with shadow := q.shadow ++ [(s.presentOf d false, d.key)] }
      else
        let v := match ((s.presentTaken d).px d.target).next with
          | some q => (s.presentTaken d).supersede d.target q
          | none => s.presentTaken d
        let v := v.setPx d.target fun q => { q with next := some (s.presentOf d false) }
        if (v.nextFrame d.target).isSome then v.alignFrame d d.target (v.targetFrame d.target) else v).settlePresent d.pos := rfl
  rw [hx]
  cases hc : s.isCompanion with
  | true =>
    rw [if_pos (htaken.companion.trans hc)]
    refine ⟨(htaken.trans (setPx_twin _ _ _)).trans (settlePresent_twin _ _), nofun, fun _ => ?_⟩
    rw [settlePresent_orders, px_setPx hlen, hpx]
    simp only [SurfPix.orders, List.map_append, List.map_cons, List.map_nil]
    rfl
  | false =>
    rw [if_neg (by rw [htaken.companion, hc]; decide)]
    extract_lets v w
    have hv : KeepsPix (s.presentTaken d) v := by
      unfold v
      split
      · exact (supersede_records _ _ _).presents
      · exact .refl _
    have hw : w.px d.target = { s.px d.target with slots := d.layers, next := some (s.presentOf d false) } := by
      unfold w
      rw [px_setPx (by rw [hv.pix]; exact hlen), hv.px, hpx]
    have hlast : KeepsPix w (if (w.nextFrame d.target).isSome = true then w.alignFrame d d.target (w.targetFrame d.target) else w) := by
      split
      · exact sendAlign_presents _ _ _ _ _ w
      · exact .refl w
    refine ⟨(((htaken.trans hv.toKeepsTwin).trans (setPx_twin _ _ v)).trans hlast.toKeepsTwin).trans (settlePresent_twin _ _), fun _ => ?_, nofun⟩
    rw [settlePresent_orders, hlast.px, hw]
    rfl

/-! ### Presents found and edited -/

theorem nth_map_of_default {α β : Type} [Inhabited α] [Inhabited β] (f : α → β) (hd : f default = default) (l : List α) (n : Nat) :
    nth (l.map f) n = f (nth l n) := by
  induction l generalizing n with
  | nil => exact hd.symm
  | cons a l ih =>
    cases n with
    | zero => rfl
    | succ n => exact ih n

/-- A present as an edit of a position leaves it. -/
def editAt (pos : Nat) (f : Present → Present) (p : Present) : Present := if p.desc.pos = pos then f p else p

theorem editAt_desc (pos : Nat) {f : Present → Present} (hf : ∀ p, (f p).desc = p.desc) (p : Present) : (editAt pos f p).desc = p.desc := by
  unfold editAt
  split
  · exact hf p
  · rfl

theorem mapPresents_presents (g : Present → Present) (q : SurfPix) : (q.mapPresents g).presents = q.presents.map g := by
  cases hn : q.next <;> simp [SurfPix.mapPresents, SurfPix.presents, hn, Function.comp_def]

theorem editPresent_px (pos : Nat) (f : Present → Present) (s : State) (n : Nat) :
    (s.editPresent pos f).px n = (s.px n).mapPresents (editAt pos f) :=
  nth_map_of_default (SurfPix.mapPresents (editAt pos f)) rfl s.pix.surfs n

theorem findPresent_congr (h : t.pix = s.pix) (pos : Nat) : t.findPresent pos = s.findPresent pos := by
  unfold State.findPresent State.px
  rw [h]

theorem findPresent_pos {pos : Nat} {e : Nat × Present} (h : s.findPresent pos = some e) : e.2.desc.pos = pos :=
  beq_iff_eq.1 (List.find?_some (p := fun e : Nat × Present => e.2.desc.pos == pos) h)

/-- An edit that leaves the descriptors finds the same presents, edited. -/
theorem findPresent_editPresent (pos : Nat) {f : Present → Present} (hf : ∀ p, (f p).desc = p.desc) (s : State) :
    (s.editPresent pos f).findPresent pos = (s.findPresent pos).map fun e => (e.1, f e.2) := by
  let g : Nat × Present → Nat × Present := fun e => (e.1, editAt pos f e.2)
  have hlist : ((List.range 4).flatMap fun n => ((s.editPresent pos f).px n).presents.map fun p => (n, p))
      = ((List.range 4).flatMap fun n => (s.px n).presents.map fun p => (n, p)).map g := by
    rw [List.map_flatMap]
    congr 1
    funext n
    rw [editPresent_px, mapPresents_presents, List.map_map, List.map_map]
    rfl
  have hpred : ((fun e : Nat × Present => e.2.desc.pos == pos) ∘ g) = fun e => e.2.desc.pos == pos := by
    funext e
    simp only [g, Function.comp_apply, editAt_desc pos hf]
  have hmap : (s.editPresent pos f).findPresent pos = (s.findPresent pos).map g := by
    unfold State.findPresent
    rw [hlist, List.find?_map, hpred]
  rw [hmap]
  cases h : s.findPresent pos with
  | none => rfl
  | some e => exact congrArg (fun p => some (e.1, p)) (if_pos (findPresent_pos h))

/-- The completion of a present leaves its layers. -/
theorem settlePresent_layers (pos : Nat) (s : State) :
    ((s.settlePresent pos).findPresent pos).map (·.2.layers) = (s.findPresent pos).map (·.2.layers) := by
  rcases settlePresent_eq pos s with h | ⟨u, hu, h⟩
  · rw [h]
  · rw [h, findPresent_editPresent pos (f := fun q => { q with owed := false }) (fun _ => rfl), findPresent_congr hu.pix]
    cases s.findPresent pos <;> rfl

/-! ### The end of a read -/

/-- The layer as the rows read leave it. -/
def LayerBuf.readAs (l : LayerBuf) (r : Rows × Bool × List Nat) : LayerBuf := { l with done := r.2.1, failed := !r.2.1, rows := r.1 }

/-- What the reads of a layer gave, or that the read failed. -/
def layerFetched (p : Present) (layer : Nat) (ok : Bool) (b : LayerData) : Rows × Bool × List Nat :=
  if ok then fetchRows p layer (nth p.layers layer).record b (List.range (lySrcH (nth p.layers layer).record)) else ([], false, [])

/-- The rows to be read again, requested. -/
def State.rereads (s : State) (pos layer : Nat) (r : LayerRec) (vs : List Nat) : State :=
  vs.foldl (fun s v => (s.layerRead pos layer (lyAddr r + v * lyPitch r) (lyRowBytes r)).layerRead pos layer (lyLineCrc r + 4 * v) 4) s

theorem rereads_records (pos layer : Nat) (r : LayerRec) (vs : List Nat) (s : State) : OnlyRecords s (s.rereads pos layer r vs) :=
  foldl_rel .refl .trans _ _ (fun u _ _ => (layerRead_records _ _ _ _ u).trans (layerRead_records _ _ _ _ _)) s

theorem xPrefetchComplete_open {pos layer : Nat} {p : Present} (hp : s.findPresent pos = some (n, p)) (hl : layer < p.layers.length)
    (hpend : (nth p.layers layer).pending = false) (hdone : (nth p.layers layer).done = false)
    (hfail : (nth p.layers layer).failed = false) (ok : Bool) (b : LayerData) :
    xPrefetchComplete pos layer ok b s
      = ((s.rereads pos layer (nth p.layers layer).record (layerFetched p layer ok b).2.2).editPresent pos
          fun q => { q with layers := upd (fun _ => (nth p.layers layer).readAs (layerFetched p layer ok b)) q.layers layer }).settlePresent pos := by
  unfold xPrefetchComplete
  rw [hp]
  exact if_neg (by simp [hpend, hdone, hfail, hl])

theorem xPrefetchComplete_layer {pos layer : Nat} {p : Present} (hp : s.findPresent pos = some (n, p)) (hl : layer < p.layers.length)
    (hpend : (nth p.layers layer).pending = false) (hdone : (nth p.layers layer).done = false)
    (hfail : (nth p.layers layer).failed = false) (ok : Bool) (b : LayerData) :
    ((xPrefetchComplete pos layer ok b s).findPresent pos).map (fun e => nth e.2.layers layer)
      = some ((nth p.layers layer).readAs (layerFetched p layer ok b)) := by
  have hlayers : ((xPrefetchComplete pos layer ok b s).findPresent pos).map (·.2.layers)
      = some (upd (fun _ => (nth p.layers layer).readAs (layerFetched p layer ok b)) p.layers layer) := by
    rw [xPrefetchComplete_open hp hl hpend hdone hfail, settlePresent_layers]
    generalize nth p.layers layer = l
    rw [findPresent_editPresent _ (by intro q; rfl), findPresent_congr (rereads_records _ _ _ _ s).pix, hp]
    rfl
  have hnth := congrArg (Option.map fun ls => nth ls layer) hlayers
  rw [Option.map_map, Option.map_some, nth_upd, if_pos ⟨rfl, hl⟩] at hnth
  exact hnth

theorem xPrefetchComplete_closed {pos layer : Nat}
    (h : (s.findPresent pos).all (fun e => decide (e.2.layers.length ≤ layer) || (nth e.2.layers layer).pending
      || (nth e.2.layers layer).done || (nth e.2.layers layer).failed) = true) (ok : Bool) (b : LayerData) :
    xPrefetchComplete pos layer ok b s = s := by
  unfold xPrefetchComplete
  cases hp : s.findPresent pos with
  | none => rfl
  | some e =>
    rw [hp] at h
    exact if_pos (by simpa [or_assoc] using h)

/-! ### PRESENT_TIMED -/

theorem timedValid_acts {d : Desc} (hd : d.target < 4) (hlen : s.pix.surfs.length = 4) :
    KeepsTwin s (s.timedValid d)
      ∧ ((s.timedValid d).px d.target).ephem.map (·.desc) = (s.px d.target).ephem.map (·.desc) ++ [d] := by
  let p := s.presentOf d true
  let u := (s.prefetch p).idleRestart
  let v := u.setPx d.target fun q => { q with ephem := q.ephem ++ [p] }
  let w := v.showEphem d.target
  have hu : KeepsPix s u := (prefetch_records p s).presents.trans (idleRestart_presents _)
  have hw : KeepsPix v w := showEphem_presents hd v
  have hwpx : w.px d.target = { s.px d.target with ephem := (s.px d.target).ephem ++ [p] } := by
    rw [hw.px, px_setPx (by rw [hu.pix, hlen]; exact hd), hu.px]
  have hnamed : ∀ x : State, KeepsTwin w x ∧ (x.px d.target).orders = (w.px d.target).orders →
      KeepsTwin s (x.settlePresent d.pos)
        ∧ ((x.settlePresent d.pos).px d.target).ephem.map (·.desc) = (s.px d.target).ephem.map (·.desc) ++ [d] := by
    rintro x ⟨hx, hord⟩
    refine ⟨((hu.toKeepsTwin.trans (setPx_twin _ _ u)).trans hw.toKeepsTwin).trans (hx.trans (settlePresent_twin _ x)), ?_⟩
    have h : ((x.settlePresent d.pos).px d.target).orders = (w.px d.target).orders := (settlePresent_orders _ _ x).trans hord
    have he := congrArg (fun o => o.2.2.2) h
    simp only [SurfPix.orders] at he
    rw [he, hwpx, List.map_append]
    rfl
  have hx : s.timedValid d = (match w.launchFrame d.target p.launch with
      | some k => if w.isLead then (w.alignFrame d d.target k).editPresent d.pos fun q => { q with named := some k } else w
      | none => w).settlePresent d.pos := rfl
  rw [hx]
  apply hnamed
  split
  · rename_i k _
    split
    · have hsent : KeepsPix w (w.alignFrame d d.target k) := sendAlign_presents _ _ _ _ _ w
      refine ⟨hsent.toKeepsTwin.trans (editPresent_twin _ _ _), ?_⟩
      rw [editPresent_orders d.pos (f := fun q => { q with named := some k }) (fun _ => rfl), hsent.px]
    · exact ⟨.refl w, rfl⟩
  · exact ⟨.refl w, rfl⟩

/-! ### CANCEL_TIMED -/

theorem cancelEntry_presents (hn : n < 4) (counted : Nat) (p : Present) (s : State) : KeepsPix s (s.cancelEntry n counted p) := by
  unfold State.cancelEntry State.presentInEffect State.fadd
  exact ((stopPresent_records n p s).presents.trans (fset_presents (by simp only [R.TIME_EPH_CNT_CANCELLED]; omega)
    (by simp only [R.TIME_EPH_CNT_CANCELLED]; omega) _ _)).trans (effectDue_records _ _).presents

theorem cancelEntries_acts (hn : n < 4) (hlen : s.pix.surfs.length = 4) (counted : Nat) (pick : Present → Bool) :
    KeepsTwin s (s.cancelEntries n counted pick) ∧ ((s.cancelEntries n counted pick).px n).ephem = (s.px n).ephem.filter fun p => !pick p := by
  unfold State.cancelEntries
  extract_lets gone u
  have hu : KeepsPix u ((gone.foldl (fun s p => State.cancelEntry n counted p s) u).showEphem n) :=
    (foldl_rel .refl .trans _ _ (fun v p _ => cancelEntry_presents hn counted p v) u).trans (showEphem_presents hn _)
  refine ⟨(setPx_twin _ _ s).trans hu.toKeepsTwin, ?_⟩
  rw [hu.px]
  exact congrArg SurfPix.ephem (px_setPx (by rw [hlen]; exact hn) _)

theorem cancelApply_acts {d : Desc} (hd : d.target < 4) (hlen : s.pix.surfs.length = 4) :
    KeepsTwin s (s.cancelApply d) ∧ ((s.cancelApply d).px d.target).ephem = (s.px d.target).ephem.filter fun p => !cancels d p := by
  unfold State.cancelApply
  have hsent : KeepsPix s (s.alignWindow d d.target) := sendAlign_presents _ _ _ _ _ s
  obtain ⟨hk, he⟩ := cancelEntries_acts (s := s.alignWindow d d.target) hd (by rw [hsent.pix]; exact hlen) 0 (cancels d)
  have hc := (complete_records ((s.alignWindow d d.target).cancelEntries d.target 0 (cancels d)) d
    (if (s.cancelled d).length = 0 then .notFound else .ok) 0 (leBytes 2 (s.cancelled d).length)).presents
  refine ⟨(hsent.toKeepsTwin.trans hk).trans hc.toKeepsTwin, ?_⟩
  rw [hc.px, he, hsent.px]

/-! ### A command at the front of SUB_1 -/

theorem after_px (s t : State) (n : Nat) : (s.after t).px n = t.px n := by
  unfold State.px
  rw [after_pix]

theorem shape_surfs (h : s.shape) : s.pix.surfs.length = 4 := h.2.2.2.1

/-- A COMPANION, if it is one, on which no ALIGN has come. -/
abbrev State.quiet (s : State) : Prop :=
  s.isCompanion = true → s.twin.aligns = [] ∧ s.twin.waiting.all (fun c => c.align.isNone) = true

/-- A command that takes its descriptor off SUB_1 and changes no other wait. -/
theorem popDesc_settled {ops : List Nat} {d : Desc} (hs : s.shape) (hr : s.ready 1 ops = some d) (hq : s.quiet)
    (ht : KeepsTwin (s.popDesc 1) t) : settled t = t ∧ (t.ring 1).arrived = (s.ring 1).arrived.drop 1 := by
  obtain ⟨_, htwin, hrole⟩ := popDesc_rest (ready_front hr)
  refine ⟨ht.settled (by rw [htwin, hrole]; exact hq), ?_⟩
  rw [ht.arrived, popDesc_arrived (ready_front hr) (by rw [shape_rings hs]; decide)]

theorem popDesc_px {ops : List Nat} {d : Desc} (hr : s.ready 1 ops = some d) (k : Nat) : (s.popDesc 1).px k = s.px k := by
  unfold State.px
  rw [(popDesc_rest (ready_front hr)).1]

theorem popDesc_surfs {ops : List Nat} {d : Desc} (hs : s.shape) (hr : s.ready 1 ops = some d) : (s.popDesc 1).pix.surfs.length = 4 := by
  rw [(popDesc_rest (ready_front hr)).1]
  exact shape_surfs hs

theorem xPresent_valid {d : Desc} (hr : s.ready 1 [1] = some d) (hok : s.presentStatus d false = .ok) :
    xPresent s = (s.popDesc 1).presentValid d := by
  unfold xPresent
  rw [hr]
  exact if_pos hok

theorem xPresent_refused {d : Desc} (hr : s.ready 1 [1] = some d) (hno : s.presentStatus d false ≠ .ok) :
    xPresent s = (s.popDesc 1).complete d (s.presentStatus d false) 0 [] := by
  unfold xPresent
  rw [hr]
  exact if_neg hno

theorem xPresent_none (hr : s.ready 1 [1] = none) : xPresent s = s := by
  unfold xPresent
  rw [hr]

theorem xPresentTimed_valid {d : Desc} (hr : s.ready 1 [2] = some d) (hok : s.timedStatus d = .ok) :
    xPresentTimed s = (s.popDesc 1).timedValid d := by
  unfold xPresentTimed
  rw [hr]
  exact if_pos hok

theorem xPresentTimed_refused {d : Desc} (hr : s.ready 1 [2] = some d) (hno : s.timedStatus d ≠ .ok) :
    xPresentTimed s = (s.popDesc 1).complete d (s.timedStatus d) 0 ([0, 0, 0, 0] ++ (s.popDesc 1).timedResult d.target) := by
  unfold xPresentTimed
  rw [hr]
  exact if_neg hno

theorem xPresentTimed_none (hr : s.ready 1 [2] = none) : xPresentTimed s = s := by
  unfold xPresentTimed
  rw [hr]

/-- CANCEL_TIMED by its status and role. -/
theorem xCancelTimed_some {d : Desc} (hr : s.ready 1 [3] = some d) (hring : d.ring = 1) :
    xCancelTimed s = if s.cancelStatus d != .ok then (s.popDesc 1).complete d (s.cancelStatus d) 0 []
      else if s.isCompanion = true then { s.popDesc 1 with twin := { (s.popDesc 1).twin with
        waiting := (s.popDesc 1).twin.waiting ++ [{ desc := d, key := d.key }] } }
      else (s.popDesc 1).cancelApply d := by
  unfold xCancelTimed
  rw [hr]
  unfold State.aligned
  dsimp only
  rw [hring, (popDesc_rest (ready_front hr)).2.2]

theorem xCancelTimed_none (hr : s.ready 1 [3] = none) : xCancelTimed s = s := by
  unfold xCancelTimed
  rw [hr]

theorem present_taken {d : Desc} (hs : s.shape) (hr : s.ready 1 [1] = some d) (hq : s.quiet) (hd : d.target < 4)
    (hok : s.presentStatus d false = .ok) :
    settled (xPresent s) = (s.popDesc 1).presentValid d
      ∧ (((s.popDesc 1).presentValid d).ring 1).arrived = (s.ring 1).arrived.drop 1 := by
  have hk := (presentValid_acts (s := s.popDesc 1) (d := d) (by rw [popDesc_surfs hs hr]; exact hd)).1
  obtain ⟨hset, harr⟩ := popDesc_settled hs hr hq hk
  exact ⟨by rw [xPresent_valid hr hok, hset], harr⟩

/-- A command that waits with no ALIGN settles nothing. -/
theorem waiting_quiet (c : TwinCmd) (hc : c.align = none) (ha : s.twin.aligns = [])
    (hw : s.twin.waiting.all (fun c => c.align.isNone) = true) :
    settled { s with twin := { s.twin with waiting := s.twin.waiting ++ [c] } }
      = { s with twin := { s.twin with waiting := s.twin.waiting ++ [c] } } :=
  settled_quiet fun _ => ⟨ha, by simp [List.all_append, hw, hc]⟩

end Presents

/-- Settles O12: each command by what it makes of its surface once its descriptor is off SUB_1, and a COMPANION on which no ALIGN has
come has nothing to settle. -/
theorem presentsTake : Obligations.PresentsTake := by
  unfold Obligations.PresentsTake
  refine ⟨?_, ?_, ?_, ?_, ?_, ?_, ?_, ?_, ?_, ?_, ?_, ?_, ?_⟩
  · intro s d hs hr _ hrole hd hok
    obtain ⟨hx, harr⟩ := present_taken hs hr (fun hc => absurd hc (by rw [hrole]; decide)) hd hok
    obtain ⟨_, hacts, _⟩ := presentValid_acts (s := s.latchesDue.popDesc 1) (d := d) (by rw [popDesc_surfs hs hr]; exact hd)
    have hpx := hacts ((popDesc_rest (ready_front hr)).2.2.trans hrole)
    refine ⟨_, rfl, ?_, ?_, ?_⟩
    · rw [hx, after_px]
      exact congrArg (·.1) hpx
    · rw [hx, after_px]
      exact congrArg (·.2.1) hpx
    · rw [hx, after_ring_arrived, harr]
  · intro s d hs hr _ hrole ha hw hd hok
    obtain ⟨hx, harr⟩ := present_taken hs hr (fun _ => ⟨ha, hw⟩) hd hok
    obtain ⟨_, _, hacts⟩ := presentValid_acts (s := s.latchesDue.popDesc 1) (d := d) (by rw [popDesc_surfs hs hr]; exact hd)
    have hpx := hacts ((popDesc_rest (ready_front hr)).2.2.trans hrole)
    rw [popDesc_px hr] at hpx
    refine ⟨_, rfl, ?_, ?_, ?_⟩
    · rw [hx, after_px]
      exact congrArg (·.2.2.1) hpx
    · rw [hx, after_px]
      exact congrArg (·.2.1) hpx
    · rw [hx, after_ring_arrived, harr]
  · intro s d hr _ hno
    exact ⟨_, rfl, by rw [xPresent_refused hr hno]⟩
  · intro s hr
    exact ⟨_, rfl, by rw [xPresent_none hr]⟩
  · intro s pos layer ok rows crcs rows2 crcs2 n p hp hl hpend hdone hfail
    have h := congrArg (Option.map fun l => (l.done, l.failed, l.rows))
      (xPrefetchComplete_layer hp hl hpend hdone hfail ok ⟨rows, crcs, rows2, crcs2⟩)
    refine ⟨_, rfl, ?_⟩
    rw [findPresent_congr (after_pix _ _)]
    rw [Option.map_map] at h
    refine h.trans ?_
    cases ok <;> rfl
  · intro s pos layer ok rows crcs rows2 crcs2 h
    exact ⟨_, rfl, by rw [xPrefetchComplete_closed h]⟩
  · intro s d hs hr _ hq hd hok
    obtain ⟨hk, he⟩ := timedValid_acts (s := s.latchesDue.popDesc 1) hd (popDesc_surfs hs hr)
    obtain ⟨hset, harr⟩ := popDesc_settled hs hr hq hk
    refine ⟨_, rfl, ?_, ?_⟩
    · rw [xPresentTimed_valid hr hok, hset, after_px, he, popDesc_px hr]
    · rw [xPresentTimed_valid hr hok, hset, after_ring_arrived, harr]
  · intro s d hr _ hno
    exact ⟨_, rfl, by rw [xPresentTimed_refused hr hno]⟩
  · intro s hr
    exact ⟨_, rfl, by rw [xPresentTimed_none hr]⟩
  · intro s d hs hr hring hrole hd hok
    obtain ⟨hk, he⟩ := cancelApply_acts (s := s.latchesDue.popDesc 1) hd (popDesc_surfs hs hr)
    obtain ⟨hset, harr⟩ := popDesc_settled hs hr (fun hc => absurd hc (by rw [hrole]; decide)) hk
    have hx : settled (xCancelTimed s.latchesDue) = (s.latchesDue.popDesc 1).cancelApply d := by
      rw [xCancelTimed_some hr hring, if_neg (by rw [hok]; decide), if_neg (by rw [hrole]; decide), hset]
    refine ⟨_, rfl, ?_, ?_⟩
    · rw [hx, after_px, he, popDesc_px hr]
    · rw [hx, after_ring_arrived, harr]
  · intro s d hs hr hring hrole ha hw hok
    obtain ⟨_, htwin, _⟩ := popDesc_rest (ready_front hr)
    have hx : settled (xCancelTimed s.latchesDue) = { s.latchesDue.popDesc 1 with twin := { (s.latchesDue.popDesc 1).twin with
        waiting := (s.latchesDue.popDesc 1).twin.waiting ++ [{ desc := d, key := d.key }] } } := by
      rw [xCancelTimed_some hr hring, if_neg (by rw [hok]; decide), if_pos hrole]
      exact waiting_quiet _ rfl (by rw [htwin]; exact ha) (by rw [htwin]; exact hw)
    refine ⟨_, rfl, ?_, ?_⟩
    · rw [hx, after_twin, htwin]
    · rw [hx, after_ring_arrived]
      exact popDesc_arrived (ready_front hr) (by rw [shape_rings hs]; decide)
  · intro s d hr hring hno
    exact ⟨_, rfl, by rw [xCancelTimed_some hr hring, if_pos (by simpa using hno)]⟩
  · intro s hr
    exact ⟨_, rfl, by rw [xCancelTimed_none hr]⟩

end Sys2Proof.Machine

namespace Sys2Proof.Machine

section DefectLoads

/-! ## A defect map for a tile without a health record -/

/-- The source of a defect map of a tile of 64 × 64 pixels that names no defect. -/
def emptyDefects : List Byte := leBytes 4 0 ++ leBytes 2 64 ++ leBytes 2 64 ++ rep 8 0

/-- A MAP_LOAD of it (KIND 1) for the tile of port 0, with its length and its CRC. -/
def defectLoad : Desc :=
  { ring := 3, bytes := u8 0x50 ++ rep 23 0 ++ leBytes 4 16 ++ leBytes 4 (crcWith (sourcePrefix 0x50 0 16) emptyDefects) ++ u8 1 ++ rep 31 0 }

/-- Port 0 is bound to surface 0, which runs, and the map's source is being read; no port has a health record. -/
def healthless : State :=
  let u : State := { State.reset with
    ports := { cap := some { tw := 64, th := 64 } } :: rep 23 {}
    pix := { PixSt.init with health := [] }
    cmds := { bulk := [defectLoad] } }
  (u.fset (R.TG_PORTMAP_A_SURF 0) 0).fsetb (R.TG_STATUS_RUNNING 0) true

/-- The source is whole, its CRC is the command's, and the command is a MAP_LOAD of a defect map. -/
theorem defectLoad_source : padTo 0 defectLoad.bulkLen emptyDefects = emptyDefects
    ∧ crcWith (sourcePrefix defectLoad.opcode defectLoad.target defectLoad.bulkLen) emptyDefects = defectLoad.bulkCrc
    ∧ defectLoad.opcode = 0x50 ∧ defectLoad.mapKind = 1 := by decide +kernel

/-- The map's content checks, and its tile is on a running surface. -/
theorem healthless_checks : healthless.isCompanion = false ∧ healthless.mapSourceStatus defectLoad emptyDefects = .ok
    ∧ healthless.runsOn defectLoad.target = some 0 := by decide +kernel

/-- The end of the read gives no port a health record. -/
theorem healthless_sourceRead : (settled (xBulkSourceReadDone emptyDefects true healthless)).pix.health = [] := by decide +kernel

end DefectLoads

/-- Refutes O16: the clauses of a MAP_LOAD of KIND 1 or 2 for a tile on a running surface lack `State.shape`, or the 24 health records
that the clauses beside them ask for. What such a map stages is kept in the tile's health record, which `healthless` has for none. -/
theorem not_fencesAndBulkEnds : ¬ Obligations.FencesAndBulkEnds := by
  unfold Obligations.FencesAndBulkEnds
  rintro ⟨-, -, -, -, -, -, -, -, -, -, -, -, -, hdefects, -⟩
  obtain ⟨hwhole, hcrc, hop, hkind⟩ := defectLoad_source
  obtain ⟨hrole, hok, hruns⟩ := healthless_checks
  obtain ⟨t, hexec, -, hstaged⟩ := hdefects healthless emptyDefects defectLoad [] 0 rfl rfl hwhole hcrc hop hkind hrole hok hruns
  have hrun : exec (.bulkSourceReadDone emptyDefects true) healthless
      = .next (healthless.after (settled (xBulkSourceReadDone emptyDefects true healthless))) := rfl
  obtain rfl := Host.Outcome.next.inj (hrun.symm.trans hexec)
  rw [State.hl, after_pix, healthless_sourceRead] at hstaged
  exact absurd hstaged nofun

end Sys2Proof.Machine

namespace Sys2Proof.Machine

section Served

variable {s t u : State} {r : Nat} {ops : List Nat} {d : Desc}

/-! ## A command at the front of its ring -/

/-- What a command without an ALIGN does: the descriptor at the front of its ring, where it is ready, is checked, and applied or refused. -/
def State.serve (s : State) (r : Nat) (ops : List Nat) (status : Desc → Status) (apply : Desc → State → State) : State :=
  match s.ready r ops with
  | none => s
  | some d => s.command d (status d) (apply d)

/-- The same of a command that a COMPANION keeps until its ALIGN. -/
def State.serveAligned (s : State) (r : Nat) (ops : List Nat) (status : Desc → Status) (apply : Desc → State → State) : State :=
  match s.ready r ops with
  | none => s
  | some d => s.aligned d (status d) (apply d)

variable {status : Desc → Status} {apply : Desc → State → State}

theorem serve_none (hr : s.ready r ops = none) : s.serve r ops status apply = s := by
  unfold State.serve; rw [hr]

theorem serve_ok (hr : s.ready r ops = some d) (hring : d.ring = r) (hok : status d = .ok) :
    s.serve r ops status apply = apply d (s.popDesc r) := by
  unfold State.serve; rw [hr, ← hring]; exact if_pos hok

theorem serve_refused (hr : s.ready r ops = some d) (hring : d.ring = r) (hno : status d ≠ .ok) :
    s.serve r ops status apply = (s.popDesc r).complete d (status d) 0 [] := by
  unfold State.serve; rw [hr, ← hring]; exact if_neg hno

/-- Taking a descriptor off its ring changes the host interface alone. -/
theorem popDesc_only (r : Nat) (s : State) : ∃ h, s.popDesc r = { s with host := h } := by
  unfold State.popDesc
  split
  · exact ⟨s.host, rfl⟩
  · exact ⟨_, rfl⟩

theorem popDesc_part {α : Type} (g : State → α) (hg : ∀ h, g { s with host := h } = g s) (r : Nat) : g (s.popDesc r) = g s := by
  obtain ⟨h, e⟩ := popDesc_only r s
  rw [e, hg]

/-- A command that leaves what waits takes its descriptor off its ring, and nothing else. -/
theorem served_arrived (hs : s.shape) (hr : s.ready r ops = some d) (h7 : r < 7) (hk : KeepsTwin (s.popDesc r) t) :
    ((u.after t).ring r).arrived = (s.ring r).arrived.drop 1 := by
  rw [after_ring_arrived, hk.arrived, popDesc_arrived (ready_front hr) (by rw [shape_rings hs]; exact h7)]

end Served

section Bulk

variable {s : State} {d : Desc}

/-! ## Bulk commands -/

theorem bulkStart_acts (d : Desc) (s : State) : KeepsTwin s (s.bulkStart d) ∧ (s.bulkStart d).cmds.bulk = s.cmds.bulk ++ [d] := by
  let u : State := { s with cmds := { s.cmds with bulk := s.cmds.bulk ++ [d] } }
  have hr : OnlyRecords u (s.bulkStart d) := fetchHost_records _ u
  have hu : KeepsTwin s u := ⟨fun _ => rfl, rfl, rfl, rfl⟩
  exact ⟨hu.trans hr.presents.toKeepsTwin, by rw [hr.cmds]⟩

theorem dumpStart_acts (d : Desc) (s : State) :
    KeepsTwin s (s.dumpStart d) ∧ (s.dumpStart d).cmds.dumps.map (·.1) = s.cmds.dumps.map (·.1) ++ [d] := by
  unfold State.dumpStart
  extract_lets all out res _ u
  have hr : OnlyRecords u (u.writeHost d.bulkAddr out) := writeHost_records _ _ _
  have hu : KeepsTwin s u := ⟨fun _ => rfl, rfl, rfl, rfl⟩
  refine ⟨hu.trans hr.presents.toKeepsTwin, ?_⟩
  rw [hr.cmds]
  exact List.map_append

/-! ### SEG_START -/

theorem mem_maskList_iff {n m i : Nat} : i ∈ maskList n m ↔ i < n ∧ bitOf m i = true := by
  unfold maskList; rw [List.mem_filter, List.mem_range]

theorem bank_congr {s t : State} (h : t.seg = s.seg) (b : Nat) : t.bank b = s.bank b := by unfold State.bank; rw [h]

theorem bank_armBank (src b c : Nat) (hb : b < s.seg.banks.length) :
    (armBank src c s).bank b = if b = c then { s.bank b with armed := some (src, false) } else s.bank b := by
  refine (nth_upd _ s.seg.banks c b).trans ?_
  by_cases h : b = c
  · rw [if_pos h, if_pos ⟨h.symm, hb⟩]; rfl
  · rw [if_neg h, if_neg fun hc => h hc.1.symm]; rfl

theorem armBanks_bank (src : Nat) (l : List Nat) {b : Nat} (s : State) (hb : b < s.seg.banks.length) :
    (overList (armBank src) l s).bank b = if b ∈ l then { s.bank b with armed := some (src, false) } else s.bank b := by
  induction l generalizing s with
  | nil => rfl
  | cons c l ih =>
    have hlen : (armBank src c s).seg.banks.length = s.seg.banks.length := upd_length _ _ _
    rw [overList, ih _ (by rw [hlen]; exact hb), bank_armBank _ _ _ hb]
    by_cases h : b = c <;> simp [h]

theorem segStartApply_acts (d : Desc) (hl : s.seg.banks.length = 12) : KeepsTwin s (s.segStartApply d)
    ∧ ∀ b, b < 12 → (s.segStartApply d).bank b
      = if bitOf (d.arg 16 2) b = true then { s.bank b with armed := some (d.arg 18 1, false) } else s.bank b := by
  unfold State.segStartApply
  extract_lets banks a b
  have ha : KeepsTwin s a := overList_rel .refl .trans _ _ (fun _ _ _ => ⟨fun _ => rfl, rfl, rfl, rfl⟩) s
  have hr : OnlyRecords b (b.completeAt d .ok 0 [] (if banks = 0 then .now else .segSwap banks)) := completeAt_records _ _ _ _ _ _
  refine ⟨(ha.trans (fset_presents (by decide) (by decide) _ a).toKeepsTwin).trans hr.presents.toKeepsTwin, fun k hk => ?_⟩
  rw [bank_congr hr.seg k, bank_congr (State.fset_seg _ _ _) k, armBanks_bank _ _ s (by rw [hl]; exact hk)]
  simp only [mem_maskList_iff, hk, true_and]
  rfl

/-! ### SPB_COMMIT and FW_ACTIVATE -/

theorem commitStart_acts (d : Desc) (s : State) : KeepsTwin s (s.commitStart d)
    ∧ (s.commitStart d).fbit R.SAFE_COMM_STATUS_COMMIT_BUSY = true ∧ (s.commitStart d).flash.maxSeq = (s.flash.maxSeq + 1) % 2 ^ 32 := by
  unfold State.commitStart
  extract_lets seq a
  have ha : KeepsTwin s a := ⟨fun _ => rfl, rfl, rfl, rfl⟩
  have hb := (fset_presents (f := R.SAFE_COMM_STATUS_COMMIT_BUSY) (by decide) (by decide) (b2n true) a).toKeepsTwin
  refine ⟨(ha.trans hb).trans ⟨fun _ => rfl, rfl, rfl, rfl⟩, ?_, rfl⟩
  exact fbit_fsetb_self a R.SAFE_COMM_STATUS_COMMIT_BUSY true (by decide) rfl

/-- The directory entry that marks the slot staged as trial for the next boot (R588). -/
def State.trialDir (s : State) : SlotDir := { s.dir with good := true, seq := s.dir.seq + 1, trial := some s.idleSlot, started := false }

theorem activateApply_acts (d : Desc) (s : State) : KeepsTwin s (s.activateApply d)
    ∧ (s.activateApply d).flash.jobs = s.flash.jobs ++ [.fwDir 0 0 s.olderDir false s.trialDir] := by
  have hr : OnlyRecords (s.dirWrite s.olderDir false s.trialDir) (s.activateApply d) := complete_records _ _ _ _ _
  have ha : KeepsTwin s (s.dirWrite s.olderDir false s.trialDir) := ⟨fun _ => rfl, rfl, rfl, rfl⟩
  exact ⟨ha.trans hr.presents.toKeepsTwin, by rw [hr.flash]; rfl⟩

end Bulk

section BulkCommands

variable {s : State} {r : Nat} {ops : List Nat} {status : Desc → Status} {apply : Desc → State → State} {d : Desc} {c : Instr}

/-! ### The commands -/

theorem exec_segPattern (s : State) : exec .segPattern s = .next (s.after (s.serve 3 [0x41] segPatternStatus fun d u => u.bulkStart d)) := rfl
theorem exec_mapLoad (s : State) : exec .mapLoad s = .next (s.after (s.serve 3 [0x50] s.mapStatus fun d u => u.bulkStart d)) := rfl
theorem exec_spbLoad (s : State) : exec .spbLoad s = .next (s.after (s.serve 3 [0x60] spbLoadStatus fun d u => u.bulkStart d)) := rfl
theorem exec_fwStage (s : State) : exec .fwStage s = .next (s.after (s.serve 3 [0x70] fwStageStatus fun d u => u.bulkStart d)) := rfl
theorem exec_healthDump (s : State) : exec .healthDump s = .next (s.after (s.serve 3 [0x51] dumpStatus fun d u => u.dumpStart d)) := rfl
theorem exec_segStart (s : State) : exec .segStart s = .next (s.after (s.serve 2 [0x42] segStartStatus fun d u => u.segStartApply d)) := rfl
theorem exec_spbCommit (s : State) : exec .spbCommit s = .next (s.after (s.serve 3 [0x61] s.commitStatus fun d u => u.commitStart d)) := rfl
theorem exec_fwActivate (s : State) : exec .fwActivate s = .next (s.after (s.serve 3 [0x71] s.activateStatus fun d u => u.activateApply d)) := rfl

/-- A command that fails its checks completes with their status and nothing else. -/
theorem serve_completes (hc : exec c s = .next (s.after (s.serve r ops status apply))) (hr : s.ready r ops = some d) (hring : d.ring = r)
    (hno : status d ≠ .ok) : ∃ t, exec c s = .next t ∧ t = s.after ((s.popDesc r).complete d (status d) 0 []) :=
  ⟨_, hc, by rw [serve_refused hr hring hno]⟩

theorem serve_idles (hc : exec c s = .next (s.after (s.serve r ops status apply))) (hr : s.ready r ops = none) :
    ∃ t, exec c s = .next t ∧ t = s.after s :=
  ⟨_, hc, by rw [serve_none hr]⟩

/-- A command with a source joins the sources to be read. -/
theorem serve_joins (hc : exec c s = .next (s.after (s.serve 3 ops status fun d u => u.bulkStart d))) (hs : s.shape)
    (hr : s.ready 3 ops = some d) (hring : d.ring = 3) (hok : status d = .ok) :
    ∃ t, exec c s = .next t ∧ t.cmds.bulk = s.cmds.bulk ++ [d] ∧ (t.ring 3).arrived = (s.ring 3).arrived.drop 1 := by
  obtain ⟨hk, hb⟩ := bulkStart_acts d (s.popDesc 3)
  rw [serve_ok hr hring hok] at hc
  refine ⟨_, hc, ?_, served_arrived hs hr (by decide) hk⟩
  rw [after_cmds, hb, popDesc_part State.cmds fun _ => rfl]

end BulkCommands

/-- Settles O15: each command by what its descriptor starts once it is off its ring. -/
theorem bulkCommandsQueue : Obligations.BulkCommandsQueue := by
  unfold Obligations.BulkCommandsQueue
  refine ⟨fun s _ => serve_joins (exec_segPattern s), fun s _ => serve_completes (exec_segPattern s), fun s => serve_idles (exec_segPattern s),
    fun s _ => serve_joins (exec_mapLoad s), fun s _ => serve_completes (exec_mapLoad s), fun s => serve_idles (exec_mapLoad s),
    fun s _ => serve_joins (exec_spbLoad s), fun s _ => serve_completes (exec_spbLoad s), fun s => serve_idles (exec_spbLoad s),
    fun s _ => serve_joins (exec_fwStage s), fun s _ => serve_completes (exec_fwStage s), fun s => serve_idles (exec_fwStage s),
    ?dump, fun s _ => serve_completes (exec_healthDump s), fun s => serve_idles (exec_healthDump s),
    ?start, fun s _ => serve_completes (exec_segStart s), fun s => serve_idles (exec_segStart s),
    ?commit, fun s _ => serve_completes (exec_spbCommit s), fun s => serve_idles (exec_spbCommit s),
    ?activate, fun s _ => serve_completes (exec_fwActivate s), fun s => serve_idles (exec_fwActivate s)⟩
  case dump =>
    intro s d hs hr hring hok
    obtain ⟨hk, hdumps⟩ := dumpStart_acts d (s.popDesc 3)
    rw [exec_healthDump, serve_ok hr hring hok]
    refine ⟨_, rfl, ?_, served_arrived hs hr (by decide) hk⟩
    rw [after_cmds, hdumps, popDesc_part State.cmds fun _ => rfl]
  case start =>
    intro s d hs hr hring hok
    have hseg := popDesc_part State.seg (s := s) (fun _ => rfl) 2
    obtain ⟨hk, harm⟩ := segStartApply_acts (s := s.popDesc 2) d (by rw [hseg]; exact shape_banks hs)
    rw [exec_segStart, serve_ok hr hring hok]
    refine ⟨_, rfl, fun b hb hbit => ?_, fun b hb hbit => ?_, served_arrived hs hr (by decide) hk⟩
    · rw [after_bank, harm b hb, if_pos hbit]
    · rw [after_bank, harm b hb, hbit, if_neg (by decide), bank_congr hseg]
  case commit =>
    intro s d hs hr hring hok
    obtain ⟨hk, hbusy, hseq⟩ := commitStart_acts d (s.popDesc 3)
    rw [exec_spbCommit, serve_ok hr hring hok]
    refine ⟨_, rfl, ?_, ?_, served_arrived hs hr (by decide) hk⟩
    · rw [after_fbit _ _ _ (by decide), hbusy]
    · rw [after_flash, hseq, popDesc_part State.flash fun _ => rfl]
  case activate =>
    intro s d hs hr hring hok
    obtain ⟨hk, hjobs⟩ := activateApply_acts d (s.popDesc 3)
    rw [exec_fwActivate, serve_ok hr hring hok]
    refine ⟨_, rfl, ?_, served_arrived hs hr (by decide) hk⟩
    rw [after_flash, hjobs]
    obtain ⟨h, hpop⟩ := popDesc_only 3 s
    rw [hpop]
    rfl

end Sys2Proof.Machine

namespace Sys2Proof.Machine

section LaneWork

variable {s t u : State} {p : Nat}

/-! ## What goes on over the lanes, beside the rings -/

/-- The state without the ports, the twin links, what has left the device, and the draws of free values: what traffic over the lanes changes. -/
def State.sansLanes (s : State) : State :=
  { s with out := [], ports := [], free := 0, twin := { aligns := s.twin.aligns, waiting := s.twin.waiting } }

/-- A register of a tile port. -/
abbrev tileReg (a : Nat) : Prop := a / 0x10000 = 6

/-- Only the lanes change: unlike `OnlyIo` it leaves the rings, the commands in hand and what waits for an ALIGN. -/
abbrev OnlyLanes := Within State.sansLanes tileReg

theorem tileReg_of_port (k : Nat) (hp : p < 24) (hk : k < 0x800) : tileReg (0x60000 + k + p * 0x800) := by
  unfold tileReg; omega

theorem Within.onPort {f : Port → Port} (h : OnlyLanes s t) : OnlyLanes s (t.setPort p f) := h.trans (.parts rfl rfl)

theorem Within.onLink {l : Nat} {f : TwinLink → TwinLink} (h : OnlyLanes s t) : OnlyLanes s (t.setLink l f) :=
  h.trans (.parts rfl rfl)

theorem Within.onLane {o : Output} (h : OnlyLanes s t) : OnlyLanes s (t.send o) := by
  refine h.trans ?_
  unfold State.send State.laneSent
  split <;> exact .parts rfl rfl

theorem exitIdle_lanes (hp : p < 24) (s : State) : OnlyLanes s (s.exitIdle p) := by
  unfold State.exitIdle
  split
  · exact .onLane (.fset (.refl s) (tileReg_of_port 0x10 hp (by decide)))
  · exact .refl s

theorem startPkt_lanes (hp : p < 24) (q : SentPkt) (at_ : Nat) (s : State) : OnlyLanes s (s.startPkt p q at_) := by
  unfold State.startPkt
  extract_lets a seq bytes fin b c
  have hb : OnlyLanes s b := .onLane (.fset (exitIdle_lanes hp s) (tileReg_of_port 0x4C hp (by decide)))
  exact .ite (.onPort (.onPort hb)) (.onPort hb)

theorem sendNow_lanes (hp : p < 24) (kind : Nat) (body : List Byte) (due : Nat) (s : State) : OnlyLanes s (s.sendNow p kind body due) := by
  unfold State.sendNow State.sendPkt
  exact .ite (.onPort (.refl s)) (startPkt_lanes hp _ _ s)

theorem sendCtrl_lanes (hp : p < 24) (sub : Nat) (rest : List Byte) (s : State) : OnlyLanes s (s.sendCtrl p sub rest) := by
  unfold State.sendCtrl State.sendControl
  exact .ite (.refl s) (.ite (.onPort (.refl s)) (sendNow_lanes hp _ _ _ s))

theorem nextControl_lanes (hp : p < 24) (s : State) : OnlyLanes s (s.nextControl p) := by
  unfold State.nextControl
  split
  · exact .refl s
  · exact .ite (.refl s) (.trans (.onPort (.refl s)) (sendNow_lanes hp _ _ _ _))

theorem sendQueued_lanes (hp : p < 24) (k : Nat) (s : State) : OnlyLanes s (sendQueued p k s) := by
  induction k generalizing s with
  | zero => exact .refl s
  | succ k ih =>
    unfold sendQueued
    split
    · exact .refl s
    · exact .ite (.trans (.trans (.onPort (.refl s)) (startPkt_lanes hp _ _ _)) (ih _)) (.refl s)

theorem abandonWire_lanes (p : Nat) (s : State) : OnlyLanes s (s.abandonWire p) := .parts rfl rfl

/-! ### A PRBS test that ends, beside the rings -/

theorem setHs_lanes (n l : Nat) (f : Handshake → Handshake) (s : State) : OnlyLanes s (s.setHs n l f) :=
  .ite (.onPort (.refl s)) (.onLink (.refl s))

theorem setRx_lanes (n l : Nat) (f : Receiver → Receiver) (s : State) : OnlyLanes s (s.setRx n l f) :=
  .ite (.onPort (.refl s)) (.onLink (.refl s))

theorem startTrn_lanes (n : Nat) (s : State) : OnlyLanes s (s.startTrn n) := by
  unfold State.startTrn
  refine .trans (.ite (.onPort (.refl s)) (.onLink (.refl s))) (.foldl _ _ (fun v l _ => ?_) _)
  exact .ite (.refl v) (.onLane (setHs_lanes n l _ v))

theorem setLane_lanes (hp : p < 24) (st : Nat) (s : State) : OnlyLanes s (s.setLane p st) := by
  unfold State.setLane
  rw [stateFld_tile hp]
  dsimp only
  rw [if_pos hp]
  exact .fset (.refl s) (tileReg_of_port 0x10 hp (by decide))

theorem enterRetrain_lanes (hp : p < 24) (s : State) : OnlyLanes s (s.enterRetrain p) := by
  unfold State.enterRetrain
  extract_lets a b c
  have ha : OnlyLanes s a := .ite (.onLane (.refl s)) (.refl s)
  have hb : OnlyLanes s b := (ha.trans (setLane_lanes hp laneRetrain a)).trans (.foldl _ _ (fun v l _ => setHs_lanes p l _ v) _)
  have hc : OnlyLanes s c := by
    unfold c
    rw [if_pos hp]
    exact .fsetb (.fsetb (.onPort hb) (tileReg_of_port 0x44 hp (by decide))) (tileReg_of_port 0x10 hp (by decide))
  exact hc.trans (startTrn_lanes p c)

theorem portPrbsCount_lanes (hp : p < 24) (r : PrbsResult) (s : State) : OnlyLanes s (s.portPrbsCount p r) := by
  have hreg : ∀ k, k < 0x800 → tileReg (0x60000 + k + p * 0x800) := fun k => tileReg_of_port k hp
  unfold State.portPrbsCount
  exact .onPort (.fsetb (.fsetb (.fadd (.fadd (.fadd (.refl s) (hreg 0x2C (by decide))) (hreg 0x30 (by decide)))
    (hreg 0x28 (by decide))) (hreg 0x28 (by decide))) (hreg 0x28 (by decide)))

theorem endPrbs_lanes (hp : p < 24) (s : State) : OnlyLanes s (s.endPrbs p) := by
  have hcut : OnlyLanes s (s.cutPortPrbs p) :=
    .ite (.refl s) (.trans (t := { s with free := s.free + 4 }) (.parts rfl rfl) (portPrbsCount_lanes hp _ _))
  have hoff : OnlyLanes s ((s.cutPortPrbs p).fsetb (R.TILE_PRBS_STAT_RUNNING p) false) :=
    .fsetb hcut (tileReg_of_port 0x28 hp (by decide))
  refine .ite (.trans (hoff.trans ?_) (enterRetrain_lanes hp _)) (.refl s)
  exact .foldl _ _ (fun v l _ => .trans (setRx_lanes p l _ v) (setHs_lanes p l _ _)) _

/-! ### Totality and LIMP, beside the rings -/

theorem totPort_lanes (hp : p < 24) (s : State) : OnlyLanes s (totPort p s) := by
  unfold totPort
  extract_lets st a b
  have ha : OnlyLanes s a := .ite (.trans (.trans (.fsetb (.onLane (.trans (exitIdle_lanes hp s) (abandonWire_lanes p _)))
    (tileReg_of_port 0x44 hp (by decide))) (nextControl_lanes hp _)) (sendQueued_lanes hp _ _)) (.refl s)
  refine .trans ?_ (endPrbs_lanes hp b)
  unfold b
  split
  · exact .onPort ha
  · exact ha

theorem resendLimp_lanes (hp : p < 24) (s : State) : OnlyLanes s (s.resendLimp p) :=
  .ite (.refl s) (.trans (.onPort (.refl s)) (.foldl _ _ (fun v _ _ => sendNow_lanes hp _ _ _ v) _))

theorem totResume_lanes (hp : p < 24) (s : State) : OnlyLanes s (totResume p s) := by
  unfold totResume
  extract_lets a
  have ha : OnlyLanes s a := .fsetb (.refl s) (tileReg_of_port 0x44 hp (by decide))
  exact .ite ha (.ite (ha.trans (.trans (sendCtrl_lanes hp _ _ _) (resendLimp_lanes hp _))) (.onPort ha))

theorem showLimpPort_lanes (hp : p < 24) (s : State) : OnlyLanes s (showLimpPort p s) := .ite (sendCtrl_lanes hp _ _ s) (.refl s)

theorem sendAlign_lanes (d : Desc) (n ph j frame : Nat) (s : State) : OnlyLanes s (s.sendAlign d n ph j frame) := by
  unfold State.sendAlign State.sendTwin
  extract_lets args seq unit links a
  have ha : OnlyLanes s a := foldl_rel .refl .trans _ _ (fun v _ _ => .onLane (.refl v)) s
  exact .ite (.refl s) (.ite (.refl s) (.ite (.refl s) (ha.trans (.parts rfl rfl))))

end LaneWork

end Sys2Proof.Machine

namespace Sys2Proof.Machine

section Aligned

variable {s t u : State} {r : Nat} {ops : List Nat} {d : Desc} {f : State → State}

/-! ## Commands that wait for an ALIGN -/

theorem OnlyLanes.keepsTwin (h : OnlyLanes s t) : KeepsTwin s t where
  arrived n := by unfold State.ring; rw [h.part State.host fun _ => rfl]
  aligns := h.part (fun x => x.twin.aligns) fun _ => rfl
  waiting := h.part (fun x => x.twin.waiting) fun _ => rfl
  companion := isCompanion_congr (h.fget _ (by decide)) (h.domOn (by decide) 8)

/-- Changes within PIX leave what waits. -/
theorem keepsTwin_pix (x : PixSt) (s : State) : KeepsTwin s { s with pix := x } := ⟨fun _ => rfl, rfl, rfl, rfl⟩

theorem aligned_ok (hrole : s.isCompanion = false) : s.aligned d .ok f = f (s.popDesc d.ring) := by
  unfold State.aligned
  dsimp only
  rw [if_neg (by decide), popDesc_part State.isCompanion (fun _ => rfl), hrole, if_neg (by decide)]

theorem aligned_refused {st : Status} (hno : st ≠ .ok) : s.aligned d st f = (s.popDesc d.ring).complete d st 0 [] := by
  unfold State.aligned
  exact if_pos (by simpa using hno)

/-- Nothing is matched where there is no COMPANION. -/
theorem settled_of_keeps (hrole : s.isCompanion = false) (h : KeepsTwin s t) : settled t = t :=
  h.settled fun hc => absurd hc (by rw [hrole]; decide)

theorem popDesc_keepsRole (r : Nat) (s : State) : (s.popDesc r).isCompanion = s.isCompanion := popDesc_part State.isCompanion (fun _ => rfl) r

/-- On a COMPANION on which no ALIGN has come the command waits, its descriptor off the ring. -/
theorem aligned_waits (hf : s.front d.ring = some d) (hlen : d.ring < s.host.rings.length) (hrole : s.isCompanion = true)
    (ha : s.twin.aligns = []) (hw : s.twin.waiting.all (fun c => c.align.isNone) = true) :
    (settled (s.aligned d .ok f)).twin.waiting = s.twin.waiting ++ [{ desc := d, key := d.key }]
      ∧ ((settled (s.aligned d .ok f)).ring d.ring).arrived = (s.ring d.ring).arrived.drop 1 := by
  have htwin := popDesc_part (s := s) State.twin (fun _ => rfl) d.ring
  have hx : s.aligned d .ok f = { s.popDesc d.ring with twin := { (s.popDesc d.ring).twin with
      waiting := (s.popDesc d.ring).twin.waiting ++ [{ desc := d, key := d.key }] } } := by
    unfold State.aligned
    dsimp only
    rw [if_neg (by decide), popDesc_keepsRole, hrole, if_pos rfl]
  rw [hx, waiting_quiet _ rfl (by rw [htwin]; exact ha) (by rw [htwin]; exact hw)]
  exact ⟨by rw [htwin], popDesc_arrived hf hlen⟩

variable {status : Desc → Status} {apply : Desc → State → State} {c : Instr}

/-- What an aligned command of the state after the latch points that are due, or of the state itself, leaves. -/
theorem aligned_completes (hc : exec c u = .next (u.after (settled (s.serveAligned r ops status apply)))) (hr : s.ready r ops = some d)
    (hring : d.ring = r) (hno : status d ≠ .ok) :
    ∃ t, exec c u = .next t ∧ t = u.after (settled ((s.popDesc r).complete d (status d) 0 [])) := by
  refine ⟨_, hc, ?_⟩
  unfold State.serveAligned
  rw [hr]
  dsimp only
  rw [aligned_refused hno, hring]

theorem aligned_idles (hc : exec c u = .next (u.after (settled (s.serveAligned r ops status apply)))) (hr : s.ready r ops = none) :
    ∃ t, exec c u = .next t ∧ t = u.after (settled s) :=
  ⟨_, hc, by unfold State.serveAligned; rw [hr]⟩

theorem aligned_joins (hc : exec c u = .next (u.after (settled (s.serveAligned r ops status apply)))) (hs : s.shape)
    (hr : s.ready r ops = some d) (hring : d.ring = r) (h7 : r < 7) (hok : status d = .ok) (hrole : s.isCompanion = true)
    (ha : s.twin.aligns = []) (hw : s.twin.waiting.all (fun c => c.align.isNone) = true) :
    ∃ t, exec c u = .next t ∧ t.twin.waiting = s.twin.waiting ++ [{ desc := d, key := d.key }]
      ∧ (t.ring r).arrived = (s.ring r).arrived.drop 1 := by
  subst hring
  have hx : s.serveAligned d.ring ops status apply = s.aligned d .ok (apply d) := by unfold State.serveAligned; rw [hr]; dsimp only; rw [hok]
  rw [hx] at hc
  obtain ⟨hwait, harr⟩ := aligned_waits (f := apply d) (ready_front hr) (by rw [shape_rings hs]; exact h7) hrole ha hw
  exact ⟨_, hc, by rw [after_twin, hwait], by rw [after_ring_arrived, harr]⟩

theorem serveAligned_ok (hr : s.ready r ops = some d) (hring : d.ring = r) (hok : status d = .ok) (hrole : s.isCompanion = false) :
    s.serveAligned r ops status apply = apply d (s.popDesc r) := by
  unfold State.serveAligned
  rw [hr]
  dsimp only
  rw [hok, aligned_ok hrole, hring]

end Aligned

section Shades

variable {s t u : State} {d : Desc} {i : Nat}

/-! ## Shade slots -/

/-- The registers of the slots in use. -/
abbrev usedReg (a : Nat) : Prop := a = 0x50204 ∨ a = 0x50208

theorem showUsed_keeps (s : State) : KeepsTwin s s.showUsed :=
  ((fset_presents (f := R.PIX_SHADE_USED_LO_USED) (by decide) (by decide) _ s).trans
    (fset_presents (f := R.PIX_SHADE_USED_HI_USED) (by decide) (by decide) _ _)).toKeepsTwin

theorem setShade_keeps (i : Nat) (o : Option Shade) (s : State) : KeepsTwin s (s.setShade i o) :=
  (keepsTwin_pix _ s).trans (showUsed_keeps _)

theorem setShade_fget {f : Fld} (hf : ¬ usedReg f.addr) (i : Nat) (o : Option Shade) (s : State) : (s.setShade i o).fget f = s.fget f := by
  unfold State.setShade State.showUsed
  rw [fget_fset_addr _ _ _ _ fun h => hf (.inr h), fget_fset_addr _ _ _ _ fun h => hf (.inl h)]
  rfl

theorem setShade_shade (hl : s.pix.shades.length = 64) (hi : i < 64) (o : Option Shade) (k : Nat) :
    nth (s.setShade i o).pix.shades k = if i = k then o else nth s.pix.shades k := by
  refine (nth_upd (fun _ => o) s.pix.shades i k).trans ?_
  by_cases h : i = k
  · rw [if_pos h, if_pos ⟨h, by omega⟩]
  · rw [if_neg h, if_neg fun hk => h hk.1]

theorem mergeInto_acts (o : Shade) (slot n : Nat) (s : State) : KeepsTwin s (s.mergeInto o slot n)
    ∧ (s.mergeInto o slot n).fbit R.PIX_SHADE_STATUS_MERGED = true
    ∧ (s.mergeInto o slot n).fget R.PIX_SHADE_AGE_LAST_US = s.fget R.PIX_SHADE_AGE_LAST_US := by
  unfold State.mergeInto
  extract_lets m a b
  have ha := (setShade_keeps 63 (some m) s).trans (fset_presents (f := R.PIX_SHADE_STATUS_MERGED) (by decide) (by decide) (b2n true) _).toKeepsTwin
  have hb : KeepsTwin a b := ((fset_presents (f := R.PIX_SHADE_STATUS_MERGE_SURF) (by decide) (by decide) m.owners a).trans
    (fset_presents (f := R.PIX_SHADE_COUNT_MERGES) (by decide) (by decide) _ _)).toKeepsTwin
  have hr := eventSurf_records b 0x05 0x0020 n (u8 slot ++ u8 n)
  refine ⟨(ha.trans hb).trans hr.presents.toKeepsTwin, ?_, ?_⟩
  · rw [hr.io.fbit _ (by decide), show b = ((a.fset R.PIX_SHADE_STATUS_MERGE_SURF m.owners).fadd R.PIX_SHADE_COUNT_MERGES 1) from rfl, State.fadd,
      fbit_fset_addr _ _ _ _ (by decide), fbit_fset_beside _ _ _ _ (by decide) (by decide) (by decide)]
    exact fbit_fsetb_self _ _ _ (by decide) rfl
  · rw [hr.io.fget _ (by decide), show b = ((a.fset R.PIX_SHADE_STATUS_MERGE_SURF m.owners).fadd R.PIX_SHADE_COUNT_MERGES 1) from rfl, State.fadd,
      fget_fset_addr _ _ _ _ (by decide), fget_fset_addr _ _ _ _ (by decide)]
    exact (fget_fset_addr _ _ _ _ (by decide)).trans (setShade_fget (by decide) 63 (some m) s)

/-- The content of a SHADE_UPDATE goes into its slot, or into the merged state of slot 63. -/
theorem shadeApply_acts (hl : s.pix.shades.length = 64) (d : Desc) : KeepsTwin s (s.shadeApply d).1
    ∧ (s.shadeApply d).1.fget R.PIX_SHADE_AGE_LAST_US = s.fget R.PIX_SHADE_AGE_LAST_US
    ∧ (64 ≤ d.arg 16 1 ∨ (d.arg 16 1 = 63 ∧ s.fbit R.PIX_SHADE_STATUS_MERGED = true) →
        (s.shadeApply d).1.fbit R.PIX_SHADE_STATUS_MERGED = true)
    ∧ (d.arg 16 1 < 63 ∨ (d.arg 16 1 = 63 ∧ s.fbit R.PIX_SHADE_STATUS_MERGED = false) →
        nth (s.shadeApply d).1.pix.shades (d.arg 16 1) = some (s.shadeOf d)) := by
  unfold State.shadeApply
  extract_lets o slot
  by_cases hm : 64 ≤ slot ∨ (slot = 63 ∧ s.fbit R.PIX_SHADE_STATUS_MERGED = true)
  · rw [if_pos (by simpa using hm)]
    obtain ⟨hk, hmerged, hage⟩ := mergeInto_acts o slot d.target s
    refine ⟨hk, hage, fun _ => hmerged, fun h => ?_⟩
    rcases h with h | ⟨h63, hf⟩ <;> rcases hm with h64 | ⟨h63', ht⟩
    · omega
    · omega
    · omega
    · rw [hf] at ht; cases ht
  · rw [if_neg (by simpa using hm)]
    refine ⟨setShade_keeps _ _ s, setShade_fget (by decide) _ _ s, fun h => absurd h hm, fun h => ?_⟩
    refine (setShade_shade hl ?_ _ _).trans (if_pos rfl)
    omega

theorem staleFld_addr (i : Nat) : (staleFld i).addr = 0x5020C ∨ (staleFld i).addr = 0x50210 := by
  unfold staleFld
  split
  · exact .inl rfl
  · exact .inr rfl

theorem clearSlot_keeps (i : Nat) (s : State) : KeepsTwin s (clearSlot i s) := by
  unfold clearSlot
  extract_lets a _ b
  have hstale := staleFld_addr i
  have ha : KeepsTwin s a := (setShade_keeps i none s).trans (fset_presents (by omega) (by omega) _ _).toKeepsTwin
  have hb : KeepsTwin s b := ha.trans (keepsTwin_pix _ a)
  split
  · exact hb.trans ((fset_presents (f := R.PIX_SHADE_STATUS_MERGED) (by decide) (by decide) (b2n false) b).trans
      (fset_presents (f := R.PIX_SHADE_STATUS_MERGE_SURF) (by decide) (by decide) 0 _)).toKeepsTwin
  · exact hb

theorem clearSlot_shades (i : Nat) (s : State) : (clearSlot i s).pix.shades = upd (fun _ => none) s.pix.shades i := by
  unfold clearSlot
  split <;> rfl

/-- SHADE_CLEAR empties the slots that it names. -/
theorem shadeClearApply_acts (hl : s.pix.shades.length = 64) (d : Desc) : KeepsTwin s (s.shadeClearApply d)
    ∧ ∀ i, i < 64 → nth (s.shadeClearApply d).pix.shades i = if bitOf (d.arg 16 8) i then none else nth s.pix.shades i := by
  have hclear : ∀ (l : List Nat) (u : State), u.pix.shades.length = 64 → ∀ i, i < 64 →
      nth (overList clearSlot l u).pix.shades i = if i ∈ l then none else nth u.pix.shades i := by
    intro l
    induction l with
    | nil => intro u _ i _; rfl
    | cons k l ih =>
      intro u hu i hi
      rw [overList, ih _ (by rw [clearSlot_shades, upd_length]; exact hu) i hi, clearSlot_shades, nth_upd, hu]
      by_cases h : i = k
      · subst h; simp [hi]
      · simp [h, Ne.symm h]
  refine ⟨overList_rel .refl .trans _ _ (fun i _ u => clearSlot_keeps i u) s, fun i hi => ?_⟩
  refine (hclear _ s hl i hi).trans ?_
  by_cases h : bitOf (d.arg 16 8) i = true
  · rw [if_pos h, if_pos (mem_maskList_iff.2 ⟨hi, h⟩)]
  · rw [if_neg h, if_neg fun hm => h (mem_maskList_iff.1 hm).2]

/-- A shade command changes the slots' content, and the LEAD names its window before, and its completion is due after. -/
theorem shadeRun_acts (d : Desc) (s : State) :
    ∃ u, OnlyLanes s u ∧ OnlyRecords (u.shadeContent d) (s.shadeRun d) := by
  unfold State.shadeRun State.shadeDone
  exact ⟨s.alignWindow d (s.shadeSurf d), sendAlign_lanes _ _ _ _ _ s, completeAt_records _ _ _ _ _ _⟩

theorem fset_part {α : Type} (g : State → α) (hg : ∀ u rs, g { u with regs := rs } = g u) (f : Fld) (v : Nat) (s : State) :
    g (s.fset f v) = g s := hg s _

/-- The age of a SHADE_UPDATE is taken in registers alone. -/
theorem shadeAge_part {α : Type} (g : State → α) (hg : ∀ u rs, g { u with regs := rs } = g u) (t0 : Nat) (s : State) :
    g (s.shadeAge t0) = g s := by
  unfold State.shadeAge
  extract_lets us a
  rw [fset_part g hg, fset_part g hg]
  unfold a
  split
  · exact fset_part g hg _ _ s
  · rfl

theorem shadeAge_fget {f : Fld} (hf : f.addr ≠ 0x50218) (hl : f.addr ≠ 0x5021C) (t0 : Nat) (s : State) : (s.shadeAge t0).fget f = s.fget f := by
  unfold State.shadeAge
  extract_lets us a
  rw [fget_fset_addr _ _ _ _ hl, fget_fset_addr _ _ _ _ hl]
  unfold a
  split
  · exact fget_fset_addr _ _ _ _ hf
  · rfl

theorem shadeAge_role (t0 : Nat) (s : State) : (s.shadeAge t0).isCompanion = s.isCompanion :=
  isCompanion_congr (shadeAge_fget (by decide) (by decide) t0 s) (by unfold State.domOn; rw [shadeAge_fget (by decide) (by decide)])

theorem shadeAge_last (t0 : Nat) (s : State) : (s.shadeAge t0).fget R.PIX_SHADE_AGE_LAST_US = min 65535 ((s.nowNs - t0) / 1000) := by
  unfold State.shadeAge
  extract_lets us a
  rw [fget_fset_beside _ _ _ _ (by decide) (by decide) (by decide), fget_fset_self _ _ _ (by decide)]
  exact Nat.mod_eq_of_lt (by unfold us; simp only [R.PIX_SHADE_AGE_LAST_US]; omega)

theorem ready_opcode {r op : Nat} (h : s.ready r [op] = some d) : d.opcode = op := by
  unfold State.ready at h
  split at h
  · cases h
  · split at h
    · rename_i hc
      obtain rfl := Option.some.inj h
      simp only [Bool.and_eq_true, List.contains_cons, List.contains_nil, Bool.or_false, beq_iff_eq] at hc
      exact hc.1.1.1.1
    · cases h

/-- A SHADE_UPDATE by its age and its status. -/
theorem xShadeUpdate_ok (hr : s.ready 0 [0x10] = some d) (hok : d.shadeOk = true) :
    xShadeUpdate s = (s.shadeAge (s.shadeOf d).t0).aligned d .ok fun u => u.shadeRun d := by
  unfold xShadeUpdate
  rw [hr]
  dsimp only
  rw [if_pos hok, if_pos hok]

theorem xShadeUpdate_refused (hr : s.ready 0 [0x10] = some d) (hring : d.ring = 0) (hno : d.shadeOk = false) :
    xShadeUpdate s = (s.popDesc 0).complete d .argInvalid 0 [] := by
  unfold xShadeUpdate
  rw [hr]
  dsimp only
  rw [hno, if_neg (by decide), if_neg (by decide), aligned_refused (by decide), hring]

theorem xShadeUpdate_none (hr : s.ready 0 [0x10] = none) : xShadeUpdate s = s := by
  unfold xShadeUpdate; rw [hr]

/-- What a valid SHADE_UPDATE leaves of its slot, of the merged state and of the age, where it runs at once. -/
theorem shadeRun_update (hl : s.pix.shades.length = 64) (hop : d.opcode = 0x10) : KeepsTwin s (s.shadeRun d)
    ∧ (s.shadeRun d).fget R.PIX_SHADE_AGE_LAST_US = s.fget R.PIX_SHADE_AGE_LAST_US
    ∧ (64 ≤ d.arg 16 1 ∨ (d.arg 16 1 = 63 ∧ s.fbit R.PIX_SHADE_STATUS_MERGED = true) → (s.shadeRun d).fbit R.PIX_SHADE_STATUS_MERGED = true)
    ∧ (d.arg 16 1 < 63 ∨ (d.arg 16 1 = 63 ∧ s.fbit R.PIX_SHADE_STATUS_MERGED = false) →
        nth (s.shadeRun d).pix.shades (d.arg 16 1) = some (s.shadeOf d)) := by
  obtain ⟨u, hu, hrun⟩ := shadeRun_acts d s
  have hpix : u.pix = s.pix := hu.part State.pix fun _ => rfl
  have hobj : u.shadeOf d = s.shadeOf d := hu.part (fun x => x.shadeOf d) fun _ => rfl
  have hmerged : u.fbit R.PIX_SHADE_STATUS_MERGED = s.fbit R.PIX_SHADE_STATUS_MERGED := hu.fbit _ (by decide)
  rw [show u.shadeContent d = (u.shadeApply d).1 from if_pos hop] at hrun
  obtain ⟨hk, hage, hmerge, hslot⟩ := shadeApply_acts (s := u) (by rw [hpix]; exact hl) d
  rw [hobj, hmerged] at hslot
  rw [hmerged] at hmerge
  refine ⟨(OnlyLanes.keepsTwin hu).trans (hk.trans hrun.presents.toKeepsTwin), ?_, fun h => ?_, fun h => ?_⟩
  · rw [hrun.io.fget _ (by decide), hage, hu.fget _ (by decide)]
  · rw [hrun.io.fbit _ (by decide), hmerge h]
  · rw [hrun.pix, hslot h]

/-- What a valid SHADE_CLEAR leaves of the slots, where it runs at once. -/
theorem shadeRun_clear (hl : s.pix.shades.length = 64) (hop : d.opcode = 0x11) : KeepsTwin s (s.shadeRun d)
    ∧ ∀ i, i < 64 → nth (s.shadeRun d).pix.shades i = if bitOf (d.arg 16 8) i then none else nth s.pix.shades i := by
  obtain ⟨u, hu, hrun⟩ := shadeRun_acts d s
  have hpix : u.pix = s.pix := hu.part State.pix fun _ => rfl
  rw [show u.shadeContent d = u.shadeClearApply d from if_neg (by rw [hop]; decide)] at hrun
  obtain ⟨hk, hslots⟩ := shadeClearApply_acts (s := u) (by rw [hpix]; exact hl) d
  rw [hpix] at hslots
  exact ⟨(OnlyLanes.keepsTwin hu).trans (hk.trans hrun.presents.toKeepsTwin), fun i hi => by rw [hrun.pix, hslots i hi]⟩

theorem shape_shades (h : s.shape) : s.pix.shades.length = 64 := by
  obtain ⟨-, -, -, -, -, hshades, -⟩ := h
  exact hshades

/-- A valid SHADE_UPDATE as it runs once its age is taken and its descriptor is off the ring. -/
theorem shadeUpdate_runs (hr : s.ready 0 [0x10] = some d) (hring : d.ring = 0) (hrole : s.isCompanion = false) (hok : d.shadeOk = true) :
    ∃ a u, a = s.shadeAge (s.shadeOf d).t0 ∧ u = a.popDesc 0 ∧ (KeepsTwin u (u.shadeRun d) → settled (xShadeUpdate s) = u.shadeRun d) := by
  refine ⟨_, _, rfl, rfl, fun hk => ?_⟩
  have harole := (shadeAge_role (s.shadeOf d).t0 s).trans hrole
  rw [xShadeUpdate_ok hr hok, aligned_ok harole, hring, settled_of_keeps ((popDesc_keepsRole 0 _).trans harole) hk]

theorem shadeUpdate_acts (hs : s.shape) (hr : s.ready 0 [0x10] = some d) (hring : d.ring = 0) (hrole : s.isCompanion = false)
    (hok : d.shadeOk = true) : (d.arg 16 1 < 63 → nth (settled (xShadeUpdate s)).pix.shades (d.arg 16 1) = some (s.shadeOf d))
    ∧ (64 ≤ d.arg 16 1 ∨ (d.arg 16 1 = 63 ∧ s.fbit R.PIX_SHADE_STATUS_MERGED = true) →
        (settled (xShadeUpdate s)).fbit R.PIX_SHADE_STATUS_MERGED = true)
    ∧ (d.arg 16 1 = 63 ∧ s.fbit R.PIX_SHADE_STATUS_MERGED = false → nth (settled (xShadeUpdate s)).pix.shades 63 = some (s.shadeOf d))
    ∧ (settled (xShadeUpdate s)).fget R.PIX_SHADE_AGE_LAST_US = min 65535 ((s.nowNs - (s.shadeOf d).t0) / 1000)
    ∧ ((settled (xShadeUpdate s)).ring 0).arrived = (s.ring 0).arrived.drop 1 := by
  obtain ⟨a, u, ha, hu, hruns⟩ := shadeUpdate_runs hr hring hrole hok
  have hpart : ∀ {α : Type} (g : State → α), (∀ v rs, g { v with regs := rs } = g v) → g a = g s := fun g hg => by rw [ha, shadeAge_part g hg]
  have hpop : ∀ {α : Type} (g : State → α), (∀ h, g { a with host := h } = g a) → g u = g a := fun g hg => hu ▸ popDesc_part g hg 0
  have hhost : a.host = s.host := hpart _ fun _ _ => rfl
  have hpix : u.pix = s.pix := (hpop _ fun _ => rfl).trans (hpart _ fun _ _ => rfl)
  have hobj : u.shadeOf d = s.shadeOf d := (hpop (fun x => x.shadeOf d) fun _ => rfl).trans (hpart (fun x => x.shadeOf d) fun _ _ => rfl)
  have hmerged : u.fbit R.PIX_SHADE_STATUS_MERGED = s.fbit R.PIX_SHADE_STATUS_MERGED :=
    (hpop (fun x => x.fbit R.PIX_SHADE_STATUS_MERGED) fun _ => rfl).trans (by unfold State.fbit; rw [ha, shadeAge_fget (by decide) (by decide)])
  have hage : u.fget R.PIX_SHADE_AGE_LAST_US = min 65535 ((s.nowNs - (s.shadeOf d).t0) / 1000) :=
    (hpop (fun x => x.fget R.PIX_SHADE_AGE_LAST_US) fun _ => rfl).trans (by rw [ha, shadeAge_last])
  obtain ⟨hk, hlast, hmerge, hslot⟩ := shadeRun_update (s := u) (by rw [hpix]; exact shape_shades hs) (ready_opcode hr)
  have harr : ((u.shadeRun d).ring 0).arrived = (s.ring 0).arrived.drop 1 := by
    rw [hk.arrived, hu, popDesc_arrived ((hpart (fun x => x.front 0) fun _ _ => rfl).trans (ready_front hr))
      (by rw [hhost, shape_rings hs]; decide), hpart (fun x => x.ring 0) fun _ _ => rfl]
  rw [hmerged] at hmerge hslot
  rw [hobj] at hslot
  rw [hruns hk]
  refine ⟨fun h => hslot (.inl h), hmerge, fun h => ?_, hlast.trans hage, harr⟩
  have h63 := hslot (.inr h)
  rwa [h.1] at h63

/-- On a COMPANION on which no ALIGN has come a valid SHADE_UPDATE waits for its own. -/
theorem shadeUpdate_waits (hs : s.shape) (hr : s.ready 0 [0x10] = some d) (hring : d.ring = 0) (hrole : s.isCompanion = true)
    (hal : s.twin.aligns = []) (hw : s.twin.waiting.all (fun c => c.align.isNone) = true) (hok : d.shadeOk = true) :
    (settled (xShadeUpdate s)).twin.waiting = s.twin.waiting ++ [{ desc := d, key := d.key }]
    ∧ ((settled (xShadeUpdate s)).ring 0).arrived = (s.ring 0).arrived.drop 1 := by
  obtain ⟨a, ha⟩ : ∃ a, a = s.shadeAge (s.shadeOf d).t0 := ⟨_, rfl⟩
  have hpart : ∀ {α : Type} (g : State → α), (∀ v rs, g { v with regs := rs } = g v) → g a = g s := fun g hg => by rw [ha, shadeAge_part g hg]
  have htwin : a.twin = s.twin := hpart _ fun _ _ => rfl
  have hring0 : a.ring 0 = s.ring 0 := hpart (fun x => x.ring 0) fun _ _ => rfl
  have hhost : a.host = s.host := hpart _ fun _ _ => rfl
  have hfront : a.front d.ring = some d := by rw [hring]; exact (hpart (fun x => x.front 0) fun _ _ => rfl).trans (ready_front hr)
  obtain ⟨hwait, harr⟩ := aligned_waits (f := fun u => u.shadeRun d) hfront (by rw [hring, hhost, shape_rings hs]; decide)
    (by rw [ha, shadeAge_role, hrole]) (by rw [htwin, hal]) (by rw [htwin, hw])
  rw [xShadeUpdate_ok hr hok, ← ha, hwait, htwin]
  rw [hring, hring0] at harr
  exact ⟨rfl, harr⟩

theorem exec_shadeUpdate (s : State) : exec .shadeUpdate s = .next (s.after (settled (xShadeUpdate s))) := rfl
theorem exec_shadeClear (s : State) : exec .shadeClear s = .next (s.after (settled (s.serveAligned 0 [0x11]
    (fun d => if d.flagsOk && d.zero 24 60 then .ok else .argInvalid) fun d u => u.shadeRun d))) := rfl

end Shades

section Aims

variable {s t u : State} {d : Desc} {n : Nat}

/-! ## AIM and BEAM_PROFILE -/

theorem ofSigned_toSigned {w v : Nat} (hv : v < 2 ^ w) : ofSigned w (toSigned w v) = v := by
  unfold ofSigned toSigned
  split
  · rw [Int.emod_eq_of_lt (by omega) (by exact_mod_cast hv)]; omega
  · rw [← Int.add_emod_right, Int.sub_add_cancel, Int.emod_eq_of_lt (by omega) (by exact_mod_cast hv)]; omega

theorem leNat_lt (bs : List Byte) : leNat bs < 2 ^ (8 * bs.length) := by
  induction bs with
  | nil => decide
  | cons b bs ih =>
    have hb := b.isLt
    have : 2 ^ (8 * (bs.length + 1)) = 256 * 2 ^ (8 * bs.length) := by rw [Nat.mul_add, Nat.pow_add]; ring
    rw [List.length_cons, this, leNat]
    omega

theorem arg_lt (d : Desc) (off k : Nat) : d.arg off k < 2 ^ (8 * k) :=
  (leNat_lt _).trans_le (Nat.pow_le_pow_right (by decide) (Nat.mul_le_mul_left 8 (List.length_take_le _ _)))

theorem aimApply_acts (hn : d.target < 4) (s : State) : KeepsTwin s (s.aimApply d)
    ∧ (s.aimApply d).fget (R.PIX_AIM_TARGET_V d.target) = d.arg 16 2 ∧ (s.aimApply d).fget (R.PIX_AIM_TARGET_H d.target) = d.arg 18 2 := by
  unfold State.aimApply
  extract_lets n p a b c
  have hr : OnlyRecords c (c.completeAt d .ok 0 [] (if c.scanAhead n then .sTick n else .now)) := completeAt_records _ _ _ _ _ _
  have hpix : ∀ k (f : Fld) v u, f.addr = 0x50304 + k ∨ f.addr = 0x50308 + k → k < 0x40 → KeepsTwin u (u.fset f v) := fun k f v u hf hk =>
    (fset_presents (by omega) (by omega) v u).toKeepsTwin
  have hio : ¬ ioReg (0x50304 + n * 0x10) := by unfold ioReg; omega
  have hV : b.fget (R.PIX_AIM_TARGET_V n) = d.arg 16 2 := by
    refine (fget_fset_beside _ _ _ _ rfl rfl rfl).trans ((fget_fset_self _ _ _ rfl).trans ?_)
    have h : ofSigned 16 (d.sarg 16 2) = d.arg 16 2 := ofSigned_toSigned (arg_lt d 16 2)
    exact (congrArg (· % 2 ^ 16) h).trans (Nat.mod_eq_of_lt (arg_lt d 16 2))
  have hH : b.fget (R.PIX_AIM_TARGET_H n) = d.arg 18 2 := by
    refine (fget_fset_self _ _ _ rfl).trans ?_
    have h : ofSigned 16 (d.sarg 18 2) = d.arg 18 2 := ofSigned_toSigned (arg_lt d 18 2)
    exact (congrArg (· % 2 ^ 16) h).trans (Nat.mod_eq_of_lt (arg_lt d 18 2))
  have hrates : ∀ f : Fld, f.addr = 0x50304 + n * 0x10 → c.fget f = b.fget f := fun f hf =>
    (fget_fset_addr _ _ _ _ (by simp only [hf, R.PIX_AIM_RATE_H]; omega)).trans
      (fget_fset_addr _ _ _ _ (by simp only [hf, R.PIX_AIM_RATE_V]; omega))
  refine ⟨?_, ?_, ?_⟩
  · have hab : KeepsTwin a b := (hpix (n * 0x10) _ _ _ (.inl rfl) (by omega)).trans (hpix (n * 0x10) _ _ _ (.inl rfl) (by omega))
    have hbc : KeepsTwin b c := (hpix (n * 0x10) _ _ _ (.inr rfl) (by omega)).trans (hpix (n * 0x10) _ _ _ (.inr rfl) (by omega))
    exact (((setPx_twin _ _ s).trans hab).trans hbc).trans hr.presents.toKeepsTwin
  · rw [hr.io.fget _ hio, hrates _ rfl, hV]
  · rw [hr.io.fget _ hio, hrates _ rfl, hH]

theorem setSpill_keeps (n : Nat) (f : SpillSurf → SpillSurf) (s : State) : KeepsTwin s (s.setSpill n f) := ⟨fun _ => rfl, rfl, rfl, rfl⟩

theorem spill_setSpill (hn : n < s.safe.surfs.length) (f : SpillSurf → SpillSurf) : (s.setSpill n f).spill n = f (s.spill n) :=
  (nth_upd f s.safe.surfs n n).trans (if_pos ⟨rfl, hn⟩)

theorem profileApply_acts (hn : d.target < s.safe.surfs.length) : KeepsTwin s (s.profileApply d)
    ∧ ((s.profileApply d).spill d.target).nextProfile = if (s.nextFrame d.target).isSome then some (d.arg 16 1, s.windowFrame d.target)
        else (s.spill d.target).nextProfile := by
  have hspill : ∀ {u t : State}, OnlyRecords u t → t.spill d.target = u.spill d.target := fun h => by unfold State.spill; rw [h.safe]
  unfold State.profileApply
  extract_lets n f
  split
  · let u := s.setSpill n fun q => { q with nextProfile := some (d.arg 16 1, f) }
    have hr : OnlyRecords u (u.completeAt d .ok f [] (.fTick n f)) := completeAt_records _ _ _ _ _ _
    refine ⟨(setSpill_keeps _ _ s).trans hr.presents.toKeepsTwin, ?_⟩
    rw [hspill hr, spill_setSpill hn]
  · have hr := complete_records s d .ok 0 []
    exact ⟨hr.presents.toKeepsTwin, by rw [hspill hr]⟩

theorem exec_aim (s : State) : exec .aim s = .next (s.after (s.serve 0 [0x20] s.aimStatus fun d u => u.aimApply d)) := rfl
theorem exec_beamProfile (s : State) : exec .beamProfile s = .next (s.after (s.serve 2 [0x21] s.profileStatus fun d u => u.profileApply d)) := rfl

end Aims

/-- Settles O13: the content of a shade command, an aim and a profile as their commands leave them once their descriptors are off their
rings; a COMPANION on which no ALIGN has come keeps a shade command. -/
theorem shadesAimAndProfiles : Obligations.ShadesAimAndProfiles := by
  unfold Obligations.ShadesAimAndProfiles
  refine ⟨?update, ?updateWaits, ?updateRefused, ?updateNone, ?clear, ?clearWaits, ?clearRefused, fun s => aligned_idles (exec_shadeClear s),
    ?aim, fun s _ => serve_completes (exec_aim s), fun s => serve_idles (exec_aim s),
    ?profile, fun s _ => serve_completes (exec_beamProfile s), fun s => serve_idles (exec_beamProfile s)⟩
  case update =>
    intro s d hs hr hring hrole hok
    obtain ⟨hslot, hmerge, h63, hage, harr⟩ := shadeUpdate_acts hs hr hring hrole hok
    rw [exec_shadeUpdate]
    refine ⟨_, rfl, fun h => ?_, fun h => ?_, fun h => ?_, ?_, ?_⟩
    · rw [after_pix, hslot h]
    · rw [after_fbit _ _ _ (by decide), hmerge h]
    · rw [after_pix, h63 h]
    · rw [after_fget _ _ _ (by decide), hage]
    · rw [after_ring_arrived, harr]
  case updateWaits =>
    intro s d hs hr hring hrole ha hw hok
    obtain ⟨hwait, harr⟩ := shadeUpdate_waits hs hr hring hrole ha hw hok
    rw [exec_shadeUpdate]
    exact ⟨_, rfl, by rw [after_twin, hwait], by rw [after_ring_arrived, harr]⟩
  case updateRefused =>
    intro s d hr hring hno
    exact ⟨_, exec_shadeUpdate s, by rw [xShadeUpdate_refused hr hring hno]⟩
  case updateNone =>
    intro s hr
    exact ⟨_, exec_shadeUpdate s, by rw [xShadeUpdate_none hr]⟩
  case clear =>
    intro s d hs hr hring hrole hflags hzero
    have hpix : (s.popDesc 0).pix = s.pix := popDesc_part State.pix (fun _ => rfl) 0
    obtain ⟨hk, hslots⟩ := shadeRun_clear (s := s.popDesc 0) (by rw [hpix]; exact shape_shades hs) (ready_opcode hr)
    rw [hpix] at hslots
    rw [exec_shadeClear, serveAligned_ok hr hring (by rw [hflags, hzero]; rfl) hrole,
      settled_of_keeps ((popDesc_keepsRole 0 s).trans hrole) hk]
    exact ⟨_, rfl, fun i hi => by rw [after_pix, hslots i hi], served_arrived hs hr (by decide) hk⟩
  case clearWaits =>
    intro s d hs hr hring hrole ha hw hflags hzero
    exact aligned_joins (exec_shadeClear s) hs hr hring (by decide) (by rw [hflags, hzero]; rfl) hrole ha hw
  case clearRefused =>
    intro s d hr hring hno
    have hst : (if (d.flagsOk && d.zero 24 60) = true then Status.ok else .argInvalid) = .argInvalid :=
      if_neg (by rcases hno with h | h <;> simp [h])
    have h := aligned_completes (exec_shadeClear s) hr hring (by rw [hst]; decide)
    rw [hst] at h
    exact h
  case aim =>
    intro s d hs hr hring hn hok
    obtain ⟨hk, hv, hh⟩ := aimApply_acts hn (s.popDesc 0)
    have hlev : 0x50304 + d.target * 0x10 ≠ 0x90000 := by omega
    rw [exec_aim, serve_ok hr hring hok]
    exact ⟨_, rfl, by rw [after_fget _ _ _ hlev, hv], by rw [after_fget _ _ _ hlev, hh], served_arrived hs hr (by decide) hk⟩
  case profile =>
    intro s d hs hr hring hn hok hlen
    have hsafe : (s.popDesc 2).safe = s.safe := popDesc_part State.safe (fun _ => rfl) 2
    have hnext : (s.popDesc 2).nextFrame d.target = s.nextFrame d.target := popDesc_part (fun x => x.nextFrame d.target) (fun _ => rfl) 2
    have hframe : (s.popDesc 2).windowFrame d.target = s.windowFrame d.target := popDesc_part (fun x => x.windowFrame d.target) (fun _ => rfl) 2
    obtain ⟨hk, hprof⟩ := profileApply_acts (s := s.popDesc 2) (d := d) (by rw [hsafe, hlen]; exact hn)
    unfold State.spill at hprof
    rw [hsafe, hnext, hframe] at hprof
    rw [exec_beamProfile, serve_ok hr hring hok]
    exact ⟨_, rfl, by unfold State.spill; rw [after_safe, hprof], served_arrived hs hr (by decide) hk⟩

end Sys2Proof.Machine

namespace Sys2Proof.Machine

section SurfaceRegs

variable {s t u : State} {n p : Nat}

/-! ## What leaves a surface's configuration -/

/-- The registers of DIE-D are as they were, those of HOST aside. -/
def KeepsDevice (s t : State) : Prop := ∀ a, 0x20000 ≤ a → t.rd a = s.rd a

theorem KeepsDevice.refl (s : State) : KeepsDevice s s := fun _ _ => rfl

theorem KeepsDevice.trans (h : KeepsDevice s t) (k : KeepsDevice t u) : KeepsDevice s u := fun a ha => (k a ha).trans (h a ha)

theorem KeepsDevice.of_regs (h : t.regs = s.regs) : KeepsDevice s t := fun a _ => by unfold State.rd; rw [h]

theorem fset_device {f : Fld} (h : f.addr < 0x20000) (v : Nat) (s : State) : KeepsDevice s (s.fset f v) := fun a ha =>
  rd_wr_other s f.addr a _ (by omega)

theorem sendVector_device (v : Nat) (s : State) : KeepsDevice s (s.sendVector v) := by
  unfold State.sendVector
  split
  · exact .refl s
  split
  · exact .of_regs rfl
  · exact .of_regs rfl

theorem coalesce_device (irq : Bool) (s : State) : KeepsDevice s (s.coalesce n irq) := by
  unfold State.coalesce State.signal
  extract_lets u
  have hu : KeepsDevice s u := .of_regs rfl
  split
  · exact hu.trans (.trans (.of_regs rfl) (sendVector_device _ _))
  · exact hu

theorem showHead_device (hn : n < 7) (s : State) : KeepsDevice s (s.showHead n) :=
  (fset_device (by simp only [R.HOST_RING_HEAD_INDEX]; omega) _ s).trans (fset_device (by simp only [R.HOST_RING_HEAD_GEN]; omega) _ _)

theorem putRecord_device (hn : n < 7) (body : List Byte) (irq : Bool) (s : State) : KeepsDevice s (s.putRecord n body irq) := by
  unfold State.putRecord
  extract_lets size p a b
  have hr : ∀ (u : State) (f : Ring → Ring), KeepsDevice u (u.setRing n f) := fun u f => .of_regs rfl
  have ha : KeepsDevice s a := .of_regs rfl
  have hb : KeepsDevice a b := (hr a _).trans (showHead_device hn _)
  exact (ha.trans hb).trans (coalesce_device irq b)

theorem completeRecord_device (src : Nat × Nat) (body : List Byte) (irq : Bool) (s : State) : KeepsDevice s (s.completeRecord src body irq) := by
  unfold State.completeRecord
  split
  · exact putRecord_device (by decide) _ _ s
  extract_lets _ a
  have ha : KeepsDevice s a := .of_regs rfl
  split
  · exact ha.trans (fset_device (by decide) _ _)
  · exact ha

theorem flushList_device (ring : Nat) (acc os : List Outstanding) (s : State) : KeepsDevice s (flushList ring s acc os).1 := by
  induction os generalizing s acc with
  | nil => exact .refl s
  | cons o os ih =>
    unfold flushList
    split
    · exact ih _ s
    split
    · refine .trans ?_ (ih _ _)
      split
      · exact .of_regs rfl
      · exact completeRecord_device _ _ _ s
    · exact .refl s

/-- A completion is written by the registers of HOST alone. -/
theorem completeAt_device (d : Desc) (st : Status) (frame : Nat) (result : List Byte) (eff : EffectAt) (s : State) :
    KeepsDevice s (s.completeAt d st frame result eff) := by
  have hflush : ∀ (ring : Nat) (u : State), KeepsDevice u (u.flushRing ring) := fun ring u => .trans (flushList_device ring [] _ u) (.of_regs rfl)
  exact .trans (.of_regs rfl) (hflush d.ring _)

theorem KeepsDevice.fbit (h : KeepsDevice s t) (f : Fld) (hf : 0x20000 ≤ f.addr) : t.fbit f = s.fbit f := by
  unfold State.fbit State.fget; rw [h _ hf]

/-- A register of a surface's configuration: ENABLE, the canvas, or a port's mapping. -/
abbrev surfReg (a : Nat) : Prop := (a / 0x1000 = 0x40 ∧ (a % 0x100 = 0 ∨ a % 0x100 = 0x20)) ∨ (0x40800 ≤ a ∧ a < 0x408C0)

/-- What waits, the generators, what a SURFACE_CONFIG writes and the mode are as they were. -/
structure KeepsSurf (s t : State) : Prop extends KeepsTwin s t where
  gens : t.gens = s.gens
  rd : ∀ a, surfReg a → t.rd a = s.rd a
  mode : t.mode = s.mode
  modeWord : t.rd 0x20100 = s.rd 0x20100

theorem KeepsSurf.refl (s : State) : KeepsSurf s s := ⟨.refl s, rfl, fun _ _ => rfl, rfl, rfl⟩

theorem KeepsSurf.trans (h : KeepsSurf s t) (k : KeepsSurf t u) : KeepsSurf s u :=
  ⟨h.toKeepsTwin.trans k.toKeepsTwin, k.gens.trans h.gens, fun a ha => (k.rd a ha).trans (h.rd a ha), k.mode.trans h.mode,
    k.modeWord.trans h.modeWord⟩

theorem KeepsSurf.gen (h : KeepsSurf s t) (n : Nat) : t.gen n = s.gen n := by unfold State.gen; rw [h.gens]

theorem KeepsSurf.fbit (h : KeepsSurf s t) (f : Fld) (hf : surfReg f.addr) : t.fbit f = s.fbit f := by
  unfold State.fbit State.fget; rw [h.rd _ hf]

theorem KeepsTwin.of_parts (hh : t.host = s.host) (ht : t.twin = s.twin) (hr : t.regs = s.regs) : KeepsTwin s t where
  arrived n := by unfold State.ring; rw [hh]
  aligns := by rw [ht]
  waiting := by rw [ht]
  companion := by unfold State.isCompanion State.role State.domOn State.fget State.rd; rw [hr]

theorem KeepsSurf.of_parts (hh : t.host = s.host) (ht : t.twin = s.twin) (hg : t.gens = s.gens) (hm : t.mode = s.mode) (hr : t.regs = s.regs) :
    KeepsSurf s t :=
  ⟨.of_parts hh ht hr, hg, fun a _ => by unfold State.rd; rw [hr], hm, by unfold State.rd; rw [hr]⟩

theorem OnlyLanes.keepsSurf (h : OnlyLanes s t) : KeepsSurf s t :=
  ⟨OnlyLanes.keepsTwin h, h.part State.gens fun _ => rfl, fun a ha => h.rd a (by unfold surfReg at ha; unfold tileReg; omega),
    h.part State.mode fun _ => rfl, h.rd _ (by decide)⟩

theorem OnlyLevels.keepsSurf (h : OnlyLevels s t) : KeepsSurf s t where
  arrived n := by unfold State.ring; rw [h.host]
  aligns := by rw [h.twin]
  waiting := by rw [h.twin]
  companion := by unfold State.isCompanion State.role State.domOn State.fget; rw [h.rd _ (by decide), h.rd _ (by decide)]
  gens := h.gens
  rd a ha := h.rd a (by unfold surfReg at ha; omega)
  mode := h.mode
  modeWord := h.rd _ (by decide)

/-- Records, the registers of the other blocks left. -/
theorem OnlyRecords.keepsSurf (h : OnlyRecords s t) (hd : KeepsDevice s t) : KeepsSurf s t :=
  ⟨h.presents.toKeepsTwin, h.gens, fun a ha => hd a (by unfold surfReg at ha; omega), h.mode, hd _ (by decide)⟩

theorem completeAt_surf (d : Desc) (st : Status) (frame : Nat) (result : List Byte) (eff : EffectAt) (s : State) :
    KeepsSurf s (s.completeAt d st frame result eff) :=
  OnlyRecords.keepsSurf (completeAt_records _ _ _ _ _ _) (completeAt_device _ _ _ _ _ s)

theorem fset_surf {f : Fld} (hf : ¬ surfReg f.addr) (h7 : f.addr ≠ 0x70008) (h2 : f.addr / 0x10000 ≠ 2) (v : Nat) (s : State) :
    KeepsSurf s (s.fset f v) :=
  ⟨(fset_presents h7 (by omega) v s).toKeepsTwin, rfl, fun a ha => rd_wr_other s f.addr a _ (by rintro rfl; exact hf ha), rfl,
    rd_wr_other s f.addr _ _ (by omega)⟩

/-- A field of PIX, the tiles or SAFE. -/
theorem fset_outer {f : Fld} (hf : f.addr / 0x10000 = 5 ∨ f.addr / 0x10000 = 6 ∨ f.addr / 0x10000 = 9) (v : Nat) (s : State) :
    KeepsSurf s (s.fset f v) :=
  fset_surf (by unfold surfReg; omega) (by omega) (by omega) v s

/-- A field of TG_STATUS. -/
theorem fset_tgStatus {f : Fld} (hn : n < 4) (hf : f.addr = 0x40018 + n * 0x100) (v : Nat) (s : State) : KeepsSurf s (s.fset f v) :=
  fset_surf (by unfold surfReg; omega) (by omega) (by omega) v s

theorem sendAlign_surf (d : Desc) (n ph j frame : Nat) (s : State) : KeepsSurf s (s.sendAlign d n ph j frame) :=
  OnlyLanes.keepsSurf (sendAlign_lanes d n ph j frame s)

theorem alignNext_surf (n : Nat) (s : State) : KeepsSurf s (s.alignNext n) := by
  unfold State.alignNext
  split
  · exact sendAlign_surf _ _ _ _ _ s
  · exact .refl s

end SurfaceRegs

section Starts

variable {s t u : State} {n p : Nat}

/-! ### A surface that starts, beside its generator -/

theorem clearRefused_surf (hp : p < 24) (s : State) : KeepsSurf s (clearRefused p s) :=
  fset_outer (.inr (.inl (tileReg_of_port 0x44 hp (by decide)))) _ s

theorem endPrbsFor_surf (hp : p < 24) (s : State) : KeepsSurf s (endPrbsFor p s) :=
  OnlyLanes.keepsSurf (.trans (.onPort (.refl s)) (endPrbs_lanes hp _))

theorem activateRegion_surf (n : Nat) (fs : List (Nat × Nat × Nat × Nat)) (r : Nat) (s : State) : KeepsSurf s (activateRegion n fs r s) := by
  unfold activateRegion
  split
  · split
    · exact fset_outer (by decide) _ s
    · exact .refl s
  · exact (fset_outer (by decide) _ s).trans (fset_outer (by decide) _ _)

theorem spillStart_surf (hn : n < 4) (frame : Nat) (s : State) : KeepsSurf s (s.spillStart n frame) := by
  unfold State.spillStart
  extract_lets prof a zs _ b _ c
  have hc : KeepsSurf s c := .of_parts rfl rfl rfl rfl rfl
  exact hc.trans (fset_outer (by simp only [R.SAFE_PROFILE_EXCESS_RUN]; omega) _ c)

theorem zoneStep_surf (n : Nat) (atEnable : Bool) (z : Nat) (s : State) : KeepsSurf s (zoneStep n atEnable z s) := by
  unfold zoneStep
  split
  · exact .of_parts rfl rfl rfl rfl rfl
  extract_lets q tgt rise a
  have ha : KeepsSurf s a := .of_parts rfl rfl rfl rfl rfl
  split
  · exact ha.trans (fset_outer (by decide) _ a)
  · exact ha

theorem timingAll_surf (n : Nat) (g : Grid) (lenQ : Nat) (s : State) : KeepsSurf s (s.timingAll n g lenQ) := by
  refine overList_rel .refl .trans _ _ (fun p hp u => ?_) s
  unfold State.sendTiming
  split
  · exact OnlyLanes.keepsSurf (sendCtrl_lanes (List.mem_range.1 (List.mem_of_mem_filter hp)) _ _ u)
  · exact .refl u

/-- The generator of a surface whose start is pending. -/
def startGen (g : Grid) (k : Nat) (ms : List Member) (q : Gen) : Gen :=
  { q with grid := g, startF := some k, stopPend := false, latched := false, windowed := false, phase := .normal, atF := false,
           retime := none, retimeArmed := false, stepped := false, members := ms, joins := [], leaves := [], lenQ := g.tsQ }

/-- A start is the generator's, ENABLE and CFG_ERR; the rest lies outside the configuration. -/
theorem startSurface_surf (hn : n < 4) (s : State) :
    ∃ g k ms, KeepsSurf (((s.setGen n (startGen g k ms)).fsetb (R.TG_CTRL_ENABLE n) true).fset (R.TG_STATUS_CFG_ERR n) 0) (s.startSurface n) := by
  refine ⟨s.regGrid n, (s.regGrid n).firstF s.startQ, (s.binds n).filterMap (·.geom), ?_⟩
  unfold State.startSurface
  extract_lets g k bs ms a b ports c fs d e f
  have hc : KeepsSurf b c := .trans (overList_rel .refl .trans _ _ (fun _ hp u => clearRefused_surf (binds_port_lt hp) u) b)
    (overList_rel .refl .trans _ _ (fun _ hp u => endPrbsFor_surf (binds_port_lt hp) u) _)
  have hd : KeepsSurf b d := hc.trans (overList_rel .refl .trans _ _ (fun r _ u => activateRegion_surf n fs r u) c)
  have hf : KeepsSurf b f := (hd.trans (spillStart_surf hn _ d)).trans (overList_rel .refl .trans _ _ (fun z _ u => zoneStep_surf n true z u) e)
  exact hf.trans (timingAll_surf n g _ f)

end Starts

section Stops

variable {s t u : State} {n p : Nat}

/-! ### A surface that is disabled, beside its generator -/

theorem effectDue_surf (due : EffectAt → Bool) (s : State) : KeepsSurf s (s.effectDue due) :=
  OnlyRecords.keepsSurf (effectDue_records due s) (.of_regs rfl)

theorem stopPresent_surf (n : Nat) (p : Present) (s : State) : KeepsSurf s (s.stopPresent n p).1 := by
  refine OnlyRecords.keepsSurf (stopPresent_records n p s) ?_
  unfold State.stopPresent State.finishPresent
  dsimp only
  split
  · exact .trans (.of_regs rfl) (completeAt_device _ _ _ _ _ _)
  · exact .of_regs rfl

theorem cancelEntries_surf (hn : n < 4) (counted : Nat) (pick : Present → Bool) (s : State) : KeepsSurf s (s.cancelEntries n counted pick) := by
  have hentry : ∀ (u : State) (p : Present), KeepsSurf u (u.cancelEntry n counted p) := by
    intro u p
    unfold State.cancelEntry State.presentInEffect State.fadd
    exact ((stopPresent_surf n p u).trans (fset_surf (f := R.TIME_EPH_CNT_CANCELLED n) (by simp only [R.TIME_EPH_CNT_CANCELLED]; unfold surfReg; omega)
      (by simp only [R.TIME_EPH_CNT_CANCELLED]; omega) (by simp only [R.TIME_EPH_CNT_CANCELLED]; omega) _ _)).trans (effectDue_surf _ _)
  unfold State.cancelEntries State.showEphem
  extract_lets gone u
  have hu : KeepsSurf s u := .of_parts rfl rfl rfl rfl rfl
  exact (hu.trans (foldl_rel .refl .trans _ _ (fun v p _ => hentry v p) u)).trans (fset_surf (f := R.TIME_EPH_QUEUED n)
    (by simp only [R.TIME_EPH_QUEUED]; unfold surfReg; omega) (by simp only [R.TIME_EPH_QUEUED]; omega) (by simp only [R.TIME_EPH_QUEUED]; omega) _ _)

theorem showComposing_surf (s : State) : KeepsSurf s s.showComposing := by
  have h : KeepsSurf s (overAll 4 (fun n s => s.fsetb (R.TG_STATUS_COMPOSING n) ((s.pix.jobs.head?.map (·.surf)) == some n)) s) :=
    overList_rel .refl .trans _ _ (fun i hi u => fset_tgStatus (List.mem_range.1 hi) rfl _ u) s
  unfold State.showComposing
  dsimp only
  split
  · exact h.trans (fset_outer (by decide) _ _)
  · exact (h.trans (fset_outer (by decide) _ _)).trans (fset_outer (by decide) _ _)

theorem showSlots_surf (s : State) : KeepsSurf s s.showSlots := by
  unfold State.showSlots overAll
  refine .trans (fset_outer (f := R.PIX_COMP_STATUS_SLOTS_USED) (by decide) _ s) (overList_rel .refl .trans _ _ (fun k hk u => ?_) _)
  have hk : k < 2 := List.mem_range.1 hk
  exact (fset_outer (by simp only [R.PIX_SCALER_IN_USE]; omega) _ u).trans (fset_outer (by simp only [R.PIX_SCALER_OWNER]; omega) _ _)

theorem deactivateRegion_surf (n r : Nat) (s : State) : KeepsSurf s (deactivateRegion n r s) := by
  unfold deactivateRegion
  split
  · exact fset_outer (by decide) _ s
  · exact .refl s

theorem surfGone_surf (hn : n < 4) (s : State) : KeepsSurf s (s.surfGone n) := by
  unfold State.surfGone
  extract_lets a b c _ d
  have ha : KeepsSurf s a := by
    unfold a
    split
    · exact (stopPresent_surf _ _ s).trans (effectDue_surf _ _)
    · exact .refl s
  have hd : KeepsSurf b d := .of_parts rfl rfl rfl rfl rfl
  have hall : KeepsSurf s d := (ha.trans (cancelEntries_surf hn _ _ a)).trans hd
  exact ((hall.trans (showComposing_surf d)).trans (overList_rel .refl .trans _ _ (fun r _ u => deactivateRegion_surf n r u) _)).trans (showSlots_surf _)

theorem clearFault_surf (f : Nat) (s : State) : KeepsSurf s (s.clearFault f) := by
  unfold State.clearFault
  split
  · refine .trans (fset_outer ?_ _ s) (OnlyLevels.keepsSurf (drivePins_only _))
    unfold faultFld
    split <;> (dsimp only; omega)
  · exact .refl s

theorem endRun_surf (hn : n < 4) (s : State) : KeepsSurf s (s.endRun n) := by
  unfold State.endRun
  extract_lets a
  have ha : KeepsSurf s a := (fset_outer (f := R.SAFE_PROFILE_EXCESS_RUN n) (by simp only [R.SAFE_PROFILE_EXCESS_RUN]; omega) 0 s).trans
    (.of_parts rfl rfl rfl rfl rfl)
  split
  · exact ha.trans (clearFault_surf 4 a)
  · exact ha

/-- The decision to change mode that waits for no surface, and what waits, are as they were. -/
structure KeepsDecision (s t : State) : Prop extends KeepsTwin s t where
  word : ∀ f : Fld, f.addr = 0x20100 → f.lo + f.width ≤ 8 → t.fget f = s.fget f
  parkSurfaces : t.mode.parkSurfaces = s.mode.parkSurfaces
  decided : ∀ d, s.mode.trans = some d → d.waitSurf = [] → t.mode.trans = some d

theorem KeepsDecision.refl (s : State) : KeepsDecision s s := ⟨.refl s, fun _ _ _ => rfl, rfl, fun _ h _ => h⟩

theorem KeepsDecision.trans (h : KeepsDecision s t) (k : KeepsDecision t u) : KeepsDecision s u :=
  ⟨h.toKeepsTwin.trans k.toKeepsTwin, fun f ha hf => (k.word f ha hf).trans (h.word f ha hf), k.parkSurfaces.trans h.parkSurfaces,
    fun d hd hw => k.decided d (h.decided d hd hw) hw⟩

theorem KeepsDecision.of_mode (h : KeepsTwin s t) (hm : t.mode = s.mode) (hr : t.rd 0x20100 = s.rd 0x20100) : KeepsDecision s t :=
  ⟨h, fun f ha _ => by unfold State.fget; rw [ha, hr], by rw [hm], fun d hd _ => by rw [hm, hd]⟩

theorem KeepsSurf.decision (h : KeepsSurf s t) : KeepsDecision s t := .of_mode h.toKeepsTwin h.mode h.modeWord

theorem setEnable_decision (hn : n < 4) (b : Bool) (s : State) : KeepsDecision s (s.fsetb (R.TG_CTRL_ENABLE n) b) :=
  .of_mode (fset_presents (by simp only [R.TG_CTRL_ENABLE]; omega) (by simp only [R.TG_CTRL_ENABLE]; omega) _ s).toKeepsTwin rfl
    (rd_wr_other s _ _ _ (by simp only [R.TG_CTRL_ENABLE]; omega))

theorem dropWait_decision (n : Nat) (s : State) : KeepsDecision s (s.dropWait n) where
  toKeepsTwin := .of_parts rfl rfl rfl
  word _ _ _ := rfl
  parkSurfaces := rfl
  decided d hd hw := by
    unfold State.dropWait
    rw [hd, Option.map_some, hw]
    dsimp only
    rw [List.filter_nil, ← hw]

/-- A surface that is disabled has a generator like none, and ENABLE low. -/
theorem surfDisabled_acts (hn : n < 4) (s : State) : KeepsDecision s (s.surfDisabled n)
    ∧ (s.surfDisabled n).gens = upd (fun _ => {}) s.gens n ∧ (s.surfDisabled n).fbit (R.TG_CTRL_ENABLE n) = false := by
  unfold State.surfDisabled
  extract_lets a b c d e
  have hg : KeepsDecision s (s.setGen n fun _ => {}) := .of_mode (.of_parts rfl rfl rfl) rfl rfl
  have hb : KeepsSurf (s.setGen n fun _ => {}) b :=
    ((effectDue_surf _ _).trans (fset_tgStatus hn rfl _ a)).trans (fset_tgStatus hn rfl _ _)
  have hen : KeepsDecision b (b.fsetb (R.TG_CTRL_ENABLE n) false) := setEnable_decision hn false b
  have hd : KeepsSurf (b.fsetb (R.TG_CTRL_ENABLE n) false) d := (endRun_surf hn _).trans
    ((fset_outer (by simp only [R.SAFE_PROFILE_RETURNING]; omega) _ c).trans (surfGone_surf hn _))
  have hf : KeepsSurf e (if e.fget R.HOST_SILENCE_SURF = n then e.fset R.HOST_SILENCE_CNT_COUNT 0 else e) := by
    split
    · exact fset_surf (by decide) (by decide) (by decide) _ e
    · exact .refl e
  refine ⟨(((hg.trans hb.decision).trans hen).trans hd.decision).trans ((dropWait_decision n d).trans hf.decision), hf.gens.trans (hd.gens.trans hb.gens), ?_⟩
  rw [hf.fbit _ (by unfold surfReg; simp only [R.TG_CTRL_ENABLE]; omega)]
  refine (hd.fbit _ (by unfold surfReg; simp only [R.TG_CTRL_ENABLE]; omega)).trans ?_
  exact fbit_fsetb_self b _ false rfl rfl

/-- A RETIME that is cancelled takes its grid with it. -/
theorem cancelRetime_acts (hn : n < 4) (s : State) : KeepsDecision s (s.cancelRetime n)
    ∧ ((s.cancelRetime n).gens = s.gens ∨ (s.cancelRetime n).gens = upd (fun q => { q with retime := none, retimeArmed := false }) s.gens n)
    ∧ (∀ a, surfReg a → (s.cancelRetime n).rd a = s.rd a)
    ∧ (s.cancelRetime n).fbit (R.TG_STATUS_RETIME_PENDING n) = false := by
  unfold State.cancelRetime
  split
  · extract_lets a b
    have hg : KeepsDecision s a := .of_mode (.of_parts rfl rfl rfl) rfl rfl
    have hb : KeepsSurf a ((b.fsetb (R.TG_STATUS_RETIME_PENDING n) false).fsetb (R.TG_STATUS_RETIME_CANCELLED n) true) :=
      ((effectDue_surf _ a).trans (fset_tgStatus hn rfl _ b)).trans (fset_tgStatus hn rfl _ _)
    refine ⟨hg.trans hb.decision, .inr hb.gens, hb.rd, ?_⟩
    exact (fbit_fset_beside _ _ _ _ rfl rfl rfl).trans (fbit_fsetb_self b _ false rfl rfl)
  · rename_i hno
    exact ⟨.refl s, .inl rfl, fun _ _ => rfl, by simpa using hno⟩

end Stops

end Sys2Proof.Machine

namespace Sys2Proof.Machine

section ConfigWrites

variable {s t u : State} {n p : Nat} {d : Desc}

/-! ## The registers that a SURFACE_CONFIG writes -/

/-- A part that one of the indices leaves at a value, and the others do not touch. -/
theorem overList_reaches {α : Type} (g : State → α) {f : Nat → State → State} {v : α} {p : Nat} (l : List Nat) (hp : ∀ u, g (f p u) = v)
    (hq : ∀ q ∈ l, q ≠ p → ∀ u, g (f q u) = g u) (s : State) (h : p ∈ l ∨ g s = v) : g (overList f l s) = v := by
  induction l generalizing s with
  | nil => exact h.resolve_left List.not_mem_nil
  | cons k l ih =>
    refine ih (fun q hm => hq q (List.mem_cons_of_mem k hm)) (f k s) ?_
    by_cases hk : k = p
    · exact .inr (by rw [hk, hp])
    · rw [hq k List.mem_cons_self hk]
      exact h.imp_left fun hm => (List.mem_cons.1 hm).resolve_left (Ne.symm hk)

/-- Only registers of the generators and the tiles change. -/
abbrev OnlyMaps := Within (fun s => s) fun a => a / 0x10000 = 4 ∨ a / 0x10000 = 6

theorem Within.wr {F : State → State} {P : Nat → Prop} {a : Nat} {w : Word} (h : Within F P s t) (ha : P a) : Within F P s (t.wr a w) :=
  ⟨h.rest, fun b hb => (rd_wr_other t a b w (by rintro rfl; exact hb ha)).trans (h.rd b hb)⟩

theorem OnlyMaps.keepsTwin (h : OnlyMaps s t) : KeepsTwin s t where
  arrived m := by unfold State.ring; rw [h.part State.host fun _ => rfl]
  aligns := h.part (fun x => x.twin.aligns) fun _ => rfl
  waiting := h.part (fun x => x.twin.waiting) fun _ => rfl
  companion := isCompanion_congr (h.fget _ (by decide)) (h.domOn (by decide) 8)

theorem putGrid_maps (hn : n < 4) (g : Grid) (s : State) : OnlyMaps s (s.putGrid n g) := by
  have h : ∀ k, k < 0x100 → (0x40000 + k + n * 0x100) / 0x10000 = 4 ∨ (0x40000 + k + n * 0x100) / 0x10000 = 6 := fun k hk => by omega
  unfold State.putGrid
  exact .fset (.fset (.fset (.fset (.fset (.fset (.fset (.refl s) (h 4 (by decide))) (h 4 (by decide))) (h 8 (by decide))) (h 8 (by decide)))
    (h 8 (by decide))) (h 0xC (by decide))) (h 0x10 (by decide))

/-- The timing registers of a surface apart, a grid changes nothing. -/
theorem putGrid_rd (n : Nat) (g : Grid) (s : State) {a : Nat} (h : a < 0x40004 + n * 0x100 ∨ 0x40014 + n * 0x100 ≤ a) : (s.putGrid n g).rd a = s.rd a := by
  have hf : ∀ (u : State) (f : Fld) (v : Nat), 0x40004 + n * 0x100 ≤ f.addr ∧ f.addr < 0x40014 + n * 0x100 → (u.fset f v).rd a = u.rd a :=
    fun u f v hf => rd_wr_other u f.addr a _ (by omega)
  unfold State.putGrid
  dsimp only
  rw [hf _ (R.TG_GRID_OFFSET_NS n) _ (by simp only [R.TG_GRID_OFFSET_NS]; omega), hf _ (R.TG_LEAD_LEAD_US n) _ (by simp only [R.TG_LEAD_LEAD_US]; omega),
    hf _ (R.TG_GUARD_STAGGER_SPAN n) _ (by simp only [R.TG_GUARD_STAGGER_SPAN]; omega), hf _ (R.TG_GUARD_PC_STEPS n) _ (by simp only [R.TG_GUARD_PC_STEPS]; omega),
    hf _ (R.TG_GUARD_G_US n) _ (by simp only [R.TG_GUARD_G_US]; omega), hf _ (R.TG_RATE_SCANS_LOG2 n) _ (by simp only [R.TG_RATE_SCANS_LOG2]; omega),
    hf _ (R.TG_RATE_FRAME_HZ n) _ (by simp only [R.TG_RATE_FRAME_HZ]; omega)]

theorem cfgPort_maps (hp : p < 24) (s : State) : OnlyMaps s (s.cfgPort d p) := by
  have hA : portmapA p / 0x10000 = 4 := by unfold portmapA; omega
  have hB : portmapB p / 0x10000 = 4 := by unfold portmapB; omega
  unfold State.cfgPort
  exact .ite (.wr (.wr (.refl s) (.inl hA)) (.inl hB))
    (.ite (.fsetb (.fset (.refl s) (.inl hA)) (.inr (tileReg_of_port 0x44 hp (by decide)))) (.refl s))

/-- One port's binding is its two mapping words and its refusal. -/
theorem cfgPort_rd (d : Desc) (p : Nat) (s : State) {a : Nat} (hA : a ≠ portmapA p) (hB : a ≠ portmapB p) (hT : a ≠ 0x60044 + p * 0x800) :
    (s.cfgPort d p).rd a = s.rd a := by
  unfold State.cfgPort
  split
  · rw [rd_wr_other _ _ _ _ hB, rd_wr_other _ _ _ _ hA]
  split
  · exact (rd_wr_other _ _ _ _ hT).trans (rd_wr_other _ _ _ _ hA)
  · rfl

theorem cfgPort_named (h : bitOf d.portMask p = true) (s : State) :
    (s.cfgPort d p).rd (portmapA p) = d.mapA p ∧ (s.cfgPort d p).rd (portmapB p) = d.mapB p := by
  unfold State.cfgPort
  rw [if_pos h]
  exact ⟨(rd_wr_other _ _ _ _ (by unfold portmapA portmapB; omega)).trans (rd_wr_same _ _ _), rd_wr_same _ _ _⟩

/-- The configuration as its payload gives it. -/
structure Configured (d : Desc) (s : State) : Prop where
  canvas : s.rd (tgAddr d.target 0x20) = d.word 4
  maps : ∀ p, p < 24 → bitOf d.portMask p = true → s.rd (portmapA p) = d.mapA p ∧ s.rd (portmapB p) = d.mapB p

theorem Configured.keep (h : Configured d s) (hn : d.target < 4) (hrd : ∀ a, surfReg a → a ≠ 0x40000 + d.target * 0x100 → t.rd a = s.rd a) :
    Configured d t where
  canvas := by rw [hrd _ (by unfold tgAddr surfReg; omega) (by unfold tgAddr; omega)]; exact h.canvas
  maps p hp hm := by
    rw [hrd _ (by unfold portmapA surfReg; omega) (by unfold portmapA; omega), hrd _ (by unfold portmapB surfReg; omega) (by unfold portmapB; omega)]
    exact h.maps p hp hm

theorem cfgWrite_acts (hn : d.target < 4) (s : State) : KeepsTwin s (s.cfgWrite d) ∧ (s.cfgWrite d).gens = s.gens ∧ Configured d (s.cfgWrite d)
    ∧ (s.cfgWrite d).rd (0x40000 + d.target * 0x100) = s.rd (0x40000 + d.target * 0x100) := by
  unfold State.cfgWrite
  extract_lets n a
  have ha : OnlyMaps s a := .wr (putGrid_maps hn _ s) (.inl (by unfold tgAddr; omega))
  have hall : OnlyMaps s (overAll 24 (State.cfgPort d) a) := .trans ha (.overAll 24 _ (fun p hp u => cfgPort_maps hp u) a)
  have hbelow : ∀ b, b < 0x40800 → (overAll 24 (State.cfgPort d) a).rd b = a.rd b := fun b hb =>
    overList_rel (R := fun s t => t.rd b = s.rd b) (fun _ => rfl) (fun h k => k.trans h) _ _
      (fun p _ u => cfgPort_rd d p u (by unfold portmapA; omega) (by unfold portmapB; omega) (by omega)) a
  refine ⟨OnlyMaps.keepsTwin hall, hall.part State.gens fun _ => rfl, ⟨?_, fun p hp hm => ⟨?_, ?_⟩⟩, ?_⟩
  · rw [hbelow _ (by unfold tgAddr; omega)]
    exact rd_wr_same _ _ _
  · refine overList_reaches (fun u => u.rd (portmapA p)) _ (fun u => (cfgPort_named hm u).1) (fun q hq hne u => ?_) a (.inl (List.mem_range.2 hp))
    exact cfgPort_rd d q u (by unfold portmapA; omega) (by unfold portmapA portmapB; omega) (by unfold portmapA; omega)
  · refine overList_reaches (fun u => u.rd (portmapB p)) _ (fun u => (cfgPort_named hm u).2) (fun q hq hne u => ?_) a (.inl (List.mem_range.2 hp))
    exact cfgPort_rd d q u (by unfold portmapA portmapB; omega) (by unfold portmapB; omega) (by unfold portmapB; omega)
  · rw [hbelow _ (by omega)]
    exact (rd_wr_other _ _ _ _ (by unfold tgAddr; omega)).trans (putGrid_rd n _ s (by omega))

end ConfigWrites

section ConfigActs

variable {s t u : State} {n : Nat} {d : Desc}

/-! ## SURFACE_CONFIG -/

theorem gen_of_upd {f : Gen → Gen} (h : t.gens = upd f s.gens n) (hn : n < s.gens.length) : t.gen n = f (s.gen n) := by
  unfold State.gen
  rw [h]
  exact (nth_upd f s.gens n n).trans (if_pos ⟨rfl, hn⟩)

theorem enable_surf (hn : n < 4) : surfReg (R.TG_CTRL_ENABLE n).addr := by unfold surfReg; simp only [R.TG_CTRL_ENABLE]; omega

theorem setEnable_twin (hn : n < 4) (b : Bool) (s : State) : KeepsTwin s (s.fsetb (R.TG_CTRL_ENABLE n) b) := (setEnable_decision hn b s).toKeepsTwin

/-- ACTION 0 writes the registers and no more. -/
theorem configApply_write (hn : d.target < 4) (h0 : d.arg 16 1 = 0) (named : Option Nat) (s : State) : KeepsTwin s (s.configApply d named)
    ∧ Configured d (s.configApply d named) ∧ (s.configApply d named).fbit (R.TG_CTRL_ENABLE d.target) = s.fbit (R.TG_CTRL_ENABLE d.target) := by
  have hx : s.configApply d named = (s.cfgWrite d).complete d .ok 0 [] := by
    unfold State.configApply
    dsimp only
    rw [h0, if_neg (by decide), if_pos rfl]
  obtain ⟨hk, -, hcfg, hen⟩ := cfgWrite_acts hn s
  have hc : KeepsSurf (s.cfgWrite d) ((s.cfgWrite d).complete d .ok 0 []) := completeAt_surf _ _ _ _ _ _
  rw [hx]
  refine ⟨hk.trans hc.toKeepsTwin, hcfg.keep hn fun a ha _ => hc.rd a ha, ?_⟩
  rw [hc.fbit _ (enable_surf hn)]
  unfold State.fbit State.fget
  rw [show (R.TG_CTRL_ENABLE d.target).addr = 0x40000 + d.target * 0x100 from rfl, hen]

/-- What a start leaves of the generator, of ENABLE and of the configuration. -/
theorem startSurface_acts (hn : n < 4) (hlen : n < s.gens.length) : KeepsTwin s (s.startSurface n)
    ∧ (s.startSurface n).gens.length = s.gens.length
    ∧ ((s.startSurface n).gen n).stopPend = false
    ∧ (s.startSurface n).fbit (R.TG_CTRL_ENABLE n) = true
    ∧ ∀ a, surfReg a → a ≠ 0x40000 + n * 0x100 → (s.startSurface n).rd a = s.rd a := by
  obtain ⟨g, k, ms, h⟩ := startSurface_surf hn s
  have hg : KeepsTwin s (s.setGen n (startGen g k ms)) := .of_parts rfl rfl rfl
  have hs : KeepsSurf _ (((s.setGen n (startGen g k ms)).fsetb (R.TG_CTRL_ENABLE n) true).fset (R.TG_STATUS_CFG_ERR n) 0) :=
    fset_tgStatus hn rfl 0 _
  have hall := hs.trans h
  have hgens : (s.startSurface n).gens = upd (startGen g k ms) s.gens n := hall.gens
  refine ⟨(hg.trans (setEnable_twin hn true _)).trans hall.toKeepsTwin, by rw [hgens, upd_length], ?_, ?_, fun a ha hne => ?_⟩
  · rw [gen_of_upd hgens hlen]
    rfl
  · rw [hall.fbit _ (enable_surf hn)]
    exact fbit_fsetb_self _ _ true rfl rfl
  · rw [hall.rd a ha]
    exact rd_wr_other _ _ _ _ hne

/-- ACTION 1 writes the registers and leaves the start pending. -/
theorem configApply_start (hn : d.target < 4) (hlen : d.target < s.gens.length) (h1 : d.arg 16 1 = 1) (named : Option Nat) :
    KeepsTwin s (s.configApply d named) ∧ Configured d (s.configApply d named)
    ∧ (s.configApply d named).fbit (R.TG_CTRL_ENABLE d.target) = true
    ∧ ((s.configApply d named).gen d.target).startF.isSome = true ∧ ((s.configApply d named).gen d.target).stopPend = false := by
  obtain ⟨hk, hgens, hcfg, -⟩ := cfgWrite_acts hn s
  have hlenw : d.target < (s.cfgWrite d).gens.length := by rw [hgens]; exact hlen
  obtain ⟨hks, hlens, hstop, hen, hrd⟩ := startSurface_acts hn hlenw
  obtain ⟨k, frame, eff, hx⟩ : ∃ k frame eff, s.configApply d named = (((((s.cfgWrite d).startSurface d.target).setGen d.target
      fun q => { q with startF := some k }).alignFrame d d.target (k % 2 ^ 32)).alignNext d.target).completeAt d .ok frame [] eff := by
    unfold State.configApply
    dsimp only
    rw [h1, if_neg (by decide), if_neg (by decide)]
    exact ⟨_, _, _, rfl⟩
  obtain ⟨v, hv⟩ : ∃ v, v = ((s.cfgWrite d).startSurface d.target).setGen d.target fun q => { q with startF := some k } := ⟨_, rfl⟩
  have hsv : KeepsTwin ((s.cfgWrite d).startSurface d.target) v := by rw [hv]; exact .of_parts rfl rfl rfl
  have hvg : v.gen d.target = { ((s.cfgWrite d).startSurface d.target).gen d.target with startF := some k } :=
    gen_of_upd (f := fun q => { q with startF := some k }) (by rw [hv]; rfl) (by rw [hlens]; exact hlenw)
  have hrdv : ∀ a, v.rd a = ((s.cfgWrite d).startSurface d.target).rd a := fun a => by rw [hv]; rfl
  rw [← hv] at hx
  have hrest : KeepsSurf v (s.configApply d named) := by
    rw [hx]
    exact ((sendAlign_surf _ _ _ _ _ v).trans (alignNext_surf _ _)).trans (completeAt_surf _ _ _ _ _ _)
  refine ⟨((hk.trans hks).trans hsv).trans hrest.toKeepsTwin, hcfg.keep hn fun a ha hne => ?_, ?_, ?_, ?_⟩
  · rw [hrest.rd a ha, hrdv, hrd a ha hne]
  · rw [hrest.fbit _ (enable_surf hn)]
    unfold State.fbit State.fget at hen ⊢
    rw [hrdv, hen]
  · rw [hrest.gen, hvg]
    rfl
  · rw [hrest.gen, hvg, ← hstop]

/-- A stop that is asked of a running surface is pending, a pending RETIME cancelled. -/
theorem askStop_running (hn : n < 4) (hlen : n < s.gens.length) (h3 : s.domOn 3 = true) (hrun : s.running n = true) :
    KeepsTwin s (s.askStop n) ∧ ((s.askStop n).gen n).stopPend = true ∧ (s.askStop n).fbit (R.TG_CTRL_ENABLE n) = false
    ∧ (s.askStop n).fbit (R.TG_STATUS_RETIME_PENDING n) = false := by
  unfold State.askStop
  rw [h3, if_neg (by decide), if_pos hrun]
  obtain ⟨v, hv⟩ : ∃ v, v = (s.setGen n fun q => { q with stopPend := true }).fsetb (R.TG_CTRL_ENABLE n) false := ⟨_, rfl⟩
  rw [← hv]
  have hsv : KeepsTwin s v := by
    rw [hv]
    exact KeepsTwin.trans (t := s.setGen n fun q => { q with stopPend := true }) (.of_parts rfl rfl rfl) (setEnable_twin hn false _)
  have hvg : v.gen n = { s.gen n with stopPend := true } := gen_of_upd (f := fun q => { q with stopPend := true }) (by rw [hv]; rfl) hlen
  have hven : v.fbit (R.TG_CTRL_ENABLE n) = false := by rw [hv]; exact fbit_fsetb_self _ _ false rfl rfl
  have hvlen : n < v.gens.length := by rw [hv]; exact (upd_length _ s.gens n).symm ▸ hlen
  obtain ⟨hk, hgens, hrd, hpend⟩ := cancelRetime_acts hn v
  refine ⟨hsv.trans hk.toKeepsTwin, ?_, ?_, hpend⟩
  · rcases hgens with h | h
    · unfold State.gen at hvg ⊢
      rw [h, hvg]
    · rw [gen_of_upd h hvlen, hvg]
  · unfold State.fbit State.fget at hven ⊢
    rw [hrd _ (enable_surf hn), hven]

/-- A start that is still pending is withdrawn. -/
theorem askStop_pending (hn : n < 4) (hlen : n < s.gens.length) (h3 : s.domOn 3 = true) (hrun : s.running n = false)
    (hst : (s.gen n).startF.isSome = true) :
    KeepsTwin s (s.askStop n) ∧ ((s.askStop n).gen n).startF = none ∧ (s.askStop n).fbit (R.TG_CTRL_ENABLE n) = false := by
  unfold State.askStop
  rw [h3, if_neg (by decide), hrun, if_neg (by decide), if_pos hst]
  obtain ⟨hk, hgens, -, -⟩ := cancelRetime_acts hn s
  obtain ⟨hkd, hgd, hen⟩ := surfDisabled_acts hn (s.cancelRetime n)
  have hlenc : n < (s.cancelRetime n).gens.length := by
    rcases hgens with h | h
    · rw [h]; exact hlen
    · rw [h, upd_length]; exact hlen
  refine ⟨(hk.trans hkd).toKeepsTwin, ?_, hen⟩
  rw [gen_of_upd hgd hlenc]

theorem askStop_idle (h : s.domOn 3 = false ∨ (s.running n = false ∧ (s.gen n).startF = none)) : s.askStop n = s := by
  unfold State.askStop
  rcases h with h | ⟨hrun, hst⟩
  · exact if_pos (by rw [h]; rfl)
  · rw [hrun, hst, if_neg (c := (false : Bool) = true) (by decide)]
    exact ite_self s

/-- A stop that is asked leaves a decision that waits for no surface. -/
theorem askStop_decision (hn : n < 4) (s : State) : KeepsDecision s (s.askStop n) := by
  unfold State.askStop
  split
  · exact .refl s
  split
  · obtain ⟨v, hv⟩ : ∃ v, v = s.setGen n fun q => { q with stopPend := true } := ⟨_, rfl⟩
    have hsv : KeepsDecision s v := by rw [hv]; exact .of_mode (.of_parts rfl rfl rfl) rfl rfl
    rw [← hv]
    exact (hsv.trans (setEnable_decision hn false v)).trans (cancelRetime_acts hn _).1
  split
  · exact (cancelRetime_acts hn s).1.trans (surfDisabled_acts hn _).1
  · exact .refl s

/-- ACTION 2 names its F-tick, asks for the stop and completes. -/
theorem configApply_stop (hn : d.target < 4) (h2 : d.arg 16 1 = 2) (named : Option Nat) (s : State) :
    ∃ v, KeepsTwin s v ∧ v.gens = s.gens ∧ v.domOn 3 = s.domOn 3 ∧ v.running d.target = s.running d.target
      ∧ OnlyRecords (v.askStop d.target) (s.configApply d named) := by
  unfold State.configApply
  dsimp only
  rw [h2, if_pos rfl]
  have hsent : ∀ frame, OnlyLanes s (s.alignFrame d d.target frame) := fun frame => sendAlign_lanes d d.target 0 0 frame s
  exact ⟨_, OnlyLanes.keepsTwin (hsent _), (OnlyLanes.keepsSurf (hsent _)).gens, (hsent _).domOn (by decide) 3,
    (hsent _).fbit _ (by unfold tileReg; simp only [R.TG_STATUS_RUNNING]; omega), completeAt_records _ _ _ _ _ _⟩

theorem enable_noRecord (n : Nat) : ¬ recordReg (R.TG_CTRL_ENABLE n).addr := by unfold recordReg; simp only [R.TG_CTRL_ENABLE]; omega

end ConfigActs

section RetimeAndScaler

variable {s t u : State} {n : Nat} {d : Desc}

/-! ## RETIME and SCALER_COEFF -/

theorem tgStatus_noRecord (n : Nat) : ¬ recordReg (0x40018 + n * 0x100) := by unfold recordReg; omega

theorem retimeApply_acts (hn : d.target < 4) (hlen : d.target < s.gens.length) (named : Option Nat) : KeepsTwin s (s.retimeApply d named)
    ∧ ((s.retimeApply d named).gen d.target).retime = some d.retimeGrid
    ∧ (s.retimeApply d named).fbit (R.TG_STATUS_RETIME_PENDING d.target) = true := by
  unfold State.retimeApply
  extract_lets n a b
  have ha : KeepsTwin s a := .of_parts rfl rfl rfl
  have hb : KeepsSurf a b := (fset_tgStatus hn rfl _ a).trans (fset_tgStatus hn rfl _ _)
  obtain ⟨v, hv⟩ : ∃ v, v = b.alignFrame d n (b.targetFrame n) := ⟨_, rfl⟩
  have hlanes : OnlyLanes b v := by rw [hv]; exact sendAlign_lanes _ _ _ _ _ b
  rw [← hv]
  have hc := completeAt_records v d .ok (named.getD (b.targetFrame n)) [] (.retime n)
  refine ⟨((ha.trans hb.toKeepsTwin).trans (OnlyLanes.keepsTwin hlanes)).trans hc.presents.toKeepsTwin, ?_, ?_⟩
  · have hgens := hc.gens.trans ((OnlyLanes.keepsSurf hlanes).gens.trans hb.gens)
    rw [gen_of_upd (f := fun q => { q with retime := some d.retimeGrid, retimeArmed := false }) hgens hlen]
  · rw [hc.fbit _ (tgStatus_noRecord n), hlanes.fbit _ (by unfold tileReg; simp only [R.TG_STATUS_RETIME_PENDING]; omega)]
    exact (fbit_fset_beside _ _ _ _ rfl rfl rfl).trans (fbit_fsetb_self a _ true rfl rfl)

/-- The scalers with the part of an inactive bank that a SCALER_COEFF names, and its swap armed where it commits. -/
def Desc.scaler (d : Desc) (q : Scaler) : Scaler :=
  { q with bankB := q.bankB.write (d.arg 17 1) d, armed := if (d.arg 18 1 == 1) = true then some (d.target, 0) else q.armed }

theorem scalerApply_writes (hsc : d.arg 16 1 < s.pix.scalers.length) (h0 : d.arg 18 1 = 0) (named : Option Nat) : KeepsTwin s (s.scalerApply d named)
    ∧ nth (s.scalerApply d named).pix.scalers (d.arg 16 1) = d.scaler (nth s.pix.scalers (d.arg 16 1)) := by
  obtain ⟨v, hv⟩ : ∃ v, v = { s with pix := { s.pix with scalers := upd d.scaler s.pix.scalers (d.arg 16 1) } } := ⟨_, rfl⟩
  have hx : s.scalerApply d named = v.complete d .ok 0 [] := by
    rw [hv]
    exact if_neg (by rw [h0]; decide)
  have hc := complete_records v d .ok 0 []
  rw [hx]
  refine ⟨KeepsTwin.trans (t := v) (by rw [hv]; exact .of_parts rfl rfl rfl) hc.presents.toKeepsTwin, ?_⟩
  rw [hc.pix, hv]
  exact (nth_upd _ _ _ _).trans (if_pos ⟨rfl, hsc⟩)

theorem scalerApply_commits (hsc : d.arg 16 1 < s.pix.scalers.length) (h1 : d.arg 18 1 = 1) (named : Option Nat) : KeepsTwin s (s.scalerApply d named)
    ∧ nth (s.scalerApply d named).pix.scalers (d.arg 16 1) = d.scaler (nth s.pix.scalers (d.arg 16 1))
    ∧ (s.scalerApply d named).fbit (R.PIX_SCALER_ARMED (d.arg 16 1)) = true := by
  have h256 : d.arg 16 1 < 256 := arg_lt d 16 1
  obtain ⟨v, hv⟩ : ∃ v, v = { s with pix := { s.pix with scalers := upd d.scaler s.pix.scalers (d.arg 16 1) } } := ⟨_, rfl⟩
  obtain ⟨frame, frame', eff, hx⟩ : ∃ frame frame' eff, s.scalerApply d named
      = ((v.fsetb (R.PIX_SCALER_ARMED (d.arg 16 1)) true).alignFrame d d.target frame).completeAt d .ok frame' [] eff := by
    rw [hv]
    exact ⟨_, _, _, if_pos (by rw [h1]; rfl)⟩
  have hfset : KeepsPix v (v.fsetb (R.PIX_SCALER_ARMED (d.arg 16 1)) true) :=
    fset_presents (by simp only [R.PIX_SCALER_ARMED]; omega) (by simp only [R.PIX_SCALER_ARMED]; omega) _ v
  have hsent := sendAlign_lanes d d.target 0 0 frame (v.fsetb (R.PIX_SCALER_ARMED (d.arg 16 1)) true)
  have hpres := sendAlign_presents d d.target 0 0 frame (v.fsetb (R.PIX_SCALER_ARMED (d.arg 16 1)) true)
  have hc := completeAt_records ((v.fsetb (R.PIX_SCALER_ARMED (d.arg 16 1)) true).alignFrame d d.target frame) d .ok frame' [] eff
  have hall : KeepsPix v _ := (hfset.trans hpres).trans hc.presents
  rw [hx]
  refine ⟨KeepsTwin.trans (t := v) (by rw [hv]; exact .of_parts rfl rfl rfl) hall.toKeepsTwin, ?_, ?_⟩
  · rw [hall.pix, hv]
    exact (nth_upd _ _ _ _).trans (if_pos ⟨rfl, hsc⟩)
  · rw [(completeAt_device _ _ _ _ _ _).fbit _ (by simp only [R.PIX_SCALER_ARMED]; omega)]
    exact (hsent.fbit _ (by unfold tileReg; simp only [R.PIX_SCALER_ARMED]; omega)).trans (fbit_fsetb_self v _ true rfl rfl)

end RetimeAndScaler

section SurfaceSettled

variable {s t u : State} {r : Nat} {ops : List Nat} {d : Desc} {st : Status} {f : State → State}

/-! ## What the commands of SUB_2 come to -/

theorem exec_surfaceConfig (s : State) : exec .surfaceConfig s = .next (s.after (settled (xSurfaceConfig s))) := rfl
theorem exec_scalerCoeff (s : State) : exec .scalerCoeff s = .next (s.after (settled (xScalerCoeff s))) := rfl
theorem exec_retime (s : State) : exec .retime s = .next (s.after (settled (s.latchesDue.serveAligned 2 [0x31] s.latchesDue.retimeStatus
    fun d u => u.retimeApply d none))) := rfl

theorem command_ok : s.command d .ok f = f (s.popDesc d.ring) := by
  unfold State.command
  exact if_pos rfl

theorem command_refused (hno : st ≠ .ok) : s.command d st f = (s.popDesc d.ring).complete d st 0 [] := by
  unfold State.command
  exact if_neg hno

theorem xSurfaceConfig_none (hr : s.ready 2 [0x30] = none) : xSurfaceConfig s = s := by unfold xSurfaceConfig; rw [hr]
theorem xScalerCoeff_none (hr : s.ready 2 [0x32] = none) : xScalerCoeff s = s := by unfold xScalerCoeff; rw [hr]

theorem xSurfaceConfig_writes (hr : s.ready 2 [0x30] = some d) (hring : d.ring = 2) (h0 : d.arg 16 1 = 0) (hok : s.configStatus d = .ok) :
    xSurfaceConfig s = (s.popDesc 2).configApply d none := by
  unfold xSurfaceConfig
  rw [hr]
  dsimp only
  rw [if_pos h0, hok, command_ok, hring]

theorem xSurfaceConfig_aligned (hr : s.ready 2 [0x30] = some d) (h0 : d.arg 16 1 ≠ 0) (hok : s.configStatus d = .ok) :
    xSurfaceConfig s = s.aligned d .ok fun u => u.configApply d none := by
  unfold xSurfaceConfig
  rw [hr]
  dsimp only
  rw [if_neg h0, hok]

theorem xSurfaceConfig_refused (hr : s.ready 2 [0x30] = some d) (hring : d.ring = 2) (hno : s.configStatus d ≠ .ok) :
    xSurfaceConfig s = (s.popDesc 2).complete d (s.configStatus d) 0 [] := by
  unfold xSurfaceConfig
  rw [hr]
  dsimp only
  rw [command_refused hno, aligned_refused hno, ite_self, hring]

theorem xScalerCoeff_writes (hr : s.ready 2 [0x32] = some d) (hring : d.ring = 2) (h0 : d.arg 18 1 = 0) (hok : s.scalerStatus d = .ok) :
    xScalerCoeff s = (s.popDesc 2).scalerApply d none := by
  unfold xScalerCoeff
  rw [hr]
  dsimp only
  rw [if_neg (by rw [h0]; decide), hok, command_ok, hring]

theorem xScalerCoeff_aligned (hr : s.ready 2 [0x32] = some d) (h1 : d.arg 18 1 = 1) (hok : s.scalerStatus d = .ok) :
    xScalerCoeff s = s.aligned d .ok fun u => u.scalerApply d none := by
  unfold xScalerCoeff
  rw [hr]
  dsimp only
  rw [if_pos h1, hok]

theorem xScalerCoeff_refused (hr : s.ready 2 [0x32] = some d) (hring : d.ring = 2) (hno : s.scalerStatus d ≠ .ok) :
    xScalerCoeff s = (s.popDesc 2).complete d (s.scalerStatus d) 0 [] := by
  unfold xScalerCoeff
  rw [hr]
  dsimp only
  rw [command_refused hno, aligned_refused hno, ite_self, hring]

/-- On a device that is no COMPANION, or a quiet one, a command off its ring leaves nothing to match. -/
theorem settled_popped (hr : s.ready r ops = some d) (hq : s.quiet) (hk : KeepsTwin (s.popDesc r) t) : settled t = t := by
  obtain ⟨_, htwin, hrole⟩ := popDesc_rest (ready_front hr)
  exact hk.settled (by rw [htwin, hrole]; exact hq)

/-- An aligned SURFACE_CONFIG where no ALIGN is due. -/
theorem surfaceConfig_applies (hr : s.ready 2 [0x30] = some d) (hring : d.ring = 2) (hrole : s.isCompanion = false) (h0 : d.arg 16 1 ≠ 0)
    (hok : s.configStatus d = .ok) (hk : KeepsTwin (s.popDesc 2) ((s.popDesc 2).configApply d none)) :
    settled (xSurfaceConfig s) = (s.popDesc 2).configApply d none := by
  rw [xSurfaceConfig_aligned hr h0 hok, aligned_ok hrole, hring, settled_of_keeps ((popDesc_keepsRole 2 s).trans hrole) hk]

theorem scalerCoeff_commits (hr : s.ready 2 [0x32] = some d) (hring : d.ring = 2) (hrole : s.isCompanion = false) (h1 : d.arg 18 1 = 1)
    (hok : s.scalerStatus d = .ok) (hk : KeepsTwin (s.popDesc 2) ((s.popDesc 2).scalerApply d none)) :
    settled (xScalerCoeff s) = (s.popDesc 2).scalerApply d none := by
  rw [xScalerCoeff_aligned hr h1 hok, aligned_ok hrole, hring, settled_of_keeps ((popDesc_keepsRole 2 s).trans hrole) hk]

/-- An aligned command of SUB_2 that waits on a COMPANION. -/
theorem sub2_waits (hs : s.shape) (hr : s.ready 2 ops = some d) (hring : d.ring = 2) (hrole : s.isCompanion = true) (ha : s.twin.aligns = [])
    (hw : s.twin.waiting.all (fun c => c.align.isNone) = true) (ht : t = s.aligned d .ok f) :
    (u.after (settled t)).twin.waiting = s.twin.waiting ++ [{ desc := d, key := d.key }]
      ∧ ((u.after (settled t)).ring 2).arrived = (s.ring 2).arrived.drop 1 := by
  obtain ⟨hwait, harr⟩ := aligned_waits (f := f) (by rw [hring]; exact ready_front hr) (by rw [hring, shape_rings hs]; decide) hrole ha hw
  rw [hring] at harr
  rw [ht, after_twin, after_ring_arrived]
  exact ⟨hwait, harr⟩

theorem Configured.after (h : Configured d t) (s : State) (hn : d.target < 4) : Configured d (s.after t) :=
  h.keep hn fun a ha _ => after_rd _ _ a (by unfold surfReg at ha; omega)

end SurfaceSettled

/-- Settles O14: SURFACE_CONFIG, RETIME and SCALER_COEFF by what they write once their descriptors are off SUB_2; a COMPANION on which no
ALIGN has come keeps the aligned ones. -/
theorem surfaceCommands : Obligations.SurfaceCommands := by
  unfold Obligations.SurfaceCommands
  have hpart : ∀ {α : Type} (g : State → α) (s : State), (∀ h, g { s with host := h } = g s) → g (s.popDesc 2) = g s := fun g s hg =>
    popDesc_part g hg 2
  have hgens : ∀ s : State, (s.popDesc 2).gens = s.gens := fun s => hpart State.gens s fun _ => rfl
  have hpix : ∀ s : State, (s.popDesc 2).pix = s.pix := fun s => hpart State.pix s fun _ => rfl
  have hbit : ∀ (s : State) (f : Fld), (s.popDesc 2).fbit f = s.fbit f := fun s f => hpart (fun x => x.fbit f) s fun _ => rfl
  refine ⟨?write, ?start, ?stop, ?withdraw, ?idle, ?configWaits, ?configRefused, ?configNone, ?retime,
    fun s d hs hr hring hrole ha hw hok => aligned_joins (exec_retime s) hs hr hring (by decide) hok hrole ha hw,
    fun s d hr hring hno => aligned_completes (exec_retime s) hr hring hno, fun s hr => aligned_idles (exec_retime s) hr,
    ?scalerWrite, ?scalerCommit, ?scalerWaits, ?scalerRefused, ?scalerNone⟩
  case write =>
    intro s d hs hr hring hq hn h0 hok
    obtain ⟨hk, hcfg, hen⟩ := configApply_write hn h0 none (s.popDesc 2)
    have hcfg := hcfg.after s hn
    rw [exec_surfaceConfig, xSurfaceConfig_writes hr hring h0 hok, settled_popped hr hq hk]
    refine ⟨_, rfl, hcfg.canvas, hcfg.maps, ?_, served_arrived hs hr (by decide) hk⟩
    rw [after_fbit _ _ _ (by simp only [R.TG_CTRL_ENABLE]; omega), hen, hbit]
  case start =>
    intro s d hs hr hring hrole hn h1 hok hlen
    obtain ⟨hk, hcfg, hen, hst, hstop⟩ := configApply_start (s := s.popDesc 2) hn (by rw [hgens, hlen]; exact hn) h1 none
    have hcfg := hcfg.after s hn
    rw [exec_surfaceConfig, surfaceConfig_applies hr hring hrole (by rw [h1]; decide) hok hk]
    refine ⟨_, rfl, hcfg.canvas, hcfg.maps, ?_, by rw [after_gen, hst], by rw [after_gen, hstop], served_arrived hs hr (by decide) hk⟩
    rw [after_fbit _ _ _ (by simp only [R.TG_CTRL_ENABLE]; omega), hen]
  case stop =>
    intro s d hs hr hring hrole hn h2 hok h3 hrun hlen
    obtain ⟨v, hv, hvg, hv3, hvr, hrec⟩ := configApply_stop hn h2 none (s.popDesc 2)
    obtain ⟨hk, hstop, hen, hpend⟩ := askStop_running hn (by rw [hvg, hgens, hlen]; exact hn)
      (by rw [hv3, hpart (fun x => x.domOn 3) s fun _ => rfl, h3]) (by rw [hvr, hpart (fun x => x.running d.target) s fun _ => rfl, hrun])
    have hall := (hv.trans hk).trans hrec.presents.toKeepsTwin
    rw [exec_surfaceConfig, surfaceConfig_applies hr hring hrole (by rw [h2]; decide) hok hall]
    refine ⟨_, rfl, ?_, ?_, ?_, served_arrived hs hr (by decide) hall⟩
    · rw [after_gen]
      unfold State.gen at hstop ⊢
      rw [hrec.gens, hstop]
    · rw [after_fbit _ _ _ (by simp only [R.TG_CTRL_ENABLE]; omega), hrec.fbit _ (enable_noRecord _), hen]
    · rw [after_fbit _ _ _ (by simp only [R.TG_STATUS_RETIME_PENDING]; omega), hrec.fbit _ (tgStatus_noRecord _), hpend]
  case withdraw =>
    intro s d hs hr hring hrole hn h2 hok h3 hrun hst hlen
    obtain ⟨v, hv, hvg, hv3, hvr, hrec⟩ := configApply_stop hn h2 none (s.popDesc 2)
    have hvgen : v.gen d.target = s.gen d.target := by unfold State.gen; rw [hvg, hgens]
    obtain ⟨hk, hgone, hen⟩ := askStop_pending hn (by rw [hvg, hgens, hlen]; exact hn)
      (by rw [hv3, hpart (fun x => x.domOn 3) s fun _ => rfl, h3]) (by rw [hvr, hpart (fun x => x.running d.target) s fun _ => rfl, hrun])
      (by rw [hvgen, hst])
    have hall := (hv.trans hk).trans hrec.presents.toKeepsTwin
    rw [exec_surfaceConfig, surfaceConfig_applies hr hring hrole (by rw [h2]; decide) hok hall]
    refine ⟨_, rfl, ?_, ?_, served_arrived hs hr (by decide) hall⟩
    · rw [after_gen]
      unfold State.gen at hgone ⊢
      rw [hrec.gens, hgone]
    · rw [after_fbit _ _ _ (by simp only [R.TG_CTRL_ENABLE]; omega), hrec.fbit _ (enable_noRecord _), hen]
  case idle =>
    intro s d hs hr hring hrole hn h2 hok hidle
    obtain ⟨v, hv, hvg, hv3, hvr, hrec⟩ := configApply_stop hn h2 none (s.popDesc 2)
    have hvgen : v.gen d.target = s.gen d.target := by unfold State.gen; rw [hvg, hgens]
    rw [askStop_idle (by rw [hv3, hvr, hvgen, hpart (fun x => x.domOn 3) s fun _ => rfl,
      hpart (fun x => x.running d.target) s fun _ => rfl]; exact hidle)] at hrec
    have hall := hv.trans hrec.presents.toKeepsTwin
    rw [exec_surfaceConfig, surfaceConfig_applies hr hring hrole (by rw [h2]; decide) hok hall]
    exact ⟨_, rfl, by rw [after_gens, hrec.gens, hvg, hgens], served_arrived hs hr (by decide) hall⟩
  case configWaits =>
    intro s d hs hr hring hrole ha hw h0 hok
    obtain ⟨hwait, harr⟩ := sub2_waits (u := s) hs hr hring hrole ha hw (xSurfaceConfig_aligned hr h0 hok)
    exact ⟨_, exec_surfaceConfig s, hwait, harr⟩
  case configRefused =>
    intro s d hr hring hno
    exact ⟨_, exec_surfaceConfig s, by rw [xSurfaceConfig_refused hr hring hno]⟩
  case configNone =>
    intro s hr
    exact ⟨_, exec_surfaceConfig s, by rw [xSurfaceConfig_none hr]⟩
  case retime =>
    intro s d hs hr hring hrole hn hok
    have hlen : d.target < (s.latchesDue.popDesc 2).gens.length := by
      obtain ⟨-, hfour, -⟩ := hs
      rw [hgens, hfour]
      exact hn
    obtain ⟨hk, hgrid, hpend⟩ := retimeApply_acts hn hlen none
    rw [exec_retime, serveAligned_ok hr hring hok hrole, settled_of_keeps ((popDesc_keepsRole 2 _).trans hrole) hk]
    exact ⟨_, rfl, by rw [after_gen, hgrid], by rw [after_fbit _ _ _ (by simp only [R.TG_STATUS_RETIME_PENDING]; omega), hpend],
      served_arrived hs hr (by decide) hk⟩
  case scalerWrite =>
    intro s d hs hr hring hq h0 hok hsc
    obtain ⟨hk, hbank⟩ := scalerApply_writes (s := s.popDesc 2) (by rw [hpix]; exact hsc) h0 none
    rw [exec_scalerCoeff, xScalerCoeff_writes hr hring h0 hok, settled_popped hr hq hk]
    exact ⟨_, rfl, by rw [after_pix, hbank, hpix]; rfl, served_arrived hs hr (by decide) hk⟩
  case scalerCommit =>
    intro s d hs hr hring hrole h1 hok hsc
    obtain ⟨hk, hbank, harmed⟩ := scalerApply_commits (s := s.popDesc 2) (by rw [hpix]; exact hsc) h1 none
    have h256 : d.arg 16 1 < 256 := arg_lt d 16 1
    rw [exec_scalerCoeff, scalerCoeff_commits hr hring hrole h1 hok hk]
    refine ⟨_, rfl, by rw [after_pix, hbank, hpix]; rfl, ?_, ?_, served_arrived hs hr (by decide) hk⟩
    · rw [after_pix, hbank]
      exact if_pos (by rw [h1]; rfl)
    · rw [after_fbit _ _ _ (by simp only [R.PIX_SCALER_ARMED]; omega), harmed]
  case scalerWaits =>
    intro s d hs hr hring hrole ha hw h1 hok
    obtain ⟨hwait, harr⟩ := sub2_waits (u := s) hs hr hring hrole ha hw (xScalerCoeff_aligned hr h1 hok)
    exact ⟨_, exec_scalerCoeff s, hwait, harr⟩
  case scalerRefused =>
    intro s d hr hring hno
    exact ⟨_, exec_scalerCoeff s, by rw [xScalerCoeff_refused hr hring hno]⟩
  case scalerNone =>
    intro s hr
    exact ⟨_, exec_scalerCoeff s, by rw [xScalerCoeff_none hr]⟩

end Sys2Proof.Machine

namespace Sys2Proof.Machine

section Modes

variable {s t u : State} {d : Desc} {r : Nat}

/-! ## MODE, its checks and its descriptor -/

theorem exec_mode (r : Fin 4) (s : State) : exec (.mode r) s = .next (s.after (xMode r s)) := rfl

theorem xMode_none (hr : s.ready r [0x40] = none) : xMode r s = s := by unfold xMode; rw [hr]

theorem xMode_blanking (hr : s.ready r [0x40] = some d) (h : d.arg 16 1 = 0x10 ∨ d.arg 16 1 = 0x11) : xMode r s = s := by
  unfold xMode
  rw [hr]
  exact if_pos h

theorem xMode_refused (hr : s.ready r [0x40] = some d) (hring : d.ring = r) (h10 : d.arg 16 1 ≠ 0x10) (h11 : d.arg 16 1 ≠ 0x11)
    (hno : s.modeStatus d ≠ .ok) : xMode r s = (s.popDesc r).complete d (s.modeStatus d) 0 [] := by
  unfold xMode
  rw [hr]
  dsimp only
  rw [if_neg (not_or.2 ⟨h10, h11⟩), command_refused hno, hring]

theorem xMode_applies (hr : s.ready r [0x40] = some d) (hring : d.ring = r) (hlt : d.arg 16 1 < 0x10) (hok : s.modeStatus d = .ok) :
    xMode r s = (s.popDesc r).modeApply d := by
  unfold xMode
  rw [hr]
  dsimp only
  rw [if_neg (by omega), hok, command_ok, hring]

/-- A MODE that passes its checks names a mode, and comes outside a transition. -/
theorem modeStatus_ok (hok : s.modeStatus d = .ok) : d.arg 16 1 ≤ 5 ∧ s.fbit R.PWR_MODE_BUSY = false := by
  unfold State.modeStatus at hok
  dsimp only at hok
  split at hok
  · cases hok
  · rename_i hargs
    split at hok
    · cases hok
    · rename_i hbusy
      simp only [Bool.or_eq_true, decide_eq_true_eq, not_or, not_lt] at hargs
      exact ⟨hargs.2, by simpa using hbusy⟩

/-- A field of PWR_MODE by the word. -/
theorem fget_of_word (h : t.rd 0x20100 = s.rd 0x20100) {f : Fld} (hf : f.addr = 0x20100) : t.fget f = s.fget f := by
  unfold State.fget; rw [hf, h]

theorem fbit_of_word (h : t.rd 0x20100 = s.rd 0x20100) {f : Fld} (hf : f.addr = 0x20100) : t.fbit f = s.fbit f := by
  unfold State.fbit; rw [fget_of_word h hf]

theorem OnlyRecords.word (h : OnlyRecords s t) : t.rd 0x20100 = s.rd 0x20100 := h.rd _ (by unfold recordReg; omega)

theorem after_word (s t : State) : (s.after t).rd 0x20100 = t.rd 0x20100 := after_rd s t _ (by decide)

/-! ### The decision -/

theorem idleStop_twin (s : State) : KeepsTwin s s.idleStop :=
  ((fset_presents (by decide) (by decide) _ s).trans (fset_presents (by decide) (by decide) _ _)).toKeepsTwin

theorem beginMode_twin (dst cause : Nat) (cmd : Option (Nat × Nat)) (s : State) : KeepsTwin s (s.beginMode dst cause cmd) := by
  unfold State.beginMode
  extract_lets src a
  have ha : KeepsPix s a := (fset_presents (by decide) (by decide) _ s).trans (fset_presents (by decide) (by decide) _ _)
  exact (ha.trans (setMode_presents _ a)).toKeepsTwin.trans (idleStop_twin _)

/-- A decision taken at once, but for LIMP and PARK. -/
theorem modeApply_begins (hd : d.arg 16 1 = 1 ∨ d.arg 16 1 = 2 ∨ d.arg 16 1 = 5) (hne : d.arg 16 1 ≠ s.modeNow) : KeepsTwin s (s.modeApply d)
    ∧ (s.modeApply d).rd 0x20100 = (s.beginMode (d.arg 16 1) 0 none).rd 0x20100
    ∧ (s.modeApply d).mode.trans = some { src := s.modeNow, dst := d.arg 16 1, cause := 0, cmd := some (d.ring, d.pos),
                                          waitSurf := if s.modeNow = 4 then (List.range 4).filter s.surfEnabled else [] } := by
  have hkeep : KeepsTwin s (s.keepDesc d) := .of_parts rfl rfl rfl
  unfold State.modeApply
  dsimp only
  rw [if_neg hne, if_neg (by omega), if_neg (by omega), if_neg (by omega)]
  split
  · unfold State.leaveLimp
    exact ⟨(hkeep.trans (beginMode_twin _ _ _ _)).trans (setMode_presents _ _).toKeepsTwin, rfl, rfl⟩
  · exact ⟨hkeep.trans (beginMode_twin _ _ _ _), rfl, rfl⟩

/-! ### LIMP -/

theorem OnlyRails.keepsTwin (h : OnlyRails s t) : KeepsTwin s t where
  arrived n := by unfold State.ring; rw [h.part State.host fun _ => rfl]
  aligns := h.part (fun x => x.twin.aligns) fun _ => rfl
  waiting := h.part (fun x => x.twin.waiting) fun _ => rfl
  companion := isCompanion_congr (h.fget _ (by decide)) (h.domOn (by decide) 8)

theorem showLimps_lanes (s : State) : OnlyLanes s (overAll 6 showLimpPort s) :=
  .overAll 6 _ (fun i hi u => showLimpPort_lanes (p := i) (by omega) u) s

/-- The beam that LIMP takes. -/
theorem limpForm_acts {form : LimpForm} (hform : form ≠ .none) (s : State) : KeepsSurf s (s.limpForm form)
    ∧ (s.limpForm form).safe.form ≠ .none ∧ (s.limpForm form).safe.parkBeam = false := by
  unfold State.limpForm
  extract_lets f kept _ u
  have hf : f ≠ .none := by
    unfold f
    split
    · decide
    · exact hform
  obtain ⟨v, hv, hlanes⟩ : ∃ v, v = (if f = .pages then overAll 6 showLimpPort u else u) ∧ OnlyLanes u v :=
    ⟨_, rfl, .ite (showLimps_lanes u) (.refl u)⟩
  have hsafe : v.showSafe.safe = u.safe := (showSafe_only v).safe.trans (hlanes.part State.safe fun _ => rfl)
  have hu : KeepsSurf s u := .of_parts rfl rfl rfl rfl rfl
  rw [← hv, hsafe]
  exact ⟨(hu.trans (OnlyLanes.keepsSurf hlanes)).trans (OnlyLevels.keepsSurf (showSafe_only v)), hf, rfl⟩

theorem modeSet_acts {dst : Nat} (hd : dst < 8) (cause : Nat) (s : State) : KeepsTwin s (s.modeSet dst cause)
    ∧ (s.modeSet dst cause).modeNow = dst ∧ (s.modeSet dst cause).fbit R.PWR_MODE_BUSY = false := by
  refine ⟨?_, modeSet_modeNow hd cause s, ?_⟩
  · unfold State.modeSet
    extract_lets src a b
    have ha : KeepsTwin s a := (((fset_presents (by decide) (by decide) _ s).trans (fset_presents (by decide) (by decide) _ _)).trans
      (fset_presents (by decide) (by decide) _ _)).toKeepsTwin
    have hb : KeepsTwin s b := by
      unfold b
      split
      · exact ha
      · exact ha.trans (idleStop_twin a)
    exact (hb.trans (fset_presents (by decide) (by decide) _ b).toKeepsTwin).trans (eventDev_records _ _ _ _).presents.toKeepsTwin
  · unfold State.modeSet
    extract_lets src a b
    have hev : OnlyRecords (b.fsetb R.PWR_MODE_BUSY false) ((b.fsetb R.PWR_MODE_BUSY false).modeEvent src dst cause) := eventDev_records _ _ _ _
    rw [fbit_of_word hev.word rfl]
    exact fbit_fsetb_self b _ false rfl rfl

theorem limpFromPark_acts (cause : Nat) (s : State) : KeepsTwin s (s.limpFromPark cause)
    ∧ (s.limpFromPark cause).modeNow = s.modeNow ∧ (s.limpFromPark cause).fbit R.PWR_MODE_BUSY = true := by
  have h := limpFromPark_rails cause s
  have hpark : KeepsTwin ((s.fset R.PWR_MODE_TARGET 4).fsetb R.PWR_MODE_BUSY true)
      (((s.fset R.PWR_MODE_TARGET 4).fsetb R.PWR_MODE_BUSY true).parkLeft cause) := .of_parts rfl rfl rfl
  have hset : KeepsPix s ((s.fset R.PWR_MODE_TARGET 4).fsetb R.PWR_MODE_BUSY true) :=
    (fset_presents (by decide) (by decide) _ s).trans (fset_presents (by decide) (by decide) _ _)
  refine ⟨((hset.toKeepsTwin.trans hpark).trans (idleStop_twin _)).trans (OnlyRails.keepsTwin h), ?_, ?_⟩
  · unfold State.modeNow
    rw [h.fget _ (by decide), idleStop_mode _ rfl, parkLeft_fget, State.fsetb, fget_fset_apart _ _ _ _ (by decide) (by decide) (by decide),
      fget_fset_apart _ _ _ _ (by decide) (by decide) (by decide)]
  · unfold State.fbit
    rw [h.fget _ (by decide), idleStop_mode _ rfl, parkLeft_fget, State.fsetb, fget_fset_self _ _ _ (by decide)]
    rfl

/-- LIMP is asked for outside a transition: what held it last no longer counts. -/
def State.limpAsked (s : State) : State := { s with mode := { s.mode with presentSinceLimp := false, wokenToRun := false } }

theorem enterLimp_fresh (hb : s.fbit R.PWR_MODE_BUSY = false) (h4 : s.modeNow ≠ 4) :
    s.enterLimp .store 0 0 = ((if (s.modeNow = 3 && !s.fbit R.PWR_SUPPLY_STATUS_LIMP_SUPPLY) = true then s.limpAsked.limpFromPark 0
      else s.limpAsked.modeSet 4 0).limpForm .store).safeEvent 0 0 := by
  unfold State.enterLimp State.takeLimp
  dsimp only
  rw [if_pos rfl, if_neg (by simp [h4]), if_neg (by simp [hb])]
  rfl

/-- LIMP as a command takes it: in force at once, or from PARK with the rails still to come up. -/
theorem enterLimp_acts (hb : s.fbit R.PWR_MODE_BUSY = false) (h4 : s.modeNow ≠ 4) : KeepsTwin s (s.enterLimp .store 0 0)
    ∧ (s.enterLimp .store 0 0).safe.form ≠ .none ∧ (s.enterLimp .store 0 0).safe.parkBeam = false
    ∧ if s.modeNow = 3 ∧ s.fbit R.PWR_SUPPLY_STATUS_LIMP_SUPPLY = false
      then (s.enterLimp .store 0 0).modeNow = 3 ∧ (s.enterLimp .store 0 0).fget R.PWR_MODE_TARGET = 4 ∧ (s.enterLimp .store 0 0).fbit R.PWR_MODE_BUSY = true
      else (s.enterLimp .store 0 0).modeNow = 4 ∧ (s.enterLimp .store 0 0).fbit R.PWR_MODE_BUSY = false := by
  obtain ⟨a, ha⟩ : ∃ a, a = s.limpAsked := ⟨_, rfl⟩
  have hsa : KeepsTwin s a := by rw [ha]; exact .of_parts rfl rfl rfl
  have hnow : a.modeNow = s.modeNow := by rw [ha]; rfl
  have hx := enterLimp_fresh hb h4
  rw [← ha] at hx
  obtain ⟨b, hb'⟩ : ∃ b, b = (if (s.modeNow = 3 && !s.fbit R.PWR_SUPPLY_STATUS_LIMP_SUPPLY) = true then a.limpFromPark 0 else a.modeSet 4 0) := ⟨_, rfl⟩
  rw [← hb'] at hx
  obtain ⟨hform, hsome, hbeam⟩ := limpForm_acts (form := .store) (by decide) b
  have hev : OnlyRecords (b.limpForm .store) ((b.limpForm .store).safeEvent 0 0) := eventDev_records _ _ _ _
  have hword : ((b.limpForm .store).safeEvent 0 0).rd 0x20100 = b.rd 0x20100 := hev.word.trans hform.modeWord
  have htail : KeepsTwin b ((b.limpForm .store).safeEvent 0 0) := hform.toKeepsTwin.trans hev.presents.toKeepsTwin
  rw [hx, hev.safe]
  unfold State.modeNow at hnow ⊢
  rw [fget_of_word hword rfl, fget_of_word hword rfl, fbit_of_word hword rfl]
  obtain ⟨hkp, hnowp, hbusyp⟩ := limpFromPark_acts 0 a
  obtain ⟨hkm, hnowm, hbusym⟩ := modeSet_acts (dst := 4) (by decide) 0 a
  unfold State.modeNow at hnowp hnowm hb'
  refine ⟨?_, hsome, hbeam, ?_⟩
  · refine (hsa.trans ?_).trans htail
    rw [hb']
    split
    · exact hkp
    · exact hkm
  split
  · rename_i hpark
    obtain ⟨h3, hsup⟩ := hpark
    rw [if_pos (by simp [h3, hsup])] at hb'
    rw [hb', hnowp, hnow]
    exact ⟨h3, limpFromPark_target 0 a, hbusyp⟩
  · rename_i hpark
    rw [if_neg (by simpa using hpark)] at hb'
    rw [hb']
    exact ⟨hnowm, hbusym⟩

end Modes

end Sys2Proof.Machine

namespace Sys2Proof.Machine

section Sentinel

variable {s t u : State} {d : Desc} {n : Nat}

/-! ## The entry into SENTINEL -/

/-- The state with the decision to change mode alone. -/
def State.decisionOnly (s : State) : State := { mode := { trans := s.mode.trans } }

/-- Anything changes but that decision and the registers of PWR. -/
abbrev OnlyBlocks := Within State.decisionOnly fun a => a / 0x10000 ≠ 2

theorem sessionOver_blocks (s : State) : OnlyBlocks s s.sessionOver := by
  unfold State.sessionOver
  extract_lets _ a b
  have ha : OnlyBlocks s a := .parts rfl rfl
  exact .fset (.fset (.fsetb (.fsetb (.fsetb ha (by decide)) (by decide)) (by decide)) (by decide)) (by decide)

theorem commitCut_blocks (service : Bool) (s : State) : OnlyBlocks s (s.commitCut service) := by
  unfold State.commitCut
  extract_lets a
  have ha : OnlyBlocks s a := .fsetb (.refl s) (by decide)
  split
  · exact ha.trans (sessionOver_blocks a)
  · exact ha

theorem syncLow_blocks (s : State) : OnlyBlocks s s.syncLow := by
  unfold State.syncLow
  extract_lets ps w _ a b
  split
  · exact .parts rfl rfl
  · exact .parts rfl rfl

theorem resetPorts_blocks (l : List Nat) (s : State) : OnlyBlocks s (overList resetPort l s) :=
  .overList resetPort l (fun _ _ _ => .parts rfl rfl) s

/-- Hidden state at its reset value, domain by domain. -/
theorem resetHidden_blocks (d : Nat) (s : State) : OnlyBlocks s (s.resetHidden d) := by
  have hmem : OnlyBlocks s { s with pix := s.pix.storeLost, parkPats := rep 6 {}, mode := { s.mode with parkPics := [] } } := .parts rfl rfl
  have hgen : OnlyBlocks s { s with gens := rep 4 {}, pix := s.pix.logicReset } := .parts rfl rfl
  unfold State.resetHidden
  exact .ite (.parts rfl rfl) (.ite (.parts rfl rfl) (.ite (hgen.trans (syncLow_blocks _)) (.ite hmem (.ite (.parts rfl rfl)
    (.ite (resetPorts_blocks _ s) (.ite (resetPorts_blocks _ s) (.ite (.parts rfl rfl) (.ite (.parts rfl rfl) (.ite (.parts rfl rfl)
      (.ite (.parts rfl rfl) (.refl s)))))))))))

theorem resetDomain_blocks (d : Nat) (s : State) : OnlyBlocks s (s.resetDomain d) := by
  unfold State.resetDomain
  extract_lets t
  have hregs : OnlyBlocks s (s.resetRegs fun a => ownerDomain a == d && decide (a / 0x10000 ≠ 2)) :=
    ⟨rfl, fun a ha => resetRegs_rd (by simp [not_not.1 ha]) s⟩
  have ht : OnlyBlocks s t := hregs.trans (resetHidden_blocks d _)
  split
  · exact ht.trans (commitCut_blocks _ t)
  · exact ht

theorem tickLow_blocks (s : State) : OnlyBlocks s s.tickLow := by
  unfold State.tickLow
  split
  · exact .parts rfl rfl
  · exact .refl s

theorem OnlyUp.blocks (h : OnlyUp s t) : OnlyBlocks s t := h.mono (fun _ => rfl) fun a ha => by unfold upReg at ha; exact ha.1

/-- A domain that goes off, by its bit and what lies outside PWR. -/
theorem domainOff_blocks (h : s.domOn n = true) : ∃ u, OnlyBlocks s u ∧ OnlyBlocks (u.domSet n false) (domainOff n s) := by
  unfold domainOff
  rw [if_pos h]
  extract_lets _ a b
  have ha : OnlyBlocks s a := by
    unfold a
    split
    · exact .parts rfl rfl
    · exact .refl s
  have hb : OnlyBlocks ((a.resetDomain n).domSet n false) b := OnlyUp.blocks (segClock_up _)
  refine ⟨_, ha.trans (resetDomain_blocks n a), ?_⟩
  split
  · exact (hb.trans (OnlyUp.blocks (showHoldover_up b))).trans (tickLow_blocks _)
  · exact hb

/-- The decision stands, and a domain that is off stays off. -/
structure KeepsSleep (s t : State) : Prop where
  decision : t.mode.trans = s.mode.trans
  word : t.rd 0x20100 = s.rd 0x20100
  off : ∀ m, m < 12 → s.domOn m = false → t.domOn m = false

theorem KeepsSleep.refl (s : State) : KeepsSleep s s := ⟨rfl, rfl, fun _ _ h => h⟩

theorem KeepsSleep.trans (h : KeepsSleep s t) (k : KeepsSleep t u) : KeepsSleep s u :=
  ⟨k.decision.trans h.decision, k.word.trans h.word, fun m hm ho => k.off m hm (h.off m hm ho)⟩

theorem OnlyBlocks.keepsSleep (h : OnlyBlocks s t) : KeepsSleep s t :=
  ⟨h.part (fun x => x.mode.trans) fun _ => rfl, h.rd _ (by decide), fun m _ ho => (h.domOn (by decide) m).trans ho⟩

theorem domSet_sleep (n : Nat) (s : State) : KeepsSleep s (s.domSet n false) where
  decision := rfl
  word := rd_wr_other s _ _ _ (by decide)
  off m hm ho := by
    rw [domOn_domSet hm, ho]
    exact ite_self _

theorem domainOff_sleep (n : Nat) (s : State) : KeepsSleep s (domainOff n s) := by
  cases h : s.domOn n with
  | true =>
    obtain ⟨u, hu, ht⟩ := domainOff_blocks h
    exact ((OnlyBlocks.keepsSleep hu).trans (domSet_sleep n u)).trans (OnlyBlocks.keepsSleep ht)
  | false =>
    unfold domainOff
    rw [if_neg (by rw [h]; decide)]
    exact .refl s

theorem domainOff_off_self (hn : n < 12) (s : State) : (domainOff n s).domOn n = false := by
  cases h : s.domOn n with
  | true =>
    obtain ⟨u, hu, ht⟩ := domainOff_blocks h
    rw [ht.domOn (by decide), domOn_domSet hn, if_pos rfl]
  | false => exact (domainOff_sleep n s).off n hn h

/-- Every domain of the list is off after it. -/
theorem overList_domainOff (l : List Nat) {m : Nat} (hm : m < 12) (s : State) (h : m ∈ l ∨ s.domOn m = false) :
    (overList domainOff l s).domOn m = false := by
  induction l generalizing s with
  | nil => exact h.resolve_left List.not_mem_nil
  | cons k l ih =>
    refine ih (domainOff k s) ?_
    rcases h with h | h
    · rcases List.mem_cons.1 h with rfl | h
      · exact .inr (domainOff_off_self hm s)
      · exact .inl h
    · exact .inr ((domainOff_sleep k s).off m hm h)

theorem powerDown_all (s : State) : KeepsSleep s (s.powerDown powerUpOrder) ∧ ∀ m, m < 12 → m ≠ 0 → (s.powerDown powerUpOrder).domOn m = false := by
  have hlist : ∀ m < 12, m ≠ 0 → m ∈ powerUpOrder.reverse.filter powerUpOrder.contains := by decide
  exact ⟨overList_rel .refl .trans _ _ (fun d _ u => domainOff_sleep d u) s, fun m hm h0 => overList_domainOff _ hm s (.inl (hlist m hm h0))⟩

theorem sleepRecord_blocks (s : State) : OnlyBlocks s s.sleepRecord := .parts rfl rfl

theorem discRestart_blocks (s : State) : OnlyBlocks s s.discRestart := by
  unfold State.discRestart
  extract_lets a
  have ha : OnlyBlocks s a := .fset (.fset (.refl s) (by decide)) (by decide)
  exact ha.trans (.parts rfl rfl)

/-- What AON keeps through SENTINEL. -/
def State.keepHolds (s : State) : State := { s with aon := { s.aon with keptDark := [2, 3, 5].filter s.faultOn, keptHolds := s.safe.holds } }

theorem keepHolds_blocks (s : State) : OnlyBlocks s s.keepHolds := .parts rfl rfl

theorem enterSentinel_eq (cause : Nat) (s : State) : s.enterSentinel cause
    = (((((((s.beginMode 0 cause none).setMode fun m => { m with wakeDuringEntry := false, evented := true }).modeEvent 1 0
      cause).sleepRecord).discRestart).keepHolds).powerDown powerUpOrder).railsDown .sentinel := rfl

/-- SENTINEL: the decision, and every domain but AON off. -/
theorem enterSentinel_acts (s : State) : (s.enterSentinel 0).mode.trans = some { src := s.modeNow, dst := 0, cause := 0 }
    ∧ (s.enterSentinel 0).fget R.PWR_MODE_TARGET = 0 ∧ (s.enterSentinel 0).fbit R.PWR_MODE_BUSY = true
    ∧ ∀ m, m < 12 → m ≠ 0 → (s.enterSentinel 0).domOn m = false := by
  obtain ⟨hmode, htarget, hbusy, -⟩ := beginMode_acts 0 0 s
  rw [enterSentinel_eq]
  generalize s.beginMode 0 0 none = a at *
  obtain ⟨b, hb, hbt, hbw⟩ : ∃ b, b = (a.setMode fun m => { m with wakeDuringEntry := false, evented := true }) ∧ b.mode.trans = a.mode.trans
      ∧ b.rd 0x20100 = a.rd 0x20100 := ⟨_, rfl, rfl, rfl⟩
  rw [← hb]
  have hev : OnlyRecords b (b.modeEvent 1 0 0) := eventDev_records _ _ _ _
  have hkeep := ((sleepRecord_blocks (b.modeEvent 1 0 0)).trans (discRestart_blocks _)).trans (keepHolds_blocks _)
  generalize (b.modeEvent 1 0 0).sleepRecord.discRestart.keepHolds = e at *
  obtain ⟨hsleep, hoff⟩ := powerDown_all e
  have hrails := railsDown_rails .sentinel (e.powerDown powerUpOrder)
  have hword : ((e.powerDown powerUpOrder).railsDown .sentinel).rd 0x20100 = a.rd 0x20100 :=
    (hrails.rd _ (by decide)).trans (hsleep.word.trans ((hkeep.rd _ (by decide)).trans (hev.word.trans hbw)))
  refine ⟨?_, (fget_of_word hword rfl).trans htarget, (fbit_of_word hword rfl).trans hbusy, fun m hm h0 => (hrails.domOn (by decide) m).trans (hoff m hm h0)⟩
  rw [hrails.part (fun x => x.mode.trans) fun _ => rfl, hsleep.decision, hkeep.part (fun x => x.mode.trans) fun _ => rfl, hev.mode, hbt, hmode]

end Sentinel

section Park

variable {s t u : State} {p : Nat}

/-! ## The entry into PARK -/

theorem OnlyRecords.decision (h : OnlyRecords s t) : KeepsDecision s t := .of_mode h.presents.toKeepsTwin h.mode h.word

theorem parkPort_decision (p : Nat) (s : State) : KeepsDecision s (parkPort p s) := by
  unfold parkPort
  extract_lets q
  split
  · exact .refl s
  rename_i ok served a _
  have ha : KeepsDecision s a := .of_mode (.of_parts rfl rfl rfl) rfl rfl
  split
  · exact ha
  · refine ha.trans ⟨(fset_presents (by decide) (by decide) _ a).toKeepsTwin, fun f hf hlow => ?_, rfl, fun _ h _ => h⟩
    exact fget_fset_beside a _ f _ (by simp [Fld.beside, R.PWR_MODE_PARK_SKIPPED, hlow]) (by decide) (by simp [Fld.fits]; omega)

theorem parkServe_decision (s : State) : KeepsDecision s s.parkServe := by
  have hports : KeepsDecision s (overAll 6 parkPort s) := overList_rel .refl .trans _ _ (fun p _ u => parkPort_decision p u) s
  have hbeam : ∀ u : State, KeepsDecision u { u with safe := { u.safe with form := .store, parkBeam := true, swapped := false } } := fun u =>
    .of_mode (.of_parts rfl rfl rfl) rfl rfl
  have hshow : ∀ u : State, KeepsDecision u u.showSafe := fun u => (OnlyLevels.keepsSurf (showSafe_only u)).decision
  exact (hports.trans (hbeam _)).trans (hshow _)

/-- PARK: the decision, with the surfaces that were enabled noted. -/
theorem enterPark_acts (s : State) : KeepsTwin s (s.enterPark 0)
    ∧ (s.enterPark 0).mode.trans = some { src := s.modeNow, dst := 3, cause := 0 }
    ∧ (s.enterPark 0).fget R.PWR_MODE_TARGET = 3 ∧ (s.enterPark 0).fbit R.PWR_MODE_BUSY = true
    ∧ (s.enterPark 0).fget R.PWR_MODE_MODE = s.fget R.PWR_MODE_MODE
    ∧ (s.enterPark 0).mode.parkSurfaces = (List.range 4).filter s.surfEnabled := by
  obtain ⟨hmode, htarget, hbusy, hnow⟩ := beginMode_acts 3 0 s
  have hk := beginMode_twin 3 0 none s
  unfold State.enterPark
  extract_lets src en run copy a caps _ b pics c e f
  have hac : KeepsTwin a c := .of_parts rfl rfl rfl
  have hword : c.rd 0x20100 = a.rd 0x20100 := rfl
  have htrans : c.mode.trans = some { src := s.modeNow, dst := 3, cause := 0 } := congrArg ModeSt.trans hmode
  have hpark : c.mode.parkSurfaces = en := rfl
  have hce : KeepsDecision c e := by
    have hev : OnlyRecords c (c.modeEvent src 3 0) := eventDev_records _ _ _ _
    exact (OnlyRecords.decision hev).trans (.of_mode (.of_parts rfl rfl rfl) rfl rfl)
  have hef : KeepsDecision e f := overList_rel .refl .trans _ _
    (fun n hn u => askStop_decision (List.mem_range.1 (List.mem_of_mem_filter hn)) u) e
  have hall : KeepsDecision c (if run.isEmpty then f.parkServe else f) := by
    split
    · exact (hce.trans hef).trans (parkServe_decision f)
    · exact hce.trans hef
  refine ⟨(hk.trans hac).trans hall.toKeepsTwin, hall.decided _ htrans rfl, ?_, ?_, ?_, hall.parkSurfaces.trans hpark⟩
  · rw [hall.word _ rfl (by decide), fget_of_word hword rfl, htarget]
  · unfold State.fbit at hbusy ⊢
    rw [hall.word _ rfl (by decide), fget_of_word hword rfl, hbusy]
  · rw [hall.word _ rfl (by decide), fget_of_word hword rfl]
    exact hnow

end Park

end Sys2Proof.Machine

namespace Sys2Proof.Machine

section Masks

/-! ## Bits of the host's request -/

theorem foldl_or_testBit (f : Nat → Nat) (l : List Nat) (a p : Nat) :
    (l.foldl (fun m g => m ||| f g) a).testBit p = (a.testBit p || l.any fun g => (f g).testBit p) := by
  induction l generalizing a with
  | nil => simp
  | cons g l ih => rw [List.foldl_cons, ih, Nat.testBit_or, List.any_cons, Bool.or_assoc]

theorem foldl_maskSet_bit (l : List Nat) (m i : Nat) : bitOf (l.foldl (fun m i => maskSet m i true) m) i = (l.contains i || bitOf m i) := by
  induction l generalizing m with
  | nil => rfl
  | cons k l ih =>
    rw [List.foldl_cons, ih, bitOf_maskSet, List.contains_cons]
    by_cases h : i = k
    · subst h; simp
    · rw [if_neg h, beq_eq_false_iff_ne.2 h, Bool.false_or]

theorem bitOf_maskOf (l : List Nat) (i : Nat) : bitOf (maskOf l) i = l.contains i := by
  unfold maskOf
  rw [foldl_maskSet_bit]
  simp [bitOf]

/-- A list whose mask is empty is empty. -/
theorem maskOf_eq_zero {l : List Nat} (h : maskOf l = 0) : l = [] := by
  cases l with
  | nil => rfl
  | cons k l =>
    have hk := bitOf_maskOf (k :: l) k
    rw [h] at hk
    simp [bitOf] at hk

variable {s : State} {g p : Nat}

/-- A request for more groups holds at least the ports of the old one. -/
theorem groupPorts_mono (h : Nat) (hp : bitOf (s.groupPorts g) p = true) : bitOf (s.groupPorts (h ||| g)) p = true := by
  unfold State.groupPorts at *
  split
  · rename_i hs
    rw [hs] at hp
    exact hp
  · rename_i b hs
    rw [hs] at hp
    dsimp only at hp
    rw [bitOf_eq_testBit, foldl_or_testBit] at *
    simp only [Nat.zero_testBit, Bool.false_or, List.any_eq_true, List.mem_filter] at *
    obtain ⟨i, ⟨hi, hb⟩, hbit⟩ := hp
    refine ⟨i, ⟨hi, ?_⟩, hbit⟩
    rw [bitOf_eq_testBit] at *
    rw [Nat.testBit_or, hb, Bool.or_true]

/-- The host's request holds the ports of every group that it names. -/
theorem hostScope_of_group (hp : p < 24) (h : Nat) (ht : s.safe.hostTot = h ||| g) (hg : bitOf (s.groupScope g) p = true) :
    bitOf s.hostScope p = true := by
  have hall : bitOf (2 ^ 24 - 1) p = true := by rw [bitOf_eq_testBit, Nat.testBit_two_pow_sub_one, decide_eq_true hp]
  unfold State.groupScope at hg
  unfold State.hostScope
  rw [ht]
  split at hg
  · simp [bitOf] at hg
  rename_i hg0
  rw [if_neg (by intro h0; exact hg0 (Nat.or_eq_zero_iff.1 h0).2)]
  split at hg
  · rename_i h8
    rw [if_pos (by rw [bitOf_eq_testBit] at *; rw [Nat.testBit_or, h8, Bool.or_true])]
    exact hall
  · split
    · exact hall
    · exact groupPorts_mono h hg

end Masks

section Requests

variable {s t u : State} {d : Desc} {p : Nat}

/-! ## What Totality leaves of the rings and of the host's request -/

/-- What waits, and the host's request, are as they were. -/
structure KeepsRequest (s t : State) : Prop extends KeepsTwin s t where
  hostTot : t.safe.hostTot = s.safe.hostTot

theorem KeepsRequest.refl (s : State) : KeepsRequest s s := ⟨.refl s, rfl⟩

theorem KeepsRequest.trans (h : KeepsRequest s t) (k : KeepsRequest t u) : KeepsRequest s u :=
  ⟨h.toKeepsTwin.trans k.toKeepsTwin, k.hostTot.trans h.hostTot⟩

theorem OnlyLanes.keepsRequest (h : OnlyLanes s t) : KeepsRequest s t := ⟨OnlyLanes.keepsTwin h, h.part (fun x => x.safe.hostTot) fun _ => rfl⟩

theorem OnlyRecords.keepsRequest (h : OnlyRecords s t) : KeepsRequest s t := ⟨h.presents.toKeepsTwin, by rw [h.safe]⟩

theorem OnlyLevels.keepsRequest (h : OnlyLevels s t) : KeepsRequest s t := ⟨(OnlyLevels.keepsSurf h).toKeepsTwin, by rw [h.safe]⟩

theorem fset_request {f : Fld} (h7 : f.addr ≠ 0x70008) (h2 : f.addr ≠ 0x20024) (v : Nat) (s : State) : KeepsRequest s (s.fset f v) :=
  ⟨(fset_presents h7 h2 v s).toKeepsTwin, rfl⟩

theorem srcSet_request (src : TotSrc) (b : Bool) (s : State) : KeepsRequest s (s.fsetb src.fld b) :=
  fset_request (by rw [src.fld_addr]; decide) (by rw [src.fld_addr]; decide) _ s

theorem segFollowTot_request (s : State) : KeepsRequest s s.segFollowTot := by
  have hseg : ∀ q, KeepsRequest s { s with seg := q } := fun q => ⟨.of_parts rfl rfl rfl, rfl⟩
  unfold State.segFollowTot
  split
  · exact (hseg _).trans (fset_request (f := R.SEG_STATUS_OFF_TOT) (by decide) (by decide) _ _)
  · exact fset_request (f := R.SEG_STATUS_OFF_TOT) (by decide) (by decide) _ s

/-- Ports newly held, beside their number. -/
theorem totPorts_lanes (old new : Nat) (s : State) :
    OnlyLanes s (overList totPort ((maskList 24 new).filter fun p => !bitOf old p) s) :=
  .overList _ _ (fun _ hp u => totPort_lanes (mem_maskList (List.mem_of_mem_filter hp)) u) s

theorem totApply_request (s : State) : KeepsRequest s s.totApply := by
  unfold State.totApply
  exact (((fset_request (by decide) (by decide) _ s).trans (OnlyLanes.keepsRequest (totPorts_lanes _ _ _))).trans (segFollowTot_request _)).trans
    (OnlyLevels.keepsRequest (showSafe_only _))

/-- SAFE_TOT_PORTS is the union of the scopes of the sources. -/
theorem totApply_ports (s : State) : s.totApply.fget R.SAFE_TOT_PORTS_PORTS = s.totScope % 2 ^ 24 := by
  unfold State.totApply
  dsimp only
  rw [(showSafe_only _).within.fget _ (by decide)]
  have hseg : ∀ u : State, u.segFollowTot.fget R.SAFE_TOT_PORTS_PORTS = u.fget R.SAFE_TOT_PORTS_PORTS := fun u => by
    unfold State.segFollowTot
    split
    · exact fget_fset_addr _ _ _ _ (by decide)
    · exact fget_fset_addr _ _ _ _ (by decide)
  rw [hseg, (totPorts_lanes _ _ _).fget _ (by decide), fget_fset_self _ _ _ (by decide)]
  rfl

theorem totEvent_request (srcs : List TotSrc) (groups : Nat) (released : Bool) (s : State) : KeepsRequest s (s.totEvent srcs groups released) :=
  OnlyRecords.keepsRequest (eventDev_records s _ _ _)

theorem safeEvent_request (kind fault : Nat) (s : State) : KeepsRequest s (s.safeEvent kind fault) := OnlyRecords.keepsRequest (eventDev_records s _ _ _)

/-- A request of Totality, by what it keeps and by the ports that it holds. -/
theorem totRequest_request (src : TotSrc) (groups fault : Nat) (s : State) : KeepsRequest s (s.totRequest src groups fault)
    ∧ (s.totRequest src groups fault).fget R.SAFE_TOT_PORTS_PORTS = (s.fsetb src.fld true).totScope % 2 ^ 24 := by
  unfold State.totRequest
  extract_lets wasDark a b c
  have ha : KeepsRequest s a := (srcSet_request src true s).trans (totApply_request _)
  have hab : OnlyLanes a b := .ite (.onLane (.onLane (.refl a))) (.refl a)
  have hc : KeepsRequest s c := (ha.trans (OnlyLanes.keepsRequest hab)).trans (totEvent_request _ _ _ b)
  have hports : c.fget R.SAFE_TOT_PORTS_PORTS = (s.fsetb src.fld true).totScope % 2 ^ 24 :=
    ((totEvent_io _ _ _ b).fget _ (by decide)).trans ((hab.fget _ (by decide)).trans (totApply_ports _))
  split
  · exact ⟨hc.trans (safeEvent_request _ _ c), ((safeEvent_io _ _ c).fget _ (by decide)).trans hports⟩
  · exact ⟨hc, hports⟩

theorem drivePins_request (s : State) : KeepsRequest s s.drivePins := OnlyLevels.keepsRequest (drivePins_only s)

theorem faultFld_block (f : Nat) : (faultFld f).addr / 0x10000 = 9 := by
  unfold faultFld
  split <;> dsimp only

theorem setFault_request (f : Nat) (b : Bool) (s : State) : KeepsRequest s (s.fsetb (faultFld f) b) := by
  have := faultFld_block f
  exact fset_request (by omega) (by omega) _ s

/-- Fault 10 is reported, and no more. -/
theorem raise10_request (s : State) : KeepsRequest s (s.raise 10 0 0) := by
  rw [raise_of_report rfl (by decide) (by decide)]
  split
  · unfold State.recordFault State.latchFault
    extract_lets a b
    have ha : KeepsRequest s a := by
      unfold a
      split
      · exact (fset_request (by decide) (by decide) _ s).trans (fset_request (by decide) (by decide) _ _)
      · exact .refl s
    have hb : KeepsRequest s b := (ha.trans (fset_request (by decide) (by decide) _ a)).trans (fset_request (by decide) (by decide) _ _)
    exact ((hb.trans (setFault_request 10 true b)).trans (drivePins_request _)).trans (OnlyRecords.keepsRequest (eventDev_records _ _ _ _))
  · exact .refl s

theorem clearFault_request (f : Nat) (s : State) : KeepsRequest s (s.clearFault f) := by
  unfold State.clearFault
  split
  · exact (setFault_request f false s).trans (drivePins_request _)
  · exact .refl s

/-- Ports that no source holds any more, beside the lanes. -/
theorem totResumes_request (old : Nat) (pick : Nat → Bool) (s : State) :
    KeepsRequest s (overList totResume ((maskList 24 old).filter pick) s) :=
  OnlyLanes.keepsRequest (.overList _ _ (fun _ hp u => totResume_lanes (mem_maskList (List.mem_of_mem_filter hp)) u) s)

theorem totRelease_request (srcs : List TotSrc) (groups : Nat) (s : State) : KeepsRequest s (s.totRelease srcs groups) := by
  unfold State.totRelease
  extract_lets latched old wasDark a b c e
  have ha : KeepsRequest s a := (foldl_rel .refl .trans _ _ (fun u q _ => srcSet_request q false u) s).trans (totApply_request _)
  have hb : KeepsRequest s b := ha.trans (totResumes_request _ _ a)
  have hc : KeepsRequest s c := by
    unfold c
    split
    · exact hb
    · exact hb.trans (clearFault_request 10 b)
  have he : KeepsRequest s e := hc.trans (totEvent_request _ _ _ c)
  split
  · exact .refl s
  split
  · exact he.trans (safeEvent_request _ _ e)
  · exact he

theorem shrinkHost_request (gone : Nat) (s : State) : KeepsRequest s (s.shrinkHost gone) := by
  unfold State.shrinkHost
  extract_lets old wasDark a b c
  have hc : KeepsRequest s c := ((totApply_request s).trans (totResumes_request _ _ a)).trans (totEvent_request _ _ _ b)
  split
  · exact hc.trans (safeEvent_request _ _ c)
  · exact hc

end Requests

section Blanking

variable {s t u : State} {d : Desc} {g : Nat}

/-! ## BLANK and UNBLANK -/

theorem exec_blank (s : State) : exec .blank s = .next (s.after (xBlank s)) := rfl
theorem exec_unblank (s : State) : exec .unblank s = .next (s.after (xUnblank s)) := rfl

theorem xBlank_idles (h : s.ready 0 [0x40] = none ∨ (s.ready 0 [0x40] = some d ∧ d.arg 16 1 ≠ 0x10)) : xBlank s = s := by
  unfold xBlank
  rcases h with h | ⟨h, hne⟩
  · rw [h]
  · rw [h]
    exact if_pos hne

theorem xUnblank_idles (h : s.ready 0 [0x40] = none ∨ (s.ready 0 [0x40] = some d ∧ d.arg 16 1 ≠ 0x11)) : xUnblank s = s := by
  unfold xUnblank
  rcases h with h | ⟨h, hne⟩
  · rw [h]
  · rw [h]
    exact if_pos hne

theorem xBlank_ready (hr : s.ready 0 [0x40] = some d) (hring : d.ring = 0) (ha : d.arg 16 1 = 0x10) : xBlank s =
    if d.blankOk = true then ((s.popDesc 0).blankApply (d.arg 18 2)).complete d .ok 0 [] else (s.popDesc 0).complete d .argInvalid 0 [] := by
  unfold xBlank
  rw [hr]
  dsimp only
  rw [if_neg (by rw [ha]; decide)]
  split
  · rw [command_ok, hring]
  · rw [command_refused (by decide), hring]

theorem xUnblank_ready (hr : s.ready 0 [0x40] = some d) (hring : d.ring = 0) (ha : d.arg 16 1 = 0x11) : xUnblank s =
    if d.blankOk = true then (s.popDesc 0).unblankApply d (d.arg 18 2) else (s.popDesc 0).complete d .argInvalid 0 [] := by
  unfold xUnblank
  rw [hr]
  dsimp only
  rw [if_neg (by rw [ha]; decide)]
  split
  · rw [command_ok, hring]
  · rw [command_refused (by decide), hring]

/-- The host's request, changed. -/
def State.setHostTot (s : State) (v : Nat) : State := { s with safe := { s.safe with hostTot := v } }

theorem setHostTot_twin (v : Nat) (s : State) : KeepsTwin s (s.setHostTot v) := .of_parts rfl rfl rfl

/-- BLANK joins its bits to the request, latches its source and holds the ports named. -/
theorem blankApply_acts (g : Nat) (s : State) : KeepsTwin s (s.blankApply g) ∧ (s.blankApply g).safe.hostTot = s.safe.hostTot ||| g
    ∧ (g ≠ 0 → (s.blankApply g).fbit R.SAFE_TOT_SRC_HOST = true)
    ∧ ∀ p, p < 24 → bitOf (s.groupScope g) p = true → (s.blankApply g).totHolds p = true := by
  obtain ⟨u, hu⟩ : ∃ u, u = s.setHostTot (s.safe.hostTot ||| g) := ⟨_, rfl⟩
  have hx : s.blankApply g = if g = 0 then u else (u.totRequest .host g 10).raise 10 0 0 := by rw [hu]; rfl
  have hsu : KeepsTwin s u := by rw [hu]; exact setHostTot_twin _ s
  have hut : u.safe.hostTot = s.safe.hostTot ||| g := by rw [hu]; rfl
  have hscope : u.groupScope g = s.groupScope g := by rw [hu]; rfl
  rw [hx, ← hscope]
  split
  · rename_i h0
    exact ⟨hsu, hut, fun h => absurd h0 h, fun p _ hp => by rw [h0] at hp; simp [State.groupScope, bitOf] at hp⟩
  · obtain ⟨hreq, hports⟩ := totRequest_request .host g 10 u
    have hrep := raise10_report (u.totRequest .host g 10)
    have hlatch : (u.totRequest .host g 10).fbit R.SAFE_TOT_SRC_HOST = true :=
      ((totRequest_tot .host g 10 u).fbit _ (by decide)).trans (fbit_fsetb_self u _ true rfl rfl)
    have hall := hreq.trans (raise10_request _)
    refine ⟨hsu.trans hall.toKeepsTwin, hall.hostTot.trans hut, fun _ => (hrep.fbit _ (by decide)).trans hlatch, fun p hp24 hp => ?_⟩
    have hhost : bitOf (u.fsetb TotSrc.host.fld true).hostScope p = true := hostScope_of_group hp24 s.safe.hostTot hut hp
    have hset : (u.fsetb TotSrc.host.fld true).fbit R.SAFE_TOT_SRC_HOST = true := fbit_fsetb_self u _ true rfl rfl
    unfold State.totHolds
    rw [hrep.fget _ (by decide), hports, bitOf_eq_testBit, Nat.testBit_mod_two_pow, decide_eq_true hp24, Bool.true_and]
    unfold State.totScope
    rw [hset, if_pos rfl, Nat.testBit_or, Nat.testBit_or, ← bitOf_eq_testBit _ p, ← bitOf_eq_testBit _ p, hhost]
    simp

/-- UNBLANK leaves the bits that it does not name, and with the last of them gone lets the source go. -/
theorem unblankApply_acts (g : Nat) (s : State) : KeepsTwin s (s.unblankApply d g)
    ∧ (∀ i, i < 9 → bitOf (s.unblankApply d g).safe.hostTot i = (bitOf s.safe.hostTot i && !bitOf g i))
    ∧ (s.safe.hostTot ≠ 0 → (s.unblankApply d g).safe.hostTot = 0 → (s.unblankApply d g).fbit R.SAFE_TOT_SRC_HOST = false) := by
  unfold State.unblankApply
  extract_lets named rest had gone _ u v refused
  have hsu : KeepsTwin s u := setHostTot_twin _ s
  have huv : KeepsRequest u v := by
    unfold v
    split
    · exact .refl u
    split
    · exact totRelease_request _ _ u
    · exact shrinkHost_request _ u
  have hrec := complete_records v d (if refused = true then .safeRefused else .ok) 0 []
  have htot : (v.complete d (if refused = true then .safeRefused else .ok) 0 []).safe.hostTot = maskOf rest := by
    rw [hrec.safe, huv.hostTot]
  refine ⟨(hsu.trans huv.toKeepsTwin).trans hrec.presents.toKeepsTwin, fun i hi => ?_, fun h0 hz => ?_⟩
  · rw [htot, bitOf_maskOf, Bool.eq_iff_iff]
    simp [rest, mem_maskList_iff, hi]
  · have hrest : rest = [] := maskOf_eq_zero (htot.symm.trans hz)
    have hv : v = u.totRelease [.host] gone := by
      unfold v
      rw [if_neg (by simp [had, hrest, maskOf, h0]), if_pos (by rw [hrest]; rfl)]
    rw [hrec.fbit _ (by unfold recordReg; simp only [R.SAFE_TOT_SRC_HOST]; omega), hv]
    exact totRelease_fbit (List.mem_singleton_self TotSrc.host) gone u

end Blanking

section ModeCases

variable {s t u : State} {d : Desc} {r : Nat}

/-! ## A mode request by its mode -/

theorem modeApply_same (h : d.arg 16 1 = s.modeNow) : s.modeApply d = s.complete d .ok 0 [] := if_pos h

theorem modeApply_limp (h : d.arg 16 1 = 4) (h4 : s.modeNow ≠ 4) : s.modeApply d = (s.enterLimp .store 0 0).complete d .ok 0 [] := by
  unfold State.modeApply
  dsimp only
  rw [h, if_neg (Ne.symm h4), if_neg (by decide), if_neg (by decide), if_pos rfl]

theorem modeApply_sentinel (h : d.arg 16 1 = 0) (h0 : s.modeNow ≠ 0) : s.modeApply d = (s.completeAt d .ok 0 [] (.mode 0)).enterSentinel 0 := by
  unfold State.modeApply
  dsimp only
  rw [h, if_neg (Ne.symm h0), if_pos rfl]

theorem modeApply_park (h : d.arg 16 1 = 3) (h3 : s.modeNow ≠ 3) : s.modeApply d = (s.completeAt d .ok 0 [] (.mode 3)).enterPark 0 := by
  unfold State.modeApply
  dsimp only
  rw [h, if_neg (Ne.symm h3), if_neg (by decide), if_pos rfl]

theorem popDesc_word (r : Nat) (s : State) : (s.popDesc r).rd 0x20100 = s.rd 0x20100 := popDesc_part (fun x => x.rd 0x20100) (fun _ => rfl) r

theorem popDesc_modeNow (r : Nat) (s : State) : (s.popDesc r).modeNow = s.modeNow := popDesc_part State.modeNow (fun _ => rfl) r

theorem popDesc_enabled (r : Nat) (s : State) : (List.range 4).filter (s.popDesc r).surfEnabled = (List.range 4).filter s.surfEnabled :=
  popDesc_part (fun x => (List.range 4).filter x.surfEnabled) (fun _ => rfl) r

/-- A completion of a MODE leaves the mode. -/
theorem complete_mode (d : Desc) (st : Status) (eff : EffectAt) (s : State) : KeepsTwin s (s.completeAt d st 0 [] eff)
    ∧ (s.completeAt d st 0 [] eff).rd 0x20100 = s.rd 0x20100 ∧ (s.completeAt d st 0 [] eff).mode = s.mode :=
  ⟨(completeAt_records _ _ _ _ _ _).presents.toKeepsTwin, (completeAt_records _ _ _ _ _ _).word, (completeAt_records _ _ _ _ _ _).mode⟩

/-- What a decision leaves once its descriptor is off the ring. -/
theorem modeBegins_acts (hs : s.shape) (hr : s.ready r [0x40] = some d) (hring : d.ring = r) (h7 : r < 7)
    (hd : d.arg 16 1 = 1 ∨ d.arg 16 1 = 2 ∨ d.arg 16 1 = 5) (hok : s.modeStatus d = .ok) (hne : d.arg 16 1 ≠ s.modeNow) :
    (s.after (xMode r s)).fget R.PWR_MODE_TARGET = d.arg 16 1 ∧ (s.after (xMode r s)).fbit R.PWR_MODE_BUSY = true
    ∧ (s.after (xMode r s)).fget R.PWR_MODE_MODE = s.fget R.PWR_MODE_MODE
    ∧ (s.after (xMode r s)).mode.trans = some { src := s.modeNow, dst := d.arg 16 1, cause := 0, cmd := some (d.ring, d.pos),
                                                waitSurf := if s.modeNow = 4 then (List.range 4).filter s.surfEnabled else [] }
    ∧ ((s.after (xMode r s)).ring r).arrived = (s.ring r).arrived.drop 1 := by
  obtain ⟨hk, hword, htrans⟩ := modeApply_begins (s := s.popDesc r) hd (by rw [popDesc_modeNow]; exact hne)
  obtain ⟨-, htarget, hbusy, hnow⟩ := beginMode_acts (d.arg 16 1) 0 (s.popDesc r)
  have hw : (s.after ((s.popDesc r).modeApply d)).rd 0x20100 = ((s.popDesc r).beginMode (d.arg 16 1) 0 none).rd 0x20100 := (after_word _ _).trans hword
  rw [popDesc_modeNow, popDesc_enabled] at htrans
  rw [xMode_applies hr hring (by omega) hok]
  refine ⟨(fget_of_word hw rfl).trans (htarget.trans (Nat.mod_eq_of_lt (by omega))), (fbit_of_word hw rfl).trans hbusy,
    (fget_of_word hw rfl).trans (hnow.trans (popDesc_modeNow r s)), by rw [after_mode, htrans], served_arrived hs hr h7 hk⟩

/-- What LIMP leaves once its descriptor is off the ring. -/
theorem modeLimp_acts (hs : s.shape) (hr : s.ready r [0x40] = some d) (hring : d.ring = r) (h7 : r < 7) (hd : d.arg 16 1 = 4)
    (hok : s.modeStatus d = .ok) (h4 : s.modeNow ≠ 4) :
    (s.after (xMode r s)).safe.form ≠ .none ∧ (s.after (xMode r s)).safe.parkBeam = false
    ∧ ((s.after (xMode r s)).ring r).arrived = (s.ring r).arrived.drop 1
    ∧ if s.modeNow = 3 ∧ s.fbit R.PWR_SUPPLY_STATUS_LIMP_SUPPLY = false
      then (s.after (xMode r s)).fget R.PWR_MODE_MODE = 3 ∧ (s.after (xMode r s)).fget R.PWR_MODE_TARGET = 4
        ∧ (s.after (xMode r s)).fbit R.PWR_MODE_BUSY = true
      else (s.after (xMode r s)).fget R.PWR_MODE_MODE = 4 ∧ (s.after (xMode r s)).fbit R.PWR_MODE_BUSY = false := by
  obtain ⟨-, hbusy⟩ := modeStatus_ok hok
  obtain ⟨hk, hform, hbeam, hword⟩ := enterLimp_acts (s := s.popDesc r) ((fbit_of_word (popDesc_word r s) rfl).trans hbusy)
    (by rw [popDesc_modeNow]; exact h4)
  rw [xMode_applies hr hring (by omega) hok, modeApply_limp hd (by rw [popDesc_modeNow]; exact h4)]
  generalize (s.popDesc r).enterLimp .store 0 0 = v at *
  have hrec := complete_records v d .ok 0 []
  have hw : (s.after (v.complete d .ok 0 [])).rd 0x20100 = v.rd 0x20100 := (after_word _ _).trans hrec.word
  rw [popDesc_modeNow, popDesc_part (fun x => x.fbit R.PWR_SUPPLY_STATUS_LIMP_SUPPLY) fun _ => rfl] at hword
  rw [after_safe, hrec.safe, fget_of_word hw rfl, fget_of_word hw rfl, fbit_of_word hw rfl]
  exact ⟨hform, hbeam, served_arrived hs hr h7 (hk.trans hrec.presents.toKeepsTwin), hword⟩

end ModeCases

/-- Settles O10: each mode request by the decision or the mode it leaves, BLANK and UNBLANK by the host's request and the ports it holds. -/
theorem modeRequests : Obligations.ModeRequests := by
  unfold Obligations.ModeRequests
  have h7 : ∀ r : Fin 4, r.val < 7 := fun r => by omega
  refine ⟨?begins, ?limp, ?limpParked, ?sentinel, ?park, ?same, ?refused, ?none, ?blanking, ?blank, ?blankRefused,
    fun s d h => ⟨_, exec_blank s, by rw [xBlank_idles h]⟩, ?unblank, ?unblankRefused, fun s d h => ⟨_, exec_unblank s, by rw [xUnblank_idles h]⟩⟩
  case begins =>
    intro s r d dst hs hr hring hd hok hne hdst
    subst hd
    exact ⟨_, exec_mode r s, modeBegins_acts hs hr hring (h7 r) hdst hok hne⟩
  case limp =>
    intro s r d hs hr hring hd hok h4 hsup
    obtain ⟨hform, -, harr, hword⟩ := modeLimp_acts hs hr hring (h7 r) hd hok h4
    rw [if_neg (by rintro ⟨h3, hoff⟩; rw [hsup h3] at hoff; cases hoff)] at hword
    exact ⟨_, exec_mode r s, hword.1, hword.2, hform, harr⟩
  case limpParked =>
    intro s r d hs hr hring hd hok h3 hsup
    obtain ⟨hform, hbeam, harr, hword⟩ := modeLimp_acts hs hr hring (h7 r) hd hok (by rw [h3]; decide)
    rw [if_pos ⟨h3, hsup⟩] at hword
    obtain ⟨hmode, htarget, hbusy⟩ := hword
    exact ⟨_, exec_mode r s, hmode, htarget, hbusy, hform, hbeam, harr⟩
  case sentinel =>
    intro s r d hs hr hring hd hok h0
    obtain ⟨-, hw, -⟩ := complete_mode d .ok (.mode 0) (s.popDesc r)
    have hnow : ((s.popDesc r).completeAt d .ok 0 [] (.mode 0)).modeNow = s.modeNow := (fget_of_word hw rfl).trans (popDesc_modeNow r s)
    obtain ⟨htrans, htarget, hbusy, hoff⟩ := enterSentinel_acts ((s.popDesc r).completeAt d .ok 0 [] (.mode 0))
    rw [hnow] at htrans
    rw [exec_mode, xMode_applies hr hring (by omega) hok, modeApply_sentinel hd (by rw [popDesc_modeNow]; exact h0)]
    exact ⟨_, rfl, (fget_of_word (after_word _ _) rfl).trans htarget, (fbit_of_word (after_word _ _) rfl).trans hbusy, by rw [after_mode, htrans],
      fun n hn hn0 => by rw [after_domOn, hoff n hn hn0]⟩
  case park =>
    intro s r d hs hr hring hd hok h3
    obtain ⟨hkc, hw, -⟩ := complete_mode d .ok (.mode 3) (s.popDesc r)
    have hnow : ((s.popDesc r).completeAt d .ok 0 [] (.mode 3)).modeNow = s.modeNow := (fget_of_word hw rfl).trans (popDesc_modeNow r s)
    have hen : (List.range 4).filter ((s.popDesc r).completeAt d .ok 0 [] (.mode 3)).surfEnabled = (List.range 4).filter s.surfEnabled := by
      rw [← popDesc_enabled r s]
      refine List.filter_congr fun n _ => ?_
      unfold State.surfEnabled State.running
      rw [(completeAt_device _ _ _ _ _ _).fbit _ (by simp only [R.TG_STATUS_RUNNING]; omega),
        (completeAt_device _ _ _ _ _ _).fbit _ (by simp only [R.TG_CTRL_ENABLE]; omega)]
    obtain ⟨hk, htrans, htarget, hbusy, hmode, hpark⟩ := enterPark_acts ((s.popDesc r).completeAt d .ok 0 [] (.mode 3))
    rw [hnow] at htrans
    rw [hen] at hpark
    rw [exec_mode, xMode_applies hr hring (by omega) hok, modeApply_park hd (by rw [popDesc_modeNow]; exact h3)]
    exact ⟨_, rfl, (fget_of_word (after_word _ _) rfl).trans htarget, (fbit_of_word (after_word _ _) rfl).trans hbusy,
      (fget_of_word (after_word _ _) rfl).trans (hmode.trans hnow), by rw [after_mode, htrans], by rw [after_mode, hpark],
      served_arrived hs hr (h7 r) (hkc.trans hk)⟩
  case same =>
    intro s r d hs hr hring hd hok
    obtain ⟨hle, -⟩ := modeStatus_ok hok
    obtain ⟨hk, hw, hmode⟩ := complete_mode d .ok .now (s.popDesc r)
    have hword := ((after_word s _).trans hw).trans (popDesc_word r s)
    rw [exec_mode, xMode_applies hr hring (by omega) hok, modeApply_same (by rw [popDesc_modeNow]; exact hd)]
    exact ⟨_, rfl, fget_of_word hword rfl, fget_of_word hword rfl, fbit_of_word hword rfl,
      by rw [after_mode]; exact hmode.trans (popDesc_part State.mode (fun _ => rfl) r), served_arrived hs hr (h7 r) hk⟩
  case refused =>
    intro s r d hs hr hring h10 h11 hno
    obtain ⟨hk, hw, -⟩ := complete_mode d (s.modeStatus d) .now (s.popDesc r)
    have hword := ((after_word s _).trans hw).trans (popDesc_word r s)
    rw [exec_mode, xMode_refused hr hring h10 h11 hno]
    exact ⟨_, rfl, fget_of_word hword rfl, fget_of_word hword rfl, fbit_of_word hword rfl, served_arrived hs hr (h7 r) hk⟩
  case none =>
    intro s r hr
    exact ⟨_, exec_mode r s, by rw [xMode_none hr]⟩
  case blanking =>
    intro s r d hr h
    exact ⟨_, exec_mode r s, by rw [xMode_blanking hr h]⟩
  case blank =>
    intro s d hs hr hring hd hok
    obtain ⟨hk, htot, hsrc, hports⟩ := blankApply_acts (d.arg 18 2) (s.popDesc 0)
    have hrec := complete_records ((s.popDesc 0).blankApply (d.arg 18 2)) d .ok 0 []
    rw [popDesc_part State.safe fun _ => rfl] at htot
    rw [popDesc_part (fun x => x.groupScope (d.arg 18 2)) fun _ => rfl] at hports
    rw [exec_blank, xBlank_ready hr hring hd, if_pos hok]
    refine ⟨_, rfl, by rw [after_safe, hrec.safe, htot], fun h => ?_, fun p hp hb => ?_, served_arrived hs hr (by decide) (hk.trans hrec.presents.toKeepsTwin)⟩
    · rw [after_fbit _ _ _ (by decide), hrec.io.fbit _ (by decide), hsrc h]
    · have hheld := hports p hp hb
      unfold State.totHolds at hheld ⊢
      rw [after_fget _ _ _ (by decide), hrec.io.fget _ (by decide), hheld]
  case blankRefused =>
    intro s d hs hr hring hd hno
    have hrec := complete_records (s.popDesc 0) d .argInvalid 0 []
    rw [exec_blank, xBlank_ready hr hring hd, if_neg (by rw [hno]; decide)]
    refine ⟨_, rfl, by rw [after_safe, hrec.safe, popDesc_part State.safe fun _ => rfl], ?_, served_arrived hs hr (by decide) hrec.presents.toKeepsTwin⟩
    rw [after_fget _ _ _ (by decide), hrec.io.fget _ (by decide), popDesc_part (fun x => x.fget R.SAFE_TOT_PORTS_PORTS) fun _ => rfl]
  case unblank =>
    intro s d hs hr hring hd hok
    obtain ⟨hk, hbits, hsrc⟩ := unblankApply_acts (d := d) (d.arg 18 2) (s.popDesc 0)
    rw [popDesc_part State.safe fun _ => rfl] at hbits hsrc
    rw [exec_unblank, xUnblank_ready hr hring hd, if_pos hok]
    refine ⟨_, rfl, fun i hi => by rw [after_safe, hbits i hi], fun h0 _ hz => ?_, served_arrived hs hr (by decide) hk⟩
    rw [after_safe] at hz
    rw [after_fbit _ _ _ (by decide), hsrc h0 hz]
  case unblankRefused =>
    intro s d hs hr hring hd hno
    have hrec := complete_records (s.popDesc 0) d .argInvalid 0 []
    rw [exec_unblank, xUnblank_ready hr hring hd, if_neg (by rw [hno]; decide)]
    refine ⟨_, rfl, by rw [after_safe, hrec.safe, popDesc_part State.safe fun _ => rfl], ?_, served_arrived hs hr (by decide) hrec.presents.toKeepsTwin⟩
    rw [after_fget _ _ _ (by decide), hrec.io.fget _ (by decide), popDesc_part (fun x => x.fget R.SAFE_TOT_PORTS_PORTS) fun _ => rfl]

end Sys2Proof.Machine

namespace Sys2Proof.Machine

section Units

/-! ## A unit's lanes: its registers, and what its record holds of them -/

variable {s t : State} {u v p l : Nat}

/-- The registers of a unit's lanes and tests, with PWR_DOM_STATUS, which says whether they are on. -/
def unitReg (u a : Nat) : Prop := a = 0x20024 ∨ (u < 26 ∧ laneCtrl u ≤ a ∧ a < laneCtrl u + 0x40)

/-- A handshake but for the training sets sent. -/
def Handshake.still (h : Handshake) : Handshake := { h with trn1Tx := 0 }

/-- A port's record without what its packets, its training sets and its tile's answers change. -/
def Port.still (q : Port) : Port :=
  { hs := q.hs.still, rx := q.rx, order := q.order, reorder := q.reorder, prbs := q.prbs, retrains := q.retrains,
    dnLimit := q.dnLimit, upLimit := q.upLimit }

/-- A twin link's record without what it counts of the symbols and training sets sent, and of its digests. -/
def TwinLink.still (q : TwinLink) : TwinLink :=
  { q with hs := q.hs.still, hs1 := q.hs1.still, neg0 := true, neg1 := true, turn := 0, badDigests := 0, down := false }

/-- A unit's lanes stand as they did: their registers, and their record but for what goes out on them. -/
structure KeepsUnit (u : Nat) (s t : State) : Prop where
  rd : ∀ a, unitReg u a → t.rd a = s.rd a
  port : (t.port u).still = (s.port u).still
  link : 24 ≤ u → (nth t.twin.links (linkOf u)).still = (nth s.twin.links (linkOf u)).still
  ports : t.ports.length = s.ports.length
  links : t.twin.links.length = s.twin.links.length
  lnref : t.pins.lnref = s.pins.lnref

theorem KeepsUnit.refl (s : State) : KeepsUnit u s s := ⟨fun _ _ => rfl, rfl, fun _ => rfl, rfl, rfl, rfl⟩

theorem KeepsUnit.trans {w : State} (h : KeepsUnit u s t) (k : KeepsUnit u t w) : KeepsUnit u s w where
  rd a ha := (k.rd a ha).trans (h.rd a ha)
  port := k.port.trans h.port
  link hu := (k.link hu).trans (h.link hu)
  ports := k.ports.trans h.ports
  links := k.links.trans h.links
  lnref := k.lnref.trans h.lnref

theorem KeepsUnit.ite {c : Prop} [Decidable c] {w : State} (ht : KeepsUnit u s t) (hw : KeepsUnit u s w) : KeepsUnit u s (if c then t else w) := by
  split
  · exact ht
  · exact hw

theorem KeepsUnit.foldl {α : Type} (f : State → α → State) (l : List α) (hf : ∀ w, ∀ x ∈ l, KeepsUnit u w (f w x)) (s : State) :
    KeepsUnit u s (l.foldl f s) := foldl_rel .refl .trans f l hf s

theorem KeepsUnit.overList (f : Nat → State → State) (l : List Nat) (hf : ∀ i ∈ l, ∀ w, KeepsUnit u w (f i w)) (s : State) :
    KeepsUnit u s (overList f l s) := overList_rel .refl .trans f l hf s

/-- A change that leaves the registers, the ports, the twin links and LNREF. -/
theorem KeepsUnit.of_parts (hr : t.regs = s.regs) (hp : t.ports = s.ports) (hl : t.twin.links = s.twin.links)
    (hn : t.pins.lnref = s.pins.lnref) : KeepsUnit u s t where
  rd a _ := by unfold State.rd; rw [hr]
  port := by unfold State.port; rw [hp]
  link _ := by rw [hl]
  ports := by rw [hp]
  links := by rw [hl]
  lnref := hn

/-! ### Where registers lie -/

theorem block_beside {a : Nat} (h : a / 0x10000 ≠ 2 ∧ a / 0x10000 ≠ 6 ∧ a / 0x10000 ≠ 7) : ¬ unitReg u a := by
  unfold unitReg laneCtrl
  split <;> omega

theorem tile_beside (k : Nat) (hp : p < 24) (hk : k < 0x800) (h : p = u → 0x40 ≤ k) : ¬ unitReg u (0x60000 + k + p * 0x800) := by
  unfold unitReg laneCtrl
  split <;> omega

theorem links_beside : ¬ unitReg u 0x70008 := by
  unfold unitReg laneCtrl
  split <;> omega

theorem refout_beside : ¬ unitReg u 0x6C000 := by
  unfold unitReg laneCtrl
  split <;> omega

theorem tile_unitReg (k : Nat) (hp : p < 24) (hk : k < 0x40) : unitReg p (0x60000 + k + p * 0x800) := by
  unfold unitReg laneCtrl
  rw [if_pos hp]
  omega

theorem link_unitReg (k : Nat) (hl : l < 2) (hk : k < 0x40) : unitReg (24 + l) (0x70400 + k + l * 0x100) := by
  unfold unitReg laneCtrl
  rw [if_neg (by omega)]
  omega

theorem KeepsUnit.fget (h : KeepsUnit u s t) (f : Fld) (hf : unitReg u f.addr) : t.fget f = s.fget f := by
  unfold State.fget; rw [h.rd _ hf]

theorem KeepsUnit.fbit (h : KeepsUnit u s t) (f : Fld) (hf : unitReg u f.addr) : t.fbit f = s.fbit f := by
  unfold State.fbit; rw [h.fget f hf]

/-! ### Updates that leave a unit -/

theorem fset_keepsUnit {f : Fld} (h : ¬ unitReg u f.addr) (n : Nat) (s : State) : KeepsUnit u s (s.fset f n) where
  rd a ha := rd_wr_other s f.addr a _ (by rintro rfl; exact h ha)
  port := rfl
  link _ := rfl
  ports := rfl
  links := rfl
  lnref := rfl

theorem fsetb_keepsUnit {f : Fld} (h : ¬ unitReg u f.addr) (b : Bool) (s : State) : KeepsUnit u s (s.fsetb f b) := fset_keepsUnit h _ s

theorem setPort_port (p n : Nat) (f : Port → Port) (s : State) :
    (s.setPort p f).port n = if p = n ∧ n < s.ports.length then f (s.port n) else s.port n := nth_upd f s.ports p n

theorem setLink_link (l n : Nat) (f : TwinLink → TwinLink) (s : State) :
    nth (s.setLink l f).twin.links n = if l = n ∧ n < s.twin.links.length then f (nth s.twin.links n) else nth s.twin.links n :=
  nth_upd f s.twin.links l n

theorem setPort_keepsUnit {f : Port → Port} (h : p = u → ∀ q, (f q).still = q.still) (s : State) : KeepsUnit u s (s.setPort p f) where
  rd _ _ := rfl
  port := by
    rw [setPort_port]
    split
    · rename_i hc; exact h hc.1 _
    · rfl
  link _ := rfl
  ports := upd_length f s.ports p
  links := rfl
  lnref := rfl

theorem setLink_keepsUnit {f : TwinLink → TwinLink} (h : 24 + l = u → ∀ q, (f q).still = q.still) (s : State) :
    KeepsUnit u s (s.setLink l f) where
  rd _ _ := rfl
  port := rfl
  link hu := by
    rw [setLink_link]
    split
    · rename_i hc; exact h (by rw [hc.1]; unfold linkOf; omega) _
    · rfl
  ports := rfl
  links := upd_length f s.twin.links l
  lnref := rfl

theorem le_of_unitReg {a : Nat} (h : unitReg u a) : 0x20000 ≤ a := by
  unfold unitReg laneCtrl at h
  split at h <;> omega

/-- Records, the registers of the other blocks left. -/
theorem OnlyRecords.keepsUnit (h : OnlyRecords s t) (hd : KeepsDevice s t) : KeepsUnit u s t where
  rd a ha := hd a (le_of_unitReg ha)
  port := by unfold State.port; rw [h.ports]
  link _ := by rw [h.twin]
  ports := by rw [h.ports]
  links := by rw [h.twin]
  lnref := by rw [h.pins]

theorem setRing_device (n : Nat) (f : Ring → Ring) (s : State) : KeepsDevice s (s.setRing n f) := .of_regs rfl

theorem record_device {n : Nat} (hn : n < 7) (body : List Byte) (s : State) : KeepsDevice s (s.record n body) := by
  unfold State.record
  extract_lets a lost
  have ha : KeepsDevice s a := setRing_device n _ s
  split
  · exact .trans ha (.of_regs (t := { a with host := _ }) rfl)
  split
  · exact .trans (ha.trans (setRing_device n _ a)) (putRecord_device hn _ _ _)
  · exact .trans (ha.trans (setRing_device n _ a)) (fset_device (by split <;> decide) _ _)

theorem eventDev_keepsUnit (source code : Nat) (body : List Byte) (s : State) : KeepsUnit u s (s.eventDev source code body) :=
  OnlyRecords.keepsUnit (eventDev_records s source code body) (record_device (by decide) _ s)

theorem linkEvent_keepsUnit (p kind count : Nat) (s : State) : KeepsUnit u s (s.linkEvent p kind count) := eventDev_keepsUnit _ _ _ s

theorem twinLinkEvent_keepsUnit (l kind count : Nat) (s : State) : KeepsUnit u s (s.twinLinkEvent l kind count) := eventDev_keepsUnit _ _ _ s

theorem unitEvent_keepsUnit (v kind count : Nat) (s : State) : KeepsUnit u s (s.unitEvent v kind count) :=
  .ite (linkEvent_keepsUnit v kind count s) (twinLinkEvent_keepsUnit _ kind count s)

theorem OnlyLevels.keepsUnit (h : OnlyLevels s t) : KeepsUnit u s t where
  rd a ha := h.rd a (by rintro rfl; exact block_beside (by decide) ha)
  port := by unfold State.port; rw [h.ports]
  link _ := by rw [h.twin]
  ports := by rw [h.ports]
  links := by rw [h.twin]
  lnref := by rw [h.pins]

theorem after_keepsUnit (s t : State) : KeepsUnit u t (s.after t) where
  rd a ha := after_rd s t a (by rintro rfl; exact block_beside (by decide) ha)
  port := by unfold State.port; rw [after_ports]
  link _ := by rw [after_twin]
  ports := by rw [after_ports]
  links := by rw [after_twin]
  lnref := by rw [after_pins]

theorem idleRestart_keepsUnit (s : State) : KeepsUnit u s s.idleRestart := by
  have hidle : ¬ unitReg u 0x20108 := by
    unfold unitReg laneCtrl
    split <;> omega
  unfold State.idleRestart
  exact .ite (.trans (.trans (fset_keepsUnit hidle _ s) (fset_keepsUnit hidle _ _)) (.of_parts rfl rfl rfl rfl)) (.refl s)

/-! ### Faults -/

theorem faultFld_beside (f : Nat) : ¬ unitReg u (faultFld f).addr := block_beside (by rw [faultFld_block]; decide)

theorem clearFault_keepsUnit (f : Nat) (s : State) : KeepsUnit u s (s.clearFault f) :=
  .ite (.trans (fsetb_keepsUnit (faultFld_beside f) _ s) (OnlyLevels.keepsUnit (drivePins_only _))) (.refl s)

theorem recordFault_keepsUnit (f inst detail : Nat) (s : State) : KeepsUnit u s (s.recordFault f inst detail) := by
  have hsafe : ∀ {g : Fld} (n : Nat) (w : State), g.addr / 0x10000 = 9 → KeepsUnit u w (w.fset g n) :=
    fun n w hg => fset_keepsUnit (block_beside (by omega)) n w
  unfold State.recordFault State.latchFault
  extract_lets a b
  have ha : KeepsUnit u s a := .ite (.trans (hsafe _ s rfl) (hsafe _ _ rfl)) (.refl s)
  have hb : KeepsUnit u a b := .trans (hsafe _ a rfl) (hsafe _ _ rfl)
  exact (ha.trans hb).trans (.trans (.trans (fsetb_keepsUnit (faultFld_beside f) _ b) (OnlyLevels.keepsUnit (drivePins_only _)))
    (eventDev_keepsUnit _ _ _ _))

/-- The faults of lanes, which are reported and nothing more (Table 11-6). -/
def laneFaults : List Nat := [22, 24, 25, 40]

theorem raise_keepsUnit {f : Nat} (hf : f ∈ laneFaults) (inst detail : Nat) (s : State) : KeepsUnit u s (s.raise f inst detail) := by
  have h : reactionOf f = .report ∧ [1, 8, 9, 15, 26, 27, 28, 29].contains f = false ∧ [1, 8, 9, 15, 27, 29, 30].contains f = false := by
    revert f; decide
  rw [raise_of_report h.1 h.2.1 h.2.2]
  exact .ite (recordFault_keepsUnit f inst detail s) (.refl s)

theorem laneFault_keepsUnit (p detail : Nat) (s : State) : KeepsUnit u s (s.laneFault p detail) := by
  have h : KeepsUnit u s { s with safe := { s.safe with laneFaults := maskSet s.safe.laneFaults p true } } := .of_parts rfl rfl rfl rfl
  exact .ite (h.trans (raise_keepsUnit (by decide) _ _ _)) (.refl s)

theorem refOver_keepsUnit (s : State) : KeepsUnit u s s.refOver := .ite (clearFault_keepsUnit 25 s) (.refl s)

theorem laneFaultOver_keepsUnit (v : Nat) (s : State) : KeepsUnit u s (s.laneFaultOver v) := by
  unfold State.laneFaultOver
  extract_lets _ a b
  have ha : KeepsUnit u s a := .of_parts rfl rfl rfl rfl
  exact (ha.trans (.ite (clearFault_keepsUnit 22 a) (.refl a))).trans (refOver_keepsUnit b)

theorem twinFaultOver_keepsUnit (s : State) : KeepsUnit u s s.twinFaultOver := .ite (clearFault_keepsUnit 40 s) (.refl s)

theorem linkWatch_keepsUnit (s : State) : KeepsUnit u s s.linkWatch := by
  unfold State.linkWatch
  refine .ite (.refl s) ?_
  split
  · exact raise_keepsUnit (by decide) _ _ s
  · exact .refl s

/-! ### What goes out on the lanes -/

theorem TwinLink.sent_still (q : TwinLink) (o : Output) : (q.sent o).still = q.still := by
  unfold TwinLink.sent
  split
  · rfl
  · dsimp only
    split
    · rfl
    split <;> rfl
  · rfl

theorem setNeg_keepsUnit (p : Nat) (g : Port → Bool) (s : State) : KeepsUnit u s (s.setPort p fun q => { q with neg := g q }) :=
  setPort_keepsUnit (fun _ _ => by rfl) s

theorem setSent_keepsUnit (l : Nat) (o : Output) (s : State) : KeepsUnit u s (s.setLink l fun q => q.sent o) :=
  setLink_keepsUnit (fun _ q => q.sent_still o) s

theorem laneSent_keepsUnit (o : Output) (s : State) : KeepsUnit u s (s.laneSent o) := by
  cases o with
  | kcode p k => exact setNeg_keepsUnit p _ s
  | marker p t => exact setNeg_keepsUnit p _ s
  | orderedSet p k b => exact setNeg_keepsUnit p _ s
  | exitBurst p => exact setNeg_keepsUnit p _ s
  | packet p k n b => exact setNeg_keepsUnit p _ s
  | twinK l k => exact setSent_keepsUnit l _ s
  | twinSet l n k b => exact setSent_keepsUnit l _ s
  | twinPacket l k n b => exact setSent_keepsUnit l _ s
  | _ => exact .refl s

theorem send_keepsUnit (o : Output) (s : State) : KeepsUnit u s (s.send o) :=
  .trans (t := s.emit o) (.of_parts rfl rfl rfl rfl) (laneSent_keepsUnit o _)

/-! ### Packets -/

/-- A register of a port beyond its lanes. -/
theorem portReg_beside (k : Nat) (hp : p < 24) (hk : 0x40 ≤ k) (hk' : k < 0x800) : ¬ unitReg u (0x60000 + k + p * 0x800) :=
  tile_beside k hp hk' fun _ => hk

theorem KeepsUnit.lane (h : KeepsUnit p s t) (hp : p < 24) : t.lane p = s.lane p := h.fget _ (tile_unitReg 0x10 hp (by decide))

/-- The port's lane is not idle, where the unit is that port: what it sends begins with no exit burst. -/
def State.awake (s : State) (u p : Nat) : Prop := p = u → s.lane p ≠ laneIdle

theorem State.awake.keeps (h : s.awake u p) (hp : p < 24) (k : KeepsUnit u s t) : t.awake u p := by
  rintro rfl
  rw [k.lane hp]
  exact h rfl

/-- Packet after packet on a port that is awake. -/
theorem State.awake.foldl {α : Type} (hp : p < 24) {f : State → α → State} (hf : ∀ w x, w.awake u p → KeepsUnit u w (f w x)) (l : List α)
    (h : s.awake u p) : KeepsUnit u s (l.foldl f s) := by
  induction l generalizing s with
  | nil => exact .refl s
  | cons x l ih => exact (hf s x h).trans (ih (h.keeps hp (hf s x h)))

theorem overList_eq_foldl (f : Nat → State → State) (l : List Nat) (s : State) : overList f l s = l.foldl (fun w i => f i w) s := by
  induction l generalizing s with
  | nil => rfl
  | cons i l ih => exact ih (f i s)

theorem exitIdle_keepsUnit (hp : p < 24) (h : s.awake u p) : KeepsUnit u s (s.exitIdle p) := by
  unfold State.exitIdle
  split
  · rename_i hidle
    exact .trans (fset_keepsUnit (tile_beside 0x10 hp (by decide) fun e => absurd hidle (h e)) _ s) (send_keepsUnit _ _)
  · exact .refl s

/-- Something of a port's record that its packets change. -/
theorem setQueue_keepsUnit {f : Port → Port} (h : ∀ q, (f q).still = q.still) (s : State) : KeepsUnit u s (s.setPort p f) :=
  setPort_keepsUnit (fun _ => h) s

theorem startPkt_keepsUnit (hp : p < 24) (q : SentPkt) (at_ : Nat) (h : s.awake u p) : KeepsUnit u s (s.startPkt p q at_) := by
  unfold State.startPkt
  extract_lets a seq bytes fin b c
  have hb : KeepsUnit u s b := ((exitIdle_keepsUnit hp h).trans (fset_keepsUnit (portReg_beside 0x4C hp (by decide) (by decide)) _ a)).trans
    (send_keepsUnit _ _)
  have hc : KeepsUnit u s c := hb.trans (setQueue_keepsUnit (fun _ => by rfl) b)
  exact .ite (hc.trans (setQueue_keepsUnit (fun _ => by rfl) c)) hc

theorem sendNow_keepsUnit (hp : p < 24) (kind : Nat) (body : List Byte) (due : Nat) (h : s.awake u p) :
    KeepsUnit u s (s.sendNow p kind body due) :=
  .ite (setQueue_keepsUnit (fun _ => by rfl) s) (startPkt_keepsUnit hp _ _ h)

theorem sendControl_keepsUnit (hp : p < 24) (kind : Nat) (body : List Byte) (h : s.awake u p) : KeepsUnit u s (s.sendControl p kind body) :=
  .ite (.refl s) (.ite (setQueue_keepsUnit (fun _ => by rfl) s) (sendNow_keepsUnit hp _ _ _ h))

theorem sendCtrl_keepsUnit (hp : p < 24) (sub : Nat) (rest : List Byte) (h : s.awake u p) : KeepsUnit u s (s.sendCtrl p sub rest) :=
  sendControl_keepsUnit hp _ _ h

theorem resendLimp_keepsUnit (hp : p < 24) (h : s.awake u p) : KeepsUnit u s (s.resendLimp p) := by
  unfold State.resendLimp
  extract_lets limps a
  have ha : KeepsUnit u s a := setQueue_keepsUnit (fun _ => by rfl) s
  exact .ite (.refl s) (ha.trans ((h.keeps hp ha).foldl hp (fun w _ hw => sendNow_keepsUnit hp _ _ _ hw) limps))

theorem sendScale_keepsUnit (hp : p < 24) (scale : Nat) (h : s.awake u p) : KeepsUnit u s (s.sendScale p scale) :=
  (sendCtrl_keepsUnit hp _ _ h).trans (setQueue_keepsUnit (fun _ => by rfl) _)

theorem sendTiming_keepsUnit (hp : p < 24) (g : Grid) (lenQ : Nat) (h : s.awake u p) : KeepsUnit u s (s.sendTiming p g lenQ) :=
  .ite (sendCtrl_keepsUnit hp _ _ h) (.refl s)

theorem totEntry_keepsUnit (hp : p < 24) (s : State) : KeepsUnit u s (s.totEntry p) :=
  .ite (.trans (send_keepsUnit _ s) (fsetb_keepsUnit (portReg_beside 0x44 hp (by decide) (by decide)) _ _)) (.refl s)

theorem resumeLate_keepsUnit (hp : p < 24) (h : s.awake u p) : KeepsUnit u s (s.resumeLate p) := by
  have hq : KeepsUnit u s (s.setPort p fun q => { q with resumeDue := false }) := setQueue_keepsUnit (fun _ => by rfl) s
  exact .ite (hq.trans (sendCtrl_keepsUnit hp _ _ (h.keeps hp hq))) (.refl s)

theorem sendEcho_keepsUnit (hp : p < 24) (h : s.awake u p) : KeepsUnit u s (sendEcho p s) := by
  unfold sendEcho
  extract_lets id
  have hq : KeepsUnit u s (s.setPort p fun q => { q with echoId := id, echoOut := q.echoOut ++ [id] }) := setQueue_keepsUnit (fun _ => by rfl) s
  exact hq.trans (sendCtrl_keepsUnit hp _ _ (h.keeps hp hq))

theorem seqRestart_keepsUnit (hp : p < 24) (h : s.awake u p) : KeepsUnit u s (s.seqRestart p) := by
  unfold State.seqRestart
  extract_lets a b
  have hseq : ∀ {f : Fld} (n : Nat) (w : State), f.addr = 0x6004C + p * 0x800 → KeepsUnit u w (w.fset f n) := fun n w hf =>
    fset_keepsUnit (by rw [hf]; exact portReg_beside 0x4C hp (by decide) (by decide)) n w
  have ha : KeepsUnit u s a := (hseq _ s rfl).trans (hseq _ _ rfl)
  have hb : KeepsUnit u s b := ha.trans (setQueue_keepsUnit (fun _ => by rfl) a)
  exact .ite hb (hb.trans (sendNow_keepsUnit hp _ _ _ (h.keeps hp hb)))

theorem configTile_keepsUnit (hp : p < 24) (h : s.awake u p) : KeepsUnit u s (s.configTile p) := by
  unfold State.configTile
  extract_lets a b c
  have ha : KeepsUnit u s a := by
    unfold a
    split
    · exact .ite (sendTiming_keepsUnit hp _ _ h) (sendTiming_keepsUnit hp _ _ h)
    · exact .refl s
  have hb : KeepsUnit u s b := ha.trans (sendScale_keepsUnit hp _ (h.keeps hp ha))
  have hc : KeepsUnit u s c := .ite hb (hb.trans (sendCtrl_keepsUnit hp _ _ (h.keeps hp hb)))
  exact .ite (.refl s) (hc.trans (sendCtrl_keepsUnit hp _ _ (h.keeps hp hc)))

/-! ### A port in ACTIVE -/

theorem setHl_keepsUnit (p : Nat) (f : Health → Health) (s : State) : KeepsUnit u s (s.setHl p f) := .of_parts rfl rfl rfl rfl

theorem pixPort_beside (hp : p < 24) : ¬ unitReg u (0x50704 + p * 0x10) := block_beside (by omega)

theorem clearMass_keepsUnit (hp : p < 24) (s : State) : KeepsUnit u s (s.clearMass p) :=
  .ite (.trans (fsetb_keepsUnit (pixPort_beside hp) _ s) (setHl_keepsUnit p _ _)) (.refl s)

theorem resetBase_keepsUnit (hp : p < 24) (c : Cap) (s : State) : KeepsUnit u s (s.resetBase p c) :=
  .trans (.trans (setHl_keepsUnit p _ s) (fsetb_keepsUnit (pixPort_beside hp) _ _)) (fsetb_keepsUnit (pixPort_beside hp) _ _)

/-- Beside its lane state, a port that comes to ACTIVE leaves its lanes. -/
theorem portActive_keepsUnit (hp : p < 24) (event : Bool) (h : (s.setLane p laneActive).awake u p) :
    KeepsUnit u (s.setLane p laneActive) (s.portActive p event) := by
  unfold State.portActive
  extract_lets a b c d e f g k
  have ha : KeepsUnit u (s.setLane p laneActive) a := laneFaultOver_keepsUnit p _
  have hb : KeepsUnit u a b := .ite (linkEvent_keepsUnit _ _ _ a) (.refl a)
  have hc : KeepsUnit u b c := .trans (setQueue_keepsUnit (fun _ => by rfl) b) (clearMass_keepsUnit hp _)
  have hd : KeepsUnit u c d := setHl_keepsUnit p _ c
  have he : KeepsUnit u d e := .ite (.refl d) (clearFault_keepsUnit 21 d)
  have hf : KeepsUnit u e f := by
    unfold f
    split
    · exact .ite (resetBase_keepsUnit hp _ e) (.refl e)
    · exact .refl e
  have hg : KeepsUnit u f g := totEntry_keepsUnit hp f
  have hlane : KeepsUnit u (s.setLane p laneActive) g := (((((ha.trans hb).trans hc).trans hd).trans he).trans hf).trans hg
  have hecho : KeepsUnit u g (overList (fun _ w => sendEcho p w) (List.range 8) g) := by
    rw [overList_eq_foldl]
    exact (h.keeps hp hlane).foldl hp (fun w _ hw => sendEcho_keepsUnit hp hw) _
  have hk : KeepsUnit u (s.setLane p laneActive) k := hlane.trans (.ite (.refl g) hecho)
  have hcfg : KeepsUnit u k (k.configTile p) := configTile_keepsUnit hp (h.keeps hp hk)
  have hres : KeepsUnit u (k.configTile p) ((k.configTile p).resumeLate p) := resumeLate_keepsUnit hp (h.keeps hp (hk.trans hcfg))
  have hall := (hk.trans hcfg).trans hres
  exact hall.trans (resendLimp_keepsUnit hp (h.keeps hp hall))

end Units
end Sys2Proof.Machine

namespace Sys2Proof.Machine

section Own

/-! ## What a unit's own operations do to its lanes -/

variable {s t : State} {u v p l m : Nat}

/-! ### Fields of a unit -/

theorem unitReg_at (k : Nat) (hu : u < 26) (hk : k < 0x40) : unitReg u (laneCtrl u + k) := .inr ⟨hu, by omega, by omega⟩

theorem laneCtrl_apart {a : Nat} (hu : u < 26) (hv : v ≠ u) (ha : a < 0x40) : ¬ unitReg v (laneCtrl u + a) := by
  unfold unitReg laneCtrl
  split <;> split <;> omega

theorem laneCtrl_tile (hp : p < 24) : laneCtrl p = 0x60000 + 0x800 * p := if_pos hp

theorem laneCtrl_link (hu : 24 ≤ u) : laneCtrl u = 0x70400 + 0x100 * (u - 24) := if_neg (by omega)

theorem stateFld_addr (u : Nat) : (stateFld u).addr = laneCtrl u + 0x10 := by
  unfold stateFld laneFld laneCtrl linkOf
  split
  · simp only [R.TILE_LANE_STATUS_STATE]; omega
  · simp only [R.TWIN_LANE_STATUS_STATE]; omega

theorem stateFld_bits (u : Nat) : (stateFld u).lo = 0 ∧ (stateFld u).width = 4 := by
  unfold stateFld laneFld
  split <;> exact ⟨rfl, rfl⟩

theorem laneOf_tile (hp : p < 24) (s : State) : s.laneOf p = s.lane p := by unfold State.laneOf; rw [stateFld_tile hp]; rfl

theorem laneOf_fset {n : Nat} (hn : n < 16) (s : State) : (s.fset (stateFld u) n).laneOf u = n := by
  obtain ⟨hlo, hw⟩ := stateFld_bits u
  unfold State.laneOf
  rw [fget_fset_same _ _ _ (by omega), hw, Nat.mod_eq_of_lt (by omega)]

theorem laneOf_fset_addr {f : Fld} (h : f.addr ≠ laneCtrl u + 0x10) (n : Nat) (s : State) : (s.fset f n).laneOf u = s.laneOf u :=
  fget_fset_addr _ _ _ _ (by rw [stateFld_addr]; exact h.symm)

/-- A field of LANE_STATUS lies above STATE. -/
def Fld.aboveState (f : Fld) : Bool := decide (4 ≤ f.lo) && f.fits

theorem Fld.aboveState.places {f : Fld} (h : f.aboveState = true) :
    f.beside (stateFld u) = true ∧ (stateFld u).beside f = true ∧ f.fits = true ∧ (stateFld u).fits = true := by
  obtain ⟨hlo', hw⟩ := stateFld_bits u
  obtain ⟨hlo, hf⟩ := Bool.and_eq_true_iff.1 h
  have hle := of_decide_eq_true hlo
  unfold Fld.beside
  exact ⟨Bool.or_eq_true_iff.2 (.inr (decide_eq_true (by omega))), Bool.or_eq_true_iff.2 (.inl (decide_eq_true (by omega))), hf,
    decide_eq_true (by omega)⟩

theorem laneOf_fset_above {f : Fld} (h : f.aboveState = true) (n : Nat) (s : State) : (s.fset f n).laneOf u = s.laneOf u := by
  obtain ⟨hb, -, hf, hst⟩ := Fld.aboveState.places (u := u) h
  exact fget_fset_beside _ _ _ _ hb hf hst

theorem fset_state_above {f : Fld} (h : f.aboveState = true) (n : Nat) (s : State) : (s.fset (stateFld u) n).fget f = s.fget f := by
  obtain ⟨-, hb, hf, hst⟩ := Fld.aboveState.places (u := u) h
  exact fget_fset_beside _ _ _ _ hb hst hf

theorem KeepsUnit.laneOf (h : KeepsUnit u s t) (hu : u < 26) : t.laneOf u = s.laneOf u :=
  h.fget _ (by rw [stateFld_addr]; exact unitReg_at 0x10 hu (by decide))

/-- Only registers that a test picks change. -/
abbrev OnlyRegs := Within fun _ => ({} : State)

/-- LANE_STATUS of a unit, and what lies beyond its lanes. -/
abbrev statusReg (u a : Nat) : Prop := a = laneCtrl u + 0x10 ∨ ¬ unitReg u a

/-- LANE_STATUS and PRBS_STAT of a unit, and what lies beyond its lanes. -/
abbrev trainReg (u a : Nat) : Prop := a = laneCtrl u + 0x28 ∨ statusReg u a

theorem KeepsUnit.onlyRegs (h : KeepsUnit u s t) : OnlyRegs (fun a => ¬ unitReg u a) s t := ⟨rfl, fun a ha => h.rd a (not_not.1 ha)⟩

theorem KeepsUnit.status (h : KeepsUnit u s t) : OnlyRegs (statusReg u) s t := h.onlyRegs.mono (fun _ => rfl) fun _ => .inr

theorem Within.train (h : OnlyRegs (statusReg u) s t) : OnlyRegs (trainReg u) s t := h.mono (fun _ => rfl) fun _ => .inr

theorem OnlyRegs.of_regs {P : Nat → Prop} (h : t.regs = s.regs) : OnlyRegs P s t := .parts rfl h

theorem setPort_onlyRegs {P : Nat → Prop} (p : Nat) (f : Port → Port) (s : State) : OnlyRegs P s (s.setPort p f) := .of_regs rfl

theorem setLink_onlyRegs {P : Nat → Prop} (l : Nat) (f : TwinLink → TwinLink) (s : State) : OnlyRegs P s (s.setLink l f) := .of_regs rfl

/-! ### Handshakes and receivers -/

/-- The unit has its record. -/
def State.recorded (s : State) (u : Nat) : Prop := if u < 24 then u < s.ports.length else linkOf u < s.twin.links.length

theorem shape_ports (h : s.shape) : s.ports.length = 24 := h.2.2.1

theorem shape_links (h : s.shape) : s.twin.links.length = 2 := by
  obtain ⟨-, -, -, -, -, -, -, -, -, -, -, hlinks, -⟩ := h
  exact hlinks

theorem recorded_of_shape (hs : s.shape) (hu : u < 26) : s.recorded u := by
  unfold State.recorded linkOf
  rw [shape_ports hs, shape_links hs]
  split <;> omega

theorem KeepsUnit.recorded (h : KeepsUnit v s t) : t.recorded u ↔ s.recorded u := by
  unfold State.recorded; rw [h.ports, h.links]

theorem KeepsUnit.hsOf (h : KeepsUnit u s t) (l : Nat) : (t.hsOf u l).still = (s.hsOf u l).still := by
  unfold State.hsOf
  split
  · exact congrArg Port.hs h.port
  · have hlink := h.link (by omega)
    split
    · exact congrArg TwinLink.hs hlink
    · exact congrArg TwinLink.hs1 hlink

theorem KeepsUnit.locked (h : KeepsUnit u s t) (l : Nat) : (t.hsOf u l).locked = (s.hsOf u l).locked :=
  (congrArg Handshake.locked (h.hsOf l) :)

theorem KeepsUnit.trn1Rx (h : KeepsUnit u s t) (l : Nat) : (t.hsOf u l).trn1Rx = (s.hsOf u l).trn1Rx :=
  (congrArg Handshake.trn1Rx (h.hsOf l) :)

theorem KeepsUnit.rxOf (h : KeepsUnit u s t) (l : Nat) : t.rxOf u l = s.rxOf u l := by
  unfold State.rxOf
  split
  · exact (congrArg Port.rx h.port :)
  · have hlink := h.link (by omega)
    split
    · exact (congrArg TwinLink.rx0 hlink :)
    · exact (congrArg TwinLink.rx1 hlink :)

theorem KeepsUnit.retrainTries (h : KeepsUnit u s t) : t.retrainTries u = s.retrainTries u := by
  unfold State.retrainTries
  split
  · exact (congrArg Port.retrains h.port :)
  · exact (congrArg TwinLink.retrains (h.link (by omega)) :)

theorem linkOf_add (hu : ¬ u < 24) : 24 + linkOf u = u := by unfold linkOf; omega

theorem setHs_keepsUnit {f : Handshake → Handshake} (h : u = v → ∀ q, (f q).still = q.still) (l : Nat) (s : State) :
    KeepsUnit v s (s.setHs u l f) := by
  unfold State.setHs
  split
  · exact setPort_keepsUnit (fun e q => by unfold Port.still; rw [h e]) s
  · rename_i hu
    refine setLink_keepsUnit (fun e q => ?_) s
    rw [linkOf_add hu] at e
    unfold TwinLink.still
    split
    · rw [h e]
    · rw [h e]

theorem setRx_keepsUnit (h : u ≠ v) (l : Nat) (f : Receiver → Receiver) (s : State) : KeepsUnit v s (s.setRx u l f) := by
  unfold State.setRx
  split
  · exact setPort_keepsUnit (fun e => absurd e h) s
  · rename_i hu
    exact setLink_keepsUnit (fun e => absurd (linkOf_add hu ▸ e) h) s

theorem setHs_recorded (f : Handshake → Handshake) (l : Nat) (s : State) : (s.setHs u l f).recorded v ↔ s.recorded v := by
  have h : KeepsUnit (u + 1) s (s.setHs u l f) := setHs_keepsUnit (fun e => absurd e (by omega)) l s
  exact h.recorded

theorem setRx_recorded (f : Receiver → Receiver) (l : Nat) (s : State) : (s.setRx u l f).recorded v ↔ s.recorded v := by
  have h : KeepsUnit (u + 1) s (s.setRx u l f) := setRx_keepsUnit (by omega) l f s
  exact h.recorded

/-- A unit's record, by its kind. -/
theorem State.recorded.cases (h : s.recorded u) : (u < 24 ∧ u < s.ports.length) ∨ (¬ u < 24 ∧ linkOf u < s.twin.links.length) := by
  unfold State.recorded at h
  split at h
  · exact .inl ⟨‹_›, h⟩
  · exact .inr ⟨‹_›, h⟩

theorem setHs_hsOf (h : s.recorded u) (f : Handshake → Handshake) (l : Nat) : (s.setHs u l f).hsOf u l = f (s.hsOf u l) := by
  unfold State.setHs State.hsOf
  obtain ⟨hu, hlen⟩ | ⟨hu, hlen⟩ := h.cases
  · simp only [if_pos hu, setPort_port, hlen, and_self, if_true]
  · simp only [if_neg hu, setLink_link, hlen, and_self, if_true]
    by_cases hl : l = 0
    · simp only [if_pos hl]
    · simp only [if_neg hl]

theorem setRx_rxOf (h : s.recorded u) (f : Receiver → Receiver) (l : Nat) : (s.setRx u l f).rxOf u l = f (s.rxOf u l) := by
  unfold State.setRx State.rxOf
  obtain ⟨hu, hlen⟩ | ⟨hu, hlen⟩ := h.cases
  · simp only [if_pos hu, setPort_port, hlen, and_self, if_true]
  · simp only [if_neg hu, setLink_link, hlen, and_self, if_true]
    by_cases hl : l = 0
    · simp only [if_pos hl]
    · simp only [if_neg hl]

/-- Two lanes of one unit are those of a twin link. -/
theorem lanesOf_ne (hl : l ∈ lanesOf u) (hm : m ∈ lanesOf u) (hne : m ≠ l) : ¬ u < 24 ∧ ((l = 0 ∧ m ≠ 0) ∨ (l ≠ 0 ∧ m = 0)) := by
  unfold lanesOf at hl hm
  split at hl
  · rename_i hu
    simp [hu] at hl hm
    omega
  · rename_i hu
    simp [hu] at hl hm
    omega

theorem setHs_hsOf_other (hl : l ∈ lanesOf u) (hm : m ∈ lanesOf u) (hne : m ≠ l) (f : Handshake → Handshake) (s : State) :
    (s.setHs u l f).hsOf u m = s.hsOf u m := by
  obtain ⟨hu, ⟨hl0, hm0⟩ | ⟨hl0, hm0⟩⟩ := lanesOf_ne hl hm hne
  all_goals
    unfold State.setHs State.hsOf
    simp only [if_neg hu, hl0, hm0, if_true, if_false, setLink_link]
    split <;> rfl

theorem setRx_rxOf_other (hl : l ∈ lanesOf u) (hm : m ∈ lanesOf u) (hne : m ≠ l) (f : Receiver → Receiver) (s : State) :
    (s.setRx u l f).rxOf u m = s.rxOf u m := by
  obtain ⟨hu, ⟨hl0, hm0⟩ | ⟨hl0, hm0⟩⟩ := lanesOf_ne hl hm hne
  all_goals
    unfold State.setRx State.rxOf
    simp only [if_neg hu, hl0, hm0, if_true, if_false, setLink_link]
    split <;> rfl

/-- What a change of a port's record leaves in each record. -/
theorem setPort_view {α : Type} (g : Port → α) {f : Port → Port} (h : ∀ q, g (f q) = g q) (p n : Nat) (s : State) :
    g ((s.setPort p f).port n) = g (s.port n) := by
  rw [setPort_port]
  split
  · exact h _
  · rfl

/-- What a change of a twin link's record leaves in each record. -/
theorem setLink_view {α : Type} (g : TwinLink → α) {f : TwinLink → TwinLink} (h : ∀ q, g (f q) = g q) (l n : Nat) (s : State) :
    g (nth (s.setLink l f).twin.links n) = g (nth s.twin.links n) := by
  rw [setLink_link]
  split
  · exact h _
  · rfl

theorem setHs_rxOf (f : Handshake → Handshake) (l : Nat) (s : State) : (s.setHs u l f).rxOf u m = s.rxOf u m := by
  unfold State.setHs State.rxOf
  by_cases hu : u < 24
  · simp only [if_pos hu]
    exact setPort_view Port.rx (fun _ => by rfl) u u s
  · simp only [if_neg hu]
    congr 1
    · exact setLink_view TwinLink.rx0 (fun _ => by split <;> rfl) _ _ s
    · exact setLink_view TwinLink.rx1 (fun _ => by split <;> rfl) _ _ s

theorem setRx_hsOf (f : Receiver → Receiver) (l : Nat) (s : State) : (s.setRx u l f).hsOf u m = s.hsOf u m := by
  unfold State.setRx State.hsOf
  by_cases hu : u < 24
  · simp only [if_pos hu]
    exact setPort_view Port.hs (fun _ => by rfl) u u s
  · simp only [if_neg hu]
    congr 1
    · exact setLink_view TwinLink.hs (fun _ => by split <;> rfl) _ _ s
    · exact setLink_view TwinLink.hs1 (fun _ => by split <;> rfl) _ _ s

end Own
end Sys2Proof.Machine

namespace Sys2Proof.Machine

section Entries

/-! ## Entry into a lane state -/

variable {s t w : State} {u v p l m : Nat}

/-! ### What leaves every unit -/

theorem sendTrn_keepsUnit (u l : Nat) (s : State) : KeepsUnit v s (s.sendTrn u l) := by
  unfold State.sendTrn
  extract_lets kind a
  have ha : KeepsUnit v s a := setHs_keepsUnit (fun _ q => by split <;> rfl) l s
  exact .ite (.refl s) (ha.trans (send_keepsUnit _ _))

theorem startTrn_keepsUnit (u : Nat) (s : State) : KeepsUnit v s (s.startTrn u) := by
  unfold State.startTrn
  extract_lets a
  have ha : KeepsUnit v s a := .ite (setPort_keepsUnit (fun _ _ => by rfl) s) (setLink_keepsUnit (fun _ _ => by rfl) s)
  exact ha.trans (.foldl _ _ (fun w l _ => sendTrn_keepsUnit u l w) a)

theorem twinFresh_keepsUnit (s : State) : KeepsUnit v s s.twinFresh := .ite (.of_parts rfl rfl rfl rfl) (.refl s)

/-- Beside STATE, an entry into a lane state leaves every unit. -/
theorem setLane_keepsUnit (u st : Nat) (s : State) : KeepsUnit v (s.fset (stateFld u) st) (s.setLane u st) := by
  unfold State.setLane
  extract_lets a b
  refine .ite (.refl a) ?_
  have hb : KeepsUnit v a b := .ite ((setLink_keepsUnit (fun _ _ => by rfl) a).trans (twinFaultOver_keepsUnit _))
    (.ite (setLink_keepsUnit (fun _ _ => by rfl) a) (.refl a))
  exact hb.trans (fset_keepsUnit links_beside _ b)

/-! ### STATE -/

/-- A register of a unit leaves each other unit. -/
theorem fset_apart {f : Fld} {k : Nat} (hu : u < 26) (hv : v ≠ u) (hf : f.addr = laneCtrl u + k) (hk : k < 0x40) (n : Nat) (s : State) :
    KeepsUnit v s (s.fset f n) := fset_keepsUnit (by rw [hf]; exact laneCtrl_apart hu hv hk) n s

theorem setLane_apart (hu : u < 26) (hv : v ≠ u) (st : Nat) (s : State) : KeepsUnit v s (s.setLane u st) :=
  (fset_apart hu hv (stateFld_addr u) (by decide) st s).trans (setLane_keepsUnit u st s)

theorem setLane_laneOf {n : Nat} (hu : u < 26) (hn : n < 16) (s : State) : (s.setLane u n).laneOf u = n :=
  ((setLane_keepsUnit u n s).laneOf hu).trans (laneOf_fset hn s)

theorem setLane_status (st : Nat) (s : State) : OnlyRegs (statusReg u) s (s.setLane u st) :=
  ((Within.refl s).fset (.inl (stateFld_addr u))).trans (setLane_keepsUnit u st s).status

/-- A field of LANE_STATUS beside STATE. -/
theorem setLane_beside {f : Fld} (hu : u < 26) (ha : f.addr = laneCtrl u + 0x10) (h : f.aboveState = true) (st : Nat) (s : State) :
    (s.setLane u st).fget f = s.fget f :=
  ((setLane_keepsUnit u st s).fget f (by rw [ha]; exact unitReg_at 0x10 hu (by decide))).trans (fset_state_above h st s)

/-! ### Fields by kind of unit -/

theorem laneFld_addr {f g : Nat → Fld} {k : Nat} (hf : ∀ n, (f n).addr = 0x60000 + k + n * 0x800)
    (hg : ∀ n, (g n).addr = 0x70400 + k + n * 0x100) : (laneFld u f g).addr = laneCtrl u + k := by
  unfold laneFld laneCtrl linkOf
  split
  · rw [hf]; omega
  · rw [hg]; omega

theorem laneFld_fits {f g : Nat → Fld} (hf : ∀ n, (f n).fits = true) (hg : ∀ n, (g n).fits = true) : (laneFld u f g).fits = true := by
  unfold laneFld
  split
  · exact hf _
  · exact hg _

theorem retrainsFld_addr (u : Nat) : (retrainsFld u).addr = laneCtrl u + 0x18 := laneFld_addr (fun _ => rfl) fun _ => rfl
theorem timeoutsFld_addr (u : Nat) : (timeoutsFld u).addr = laneCtrl u + 0x18 := laneFld_addr (fun _ => rfl) fun _ => rfl
theorem rateFailsFld_addr (u : Nat) : (rateFailsFld u).addr = laneCtrl u + 0x18 := laneFld_addr (fun _ => rfl) fun _ => rfl
theorem retrainsFld_fits (u : Nat) : (retrainsFld u).fits = true := laneFld_fits (fun _ => rfl) fun _ => rfl
theorem timeoutsFld_fits (u : Nat) : (timeoutsFld u).fits = true := laneFld_fits (fun _ => rfl) fun _ => rfl
theorem rateFailsFld_fits (u : Nat) : (rateFailsFld u).fits = true := laneFld_fits (fun _ => rfl) fun _ => rfl

/-- A register of a unit that lies apart from LANE_STATUS. -/
theorem not_statusReg {k : Nat} (hu : u < 26) (hk : k < 0x40) (h : k ≠ 0x10) : ¬ statusReg u (laneCtrl u + k) := by
  rintro (ha | ha)
  · omega
  · exact ha (unitReg_at k hu hk)

/-- A register of a unit that lies apart from LANE_STATUS and PRBS_STAT. -/
theorem not_trainReg {k : Nat} (hu : u < 26) (hk : k < 0x40) (h : k ≠ 0x10) (h' : k ≠ 0x28) : ¬ trainReg u (laneCtrl u + k) := by
  rintro (ha | ha)
  · omega
  · exact not_statusReg hu hk h ha

/-! ### Entry into TRAIN -/

/-- Another unit's record. -/
theorem setPort_apart {f : Port → Port} (h : v ≠ p) (s : State) : KeepsUnit v s (s.setPort p f) := setPort_keepsUnit (fun e => absurd e.symm h) s

theorem setLink_apart {f : TwinLink → TwinLink} (hu : ¬ u < 24) (h : v ≠ u) (s : State) : KeepsUnit v s (s.setLink (linkOf u) f) :=
  setLink_keepsUnit (fun e => absurd (linkOf_add hu ▸ e).symm h) s

theorem lane_awake {n : Nat} (hp : p < 24) (h : s.laneOf p = n) (hn : n ≠ laneIdle) : s.awake u p := fun _ => by
  rw [← laneOf_tile hp, h]; exact hn

/-- A field of a tile port's lanes, by its place in their registers. -/
theorem tile_addr {f : Fld} {k : Nat} (hp : p < 24) (h : f.addr = 0x60000 + k + p * 0x800) : f.addr = laneCtrl p + k := by
  rw [h, laneCtrl_tile hp]; omega

/-- A field of a twin link's lanes, by its place in their registers. -/
theorem link_addr {f : Fld} {k : Nat} (hu : ¬ u < 24) (h : f.addr = 0x70400 + k + linkOf u * 0x100) : f.addr = laneCtrl u + k := by
  rw [h, laneCtrl_link (by omega)]; unfold linkOf; omega

/-- A port in TRAIN: its registers, before its numbers or its training sets start. -/
def State.portTrained (s : State) (p : Nat) : State :=
  let a := (s.setLane p laneTrain).setPort p (Port.toTrain (s.fget (R.TILE_LANE_STATUS_UP_RATE p) == 0))
  let a := (a.fset (R.TILE_LANE_STATUS_DN_RATE p) (b2n (a.legacy p))).fset (R.TILE_LANE_STATUS_UP_RATE p) 0
  let a := (a.fsetb (R.TILE_LANE_STATUS_UP_IDLE p) false).fsetb (R.TILE_PRBS_STAT_RUNNING p) false
  a.fsetb (R.TILE_PROTO_STATUS_TOTALITY_TX p) false

theorem portTrain_eq (s : State) (p : Nat) :
    s.portTrain p = if (s.portTrained p).legacy p then (s.portTrained p).seqRestart p else (s.portTrained p).startTrn p := rfl

theorem portTrained_lane (hp : p < 24) (s : State) : (s.portTrained p).laneOf p = laneTrain := by
  unfold State.portTrained
  extract_lets a b c
  have ha : a.laneOf p = laneTrain := setLane_laneOf (by omega) (by decide) s
  have hb : b.laneOf p = laneTrain := (laneOf_fset_above rfl _ _).trans ((laneOf_fset_above rfl _ _).trans ha)
  have hc : c.laneOf p = laneTrain := (laneOf_fset_addr (by rw [tile_addr hp rfl (k := 0x28)]; omega) _ _).trans ((laneOf_fset_above rfl _ _).trans hb)
  exact (laneOf_fset_addr (by rw [tile_addr hp rfl (k := 0x44)]; omega) _ _).trans hc

theorem portTrained_rate (hp : p < 24) (s : State) : (s.portTrained p).fget (R.TILE_LANE_STATUS_DN_RATE p) = b2n (s.legacy p) := by
  unfold State.portTrained
  extract_lets a b c
  have ha : a.legacy p = s.legacy p := (setLane_status laneTrain s).fbit _
    (by rw [show (R.TILE_LANE_CTRL_LEGACY p).addr = laneCtrl p + 0 from tile_addr hp rfl]; exact not_statusReg (by omega) (by decide) (by decide))
  have hb : b.fget (R.TILE_LANE_STATUS_DN_RATE p) = b2n (s.legacy p) := by
    unfold b
    rw [fget_fset_beside _ _ _ _ (by rfl) (by rfl) (by rfl), fget_fset_self _ _ _ (by rfl), ha]
    cases s.legacy p <;> rfl
  have hc : c.fget (R.TILE_LANE_STATUS_DN_RATE p) = b2n (s.legacy p) := by
    unfold c State.fsetb
    rw [fget_fset_addr _ _ _ _ (by simp only [R.TILE_LANE_STATUS_DN_RATE, R.TILE_PRBS_STAT_RUNNING]; omega), fget_fset_beside _ _ _ _ (by rfl) (by rfl) (by rfl), hb]
  unfold State.fsetb
  rw [fget_fset_addr _ _ _ _ (by simp only [R.TILE_LANE_STATUS_DN_RATE, R.TILE_PROTO_STATUS_TOTALITY_TX]; omega), hc]

theorem portTrained_regs (hp : p < 24) (s : State) : OnlyRegs (trainReg p) s (s.portTrained p) := by
  have hstat : ∀ {f : Fld}, f.addr = 0x60000 + 0x10 + p * 0x800 → trainReg p f.addr := fun h => .inr (.inl (tile_addr hp h))
  have hport : OnlyRegs (trainReg p) s ((s.setLane p laneTrain).setPort p (Port.toTrain (s.fget (R.TILE_LANE_STATUS_UP_RATE p) == 0))) :=
    (setLane_status laneTrain s).train.trans (OnlyRegs.of_regs rfl)
  exact ((((hport.fset (hstat rfl)).fset (hstat rfl)).fsetb (hstat rfl)).fsetb (.inl (tile_addr hp rfl))).fsetb
    (.inr (.inr (portReg_beside 0x44 hp (by decide) (by decide))))

theorem portTrain_keeps (hp : p < 24) (s : State) : KeepsUnit v (s.portTrained p) (s.portTrain p) := by
  rw [portTrain_eq]
  exact .ite (seqRestart_keepsUnit hp (lane_awake hp (portTrained_lane hp s) (by decide))) (startTrn_keepsUnit p _)

/-- A register of a port leaves each other unit. -/
theorem tile_fset_apart {f : Fld} (hp : p < 24) (hv : v ≠ p) (k n : Nat) (w : State) (hf : f.addr = 0x60000 + k + p * 0x800) (hk : k < 0x800) :
    KeepsUnit v w (w.fset f n) := fset_keepsUnit (by rw [hf]; exact tile_beside k hp hk fun e => absurd e.symm hv) n w

theorem portTrained_apart (hp : p < 24) (hv : v ≠ p) (s : State) : KeepsUnit v s (s.portTrained p) := by
  unfold State.portTrained
  extract_lets a b c
  have ha : KeepsUnit v s a := (setLane_apart (by omega) hv _ s).trans (setPort_apart hv _)
  have hb : KeepsUnit v a b := (tile_fset_apart hp hv 0x10 _ a rfl (by decide)).trans (tile_fset_apart hp hv 0x10 _ _ rfl (by decide))
  have hc : KeepsUnit v b c := (tile_fset_apart hp hv 0x10 _ b rfl (by decide)).trans (tile_fset_apart hp hv 0x28 _ _ rfl (by decide))
  exact ((ha.trans hb).trans hc).trans (tile_fset_apart hp hv 0x44 _ c rfl (by decide))

/-- A twin link in TRAIN: its registers, before its training sets start. -/
def State.linkTrained (s : State) (u : Nat) : State :=
  let t := linkOf u
  let a := (s.setLane u laneTrain).setLink t (TwinLink.toTrain (s.fget (R.TWIN_LANE_STATUS_RATE t) == 0))
  let a := (a.fset (R.TWIN_LANE_STATUS_RATE t) 0).fsetb (R.TWIN_LANE_STATUS_DESKEWED t) false
  (a.fsetb (R.TWIN_PRBS_STAT_RUNNING t) false).twinFresh

theorem linkTrain_eq (s : State) (u : Nat) : s.linkTrain u = (s.linkTrained u).startTrn u := rfl

/-- What a twin link's entry into TRAIN leaves and sets of its registers. -/
theorem linkTrained_acts (hu : u < 26) (hl : ¬ u < 24) (s : State) :
    (s.linkTrained u).laneOf u = laneTrain ∧ OnlyRegs (trainReg u) s (s.linkTrained u)
      ∧ (s.linkTrained u).fbit (R.TWIN_PRBS_STAT_RUNNING (linkOf u)) = false
      ∧ (s.linkTrained u).fget (R.TWIN_PRBS_STAT_DONE (linkOf u)) = s.fget (R.TWIN_PRBS_STAT_DONE (linkOf u)) := by
  have hstat : ∀ {f : Fld}, f.addr = 0x70400 + 0x10 + linkOf u * 0x100 → trainReg u f.addr := fun h => .inr (.inl (link_addr hl h))
  have hprbs : ∀ {f : Fld}, f.addr = 0x70400 + 0x28 + linkOf u * 0x100 → ¬ statusReg u f.addr := fun h => by
    rw [link_addr hl h]; exact not_statusReg hu (by decide) (by decide)
  unfold State.linkTrained
  extract_lets _ a b
  have ha : OnlyRegs (statusReg u) s a := (setLane_status laneTrain s).trans (OnlyRegs.of_regs rfl)
  have hb : OnlyRegs (statusReg u) s b := (ha.fset (.inl (link_addr hl rfl))).fsetb (.inl (link_addr hl rfl))
  have hc : KeepsUnit u (b.fsetb (R.TWIN_PRBS_STAT_RUNNING (linkOf u)) false) (b.fsetb (R.TWIN_PRBS_STAT_RUNNING (linkOf u)) false).twinFresh :=
    twinFresh_keepsUnit _
  have hcreg : ∀ {f : Fld}, f.addr = 0x70400 + 0x28 + linkOf u * 0x100 → unitReg u f.addr := fun h => by
    rw [link_addr hl h]; exact unitReg_at 0x28 hu (by decide)
  refine ⟨?_, (hb.train.fsetb (.inl (link_addr hl rfl))).trans hc.status.train, ?_, ?_⟩
  · have hstate : a.laneOf u = laneTrain := setLane_laneOf hu (by decide) s
    rw [hc.laneOf hu]
    exact (laneOf_fset_addr (by rw [link_addr hl rfl (k := 0x28)]; omega) _ _).trans
      ((laneOf_fset_above rfl _ _).trans ((laneOf_fset_above rfl _ _).trans hstate))
  · rw [hc.fbit _ (hcreg rfl)]
    exact fbit_fsetb_self _ _ _ rfl rfl
  · rw [hc.fget _ (hcreg rfl), ← hb.fget _ (hprbs rfl)]
    exact fget_fset_beside _ _ _ _ rfl rfl rfl

theorem KeepsUnit.limit (h : KeepsUnit u s t) (hl : ¬ u < 24) :
    (nth t.twin.links (linkOf u)).limit = (nth s.twin.links (linkOf u)).limit := (congrArg TwinLink.limit (h.link (by omega)) :)

/-- A twin link's limit stays on its entry into TRAIN. -/
theorem linkTrained_limit (hl : ¬ u < 24) (s : State) :
    (nth (s.linkTrained u).twin.links (linkOf u)).limit = (nth s.twin.links (linkOf u)).limit := by
  unfold State.linkTrained
  extract_lets _ a b
  have ha : (nth a.twin.links (linkOf u)).limit = (nth s.twin.links (linkOf u)).limit :=
    (setLink_view TwinLink.limit (fun _ => by rfl) _ _ _).trans ((setLane_keepsUnit u laneTrain s).limit hl)
  exact ((twinFresh_keepsUnit (v := u) _).limit hl).trans ha

theorem linkTrained_apart (hu : u < 26) (hl : ¬ u < 24) (hv : v ≠ u) (s : State) : KeepsUnit v s (s.linkTrained u) := by
  have hset : ∀ {f : Fld} (k n : Nat) (w : State), f.addr = 0x70400 + k + linkOf u * 0x100 → k < 0x40 → KeepsUnit v w (w.fset f n) := fun k n w hf hk =>
    fset_apart hu hv (link_addr hl hf) hk n w
  unfold State.linkTrained
  extract_lets _ a b
  have ha : KeepsUnit v s a := (setLane_apart hu hv _ s).trans (setLink_apart hl hv _)
  have hb : KeepsUnit v a b := (hset 0x10 _ a rfl (by decide)).trans (hset 0x10 _ _ rfl (by decide))
  exact ((ha.trans hb).trans (hset 0x28 _ b rfl (by decide))).trans (twinFresh_keepsUnit _)

/-! ### Either kind -/

theorem enterTrain_laneOf (hu : u < 26) (s : State) : (s.enterTrain u).laneOf u = laneTrain := by
  unfold State.enterTrain
  split
  · rename_i hp
    rw [(portTrain_keeps hp s).laneOf hu, portTrained_lane hp]
  · rename_i hl
    rw [linkTrain_eq, (startTrn_keepsUnit u _).laneOf hu, (linkTrained_acts hu hl s).1]

theorem enterTrain_regs (hu : u < 26) (s : State) : OnlyRegs (trainReg u) s (s.enterTrain u) := by
  unfold State.enterTrain
  split
  · rename_i hp
    exact (portTrained_regs hp s).trans (portTrain_keeps hp s).status.train
  · rename_i hl
    exact (linkTrained_acts hu hl s).2.1.trans (startTrn_keepsUnit u _).status.train

theorem enterTrain_apart (hu : u < 26) (hv : v ≠ u) (s : State) : KeepsUnit v s (s.enterTrain u) := by
  unfold State.enterTrain
  split
  · rename_i hp
    exact (portTrained_apart hp hv s).trans (portTrain_keeps hp s)
  · rename_i hl
    exact (linkTrained_apart hu hl hv s).trans (startTrn_keepsUnit u _)

theorem enterTrain_limit (hl : ¬ u < 24) (s : State) :
    (nth (s.enterTrain u).twin.links (linkOf u)).limit = (nth s.twin.links (linkOf u)).limit := by
  rw [State.enterTrain, if_neg hl, linkTrain_eq]
  exact ((startTrn_keepsUnit (v := u) u _).limit hl).trans (linkTrained_limit hl s)

/-! ### Entry into RETRAIN -/

/-- Handshakes of one unit change no register. -/
theorem setHs_regs (u l : Nat) (f : Handshake → Handshake) (s : State) : (s.setHs u l f).regs = s.regs := by
  unfold State.setHs
  split <;> rfl

theorem setRx_regs (u l : Nat) (f : Receiver → Receiver) (s : State) : (s.setRx u l f).regs = s.regs := by
  unfold State.setRx
  split <;> rfl

theorem foldl_regs {α : Type} {f : State → α → State} (hf : ∀ w x, (f w x).regs = w.regs) (l : List α) (s : State) :
    (l.foldl f s).regs = s.regs := foldl_rel (R := fun s t => t.regs = s.regs) (fun _ => rfl) (fun h k => k.trans h) f l (fun w x _ => hf w x) s

/-- A unit in RETRAIN, before its training sets start. -/
def State.retrained (s : State) (u : Nat) : State :=
  let a := if decide (u < 24) && s.laneOf u == laneIdle then s.send (.exitBurst u) else s
  let b := (lanesOf u).foldl (fun w l => w.setHs u l fun _ => { locked := (w.rxOf u l).locked }) (a.setLane u laneRetrain)
  if u < 24 then
    ((b.setPort u Port.toRetrain).fsetb (R.TILE_PROTO_STATUS_TOTALITY_TX u) false).fsetb (R.TILE_LANE_STATUS_UP_IDLE u) false
  else b.setLink (linkOf u) fun q => { q with retrains := 1 }

theorem enterRetrain_eq (s : State) (u : Nat) : s.enterRetrain u = (s.retrained u).startTrn u := rfl

theorem OnlyRegs.laneOf {P : Nat → Prop} (h : OnlyRegs P s t) (hP : ¬ P (laneCtrl u + 0x10)) : t.laneOf u = s.laneOf u :=
  h.fget _ (by rw [stateFld_addr]; exact hP)

/-- What an entry into RETRAIN leaves and sets of a unit's registers. -/
theorem retrained_acts (hu : u < 26) (s : State) :
    (s.retrained u).laneOf u = laneRetrain ∧ OnlyRegs (statusReg u) s (s.retrained u)
      ∧ (u < 24 → (s.retrained u).fbit (R.TILE_LANE_STATUS_UP_IDLE u) = false)
      ∧ (¬ u < 24 → (s.retrained u).rd (laneCtrl u + 0x10) = (s.setLane u laneRetrain).rd (laneCtrl u + 0x10)) := by
  unfold State.retrained
  extract_lets a b
  have ha : KeepsUnit u s a := .ite (send_keepsUnit _ s) (.refl s)
  have hbr : b.regs = (a.setLane u laneRetrain).regs := foldl_regs (fun _ _ => setHs_regs _ _ _ _) _ _
  have hb : OnlyRegs (statusReg u) s b := (ha.status.trans (setLane_status laneRetrain a)).trans (OnlyRegs.of_regs hbr)
  have hlane : b.laneOf u = laneRetrain := by
    rw [show b.laneOf u = (a.setLane u laneRetrain).laneOf u by unfold State.laneOf State.fget State.rd; rw [hbr]]
    exact setLane_laneOf hu (by decide) a
  split
  · rename_i hp
    have hport : OnlyRegs (statusReg u) s (b.setPort u Port.toRetrain) := hb.trans (OnlyRegs.of_regs rfl)
    refine ⟨?_, (hport.fsetb (.inr (portReg_beside 0x44 hp (by decide) (by decide)))).fsetb (.inl (tile_addr hp rfl)), fun _ => ?_, fun h => absurd hp h⟩
    · exact (laneOf_fset_above rfl _ _).trans ((laneOf_fset_addr (by rw [tile_addr hp rfl (k := 0x44)]; omega) _ _).trans hlane)
    · exact fbit_fsetb_self _ _ _ rfl rfl
  · rename_i hp
    refine ⟨hlane, hb.trans (OnlyRegs.of_regs rfl), fun h => absurd h hp, fun _ => ?_⟩
    have ha' : a = s := by unfold a; rw [decide_eq_false hp]; rfl
    show b.rd _ = _
    unfold State.rd
    rw [hbr, ha']

theorem retrained_apart (hu : u < 26) (hv : v ≠ u) (s : State) : KeepsUnit v s (s.retrained u) := by
  unfold State.retrained
  extract_lets a b
  have ha : KeepsUnit v s a := .ite (send_keepsUnit _ s) (.refl s)
  have hb : KeepsUnit v s b := (ha.trans (setLane_apart hu hv _ a)).trans
    (.foldl _ _ (fun w l _ => setHs_keepsUnit (fun e => absurd e.symm hv) l w) _)
  split
  · rename_i hp
    exact ((hb.trans (setPort_apart hv b)).trans (tile_fset_apart hp hv 0x44 _ _ rfl (by decide))).trans (tile_fset_apart hp hv 0x10 _ _ rfl (by decide))
  · rename_i hp
    exact hb.trans (setLink_apart hp hv b)

theorem enterRetrain_laneOf (hu : u < 26) (s : State) : (s.enterRetrain u).laneOf u = laneRetrain := by
  rw [enterRetrain_eq, (startTrn_keepsUnit u _).laneOf hu, (retrained_acts hu s).1]

theorem enterRetrain_regs (hu : u < 26) (s : State) : OnlyRegs (statusReg u) s (s.enterRetrain u) :=
  (retrained_acts hu s).2.1.trans (startTrn_keepsUnit u _).status

theorem enterRetrain_apart (hu : u < 26) (hv : v ≠ u) (s : State) : KeepsUnit v s (s.enterRetrain u) :=
  (retrained_apart hu hv s).trans (startTrn_keepsUnit u _)

theorem enterRetrain_upIdle (hp : p < 24) (s : State) : (s.enterRetrain p).fbit (R.TILE_LANE_STATUS_UP_IDLE p) = false := by
  rw [enterRetrain_eq, (startTrn_keepsUnit p _).fbit _ (tile_unitReg 0x10 hp (by decide))]
  exact (retrained_acts (by omega) s).2.2.1 hp

/-- A twin link's entry into RETRAIN leaves what LANE_STATUS shows beside STATE. -/
theorem enterRetrain_link {f : Fld} (hu : u < 26) (hl : ¬ u < 24) (ha : f.addr = laneCtrl u + 0x10) (h : f.aboveState = true) (s : State) :
    (s.enterRetrain u).fget f = s.fget f := by
  rw [enterRetrain_eq, (startTrn_keepsUnit u _).fget f (by rw [ha]; exact unitReg_at 0x10 hu (by decide)), ← setLane_beside hu ha h laneRetrain s]
  unfold State.fget
  rw [ha, (retrained_acts hu s).2.2.2 hl]

end Entries
end Sys2Proof.Machine

namespace Sys2Proof.Machine

section Losses

/-! ## A unit that loses lock -/

variable {s t w : State} {u v p l m : Nat}

theorem linkWatch_acts (u : Nat) (s : State) : KeepsUnit v s (if u < 24 then s else s.linkWatch) := .ite (.refl s) (linkWatch_keepsUnit s)

theorem loseActive_laneOf (hu : u < 26) (s : State) : (s.loseActive u).laneOf u = laneRetrain := by
  unfold State.loseActive
  extract_lets a b
  rw [(linkWatch_acts u b).laneOf hu]
  exact enterRetrain_laneOf hu _

theorem loseActive_counts (hu : u < 26) (s : State) :
    (s.loseActive u).fget (retrainsFld u) = min (2 ^ (retrainsFld u).width - 1) (s.fget (retrainsFld u) + 1) := by
  have hreg : unitReg u (retrainsFld u).addr := by rw [retrainsFld_addr]; exact unitReg_at 0x18 hu (by decide)
  unfold State.loseActive
  extract_lets a b
  rw [(linkWatch_acts u b).fget _ hreg]
  unfold b
  rw [(enterRetrain_regs hu _).fget _ (by rw [retrainsFld_addr]; exact not_statusReg hu (by decide) (by decide)),
    (unitEvent_keepsUnit u 2 _ a).fget _ hreg]
  exact fget_fadd_one s _ (of_decide_eq_true (retrainsFld_fits u))

theorem loseActive_apart (hu : u < 26) (hv : v ≠ u) (s : State) : KeepsUnit v s (s.loseActive u) := by
  unfold State.loseActive
  extract_lets a b
  have ha : KeepsUnit v s a := fset_apart hu hv (retrainsFld_addr u) (by decide) _ s
  have hb : KeepsUnit v a b := (unitEvent_keepsUnit u 2 _ a).trans (enterRetrain_apart hu hv _)
  exact (ha.trans hb).trans (linkWatch_acts u b)

/-! ### Locks -/

theorem dropLocks_regs (u : Nat) (ls : List Nat) (s : State) : (s.dropLocks u ls).regs = s.regs :=
  foldl_regs (fun _ _ => (setHs_regs _ _ _ _).trans (setRx_regs _ _ _ _)) ls s

theorem dropLocks_laneOf (u : Nat) (ls : List Nat) (s : State) : (s.dropLocks u ls).laneOf v = s.laneOf v := by
  unfold State.laneOf State.fget State.rd
  rw [dropLocks_regs]

theorem dropLocks_fget (u : Nat) (ls : List Nat) (s : State) (f : Fld) : (s.dropLocks u ls).fget f = s.fget f := by
  unfold State.fget State.rd
  rw [dropLocks_regs]

theorem dropLocks_apart (hv : v ≠ u) (ls : List Nat) (s : State) : KeepsUnit v s (s.dropLocks u ls) :=
  .foldl _ _ (fun w l _ => (setRx_keepsUnit hv.symm l _ w).trans (setHs_keepsUnit (fun e => absurd e.symm hv) l _)) s

/-! ### Lock lost -/

theorem lockLost_linked (hu : u < 26) (ls : List Nat) (h : s.laneOf u = laneLinked) : (s.lockLost u ls).laneOf u = laneTrain := by
  unfold State.lockLost
  extract_lets st a
  rw [if_pos h]
  exact enterTrain_laneOf hu a

theorem lockLost_up (ls : List Nat) (h : laneIsUp (s.laneOf u) = true) : s.lockLost u ls = (s.dropLocks u ls).loseActive u := by
  have hne : s.laneOf u ≠ laneLinked := fun e => by rw [e] at h; exact absurd h (by decide)
  unfold State.lockLost
  extract_lets st a
  rw [if_neg hne, if_pos h]

theorem lockLost_trains (ls : List Nat) (h : laneTrains (s.laneOf u) = true) :
    s.lockLost u ls = ls.foldl (fun w l => w.sendTrn u l) (s.dropLocks u ls) := by
  have hne : s.laneOf u ≠ laneLinked := fun e => by rw [e] at h; exact absurd h (by decide)
  have hup : ¬ laneIsUp (s.laneOf u) = true := by
    unfold laneTrains at h
    simp only [Bool.or_eq_true, beq_iff_eq] at h
    obtain (h | h) | h := h <;> rw [h] <;> decide
  unfold State.lockLost
  extract_lets st a
  rw [if_neg hne, if_neg hup, if_pos h]

theorem lockLost_beside (ls : List Nat) (hl : s.laneOf u ≠ laneLinked) (hup : laneIsUp (s.laneOf u) = false) (ht : laneTrains (s.laneOf u) = false) :
    s.lockLost u ls = s.dropLocks u ls := by
  unfold State.lockLost
  extract_lets st a
  rw [if_neg hl, if_neg (by rw [hup]; decide), if_neg (by rw [ht]; decide)]

theorem lockLost_apart (hu : u < 26) (hv : v ≠ u) (ls : List Nat) (s : State) : KeepsUnit v s (s.lockLost u ls) := by
  unfold State.lockLost
  extract_lets st a
  have ha : KeepsUnit v s a := dropLocks_apart hv ls s
  refine ha.trans ?_
  exact .ite (enterTrain_apart hu hv a) (.ite (loseActive_apart hu hv a) (.ite (.foldl _ _ (fun w l _ => sendTrn_keepsUnit u l w) a) (.refl a)))

end Losses

section Commands

/-! ## Commands of a unit -/

variable {s t w : State} {u v p l m : Nat}

/-- The write of a register: what its effect leaves of a unit stands. -/
theorem barWrite_keepsUnit {a : Nat} (act : State → State) (h5 : s.domOn 5 = true) (hb : s.blockOff a = false) :
    KeepsUnit v (act s) (s.after (s.barWrite a act)) := by
  rw [barWrite_on s a act h5 hb]
  exact (idleRestart_keepsUnit (act s)).trans (after_keepsUnit s _)

/-- A write without an effect of its own restarts the idle timer. -/
theorem barWrite_none {a : Nat} {act : State → State} (h5 : s.domOn 5 = true) (hb : s.blockOff a = false) (h : act s = s) :
    s.barWrite a act = s.idleRestart := by rw [barWrite_on s a act h5 hb, h]

theorem portOn_of_blockOff {k : Nat} (hp : p < 24) (hk : k < 0x800) (h : s.blockOff (0x60000 + k + 0x800 * p) = false) : s.portOn p = true := by
  unfold State.blockOff at h
  have h6 : (0x60000 + k + 0x800 * p) / 0x10000 = 6 := by omega
  have hq : (0x60000 + k + 0x800 * p - 0x60000) / 0x800 = p := by omega
  rw [h6, hq, if_neg (by decide), Bool.or_eq_false_iff, decide_eq_true (by omega)] at h
  simpa using h.2

theorem linkOn_of_blockOff {a : Nat} (ha : a / 0x10000 = 7) (h : s.blockOff a = false) : s.domOn 8 = true := by
  unfold State.blockOff ownerDomain at h
  rw [ha] at h
  simpa using h

end Commands
end Sys2Proof.Machine

namespace Sys2Proof.Machine

section StartStop

/-! ## A lane starts and stops -/

variable {s t w : State} {u v p l m : Nat}

/-! ### EN -/

theorem fget_tile (h : KeepsUnit p s t) {f : Fld} (k : Nat) (hp : p < 24) (hf : f.addr = 0x60000 + k + p * 0x800) (hk : k < 0x40) :
    t.fget f = s.fget f := h.fget f (by rw [hf]; exact tile_unitReg k hp hk)

theorem fbit_tile (h : KeepsUnit p s t) {f : Fld} (k : Nat) (hp : p < 24) (hf : f.addr = 0x60000 + k + p * 0x800) (hk : k < 0x40) :
    t.fbit f = s.fbit f := h.fbit f (by rw [hf]; exact tile_unitReg k hp hk)

theorem KeepsUnit.dnLimit (h : KeepsUnit p s t) : (t.port p).dnLimit = (s.port p).dnLimit := (congrArg Port.dnLimit h.port :)

theorem KeepsUnit.upLimit (h : KeepsUnit p s t) : (t.port p).upLimit = (s.port p).upLimit := (congrArg Port.upLimit h.port :)

theorem xLaneEnable_eq (hon : s.portOn p = true) (hpart : s.legacyPartner p = false) (hen : s.fbit (R.TILE_LANE_CTRL_EN p) = false) :
    xLaneEnable p s = ((s.fsetb (R.TILE_LANE_CTRL_EN p) true).fsetb (R.TILE_PRBS_STAT_RUNNING p) false).enterWait p := by
  unfold xLaneEnable
  rw [hon, hpart, hen]
  rfl

theorem xLaneEnable_none (h : s.legacyPartner p = true ∨ s.fbit (R.TILE_LANE_CTRL_EN p) = true) : xLaneEnable p s = s :=
  if_pos (by obtain h | h := h <;> simp [h])

/-- What a write of 1 to EN sets. -/
theorem enterWait_acts (hp : p < 24) (hlen : p < s.ports.length) :
    (s.enterWait p).lane p = laneWait ∧ (s.enterWait p).fbit (R.TILE_LANE_STATUS_RATE_LOW p) = false
      ∧ ((s.enterWait p).port p).dnLimit = 3 ∧ ((s.enterWait p).port p).upLimit = 1
      ∧ (s.enterWait p).fbit (R.TILE_LANE_CTRL_EN p) = s.fbit (R.TILE_LANE_CTRL_EN p) := by
  have hlane : KeepsUnit p (s.fset (stateFld p) laneWait) (s.setLane p laneWait) := setLane_keepsUnit p laneWait s
  have hlow : ∀ q : Port → Port, ((((s.setLane p laneWait).fsetb (R.TILE_LANE_STATUS_RATE_LOW p) false).setPort p q).port p)
      = q ((s.setLane p laneWait).port p) := fun q => by
    rw [setPort_port, if_pos ⟨rfl, by show p < (s.setLane p laneWait).ports.length; rw [hlane.ports]; exact hlen⟩]
    rfl
  unfold State.enterWait
  rw [hlow]
  refine ⟨?_, fbit_fsetb_self _ _ _ rfl rfl, rfl, rfl, ?_⟩
  · rw [← laneOf_tile hp]
    exact (laneOf_fset_above rfl _ _).trans (setLane_laneOf (by omega) (by decide) s)
  · have hen : (s.setLane p laneWait).fbit (R.TILE_LANE_CTRL_EN p) = s.fbit (R.TILE_LANE_CTRL_EN p) :=
      (setLane_status laneWait s).fbit _ (by rw [tile_addr hp rfl (k := 0)]; exact not_statusReg (by omega) (by decide) (by decide))
    exact (fbit_fset_addr _ _ _ _ (by simp only [R.TILE_LANE_CTRL_EN, R.TILE_LANE_STATUS_RATE_LOW]; omega)).trans hen

/-! ### EN cleared -/

theorem complete_keepsUnit (d : Desc) (st : Status) (frame : Nat) (result : List Byte) (s : State) : KeepsUnit u s (s.complete d st frame result) :=
  OnlyRecords.keepsUnit (complete_records s d st frame result) (completeAt_device _ _ _ _ _ s)

theorem completeSlot_keepsUnit (ring pos : Nat) (st : Status) (frame : Nat) (result : List Byte) (s : State) :
    KeepsUnit u s (s.completeSlot ring pos st frame result) := by
  unfold State.completeSlot
  split
  · exact .refl s
  · extract_lets w
    have hw : KeepsUnit u s { s with cmds := { s.cmds with waiting := w } } := .of_parts rfl rfl rfl rfl
    exact hw.trans (complete_keepsUnit _ _ _ _ _)

theorem limpLoadsFail_keepsUnit (p : Nat) (s : State) : KeepsUnit u s (s.limpLoadsFail p) := by
  unfold State.limpLoadsFail
  extract_lets all a
  have ha : KeepsUnit u s a := setQueue_keepsUnit (fun _ => by rfl) s
  exact ha.trans (.foldl _ _ (fun w e _ => completeSlot_keepsUnit _ _ _ _ _ w) a)

theorem cmds_keepsUnit (c : CmdSt) (s : State) : KeepsUnit u s { s with cmds := c } := .of_parts rfl rfl rfl rfl

theorem limpTargetLost_keepsUnit (p : Nat) (s : State) : KeepsUnit u s (s.limpTargetLost p) :=
  .trans (cmds_keepsUnit _ s) (limpLoadsFail_keepsUnit p _)

/-- The registers of a unit's tests. -/
abbrev testReg (u a : Nat) : Prop := (laneCtrl u + 0x28 ≤ a ∧ a < laneCtrl u + 0x38) ∨ ¬ unitReg u a

theorem not_testReg {k : Nat} (hu : u < 26) (hk : k < 0x28) : ¬ testReg u (laneCtrl u + k) := by
  rintro (ha | ha)
  · omega
  · exact ha (unitReg_at k hu (by omega))

theorem tile_fset_test {f : Fld} (hp : p < 24) (k n : Nat) (w : State) (hf : f.addr = 0x60000 + k + p * 0x800) (hk : 0x28 ≤ k) (hk' : k < 0x38) :
    OnlyRegs (testReg p) w (w.fset f n) := (Within.refl w).fset (.inl (by rw [tile_addr hp hf]; omega))

theorem portPrbsCount_regs (hp : p < 24) (r : PrbsResult) (s : State) : OnlyRegs (testReg p) s (s.portPrbsCount p r) := by
  unfold State.portPrbsCount
  extract_lets a b
  have ha : OnlyRegs (testReg p) s a := (tile_fset_test hp 0x2C _ s rfl (by decide) (by decide)).trans (tile_fset_test hp 0x30 _ _ rfl (by decide) (by decide))
  have hb : OnlyRegs (testReg p) a b := (tile_fset_test hp 0x28 _ a rfl (by decide) (by decide)).trans (tile_fset_test hp 0x28 _ _ rfl (by decide) (by decide))
  exact ((ha.trans hb).trans (tile_fset_test hp 0x28 _ b rfl (by decide) (by decide))).trans (setPort_onlyRegs _ _ _)

theorem cutPortPrbs_regs (hp : p < 24) (s : State) : OnlyRegs (testReg p) s (s.cutPortPrbs p) := by
  have h : OnlyRegs (testReg p) s { s with free := s.free + 4 } := OnlyRegs.of_regs rfl
  exact .ite (.refl s) (h.trans (portPrbsCount_regs hp _ _))

theorem KeepsUnit.test (h : KeepsUnit u s t) : OnlyRegs (testReg u) s t := h.onlyRegs.mono (fun _ => rfl) fun _ => .inr

theorem xLaneDisable_none (h : s.fbit (R.TILE_LANE_CTRL_EN p) = false) : xLaneDisable p s = s := if_pos (by simp [h])

/-- What a write of 0 to EN sets. -/
theorem xLaneDisable_acts (hp : p < 24) (hon : s.portOn p = true) (hen : s.fbit (R.TILE_LANE_CTRL_EN p) = true) :
    (xLaneDisable p s).fbit (R.TILE_LANE_CTRL_EN p) = false ∧ (xLaneDisable p s).lane p = laneOff
      ∧ (xLaneDisable p s).fget (R.TILE_LANE_STATUS_DN_RATE p) = 0 ∧ (xLaneDisable p s).fget (R.TILE_LANE_STATUS_UP_RATE p) = 0 := by
  unfold xLaneDisable
  rw [if_neg (by simp [hon, hen])]
  extract_lets a b c d
  have haen : a.fbit (R.TILE_LANE_CTRL_EN p) = false := by
    refine (fbit_tile (limpTargetLost_keepsUnit p _) 0 hp rfl (by decide)).trans ?_
    refine ((setLane_status laneOff _).fbit _ (by rw [tile_addr hp rfl (k := 0)]; exact not_statusReg (by omega) (by decide) (by decide))).trans ?_
    exact fbit_fsetb_self _ _ _ rfl rfl
  have halane : a.laneOf p = laneOff := ((limpTargetLost_keepsUnit p _).laneOf (by omega)).trans (setLane_laneOf (by omega) (by decide) _)
  have hb : OnlyRegs (testReg p) a b := ((cutPortPrbs_regs hp a).trans (setPort_onlyRegs _ _ _)).trans (setPort_onlyRegs _ _ _)
  have hlast : ∀ {f : Fld} (k : Nat), f.addr = 0x60000 + k + p * 0x800 → k < 0x28 →
      ((d.fsetb (R.TILE_PROTO_STATUS_TOTALITY_TX p) false).refOver).fget f = (c.fsetb (R.TILE_LANE_STATUS_UP_IDLE p) false).fget f := fun k hf hk => by
    rw [fget_tile (refOver_keepsUnit _) k hp hf (by omega)]
    exact (fget_fset_addr _ _ _ _ (by rw [hf]; simp only [R.TILE_PROTO_STATUS_TOTALITY_TX]; omega)).trans
      (fget_fset_addr _ _ _ _ (by rw [hf]; simp only [R.TILE_PRBS_STAT_RUNNING]; omega))
  refine ⟨?_, ?_, ?_, ?_⟩
  · have hben : b.fget (R.TILE_LANE_CTRL_EN p) = 0 := by
      rw [hb.fget _ (by rw [tile_addr hp rfl (k := 0)]; exact not_testReg (by omega) (by decide))]
      exact fbit_eq_false.1 haen
    have hne : ∀ {f : Fld}, f.addr = 0x60010 + p * 0x800 → (R.TILE_LANE_CTRL_EN p).addr ≠ f.addr := fun hf => by
      rw [hf]; simp only [R.TILE_LANE_CTRL_EN]; omega
    rw [fbit_eq_false, hlast 0 rfl (by decide)]
    exact (fget_fset_addr _ _ _ _ (hne rfl)).trans ((fget_fset_addr _ _ _ _ (hne rfl)).trans ((fget_fset_addr _ _ _ _ (hne rfl)).trans hben))
  · have hblane : b.laneOf p = laneOff := by
      rw [hb.laneOf (not_testReg (by omega) (by decide)), halane]
    refine (hlast 0x10 rfl (by decide)).trans ((laneOf_tile hp _).symm.trans ?_)
    exact (laneOf_fset_above rfl _ _).trans ((laneOf_fset_above rfl _ _).trans ((laneOf_fset_above rfl _ _).trans hblane))
  · rw [hlast 0x10 rfl (by decide)]
    exact (fget_fset_beside _ _ _ _ rfl rfl rfl).trans ((fget_fset_beside _ _ _ _ rfl rfl rfl).trans (fget_fset_self _ _ _ rfl))
  · rw [hlast 0x10 rfl (by decide)]
    exact (fget_fset_beside _ _ _ _ rfl rfl rfl).trans (fget_fset_self _ _ _ rfl)

/-! ### A twin link brought up -/

theorem linkUp_none (h : s.fbit (R.TWIN_LANE_CTRL_EN l) = true) : linkUp l s = s := if_pos h

/-- What a write of 1 to a twin link's EN sets. -/
theorem linkUp_acts (hl : l < 2) (hlen : l < s.twin.links.length) (h : s.fbit (R.TWIN_LANE_CTRL_EN l) = false) :
    (linkUp l s).fbit (R.TWIN_LANE_CTRL_EN l) = true ∧ (linkUp l s).laneOf (24 + l) = laneTrain
      ∧ (nth (linkUp l s).twin.links l).limit = 3 := by
  have hof : linkOf (24 + l) = l := by unfold linkOf; omega
  have hlim := enterTrain_limit (u := 24 + l) (by omega)
    ((s.fsetb (R.TWIN_LANE_CTRL_EN l) true).setLink l fun q => { q with limit := 3, rateFails := 0, badDigests := 0 })
  have hen := (enterTrain_regs (u := 24 + l) (by omega)
    ((s.fsetb (R.TWIN_LANE_CTRL_EN l) true).setLink l fun q => { q with limit := 3, rateFails := 0, badDigests := 0 })).fbit (R.TWIN_LANE_CTRL_EN l)
      (by rw [show (R.TWIN_LANE_CTRL_EN l).addr = laneCtrl (24 + l) + 0 by rw [laneCtrl_link (by omega)]; simp only [R.TWIN_LANE_CTRL_EN]; omega]
          exact not_trainReg (by omega) (by decide) (by decide) (by decide))
  unfold linkUp
  rw [if_neg (by rw [h]; decide)]
  rw [hof] at hlim
  refine ⟨hen.trans (fbit_fsetb_self _ _ _ rfl rfl), enterTrain_laneOf (by omega) _, hlim.trans ?_⟩
  rw [setLink_link, if_pos ⟨rfl, hlen⟩]

/-! ### Bring-up and its limits -/

theorem xEnWaitExpiry_acts (hp : p < 24) (hon : s.portOn p = true) (h : s.lane p = laneWait) :
    (xEnWaitExpiry p s).lane p = laneTrain ∧ (xEnWaitExpiry p s).fget (R.TILE_LANE_STATUS_DN_RATE p) = b2n (s.legacy p) := by
  unfold xEnWaitExpiry
  rw [if_pos (by rw [hon, h]; rfl), State.enterTrain, if_pos hp, fget_tile (portTrain_keeps hp s) 0x10 hp rfl (by decide), portTrained_rate hp,
    (portTrain_keeps hp s).lane hp, ← laneOf_tile hp, portTrained_lane hp]
  exact ⟨rfl, rfl⟩

theorem xBringupTimeout_acts (hu : u < 26) (hon : s.unitOn u = true) (h : s.laneOf u = laneTrain ∨ s.laneOf u = laneLinked) :
    (xBringupTimeout u s).laneOf u = laneTrain
      ∧ (xBringupTimeout u s).fget (timeoutsFld u) = min (2 ^ (timeoutsFld u).width - 1) (s.fget (timeoutsFld u) + 1) := by
  have hreg : unitReg u (timeoutsFld u).addr := by rw [timeoutsFld_addr]; exact unitReg_at 0x18 hu (by decide)
  have htold : ∀ w : State, KeepsUnit u w ((w.unitEvent u 4 (w.fget (timeoutsFld u))).laneFault u 0) := fun w =>
    (unitEvent_keepsUnit u 4 _ w).trans (laneFault_keepsUnit u 0 _)
  unfold xBringupTimeout
  rw [if_pos (by simpa [hon] using h)]
  dsimp only
  refine ⟨enterTrain_laneOf hu _, ?_⟩
  rw [(enterTrain_regs hu _).fget _ (by rw [timeoutsFld_addr]; exact not_trainReg hu (by decide) (by decide) (by decide)), (htold _).fget _ hreg]
  exact fget_fadd_one s _ (of_decide_eq_true (timeoutsFld_fits u))

theorem xBringupTimeout_none (h : s.unitOn u = false ∨ (s.laneOf u ≠ laneTrain ∧ s.laneOf u ≠ laneLinked)) : xBringupTimeout u s = s :=
  if_neg (by obtain h | ⟨h, k⟩ := h <;> simp [*])

/-! ### Idle exits that fail -/

/-- An idle exit that fails is counted and told of, and its lane loses lock: what stands before its next state. -/
def State.exitFailed (s : State) (p : Nat) : State :=
  let a := (s.fadd (R.TILE_LANE_EVT_EXIT_FAILS p) 1).fsetb (R.TILE_LANE_STATUS_UP_IDLE p) false
  ((a.linkEvent p 7 (a.fget (R.TILE_LANE_EVT_EXIT_FAILS p))).laneFault p 0).dropLocks p [0]

theorem exitFailed_counts (hp : p < 24) (s : State) :
    (s.exitFailed p).fget (R.TILE_LANE_EVT_EXIT_FAILS p) = min (2 ^ (R.TILE_LANE_EVT_EXIT_FAILS p).width - 1) (s.fget (R.TILE_LANE_EVT_EXIT_FAILS p) + 1) := by
  have htold : ∀ w : State, KeepsUnit p w ((w.linkEvent p 7 (w.fget (R.TILE_LANE_EVT_EXIT_FAILS p))).laneFault p 0) := fun w =>
    (linkEvent_keepsUnit p 7 _ w).trans (laneFault_keepsUnit p 0 _)
  unfold State.exitFailed
  extract_lets a
  rw [dropLocks_fget, fget_tile (htold a) 0x18 hp rfl (by decide)]
  exact (fget_fset_addr _ _ _ _ (by simp only [R.TILE_LANE_EVT_EXIT_FAILS, R.TILE_LANE_STATUS_UP_IDLE]; omega)).trans
    (fget_fadd_one s _ (of_decide_eq_true rfl))

theorem xExitFail_up (hon : s.portOn p = true) (hleg : s.legacy p = false) (h : laneIsUp (s.lane p) = true) :
    xExitFail p s = (s.exitFailed p).enterRetrain p := by
  have hne : ¬ (s.lane p == laneLinked) = true := fun e => by rw [beq_iff_eq.1 e] at h; exact absurd h (by decide)
  unfold xExitFail State.exitFailed
  rw [if_pos (by simp [hon, hleg, h])]
  exact if_neg hne

theorem xExitFail_linked (hon : s.portOn p = true) (hleg : s.legacy p = false) (h : s.lane p = laneLinked) (hidle : s.upIdle p = true) :
    xExitFail p s = (s.exitFailed p).enterTrain p := by
  unfold xExitFail State.exitFailed
  rw [if_pos (by simp [hon, hleg, h, hidle])]
  exact if_pos (by rw [h]; rfl)

theorem xExitFail_none (h : s.portOn p = false ∨ s.legacy p = true ∨ (laneIsUp (s.lane p) = false ∧ (s.lane p ≠ laneLinked ∨ s.upIdle p = false))) :
    xExitFail p s = s := if_neg (by obtain h | h | ⟨h, k | k⟩ := h <;> simp [*])

theorem not_trainReg_evt (hp : p < 24) : ¬ trainReg p (R.TILE_LANE_EVT_EXIT_FAILS p).addr := by
  rw [tile_addr hp rfl (k := 0x18)]; exact not_trainReg (by omega) (by decide) (by decide) (by decide)

/-! ### Deskew -/

/-- A link that is no longer deskewed: its failure counted and told of. -/
theorem deskewFailed_acts (hl : l < 2) (s : State) :
    (s.deskewFailed l).laneOf (24 + l) = s.laneOf (24 + l) ∧ (s.deskewFailed l).fbit (R.TWIN_LANE_STATUS_DESKEWED l) = false
      ∧ (s.deskewFailed l).fget (R.TWIN_LANE_EVT_DESKEW_FAILS l)
        = min (2 ^ (R.TWIN_LANE_EVT_DESKEW_FAILS l).width - 1) (s.fget (R.TWIN_LANE_EVT_DESKEW_FAILS l) + 1) := by
  have hreg : ∀ {f : Fld} (k : Nat), f.addr = 0x70400 + k + l * 0x100 → k < 0x40 → unitReg (24 + l) f.addr := fun k hf hk => by
    rw [hf]; exact link_unitReg k hl hk
  unfold State.deskewFailed
  extract_lets a
  have htold : KeepsUnit (24 + l) a (a.twinLinkEvent l 8 (a.fget (R.TWIN_LANE_EVT_DESKEW_FAILS l))) := twinLinkEvent_keepsUnit l 8 _ a
  refine ⟨?_, ?_, ?_⟩
  · rw [htold.laneOf (by omega)]
    exact (laneOf_fset_above rfl _ _).trans (laneOf_fset_addr (by rw [laneCtrl_link (by omega)]; simp only [R.TWIN_LANE_EVT_DESKEW_FAILS]; omega) _ _)
  · rw [htold.fbit _ (hreg 0x10 rfl (by decide))]
    exact fbit_fsetb_self _ _ _ rfl rfl
  · rw [htold.fget _ (hreg 0x18 rfl (by decide))]
    exact (fget_fset_addr _ _ _ _ (by simp only [R.TWIN_LANE_EVT_DESKEW_FAILS, R.TWIN_LANE_STATUS_DESKEWED]; omega)).trans
      (fget_fadd_one s _ (of_decide_eq_true rfl))

/-- The deskew failure of a link that carries symbols, before its next state. -/
def State.skewFailed (s : State) (l : Nat) (skew : Int) : State := (s.fseti (R.TWIN_LANE_STATUS_SKEW l) skew).deskewFailed l

theorem skewFailed_acts (hl : l < 2) (skew : Int) (s : State) :
    (s.skewFailed l skew).laneOf (24 + l) = s.laneOf (24 + l) ∧ (s.skewFailed l skew).fbit (R.TWIN_LANE_STATUS_DESKEWED l) = false
      ∧ (s.skewFailed l skew).fget (R.TWIN_LANE_EVT_DESKEW_FAILS l)
        = min (2 ^ (R.TWIN_LANE_EVT_DESKEW_FAILS l).width - 1) (s.fget (R.TWIN_LANE_EVT_DESKEW_FAILS l) + 1) := by
  obtain ⟨hlane, hdesk, hcount⟩ := deskewFailed_acts hl (s.fseti (R.TWIN_LANE_STATUS_SKEW l) skew)
  refine ⟨hlane.trans (laneOf_fset_above rfl _ _), hdesk, hcount.trans ?_⟩
  rw [show (s.fseti (R.TWIN_LANE_STATUS_SKEW l) skew).fget (R.TWIN_LANE_EVT_DESKEW_FAILS l) = s.fget (R.TWIN_LANE_EVT_DESKEW_FAILS l) from
    fget_fset_addr _ _ _ _ (by simp only [R.TWIN_LANE_EVT_DESKEW_FAILS, R.TWIN_LANE_STATUS_SKEW]; omega)]

theorem symbolsRun_of_up (h : s.laneOf (24 + l) = laneLinked ∨ s.laneOf (24 + l) = laneActive) : s.symbolsRun l = true := by
  unfold State.symbolsRun
  obtain h | h := h <;> rw [h] <;> rfl

theorem xDeskewFail_up (hon : s.domOn 8 = true) (skew : Int) (h : s.laneOf (24 + l) = laneLinked ∨ s.laneOf (24 + l) = laneActive) :
    xDeskewFail l skew s = ((s.skewFailed l skew).enterRetrain (24 + l)).linkWatch := by
  unfold xDeskewFail
  rw [if_neg (by simp [hon, symbolsRun_of_up h])]
  exact if_pos (by simpa using h)

theorem xDeskewFail_trains (hon : s.domOn 8 = true) (skew : Int) (hrun : s.symbolsRun l = true) (hlink : s.laneOf (24 + l) ≠ laneLinked)
    (hact : s.laneOf (24 + l) ≠ laneActive) : xDeskewFail l skew s = s.skewFailed l skew := by
  unfold xDeskewFail
  rw [if_neg (by simp [hon, hrun])]
  exact if_neg (by simp [hlink, hact])

theorem xDeskewFail_none (skew : Int) (h : s.domOn 8 = false ∨ s.symbolsRun l = false) : xDeskewFail l skew s = s :=
  if_pos (by obtain h | h := h <;> simp [h])

/-- A deskew failure in LINKED or ACTIVE. -/
theorem skewFailed_retrains (hl : l < 2) (skew : Int) (s : State) :
    (((s.skewFailed l skew).enterRetrain (24 + l)).linkWatch).laneOf (24 + l) = laneRetrain
      ∧ (((s.skewFailed l skew).enterRetrain (24 + l)).linkWatch).fbit (R.TWIN_LANE_STATUS_DESKEWED l) = false
      ∧ (((s.skewFailed l skew).enterRetrain (24 + l)).linkWatch).fget (R.TWIN_LANE_EVT_DESKEW_FAILS l)
        = min (2 ^ (R.TWIN_LANE_EVT_DESKEW_FAILS l).width - 1) (s.fget (R.TWIN_LANE_EVT_DESKEW_FAILS l) + 1) := by
  obtain ⟨-, hdesk, hcount⟩ := skewFailed_acts hl skew s
  have hwatch := linkWatch_keepsUnit (u := 24 + l) ((s.skewFailed l skew).enterRetrain (24 + l))
  have haddr : ∀ {f : Fld} (k : Nat), f.addr = 0x70400 + k + l * 0x100 → f.addr = laneCtrl (24 + l) + k := fun k hf => by
    rw [hf, laneCtrl_link (by omega)]; omega
  refine ⟨(hwatch.laneOf (by omega)).trans (enterRetrain_laneOf (by omega) _), ?_, ?_⟩
  · rw [fbit_eq_false, hwatch.fget _ (link_unitReg 0x10 hl (by decide)),
      enterRetrain_link (by omega) (by omega) (haddr 0x10 rfl) rfl]
    exact fbit_eq_false.1 hdesk
  · rw [hwatch.fget _ (link_unitReg 0x18 hl (by decide)), (enterRetrain_regs (u := 24 + l) (by omega) _).fget _ (by
      rw [haddr 0x18 rfl]; exact not_statusReg (by omega) (by decide) (by decide))]
    exact hcount

/-! ### The retrain that is written -/

theorem xLaneRetrain_none (h : s.unitOn u = false ∨ laneIsUp (s.laneOf u) = false) : xLaneRetrain u s = s :=
  if_neg (by obtain h | h := h <;> simp [h])

theorem xLaneRetrain_up (hon : s.unitOn u = true) (h : laneIsUp (s.laneOf u) = true) : xLaneRetrain u s = s.loseActive u :=
  if_pos (by rw [hon, h]; rfl)

/-- Settles O19: each entry into a lane state by its own lemma, what follows it leaves the unit's lanes. -/
theorem lanesStartAndStop : Obligations.LanesStartAndStop := by
  unfold Obligations.LanesStartAndStop
  refine ⟨?_, ?_, ?_, ?_, ?_, ?_, ?_, ?_, ?_, ?_, ?_, ?_, ?_, ?_, ?_, ?_, ?_, ?_, ?_, ?_, ?_, ?_⟩
  · intro s p hs h5 hb hpart hen
    have hon := portOn_of_blockOff (k := 0) p.isLt (by decide) hb
    have hk : KeepsUnit p (xLaneEnable p s) (s.after (s.barWrite (0x60000 + 0x800 * p.val) fun s => xLaneEnable p s)) := barWrite_keepsUnit _ h5 hb
    obtain ⟨hlane, hlow, hdn, hup, hset⟩ := enterWait_acts
      (s := (s.fsetb (R.TILE_LANE_CTRL_EN p) true).fsetb (R.TILE_PRBS_STAT_RUNNING p) false) p.isLt (Nat.lt_of_lt_of_eq p.isLt (shape_ports hs).symm)
    refine ⟨s.after (s.barWrite (0x60000 + 0x800 * p.val) fun s => xLaneEnable p s), rfl, ?_⟩
    rw [fbit_tile hk 0 p.isLt rfl (by decide), hk.lane p.isLt, fbit_tile hk 0x10 p.isLt rfl (by decide),
      hk.dnLimit, hk.upLimit, xLaneEnable_eq hon hpart hen]
    refine ⟨hset.trans ?_, hlane, hlow, hdn, hup⟩
    exact (fbit_fset_addr _ _ _ _ (by simp only [R.TILE_LANE_CTRL_EN, R.TILE_PRBS_STAT_RUNNING]; omega)).trans (fbit_fsetb_self _ _ _ rfl rfl)
  · intro s p h5 hb h
    exact ⟨_, rfl, congrArg s.after (barWrite_none h5 hb (xLaneEnable_none h))⟩
  · intro s p _ h5 hb hen
    have hk : KeepsUnit p (xLaneDisable p s) (s.after (s.barWrite (0x60000 + 0x800 * p.val) fun s => xLaneDisable p s)) := barWrite_keepsUnit _ h5 hb
    refine ⟨s.after (s.barWrite (0x60000 + 0x800 * p.val) fun s => xLaneDisable p s), rfl, ?_⟩
    rw [fbit_tile hk 0 p.isLt rfl (by decide), hk.lane p.isLt, fget_tile hk 0x10 p.isLt rfl (by decide), fget_tile hk 0x10 p.isLt rfl (by decide)]
    exact xLaneDisable_acts p.isLt (portOn_of_blockOff (k := 0) p.isLt (by decide) hb) hen
  · intro s p h5 hb h
    exact ⟨_, rfl, congrArg s.after (barWrite_none h5 hb (xLaneDisable_none h))⟩
  · intro s l hs h5 hb hen
    have hk : KeepsUnit (24 + l) (xTwinLaneEnable l s) (s.after (s.barWrite (0x70400 + 0x100 * l.val) fun s => xTwinLaneEnable l s)) :=
      barWrite_keepsUnit _ h5 hb
    have hx : xTwinLaneEnable l s = linkUp l s := if_pos (linkOn_of_blockOff (by omega) hb)
    have hlim := hk.limit (by omega)
    rw [show linkOf (24 + l.val) = l by unfold linkOf; omega] at hlim
    refine ⟨s.after (s.barWrite (0x70400 + 0x100 * l.val) fun s => xTwinLaneEnable l s), rfl, ?_⟩
    rw [hk.fbit _ (link_unitReg 0 l.isLt (by decide)), hk.laneOf (by omega), hlim, hx]
    exact linkUp_acts l.isLt (by rw [shape_links hs]; exact l.isLt) hen
  · intro s l h5 hb h
    exact ⟨_, rfl, congrArg s.after (barWrite_none h5 hb ((if_pos (linkOn_of_blockOff (by omega) hb)).trans (linkUp_none h)))⟩
  · intro s p hon h
    refine ⟨s.after (xEnWaitExpiry p s), rfl, ?_⟩
    rw [(after_keepsUnit s _).lane p.isLt, fget_tile (after_keepsUnit s _) 0x10 p.isLt rfl (by decide)]
    exact xEnWaitExpiry_acts p.isLt hon h
  · intro s p h
    exact ⟨_, rfl, congrArg s.after (if_neg (by obtain h | h := h <;> simp [h]))⟩
  · intro s u hon h
    refine ⟨s.after (xBringupTimeout u s), rfl, ?_⟩
    rw [(after_keepsUnit s _).laneOf u.isLt, (after_keepsUnit s _).fget _ (by rw [timeoutsFld_addr]; exact unitReg_at 0x18 u.isLt (by decide))]
    exact xBringupTimeout_acts u.isLt hon h
  · intro s u h
    exact ⟨_, rfl, congrArg s.after (xBringupTimeout_none h)⟩
  · intro s u h5 hb hon h
    have hk : KeepsUnit u (xLaneRetrain u s) (s.after (s.barWrite (laneCtrl u.val) fun s => xLaneRetrain u s)) := barWrite_keepsUnit _ h5 hb
    refine ⟨s.after (s.barWrite (laneCtrl u.val) fun s => xLaneRetrain u s), rfl, ?_⟩
    rw [hk.laneOf u.isLt, hk.fget _ (by rw [retrainsFld_addr]; exact unitReg_at 0x18 u.isLt (by decide)), xLaneRetrain_up hon h]
    exact ⟨loseActive_laneOf u.isLt s, loseActive_counts u.isLt s⟩
  · intro s u h5 hb h
    exact ⟨_, rfl, congrArg s.after (barWrite_none h5 hb (xLaneRetrain_none h))⟩
  · intro s p hon hleg h
    refine ⟨s.after (xExitFail p s), rfl, ?_⟩
    rw [(after_keepsUnit s _).lane p.isLt, fbit_tile (after_keepsUnit s _) 0x10 p.isLt rfl (by decide),
      fget_tile (after_keepsUnit s _) 0x18 p.isLt rfl (by decide), xExitFail_up hon hleg h, ← laneOf_tile p.isLt]
    refine ⟨enterRetrain_laneOf (by omega) _, enterRetrain_upIdle p.isLt _, ?_⟩
    rw [(enterRetrain_regs (u := p) (by omega) _).fget _ (fun h => not_trainReg_evt p.isLt (.inr h))]
    exact exitFailed_counts p.isLt s
  · intro s p hon hleg h hidle
    refine ⟨s.after (xExitFail p s), rfl, ?_⟩
    rw [(after_keepsUnit s _).lane p.isLt, fget_tile (after_keepsUnit s _) 0x18 p.isLt rfl (by decide), xExitFail_linked hon hleg h hidle,
      ← laneOf_tile p.isLt]
    refine ⟨enterTrain_laneOf (by omega) _, ?_⟩
    rw [(enterTrain_regs (u := p) (by omega) _).fget _ (not_trainReg_evt p.isLt)]
    exact exitFailed_counts p.isLt s
  · intro s p h
    exact ⟨_, rfl, congrArg s.after (xExitFail_none h)⟩
  · intro s l skew hon h
    refine ⟨s.after (xDeskewFail l skew s), rfl, ?_⟩
    rw [(after_keepsUnit s _).laneOf (by omega), (after_keepsUnit (u := 24 + l) s _).fbit _ (link_unitReg 0x10 l.isLt (by decide)),
      (after_keepsUnit (u := 24 + l) s _).fget _ (link_unitReg 0x18 l.isLt (by decide)), xDeskewFail_up hon skew h]
    exact skewFailed_retrains l.isLt skew s
  · intro s l skew hon hrun hlink hact
    refine ⟨s.after (xDeskewFail l skew s), rfl, ?_⟩
    rw [(after_keepsUnit s _).laneOf (by omega), (after_keepsUnit (u := 24 + l) s _).fbit _ (link_unitReg 0x10 l.isLt (by decide)),
      (after_keepsUnit (u := 24 + l) s _).fget _ (link_unitReg 0x18 l.isLt (by decide)), xDeskewFail_trains hon skew hrun hlink hact]
    exact skewFailed_acts l.isLt skew s
  · intro s l skew h
    exact ⟨_, rfl, congrArg s.after (xDeskewFail_none skew h)⟩
  · intro s p h
    exact ⟨_, rfl, congrArg s.after (barWrite_refused _ h)⟩
  · intro s p h
    exact ⟨_, rfl, congrArg s.after (barWrite_refused _ h)⟩
  · intro s u h
    exact ⟨_, rfl, congrArg s.after (barWrite_refused _ h)⟩
  · intro s l h
    exact ⟨_, rfl, congrArg s.after (barWrite_refused _ h)⟩

end StartStop
end Sys2Proof.Machine

namespace Sys2Proof.Machine

section Tests

/-! ## PRBS and loop-back tests -/

variable {s t w : State} {u v p l m : Nat}

/-! ### The counts of a test -/

theorem fbit_fsetb_beside (s : State) (f g : Fld) (b : Bool) (h : f.beside g = true) (hf : f.fits = true) (hg : g.fits = true) :
    (s.fsetb f b).fbit g = s.fbit g := fbit_fset_beside s f g _ h hf hg

theorem satAdd_eq (k a b : Nat) (_ : a ≤ k) : satAdd k a b = min k (a + b) := by
  unfold satAdd
  split <;> omega

theorem fget_fadd (s : State) (f : Fld) (k : Nat) (hf : f.fits = true) : (s.fadd f k).fget f = min (2 ^ f.width - 1) (s.fget f + k) := by
  have hlt := fget_lt s f
  unfold State.fadd
  rw [fget_fset_self _ _ _ hf, satAdd_eq _ _ _ (by omega), Nat.mod_eq_of_lt (by omega)]

/-- The registers that show a tile port's test once it has ended. -/
structure TestDone (p : Nat) (r : PrbsResult) (s t : State) : Prop where
  running : t.fbit (R.TILE_PRBS_STAT_RUNNING p) = false
  done : t.fbit (R.TILE_PRBS_STAT_DONE p) = true
  sync : t.fbit (R.TILE_PRBS_STAT_SYNC p) = r.sync
  errs : t.fget (R.TILE_PRBS_ERR_LOCAL_COUNT p) = min (2 ^ (R.TILE_PRBS_ERR_LOCAL_COUNT p).width - 1) (s.fget (R.TILE_PRBS_ERR_LOCAL_COUNT p) + r.errs)

theorem TestDone.kept {r : PrbsResult} (h : TestDone p r s t) (hp : p < 24) (k : OnlyRegs (statusReg p) t w) : TestDone p r s w := by
  have hk : ∀ {f : Fld} (k : Nat), f.addr = 0x60000 + k + p * 0x800 → k < 0x40 → k ≠ 0x10 → ¬ statusReg p f.addr := fun k hf hk hne => by
    rw [tile_addr hp hf]; exact not_statusReg (by omega) hk hne
  exact ⟨(k.fbit _ (hk 0x28 rfl (by decide) (by decide))).trans h.running, (k.fbit _ (hk 0x28 rfl (by decide) (by decide))).trans h.done,
    (k.fbit _ (hk 0x28 rfl (by decide) (by decide))).trans h.sync, (k.fget _ (hk 0x2C rfl (by decide) (by decide))).trans h.errs⟩

theorem portPrbsCount_shown (r : PrbsResult) (s : State) :
    (s.portPrbsCount p r).fbit (R.TILE_PRBS_STAT_RUNNING p) = false ∧ (s.portPrbsCount p r).fbit (R.TILE_PRBS_STAT_SYNC p) = r.sync
      ∧ (s.portPrbsCount p r).fget (R.TILE_PRBS_ERR_LOCAL_COUNT p)
        = min (2 ^ (R.TILE_PRBS_ERR_LOCAL_COUNT p).width - 1) (s.fget (R.TILE_PRBS_ERR_LOCAL_COUNT p) + r.errs) := by
  have hstat : ∀ {f : Fld} (n : Nat) (w : State), f.addr = 0x60028 + p * 0x800 →
      (w.fset f n).fget (R.TILE_PRBS_ERR_LOCAL_COUNT p) = w.fget (R.TILE_PRBS_ERR_LOCAL_COUNT p) := fun n w hf =>
    fget_fset_addr _ _ _ _ (by rw [hf]; simp only [R.TILE_PRBS_ERR_LOCAL_COUNT]; omega)
  unfold State.portPrbsCount
  extract_lets a b
  have hsync : b.fbit (R.TILE_PRBS_STAT_SYNC p) = r.sync := fbit_fsetb_self _ _ _ rfl rfl
  have ha : a.fget (R.TILE_PRBS_ERR_LOCAL_COUNT p) = min (2 ^ (R.TILE_PRBS_ERR_LOCAL_COUNT p).width - 1) (s.fget (R.TILE_PRBS_ERR_LOCAL_COUNT p) + r.errs) :=
    (fget_fset_addr _ _ _ _ (by simp only [R.TILE_PRBS_ERR_LOCAL_COUNT, R.TILE_PRBS_BITS_COUNT]; omega)).trans (fget_fadd s _ _ rfl)
  have hb : b.fget (R.TILE_PRBS_ERR_LOCAL_COUNT p) = a.fget (R.TILE_PRBS_ERR_LOCAL_COUNT p) := (hstat _ _ rfl).trans (hstat _ a rfl)
  rw [State.setPort_fbit, State.setPort_fbit, State.setPort_fget]
  exact ⟨fbit_fsetb_self _ _ _ rfl rfl, (fbit_fset_beside _ _ _ _ rfl rfl rfl).trans hsync, (hstat _ b rfl).trans (hb.trans ha)⟩

theorem portPrbsDone_shown (hp : p < 24) (r : PrbsResult) (s : State) : TestDone p r s (s.portPrbsDone p r) := by
  obtain ⟨hrun, hsync, herr⟩ := portPrbsCount_shown (p := p) r s
  unfold State.portPrbsDone
  extract_lets a
  have hk : KeepsUnit p a (a.linkEvent p 0x0A (a.fget (R.TILE_PRBS_ERR_LOCAL_COUNT p))) := linkEvent_keepsUnit p _ _ a
  exact ⟨(fbit_tile hk 0x28 hp rfl (by decide)).trans ((fbit_fset_beside _ _ _ _ rfl rfl rfl).trans hrun),
    (fbit_tile hk 0x28 hp rfl (by decide)).trans (fbit_fsetb_self _ _ _ rfl rfl),
    (fbit_tile hk 0x28 hp rfl (by decide)).trans ((fbit_fset_beside _ _ _ _ rfl rfl rfl).trans hsync),
    (fget_tile hk 0x2C hp rfl (by decide)).trans
      ((fget_fset_addr _ _ _ _ (by simp only [R.TILE_PRBS_ERR_LOCAL_COUNT, R.TILE_PRBS_STAT_DONE]; omega)).trans herr)⟩

/-- What one lane's checker found. -/
theorem result_one (pat : Nat) (dn up : Bool) (bits : List Bool) :
    ((⟨pat, dn, up⟩ : PrbsRun).result [bits]).sync = (up && (checkBits pat bits).sync)
      ∧ ((⟨pat, dn, up⟩ : PrbsRun).result [bits]).errs = if up = true then (checkBits pat bits).errs else 0 := by
  cases up
  · exact ⟨rfl, rfl⟩
  · exact ⟨rfl, Nat.zero_add _⟩

/-- A test on a tile port ends in RETRAIN. -/
theorem xPrbsEnd_port (hp : p < 24) (bits0 bits1 : List Bool) (hon : s.unitOn p = true) (h : s.laneOf p = lanePrbs) :
    (xPrbsEnd p bits0 bits1 s).lane p = laneRetrain ∧ TestDone p (((s.port p).prbs.getD {}).result [bits0]) s (xPrbsEnd p bits0 bits1 s) := by
  have hx : xPrbsEnd p bits0 bits1 s = ((s.portPrbsDone p (((s.port p).prbs.getD {}).result [bits0])).dropLocks p [0]).enterRetrain p := by
    unfold xPrbsEnd
    rw [if_neg (by simp [hon]), if_pos h, if_pos hp]
  have hdrop : ∀ w : State, OnlyRegs (statusReg p) w (w.dropLocks p [0]) := fun w => OnlyRegs.of_regs (dropLocks_regs p [0] w)
  rw [hx, ← laneOf_tile hp]
  exact ⟨enterRetrain_laneOf (by omega) _, (portPrbsDone_shown hp _ s).kept hp ((hdrop _).trans (enterRetrain_regs (by omega) _))⟩

/-- A host loop-back ends in OFF. -/
theorem xPrbsEnd_loopback (hp : p < 24) (bits0 bits1 : List Bool) (hon : s.unitOn p = true) (h : s.laneOf p = laneLoopback)
    (hs : (s.port p).sounding = false) :
    (xPrbsEnd p bits0 bits1 s).lane p = laneOff ∧ TestDone p (((s.port p).prbs.getD {}).result [bits0]) s (xPrbsEnd p bits0 bits1 s)
      ∧ (xPrbsEnd p bits0 bits1 s).fget (R.TILE_LANE_STATUS_DN_RATE p) = 0 := by
  have hx : xPrbsEnd p bits0 bits1 s
      = ((s.portPrbsDone p (((s.port p).prbs.getD {}).result [bits0])).fset (R.TILE_LANE_STATUS_DN_RATE p) 0).setLane p laneOff := by
    unfold xPrbsEnd
    rw [if_neg (by simp [hon]), if_neg (by rw [h]; decide), if_pos ⟨h, hp, by simp [hs]⟩]
  have hrate : ∀ w : State, OnlyRegs (statusReg p) w (w.fset (R.TILE_LANE_STATUS_DN_RATE p) 0) := fun w => (Within.refl w).fset (.inl (tile_addr hp rfl))
  rw [hx, ← laneOf_tile hp]
  refine ⟨setLane_laneOf (by omega) (by decide) _, (portPrbsDone_shown hp _ s).kept hp ((hrate _).trans (setLane_status laneOff _)), ?_⟩
  rw [setLane_beside (by omega) (tile_addr hp rfl) rfl]
  exact fget_fset_self _ _ _ rfl

theorem xPrbsEnd_none (bits0 bits1 : List Bool)
    (h : s.unitOn u = false ∨ (s.laneOf u ≠ lanePrbs ∧ (s.laneOf u ≠ laneLoopback ∨ 24 ≤ u ∨ (s.port u).sounding = true))) :
    xPrbsEnd u bits0 bits1 s = s := by
  unfold xPrbsEnd
  obtain h | ⟨hp, hl⟩ := h
  · rw [if_pos (by simp [h])]
  · rw [if_neg hp, if_neg (c := s.laneOf u = laneLoopback ∧ _), ite_self]
    rintro ⟨hloop, hu, hs⟩
    obtain hl | hl | hl := hl
    · exact hl hloop
    · omega
    · simp [hl] at hs

/-! ### A twin link's test -/

theorem xPrbsEnd_link (hu : u < 26) (hl : ¬ u < 24) (bits0 bits1 : List Bool) (hon : s.unitOn u = true) (h : s.laneOf u = lanePrbs) :
    (xPrbsEnd u bits0 bits1 s).laneOf u = laneTrain ∧ (xPrbsEnd u bits0 bits1 s).fbit (R.TWIN_PRBS_STAT_RUNNING (linkOf u)) = false
      ∧ (xPrbsEnd u bits0 bits1 s).fbit (R.TWIN_PRBS_STAT_DONE (linkOf u)) = true := by
  have hreg : ∀ {f : Fld}, f.addr = 0x70400 + 0x28 + linkOf u * 0x100 → unitReg u f.addr := fun hf => by
    rw [link_addr hl hf]; exact unitReg_at 0x28 hu (by decide)
  unfold xPrbsEnd
  rw [if_neg (by simp [hon]), if_pos h, if_neg hl, State.enterTrain, if_neg hl, linkTrain_eq]
  obtain ⟨hlane, -, hrun, hdone⟩ := linkTrained_acts hu hl
    ((s.linkPrbsDone (linkOf u) (((nth s.twin.links (linkOf u)).prbs.getD {}).result [bits0, bits1])).dropLocks u [0, 1])
  have hkeep := startTrn_keepsUnit (v := u) u
    (((s.linkPrbsDone (linkOf u) (((nth s.twin.links (linkOf u)).prbs.getD {}).result [bits0, bits1])).dropLocks u [0, 1]).linkTrained u)
  refine ⟨(hkeep.laneOf hu).trans hlane, (hkeep.fbit _ (hreg rfl)).trans hrun, (hkeep.fbit _ (hreg rfl)).trans ?_⟩
  unfold State.fbit
  rw [hdone, dropLocks_fget]
  unfold State.linkPrbsDone
  extract_lets a
  rw [(twinLinkEvent_keepsUnit (u := u) (linkOf u) 0x0A (a.fget (R.TWIN_PRBS_ERR_LOCAL_COUNT (linkOf u))) a).fget _ (hreg rfl)]
  exact fbit_fsetb_self _ _ _ rfl rfl

/-- What a start of a test on an ACTIVE twin link sets. -/
theorem linkPrbs_acts (hu : u < 26) (hl : ¬ u < 24) (h : s.laneOf u = laneActive) :
    (s.linkPrbs u).laneOf u = lanePrbs ∧ (s.linkPrbs u).fbit (R.TWIN_PRBS_STAT_RUNNING (linkOf u)) = true := by
  unfold State.linkPrbs
  extract_lets _ a b run
  rw [if_neg (by simp [h])]
  have hwatch := linkWatch_keepsUnit (u := u)
    (((b.setLane u lanePrbs).fsetb (R.TWIN_PRBS_STAT_RUNNING (linkOf u)) true).setLink (linkOf u) fun q => { q with prbs := some run })
  refine ⟨(hwatch.laneOf hu).trans ?_, (hwatch.fbit _ (by rw [link_addr hl rfl (k := 0x28)]; exact unitReg_at 0x28 hu (by decide))).trans ?_⟩
  · exact (laneOf_fset_addr (by rw [link_addr hl rfl (k := 0x28)]; omega) _ _).trans (setLane_laneOf hu (by decide) b)
  · exact fbit_fsetb_self _ _ _ rfl rfl

/-! ### A tile port's test ordered -/

theorem KeepsUnit.order (h : KeepsUnit p s t) : (t.port p).order = (s.port p).order := (congrArg Port.order h.port :)

theorem KeepsUnit.reorder (h : KeepsUnit p s t) : (t.port p).reorder = (s.port p).reorder := (congrArg Port.reorder h.port :)

/-- An order that has been placed: in the port's record, as one that stands or one that waits. -/
theorem placeOrder_places (hp : p < 24) (hlen : p < s.ports.length) (h : s.lane p ≠ laneIdle) (o : TickOrder) :
    (((s.placeOrder p o).port p).order.isSome || ((s.placeOrder p o).port p).reorder.isSome) = true
      ∧ OnlyRegs (fun a => ¬ unitReg p a) s (s.placeOrder p o) := by
  have hset : ∀ f : Port → Port, (s.setPort p f).port p = f (s.port p) := fun f => by rw [setPort_port, if_pos ⟨rfl, hlen⟩]
  unfold State.placeOrder
  split
  · rw [hset]
    exact ⟨rfl, setPort_onlyRegs _ _ _⟩
  split
  · extract_lets o' c
    have hsent : KeepsUnit p (s.setPort p fun q => { q with order := some o', reorder := none })
        ((s.setPort p fun q => { q with order := some o', reorder := none }).sendCtrl p c.1 c.2) := sendCtrl_keepsUnit hp _ _ fun _ => h
    rw [hsent.order, hset]
    exact ⟨rfl, (setPort_onlyRegs _ _ _).trans hsent.onlyRegs⟩
  · rw [hset]
    exact ⟨by simp, setPort_onlyRegs _ _ _⟩

/-- What an accepted start leaves of the last test. -/
theorem prbsClear_acts (hp : p < 24) (s : State) : OnlyRegs (testReg p) s (s.prbsClear p) ∧ (s.prbsClear p).fbit (R.TILE_PRBS_STAT_DONE p) = false := by
  unfold State.prbsClear
  extract_lets a
  have ha : OnlyRegs (testReg p) s a := ((tile_fset_test hp 0x2C 0 s rfl (by decide) (by decide)).trans (tile_fset_test hp 0x30 0 _ rfl (by decide) (by decide))).trans
    (tile_fset_test hp 0x34 0 _ rfl (by decide) (by decide))
  refine ⟨(ha.trans (tile_fset_test hp 0x28 _ a rfl (by decide) (by decide))).trans (tile_fset_test hp 0x28 _ _ rfl (by decide) (by decide)), ?_⟩
  exact (fbit_fsetb_beside _ _ _ _ rfl rfl rfl).trans (fbit_fsetb_self _ _ _ rfl rfl)

theorem prbsClear_ports (p : Nat) (s : State) : (s.prbsClear p).ports = s.ports := by
  unfold State.prbsClear
  extract_lets a
  rw [State.fsetb_ports, State.fsetb_ports]
  unfold a
  rw [State.fset_ports, State.fset_ports, State.fset_ports]

theorem prbsRefused_lane (hp : p < 24) (b : Bool) (s : State) : (s.fsetb (R.TILE_LANE_STATUS_PRBS_REFUSED p) b).lane p = s.lane p := by
  rw [← laneOf_tile hp, ← laneOf_tile hp]
  exact laneOf_fset_above rfl _ _

/-- A start of a test on an ACTIVE port is ordered. -/
theorem portPrbs_ordered (hp : p < 24) (hlen : p < s.ports.length) (h : s.lane p = laneActive) (hb : s.boundEnabled p = false) :
    (((s.portPrbs p).port p).order.isSome || ((s.portPrbs p).port p).reorder.isSome) = true
      ∧ (s.portPrbs p).fbit (R.TILE_LANE_STATUS_PRBS_REFUSED p) = false ∧ (s.portPrbs p).fbit (R.TILE_PRBS_STAT_DONE p) = false := by
  obtain ⟨hclear, hdone⟩ := prbsClear_acts hp (s.fsetb (R.TILE_LANE_STATUS_PRBS_REFUSED p) false)
  have hlane : ((s.fsetb (R.TILE_LANE_STATUS_PRBS_REFUSED p) false).prbsClear p).lane p = laneActive := by
    rw [← laneOf_tile hp, hclear.laneOf (not_testReg (by omega) (by decide)), laneOf_tile hp, prbsRefused_lane hp, h]
  unfold State.portPrbs
  rw [if_neg (by simp [h, hb])]
  extract_lets pat dn up
  obtain ⟨hplaced, hregs⟩ := placeOrder_places hp (s := (s.fsetb (R.TILE_LANE_STATUS_PRBS_REFUSED p) false).prbsClear p)
    (by rw [prbsClear_ports, State.fsetb_ports]; exact hlen) (by rw [hlane]; decide) (.prbs pat dn up 0)
  have hreg : ∀ {f : Fld} (k : Nat), f.addr = 0x60000 + k + p * 0x800 → k < 0x40 → ¬ ¬ unitReg p f.addr := fun k hf hk =>
    not_not.2 (by rw [hf]; exact tile_unitReg k hp hk)
  refine ⟨hplaced, (hregs.fbit _ (hreg 0x10 rfl (by decide))).trans ?_, (hregs.fbit _ (hreg 0x28 rfl (by decide))).trans hdone⟩
  rw [hclear.fbit _ (by rw [tile_addr hp rfl (k := 0x10)]; exact not_testReg (by omega) (by decide))]
  exact fbit_fsetb_self _ _ _ rfl rfl

/-- A start of a test on a port elsewhere is refused. -/
theorem portPrbs_refused (h : s.lane p ≠ laneActive ∨ s.boundEnabled p = true) :
    s.portPrbs p = s.fsetb (R.TILE_LANE_STATUS_PRBS_REFUSED p) true := if_pos (by obtain h | h := h <;> simp [h])

theorem xPrbsStart_port (hp : p < 24) (hon : s.unitOn p = true) (hloop : s.fbit (R.TILE_PRBS_CTRL_LOOP p) = false) :
    xPrbsStart p s = s.portPrbs p := by
  unfold xPrbsStart
  rw [if_neg (by simp [hon]), if_pos hp, if_neg (by simp [hloop])]

theorem xPrbsStart_link (hl : ¬ u < 24) (hon : s.unitOn u = true) : xPrbsStart u s = s.linkPrbs u := by
  unfold xPrbsStart
  rw [if_neg (by simp [hon]), if_neg hl]

theorem xPrbsStart_none
    (h : s.unitOn u = false ∨ (u < 24 ∧ s.fbit (R.TILE_PRBS_CTRL_LOOP u) = true) ∨ (24 ≤ u ∧ s.laneOf u ≠ laneActive)) :
    xPrbsStart u s = s := by
  obtain h | ⟨hu, hloop⟩ | ⟨hu, hne⟩ := h
  · exact if_pos (by simp [h])
  · unfold xPrbsStart
    rw [if_pos hu, if_pos hloop, ite_self]
  · unfold xPrbsStart State.linkPrbs
    rw [if_neg (c := u < 24) (by omega)]
    dsimp only
    rw [if_pos (c := (s.laneOf u != laneActive) = true) (by simpa using hne), ite_self]

/-! ### Host loop-back -/

theorem xLoopbackStart_none (h : s.portOn p = false ∨ s.fbit (R.TILE_LANE_CTRL_EN p) = true ∨ s.fbit (R.TILE_PRBS_CTRL_LOOP p) = false) :
    xLoopbackStart p s = s := if_pos (by obtain h | h | h := h <;> simp [h])

theorem xLoopbackStart_acts (hp : p < 24) (hon : s.portOn p = true) (hen : s.fbit (R.TILE_LANE_CTRL_EN p) = false)
    (hloop : s.fbit (R.TILE_PRBS_CTRL_LOOP p) = true) :
    (xLoopbackStart p s).lane p = laneLoopback ∧ (xLoopbackStart p s).fbit (R.TILE_PRBS_STAT_RUNNING p) = true := by
  unfold xLoopbackStart
  rw [if_neg (by simp [hon, hen, hloop])]
  extract_lets run a b c
  rw [← laneOf_tile hp]
  refine ⟨setLane_laneOf (by omega) (by decide) c, ?_⟩
  rw [(setLane_status laneLoopback c).fbit _ (by rw [tile_addr hp rfl (k := 0x28)]; exact not_statusReg (by omega) (by decide) (by decide))]
  exact fbit_fsetb_self _ _ _ rfl rfl

/-- Settles O22: a test's start by what it orders, its end by the registers that show it, which its next state leaves. -/
theorem laneTestsAct : Obligations.LaneTestsAct := by
  unfold Obligations.LaneTestsAct
  refine ⟨?_, ?_, ?_, ?_, ?_, ?_, ?_, ?_, ?_, ?_, ?_, ?_⟩
  · intro s u hs h5 hb hu hon hloop h hbound
    have hk : KeepsUnit u (xPrbsStart u s) (s.after (s.barWrite (prbsCtrl u.val) fun s => xPrbsStart u s)) := barWrite_keepsUnit _ h5 hb
    refine ⟨s.after (s.barWrite (prbsCtrl u.val) fun s => xPrbsStart u s), rfl, ?_⟩
    rw [hk.order, hk.reorder, fbit_tile hk 0x10 hu rfl (by decide), fbit_tile hk 0x28 hu rfl (by decide), xPrbsStart_port hu hon hloop]
    exact portPrbs_ordered hu (Nat.lt_of_lt_of_eq hu (shape_ports hs).symm) h hbound
  · intro s u h5 hb hu hon hloop h
    have hk : KeepsUnit u (xPrbsStart u s) (s.after (s.barWrite (prbsCtrl u.val) fun s => xPrbsStart u s)) := barWrite_keepsUnit _ h5 hb
    refine ⟨s.after (s.barWrite (prbsCtrl u.val) fun s => xPrbsStart u s), rfl, ?_⟩
    rw [fbit_tile hk 0x10 hu rfl (by decide), hk.lane hu, xPrbsStart_port hu hon hloop, portPrbs_refused h, prbsRefused_lane hu]
    exact ⟨fbit_fsetb_self _ _ _ rfl rfl, rfl⟩
  · intro s u h5 hb hu hon h
    have hl : ¬ u.val < 24 := by omega
    have hk : KeepsUnit u (xPrbsStart u s) (s.after (s.barWrite (prbsCtrl u.val) fun s => xPrbsStart u s)) := barWrite_keepsUnit _ h5 hb
    refine ⟨s.after (s.barWrite (prbsCtrl u.val) fun s => xPrbsStart u s), rfl, ?_⟩
    rw [hk.laneOf u.isLt, hk.fbit _ (by rw [link_addr hl rfl (k := 0x28)]; exact unitReg_at 0x28 u.isLt (by decide)), xPrbsStart_link hl hon]
    exact linkPrbs_acts u.isLt hl h
  · intro s u h5 hb h
    exact ⟨_, rfl, congrArg s.after (barWrite_none h5 hb (xPrbsStart_none h))⟩
  · intro s p h5 hb hon hen hloop
    have hk : KeepsUnit p (xLoopbackStart p s) (s.after (s.barWrite (0x60020 + 0x800 * p.val) fun s => xLoopbackStart p s)) :=
      barWrite_keepsUnit _ h5 hb
    refine ⟨s.after (s.barWrite (0x60020 + 0x800 * p.val) fun s => xLoopbackStart p s), rfl, ?_⟩
    rw [hk.lane p.isLt, fbit_tile hk 0x28 p.isLt rfl (by decide)]
    exact xLoopbackStart_acts p.isLt hon hen hloop
  · intro s p h5 hb h
    exact ⟨_, rfl, congrArg s.after (barWrite_none h5 hb (xLoopbackStart_none h))⟩
  · intro s u bits0 bits1 pat dn up _ hon hu h hrun
    obtain ⟨hlane, hdone⟩ := xPrbsEnd_port hu bits0 bits1 hon h
    obtain ⟨hsync, herrs⟩ := result_one pat dn up bits0
    have hshown := hdone.kept hu (after_keepsUnit s (xPrbsEnd u bits0 bits1 s)).status
    rw [hrun] at hshown
    refine ⟨s.after (xPrbsEnd u bits0 bits1 s), rfl, ?_⟩
    rw [(after_keepsUnit s _).lane hu, hlane, hshown.running, hshown.done, hshown.sync, hshown.errs]
    exact ⟨rfl, rfl, rfl, hsync, by rw [← herrs]; rfl⟩
  · intro s u bits0 bits1 hon hu h
    have hl : ¬ u.val < 24 := by omega
    have hreg : ∀ {f : Fld}, f.addr = 0x70400 + 0x28 + linkOf u * 0x100 → unitReg u f.addr := fun hf => by
      rw [link_addr hl hf]; exact unitReg_at 0x28 u.isLt (by decide)
    refine ⟨s.after (xPrbsEnd u bits0 bits1 s), rfl, ?_⟩
    rw [(after_keepsUnit s _).laneOf u.isLt, (after_keepsUnit (u := u) s _).fbit _ (hreg rfl), (after_keepsUnit (u := u) s _).fbit _ (hreg rfl)]
    exact xPrbsEnd_link u.isLt hl bits0 bits1 hon h
  · intro s u bits0 bits1 hon hu h hsound
    obtain ⟨hlane, hdone, hrate⟩ := xPrbsEnd_loopback hu bits0 bits1 hon h hsound
    have hshown := hdone.kept hu (after_keepsUnit s (xPrbsEnd u bits0 bits1 s)).status
    refine ⟨s.after (xPrbsEnd u bits0 bits1 s), rfl, ?_⟩
    rw [(after_keepsUnit s _).lane hu, hlane, fget_tile (after_keepsUnit s _) 0x10 hu rfl (by decide), hrate]
    exact ⟨rfl, hshown.running, hshown.done, rfl⟩
  · intro s u bits0 bits1 h
    exact ⟨_, rfl, congrArg s.after (xPrbsEnd_none bits0 bits1 h)⟩
  · intro s u h
    exact ⟨_, rfl, congrArg s.after (barWrite_refused _ h)⟩
  · intro s p h
    exact ⟨_, rfl, congrArg s.after (barWrite_refused _ h)⟩

end Tests
end Sys2Proof.Machine

namespace Sys2Proof.Machine

section Reference

/-! ## The reference -/

variable {s t w : State} {u v p l m : Nat}

theorem KeepsUnit.portOn (h : KeepsUnit u s t) (p : Nat) : t.portOn p = s.portOn p := by
  unfold State.portOn State.domOn
  rw [h.fget _ (.inl rfl), h.fbit _ (.inl rfl)]

theorem KeepsUnit.unitOn (h : KeepsUnit u s t) (v : Nat) : t.unitOn v = s.unitOn v := by
  unfold State.unitOn State.domOn
  rw [h.portOn, h.fget _ (.inl rfl)]

theorem KeepsUnit.legacyUnit (h : KeepsUnit u s t) : t.legacyUnit u = s.legacyUnit u := by
  unfold State.legacyUnit State.legacy
  by_cases hp : u < 24
  · rw [fbit_tile h 0 hp rfl (by decide)]
  · rw [decide_eq_false hp]; rfl

/-- One unit after another: a unit's own turn stands in the end. -/
theorem overList_at {f : Nat → State → State} {l : List Nat} (hnd : l.Nodup) (hu : u ∈ l) (hf : ∀ i ∈ l, i ≠ u → ∀ w, KeepsUnit u w (f i w)) (s : State) :
    ∃ a, KeepsUnit u s a ∧ KeepsUnit u (f u a) (overList f l s) := by
  induction l generalizing s with
  | nil => exact absurd hu List.not_mem_nil
  | cons i l ih =>
    obtain ⟨hi, hnd⟩ := List.nodup_cons.1 hnd
    by_cases hiu : i = u
    · subst hiu
      exact ⟨s, .refl s, .overList f l (fun j hj w => hf j (List.mem_cons_of_mem i hj) (fun e => hi (e ▸ hj)) w) _⟩
    · obtain ⟨a, ha, hk⟩ := ih hnd ((List.mem_cons.1 hu).resolve_left fun e => hiu e.symm) (fun j hj => hf j (List.mem_cons_of_mem i hj)) (f i s)
      exact ⟨a, (hf i List.mem_cons_self hiu s).trans ha, hk⟩

/-! ### Locks dropped -/

/-- One lane's receiver and handshake start over. -/
theorem dropOne_hs (hrec : s.recorded u) (hl : l ∈ lanesOf u) (hm : m ∈ lanesOf u) (g : Handshake → Handshake) :
    ((s.setRx u m fun _ => {}).setHs u m g).hsOf u l = if l = m then g (s.hsOf u l) else s.hsOf u l := by
  split
  · rename_i he
    subst he
    rw [setHs_hsOf ((setRx_recorded _ _ _).2 hrec), setRx_hsOf]
  · rename_i hne
    rw [setHs_hsOf_other hm hl hne, setRx_hsOf]

/-- The handshake of a lane that has lost lock. -/
def Handshake.lost (h : Handshake) : Prop := h.locked = false ∧ h.trn1Rx = 0

theorem dropLocks_hs {ls : List Nat} (hrec : s.recorded u) (hls : ∀ m ∈ ls, m ∈ lanesOf u) (hl : l ∈ lanesOf u) (h : l ∈ ls ∨ (s.hsOf u l).lost) :
    ((s.dropLocks u ls).hsOf u l).lost := by
  induction ls generalizing s with
  | nil => exact h.resolve_left List.not_mem_nil
  | cons m ls ih =>
    have hm := hls m List.mem_cons_self
    have hone := dropOne_hs hrec hl hm fun h => { h with locked := false, trn1Rx := 0 }
    refine ih ((setHs_recorded _ _ _).2 ((setRx_recorded _ _ _).2 hrec)) (fun i hi => hls i (List.mem_cons_of_mem m hi)) ?_
    rw [hone]
    split
    · exact .inr ⟨rfl, rfl⟩
    · rename_i hne
      exact h.imp_left fun h => (List.mem_cons.1 h).resolve_left hne

theorem KeepsUnit.lost (h : KeepsUnit u s t) (hl : (s.hsOf u l).lost) : (t.hsOf u l).lost :=
  ⟨(h.locked l).trans hl.1, (h.trn1Rx l).trans hl.2⟩

theorem sendTrns_keepsUnit (u : Nat) (ls : List Nat) (s : State) : KeepsUnit v s (ls.foldl (fun w l => w.sendTrn u l) s) :=
  .foldl _ _ (fun w l _ => sendTrn_keepsUnit u l w) s

/-- Lock lost in training: the state stays. -/
theorem lockLost_trains_laneOf (hu : u < 26) (ls : List Nat) (h : laneTrains (s.laneOf u) = true) : (s.lockLost u ls).laneOf u = s.laneOf u := by
  rw [lockLost_trains ls h, (sendTrns_keepsUnit u ls _).laneOf hu, dropLocks_laneOf]

theorem lockLost_trains_hs {ls : List Nat} (hrec : s.recorded u) (hls : ∀ m ∈ ls, m ∈ lanesOf u) (hl : l ∈ ls)
    (h : laneTrains (s.laneOf u) = true) : ((s.lockLost u ls).hsOf u l).lost := by
  rw [lockLost_trains ls h]
  exact (sendTrns_keepsUnit u ls _).lost (dropLocks_hs hrec hls (hls l hl) (.inl hl))

/-! ### LNREF -/

/-- LNREF as it reads. -/
def State.setLnref (s : State) (b : Bool) : State := { s with pins := { s.pins with lnref := b } }

theorem setLnref_regs (s : State) (b : Bool) : (s.setLnref b).regs = s.regs := rfl

theorem setLnref_laneOf (s : State) (b : Bool) : (s.setLnref b).laneOf u = s.laneOf u := by
  unfold State.laneOf State.fget State.rd
  rw [setLnref_regs]

/-- LNREF is gone, TILE_REFOUT tells it, and EVT. -/
def State.refTold (s : State) : State :=
  if (s.setLnref false).domOn 6 then
    ((s.setLnref false).fsetb R.TILE_REFOUT_LNREF_LOST true).eventDev 0x06 0x0060 (u8 0xFF ++ u8 0x0B ++ leBytes 4 0)
  else s.setLnref false

/-- The units that lose lock with LNREF. -/
def State.refUnits (s : State) : List Nat := (List.range 26).filter fun u => s.unitOn u && !s.legacyUnit u

/-- Fault 25 for the units that lose lock. -/
def State.refFault (s : State) : State :=
  ({ s with safe := { s.safe with refLanes := maskOf (s.refUnits.filter fun u => s.laneOf u != laneOff) } }).raise 25 0 0

theorem xLnrefLost_eq (h : s.pins.lnref = true) :
    xLnrefLost s = overList (fun u w => w.lockLost u (lanesOf u)) s.refTold.refUnits s.refTold.refFault := by
  unfold xLnrefLost
  rw [if_neg (by rw [h]; decide)]
  rfl

theorem refTold_keepsUnit (s : State) : KeepsUnit u (s.setLnref false) s.refTold :=
  .ite ((fsetb_keepsUnit refout_beside _ _).trans (eventDev_keepsUnit _ _ _ _)) (.refl _)

theorem safe_keepsUnit (c : SafeSt) (s : State) : KeepsUnit u s { s with safe := c } := .of_parts rfl rfl rfl rfl

theorem refFault_keepsUnit (s : State) : KeepsUnit u s s.refFault :=
  .trans (safe_keepsUnit _ s) (raise_keepsUnit (by decide) _ _ _)

theorem refUnits_mem (hu : u < 26) (hon : s.unitOn u = true) (hleg : s.legacyUnit u = false) : u ∈ s.refUnits :=
  List.mem_filter.2 ⟨List.mem_range.2 hu, by rw [hon, hleg]; rfl⟩

theorem refUnits_lt (h : u ∈ s.refUnits) : u < 26 := List.mem_range.1 (List.mem_filter.1 h).1

/-- A unit that loses lock with LNREF: the state that its lock is lost in, and what stands in the end. -/
theorem xLnrefLost_at (hu : u < 26) (h : s.pins.lnref = true) (hon : s.unitOn u = true) (hleg : s.legacyUnit u = false) :
    ∃ a, KeepsUnit u (s.setLnref false) a ∧ KeepsUnit u (a.lockLost u (lanesOf u)) (xLnrefLost s) := by
  have htold : KeepsUnit u (s.setLnref false) s.refTold := refTold_keepsUnit s
  have hmem : u ∈ s.refTold.refUnits := refUnits_mem hu ((htold.unitOn u).trans hon) (htold.legacyUnit.trans hleg)
  obtain ⟨a, ha, hk⟩ := overList_at (f := fun u w => w.lockLost u (lanesOf u)) (List.nodup_range.filter _) hmem
    (fun i hi hne w => lockLost_apart (refUnits_lt hi) (Ne.symm hne) _ w) s.refTold.refFault
  rw [xLnrefLost_eq h]
  exact ⟨a, (htold.trans (refFault_keepsUnit _)).trans ha, hk⟩

theorem xLnrefLost_lnref (h : s.pins.lnref = true) : (xLnrefLost s).pins.lnref = false := by
  have hall : KeepsUnit 26 s.refTold.refFault (overList (fun u w => w.lockLost u (lanesOf u)) s.refTold.refUnits s.refTold.refFault) :=
    .overList _ _ (fun i hi w => lockLost_apart (refUnits_lt hi) (by have := refUnits_lt hi; omega) _ w) _
  rw [xLnrefLost_eq h, hall.lnref, (refFault_keepsUnit (u := 26) _).lnref, (refTold_keepsUnit (u := 26) s).lnref]
  rfl

/-- The lane states after the loss of LNREF. -/
theorem xLnrefLost_laneOf (hu : u < 26) (h : s.pins.lnref = true) (hon : s.unitOn u = true) (hleg : s.legacyUnit u = false) :
    (laneIsUp (s.laneOf u) = true → (xLnrefLost s).laneOf u = laneRetrain) ∧ (s.laneOf u = laneLinked → (xLnrefLost s).laneOf u = laneTrain)
      ∧ (laneTrains (s.laneOf u) = true → (xLnrefLost s).laneOf u = s.laneOf u) := by
  obtain ⟨a, ha, hk⟩ := xLnrefLost_at hu h hon hleg
  have hlane : a.laneOf u = s.laneOf u := (ha.laneOf hu).trans (setLnref_laneOf s false)
  rw [hk.laneOf hu, ← hlane]
  refine ⟨fun hup => ?_, lockLost_linked hu _, lockLost_trains_laneOf hu _⟩
  rw [lockLost_up _ hup]
  exact loseActive_laneOf hu _

theorem xLnrefLost_hs (hu : u < 26) (hs : s.shape) (h : s.pins.lnref = true) (hon : s.unitOn u = true) (hleg : s.legacyUnit u = false)
    (hl : l ∈ lanesOf u) (ht : laneTrains (s.laneOf u) = true) : ((xLnrefLost s).hsOf u l).lost := by
  obtain ⟨a, ha, hk⟩ := xLnrefLost_at hu h hon hleg
  have hlane : a.laneOf u = s.laneOf u := (ha.laneOf hu).trans (setLnref_laneOf s false)
  exact hk.lost (lockLost_trains_hs (ha.recorded.2 (recorded_of_shape hs hu)) (fun _ hm => hm) hl (by rw [hlane]; exact ht))

/-- The reference returns: every unit's lanes train again as they stand. -/
theorem xLnrefReturn_keepsUnit (h : s.pins.lnref = false) : KeepsUnit u (s.setLnref true) (xLnrefReturn s) := by
  unfold xLnrefReturn
  rw [if_neg (by rw [h]; decide)]
  have hall : KeepsUnit u (s.setLnref true) (overList (fun u w => if w.unitOn u && laneTrains (w.laneOf u) then w.startTrn u else w) (List.range 26) (s.setLnref true)) :=
    .overList _ _ (fun i _ w => .ite (startTrn_keepsUnit i w) (.refl w)) _
  exact hall.trans (refOver_keepsUnit _)

/-! ### Electrical idle -/

theorem xIdleEntry_lane (hp : p < 24) (h : (s.portOn p && s.lane p == laneActive && !s.legacy p && (!s.boundEnabled p || !s.owns p) && !s.totHolds p
      && (s.port p).unres.isEmpty && (s.port p).outQ.isEmpty && (s.port p).ctrlQ.isEmpty) = true) : (xIdleEntry p s).lane p = laneIdle := by
  unfold xIdleEntry
  rw [if_pos h, ← laneOf_tile hp]
  exact setLane_laneOf (by omega) (by decide) _

/-! ### Legacy mode -/

theorem logRefused_keepsUnit (addr value : Nat) (classC : Bool) (s : State) : KeepsUnit u s (s.logRefused addr value classC) := by
  have hset : ∀ {f : Fld} (n : Nat) (w : State), f.addr / 0x10000 = 0 → KeepsUnit u w (w.fset f n) := fun n w hf =>
    fset_keepsUnit (block_beside (by omega)) n w
  unfold State.logRefused
  extract_lets a b fresh
  have ha : KeepsUnit u s a := (hset _ s rfl).trans (hset _ _ rfl)
  have hb : KeepsUnit u a b := (hset _ a rfl).trans (hset _ _ rfl)
  have hat : KeepsUnit u b { b with host := { b.host with wrefAt := some b.ticks } } := .of_parts rfl rfl rfl rfl
  exact (ha.trans hb).trans (.ite (hat.trans (eventDev_keepsUnit _ _ _ _)) (.refl b))

/-- A write of LEGACY that EN refuses is logged. -/
def State.legacyLogged (s : State) (p : Nat) (on : Bool) : State :=
  if s.fbit (R.TILE_LANE_CTRL_EN p) && s.legacy p != on then
    s.logRefused (0x60000 + 0x800 * p) (wordSet (s.rd (0x60000 + 0x800 * p)) 1 1 (b2n on)).toNat false
  else s

theorem legacyWrite_eq (p : Nat) (on : Bool) (s : State) : legacyWrite p on s = xLegacyEnable p on (s.legacyLogged p on) := rfl

theorem legacyLogged_keepsUnit (p : Nat) (on : Bool) (s : State) : KeepsUnit u s (s.legacyLogged p on) := .ite (logRefused_keepsUnit _ _ _ s) (.refl s)

theorem legacyLogged_off {on : Bool} (h : s.fbit (R.TILE_LANE_CTRL_EN p) = false) : s.legacyLogged p on = s := if_neg (by rw [h]; simp)

theorem showLegDn_keepsUnit (hp : p < 24) (s : State) : KeepsUnit u s (s.showLegDn p) := fset_keepsUnit (portReg_beside 0x108 hp (by decide) (by decide)) _ s

/-- A write of LEGACY that cannot take effect. -/
theorem xLegacyEnable_refused (hon : s.portOn p = true) (h : s.legacyFits p = false) :
    xLegacyEnable p true s = s.fsetb (R.TILE_LANE_STATUS_LEGACY_REFUSED p) true := by
  unfold xLegacyEnable
  rw [if_neg (by rw [hon]; decide), if_pos (by rw [h]; rfl)]

/-- A write of LEGACY that takes effect. -/
theorem xLegacyEnable_taken (hon : s.portOn p = true) (h : s.legacyFits p = true) (hen : s.fbit (R.TILE_LANE_CTRL_EN p) = false) :
    xLegacyEnable p true s = ((s.fsetb (R.TILE_LANE_CTRL_LEGACY p) true).fsetb (R.TILE_LANE_STATUS_LEGACY_REFUSED p) false).showLegDn p := by
  unfold xLegacyEnable
  rw [if_neg (by rw [hon]; decide), if_neg (by rw [h]; decide), if_neg (by rw [hen]; decide), if_pos rfl]

theorem legacyTaken_acts (hp : p < 24) (hen : s.fbit (R.TILE_LANE_CTRL_EN p) = false) :
    (((s.fsetb (R.TILE_LANE_CTRL_LEGACY p) true).fsetb (R.TILE_LANE_STATUS_LEGACY_REFUSED p) false).showLegDn p).fbit (R.TILE_LANE_CTRL_LEGACY p) = true
      ∧ (((s.fsetb (R.TILE_LANE_CTRL_LEGACY p) true).fsetb (R.TILE_LANE_STATUS_LEGACY_REFUSED p) false).showLegDn p).fbit (R.TILE_LANE_STATUS_LEGACY_REFUSED p) = false
      ∧ (((s.fsetb (R.TILE_LANE_CTRL_LEGACY p) true).fsetb (R.TILE_LANE_STATUS_LEGACY_REFUSED p) false).showLegDn p).fbit (R.TILE_LANE_CTRL_EN p) = false := by
  have hrefused : ∀ {f : Fld} (w : State), f.addr = 0x60000 + p * 0x800 → (w.fsetb (R.TILE_LANE_STATUS_LEGACY_REFUSED p) false).fbit f = w.fbit f := fun w hf =>
    fbit_fset_addr _ _ _ _ (by rw [hf]; simp only [R.TILE_LANE_STATUS_LEGACY_REFUSED]; omega)
  rw [fbit_tile (showLegDn_keepsUnit hp _) 0 hp rfl (by decide), fbit_tile (showLegDn_keepsUnit hp _) 0x10 hp rfl (by decide),
    fbit_tile (showLegDn_keepsUnit hp _) 0 hp rfl (by decide), hrefused (f := R.TILE_LANE_CTRL_LEGACY p) _ rfl,
    hrefused (f := R.TILE_LANE_CTRL_EN p) _ rfl]
  exact ⟨fbit_fsetb_self _ _ _ rfl rfl, fbit_fsetb_self _ _ _ rfl rfl, (fbit_fsetb_beside _ _ _ _ rfl rfl rfl).trans hen⟩

/-- LEGACY cleared. -/
theorem xLegacyEnable_cleared (hp : p < 24) (hon : s.portOn p = true) (hen : s.fbit (R.TILE_LANE_CTRL_EN p) = false) :
    (xLegacyEnable p false s).fbit (R.TILE_LANE_CTRL_LEGACY p) = false ∧ (xLegacyEnable p false s).fbit (R.TILE_LANE_CTRL_EN p) = false := by
  unfold xLegacyEnable
  rw [if_neg (by rw [hon]; decide), if_neg (by simp), if_neg (by rw [hen]; decide), if_neg (by decide)]
  split
  · rw [fbit_tile (showLegDn_keepsUnit hp _) 0 hp rfl (by decide), fbit_tile (showLegDn_keepsUnit hp _) 0 hp rfl (by decide)]
    exact ⟨fbit_fsetb_self _ _ _ rfl rfl, (fbit_fsetb_beside _ _ _ _ rfl rfl rfl).trans hen⟩
  · rename_i hleg
    exact ⟨Bool.eq_false_iff.2 hleg, hen⟩

/-- A write of LEGACY leaves EN set as it stands. -/
theorem xLegacyEnable_locked (hp : p < 24) (on : Bool) (hen : s.fbit (R.TILE_LANE_CTRL_EN p) = true) :
    (xLegacyEnable p on s).fbit (R.TILE_LANE_CTRL_LEGACY p) = s.fbit (R.TILE_LANE_CTRL_LEGACY p) ∧ (xLegacyEnable p on s).lane p = s.lane p := by
  unfold xLegacyEnable
  split
  · exact ⟨rfl, rfl⟩
  split
  · rw [← laneOf_tile hp, ← laneOf_tile hp]
    exact ⟨fbit_fset_addr _ _ _ _ (by simp only [R.TILE_LANE_CTRL_LEGACY, R.TILE_LANE_STATUS_LEGACY_REFUSED]; omega), laneOf_fset_above rfl _ _⟩
  · exact ⟨rfl, rfl⟩

theorem legacyFits_of (hev : p % 2 = 0) (hlo : 6 ≤ p) (hhi : p ≤ 22) (hen : s.fbit (R.TILE_LANE_CTRL_EN (p + 1)) = false) : s.legacyFits p = true := by
  unfold State.legacyFits
  rw [hev, decide_eq_true hlo, decide_eq_true hhi, hen]
  rfl

theorem not_legacyFits (h : p % 2 = 1 ∨ p < 6 ∨ 22 < p ∨ s.fbit (R.TILE_LANE_CTRL_EN (p + 1)) = true) : s.legacyFits p = false := by
  unfold State.legacyFits
  obtain h | h | h | h := h
  · simp [h]
  · simp [show ¬ 6 ≤ p by omega]
  · simp [show ¬ p ≤ 22 by omega]
  · simp [h]

/-- The log of a refused write changes nothing of whether LEGACY fits. -/
theorem legacyLogged_misfits (on : Bool) (h : p % 2 = 1 ∨ p < 6 ∨ 22 < p ∨ s.fbit (R.TILE_LANE_CTRL_EN (p + 1)) = true) :
    (s.legacyLogged p on).legacyFits p = false := by
  rcases Nat.lt_or_ge 22 p with hp | hp
  · exact not_legacyFits (.inr (.inr (.inl hp)))
  · refine not_legacyFits (h.imp_right (Or.imp_right (Or.imp_right fun hen => ?_)))
    rw [fbit_tile (legacyLogged_keepsUnit p on s) 0 (by omega) rfl (by decide)]
    exact hen

/-! ### TILE_ALERT_N -/

/-- The pin of a legacy port's partner. -/
def State.partnerPin (s : State) (p : Nat) : Bool := decide (p % 2 = 1) && s.legacy (p - 1)

theorem alertPin_partner (low : Bool) (h : s.partnerPin p = true) : s.alertPin p low = s := if_pos h

/-- TILE_ALERT_N as it reads. -/
def State.setAlert (s : State) (p : Nat) (low : Bool) : State := { s with pins := { s.pins with tileAlert := maskSet s.pins.tileAlert p low } }

theorem setAlert_keepsUnit (p : Nat) (low : Bool) (s : State) : KeepsUnit u s (s.setAlert p low) := .of_parts rfl rfl rfl rfl

theorem alertFault_keepsUnit (s : State) : KeepsUnit u s (if s.pins.tileAlert = 0 then s.clearFault 24 else s) := .ite (clearFault_keepsUnit 24 s) (.refl s)

/-- STATUS.ALERT of a port that is on shows its pin. -/
def State.showAlert (s : State) (p : Nat) (low : Bool) : State := if s.portOn p then s.fsetb (R.TILE_LANE_STATUS_ALERT p) low else s

theorem alertPin_shown (low : Bool) (h : s.partnerPin p = false) : KeepsUnit u ((s.setAlert p low).showAlert p low) (s.alertPin p low) := by
  unfold State.alertPin
  rw [if_neg (by rw [show (decide (p % 2 = 1) && s.legacy (p - 1)) = false from h]; decide)]
  exact alertFault_keepsUnit _

theorem showAlert_laneOf (low : Bool) (s : State) : (s.showAlert p low).laneOf u = s.laneOf u := by
  unfold State.showAlert
  split
  · exact laneOf_fset_above rfl _ _
  · rfl

theorem alertPin_alert (hp : p < 24) (low : Bool) (hon : s.portOn p = true) (h : s.partnerPin p = false) :
    (s.alertPin p low).fbit (R.TILE_LANE_STATUS_ALERT p) = low := by
  have hset : (s.setAlert p low).portOn p = true := ((setAlert_keepsUnit (u := p) p low s).portOn p).trans hon
  rw [fbit_tile (alertPin_shown low h) 0x10 hp rfl (by decide), State.showAlert, if_pos hset]
  exact fbit_fsetb_self _ _ _ rfl rfl

theorem alertPin_lane (hp : p < 24) (low : Bool) (s : State) : (s.alertPin p low).lane p = s.lane p := by
  cases h : s.partnerPin p with
  | true => rw [alertPin_partner low h]
  | false => rw [(alertPin_shown low h).lane hp, ← laneOf_tile hp, showAlert_laneOf, (setAlert_keepsUnit p low s).laneOf (by omega), laneOf_tile hp]

theorem alertPin_status (hp : p < 24) (low : Bool) (s : State) : OnlyRegs (statusReg p) s (s.alertPin p low) := by
  cases h : s.partnerPin p with
  | true => rw [alertPin_partner low h]; exact .refl s
  | false =>
    have hshow : OnlyRegs (statusReg p) (s.setAlert p low) ((s.setAlert p low).showAlert p low) :=
      .ite ((Within.refl _).fsetb (.inl (tile_addr hp rfl))) (.refl _)
    exact ((setAlert_keepsUnit p low s).status.trans hshow).trans (alertPin_shown low h).status

theorem power_not_statusReg (hp : p < 24) : ¬ statusReg p 0x20024 := by
  rintro (h | h)
  · rw [laneCtrl_tile hp] at h; omega
  · exact h (.inl rfl)

theorem alertPin_portOn (hp : p < 24) (low : Bool) (s : State) : (s.alertPin p low).portOn p = s.portOn p := by
  have hk := alertPin_status hp low s
  unfold State.portOn State.domOn
  rw [hk.fget R.PWR_DOM_STATUS_ON (power_not_statusReg hp), hk.fbit R.PWR_DOM_STATUS_TLA_LIMP (power_not_statusReg hp)]

theorem alertPin_legacy (hp : p < 24) (low : Bool) (s : State) : (s.alertPin p low).legacy p = s.legacy p :=
  (alertPin_status hp low s).fbit _ (by rw [tile_addr hp rfl (k := 0)]; exact not_statusReg (by omega) (by decide) (by decide))

theorem portActive_lane (hp : p < 24) (event : Bool) (s : State) : (s.portActive p event).lane p = laneActive := by
  have hlane : (s.setLane p laneActive).laneOf p = laneActive := setLane_laneOf (by omega) (by decide) s
  rw [(portActive_keepsUnit (u := p) hp event (lane_awake hp hlane (by decide))).lane hp, ← laneOf_tile hp, hlane]

/-- A port that comes to ACTIVE shows what it showed beside STATE. -/
theorem portActive_beside {f : Fld} (hp : p < 24) (event : Bool) (ha : f.addr = 0x60010 + p * 0x800) (h : f.aboveState = true) (s : State) :
    (s.portActive p event).fget f = s.fget f := by
  have hlane : (s.setLane p laneActive).laneOf p = laneActive := setLane_laneOf (by omega) (by decide) s
  rw [fget_tile (portActive_keepsUnit (u := p) hp event (lane_awake hp hlane (by decide))) 0x10 hp ha (by decide),
    setLane_beside (by omega) (tile_addr hp ha) h]

theorem xLegacyActive_eq (hon : s.portOn p = true) (hleg : s.legacy p = true) (h : s.lane p = laneTrain) :
    xLegacyActive p s = (s.alertPin p false).portActive p true := if_pos (by rw [hon, hleg, h]; rfl)

theorem xLegacyActive_none (h : s.portOn p = false ∨ s.legacy p = false ∨ s.lane p ≠ laneTrain) : xLegacyActive p s = s :=
  if_neg (by obtain h | h | h := h <;> simp [h])

/-- TILE_ALERT_N beyond the pin itself. -/
theorem xLegacyAlert_keepsUnit (low : Bool) (s : State) : KeepsUnit u (s.alertPin p low) (xLegacyAlert p low s) :=
  .ite ((linkEvent_keepsUnit p 9 0 _).trans (raise_keepsUnit (by decide) _ _ _)) (.refl _)

theorem xLegacyAlert_none (hp : p < 24) {low : Bool} (h : low = false ∨ s.portOn p = false ∨ s.legacy p = false ∨ s.lane p ≠ laneActive) :
    xLegacyAlert p low s = s.alertPin p low := by
  unfold xLegacyAlert
  dsimp only
  rw [alertPin_portOn hp, alertPin_legacy hp, alertPin_lane hp]
  exact if_neg (by obtain h | h | h | h := h <;> simp [h])

theorem xLegacyAlertRetrain_lane (hp : p < 24) (hon : s.portOn p = true) (hleg : s.legacy p = true) (h : s.lane p = laneActive) :
    (xLegacyAlertRetrain p s).lane p = laneTrain := by
  unfold xLegacyAlertRetrain
  rw [if_pos (by rw [hon, hleg, h]; rfl), ← laneOf_tile hp]
  exact enterTrain_laneOf (by omega) _

theorem partnerPin_eq_false (h : p % 2 = 0 ∨ s.legacy (p - 1) = false) : s.partnerPin p = false := by
  unfold State.partnerPin
  obtain h | h := h <;> simp [h]

/-- What a legacy port's ALERT shows as it comes to ACTIVE. -/
theorem xLegacyActive_acts (hp : p < 24) (hon : s.portOn p = true) (hleg : s.legacy p = true) (h : s.lane p = laneTrain) :
    (xLegacyActive p s).lane p = laneActive ∧ ((xLegacyActive p s).fbit (R.TILE_LANE_STATUS_ALERT p)
      = if p % 2 = 1 ∧ s.legacy (p - 1) = true then s.fbit (R.TILE_LANE_STATUS_ALERT p) else false) := by
  have hshown : (xLegacyActive p s).fbit (R.TILE_LANE_STATUS_ALERT p) = (s.alertPin p false).fbit (R.TILE_LANE_STATUS_ALERT p) := by
    rw [xLegacyActive_eq hon hleg h]
    unfold State.fbit
    rw [portActive_beside hp true rfl rfl]
  rw [hshown, xLegacyActive_eq hon hleg h]
  refine ⟨portActive_lane hp true _, ?_⟩
  split
  · rename_i hpart
    rw [alertPin_partner false (by unfold State.partnerPin; simp [hpart])]
  · rename_i hpart
    exact alertPin_alert hp false hon (Bool.eq_false_iff.2 fun e => hpart (by unfold State.partnerPin at e; simpa using e))

/-- Settles O21: each unit in its turn as LNREF goes and comes, the legacy commands by the fields they write. -/
theorem idleAndReferenceAct : Obligations.IdleAndReferenceAct := by
  unfold Obligations.IdleAndReferenceAct
  refine ⟨?_, ?_, ?_, ?_, ?_, ?_, ?_, ?_, ?_, ?_, ?_, ?_, ?_, ?_, ?_, ?_, ?_, ?_⟩
  · intro s p h
    refine ⟨s.after (xIdleEntry p s), rfl, ?_⟩
    rw [(after_keepsUnit s _).lane p.isLt]
    exact xIdleEntry_lane p.isLt h
  · intro s p h
    exact ⟨_, rfl, congrArg s.after (if_neg (by rw [h]; decide))⟩
  · intro s u h hon hleg
    refine ⟨s.after (xLnrefLost s), rfl, ?_⟩
    rw [(after_keepsUnit (u := u) s _).lnref, (after_keepsUnit s _).laneOf u.isLt]
    exact ⟨xLnrefLost_lnref h, xLnrefLost_laneOf u.isLt h hon hleg⟩
  · intro s u l hs h hon hleg hl ht
    exact ⟨s.after (xLnrefLost s), rfl, (after_keepsUnit s _).lost (xLnrefLost_hs u.isLt hs h hon hleg hl ht)⟩
  · intro s h
    exact ⟨_, rfl, congrArg s.after (if_pos (by rw [h]; rfl))⟩
  · intro s h
    refine ⟨s.after (xLnrefReturn s), rfl, ?_, fun u hu => ?_⟩
    · rw [(after_keepsUnit (u := 0) s _).lnref, (xLnrefReturn_keepsUnit (u := 0) h).lnref]
      rfl
    · rw [(after_keepsUnit s _).laneOf hu, (xLnrefReturn_keepsUnit h).laneOf hu, setLnref_laneOf]
  · intro s h
    exact ⟨_, rfl, congrArg s.after (if_pos h)⟩
  · intro s p h5 hb hen
    have hk : KeepsUnit p (legacyWrite p false s) (s.after (s.barWrite (0x60000 + 0x800 * p.val) fun s => legacyWrite p false s)) := barWrite_keepsUnit _ h5 hb
    refine ⟨s.after (s.barWrite (0x60000 + 0x800 * p.val) fun s => legacyWrite p false s), rfl, ?_⟩
    rw [fbit_tile hk 0 p.isLt rfl (by decide), fbit_tile hk 0 p.isLt rfl (by decide), legacyWrite_eq, legacyLogged_off hen]
    exact xLegacyEnable_cleared p.isLt (portOn_of_blockOff (k := 0) p.isLt (by decide) hb) hen
  · intro s p h5 hb hen hev hlo hhi hpart
    have hk : KeepsUnit p (legacyWrite p true s) (s.after (s.barWrite (0x60000 + 0x800 * p.val) fun s => legacyWrite p true s)) := barWrite_keepsUnit _ h5 hb
    refine ⟨s.after (s.barWrite (0x60000 + 0x800 * p.val) fun s => legacyWrite p true s), rfl, ?_⟩
    rw [fbit_tile hk 0 p.isLt rfl (by decide), fbit_tile hk 0x10 p.isLt rfl (by decide), fbit_tile hk 0 p.isLt rfl (by decide), legacyWrite_eq,
      legacyLogged_off hen, xLegacyEnable_taken (portOn_of_blockOff (k := 0) p.isLt (by decide) hb) (legacyFits_of hev hlo hhi hpart) hen]
    exact legacyTaken_acts p.isLt hen
  · intro s p h5 hb h
    have hk : KeepsUnit p (legacyWrite p true s) (s.after (s.barWrite (0x60000 + 0x800 * p.val) fun s => legacyWrite p true s)) := barWrite_keepsUnit _ h5 hb
    have hlog : KeepsUnit p s (s.legacyLogged p true) := legacyLogged_keepsUnit p true s
    have hon := (hlog.portOn p).trans (portOn_of_blockOff (k := 0) p.isLt (by decide) hb)
    refine ⟨s.after (s.barWrite (0x60000 + 0x800 * p.val) fun s => legacyWrite p true s), rfl, ?_⟩
    rw [fbit_tile hk 0x10 p.isLt rfl (by decide), fbit_tile hk 0 p.isLt rfl (by decide), legacyWrite_eq, xLegacyEnable_refused hon (legacyLogged_misfits true h),
      ← fbit_tile hlog (f := R.TILE_LANE_CTRL_LEGACY p) 0 p.isLt rfl (by decide)]
    exact ⟨fbit_fsetb_self _ _ _ rfl rfl, fbit_fset_addr _ _ _ _ (by simp only [R.TILE_LANE_CTRL_LEGACY, R.TILE_LANE_STATUS_LEGACY_REFUSED]; omega)⟩
  · intro s p on h5 hb hen
    have hk : KeepsUnit p (legacyWrite p on s) (s.after (s.barWrite (0x60000 + 0x800 * p.val) fun s => legacyWrite p on s)) := barWrite_keepsUnit _ h5 hb
    have hlog : KeepsUnit p s (s.legacyLogged p on) := legacyLogged_keepsUnit p on s
    refine ⟨s.after (s.barWrite (0x60000 + 0x800 * p.val) fun s => legacyWrite p on s), rfl, ?_⟩
    rw [fbit_tile hk 0 p.isLt rfl (by decide), hk.lane p.isLt, legacyWrite_eq, ← fbit_tile hlog (f := R.TILE_LANE_CTRL_LEGACY p) 0 p.isLt rfl (by decide),
      ← hlog.lane p.isLt]
    exact xLegacyEnable_locked p.isLt on ((fbit_tile hlog 0 p.isLt rfl (by decide)).trans hen)
  · intro s p hon hleg h
    refine ⟨s.after (xLegacyActive p s), rfl, ?_⟩
    rw [(after_keepsUnit s _).lane p.isLt, fbit_tile (after_keepsUnit s _) 0x10 p.isLt rfl (by decide)]
    exact xLegacyActive_acts p.isLt hon hleg h
  · intro s p h
    exact ⟨_, rfl, congrArg s.after (xLegacyActive_none h)⟩
  · intro s p low hon h
    refine ⟨s.after (xLegacyAlert p low s), rfl, ?_⟩
    rw [(after_keepsUnit s _).lane p.isLt, fbit_tile (after_keepsUnit s _) 0x10 p.isLt rfl (by decide), (xLegacyAlert_keepsUnit low s).lane p.isLt,
      fbit_tile (xLegacyAlert_keepsUnit low s) 0x10 p.isLt rfl (by decide)]
    exact ⟨alertPin_alert p.isLt low hon (partnerPin_eq_false h), alertPin_lane p.isLt low s⟩
  · intro s p low h
    exact ⟨_, rfl, congrArg s.after (xLegacyAlert_none p.isLt h)⟩
  · intro s p hon hleg h
    refine ⟨s.after (xLegacyAlertRetrain p s), rfl, ?_⟩
    rw [(after_keepsUnit s _).lane p.isLt]
    exact xLegacyAlertRetrain_lane p.isLt hon hleg h
  · intro s p h
    exact ⟨_, rfl, congrArg s.after (if_neg (by obtain h | h | h := h <;> simp [h]))⟩
  · intro s p on h
    exact ⟨_, rfl, congrArg s.after (barWrite_refused _ h)⟩

end Reference
end Sys2Proof.Machine

namespace Sys2Proof.Machine

section Training

/-! ## Training -/

variable {s t w : State} {u v p l m : Nat}

/-! ### Lane states apart -/

theorem trains_cases (h : laneTrains (s.laneOf u) = true) : s.laneOf u = laneTrain ∨ s.laneOf u = laneRateTrain ∨ s.laneOf u = laneRetrain := by
  unfold laneTrains at h
  simpa [or_assoc] using h

theorem not_up_of_trains (h : laneTrains (s.laneOf u) = true) : laneIsUp (s.laneOf u) = false := by
  obtain h | h | h := trains_cases h <;> rw [h] <;> rfl

theorem not_trains_of_up (h : laneIsUp (s.laneOf u) = true) : laneTrains (s.laneOf u) = false := by
  cases ht : laneTrains (s.laneOf u) with
  | false => rfl
  | true => rw [not_up_of_trains ht] at h; exact absurd h (by decide)

theorem lanesOf_tile (hp : p < 24) : lanesOf p = [0] := if_pos hp

theorem lanesOf_nodup (u : Nat) : (lanesOf u).Nodup := by
  unfold lanesOf
  split <;> decide

/-! ### The handshake completes -/

/-- The state that a complete handshake of a tile port leads to (R234). -/
theorem portLinked_lane (hp : p < 24) (s : State) :
    (s.portLinked p).laneOf p = if s.laneOf p = laneTrain then laneLinked else laneActive := by
  rw [laneOf_tile hp, laneOf_tile hp s]
  unfold State.portLinked
  extract_lets st a
  by_cases htrain : st = laneTrain
  · rw [if_pos htrain, if_pos htrain]
    have hlane : (s.setLane p laneLinked).laneOf p = laneLinked := setLane_laneOf (by omega) (by decide) s
    have hseq : KeepsUnit p (s.setLane p laneLinked) ((s.setLane p laneLinked).seqRestart p) := seqRestart_keepsUnit hp (lane_awake hp hlane (by decide))
    rw [(hseq.trans (totEntry_keepsUnit hp _)).lane hp, ← laneOf_tile hp, hlane]
  · rw [if_neg htrain, if_neg htrain]
    split
    · exact portActive_lane hp true s
    · exact portActive_lane hp false a

theorem tryLink_none (h : s.handshakeDone u = false) : s.tryLink u = s := if_neg (by rw [h]; simp)

/-- A handshake that is not complete on some lane. -/
theorem not_handshakeDone (hl : l ∈ lanesOf u) (h : (s.hsOf u l).complete = false) : s.handshakeDone u = false := by
  unfold State.handshakeDone
  rw [Bool.and_eq_false_iff]
  exact .inl (List.all_eq_false.2 ⟨l, hl, by rw [h]; decide⟩)

theorem not_complete_of_rx {h : Handshake} (hrx : h.trn1Rx < 8) : h.complete = false := by
  unfold Handshake.complete
  rw [decide_eq_false (p := 8 ≤ h.trn1Rx) (by omega)]
  simp

theorem handshakeDone_tile (hp : p < 24) (h : (s.hsOf p 0).complete = true) : s.handshakeDone p = true := by
  unfold State.handshakeDone
  rw [lanesOf_tile hp, decide_eq_true hp]
  simp [h]

theorem tryLink_tile (hp : p < 24) (ht : laneTrains (s.laneOf p) = true) (h : (s.hsOf p 0).complete = true) : s.tryLink p = s.portLinked p := by
  unfold State.tryLink
  rw [if_pos (by rw [ht, handshakeDone_tile hp h]; rfl), if_pos hp]

/-! ### What receivers take -/

/-- The registers, and each handshake, stand as they did. -/
theorem takeSymbols_regs (u : Nat) (rx0 rx1 : List RxSymbol) (s : State) : (s.takeSymbols u rx0 rx1).regs = s.regs :=
  foldl_regs (fun _ _ => setRx_regs _ _ _ _) _ s

theorem takeSymbols_laneOf (rx0 rx1 : List RxSymbol) (s : State) : (s.takeSymbols u rx0 rx1).laneOf u = s.laneOf u := by
  unfold State.laneOf State.fget State.rd
  rw [takeSymbols_regs]

theorem takeSymbols_hsOf (rx0 rx1 : List RxSymbol) (s : State) : (s.takeSymbols u rx0 rx1).hsOf u m = s.hsOf u m :=
  foldl_rel (R := fun s t => t.hsOf u m = s.hsOf u m) (fun _ => rfl) (fun h k => k.trans h) _ _ (fun w l _ => setRx_hsOf _ l w) s

theorem takeSymbols_recorded (rx0 rx1 : List RxSymbol) (s : State) : (s.takeSymbols u rx0 rx1).recorded v ↔ s.recorded v :=
  foldl_rel (R := fun s t => t.recorded v ↔ s.recorded v) (fun _ => Iff.rfl) (fun h k => k.trans h) _ _ (fun w l _ => setRx_recorded _ l w) s

theorem setRxs_rxOf {f : Nat → Receiver → Receiver} {ls : List Nat} (hrec : s.recorded u) (hnd : ls.Nodup) (hls : ∀ m ∈ ls, m ∈ lanesOf u) (hl : l ∈ lanesOf u) :
    (ls.foldl (fun w m => w.setRx u m (f m)) s).rxOf u l = if l ∈ ls then f l (s.rxOf u l) else s.rxOf u l := by
  induction ls generalizing s with
  | nil => rfl
  | cons m ls ih =>
    obtain ⟨hm, hnd⟩ := List.nodup_cons.1 hnd
    rw [List.foldl_cons, ih ((setRx_recorded _ _ _).2 hrec) hnd fun i hi => hls i (List.mem_cons_of_mem m hi)]
    by_cases he : l = m
    · subst he
      rw [if_neg hm, if_pos List.mem_cons_self, setRx_rxOf hrec]
    · rw [setRx_rxOf_other (hls m List.mem_cons_self) hl he]
      simp only [List.mem_cons, he, false_or]

theorem takeSymbols_rxOf (hrec : s.recorded u) (hl : l ∈ lanesOf u) (rx0 rx1 : List RxSymbol) :
    (s.takeSymbols u rx0 rx1).rxOf u l = (s.rxOf u l).take (rxTaken rx0 rx1 l) := by
  unfold State.takeSymbols
  rw [setRxs_rxOf (f := fun m r => r.take (rxTaken rx0 rx1 m)) hrec (lanesOf_nodup u) (fun _ h => h) hl, if_pos hl]

/-! ### Lanes that start over -/

/-- One lane starts over in training: its handshake, and TRN0 goes out. -/
def State.restart (s : State) (u l : Nat) : State := (s.setHs u l fun h => { h with locked := false, trn1Rx := 0 }).sendTrn u l

theorem restart_laneOf (hu : u < 26) (l : Nat) (s : State) : (s.restart u l).laneOf u = s.laneOf u := by
  have hset : (s.setHs u l fun h => { h with locked := false, trn1Rx := 0 }).laneOf u = s.laneOf u := by
    unfold State.laneOf State.fget State.rd; rw [setHs_regs]
  exact ((sendTrn_keepsUnit u l _).laneOf hu).trans hset

theorem restart_recorded (l : Nat) (s : State) : (s.restart u l).recorded u ↔ s.recorded u :=
  ((sendTrn_keepsUnit (v := u) u l _).recorded).trans (setHs_recorded _ _ _)

theorem restart_rxOf (l : Nat) (s : State) : (s.restart u l).rxOf u m = s.rxOf u m :=
  ((sendTrn_keepsUnit u l _).rxOf m).trans (setHs_rxOf _ l s)

theorem restart_hs (hrec : s.recorded u) (hm : m ∈ lanesOf u) (hl : l ∈ lanesOf u) :
    ((s.restart u m).hsOf u l).still = if l = m then { locked := false, trn1Rx := 0 } else (s.hsOf u l).still := by
  refine ((sendTrn_keepsUnit u m _).hsOf l).trans ?_
  split
  · rename_i he
    subst he
    rw [setHs_hsOf hrec]
    rfl
  · rename_i hne
    rw [setHs_hsOf_other hm hl hne]

/-- Lanes of a unit start over one after another. -/
structure Restarts (u : Nat) (s t : State) : Prop where
  laneOf : t.laneOf u = s.laneOf u
  recorded : t.recorded u ↔ s.recorded u
  rxOf : ∀ m, t.rxOf u m = s.rxOf u m

theorem Restarts.refl (s : State) : Restarts u s s := ⟨rfl, Iff.rfl, fun _ => rfl⟩

theorem Restarts.trans (h : Restarts u s t) (k : Restarts u t w) : Restarts u s w :=
  ⟨k.laneOf.trans h.laneOf, k.recorded.trans h.recorded, fun m => (k.rxOf m).trans (h.rxOf m)⟩

theorem restart_restarts (hu : u < 26) (l : Nat) (s : State) : Restarts u s (s.restart u l) :=
  ⟨restart_laneOf hu l s, restart_recorded l s, fun _ => restart_rxOf l s⟩

theorem KeepsUnit.restarts (h : KeepsUnit u s t) (hu : u < 26) : Restarts u s t := ⟨h.laneOf hu, h.recorded, h.rxOf⟩

theorem restarts_restarts (hu : u < 26) (ls : List Nat) (s : State) : Restarts u s (ls.foldl (fun w l => w.restart u l) s) :=
  foldl_rel .refl .trans _ ls (fun w l _ => restart_restarts hu l w) s

/-- A lane whose handshake starts over. -/
theorem restarts_hs {ls : List Nat} (hrec : s.recorded u) (hls : ∀ m ∈ ls, m ∈ lanesOf u) (hl : l ∈ lanesOf u) :
    ((ls.foldl (fun w l => w.restart u l) s).hsOf u l).still = if l ∈ ls then { locked := false, trn1Rx := 0 } else (s.hsOf u l).still := by
  induction ls generalizing s with
  | nil => rfl
  | cons m ls ih =>
    rw [List.foldl_cons, ih ((restart_recorded m s).2 hrec) fun i hi => hls i (List.mem_cons_of_mem m hi),
      restart_hs hrec (hls m List.mem_cons_self) hl]
    by_cases hin : l ∈ ls
    · rw [if_pos hin, if_pos (List.mem_cons_of_mem m hin)]
    · simp only [List.mem_cons, hin, or_false, if_false]

/-! ### The skew of a link -/

/-- A unit's lane state, receivers and handshakes stand as they did. -/
structure SameLanes (u : Nat) (s t : State) : Prop extends Restarts u s t where
  hs : ∀ l, (t.hsOf u l).still = (s.hsOf u l).still

theorem SameLanes.refl (s : State) : SameLanes u s s := ⟨.refl s, fun _ => rfl⟩

theorem SameLanes.trans (h : SameLanes u s t) (k : SameLanes u t w) : SameLanes u s w :=
  ⟨h.toRestarts.trans k.toRestarts, fun l => (k.hs l).trans (h.hs l)⟩

theorem KeepsUnit.sameLanes (h : KeepsUnit u s t) (hu : u < 26) : SameLanes u s t := ⟨h.restarts hu, h.hsOf⟩

/-- A change of registers that leaves STATE. -/
theorem fset_sameLanes {f : Fld} {n : Nat} (h : (s.fset f n).laneOf u = s.laneOf u) : SameLanes u s (s.fset f n) :=
  ⟨⟨h, Iff.rfl, fun _ => rfl⟩, fun _ => rfl⟩

theorem fset_above_sameLanes {f : Fld} (h : f.aboveState = true) (n : Nat) (s : State) : SameLanes u s (s.fset f n) :=
  fset_sameLanes (laneOf_fset_above h n s)

theorem deskewFailed_sameLanes (hu : u < 26) (hl : ¬ u < 24) (s : State) : SameLanes u s (s.deskewFailed (linkOf u)) := by
  unfold State.deskewFailed
  extract_lets a
  have hfail : SameLanes u s (s.fadd (R.TWIN_LANE_EVT_DESKEW_FAILS (linkOf u)) 1) :=
    fset_sameLanes (laneOf_fset_addr (by rw [link_addr hl rfl (k := 0x18)]; omega) _ s)
  exact (hfail.trans (fset_above_sameLanes rfl _ _)).trans ((twinLinkEvent_keepsUnit _ _ _ a).sameLanes hu)

theorem measureSkew_sameLanes (hu : u < 26) (hl : ¬ u < 24) (skew : Int) (fresh : Bool) (s : State) :
    SameLanes u s (s.measureSkew (linkOf u) skew fresh) := by
  unfold State.measureSkew
  extract_lets a
  have ha : SameLanes u s a := fset_above_sameLanes rfl _ s
  refine ha.trans ?_
  split
  · exact fset_above_sameLanes rfl _ a
  split
  · exact deskewFailed_sameLanes hu hl a
  · exact fset_above_sameLanes rfl _ a

/-! ### Lock declared -/

/-- A lane whose receiver declares lock sends TRN1. -/
def State.lockOn (s : State) (u l : Nat) : State :=
  if (s.rxOf u l).locked && !(s.hsOf u l).locked then (s.setHs u l fun h => { h with locked := true }).sendTrn u l else s

theorem declareLock_eq (u : Nat) (s : State) : s.declareLock u = ((lanesOf u).foldl (fun w l => w.lockOn u l) s).tryLink u := rfl

theorem setHs_restarts (f : Handshake → Handshake) (l : Nat) (s : State) : Restarts u s (s.setHs u l f) :=
  ⟨by unfold State.laneOf State.fget State.rd; rw [setHs_regs], setHs_recorded _ _ _, fun _ => setHs_rxOf _ _ _⟩

theorem lockOn_restarts (hu : u < 26) (l : Nat) (s : State) : Restarts u s (s.lockOn u l) := by
  unfold State.lockOn
  split
  · exact (setHs_restarts _ l s).trans ((sendTrn_keepsUnit u l _).restarts hu)
  · exact .refl s

/-- What declaring lock on one lane leaves and sets of a lane's handshake. -/
theorem lockOn_hs (hrec : s.recorded u) (hm : m ∈ lanesOf u) (hl : l ∈ lanesOf u) :
    (((s.lockOn u m).hsOf u l).locked = true ↔ (s.hsOf u l).locked = true ∨ (l = m ∧ (s.rxOf u l).locked = true))
      ∧ ((s.lockOn u m).hsOf u l).trn1Rx = (s.hsOf u l).trn1Rx := by
  have hsend : ∀ w : State, KeepsUnit u w (w.sendTrn u m) := fun w => sendTrn_keepsUnit u m w
  unfold State.lockOn
  split
  · rename_i hon
    obtain ⟨hrx, -⟩ := Bool.and_eq_true_iff.1 hon
    rw [(hsend _).locked, (hsend _).trn1Rx]
    by_cases he : l = m
    · subst he
      rw [setHs_hsOf hrec]
      exact ⟨iff_of_true rfl (.inr ⟨rfl, hrx⟩), rfl⟩
    · rw [setHs_hsOf_other hm hl he]
      exact ⟨by simp [he], rfl⟩
  · rename_i hoff
    refine ⟨⟨.inl, fun h => h.elim id ?_⟩, rfl⟩
    rintro ⟨rfl, hrx⟩
    simpa [hrx] using hoff

/-- Which lanes are locked once lock has been declared: those that were, and those whose receivers declare it. -/
theorem lockOns_hs {ls : List Nat} (hu : u < 26) (hrec : s.recorded u) (hls : ∀ m ∈ ls, m ∈ lanesOf u) (hl : l ∈ lanesOf u) :
    (((ls.foldl (fun w l => w.lockOn u l) s).hsOf u l).locked = true ↔ (s.hsOf u l).locked = true ∨ (l ∈ ls ∧ (s.rxOf u l).locked = true))
      ∧ ((ls.foldl (fun w l => w.lockOn u l) s).hsOf u l).trn1Rx = (s.hsOf u l).trn1Rx := by
  induction ls generalizing s with
  | nil => simp
  | cons m ls ih =>
    have hstep := lockOn_restarts hu m s
    obtain ⟨hlock, hrx⟩ := lockOn_hs hrec (hls m List.mem_cons_self) hl
    obtain ⟨hlocks, hrxs⟩ := ih (hstep.recorded.2 hrec) fun i hi => hls i (List.mem_cons_of_mem m hi)
    refine ⟨?_, hrxs.trans hrx⟩
    rw [List.foldl_cons, hlocks, hstep.rxOf, hlock, List.mem_cons]
    tauto

theorem lockOns_restarts (hu : u < 26) (ls : List Nat) (s : State) : Restarts u s (ls.foldl (fun w l => w.lockOn u l) s) :=
  foldl_rel .refl .trans _ ls (fun w l _ => lockOn_restarts hu l w) s

end Training
end Sys2Proof.Machine

namespace Sys2Proof.Machine

section Locks

/-! ## Lock declared in training -/

variable {s t w : State} {u v p l m : Nat} {rx0 rx1 : List RxSymbol}

/-- The lanes that lose lock by the symbols they take. -/
def State.lostIn (s : State) (u : Nat) (rx0 rx1 : List RxSymbol) : List Nat :=
  (lanesOf u).filter fun l => (s.hsOf u l).locked && (s.rxOf u l).loses (rxTaken rx0 rx1 l)

/-- Symbols taken in training, the lanes that lose lock by them started over. -/
def State.taken (s : State) (u : Nat) (rx0 rx1 : List RxSymbol) : State :=
  (s.lostIn u rx0 rx1).foldl (fun w l => w.restart u l) (s.takeSymbols u rx0 rx1)

/-- The skew measured where both lanes of a link are locked. -/
def State.measured (s : State) (u : Nat) (skew : Int) : State :=
  if u < 24 || !s.rxLocked u then s
  else s.measureSkew (linkOf u) skew ((lanesOf u).any fun l => (s.rxOf u l).locked && !(s.hsOf u l).locked)

theorem xReceiverLock_eq (skew : Int) (hon : s.unitOn u = true) (href : s.pins.lnref = true) (hleg : s.legacyUnit u = false)
    (ht : laneTrains (s.laneOf u) = true) : xReceiverLock u rx0 rx1 skew s = ((s.taken u rx0 rx1).measured u skew).declareLock u := by
  unfold xReceiverLock
  rw [if_neg (by rw [hon, href, hleg, ht]; decide)]
  rfl

theorem xReceiverLock_none (skew : Int)
    (h : s.unitOn u = false ∨ s.legacyUnit u = true ∨ s.pins.lnref = false ∨ laneTrains (s.laneOf u) = false) :
    xReceiverLock u rx0 rx1 skew s = s := if_pos (by obtain h | h | h | h := h <;> simp [h])

theorem measured_sameLanes (hu : u < 26) (skew : Int) (s : State) : SameLanes u s (s.measured u skew) := by
  unfold State.measured
  split
  · exact .refl s
  · rename_i h
    exact measureSkew_sameLanes hu (by simp at h; omega) skew _ s

theorem lostIn_sub (s : State) : ∀ m ∈ s.lostIn u rx0 rx1, m ∈ lanesOf u := fun _ h => (List.mem_filter.1 h).1

/-- The lanes of a unit before it declares lock. -/
structure Taken (u : Nat) (rx0 rx1 : List RxSymbol) (s t : State) : Prop where
  laneOf : t.laneOf u = s.laneOf u
  recorded : t.recorded u
  rxOf : ∀ l ∈ lanesOf u, t.rxOf u l = (s.rxOf u l).take (rxTaken rx0 rx1 l)
  hs : ∀ l ∈ lanesOf u, (t.hsOf u l).still = if l ∈ s.lostIn u rx0 rx1 then { locked := false, trn1Rx := 0 } else (s.hsOf u l).still

theorem taken_acts (hu : u < 26) (hrec : s.recorded u) (skew : Int) : Taken u rx0 rx1 s ((s.taken u rx0 rx1).measured u skew) := by
  have hsame := measured_sameLanes hu skew (s.taken u rx0 rx1)
  have hrest := restarts_restarts hu (s.lostIn u rx0 rx1) (s.takeSymbols u rx0 rx1)
  have hrec' : (s.takeSymbols u rx0 rx1).recorded u := (takeSymbols_recorded rx0 rx1 s).2 hrec
  refine ⟨?_, hsame.recorded.2 (hrest.recorded.2 hrec'), fun l hl => ?_, fun l hl => ?_⟩
  · exact hsame.laneOf.trans (hrest.laneOf.trans (takeSymbols_laneOf rx0 rx1 s))
  · exact (hsame.rxOf l).trans ((hrest.rxOf l).trans (takeSymbols_rxOf hrec hl rx0 rx1))
  · refine (hsame.hs l).trans ((restarts_hs hrec' (lostIn_sub s) hl).trans ?_)
    rw [takeSymbols_hsOf]

/-- Lock declared where the handshake of a lane stays short: the state stays, the lane's lock follows its receiver. -/
theorem declareLock_short (hu : u < 26) (hrec : s.recorded u) (hl : l ∈ lanesOf u)
    (h : (s.hsOf u l).trn1Rx < 8) :
    (s.declareLock u).laneOf u = s.laneOf u
      ∧ (((s.declareLock u).hsOf u l).locked = true ↔ (s.hsOf u l).locked = true ∨ (s.rxOf u l).locked = true)
      ∧ ((s.declareLock u).hsOf u l).trn1Rx = (s.hsOf u l).trn1Rx := by
  obtain ⟨hlock, hrx⟩ := lockOns_hs hu hrec (fun _ hm => hm) hl
  rw [declareLock_eq, tryLink_none (not_handshakeDone hl (not_complete_of_rx (by rw [hrx]; exact h))), (lockOns_restarts hu _ s).laneOf, hlock, hrx]
  exact ⟨rfl, by simp [hl], rfl⟩

theorem still_trn1Rx {h k : Handshake} (e : h.still = k.still) : h.trn1Rx = k.trn1Rx := (congrArg Handshake.trn1Rx e :)

/-- A receiver that declares lock on a lane whose handshake is still short. -/
theorem xReceiverLock_locks (hu : u < 26) (hs : s.shape) (hon : s.unitOn u = true) (hleg : s.legacyUnit u = false) (hl : l ∈ lanesOf u)
    (href : s.pins.lnref = true) (ht : laneTrains (s.laneOf u) = true) (skew : Int) (hrx : ((s.rxOf u l).take (rxTaken rx0 rx1 l)).locked = true)
    (h : (s.hsOf u l).trn1Rx < 8) :
    ((xReceiverLock u rx0 rx1 skew s).hsOf u l).locked = true ∧ (xReceiverLock u rx0 rx1 skew s).laneOf u = s.laneOf u := by
  have htaken : Taken u rx0 rx1 s _ := taken_acts hu (recorded_of_shape hs hu) skew
  have hhs := htaken.hs l hl
  have hshort : (((s.taken u rx0 rx1).measured u skew).hsOf u l).trn1Rx < 8 := by
    split at hhs
    · have hzero : (((s.taken u rx0 rx1).measured u skew).hsOf u l).trn1Rx = 0 := (congrArg Handshake.trn1Rx hhs :)
      omega
    · rw [still_trn1Rx hhs]; exact h
  obtain ⟨hlane, hlock, -⟩ := declareLock_short hu htaken.recorded hl hshort
  rw [xReceiverLock_eq skew hon href hleg ht, hlane, htaken.laneOf]
  exact ⟨hlock.2 (.inr (by rw [htaken.rxOf l hl]; exact hrx)), rfl⟩

/-- A lane that loses lock in training, and does not find it again. -/
theorem xReceiverLock_loses (hu : u < 26) (hs : s.shape) (hon : s.unitOn u = true) (hleg : s.legacyUnit u = false) (hl : l ∈ lanesOf u)
    (href : s.pins.lnref = true) (ht : laneTrains (s.laneOf u) = true) (skew : Int) (hlocked : (s.hsOf u l).locked = true)
    (hlose : (s.rxOf u l).loses (rxTaken rx0 rx1 l) = true) (hrx : ((s.rxOf u l).take (rxTaken rx0 rx1 l)).locked = false) :
    ((xReceiverLock u rx0 rx1 skew s).hsOf u l).lost ∧ (xReceiverLock u rx0 rx1 skew s).laneOf u = s.laneOf u := by
  have htaken : Taken u rx0 rx1 s _ := taken_acts hu (recorded_of_shape hs hu) skew
  have hhs := htaken.hs l hl
  rw [if_pos (show l ∈ s.lostIn u rx0 rx1 from List.mem_filter.2 ⟨hl, by rw [hlocked, hlose]; rfl⟩)] at hhs
  have hoff : (((s.taken u rx0 rx1).measured u skew).hsOf u l).locked = false := (congrArg Handshake.locked hhs :)
  have hzero : (((s.taken u rx0 rx1).measured u skew).hsOf u l).trn1Rx = 0 := (congrArg Handshake.trn1Rx hhs :)
  obtain ⟨hlane, hlock, hcount⟩ := declareLock_short hu htaken.recorded hl (by rw [hzero]; decide)
  rw [xReceiverLock_eq skew hon href hleg ht, hlane, htaken.laneOf]
  refine ⟨⟨Bool.eq_false_iff.2 fun e => ?_, hcount.trans hzero⟩, rfl⟩
  rw [hlock, hoff, htaken.rxOf l hl, hrx] at e
  simp at e

/-- A complete handshake of a tile port goes on. -/
theorem xReceiverLock_links (hp : p < 24) (hon : s.unitOn p = true) (hleg : s.legacyUnit p = false)
    (href : s.pins.lnref = true) (ht : laneTrains (s.laneOf p) = true) (skew : Int) (hdone : (s.hsOf p 0).complete = true)
    (hlose : (s.rxOf p 0).loses rx0 = false) :
    (xReceiverLock p rx0 rx1 skew s).laneOf p = if s.laneOf p = laneTrain then laneLinked else laneActive := by
  have hlock : (s.hsOf p 0).locked = true := by
    unfold Handshake.complete at hdone
    simp only [Bool.and_eq_true] at hdone
    exact hdone.1.1
  have hlost : s.lostIn p rx0 rx1 = [] := by
    unfold State.lostIn
    rw [lanesOf_tile hp, List.filter_eq_nil_iff]
    intro m hm
    rw [List.mem_singleton.1 hm, show rxTaken rx0 rx1 0 = rx0 from rfl, hlose, Bool.and_false]
    decide
  have htaken : (s.taken p rx0 rx1).measured p skew = s.takeSymbols p rx0 rx1 := by
    unfold State.measured State.taken
    rw [hlost]
    exact if_pos (by rw [decide_eq_true hp]; rfl)
  have hhs : (s.takeSymbols p rx0 rx1).hsOf p 0 = s.hsOf p 0 := takeSymbols_hsOf rx0 rx1 s
  have hkeep : (lanesOf p).foldl (fun w l => w.lockOn p l) (s.takeSymbols p rx0 rx1) = s.takeSymbols p rx0 rx1 := by
    rw [lanesOf_tile hp]
    exact if_neg (by rw [hhs, hlock]; simp)
  rw [xReceiverLock_eq skew hon href hleg ht, htaken, declareLock_eq, hkeep,
    tryLink_tile hp (by rw [takeSymbols_laneOf]; exact ht) (by rw [hhs]; exact hdone), portLinked_lane hp, takeSymbols_laneOf]

end Locks

section Judged

/-! ## Symbols outside training -/

variable {s t w : State} {u v p l m : Nat} {rx0 rx1 : List RxSymbol}

/-- The lanes that lose lock by symbols or by their input. -/
def State.judgedLost (s : State) (u : Nat) (rx0 rx1 : List RxSymbol) (sq : Nat) : List Nat :=
  (lanesOf u).filter fun l => bitOf sq l || (s.rxOf u l).loses (rxTaken rx0 rx1 l)

/-- The symbols taken, the invalid ones counted. -/
def State.judged (s : State) (u : Nat) (rx0 rx1 : List RxSymbol) : State :=
  (s.addSymErr u ((s.rxOf u 0).invalid rx0) ((s.rxOf u 1).invalid rx1)).takeSymbols u rx0 rx1

theorem judgeSymbols_eq (u : Nat) (rx0 rx1 : List RxSymbol) (sq : Nat) (s : State) :
    s.judgeSymbols u rx0 rx1 sq
      = if (s.judgedLost u rx0 rx1 sq).isEmpty then s.judged u rx0 rx1 else (s.judged u rx0 rx1).lockLost u (s.judgedLost u rx0 rx1 sq) := rfl

theorem judgeSymbols_none (sq : Nat) (h : s.judgedLost u rx0 rx1 sq = []) : s.judgeSymbols u rx0 rx1 sq = s.judged u rx0 rx1 := by
  rw [judgeSymbols_eq, h]; rfl

theorem judgeSymbols_lost (sq : Nat) (h : l ∈ s.judgedLost u rx0 rx1 sq) :
    s.judgeSymbols u rx0 rx1 sq = (s.judged u rx0 rx1).lockLost u (s.judgedLost u rx0 rx1 sq) := by
  rw [judgeSymbols_eq, if_neg (by rw [List.isEmpty_iff]; exact List.ne_nil_of_mem h)]

theorem judgedLost_mem {sq : Nat} (hl : l ∈ lanesOf u) (h : bitOf sq l = true ∨ (s.rxOf u l).loses (rxTaken rx0 rx1 l) = true) :
    l ∈ s.judgedLost u rx0 rx1 sq := List.mem_filter.2 ⟨hl, by simpa using h⟩

theorem judgedLost_sub (sq : Nat) (s : State) : ∀ m ∈ s.judgedLost u rx0 rx1 sq, m ∈ lanesOf u := fun _ h => (List.mem_filter.1 h).1

theorem judgedLost_nil {sq : Nat} (h : (lanesOf u).all (fun l => !bitOf sq l && !(s.rxOf u l).loses (rxTaken rx0 rx1 l)) = true) :
    s.judgedLost u rx0 rx1 sq = [] := by
  unfold State.judgedLost
  rw [List.filter_eq_nil_iff]
  intro l hl
  simpa using List.all_eq_true.1 h l hl

/-- SYMERR of a unit. -/
abbrev symErrReg (u a : Nat) : Prop := a = laneCtrl u + 0x14

theorem addSymErr_regs (e0 e1 : Nat) (s : State) : OnlyRegs (symErrReg u) s (s.addSymErr u e0 e1) := by
  have hset : ∀ {f : Fld} (n : Nat) (w : State), f.addr = laneCtrl u + 0x14 → OnlyRegs (symErrReg u) w (w.fset f n) := fun n w hf => (Within.refl w).fset hf
  unfold State.addSymErr
  split
  · split
    · rename_i hp
      exact hset _ s (tile_addr hp rfl)
    · rename_i hl
      exact (hset _ s (link_addr hl rfl)).trans (hset _ _ (link_addr hl rfl))
  · exact .refl s

theorem judged_regs (rx0 rx1 : List RxSymbol) (s : State) : OnlyRegs (symErrReg u) s (s.judged u rx0 rx1) :=
  (addSymErr_regs _ _ s).trans (OnlyRegs.of_regs (takeSymbols_regs _ _ _ _))

theorem judged_laneOf (rx0 rx1 : List RxSymbol) (s : State) : (s.judged u rx0 rx1).laneOf u = s.laneOf u :=
  (judged_regs rx0 rx1 s).laneOf (by omega)

theorem fset_recorded (f : Fld) (n : Nat) (s : State) : (s.fset f n).recorded v ↔ s.recorded v := by
  unfold State.recorded
  rw [State.fset_ports, State.fset_twin]

theorem addSymErr_recorded (e0 e1 : Nat) (s : State) : (s.addSymErr u e0 e1).recorded v ↔ s.recorded v := by
  unfold State.addSymErr State.fadd
  split
  · split
    · exact fset_recorded _ _ s
    · exact (fset_recorded _ _ _).trans (fset_recorded _ _ s)
  · exact Iff.rfl

theorem judged_recorded (rx0 rx1 : List RxSymbol) (s : State) : (s.judged u rx0 rx1).recorded u ↔ s.recorded u :=
  (takeSymbols_recorded _ _ _).trans (addSymErr_recorded _ _ _)

theorem judged_retrains (rx0 rx1 : List RxSymbol) (s : State) : (s.judged u rx0 rx1).fget (retrainsFld u) = s.fget (retrainsFld u) :=
  (judged_regs rx0 rx1 s).fget _ (by rw [retrainsFld_addr]; unfold symErrReg; omega)

/-- The invalid symbols that a tile port's receiver counts where its lane is up. -/
theorem judged_counts (hp : p < 24) (h : s.laneOf p = laneLinked ∨ laneIsUp (s.laneOf p) = true) (rx0 rx1 : List RxSymbol) :
    (s.judged p rx0 rx1).fget (R.TILE_LANE_SYMERR_COUNT p)
      = min (2 ^ (R.TILE_LANE_SYMERR_COUNT p).width - 1) (s.fget (R.TILE_LANE_SYMERR_COUNT p) + (s.rxOf p 0).invalid rx0) := by
  have htake : ∀ w : State, (w.takeSymbols p rx0 rx1).fget (R.TILE_LANE_SYMERR_COUNT p) = w.fget (R.TILE_LANE_SYMERR_COUNT p) := fun w => by
    unfold State.fget State.rd; rw [takeSymbols_regs]
  unfold State.judged
  rw [htake, State.addSymErr, if_pos (by simpa using h), if_pos hp]
  exact fget_fadd s _ _ rfl

end Judged
end Sys2Proof.Machine

namespace Sys2Proof.Machine

section Sets

/-! ## Lock lost, and ordered sets -/

variable {s t w : State} {u v p l m : Nat} {rx0 rx1 : List RxSymbol} {sq : Nat}

/-! ### Lock lost -/

theorem xLockLost_judges (hon : s.unitOn u = true) (hleg : s.legacyUnit u = false) (hidle : s.upIdle u = false) :
    xLockLost u rx0 rx1 sq s = s.judgeSymbols u rx0 rx1 sq := by
  unfold xLockLost
  rw [if_neg (by rw [hon, hleg]; decide), if_neg (by rw [hidle]; decide)]

theorem xLockLost_none (h : s.unitOn u = false ∨ s.legacyUnit u = true) : xLockLost u rx0 rx1 sq s = s :=
  if_pos (by obtain h | h := h <;> simp [h])

/-- An idle upstream lane without its exit burst. -/
theorem xLockLost_idles (hidle : s.upIdle u = true) (hburst : burstScan {} 0 rx0 = none) : xLockLost u rx0 rx1 sq s = s := by
  unfold xLockLost
  rw [hburst, if_pos hidle, ite_self]

/-- An exit burst received: the idle is over, and the receiver stands where the burst left it. -/
def State.burst (s : State) (u : Nat) (r : Receiver) : State := (s.fsetb (R.TILE_LANE_STATUS_UP_IDLE u) false).setRx u 0 fun _ => r

theorem xLockLost_burst {r : Receiver} {rest : List RxSymbol} (hon : s.unitOn u = true) (hleg : s.legacyUnit u = false) (hidle : s.upIdle u = true)
    (hburst : burstScan {} 0 rx0 = some (r, rest)) : xLockLost u rx0 rx1 sq s = (s.burst u r).judgeSymbols u rest [] 0 := by
  unfold xLockLost
  rw [if_neg (by rw [hon, hleg]; decide), if_pos hidle, hburst]
  rfl

theorem tile_of_upIdle (h : s.upIdle u = true) : u < 24 := of_decide_eq_true (Bool.and_eq_true_iff.1 h).1

theorem not_upIdle_link (hl : ¬ u < 24) (s : State) : s.upIdle u = false := by
  unfold State.upIdle
  rw [decide_eq_false hl]; rfl

/-- A receiver that has taken nothing has no lock to lose. -/
theorem default_loses (xs : List RxSymbol) : ({} : Receiver).loses xs = false := by
  cases xs <;> rfl

theorem nth_beyond {α : Type} [Inhabited α] (l : List α) (n : Nat) (h : l.length ≤ n) : nth l n = default := by
  induction l generalizing n with
  | nil => rfl
  | cons a l ih =>
    cases n with
    | zero => exact absurd h (by simp)
    | succ n => exact ih n (Nat.le_of_succ_le_succ h)

theorem burst_rxOf (hp : p < 24) (r : Receiver) (s : State) : (s.burst p r).rxOf p 0 = r ∨ (s.burst p r).rxOf p 0 = {} := by
  unfold State.burst State.setRx State.rxOf
  rw [if_pos hp, if_pos hp, setPort_port]
  split
  · exact .inl rfl
  · rename_i h
    have hlen : s.ports.length ≤ p := Nat.le_of_not_lt fun hlt => h ⟨rfl, by rw [State.fsetb_ports]; exact hlt⟩
    refine .inr ?_
    unfold State.port
    rw [State.fsetb_ports, nth_beyond _ _ hlen]
    rfl

theorem burst_regs (u : Nat) (r : Receiver) (s : State) : (s.burst u r).regs = (s.fsetb (R.TILE_LANE_STATUS_UP_IDLE u) false).regs := setRx_regs _ _ _ _

theorem burst_laneOf (r : Receiver) (s : State) : (s.burst u r).laneOf u = s.laneOf u := by
  unfold State.laneOf State.fget State.rd
  rw [burst_regs]
  exact laneOf_fset_above (f := R.TILE_LANE_STATUS_UP_IDLE u) (u := u) rfl _ s

theorem burst_upIdle (r : Receiver) (s : State) : (s.burst p r).fbit (R.TILE_LANE_STATUS_UP_IDLE p) = false := by
  unfold State.fbit State.fget State.rd
  rw [burst_regs]
  exact fbit_fsetb_self s (R.TILE_LANE_STATUS_UP_IDLE p) false rfl rfl

/-- An idle lane whose exit burst has come, and whose receiver holds its lock. -/
theorem xLockLost_wakes {r : Receiver} {rest : List RxSymbol} (hon : s.unitOn u = true) (hleg : s.legacyUnit u = false) (hidle : s.upIdle u = true)
    (hburst : burstScan {} 0 rx0 = some (r, rest)) (hlose : r.loses rest = false) :
    (xLockLost u rx0 rx1 sq s).laneOf u = s.laneOf u ∧ (xLockLost u rx0 rx1 sq s).fbit (R.TILE_LANE_STATUS_UP_IDLE u) = false := by
  have hp := tile_of_upIdle hidle
  have hkept : ((s.burst u r).rxOf u 0).loses rest = false := by
    obtain h | h := burst_rxOf hp r s
    · rw [h]; exact hlose
    · rw [h]; exact default_loses rest
  have hlost : (s.burst u r).judgedLost u rest [] 0 = [] := judgedLost_nil (by
    rw [lanesOf_tile hp, List.all_cons, List.all_nil, show rxTaken rest [] 0 = rest from rfl, hkept]
    rfl)
  rw [xLockLost_burst hon hleg hidle hburst, judgeSymbols_none 0 hlost, judged_laneOf, burst_laneOf,
    (judged_regs rest [] (s.burst u r)).fbit _ (by rw [tile_addr hp rfl (k := 0x10)]; unfold symErrReg; omega), burst_upIdle]
  exact ⟨rfl, rfl⟩

/-- A lane that loses lock in LINKED. -/
theorem judgeSymbols_linked (hu : u < 26) (hl : l ∈ s.judgedLost u rx0 rx1 sq) (h : s.laneOf u = laneLinked) :
    (s.judgeSymbols u rx0 rx1 sq).laneOf u = laneTrain := by
  rw [judgeSymbols_lost sq hl]
  exact lockLost_linked hu _ (by rw [judged_laneOf, h])

/-- A lane that loses lock in ACTIVE or IDLE. -/
theorem judgeSymbols_up (hu : u < 26) (hl : l ∈ s.judgedLost u rx0 rx1 sq) (h : laneIsUp (s.laneOf u) = true) :
    (s.judgeSymbols u rx0 rx1 sq).laneOf u = laneRetrain
      ∧ (s.judgeSymbols u rx0 rx1 sq).fget (retrainsFld u) = min (2 ^ (retrainsFld u).width - 1) (s.fget (retrainsFld u) + 1) := by
  rw [judgeSymbols_lost sq hl, lockLost_up _ (by rw [judged_laneOf]; exact h), loseActive_counts hu, dropLocks_fget, judged_retrains]
  exact ⟨loseActive_laneOf hu _, rfl⟩

/-- A lane that loses lock in training. -/
theorem judgeSymbols_trains (hu : u < 26) (hs : s.shape) (hl : l ∈ s.judgedLost u rx0 rx1 sq) (h : laneTrains (s.laneOf u) = true) :
    ((s.judgeSymbols u rx0 rx1 sq).hsOf u l).lost ∧ (s.judgeSymbols u rx0 rx1 sq).laneOf u = s.laneOf u := by
  have htrains : laneTrains ((s.judged u rx0 rx1).laneOf u) = true := by rw [judged_laneOf]; exact h
  rw [judgeSymbols_lost sq hl, lockLost_trains_laneOf hu _ htrains, judged_laneOf]
  exact ⟨lockLost_trains_hs ((judged_recorded _ _ s).2 (recorded_of_shape hs hu)) (judgedLost_sub sq s) hl htrains, rfl⟩

/-- Symbols on a lane that is neither up nor in training. -/
theorem judgeSymbols_beside (hl : s.laneOf u ≠ laneLinked) (hup : laneIsUp (s.laneOf u) = false) (ht : laneTrains (s.laneOf u) = false) :
    (s.judgeSymbols u rx0 rx1 sq).laneOf u = s.laneOf u ∧ (s.judgeSymbols u rx0 rx1 sq).fget (retrainsFld u) = s.fget (retrainsFld u) := by
  rw [judgeSymbols_eq]
  split
  · exact ⟨judged_laneOf _ _ s, judged_retrains _ _ s⟩
  · rw [lockLost_beside _ (by rw [judged_laneOf]; exact hl) (by rw [judged_laneOf]; exact hup) (by rw [judged_laneOf]; exact ht), dropLocks_laneOf,
      dropLocks_fget]
    exact ⟨judged_laneOf _ _ s, judged_retrains _ _ s⟩

/-! ### What breaks the count of TRN1 -/

theorem breakTrn_none (l : Nat) (h : laneTrains (s.laneOf u) = false) : s.breakTrn u l = s := if_neg (by rw [h]; decide)

theorem breakTrn_regs (u l : Nat) (s : State) : (s.breakTrn u l).regs = s.regs := by
  unfold State.breakTrn
  split
  · exact setHs_regs _ _ _ _
  · rfl

theorem fget_of_regs (h : t.regs = s.regs) (f : Fld) : t.fget f = s.fget f := by
  unfold State.fget State.rd; rw [h]

theorem laneOf_of_regs (h : t.regs = s.regs) (u : Nat) : t.laneOf u = s.laneOf u := fget_of_regs h _

theorem breakTrn_hs (hrec : s.recorded u) (ht : laneTrains (s.laneOf u) = true) (l : Nat) :
    (s.breakTrn u l).hsOf u l = { s.hsOf u l with trn1Rx := 0 } := by
  rw [State.breakTrn, if_pos ht, setHs_hsOf hrec]

/-! ### Ordered sets -/

theorem xOrderedSet_none (k : Bool) (o : Nat) (h : s.unitOn u = false ∨ s.legacyUnit u = true) : xOrderedSetReceived u l k o s = s :=
  if_pos (by obtain h | h := h <;> simp [h])

theorem xOrderedSet_fill (o : Nat) (hon : s.unitOn u = true) (hleg : s.legacyUnit u = false) : xOrderedSetReceived u l true o s = s.breakTrn u l := by
  unfold xOrderedSetReceived
  rw [if_neg (by rw [hon, hleg]; decide), if_pos rfl]

theorem xOrderedSet_fill_none (o : Nat) (h : laneTrains (s.laneOf u) = false) : xOrderedSetReceived u l true o s = s := by
  unfold xOrderedSetReceived
  rw [if_pos rfl, breakTrn_none l h, ite_self]

theorem xOrderedSet_set {o kind code : Nat} (hon : s.unitOn u = true) (hleg : s.legacyUnit u = false) (h : setOf o = some (kind, code)) :
    xOrderedSetReceived u l false o s = s.takeSet u l kind code := by
  unfold xOrderedSetReceived
  rw [if_neg (by rw [hon, hleg]; decide), if_neg (by decide), h]

theorem xOrderedSet_stray {o : Nat} (hon : s.unitOn u = true) (hleg : s.legacyUnit u = false) (h : setOf o = none) :
    xOrderedSetReceived u l false o s = if (s.breakTrn u l).upIdle u then s.breakTrn u l
      else (s.breakTrn u l).judgeSymbols u (if l = 0 then [.stray] else []) (if l = 0 then [] else [.stray]) 0 := by
  unfold xOrderedSetReceived
  rw [if_neg (by rw [hon, hleg]; decide), if_neg (by decide), h]

/-- The octet of a RATE set. -/
theorem setOf_rate (c : Fin 4) : setOf (Fin.ofNat 256 (0xA0 + c.val)).val = some (3, c.val) := by
  revert c
  decide

/-- A training set ends an idle that stood on the lane. -/
def State.endUpIdle (s : State) (u : Nat) : State := if s.upIdle u then s.fsetb (R.TILE_LANE_STATUS_UP_IDLE u) false else s

theorem endUpIdle_sameLanes (s : State) : SameLanes u s (s.endUpIdle u) := by
  unfold State.endUpIdle
  split
  · exact fset_above_sameLanes rfl _ s
  · exact .refl s

theorem endUpIdle_regs (s : State) : OnlyRegs (statusReg u) s (s.endUpIdle u) := by
  unfold State.endUpIdle
  split
  · rename_i h
    exact (Within.refl s).fsetb (.inl (tile_addr (tile_of_upIdle h) rfl))
  · exact .refl s

theorem endUpIdle_hsOf (s : State) : (s.endUpIdle u).hsOf u l = s.hsOf u l := by
  unfold State.endUpIdle
  split <;> rfl

theorem endUpIdle_retrains (hu : u < 26) (s : State) : (s.endUpIdle u).fget (retrainsFld u) = s.fget (retrainsFld u) :=
  (endUpIdle_regs s).fget _ (by rw [retrainsFld_addr]; exact not_statusReg hu (by decide) (by decide))

/-- TRN0 (Table 08-3). -/
theorem takeSet_trn0 (u l code : Nat) (s : State) : s.takeSet u l 0 code
    = if laneIsUp (s.laneOf u) then ((s.breakTrn u l).endUpIdle u).loseActive u
      else if laneTrains (s.laneOf u) then ((s.breakTrn u l).endUpIdle u).sendTrn u l else (s.breakTrn u l).endUpIdle u := rfl

/-- TRN1. -/
theorem takeSet_trn1 (u l code : Nat) (s : State) : s.takeSet u l 1 code
    = if laneTrains (s.laneOf u) then (((s.endUpIdle u).setHs u l fun h => { h with trn1Rx := h.trn1Rx + 1 }).sendTrn u l).tryLink u else s.endUpIdle u := rfl

/-- EIE. -/
theorem takeSet_eie (u l code : Nat) (s : State) : s.takeSet u l 2 code
    = if u < 24 && (laneIsUp (s.laneOf u) || s.laneOf u == laneLinked) then (s.breakTrn u l).fsetb (R.TILE_LANE_STATUS_UP_IDLE u) true
      else s.breakTrn u l := rfl

/-- RATE. -/
theorem takeSet_rate (u l code : Nat) (s : State) : s.takeSet u l 3 code = (s.breakTrn u l).rateSet u code := rfl

/-! ### TRN0 and TRN1 -/

/-- TRN0 in ACTIVE or IDLE. -/
theorem takeSet_trn0_up (hu : u < 26) (l code : Nat) (h : laneIsUp (s.laneOf u) = true) :
    (s.takeSet u l 0 code).laneOf u = laneRetrain
      ∧ (s.takeSet u l 0 code).fget (retrainsFld u) = min (2 ^ (retrainsFld u).width - 1) (s.fget (retrainsFld u) + 1) := by
  rw [takeSet_trn0, if_pos h, breakTrn_none l (not_trains_of_up h), loseActive_counts hu, endUpIdle_retrains hu]
  exact ⟨loseActive_laneOf hu _, rfl⟩

/-- TRN0 elsewhere: the state stays, and in training the count of TRN1 starts again. -/
theorem takeSet_trn0_rest (hu : u < 26) (hrec : s.recorded u) (l code : Nat) (h : laneIsUp (s.laneOf u) = false) :
    (s.takeSet u l 0 code).laneOf u = s.laneOf u ∧ (laneTrains (s.laneOf u) = true → ((s.takeSet u l 0 code).hsOf u l).trn1Rx = 0) := by
  have hlane : ((s.breakTrn u l).endUpIdle u).laneOf u = s.laneOf u :=
    (endUpIdle_sameLanes _).laneOf.trans (laneOf_of_regs (breakTrn_regs u l s) u)
  have hsent := sendTrn_keepsUnit (v := u) u l ((s.breakTrn u l).endUpIdle u)
  rw [takeSet_trn0, if_neg (by rw [h]; decide)]
  cases ht : laneTrains (s.laneOf u) with
  | true =>
    rw [if_pos rfl, hsent.laneOf hu, hsent.trn1Rx, endUpIdle_hsOf, breakTrn_hs hrec ht]
    exact ⟨hlane, fun _ => rfl⟩
  | false => exact ⟨hlane, fun e => absurd e (by decide)⟩

/-- A TRN1 counted, on a lane that trains. -/
def State.countTrn (s : State) (u l : Nat) : State := ((s.endUpIdle u).setHs u l fun h => { h with trn1Rx := h.trn1Rx + 1 }).sendTrn u l

theorem takeSet_trn1_trains (l code : Nat) (h : laneTrains (s.laneOf u) = true) : s.takeSet u l 1 code = (s.countTrn u l).tryLink u := by
  rw [takeSet_trn1, if_pos h]
  rfl

theorem countTrn_laneOf (hu : u < 26) (l : Nat) (s : State) : (s.countTrn u l).laneOf u = s.laneOf u :=
  ((sendTrn_keepsUnit u l _).laneOf hu).trans ((laneOf_of_regs (setHs_regs _ _ _ _) u).trans (endUpIdle_sameLanes s).laneOf)

theorem countTrn_trn1Rx (hrec : s.recorded u) (l : Nat) : ((s.countTrn u l).hsOf u l).trn1Rx = (s.hsOf u l).trn1Rx + 1 := by
  unfold State.countTrn
  rw [(sendTrn_keepsUnit u l _).trn1Rx, setHs_hsOf ((endUpIdle_sameLanes s).recorded.2 hrec), endUpIdle_hsOf]

theorem takeSet_trn1_short (hu : u < 26) (hrec : s.recorded u) (hl : l ∈ lanesOf u) (code : Nat) (ht : laneTrains (s.laneOf u) = true)
    (h : (s.hsOf u l).trn1Rx + 1 < 8) :
    ((s.takeSet u l 1 code).hsOf u l).trn1Rx = (s.hsOf u l).trn1Rx + 1 ∧ (s.takeSet u l 1 code).laneOf u = s.laneOf u := by
  have hcount := countTrn_trn1Rx hrec l
  rw [takeSet_trn1_trains l code ht, tryLink_none (not_handshakeDone hl (not_complete_of_rx (by rw [hcount]; exact h)))]
  exact ⟨hcount, countTrn_laneOf hu l s⟩

/-- A set that goes out on a port changes none of its handshake. -/
theorem send_set_hs (p q k : Nat) (b : List Byte) (s : State) : ((s.send (.orderedSet q k b)).port p).hs = (s.port p).hs :=
  setPort_view Port.hs (fun _ => by rfl) q p (s.emit (.orderedSet q k b))

/-- A TRN1 that goes out on a locked port is counted. -/
theorem sendTrn_hs (hp : p < 24) (hrec : s.recorded p) (hleg : s.legacyUnit p = false) (h : (s.hsOf p 0).locked = true) :
    (s.sendTrn p 0).hsOf p 0 = { s.hsOf p 0 with trn1Tx := (s.hsOf p 0).trn1Tx + 1 } := by
  have hset := setHs_hsOf hrec (fun h => if h.locked then { h with trn1Tx := h.trn1Tx + 1 } else h) 0
  unfold State.sendTrn
  rw [if_neg (by rw [hleg]; decide)]
  dsimp only
  rw [if_pos hp, State.hsOf, if_pos hp, send_set_hs]
  rw [State.hsOf, if_pos hp] at hset
  rw [hset, if_pos h]

/-- The eighth TRN1 in a row, on a port that has sent its own. -/
theorem takeSet_trn1_links (hp : p < 24) (hrec : s.recorded p) (hleg : s.legacyUnit p = false) (code : Nat) (ht : laneTrains (s.laneOf p) = true)
    (hlock : (s.hsOf p 0).locked = true) (hrx : 7 ≤ (s.hsOf p 0).trn1Rx) (htx : 8 ≤ (s.hsOf p 0).trn1Tx) :
    (s.takeSet p 0 1 code).laneOf p = if s.laneOf p = laneTrain then laneLinked else laneActive := by
  have hrec' : (s.endUpIdle p).recorded p := (endUpIdle_sameLanes s).recorded.2 hrec
  have hset : ((s.endUpIdle p).setHs p 0 fun h => { h with trn1Rx := h.trn1Rx + 1 }).hsOf p 0
      = { s.hsOf p 0 with trn1Rx := (s.hsOf p 0).trn1Rx + 1 } := by rw [setHs_hsOf hrec', endUpIdle_hsOf]
  have hleg' : ((s.endUpIdle p).setHs p 0 fun h => { h with trn1Rx := h.trn1Rx + 1 }).legacyUnit p = false := by
    have hreg := (endUpIdle_regs s).fbit (R.TILE_LANE_CTRL_LEGACY p)
      (by rw [tile_addr hp rfl (k := 0)]; exact not_statusReg (by omega) (by decide) (by decide))
    unfold State.legacyUnit State.legacy State.fbit at *
    rw [fget_of_regs (setHs_regs _ _ _ _), hreg]
    exact hleg
  have hdone : ((s.countTrn p 0).hsOf p 0).complete = true := by
    unfold State.countTrn
    rw [sendTrn_hs hp ((setHs_recorded _ _ _).2 hrec') hleg' (by rw [hset]; exact hlock), hset]
    unfold Handshake.complete
    simp only [hlock, Bool.true_and, Bool.and_eq_true, decide_eq_true_eq]
    omega
  rw [takeSet_trn1_trains 0 code ht, tryLink_tile hp (by rw [countTrn_laneOf (by omega)]; exact ht) hdone, portLinked_lane hp,
    countTrn_laneOf (by omega)]

/-- TRN1 outside training. -/
theorem takeSet_trn1_rest (hu : u < 26) (l code : Nat) (h : laneTrains (s.laneOf u) = false) :
    (s.takeSet u l 1 code).laneOf u = s.laneOf u ∧ (s.takeSet u l 1 code).fget (retrainsFld u) = s.fget (retrainsFld u) := by
  rw [takeSet_trn1, if_neg (by rw [h]; decide), endUpIdle_retrains hu]
  exact ⟨(endUpIdle_sameLanes s).laneOf, rfl⟩

/-! ### EIE -/

theorem takeSet_eie_idles (hp : p < 24) (l code : Nat) (h : laneIsUp (s.laneOf p) = true ∨ s.laneOf p = laneLinked) :
    (s.takeSet p l 2 code).fbit (R.TILE_LANE_STATUS_UP_IDLE p) = true ∧ (s.takeSet p l 2 code).laneOf p = s.laneOf p := by
  rw [takeSet_eie, if_pos (by simpa [hp] using h)]
  exact ⟨fbit_fsetb_self _ _ _ rfl rfl, (laneOf_fset_above rfl _ _).trans (laneOf_of_regs (breakTrn_regs p l s) p)⟩

theorem takeSet_eie_rest (l code : Nat) (h : 24 ≤ u ∨ (laneIsUp (s.laneOf u) = false ∧ s.laneOf u ≠ laneLinked)) :
    (s.takeSet u l 2 code).regs = s.regs := by
  rw [takeSet_eie, if_neg]
  · exact breakTrn_regs u l s
  · obtain h | ⟨hup, hne⟩ := h
    · simp [show ¬ u < 24 by omega]
    · simp [hup, hne]

/-! ### RATE -/

theorem rateSet_none (code : Nat) (h : u < 24 ∨ s.laneOf u ≠ laneLinked) : s.rateSet u code = s :=
  if_pos (by obtain h | h := h <;> simp [h])

/-- A RATE set counted, with the peer's maximum. -/
def State.rateCounted (s : State) (u code : Nat) : State := s.setLink (linkOf u) fun q => { q with rateRx := q.rateRx + 1, peerMax := code % 4 }

theorem rateSet_counts (code : Nat) (hl : ¬ u < 24) (h : s.laneOf u = laneLinked) :
    s.rateSet u code = if 32 ≤ (nth (s.rateCounted u code).twin.links (linkOf u)).rateRx then (s.rateCounted u code).linkSwitch u else s.rateCounted u code := by
  unfold State.rateSet
  rw [if_neg (by simp [hl, h])]
  rfl

theorem rateCounted_link (code : Nat) (hlen : linkOf u < s.twin.links.length) :
    nth (s.rateCounted u code).twin.links (linkOf u)
      = { nth s.twin.links (linkOf u) with rateRx := (nth s.twin.links (linkOf u)).rateRx + 1, peerMax := code % 4 } := by
  unfold State.rateCounted
  rw [setLink_link, if_pos ⟨rfl, hlen⟩]

theorem rateSet_short (code : Nat) (hl : ¬ u < 24) (hlen : linkOf u < s.twin.links.length) (h : s.laneOf u = laneLinked)
    (hrx : (nth s.twin.links (linkOf u)).rateRx < 31) : s.rateSet u code = s.rateCounted u code := by
  rw [rateSet_counts code hl h, rateCounted_link code hlen]
  exact if_neg (by dsimp only; omega)

theorem linkActive_laneOf (hu : u < 26) (s : State) : (s.linkActive u).laneOf u = laneActive :=
  (((laneFaultOver_keepsUnit u _).trans (linkWatch_keepsUnit _)).laneOf hu).trans (setLane_laneOf hu (by decide) s)

/-- The state that a link's switch leads to. -/
theorem linkSwitch_laneOf (hu : u < 26) (s : State) :
    (s.linkSwitch u).laneOf u = if s.linkRate (linkOf u) = 0 then laneActive else laneRateTrain := by
  unfold State.linkSwitch
  extract_lets _ r a
  by_cases hr : r = 0
  · rw [if_pos hr, if_pos hr, (twinLinkEvent_keepsUnit (u := u) (linkOf u) 1 0 _).laneOf hu, linkActive_laneOf hu]
  · rw [if_neg hr, if_neg hr, (startTrn_keepsUnit u a).laneOf hu]
    exact (laneOf_fset_above rfl _ _).trans (setLane_laneOf hu (by decide) s)

/-- The 32nd RATE set. -/
theorem rateSet_switches (hu : u < 26) (code : Nat) (hl : ¬ u < 24) (hlen : linkOf u < s.twin.links.length) (h : s.laneOf u = laneLinked)
    (hrx : 31 ≤ (nth s.twin.links (linkOf u)).rateRx) :
    (s.rateSet u code).laneOf u
      = if min (min (s.fget (R.TWIN_LANE_CFG_MAX (linkOf u))) (code % 4)) (nth s.twin.links (linkOf u)).limit = 0 then laneActive else laneRateTrain := by
  have hrate : (s.rateCounted u code).linkRate (linkOf u)
      = min (min (s.fget (R.TWIN_LANE_CFG_MAX (linkOf u))) (code % 4)) (nth s.twin.links (linkOf u)).limit := by
    unfold State.linkRate
    rw [rateCounted_link code hlen]
    rfl
  rw [rateSet_counts code hl h, if_pos (by rw [rateCounted_link code hlen]; dsimp only; omega), linkSwitch_laneOf hu, hrate]

end Sets
end Sys2Proof.Machine

namespace Sys2Proof.Machine

section Times

/-! ## The times of training -/

variable {s t w : State} {u v p l m : Nat}

/-! ### RATE_TRAIN -/

theorem portRateFail_regs (hp : p < 24) (s : State) : OnlyRegs (statusReg p) s (s.portRateFail p) := by
  unfold State.portRateFail
  split
  · exact setPort_onlyRegs _ _ s
  · extract_lets d a
    have hset : OnlyRegs (statusReg p) s (s.setPort p fun q => { q with rateFails := 0, dnLimit := d, upLimit := 0 }) := setPort_onlyRegs _ _ s
    exact (hset.fsetb (.inl (tile_addr hp rfl))).trans (linkEvent_keepsUnit p 6 d a).status

theorem linkRateFail_regs (l : Nat) (s : State) : OnlyRegs (statusReg u) s (s.linkRateFail l) := by
  unfold State.linkRateFail
  split
  · exact setLink_onlyRegs _ _ s
  · exact (setLink_onlyRegs _ _ s).trans (twinLinkEvent_keepsUnit _ _ _ _).status

/-- A failure of RATE_TRAIN as its unit judges it. -/
def State.rateJudged (s : State) (u : Nat) : State := if u < 24 then (s.portRateFail u).laneFault u 0 else s.linkRateFail (linkOf u)

theorem rateJudged_regs (s : State) : OnlyRegs (statusReg u) s (s.rateJudged u) := by
  unfold State.rateJudged
  split
  · rename_i hp
    exact (portRateFail_regs hp s).trans (laneFault_keepsUnit u 0 _).status
  · exact linkRateFail_regs _ s

theorem xRateTrainTimeout_eq (hon : s.unitOn u = true) (h : s.laneOf u = laneRateTrain) :
    xRateTrainTimeout u s
      = ((((s.fadd (rateFailsFld u) 1).unitEvent u 5 ((s.fadd (rateFailsFld u) 1).fget (rateFailsFld u))).rateJudged u).enterTrain u) := by
  unfold xRateTrainTimeout
  rw [if_neg (by simp [hon, h])]
  rfl

theorem xRateTrainTimeout_none (h : s.unitOn u = false ∨ s.laneOf u ≠ laneRateTrain) : xRateTrainTimeout u s = s :=
  if_pos (by obtain h | h := h <;> simp [h])

theorem xRateTrainTimeout_acts (hu : u < 26) (hon : s.unitOn u = true) (h : s.laneOf u = laneRateTrain) :
    (xRateTrainTimeout u s).laneOf u = laneTrain
      ∧ (xRateTrainTimeout u s).fget (rateFailsFld u) = min (2 ^ (rateFailsFld u).width - 1) (s.fget (rateFailsFld u) + 1) := by
  rw [xRateTrainTimeout_eq hon h]
  refine ⟨enterTrain_laneOf hu _, ?_⟩
  rw [(enterTrain_regs hu _).fget _ (by rw [rateFailsFld_addr]; exact not_trainReg hu (by decide) (by decide) (by decide)),
    (rateJudged_regs _).fget _ (by rw [rateFailsFld_addr]; exact not_statusReg hu (by decide) (by decide)),
    (unitEvent_keepsUnit u 5 _ _).fget _ (by rw [rateFailsFld_addr]; exact unitReg_at 0x18 hu (by decide))]
  exact fget_fadd_one s _ (of_decide_eq_true (rateFailsFld_fits u))

/-! ### RETRAIN -/

/-- The retrain tried again. -/
def State.tryAgain (s : State) (u : Nat) : State :=
  if u < 24 then s.setPort u fun q => { q with retrains := q.retrains + 1 } else s.setLink (linkOf u) fun q => { q with retrains := q.retrains + 1 }

theorem tryAgain_tries (h : s.recorded u) : (s.tryAgain u).retrainTries u = s.retrainTries u + 1 := by
  unfold State.tryAgain State.retrainTries
  obtain ⟨hu, hlen⟩ | ⟨hu, hlen⟩ := h.cases
  · simp only [if_pos hu]
    rw [setPort_port, if_pos ⟨rfl, hlen⟩]
  · simp only [if_neg hu]
    rw [setLink_link, if_pos ⟨rfl, hlen⟩]

theorem tryAgain_regs (u : Nat) (s : State) : (s.tryAgain u).regs = s.regs := by
  unfold State.tryAgain
  split <;> rfl

theorem setHs_tries (l : Nat) (f : Handshake → Handshake) (s : State) : (s.setHs u l f).retrainTries u = s.retrainTries u := by
  unfold State.setHs State.retrainTries
  by_cases hu : u < 24
  · simp only [if_pos hu]
    exact setPort_view Port.retrains (fun _ => by rfl) u u s
  · simp only [if_neg hu]
    exact setLink_view TwinLink.retrains (fun _ => by split <;> rfl) _ _ s

theorem setHsAll_tries (f : Handshake → Handshake) (s : State) : (s.setHsAll u f).retrainTries u = s.retrainTries u :=
  foldl_rel (R := fun s t => t.retrainTries u = s.retrainTries u) (fun _ => rfl) (fun h k => k.trans h) _ _ (fun w l _ => setHs_tries l f w) s

theorem setHsAll_restarts (f : Handshake → Handshake) (s : State) : Restarts u s (s.setHsAll u f) :=
  foldl_rel .refl .trans _ _ (fun w l _ => setHs_restarts f l w) s

theorem xRetrainTimeout_again (hon : s.unitOn u = true) (h : s.laneOf u = laneRetrain) (htry : s.retrainTries u < 3) :
    xRetrainTimeout u s = ((s.setHsAll u fun h => { h with trn1Rx := 0, trn1Tx := 0 }).tryAgain u).startTrn u := by
  unfold xRetrainTimeout
  rw [if_neg (by simp [hon, h]), if_pos htry]
  rfl

theorem xRetrainTimeout_trains (hu : u < 26) (hon : s.unitOn u = true) (h : s.laneOf u = laneRetrain) (htry : 3 ≤ s.retrainTries u) :
    (xRetrainTimeout u s).laneOf u = laneTrain := by
  unfold xRetrainTimeout
  rw [if_neg (by simp [hon, h]), if_neg (by omega)]
  exact enterTrain_laneOf hu _

theorem xRetrainTimeout_tries (hu : u < 26) (hs : s.shape) (hon : s.unitOn u = true) (h : s.laneOf u = laneRetrain) (htry : s.retrainTries u < 3) :
    (xRetrainTimeout u s).retrainTries u = s.retrainTries u + 1 ∧ (xRetrainTimeout u s).laneOf u = laneRetrain := by
  have hall := setHsAll_restarts (u := u) (fun h => { h with trn1Rx := 0, trn1Tx := 0 }) s
  rw [xRetrainTimeout_again hon h htry, (startTrn_keepsUnit u _).retrainTries, (startTrn_keepsUnit u _).laneOf hu,
    tryAgain_tries (hall.recorded.2 (recorded_of_shape hs hu)), setHsAll_tries, laneOf_of_regs (tryAgain_regs u _), hall.laneOf]
  exact ⟨rfl, h⟩

theorem xRetrainTimeout_none (h : s.unitOn u = false ∨ s.laneOf u ≠ laneRetrain) : xRetrainTimeout u s = s :=
  if_pos (by obtain h | h := h <;> simp [h])

/-! ### Stray symbols -/

/-- An invalid symbol on a tile port that is up. -/
theorem stray_up (hp : p < 24) {o : Nat} (hon : s.unitOn p = true) (hleg : s.legacyUnit p = false) (ho : setOf o = none) (hidle : s.upIdle p = false)
    (h : laneIsUp (s.laneOf p) = true) :
    if (s.rxOf p 0).loses [.stray] = true then (xOrderedSetReceived p 0 false o s).laneOf p = laneRetrain
      else (xOrderedSetReceived p 0 false o s).laneOf p = s.laneOf p
        ∧ (xOrderedSetReceived p 0 false o s).fget (R.TILE_LANE_SYMERR_COUNT p)
          = min (2 ^ (R.TILE_LANE_SYMERR_COUNT p).width - 1) (s.fget (R.TILE_LANE_SYMERR_COUNT p) + (s.rxOf p 0).invalid [.stray]) := by
  have hx : xOrderedSetReceived p 0 false o s = s.judgeSymbols p [.stray] [] 0 := by
    rw [xOrderedSet_stray hon hleg ho, breakTrn_none 0 (not_trains_of_up h), if_neg (by rw [hidle]; decide)]
    rfl
  have hzero : 0 ∈ lanesOf p := by rw [lanesOf_tile hp]; decide
  rw [hx]
  split
  · rename_i hlose
    exact (judgeSymbols_up (by omega) (judgedLost_mem hzero (.inr hlose)) h).1
  · rename_i hkeep
    rw [judgeSymbols_none 0 (judgedLost_nil (by
      rw [lanesOf_tile hp, List.all_cons, List.all_nil, show rxTaken [.stray] [] 0 = [.stray] from rfl, Bool.eq_false_iff.2 hkeep]; rfl)),
      judged_laneOf, judged_counts hp (.inr h)]
    exact ⟨rfl, rfl⟩

/-- A lane with an idle on it takes no invalid symbol. -/
theorem stray_idles {o : Nat} (hon : s.unitOn u = true) (hleg : s.legacyUnit u = false) (ho : setOf o = none) (hidle : s.upIdle u = true)
    (h : laneTrains (s.laneOf u) = false) : xOrderedSetReceived u l false o s = s := by
  rw [xOrderedSet_stray hon hleg ho, breakTrn_none l h, if_pos hidle]

theorem KeepsUnit.rateRx (h : KeepsUnit u s t) (hl : ¬ u < 24) :
    (nth t.twin.links (linkOf u)).rateRx = (nth s.twin.links (linkOf u)).rateRx := (congrArg TwinLink.rateRx (h.link (by omega)) :)

theorem KeepsUnit.peerMax (h : KeepsUnit u s t) (hl : ¬ u < 24) :
    (nth t.twin.links (linkOf u)).peerMax = (nth s.twin.links (linkOf u)).peerMax := (congrArg TwinLink.peerMax (h.link (by omega)) :)

theorem after_retrains (hu : u < 26) (s t : State) : (s.after t).fget (retrainsFld u) = t.fget (retrainsFld u) :=
  (after_keepsUnit (u := u) s t).fget _ (by rw [retrainsFld_addr]; exact unitReg_at 0x18 hu (by decide))

/-- Settles O20: what receivers take by lane, ordered sets by their kind, the times by the states they lead to. -/
theorem trainingActs : Obligations.TrainingActs := by
  unfold Obligations.TrainingActs
  refine ⟨?_, ?_, ?_, ?_, ?_, ?_, ?_, ?_, ?_, ?_, ?_, ?_, ?_, ?_, ?_, ?_, ?_, ?_, ?_, ?_, ?_, ?_, ?_, ?_, ?_, ?_, ?_, ?_, ?_, ?_, ?_, ?_⟩
  · intro s u l rx0 rx1 skew hs hon hleg hl href ht hrx h
    refine ⟨s.after (xReceiverLock u rx0 rx1 skew s), rfl, ?_⟩
    rw [(after_keepsUnit s _).locked, (after_keepsUnit s _).laneOf u.isLt]
    exact xReceiverLock_locks u.isLt hs hon hleg hl href ht skew hrx h
  · intro s u l rx0 rx1 skew hs hon hleg hl href ht hlock hlose hrx
    obtain ⟨hlost, hlane⟩ := xReceiverLock_loses u.isLt hs hon hleg hl href ht skew hlock hlose hrx
    obtain ⟨hoff, hzero⟩ := (after_keepsUnit s _).lost hlost
    exact ⟨s.after (xReceiverLock u rx0 rx1 skew s), rfl, hoff, hzero, ((after_keepsUnit s _).laneOf u.isLt).trans hlane⟩
  · intro s u rx0 rx1 skew _ hon hleg hu href ht hdone hlose
    refine ⟨s.after (xReceiverLock u rx0 rx1 skew s), rfl, ?_⟩
    rw [(after_keepsUnit s _).laneOf u.isLt, xReceiverLock_links hu hon hleg href ht skew hdone hlose]
    exact ⟨fun h => if_pos h, fun h => if_neg h⟩
  · intro s u rx0 rx1 skew h
    exact ⟨_, rfl, congrArg s.after (xReceiverLock_none skew h)⟩
  · intro s u l rx0 rx1 sq hs hon hleg hl hidle ht h
    obtain ⟨hlost, hlane⟩ := judgeSymbols_trains u.isLt hs (judgedLost_mem hl h) ht
    obtain ⟨hoff, hzero⟩ := (after_keepsUnit s _).lost hlost
    refine ⟨s.after (xLockLost u rx0 rx1 sq s), rfl, ?_⟩
    rw [xLockLost_judges hon hleg hidle]
    exact ⟨hoff, hzero, ((after_keepsUnit s _).laneOf u.isLt).trans hlane⟩
  · intro s u l rx0 rx1 sq hon hleg hl hidle hlink h
    refine ⟨s.after (xLockLost u rx0 rx1 sq s), rfl, ?_⟩
    rw [(after_keepsUnit s _).laneOf u.isLt, xLockLost_judges hon hleg hidle]
    exact judgeSymbols_linked u.isLt (judgedLost_mem hl h) hlink
  · intro s u l rx0 rx1 sq hon hleg hl hidle hup h
    refine ⟨s.after (xLockLost u rx0 rx1 sq s), rfl, ?_⟩
    rw [(after_keepsUnit s _).laneOf u.isLt, after_retrains u.isLt, xLockLost_judges hon hleg hidle]
    exact judgeSymbols_up u.isLt (judgedLost_mem hl h) hup
  · intro s u l rx0 rx1 sq hon hleg _ hidle h
    obtain ⟨hne, hup, ht⟩ : s.laneOf u ≠ laneLinked ∧ laneIsUp (s.laneOf u) = false ∧ laneTrains (s.laneOf u) = false := by
      revert h
      generalize s.laneOf u = n
      intro h
      fin_cases h <;> decide
    refine ⟨s.after (xLockLost u rx0 rx1 sq s), rfl, ?_⟩
    rw [(after_keepsUnit s _).laneOf u.isLt, after_retrains u.isLt, xLockLost_judges hon hleg hidle]
    exact judgeSymbols_beside hne hup ht
  · intro s u rx0 rx1 sq hon hleg hu hidle h
    refine ⟨s.after (xLockLost u rx0 rx1 sq s), rfl, ?_⟩
    rw [(after_keepsUnit s _).laneOf u.isLt, fget_tile (after_keepsUnit s _) 0x14 hu rfl (by decide), xLockLost_judges hon hleg hidle,
      judgeSymbols_none _ (judgedLost_nil h), judged_laneOf]
    exact ⟨rfl, fun hup => judged_counts hu hup rx0 rx1⟩
  · intro s u rx0 rx1 sq hon hleg hu h
    refine ⟨s.after (xLockLost u rx0 rx1 sq s), rfl, ?_⟩
    rw [(after_keepsUnit s _).laneOf u.isLt, xLockLost_judges hon hleg (not_upIdle_link (by omega) s), judgeSymbols_none _ (judgedLost_nil h), judged_laneOf]
  · intro s u rx0 rx1 sq _ _ hidle hburst
    exact ⟨_, rfl, congrArg s.after (xLockLost_idles hidle hburst)⟩
  · intro s u rx0 rx1 sq r rest hon hleg hidle hburst hlose
    refine ⟨s.after (xLockLost u rx0 rx1 sq s), rfl, ?_⟩
    rw [(after_keepsUnit s _).laneOf u.isLt, fbit_tile (after_keepsUnit s _) 0x10 (tile_of_upIdle hidle) rfl (by decide)]
    exact xLockLost_wakes hon hleg hidle hburst hlose
  · intro s u rx0 rx1 sq h
    exact ⟨_, rfl, congrArg s.after (xLockLost_none h)⟩
  · intro s u l hs hon hleg hl ht h
    refine ⟨s.after (xOrderedSetReceived u l false 0x50 s), rfl, ?_⟩
    rw [(after_keepsUnit s _).trn1Rx, (after_keepsUnit s _).laneOf u.isLt, xOrderedSet_set hon hleg (by rfl)]
    exact takeSet_trn1_short u.isLt (recorded_of_shape hs u.isLt) hl 0 ht h
  · intro s u hs hon hleg hu ht hlock hrx htx
    refine ⟨s.after (xOrderedSetReceived u 0 false 0x50 s), rfl, ?_⟩
    rw [(after_keepsUnit s _).laneOf u.isLt, xOrderedSet_set hon hleg (by rfl),
      takeSet_trn1_links hu (recorded_of_shape hs u.isLt) hleg 0 ht hlock hrx htx]
    exact ⟨fun h => if_pos h, fun h => if_neg h⟩
  · intro s u l _ hon hleg ht
    refine ⟨s.after (xOrderedSetReceived u l false 0x50 s), rfl, ?_⟩
    rw [(after_keepsUnit s _).laneOf u.isLt, after_retrains u.isLt, xOrderedSet_set hon hleg (by rfl)]
    exact takeSet_trn1_rest u.isLt l 0 ht
  · intro s u l hon hleg h
    refine ⟨s.after (xOrderedSetReceived u l false 0x4A s), rfl, ?_⟩
    rw [(after_keepsUnit s _).laneOf u.isLt, after_retrains u.isLt, xOrderedSet_set hon hleg (by rfl)]
    exact takeSet_trn0_up u.isLt l 0 h
  · intro s u l hs hon hleg _ h
    refine ⟨s.after (xOrderedSetReceived u l false 0x4A s), rfl, ?_⟩
    rw [(after_keepsUnit s _).laneOf u.isLt, (after_keepsUnit s _).trn1Rx, xOrderedSet_set hon hleg (by rfl)]
    exact takeSet_trn0_rest u.isLt (recorded_of_shape hs u.isLt) l 0 h
  · intro s u l hon hleg hu h
    refine ⟨s.after (xOrderedSetReceived u l false 0xC4 s), rfl, ?_⟩
    rw [fbit_tile (after_keepsUnit s _) 0x10 hu rfl (by decide), (after_keepsUnit s _).laneOf u.isLt, xOrderedSet_set hon hleg (by rfl)]
    exact takeSet_eie_idles hu l 0 h
  · intro s u l hon hleg h
    have hregs := takeSet_eie_rest l 0 h
    refine ⟨s.after (xOrderedSetReceived u l false 0xC4 s), rfl, ?_, fun hu => ?_⟩
    · rw [(after_keepsUnit s _).laneOf u.isLt, xOrderedSet_set hon hleg (by rfl)]
      exact laneOf_of_regs hregs u
    · rw [fbit_tile (after_keepsUnit s _) 0x10 hu rfl (by decide), xOrderedSet_set hon hleg (by rfl)]
      unfold State.fbit
      rw [fget_of_regs hregs]
  · intro s u l c hs hon hleg hu h hrx
    have hl : ¬ u.val < 24 := by omega
    have hlen : linkOf u < s.twin.links.length := by
      have := u.isLt
      rw [shape_links hs]; unfold linkOf; omega
    have hx : xOrderedSetReceived u l false (Fin.ofNat 256 (0xA0 + c.val)).val s = s.rateCounted u c := by
      rw [xOrderedSet_set hon hleg (setOf_rate c), takeSet_rate, breakTrn_none l (by rw [h]; rfl), rateSet_short c hl hlen h hrx]
    have hlink := rateCounted_link (s := s) (u := u) c hlen
    have hk := after_keepsUnit (u := u) s (s.rateCounted u c)
    refine ⟨s.after (xOrderedSetReceived u l false (Fin.ofNat 256 (0xA0 + c.val)).val s), rfl, ?_⟩
    rw [hx, hk.rateRx hl, hk.peerMax hl, hk.laneOf u.isLt, hlink]
    exact ⟨rfl, Nat.mod_eq_of_lt c.isLt, h⟩
  · intro s u l c hs hon hleg hu h hrx
    have hl : ¬ u.val < 24 := by omega
    have hlen : linkOf u < s.twin.links.length := by
      have := u.isLt
      rw [shape_links hs]; unfold linkOf; omega
    refine ⟨s.after (xOrderedSetReceived u l false (Fin.ofNat 256 (0xA0 + c.val)).val s), rfl, ?_⟩
    rw [(after_keepsUnit s _).laneOf u.isLt, xOrderedSet_set hon hleg (setOf_rate c), takeSet_rate, breakTrn_none l (by rw [h]; rfl),
      rateSet_switches u.isLt c hl hlen h hrx, Nat.mod_eq_of_lt c.isLt]
  · intro s u l c hon hleg h
    refine ⟨s.after (xOrderedSetReceived u l false (Fin.ofNat 256 (0xA0 + c.val)).val s), rfl, ?_⟩
    have hlane := laneOf_of_regs (breakTrn_regs u l s) u
    rw [(after_keepsUnit s _).laneOf u.isLt, xOrderedSet_set hon hleg (setOf_rate c), takeSet_rate, rateSet_none _ (by rw [hlane]; exact h), hlane]
  · intro s u o hon hleg hu ho hidle h
    refine ⟨s.after (xOrderedSetReceived u 0 false o s), rfl, ?_⟩
    rw [(after_keepsUnit s _).laneOf u.isLt, fget_tile (after_keepsUnit s _) 0x14 hu rfl (by decide)]
    exact stray_up hu hon hleg ho hidle h
  · intro s u l o hon hleg ho hidle h
    exact ⟨_, rfl, congrArg s.after (stray_idles hon hleg ho hidle h)⟩
  · intro s u l o hs hon hleg _ ht
    refine ⟨s.after (xOrderedSetReceived u l true o s), rfl, ?_⟩
    rw [(after_keepsUnit s _).trn1Rx, (after_keepsUnit s _).locked, (after_keepsUnit s _).laneOf u.isLt, xOrderedSet_fill o hon hleg,
      breakTrn_hs (recorded_of_shape hs u.isLt) ht]
    exact ⟨rfl, rfl, laneOf_of_regs (breakTrn_regs u l s) u⟩
  · intro s u l o h
    exact ⟨_, rfl, congrArg s.after (xOrderedSet_fill_none o h)⟩
  · intro s u l k o h
    exact ⟨_, rfl, congrArg s.after (xOrderedSet_none k o h)⟩
  · intro s u hon h
    refine ⟨s.after (xRateTrainTimeout u s), rfl, ?_⟩
    rw [(after_keepsUnit s _).laneOf u.isLt, (after_keepsUnit s _).fget _ (by rw [rateFailsFld_addr]; exact unitReg_at 0x18 u.isLt (by decide))]
    exact xRateTrainTimeout_acts u.isLt hon h
  · intro s u h
    exact ⟨_, rfl, congrArg s.after (xRateTrainTimeout_none h)⟩
  · intro s u hs hon h
    refine ⟨s.after (xRetrainTimeout u s), rfl, fun htry => ?_, fun htry => ?_⟩
    · rw [(after_keepsUnit s _).retrainTries, (after_keepsUnit s _).laneOf u.isLt]
      exact xRetrainTimeout_tries u.isLt hs hon h htry
    · rw [(after_keepsUnit s _).laneOf u.isLt]
      exact xRetrainTimeout_trains u.isLt hon h htry
  · intro s u h
    exact ⟨_, rfl, congrArg s.after (xRetrainTimeout_none h)⟩

end Times
end Sys2Proof.Machine

namespace Sys2Proof.Machine

section UpstreamPackets

/-! ## A STATUS before which a command waits -/

/-- A CANCEL_TIMED of the surface 24,577. A ring admits TARGET 0 to 3 (Table 04-1), and the state does not bound what waits. -/
def farCancel : TwinCmd := { desc := { ring := 1, bytes := u8 3 ++ rep 3 0 ++ leBytes 2 0x6001 ++ rep 58 0 } }

/-- Every domain on, the lane of port 0 ACTIVE and its tile's epoch 1; `farCancel` waits, its ALIGN not come. -/
def cancelWaits : State :=
  let u : State := { State.reset with twin := { TwinSt.init with waiting := [farCancel] } }
  ((u.fset R.PWR_DOM_STATUS_ON 0xFFF).fset (R.TILE_LANE_STATUS_STATE 0) laneActive).fset (R.TILE_EPOCH_TILE 0) 1

theorem cancelWaits_receives : cancelWaits.shape ∧ cancelWaits.upOpen 0 = true := by decide +kernel

theorem cancelWaits_epoch : cancelWaits.fget (R.TILE_EPOCH_TILE 0) = 1 := by decide +kernel

/-- A device that is no COMPANION lets the command take effect after the packet. It shows the far surface's queue as empty in its QUEUED,
which would lie at the address of TILE_EPOCH of port 0. -/
theorem cancelWaits_settled : (roleSettled (xStatusReceived 0 0 [] 0 cancelWaits)).fget (R.TILE_EPOCH_TILE 0) = 0 := by decide +kernel

end UpstreamPackets

/-- Refutes O23: STATUS_RECEIVED ends in the settling of the device's role (R417), in which commands that wait without an ALIGN take
effect, and neither the statement nor `State.shape` bounds their TARGET. In `cancelWaits` a STATUS of a wrong LEN, which is to leave the
tile's epoch, is followed by a CANCEL_TIMED that writes the QUEUED of its surface over it. -/
theorem not_upstreamPacketsAct : ¬ Obligations.UpstreamPacketsAct := by
  unfold Obligations.UpstreamPacketsAct
  rintro ⟨-, -, -, -, -, -, hshort, -⟩
  obtain ⟨hshape, hopen⟩ := cancelWaits_receives
  obtain ⟨t, hexec, -, -, -, -, hepoch⟩ := hshort cancelWaits 0 0 0 [] hshape hopen rfl
  have hrun : exec (.statusReceived 0 0 [] 0) cancelWaits
      = .next (cancelWaits.after (roleSettled (xStatusReceived 0 0 [] 0 cancelWaits))) := rfl
  obtain rfl := Host.Outcome.next.inj (hrun.symm.trans hexec)
  rw [after_fget _ _ _ (by decide)] at hepoch
  exact absurd (cancelWaits_settled.symm.trans (hepoch.trans cancelWaits_epoch)) (by decide)

section DownstreamTimers

/-! ## Packets sent again on a legacy port -/

/-- A KEEPALIVE that has the number 0. -/
def keepaliveSent : SentPkt := { kind := pktCtrl, body := u8 ctrlKeepalive ++ [0] }

/-- Every domain on, and port 6 ACTIVE in forwarded-clock legacy mode (R257) with `keepaliveSent` unresolved. -/
def legacySent : State :=
  let u : State := { State.reset with ports := rep 6 {} ++ { unres := [keepaliveSent] } :: rep 17 {} }
  (((u.fset R.PWR_DOM_STATUS_ON 0xFFF).fsetb R.PWR_DOM_STATUS_TLA_LIMP false).fset (R.TILE_LANE_STATUS_STATE 6) laneActive).fsetb
    (R.TILE_LANE_CTRL_LEGACY 6) true

theorem legacySent_sends : legacySent.shape ∧ legacySent.legacy 6 = true ∧ legacySent.canSend 6 = true := by decide +kernel

/-- The packet goes out again, and a legacy port keeps none unresolved. -/
theorem legacySent_timeout : ((xAckTimeout 6 0 legacySent).port 6).unres = [] := by decide +kernel

end DownstreamTimers

/-- Refutes O24: the clauses of ACK_TIMEOUT that send a packet again leave out that the port is no legacy port. What goes out in
forwarded-clock legacy mode, whose upstream receivers are off (R258), is not kept as unresolved: in `legacySent`, which `State.shape`
admits, a KEEPALIVE is sent again and leaves the list. -/
theorem not_downstreamTimersAct : ¬ Obligations.DownstreamTimersAct := by
  unfold Obligations.DownstreamTimersAct
  rintro ⟨-, hctrl, -⟩
  obtain ⟨hshape, -, hsend⟩ := legacySent_sends
  obtain ⟨t, hexec, hkept, -⟩ := hctrl legacySent 6 0 pktCtrl 0 0 0 (u8 ctrlKeepalive ++ [0]) hshape hsend rfl rfl rfl rfl rfl
    List.mem_cons_self rfl (by decide) (by decide)
  have hrun : exec (.ackTimeout 6 0) legacySent = .next (legacySent.after (xAckTimeout 6 0 legacySent)) := rfl
  obtain rfl := Host.Outcome.next.inj (hrun.symm.trans hexec)
  rw [State.port, after_ports] at hkept
  exact absurd (legacySent_timeout.symm.trans hkept) nofun

end Sys2Proof.Machine

namespace Sys2Proof.Machine

section Health

/-! ## The health engine -/

variable {s t : State} {p : Nat}

/-! ### Health records and PIX_HLT_PORT_STAT -/

theorem shape_health (h : s.shape) : s.pix.health.length = 24 := by
  obtain ⟨-, -, -, -, -, -, hh, -⟩ := h
  exact hh

theorem hl_of_pix (h : t.pix = s.pix) (p : Nat) : t.hl p = s.hl p := by
  unfold State.hl
  rw [h]

theorem setHl_hl (p n : Nat) (f : Health → Health) (s : State) :
    (s.setHl p f).hl n = if p = n ∧ n < s.pix.health.length then f (s.hl n) else s.hl n := nth_upd f s.pix.health p n

theorem setHl_hl_same (hp : p < s.pix.health.length) (f : Health → Health) : (s.setHl p f).hl p = f (s.hl p) :=
  (setHl_hl p p f s).trans (if_pos ⟨rfl, hp⟩)

theorem setHl_health (p : Nat) (f : Health → Health) (s : State) : (s.setHl p f).pix.health.length = s.pix.health.length :=
  upd_length f s.pix.health p

theorem after_hl (s t : State) (p : Nat) : (s.after t).hl p = t.hl p := hl_of_pix (after_pix s t) p

/-- PORT_STAT of a port is none of the registers that a fault's record changes. -/
theorem portStat_unreported (hp : p < 24) : ¬ reportReg (0x50704 + p * 0x10) := by
  unfold reportReg ioReg
  omega

theorem after_portStat (p : Nat) (s t : State) (f : Fld) (hf : f.addr = 0x50704 + p * 0x10) : (s.after t).fbit f = t.fbit f :=
  after_fbit s t f (by omega)

theorem tileHealth_report (p kind count : Nat) (s : State) : OnlyReport s (s.tileHealth p kind count) :=
  (health_records _ _ _ _).io.report

theorem Within.hl (h : OnlyReport s t) (p : Nat) : t.hl p = s.hl p := hl_of_pix (h.part State.pix fun _ => rfl) p

/-- The report of a fault leaves PORT_STAT. -/
theorem Within.portStat (h : OnlyReport s t) (hp : p < 24) (f : Fld) (hf : f.addr = 0x50704 + p * 0x10) : t.fbit f = s.fbit f :=
  h.fbit f (by rw [hf]; exact portStat_unreported hp)

/-- The report of a fault leaves the ports that the safety pair holds. -/
theorem Within.heldPorts (h : OnlyReport s t) : t.fget R.SAFE_TILE_HELD_PORTS = s.fget R.SAFE_TILE_HELD_PORTS := h.fget _ (by decide)

/-! ### Ports held for a fault at a pixel (R335, R337, R383) -/

theorem withSafe_fget (x : SafeSt) (f : Fld) (s : State) : ({ s with safe := x } : State).fget f = s.fget f := rfl

theorem withSafe_fbit (x : SafeSt) (f : Fld) (s : State) : ({ s with safe := x } : State).fbit f = s.fbit f := rfl

theorem holdTile_held (hp : p < 24) (fault idx : Nat) (s : State) :
    bitOf ((s.holdTile p fault idx).fget R.SAFE_TILE_HELD_PORTS) p = true := by
  unfold State.holdTile
  extract_lets a b
  have ha : bitOf (a.fget R.SAFE_TILE_HELD_PORTS) p = true := by
    unfold a
    rw [fget_fset_self _ _ _ rfl, show R.SAFE_TILE_HELD_PORTS.width = 24 from rfl, bitOf_eq_testBit, Nat.testBit_mod_two_pow,
      decide_eq_true hp, Bool.true_and, ← bitOf_eq_testBit, bitOf_maskSet, if_pos rfl]
  have hb : b.fget R.SAFE_TILE_HELD_PORTS = a.fget R.SAFE_TILE_HELD_PORTS := by
    unfold b
    split
    · rfl
    · exact fget_fset_addr a _ _ _ (by simp only [R.SAFE_TILE_HELD_PORTS, R.PIX_HLT_PORT_STAT_TILE_HELD]; omega)
  rw [withSafe_fget, hb]
  exact ha

/-- A mass fault's hold is not shown in PORT_STAT. -/
theorem holdTile_mass_fbit (idx : Nat) (s : State) (f : Fld) (hf : f.addr ≠ R.SAFE_TILE_HELD_PORTS.addr) :
    (s.holdTile p 19 idx).fbit f = s.fbit f := by
  unfold State.holdTile
  extract_lets a b
  rw [withSafe_fbit, show b = a from if_pos rfl]
  exact fbit_fset_addr s _ f _ hf

theorem holdTile_tileHeld {fault : Nat} (hf : fault ≠ 19) (idx : Nat) (s : State) :
    (s.holdTile p fault idx).fbit (R.PIX_HLT_PORT_STAT_TILE_HELD p) = true := by
  unfold State.holdTile
  extract_lets a b
  rw [withSafe_fbit, show b = a.fsetb (R.PIX_HLT_PORT_STAT_TILE_HELD p) true from if_neg hf]
  exact fbit_fsetb_self a _ true rfl rfl

theorem holdTile_pix (p fault idx : Nat) (s : State) : (s.holdTile p fault idx).pix = s.pix := by
  unfold State.holdTile
  extract_lets a b
  change b.pix = s.pix
  unfold b
  split
  · exact State.fset_pix s _ _
  · rw [State.fsetb_pix]
    exact State.fset_pix s _ _

/-- Fault 17 is only reported (Table 11-6). -/
theorem raise17_report (inst detail : Nat) (s : State) : OnlyReport s (s.raise 17 inst detail) :=
  raise_report rfl (by decide) (by decide) inst detail s

/-- A SHORT that counts as not isolated holds its port. -/
theorem notIsolated_holds (hp : p < 24) (idx : Nat) (s : State) :
    bitOf ((s.notIsolated p idx).fget R.SAFE_TILE_HELD_PORTS) p = true
      ∧ (s.notIsolated p idx).fbit (R.PIX_HLT_PORT_STAT_TILE_HELD p) = true := by
  have h : OnlyReport (s.holdTile p 17 idx) (s.notIsolated p idx) := raise17_report p idx _
  rw [h.heldPorts, h.portStat hp _ rfl]
  exact ⟨holdTile_held hp 17 idx s, holdTile_tileHeld (by decide) idx s⟩

theorem notIsolated_pix (p idx : Nat) (s : State) : (s.notIsolated p idx).pix = s.pix :=
  ((raise17_report p idx _).part State.pix fun _ => rfl).trans (holdTile_pix p 17 idx s)

/-! ### Limits of a monitored port (R337, R339) -/

/-- A monitored port acts where its count stands at the limit and the fault does not stand yet. -/
theorem limit_met {mon on : Bool} {limit k : Nat} (hmon : mon = true) (hon : on = false) (hk : limit ≤ k) :
    (mon && !on && decide (limit ≤ k)) = true := by simp [hmon, hon, hk]

theorem limit_unmet {mon on : Bool} {limit k : Nat} (h : mon = false ∨ on = true ∨ k < limit) :
    ¬ (mon && !on && decide (limit ≤ k)) = true := by
  rcases h with h | h | h
  · simp [h]
  · simp [h]
  · simp [Nat.not_le.2 h]

/-! ### Mass faults (R337) -/

theorem massCheck_acts (hp : p < 24) (px : Nat) (hmon : s.monitored p = true) (hmass : s.fbit (R.PIX_HLT_PORT_STAT_MASS p) = false)
    (hk : max 1 (s.fget R.PIX_HLT_MASS_MASS_N) ≤ (s.hl p).recent) :
    (s.massCheck p px).fbit (R.PIX_HLT_PORT_STAT_MASS p) = true
      ∧ bitOf ((s.massCheck p px).fget R.SAFE_TILE_HELD_PORTS) p = true
      ∧ (s.massCheck p px).fbit (R.PIX_HLT_PORT_STAT_TILE_HELD p) = s.fbit (R.PIX_HLT_PORT_STAT_TILE_HELD p) := by
  unfold State.massCheck
  extract_lets k a
  rw [if_pos (limit_met hmon hmass hk)]
  have ha : OnlyReport (s.fsetb (R.PIX_HLT_PORT_STAT_MASS p) true) a := tileHealth_report p 0 k _
  have hraise : OnlyReport (a.holdTile p 19 px) ((a.holdTile p 19 px).raise 19 p k) := raise_report rfl (by decide) (by decide) p k _
  have hstat : ∀ f : Fld, f.addr = 0x50704 + p * 0x10 →
      ((a.holdTile p 19 px).raise 19 p k).fbit f = (s.fsetb (R.PIX_HLT_PORT_STAT_MASS p) true).fbit f := fun f hf => by
    rw [hraise.portStat hp f hf, holdTile_mass_fbit px a f (by rw [hf]; simp only [R.SAFE_TILE_HELD_PORTS]; omega), ha.portStat hp f hf]
  rw [hstat _ rfl, hraise.heldPorts, hstat _ rfl]
  exact ⟨fbit_fsetb_self s _ true rfl rfl, holdTile_held hp 19 px a, fbit_fsetb_beside s _ _ true rfl rfl rfl⟩

theorem massCheck_none (px : Nat)
    (h : s.monitored p = false ∨ s.fbit (R.PIX_HLT_PORT_STAT_MASS p) = true ∨ (s.hl p).recent < max 1 (s.fget R.PIX_HLT_MASS_MASS_N)) :
    s.massCheck p px = s := if_neg (limit_unmet h)

/-! ### Stalls (R339) -/

theorem xHealthStall_acts (hp : p < 24) (hmon : s.monitored p = true) (hstall : s.fbit (R.PIX_HLT_PORT_STAT_STALL p) = false)
    (hq : max 2 (s.fget R.PIX_HLT_CTRL_STALL_SC) ≤ (s.hl p).quiet) :
    (xHealthStall p s).fbit (R.PIX_HLT_PORT_STAT_STALL p) = true ∧ (xHealthStall p s).hl p = s.hl p := by
  unfold xHealthStall
  extract_lets q
  rw [if_pos (limit_met hmon hstall hq)]
  have h : OnlyReport (s.fsetb (R.PIX_HLT_PORT_STAT_STALL p) true)
      (((s.fsetb (R.PIX_HLT_PORT_STAT_STALL p) true).tileHealth p 1 q).raise 20 p q) :=
    (tileHealth_report p 1 q _).trans (raise_report rfl (by decide) (by decide) p q _)
  rw [h.portStat hp _ rfl, h.hl]
  exact ⟨fbit_fsetb_self s _ true rfl rfl, hl_of_pix (State.fsetb_pix _ _ _) p⟩

theorem xHealthStall_none
    (h : s.monitored p = false ∨ s.fbit (R.PIX_HLT_PORT_STAT_STALL p) = true ∨ (s.hl p).quiet < max 2 (s.fget R.PIX_HLT_CTRL_STALL_SC)) :
    xHealthStall p s = s := if_neg (limit_unmet h)

/-! ### Isolations that are not confirmed (R335) -/

theorem xIsolationTimeout_eq {q : IsoReq} {l : List IsoReq} (h : (s.hl p).iso = q :: l) :
    xIsolationTimeout p s = (s.isolationFails p q).setHl p fun h => { h with iso := h.iso.drop 1 } := by
  unfold xIsolationTimeout
  rw [h]

theorem xIsolationTimeout_none (h : (s.hl p).iso = []) : xIsolationTimeout p s = s := by
  unfold xIsolationTimeout
  rw [h]

/-- A SHORT that counted as not isolated already is not held for again. -/
theorem isolationFails_told {q : IsoReq} (h : q.failed = true) : s.isolationFails p q = s := if_pos h

theorem isolationFails_untold {q : IsoReq} (h : q.failed = false) : s.isolationFails p q = s.notIsolated p q.idx :=
  if_neg (Bool.eq_false_iff.1 h)

theorem isolationFails_pix (p : Nat) (q : IsoReq) (s : State) : (s.isolationFails p q).pix = s.pix := by
  unfold State.isolationFails
  split
  · rfl
  · exact notIsolated_pix p q.idx s

/-- The oldest request is taken. -/
theorem xIsolationTimeout_iso (hp : p < s.pix.health.length) {q : IsoReq} {l : List IsoReq} (h : (s.hl p).iso = q :: l) :
    ((xIsolationTimeout p s).hl p).iso = l := by
  have hpix := isolationFails_pix p q s
  rw [xIsolationTimeout_eq h, setHl_hl_same (by rw [hpix]; exact hp), hl_of_pix hpix, h]
  rfl

/-! ### Samples past their deadline (R322) -/

theorem queuePixel_recs (p : Nat) (m : Member) (i : Nat) (s : State) : ((s.queuePixel p m i).hl p).recs = (s.hl p).recs := by
  unfold State.queuePixel
  extract_lets h
  split
  · rfl
  split
  · rw [hl_of_pix (State.fadd_pix _ _ _)]
  · rw [setHl_hl]
    split <;> rfl

/-- The record of the scan cycle closes; what is queued anew leaves the records. -/
theorem xSampleDeadline_recs (hp : p < s.pix.health.length) {scan : Nat} {r : ScanRec} (hj : s.judges p = true)
    (hm : (s.memberOf p).isSome = true) (hr : (s.hl p).recs.find? (fun r => !r.closed && r.s % 16 == scan) = some r) :
    ((xSampleDeadline p scan s).hl p).recs = (s.hl p).recs.map fun q => if q.s = r.s then { q with closed := true } else q := by
  obtain ⟨⟨n, m⟩, hm⟩ := Option.isSome_iff_exists.1 hm
  unfold xSampleDeadline
  rw [hm, hr]
  dsimp only
  rw [if_neg (by simp [hj]), foldl_rel (R := fun s t : State => (t.hl p).recs = (s.hl p).recs) (fun _ => rfl) (fun h k => k.trans h) _ _
    (fun u i _ => queuePixel_recs p m i u), setHl_hl_same (by rw [State.fadd_pix]; exact hp),
    hl_of_pix (State.fadd_pix _ _ _)]

theorem xSampleDeadline_none {scan : Nat}
    (h : s.judges p = false ∨ s.memberOf p = none ∨ (s.hl p).recs.find? (fun r => !r.closed && r.s % 16 == scan) = none) :
    xSampleDeadline p scan s = s := by
  unfold xSampleDeadline
  split
  · rename_i hm hr
    rw [hm, hr] at h
    exact if_pos (by simpa using h)
  · rfl

/-! ### Captures of a baseline (R326) -/

/-- PIX and one PORT_STAT alone change. -/
abbrev OnlyPort (p : Nat) := Within (fun x => { x with pix := {} }) (· = 0x50704 + p * 0x10)

theorem setHl_only (p n : Nat) (f : Health → Health) (s : State) : OnlyPort p s (s.setHl n f) := .parts rfl rfl

theorem clearMass_only (p : Nat) (s : State) : OnlyPort p s (s.clearMass p) :=
  .ite (.trans (.fsetb (.refl s) rfl) (setHl_only p p _ _)) (.refl s)

theorem Within.monitored (h : OnlyPort p s t) (hp : p < 24) : t.monitored p = s.monitored p := by
  unfold State.monitored State.healthOpen State.laneUp State.portOn State.lane State.legacy State.owns State.memberOf State.gen
  rw [h.part State.gens fun _ => rfl, h.domOn (by omega), h.domOn (by omega), h.fbit R.PIX_HLT_CTRL_EN (by simp only [R.PIX_HLT_CTRL_EN]; omega),
    h.fbit (R.PIX_HLT_PORT_CTRL_MON_EN p) (by simp only [R.PIX_HLT_PORT_CTRL_MON_EN]; omega),
    h.fbit R.PWR_DOM_STATUS_TLA_LIMP (by simp only [R.PWR_DOM_STATUS_TLA_LIMP]; omega),
    h.fget (R.TILE_LANE_STATUS_STATE p) (by simp only [R.TILE_LANE_STATUS_STATE]; omega),
    h.fbit (R.TILE_LANE_CTRL_LEGACY p) (by simp only [R.TILE_LANE_CTRL_LEGACY]; omega),
    h.fbit (R.TILE_PROTO_STATUS_OWN p) (by simp only [R.TILE_PROTO_STATUS_OWN]; omega)]

theorem clearMass_mass (p : Nat) (s : State) : (s.clearMass p).fbit (R.PIX_HLT_PORT_STAT_MASS p) = false := by
  unfold State.clearMass
  split
  · rw [State.setHl_fbit]
    exact fbit_fsetb_self s _ false rfl rfl
  · rename_i h
    exact Bool.eq_false_iff.2 h

theorem clearMass_capturing (p : Nat) (s : State) :
    (s.clearMass p).fbit (R.PIX_HLT_PORT_STAT_CAPTURING p) = s.fbit (R.PIX_HLT_PORT_STAT_CAPTURING p) := by
  unfold State.clearMass
  split
  · rw [State.setHl_fbit]
    exact fbit_fsetb_beside s _ _ false rfl rfl rfl
  · rfl

theorem clearMass_capture (p : Nat) (s : State) : ((s.clearMass p).hl p).capture = (s.hl p).capture := by
  unfold State.clearMass
  split
  · rw [setHl_hl, hl_of_pix (State.fsetb_pix _ _ _)]
    split <;> rfl
  · rfl

theorem clearMass_health (p : Nat) (s : State) : (s.clearMass p).pix.health.length = s.pix.health.length := by
  unfold State.clearMass
  split
  · rw [setHl_health, State.fsetb_pix]
  · rfl

theorem xBaselineCapture_acts (hp : p < s.pix.health.length) (hmon : s.monitored p = true) (hc : (s.hl p).capture = none) :
    ((xBaselineCapture p s).hl p).capture = some {} ∧ (xBaselineCapture p s).fbit (R.PIX_HLT_PORT_STAT_CAPTURING p) = true
      ∧ (xBaselineCapture p s).fbit (R.PIX_HLT_PORT_STAT_MASS p) = s.fbit (R.PIX_HLT_PORT_STAT_MASS p) := by
  unfold xBaselineCapture
  rw [if_neg (by simp [hmon, hc]), hl_of_pix (State.fsetb_pix _ _ _), setHl_hl_same hp]
  exact ⟨rfl, fbit_fsetb_self _ _ true rfl rfl, fbit_fsetb_beside _ _ _ true rfl rfl rfl⟩

theorem xBaselineCapture_none (h : s.monitored p = false ∨ (s.hl p).capture.isSome = true) : xBaselineCapture p s = s :=
  if_pos (by simpa using h)

/-- A write of 1 to CAPTURE of a port that is on: what its effect leaves of the port stands. -/
theorem captureWrite_keeps (hp : p < 24) {act : State → State} (h5 : s.domOn 5 = true) (hb : s.blockOff (0x50700 + 0x10 * p) = false) :
    (s.after (s.barWrite (0x50700 + 0x10 * p) act)).hl p = (act s).hl p
      ∧ ∀ f : Fld, f.addr = 0x50704 + p * 0x10 → (s.after (s.barWrite (0x50700 + 0x10 * p) act)).fbit f = (act s).fbit f := by
  rw [barWrite_on s _ act h5 hb]
  refine ⟨(after_hl _ _ p).trans (hl_of_pix (idleRestart_only _).pix p), fun f hf => ?_⟩
  rw [after_portStat p _ _ f hf, idleRestart_fbit _ _ (by omega)]

theorem xBaselineCaptureDone_acts (hp : p < 24) (hlen : p < s.pix.health.length) {c : Capture} (hc : (s.hl p).capture = some c)
    (h256 : 256 ≤ c.cycles) :
    ((xBaselineCaptureDone p s).hl p).capture = none ∧ ((xBaselineCaptureDone p s).hl p).base = captureBase c.acc
      ∧ (xBaselineCaptureDone p s).fbit (R.PIX_HLT_PORT_STAT_CAPTURING p) = false
      ∧ (xBaselineCaptureDone p s).fbit (R.PIX_HLT_PORT_STAT_BASE_LOADED p) = true := by
  unfold xBaselineCaptureDone
  rw [hc]
  dsimp only
  rw [if_neg (by omega)]
  generalize captureBase c.acc = b
  have h := tileHealth_report p 4 b.length
    (((s.setHl p fun h => { h with base := b, capture := none }).fsetb (R.PIX_HLT_PORT_STAT_CAPTURING p) false).fsetb
      (R.PIX_HLT_PORT_STAT_BASE_LOADED p) true)
  rw [h.hl, h.portStat hp _ rfl, h.portStat hp _ rfl, hl_of_pix (State.fsetb_pix _ _ _), hl_of_pix (State.fsetb_pix _ _ _), setHl_hl_same hlen,
    fbit_fsetb_beside _ _ (R.PIX_HLT_PORT_STAT_CAPTURING p) true rfl rfl rfl]
  exact ⟨rfl, rfl, fbit_fsetb_self _ _ false rfl rfl, fbit_fsetb_self _ _ true rfl rfl⟩

theorem xBaselineCaptureDone_none (h : (s.hl p).capture.all (fun c => decide (c.cycles < 256)) = true) : xBaselineCaptureDone p s = s := by
  unfold xBaselineCaptureDone
  split
  · rfl
  · rename_i c hc
    rw [hc] at h
    exact if_pos (of_decide_eq_true h)

end Health

/-- Settles O25: each event by what its operation does to PORT_STAT, the port's health record and the held ports. The records and the
faults 17, 19 and 20 that they raise are reports alone (Table 11-6) and leave all three. -/
theorem healthEngineActs : Obligations.HealthEngineActs := by
  unfold Obligations.HealthEngineActs
  refine ⟨?_, ?_, ?_, ?_, ?_, ?_, ?_, ?_, ?_, ?_, ?_, ?_, ?_⟩
  · intro s p hs hmon hmass hk
    refine ⟨s.after (xMassFault p s), rfl, ?_⟩
    rw [after_portStat p _ _ _ rfl, after_fget _ _ _ (by decide), after_portStat p _ _ _ rfl]
    exact massCheck_acts p.isLt _ hmon hmass hk
  · intro s p h
    exact ⟨_, rfl, congrArg s.after (massCheck_none _ h)⟩
  · intro s p hs hmon hstall hq
    obtain ⟨hset, hkept⟩ := xHealthStall_acts p.isLt hmon hstall hq
    refine ⟨s.after (xHealthStall p s), rfl, ?_⟩
    rw [after_portStat p _ _ _ rfl, after_hl, hkept]
    exact ⟨hset, rfl⟩
  · intro s p h
    exact ⟨_, rfl, congrArg s.after (xHealthStall_none h)⟩
  · intro s p i w f l hs h
    have hx := xIsolationTimeout_eq h
    refine ⟨s.after (xIsolationTimeout p s), rfl, ?_⟩
    rw [after_hl, after_fget _ _ _ (by decide), after_portStat p _ _ _ rfl]
    refine ⟨xIsolationTimeout_iso (by rw [shape_health hs]; exact p.isLt) h, ?_, ?_⟩
    · rintro rfl
      rw [hx, State.setHl_fget, State.setHl_fbit, isolationFails_untold rfl]
      exact notIsolated_holds p.isLt i s
    · rintro rfl
      rw [hx, State.setHl_fget, isolationFails_told rfl]
  · intro s p h
    exact ⟨_, rfl, congrArg s.after (xIsolationTimeout_none h)⟩
  · intro s p n r hs hj hm hr
    refine ⟨s.after (xSampleDeadline p n s), rfl, ?_⟩
    rw [after_hl]
    exact xSampleDeadline_recs (by rw [shape_health hs]; exact p.isLt) hj hm hr
  · intro s p n h
    exact ⟨_, rfl, congrArg s.after (xSampleDeadline_none h)⟩
  · intro s p hs h5 hb hmon hc
    obtain ⟨hhl, hstat⟩ := captureWrite_keeps (act := fun s => xBaselineCapture p (s.clearMass p)) p.isLt h5 hb
    obtain ⟨hcap, hcapt, hmass⟩ := xBaselineCapture_acts (s := s.clearMass p) (by rw [clearMass_health, shape_health hs]; exact p.isLt)
      (((clearMass_only p s).monitored p.isLt).trans hmon) ((clearMass_capture p s).trans hc)
    refine ⟨s.after (s.barWrite (0x50700 + 0x10 * p.val) fun s => xBaselineCapture p (s.clearMass p)), rfl, ?_⟩
    rw [hhl, hstat _ rfl, hstat _ rfl]
    exact ⟨hcap, hcapt, hmass.trans (clearMass_mass p s)⟩
  · intro s p hs h5 hb h
    obtain ⟨hhl, hstat⟩ := captureWrite_keeps (act := fun s => xBaselineCapture p (s.clearMass p)) p.isLt h5 hb
    have hnone : xBaselineCapture p (s.clearMass p) = s.clearMass p :=
      xBaselineCapture_none (by rw [(clearMass_only p s).monitored p.isLt, clearMass_capture]; exact h)
    refine ⟨s.after (s.barWrite (0x50700 + 0x10 * p.val) fun s => xBaselineCapture p (s.clearMass p)), rfl, ?_⟩
    rw [hhl, hstat _ rfl, hstat _ rfl, hnone]
    exact ⟨clearMass_capture p s, clearMass_capturing p s, clearMass_mass p s⟩
  · intro s p k f acc hs hk hc
    obtain ⟨hcap, hbase, hcapt, hloaded⟩ := xBaselineCaptureDone_acts p.isLt (by rw [shape_health hs]; exact p.isLt) hc hk
    refine ⟨s.after (xBaselineCaptureDone p s), rfl, ?_⟩
    rw [after_hl, after_portStat p _ _ _ rfl, after_portStat p _ _ _ rfl]
    exact ⟨hcap, hbase, hcapt, hloaded⟩
  · intro s p h
    exact ⟨_, rfl, congrArg s.after (xBaselineCaptureDone_none h)⟩
  · intro s p h
    exact ⟨_, rfl, congrArg s.after (barWrite_refused _ h)⟩

end Sys2Proof.Machine

namespace Sys2Proof.Machine

section PinView

/-! ## The fault pins and what they are judged by

R384 with RESET_N low: the pins keep their level. A view of the state holds all that this rests on; most operations keep the view. -/

/-- What decides the level of the fault pins while no cause of R384 stands: RESET_N held low, the level they have, and SENTINEL. -/
structure PinView where
  held : Bool
  low : Bool
  asleep : Bool

def State.pinView (s : State) : PinView := ⟨s.aon.resetHeld, s.aon.faultPins, s.inSentinel⟩

variable {s t : State}

/-- A change of other parts than the registers and AON. -/
theorem pinView_parts (fregs clk ticks pins host cmds sup mode flash boot sleep gens pix safe ports parkPats seg therm net twin test out free pending) :
    (State.mk s.regs fregs clk ticks pins host cmds sup mode flash boot sleep gens pix safe s.aon ports parkPats seg therm net twin test out free
      pending).pinView = s.pinView := (rfl)

/-- A change of other parts of AON. -/
theorem pinView_aon (fregs clk ticks pins host cmds sup mode flash boot sleep gens pix safe ports parkPats seg therm net twin test out free pending wake alive
      gone running hot dark holds f11 f12 disc low n xtal) :
    (State.mk s.regs fregs clk ticks pins host cmds sup mode flash boot sleep gens pix safe
      (AonSt.mk s.aon.faultPins wake alive s.aon.resetHeld gone running hot dark holds f11 f12 disc low n xtal) ports parkPats seg therm net twin test out
      free pending).pinView = s.pinView := (rfl)

/-- A field that belongs to no array lies outside PWR_MODE. -/
theorem fieldBeside {f : Fld} (h : Nat.beq f.addr 0x20100 = false) : f.addr ≠ 0x20100 := Nat.ne_of_beq_eq_false h

/-- So does a field of an array that begins above PWR_MODE. -/
theorem arrayBeside {f : Fld} {n k : Nat} (h : f.addr = n + k) (hn : Nat.ble 0x20101 n = true) : f.addr ≠ 0x20100 := by
  have := Nat.le_of_ble_eq_true hn
  omega

/-- So does a field of the rings, whose registers lie at 0x10100 + 0x40 n. -/
theorem ringBeside {f : Fld} {n k : Nat} (h : f.addr = n + k * 0x40) (hn : Nat.beq (n % 0x40) 0 = false) : f.addr ≠ 0x20100 := by
  have := Nat.ne_of_beq_eq_false hn
  omega

/-- So does a field of the rails. -/
theorem railBeside {f : Fld} {n k : Nat} (h : f.addr = n + k * 0x10) (hn : Nat.beq (n % 0x10) 0 = false) : f.addr ≠ 0x20100 := by
  have := Nat.ne_of_beq_eq_false hn
  omega

theorem wr_pinView (s : State) (a : Nat) (w : Word) (h : a ≠ 0x20100) : (s.wr a w).pinView = s.pinView := by
  have hr : (s.wr a w).rd 0x20100 = s.rd 0x20100 := rd_wr_other _ _ _ _ (Ne.symm h)
  simp only [State.pinView, State.inSentinel, State.modeNow, State.fbit, State.fget, R.PWR_MODE_MODE, R.PWR_MODE_BUSY, hr]
  rfl

theorem fset_pinView (s : State) (f : Fld) (v : Nat) (h : f.addr ≠ 0x20100) : (s.fset f v).pinView = s.pinView := wr_pinView s _ _ h
theorem fsetb_pinView (s : State) (f : Fld) (b : Bool) (h : f.addr ≠ 0x20100) : (s.fsetb f b).pinView = s.pinView := fset_pinView s f _ h
theorem fadd_pinView (s : State) (f : Fld) (k : Nat) (h : f.addr ≠ 0x20100) : (s.fadd f k).pinView = s.pinView := fset_pinView s f _ h
theorem fseti_pinView (s : State) (f : Fld) (v : Int) (h : f.addr ≠ 0x20100) : (s.fseti f v).pinView = s.pinView := fset_pinView s f _ h

theorem pinView_ite {c : Prop} [Decidable c] : (if c then s else t).pinView = if c then s.pinView else t.pinView := apply_ite _ _ _ _

theorem overList_pinView {f : Nat → State → State} (hf : ∀ i s, (f i s).pinView = s.pinView) (l : List Nat) (s : State) :
    (overList f l s).pinView = s.pinView :=
  overList_rel (R := fun s t => t.pinView = s.pinView) (fun _ => rfl) (fun h k => k.trans h) f l (fun i _ u => hf i u) s

theorem overAll_pinView {f : Nat → State → State} (hf : ∀ i s, (f i s).pinView = s.pinView) (n : Nat) (s : State) :
    (overAll n f s).pinView = s.pinView := overList_pinView hf _ s

theorem foldl_pinView {α : Type} {f : State → α → State} (hf : ∀ s x, (f s x).pinView = s.pinView) (l : List α) (s : State) :
    (l.foldl f s).pinView = s.pinView :=
  foldl_rel (R := fun s t => t.pinView = s.pinView) (fun _ => rfl) (fun h k => k.trans h) f l (fun u x _ => hf u x) s

end PinView

end Sys2Proof.Machine

namespace Sys2Proof.Machine

section PinViewKept

/-! ## Operations that keep the view of the pins

They write neither PWR_MODE nor RESET_N nor the pins, in the order of the files of the model. -/

/-! ### Parts of the state -/

theorem keepF_pinView (s : State) (a : Nat) : (s.keepF a).pinView = s.pinView := (rfl)
theorem takeDue_pinView (s : State) (f : Fld) : (s.takeDue f).pinView = s.pinView := (rfl)
theorem takeForce_pinView (s : State) (f : Fld) : (s.takeForce f).pinView = s.pinView := (rfl)
theorem emit_pinView (s : State) (o : Output) : (s.emit o).pinView = s.pinView := (rfl)
theorem emits_pinView (s : State) (os : List Output) : (s.emits os).pinView = s.pinView := (rfl)
theorem drawn_pinView (s : State) : (s.drawn).pinView = s.pinView := (rfl)

theorem domSet_pinView (s : State) (d : Nat) (on : Bool) : (s.domSet d on).pinView = s.pinView := by
  unfold State.domSet
  simp (disch := exact fieldBeside rfl) only [↓fset_pinView]

/-! ### Records and completions -/

theorem setRing_pinView (s : State) (n : Nat) (f : Ring → Ring) : (s.setRing n f).pinView = s.pinView := (rfl)

theorem showHead_pinView (s : State) (n : Nat) : (s.showHead n).pinView = s.pinView := by
  unfold State.showHead
  simp (disch := exact ringBeside rfl rfl) only [↓fset_pinView]

theorem sendVector_pinView (s : State) (v : Nat) : (s.sendVector v).pinView = s.pinView := by
  unfold State.sendVector
  simp only [↓pinView_ite, ↓pinView_parts, ↓emit_pinView, ite_self]

theorem signal_pinView (s : State) (n : Nat) : (s.signal n).pinView = s.pinView := by
  unfold State.signal
  simp only [↓sendVector_pinView, ↓setRing_pinView]

theorem coalesce_pinView (s : State) (n : Nat) (irq : Bool) : (s.coalesce n irq).pinView = s.pinView := by
  unfold State.coalesce
  simp only [↓pinView_ite, ↓setRing_pinView, ↓signal_pinView, ite_self]

theorem putRecord_pinView (s : State) (n : Nat) (body : List Byte) (irq : Bool) : (s.putRecord n body irq).pinView = s.pinView := by
  unfold State.putRecord
  simp only [↓emit_pinView, ↓showHead_pinView, ↓setRing_pinView, ↓coalesce_pinView]

theorem record_pinView (s : State) (n : Nat) (body : List Byte) : (s.record n body).pinView = s.pinView := by
  unfold State.record
  split <;> simp (disch := exact fieldBeside rfl) only [↓pinView_ite, ↓pinView_parts, ↓setRing_pinView, ↓putRecord_pinView, ↓fadd_pinView, ite_self]

theorem event_pinView (s : State) (source code frame : Nat) (body : List Byte) : (s.event source code frame body).pinView = s.pinView := by
  unfold State.event
  simp only [↓record_pinView]

theorem eventDev_pinView (s : State) (source code : Nat) (body : List Byte) : (s.eventDev source code body).pinView = s.pinView := by
  unfold State.eventDev
  simp only [↓event_pinView]

theorem eventSurf_pinView (s : State) (source code surf : Nat) (body : List Byte) : (s.eventSurf source code surf body).pinView = s.pinView := by
  unfold State.eventSurf
  simp only [↓event_pinView]

theorem health_pinView (s : State) (code frame : Nat) (body : List Byte) : (s.health code frame body).pinView = s.pinView := by
  unfold State.health
  simp only [↓record_pinView]

theorem completeRecord_pinView (s : State) (src : Nat × Nat) (body : List Byte) (irq : Bool) : (s.completeRecord src body irq).pinView = s.pinView := by
  unfold State.completeRecord
  simp (disch := exact fieldBeside rfl) only [↓pinView_ite, ↓pinView_parts, ↓putRecord_pinView, ↓fsetb_pinView, ite_self]

theorem quietRecord_pinView (s : State) (src : Nat × Nat) : (s.quietRecord src).pinView = s.pinView := (rfl)

theorem flushList_pinView (ring : Nat) (s : State) (acc os : List Outstanding) : (flushList ring s acc os).1.pinView = s.pinView := by
  induction os generalizing s acc with
  | nil => rfl
  | cons o os ih =>
    unfold flushList
    split
    · exact ih s _
    split
    · simp only [↓ih, ↓pinView_ite, ↓quietRecord_pinView, ↓completeRecord_pinView, ite_self]
    · rfl

theorem flushRing_pinView (s : State) (ring : Nat) : (s.flushRing ring).pinView = s.pinView :=
  (setRing_pinView _ _ _).trans (flushList_pinView ring s _ _)

theorem completeAt_pinView (s : State) (d : Desc) (st : Status) (frame : Nat) (result : List Byte) (eff : EffectAt) :
    (s.completeAt d st frame result eff).pinView = s.pinView := by
  unfold State.completeAt
  simp only [↓flushRing_pinView, ↓setRing_pinView]

theorem complete_pinView (s : State) (d : Desc) (st : Status) (frame : Nat) (result : List Byte) : (s.complete d st frame result).pinView = s.pinView := by
  unfold State.complete
  simp only [↓completeAt_pinView]

theorem effectDue_pinView (s : State) (due : EffectAt → Bool) : (s.effectDue due).pinView = s.pinView := (rfl)
theorem stampSlot_pinView (s : State) (ring pos : Nat) : (s.stampSlot ring pos).pinView = s.pinView := (rfl)

theorem popDesc_pinView (s : State) (ring : Nat) : (s.popDesc ring).pinView = s.pinView := by
  unfold State.popDesc
  split <;> simp only [↓setRing_pinView, ↓stampSlot_pinView]

theorem drainCpl_pinView (n : Nat) (s : State) : (drainCpl n s).pinView = s.pinView := by
  induction n generalizing s with
  | zero => rfl
  | succ n ih =>
    unfold drainCpl
    split
    · rfl
    · simp only [↓ih, ↓pinView_ite, ↓putRecord_pinView, ↓pinView_parts, ite_self]

theorem resumeCpl_pinView (s : State) : s.resumeCpl.pinView = s.pinView := by
  unfold State.resumeCpl
  simp (disch := exact fieldBeside rfl) only [↓pinView_ite, ↓fsetb_pinView, ↓drainCpl_pinView, ite_self]

theorem drainHeld_pinView (l : List HeldRecord) (s : State) : (drainHeld l s).pinView = s.pinView := by
  induction l generalizing s with
  | nil => rfl
  | cons h l ih =>
    unfold drainHeld
    split
    · simp only [↓ih, ↓putRecord_pinView, ↓setRing_pinView]
    · rw [ih, fadd_pinView _ _ _ (by split <;> exact fieldBeside rfl), setRing_pinView]

theorem sendPending_pinView (v : Nat) (s : State) : (sendPending v s).pinView = s.pinView := by
  unfold sendPending
  simp only [↓pinView_ite, ↓pinView_parts, ↓emit_pinView, ite_self]

theorem pendingVectors_pinView (s : State) : (s.pendingVectors).pinView = s.pinView := by
  unfold State.pendingVectors
  simp only [↓overAll_pinView sendPending_pinView]

theorem readHost_pinView (s : State) (addr len : Nat) : (s.readHost addr len).pinView = s.pinView := (rfl)

theorem fetchHost_pinView (s : State) (q : HeldRead) : (s.fetchHost q).pinView = s.pinView := by
  unfold State.fetchHost
  simp only [↓pinView_ite, ↓pinView_parts, ↓readHost_pinView, ite_self]

theorem resumeTraffic_pinView (s : State) : s.resumeTraffic.pinView = s.pinView := by
  unfold State.resumeTraffic
  simp only [↓pinView_ite, ↓pendingVectors_pinView, ↓foldl_pinView fun s (q : HeldRead) => readHost_pinView s q.addr q.len, ↓resumeCpl_pinView,
    ↓drainHeld_pinView, ↓pinView_parts, ite_self]

/-! ### Packets -/

theorem setPort_pinView (s : State) (p : Nat) (f : Port → Port) : (s.setPort p f).pinView = s.pinView := (rfl)
theorem setLink_pinView (s : State) (t : Nat) (f : TwinLink → TwinLink) : (s.setLink t f).pinView = s.pinView := (rfl)

theorem laneSent_pinView (s : State) (o : Output) : (s.laneSent o).pinView = s.pinView := by
  unfold State.laneSent
  split <;> simp only [↓setPort_pinView, ↓setLink_pinView]

theorem send_pinView (s : State) (o : Output) : (s.send o).pinView = s.pinView := by
  unfold State.send
  simp only [↓laneSent_pinView, ↓emit_pinView]

theorem sends_pinView (s : State) (os : List Output) : (s.sends os).pinView = s.pinView := foldl_pinView send_pinView os s

theorem exitIdle_pinView (s : State) (p : Nat) : (s.exitIdle p).pinView = s.pinView := by
  unfold State.exitIdle
  simp (disch := exact arrayBeside rfl rfl) only [↓pinView_ite, ↓send_pinView, ↓fset_pinView, ite_self]

theorem startPkt_pinView (s : State) (p : Nat) (u : SentPkt) (at_ : Nat) : (s.startPkt p u at_).pinView = s.pinView := by
  unfold State.startPkt
  simp (disch := exact arrayBeside rfl rfl) only [↓pinView_ite, ↓exitIdle_pinView, ↓send_pinView, ↓fset_pinView, ↓setPort_pinView, ite_self]

theorem sendPkt_pinView (s : State) (p : Nat) (u : SentPkt) : (s.sendPkt p u).pinView = s.pinView := by
  unfold State.sendPkt
  simp only [↓pinView_ite, ↓setPort_pinView, ↓startPkt_pinView, ite_self]

theorem sendQueued_pinView (p k : Nat) (s : State) : (sendQueued p k s).pinView = s.pinView := by
  induction k generalizing s with
  | zero => rfl
  | succ k ih =>
    unfold sendQueued
    split
    · rfl
    · simp only [↓pinView_ite, ↓ih, ↓startPkt_pinView, ↓setPort_pinView, ite_self]

theorem portGoes_pinView (p : Nat) (s : State) : (portGoes p s).pinView = s.pinView := sendQueued_pinView p _ s

theorem sendNow_pinView (s : State) (p kind : Nat) (body : List Byte) (due : Nat) : (s.sendNow p kind body due).pinView = s.pinView := by
  unfold State.sendNow
  simp only [↓sendPkt_pinView]

theorem sendControl_pinView (s : State) (p kind : Nat) (body : List Byte) : (s.sendControl p kind body).pinView = s.pinView := by
  unfold State.sendControl
  simp only [↓pinView_ite, ↓setPort_pinView, ↓sendNow_pinView, ite_self]

theorem sendCtrl_pinView (s : State) (p sub : Nat) (rest : List Byte) : (s.sendCtrl p sub rest).pinView = s.pinView := by
  unfold State.sendCtrl
  simp only [↓sendControl_pinView]

theorem nextControl_pinView (s : State) (p : Nat) : (s.nextControl p).pinView = s.pinView := by
  unfold State.nextControl
  split <;> simp only [↓pinView_ite, ↓sendNow_pinView, ↓setPort_pinView, ite_self]

theorem sendCtrlFirst_pinView (s : State) (p sub : Nat) (rest : List Byte) : (s.sendCtrlFirst p sub rest).pinView = s.pinView := by
  unfold State.sendCtrlFirst
  simp only [↓pinView_ite, ↓setPort_pinView, ↓sendCtrl_pinView, ite_self]

theorem scaleOwed_pinView (p : Nat) (s : State) : (scaleOwed p s).pinView = s.pinView := (rfl)

theorem sendScale_pinView (s : State) (p scale : Nat) : (s.sendScale p scale).pinView = s.pinView := by
  unfold State.sendScale
  simp only [↓setPort_pinView, ↓sendCtrl_pinView]

theorem linkEvent_pinView (s : State) (p kind count : Nat) : (s.linkEvent p kind count).pinView = s.pinView := by
  unfold State.linkEvent
  simp only [↓eventDev_pinView]

theorem twinLinkEvent_pinView (s : State) (t kind count : Nat) : (s.twinLinkEvent t kind count).pinView = s.pinView := by
  unfold State.twinLinkEvent
  simp only [↓eventDev_pinView]

theorem twinEvent_pinView (s : State) (kind epoch frame : Nat) : (s.twinEvent kind epoch frame).pinView = s.pinView := by
  unfold State.twinEvent
  simp only [↓eventDev_pinView]

theorem sendTwin_pinView (s : State) (kind : Nat) (body : List Byte) : (s.sendTwin kind body).pinView = s.pinView := by
  unfold State.sendTwin
  simp only [↓pinView_ite, ↓pinView_parts, ↓sends_pinView, ite_self]

/-! ### Flags -/

theorem showSafe_pinView (s : State) : (s.showSafe).pinView = s.pinView := by
  unfold State.showSafe
  simp (disch := exact fieldBeside rfl) only [↓fsetb_pinView, ↓fset_pinView]

/-! ### Lane states -/

theorem setHs_pinView (s : State) (u l : Nat) (f : Handshake → Handshake) : (s.setHs u l f).pinView = s.pinView := by
  unfold State.setHs
  simp only [↓pinView_ite, ↓setPort_pinView, ↓setLink_pinView, ite_self]

theorem setHsAll_pinView (s : State) (u : Nat) (f : Handshake → Handshake) : (s.setHsAll u f).pinView = s.pinView :=
  foldl_pinView (fun s l => setHs_pinView s u l f) _ s

theorem setRx_pinView (s : State) (u l : Nat) (f : Receiver → Receiver) : (s.setRx u l f).pinView = s.pinView := by
  unfold State.setRx
  simp only [↓pinView_ite, ↓setPort_pinView, ↓setLink_pinView, ite_self]

theorem unitEvent_pinView (s : State) (u kind count : Nat) : (s.unitEvent u kind count).pinView = s.pinView := by
  unfold State.unitEvent
  simp only [↓pinView_ite, ↓linkEvent_pinView, ↓twinLinkEvent_pinView, ite_self]

theorem sendTrn_pinView (s : State) (u l : Nat) : (s.sendTrn u l).pinView = s.pinView := by
  unfold State.sendTrn
  simp only [↓pinView_ite, ↓setHs_pinView, ↓send_pinView, ite_self]

theorem startTrn_pinView (s : State) (u : Nat) : (s.startTrn u).pinView = s.pinView := by
  unfold State.startTrn
  simp only [↓foldl_pinView fun s l => sendTrn_pinView s u l, ↓pinView_ite, ↓setPort_pinView, ↓setLink_pinView, ite_self]

theorem dropLocks_pinView (s : State) (u : Nat) (ls : List Nat) : (s.dropLocks u ls).pinView = s.pinView :=
  foldl_pinView (fun s l => (setHs_pinView _ u l _).trans (setRx_pinView s u l _)) ls s

theorem portPrbsCount_pinView (s : State) (p : Nat) (r : PrbsResult) : (s.portPrbsCount p r).pinView = s.pinView := by
  unfold State.portPrbsCount
  simp (disch := exact arrayBeside rfl rfl) only [↓fadd_pinView, ↓fsetb_pinView, ↓setPort_pinView]

theorem linkPrbsCount_pinView (s : State) (t : Nat) (r : PrbsResult) : (s.linkPrbsCount t r).pinView = s.pinView := by
  unfold State.linkPrbsCount
  simp (disch := exact arrayBeside rfl rfl) only [↓fadd_pinView, ↓fsetb_pinView, ↓setLink_pinView]

theorem cutPortPrbs_pinView (s : State) (p : Nat) : (s.cutPortPrbs p).pinView = s.pinView := by
  unfold State.cutPortPrbs
  simp only [↓pinView_ite, ↓pinView_parts, ↓portPrbsCount_pinView, ite_self]

theorem cutLinkPrbs_pinView (s : State) (t : Nat) : (s.cutLinkPrbs t).pinView = s.pinView := by
  unfold State.cutLinkPrbs
  simp only [↓pinView_ite, ↓pinView_parts, ↓linkPrbsCount_pinView, ite_self]

theorem resendLimp_pinView (s : State) (p : Nat) : (s.resendLimp p).pinView = s.pinView := by
  unfold State.resendLimp
  simp only [↓pinView_ite, ↓foldl_pinView fun s (e : Nat × List Byte) => sendNow_pinView s p e.1 e.2 0, ↓setPort_pinView, ite_self]

theorem abandonWire_pinView (s : State) (p : Nat) : (s.abandonWire p).pinView = s.pinView := (rfl)

/-! ### Rails -/

theorem setSup_pinView (s : State) (f : SupplySt → SupplySt) : (s.setSup f).pinView = s.pinView := (rfl)

theorem pmbusStart_pinView (s : State) : s.pmbusStart.pinView = s.pinView := by
  unfold State.pmbusStart
  split
  · rfl
  split
  · rfl
  · simp only [↓emit_pinView, ↓setSup_pinView]

theorem pmbusAdd_pinView (s : State) (js : List PmbusJob) : (s.pmbusAdd js).pinView = s.pinView := by
  unfold State.pmbusAdd
  simp only [↓pmbusStart_pinView, ↓setSup_pinView]

theorem railEn_pinView (s : State) (r : Nat) (b : Bool) : (s.railEn r b).pinView = s.pinView := fsetb_pinView s _ b (railBeside rfl rfl)

theorem railBegin_pinView (s : State) (r : Nat) : (s.railBegin r).pinView = s.pinView := by
  unfold State.railBegin
  simp only [↓pinView_ite, ↓pmbusAdd_pinView, ↓setSup_pinView, ↓railEn_pinView, ite_self]

theorem railStart_pinView (s : State) (r : Nat) : (s.railStart r).pinView = s.pinView := by
  unfold State.railStart
  simp only [↓railBegin_pinView, ↓setSup_pinView]

/-! ### Faults -/

theorem segBlankOff_pinView (s : State) : (s.segBlankOff).pinView = s.pinView := by
  unfold State.segBlankOff
  simp (disch := exact fieldBeside rfl) only [↓pinView_ite, ↓pinView_parts, ↓fsetb_pinView, ite_self]

theorem segFollowTot_pinView (s : State) : (s.segFollowTot).pinView = s.pinView := by
  unfold State.segFollowTot
  simp (disch := exact fieldBeside rfl) only [↓pinView_ite, ↓pinView_parts, ↓fsetb_pinView, ite_self]

theorem totEvent_pinView (s : State) (srcs : List TotSrc) (groups : Nat) (released : Bool) : (s.totEvent srcs groups released).pinView = s.pinView := by
  unfold State.totEvent
  simp only [↓eventDev_pinView]

theorem safeEvent_pinView (s : State) (kind fault : Nat) : (s.safeEvent kind fault).pinView = s.pinView := by
  unfold State.safeEvent
  simp only [↓eventDev_pinView]

theorem totResume_pinView (p : Nat) (s : State) : (totResume p s).pinView = s.pinView := by
  unfold totResume
  simp (disch := exact arrayBeside rfl rfl) only [↓pinView_ite, ↓fsetb_pinView, ↓resendLimp_pinView, ↓sendCtrl_pinView, ↓setPort_pinView, ite_self]

theorem modeEvent_pinView (s : State) (src dst cause : Nat) : (s.modeEvent src dst cause).pinView = s.pinView := by
  unfold State.modeEvent
  simp only [↓eventDev_pinView]

theorem idleStop_pinView (s : State) : (s.idleStop).pinView = s.pinView := by
  unfold State.idleStop
  simp (disch := exact fieldBeside rfl) only [↓fsetb_pinView, ↓fset_pinView]

theorem completeSlot_pinView (s : State) (ring pos : Nat) (st : Status) (frame : Nat) (result : List Byte) :
    (s.completeSlot ring pos st frame result).pinView = s.pinView := by
  unfold State.completeSlot
  split <;> simp only [↓pinView_parts, ↓complete_pinView]

theorem showLimpPort_pinView (p : Nat) (s : State) : (showLimpPort p s).pinView = s.pinView := by
  unfold showLimpPort
  simp only [↓pinView_ite, ↓sendCtrl_pinView, ite_self]

theorem limpForm_pinView (s : State) (form : LimpForm) : (s.limpForm form).pinView = s.pinView := by
  unfold State.limpForm
  simp only [↓pinView_ite, ↓pinView_parts, ↓showSafe_pinView, ↓overAll_pinView showLimpPort_pinView, ite_self]

theorem setTwinSurf_pinView (s : State) (n : Nat) (f : TwinSurf → TwinSurf) : (s.setTwinSurf n f).pinView = s.pinView := (rfl)
theorem notAlignedAt_pinView (s : State) (n frame : Nat) : (s.notAlignedAt n frame).pinView = s.pinView := (rfl)

theorem notAligned_pinView (s : State) (n : Nat) : (s.notAligned n).pinView = s.pinView := by
  unfold State.notAligned
  simp only [↓pinView_ite, ↓notAlignedAt_pinView, ite_self]

theorem sigMismatch_pinView (s : State) (n frame : Nat) : (s.sigMismatch n frame).pinView = s.pinView := (rfl)
theorem twinBad_pinView (s : State) : (s.twinBad).pinView = s.pinView := (rfl)

theorem yieldNow_pinView (s : State) : s.yieldNow.pinView = s.pinView := by
  unfold State.yieldNow
  simp (disch := exact fieldBeside rfl) only [↓pinView_ite, ↓twinEvent_pinView, ↓fsetb_pinView, ↓pinView_aon, ite_self]

theorem twinFault_pinView (s : State) (f : Nat) : (s.twinFault f).pinView = s.pinView := by
  unfold State.twinFault
  simp only [↓pinView_ite, ↓yieldNow_pinView, ↓twinBad_pinView, ite_self]

/-! ### Domains -/

theorem resetRegs_pinView (s : State) (pick : Nat → Bool) (h : pick 0x20100 = false) : (s.resetRegs pick).pinView = s.pinView := by
  have hr : (s.resetRegs pick).rd 0x20100 = s.rd 0x20100 := resetRegs_rd h s
  simp only [State.pinView, State.inSentinel, State.modeNow, State.fbit, State.fget, R.PWR_MODE_MODE, R.PWR_MODE_BUSY, hr]
  rfl

theorem resetPort_pinView (p : Nat) (s : State) : (resetPort p s).pinView = s.pinView := (rfl)

theorem sessionOver_pinView (s : State) : (s.sessionOver).pinView = s.pinView := by
  unfold State.sessionOver
  simp (disch := exact fieldBeside rfl) only [↓pinView_parts, ↓fsetb_pinView, ↓fset_pinView]

theorem commitCut_pinView (s : State) (service : Bool) : (s.commitCut service).pinView = s.pinView := by
  unfold State.commitCut
  simp (disch := exact fieldBeside rfl) only [↓pinView_ite, ↓fsetb_pinView, ↓sessionOver_pinView, ite_self]

theorem syncLow_pinView (s : State) : (s.syncLow).pinView = s.pinView := by
  unfold State.syncLow
  simp only [↓pinView_ite, ↓pinView_parts, ↓emits_pinView, ↓emit_pinView, ite_self]

theorem tickLow_pinView (s : State) : (s.tickLow).pinView = s.pinView := by
  unfold State.tickLow
  simp only [↓pinView_ite, ↓pinView_parts, ↓emit_pinView, ite_self]

theorem resetHidden_pinView (s : State) (d : Nat) : (s.resetHidden d).pinView = s.pinView := by
  unfold State.resetHidden
  simp only [↓pinView_ite, ↓pinView_parts, ↓drawn_pinView, ↓syncLow_pinView, ↓overList_pinView resetPort_pinView, ite_self]

theorem resetDomain_pinView (s : State) (d : Nat) : (s.resetDomain d).pinView = s.pinView := by
  have hp : (ownerDomain 0x20100 == d && decide (0x20100 / 0x10000 ≠ 2)) = false := by simp
  unfold State.resetDomain
  simp (disch := exact hp) only [↓pinView_ite, ↓commitCut_pinView, ↓resetHidden_pinView, ↓resetRegs_pinView, ite_self]

theorem segClock_pinView (s : State) : (s.segClock).pinView = s.pinView := by
  unfold State.segClock
  simp (disch := exact fieldBeside rfl) only [↓pinView_ite, ↓fsetb_pinView, ite_self]

theorem waitPort_pinView (p : Nat) (s : State) : (waitPort p s).pinView = s.pinView := by
  unfold waitPort
  simp (disch := exact arrayBeside rfl rfl) only [↓pinView_ite, ↓fsetb_pinView, ↓fset_pinView, ite_self]

theorem pixOnPort_pinView (p : Nat) (s : State) : (pixOnPort p s).pinView = s.pinView := by
  unfold pixOnPort
  dsimp only
  split <;> simp (disch := exact arrayBeside rfl rfl) only [↓pinView_parts, ↓fset_pinView]

theorem showHoldover_pinView (s : State) : s.showHoldover.pinView = s.pinView := by
  unfold State.showHoldover
  simp only [↓pinView_ite, ↓overAll_pinView fun n s => fsetb_pinView s (R.TG_STATUS_HOLDOVER n) _ (arrayBeside rfl rfl), ite_self]

theorem domainOff_pinView (d : Nat) (s : State) : (domainOff d s).pinView = s.pinView := by
  unfold domainOff
  simp only [↓pinView_ite, ↓pinView_parts, ↓segClock_pinView, ↓domSet_pinView, ↓resetDomain_pinView, ↓tickLow_pinView, ↓showHoldover_pinView, ite_self]

theorem calTrigger_pinView (s : State) : (s.calTrigger).pinView = s.pinView := by
  unfold State.calTrigger
  simp (disch := exact fieldBeside rfl) only [↓pinView_ite, ↓pinView_parts, ↓fsetb_pinView, ite_self]

theorem powerDown_pinView (s : State) (ds : List Nat) : (s.powerDown ds).pinView = s.pinView := by
  unfold State.powerDown
  simp only [↓overList_pinView domainOff_pinView]

theorem tlaToLimp_pinView (s : State) : s.tlaToLimp.pinView = s.pinView := by
  unfold State.tlaToLimp
  rw [fsetb_pinView _ _ _ (fieldBeside rfl), overList_pinView resetPort_pinView, resetRegs_pinView _ _ (by decide)]

theorem storeOff_pinView (s : State) : (s.storeOff).pinView = s.pinView := by
  unfold State.storeOff
  simp (disch := exact fieldBeside rfl) only [↓fsetb_pinView, ↓resetDomain_pinView]

theorem tlaToFull_pinView (s : State) : (s.tlaToFull).pinView = s.pinView := by
  unfold State.tlaToFull
  simp (disch := exact fieldBeside rfl) only [↓fsetb_pinView]

/-! ### Boot -/

theorem setFlash_pinView (s : State) (f : FlashSt → FlashSt) : (s.setFlash f).pinView = s.pinView := (rfl)
theorem setBoot_pinView (s : State) (f : BootSt → BootSt) : (s.setBoot f).pinView = s.pinView := (rfl)

theorem applySpb_pinView (s : State) : (s.applySpb).pinView = s.pinView := by
  unfold State.applySpb
  split <;> simp (disch := exact fieldBeside rfl) only [↓pinView_parts, ↓fset_pinView]

theorem writeDir_pinView (s : State) (d : SlotDir) : (s.writeDir d).pinView = s.pinView := (rfl)

theorem showSlotsFw_pinView (s : State) : (s.showSlotsFw).pinView = s.pinView := by
  unfold State.showSlotsFw
  simp (disch := exact fieldBeside rfl) only [↓fset_pinView, ↓fsetb_pinView]

theorem showFw_pinView (s : State) : (s.showFw).pinView = s.pinView := by
  unfold State.showFw
  simp (disch := exact fieldBeside rfl) only [↓pinView_ite, ↓showSlotsFw_pinView, ↓fsetb_pinView, ↓fset_pinView, ite_self]

theorem showLc_pinView (s : State) (lc : Nat) : (s.showLc lc).pinView = s.pinView := by
  unfold State.showLc
  simp (disch := exact fieldBeside rfl) only [↓fsetb_pinView, ↓fset_pinView]

theorem showOtp_pinView (s : State) : s.showOtp.pinView = s.pinView := by
  unfold State.showOtp
  simp (disch := exact fieldBeside rfl) only [↓overAll_pinView fun w s => fset_pinView s (R.BOOT_DEV_ID_ID w) _
    (arrayBeside rfl rfl), ↓fset_pinView, ↓fsetb_pinView,
    ↓showLc_pinView]

theorem writeLc_pinView (s : State) : (s.writeLc).pinView = s.pinView := (rfl)

theorem showLock_pinView (s : State) (fails lockS : Nat) : (s.showLock fails lockS).pinView = s.pinView := by
  unfold State.showLock
  simp (disch := exact fieldBeside rfl) only [↓pinView_ite, ↓setBoot_pinView, ↓fset_pinView, ↓fsetb_pinView, ite_self]

theorem restoreLc_pinView (s : State) : (s.restoreLc).pinView = s.pinView := by
  unfold State.restoreLc
  simp only [↓pinView_ite, ↓showLock_pinView, ↓setBoot_pinView, ite_self]

theorem sounding_pinView (s : State) (unit result detail : Nat) : (s.sounding unit result detail).pinView = s.pinView := by
  unfold State.sounding
  simp only [↓eventDev_pinView]

theorem postShow_pinView (s : State) (p : PostResult) : (s.postShow p).pinView = s.pinView := by
  unfold State.postShow
  split <;> simp (disch := exact fieldBeside rfl) only
    [↓pinView_ite, ↓fset_pinView, ↓fsetb_pinView, ↓overAll_pinView fun i s => sounding_pinView s _ _ _, ite_self]

theorem bootRead_pinView (s : State) (step : BootStep) (code : Nat) : (s.bootRead step code).pinView = s.pinView := (rfl)

theorem goSlow_pinView (s : State) : (s.goSlow).pinView = s.pinView := by
  unfold State.goSlow
  simp (disch := exact fieldBeside rfl) only [↓pinView_ite, ↓setBoot_pinView, ↓fsetb_pinView, ite_self]

theorem bootDomains_pinView (s : State) (cause : Nat) : (s.bootDomains cause).pinView = s.pinView := by
  unfold State.bootDomains
  simp (disch := exact fieldBeside rfl) only [↓pinView_ite, ↓setBoot_pinView, ↓showOtp_pinView, ↓fset_pinView, ↓bootRead_pinView, ↓showFw_pinView, ite_self]

theorem dieDReset_pinView (s : State) : s.dieDReset.pinView = s.pinView := by
  unfold State.dieDReset
  simp (disch := exact fieldBeside rfl) only
    [↓pinView_ite, ↓segBlankOff_pinView, ↓fsetb_pinView, ↓setBoot_pinView, ↓pinView_aon, ↓storeOff_pinView, ↓powerDown_pinView, ite_self]

theorem bootDir_pinView (s : State) (ok : Bool) : (s.bootDir ok).pinView = s.pinView := by
  unfold State.bootDir
  dsimp only
  split <;> simp only [↓pinView_ite, ↓bootRead_pinView, ↓setBoot_pinView, ↓writeDir_pinView, ↓restoreLc_pinView, ite_self]

theorem applyBoard_pinView (s : State) : s.applyBoard.pinView = s.pinView := by
  have hw : ∀ (t : State), ∀ e ∈ (Config.boardRecords (s.slot s.boot.slot).image).filter fun e => boardReg e.1, (t.wr e.1 e.2).pinView = t.pinView := by
    intro t e he
    refine wr_pinView _ _ _ fun h => ?_
    have hb := (List.mem_filter.1 he).2
    rw [h] at hb
    exact absurd hb (by decide)
  unfold State.applyBoard
  dsimp only
  split
  · rfl
  · exact foldl_rel (R := fun s t => t.pinView = s.pinView) (fun _ => rfl) (fun h k => k.trans h) _ _ (fun u e he => hw u e he) s

theorem applySubsystem_pinView (s : State) : (s.applySubsystem).pinView = s.pinView := (rfl)

theorem startReload_pinView (s : State) : (s.startReload).pinView = s.pinView := by
  unfold State.startReload
  simp only [↓pinView_ite, ↓pinView_parts, ↓emit_pinView, ite_self]

theorem reloadWaiting_pinView (s : State) : (s.reloadWaiting).pinView = s.pinView := by
  unfold State.reloadWaiting
  simp only [↓pinView_ite, ↓startReload_pinView, ite_self]

/-! ### Supply -/

theorem railsDownDone_pinView (s : State) : s.railsDownDone.pinView = s.pinView := by
  unfold State.railsDownDone
  dsimp only
  split <;> rfl

theorem railDrop_pinView (r : Nat) (s : State) : (State.railDrop r s).pinView = s.pinView := by
  induction r generalizing s with
  | zero =>
    unfold State.railDrop
    simp only [↓pinView_ite, ↓railsDownDone_pinView, ↓railEn_pinView, ↓setSup_pinView, ite_self]
  | succ r ih =>
    unfold State.railDrop
    simp only [↓pinView_ite, ↓ih, ↓railsDownDone_pinView, ↓railEn_pinView, ↓setSup_pinView, ite_self]

theorem railsDown_pinView (s : State) (why : RailPurpose) : (s.railsDown why).pinView = s.pinView :=
  (railDrop_pinView 4 _).trans (setSup_pinView s _)

theorem railNextDown_pinView (s : State) : s.railNextDown.pinView = s.pinView := by
  unfold State.railNextDown
  simp only [↓pinView_ite, ↓railsDownDone_pinView, ↓railDrop_pinView, ite_self]

theorem shedNow_pinView (s : State) : (s.shedNow).pinView = s.pinView := by
  unfold State.shedNow
  simp only [↓setBoot_pinView, ↓setSup_pinView, ↓railsDown_pinView, ↓storeOff_pinView, ↓powerDown_pinView, ↓tlaToLimp_pinView]

theorem xRailRetryTimeout_pinView (r : Nat) (s : State) : (xRailRetryTimeout r s).pinView = s.pinView := by
  unfold xRailRetryTimeout
  simp only [↓pinView_ite, ↓railBegin_pinView, ↓setSup_pinView, ite_self]

theorem setExp_pinView (s : State) (r data : Nat) : (s.setExp r data).pinView = s.pinView := (rfl)

theorem pollDone_pinView (s : State) (j : PmbusJob) (ok : Bool) (data : Nat) : (s.pollDone j ok data).pinView = s.pinView := by
  unfold State.pollDone
  split
  · rfl
  split <;> simp (disch := exact railBeside rfl rfl) only [↓pinView_ite, ↓setExp_pinView, ↓fset_pinView, ite_self]

theorem xRailStatusPoll_pinView (s : State) : (xRailStatusPoll s).pinView = s.pinView := by
  unfold xRailStatusPoll
  simp only [↓pmbusAdd_pinView]

theorem xMainOkRise_pinView (mainMv : Nat) (s : State) : (xMainOkRise mainMv s).pinView = s.pinView := by
  unfold xMainOkRise
  simp (disch := exact fieldBeside rfl) only [↓pinView_ite, ↓fsetb_pinView, ↓pinView_aon, ite_self]

theorem xBkupHighEnough_pinView (mainMv bkupMv : Nat) (s : State) : (xBkupHighEnough mainMv bkupMv s).pinView = s.pinView := by
  unfold xBkupHighEnough
  simp (disch := exact fieldBeside rfl) only [↓pinView_ite, ↓fadd_pinView, ↓fsetb_pinView, ite_self]

theorem xSheddingStart_pinView (s : State) : (xSheddingStart s).pinView = s.pinView := by
  unfold xSheddingStart
  simp only [↓pinView_ite, ↓shedNow_pinView, ite_self]

/-! ### The clock -/

theorem setInc_pinView (s : State) (q : Nat) : (s.setInc q).pinView = s.pinView := by
  unfold State.setInc
  simp (disch := exact fieldBeside rfl) only [↓fset_pinView]

theorem slewPass_pinView (s : State) (k : Nat) : (s.slewPass k).pinView = s.pinView := by
  unfold State.slewPass
  simp (disch := exact fieldBeside rfl) only [↓pinView_ite, ↓pinView_parts, ↓fsetb_pinView, ↓setInc_pinView, ite_self]

theorem clockTicks_pinView (s : State) (k : Nat) : (s.clockTicks k).pinView = s.pinView := by
  unfold State.clockTicks
  simp only [↓pinView_ite, ↓pinView_parts, ↓slewPass_pinView, ite_self]

theorem timeEvent_pinView (s : State) (kind : Nat) : (s.timeEvent kind).pinView = s.pinView := by
  unfold State.timeEvent
  simp only [↓eventDev_pinView]

theorem showUnc_pinView (s : State) : (s.showUnc).pinView = s.pinView := by
  unfold State.showUnc
  simp (disch := exact fieldBeside rfl) only [↓fset_pinView]

theorem enterHoldover_pinView (s : State) (u : Option Nat) : (s.enterHoldover u).pinView = s.pinView := by
  unfold State.enterHoldover
  simp (disch := exact fieldBeside rfl) only [↓pinView_parts, ↓fsetb_pinView, ↓setInc_pinView, ↓showUnc_pinView, ↓showHoldover_pinView, ↓fset_pinView]

theorem sleepRecord_pinView (s : State) : (s.sleepRecord).pinView = s.pinView := (rfl)

theorem clockRestore_pinView (s : State) : (s.clockRestore).pinView = s.pinView := by
  unfold State.clockRestore
  simp (disch := exact fieldBeside rfl) only
    [↓pinView_ite, ↓pinView_parts, ↓fsetb_pinView, ↓timeEvent_pinView, ↓enterHoldover_pinView, ↓showUnc_pinView, ↓showHoldover_pinView, ↓fset_pinView,
    ite_self]

/-! ### Timing -/

theorem setGen_pinView (s : State) (n : Nat) (f : Gen → Gen) : (s.setGen n f).pinView = s.pinView := (rfl)

theorem putGrid_pinView (s : State) (n : Nat) (g : Grid) : (s.putGrid n g).pinView = s.pinView := by
  unfold State.putGrid
  simp (disch := exact arrayBeside rfl rfl) only [↓fset_pinView]

theorem sendTiming_pinView (s : State) (p : Nat) (g : Grid) (lenQ : Nat) : (s.sendTiming p g lenQ).pinView = s.pinView := by
  unfold State.sendTiming
  simp only [↓pinView_ite, ↓sendCtrl_pinView, ite_self]

theorem timingAll_pinView (s : State) (n : Nat) (g : Grid) (lenQ : Nat) : (s.timingAll n g lenQ).pinView = s.pinView := by
  unfold State.timingAll
  simp only [↓overList_pinView fun p s => sendTiming_pinView s p g lenQ]

/-! ### Presented frames -/

theorem setPx_pinView (s : State) (n : Nat) (f : SurfPix → SurfPix) : (s.setPx n f).pinView = s.pinView := (rfl)

theorem showEphem_pinView (s : State) (n : Nat) : (s.showEphem n).pinView = s.pinView := by
  unfold State.showEphem
  simp (disch := exact arrayBeside rfl rfl) only [↓fset_pinView]

theorem showSlots_pinView (s : State) : s.showSlots.pinView = s.pinView :=
  (overAll_pinView (fun k s => (fset_pinView _ (R.PIX_SCALER_OWNER k) _ (arrayBeside rfl rfl)).trans (fsetb_pinView s (R.PIX_SCALER_IN_USE k) _
    (arrayBeside rfl rfl))) _ _).trans
    (fset_pinView s _ _ (fieldBeside rfl))

theorem takeSlots_pinView (s : State) (n : Nat) (rs : List LayerRec) : (s.takeSlots n rs).pinView = s.pinView := by
  unfold State.takeSlots
  simp only [↓showSlots_pinView, ↓setPx_pinView]

theorem finishPresent_pinView (s : State) (n : Nat) (p : Present) : (s.finishPresent n p).pinView = s.pinView := by
  unfold State.finishPresent
  simp only [↓pinView_ite, ↓completeAt_pinView, ite_self]

theorem presentInEffect_pinView (s : State) (n pos : Nat) : (s.presentInEffect n pos).pinView = s.pinView := (rfl)
theorem dropReads_pinView (s : State) (pos : Nat) : (s.dropReads pos).pinView = s.pinView := (rfl)

theorem stopPresent_pinView (s : State) (n : Nat) (p : Present) : (s.stopPresent n p).1.pinView = s.pinView :=
  (finishPresent_pinView _ n _).trans (dropReads_pinView s _)

theorem supersededEvent_pinView (s : State) (n : Nat) (p : Present) : (s.supersededEvent n p).pinView = s.pinView := by
  unfold State.supersededEvent
  simp only [↓eventSurf_pinView]

theorem supersede_pinView (s : State) (n : Nat) (p : Present) : (s.supersede n p).pinView = s.pinView := by
  unfold State.supersede
  simp only [↓presentInEffect_pinView, ↓supersededEvent_pinView, ↓stopPresent_pinView]

theorem layerRead_pinView (s : State) (pos layer addr len : Nat) : (s.layerRead pos layer addr len).pinView = s.pinView := by
  unfold State.layerRead
  simp only [↓pinView_ite, ↓fetchHost_pinView, ite_self]

theorem cancelEntry_pinView (n counted : Nat) (p : Present) (s : State) : (State.cancelEntry n counted p s).pinView = s.pinView := by
  unfold State.cancelEntry
  simp (disch := exact arrayBeside rfl rfl) only [↓presentInEffect_pinView, ↓fadd_pinView, ↓stopPresent_pinView]

theorem cancelEntries_pinView (s : State) (n counted : Nat) (pick : Present → Bool) : (s.cancelEntries n counted pick).pinView = s.pinView := by
  unfold State.cancelEntries
  simp only [↓showEphem_pinView, ↓foldl_pinView fun s p => cancelEntry_pinView n counted p s, ↓setPx_pinView]

theorem activateRegion_pinView (n : Nat) (fs : List (Nat × Nat × Nat × Nat)) (r : Nat) (s : State) : (activateRegion n fs r s).pinView = s.pinView := by
  unfold activateRegion
  simp (disch := exact fieldBeside rfl) only [↓pinView_ite, ↓fset_pinView, ite_self]

theorem sigMissing_pinView (s : State) (f : Fld) (n r : Nat) (h : f.addr ≠ 0x20100) : (s.sigMissing f n r).pinView = s.pinView := by
  unfold State.sigMissing
  simp only [↓pinView_ite, ↓fset_pinView _ _ _ h, ite_self]

theorem showComposing_pinView (s : State) : s.showComposing.pinView = s.pinView := by
  unfold State.showComposing
  dsimp only
  split <;> simp (disch := exact fieldBeside rfl) only [↓fset_pinView, ↓fsetb_pinView, ↓overAll_pinView fun n s => fsetb_pinView s
    (R.TG_STATUS_COMPOSING n) _ (arrayBeside rfl rfl)]

theorem deactivateRegion_pinView (n r : Nat) (s : State) : (deactivateRegion n r s).pinView = s.pinView := by
  unfold deactivateRegion
  simp (disch := exact fieldBeside rfl) only [↓pinView_ite, ↓fset_pinView, ite_self]

theorem surfGone_pinView (s : State) (n : Nat) : (s.surfGone n).pinView = s.pinView := by
  unfold State.surfGone
  split <;> simp only [↓showSlots_pinView, ↓overAll_pinView (deactivateRegion_pinView n), ↓showComposing_pinView, ↓pinView_parts, ↓setPx_pinView,
    ↓cancelEntries_pinView, ↓presentInEffect_pinView, ↓stopPresent_pinView]

/-! ### Surfaces -/

theorem setZone_pinView (s : State) (z : Nat) (f : ZoneTherm → ZoneTherm) : (s.setZone z f).pinView = s.pinView := (rfl)

theorem zoneStep_pinView (n : Nat) (atEnable : Bool) (z : Nat) (s : State) : (zoneStep n atEnable z s).pinView = s.pinView := by
  unfold zoneStep
  simp (disch := exact fieldBeside rfl) only [↓pinView_ite, ↓setZone_pinView, ↓fadd_pinView, ite_self]

theorem setSpill_pinView (s : State) (n : Nat) (f : SpillSurf → SpillSurf) : (s.setSpill n f).pinView = s.pinView := (rfl)

theorem spillStart_pinView (s : State) (n frame : Nat) : (s.spillStart n frame).pinView = s.pinView := by
  unfold State.spillStart
  simp (disch := exact arrayBeside rfl rfl) only [↓fset_pinView, ↓pinView_parts, ↓setSpill_pinView]

theorem clearRefused_pinView (p : Nat) (s : State) : (clearRefused p s).pinView = s.pinView := by
  unfold clearRefused
  simp (disch := exact arrayBeside rfl rfl) only [↓fsetb_pinView]

theorem showMaps_pinView (s : State) (n : Nat) : (s.showMaps n).pinView = s.pinView := by
  unfold State.showMaps
  simp (disch := exact arrayBeside rfl rfl) only [↓fset_pinView, ↓fsetb_pinView]

theorem cancelRetime_pinView (s : State) (n : Nat) : (s.cancelRetime n).pinView = s.pinView := by
  unfold State.cancelRetime
  simp (disch := exact arrayBeside rfl rfl) only [↓pinView_ite, ↓setGen_pinView, ↓effectDue_pinView, ↓fsetb_pinView, ite_self]

theorem dropWait_pinView (s : State) (n : Nat) : (s.dropWait n).pinView = s.pinView := (rfl)

/-! ### Modes -/

theorem setMode_pinView (s : State) (f : ModeSt → ModeSt) : (s.setMode f).pinView = s.pinView := (rfl)

theorem idleRestart_pinView (s : State) : (s.idleRestart).pinView = s.pinView := by
  unfold State.idleRestart
  simp (disch := exact fieldBeside rfl) only [↓pinView_ite, ↓setMode_pinView, ↓fsetb_pinView, ↓fset_pinView, ite_self]

theorem discRestart_pinView (s : State) : s.discRestart.pinView = s.pinView := by
  unfold State.discRestart
  simp (disch := exact fieldBeside rfl) only [↓pinView_aon, ↓fset_pinView]

theorem parkPort_pinView (p : Nat) (s : State) : (parkPort p s).pinView = s.pinView := by
  have hskip : ∀ (s : State) (k : Nat), (s.fadd R.PWR_MODE_PARK_SKIPPED k).pinView = s.pinView := fun s k => by
    have hf : ∀ f : Fld, Fld.apart R.PWR_MODE_PARK_SKIPPED f = true → f.fits = true → (s.fadd R.PWR_MODE_PARK_SKIPPED k).fget f = s.fget f :=
      fun f ha hf => fget_fset_apart _ _ _ _ ha (by decide) hf
    simp only [State.pinView, State.inSentinel, State.modeNow, State.fbit, hf R.PWR_MODE_MODE (by decide) (by decide), hf R.PWR_MODE_BUSY (by decide)
      (by decide)]
    rfl
  unfold parkPort
  simp only [↓pinView_ite, ↓hskip, ↓pinView_parts, ite_self]

theorem parkServe_pinView (s : State) : (s.parkServe).pinView = s.pinView := by
  unfold State.parkServe
  simp only [↓pinView_parts, ↓overAll_pinView parkPort_pinView, ↓showSafe_pinView]

theorem parkFinish_pinView (s : State) : (s.parkFinish).pinView = s.pinView := by
  unfold State.parkFinish
  simp (disch := exact fieldBeside rfl) only [↓tlaToLimp_pinView, ↓powerDown_pinView, ↓fsetb_pinView, ↓domSet_pinView, ↓railsDown_pinView]

/-- PWR_MODE has no field that an access writes (chapter 17). -/
theorem findReg_pwrMode : findReg 0x20100 =
    some ⟨0x20100, 0x0, 1, [⟨0, 3, .ro, .none, 0⟩, ⟨3, 3, .ro, .none, 1⟩, ⟨6, 1, .ro, .none, 1⟩, ⟨8, 8, .ro, .none, 0⟩, ⟨16, 16, .ro, .none, 3⟩]⟩ := rfl

/-- Writing a register's own word back. -/
theorem rewrite_pinView (s : State) (a : Nat) : (s.wr a (s.rd a)).pinView = s.pinView := by
  have hr : (s.wr a (s.rd a)).rd 0x20100 = s.rd 0x20100 := by
    by_cases h : a = 0x20100
    · rw [h, rd_wr_same]
    · exact rd_wr_other _ _ _ _ (Ne.symm h)
  simp only [State.pinView, State.inSentinel, State.modeNow, State.fbit, State.fget, R.PWR_MODE_MODE, R.PWR_MODE_BUSY, hr]
  rfl

theorem restoreReg_pinView (copy : RegFile) (a : Nat) (s : State) : (restoreReg copy a s).pinView = s.pinView := by
  by_cases ha : a = 0x20100
  · subst ha
    unfold restoreReg
    rw [findReg_pwrMode]
    exact rewrite_pinView s _
  · unfold restoreReg
    split
    · rfl
    · exact wr_pinView s a _ ha

theorem capRestore_pinView (p : Nat) (s : State) :
    (match (s.port p).cap, nth s.cmds.parkCaps p with
      | none, some c => (s.setPort p fun q => { q with cap := some c, capOk := true }).fsetb (R.TILE_PROTO_STATUS_CAP_VALID p) true
      | _, _ => s).pinView = s.pinView := by
  split
  · exact (fsetb_pinView _ _ _ (arrayBeside rfl rfl)).trans (setPort_pinView s p _)
  · rfl

theorem retrainOff_pinView (p : Nat) (s : State) : (if s.lane p = laneOff then waitPort p s else s).pinView = s.pinView := by
  simp only [↓pinView_ite, ↓waitPort_pinView, ite_self]

theorem parkRestore_pinView (s : State) : s.parkRestore.pinView = s.pinView :=
  (overAll_pinView retrainOff_pinView _ _).trans ((overAll_pinView (fun n s => fsetb_pinView s (R.TG_CTRL_ENABLE n) _ (arrayBeside rfl rfl)) _ _).trans
    ((overList_pinView (restoreReg_pinView _) _ _).trans (overAll_pinView capRestore_pinView _ _)))

theorem releaseHostWake_pinView (s : State) : s.releaseHostWake.pinView = s.pinView := by
  unfold State.releaseHostWake
  simp (disch := exact fieldBeside rfl) only [↓fsetb_pinView, ↓pinView_aon]

theorem bootReport_pinView (s : State) : (s.bootReport).pinView = s.pinView := by
  unfold State.bootReport
  simp only [↓eventDev_pinView]

theorem trialPassed_pinView (s : State) : (s.trialPassed).pinView = s.pinView := by
  unfold State.trialPassed
  simp (disch := exact fieldBeside rfl) only [↓pinView_ite, ↓setBoot_pinView, ↓writeDir_pinView, ↓fsetb_pinView, ↓fset_pinView, ite_self]

theorem ruleFires_pinView (n : Nat) (s : State) : (ruleFires n s).pinView = s.pinView := by
  unfold ruleFires
  simp (disch := first | exact fieldBeside rfl | exact arrayBeside rfl rfl) only
    [↓pinView_ite, ↓fsetb_pinView, ↓pinView_aon, ↓setMode_pinView, ↓fset_pinView, ↓fadd_pinView, ite_self]

theorem latchAction_pinView (s : State) (ns : List Nat) : (s.latchAction ns).pinView = s.pinView := by
  unfold State.latchAction
  dsimp only
  split
  · rfl
  split <;> simp (disch := exact fieldBeside rfl) only [↓pinView_ite, ↓setMode_pinView, ↓fset_pinView, ite_self]

theorem secondsDown_pinView (s : State) (f : Fld) (ms : Nat) (h : f.addr ≠ 0x20100) : (s.secondsDown f ms).1.pinView = s.pinView := by
  unfold State.secondsDown
  split
  · rfl
  · exact fset_pinView s f _ h

theorem tarnSeconds_pinView (s : State) : s.tarnSeconds.pinView = s.pinView := by
  unfold State.tarnSeconds
  extract_lets aon a b c d r e t
  have hd : d.pinView = a.pinView := by
    simp (disch := exact fieldBeside rfl) only [d, c, b, ↓pinView_ite, ↓fset_pinView, ↓setBoot_pinView, ite_self]
  have he : e.pinView = d.pinView := by
    simp (disch := exact fieldBeside rfl) only [e, r, ↓pinView_ite, ↓setMode_pinView, ↓idleRestart_pinView, ↓secondsDown_pinView, ite_self]
  have ha : a.pinView = s.pinView := pinView_aon ..
  simp (disch := exact fieldBeside rfl) only [t, ↓pinView_ite, ↓setMode_pinView, ↓secondsDown_pinView, he, hd, ha, ite_self]

theorem xTarnTimerExpiry_pinView (s : State) : (xTarnTimerExpiry s).pinView = s.pinView := by
  unfold xTarnTimerExpiry
  simp (disch := exact fieldBeside rfl) only [↓pinView_ite, ↓fset_pinView, ↓setMode_pinView, ite_self]

theorem xHostWakeRelease_pinView (s : State) : (xHostWakeRelease s).pinView = s.pinView := (rfl)

/-! ### The inputs of SAFE -/

theorem restoreBeam_pinView (s : State) : (s.restoreBeam).pinView = s.pinView := by
  unfold State.restoreBeam
  split <;> simp only [↓pinView_parts, ↓overAll_pinView showLimpPort_pinView]

theorem xK28Repeat_pinView (p : Nat) (s : State) : (xK28Repeat p s).pinView = s.pinView := by
  unfold xK28Repeat
  simp only [↓pinView_ite, ↓send_pinView, ite_self]

/-! ### Host rings -/

theorem doorbellEvent_pinView (s : State) (page v : Nat) : (s.doorbellEvent page v).pinView = s.pinView := by
  unfold State.doorbellEvent
  simp only [↓eventDev_pinView]

theorem doorbellInvalid_pinView (s : State) (n v : Nat) : (s.doorbellInvalid n v).pinView = s.pinView := by
  unfold State.doorbellInvalid
  simp (disch := exact ringBeside rfl rfl) only [↓doorbellEvent_pinView, ↓fadd_pinView]

theorem doorbellAddr_beside (n : Nat) : doorbellAddr n ≠ 0x20100 := by
  unfold doorbellAddr
  omega

theorem xDoorbellWrite_pinView (page off v : Nat) (s : State) : (xDoorbellWrite page off v s).pinView = s.pinView := by
  unfold xDoorbellWrite
  split
  · rfl
  split
  · exact doorbellEvent_pinView s page v
  split
  · rfl
  split
  · exact doorbellInvalid_pinView s page v
  split
  · exact doorbellInvalid_pinView s page v
  · simp only [↓pinView_ite, ↓resumeCpl_pinView, ↓idleRestart_pinView, ↓setRing_pinView, ↓wr_pinView _ _ _ (doorbellAddr_beside page), ite_self]

theorem owe_pinView (s : State) (d : Desc) (size : Nat) : (s.owe d size).pinView = s.pinView := (rfl)

theorem landed_pinView (s : State) (ring : Nat) (f : Flight) : (s.landed ring f).pinView = s.pinView := by
  unfold State.landed
  simp only [↓showHead_pinView, ↓setRing_pinView]

theorem haltRing_pinView (s : State) (n : Nat) (b : Bool) : (s.haltRing n b).pinView = s.pinView := by
  unfold State.haltRing
  simp (disch := exact ringBeside rfl rfl) only [↓fsetb_pinView]

theorem rejectDesc_pinView (s : State) (ring : Nat) (f : Flight) : (s.rejectDesc ring f).pinView = s.pinView := by
  unfold State.rejectDesc
  simp (disch := exact ringBeside rfl rfl) only
    [↓pinView_ite, ↓flushRing_pinView, ↓haltRing_pinView, ↓landed_pinView, ↓setRing_pinView, ↓fadd_pinView, ite_self]

theorem xDescriptorArrival_pinView (ring : Nat) (bytes : List Byte) (s : State) : (xDescriptorArrival ring bytes s).pinView = s.pinView := by
  unfold xDescriptorArrival
  split
  · rfl
  dsimp only
  split
  · exact rejectDesc_pinView ..
  split <;> simp only [↓pinView_ite, ↓setRing_pinView, ↓fetchHost_pinView, ↓complete_pinView, ↓owe_pinView, ↓landed_pinView, ite_self]

theorem dropDesc_pinView (s : State) (d : Desc) : (s.dropDesc d).pinView = s.pinView := (rfl)

theorem xPayloadArrival_pinView (ring : Nat) (bytes : List Byte) (s : State) : (xPayloadArrival ring bytes s).pinView = s.pinView := by
  unfold xPayloadArrival
  split <;> simp only [↓pinView_ite, ↓setRing_pinView, ↓complete_pinView, ↓dropDesc_pinView, ite_self]

theorem xRingEnable_pinView (n : Nat) (s : State) : (xRingEnable n s).pinView = s.pinView := by
  unfold xRingEnable
  simp (disch := exact ringBeside rfl rfl) only [↓pinView_ite, ↓fsetb_pinView, ↓resumeCpl_pinView, ↓wr_pinView _ _ _
    (doorbellAddr_beside n), ↓showHead_pinView,
    ↓setRing_pinView, ite_self]

theorem xRingDisable_pinView (n : Nat) (s : State) : (xRingDisable n s).pinView = s.pinView := by
  unfold xRingDisable
  simp (disch := exact ringBeside rfl rfl) only [↓pinView_ite, ↓setRing_pinView, ↓fsetb_pinView, ite_self]

theorem xRingResume_pinView (n : Nat) (s : State) : (xRingResume n s).pinView = s.pinView := by
  unfold xRingResume
  simp only [↓pinView_ite, ↓haltRing_pinView, ite_self]

theorem xRingSkip_pinView (n : Nat) (s : State) : (xRingSkip n s).pinView = s.pinView := by
  unfold xRingSkip
  simp only [↓pinView_ite, ↓showHead_pinView, ↓setRing_pinView, ↓haltRing_pinView, ite_self]

theorem xCoalesceTimeout_pinView (n : Nat) (s : State) : (xCoalesceTimeout n s).pinView = s.pinView := by
  unfold xCoalesceTimeout
  simp only [↓pinView_ite, ↓signal_pinView, ite_self]

theorem xPowerStateChange_pinView (d3 : Bool) (s : State) : (xPowerStateChange d3 s).pinView = s.pinView := by
  unfold xPowerStateChange
  simp (disch := exact fieldBeside rfl) only [↓pinView_ite, ↓fsetb_pinView, ↓resumeTraffic_pinView, ite_self]

theorem setPcie_pinView (s : State) (f : PcieCfg → PcieCfg) : (s.setPcie f).pinView = s.pinView := (rfl)

theorem pcieError_pinView (s : State) (e : PcieError) : (s.pcieError e).pinView = s.pinView := by
  unfold State.pcieError
  simp only [↓pinView_ite, ↓emit_pinView, ↓setPcie_pinView, ite_self]

theorem xPcieLinkUp_pinView (speed width : Nat) (s : State) : (xPcieLinkUp speed width s).pinView = s.pinView := by
  unfold xPcieLinkUp
  simp (disch := exact fieldBeside rfl) only [↓pinView_ite, ↓fset_pinView, ↓fsetb_pinView, ite_self]

/-! ### Composition -/

theorem sigFailEvent_pinView (s : State) (n layer r expect got : Nat) : (s.sigFailEvent n layer r expect got).pinView = s.pinView := by
  unfold State.sigFailEvent
  simp only [↓eventSurf_pinView]

theorem composeRegion_pinView (j : Job) (v : Picture) (r : Nat) (acc : State × Picture) : (composeRegion j v r acc).1.pinView = acc.1.pinView := by
  unfold composeRegion
  simp only
  split
  · exact sigMissing_pinView _ _ _ _ (fieldBeside rfl)
  split
  · simp (disch := first | exact fieldBeside rfl | exact arrayBeside rfl rfl) only [↓fset_pinView]
  split
  · simp (disch := first | exact fieldBeside rfl | exact arrayBeside rfl rfl) only [↓fset_pinView]
  split <;> simp (disch := first | exact fieldBeside rfl | exact arrayBeside rfl rfl) only
    [↓setPx_pinView, ↓sigMismatch_pinView, ↓sigFailEvent_pinView, ↓fadd_pinView, ↓fset_pinView]

theorem xCompositionComplete_pinView (durationUs : Nat) (s : State) : (xCompositionComplete durationUs s).pinView = s.pinView := by
  unfold xCompositionComplete
  split
  · rfl
  · rename_i j _ _
    have hfold : ∀ (l : List Nat) (acc : State × Picture), (l.foldl (fun acc r => composeRegion j j.plane r acc) acc).1.pinView = acc.1.pinView := by
      intro l
      induction l with
      | nil => exact fun _ => rfl
      | cons r l ih => exact fun acc => (ih _).trans (composeRegion_pinView ..)
    simp (disch := exact arrayBeside rfl rfl) only [↓showComposing_pinView, ↓pinView_parts, ↓fset_pinView, ↓setPx_pinView, ↓hfold]

theorem prefetch_pinView (s : State) (p : Present) : (s.prefetch p).pinView = s.pinView := by
  unfold State.prefetch
  refine foldl_pinView (fun t i => ?_) _ s
  exact foldl_pinView (fun t q => layerRead_pinView ..) _ t

/-! ### Shades -/

theorem showUsed_pinView (s : State) : (s.showUsed).pinView = s.pinView := by
  unfold State.showUsed
  simp (disch := exact fieldBeside rfl) only [↓fset_pinView]

theorem setShade_pinView (s : State) (i : Nat) (o : Option Shade) : (s.setShade i o).pinView = s.pinView := by
  unfold State.setShade
  simp only [↓pinView_parts, ↓showUsed_pinView]

theorem staleFld_beside (i : Nat) : (staleFld i).addr ≠ 0x20100 := by
  have := staleFld_addr i
  omega

theorem evalSlot_pinView (n t i : Nat) (s : State) : (evalSlot n t i s).pinView = s.pinView := by
  unfold evalSlot
  split
  · rfl
  · simp only [↓pinView_ite, ↓pinView_parts, ↓eventSurf_pinView, ↓setShade_pinView, ↓fsetb_pinView _ _ _ (staleFld_beside i), ite_self]

theorem evalShades_pinView (s : State) (n t : Nat) : (s.evalShades n t).pinView = s.pinView := overAll_pinView (evalSlot_pinView n t) 64 s

theorem shadeAge_pinView (s : State) (t0 : Nat) : (s.shadeAge t0).pinView = s.pinView := by
  unfold State.shadeAge
  simp (disch := exact fieldBeside rfl) only [↓pinView_ite, ↓fadd_pinView, ↓fset_pinView, ite_self]

theorem mergeInto_pinView (s : State) (o : Shade) (slot surf : Nat) : (s.mergeInto o slot surf).pinView = s.pinView := by
  unfold State.mergeInto
  simp (disch := exact fieldBeside rfl) only [↓fsetb_pinView, ↓setShade_pinView, ↓fadd_pinView, ↓fset_pinView, ↓eventSurf_pinView]

theorem shadeApply_pinView (s : State) (d : Desc) : (s.shadeApply d).1.pinView = s.pinView := by
  unfold State.shadeApply
  dsimp only
  split
  · exact mergeInto_pinView ..
  · exact setShade_pinView ..

theorem clearSlot_pinView (i : Nat) (s : State) : (clearSlot i s).pinView = s.pinView := by
  unfold clearSlot
  simp (disch := exact fieldBeside rfl) only [↓pinView_ite, ↓pinView_parts, ↓setShade_pinView, ↓fsetb_pinView _ _ _
    (staleFld_beside i), ↓fset_pinView, ↓fsetb_pinView, ite_self]

theorem shadeClearApply_pinView (s : State) (d : Desc) : (s.shadeClearApply d).pinView = s.pinView := by
  unfold State.shadeClearApply
  simp only [↓overList_pinView clearSlot_pinView]

/-! ### The health engine -/

theorem setHl_pinView (s : State) (p : Nat) (f : Health → Health) : (s.setHl p f).pinView = s.pinView := (rfl)

theorem resetBase_pinView (s : State) (p : Nat) (c : Cap) : (s.resetBase p c).pinView = s.pinView := by
  unfold State.resetBase
  simp (disch := exact arrayBeside rfl rfl) only [↓fsetb_pinView, ↓setHl_pinView]

theorem showDefects_pinView (s : State) (p : Nat) : (s.showDefects p).pinView = s.pinView := fset_pinView s _ _ (arrayBeside rfl rfl)

theorem tileHealth_pinView (s : State) (p kind count : Nat) : (s.tileHealth p kind count).pinView = s.pinView := by
  unfold State.tileHealth
  simp only [↓health_pinView]

theorem queuePixel_pinView (s : State) (p : Nat) (m : Member) (i : Nat) : (s.queuePixel p m i).pinView = s.pinView := by
  unfold State.queuePixel
  simp (disch := exact fieldBeside rfl) only [↓pinView_ite, ↓fadd_pinView, ↓setHl_pinView, ite_self]

theorem openRec_pinView (s : State) (p : Nat) (r : ScanRec) : (s.openRec p r).pinView = s.pinView := (rfl)

theorem probePort_pinView (s : State) (n : Nat) (m : Member) (av : Int) (sd sQ lenQ : Nat) : (s.probePort n m av sd sQ lenQ).pinView = s.pinView := by
  unfold State.probePort
  simp (disch := first | exact fieldBeside rfl | exact arrayBeside rfl rfl) only
    [↓pinView_ite, ↓openRec_pinView, ↓sendTwin_pinView, ↓sendNow_pinView, ↓fadd_pinView, ↓setHl_pinView,
    ↓foldl_pinView fun s i => queuePixel_pinView s _ m i, ite_self]

theorem keepCodes_pinView (s : State) (m : Member) (sd : Nat) (rows : List (List Nat)) (swapped : Bool) :
    (s.keepCodes m sd rows swapped).pinView = s.pinView :=
  rfl

theorem holdTile_pinView (s : State) (p fault idx : Nat) : (s.holdTile p fault idx).pinView = s.pinView := by
  unfold State.holdTile
  simp (disch := first | exact fieldBeside rfl | exact arrayBeside rfl rfl) only [↓pinView_ite, ↓pinView_parts, ↓fset_pinView, ↓fsetb_pinView, ite_self]

theorem pixelFault_pinView (s : State) (n : Nat) (m : Member) (cls act i sus conf : Nat) (eon temp : Int) :
    (s.pixelFault n m cls act i sus conf eon temp).pinView = s.pinView := by
  unfold State.pixelFault
  simp only [↓health_pinView]

theorem addHistory_pinView (s : State) (r : List Byte) : (s.addHistory r).pinView = s.pinView := by
  unfold State.addHistory
  simp only [↓pinView_parts]

theorem sendDefect_pinView (s : State) (n p act : Nat) (d : Defect) : (s.sendDefect n p act d).pinView = s.pinView := by
  unfold State.sendDefect
  simp only [↓pinView_ite, ↓sendTwin_pinView, ite_self]

theorem healthSample_pinView (s : State) (n : Nat) (m : Member) (r : Option ScanRec) (late : Bool) (temp : Int) (acc : State × List Confirm) (w : Nat) :
    (s.healthSample n m r late temp acc w).1.pinView = acc.1.pinView := by
  unfold State.healthSample
  split
  extract_lets p i code kind h v mid field clear z
  split
  · simp (disch := exact fieldBeside rfl) only [↓pinView_ite, ↓fadd_pinView, ite_self]
  split
  · simp (disch := exact fieldBeside rfl) only [↓fadd_pinView]
  split
  · simp (disch := exact fieldBeside rfl) only [↓fadd_pinView]
  split
  · exact setHl_pinView ..
  extract_lets x eon raw res a b near turn c d
  have hb : b.pinView = a.pinView := pinView_ite.trans (by rw [setHl_pinView, ite_self])
  have hc : c.pinView = b.pinView := pinView_ite.trans (by rw [setHl_pinView, ite_self])
  have hdc : d.pinView = c.pinView := pinView_ite.trans (by rw [setHl_pinView, ite_self])
  have hd := hdc.trans (hc.trans (hb.trans (setHl_pinView ..)))
  clear_value res d
  split
  · split
    · cases res with
      | some c => exact hd
      | none => exact (setHl_pinView ..).trans hd
    · exact hd
  cases res with
  | none => exact hd
  | some c =>
    rw [apply_ite Prod.fst, pinView_ite, setHl_pinView, ite_self]
    exact hd

theorem countProbes_pinView (s : State) (n : Nat) (m : Member) (r : ScanRec) (ws : List Nat) : (s.countProbes n m r ws).pinView = s.pinView := (rfl)

theorem xSampleDeadline_pinView (p scan : Nat) (s : State) : (xSampleDeadline p scan s).pinView = s.pinView := by
  unfold xSampleDeadline
  split
  · simp (disch := exact fieldBeside rfl) only [↓pinView_ite, ↓foldl_pinView fun s i => queuePixel_pinView s p _ i, ↓setHl_pinView, ↓fadd_pinView, ite_self]
  · rfl

theorem clearMass_pinView (s : State) (p : Nat) : (s.clearMass p).pinView = s.pinView := by
  unfold State.clearMass
  simp (disch := exact arrayBeside rfl rfl) only [↓pinView_ite, ↓setHl_pinView, ↓fsetb_pinView, ite_self]

theorem xBaselineCapture_pinView (p : Nat) (s : State) : (xBaselineCapture p s).pinView = s.pinView := by
  unfold xBaselineCapture
  simp (disch := exact arrayBeside rfl rfl) only [↓pinView_ite, ↓fsetb_pinView, ↓setHl_pinView, ite_self]

theorem xBaselineCaptureDone_pinView (p : Nat) (s : State) : (xBaselineCaptureDone p s).pinView = s.pinView := by
  unfold xBaselineCaptureDone
  split <;> simp (disch := exact arrayBeside rfl rfl) only [↓pinView_ite, ↓fsetb_pinView, ↓setHl_pinView, ↓tileHealth_pinView, ite_self]

theorem thermPort_pinView (s : State) (p : Nat) : (s.thermPort p).pinView = s.pinView := by
  unfold State.thermPort
  simp only [↓setHl_pinView, ↓overAll_pinView fun z s => setZone_pinView s (8 * p + z) _]

theorem sweepReports_pinView (s : State) (n p : Nat) : (s.sweepReports n p).pinView = s.pinView := by
  unfold State.sweepReports
  simp only [↓pinView_ite, ↓health_pinView, ↓setHl_pinView, ite_self]

theorem mapsCurrent_pinView (s : State) (p : Nat) : (s.mapsCurrent p).pinView = s.pinView := by
  unfold State.mapsCurrent
  extract_lets h t new
  have ht : t.pinView = s.pinView := by
    unfold t
    split
    · exact (showDefects_pinView _ p).trans (setHl_pinView s p _)
    · rfl
  simp (disch := exact arrayBeside rfl rfl) only [↓pinView_ite, ↓fsetb_pinView, ↓setHl_pinView, ht, ite_self]

theorem ageShadow_pinView (s : State) (p : Nat) : (s.ageShadow p).pinView = s.pinView := by
  unfold State.ageShadow
  simp only [↓foldl_pinView fun s (_ : Defect × Nat) => (twinEvent_pinView _ 0x0C 0 0).trans (fadd_pinView s R.TWIN_CNT_D_HEALTH_DIFF 1
    (fieldBeside rfl)), ↓setHl_pinView]

theorem healthTick_pinView (s : State) (n sd p : Nat) : (s.healthTick n sd p).pinView = s.pinView := by
  unfold State.healthTick
  simp only [↓pinView_ite, ↓ageShadow_pinView, ↓thermPort_pinView, ↓setHl_pinView, ↓sweepReports_pinView, ite_self]

/-! ### Scan-out -/

theorem timePorts_pinView (s : State) (n : Nat) (c : Prod) : (s.timePorts n c).pinView = s.pinView :=
  overList_pinView (fun p s => (setPort_pinView _ p _).trans (sendNow_pinView s p _ _ _)) _ s

theorem clampTarget_pinView (s : State) (f : Fld) (lo hi : Int) (h : f.addr ≠ 0x20100) : (s.clampTarget f lo hi).pinView = s.pinView := fseti_pinView s f _ h

theorem latchProfile_pinView (s : State) (n frame : Nat) (g : Grid) (av ah : Int) : (s.latchProfile n frame g av ah).pinView = s.pinView := by
  unfold State.latchProfile
  split <;> simp (disch := exact arrayBeside rfl rfl) only [↓clampTarget_pinView, ↓fset_pinView, ↓setSpill_pinView]

theorem spillStore_pinView (s : State) (b : Spb) (p : List Byte) (zs : List Nat) (total : Nat) : (s.spillStore b p zs total).pinView = s.pinView := (rfl)

theorem emitSig_pinView (n r : Nat) (s : State) : (emitSig n r s).pinView = s.pinView := by
  unfold emitSig
  simp (disch := first | exact fieldBeside rfl | exact arrayBeside rfl rfl) only [↓pinView_ite, ↓fset_pinView, ↓sigMissing_pinView, ite_self]

theorem sendSwap_pinView (s : State) (p sd frame due : Nat) : (s.sendSwap p sd frame due).pinView = s.pinView := by
  unfold State.sendSwap
  simp only [↓setPort_pinView, ↓sendNow_pinView]

theorem pairCapture_pinView (s : State) (n : Nat) : (s.pairCapture n).pinView = s.pinView := (rfl)
theorem takeBit_pinView (s : State) (f : Fld) (i : Nat) : (s.takeBit f i).pinView = s.pinView := (rfl)
theorem takeBitDue_pinView (s : State) (f : Fld) (i : Nat) : (s.takeBitDue f i).pinView = s.pinView := (rfl)

theorem latchPicture_pinView (s : State) (n frame : Nat) : (s.latchPicture n frame).pinView = s.pinView := by
  unfold State.latchPicture
  dsimp only
  split <;> simp (disch := exact arrayBeside rfl rfl) only [↓pinView_ite, ↓setPx_pinView, ↓eventSurf_pinView, ↓fadd_pinView, ite_self]

theorem dropProbe_pinView (s : State) (p : Nat) : (s.dropProbe p).pinView = s.pinView := (rfl)

/-! ### Lanes -/

theorem seqRestart_pinView (s : State) (p : Nat) : (s.seqRestart p).pinView = s.pinView := by
  unfold State.seqRestart
  simp (disch := exact arrayBeside rfl rfl) only [↓pinView_ite, ↓fset_pinView, ↓setPort_pinView, ↓sendNow_pinView, ite_self]

theorem resumeLate_pinView (s : State) (p : Nat) : (s.resumeLate p).pinView = s.pinView := by
  unfold State.resumeLate
  simp only [↓pinView_ite, ↓sendCtrl_pinView, ↓setPort_pinView, ite_self]

theorem configTile_pinView (s : State) (p : Nat) : (s.configTile p).pinView = s.pinView := by
  unfold State.configTile
  split
  · rfl
  split <;> simp only [↓pinView_ite, ↓sendCtrl_pinView, ↓sendScale_pinView, ↓sendTiming_pinView, ite_self]

theorem sendEcho_pinView (p : Nat) (s : State) : (sendEcho p s).pinView = s.pinView := by
  unfold sendEcho
  simp only [↓sendCtrl_pinView, ↓setPort_pinView]

theorem totEntry_pinView (s : State) (p : Nat) : (s.totEntry p).pinView = s.pinView := by
  unfold State.totEntry
  simp (disch := exact arrayBeside rfl rfl) only [↓pinView_ite, ↓fsetb_pinView, ↓send_pinView, ite_self]

theorem twinFresh_pinView (s : State) : (s.twinFresh).pinView = s.pinView := by
  unfold State.twinFresh
  simp only [↓pinView_ite, ↓pinView_parts, ite_self]

theorem resendHeld_pinView (s : State) (p : Nat) : (s.resendHeld p).pinView = s.pinView := by
  unfold State.resendHeld
  simp only [↓setPort_pinView, ↓nextControl_pinView]

theorem takeSymbols_pinView (s : State) (u : Nat) (rx0 rx1 : List RxSymbol) : (s.takeSymbols u rx0 rx1).pinView = s.pinView :=
  foldl_pinView (fun s l => setRx_pinView s u l _) _ s

theorem deskewFailed_pinView (s : State) (t : Nat) : (s.deskewFailed t).pinView = s.pinView := by
  unfold State.deskewFailed
  simp (disch := exact arrayBeside rfl rfl) only [↓fsetb_pinView, ↓fadd_pinView, ↓twinLinkEvent_pinView]

theorem measureSkew_pinView (s : State) (t : Nat) (skew : Int) (fresh : Bool) : (s.measureSkew t skew fresh).pinView = s.pinView := by
  unfold State.measureSkew
  simp (disch := exact arrayBeside rfl rfl) only [↓pinView_ite, ↓fseti_pinView, ↓fsetb_pinView, ↓deskewFailed_pinView, ite_self]

theorem addSymErr_pinView (s : State) (u e0 e1 : Nat) : (s.addSymErr u e0 e1).pinView = s.pinView := by
  unfold State.addSymErr
  simp (disch := exact arrayBeside rfl rfl) only [↓pinView_ite, ↓fadd_pinView, ite_self]

theorem breakTrn_pinView (s : State) (u l : Nat) : (s.breakTrn u l).pinView = s.pinView := by
  unfold State.breakTrn
  simp only [↓pinView_ite, ↓setHs_pinView, ite_self]

theorem startLimpLoad_pinView (s : State) (p r pos : Nat) (pkts : List (Nat × List Byte)) : (s.startLimpLoad p r pos pkts).pinView = s.pinView := by
  unfold State.startLimpLoad
  simp only [↓resendLimp_pinView, ↓setPort_pinView]

theorem queueLimpLoad_pinView (s : State) (p r pos : Nat) (pkts : List (Nat × List Byte)) : (s.queueLimpLoad p r pos pkts).pinView = s.pinView := by
  unfold State.queueLimpLoad
  simp only [↓pinView_ite, ↓setPort_pinView, ↓startLimpLoad_pinView, ite_self]

theorem limpLoadDone_pinView (s : State) (p : Nat) : (s.limpLoadDone p).pinView = s.pinView := by
  unfold State.limpLoadDone
  split
  · rfl
  dsimp only
  split <;> simp only [↓startLimpLoad_pinView, ↓setPort_pinView, ↓completeSlot_pinView]

theorem limpLoadsFail_pinView (s : State) (p : Nat) : (s.limpLoadsFail p).pinView = s.pinView := by
  unfold State.limpLoadsFail
  simp only [↓foldl_pinView fun s (e : Nat × Nat) => completeSlot_pinView s e.1 e.2 _ 0 [], ↓setPort_pinView]

theorem limpTargetLost_pinView (s : State) (p : Nat) : (s.limpTargetLost p).pinView = s.pinView := by
  unfold State.limpTargetLost
  simp only [↓pinView_parts, ↓limpLoadsFail_pinView]

theorem placeOrder_pinView (s : State) (p : Nat) (o : TickOrder) : (s.placeOrder p o).pinView = s.pinView := by
  unfold State.placeOrder
  simp only [↓pinView_ite, ↓setPort_pinView, ↓sendCtrl_pinView, ite_self]

theorem retryOrder_pinView (s : State) (p : Nat) : (s.retryOrder p).pinView = s.pinView := by
  unfold State.retryOrder
  split <;> simp only [↓placeOrder_pinView]

theorem controlNext_pinView (s : State) (p : Nat) : (s.controlNext p).pinView = s.pinView := by
  unfold State.controlNext
  simp only [↓retryOrder_pinView, ↓nextControl_pinView]

theorem portRateFail_pinView (s : State) (p : Nat) : (s.portRateFail p).pinView = s.pinView := by
  unfold State.portRateFail
  simp (disch := exact arrayBeside rfl rfl) only [↓pinView_ite, ↓setPort_pinView, ↓fsetb_pinView, ↓linkEvent_pinView, ite_self]

theorem linkRateFail_pinView (s : State) (t : Nat) : (s.linkRateFail t).pinView = s.pinView := by
  unfold State.linkRateFail
  simp only [↓pinView_ite, ↓setLink_pinView, ↓twinLinkEvent_pinView, ite_self]

theorem prbsClear_pinView (s : State) (p : Nat) : (s.prbsClear p).pinView = s.pinView := by
  unfold State.prbsClear
  simp (disch := exact arrayBeside rfl rfl) only [↓fset_pinView, ↓fsetb_pinView]

theorem portPrbs_pinView (s : State) (p : Nat) : (s.portPrbs p).pinView = s.pinView := by
  unfold State.portPrbs
  simp (disch := exact arrayBeside rfl rfl) only [↓pinView_ite, ↓fsetb_pinView, ↓placeOrder_pinView, ↓prbsClear_pinView, ite_self]

theorem portPrbsDone_pinView (s : State) (p : Nat) (r : PrbsResult) : (s.portPrbsDone p r).pinView = s.pinView := by
  unfold State.portPrbsDone
  simp (disch := exact arrayBeside rfl rfl) only [↓fsetb_pinView, ↓portPrbsCount_pinView, ↓linkEvent_pinView]

theorem linkPrbsDone_pinView (s : State) (t : Nat) (r : PrbsResult) : (s.linkPrbsDone t r).pinView = s.pinView := by
  unfold State.linkPrbsDone
  simp (disch := exact arrayBeside rfl rfl) only [↓fsetb_pinView, ↓linkPrbsCount_pinView, ↓twinLinkEvent_pinView]

theorem showLegDn_pinView (s : State) (p : Nat) : (s.showLegDn p).pinView = s.pinView := fset_pinView s _ _ (arrayBeside rfl rfl)

theorem xLegacyEnable_pinView (p : Nat) (on : Bool) (s : State) : (xLegacyEnable p on s).pinView = s.pinView := by
  unfold xLegacyEnable
  simp (disch := exact arrayBeside rfl rfl) only [↓pinView_ite, ↓fsetb_pinView, ↓showLegDn_pinView, ite_self]

theorem linkMarks_pinView (k t : Nat) (s : State) : (linkMarks k t s).pinView = s.pinView := by
  unfold linkMarks
  simp only [↓pinView_ite, ↓setLink_pinView, ↓sends_pinView, ite_self]

/-! ### The tile protocol -/

theorem acceptUp_pinView (s : State) (p seqLo : Nat) : (s.acceptUp p seqLo).pinView = s.pinView := by
  unfold State.acceptUp
  simp (disch := exact arrayBeside rfl rfl) only [↓fadd_pinView, ↓fset_pinView, ↓fsetb_pinView, ↓setPort_pinView]

theorem takeUp_pinView (s : State) (p seqLo kind : Nat) (body : List Byte) : (s.takeUp p seqLo kind body).1.pinView = s.pinView := by
  unfold State.takeUp
  split
  · rfl
  split
  · exact acceptUp_pinView ..
  · exact (fadd_pinView _ _ _ (arrayBeside rfl rfl)).trans (acceptUp_pinView ..)

theorem dropSent_pinView (s : State) (p seq : Nat) : (s.dropSent p seq).pinView = s.pinView := (rfl)

theorem resend_pinView (s : State) (p : Nat) (u : SentPkt) : (s.resend p u).pinView = s.pinView := by
  unfold State.resend
  simp (disch := exact arrayBeside rfl rfl) only [↓fadd_pinView, ↓sendPkt_pinView, ↓dropSent_pinView]

theorem loseSent_pinView (s : State) (p : Nat) (u : SentPkt) : (s.loseSent p u).pinView = s.pinView := (rfl)

theorem orderLate_pinView (s : State) (p seq : Nat) : (s.orderLate p seq).pinView = s.pinView := by
  unfold State.orderLate
  dsimp only
  split <;> simp only [↓setPort_pinView, ↓dropSent_pinView]

theorem limpLoaded_pinView (s : State) (p : Nat) : (s.limpLoaded p).pinView = s.pinView := by
  unfold State.limpLoaded
  simp only [↓pinView_ite, ↓limpLoadDone_pinView, ite_self]

theorem capAddr_beside (p w : Nat) : capAddr p w ≠ 0x20100 := by
  unfold capAddr
  omega

theorem storeCap_pinView (s : State) (p : Nat) (b : List Byte) : (s.storeCap p b).pinView = s.pinView := by
  unfold State.storeCap
  simp (disch := exact arrayBeside rfl rfl) only [↓fset_pinView, ↓fsetb_pinView, ↓overAll_pinView fun w s => wr_pinView s (capAddr p w) _
    (capAddr_beside p w), ↓setPort_pinView]

theorem refusePort_pinView (s : State) (p code : Nat) : (s.refusePort p code).pinView = s.pinView := by
  unfold State.refusePort
  simp (disch := exact arrayBeside rfl rfl) only [↓linkEvent_pinView, ↓fsetb_pinView]

theorem capMembership_pinView (s : State) (p : Nat) : (s.capMembership p).pinView = s.pinView := by
  unfold State.capMembership
  split
  · split
    · rfl
    split <;> simp only [↓pinView_ite, ↓refusePort_pinView, ↓setGen_pinView, ite_self]
  · rfl

theorem sendClaim_pinView (s : State) (p epoch : Nat) : (s.sendClaim p epoch).pinView = s.pinView := by
  unfold State.sendClaim
  simp (disch := exact arrayBeside rfl rfl) only [↓setPort_pinView, ↓fset_pinView, ↓sendControl_pinView]

theorem claimBound_pinView (p : Nat) (s : State) : (claimBound p s).pinView = s.pinView := by
  unfold claimBound
  simp only [↓pinView_ite, ↓pinView_parts, ↓sendClaim_pinView, ite_self]

theorem claimsDue_pinView (s : State) (n : Nat) : (s.claimsDue n).pinView = s.pinView := by
  unfold State.claimsDue
  simp only [↓pinView_ite, ↓overList_pinView fun p s => sendClaim_pinView s p _, ↓pinView_parts, ite_self]

theorem autoClaim_pinView (s : State) (p : Nat) : (s.autoClaim p).pinView = s.pinView := by
  unfold State.autoClaim
  simp only [↓pinView_ite, ↓sendClaim_pinView, ite_self]

theorem claimAsLead_pinView (s : State) (p : Nat) : (s.claimAsLead p).pinView = s.pinView := by
  unfold State.claimAsLead
  simp only [↓pinView_ite, ↓sendClaim_pinView, ite_self]

theorem xCapRequestTimer_pinView (p : Nat) (s : State) : (xCapRequestTimer p s).pinView = s.pinView := by
  unfold xCapRequestTimer
  simp only [↓pinView_ite, ↓sendCtrl_pinView, ite_self]

theorem echoAnswer_pinView (s : State) (p id rt : Nat) : (s.echoAnswer p id rt).pinView = s.pinView := by
  unfold State.echoAnswer
  simp (disch := exact arrayBeside rfl rfl) only [↓pinView_ite, ↓setPort_pinView, ↓fadd_pinView, ite_self]

theorem xEchoTimer_pinView (p : Nat) (s : State) : (xEchoTimer p s).pinView = s.pinView := by
  unfold xEchoTimer
  simp only [↓pinView_ite, ↓sendEcho_pinView, ite_self]

theorem xEchoTimeout_pinView (p id : Nat) (s : State) : (xEchoTimeout p id s).pinView = s.pinView := (rfl)

theorem becomeLead_pinView (s : State) (p : Nat) : (s.becomeLead p).pinView = s.pinView := by
  unfold State.becomeLead
  simp (disch := exact fieldBeside rfl) only [↓pinView_parts, ↓fset_pinView, ↓fadd_pinView, ↓twinEvent_pinView]

theorem leadFollows_pinView (s : State) (p : Nat) : (s.leadFollows p).pinView = s.pinView := by
  unfold State.leadFollows
  simp (disch := exact fieldBeside rfl) only [↓pinView_ite, ↓pinView_parts, ↓twinEvent_pinView, ↓fset_pinView, ↓fsetb_pinView, ite_self]

theorem twinStatus_pinView (s : State) (p : Nat) : (s.twinStatus p).pinView = s.pinView := by
  unfold State.twinStatus
  simp only [↓pinView_ite, ↓leadFollows_pinView, ↓becomeLead_pinView, ite_self]

theorem claimResult_pinView (s : State) (p res : Nat) : (s.claimResult p res).pinView = s.pinView := by
  unfold State.claimResult
  simp only [↓pinView_ite, ↓setPort_pinView, ↓linkEvent_pinView, ↓sendClaim_pinView, ite_self]

theorem swapOpen_pinView (s : State) (m : Member) (c : Prod) : (s.swapOpen m c).pinView = s.pinView := by
  unfold State.swapOpen
  simp only [↓pinView_ite, ↓keepCodes_pinView, ↓sendSwap_pinView, ite_self]

theorem sendOpenWindow_pinView (s : State) (p : Nat) : (s.sendOpenWindow p).pinView = s.pinView := by
  unfold State.sendOpenWindow
  split
  · rfl
  · simp only [↓pinView_ite, ↓swapOpen_pinView, ↓foldl_pinView fun s (r : Nat × List Nat) => sendNow_pinView s p _ _ _, ite_self]

theorem newlyOwned_pinView (s : State) (p : Nat) (before : State) : (s.newlyOwned p before).pinView = s.pinView := by
  unfold State.newlyOwned
  simp only [↓pinView_ite, ↓sendOpenWindow_pinView, ↓configTile_pinView, ↓showLimpPort_pinView, ite_self]

theorem xKeepaliveTimer_pinView (p : Nat) (s : State) : (xKeepaliveTimer p s).pinView = s.pinView := by
  unfold xKeepaliveTimer
  simp only [↓pinView_ite, ↓setPort_pinView, ↓sendCtrl_pinView, ite_self]

/-! ### PRESENT and its kin -/

theorem sendAlign_pinView (s : State) (d : Desc) (n ph j frame : Nat) : (s.sendAlign d n ph j frame).pinView = s.pinView := by
  unfold State.sendAlign
  simp only [↓pinView_ite, ↓sendTwin_pinView, ite_self]

theorem alignWindow_pinView (s : State) (d : Desc) (n : Nat) : (s.alignWindow d n).pinView = s.pinView := by
  unfold State.alignWindow
  simp only [↓sendAlign_pinView]

theorem alignFrame_pinView (s : State) (d : Desc) (n frame : Nat) : (s.alignFrame d n frame).pinView = s.pinView := by
  unfold State.alignFrame
  simp only [↓sendAlign_pinView]

theorem aligned_pinView (s : State) (d : Desc) (st : Status) (apply : State → State) (h : ∀ t : State, (apply t).pinView = t.pinView) :
    (s.aligned d st apply).pinView = s.pinView := by
  unfold State.aligned
  simp only [↓pinView_ite, ↓h, ↓complete_pinView, ↓pinView_parts, ↓popDesc_pinView, ite_self]

theorem presentSeen_pinView (s : State) (n : Nat) : (s.presentSeen n).pinView = s.pinView := by
  unfold State.presentSeen
  simp (disch := exact fieldBeside rfl) only [↓pinView_ite, ↓pinView_parts, ↓setMode_pinView, ↓fset_pinView, ite_self]

theorem editPresent_pinView (s : State) (pos : Nat) (f : Present → Present) : (s.editPresent pos f).pinView = s.pinView := (rfl)

theorem settlePresent_pinView (s : State) (pos : Nat) : (s.settlePresent pos).pinView = s.pinView := by
  unfold State.settlePresent
  split <;> simp only [↓pinView_ite, ↓editPresent_pinView, ↓finishPresent_pinView, ite_self]

theorem settleAll_pinView (s : State) : s.settleAll.pinView = s.pinView := foldl_pinView settlePresent_pinView _ s
theorem dropPrefetches_pinView (s : State) : (s.dropPrefetches).pinView = s.pinView := (rfl)

theorem xBusMaster_pinView (on memSpace msixEnable funcMask ecrcGen ecrcCheck : Bool) (mrrs mps timeout aspm : Nat) (s : State) :
    (xBusMaster on memSpace msixEnable funcMask ecrcGen ecrcCheck mrrs mps timeout aspm s).pinView = s.pinView := by
  unfold xBusMaster
  simp only
    [↓pinView_ite, ↓pinView_parts, ↓setPcie_pinView, ↓pendingVectors_pinView, ↓resumeTraffic_pinView, ↓settleAll_pinView, ↓dropPrefetches_pinView, ite_self]

theorem xPrefetchComplete_pinView (pos layer : Nat) (ok : Bool) (b : LayerData) (s : State) : (xPrefetchComplete pos layer ok b s).pinView = s.pinView := by
  unfold xPrefetchComplete
  split
  · rfl
  · simp only [↓pinView_ite, ↓settlePresent_pinView, ↓editPresent_pinView,
      ↓foldl_pinView fun s (v : Nat) => (layerRead_pinView _ pos layer _ _).trans (layerRead_pinView s pos layer _ _), ite_self]

theorem presentValid_pinView (s : State) (d : Desc) : (s.presentValid d).pinView = s.pinView := by
  unfold State.presentValid
  extract_lets n p a b c e
  have ha : a.pinView = s.pinView := by
    simp only [a, ↓idleRestart_pinView, ↓presentSeen_pinView, ↓takeSlots_pinView, ↓prefetch_pinView]
  have hb : b.pinView = a.pinView := by
    unfold b
    split
    · exact supersede_pinView ..
    · rfl
  simp only [e, c, ↓pinView_ite, ↓settlePresent_pinView, ↓setPx_pinView, ↓alignFrame_pinView, ha, hb, ite_self]

theorem xPresent_pinView (s : State) : (xPresent s).pinView = s.pinView := by
  unfold xPresent
  split <;> simp only [↓pinView_ite, ↓popDesc_pinView, ↓presentValid_pinView, ↓complete_pinView, ite_self]

theorem timedValid_pinView (s : State) (d : Desc) : (s.timedValid d).pinView = s.pinView := by
  unfold State.timedValid
  dsimp only
  split <;> simp only
    [↓pinView_ite, ↓settlePresent_pinView, ↓editPresent_pinView, ↓alignFrame_pinView, ↓showEphem_pinView, ↓setPx_pinView, ↓idleRestart_pinView,
    ↓prefetch_pinView, ite_self]

theorem xPresentTimed_pinView (s : State) : (xPresentTimed s).pinView = s.pinView := by
  unfold xPresentTimed
  split <;> simp only [↓pinView_ite, ↓popDesc_pinView, ↓timedValid_pinView, ↓complete_pinView, ite_self]

theorem cancelApply_pinView (s : State) (d : Desc) : (s.cancelApply d).pinView = s.pinView := by
  unfold State.cancelApply
  simp only [↓complete_pinView, ↓cancelEntries_pinView, ↓alignWindow_pinView]

theorem xCancelTimed_pinView (s : State) : (xCancelTimed s).pinView = s.pinView := by
  unfold xCancelTimed
  split
  · rfl
  · exact aligned_pinView _ _ _ _ fun t => cancelApply_pinView t ..

theorem shadeDone_pinView (s : State) (d : Desc) (merged : Bool) : (s.shadeDone d merged).pinView = s.pinView := by
  unfold State.shadeDone
  simp only [↓completeAt_pinView]

theorem shadeContent_pinView (s : State) (d : Desc) : (s.shadeContent d).pinView = s.pinView := by
  unfold State.shadeContent
  simp only [↓pinView_ite, ↓shadeApply_pinView, ↓shadeClearApply_pinView, ite_self]

theorem shadeRun_pinView (s : State) (d : Desc) : (s.shadeRun d).pinView = s.pinView := by
  unfold State.shadeRun
  simp only [↓shadeDone_pinView, ↓shadeContent_pinView, ↓alignWindow_pinView]

theorem xShadeUpdate_pinView (s : State) : (xShadeUpdate s).pinView = s.pinView := by
  unfold xShadeUpdate
  split
  · rfl
  · refine (aligned_pinView _ _ _ _ fun t => shadeRun_pinView t _).trans ?_
    simp only [↓pinView_ite, ↓shadeAge_pinView, ite_self]

theorem xShadeClear_pinView (s : State) : (xShadeClear s).pinView = s.pinView := by
  unfold xShadeClear
  split
  · rfl
  · exact aligned_pinView _ _ _ _ fun t => shadeRun_pinView t ..

/-! ### Commands -/

theorem command_pinView (s : State) (d : Desc) (st : Status) (apply : State → State) (h : ∀ t : State, (apply t).pinView = t.pinView) :
    (s.command d st apply).pinView = s.pinView := by
  unfold State.command
  simp only [↓pinView_ite, ↓h, ↓complete_pinView, ↓popDesc_pinView, ite_self]

theorem aimApply_pinView (s : State) (d : Desc) : (s.aimApply d).pinView = s.pinView := by
  unfold State.aimApply
  simp (disch := exact arrayBeside rfl rfl) only [↓setPx_pinView, ↓fseti_pinView, ↓fset_pinView, ↓completeAt_pinView]

theorem xAim_pinView (s : State) : (xAim s).pinView = s.pinView := by
  unfold xAim
  split
  · rfl
  · exact command_pinView _ _ _ _ fun t => aimApply_pinView t ..

theorem profileApply_pinView (s : State) (d : Desc) : (s.profileApply d).pinView = s.pinView := by
  unfold State.profileApply
  simp only [↓pinView_ite, ↓completeAt_pinView, ↓setSpill_pinView, ↓complete_pinView, ite_self]

theorem xBeamProfile_pinView (s : State) : (xBeamProfile s).pinView = s.pinView := by
  unfold xBeamProfile
  split
  · rfl
  · exact command_pinView _ _ _ _ fun t => profileApply_pinView t ..

theorem tgAddr_beside (n off : Nat) (h : off < 0x100) : tgAddr n off ≠ 0x20100 := by
  unfold tgAddr
  omega

theorem portmapA_beside (p : Nat) : portmapA p ≠ 0x20100 := by
  unfold portmapA
  omega

theorem portmapB_beside (p : Nat) : portmapB p ≠ 0x20100 := by
  unfold portmapB
  omega

theorem cfgPort_pinView (d : Desc) (p : Nat) (s : State) : (s.cfgPort d p).pinView = s.pinView := by
  unfold State.cfgPort
  simp (disch := exact arrayBeside rfl rfl) only [↓pinView_ite, ↓wr_pinView _ _ _ (portmapA_beside p), ↓wr_pinView _ _ _
    (portmapB_beside p), ↓fset_pinView, ↓fsetb_pinView, ite_self]

theorem cfgWrite_pinView (s : State) (d : Desc) : (s.cfgWrite d).pinView = s.pinView := by
  unfold State.cfgWrite
  simp only [↓overAll_pinView (cfgPort_pinView d), ↓wr_pinView _ _ _ (tgAddr_beside d.target 0x20 (by decide)), ↓putGrid_pinView]

theorem alignNext_pinView (s : State) (n : Nat) : (s.alignNext n).pinView = s.pinView := by
  unfold State.alignNext
  split <;> simp only [↓alignFrame_pinView]

theorem retimeApply_pinView (s : State) (d : Desc) (named : Option Nat) : (s.retimeApply d named).pinView = s.pinView := by
  unfold State.retimeApply
  simp (disch := exact arrayBeside rfl rfl) only [↓setGen_pinView, ↓fsetb_pinView, ↓completeAt_pinView, ↓alignFrame_pinView]

theorem xRetime_pinView (s : State) : (xRetime s).pinView = s.pinView := by
  unfold xRetime
  split
  · rfl
  · exact aligned_pinView _ _ _ _ fun t => retimeApply_pinView t ..

theorem scalerApply_pinView (s : State) (d : Desc) (named : Option Nat) : (s.scalerApply d named).pinView = s.pinView := by
  unfold State.scalerApply
  simp (disch := exact arrayBeside rfl rfl) only
    [↓pinView_ite, ↓pinView_parts, ↓completeAt_pinView, ↓alignFrame_pinView, ↓fsetb_pinView, ↓complete_pinView, ite_self]

theorem xScalerCoeff_pinView (s : State) : (xScalerCoeff s).pinView = s.pinView := by
  unfold xScalerCoeff
  split
  · rfl
  · rename_i d _
    have h : ∀ t : State, (t.scalerApply d none).pinView = t.pinView := fun t => scalerApply_pinView t d none
    simp only [↓pinView_ite, ↓aligned_pinView _ _ _ _ h, ↓command_pinView _ _ _ _ h, ite_self]

theorem keepDesc_pinView (s : State) (d : Desc) : (s.keepDesc d).pinView = s.pinView := (rfl)

theorem xFence_pinView (ring : Nat) (s : State) : (xFence ring s).pinView = s.pinView := by
  unfold xFence
  split
  · rfl
  · exact command_pinView _ _ _ _ fun t => setRing_pinView t ..

theorem endFence_pinView (s : State) (f : Fence) (st : Status) : (s.endFence f st).pinView = s.pinView := by
  unfold State.endFence
  simp only [↓complete_pinView, ↓setRing_pinView]

theorem xFenceConditionMet_pinView (ring : Nat) (s : State) : (xFenceConditionMet ring s).pinView = s.pinView := by
  unfold xFenceConditionMet
  split <;> simp only [↓pinView_ite, ↓endFence_pinView, ite_self]

theorem xFenceTimeout_pinView (ring : Nat) (s : State) : (xFenceTimeout ring s).pinView = s.pinView := by
  unfold xFenceTimeout
  split <;> simp only [↓pinView_ite, ↓endFence_pinView, ite_self]

/-! ### Segments -/

theorem setSeg_pinView (s : State) (f : SegSt → SegSt) : (s.setSeg f).pinView = s.pinView := (rfl)
theorem setBank_pinView (s : State) (b : Nat) (f : SegBank → SegBank) : (s.setBank b f).pinView = s.pinView := (rfl)
theorem setChan_pinView (s : State) (c : Nat) (f : SegCh → SegCh) : (s.setChan c f).pinView = s.pinView := (rfl)

theorem bankRecalc_pinView (b : Nat) (s : State) : (bankRecalc b s).pinView = s.pinView := by
  unfold bankRecalc
  simp (disch := first | exact fieldBeside rfl | exact arrayBeside rfl rfl) only
    [↓pinView_ite, ↓setBank_pinView, ↓fsetb_pinView, ↓fset_pinView, ↓fadd_pinView, ite_self]

theorem totalScale_pinView (s : State) (recomputed : Bool) : (s.totalScale recomputed).pinView = s.pinView := by
  unfold State.totalScale
  simp (disch := exact fieldBeside rfl) only [↓pinView_ite, ↓fsetb_pinView, ↓setSeg_pinView, ↓fadd_pinView, ite_self]

theorem patternNow_pinView (s : State) (d : Desc) (entries : List Nat) : (s.patternNow d entries).pinView = s.pinView := by
  unfold State.patternNow
  simp only [↓complete_pinView, ↓setSeg_pinView]

theorem patternsNow_pinView (s : State) : s.patternsNow.pinView = s.pinView :=
  (foldl_pinView (f := fun s (e : Desc × List Nat) => s.patternNow e.1 e.2) (fun s e => patternNow_pinView s e.1 e.2) _ _).trans (setSeg_pinView s _)

theorem keepPrev_pinView (c : Nat) (s : State) : (keepPrev c s).pinView = s.pinView := (rfl)
theorem quietChan_pinView (c : Nat) (s : State) : (quietChan c s).pinView = s.pinView := (rfl)

theorem bankSwap_pinView (b : Nat) (s : State) : (bankSwap b s).pinView = s.pinView := by
  unfold bankSwap
  simp (disch := exact fieldBeside rfl) only [↓fset_pinView, ↓setBank_pinView]

theorem bankBoundary_pinView (b : Nat) (s : State) : (bankBoundary b s).pinView = s.pinView := by
  unfold bankBoundary
  simp only [↓pinView_ite, ↓setBank_pinView, ↓overList_pinView quietChan_pinView, ↓bankSwap_pinView, ↓overList_pinView keepPrev_pinView, ite_self]

theorem chanDuty_pinView (c : Nat) (s : State) : (chanDuty c s).pinView = s.pinView := by
  unfold chanDuty
  simp only [↓pinView_ite, ↓setChan_pinView, ite_self]

theorem bankShow_pinView (b : Nat) (s : State) : (bankShow b s).pinView = s.pinView := by
  unfold bankShow
  simp (disch := exact arrayBeside rfl rfl) only [↓fsetb_pinView, ↓fset_pinView]

theorem segTrims_pinView (s : State) : s.segTrims.pinView = s.pinView := by
  unfold State.segTrims
  dsimp only
  split <;> simp (disch := exact fieldBeside rfl) only [↓pinView_parts, ↓fseti_pinView]

theorem swapEffects_pinView (s : State) : (s.swapEffects).pinView = s.pinView := (rfl)

theorem xPwmPeriodBoundary_pinView (s : State) : (xPwmPeriodBoundary s).pinView = s.pinView := by
  unfold xPwmPeriodBoundary
  simp only
    [↓pinView_ite, ↓overAll_pinView bankBoundary_pinView, ↓patternsNow_pinView, ↓totalScale_pinView, ↓overAll_pinView bankRecalc_pinView, ↓overAll_pinView
    chanDuty_pinView, ↓segTrims_pinView, ↓overAll_pinView bankShow_pinView, ↓swapEffects_pinView, ↓setSeg_pinView, ite_self]

theorem armBank_pinView (src b : Nat) (s : State) : (armBank src b s).pinView = s.pinView := (rfl)

theorem segStartApply_pinView (s : State) (d : Desc) : (s.segStartApply d).pinView = s.pinView := by
  unfold State.segStartApply
  simp (disch := exact fieldBeside rfl) only [↓completeAt_pinView, ↓fset_pinView, ↓overList_pinView (armBank_pinView (d.arg 18 1))]

theorem xSegStart_pinView (s : State) : (xSegStart s).pinView = s.pinView := by
  unfold xSegStart
  split
  · rfl
  · exact command_pinView _ _ _ _ fun t => segStartApply_pinView t ..

theorem xSegBankRun_pinView (b : Nat) (on : Bool) (s : State) : (xSegBankRun b on s).pinView = s.pinView := by
  unfold xSegBankRun
  simp (disch := first | exact fieldBeside rfl | exact arrayBeside rfl rfl) only [↓pinView_ite, ↓fset_pinView, ↓fsetb_pinView, ↓setBank_pinView, ite_self]

theorem segRestart_pinView (s : State) : (s.segRestart).pinView = s.pinView := by
  unfold State.segRestart
  simp only [↓xPwmPeriodBoundary_pinView, ↓setSeg_pinView]

theorem segEdge_pinView (s : State) (src : Nat) : (s.segEdge src).pinView = s.pinView := (rfl)

theorem xSegSyncEdge_pinView (onBoundary : Bool) (highNs : Nat) (s : State) : (xSegSyncEdge onBoundary highNs s).pinView = s.pinView := by
  unfold xSegSyncEdge
  simp only [↓pinView_ite, ↓segEdge_pinView, ↓setSeg_pinView, ↓segRestart_pinView, ite_self]

theorem xSegInternalTick_pinView (onBoundary : Bool) (s : State) : (xSegInternalTick onBoundary s).pinView = s.pinView := by
  unfold xSegInternalTick
  simp (disch := exact fieldBeside rfl) only [↓pinView_ite, ↓setSeg_pinView, ↓segEdge_pinView, ↓fsetb_pinView, ↓segRestart_pinView, ite_self]

theorem xSegPulseStart_pinView (c : Nat) (s : State) : (xSegPulseStart c s).pinView = s.pinView := by
  unfold xSegPulseStart
  simp only [↓pinView_ite, ↓setChan_pinView, ite_self]

theorem clearChan_pinView (c : Nat) (s : State) : (clearChan c s).pinView = s.pinView := (rfl)

theorem xSegBlankRelease_pinView (s : State) : (xSegBlankRelease s).pinView = s.pinView := by
  unfold xSegBlankRelease
  simp (disch := exact fieldBeside rfl) only [↓pinView_ite, ↓fsetb_pinView, ↓setSeg_pinView, ite_self]

theorem setSegRail_pinView (s : State) (r : Nat) (f : SegRail → SegRail) : (s.setSegRail r f).pinView = s.pinView := (rfl)

theorem segJobs_pinView (s : State) (r : Nat) (j : PmbusJob) : (s.segJobs r j).pinView = s.pinView := by
  unfold State.segJobs
  simp only [↓pmbusAdd_pinView]

theorem headroomRail_pinView (r : Nat) (s : State) : (headroomRail r s).pinView = s.pinView := by
  unfold headroomRail
  simp only [↓pinView_ite, ↓setSegRail_pinView, ↓segJobs_pinView, ite_self]

theorem xHeadroomUpdate_pinView (s : State) : (xHeadroomUpdate s).pinView = s.pinView := by
  unfold xHeadroomUpdate
  simp only [↓pinView_ite, ↓overAll_pinView headroomRail_pinView, ite_self]

theorem xLossEstimate_pinView (s : State) : (xLossEstimate s).pinView = s.pinView := by
  unfold xLossEstimate
  simp (disch := exact fieldBeside rfl) only [↓pinView_ite, ↓setSeg_pinView, ↓fsetb_pinView, ↓fset_pinView, ite_self]

/-! ### Bulk commands -/

theorem bulkStart_pinView (s : State) (d : Desc) : (s.bulkStart d).pinView = s.pinView := by
  unfold State.bulkStart
  simp only [↓pinView_parts, ↓fetchHost_pinView]

theorem xSegPattern_pinView (s : State) : (xSegPattern s).pinView = s.pinView := by
  unfold xSegPattern
  split
  · rfl
  · exact command_pinView _ _ _ _ fun t => bulkStart_pinView t ..

theorem xMapLoad_pinView (s : State) : (xMapLoad s).pinView = s.pinView := by
  unfold xMapLoad
  split
  · rfl
  · exact command_pinView _ _ _ _ fun t => bulkStart_pinView t ..

theorem portMapDue_pinView (s : State) (d : Desc) : (s.portMapDue d).pinView = s.pinView := by
  unfold State.portMapDue
  split <;> simp only [↓completeAt_pinView, ↓complete_pinView, ↓mapsCurrent_pinView]

theorem reloadDone_pinView (s : State) (f : Fld) (i : Nat) (h : f.addr ≠ 0x20100) : (s.reloadDone f i).pinView = s.pinView := by
  unfold State.reloadDone
  simp only [↓pinView_ite, ↓fset_pinView _ _ _ h, ite_self]

theorem mapApply_pinView (s : State) (d : Desc) (src : List Byte) : (s.mapApply d src).pinView = s.pinView := by
  unfold State.mapApply
  split <;> simp (disch := exact fieldBeside rfl) only
    [↓pinView_parts, ↓setPx_pinView, ↓completeAt_pinView, ↓reloadDone_pinView, ↓portMapDue_pinView, ↓setHl_pinView, ↓queueLimpLoad_pinView, ↓keepDesc_pinView]

theorem mapAlign_pinView (s : State) (d : Desc) : (s.mapAlign d).pinView = s.pinView := by
  unfold State.mapAlign
  split
  · exact alignFrame_pinView ..
  split <;> exact sendAlign_pinView ..

theorem mapRead_pinView (s : State) (d : Desc) (src : List Byte) : (s.mapRead d src).pinView = s.pinView := by
  unfold State.mapRead
  split <;> simp only [↓pinView_ite, ↓pinView_parts, ↓mapAlign_pinView, ↓mapApply_pinView, ↓complete_pinView, ite_self]

theorem dumpStart_pinView (s : State) (d : Desc) : (s.dumpStart d).pinView = s.pinView := (rfl)

theorem xHealthDump_pinView (s : State) : (xHealthDump s).pinView = s.pinView := by
  unfold xHealthDump
  split
  · rfl
  · exact command_pinView _ _ _ _ fun t => dumpStart_pinView t ..

theorem xHealthDumpDone_pinView (s : State) : (xHealthDumpDone s).pinView = s.pinView := by
  unfold xHealthDumpDone
  split <;> simp only [↓pinView_parts, ↓complete_pinView]

theorem sessionRenew_pinView (s : State) : (s.sessionRenew).pinView = s.pinView := by
  unfold State.sessionRenew
  simp (disch := exact fieldBeside rfl) only [↓pinView_parts, ↓sessionOver_pinView, ↓fsetb_pinView]

theorem xSpbLoad_pinView (s : State) : (xSpbLoad s).pinView = s.pinView := by
  unfold xSpbLoad
  split
  · rfl
  · exact command_pinView _ _ _ _ fun t => bulkStart_pinView t ..

theorem spbRead_pinView (s : State) (d : Desc) (img : List Byte) : (s.spbRead d img).pinView = s.pinView := by
  unfold State.spbRead
  simp (disch := exact fieldBeside rfl) only [↓pinView_ite, ↓pinView_parts, ↓complete_pinView, ↓fset_pinView, ↓fsetb_pinView, ite_self]

theorem spbWrite_pinView (s : State) (d : Desc) (copy held seq : Nat) (img : List Byte) : (s.spbWrite d copy held seq img).pinView = s.pinView := (rfl)

theorem commitStart_pinView (s : State) (d : Desc) : (s.commitStart d).pinView = s.pinView := by
  unfold State.commitStart
  simp (disch := exact fieldBeside rfl) only [↓keepDesc_pinView, ↓setFlash_pinView, ↓spbWrite_pinView, ↓fsetb_pinView]

theorem xSpbCommit_pinView (s : State) : (xSpbCommit s).pinView = s.pinView := by
  unfold xSpbCommit
  split
  · rfl
  · exact command_pinView _ _ _ _ fun t => commitStart_pinView t ..

theorem xFwStage_pinView (s : State) : (xFwStage s).pinView = s.pinView := by
  unfold xFwStage
  split
  · rfl
  · exact command_pinView _ _ _ _ fun t => bulkStart_pinView t ..

theorem fwRead_pinView (s : State) (d : Desc) (src : List Byte) : (s.fwRead d src).pinView = s.pinView := (rfl)
theorem dirWrite_pinView (s : State) (copy : Nat) (second : Bool) (n : SlotDir) : (s.dirWrite copy second n).pinView = s.pinView := (rfl)

theorem activateApply_pinView (s : State) (d : Desc) : (s.activateApply d).pinView = s.pinView := by
  unfold State.activateApply
  simp only [↓complete_pinView, ↓dirWrite_pinView]

theorem xFwActivate_pinView (s : State) : (xFwActivate s).pinView = s.pinView := by
  unfold xFwActivate
  split
  · rfl
  · exact command_pinView _ _ _ _ fun t => activateApply_pinView t ..

theorem bulkApply_pinView (s : State) (d : Desc) (src : List Byte) : (s.bulkApply d src).pinView = s.pinView := by
  unfold State.bulkApply
  simp only [↓pinView_ite, ↓setSeg_pinView, ↓mapRead_pinView, ↓spbRead_pinView, ↓fwRead_pinView, ite_self]

theorem xBulkSourceReadDone_pinView (bytes : List Byte) (ok : Bool) (s : State) : (xBulkSourceReadDone bytes ok s).pinView = s.pinView := by
  unfold xBulkSourceReadDone
  split <;> simp only [↓pinView_ite, ↓pinView_parts, ↓stampSlot_pinView, ↓complete_pinView, ↓bulkApply_pinView, ite_self]

theorem partWritten_pinView (s : State) (ring pos k off : Nat) (data : List Byte) (last ok : Bool) :
    (s.partWritten ring pos k off data last ok).pinView = s.pinView := by
  unfold State.partWritten
  simp only [↓pinView_ite, ↓setFlash_pinView, ↓drawn_pinView, ↓completeSlot_pinView, ↓showSlotsFw_pinView, ite_self]

theorem dirWritten_pinView (s : State) (copy : Nat) (second : Bool) (n : SlotDir) (ok : Bool) : (s.dirWritten copy second n ok).pinView = s.pinView := by
  unfold State.dirWritten
  simp only [↓pinView_ite, ↓showSlotsFw_pinView, ↓setFlash_pinView, ↓dirWrite_pinView, ite_self]

/-! ### ALIGN -/

theorem setTwin_pinView (s : State) (f : TwinSt → TwinSt) : (s.setTwin f).pinView = s.pinView := (rfl)

theorem twinAccept_pinView (s : State) (seq : Nat) : (s.twinAccept seq).1.pinView = s.pinView := by
  unfold State.twinAccept
  extract_lets t fresh
  cases fresh with
  | none => rfl
  | some missing => exact (fadd_pinView _ _ _ (fieldBeside rfl)).trans (setTwin_pinView s _)

theorem twinTake_pinView (s : State) (link seq : Nat) : (s.twinTake link seq).1.pinView = s.pinView := by
  unfold State.twinTake
  split
  · exact twinAccept_pinView s seq
  · rfl

theorem twinRunShade_pinView (a : TwinAlign) (s : State) : (twinRunShade a s).pinView = s.pinView := by
  unfold twinRunShade
  split
  · rfl
  split <;> simp only [↓pinView_ite, ↓shadeContent_pinView, ↓notAlignedAt_pinView, ↓setTwin_pinView, ite_self]

theorem namePresent_pinView (s t : State) (a : TwinAlign) (h : s.namePresent a = some t) : t.pinView = s.pinView := by
  obtain ⟨p, -, rfl⟩ := Option.map_eq_some_iff.1 h
  exact (settlePresent_pinView _ _).trans (editPresent_pinView s _ _)

theorem nameCommand_pinView (s t : State) (a : TwinAlign) (h : s.nameCommand a = some t) : t.pinView = s.pinView := by
  unfold State.nameCommand at h
  split at h
  · cases h
  split at h
  · split at h
    · cases h
      exact (shadeDone_pinView _ _ _).trans (setTwin_pinView s _)
    · cases h
  · cases h
    exact setTwin_pinView s _

theorem twinMatch_pinView (a : TwinAlign) (s : State) : (twinMatch a s).pinView = s.pinView := by
  have hn : ∀ t, (if a.opcode = 1 ∨ a.opcode = 2 then s.namePresent a else s.nameCommand a) = some t → t.pinView = s.pinView := by
    intro t ht
    split at ht
    · exact namePresent_pinView s t a ht
    · exact nameCommand_pinView s t a ht
  unfold twinMatch
  dsimp only
  split
  · rfl
  · rename_i t ht
    exact (setTwin_pinView t _).trans (hn t ht)

theorem orphaned_pinView (s : State) : (s.orphaned).pinView = s.pinView := by
  unfold State.orphaned
  simp (disch := exact fieldBeside rfl) only [↓twinEvent_pinView, ↓fadd_pinView]

theorem orphanPresent_pinView (s : State) (n : Nat) (p : Present) : (s.orphanPresent n p).pinView = s.pinView := by
  unfold State.orphanPresent
  dsimp only
  split
  · simp only [↓settlePresent_pinView, ↓editPresent_pinView, ↓orphaned_pinView]
  split <;> simp only [↓settlePresent_pinView, ↓setPx_pinView, ↓supersede_pinView, ↓orphaned_pinView]

/-! ### Ticks -/

theorem tickPulseAt_pinView (s : State) (kind n tick : Nat) : (s.tickPulseAt kind n tick).pinView = s.pinView := by
  unfold State.tickPulseAt
  simp only [↓pinView_ite, ↓pinView_parts, ↓emit_pinView, ite_self]

theorem tickPulse_pinView (s : State) (kind n : Nat) : (s.tickPulse kind n).pinView = s.pinView := by
  unfold State.tickPulse
  simp only [↓tickPulseAt_pinView]

theorem passTicks_pinView (s : State) (k : Nat) : (s.passTicks k).pinView = s.pinView := by
  unfold State.passTicks
  simp only [↓pinView_ite, ↓tickPulseAt_pinView, ↓overAll_pinView portGoes_pinView, ↓overList_pinView (linkMarks_pinView k), ↓clockTicks_pinView, ite_self]

theorem toSegTick_pinView (s : State) : (s.toSegTick).pinView = s.pinView := by
  unfold State.toSegTick
  simp only [↓pinView_ite, ↓passTicks_pinView, ite_self]

theorem arrive_pinView (s : State) (q : Nat) : (s.arrive q).pinView = s.pinView := passTicks_pinView s _

theorem xTickOutPulseEnd_pinView (s : State) : (xTickOutPulseEnd s).pinView = s.pinView := by
  unfold xTickOutPulseEnd
  simp only [↓pinView_ite, ↓tickLow_pinView, ↓passTicks_pinView, ite_self]

theorem leadDefects_pinView (k p : Nat) (s : State) : (leadDefects k p s).pinView = s.pinView := by
  unfold leadDefects
  simp only [↓pinView_ite, ↓showDefects_pinView, ↓setHl_pinView, ite_self]

theorem latchMaps_pinView (s : State) (n k : Nat) : (s.latchMaps n k).pinView = s.pinView := by
  unfold State.latchMaps
  simp only [↓setPx_pinView, ↓effectDue_pinView, ↓showMaps_pinView, ↓overList_pinView (leadDefects_pinView k)]

theorem replaceNext_pinView (s : State) (n : Nat) (p : Present) : (s.replaceNext n p).pinView = s.pinView := by
  unfold State.replaceNext
  split <;> simp only [↓supersede_pinView, ↓setPx_pinView]

theorem shadowDue_pinView (s : State) (n k : Nat) : (s.shadowDue n k).pinView = s.pinView := by
  unfold State.shadowDue
  simp only [↓foldl_pinView fun s (e : Present × Nat) => replaceNext_pinView s n e.1, ↓setPx_pinView]

theorem launchEvent_pinView (s : State) (n : Nat) (p : Present) : (s.launchEvent n p).pinView = s.pinView := by
  unfold State.launchEvent
  simp (disch := exact arrayBeside rfl rfl) only [↓fadd_pinView, ↓eventSurf_pinView]

theorem dropNext_pinView (s : State) (n : Nat) : (s.dropNext n).pinView = s.pinView := by
  unfold State.dropNext
  split <;> simp only [↓setPx_pinView, ↓supersede_pinView]

theorem launchEntry_pinView (s : State) (n k : Nat) (p : Present) : (s.launchEntry n k p).pinView = s.pinView := by
  unfold State.launchEntry
  simp (disch := exact arrayBeside rfl rfl) only
    [↓pinView_ite, ↓dropNext_pinView, ↓presentInEffect_pinView, ↓fadd_pinView, ↓stopPresent_pinView, ↓launchEvent_pinView, ↓presentSeen_pinView,
    ↓takeSlots_pinView, ↓replaceNext_pinView, ↓alignFrame_pinView, ite_self]

theorem launchAll_pinView (s : State) (n k : Nat) : (s.launchAll n k).pinView = s.pinView := by
  unfold State.launchAll
  dsimp only
  split
  · rfl
  · simp only [↓launchEntry_pinView, ↓foldl_pinView fun s p => supersede_pinView s n p, ↓showEphem_pinView, ↓setPx_pinView]

theorem stopTarget_pinView (s : State) (n : Nat) : (s.stopTarget n).pinView = s.pinView := by
  unfold State.stopTarget
  split
  · rfl
  · simp only [↓setPx_pinView, ↓stopPresent_pinView]

theorem countLayer_pinView (n i : Nat) (s : State) : (countLayer n i s).pinView = s.pinView := by
  unfold countLayer
  split <;> simp (disch := exact arrayBeside rfl rfl) only [↓pinView_ite, ↓setPx_pinView, ↓fadd_pinView, ↓eventSurf_pinView, ite_self]

theorem takeFill_pinView (s : State) (n : Nat) : (s.takeFill n).pinView = s.pinView := by
  unfold State.takeFill
  simp only [↓takeDue_pinView]

theorem compose_pinView (s : State) (n k : Nat) (p : Present) : (s.compose n k p).pinView = s.pinView := by
  unfold State.compose
  simp only [↓pinView_parts, ↓takeFill_pinView, ↓setPx_pinView, ↓showComposing_pinView]

theorem continueOverrun_pinView (s : State) (n k : Nat) : (s.continueOverrun n k).pinView = s.pinView := by
  unfold State.continueOverrun
  simp (disch := exact arrayBeside rfl rfl) only [↓pinView_parts, ↓setPx_pinView, ↓eventSurf_pinView, ↓fadd_pinView]

theorem latchCompose_pinView (s : State) (n k : Nat) (new : Bool) : (s.latchCompose n k new).pinView = s.pinView := by
  unfold State.latchCompose
  dsimp only
  split
  · rfl
  · simp only [↓pinView_ite, ↓compose_pinView, ↓continueOverrun_pinView, ite_self]

theorem latchFrame_pinView (s : State) (n k : Nat) : (s.latchFrame n k).pinView = s.pinView := by
  unfold State.latchFrame
  dsimp only
  split <;> simp only [↓pinView_ite, ↓latchCompose_pinView, ↓setPx_pinView, ↓overAll_pinView (countLayer_pinView n), ↓notAlignedAt_pinView, ↓setGen_pinView,
    ↓stopTarget_pinView, ↓launchAll_pinView, ↓shadowDue_pinView, ite_self]

theorem latchRetime_pinView (s : State) (n : Nat) : (s.latchRetime n).pinView = s.pinView := by
  unfold State.latchRetime
  simp only [↓setPx_pinView, ↓overAll_pinView (countLayer_pinView n), ↓setGen_pinView]

theorem xLatchPoint_pinView (n : Nat) (s : State) : (xLatchPoint n s).pinView = s.pinView := by
  unfold xLatchPoint
  split
  · rfl
  split
  · rfl
  · simp only [↓pinView_ite, ↓tickPulse_pinView, ↓latchRetime_pinView, ↓latchFrame_pinView, ↓latchMaps_pinView, ↓arrive_pinView, ite_self]

theorem latchIfDue_pinView (n : Nat) (s : State) : (latchIfDue n s).pinView = s.pinView := by
  unfold latchIfDue
  simp only [↓pinView_ite, ↓xLatchPoint_pinView, ite_self]

theorem latchesDue_pinView (s : State) : (s.latchesDue).pinView = s.pinView := by
  unfold State.latchesDue
  simp only [↓overAll_pinView latchIfDue_pinView]

theorem gridReached_pinView (s : State) (n : Nat) (before after : Gen) : (s.gridReached n before after).pinView = s.pinView := by
  unfold State.gridReached
  simp only [↓pinView_ite, ↓putGrid_pinView, ite_self]

theorem takeScale_pinView (s : State) (n : Nat) : (s.takeScale n).pinView = s.pinView := by
  unfold State.takeScale
  simp only [↓pinView_ite, ↓takeDue_pinView, ↓overList_pinView scaleOwed_pinView, ite_self]

theorem takeDerate_pinView (s : State) (n : Nat) : (s.takeDerate n).pinView = s.pinView := foldl_pinView takeDue_pinView _ s

theorem takeAllF_pinView (s : State) (n : Nat) : (s.takeAllF n).pinView = s.pinView := by
  unfold State.takeAllF
  simp only [↓pinView_parts, ↓takeBit_pinView, ↓takeScale_pinView, ↓takeDerate_pinView, ↓takeFill_pinView]

theorem swapScaler_pinView (n k : Nat) (s : State) : (swapScaler n k s).pinView = s.pinView := by
  unfold swapScaler
  simp (disch := exact arrayBeside rfl rfl) only [↓pinView_ite, ↓pinView_parts, ↓fsetb_pinView, ite_self]

theorem countSilence_pinView (s : State) (n : Nat) : (s.countSilence n).pinView = s.pinView := by
  unfold State.countSilence
  simp (disch := exact fieldBeside rfl) only [↓pinView_ite, ↓pinView_parts, ↓fset_pinView, ↓fadd_pinView, ite_self]

theorem retimeFlags_pinView (s : State) (n : Nat) (g : Gen) : (s.retimeFlags n g).pinView = s.pinView := by
  unfold State.retimeFlags
  simp (disch := exact arrayBeside rfl rfl) only [↓pinView_ite, ↓effectDue_pinView, ↓fsetb_pinView, ite_self]

theorem nextSeed_pinView (s : State) : (s.nextSeed).pinView = s.pinView := (rfl)

theorem rotateLanes_pinView (s : State) (errs : List Word) : (s.rotateLanes errs).pinView = s.pinView := by
  unfold State.rotateLanes
  simp (disch := exact fieldBeside rfl) only
    [↓pinView_ite, ↓fadd_pinView, ↓nextSeed_pinView, ↓fsetb_pinView, ↓fset_pinView, ↓sounding_pinView, ↓twinBad_pinView, ite_self]

theorem stepAim_pinView (s : State) (n hz : Nat) : (s.stepAim n hz).pinView = s.pinView := (rfl)
theorem ageStatus_pinView (p : Nat) (s : State) : (ageStatus p s).pinView = s.pinView := (rfl)

theorem timingAhead_pinView (s : State) (n : Nat) : (s.timingAhead n).pinView = s.pinView := by
  unfold State.timingAhead
  simp only [↓pinView_ite, ↓timingAll_pinView, ite_self]

theorem sendLatch_pinView (s : State) (n : Nat) : (s.sendLatch n).pinView = s.pinView := by
  unfold State.sendLatch
  simp only [↓pinView_ite, ↓sendTwin_pinView, ite_self]

theorem useLatch_pinView (s : State) (n : Nat) (l : TwinLatch) : (s.useLatch n l).pinView = s.pinView := by
  unfold State.useLatch
  simp (disch := exact arrayBeside rfl rfl) only [↓pinView_ite, ↓foldl_pinView fun s
    (e : Nat × Nat) => setZone_pinView s e.1 _, ↓setSpill_pinView, ↓fset_pinView, ↓fseti_pinView, ↓setPx_pinView, ite_self]

theorem takeLatch_pinView (s : State) (n : Nat) : (s.takeLatch n).pinView = s.pinView := by
  unfold State.takeLatch
  split
  · rfl
  split <;> simp only [↓useLatch_pinView, ↓notAligned_pinView, ↓setTwinSurf_pinView]

theorem xPTick_pinView (n : Nat) (s : State) : (xPTick n s).pinView = s.pinView := by
  unfold xPTick
  simp only [↓pinView_ite, ↓tickPulse_pinView, ↓setGen_pinView, ↓arrive_pinView, ite_self]

theorem setSync_pinView (s : State) (ps : List Nat) (level : Bool) : (s.setSync ps level).pinView = s.pinView := (rfl)

theorem xTileSyncRise_pinView (n : Nat) (s : State) : (xTileSyncRise n s).pinView = s.pinView := by
  unfold xTileSyncRise
  simp only [↓pinView_ite, ↓setSync_pinView, ite_self]

theorem xTileSyncFall_pinView (n : Nat) (s : State) : (xTileSyncFall n s).pinView = s.pinView := (rfl)

/-! ### Sounding -/

theorem logRefused_pinView (s : State) (addr value : Nat) (classC : Bool) : (s.logRefused addr value classC).pinView = s.pinView := by
  unfold State.logRefused
  simp (disch := exact fieldBeside rfl) only [↓pinView_ite, ↓pinView_parts, ↓fset_pinView, ↓fadd_pinView, ↓fsetb_pinView, ↓eventDev_pinView, ite_self]

theorem nextSegment_pinView (s : State) (x : Nat) : (s.nextSegment x).pinView = s.pinView := by
  unfold State.nextSegment
  simp (disch := exact fieldBeside rfl) only [↓pinView_ite, ↓pinView_parts, ↓fset_pinView, ite_self]

theorem engineStart_pinView (s : State) (unit kind v : Nat) : (s.engineStart unit kind v).pinView = s.pinView := by
  unfold State.engineStart
  simp (disch := exact fieldBeside rfl) only [↓pinView_ite, ↓pinView_parts, ↓fset_pinView, ↓fsetb_pinView, ↓logRefused_pinView, ite_self]

theorem xTestEngineStart_pinView (unit kind : Nat) (s : State) : (xTestEngineStart unit kind s).pinView = s.pinView := by
  unfold xTestEngineStart
  simp only [↓engineStart_pinView]

theorem engineSpoils_pinView (s : State) (unit : Nat) : (s.engineSpoils unit).pinView = s.pinView := by
  unfold State.engineSpoils
  simp only [↓pinView_ite, ↓overAll_pinView fun i s => fsetb_pinView s (R.PIX_SCALER_ARMED i) _ (arrayBeside rfl rfl), ↓pinView_parts, ite_self]

theorem xTestEngineDone_pinView (errs : List Word) (s : State) : (xTestEngineDone errs s).pinView = s.pinView := by
  unfold xTestEngineDone
  split
  · rfl
  split
  · rfl
  · simp (disch := exact fieldBeside rfl) only [↓pinView_ite, ↓fsetb_pinView, ↓fset_pinView, ↓engineSpoils_pinView, ↓pinView_parts, ite_self]

theorem memoryEvent_pinView (s : State) (result addr : Nat) : (s.memoryEvent result addr).pinView = s.pinView := by
  unfold State.memoryEvent
  simp only [↓eventDev_pinView]

theorem loseLayer_pinView (s : State) (n i : Nat) : (s.loseLayer n i).pinView = s.pinView := by
  unfold State.loseLayer
  dsimp only
  split <;> simp only [↓pinView_parts, ↓setPx_pinView, ↓countLayer_pinView]

theorem loseHeld_pinView (s : State) (n i : Nat) : (s.loseHeld n i).pinView = s.pinView := (rfl)

theorem reloadMark_pinView (s : State) (f : Fld) (i : Nat) (h : f.addr ≠ 0x20100) : (s.reloadMark f i).pinView = s.pinView := by
  unfold State.reloadMark
  simp only [↓pinView_ite, ↓fset_pinView _ _ _ h, ite_self]

theorem lineLost_pinView (s : State) (region target index line : Nat) : (s.lineLost region target index line).pinView = s.pinView := by
  unfold State.lineLost
  split <;> simp (disch := first | exact fieldBeside rfl | exact arrayBeside rfl rfl) only
    [↓pinView_ite, ↓pinView_parts, ↓loseHeld_pinView, ↓loseLayer_pinView, ↓setPx_pinView, ↓reloadMark_pinView, ↓setHl_pinView, ↓showDefects_pinView,
    ↓fset_pinView, ite_self]

theorem abandonJob_pinView (s : State) : (s.abandonJob).pinView = s.pinView := by
  unfold State.abandonJob
  split <;> simp (disch := exact arrayBeside rfl rfl) only [↓pinView_parts, ↓setPx_pinView, ↓showComposing_pinView, ↓eventSurf_pinView, ↓fadd_pinView]

theorem dropRecord_pinView (s : State) (n : Nat) : (s.dropRecord n).pinView = s.pinView := by
  unfold State.dropRecord
  split <;> simp (disch := exact fieldBeside rfl) only [↓fadd_pinView, ↓setRing_pinView]

/-! ### The twin -/

theorem setRole_pinView (s : State) (r : Nat) : (s.setRole r).pinView = s.pinView := by
  unfold State.setRole
  simp (disch := exact fieldBeside rfl) only [↓fset_pinView]

theorem leadClaims_pinView (s : State) : s.leadClaims.pinView = s.pinView := by
  unfold State.leadClaims
  simp only [↓overList_pinView fun p s => sendClaim_pinView s p _, ↓setRole_pinView]

theorem freePresents_pinView (n : Nat) (s : State) : (State.freePresents n s).pinView = s.pinView := by
  unfold State.freePresents
  simp only [↓foldl_pinView fun s (p : Present) => settlePresent_pinView s p.desc.pos,
    ↓foldl_pinView fun s (e : Present × Nat) => (settlePresent_pinView _ e.1.desc.pos).trans (replaceNext_pinView s n e.1), ↓setPx_pinView]

theorem xTwinRejoin_pinView (s : State) : (xTwinRejoin s).pinView = s.pinView := by
  unfold xTwinRejoin
  simp (disch := exact fieldBeside rfl) only [↓pinView_ite, ↓fsetb_pinView, ite_self]

theorem xTwinHandover_pinView (s : State) : (xTwinHandover s).pinView = s.pinView := by
  unfold xTwinHandover
  simp only [↓pinView_ite, ↓setTwin_pinView, ite_self]

theorem xPairTimeout_pinView (peerLow : Bool) (s : State) : (xPairTimeout peerLow s).pinView = s.pinView := by
  unfold xPairTimeout
  simp only [↓pinView_ite, ↓leadClaims_pinView, ite_self]

theorem xTwinPeerSample_pinView (level : Bool) (s : State) : (xTwinPeerSample level s).pinView = s.pinView := by
  unfold xTwinPeerSample
  simp (disch := exact fieldBeside rfl) only [↓pinView_ite, ↓fsetb_pinView, ↓setTwin_pinView, ite_self]

theorem xSafetyConfirm_pinView (s : State) : (xSafetyConfirm s).pinView = s.pinView := by
  unfold xSafetyConfirm
  simp only [↓pinView_ite, ↓pinView_aon, ite_self]

theorem xTwinAliveDrop_pinView (s : State) : (xTwinAliveDrop s).pinView = s.pinView := (rfl)

theorem takeTiles_pinView (s : State) (why : Handover) : (s.takeTiles why).pinView = s.pinView := by
  unfold State.takeTiles
  simp only [↓overList_pinView claimBound_pinView, ↓setTwin_pinView]

theorem refuseHandover_pinView (s : State) : (s.refuseHandover).pinView = s.pinView := by
  unfold State.refuseHandover
  simp only [↓twinEvent_pinView, ↓setTwin_pinView]

theorem askedToLead_pinView (s : State) (why : Handover) : (s.askedToLead why).pinView = s.pinView := by
  unfold State.askedToLead
  simp only [↓pinView_ite, ↓refuseHandover_pinView, ↓takeTiles_pinView, ↓setTwin_pinView, ite_self]

theorem xHeartbeatTick_pinView (phase : Nat) (s : State) : (xHeartbeatTick phase s).pinView = s.pinView := by
  unfold xHeartbeatTick
  simp only [↓pinView_ite, ↓setTwin_pinView, ↓sendTwin_pinView, ite_self]

theorem pairWith_pinView (s : State) (unit role spb : Nat) : (s.pairWith unit role spb).pinView = s.pinView := by
  unfold State.pairWith
  simp (disch := exact fieldBeside rfl) only [↓pinView_ite, ↓twinEvent_pinView, ↓fsetb_pinView, ↓setRole_pinView, ↓leadClaims_pinView, ite_self]

theorem companionHears_pinView (s : State) : (s.companionHears).pinView = s.pinView := by
  unfold State.companionHears
  simp only [↓pinView_ite, ↓setTwin_pinView, ↓askedToLead_pinView, ite_self]

theorem measureLag_pinView (s : State) (link stamp : Nat) (body : List Byte) : (s.measureLag link stamp body).pinView = s.pinView := by
  unfold State.measureLag
  simp (disch := exact arrayBeside rfl rfl) only [↓pinView_ite, ↓setLink_pinView, ↓fseti_pinView, ↓fsetb_pinView, ite_self]

theorem xLatchReceived_pinView (link seq : Nat) (body : List Byte) (s : State) : (xLatchReceived link seq body s).pinView = s.pinView := by
  unfold xLatchReceived
  simp only [↓pinView_ite, ↓takeLatch_pinView, ↓setTwinSurf_pinView, ↓twinTake_pinView, ite_self]

theorem xDefectReceived_pinView (link seq : Nat) (body : List Byte) (s : State) : (xDefectReceived link seq body s).pinView = s.pinView := by
  unfold xDefectReceived
  dsimp only
  split
  · exact twinTake_pinView s link seq
  split <;> simp only [↓pinView_ite, ↓notAligned_pinView, ↓setTwin_pinView, ↓setHl_pinView, ↓twinTake_pinView, ite_self]

theorem xProbeCopyReceived_pinView (link seq : Nat) (body : List Byte) (s : State) : (xProbeCopyReceived link seq body s).pinView = s.pinView := by
  unfold xProbeCopyReceived
  dsimp only
  split
  · exact twinTake_pinView s link seq
  split <;> simp only [↓setHl_pinView, ↓twinTake_pinView]

theorem xDigestSend_pinView (n : Nat) (s : State) : (xDigestSend n s).pinView = s.pinView := by
  unfold xDigestSend
  split
  · rfl
  split
  · exact sendTwin_pinView ..
  · rfl

theorem xDigestReceived_pinView (link seq : Nat) (body : List Byte) (s : State) : (xDigestReceived link seq body s).pinView = s.pinView := by
  unfold xDigestReceived
  simp only [↓pinView_ite, ↓setTwinSurf_pinView, ↓twinTake_pinView, ite_self]

theorem arbDecide_pinView (s : State) (frame n : Nat) (lead comp : Bool) : (s.arbDecide frame n lead comp).pinView = s.pinView := by
  unfold State.arbDecide
  simp (disch := exact fieldBeside rfl) only [↓pinView_ite, ↓setTwin_pinView, ↓fsetb_pinView, ↓twinEvent_pinView, ↓askedToLead_pinView, ite_self]

theorem xArbitrateReplyTimeout_pinView (s : State) : (xArbitrateReplyTimeout s).pinView = s.pinView := by
  unfold xArbitrateReplyTimeout
  split
  · rfl
  · exact foldl_pinView (f := fun s (e : Nat × Nat × Bool × Nat) => s.arbDecide e.1 e.2.1 true e.2.2.1)
      (fun s e => arbDecide_pinView s e.1 e.2.1 true e.2.2.1) _ s

theorem compareDone_pinView (s : State) (n : Nat) (compared : Bool) : (s.compareDone n compared).pinView = s.pinView := (rfl)

/-! ### Time -/

theorem setNet_pinView (s : State) (p : Nat) (f : NetPort → NetPort) : (s.setNet p f).pinView = s.pinView := (rfl)

theorem showRoles_pinView (s : State) : s.showRoles.pinView = s.pinView :=
  overAll_pinView (fun p s => fset_pinView s (R.NET_PORT_STATUS_ROLE p) _ (arrayBeside rfl rfl)) 2 s

theorem loseSync_pinView (s : State) : (s.loseSync).pinView = s.pinView := by
  unfold State.loseSync
  simp only [↓timeEvent_pinView, ↓enterHoldover_pinView]

theorem selectMaster_pinView (s : State) : s.selectMaster.pinView = s.pinView := by
  unfold State.selectMaster
  dsimp only
  split
  · exact showRoles_pinView s
  split <;> simp (disch := exact fieldBeside rfl) only [↓pinView_ite, ↓loseSync_pinView, ↓fadd_pinView, ↓fset_pinView, ↓showRoles_pinView, ite_self]

theorem netOther_pinView (s : State) (p : Nat) : (s.netOther p).pinView = s.pinView := fadd_pinView s _ _ (arrayBeside rfl rfl)

theorem xAnnounceReceived_pinView (p kind domain : Nat) (vector : List Nat) (gm : Nat) (s : State) :
    (xAnnounceReceived p kind domain vector gm s).pinView = s.pinView := by
  unfold xAnnounceReceived
  simp (disch := exact arrayBeside rfl rfl) only [↓pinView_ite, ↓netOther_pinView, ↓fadd_pinView, ↓selectMaster_pinView, ↓setNet_pinView, ite_self]

theorem xAnnounceReceiptTimeout_pinView (p : Nat) (s : State) : (xAnnounceReceiptTimeout p s).pinView = s.pinView := by
  unfold xAnnounceReceiptTimeout
  simp only [↓pinView_ite, ↓selectMaster_pinView, ↓setNet_pinView, ite_self]

theorem xSlavePortSwitch_pinView (s : State) : (xSlavePortSwitch s).pinView = s.pinView := by
  unfold xSlavePortSwitch
  split
  · rfl
  split
  · simp only [↓pinView_ite, ↓selectMaster_pinView, ↓setNet_pinView, ite_self]
  · rfl

theorem netForget_pinView (s : State) (p : Nat) : (s.netForget p).pinView = s.pinView := by
  unfold State.netForget
  simp (disch := exact arrayBeside rfl rfl) only [↓fsetb_pinView, ↓setNet_pinView, ↓selectMaster_pinView]

theorem xSgmiiLinkChange_pinView (p : Nat) (up : Bool) (speed : Nat) (s : State) : (xSgmiiLinkChange p up speed s).pinView = s.pinView := by
  unfold xSgmiiLinkChange
  simp (disch := exact arrayBeside rfl rfl) only [↓pinView_ite, ↓fsetb_pinView, ↓showRoles_pinView, ↓fset_pinView, ↓netForget_pinView, ite_self]

theorem netEnable_pinView (s : State) (p : Nat) (on : Bool) : (s.netEnable p on).pinView = s.pinView := by
  unfold State.netEnable
  simp (disch := exact arrayBeside rfl rfl) only [↓pinView_ite, ↓fsetb_pinView, ↓showRoles_pinView, ↓netForget_pinView, ite_self]

theorem xPdelayReqTimer_pinView (p : Nat) (s : State) : (xPdelayReqTimer p s).pinView = s.pinView := by
  unfold xPdelayReqTimer
  simp (disch := exact arrayBeside rfl rfl) only [↓pinView_ite, ↓setNet_pinView, ↓selectMaster_pinView, ↓fsetb_pinView, ↓emit_pinView, ite_self]

theorem xPdelayReqReceived_pinView (p seq domain since wait : Nat) (s : State) : (xPdelayReqReceived p seq domain since wait s).pinView = s.pinView := by
  unfold xPdelayReqReceived
  simp only [↓pinView_ite, ↓netOther_pinView, ↓emit_pinView, ite_self]

theorem xPdelayRespReceived_pinView (p seq domain since : Nat) (peer : Int) (capable : Bool) (s : State) :
    (xPdelayRespReceived p seq domain since peer capable s).pinView = s.pinView := by
  unfold xPdelayRespReceived
  simp (disch := exact arrayBeside rfl rfl) only
    [↓pinView_ite, ↓fadd_pinView, ↓setNet_pinView, ↓fset_pinView, ↓selectMaster_pinView, ↓fsetb_pinView, ite_self]

theorem setRate_pinView (s : State) (rho slew offset : Int) : (s.setRate rho slew offset).pinView = s.pinView := by
  unfold State.setRate
  simp (disch := exact fieldBeside rfl) only [↓pinView_parts, ↓fsetb_pinView, ↓setInc_pinView]

theorem slew_pinView (s : State) (rho offset : Int) : (s.slew rho offset).pinView = s.pinView := by
  unfold State.slew
  simp only [↓pinView_ite, ↓setRate_pinView, ↓drawn_pinView, ite_self]

theorem stepGen_pinView (offset : Int) (n : Nat) (s : State) : (stepGen offset n s).pinView = s.pinView := by
  unfold stepGen
  simp only [↓pinView_ite, ↓setGen_pinView, ↓setPx_pinView, ↓timingAhead_pinView, ite_self]

theorem stepClock_pinView (s : State) (offset : Int) : (s.stepClock offset).pinView = s.pinView := by
  unfold State.stepClock
  simp (disch := exact fieldBeside rfl) only [↓pinView_parts, ↓fadd_pinView, ↓overAll_pinView (stepGen_pinView offset)]

theorem syncGood_pinView (s : State) (rho offset : Int) : (s.syncGood rho offset).pinView = s.pinView := by
  unfold State.syncGood
  simp (disch := exact fieldBeside rfl) only
    [↓pinView_ite, ↓pinView_parts, ↓slew_pinView, ↓showUnc_pinView, ↓showHoldover_pinView, ↓fsetb_pinView, ↓fset_pinView, ↓timeEvent_pinView, ite_self]

theorem syncFar_pinView (s : State) (rho offset : Int) : (s.syncFar rho offset).pinView = s.pinView := by
  unfold State.syncFar
  simp only [↓pinView_ite, ↓pinView_parts, ↓setRate_pinView, ↓loseSync_pinView, ↓slew_pinView, ↓stepClock_pinView, ite_self]

theorem xSyncReceived_pinView (p domain : Nat) (origin : Int) (since : Nat) (rho : Int) (s : State) :
    (xSyncReceived p domain origin since rho s).pinView = s.pinView := by
  unfold xSyncReceived
  simp (disch := first | exact fieldBeside rfl | exact arrayBeside rfl rfl) only
    [↓pinView_ite, ↓netOther_pinView, ↓fadd_pinView, ↓setNet_pinView, ↓fseti_pinView, ↓syncGood_pinView, ↓syncFar_pinView, ite_self]

theorem xSyncReceiptTimeout_pinView (s : State) : (xSyncReceiptTimeout s).pinView = s.pinView := by
  unfold xSyncReceiptTimeout
  simp only [↓pinView_ite, ↓loseSync_pinView, ite_self]

theorem xClockStep_pinView (s : State) : (xClockStep s).pinView = s.pinView := by
  unfold xClockStep
  split <;> simp only [↓pinView_ite, ↓stepClock_pinView, ite_self]

theorem xTimeNowRead_pinView (s : State) : (xTimeNowRead s).pinView = s.pinView := by
  unfold xTimeNowRead
  simp (disch := exact fieldBeside rfl) only [↓pinView_ite, ↓fset_pinView, ite_self]

/-! ### Temperature -/

theorem setTherm_pinView (s : State) (f : ThermSt → ThermSt) : (s.setTherm f).pinView = s.pinView := (rfl)
theorem recalcBanks_pinView (s : State) : (s.recalcBanks).pinView = s.pinView := (rfl)

theorem newStep_pinView (s : State) (t : Nat) : (s.newStep t).pinView = s.pinView := by
  unfold State.newStep
  simp (disch := exact fieldBeside rfl) only [↓recalcBanks_pinView, ↓fadd_pinView, ↓fset_pinView, ↓eventDev_pinView, ↓overAll_pinView scaleOwed_pinView]

theorem govern_pinView (s : State) : (s.govern).pinView = s.pinView := by
  unfold State.govern
  simp (disch := exact fieldBeside rfl) only [↓pinView_ite, ↓fseti_pinView, ↓fset_pinView, ↓setTherm_pinView, ↓calTrigger_pinView, ite_self]

theorem xThrottleUpdate_pinView (s : State) : (xThrottleUpdate s).pinView = s.pinView := by
  unfold xThrottleUpdate
  simp only [↓pinView_ite, ↓govern_pinView, ↓setTherm_pinView, ↓newStep_pinView, ite_self]

theorem calFail_pinView (s : State) (item attempts : Nat) : (s.calFail item attempts).pinView = s.pinView := by
  unfold State.calFail
  simp only [↓eventDev_pinView]

theorem enterRecovery_pinView (s : State) : (s.enterRecovery).pinView = s.pinView := by
  unfold State.enterRecovery
  simp (disch := exact fieldBeside rfl) only [↓pinView_ite, ↓setTherm_pinView, ↓calTrigger_pinView, ↓calFail_pinView, ↓fsetb_pinView, ite_self]

theorem xDieTempConversion_pinView (temp : Int) (outside : Bool) (s : State) : (xDieTempConversion temp outside s).pinView = s.pinView := by
  unfold xDieTempConversion
  simp (disch := exact fieldBeside rfl) only [↓pinView_ite, ↓fseti_pinView, ↓setTherm_pinView, ↓enterRecovery_pinView, ite_self]

theorem showRch_pinView (s : State) (i : Nat) : (s.showRch i).pinView = s.pinView := by
  unfold State.showRch
  simp (disch := exact arrayBeside rfl rfl) only [↓fsetb_pinView]

theorem xRemoteTempConversion_pinView (i uv dv : Nat) (s : State) : (xRemoteTempConversion i uv dv s).pinView = s.pinView := by
  unfold xRemoteTempConversion
  simp (disch := exact arrayBeside rfl rfl) only [↓pinView_ite, ↓setTherm_pinView, ↓fsetb_pinView, ↓fseti_pinView, ↓showRch_pinView, ite_self]

theorem xOscCompensation_pinView (s : State) : (xOscCompensation s).pinView = s.pinView := by
  unfold xOscCompensation
  simp (disch := exact fieldBeside rfl) only [↓pinView_ite, ↓setTherm_pinView, ↓fseti_pinView, ite_self]

theorem xCalRun_pinView (s : State) : (xCalRun s).pinView = s.pinView := by
  unfold xCalRun
  simp only [↓calTrigger_pinView]

theorem takeTrim_pinView (s : State) (item : Nat) (mean : List Int) : (s.takeTrim item mean).pinView = s.pinView := by
  unfold State.takeTrim
  simp (disch := exact fieldBeside rfl) only [↓pinView_ite, ↓setTherm_pinView, ↓fseti_pinView, ite_self]

theorem setRun_pinView (s : State) (r : CalRun) : (s.setRun r).pinView = s.pinView := (rfl)

theorem xCalRetryTimer_pinView (s : State) : (xCalRetryTimer s).pinView = s.pinView := by
  unfold xCalRetryTimer
  simp only [↓pinView_ite, ↓calTrigger_pinView, ite_self]

theorem xAdcCheck_pinView (codes predicted : List Nat) (s : State) : (xAdcCheck codes predicted s).pinView = s.pinView := by
  unfold xAdcCheck
  split
  · rfl
  split
  · rfl
  · simp (disch := exact fieldBeside rfl) only [↓pinView_ite, ↓calTrigger_pinView, ↓sounding_pinView, ↓fsetb_pinView, ite_self]

/-! ### The life cycle -/

theorem openSession_pinView (s : State) : (s.openSession).pinView = s.pinView := by
  unfold State.openSession
  simp (disch := exact fieldBeside rfl) only [↓pinView_ite, ↓pinView_parts, ↓fsetb_pinView, ite_self]

theorem xCommOpen_pinView (s : State) : (xCommOpen s).pinView = s.pinView := by
  unfold xCommOpen
  simp only [↓pinView_ite, ↓openSession_pinView, ite_self]

theorem lcRefused_pinView (s : State) (v : Nat) (classC : Bool) : (s.lcRefused v classC).pinView = s.pinView := by
  unfold State.lcRefused
  simp (disch := exact fieldBeside rfl) only [↓logRefused_pinView, ↓fsetb_pinView]

theorem lcAfter_pinView (s : State) (bit : Nat) (o : LcOutcome) (h : ∀ t, o = .taken t → t.pinView = s.pinView) : (s.lcAfter bit o).pinView = s.pinView := by
  cases o with
  | taken t => exact h t rfl
  | refused c => exact lcRefused_pinView ..

theorem closeDebug_pinView (s : State) : (s.closeDebug).pinView = s.pinView := by
  unfold State.closeDebug
  simp (disch := exact fieldBeside rfl) only [↓pinView_ite, ↓fsetb_pinView, ite_self]

theorem lcKeyBurn_pinView (s t : State) (h : s.lcKeyBurn = .taken t) : t.pinView = s.pinView := by
  unfold State.lcKeyBurn at h
  split at h
  · cases h
    exact (fsetb_pinView _ _ _ (fieldBeside rfl)).trans (setBoot_pinView s _)
  · cases h

theorem xLcKeyBurn_pinView (s : State) : (xLcKeyBurn s).pinView = s.pinView := by
  unfold xLcKeyBurn
  simp only [↓pinView_ite, ↓lcAfter_pinView _ _ _ (lcKeyBurn_pinView s), ite_self]

theorem xChalReq_pinView (s : State) : (xChalReq s).pinView = s.pinView := by
  unfold xChalReq
  simp (disch := exact fieldBeside rfl) only [↓pinView_ite, ↓fsetb_pinView, ↓overAll_pinView fun w s => fset_pinView s (R.BOOT_LC_CHAL_CHAL w) _
    (arrayBeside rfl rfl), ↓setBoot_pinView, ite_self]

theorem xChallengeExpiry_pinView (s : State) : (xChallengeExpiry s).pinView = s.pinView := by
  unfold xChallengeExpiry
  simp (disch := exact fieldBeside rfl) only [↓pinView_ite, ↓fsetb_pinView, ite_self]

theorem enterFails_pinView (s : State) (last : Nat) : (s.enterFails last).pinView = s.pinView := by
  unfold State.enterFails
  simp (disch := exact fieldBeside rfl) only [↓fset_pinView, ↓writeLc_pinView, ↓showLock_pinView]

theorem xLockoutExpiry_pinView (s : State) : (xLockoutExpiry s).pinView = s.pinView := by
  unfold xLockoutExpiry
  simp only [↓pinView_ite, ↓showLock_pinView, ite_self]

theorem xLcRecordTimer_pinView (s : State) : (xLcRecordTimer s).pinView = s.pinView := by
  unfold xLcRecordTimer
  simp only [↓pinView_ite, ↓writeLc_pinView, ite_self]

/-! ### Reset -/

theorem hostCancel_pinView (n : Nat) (s : State) : (hostCancel n s).pinView = s.pinView := by
  unfold hostCancel
  simp (disch := exact fieldBeside rfl) only [↓cancelEntries_pinView, ↓fadd_pinView]

theorem xHostSideReset_pinView (kind : Nat) (s : State) : (xHostSideReset kind s).pinView = s.pinView := by
  have hk : (if kind = 0 then R.HOST_RESET_CNT_FLR else R.HOST_RESET_CNT_LINK_LOSS).addr ≠ 0x20100 := by split <;> exact fieldBeside rfl
  unfold xHostSideReset
  simp (disch := exact fieldBeside rfl) only [↓pinView_ite, ↓overAll_pinView hostCancel_pinView, ↓pinView_parts, ↓resetRegs_pinView _ _
    (show hostResetReg 0x20100 = false by decide),
    ↓fadd_pinView _ _ _ hk, ↓fset_pinView, ↓fsetb_pinView, ite_self]

theorem xHostReadFailure_pinView (kind ring pos layer cause : Nat) (s : State) : (xHostReadFailure kind ring pos layer cause s).pinView = s.pinView := by
  unfold xHostReadFailure
  dsimp only
  split
  · rfl
  split
  · exact pcieError_pinView ..
  split
  · split <;> simp only [↓rejectDesc_pinView, ↓pcieError_pinView]
  split
  · split <;> simp only [↓complete_pinView, ↓dropDesc_pinView, ↓pcieError_pinView]
  · simp only [↓pinView_ite, ↓xPrefetchComplete_pinView, ↓xBulkSourceReadDone_pinView, ↓pcieError_pinView, ite_self]

theorem xXtal32Absence_pinView (s : State) : (xXtal32Absence s).pinView = s.pinView := (rfl)

/-! ### The LIMP store and the safety pair -/

theorem sendPicture_pinView (s : State) (p tw th : Nat) (codes : List Nat) : (s.sendPicture p tw th codes).pinView = s.pinView := by
  unfold State.sendPicture
  simp only [↓setHl_pinView, ↓sendSwap_pinView, ↓foldl_pinView fun s (e : Nat × Nat) => sendNow_pinView s p pktPhaseData _ 0]

theorem serveRows_pinView (p : Nat) (s : State) : (serveRows p s).pinView = s.pinView := by
  unfold serveRows
  split <;> simp only [↓sendPicture_pinView, ↓sendScale_pinView]

theorem serveAll_pinView (s : State) : (s.serveAll).pinView = s.pinView := by
  unfold State.serveAll
  simp only [↓overList_pinView serveRows_pinView, ↓setSync_pinView]

theorem xLimpSwapEdge_pinView (s : State) : (xLimpSwapEdge s).pinView = s.pinView := by
  unfold xLimpSwapEdge
  simp only [↓pinView_ite, ↓pinView_parts, ↓serveAll_pinView, ite_self]

theorem xLimpPatternResend_pinView (s : State) : (xLimpPatternResend s).pinView = s.pinView := by
  unfold xLimpPatternResend
  simp only [↓pinView_ite, ↓serveAll_pinView, ite_self]

/-! ### Register writes -/

theorem offAccess_pinView (s : State) (a : Nat) (write : Bool) : (s.offAccess a write).pinView = s.pinView := by
  unfold State.offAccess
  simp (disch := exact fieldBeside rfl) only [↓pinView_ite, ↓pinView_parts, ↓fsetb_pinView, ↓fset_pinView, ↓fadd_pinView, ↓eventDev_pinView, ite_self]

theorem barWrite_pinView (s : State) (a : Nat) (act : State → State) (h : ∀ t : State, (act t).pinView = t.pinView) :
    (s.barWrite a act).pinView = s.pinView := by
  unfold State.barWrite
  simp only [↓pinView_ite, ↓idleRestart_pinView, ↓offAccess_pinView, ↓h, ite_self]

theorem putField_pinView (s : State) (a : Nat) (f : FieldSpec) (v : Nat) (h : a ≠ 0x20100) : (s.putField a f v).pinView = s.pinView := fset_pinView s _ _ h

theorem showConfirmed_pinView (s : State) : (s.showConfirmed).pinView = s.pinView := by
  unfold State.showConfirmed
  simp (disch := exact fieldBeside rfl) only [↓fsetb_pinView]

theorem regionMoved_pinView (s : State) (a lo : Nat) : (s.regionMoved a lo).pinView = s.pinView := by
  unfold State.regionMoved
  simp (disch := exact fieldBeside rfl) only [↓pinView_ite, ↓fset_pinView, ite_self]

theorem takeIfStopped_pinView (f : Fld) (n : Nat) (s : State) : (takeIfStopped f n s).pinView = s.pinView := by
  unfold takeIfStopped
  simp only [↓pinView_ite, ↓takeBit_pinView, ite_self]

theorem writeF_pinView (a v : Nat) (s : State) (f : FieldSpec) (h : a ≠ 0x20100) : (writeF a v s f).pinView = s.pinView := by
  unfold writeF
  simp only [↓pinView_ite, ↓overAll_pinView
    (takeIfStopped_pinView _), ↓takeScale_pinView, ↓takeForce_pinView, ↓putField_pinView _ _ _ _ h, ↓keepF_pinView, ite_self]

theorem writeI_pinView (a v : Nat) (w : Writing) (f : FieldSpec) (h : a ≠ 0x20100) : (writeI a v w f).s.pinView = w.s.pinView := by
  unfold writeI
  split
  · rfl
  split
  · split
    · rfl
    split
    · rfl
    · exact putField_pinView _ _ _ _ h
  · split
    · rfl
    · exact fset_pinView _ _ _ h
  · split
    · exact putField_pinView _ _ _ _ h
    · rfl
  · rfl

theorem clrOf_beside {a b : Nat} {fs : List Fld} (h : clrOf a = some (b, fs)) : ∀ f ∈ fs, f.addr ≠ 0x20100 := by
  unfold clrOf at h
  dsimp only at h
  split at h
  case h_15 =>
    split_ifs at h with h6 h6' h7 hd h4
    all_goals
      cases h
      simp only [List.forall_mem_cons, List.not_mem_nil, false_imp_iff, implies_true, and_true]
      omega
  all_goals cases h; decide

theorem zeroed_pinView (s : State) (fs : List Fld) (h : ∀ f ∈ fs, f.addr ≠ 0x20100) : (s.zeroed fs).pinView = s.pinView :=
  foldl_rel (R := fun s t => t.pinView = s.pinView) (fun _ => rfl) (fun h k => k.trans h) _ fs (fun u f hf => fset_pinView u f 0 (h f hf)) s

theorem clrCnt_pinView (s : State) (a v : Nat) : (s.clrCnt a v).pinView = s.pinView := by
  unfold State.clrCnt
  split
  · rename_i h
    simp only [↓pinView_ite, ↓zeroed_pinView s _ (clrOf_beside h), ite_self]
  · rfl

theorem actHost_pinView (s : State) (a v : Nat) : (s.actHost a v).pinView = s.pinView := by
  unfold State.actHost
  simp (disch := exact fieldBeside rfl) only
    [↓pinView_ite, ↓xRingEnable_pinView, ↓xRingDisable_pinView, ↓xRingResume_pinView, ↓xRingSkip_pinView, ↓fset_pinView, ite_self]

theorem actPix_pinView (s : State) (a v : Nat) : (s.actPix a v).pinView = s.pinView := by
  unfold State.actPix
  simp only [↓pinView_ite, ↓clearMass_pinView, ↓xBaselineCapture_pinView, ite_self]

theorem segLimits_pinView (s before : State) (a : Nat) : (s.segLimits before a).pinView = s.pinView := by
  unfold State.segLimits
  simp only [↓pinView_ite, ↓setBank_pinView, ↓setSeg_pinView, ite_self]

theorem actTherm_pinView (s : State) (a v : Nat) : (s.actTherm a v).pinView = s.pinView := by
  unfold State.actTherm
  simp only [↓pinView_ite, ↓xCalRun_pinView, ↓showRch_pinView, ite_self]

theorem actNet_pinView (s : State) (a v : Nat) : (s.actNet a v).pinView = s.pinView := by
  unfold State.actNet
  simp only [↓pinView_ite, ↓netEnable_pinView, ite_self]

theorem writeMsix_pinView (s : State) (a v : Nat) (h : a ≠ 0x20100) : (s.writeMsix a v).pinView = s.pinView := by
  unfold State.writeMsix
  simp only [↓pinView_ite, ↓sendPending_pinView, ↓wr_pinView _ _ _ h, ite_self]

theorem accessSize_pinView (s : State) (a : Nat) : (s.accessSize a).pinView = s.pinView := by
  unfold State.accessSize
  simp only [↓eventDev_pinView]

theorem xClrCntWrite_pinView (a : Nat) (s : State) : (xClrCntWrite a s).pinView = s.pinView := by
  refine barWrite_pinView s a _ fun t => ?_
  split
  · rename_i h
    exact zeroed_pinView t _ (clrOf_beside h)
  · rfl

/-! ### Accesses -/

theorem legacyWrite_pinView (p : Nat) (on : Bool) (s : State) : (legacyWrite p on s).pinView = s.pinView := by
  unfold legacyWrite
  simp only [↓pinView_ite, ↓logRefused_pinView, ↓xLegacyEnable_pinView, ite_self]

theorem barRead_pinView (s : State) (a : Nat) (act : State → State) (h : ∀ t : State, (act t).pinView = t.pinView) :
    (s.barRead a act).pinView = s.pinView := by
  unfold State.barRead
  simp only [↓pinView_ite, ↓offAccess_pinView, ↓h, ite_self]

theorem doorbellAccess_pinView (page off v : Nat) (whole : Bool) (s : State) : (doorbellAccess page off v whole s).pinView = s.pinView := by
  unfold doorbellAccess
  simp only [↓pinView_ite, ↓eventDev_pinView, ↓xDoorbellWrite_pinView, ite_self]

end PinViewKept

end Sys2Proof.Machine

namespace Sys2Proof.Machine

section PinsKept

/-! ## The pins while RESET_N is low

Where the mode may change or the pins are driven anew, an invariant takes the place of the view: while RESET_N is low the pins are low, outside SENTINEL. -/

/-- While RESET_N is low the pins are low, outside SENTINEL: from such a state R384 asks that the pins stay low. -/
def State.pinsKept (s : State) : Prop := s.aon.resetHeld = true → s.aon.faultPins = true ∧ s.inSentinel = false

/-- What R384 asks of the state that a command leaves when the pins were low. -/
def State.pinsStayLow (s : State) : Prop := s.aon.resetHeld = true → s.inSentinel = false → s.aon.faultPins = true

/-- RESET_N and the pins, whatever becomes of the mode. -/
structure SamePins (s t : State) : Prop where
  held : t.aon.resetHeld = s.aon.resetHeld
  low : t.aon.faultPins = s.aon.faultPins

variable {s t : State}

theorem State.pinsKept.stayLow (h : s.pinsKept) : s.pinsStayLow := fun hh _ => (h hh).1

theorem State.pinsStayLow.kept (h : s.pinsStayLow) (hm : s.inSentinel = false) : s.pinsKept := fun hh => ⟨h hh hm, hm⟩

theorem pinsKept_of (h : t.pinView = s.pinView) (hs : s.pinsKept) : t.pinsKept := by
  obtain ⟨hh, hp, ha⟩ := PinView.mk.inj h
  unfold State.pinsKept
  rwa [hh, hp, ha]

theorem pinsStayLow_of (h : t.pinView = s.pinView) (hs : s.pinsStayLow) : t.pinsStayLow := by
  obtain ⟨hh, hp, ha⟩ := PinView.mk.inj h
  unfold State.pinsStayLow
  rwa [hh, hp, ha]

theorem pinsKept_ite {c : Prop} [Decidable c] (hs : s.pinsKept) (ht : t.pinsKept) : (if c then s else t).pinsKept := by
  split
  · exact hs
  · exact ht

theorem pinsStayLow_ite {c : Prop} [Decidable c] (hs : s.pinsStayLow) (ht : t.pinsStayLow) : (if c then s else t).pinsStayLow := by
  split
  · exact hs
  · exact ht

theorem pinsKept_of_released (h : s.aon.resetHeld = false) : s.pinsKept := fun hh => absurd (hh.symm.trans h) (by decide)

theorem SamePins.refl (s : State) : SamePins s s := ⟨rfl, rfl⟩
theorem SamePins.trans {u : State} (h : SamePins s t) (hu : SamePins t u) : SamePins s u := ⟨hu.held.trans h.held, hu.low.trans h.low⟩
theorem SamePins.fset {f : Fld} {v : Nat} (h : SamePins s t) : SamePins s (t.fset f v) := ⟨h.held, h.low⟩
theorem SamePins.view {u : State} (h : SamePins s t) (hu : u.pinView = t.pinView) : SamePins s u := by
  obtain ⟨hh, hp, -⟩ := PinView.mk.inj hu
  exact ⟨hh.trans h.held, hp.trans h.low⟩
theorem SamePins.ite {c : Prop} [Decidable c] {u : State} (ht : SamePins s t) (hu : SamePins s u) : SamePins s (if c then t else u) := by
  split
  · exact ht
  · exact hu

/-- A change of the mode that ends outside SENTINEL. -/
theorem pinsKept_of_awake (hs : s.pinsKept) (ha : SamePins s t) (hm : t.inSentinel = false) : t.pinsKept := by
  intro hh
  rw [ha.held] at hh
  rw [ha.low]
  exact ⟨(hs hh).1, hm⟩

/-- Any change of the mode. -/
theorem pinsStayLow_of_aon (hs : s.pinsKept) (ha : SamePins s t) : t.pinsStayLow := by
  intro hh _
  rw [ha.held] at hh
  rw [ha.low]
  exact (hs hh).1

theorem inSentinel_of_mode (h : s.modeNow ≠ 0) : s.inSentinel = false := by
  unfold State.inSentinel
  rw [beq_eq_false_iff_ne.2 h, Bool.false_and]

theorem inSentinel_of_busy (h : s.fbit R.PWR_MODE_BUSY = true) : s.inSentinel = false := by
  unfold State.inSentinel
  rw [h, Bool.not_true, Bool.and_false]

theorem fset_pinsKept {f : Fld} {v : Nat} (hs : s.pinsKept) (h : f.addr ≠ 0x20100) : (s.fset f v).pinsKept := pinsKept_of (fset_pinView s f v h) hs
theorem fsetb_pinsKept {f : Fld} {b : Bool} (hs : s.pinsKept) (h : f.addr ≠ 0x20100) : (s.fsetb f b).pinsKept := fset_pinsKept hs h
theorem fadd_pinsKept {f : Fld} {k : Nat} (hs : s.pinsKept) (h : f.addr ≠ 0x20100) : (s.fadd f k).pinsKept := fset_pinsKept hs h
theorem fseti_pinsKept {f : Fld} {v : Int} (hs : s.pinsKept) (h : f.addr ≠ 0x20100) : (s.fseti f v).pinsKept := fset_pinsKept hs h

theorem overList_pinsKept {f : Nat → State → State} (hf : ∀ i t, t.pinsKept → (f i t).pinsKept) (l : List Nat) (hs : s.pinsKept) :
    (overList f l s).pinsKept :=
  overList_rel (R := fun s t => s.pinsKept → t.pinsKept) (fun _ h => h) (fun h k hs => k (h hs)) f l (fun i _ u => hf i u) s hs

theorem overAll_pinsKept {f : Nat → State → State} (hf : ∀ i t, t.pinsKept → (f i t).pinsKept) (n : Nat) (hs : s.pinsKept) : (overAll n f s).pinsKept :=
  overList_pinsKept hf _ hs

theorem foldl_pinsKept {α : Type} {f : State → α → State} (hf : ∀ t x, t.pinsKept → (f t x).pinsKept) (l : List α) (hs : s.pinsKept) :
    (l.foldl f s).pinsKept :=
  foldl_rel (R := fun s t => s.pinsKept → t.pinsKept) (fun _ h => h) (fun h k hs => k (h hs)) f l (fun u x _ => hf u x) s hs

/-- A command runs its effect or is refused. -/
theorem command_pinsKept {d : Desc} {st : Status} {apply : State → State} (hf : ∀ t : State, t.pinsKept → (apply t).pinsKept) (h : s.pinsKept) :
    (s.command d st apply).pinsKept :=
  pinsKept_ite (hf _ (pinsKept_of (popDesc_pinView ..) h)) (pinsKept_of (complete_pinView ..) (pinsKept_of (popDesc_pinView ..) h))

theorem aligned_pinsKept {d : Desc} {st : Status} {apply : State → State} (hf : ∀ t : State, t.pinsKept → (apply t).pinsKept) (h : s.pinsKept) :
    (s.aligned d st apply).pinsKept := by
  have hp : (s.popDesc d.ring).pinsKept := pinsKept_of (popDesc_pinView ..) h
  exact pinsKept_ite (pinsKept_of (complete_pinView ..) hp) (pinsKept_ite (pinsKept_of (pinView_parts ..) hp) (hf _ hp))

theorem barWrite_pinsKept {a : Nat} {act : State → State} (hf : ∀ t : State, t.pinsKept → (act t).pinsKept) (h : s.pinsKept) :
    (s.barWrite a act).pinsKept :=
  pinsKept_ite h (pinsKept_ite (pinsKept_of (idleRestart_pinView ..) (pinsKept_of (offAccess_pinView ..) h)) (pinsKept_of (idleRestart_pinView ..) (hf s h)))

end PinsKept

end Sys2Proof.Machine

namespace Sys2Proof.Machine

section PinsKeptBy

/-! ## Operations that keep the pins low

Those that raise or clear a fault, change the mode, or take RESET_N. -/

/-! ### Flags -/

theorem drivePins_pinView (s : State) : s.drivePins.pinView = ⟨s.aon.resetHeld, s.pinsLow, s.inSentinel⟩ := by
  rw [State.drivePins]
  simp only [↓pinView_ite, ↓fsetb_pinView _ _ _ (show R.SAFE_STATUS_FAULT_PINS.addr ≠ 0x20100 from fieldBeside rfl), ite_self]
  rfl

theorem pinsLow_of_held {s : State} (hh : s.aon.resetHeld = true) (hm : s.inSentinel = false) (hp : s.aon.faultPins = true) : s.pinsLow = true := by
  rw [State.pinsLow]
  rw [hh, hm, hp]
  exact Bool.or_true _

theorem drivePins_pinsKept {s : State} (h : s.pinsKept) : s.drivePins.pinsKept := by
  obtain ⟨hh, hp, ha⟩ := PinView.mk.inj (drivePins_pinView s)
  intro hd
  rw [hh] at hd
  rw [hp, ha]
  exact ⟨pinsLow_of_held hd (h hd).2 (h hd).1, (h hd).2⟩

theorem drivePins_pinsStayLow {s : State} (h : s.pinsStayLow) : s.drivePins.pinsStayLow := by
  obtain ⟨hh, hp, ha⟩ := PinView.mk.inj (drivePins_pinView s)
  intro hd hm
  rw [hh] at hd
  rw [ha] at hm
  rw [hp]
  exact pinsLow_of_held hd hm (h hd hm)

theorem faultFld_notMode (f : Nat) : (faultFld f).addr ≠ 0x20100 := by
  have := faultFld_block f
  omega

theorem stateFld_notMode (u : Nat) : (stateFld u).addr ≠ 0x20100 := by
  unfold stateFld laneFld
  split <;> exact arrayBeside rfl rfl

theorem latchFault_pinsKept {s : State} {f : Nat} (h : s.pinsKept) : (s.latchFault f).pinsKept :=
  drivePins_pinsKept (fsetb_pinsKept h (faultFld_notMode f))

theorem clearFault_pinsKept {s : State} {f : Nat} (h : s.pinsKept) : (s.clearFault f).pinsKept :=
  pinsKept_ite (drivePins_pinsKept (fsetb_pinsKept h (faultFld_notMode f))) h

/-! ### Lane states -/

theorem twinFaultOver_pinsKept {s : State} (h : s.pinsKept) : (State.twinFaultOver s).pinsKept := by
  rw [State.twinFaultOver]
  exact pinsKept_ite (clearFault_pinsKept h) h

theorem setLane_pinsKept {s : State} {u st : Nat} (h : s.pinsKept) : (s.setLane u st).pinsKept := by
  have ha : (s.fset (stateFld u) st).pinsKept := fset_pinsKept h (stateFld_notMode u)
  rw [State.setLane]
  exact pinsKept_ite ha (fset_pinsKept (pinsKept_ite (twinFaultOver_pinsKept (pinsKept_of (setLink_pinView ..) ha))
    (pinsKept_ite (pinsKept_of (setLink_pinView ..) ha) ha)) (fieldBeside rfl))

theorem enterRetrain_pinsKept {s : State} {u : Nat} (h : s.pinsKept) : (State.enterRetrain s u).pinsKept := by
  unfold State.enterRetrain
  extract_lets s1 s2 s3
  have h1 : s1.pinsKept := pinsKept_ite (pinsKept_of (send_pinView ..) h) h
  have h2 : s2.pinsKept := foldl_pinsKept (fun _ _ ht => pinsKept_of (setHs_pinView ..) ht) _ (setLane_pinsKept h1)
  have h3 : s3.pinsKept := by
    refine pinsKept_ite ?_ (pinsKept_of (setLink_pinView ..) h2)
    exact fsetb_pinsKept (fsetb_pinsKept (pinsKept_of (setPort_pinView ..) h2) (arrayBeside rfl rfl)) (arrayBeside rfl rfl)
  exact pinsKept_of (startTrn_pinView ..) h3

theorem endPrbs_pinsKept {s : State} {p : Nat} (h : s.pinsKept) : (State.endPrbs s p).pinsKept := by
  rw [State.endPrbs]
  refine pinsKept_ite ?_ h
  exact enterRetrain_pinsKept (pinsKept_of (dropLocks_pinView ..) (fsetb_pinsKept (pinsKept_of (cutPortPrbs_pinView ..) h) (arrayBeside rfl rfl)))

/-! ### Faults -/

theorem totPort_pinsKept {p : Nat} {s : State} (h : s.pinsKept) : (totPort p s).pinsKept := by
  have ha : ∀ u : State, u.pinView = s.pinView → (match (u.port p).order with
      | some (.rate dn up _) => u.setPort p fun q => { q with order := none, reorder := some (.rate dn up 0) }
      | _ => u).pinView = s.pinView := by
    intro u hu
    split
    · exact (setPort_pinView ..).trans hu
    · exact hu
  rw [totPort]
  refine endPrbs_pinsKept (pinsKept_of (ha _ ?_) h)
  simp only [↓pinView_ite, ↓portGoes_pinView, ↓nextControl_pinView, ↓fsetb_pinView _ (R.TILE_PROTO_STATUS_TOTALITY_TX p) _
    (arrayBeside rfl rfl), ↓send_pinView,
    ↓abandonWire_pinView, ↓exitIdle_pinView, ite_self]

theorem totApply_pinsKept {s : State} (h : s.pinsKept) : (State.totApply s).pinsKept := by
  rw [State.totApply]
  exact pinsKept_of (showSafe_pinView ..) (pinsKept_of (segFollowTot_pinView ..) (overList_pinsKept (fun _ _ ht => totPort_pinsKept ht) _ (fset_pinsKept h
    (fieldBeside rfl))))

theorem totRequest_pinsKept {s : State} {src : TotSrc} {groups fault : Nat} (h : s.pinsKept) : (State.totRequest s src groups fault).pinsKept := by
  unfold State.totRequest
  extract_lets _ s1 s2 s3
  have h1 : s1.pinsKept := totApply_pinsKept (fsetb_pinsKept h (TotSrc.fld_beside _))
  have h2 : s2.pinsKept := pinsKept_ite (pinsKept_of (send_pinView ..) (pinsKept_of (send_pinView ..) h1)) h1
  have h3 : s3.pinsKept := pinsKept_of (totEvent_pinView ..) h2
  exact pinsKept_ite (pinsKept_of (safeEvent_pinView ..) h3) h3

theorem totRelease_pinsKept {s : State} {srcs : List TotSrc} {groups : Nat} (h : s.pinsKept) : (State.totRelease s srcs groups).pinsKept := by
  unfold State.totRelease
  extract_lets _ _ _ s1 s2 s3 s4
  have h1 : s1.pinsKept := totApply_pinsKept (foldl_pinsKept (fun _ _ ht => fsetb_pinsKept ht (TotSrc.fld_beside _)) _ h)
  have h2 : s2.pinsKept := overList_pinsKept (fun _ _ ht => pinsKept_of (totResume_pinView ..) ht) _ h1
  have h3 : s3.pinsKept := pinsKept_ite h2 (clearFault_pinsKept h2)
  have h4 : s4.pinsKept := pinsKept_of (totEvent_pinView ..) h3
  exact pinsKept_ite h (pinsKept_ite (pinsKept_of (safeEvent_pinView ..) h4) h4)

/-- The fields of PWR_MODE that say neither the mode nor BUSY. -/
theorem target_pinView (s : State) (v : Nat) : (s.fset R.PWR_MODE_TARGET v).pinView = s.pinView := by
  simp only [State.pinView, State.inSentinel, State.modeNow, State.fbit, fget_fset_apart s R.PWR_MODE_TARGET R.PWR_MODE_MODE v (by decide) (by decide)
    (by decide),
    fget_fset_apart s R.PWR_MODE_TARGET R.PWR_MODE_BUSY v (by decide) (by decide) (by decide)]
  rfl

theorem modeSet_samePins (s : State) (dst cause : Nat) : SamePins s (s.modeSet dst cause) := by
  rw [State.modeSet]
  have ha := SamePins.fset (f := R.PWR_MODE_CAUSE) (v := cause) (.fset (f := R.PWR_MODE_TARGET) (v := dst) (.fset (f := R.PWR_MODE_MODE) (v := dst)
    (.refl s)))
  exact SamePins.view (.fset (.ite ha (ha.view (idleStop_pinView _)))) (modeEvent_pinView ..)

theorem modeSet_pinsKept {s : State} {dst cause : Nat} (h : s.pinsKept) (hd : dst < 8) (h0 : dst ≠ 0) : (s.modeSet dst cause).pinsKept :=
  pinsKept_of_awake h (modeSet_samePins s dst cause) (inSentinel_of_mode (by rwa [modeSet_modeNow hd]))

theorem withdrawExit_samePins (s : State) : SamePins s s.withdrawExit := by
  rw [State.withdrawExit]
  split
  · exact .refl s
  split
  · exact .refl s
  have hb : ∀ mode safe, SamePins s ({
    ((({ s with mode := mode } : State).fsetb R.PWR_MODE_BUSY false).fset R.PWR_MODE_TARGET 4) with safe := safe } : State) :=
    fun mode safe => SamePins.view (.fset (.fset (SamePins.view (.refl s) (pinView_parts ..)))) (pinView_parts ..)
  split
  · exact .ite ((hb _ _).view (overAll_pinView showLimpPort_pinView 6 _)) (hb _ _)
  · exact SamePins.view (.ite ((hb _ _).view (overAll_pinView showLimpPort_pinView 6 _)) (hb _ _)) (completeSlot_pinView ..)

/-- BUSY set keeps every state outside SENTINEL. -/
theorem busy_pinsKept {s : State} (h : s.pinsKept) : (s.fsetb R.PWR_MODE_BUSY true).pinsKept :=
  pinsKept_of_awake h (.fset (.refl s)) (inSentinel_of_busy (fbit_fsetb_same _ R.PWR_MODE_BUSY _ (by decide) rfl))

theorem limpFromPark_samePins (s : State) (cause : Nat) : SamePins s (s.limpFromPark cause) := by
  have hb : SamePins s ((s.fset R.PWR_MODE_TARGET 4).fsetb R.PWR_MODE_BUSY true) := .fset (.fset (.refl s))
  rw [State.limpFromPark]
  split
  · exact .view (.view (.view (.view hb (pinView_parts ..)) (idleStop_pinView ..)) (setSup_pinView ..)) (railStart_pinView ..)
  · exact .view (.view hb (pinView_parts ..)) (idleStop_pinView ..)

theorem limpFromPark_pinsKept {s : State} {cause : Nat} (h : s.pinsKept) : (s.limpFromPark cause).pinsKept := by
  have hb := busy_pinsKept (pinsKept_of (target_pinView s 4) h)
  rw [State.limpFromPark]
  split
  · exact pinsKept_of (railStart_pinView ..) (pinsKept_of (setSup_pinView ..) (pinsKept_of (idleStop_pinView ..) (pinsKept_of (pinView_parts ..) hb)))
  · exact pinsKept_of (idleStop_pinView ..) (pinsKept_of (pinView_parts ..) hb)

theorem takeLimp_samePins (form : LimpForm) (fault cause : Nat) (s : State) : SamePins s (s.takeLimp form fault cause) := by
  rw [State.takeLimp]
  split
  · exact (withdrawExit_samePins s).view (limpForm_pinView ..)
  split
  · exact SamePins.view (.view (.refl s) (pinView_parts ..)) (pinView_parts ..)
  · have ha : SamePins s ({ s with mode := { s.mode with presentSinceLimp := false, wokenToRun := false } } : State) := .view (.refl s) (pinView_parts ..)
    refine .view (.view ?_ (limpForm_pinView ..)) (safeEvent_pinView ..)
    exact .ite (ha.trans (limpFromPark_samePins _ cause)) (ha.trans (modeSet_samePins _ 4 cause))

theorem takeLimp_pinsKept {s : State} {form : LimpForm} {fault cause : Nat} (h : s.pinsKept) : (s.takeLimp form fault cause).pinsKept := by
  rw [State.takeLimp]
  split
  · rename_i h4
    have hm : s.modeNow = 4 := of_decide_eq_true (Bool.and_eq_true_iff.1 h4).1
    refine pinsKept_of (limpForm_pinView ..) (pinsKept_of_awake h (withdrawExit_samePins s) (inSentinel_of_mode ?_))
    rw [withdrawExit_modeNow, hm]
    decide
  refine pinsKept_ite (pinsKept_of (pinView_parts ..) (pinsKept_of (pinView_parts ..) h)) ?_
  have ha : ({ s with mode := { s.mode with presentSinceLimp := false, wokenToRun := false } } : State).pinsKept := pinsKept_of (pinView_parts ..) h
  exact pinsKept_of (safeEvent_pinView ..) (pinsKept_of (limpForm_pinView ..)
    (pinsKept_ite (limpFromPark_pinsKept ha) (modeSet_pinsKept ha (by decide) (by decide))))

theorem enterLimp_pinsKept {s : State} {form : LimpForm} {fault cause : Nat} (h : s.pinsKept) : (State.enterLimp s form fault cause).pinsKept := by
  rw [State.enterLimp]
  exact takeLimp_pinsKept (pinsKept_ite h (pinsKept_ite (pinsKept_of (pinView_parts ..) h) (pinsKept_of (pinView_parts ..) h)))

theorem recordFault_pinsKept {s : State} {f inst detail : Nat} (h : s.pinsKept) : (State.recordFault s f inst detail).pinsKept := by
  rw [State.recordFault]
  refine pinsKept_of (eventDev_pinView ..) (latchFault_pinsKept (fset_pinsKept (fset_pinsKept ?_ (fieldBeside rfl)) (fieldBeside rfl)))
  exact pinsKept_ite (fset_pinsKept (fset_pinsKept h (fieldBeside rfl)) (fieldBeside rfl)) h

theorem reactTo_pinsKept {s : State} {f : Nat} (h : s.pinsKept) : (State.reactTo s f).pinsKept := by
  rw [State.reactTo]
  split
  · exact h
  · exact enterLimp_pinsKept h
  · exact enterLimp_pinsKept h
  · exact fsetb_pinsKept (totRequest_pinsKept h) (fieldBeside rfl)
  · exact totRequest_pinsKept h
  · exact enterLimp_pinsKept (fsetb_pinsKept (pinsKept_of (pinView_parts ..) h) (fieldBeside rfl))

theorem raise_pinsKept {s : State} {f inst detail : Nat} (h : s.pinsKept) : (State.raise s f inst detail).pinsKept := by
  rw [State.raise]
  exact pinsKept_ite (reactTo_pinsKept (pinsKept_of (twinFault_pinView ..) (recordFault_pinsKept h))) h

theorem raiseBrief_pinsKept {s : State} {f inst detail : Nat} (h : s.pinsKept) : (State.raiseBrief s f inst detail).pinsKept := by
  rw [State.raiseBrief]
  exact clearFault_pinsKept (raise_pinsKept h)

theorem segReport_pinsKept {s : State} {c kind : Nat} (h : s.pinsKept) : (State.segReport s c kind).pinsKept := by
  rw [State.segReport]
  exact raise_pinsKept (pinsKept_of (eventDev_pinView ..) h)

theorem raiseAll_pinsKept {s : State} {l : List (Nat × Nat × Nat)} (h : s.pinsKept) : (State.raiseAll s l).pinsKept := by
  rw [State.raiseAll]
  exact foldl_pinsKept (fun _ _ h1 => (foldl_pinsKept (fun _ _ h2 => pinsKept_ite (segReport_pinsKept h2) (raise_pinsKept h2)) _ h1)) _ h

theorem recheckExit_pinsStayLow {s : State} (h : s.pinsKept) : s.recheckExit.pinsStayLow :=
  pinsStayLow_ite (pinsStayLow_of_aon h (withdrawExit_samePins s)) h.stayLow

theorem endLimp_pinsKept {s : State} (h : s.pinsKept) : (State.endLimp s).pinsKept := by
  rw [State.endLimp]
  exact pinsKept_of (safeEvent_pinView ..) (pinsKept_of (showSafe_pinView ..) (overAll_pinsKept (fun _ _ ht => pinsKept_of (scaleOwed_pinView ..) ht) _
    (overList_pinsKept (fun _ _ ht => clearFault_pinsKept ht) _ (pinsKept_of (pinView_parts ..) (pinsKept_of (pinView_parts ..) h)))))

/-! ### Domains -/

theorem blankLevel_pinsKept {b : Bool} {s : State} (h : s.pinsKept) : (blankLevel b s).pinsKept := by
  rw [blankLevel]
  exact pinsKept_ite (raise_pinsKept (totRequest_pinsKept (fset_pinsKept (pinsKept_of (pinView_parts ..) h) (fieldBeside rfl)))) h

theorem hotLevel_pinsKept {s : State} (h : s.pinsKept) : (State.hotLevel s).pinsKept := by
  rw [State.hotLevel]
  exact pinsKept_ite (raise_pinsKept (fsetb_pinsKept h (fieldBeside rfl))) h

theorem relatch_pinsKept {s : State} (h : s.pinsKept) : s.relatch.pinsKept := by
  unfold State.relatch
  extract_lets s1 s2 ps s3 s4 aon
  have h1 : s1.pinsKept := foldl_pinsKept (fun _ _ h => reactTo_pinsKept (latchFault_pinsKept h)) _ h
  have h2 : s2.pinsKept := foldl_pinsKept (fun _ _ h => latchFault_pinsKept h) _ h1
  have h3 : s3.pinsKept := overList_pinsKept (fun _ _ h => fsetb_pinsKept h (arrayBeside rfl rfl)) _ h2
  exact pinsKept_of (pinView_aon ..) (fset_pinsKept (f := R.SAFE_TILE_HELD_PORTS) h3 (fieldBeside rfl))

theorem domainOn_pinsKept {d : Nat} {s : State} (h : s.pinsKept) : (domainOn d s).pinsKept := by
  unfold domainOn
  extract_lets s1 _
  have h1 : s1.pinsKept := pinsKept_of (segClock_pinView ..) (pinsKept_of (domSet_pinView ..) h)
  refine pinsKept_ite h ?_
  refine pinsKept_ite (pinsKept_of (calTrigger_pinView ..) h1) ?_
  refine pinsKept_ite ?_ ?_
  · exact hotLevel_pinsKept (relatch_pinsKept (blankLevel_pinsKept (blankLevel_pinsKept (pinsKept_of (pinView_parts ..) h1))))
  · refine pinsKept_ite ?_ ?_
    · exact fsetb_pinsKept (fsetb_pinsKept h1 (fieldBeside rfl)) (fieldBeside rfl)
    · refine pinsKept_ite ?_ ?_
      · exact overAll_pinsKept (fun _ _ ht => pinsKept_of (pixOnPort_pinView ..) ht) _ (pinsKept_of (showHoldover_pinView ..) (pinsKept_of
          (pinView_parts ..) h1))
      · refine pinsKept_ite ?_ ?_
        · exact overAll_pinsKept (fun _ _ ht => pinsKept_of (waitPort_pinView ..) ht) _ h1
        · exact pinsKept_ite (overList_pinsKept (fun _ _ ht => pinsKept_of (waitPort_pinView ..) ht) _ h1) h1

theorem powerUp_pinsKept {s : State} {ds : List Nat} (h : s.pinsKept) : (State.powerUp s ds).pinsKept := by
  rw [State.powerUp]
  exact overList_pinsKept (fun _ _ ht => domainOn_pinsKept ht) _ h

/-! ### Boot -/

theorem loadSpb_pinsKept {s : State} {boot readOk : Bool} (h : s.pinsKept) : (State.loadSpb s boot readOk).pinsKept := by
  unfold State.loadSpb
  extract_lets _ _ _ _ _ _ s1 s2 s3 s4 s5 s6 s7
  have h1 : s1.pinsKept := pinsKept_of (pinView_parts ..) h
  have h2 : s2.pinsKept := pinsKept_ite (pinsKept_of (setFlash_pinView ..) h1) h1
  have h3 : s3.pinsKept := fsetb_pinsKept (fset_pinsKept h2 (fieldBeside rfl)) (fieldBeside rfl)
  have h4 : s4.pinsKept := fsetb_pinsKept h3 (fieldBeside rfl)
  have h5 : s5.pinsKept := fset_pinsKept h4 (fieldBeside rfl)
  have h6 : s6.pinsKept := fset_pinsKept h5 (fieldBeside rfl)
  have h7 : s7.pinsKept := pinsKept_of (applySpb_pinView ..) (fset_pinsKept h6 (fieldBeside rfl))
  exact pinsKept_ite h7 (raise_pinsKept h7)

theorem bootHalt_pinsKept {s : State} {latch : Fld} (h : s.pinsKept) (hl : latch.addr ≠ 0x20100) : (s.bootHalt latch).pinsKept :=
  drivePins_pinsKept (pinsKept_of (setBoot_pinView ..) (fsetb_pinsKept (pinsKept_of (dieDReset_pinView s) h) hl))

theorem bootSlot_pinsKept {s : State} {ok : Bool} (h : s.pinsKept) : (s.bootSlot ok).pinsKept := by
  rw [State.bootSlot]
  refine pinsKept_ite ?_ (pinsKept_ite ?_ (pinsKept_ite ?_ (bootHalt_pinsKept h (fieldBeside rfl))))
  · exact pinsKept_of (bootRead_pinView ..) (pinsKept_of (showFw_pinView s) h)
  · exact pinsKept_of (bootRead_pinView ..) (pinsKept_of (setBoot_pinView ..) (pinsKept_of (writeDir_pinView ..) h))
  · exact pinsKept_of (bootRead_pinView ..) (pinsKept_of (setBoot_pinView ..) h)

theorem spbReloadRead_pinsKept {s : State} {ok : Bool} (h : s.pinsKept) : (State.spbReloadRead s ok).pinsKept := by
  rw [State.spbReloadRead]
  exact pinsKept_ite h (pinsKept_ite (pinsKept_of (startReload_pinView ..) (pinsKept_of (goSlow_pinView ..) h)) (loadSpb_pinsKept h))

theorem xFlashReadComplete_pinsKept {ok : Bool} {s : State} (h : s.pinsKept) : (xFlashReadComplete ok s).pinsKept := by
  rw [xFlashReadComplete]
  refine pinsKept_ite ?_ ?_
  · exact spbReloadRead_pinsKept h
  · split
    · exact h
    · exact h
    · refine pinsKept_ite ?_ ?_
      · exact pinsKept_of (bootRead_pinView ..) (pinsKept_of (goSlow_pinView ..) h)
      · split
        · exact pinsKept_of (bootDir_pinView ..) h
        · exact bootSlot_pinsKept h
        · refine pinsKept_ite ?_ ?_
          · exact pinsKept_of (setBoot_pinView ..) (pinsKept_of (setBoot_pinView ..) (loadSpb_pinsKept h))
          · exact pinsKept_of (bootRead_pinView ..) (pinsKept_of (setBoot_pinView ..) (loadSpb_pinsKept h))
        · refine pinsKept_ite ?_ (pinsKept_of (bootRead_pinView ..) h)
          exact pinsKept_of (setBoot_pinView ..) (fset_pinsKept (pinsKept_of (applySubsystem_pinView ..) (pinsKept_of (applyBoard_pinView ..) h))
            (fieldBeside rfl))

/-! ### Supply -/

theorem domainsUp_pinsKept {s : State} (h : s.pinsKept) : (State.domainsUp s).pinsKept := by
  rw [State.domainsUp]
  exact pinsKept_of (tlaToFull_pinView ..) (powerUp_pinsKept (pinsKept_of (setBoot_pinView ..) h))

theorem limpBoot_pinsKept {s : State} {cause : Nat} (h : s.pinsKept) : (State.limpBoot s cause).pinsKept := by
  rw [State.limpBoot]
  exact pinsKept_of (bootDomains_pinView ..) (powerUp_pinsKept (pinsKept_of (tlaToLimp_pinView ..) (pinsKept_of (setBoot_pinView ..) h)))

theorem railsUpDone_pinsKept {s : State} (h : s.pinsKept) : (State.railsUpDone s).pinsKept := by
  rw [State.railsUpDone]
  refine pinsKept_ite ?_ ?_
  · exact pinsKept_of (setSup_pinView ..) h
  · split
    · exact pinsKept_of (bootDomains_pinView ..) (domainsUp_pinsKept (pinsKept_of (setSup_pinView ..) (pinsKept_of (setSup_pinView ..) h)))
    · exact pinsKept_of (bootDomains_pinView ..) (domainsUp_pinsKept (pinsKept_of (setSup_pinView ..) (pinsKept_of (setSup_pinView ..) h)))
    · exact pinsKept_of (bootDomains_pinView ..) (domainsUp_pinsKept (pinsKept_of (setSup_pinView ..) h))
    · exact pinsKept_of (bootDomains_pinView ..) (domainsUp_pinsKept (pinsKept_of (setSup_pinView ..) h))
    · exact pinsKept_of (setSup_pinView ..) h

theorem railUpFrom_pinsKept {s : State} {r : Nat} (h : s.pinsKept) : (State.railUpFrom s r).pinsKept := by
  rw [State.railUpFrom]
  split
  · exact pinsKept_of (railStart_pinView ..) h
  · exact railsUpDone_pinsKept h

theorem railsUp_pinsKept {s : State} {why : RailPurpose} (h : s.pinsKept) : (State.railsUp s why).pinsKept := by
  rw [State.railsUp]
  exact railUpFrom_pinsKept (pinsKept_of (setSup_pinView ..) h)

theorem railNextUp_pinsKept {s : State} (h : s.pinsKept) : (State.railNextUp s).pinsKept := by
  rw [State.railNextUp]
  exact pinsKept_ite (pinsKept_of (setSup_pinView ..) h) (railUpFrom_pinsKept h)

theorem limpUnpowered_pinsKept {s : State} (h : s.pinsKept) : (State.limpUnpowered s).pinsKept := by
  rw [State.limpUnpowered]
  refine pinsKept_ite ?_ ?_
  · exact pinsKept_of (railsDown_pinView ..) (fsetb_pinsKept h (fieldBeside rfl))
  · exact limpBoot_pinsKept (pinsKept_of (railsDown_pinView ..) (fsetb_pinsKept h (fieldBeside rfl)))

theorem railDead_pinsKept {s : State} {r : Nat} (h : s.pinsKept) : (State.railDead s r).pinsKept := by
  rw [State.railDead]
  refine pinsKept_ite ?_ ?_
  · exact raise_pinsKept (pinsKept_of (setSup_pinView ..) (pinsKept_of (railEn_pinView ..) (fsetb_pinsKept h (railBeside rfl rfl))))
  · exact limpUnpowered_pinsKept (pinsKept_of (setSup_pinView ..) (pinsKept_of (railEn_pinView ..) (fsetb_pinsKept h (railBeside rfl rfl))))

theorem railFail_pinsKept {s : State} {r : Nat} (h : s.pinsKept) : (State.railFail s r).pinsKept := by
  rw [State.railFail]
  refine pinsKept_ite ?_ ?_
  · exact pinsKept_of (railEn_pinView ..) (pinsKept_of (setSup_pinView ..) (fadd_pinsKept h (railBeside rfl rfl)))
  · exact railDead_pinsKept (fadd_pinsKept h (railBeside rfl rfl))

theorem xRailPowerGoodChange_pinsKept {r : Nat} {high : Bool} {s : State} (h : s.pinsKept) : (xRailPowerGoodChange r high s).pinsKept := by
  unfold xRailPowerGoodChange
  extract_lets _ s1
  have h1 : s1.pinsKept := fsetb_pinsKept h (railBeside rfl rfl)
  refine pinsKept_ite ?_ ?_
  · exact pinsKept_ite (railNextUp_pinsKept h1) h1
  · refine pinsKept_ite h1 ?_
    exact pinsKept_ite (pinsKept_of (railNextDown_pinView ..) h1) (pinsKept_ite (railDead_pinsKept (fadd_pinsKept h1 (railBeside rfl rfl))) h1)

theorem xRailPgTimeout_pinsKept {r : Nat} {s : State} (h : s.pinsKept) : (xRailPgTimeout r s).pinsKept := by
  rw [xRailPgTimeout]
  exact pinsKept_ite h (pinsKept_ite (pinsKept_ite (railNextUp_pinsKept h) (railFail_pinsKept h)) (pinsKept_ite (pinsKept_of (railNextDown_pinView ..) h) h))

theorem xRailRecoveryRetry_pinsKept {s : State} (h : s.pinsKept) : (xRailRecoveryRetry s).pinsKept := by
  rw [xRailRecoveryRetry]
  exact pinsKept_ite (railsUp_pinsKept (pinsKept_of (setSup_pinView ..) h)) h

theorem railJobDone_pinsKept {s : State} {r : Nat} {last ok : Bool} {j : PmbusJob} (h : s.pinsKept) : (State.railJobDone s r last ok j).pinsKept := by
  rw [State.railJobDone]
  refine pinsKept_ite h ?_
  refine pinsKept_ite ?_ ?_
  · refine pinsKept_ite ?_ (pinsKept_of (setSup_pinView ..) h)
    exact pinsKept_of (railEn_pinView ..) (pinsKept_of (setSup_pinView ..) (pinsKept_of (setSup_pinView ..) h))
  · exact pinsKept_ite (pinsKept_of (setSup_pinView ..) h) (railFail_pinsKept (pinsKept_of (setSup_pinView ..) h))

theorem xMainOkFall_pinsStayLow {mainMv bkupMv : Nat} {s : State} (h : s.pinsKept) : (xMainOkFall mainMv bkupMv s).pinsStayLow := by
  unfold xMainOkFall
  extract_lets s1 s2
  have h1 : s1.pinsKept := fsetb_pinsKept h (fieldBeside rfl)
  have h2 : s2.pinsKept := pinsKept_ite (fadd_pinsKept (fsetb_pinsKept h1 (fieldBeside rfl)) (fieldBeside rfl)) (fsetb_pinsKept h1 (fieldBeside rfl))
  exact pinsStayLow_ite h.stayLow (pinsStayLow_ite (pinsKept_of (shedNow_pinView _) h2).stayLow
    (pinsStayLow_ite (pinsKept_of (pinView_aon ..) h2).stayLow (recheckExit_pinsStayLow (fsetb_pinsKept h2 (fieldBeside rfl)))))

theorem xRideThroughExpiry_pinsKept {s : State} (h : s.pinsKept) : (xRideThroughExpiry s).pinsKept := by
  unfold xRideThroughExpiry
  extract_lets s1 s2
  have h1 : s1.pinsKept := fsetb_pinsKept (fsetb_pinsKept h (fieldBeside rfl)) (fieldBeside rfl)
  have h2 : s2.pinsKept := fadd_pinsKept h1 (fieldBeside rfl)
  exact pinsKept_ite (pinsKept_ite (raise_pinsKept h2) (pinsKept_ite h2 (limpUnpowered_pinsKept h2))) h

theorem xReturnTimerExpiry_pinsKept {s : State} (h : s.pinsKept) : (xReturnTimerExpiry s).pinsKept := by
  rw [xReturnTimerExpiry]
  exact pinsKept_ite (railsUp_pinsKept (pinsKept_of (setSup_pinView ..) h)) h

theorem xSupplyCollapse_pinsKept {s : State} (h : s.pinsKept) : (xSupplyCollapse s).pinsKept := by
  rw [xSupplyCollapse]
  exact raise_pinsKept (fsetb_pinsKept (pinsKept_of (setSup_pinView ..) (pinsKept_of (pinView_aon ..) h)) (fieldBeside rfl))

theorem domReqBit_pinsKept {f : Fld} {d : Nat} {want : Bool} {s : State} (h : s.pinsKept) (hf : f.addr ≠ 0x20100) : (domReqBit f d want s).pinsKept := by
  have h1 : (s.fsetb f want).pinsKept := fsetb_pinsKept h hf
  rw [domReqBit]
  exact pinsKept_ite (pinsKept_ite (domainOn_pinsKept h1) h1) (pinsKept_ite (pinsKept_ite h1
    (pinsKept_ite (fsetb_pinsKept h1 (fieldBeside rfl)) (pinsKept_of (domainOff_pinView ..) h1))) (domainOn_pinsKept h1))

theorem xDomainOffRequest_pinsKept {value : Nat} {s : State} (h : s.pinsKept) : (xDomainOffRequest value s).pinsKept :=
  domReqBit_pinsKept (domReqBit_pinsKept (domReqBit_pinsKept h (fieldBeside rfl)) (fieldBeside rfl)) (fieldBeside rfl)

/-! ### Surfaces -/

theorem laneFault_pinsKept {s : State} {p detail : Nat} (h : s.pinsKept) : (State.laneFault s p detail).pinsKept := by
  rw [State.laneFault]
  exact pinsKept_ite (raise_pinsKept (pinsKept_of (pinView_parts ..) h)) h

theorem refOver_pinsKept {s : State} (h : s.pinsKept) : (State.refOver s).pinsKept := by
  rw [State.refOver]
  exact pinsKept_ite (clearFault_pinsKept h) h

theorem laneFaultOver_pinsKept {s : State} {u : Nat} (h : s.pinsKept) : (State.laneFaultOver s u).pinsKept := by
  rw [State.laneFaultOver]
  exact refOver_pinsKept (pinsKept_ite (clearFault_pinsKept (pinsKept_of (pinView_parts ..) h)) (pinsKept_of (pinView_parts ..) h))

theorem alertPin_pinsKept {s : State} {p : Nat} {low : Bool} (h : s.pinsKept) : (State.alertPin s p low).pinsKept := by
  rw [State.alertPin]
  refine pinsKept_ite h ?_
  refine pinsKept_ite ?_ ?_
  · exact clearFault_pinsKept (pinsKept_ite (fsetb_pinsKept (pinsKept_of (pinView_parts ..) h) (arrayBeside rfl rfl)) (pinsKept_of (pinView_parts ..) h))
  · exact pinsKept_ite (fsetb_pinsKept (pinsKept_of (pinView_parts ..) h) (arrayBeside rfl rfl)) (pinsKept_of (pinView_parts ..) h)

theorem endPrbsFor_pinsKept {p : Nat} {s : State} (h : s.pinsKept) : (endPrbsFor p s).pinsKept := by
  rw [endPrbsFor]
  exact endPrbs_pinsKept (pinsKept_of (setPort_pinView ..) h)

theorem startSurface_pinsKept {s : State} {n : Nat} (h : s.pinsKept) : (State.startSurface s n).pinsKept := by
  unfold State.startSurface
  extract_lets _ _ _ _ s1 s2 _ s3 _ s4 s5 s6
  have h1 : s1.pinsKept := pinsKept_of (setGen_pinView ..) h
  have h2 : s2.pinsKept := fset_pinsKept (fsetb_pinsKept h1 (arrayBeside rfl rfl)) (arrayBeside rfl rfl)
  have h3 : s3.pinsKept :=
    overList_pinsKept (fun _ _ ht => endPrbsFor_pinsKept ht) _ (overList_pinsKept (fun _ _ ht => pinsKept_of (clearRefused_pinView ..) ht) _ h2)
  have h4 : s4.pinsKept := overAll_pinsKept (fun _ _ ht => pinsKept_of (activateRegion_pinView ..) ht) _ h3
  have h5 : s5.pinsKept := pinsKept_of (spillStart_pinView ..) h4
  have h6 : s6.pinsKept := overList_pinsKept (fun _ _ ht => pinsKept_of (zoneStep_pinView ..) ht) _ h5
  exact pinsKept_of (timingAll_pinView ..) h6

theorem askStart_pinsKept {s : State} {n : Nat} (h : s.pinsKept) : (State.askStart s n).pinsKept := by
  rw [State.askStart]
  refine pinsKept_ite h ?_
  refine pinsKept_ite ?_ ?_
  · exact fsetb_pinsKept (pinsKept_of (setGen_pinView ..) h) (arrayBeside rfl rfl)
  · exact pinsKept_ite h (pinsKept_ite (startSurface_pinsKept h) (fset_pinsKept h (arrayBeside rfl rfl)))

theorem endRun_pinsKept {s : State} {n : Nat} (h : s.pinsKept) : (State.endRun s n).pinsKept := by
  rw [State.endRun]
  refine pinsKept_ite ?_ ?_
  · exact clearFault_pinsKept (pinsKept_of (setSpill_pinView ..) (fset_pinsKept h (arrayBeside rfl rfl)))
  · exact pinsKept_of (setSpill_pinView ..) (fset_pinsKept h (arrayBeside rfl rfl))

theorem surfDisabled_pinsKept {s : State} {n : Nat} (h : s.pinsKept) : (State.surfDisabled s n).pinsKept := by
  unfold State.surfDisabled
  extract_lets s1 s2 s3 s4 s5
  have h1 : s1.pinsKept := pinsKept_of (effectDue_pinView ..) (pinsKept_of (setGen_pinView ..) h)
  have h2 : s2.pinsKept := fsetb_pinsKept (fsetb_pinsKept h1 (arrayBeside rfl rfl)) (arrayBeside rfl rfl)
  have h3 : s3.pinsKept := endRun_pinsKept (fsetb_pinsKept h2 (arrayBeside rfl rfl))
  have h4 : s4.pinsKept := pinsKept_of (surfGone_pinView ..) (fsetb_pinsKept h3 (arrayBeside rfl rfl))
  have h5 : s5.pinsKept := pinsKept_of (dropWait_pinView ..) h4
  exact pinsKept_ite (fset_pinsKept h5 (fieldBeside rfl)) h5

theorem askStop_pinsKept {s : State} {n : Nat} (h : s.pinsKept) : (State.askStop s n).pinsKept := by
  rw [State.askStop]
  refine pinsKept_ite h ?_
  refine pinsKept_ite ?_ ?_
  · exact pinsKept_of (cancelRetime_pinView ..) (fsetb_pinsKept (pinsKept_of (setGen_pinView ..) h) (arrayBeside rfl rfl))
  · exact pinsKept_ite (surfDisabled_pinsKept (pinsKept_of (cancelRetime_pinView ..) h)) h

/-! ### Modes -/

theorem beginMode_pinsKept {s : State} {dst cause : Nat} {cmd : Option (Nat × Nat)} (h : s.pinsKept) : (s.beginMode dst cause cmd).pinsKept :=
  pinsKept_of (idleStop_pinView ..) (pinsKept_of (setMode_pinView ..) (busy_pinsKept (pinsKept_of (target_pinView s dst) h)))

theorem enterSentinel_pinsKept {s : State} {cause : Nat} (h : s.pinsKept) : (s.enterSentinel cause).pinsKept := by
  rw [State.enterSentinel]
  exact pinsKept_of (railsDown_pinView ..) (pinsKept_of (powerDown_pinView ..) (pinsKept_of (pinView_aon ..) (pinsKept_of (discRestart_pinView _)
    (pinsKept_of (sleepRecord_pinView _) (pinsKept_of (modeEvent_pinView ..) (pinsKept_of (setMode_pinView ..) (beginMode_pinsKept h)))))))

theorem beginWake_pinsKept {s : State} {dst cause : Nat} (h : s.pinsKept) : (State.beginWake s dst cause).pinsKept := by
  rw [State.beginWake]
  exact railsUp_pinsKept (beginMode_pinsKept h)

theorem enterPark_pinsKept {s : State} {cause : Nat} (h : s.pinsKept) : (State.enterPark s cause).pinsKept := by
  unfold State.enterPark
  extract_lets _ _ _ _ s1 _ _ s2 _ s3 s4 s5
  have h1 : s1.pinsKept := beginMode_pinsKept h
  have h2 : s2.pinsKept := pinsKept_of (pinView_parts ..) h1
  have h3 : s3.pinsKept := pinsKept_of (setMode_pinView ..) h2
  have h4 : s4.pinsKept := pinsKept_of (sleepRecord_pinView ..) (pinsKept_of (modeEvent_pinView ..) h3)
  have h5 : s5.pinsKept := overList_pinsKept (fun _ _ ht => askStop_pinsKept ht) _ h4
  exact pinsKept_ite (pinsKept_of (parkServe_pinView ..) h5) h5

theorem parkExit_pinsKept {s : State} (h : s.pinsKept) : (State.parkExit s).pinsKept := by
  unfold State.parkExit
  extract_lets s1 s2 s3 s4 s5 s6 _
  have h1 : s1.pinsKept := fsetb_pinsKept h (fieldBeside rfl)
  have h2 : s2.pinsKept := fsetb_pinsKept (fsetb_pinsKept (pinsKept_of (domSet_pinView ..) h1) (fieldBeside rfl)) (fieldBeside rfl)
  have h3 : s3.pinsKept :=
    overAll_pinsKept (fun _ _ ht => pinsKept_of (showMaps_pinView ..) ht) _ (pinsKept_of (tlaToFull_pinView ..) (powerUp_pinsKept h2))
  have h4 : s4.pinsKept := pinsKept_of (clockRestore_pinView ..) (pinsKept_of (parkRestore_pinView ..) h3)
  have h5 : s5.pinsKept := overList_pinsKept (fun _ _ ht => askStart_pinsKept ht) _ h4
  have h6 : s6.pinsKept := foldl_pinsKept (fun _ _ ht => pinsKept_of (setPx_pinView ..) ht) _ h5
  exact pinsKept_of (setMode_pinView ..) (pinsKept_of (pinView_parts ..) h6)

theorem unpark_pinsKept {s : State} (h : s.pinsKept) : (State.unpark s).pinsKept := by
  rw [State.unpark]
  exact pinsKept_ite (parkExit_pinsKept h) h

theorem leavePark_pinsKept {s : State} {dst cause : Nat} (h : s.pinsKept) : (State.leavePark s dst cause).pinsKept := by
  rw [State.leavePark]
  exact unpark_pinsKept (railsUp_pinsKept (pinsKept_of (setMode_pinView ..) (beginMode_pinsKept h)))

theorem leaveLimp_pinsKept {s : State} {dst : Nat} {cmd : Option (Nat × Nat)} (h : s.pinsKept) : (State.leaveLimp s dst cmd).pinsKept := by
  rw [State.leaveLimp]
  exact pinsKept_of (setMode_pinView ..) (beginMode_pinsKept h)

/-- A wake-up rule may end SENTINEL, but not while RESET_N is low: then it only names what follows. -/
theorem tarnAct_pinsStayLow {s : State} {act n : Nat} (h : s.pinsStayLow) : (s.tarnAct act n).pinsStayLow := by
  rw [State.tarnAct]
  by_cases hm : s.modeNow = 0
  · rw [if_pos hm]
    by_cases hh : s.aon.resetHeld = true
    · rw [if_pos hh]
      exact pinsStayLow_of (setMode_pinView ..) h
    · rw [if_neg hh]
      exact (beginWake_pinsKept (pinsKept_of_released (Bool.eq_false_iff.2 hh))).stayLow
  · rw [if_neg hm]
    have hk := h.kept (inSentinel_of_mode hm)
    exact (pinsKept_ite (enterLimp_pinsKept hk) (pinsKept_ite (leavePark_pinsKept hk) (beginMode_pinsKept hk))).stayLow

theorem replayFault_samePins (s : State) : SamePins s s.replayFault := by
  rw [State.replayFault]
  split
  · exact .refl s
  · exact SamePins.trans (.view (.view (.refl s) (setMode_pinView ..)) (pinView_parts ..)) (takeLimp_samePins ..)

theorem replayRule_pinsStayLow {s : State} (h : s.pinsStayLow) : s.replayRule.pinsStayLow := by
  rw [State.replayRule]
  split
  · exact h
  split
  · exact h
  · have hw : ∀ (t : State) (f : Fld) (v : Nat), f.addr ≠ 0x20100 → t.pinsStayLow → (t.fset f v).pinsStayLow :=
      fun t f v hf => pinsStayLow_of (fset_pinView t f v hf)
    have hc := hw _ R.PWR_WAKE_LATCH_ACTION 0 (fieldBeside rfl) (hw _ R.PWR_WAKE_LATCH_RULES 0 (fieldBeside rfl)
      (pinsStayLow_of (setMode_pinView s fun m => { m with latchedRule := none }) h))
    exact pinsStayLow_ite (tarnAct_pinsStayLow (hw _ _ _ (fieldBeside rfl) hc)) (hw _ _ _ (fieldBeside rfl) hc)

theorem leaveService_pinsKept {s : State} (h : s.pinsKept) : s.leaveService.pinsKept :=
  pinsKept_ite (pinsKept_of (setMode_pinView ..) (beginMode_pinsKept h)) h

theorem leaveService_pinsStayLow {s : State} (h : s.pinsStayLow) : s.leaveService.pinsStayLow := by
  rw [State.leaveService]
  split
  · rename_i h5
    have hm : s.modeNow ≠ 0 := by
      simp only [Bool.and_eq_true, decide_eq_true_eq] at h5
      omega
    exact (pinsKept_of (setMode_pinView ..) (beginMode_pinsKept (h.kept (inSentinel_of_mode hm)))).stayLow
  · exact h

theorem SamePins.stillLow {s t : State} (h : SamePins s t) (hs : s.pinsKept) (hh : t.aon.resetHeld = true) : t.aon.faultPins = true := by
  rw [h.held] at hh
  rw [h.low]
  exact (hs hh).1

/-- What follows a transition: neither a LIMP entry held back nor the level of the pins before it is lost. -/
theorem replay_pinsStayLow {s : State} (h : s.aon.resetHeld = true → s.aon.faultPins = true) : s.replay.pinsStayLow := by
  refine leaveService_pinsStayLow (replayRule_pinsStayLow fun hh _ => ?_)
  rw [(replayFault_samePins s).held] at hh
  rw [(replayFault_samePins s).low]
  exact h hh

theorem bootDone_pinsKept {s : State} {p : PostResult} {more : List (Nat × Nat × Nat)} (h : s.pinsKept) : (State.bootDone s p more).pinsKept := by
  unfold State.bootDone
  extract_lets s1 s2 _ s3 s4 s5
  have h1 : s1.pinsKept := pinsKept_of (trialPassed_pinView ..) (pinsKept_of (postShow_pinView ..) h)
  have h2 : s2.pinsKept := raiseAll_pinsKept h1
  have h3 : s3.pinsKept := pinsKept_of (pinView_parts ..) h2
  have h4 : s4.pinsKept := pinsKept_ite (pinsKept_of (setSup_pinView ..) h3) h3
  have h5 : s5.pinsKept := fsetb_pinsKept (pinsKept_of (bootReport_pinView ..) (pinsKept_of (setBoot_pinView ..) h4)) (fieldBeside rfl)
  exact drivePins_pinsKept (clearFault_pinsKept h5)

theorem wakeDone_pinsKept {s : State} {p : PostResult} (h : s.pinsKept) : (State.wakeDone s p).pinsKept := by
  rw [State.wakeDone]
  exact bootDone_pinsKept (pinsKept_of (pinView_aon ..) (pinsKept_of (discRestart_pinView ..) (pinsKept_of (clockRestore_pinView ..) h)))

theorem finishMode_pinsKept {s : State} {p : PostResult} {t : ModeTrans} (h : s.pinsKept) : (State.finishMode s p t).pinsKept := by
  unfold State.finishMode
  extract_lets s1 _
  have h1 : s1.pinsKept := fsetb_pinsKept (pinsKept_of (setMode_pinView ..) h) (fieldBeside rfl)
  refine pinsKept_ite ?_ ?_
  · exact pinsKept_ite h1 (pinsKept_of (releaseHostWake_pinView ..) h1)
  · refine pinsKept_ite (pinsKept_of (parkFinish_pinView ..) h) ?_
    refine pinsKept_ite (wakeDone_pinsKept h) ?_
    refine pinsKept_ite h ?_
    refine pinsKept_ite ?_ (pinsKept_ite (endLimp_pinsKept h) h)
    exact pinsKept_of (showSafe_pinView ..) (overAll_pinsKept (fun _ _ ht => pinsKept_of (scaleOwed_pinView ..) ht) _ (pinsKept_of (pinView_parts ..) h))

theorem modeEntered {s : State} (dst cause : Nat) (f : ModeSt → ModeSt) :
    ((((s.fset R.PWR_MODE_MODE dst).fset R.PWR_MODE_CAUSE cause).fsetb R.PWR_MODE_BUSY false).setMode f).modeNow = dst % 2 ^ 3 := by
  rw [State.modeNow, State.setMode_fget, State.fsetb, fget_fset_apart _ _ _ _ (by decide) (by decide) (by decide),
    fget_fset_apart _ _ _ _ (by decide) (by decide) (by decide), fget_fset_same _ _ _ (by decide)]
  rfl

theorem xModeTransitionComplete_pinsStayLow {s : State} {p : PostResult} (h : s.pinsKept) : (xModeTransitionComplete p s).pinsStayLow := by
  rw [xModeTransitionComplete]
  split
  · exact h.stayLow
  rename_i t _
  extract_lets evented s1 s2 s3 s4 s5 s6 s7
  refine pinsStayLow_ite h.stayLow (pinsStayLow_ite h.stayLow (pinsStayLow_ite h.stayLow (pinsStayLow_ite h.stayLow
    (pinsStayLow_ite (bootHalt_pinsKept h (fieldBeside rfl)).stayLow (replay_pinsStayLow ?_)))))
  have h1 : s1.pinsKept := finishMode_pinsKept h
  have h3 : SamePins s1 s3 := .view (.fset (.fset (.fset (.refl s1)))) (setMode_pinView ..)
  have h4 : SamePins s1 s4 := .ite h3 (h3.view (modeEvent_pinView ..))
  have h5 : s5.aon.resetHeld = true → s5.aon.faultPins = true := by
    unfold s5
    split
    · have h4' : SamePins s1 ((s4.limpForm .store).safeEvent 0 0) := .view (.view h4 (limpForm_pinView ..)) (safeEvent_pinView ..)
      exact h4'.stillLow h1
    split
    · rename_i h2
      have hm : s4.modeNow = 2 := by
        have hs : s3.modeNow = 2 := (modeEntered _ _ _).trans (by rw [h2]; rfl)
        unfold s4
        split
        · exact hs
        · exact ((modeEvent_io _ _ _ s3).fget R.PWR_MODE_MODE (by decide)).trans hs
      exact fun hh => (clearFault_pinsKept (pinsKept_of_awake h1 h4 (inSentinel_of_mode (by rw [hm]; decide))) hh).1
    · exact h4.stillLow h1
  have h6 : s6.pinView = s5.pinView := by
    unfold s6
    split
    · rfl
    · exact completeSlot_pinView ..
  have h7 : SamePins s5 s7 := (SamePins.view (.view (.refl s5) h6) (effectDue_pinView ..)).view (idleRestart_pinView _)
  intro hh
  rw [h7.held] at hh
  rw [h7.low]
  exact h5 hh

theorem xIdleTimerExpiry_pinsKept {s : State} (h : s.pinsKept) : (xIdleTimerExpiry s).pinsKept := by
  rw [xIdleTimerExpiry]
  exact pinsKept_ite (enterSentinel_pinsKept h) h

theorem xLreqOffExpiry_pinsKept {s : State} (h : s.pinsKept) : (xLreqOffExpiry s).pinsKept := by
  rw [xLreqOffExpiry]
  exact pinsKept_ite (beginMode_pinsKept h) h

theorem xNosurfCheck_pinsKept {s : State} (h : s.pinsKept) : (xNosurfCheck s).pinsKept := by
  rw [xNosurfCheck]
  exact pinsKept_ite h (pinsKept_ite (raise_pinsKept (pinsKept_of (setMode_pinView ..) h)) (pinsKept_of (setMode_pinView ..) h))

theorem lightLevel_pinsKept {s : State} (h : s.pinsKept) : (State.lightLevel s).pinsKept := by
  rw [State.lightLevel]
  exact pinsKept_ite (pinsKept_ite (beginMode_pinsKept h) (pinsKept_ite (leavePark_pinsKept h) h)) h

theorem runRules_pinsStayLow {s : State} (h : s.pinsStayLow) : s.runRules.pinsStayLow := by
  have ha : ∀ conds, ((overList ruleFires (s.firing s.mode.tarn) s).setMode fun m => { m with ruleWas := conds }).pinsStayLow := fun conds =>
    pinsStayLow_of ((setMode_pinView ..).trans (overList_pinView ruleFires_pinView _ s)) h
  rw [State.runRules]
  split
  · exact pinsStayLow_of (latchAction_pinView ..) (ha _)
  split
  · exact ha _
  · exact tarnAct_pinsStayLow (ha _)

theorem tarnSafety_pinsStayLow {s : State} {t : TarnInputs} (h : s.pinsStayLow) : (s.tarnSafety t).pinsStayLow := by
  have hd : ∀ (u : State), u.pinsStayLow → (u.fsetb R.PWR_SUPPLY_STATUS_MAIN_LOST true).pinsStayLow := fun u =>
    pinsStayLow_of (fsetb_pinView u _ _ (fieldBeside rfl))
  rw [State.tarnSafety]
  have hu := fun disc low => drivePins_pinsStayLow (s := { s with aon := { s.aon with tarnDisc := disc, mainLowMs := low } }) (pinsStayLow_of
    (pinView_aon ..) h)
  exact pinsStayLow_ite (pinsStayLow_ite (hd _ (hu _ _)) (hu _ _)) h

/-- Bits cleared in a register leave a field of zero at zero. -/
theorem fget_masked_zero {s : State} {f : Fld} {a : Nat} {x : Word} (h : s.fget f = 0) : (s.wr a (s.rd a &&& x)).fget f = 0 := by
  unfold State.fget at h ⊢
  by_cases ha : f.addr = a
  · rw [← ha, rd_wr_same, wordField_zero_iff]
    intro i hl hu
    rw [BitVec.toNat_and, Nat.testBit_and, (wordField_zero_iff _ _ _).1 h i hl hu, Bool.false_and]
  · rwa [rd_wr_other _ _ _ _ ha]

theorem clrPending_pinsStayLow {e : Nat × Nat} {s : State} (h : s.pinsStayLow) : (clrPending e s).pinsStayLow := by
  have hw : (s.wr e.1 (s.rd e.1 &&& ~~~ (BitVec.ofNat 32 e.2))).pinsStayLow := by
    refine fun hh hm => h hh (Bool.eq_false_iff.2 fun ha => Bool.eq_false_iff.1 hm ?_)
    unfold State.inSentinel State.modeNow State.fbit at ha ⊢
    rw [Bool.and_eq_true, beq_iff_eq, Bool.not_eq_true', bne_eq_false_iff_eq] at ha ⊢
    exact ⟨fget_masked_zero ha.1, fget_masked_zero ha.2⟩
  exact pinsStayLow_ite (pinsStayLow_of (releaseHostWake_pinView _) hw) hw

theorem takeTarn_pinsStayLow {s : State} (h : s.pinsStayLow) : s.takeTarn.pinsStayLow := by
  have hc : (s.mode.pendClr.foldl (fun s e => clrPending e s) s).pinsStayLow :=
    foldl_rel (R := fun s t => s.pinsStayLow → t.pinsStayLow) (fun _ h => h) (fun h k hs => k (h hs)) _ _ (fun _ _ _ => clrPending_pinsStayLow) s h
  refine pinsStayLow_of ?_ hc
  rw [State.takeTarn]
  simp (disch := exact fieldBeside rfl) only [↓pinView_ite, ↓idleRestart_pinView, ↓setMode_pinView, ↓fset_pinView,
    ↓foldl_pinView fun s f => takeForce_pinView s f, ite_self]

theorem xTarnSample_pinsStayLow {s : State} {t : TarnInputs} (h : s.pinsKept) : (xTarnSample t s).pinsStayLow := by
  unfold xTarnSample
  extract_lets u fs fs' cmp v w x y z
  have hz : z.pinView = u.pinView := by
    simp (disch := exact fieldBeside rfl) only [z, y, x, w, v, ↓pinView_ite, ↓fseti_pinView, ↓fset_pinView, ↓setMode_pinView, ite_self]
  have hu : u.pinsStayLow := takeTarn_pinsStayLow h.stayLow
  refine pinsStayLow_ite h.stayLow ?_
  exact runRules_pinsStayLow (replayRule_pinsStayLow (pinsStayLow_of (tarnSeconds_pinView _) (tarnSafety_pinsStayLow (pinsStayLow_of hz hu))))

/-! ### The inputs of SAFE -/

theorem safeDisc_pinsKept {s : State} {blank a b : Bool} (h : s.pinsKept) : (s.safeDisc blank a b).pinsKept := by
  have hf : (if blank then R.SAFE_DISC_BLANK_CNT else R.SAFE_DISC_LREQ_CNT).addr ≠ 0x20100 := by cases blank <;> exact fieldBeside rfl
  have ht : ∀ v m n, (if blank then { (s.fset (if blank then R.SAFE_DISC_BLANK_CNT else R.SAFE_DISC_LREQ_CNT) v) with safe := m }
      else { (s.fset (if blank then R.SAFE_DISC_BLANK_CNT else R.SAFE_DISC_LREQ_CNT) v) with safe := n } : State).pinsKept := fun v m n =>
    pinsKept_ite (pinsKept_of (pinView_parts ..) (fset_pinsKept h hf)) (pinsKept_of (pinView_parts ..) (fset_pinsKept h hf))
  rw [State.safeDisc]
  exact pinsKept_ite (clearFault_pinsKept (ht _ _ _)) (ht _ _ _)

theorem xSafeSample_pinsKept {pins : Nat} {s : State} (h : s.pinsKept) : (xSafeSample pins s).pinsKept := by
  unfold xSafeSample
  extract_lets _ _ s1 s2 s3 s4 _ _ s5 s6 s7
  have h1 : s1.pinsKept := pinsKept_of (pinView_parts ..) h
  have h2 : s2.pinsKept := fset_pinsKept (fset_pinsKept h1 (fieldBeside rfl)) (fieldBeside rfl)
  have h3 : s3.pinsKept := pinsKept_ite h2 (safeDisc_pinsKept h2)
  have h4 : s4.pinsKept := safeDisc_pinsKept h3
  have h5 : s5.pinsKept := pinsKept_of (pinView_parts ..) h4
  have h6 : s6.pinsKept := fsetb_pinsKept h5 (fieldBeside rfl)
  have h7 : s7.pinsKept := pinsKept_ite (pinsKept_of (restoreBeam_pinView ..) h6) h6
  exact pinsKept_ite (pinsKept_of (pinView_parts ..) h) (lightLevel_pinsKept (pinsKept_ite (pinsKept_of (idleRestart_pinView ..) h7) h7))

theorem xDiscrepancyFault_pinsKept {blank : Bool} {s : State} (h : s.pinsKept) : (xDiscrepancyFault blank s).pinsKept := by
  rw [xDiscrepancyFault]
  refine pinsKept_ite ?_ (pinsKept_ite (raise_pinsKept h) h)
  exact pinsKept_ite (drivePins_pinsKept (pinsKept_ite (pinsKept_of (pinView_aon ..) h) (pinsKept_of (pinView_aon ..) h))) h

theorem xBlankAssert_pinsKept {b : Bool} {s : State} (h : s.pinsKept) : (xBlankAssert b s).pinsKept := by
  rw [xBlankAssert]
  refine pinsKept_ite ?_ ?_
  · exact pinsKept_of (segBlankOff_pinView ..) (pinsKept_of (pinView_parts ..) h)
  · refine pinsKept_ite (pinsKept_of (pinView_parts ..) h) ?_
    exact raise_pinsKept (totRequest_pinsKept (fset_pinsKept (pinsKept_of (pinView_parts ..) h) (fieldBeside rfl)))

theorem xBlankRelease_pinsKept {s : State} (h : s.pinsKept) : (xBlankRelease s).pinsKept := by
  rw [xBlankRelease]
  exact pinsKept_ite h (totRelease_pinsKept h)

theorem xLockstepControl_pinsKept {s : State} (h : s.pinsKept) : (xLockstepControl s).pinsKept := by
  rw [xLockstepControl]
  exact pinsKept_ite (raise_pinsKept h) h

theorem xLockstepSafety_pinsKept {s : State} (h : s.pinsKept) : (xLockstepSafety s).pinsKept := by
  rw [xLockstepSafety]
  exact raise_pinsKept h

/-! ### The health engine -/

theorem notIsolated_pinsKept {s : State} {p idx : Nat} (h : s.pinsKept) : (State.notIsolated s p idx).pinsKept := by
  rw [State.notIsolated]
  exact raise_pinsKept (pinsKept_of (holdTile_pinView ..) h)

theorem declare_pinsKept {s : State} {n : Nat} {m : Member} {av : Int} {cls : Nat} {u : Suspect} {x conf : Nat} {eon temp : Int} (h : s.pinsKept) :
    (State.declare s n m av cls u x conf eon temp).pinsKept := by
  unfold State.declare
  extract_lets _ _ _ s1 _ _ _ _ _ _ _ _ _ _ s2 s3 _ s4 s5 s6 s7 s8
  have h1 : s1.pinsKept := pinsKept_of (setHl_pinView ..) h
  have h2 : s2.pinsKept := pinsKept_of (setHl_pinView ..) h1
  have h3 : s3.pinsKept := pinsKept_of (showDefects_pinView ..) h2
  have h4 : s4.pinsKept := pinsKept_ite (pinsKept_of (setHl_pinView ..) (pinsKept_of (sendCtrl_pinView ..) h3)) h3
  have h5 : s5.pinsKept := pinsKept_of (addHistory_pinView ..) h4
  have h6 : s6.pinsKept := fadd_pinsKept (pinsKept_of (pixelFault_pinView ..) h5) (fieldBeside rfl)
  have h7 : s7.pinsKept := pinsKept_of (sendDefect_pinView ..) h6
  have h8 : s8.pinsKept := pinsKept_ite (pinsKept_of (tileHealth_pinView ..) (fsetb_pinsKept h7 (arrayBeside rfl rfl))) h7
  refine pinsKept_ite (pinsKept_of (setHl_pinView ..) h1) ?_
  exact pinsKept_ite (pinsKept_ite (notIsolated_pinsKept h8) h8) (pinsKept_ite (raise_pinsKept (pinsKept_of (holdTile_pinView ..) h8)) (raise_pinsKept h8))

theorem isolated_pinsKept {s : State} {n : Nat} {m : Member} {q : IsoReq} (h : s.pinsKept) : (s.isolated n m q).pinsKept := by
  have hd : ∀ (u : State) (i : Nat), (match (u.hl m.port).defect i with | some d => u.sendDefect n m.port 0 d | none => u).pinView = u.pinView := by
    intro u i
    split
    · exact sendDefect_pinView ..
    · rfl
  have hs : ∀ f, ((s.setHl m.port f).showDefects m.port).pinsKept := fun f => pinsKept_of (showDefects_pinView ..) (pinsKept_of (setHl_pinView ..) h)
  exact pinsKept_of (foldl_pinView hd _ _) (pinsKept_ite (hs _) (raise_pinsKept (hs _)))

theorem isolationFails_pinsKept {s : State} {p : Nat} {q : IsoReq} (h : s.pinsKept) : (State.isolationFails s p q).pinsKept := by
  rw [State.isolationFails]
  exact pinsKept_ite h (notIsolated_pinsKept h)

theorem isolationStatus_pinsKept {s : State} {p : Nat} (h : s.pinsKept) : (State.isolationStatus s p).pinsKept := by
  rw [State.isolationStatus]
  split
  · refine pinsKept_ite ?_ ?_
    · exact foldl_pinsKept (fun _ _ ht => isolationFails_pinsKept ht) _ (pinsKept_of (setHl_pinView ..) h)
    · exact pinsKept_ite (foldl_pinsKept (fun _ _ ht => isolated_pinsKept ht) _ (pinsKept_of (setHl_pinView ..) h)) h
  · exact h

theorem xIsolationTimeout_pinsKept {p : Nat} {s : State} (h : s.pinsKept) : (xIsolationTimeout p s).pinsKept := by
  rw [xIsolationTimeout]
  split
  · exact pinsKept_of (setHl_pinView ..) (isolationFails_pinsKept h)
  · exact h

theorem massCheck_pinsKept {s : State} {p px : Nat} (h : s.pinsKept) : (State.massCheck s p px).pinsKept := by
  rw [State.massCheck]
  exact pinsKept_ite (raise_pinsKept (pinsKept_of (holdTile_pinView ..) (pinsKept_of (tileHealth_pinView ..) (fsetb_pinsKept h (arrayBeside rfl rfl))))) h

theorem confirmOne_pinsKept {n : Nat} {m : Member} {temp : Int} {s : State} {c : Confirm} (h : s.pinsKept) : (State.confirmOne n m temp s c).pinsKept := by
  rw [State.confirmOne]
  exact pinsKept_ite (pinsKept_of (setHl_pinView ..) h) (massCheck_pinsKept (declare_pinsKept h))

theorem healthPacket_pinsKept {s : State} {p : Nat} {body : List Byte} (h : s.pinsKept) : (s.healthPacket p body).pinsKept := by
  unfold State.healthPacket
  split
  · exact h
  rename_i n m _
  extract_lets ch temp r age late ws s1 s2 s3 s4 s5
  have h1 : s1.pinsKept := by
    unfold s1 r
    split
    · exact pinsKept_of (countProbes_pinView ..) h
    · exact h
  have h3 : s3.pinsKept := fsetb_pinsKept (pinsKept_of (setHl_pinView ..) h1) (arrayBeside rfl rfl)
  have h4 : s4.pinsKept := pinsKept_ite h3 (clearFault_pinsKept h3)
  have h5 : s5.pinsKept := by
    unfold s5 r
    split
    · exact h4
    · exact pinsKept_of (setHl_pinView ..) (fset_pinsKept (fset_pinsKept h4 (arrayBeside rfl rfl)) (arrayBeside rfl rfl))
  have hl : ∀ (l : List Nat) (acc : State × List Confirm), acc.1.pinsKept → (l.foldl
    (fun acc w => acc.1.healthSample n m r late temp acc w) acc).1.pinsKept := by
    intro l
    induction l with
    | nil => exact fun _ ha => ha
    | cons w l ih => exact fun acc ha => ih _ (pinsKept_of (healthSample_pinView ..) ha)
  have h6 := hl ws (s5, []) h5
  split
  rename_i t cs ht
  rw [ht] at h6
  exact foldl_pinsKept (fun _ _ h => confirmOne_pinsKept h) _ (massCheck_pinsKept h6)

theorem xMassFault_pinsKept {p : Nat} {s : State} (h : s.pinsKept) : (xMassFault p s).pinsKept := by
  rw [xMassFault]
  exact massCheck_pinsKept h

theorem xHealthStall_pinsKept {p : Nat} {s : State} (h : s.pinsKept) : (xHealthStall p s).pinsKept := by
  rw [xHealthStall]
  exact pinsKept_ite (raise_pinsKept (pinsKept_of (tileHealth_pinView ..) (fsetb_pinsKept h (arrayBeside rfl rfl)))) h

theorem releasePort_pinsKept {p : Nat} {s : State} (h : s.pinsKept) : (releasePort p s).pinsKept := by
  rw [releasePort]
  refine pinsKept_ite h ?_
  exact foldl_pinsKept (fun _ _ ht => pinsKept_ite ht (clearFault_pinsKept ht)) _ (fsetb_pinsKept (fset_pinsKept (pinsKept_of (pinView_parts ..) h)
    (fieldBeside rfl)) (arrayBeside rfl rfl))

theorem xTileRelease_pinsKept {v : Nat} {s : State} (h : s.pinsKept) : (xTileRelease v s).pinsKept := by
  rw [xTileRelease]
  exact pinsKept_ite (overList_pinsKept (fun _ _ ht => releasePort_pinsKept ht) _ h) h

/-! ### Scan-out -/

theorem tilePhase_pinsKept {s : State} {n ph : Nat} {m : Member} (h : s.pinsKept) : (State.tilePhase s n ph m).pinsKept := by
  unfold State.tilePhase
  extract_lets _ _ _ _ _ _ _ _ _ _ _ s1 _ _ s2 s3
  have h1 : s1.pinsKept := pinsKept_of (setPx_pinView ..) h
  have h2 : s2.pinsKept := pinsKept_ite h1 (pinsKept_of (pinView_parts ..) h1)
  have h3 : s3.pinsKept := by
    refine pinsKept_ite ?_ h2
    refine pinsKept_ite ?_ ?_
    · exact foldl_pinsKept (fun _ _ ht => pinsKept_of (sendNow_pinView ..) ht) _ h2
    · exact pinsKept_ite h2 (pinsKept_of (linkEvent_pinView ..) (pinsKept_of (setPort_pinView ..) h2))
  exact pinsKept_ite (raise_pinsKept h3) h3

theorem aimCheck_pinsKept {s : State} {n : Nat} {g : Grid} {av ah : Int} (h : s.pinsKept) : (State.aimCheck s n g av ah).pinsKept := by
  unfold State.aimCheck
  extract_lets _
  split
  · exact h
  · refine pinsKept_ite ?_ ?_
    · refine raise_pinsKept ?_
      refine pinsKept_ite ?_ ?_
      · exact raise_pinsKept (fsetb_pinsKept (pinsKept_of (setSpill_pinView ..) h) (arrayBeside rfl rfl))
      · exact fsetb_pinsKept (pinsKept_of (setSpill_pinView ..) h) (arrayBeside rfl rfl)
    · refine pinsKept_ite ?_ ?_
      · exact raise_pinsKept (fsetb_pinsKept (pinsKept_of (setSpill_pinView ..) h) (arrayBeside rfl rfl))
      · exact fsetb_pinsKept (pinsKept_of (setSpill_pinView ..) h) (arrayBeside rfl rfl)

theorem spillExcess_pinsKept {s : State} {n : Nat} {excess : Bool} {inst : Nat} (h : s.pinsKept) : (State.spillExcess s n excess inst).pinsKept := by
  rw [State.spillExcess]
  refine pinsKept_ite ?_ (endRun_pinsKept h)
  refine pinsKept_ite ?_ ?_
  · exact raise_pinsKept (fadd_pinsKept (fadd_pinsKept h (fieldBeside rfl)) (arrayBeside rfl rfl))
  · exact fadd_pinsKept (fadd_pinsKept h (fieldBeside rfl)) (arrayBeside rfl rfl)

theorem spillAccount_pinsKept {s : State} {n : Nat} (h : s.pinsKept) : (State.spillAccount s n).pinsKept := by
  rw [State.spillAccount]
  split
  · exact h
  · exact spillExcess_pinsKept (pinsKept_of (setSpill_pinView ..) (fset_pinsKept (pinsKept_of (spillStore_pinView ..) h) (arrayBeside rfl rfl)))

theorem xExcessRunLimit_pinsKept {n : Nat} {s : State} (h : s.pinsKept) : (xExcessRunLimit n s).pinsKept := by
  rw [xExcessRunLimit]
  split
  · exact h
  · exact pinsKept_ite (raise_pinsKept (pinsKept_of (setSpill_pinView ..) h)) h

theorem scanEnd_pinsKept {s : State} {n : Nat} (h : s.pinsKept) : (State.scanEnd s n).pinsKept := by
  unfold State.scanEnd
  extract_lets _ _ _ s1 s2 s3 s4 _
  have h1 : s1.pinsKept := foldl_pinsKept (fun _ _ ht => pinsKept_ite (pinsKept_of (sendSwap_pinView ..) ht) ht) _ h
  have h2 : s2.pinsKept := foldl_pinsKept (fun _ _ ht => pinsKept_of (keepCodes_pinView ..) ht) _ h1
  have h3 : s3.pinsKept := pinsKept_of (pairCapture_pinView ..) (spillAccount_pinsKept h2)
  have h4 : s4.pinsKept := overAll_pinsKept (fun _ _ ht => pinsKept_of (emitSig_pinView ..) ht) _ h3
  exact pinsKept_ite (pinsKept_ite h4 (pinsKept_of (setTwinSurf_pinView ..) h4)) h3

theorem latchScan_pinsKept {s : State} {n : Nat} (h : s.pinsKept) : (State.latchScan s n).pinsKept := by
  unfold State.latchScan
  extract_lets _ _ _ _ _ _ s1 s2 s3 _ _ _ _ s4 _ s5 s6 s7 _ s8 s9
  have h1 : s1.pinsKept := pinsKept_of (setGen_pinView ..) (pinsKept_of (latchPicture_pinView ..) h)
  have h2 : s2.pinsKept := pinsKept_ite (pinsKept_of (takeBitDue_pinView ..) (pinsKept_of (takeBitDue_pinView ..) h1)) h
  have h3 : s3.pinsKept := pinsKept_of (latchProfile_pinView ..) h2
  have h4 : s4.pinsKept := pinsKept_of (pinView_parts ..) h3
  have h5 : s5.pinsKept := pinsKept_of (setPx_pinView ..) h4
  have h6 : s6.pinsKept := fseti_pinsKept (fseti_pinsKept h5 (arrayBeside rfl rfl)) (arrayBeside rfl rfl)
  have h7 : s7.pinsKept := aimCheck_pinsKept h6
  have h8 : s8.pinsKept := foldl_pinsKept (fun _ _ ht => pinsKept_of (setPort_pinView ..) ht) _ h7
  have h9 : s9.pinsKept := pinsKept_of (timePorts_pinView ..) h8
  exact foldl_pinsKept (fun _ _ ht => pinsKept_of (probePort_pinView ..) ht) _ h9

theorem xProductionWindowOpen_pinsKept {n ph : Nat} {s : State} (h : s.pinsKept) : (xProductionWindowOpen n ph s).pinsKept := by
  unfold xProductionWindowOpen
  refine pinsKept_ite h (pinsKept_ite h (pinsKept_ite h ?_))
  extract_lets s1 c ms s2 s3 s4 s5
  have h1 : s1.pinsKept := pinsKept_ite (latchScan_pinsKept h) h
  have h2 : s2.pinsKept := by
    unfold s2 ms
    split
    · exact pinsKept_of (evalShades_pinView ..) h1
    · exact h1
  have h3 : s3.pinsKept := pinsKept_of (setPx_pinView ..) (pinsKept_of (effectDue_pinView ..) h2)
  have h4 : s4.pinsKept := pinsKept_ite (pinsKept_of (foldl_pinView (fun s (m : Member) => dropProbe_pinView s m.port) _ _) h3) h3
  have h5 : s5.pinsKept := foldl_pinsKept (fun _ _ h => tilePhase_pinsKept h) _ h4
  exact pinsKept_ite (scanEnd_pinsKept h5) h5

/-! ### Lanes -/

theorem portActive_pinsKept {s : State} {p : Nat} {event : Bool} (h : s.pinsKept) : (s.portActive p event).pinsKept := by
  unfold State.portActive
  extract_lets s1 s2 s3 s4 s5 s6 s7 s8
  have h1 : s1.pinsKept := laneFaultOver_pinsKept (setLane_pinsKept h)
  have h2 : s2.pinsKept := pinsKept_ite (pinsKept_of (linkEvent_pinView ..) h1) h1
  have h3 : s3.pinsKept := pinsKept_of (clearMass_pinView ..) (pinsKept_of (setPort_pinView ..) h2)
  have h4 : s4.pinsKept := pinsKept_of (setHl_pinView ..) h3
  have h5 : s5.pinsKept := pinsKept_ite h4 (clearFault_pinsKept h4)
  have h6 : s6.pinsKept := by
    unfold s6
    split
    · exact pinsKept_ite (pinsKept_of (resetBase_pinView ..) h5) h5
    · exact h5
  have h7 : s7.pinsKept := pinsKept_of (totEntry_pinView ..) h6
  have h8 : s8.pinsKept := pinsKept_ite h7 (pinsKept_of (overList_pinView (fun _ s => sendEcho_pinView p s) _ _) h7)
  exact pinsKept_of (resendLimp_pinView ..) (pinsKept_of (resumeLate_pinView ..) (pinsKept_of (configTile_pinView ..) h8))

theorem portTrain_pinsKept {s : State} {p : Nat} (h : s.pinsKept) : (State.portTrain s p).pinsKept := by
  unfold State.portTrain
  extract_lets s1 s2 s3 s4
  have h1 : s1.pinsKept := pinsKept_of (setPort_pinView ..) (setLane_pinsKept h)
  have h2 : s2.pinsKept := fset_pinsKept (fset_pinsKept h1 (arrayBeside rfl rfl)) (arrayBeside rfl rfl)
  have h3 : s3.pinsKept := fsetb_pinsKept (fsetb_pinsKept h2 (arrayBeside rfl rfl)) (arrayBeside rfl rfl)
  have h4 : s4.pinsKept := fsetb_pinsKept h3 (arrayBeside rfl rfl)
  exact pinsKept_ite (pinsKept_of (seqRestart_pinView ..) h4) (pinsKept_of (startTrn_pinView ..) h4)

theorem linkWatch_pinsKept {s : State} (h : s.pinsKept) : (State.linkWatch s).pinsKept := by
  rw [State.linkWatch]
  refine pinsKept_ite ?_ ?_
  · exact h
  · split
    · exact raise_pinsKept h
    · exact h

theorem linkActive_pinsKept {s : State} {u : Nat} (h : s.pinsKept) : (State.linkActive s u).pinsKept := by
  rw [State.linkActive]
  exact linkWatch_pinsKept (laneFaultOver_pinsKept (setLane_pinsKept h))

theorem linkTrain_pinsKept {s : State} {u : Nat} (h : s.pinsKept) : (State.linkTrain s u).pinsKept := by
  rw [State.linkTrain]
  exact pinsKept_of (startTrn_pinView ..) (pinsKept_of (twinFresh_pinView ..) (fsetb_pinsKept (fsetb_pinsKept (fset_pinsKept (pinsKept_of
    (setLink_pinView ..) (setLane_pinsKept h)) (arrayBeside rfl rfl)) (arrayBeside rfl rfl)) (arrayBeside rfl rfl)))

theorem enterTrain_pinsKept {s : State} {u : Nat} (h : s.pinsKept) : (State.enterTrain s u).pinsKept := by
  rw [State.enterTrain]
  exact pinsKept_ite (portTrain_pinsKept h) (linkTrain_pinsKept h)

theorem retrainsFld_notMode (u : Nat) : (retrainsFld u).addr ≠ 0x20100 := by
  unfold retrainsFld laneFld
  split <;> exact arrayBeside rfl rfl

theorem loseActive_pinsKept {s : State} {u : Nat} (h : s.pinsKept) : (s.loseActive u).pinsKept := by
  rw [State.loseActive]
  have hr := enterRetrain_pinsKept (u := u) (pinsKept_of (unitEvent_pinView _ u 2 ((s.fadd (retrainsFld u) 1).fget (retrainsFld u)))
    (fadd_pinsKept (k := 1) h (retrainsFld_notMode u)))
  exact pinsKept_ite hr (linkWatch_pinsKept hr)

theorem portLinked_pinsKept {s : State} {p : Nat} (h : s.pinsKept) : (State.portLinked s p).pinsKept := by
  rw [State.portLinked]
  refine pinsKept_ite ?_ ?_
  · exact pinsKept_of (totEntry_pinView ..) (pinsKept_of (seqRestart_pinView ..) (setLane_pinsKept h))
  · refine pinsKept_ite (portActive_pinsKept h) ?_
    exact portActive_pinsKept (pinsKept_of (resendHeld_pinView ..) (pinsKept_of (seqRestart_pinView ..) (setLane_pinsKept h)))

theorem linkLinked_pinsKept {s : State} {u : Nat} (h : s.pinsKept) : (State.linkLinked s u).pinsKept := by
  rw [State.linkLinked]
  refine pinsKept_ite ?_ ?_
  · exact pinsKept_of (sends_pinView ..) (pinsKept_of (setLink_pinView ..) (setLane_pinsKept h))
  · exact pinsKept_ite (pinsKept_of (twinLinkEvent_pinView ..) (pinsKept_of (setLink_pinView ..) (linkActive_pinsKept h))) (linkActive_pinsKept h)

theorem tryLink_pinsKept {s : State} {u : Nat} (h : s.pinsKept) : (State.tryLink s u).pinsKept := by
  rw [State.tryLink]
  exact pinsKept_ite (pinsKept_ite (portLinked_pinsKept h) (linkLinked_pinsKept h)) h

theorem declareLock_pinsKept {s : State} {u : Nat} (h : s.pinsKept) : (State.declareLock s u).pinsKept := by
  rw [State.declareLock]
  exact tryLink_pinsKept (foldl_pinsKept (fun _ _ ht => (pinsKept_ite (pinsKept_of (sendTrn_pinView ..) (pinsKept_of (setHs_pinView ..) ht)) ht)) _ h)

theorem xReceiverLock_pinsKept {u : Nat} {rx0 rx1 : List RxSymbol} {skew : Int} {s : State} (h : s.pinsKept) : (xReceiverLock u rx0 rx1 skew s).pinsKept := by
  unfold xReceiverLock
  extract_lets _ s1 s2 _ s3
  have h1 : s1.pinsKept := pinsKept_of (takeSymbols_pinView ..) h
  have h2 : s2.pinsKept := foldl_pinsKept (fun _ _ ht => pinsKept_of (sendTrn_pinView ..) (pinsKept_of (setHs_pinView ..) ht)) _ h1
  have h3 : s3.pinsKept := pinsKept_ite h2 (pinsKept_of (measureSkew_pinView ..) h2)
  exact pinsKept_ite h (declareLock_pinsKept h3)

theorem lockLost_pinsKept {s : State} {u : Nat} {ls : List Nat} (h : s.pinsKept) : (State.lockLost s u ls).pinsKept := by
  rw [State.lockLost]
  refine pinsKept_ite ?_ ?_
  · exact enterTrain_pinsKept (pinsKept_of (dropLocks_pinView ..) h)
  · refine pinsKept_ite ?_ ?_
    · exact loseActive_pinsKept (pinsKept_of (dropLocks_pinView ..) h)
    · refine pinsKept_ite ?_ (pinsKept_of (dropLocks_pinView ..) h)
      exact foldl_pinsKept (fun _ _ ht => pinsKept_of (sendTrn_pinView ..) ht) _ (pinsKept_of (dropLocks_pinView ..) h)

theorem judgeSymbols_pinsKept {s : State} {u : Nat} {rx0 rx1 : List RxSymbol} {squelch : Nat} (h : s.pinsKept) :
    (State.judgeSymbols s u rx0 rx1 squelch).pinsKept := by
  rw [State.judgeSymbols]
  refine pinsKept_ite ?_ ?_
  · exact pinsKept_of (takeSymbols_pinView ..) (pinsKept_of (addSymErr_pinView ..) h)
  · exact lockLost_pinsKept (pinsKept_of (takeSymbols_pinView ..) (pinsKept_of (addSymErr_pinView ..) h))

theorem xLockLost_pinsKept {u : Nat} {rx0 rx1 : List RxSymbol} {squelch : Nat} {s : State} (h : s.pinsKept) : (xLockLost u rx0 rx1 squelch s).pinsKept := by
  rw [xLockLost]
  refine pinsKept_ite ?_ ?_
  · exact h
  · refine pinsKept_ite ?_ ?_
    · split
      · exact h
      · exact judgeSymbols_pinsKept (pinsKept_of (setRx_pinView ..) (fsetb_pinsKept h (arrayBeside rfl rfl)))
    · exact judgeSymbols_pinsKept h

theorem linkSwitch_pinsKept {s : State} {u : Nat} (h : s.pinsKept) : (State.linkSwitch s u).pinsKept := by
  rw [State.linkSwitch]
  refine pinsKept_ite ?_ ?_
  · exact pinsKept_of (twinLinkEvent_pinView ..) (linkActive_pinsKept h)
  · exact pinsKept_of (startTrn_pinView ..) (pinsKept_of (setLink_pinView ..) (fset_pinsKept (setLane_pinsKept h) (arrayBeside rfl rfl)))

theorem rateSet_pinsKept {s : State} {u code : Nat} (h : s.pinsKept) : (State.rateSet s u code).pinsKept := by
  rw [State.rateSet]
  exact pinsKept_ite h (pinsKept_ite (linkSwitch_pinsKept (pinsKept_of (setLink_pinView ..) h)) (pinsKept_of (setLink_pinView ..) h))

theorem takeSet_pinsKept {s : State} {u l kind code : Nat} (h : s.pinsKept) : (State.takeSet s u l kind code).pinsKept := by
  unfold State.takeSet
  extract_lets _ s1 s2
  have h1 : s1.pinsKept := pinsKept_ite h (pinsKept_of (breakTrn_pinView ..) h)
  have h2 : s2.pinsKept := pinsKept_ite (fsetb_pinsKept h1 (arrayBeside rfl rfl)) h1
  refine pinsKept_ite ?_ ?_
  · exact pinsKept_ite (loseActive_pinsKept h2) (pinsKept_ite (pinsKept_of (sendTrn_pinView ..) h2) h2)
  · refine pinsKept_ite ?_ ?_
    · exact pinsKept_ite (tryLink_pinsKept (pinsKept_of (sendTrn_pinView ..) (pinsKept_of (setHs_pinView ..) h2))) h2
    · exact pinsKept_ite (pinsKept_ite (fsetb_pinsKept h2 (arrayBeside rfl rfl)) h2) (rateSet_pinsKept h2)

theorem xOrderedSetReceived_pinsKept {u l : Nat} {k : Bool} {octet : Nat} {s : State} (h : s.pinsKept) : (xOrderedSetReceived u l k octet s).pinsKept := by
  rw [xOrderedSetReceived]
  refine pinsKept_ite ?_ ?_
  · exact h
  · refine pinsKept_ite ?_ ?_
    · exact pinsKept_of (breakTrn_pinView ..) h
    · split
      · exact takeSet_pinsKept h
      · exact pinsKept_ite (pinsKept_of (breakTrn_pinView ..) h) (judgeSymbols_pinsKept (pinsKept_of (breakTrn_pinView ..) h))

theorem enterWait_pinsKept {s : State} {p : Nat} (h : s.pinsKept) : (State.enterWait s p).pinsKept := by
  rw [State.enterWait]
  exact pinsKept_of (setPort_pinView ..) (fsetb_pinsKept (setLane_pinsKept h) (arrayBeside rfl rfl))

theorem xLaneEnable_pinsKept {p : Nat} {s : State} (h : s.pinsKept) : (xLaneEnable p s).pinsKept := by
  rw [xLaneEnable]
  exact pinsKept_ite h (enterWait_pinsKept (fsetb_pinsKept (fsetb_pinsKept h (arrayBeside rfl rfl)) (arrayBeside rfl rfl)))

theorem xLaneDisable_pinsKept {p : Nat} {s : State} (h : s.pinsKept) : (xLaneDisable p s).pinsKept := by
  unfold xLaneDisable
  extract_lets s1 s2 s3 s4
  have h1 : s1.pinsKept := pinsKept_of (limpTargetLost_pinView ..) (setLane_pinsKept (fsetb_pinsKept h (arrayBeside rfl rfl)))
  have h2 : s2.pinsKept := pinsKept_of (setPort_pinView ..) (pinsKept_of (setPort_pinView ..) (pinsKept_of (cutPortPrbs_pinView ..) h1))
  have h3 : s3.pinsKept := fset_pinsKept (fset_pinsKept h2 (arrayBeside rfl rfl)) (arrayBeside rfl rfl)
  have h4 : s4.pinsKept := fsetb_pinsKept (fsetb_pinsKept h3 (arrayBeside rfl rfl)) (arrayBeside rfl rfl)
  exact pinsKept_ite h (refOver_pinsKept (fsetb_pinsKept h4 (arrayBeside rfl rfl)))

theorem xEnWaitExpiry_pinsKept {p : Nat} {s : State} (h : s.pinsKept) : (xEnWaitExpiry p s).pinsKept := by
  rw [xEnWaitExpiry]
  exact pinsKept_ite (enterTrain_pinsKept h) h

theorem timeoutsFld_notMode (u : Nat) : (timeoutsFld u).addr ≠ 0x20100 := by
  unfold timeoutsFld laneFld
  split <;> exact arrayBeside rfl rfl

theorem xBringupTimeout_pinsKept {u : Nat} {s : State} (h : s.pinsKept) : (xBringupTimeout u s).pinsKept := by
  rw [xBringupTimeout]
  exact pinsKept_ite (enterTrain_pinsKept (laneFault_pinsKept (pinsKept_of (unitEvent_pinView ..) (fadd_pinsKept h (timeoutsFld_notMode u))))) h

theorem capInLinked_pinsKept {s : State} {p : Nat} (h : s.pinsKept) : (State.capInLinked s p).pinsKept := by
  rw [State.capInLinked]
  exact pinsKept_ite (portActive_pinsKept h) (pinsKept_of (placeOrder_pinView ..) h)

theorem startPrbs_pinsKept {s : State} {p : Nat} {r : PrbsRun} (h : s.pinsKept) : (State.startPrbs s p r).pinsKept := by
  rw [State.startPrbs]
  refine pinsKept_ite ?_ ?_
  · exact endPrbs_pinsKept (fsetb_pinsKept (pinsKept_of (setPort_pinView ..) (setLane_pinsKept h)) (arrayBeside rfl rfl))
  · exact fsetb_pinsKept (pinsKept_of (setPort_pinView ..) (setLane_pinsKept h)) (arrayBeside rfl rfl)

theorem obeyOrder_pinsKept {s : State} {p : Nat} {o : TickOrder} (h : s.pinsKept) : (s.obeyOrder p o).pinsKept := by
  cases o with
  | rate dn up _ =>
    exact pinsKept_ite (pinsKept_of (startTrn_pinView ..) (fset_pinsKept (fset_pinsKept (pinsKept_of (setPort_pinView ..) (setLane_pinsKept h))
      (arrayBeside rfl rfl)) (arrayBeside rfl rfl))) h
  | prbs pat dn up _ => exact pinsKept_ite (startPrbs_pinsKept h) h

theorem takeOrder_pinsKept {s : State} {p tickNs : Nat} (h : s.pinsKept) : (State.takeOrder s p tickNs).pinsKept := by
  rw [State.takeOrder]
  split
  · exact h
  · exact pinsKept_ite h (pinsKept_ite (pinsKept_of (setPort_pinView ..) h) (obeyOrder_pinsKept h))

theorem dnGiven_pinView (p : Nat) (s : State) : (match (s.port p).dnNext with
    | some d => (s.fseti (R.TILE_TIME_MEAS_DN_NS p) d).setPort p fun q => { q with dnNext := none }
    | none => s).pinView = s.pinView := by
  split
  · exact (setPort_pinView ..).trans (fseti_pinView _ _ _ (arrayBeside rfl rfl))
  · rfl

theorem markPort_pinsKept {tickNs p : Nat} {s : State} (h : s.pinsKept) : (markPort tickNs p s).pinsKept := by
  rw [markPort]
  have ha := pinsKept_of (dnGiven_pinView p _) (pinsKept_of (setPort_pinView _ p fun q => { q with timed := false })
    (pinsKept_of (send_pinView _ (.marker p (s.markerAt p tickNs))) (pinsKept_of (exitIdle_pinView s p) h)))
  refine pinsKept_of (retryOrder_pinView ..) (takeOrder_pinsKept ?_)
  exact pinsKept_ite (pinsKept_of (setPort_pinView ..) (pinsKept_of (sendCtrlFirst_pinView ..) ha)) ha

theorem rateFailsFld_notMode (u : Nat) : (rateFailsFld u).addr ≠ 0x20100 := by
  unfold rateFailsFld laneFld
  split <;> exact arrayBeside rfl rfl

theorem xRateTrainTimeout_pinsKept {u : Nat} {s : State} (h : s.pinsKept) : (xRateTrainTimeout u s).pinsKept := by
  have ha := fun v => pinsKept_of (unitEvent_pinView _ u 5 v) (fadd_pinsKept (k := 1) h (rateFailsFld_notMode u))
  rw [xRateTrainTimeout]
  exact pinsKept_ite h (enterTrain_pinsKept (pinsKept_ite (laneFault_pinsKept (pinsKept_of (portRateFail_pinView ..) (ha _)))
    (pinsKept_of (linkRateFail_pinView ..) (ha _))))

theorem xRetrainTimeout_pinsKept {u : Nat} {s : State} (h : s.pinsKept) : (xRetrainTimeout u s).pinsKept := by
  rw [xRetrainTimeout]
  refine pinsKept_ite h ?_
  refine pinsKept_ite ?_ ?_
  · refine pinsKept_of (startTrn_pinView ..) ?_
    refine pinsKept_ite ?_ ?_
    · exact pinsKept_of (setPort_pinView ..) (pinsKept_of (setHsAll_pinView ..) h)
    · exact pinsKept_of (setLink_pinView ..) (pinsKept_of (setHsAll_pinView ..) h)
  · exact enterTrain_pinsKept (laneFault_pinsKept (pinsKept_of (unitEvent_pinView ..) h))

theorem xLaneRetrain_pinsKept {u : Nat} {s : State} (h : s.pinsKept) : (xLaneRetrain u s).pinsKept := by
  rw [xLaneRetrain]
  exact pinsKept_ite (loseActive_pinsKept h) h

theorem xIdleEntry_pinsKept {p : Nat} {s : State} (h : s.pinsKept) : (xIdleEntry p s).pinsKept := by
  rw [xIdleEntry]
  exact pinsKept_ite (setLane_pinsKept (pinsKept_of (send_pinView ..) h)) h

theorem xExitFail_pinsKept {p : Nat} {s : State} (h : s.pinsKept) : (xExitFail p s).pinsKept := by
  unfold xExitFail
  extract_lets _ s1 s2
  have h1 : s1.pinsKept := fsetb_pinsKept (fadd_pinsKept h (arrayBeside rfl rfl)) (arrayBeside rfl rfl)
  have h2 : s2.pinsKept := pinsKept_of (dropLocks_pinView ..) (laneFault_pinsKept (pinsKept_of (linkEvent_pinView ..) h1))
  exact pinsKept_ite (pinsKept_ite (enterTrain_pinsKept h2) (enterRetrain_pinsKept h2)) h

theorem xLnrefLost_pinsKept {s : State} (h : s.pinsKept) : (xLnrefLost s).pinsKept := by
  rw [xLnrefLost]
  refine pinsKept_ite h ?_
  refine overList_pinsKept (fun _ _ ht => lockLost_pinsKept ht) _ (raise_pinsKept (pinsKept_of (pinView_parts ..) ?_))
  refine pinsKept_ite ?_ (pinsKept_of (pinView_parts ..) h)
  exact pinsKept_of (eventDev_pinView ..) (fsetb_pinsKept (pinsKept_of (pinView_parts ..) h) (fieldBeside rfl))

theorem xLnrefReturn_pinsKept {s : State} (h : s.pinsKept) : (xLnrefReturn s).pinsKept := by
  rw [xLnrefReturn]
  refine pinsKept_ite h ?_
  exact refOver_pinsKept (overList_pinsKept (fun _ _ ht => pinsKept_ite (pinsKept_of (startTrn_pinView ..) ht) ht) _ (pinsKept_of (pinView_parts ..) h))

theorem linkPrbs_pinsKept {s : State} {u : Nat} (h : s.pinsKept) : (State.linkPrbs s u).pinsKept := by
  rw [State.linkPrbs]
  refine pinsKept_ite h ?_
  exact linkWatch_pinsKept (pinsKept_of (setLink_pinView ..) (fsetb_pinsKept (setLane_pinsKept (fsetb_pinsKept (fsetb_pinsKept (fset_pinsKept
    (fset_pinsKept h (arrayBeside rfl rfl)) (arrayBeside rfl rfl)) (arrayBeside rfl rfl)) (arrayBeside rfl rfl))) (arrayBeside rfl rfl)))

theorem xPrbsStart_pinsKept {u : Nat} {s : State} (h : s.pinsKept) : (xPrbsStart u s).pinsKept := by
  rw [xPrbsStart]
  exact pinsKept_ite h (pinsKept_ite (pinsKept_ite h (pinsKept_of (portPrbs_pinView ..) h)) (linkPrbs_pinsKept h))

theorem xLoopbackStart_pinsKept {p : Nat} {s : State} (h : s.pinsKept) : (xLoopbackStart p s).pinsKept := by
  rw [xLoopbackStart]
  refine pinsKept_ite h ?_
  exact setLane_pinsKept (fsetb_pinsKept (fsetb_pinsKept (fset_pinsKept (pinsKept_of (prbsClear_pinView ..) (pinsKept_of (setPort_pinView ..) h))
    (arrayBeside rfl rfl)) (arrayBeside rfl rfl)) (arrayBeside rfl rfl))

theorem xPrbsEnd_pinsKept {u : Nat} {bits0 bits1 : List Bool} {s : State} (h : s.pinsKept) : (xPrbsEnd u bits0 bits1 s).pinsKept := by
  rw [xPrbsEnd]
  refine pinsKept_ite h ?_
  refine pinsKept_ite ?_ ?_
  · refine pinsKept_ite ?_ ?_
    · exact enterRetrain_pinsKept (pinsKept_of (dropLocks_pinView ..) (pinsKept_of (portPrbsDone_pinView ..) h))
    · exact enterTrain_pinsKept (pinsKept_of (dropLocks_pinView ..) (pinsKept_of (linkPrbsDone_pinView ..) h))
  · exact pinsKept_ite (setLane_pinsKept (fset_pinsKept (pinsKept_of (portPrbsDone_pinView ..) h) (arrayBeside rfl rfl))) h

theorem xLegacyActive_pinsKept {p : Nat} {s : State} (h : s.pinsKept) : (xLegacyActive p s).pinsKept := by
  rw [xLegacyActive]
  exact pinsKept_ite (portActive_pinsKept (alertPin_pinsKept h)) h

theorem xLegacyAlert_pinsKept {p : Nat} {low : Bool} {s : State} (h : s.pinsKept) : (xLegacyAlert p low s).pinsKept := by
  rw [xLegacyAlert]
  exact pinsKept_ite (raise_pinsKept (pinsKept_of (linkEvent_pinView ..) (alertPin_pinsKept h))) (alertPin_pinsKept h)

theorem xLegacyAlertRetrain_pinsKept {p : Nat} {s : State} (h : s.pinsKept) : (xLegacyAlertRetrain p s).pinsKept := by
  rw [xLegacyAlertRetrain]
  exact pinsKept_ite (enterTrain_pinsKept (laneFault_pinsKept (alertPin_pinsKept h))) h

theorem linkUp_pinsKept {t : Nat} {s : State} (h : s.pinsKept) : (linkUp t s).pinsKept := by
  rw [linkUp]
  exact pinsKept_ite h (enterTrain_pinsKept (pinsKept_of (setLink_pinView ..) (fsetb_pinsKept h (arrayBeside rfl rfl))))

theorem linkDown_pinsKept {t : Nat} {s : State} (h : s.pinsKept) : (linkDown t s).pinsKept := by
  rw [linkDown]
  exact refOver_pinsKept (linkWatch_pinsKept (fsetb_pinsKept (fsetb_pinsKept (fset_pinsKept (pinsKept_of (setLink_pinView ..) (setLane_pinsKept
    (fsetb_pinsKept (pinsKept_of (cutLinkPrbs_pinView ..) h) (arrayBeside rfl rfl)))) (arrayBeside rfl rfl)) (arrayBeside rfl rfl)) (arrayBeside rfl rfl)))

theorem xTwinLaneEnable_pinsKept {t : Nat} {s : State} (h : s.pinsKept) : (xTwinLaneEnable t s).pinsKept := by
  rw [xTwinLaneEnable]
  exact pinsKept_ite (linkUp_pinsKept h) h

theorem xDeskewFail_pinsKept {t : Nat} {skew : Int} {s : State} (h : s.pinsKept) : (xDeskewFail t skew s).pinsKept := by
  rw [xDeskewFail]
  refine pinsKept_ite h ?_
  refine pinsKept_ite ?_ ?_
  · exact linkWatch_pinsKept (enterRetrain_pinsKept (pinsKept_of (deskewFailed_pinView ..) (fseti_pinsKept h (arrayBeside rfl rfl))))
  · exact pinsKept_of (deskewFailed_pinView ..) (fseti_pinsKept h (arrayBeside rfl rfl))

/-! ### The tile protocol -/

theorem xUpstreamPacketDiscard_pinsKept {p : Nat} {bytes : List Byte} {clean : Bool} {s : State} (h : s.pinsKept) :
    (xUpstreamPacketDiscard p bytes clean s).pinsKept := by
  rw [xUpstreamPacketDiscard]
  refine pinsKept_ite h ?_
  refine pinsKept_ite ?_ ?_
  · exact pinsKept_ite h (fadd_pinsKept (pinsKept_of (acceptUp_pinView ..) h) (arrayBeside rfl rfl))
  · refine pinsKept_ite ?_ ?_
    · exact pinsKept_of (setPort_pinView ..) (fadd_pinsKept h (arrayBeside rfl rfl))
    · exact enterRetrain_pinsKept (pinsKept_of (setPort_pinView ..) (fadd_pinsKept h (arrayBeside rfl rfl)))

theorem ctrlFail_pinsKept {s : State} {p : Nat} (h : s.pinsKept) : (State.ctrlFail s p).pinsKept := by
  rw [State.ctrlFail]
  exact enterRetrain_pinsKept (raiseBrief_pinsKept (pinsKept_of (linkEvent_pinView ..) (fadd_pinsKept h (arrayBeside rfl rfl))))

theorem pktMissing_pinsKept {s : State} {p : Nat} {u : SentPkt} (h : s.pinsKept) : (State.pktMissing s p u).pinsKept := by
  rw [State.pktMissing]
  refine pinsKept_ite ?_ ?_
  · exact pinsKept_ite (pinsKept_of (resend_pinView ..) h) (pinsKept_of (loseSent_pinView ..) h)
  · refine pinsKept_ite ?_ ?_
    · exact pinsKept_ite (pinsKept_of (resend_pinView ..) h) (pinsKept_of (loseSent_pinView ..) h)
    · refine pinsKept_ite ?_ ?_
      · exact pinsKept_ite (pinsKept_of (resend_pinView ..) h) (pinsKept_of (dropSent_pinView ..) h)
      · refine pinsKept_ite ?_ ?_
        · exact pinsKept_ite (pinsKept_of (resendLimp_pinView ..) (pinsKept_of (setPort_pinView ..) (pinsKept_of (dropSent_pinView ..) h))) h
        · exact pinsKept_ite (pinsKept_of (orderLate_pinView ..) h) (pinsKept_ite (pinsKept_of (resend_pinView ..) h) (ctrlFail_pinsKept h))

theorem ackOne_pinsKept {p ackSeq map : Nat} {u : SentPkt} {s : State} (h : s.pinsKept) : (ackOne p ackSeq map u s).pinsKept := by
  rw [ackOne]
  refine pinsKept_ite ?_ ?_
  · exact h
  · split
    · exact pinsKept_of (dropSent_pinView ..) h
    · exact pktMissing_pinsKept h
    · exact h

theorem xAckNakReceived_pinsKept {p seqLo : Nat} {body : List Byte} {s : State} (h : s.pinsKept) : (xAckNakReceived p seqLo body s).pinsKept := by
  rw [xAckNakReceived]
  refine pinsKept_ite (pinsKept_of (takeUp_pinView ..) h) ?_
  exact pinsKept_of (controlNext_pinView ..) (pinsKept_of (limpLoaded_pinView ..) (foldl_pinsKept (fun _ _ ht => ackOne_pinsKept ht) _ (pinsKept_of
    (takeUp_pinView ..) h)))

theorem xAckTimeout_pinsKept {p seq : Nat} {s : State} (h : s.pinsKept) : (xAckTimeout p seq s).pinsKept := by
  rw [xAckTimeout]
  split
  · exact pinsKept_ite (pinsKept_of (controlNext_pinView ..) (pktMissing_pinsKept h)) h
  · exact h

theorem xLinePacketDeadline_pinsKept {p seq : Nat} {s : State} (h : s.pinsKept) : (xLinePacketDeadline p seq s).pinsKept := by
  rw [xLinePacketDeadline]
  refine pinsKept_ite h ?_
  refine pinsKept_ite ?_ ?_
  · exact fadd_pinsKept (pinsKept_of (setPort_pinView ..) h) (arrayBeside rfl rfl)
  · exact raiseBrief_pinsKept (pinsKept_of (linkEvent_pinView ..) (pinsKept_of (setPort_pinView ..) (fadd_pinsKept (pinsKept_of (setPort_pinView ..) h)
      (arrayBeside rfl rfl))))

theorem xSwapDeadline_pinsKept {p : Nat} {s : State} (h : s.pinsKept) : (xSwapDeadline p s).pinsKept := by
  rw [xSwapDeadline]
  exact pinsKept_ite h (raiseBrief_pinsKept (pinsKept_of (linkEvent_pinView ..) (fadd_pinsKept (pinsKept_of (setPort_pinView ..) h) (arrayBeside rfl rfl))))

theorem xCapReceived_pinsKept {p seqLo : Nat} {body : List Byte} {s : State} (h : s.pinsKept) : (xCapReceived p seqLo body s).pinsKept := by
  unfold xCapReceived
  extract_lets r s1 e new first s2 s3 s4 s5
  have h1 : s1.pinsKept := pinsKept_of (takeUp_pinView ..) h
  have h2 : s2.pinsKept := pinsKept_ite (pinsKept_of (limpTargetLost_pinView ..) h1) h1
  have h3 : s3.pinsKept := pinsKept_ite (pinsKept_of (setPort_pinView ..) h2) h2
  have h4 : s4.pinsKept := pinsKept_of (capMembership_pinView ..) (pinsKept_of (storeCap_pinView ..) h3)
  have h5 : s5.pinsKept := pinsKept_ite (pinsKept_of (autoClaim_pinView ..) h4) h4
  exact pinsKept_ite h1 (pinsKept_ite (pinsKept_of (linkEvent_pinView ..) (fset_pinsKept h1 (arrayBeside rfl rfl)))
    (pinsKept_ite (pinsKept_ite h5 (capInLinked_pinsKept h5)) (pinsKept_ite (portTrain_pinsKept h5) h5)))

theorem copyStatus_pinsKept {s : State} {p : Nat} {b : List Byte} (h : s.pinsKept) : (State.copyStatus s p b).pinsKept := by
  unfold State.copyStatus
  extract_lets _ s1 s2 s3 s4 s5 s6 s7 s8
  have h1 : s1.pinsKept := fsetb_pinsKept (fset_pinsKept h (arrayBeside rfl rfl)) (arrayBeside rfl rfl)
  have h2 : s2.pinsKept := fsetb_pinsKept (fsetb_pinsKept h1 (arrayBeside rfl rfl)) (arrayBeside rfl rfl)
  have h3 : s3.pinsKept := fset_pinsKept (fsetb_pinsKept h2 (arrayBeside rfl rfl)) (arrayBeside rfl rfl)
  have h4 : s4.pinsKept := fset_pinsKept (fset_pinsKept h3 (arrayBeside rfl rfl)) (arrayBeside rfl rfl)
  have h5 : s5.pinsKept := alertPin_pinsKept (fset_pinsKept h4 (arrayBeside rfl rfl))
  have h6 : s6.pinsKept := fset_pinsKept (fset_pinsKept h5 (arrayBeside rfl rfl)) (arrayBeside rfl rfl)
  have h7 : s7.pinsKept := fset_pinsKept (fset_pinsKept h6 (arrayBeside rfl rfl)) (arrayBeside rfl rfl)
  have h8 : s8.pinsKept := fset_pinsKept (fset_pinsKept h7 (arrayBeside rfl rfl)) (arrayBeside rfl rfl)
  exact pinsKept_of (setPort_pinView ..) h8

theorem statusEvents_pinsKept {s before : State} {p : Nat} (h : s.pinsKept) : (s.statusEvents p before).pinsKept := by
  unfold State.statusEvents
  extract_lets a old s1 v s2
  have h1 : s1.pinsKept := pinsKept_ite (raise_pinsKept (pinsKept_of (linkEvent_pinView ..) h)) h
  have h2 : s2.pinsKept := pinsKept_ite (pinsKept_of (linkEvent_pinView ..) h1) h1
  exact pinsKept_ite (pinsKept_of (linkEvent_pinView ..) h2) h2

theorem xStatusReceived_pinsKept {p seqLo : Nat} {body : List Byte} {rt : Nat} {s : State} (h : s.pinsKept) :
    (xStatusReceived p seqLo body rt s).pinsKept := by
  unfold xStatusReceived
  extract_lets r before s1 first s2 s3 s4 s5 s6
  have hb : before.pinsKept := pinsKept_of (takeUp_pinView ..) h
  have h1 : s1.pinsKept := statusEvents_pinsKept (copyStatus_pinsKept hb)
  have h2 : s2.pinsKept := pinsKept_of (setPort_pinView ..) h1
  have h3 : s3.pinsKept := pinsKept_ite (pinsKept_of (echoAnswer_pinView ..) h2) h2
  have h4 : s4.pinsKept := pinsKept_of (claimResult_pinView ..) h3
  have h5 : s5.pinsKept := pinsKept_ite (pinsKept_of (autoClaim_pinView ..) h4) h4
  refine pinsKept_ite hb ?_
  exact isolationStatus_pinsKept (pinsKept_of (claimAsLead_pinView ..) (pinsKept_of (newlyOwned_pinView ..) (pinsKept_of (twinStatus_pinView ..) h5)))

theorem xHealthReceived_pinsKept {p seqLo : Nat} {body : List Byte} {s : State} (h : s.pinsKept) : (xHealthReceived p seqLo body s).pinsKept := by
  rw [xHealthReceived]
  exact pinsKept_ite (healthPacket_pinsKept (pinsKept_of (takeUp_pinView ..) h)) (pinsKept_of (takeUp_pinView ..) h)

/-! ### Commands -/

theorem configApply_pinsKept {s : State} {d : Desc} {named : Option Nat} (h : s.pinsKept) : (State.configApply s d named).pinsKept := by
  unfold State.configApply
  extract_lets _ _ _ _ s1 _ s2 _ _ _ s3
  have h1 : s1.pinsKept := pinsKept_of (alignFrame_pinView ..) h
  have h2 : s2.pinsKept := startSurface_pinsKept (pinsKept_of (cfgWrite_pinView ..) h)
  have h3 : s3.pinsKept := pinsKept_of (setGen_pinView ..) h2
  refine pinsKept_ite ?_ ?_
  · exact pinsKept_of (completeAt_pinView ..) (askStop_pinsKept h1)
  · refine pinsKept_ite ?_ ?_
    · exact pinsKept_of (complete_pinView ..) (pinsKept_of (cfgWrite_pinView ..) h)
    · exact pinsKept_of (completeAt_pinView ..) (pinsKept_of (alignNext_pinView ..) (pinsKept_of (alignFrame_pinView ..) h3))

theorem xSurfaceConfig_pinsKept {s : State} (h : s.pinsKept) : (xSurfaceConfig s).pinsKept := by
  rw [xSurfaceConfig]
  split
  · exact h
  · exact pinsKept_ite (command_pinsKept (fun _ h1 => (configApply_pinsKept h1)) h) (aligned_pinsKept (fun _ h1 => (configApply_pinsKept h1)) h)

theorem xTgEnable_pinsKept {n : Nat} {s : State} (h : s.pinsKept) : (xTgEnable n s).pinsKept := by
  rw [xTgEnable]
  exact pinsKept_ite (askStart_pinsKept h) (pinsKept_of (alignNext_pinView ..) (askStart_pinsKept h))

theorem xTgDisable_pinsKept {n : Nat} {s : State} (h : s.pinsKept) : (xTgDisable n s).pinsKept := by
  rw [xTgDisable]
  exact askStop_pinsKept h

theorem modeApply_pinsKept {s : State} {d : Desc} (h : s.pinsKept) : (State.modeApply s d).pinsKept := by
  unfold State.modeApply
  extract_lets _
  refine pinsKept_ite (pinsKept_of (complete_pinView ..) h) ?_
  refine pinsKept_ite ?_ ?_
  · exact enterSentinel_pinsKept (pinsKept_of (completeAt_pinView ..) h)
  · refine pinsKept_ite ?_ ?_
    · exact enterPark_pinsKept (pinsKept_of (completeAt_pinView ..) h)
    · refine pinsKept_ite ?_ ?_
      · exact pinsKept_of (complete_pinView ..) (enterLimp_pinsKept h)
      · exact pinsKept_ite (leaveLimp_pinsKept (pinsKept_of (keepDesc_pinView ..) h)) (beginMode_pinsKept (pinsKept_of (keepDesc_pinView ..) h))

theorem xMode_pinsKept {ring : Nat} {s : State} (h : s.pinsKept) : (xMode ring s).pinsKept := by
  rw [xMode]
  split
  · exact h
  · exact pinsKept_ite h (command_pinsKept (fun _ h1 => (modeApply_pinsKept h1)) h)

theorem blankApply_pinsKept {s : State} {g : Nat} (h : s.pinsKept) : (State.blankApply s g).pinsKept := by
  rw [State.blankApply]
  exact pinsKept_ite (pinsKept_of (pinView_parts ..) h) (raise_pinsKept (totRequest_pinsKept (pinsKept_of (pinView_parts ..) h)))

theorem xBlank_pinsKept {s : State} (h : s.pinsKept) : (xBlank s).pinsKept := by
  rw [xBlank]
  split
  · exact h
  · exact pinsKept_ite h (command_pinsKept (fun _ h1 => (pinsKept_of (complete_pinView ..) (blankApply_pinsKept h1))) h)

theorem shrinkHost_pinsKept {s : State} {gone : Nat} (h : s.pinsKept) : (State.shrinkHost s gone).pinsKept := by
  rw [State.shrinkHost]
  refine pinsKept_ite ?_ ?_
  · exact pinsKept_of (safeEvent_pinView ..) (pinsKept_of (totEvent_pinView ..) (overList_pinsKept (fun _ _ ht => pinsKept_of (totResume_pinView ..) ht) _
      (totApply_pinsKept h)))
  · exact pinsKept_of (totEvent_pinView ..) (overList_pinsKept (fun _ _ ht => pinsKept_of (totResume_pinView ..) ht) _ (totApply_pinsKept h))

theorem unblankApply_pinsKept {s : State} {d : Desc} {g : Nat} (h : s.pinsKept) : (State.unblankApply s d g).pinsKept := by
  rw [State.unblankApply]
  refine pinsKept_of (complete_pinView ..) ?_
  refine pinsKept_ite (pinsKept_of (pinView_parts ..) h) ?_
  exact pinsKept_ite (totRelease_pinsKept (pinsKept_of (pinView_parts ..) h)) (shrinkHost_pinsKept (pinsKept_of (pinView_parts ..) h))

theorem xUnblank_pinsKept {s : State} (h : s.pinsKept) : (xUnblank s).pinsKept := by
  rw [xUnblank]
  split
  · exact h
  · exact pinsKept_ite h (command_pinsKept (fun _ h1 => (unblankApply_pinsKept h1)) h)

/-! ### Segments -/

theorem segConfirmed_pinsKept {s : State} {c kind : Nat} (h : s.pinsKept) : (State.segConfirmed s c kind).pinsKept := by
  rw [State.segConfirmed]
  refine pinsKept_ite ?_ ?_
  · exact pinsKept_of (setSeg_pinView ..) (drivePins_pinsKept (fadd_pinsKept h (fieldBeside rfl)))
  · exact segReport_pinsKept (drivePins_pinsKept (fadd_pinsKept h (fieldBeside rfl)))

theorem segConfirm_pinsKept {s : State} {c kind : Nat} (h : s.pinsKept) : (State.segConfirm s c kind).pinsKept := by
  rw [State.segConfirm]
  refine pinsKept_ite h ?_
  refine pinsKept_ite h ?_
  exact segConfirmed_pinsKept (pinsKept_of (setBank_pinView ..) (pinsKept_of (setChan_pinView ..) (fsetb_pinsKept (fset_pinsKept h (arrayBeside rfl rfl))
    (fieldBeside rfl))))

theorem neighbourCheck_pinsKept {s : State} {c : Nat} {m : Nat × Nat × Nat} (h : s.pinsKept) : (State.neighbourCheck s c m).pinsKept := by
  rw [State.neighbourCheck]
  refine pinsKept_ite h ?_
  refine pinsKept_ite ?_ ?_
  · exact segConfirm_pinsKept (segConfirm_pinsKept (pinsKept_of (setSeg_pinView ..) (pinsKept_of (setSeg_pinView ..) h)))
  · exact pinsKept_of (setSeg_pinView ..) (pinsKept_of (setSeg_pinView ..) h)

theorem pulseJudge_pinsKept {s : State} {c mv : Nat} {lost : Bool} (h : s.pinsKept) : (State.pulseJudge s c mv lost).pinsKept := by
  rw [State.pulseJudge]
  refine pinsKept_ite ?_ ?_
  · exact segConfirm_pinsKept (pinsKept_ite (segConfirm_pinsKept (pinsKept_of (setChan_pinView ..) h)) (pinsKept_of (setChan_pinView ..) h))
  · exact pinsKept_ite (segConfirm_pinsKept (pinsKept_of (setChan_pinView ..) h)) (pinsKept_of (setChan_pinView ..) h)

theorem xSegPulseEnd_pinsKept {c mv : Nat} {lost : Bool} {nbs : List (Nat × Nat × Nat)} {s : State} (h : s.pinsKept) :
    (xSegPulseEnd c mv lost nbs s).pinsKept := by
  rw [xSegPulseEnd]
  refine pinsKept_ite h ?_
  refine foldl_pinsKept (fun _ _ ht => neighbourCheck_pinsKept ht) _ ?_
  refine pinsKept_ite (pinsKept_of (setChan_pinView ..) h) ?_
  refine pinsKept_ite ?_ ?_
  · exact pinsKept_of (setChan_pinView ..) (pinsKept_of (setChan_pinView ..) h)
  · exact pulseJudge_pinsKept (pinsKept_of (setChan_pinView ..) (pinsKept_of (setChan_pinView ..) h))

theorem xSegOvercurrent_pinsKept {c : Nat} {s : State} (h : s.pinsKept) : (xSegOvercurrent c s).pinsKept := by
  rw [xSegOvercurrent]
  exact pinsKept_ite h (segConfirm_pinsKept (pinsKept_of (setChan_pinView ..) h))

theorem segRecovered_pinsKept {s : State} (h : s.pinsKept) : (State.segRecovered s).pinsKept := by
  rw [State.segRecovered]
  exact drivePins_pinsKept (pinsKept_ite (fsetb_pinsKept h (fieldBeside rfl)) (clearFault_pinsKept (fsetb_pinsKept h (fieldBeside rfl))))

theorem xSegChannelClear_pinsKept {w mask : Nat} {s : State} (h : s.pinsKept) : (xSegChannelClear w mask s).pinsKept := by
  rw [xSegChannelClear]
  refine pinsKept_ite h ?_
  exact segRecovered_pinsKept (overList_pinsKept (fun _ _ ht => pinsKept_of (clearChan_pinView ..) ht) _ (fset_pinsKept h (arrayBeside rfl rfl)))

theorem segRailFail_pinsKept {s : State} {r : Nat} (h : s.pinsKept) : (State.segRailFail s r).pinsKept := by
  rw [State.segRailFail]
  exact segConfirmed_pinsKept (fsetb_pinsKept (fsetb_pinsKept (pinsKept_of (setSegRail_pinView ..) (pinsKept_of (setSup_pinView ..) h))
    (arrayBeside rfl rfl)) (fieldBeside rfl))

theorem xSegRailEnable_pinsKept {r : Nat} {on : Bool} {s : State} (h : s.pinsKept) : (xSegRailEnable r on s).pinsKept := by
  unfold xSegRailEnable
  extract_lets _ s1 s2
  have h1 : s1.pinsKept := fsetb_pinsKept (fsetb_pinsKept h (arrayBeside rfl rfl)) (arrayBeside rfl rfl)
  have h2 : s2.pinsKept := segRecovered_pinsKept (fsetb_pinsKept h1 (fieldBeside rfl))
  refine pinsKept_ite h ?_
  exact pinsKept_ite (pinsKept_of (segJobs_pinView ..) (pinsKept_of (setSegRail_pinView ..) h2)) (pinsKept_ite h2 (pinsKept_of (setSup_pinView ..) h2))

theorem xSegCurrentCheck_pinsKept {ua : Nat} {s : State} (h : s.pinsKept) : (xSegCurrentCheck ua s).pinsKept := by
  rw [xSegCurrentCheck]
  refine pinsKept_ite ?_ ?_
  · exact h
  · split
    · exact h
    · refine pinsKept_ite ?_ ?_
      · exact pinsKept_of (setChan_pinView ..) (pinsKept_of (setSeg_pinView ..) h)
      · refine pinsKept_ite ?_ ?_
        · refine segConfirm_pinsKept ?_
          refine pinsKept_ite ?_ ?_
          · exact pinsKept_of (eventDev_pinView ..) (fsetb_pinsKept (pinsKept_of (setChan_pinView ..) (pinsKept_of (setSeg_pinView ..) h)) (fieldBeside rfl))
          · exact pinsKept_of (setChan_pinView ..) (pinsKept_of (setSeg_pinView ..) h)
        · refine pinsKept_ite ?_ ?_
          · exact pinsKept_of (eventDev_pinView ..) (fsetb_pinsKept (pinsKept_of (setChan_pinView ..) (pinsKept_of (setSeg_pinView ..) h)) (fieldBeside rfl))
          · exact pinsKept_of (setChan_pinView ..) (pinsKept_of (setSeg_pinView ..) h)

theorem segJobDone_pinsKept {s : State} {r : Nat} {j : PmbusJob} {ok : Bool} {data : Nat} (h : s.pinsKept) : (State.segJobDone s r j ok data).pinsKept := by
  rw [State.segJobDone]
  refine pinsKept_ite ?_ ?_
  · exact h
  · refine pinsKept_ite ?_ ?_
    · exact pinsKept_ite (pinsKept_of (setSup_pinView ..) (pinsKept_of (setSegRail_pinView ..) h)) (segRailFail_pinsKept h)
    · split
      · refine pinsKept_ite ?_ ?_
        · exact pinsKept_of (setSegRail_pinView ..) (pinsKept_of (setSegRail_pinView ..) h)
        · exact segRailFail_pinsKept (pinsKept_of (setSegRail_pinView ..) h)
      · exact fsetb_pinsKept (fsetb_pinsKept (fset_pinsKept (pinsKept_of (setSegRail_pinView ..) h) (arrayBeside rfl rfl)) (arrayBeside rfl rfl))
          (arrayBeside rfl rfl)
      · exact pinsKept_of (setSegRail_pinView ..) h

theorem railModeDone_pinsKept {s : State} {r : Nat} {ok : Bool} {data : Nat} {j : PmbusJob} (h : s.pinsKept) :
    (State.railModeDone s r ok data j).pinsKept := by
  rw [State.railModeDone]
  exact pinsKept_ite (railJobDone_pinsKept (pinsKept_of (setExp_pinView ..) h)) (railJobDone_pinsKept h)

theorem xPmbusTransactionDone_pinsKept {ok : Bool} {data pec : Nat} {s : State} (h : s.pinsKept) : (xPmbusTransactionDone ok data pec s).pinsKept := by
  rw [xPmbusTransactionDone]
  split
  · exact h
  · rename_i j _
    refine pinsKept_of (pmbusStart_pinView _) ?_
    have hs := pinsKept_of (setSup_pinView s fun u => { u with busy := none }) h
    cases j with
    | railPage r => exact railJobDone_pinsKept hs
    | railVout r => exact railJobDone_pinsKept hs
    | railMode r => exact railModeDone_pinsKept hs
    | pollMode _ => exact pinsKept_of (pollDone_pinView ..) hs
    | pollVout _ => exact pinsKept_of (pollDone_pinView ..) hs
    | pollStatus _ => exact pinsKept_of (pollDone_pinView ..) hs
    | segPage r => exact segJobDone_pinsKept hs
    | segMode r => exact segJobDone_pinsKept hs
    | segVout r _ => exact segJobDone_pinsKept hs

/-! ### Bulk commands -/

theorem endSession_pinsKept {s : State} (h : s.pinsKept) : (State.endSession s).pinsKept := by
  rw [State.endSession]
  exact leaveService_pinsKept (pinsKept_of (sessionOver_pinView ..) h)

theorem closeSession_pinsKept {s : State} (h : s.pinsKept) : (State.closeSession s).pinsKept := by
  rw [State.closeSession]
  exact pinsKept_ite h (pinsKept_ite (pinsKept_of (pinView_parts ..) h) (endSession_pinsKept h))

theorem commitEnd_pinsKept {s : State} {ring pos : Nat} {st : Status} {held : Nat} (h : s.pinsKept) : (State.commitEnd s ring pos st held).pinsKept := by
  rw [State.commitEnd]
  refine pinsKept_ite ?_ ?_
  · refine pinsKept_ite ?_ ?_
    · exact pinsKept_of (sessionRenew_pinView ..) (pinsKept_of (completeSlot_pinView ..) (fsetb_pinsKept h (fieldBeside rfl)))
    · exact endSession_pinsKept (pinsKept_of (completeSlot_pinView ..) (fsetb_pinsKept h (fieldBeside rfl)))
  · exact pinsKept_of (completeSlot_pinView ..) (fsetb_pinsKept h (fieldBeside rfl))

theorem spbWritten_pinsKept {s : State} {ring pos copy held seq : Nat} {img : List Byte} {ok : Bool} (h : s.pinsKept) :
    (State.spbWritten s ring pos copy held seq img ok).pinsKept := by
  rw [State.spbWritten]
  refine pinsKept_ite (commitEnd_pinsKept h) ?_
  exact pinsKept_ite (pinsKept_of (spbWrite_pinView ..) (pinsKept_of (setFlash_pinView ..) h)) (commitEnd_pinsKept (pinsKept_of (setFlash_pinView ..) h))

theorem xFlashWriteDone_pinsKept {ok : Bool} {s : State} (h : s.pinsKept) : (xFlashWriteDone ok s).pinsKept := by
  rw [xFlashWriteDone]
  split
  · exact h
  · split
    · exact spbWritten_pinsKept (pinsKept_of (setFlash_pinView ..) h)
    · exact pinsKept_of (partWritten_pinView ..) (pinsKept_of (setFlash_pinView ..) h)
    · exact pinsKept_of (dirWritten_pinView ..) (pinsKept_of (setFlash_pinView ..) h)

/-! ### ALIGN -/

theorem twinApply_pinsKept {s : State} {c : TwinCmd} {named : Option Nat} (h : s.pinsKept) : (State.twinApply s c named).pinsKept := by
  unfold State.twinApply
  extract_lets _ _
  refine pinsKept_ite (pinsKept_of (cancelApply_pinView ..) h) ?_
  refine pinsKept_ite ?_ ?_
  · exact pinsKept_ite (pinsKept_of (complete_pinView ..) h) (configApply_pinsKept h)
  · refine pinsKept_ite ?_ ?_
    · exact pinsKept_ite (pinsKept_of (retimeApply_pinView ..) h) (pinsKept_of (complete_pinView ..) h)
    · exact pinsKept_ite (pinsKept_of (scalerApply_pinView ..) h) (pinsKept_ite (pinsKept_of (mapApply_pinView ..) h) (pinsKept_of (shadeRun_pinView ..) h))

theorem twinLate_pinsKept {s : State} {c : TwinCmd} {named : Option Nat} (h : s.pinsKept) : (State.twinLate s c named).pinsKept := by
  rw [State.twinLate]
  exact pinsKept_of (notAlignedAt_pinView ..) (twinApply_pinsKept h)

theorem twinRunCmd_pinsKept {c : TwinCmd} {s : State} (h : s.pinsKept) : (twinRunCmd c s).pinsKept := by
  rw [twinRunCmd]
  split
  · exact h
  · split
    · exact h
    · exact pinsKept_ite (twinLate_pinsKept (pinsKept_of (setTwin_pinView ..) h)) (twinApply_pinsKept (pinsKept_of (setTwin_pinView ..) h))

theorem twinRun_pinsKept {s : State} (h : s.pinsKept) : (State.twinRun s).pinsKept := by
  rw [State.twinRun]
  exact foldl_pinsKept (fun _ _ ht => twinRunCmd_pinsKept ht) _ (foldl_pinsKept (fun _ _ ht => pinsKept_of (twinRunShade_pinView ..) ht) _ h)

theorem twinSettle_pinsKept {s : State} (h : s.pinsKept) : (State.twinSettle s).pinsKept := by
  rw [State.twinSettle]
  exact twinRun_pinsKept (foldl_pinsKept (fun _ _ ht => pinsKept_of (twinMatch_pinView ..) ht) _ (twinRun_pinsKept h))

theorem settled_pinsKept {s : State} (h : s.pinsKept) : (settled s).pinsKept := by
  rw [settled]
  exact pinsKept_ite (twinSettle_pinsKept h) h

theorem xAlignReceived_pinsKept {link seq : Nat} {body : List Byte} {s : State} (h : s.pinsKept) : (xAlignReceived link seq body s).pinsKept := by
  rw [xAlignReceived]
  refine pinsKept_ite (pinsKept_of (twinTake_pinView ..) h) ?_
  refine twinSettle_pinsKept (pinsKept_of (setTwin_pinView ..) ?_)
  exact pinsKept_ite (pinsKept_of (notAligned_pinView ..) (pinsKept_of (twinTake_pinView ..) h)) (pinsKept_of (twinTake_pinView ..) h)

theorem xAlignTimeout_pinsKept {command : Bool} {key : Nat} {s : State} (h : s.pinsKept) : (xAlignTimeout command key s).pinsKept := by
  rw [xAlignTimeout]
  refine pinsKept_ite ?_ ?_
  · exact pinsKept_of (setTwin_pinView ..) h
  · split
    · exact twinLate_pinsKept (pinsKept_of (orphaned_pinView ..) (pinsKept_of (setTwin_pinView ..) h))
    · refine pinsKept_ite ?_ ?_
      · exact h
      · split
        · exact pinsKept_of (orphanPresent_pinView ..) h
        · exact h

/-! ### Ticks -/

theorem xLayerSafeLimit_pinsKept {n i : Nat} {s : State} (h : s.pinsKept) : (xLayerSafeLimit n i s).pinsKept := by
  rw [xLayerSafeLimit]
  split
  · exact h
  · exact pinsKept_ite (raise_pinsKept h) h

theorem modeSurf_pinsStayLow {s : State} {n : Nat} {stopped : Bool} (h : s.pinsKept) : (s.modeSurf n stopped).pinsStayLow := by
  refine pinsStayLow_of ?_ (recheckExit_pinsStayLow h)
  rw [State.modeSurf]
  simp only [↓pinView_ite, ↓parkServe_pinView, ↓setMode_pinView, ↓dropWait_pinView, ↓overList_pinView scaleOwed_pinView, ↓pinView_parts, ite_self]

theorem stopAtF_pinsStayLow {s : State} {n : Nat} (h : s.pinsKept) : (s.stopAtF n).pinsStayLow := by
  rw [State.stopAtF]
  exact modeSurf_pinsStayLow (surfDisabled_pinsKept (pinsKept_of (takeAllF_pinView ..) (pinsKept_of (overList_pinView (fun p s => mapsCurrent_pinView s p) ..)
    (pinsKept_of (overAll_pinView (swapScaler_pinView n) ..) h))))

theorem usedInEffect_pinView (n : Nat) (s : State) : (match
    (s.px n).use with | some p => s.presentInEffect n p.desc.pos | none => s).pinView = s.pinView := by
  split
  · exact presentInEffect_pinView ..
  · rfl

theorem frameStart_pinsStayLow {s : State} {n : Nat} {before after : Gen} (h : s.pinsKept) : (s.frameStart n before after).pinsStayLow := by
  unfold State.frameStart
  extract_lets frame s1 s2 s3 s4 s5 s6 s7
  have h3 : s3.pinView = s.pinView := by
    simp (disch := exact arrayBeside rfl rfl) only
      [s3, s2, s1, ↓takeScale_pinView, ↓takeDerate_pinView, ↓retimeFlags_pinView, ↓gridReached_pinView, ↓fset_pinView,
      ↓fsetb_pinView, ↓setGen_pinView]
  have h4 : s4.pinsStayLow := pinsStayLow_of (effectDue_pinView ..) (modeSurf_pinsStayLow (pinsKept_of (countSilence_pinView ..) (pinsKept_of h3 h)))
  have h6 : s6.pinsStayLow := pinsStayLow_of (usedInEffect_pinView n s5) (pinsStayLow_of (overAll_pinView (swapScaler_pinView n) 2 s4) h4)
  exact pinsStayLow_of (tickPulse_pinView ..) (pinsStayLow_of (setTwinSurf_pinView ..) h6)

theorem xFTick_pinsStayLow {n : Nat} {s : State} (h : s.pinsKept) : (xFTick n s).pinsStayLow := by
  rw [xFTick]
  refine pinsStayLow_ite h.stayLow (pinsStayLow_ite h.stayLow ?_)
  have ha := fun q => pinsKept_of (arrive_pinView s q) h
  exact pinsStayLow_ite (stopAtF_pinsStayLow (pinsKept_of (gridReached_pinView ..) (ha _))) (frameStart_pinsStayLow (ha _))

theorem xHostSilenceLimp_pinsKept {s : State} (h : s.pinsKept) : (xHostSilenceLimp s).pinsKept := by
  rw [xHostSilenceLimp]
  exact pinsKept_ite (raise_pinsKept (fsetb_pinsKept h (fieldBeside rfl))) h

theorem scanStart_pinsKept {s : State} {n : Nat} {errs : List Word} (h : s.pinsKept) : (State.scanStart s n errs).pinsKept := by
  unfold State.scanStart
  extract_lets _ _ s1 s2 s3 s4 _ s5 s6 s7 s8 s9 s10 s11
  have h1 : s1.pinsKept := pinsKept_of (setGen_pinView ..) h
  have h2 : s2.pinsKept :=
    pinsKept_of (timingAhead_pinView ..) (pinsKept_of (claimsDue_pinView ..) (overList_pinsKept (fun _ _ ht => markPort_pinsKept ht) _ h1))
  have h3 : s3.pinsKept := pinsKept_of (stepAim_pinView ..) h2
  have h4 : s4.pinsKept := overList_pinsKept (fun _ _ ht => pinsKept_of (zoneStep_pinView ..) ht) _ h3
  have h5 : s5.pinsKept := overList_pinsKept (fun _ _ ht => pinsKept_of (ageStatus_pinView ..) ht) _ h4
  have h6 : s6.pinsKept := overList_pinsKept (fun _ _ ht => pinsKept_of (mapsCurrent_pinView ..) ht) _ h5
  have h7 : s7.pinsKept := overList_pinsKept (fun _ _ ht => pinsKept_of (healthTick_pinView ..) ht) _ h6
  have h8 : s8.pinsKept := overList_pinsKept (fun _ _ ht => pinsKept_of (thermPort_pinView ..) ht) _ h7
  have h9 : s9.pinsKept := pinsKept_ite (pinsKept_of (rotateLanes_pinView ..) h8) h8
  have h10 : s10.pinsKept := pinsKept_of (takeLatch_pinView ..) (pinsKept_of (sendLatch_pinView ..) h9)
  have h11 : s11.pinsKept := pinsKept_of (effectDue_pinView ..) h10
  exact pinsKept_of (tickPulse_pinView ..) h11

theorem xSTick_pinsKept {n : Nat} {errs : List Word} {s : State} (h : s.pinsKept) : (xSTick n errs s).pinsKept := by
  rw [xSTick]
  refine pinsKept_ite h ?_
  refine pinsKept_ite ?_ ?_
  · exact scanStart_pinsKept (pinsKept_of (setGen_pinView ..) h)
  · exact pinsKept_ite h (scanStart_pinsKept (pinsKept_of (gridReached_pinView ..) (pinsKept_of (setGen_pinView ..) (pinsKept_of (arrive_pinView ..) h))))

theorem laneTickPort_pinsKept {ns p : Nat} {s : State} (h : s.pinsKept) : (laneTickPort ns p s).pinsKept := by
  rw [laneTickPort]
  exact markPort_pinsKept (pinsKept_of (sendNow_pinView ..) h)

theorem xLaneTick_pinsKept {s : State} (h : s.pinsKept) : (xLaneTick s).pinsKept := by
  rw [xLaneTick]
  refine pinsKept_ite ?_ ?_
  · exact overList_pinsKept (fun _ _ ht => laneTickPort_pinsKept ht) _ h
  · exact pinsKept_ite h (overList_pinsKept (fun _ _ ht => laneTickPort_pinsKept ht) _ h)

/-! ### Sounding -/

theorem spillTest_pinsKept {s : State} {n : Nat} {ok : Bool} (h : s.pinsKept) : (State.spillTest s n ok).pinsKept := by
  unfold State.spillTest
  extract_lets _ _ s1 _ s2
  have h1 : s1.pinsKept := fsetb_pinsKept (fset_pinsKept h (fieldBeside rfl)) (fieldBeside rfl)
  have h2 : s2.pinsKept := fadd_pinsKept (pinsKept_of (pinView_parts ..) h1) (fieldBeside rfl)
  exact pinsKept_ite (pinsKept_of (pinView_parts ..) h1) (pinsKept_ite (raise_pinsKept h2) h2)

theorem segmentBad_pinsKept {s : State} {x : Nat} {q : Slice} (h : s.pinsKept) : (s.segmentBad x q).pinsKept := by
  have hf : (if q.spare = 1 then R.TEST_SPARES_ROWS_LEFT else R.TEST_SPARES_COLS_LEFT).addr ≠ 0x20100 := by split <;> exact fieldBeside rfl
  have ha := fun detail => pinsKept_of (sounding_pinView s 0x10 1 detail) h
  rw [State.segmentBad]
  exact pinsKept_ite (pinsKept_ite (pinsKept_of (startReload_pinView ..) (raise_pinsKept (ha _))) (raise_pinsKept (ha _)))
    (pinsKept_of (sounding_pinView ..) (fset_pinsKept (fadd_pinsKept (f := R.TEST_CNT_A_SOFT_REPAIRS) h (fieldBeside rfl)) hf))

theorem slice_pinsKept {s : State} {q : Slice} (h : s.pinsKept) : (State.slice s q).pinsKept := by
  unfold State.slice
  extract_lets _ _ s1 _ s2 s3 s4
  have h1 : s1.pinsKept := pinsKept_ite h (pinsKept_of (twinBad_pinView ..) h)
  have h2 : s2.pinsKept := pinsKept_of (pinView_parts ..) h1
  have h3 : s3.pinsKept := pinsKept_of (pinView_parts ..) h1
  have h4 : s4.pinsKept := pinsKept_ite (pinsKept_ite (fadd_pinsKept h3 (fieldBeside rfl)) (segmentBad_pinsKept h3)) h3
  exact pinsKept_ite h (pinsKept_ite (pinsKept_ite h2 (pinsKept_of (nextSegment_pinView ..) h2)) (pinsKept_of (nextSegment_pinView ..) h4))

theorem laneTest_pinsKept {s : State} {errs : List Word} (h : s.pinsKept) : (State.laneTest s errs).pinsKept := by
  unfold State.laneTest
  extract_lets _ _ _ _ s1
  have h1 : s1.pinsKept := fadd_pinsKept (pinsKept_of (nextSeed_pinView ..) (pinsKept_of (pinView_parts ..) h)) (fieldBeside rfl)
  refine pinsKept_ite h ?_
  refine pinsKept_ite (fadd_pinsKept h (fieldBeside rfl)) ?_
  exact pinsKept_ite h1 (raise_pinsKept (pinsKept_of (sounding_pinView ..) (pinsKept_of (twinBad_pinView ..) h1)))

theorem xGIntervalStart_pinsKept {n : Nat} {upset : List Nat} {q : Slice} {errs : List Word} {s : State} (h : s.pinsKept) :
    (xGIntervalStart n upset q errs s).pinsKept := by
  rw [xGIntervalStart]
  exact pinsKept_ite h (pinsKept_ite (slice_pinsKept (laneTest_pinsKept (spillTest_pinsKept h))) (spillTest_pinsKept h))

theorem xNoSurfaceTick_pinsKept {q : Slice} {errs : List Word} {s : State} (h : s.pinsKept) : (xNoSurfaceTick q errs s).pinsKept := by
  rw [xNoSurfaceTick]
  exact pinsKept_ite h (pinsKept_of (rotateLanes_pinView ..) (slice_pinsKept h))

theorem loopPort_pinsKept {p : Nat} {s : State} (h : s.pinsKept) : (loopPort p s).pinsKept := by
  rw [loopPort]
  exact pinsKept_ite (setLane_pinsKept (pinsKept_of (setPort_pinView ..) h)) h

theorem xLoopbackCheck_pinsKept {s : State} (h : s.pinsKept) : (xLoopbackCheck s).pinsKept := by
  rw [xLoopbackCheck]
  exact pinsKept_ite (overAll_pinsKept (fun _ _ ht => loopPort_pinsKept ht) _ h) h

theorem xLoopbackCheckEnd_pinsKept {p : Nat} {bits : List Bool} {s : State} (h : s.pinsKept) : (xLoopbackCheckEnd p bits s).pinsKept := by
  rw [xLoopbackCheckEnd]
  refine pinsKept_ite h ?_
  refine pinsKept_ite ?_ ?_
  · exact fset_pinsKept (setLane_pinsKept (pinsKept_of (setPort_pinView ..) h)) (fieldBeside rfl)
  · exact pinsKept_of (sounding_pinView ..) (fsetb_pinsKept (fset_pinsKept (setLane_pinsKept (pinsKept_of (setPort_pinView ..) h)) (fieldBeside rfl))
      (fieldBeside rfl))

theorem lineFault_pinsKept {s : State} {region addr : Nat} (h : s.pinsKept) : (State.lineFault s region addr).pinsKept := by
  rw [State.lineFault]
  refine pinsKept_ite ?_ ?_
  · exact raise_pinsKept (pinsKept_of (pinView_parts ..) h)
  · refine pinsKept_ite ?_ ?_
    · exact enterLimp_pinsKept (pinsKept_of (yieldNow_pinView ..) (raise_pinsKept (pinsKept_of (pinView_parts ..) h)))
    · exact raise_pinsKept (pinsKept_of (pinView_parts ..) h)

theorem lineRead_pinsKept {s : State} {addr : Nat} {stored : List Byte} {region target index line : Nat} (h : s.pinsKept) :
    (State.lineRead s addr stored region target index line).pinsKept := by
  rw [State.lineRead]
  split
  · exact h
  · exact pinsKept_of (memoryEvent_pinView ..) (fset_pinsKept (fadd_pinsKept (fadd_pinsKept h (fieldBeside rfl)) (fieldBeside rfl)) (fieldBeside rfl))
  · exact pinsKept_of (memoryEvent_pinView ..) (fadd_pinsKept (fadd_pinsKept h (fieldBeside rfl)) (fieldBeside rfl))
  · refine lineFault_pinsKept (pinsKept_of (memoryEvent_pinView ..) ?_)
    refine pinsKept_ite ?_ ?_
    · exact pinsKept_of (lineLost_pinView ..) (fset_pinsKept (fset_pinsKept (fadd_pinsKept h (fieldBeside rfl)) (fieldBeside rfl)) (fieldBeside rfl))
    · exact fset_pinsKept (fset_pinsKept (fadd_pinsKept h (fieldBeside rfl)) (fieldBeside rfl)) (fieldBeside rfl)

theorem xPixelStoreRead_pinsKept {addr : Nat} {stored : List Byte} {region target index line : Nat} {s : State} (h : s.pinsKept) :
    (xPixelStoreRead addr stored region target index line s).pinsKept := by
  rw [xPixelStoreRead]
  exact pinsKept_ite (lineRead_pinsKept h) h

theorem xScrubRead_pinsKept {stored : List Byte} {region target index line : Nat} {s : State} (h : s.pinsKept) :
    (xScrubRead stored region target index line s).pinsKept := by
  rw [xScrubRead]
  exact pinsKept_ite h (lineRead_pinsKept (fset_pinsKept (fsetb_pinsKept h (fieldBeside rfl)) (fieldBeside rfl)))

theorem sramLost_pinsKept {s : State} {user target index : Nat} (h : s.pinsKept) : (s.sramLost user target index).pinsKept := by
  unfold State.sramLost
  split
  · exact pinsKept_of (abandonJob_pinView _) h
  · exact pinsKept_of (setShade_pinView ..) h
  · exact pinsKept_of (dropSent_pinView ..) (xLinePacketDeadline_pinsKept h)
  · exact fadd_pinsKept h (fieldBeside rfl)
  · refine pinsKept_ite ?_ (pinsKept_of (dropRecord_pinView ..) h)
    split
    · exact pinsKept_of (rejectDesc_pinView ..) h
    · exact h
  · exact pinsKept_of (notAligned_pinView ..) h
  · exact h

theorem xSramEccError_pinsKept {safe double : Bool} {word array user target index : Nat} {s : State} (h : s.pinsKept) :
    (xSramEccError safe double word array user target index s).pinsKept := by
  unfold xSramEccError
  extract_lets s1
  have h1 : s1.pinsKept := pinsKept_of (eventDev_pinView ..) (fadd_pinsKept h (fieldBeside rfl))
  refine pinsKept_ite h ?_
  refine pinsKept_ite (fadd_pinsKept h (fieldBeside rfl)) ?_
  refine pinsKept_ite ?_ ?_
  · exact pinsKept_of (startReload_pinView ..) (raise_pinsKept h1)
  · exact pinsKept_ite (raise_pinsKept h1) (raiseBrief_pinsKept (sramLost_pinsKept h1))

/-! ### The twin -/

theorem roleSettled_pinsKept {s : State} (h : s.pinsKept) : (roleSettled s).pinsKept := by
  rw [roleSettled]
  refine pinsKept_ite h ?_
  exact overAll_pinsKept (fun _ _ ht => pinsKept_of (freePresents_pinView ..) ht) _ (foldl_pinsKept (fun _ _ ht => twinApply_pinsKept ht) _ (pinsKept_of
    (setTwin_pinView ..) h))

theorem xTwinEnable_pinsKept {s : State} (h : s.pinsKept) : (xTwinEnable s).pinsKept := by
  rw [xTwinEnable]
  refine pinsKept_ite h ?_
  exact linkUp_pinsKept (linkUp_pinsKept (pinsKept_of (setTwin_pinView ..) (fsetb_pinsKept (fsetb_pinsKept (pinsKept_of (setRole_pinView ..)
    (fsetb_pinsKept h (fieldBeside rfl))) (fieldBeside rfl)) (fieldBeside rfl))))

theorem xTwinDisable_pinsKept {s : State} (h : s.pinsKept) : (xTwinDisable s).pinsKept := by
  rw [xTwinDisable]
  refine pinsKept_ite h ?_
  exact roleSettled_pinsKept (clearFault_pinsKept (pinsKept_of (setTwin_pinView ..) (fsetb_pinsKept (fsetb_pinsKept (pinsKept_of (setRole_pinView ..)
    (fsetb_pinsKept h (fieldBeside rfl))) (fieldBeside rfl)) (fieldBeside rfl))))

theorem leadHears_pinsKept {s : State} {old : Nat} (h : s.pinsKept) : (State.leadHears s old).pinsKept := by
  rw [State.leadHears]
  refine pinsKept_ite ?_ (pinsKept_ite (clearFault_pinsKept h) h)
  exact pinsKept_of (twinEvent_pinView ..) (pinsKept_of (setTwin_pinView ..) (pinsKept_ite (clearFault_pinsKept h) h))

theorem twinTotality_pinsKept {s : State} (h : s.pinsKept) : (State.twinTotality s).pinsKept := by
  rw [State.twinTotality]
  exact pinsKept_ite (totRelease_pinsKept (pinsKept_of (setTwin_pinView ..) h)) (pinsKept_of (setTwin_pinView ..) h)

theorem xHeartbeatReceived_pinsKept {link seq : Nat} {body : List Byte} {stamp : Nat} {s : State} (h : s.pinsKept) :
    (xHeartbeatReceived link seq body stamp s).pinsKept := by
  unfold xHeartbeatReceived
  extract_lets hears r s1 s2 old s3 s4 s5 s6
  have h1 : s1.pinsKept := pinsKept_of (twinTake_pinView ..) h
  have h2 : s2.pinsKept := pinsKept_ite (pinsKept_of (measureLag_pinView ..) h1) h1
  have h3 : s3.pinsKept := pinsKept_of (setTwin_pinView ..) h2
  have h4 : s4.pinsKept := fsetb_pinsKept (fset_pinsKept h3 (fieldBeside rfl)) (fieldBeside rfl)
  have h5 : s5.pinsKept := pinsKept_ite (pinsKept_of (pairWith_pinView ..) h4) h4
  have h6 : s6.pinsKept := pinsKept_ite (leadHears_pinsKept h5) (pinsKept_ite (pinsKept_of (companionHears_pinView ..) h5) h5)
  exact pinsKept_ite h1 (pinsKept_ite h2 (twinTotality_pinsKept h6))

theorem xLeadSilent_pinsKept {s : State} (h : s.pinsKept) : (xLeadSilent s).pinsKept := by
  rw [xLeadSilent]
  refine pinsKept_ite h ?_
  refine pinsKept_ite ?_ ?_
  · exact pinsKept_of (takeTiles_pinView ..) (pinsKept_ite h (totRelease_pinsKept (raise_pinsKept (fsetb_pinsKept h (fieldBeside rfl)))))
  · exact pinsKept_ite h (totRelease_pinsKept (raise_pinsKept (fsetb_pinsKept h (fieldBeside rfl))))

theorem xTwinK280Received_pinsKept {link : Nat} {s : State} (h : s.pinsKept) : (xTwinK280Received link s).pinsKept := by
  rw [xTwinK280Received]
  exact pinsKept_ite h (pinsKept_ite (pinsKept_of (setTwin_pinView ..) h) (raise_pinsKept (totRequest_pinsKept (pinsKept_of (setTwin_pinView ..) h))))

theorem arbReply_pinsKept {s : State} {frame n : Nat} {comp : Bool} (h : s.pinsKept) : (State.arbReply s frame n comp).pinsKept := by
  rw [State.arbReply]
  refine pinsKept_ite ?_ ?_
  · exact pinsKept_of (setTwin_pinView ..) (pinsKept_of (twinEvent_pinView ..) (pinsKept_of (sendTwin_pinView ..) (pinsKept_of (setTwinSurf_pinView ..)
      (raise_pinsKept h))))
  · exact pinsKept_of (twinEvent_pinView ..) (pinsKept_of (sendTwin_pinView ..) (pinsKept_of (setTwinSurf_pinView ..) (raise_pinsKept h)))

theorem xArbitrateReceived_pinsKept {link seq : Nat} {body : List Byte} {s : State} (h : s.pinsKept) : (xArbitrateReceived link seq body s).pinsKept := by
  rw [xArbitrateReceived]
  refine pinsKept_ite ?_ ?_
  · exact pinsKept_of (twinTake_pinView ..) h
  · refine pinsKept_ite ?_ ?_
    · split
      · exact pinsKept_ite (pinsKept_of (arbDecide_pinView ..) (pinsKept_of (twinTake_pinView ..) h)) (pinsKept_of (twinTake_pinView ..) h)
      · exact pinsKept_of (twinTake_pinView ..) h
    · exact pinsKept_ite (arbReply_pinsKept (pinsKept_of (twinTake_pinView ..) h)) (pinsKept_of (twinTake_pinView ..) h)

theorem judgeLink_pinsKept {came t : Nat} {s : State} (h : s.pinsKept) : (judgeLink came t s).pinsKept := by
  unfold judgeLink
  extract_lets s1 _ s2
  have h1 : s1.pinsKept := fadd_pinsKept (pinsKept_of (setLink_pinView ..) h) (fieldBeside rfl)
  have h2 : s2.pinsKept := raise_pinsKept h1
  exact pinsKept_ite (twinFaultOver_pinsKept (pinsKept_of (setLink_pinView ..) h)) (pinsKept_ite h1 (pinsKept_ite (enterRetrain_pinsKept h2) h2))

theorem frameMatched_pinsKept {s : State} {n : Nat} (h : s.pinsKept) : (State.frameMatched s n).pinsKept := by
  rw [State.frameMatched]
  refine pinsKept_ite ?_ ?_
  · exact pinsKept_of (setTwinSurf_pinView ..) (pinsKept_of (setTwinSurf_pinView ..) (fadd_pinsKept h (fieldBeside rfl)))
  · exact clearFault_pinsKept (pinsKept_of (setTwinSurf_pinView ..) (pinsKept_of (setTwinSurf_pinView ..) (fadd_pinsKept h (fieldBeside rfl))))

theorem frameDiffers_pinsKept {s : State} {n frame : Nat} (h : s.pinsKept) : (State.frameDiffers s n frame).pinsKept := by
  rw [State.frameDiffers]
  exact pinsKept_of (sendTwin_pinView ..) (pinsKept_of (setTwin_pinView ..) (pinsKept_of (setTwinSurf_pinView ..) (raise_pinsKept (fset_pinsKept
    (fadd_pinsKept h (fieldBeside rfl)) (fieldBeside rfl)))))

theorem xTwinCompare_pinsKept {n : Nat} {s : State} (h : s.pinsKept) : (xTwinCompare n s).pinsKept := by
  have hj := fun came => overAll_pinsKept (f := judgeLink came) (fun _ _ h => judgeLink_pinsKept h) 2 h
  rw [xTwinCompare]
  refine pinsKept_ite h (pinsKept_ite (pinsKept_of (compareDone_pinView ..) h) ?_)
  split
  · exact h
  extract_lets q came t
  have ht : t.pinsKept := hj came
  split
  · exact pinsKept_of (compareDone_pinView ..) (fadd_pinsKept ht (fieldBeside rfl))
  · exact pinsKept_of (compareDone_pinView ..) (fadd_pinsKept ht (fieldBeside rfl))
  · exact pinsKept_of (compareDone_pinView ..) (frameMatched_pinsKept ht)
  · exact pinsKept_of (compareDone_pinView ..) (frameDiffers_pinsKept ht)

/-! ### Temperature -/

theorem xThermalShutdown_pinsKept {s : State} (h : s.pinsKept) : (xThermalShutdown s).pinsKept := by
  rw [xThermalShutdown]
  refine pinsKept_ite ?_ ?_
  · exact pinsKept_ite (fsetb_pinsKept (pinsKept_of (pinView_aon ..) h) (fieldBeside rfl)) (pinsKept_of (pinView_aon ..) h)
  · exact raise_pinsKept (pinsKept_ite (fsetb_pinsKept (pinsKept_of (pinView_aon ..) h) (fieldBeside rfl)) (pinsKept_of (pinView_aon ..) h))

theorem xThermalShutdownClear_pinsKept {s : State} (h : s.pinsKept) : (xThermalShutdownClear s).pinsKept := by
  rw [xThermalShutdownClear]
  exact clearFault_pinsKept (totRelease_pinsKept (fsetb_pinsKept (pinsKept_of (pinView_aon ..) h) (fieldBeside rfl)))

theorem itemFails_pinsKept {s : State} {item : Nat} (h : s.pinsKept) : (State.itemFails s item).pinsKept := by
  rw [State.itemFails]
  exact raise_pinsKept (fsetb_pinsKept (fset_pinsKept (pinsKept_of (calFail_pinView ..) h) (fieldBeside rfl)) (fieldBeside rfl))

theorem xCalibrationItemDone_pinsKept {first second : List Int} {s : State} (h : s.pinsKept) : (xCalibrationItemDone first second s).pinsKept := by
  rw [xCalibrationItemDone]
  split
  · exact h
  · refine pinsKept_ite h ?_
    refine pinsKept_ite (pinsKept_of (setRun_pinView ..) h) ?_
    refine pinsKept_ite ?_ ?_
    · exact pinsKept_of (setRun_pinView ..) (pinsKept_of (takeTrim_pinView ..) h)
    · exact pinsKept_ite (pinsKept_of (setRun_pinView ..) h) (pinsKept_of (setRun_pinView ..) (itemFails_pinsKept h))

theorem runPasses_pinsKept {s : State} {r : CalRun} (h : s.pinsKept) : (State.runPasses s r).pinsKept := by
  rw [State.runPasses]
  exact pinsKept_of (setTherm_pinView ..) (clearFault_pinsKept (fsetb_pinsKept (fseti_pinsKept (fset_pinsKept h (fieldBeside rfl)) (fieldBeside rfl))
    (fieldBeside rfl)))

theorem xCalibrationRunDone_pinsKept {s : State} (h : s.pinsKept) : (xCalibrationRunDone s).pinsKept := by
  unfold xCalibrationRunDone
  extract_lets s1 s2
  have h1 : s1.pinsKept := fsetb_pinsKept (pinsKept_of (setTherm_pinView ..) h) (fieldBeside rfl)
  have h2 : s2.pinsKept := fadd_pinsKept h1 (fieldBeside rfl)
  split
  · exact h
  · refine pinsKept_ite h ?_
    refine pinsKept_ite ?_ ?_
    · refine pinsKept_of (calTrigger_pinView ..) (fsetb_pinsKept ?_ (fieldBeside rfl))
      refine pinsKept_ite ?_ ?_
      · refine fsetb_pinsKept ?_ (fieldBeside rfl)
        refine pinsKept_ite ?_ ?_
        · exact fsetb_pinsKept (pinsKept_ite (fadd_pinsKept h2 (fieldBeside rfl)) (runPasses_pinsKept h2)) (fieldBeside rfl)
        · exact pinsKept_ite (fadd_pinsKept h2 (fieldBeside rfl)) (runPasses_pinsKept h2)
      · refine pinsKept_ite ?_ ?_
        · exact fsetb_pinsKept (pinsKept_ite (fadd_pinsKept h2 (fieldBeside rfl)) (runPasses_pinsKept h2)) (fieldBeside rfl)
        · exact pinsKept_ite (fadd_pinsKept h2 (fieldBeside rfl)) (runPasses_pinsKept h2)
    · refine pinsKept_ite ?_ ?_
      · refine fsetb_pinsKept ?_ (fieldBeside rfl)
        refine pinsKept_ite ?_ ?_
        · exact fsetb_pinsKept (pinsKept_ite (fadd_pinsKept h2 (fieldBeside rfl)) (runPasses_pinsKept h2)) (fieldBeside rfl)
        · exact pinsKept_ite (fadd_pinsKept h2 (fieldBeside rfl)) (runPasses_pinsKept h2)
      · refine pinsKept_ite ?_ ?_
        · exact fsetb_pinsKept (pinsKept_ite (fadd_pinsKept h2 (fieldBeside rfl)) (runPasses_pinsKept h2)) (fieldBeside rfl)
        · exact pinsKept_ite (fadd_pinsKept h2 (fieldBeside rfl)) (runPasses_pinsKept h2)

/-! ### The life cycle -/

theorem xCommClose_pinsKept {s : State} (h : s.pinsKept) : (xCommClose s).pinsKept := by
  rw [xCommClose]
  exact closeSession_pinsKept h

theorem xCommSessionTimeout_pinsKept {s : State} (h : s.pinsKept) : (xCommSessionTimeout s).pinsKept := by
  rw [xCommSessionTimeout]
  exact closeSession_pinsKept h

theorem setLc_pinsKept {s : State} {lc perms : Nat} (h : s.pinsKept) : (State.setLc s lc perms).pinsKept := by
  rw [State.setLc]
  exact pinsKept_of (closeDebug_pinView ..) (fset_pinsKept (leaveService_pinsKept (closeSession_pinsKept (pinsKept_of (showLc_pinView ..) h)))
    (fieldBeside rfl))

theorem burnLc_pinsKept {s : State} {lc : Nat} (h : s.pinsKept) : (State.burnLc s lc).pinsKept := by
  rw [State.burnLc]
  exact setLc_pinsKept (pinsKept_of (setBoot_pinView ..) h)

/-- A life-cycle write that is taken leaves the pins low. -/
def LcOutcome.pinsKept (o : LcOutcome) : Prop := ∀ t, o = .taken t → t.pinsKept

theorem lcOutcome_pinsKept {c : Prop} [Decidable c] {t : State} {r : Bool} (h : t.pinsKept) : LcOutcome.pinsKept (if c then .taken t else .refused r) := by
  intro u hu
  split at hu
  · cases hu
    exact h
  · cases hu

theorem lcAdvance_pinsKept {s : State} (h : s.pinsKept) : s.lcAdvance.pinsKept := lcOutcome_pinsKept (burnLc_pinsKept h)

theorem lcToField_pinsKept {s : State} (h : s.pinsKept) : s.lcToField.pinsKept := lcOutcome_pinsKept (burnLc_pinsKept h)

theorem lcRetire_pinsKept {s : State} (h : s.pinsKept) : s.lcRetire.pinsKept :=
  lcOutcome_pinsKept (burnLc_pinsKept (fsetb_pinsKept (pinsKept_of (setBoot_pinView ..) h) (fieldBeside rfl)))

theorem lcAfter_pinsKept {s : State} {bit : Nat} {o : LcOutcome} (h : s.pinsKept) (ho : o.pinsKept) : (s.lcAfter bit o).pinsKept := by
  cases o with
  | taken t => exact ho t rfl
  | refused c => exact pinsKept_of (lcRefused_pinView ..) h

theorem xLcAdvance_pinsKept {s : State} (h : s.pinsKept) : (xLcAdvance s).pinsKept := pinsKept_ite (lcAfter_pinsKept h (lcAdvance_pinsKept h)) h

theorem xLcToField_pinsKept {s : State} (h : s.pinsKept) : (xLcToField s).pinsKept := pinsKept_ite (lcAfter_pinsKept h (lcToField_pinsKept h)) h

theorem xLcRetire_pinsKept {s : State} (h : s.pinsKept) : (xLcRetire s).pinsKept := pinsKept_ite (lcAfter_pinsKept h (lcRetire_pinsKept h)) h

theorem enterAccepted_pinsKept {s : State} (h : s.pinsKept) : (State.enterAccepted s).pinsKept := by
  rw [State.enterAccepted]
  refine pinsKept_ite ?_ ?_
  · exact pinsKept_of (openSession_pinView ..) (setLc_pinsKept (pinsKept_of (writeLc_pinView ..) (pinsKept_of (showLock_pinView ..) (fset_pinsKept h
      (fieldBeside rfl)))))
  · exact setLc_pinsKept (pinsKept_of (writeLc_pinView ..) (pinsKept_of (showLock_pinView ..) (fset_pinsKept h (fieldBeside rfl))))

theorem xLcEnter_pinsKept {s : State} (h : s.pinsKept) : (xLcEnter s).pinsKept := by
  rw [xLcEnter]
  refine pinsKept_ite h ?_
  refine pinsKept_ite (fsetb_pinsKept h (fieldBeside rfl)) ?_
  refine pinsKept_ite ?_ ?_
  · exact pinsKept_of (enterFails_pinView ..) (fsetb_pinsKept h (fieldBeside rfl))
  · refine pinsKept_ite ?_ ?_
    · exact enterAccepted_pinsKept (fsetb_pinsKept h (fieldBeside rfl))
    · exact pinsKept_of (enterFails_pinView ..) (fsetb_pinsKept h (fieldBeside rfl))

theorem xLcLeave_pinsKept {s : State} (h : s.pinsKept) : (xLcLeave s).pinsKept := by
  rw [xLcLeave]
  exact pinsKept_ite (setLc_pinsKept h) h

theorem xDebugAccessOpen_pinsKept {s : State} (h : s.pinsKept) : (xDebugAccessOpen s).pinsKept := by
  rw [xDebugAccessOpen]
  exact pinsKept_ite h (totRequest_pinsKept (fsetb_pinsKept h (fieldBeside rfl)))

/-! ### Reset -/

theorem modeReset_samePins (s : State) : SamePins s s.modeReset := by
  have ha := modeReset_aon s
  exact ⟨by rw [ha], by rw [ha]⟩

theorem modeReset_awake (s : State) : s.modeReset.inSentinel = false := inSentinel_of_busy (modeReset_mode s).2.2

theorem xResetNAssert_pinView {s : State} (hp : s.aon.faultPins = true) (hm : s.inSentinel = false) : (xResetNAssert s).pinView = ⟨true, true, false⟩ := by
  cases hr : s.aon.resetHeld with
  | true => rw [xResetNAssert, if_pos hr, State.pinView, hr, hp, hm]
  | false =>
    have ha : s.resetFallen.modeReset.pinView = ⟨true, true, false⟩ := by
      rw [State.pinView, (modeReset_samePins _).held, (modeReset_samePins _).low, modeReset_awake]
      exact congrArg (PinView.mk true · false) hp
    have hu := (setSup_pinView s.resetFallen.modeReset.dieDReset fun u => { u with restoring := false, shedDue := false }).trans
      ((dieDReset_pinView _).trans ha)
    obtain ⟨hheld, hlow, hmode⟩ := PinView.mk.inj hu
    rw [xResetNAssert_eq hr, if_neg (by rw [hm]; decide), drivePins_pinView, hheld, hmode, pinsLow_of_held hheld hmode hlow]

theorem xResetNAssert_pinsStayLow {s : State} (hp : s.aon.faultPins = true) (hm : s.inSentinel = false) : (xResetNAssert s).pinsStayLow :=
  fun _ _ => (PinView.mk.inj (xResetNAssert_pinView hp hm)).2.1

theorem resetLimp_pinsKept {s : State} (h : s.pinsKept) : (State.resetLimp s).pinsKept := by
  rw [State.resetLimp]
  exact limpBoot_pinsKept (pinsKept_ite h (pinsKept_of (railsDown_pinView ..) h))

theorem resetBoot_pinsKept {s : State} (h : s.pinsKept) : (State.resetBoot s).pinsKept := by
  rw [State.resetBoot]
  exact pinsKept_ite (resetLimp_pinsKept h) (pinsKept_ite (pinsKept_of (setSup_pinView ..) h) (railsUp_pinsKept h))

theorem xResetNRelease_pinsKept {left xspiSafe : Bool} {s : State} (h : s.pinsKept) : (xResetNRelease left xspiSafe s).pinsKept := by
  have ha : ({ s with aon := { s.aon with resetHeld := false } } : State).pinsKept := pinsKept_of_released rfl
  unfold xResetNRelease
  extract_lets aon t u v w
  have hu : u.pinsKept := pinsKept_of (setBoot_pinView ..) ha
  refine pinsKept_ite h (pinsKept_ite ?_ ?_)
  · split
    · exact hu
    · exact beginWake_pinsKept (pinsKept_of (setMode_pinView ..) hu)
  · exact resetBoot_pinsKept (pinsKept_of (calTrigger_pinView _) (drivePins_pinsKept (pinsKept_of (setSup_pinView ..) (pinsKept_of (setBoot_pinView ..) ha))))

theorem xStuckResetTimeout_pinsKept {s : State} (h : s.pinsKept) : (xStuckResetTimeout s).pinsKept :=
  pinsKept_ite (drivePins_pinsKept (pinsKept_of (pinView_aon ..) (fsetb_pinsKept (f := R.PWR_RESET_STUCK_RESET) h (fieldBeside rfl)))) h

theorem bootMode_pinsStayLow {s : State} (h : s.pinsKept) : s.bootMode.pinsStayLow := by
  have hl := fun hh => (h hh).1
  have hs := (modeSet_samePins s 1 3).view (idleRestart_pinView _)
  rw [State.bootMode]
  exact pinsStayLow_ite (replay_pinsStayLow hl) (replay_pinsStayLow (hs.stillLow h))

theorem xBootComplete_pinsStayLow {p : PostResult} {s : State} (h : s.pinsKept) : (xBootComplete p s).pinsStayLow := by
  rw [xBootComplete]
  exact pinsStayLow_ite h.stayLow (pinsStayLow_ite (bootHalt_pinsKept h (fieldBeside rfl)).stayLow (bootMode_pinsStayLow (bootDone_pinsKept h)))

theorem xRestorationComplete_pinsKept {p : PostResult} {s : State} (h : s.pinsKept) : (xRestorationComplete p s).pinsKept := by
  rw [xRestorationComplete]
  refine pinsKept_ite h ?_
  exact pinsKept_of (reloadWaiting_pinView ..) (bootDone_pinsKept (powerUp_pinsKept (pinsKept_of (setSup_pinView ..) (fsetb_pinsKept h (fieldBeside rfl)))))

/-! ### The LIMP store and the safety pair -/

theorem pairAim_pinsKept {s : State} {b : Spb} {n : Nat} {q : PairInput} {av ah : Int} (h : s.pinsKept) : (State.pairAim s b n q av ah).pinsKept := by
  unfold State.pairAim
  extract_lets _ _ _ _ _ _ _ _ s1 s2 s3
  have h1 : s1.pinsKept := pinsKept_of (pinView_parts ..) h
  have h2 : s2.pinsKept := pinsKept_ite (pinsKept_of (setSpill_pinView ..) h1) h1
  have h3 : s3.pinsKept := pinsKept_ite (raise_pinsKept h2) h2
  exact pinsKept_ite (raise_pinsKept h3) h3

theorem probeCheck_pinsKept {p : Nat} {s : State} (h : s.pinsKept) : (probeCheck p s).pinsKept := by
  rw [probeCheck]
  refine pinsKept_ite ?_ (fset_pinsKept h (arrayBeside rfl rfl))
  exact raise_pinsKept (pinsKept_of (tileHealth_pinView ..) (pinsKept_of (setHl_pinView ..) (fset_pinsKept h (arrayBeside rfl rfl))))

theorem pairCheck_pinsKept {s : State} {b : Spb} {n : Nat} {q : PairInput} {sums codes : List (Nat × Nat)} {off : Option (Int × Int)} (h : s.pinsKept) :
    (State.pairCheck s b n q sums codes off).pinsKept := by
  rw [State.pairCheck]
  refine pinsKept_ite ?_ ?_
  · exact raise_pinsKept (pairAim_pinsKept (pinsKept_ite (raise_pinsKept (pinsKept_of (pinView_parts ..) h)) (pinsKept_of (pinView_parts ..) h)))
  · exact pairAim_pinsKept (pinsKept_ite (raise_pinsKept (pinsKept_of (pinView_parts ..) h)) (pinsKept_of (pinView_parts ..) h))

theorem xSafetyPairCheckDone_pinsKept {n : Nat} {sums codes : List (Nat × Nat)} {off : Option (Int × Int)} {s : State} (h : s.pinsKept) :
    (xSafetyPairCheckDone n sums codes off s).pinsKept := by
  rw [xSafetyPairCheckDone]
  split
  · exact overList_pinsKept (fun _ _ ht => probeCheck_pinsKept ht) _ (pairCheck_pinsKept h)
  · exact h

/-! ### Register writes -/

theorem writeLC_pinsKept {before : State} {a v : Nat} {w : Writing} {f : FieldSpec} (h : w.s.pinsKept) (ha : a ≠ 0x20100) :
    (writeLC before a v w f).s.pinsKept := by
  have hp : (w.s.putField a f v).pinsKept := pinsKept_of (putField_pinView _ _ _ _ ha) h
  unfold writeLC
  extract_lets x t
  split
  · split
    · exact h
    split
    · exact pinsKept_of (xLegacyEnable_pinView ..) h
    split
    · exact h
    · exact pinsKept_of (regionMoved_pinView ..) hp
  · split
    · exact h
    split
    · split
      · exact h
      split
      · exact xTileRelease_pinsKept h
      · exact h
    split
    · exact pinsKept_ite (pinsKept_of (showConfirmed_pinView _) h) h
    split
    · exact pinsKept_ite (pinsKept_of (showConfirmed_pinView _) hp) hp
    · exact h
  · exact h

theorem actPwr_pinsKept {s : State} {a v : Nat} (h : s.pinsKept) : (State.actPwr s a v).pinsKept := by
  rw [State.actPwr]
  exact pinsKept_ite (xDomainOffRequest_pinsKept h) (pinsKept_ite (pinsKept_of (setMode_pinView ..) h) h)

theorem actTg_pinsKept {s : State} {a v : Nat} (h : s.pinsKept) : (State.actTg s a v).pinsKept := by
  rw [State.actTg]
  refine pinsKept_ite ?_ ?_
  · exact pinsKept_ite (xTgEnable_pinsKept h) (xTgDisable_pinsKept h)
  · exact pinsKept_ite (pinsKept_of (tickLow_pinView ..) h) (pinsKept_ite (pinsKept_of (clearRefused_pinView ..) h) h)

theorem actTile_pinsKept {s : State} {a v : Nat} (h : s.pinsKept) : (State.actTile s a v).pinsKept := by
  unfold State.actTile
  extract_lets _ s1
  have h1 : s1.pinsKept := pinsKept_ite (xLaneEnable_pinsKept h) (xLaneDisable_pinsKept h)
  refine pinsKept_ite h ?_
  refine pinsKept_ite ?_ ?_
  · exact pinsKept_ite (xLaneRetrain_pinsKept h1) h1
  · exact pinsKept_ite (pinsKept_of (showLegDn_pinView ..) h) (pinsKept_ite (pinsKept_ite (xLoopbackStart_pinsKept h) (xPrbsStart_pinsKept h)) h)

theorem actTwin_pinsKept {s : State} {a v : Nat} (h : s.pinsKept) : (State.actTwin s a v).pinsKept := by
  unfold State.actTwin
  extract_lets s1 s2 _ _ s3
  have h1 : s1.pinsKept := pinsKept_ite (xTwinEnable_pinsKept h) (xTwinDisable_pinsKept h)
  have h2 : s2.pinsKept := pinsKept_ite (pinsKept_of (xTwinHandover_pinView ..) h1) h1
  have h3 : s3.pinsKept := pinsKept_ite (pinsKept_ite h (xTwinLaneEnable_pinsKept h)) (pinsKept_ite (linkDown_pinsKept h) h)
  refine pinsKept_ite ?_ ?_
  · exact pinsKept_ite (pinsKept_of (xTwinRejoin_pinView ..) h2) h2
  · exact pinsKept_ite h (pinsKept_ite (pinsKept_ite (xLaneRetrain_pinsKept h3) h3) (pinsKept_ite (xPrbsStart_pinsKept h) h))

theorem actSeg_pinsKept {s : State} {a v : Nat} (h : s.pinsKept) : (State.actSeg s a v).pinsKept := by
  rw [State.actSeg]
  exact pinsKept_ite (xSegChannelClear_pinsKept h) (pinsKept_ite (xSegRailEnable_pinsKept h) (pinsKept_ite (pinsKept_of (xSegBankRun_pinView ..) h) h))

theorem actSafe_pinsKept {s : State} {a v : Nat} (h : s.pinsKept) : (State.actSafe s a v).pinsKept := by
  rw [State.actSafe]
  refine pinsKept_ite ?_ h
  exact pinsKept_ite (xCommClose_pinsKept (pinsKept_ite (pinsKept_of (xCommOpen_pinView ..) h) h)) (pinsKept_ite (pinsKept_of (xCommOpen_pinView ..) h) h)

theorem lcBit_pinsKept {v bit : Nat} {go : State → LcOutcome} {w : Writing} (h : w.s.pinsKept) (hg : (go w.s).pinsKept) : (lcBit v bit go w).s.pinsKept := by
  unfold lcBit
  split
  · exact h
  split
  · rename_i t ht
    exact hg t ht
  · exact fsetb_pinsKept h (fieldBeside rfl)

theorem actBoot_pinsKept {a v : Nat} {w : Writing} (h : w.s.pinsKept) : (actBoot a v w).s.pinsKept := by
  have hk : ∀ u : State, u.pinsKept → u.lcKeyBurn.pinsKept := fun u hu t ht => pinsKept_of (lcKeyBurn_pinView u t ht) hu
  unfold actBoot
  split
  · exact h
  extract_lets w1 w2 w3 w4
  have h0 := lcBit_pinsKept (v := v) (bit := 1) (go := State.lcToField) h (lcToField_pinsKept h)
  have h0' := lcBit_pinsKept (v := v) (bit := 2) (go := State.lcKeyBurn) h0 (hk _ h0)
  have h1 : w1.s.pinsKept := lcBit_pinsKept h0' (lcAdvance_pinsKept h0')
  have h2 : w2.s.pinsKept := pinsKept_ite (pinsKept_of (xChalReq_pinView _) h1) h1
  have h3 : w3.s.pinsKept := pinsKept_ite (xLcEnter_pinsKept h2) h2
  have h4 : w4.s.pinsKept := pinsKept_ite (xLcLeave_pinsKept h3) h3
  exact lcBit_pinsKept h4 (lcRetire_pinsKept h4)

theorem regAct_pinsKept {s : State} {a v : Nat} (h : s.pinsKept) : (State.regAct s a v).pinsKept := by
  rw [State.regAct]
  split
  · exact pinsKept_of (actHost_pinView ..) h
  · exact actPwr_pinsKept h
  · exact actTg_pinsKept h
  · exact pinsKept_of (actPix_pinView ..) h
  · exact actTile_pinsKept h
  · exact actTwin_pinsKept h
  · exact actSeg_pinsKept h
  · exact actSafe_pinsKept h
  · exact pinsKept_of (actTherm_pinView ..) h
  · exact pinsKept_ite (pinsKept_of (engineStart_pinView ..) h) h
  · exact pinsKept_of (actNet_pinView ..) h
  · exact h

theorem foldl_writing_pinsKept {f : Writing → FieldSpec → Writing} (hf : ∀ w x, w.s.pinsKept → (f w x).s.pinsKept) (l : List FieldSpec) (w : Writing)
    (h : w.s.pinsKept) : (l.foldl f w).s.pinsKept := by
  induction l generalizing w with
  | nil => exact h
  | cons x l ih => exact ih _ (hf w x h)

theorem writeFields_pinsKept {s : State} {a v : Nat} {fs : List FieldSpec} (h : s.pinsKept) (ha : a ≠ 0x20100) : (s.writeFields a v fs).pinsKept := by
  unfold State.writeFields
  extract_lets w1 w2 w3 w4 w5 w6
  have h1 : w1.s.pinsKept := foldl_writing_pinsKept (fun _ _ hw => writeLC_pinsKept hw ha) fs { s := s } h
  have h2 : w2.s.pinsKept := pinsKept_of (foldl_pinView (fun u f => writeF_pinView a v u f ha) fs w1.s) h1
  have h3 : w3.s.pinsKept := foldl_writing_pinsKept (fun w f hw => pinsKept_of (writeI_pinView a v w f ha) hw) fs w2 h2
  have h4 : w4.s.pinsKept := regAct_pinsKept (pinsKept_of (clrCnt_pinView ..) h3)
  have h5 : w5.s.pinsKept := by
    unfold w5
    split
    · exact pinsKept_of (segLimits_pinView ..) h4
    · exact h4
  have h6 : w6.s.pinsKept := actBoot_pinsKept h5
  exact pinsKept_ite (pinsKept_of (logRefused_pinView ..) h6) h6

/-- PWR_MODE has read-only fields alone: a write changes none. -/
theorem writeFields_pwrMode (s : State) (v : Nat) : s.writeFields 0x20100 v
    [⟨0, 3, .ro, .none, 0⟩, ⟨3, 3, .ro, .none, 1⟩, ⟨6, 1, .ro, .none, 1⟩, ⟨8, 8, .ro, .none, 0⟩, ⟨16, 16, .ro, .none, 3⟩] = s := rfl

theorem writeWord_pinsKept {s : State} {a v : Nat} (h : s.pinsKept) : (s.writeWord a v).pinsKept := by
  refine barWrite_pinsKept (fun t ht => ?_) h
  by_cases ha : a = 0x20100
  · subst ha
    rw [if_neg (by decide), findReg_pwrMode]
    dsimp only
    rw [writeFields_pwrMode]
    exact ht
  · refine pinsKept_ite (pinsKept_of (writeMsix_pinView _ _ _ ha) ht) ?_
    split
    · exact writeFields_pinsKept ht ha
    · exact ht

theorem xRegisterWrite_pinsKept {a v : Nat} {whole : Bool} {s : State} (h : s.pinsKept) : (xRegisterWrite a v whole s).pinsKept := by
  rw [xRegisterWrite]
  exact pinsKept_ite h (pinsKept_ite (pinsKept_of (idleRestart_pinView ..) (pinsKept_of (accessSize_pinView ..) h)) (writeWord_pinsKept h))

end PinsKeptBy

end Sys2Proof.Machine

namespace Sys2Proof.Machine

section Settled

/-! ## The pins after a command

Every command ends by settling the levels, and a tick on an empty queue changes none of their causes. -/

variable {s t : State}

/-! ### The pins after a command -/

theorem exec_done (c : Instr) (s : State) : ∃ t, exec c s = .next (s.after t) := by
  cases c <;> exact ⟨_, rfl⟩

theorem showSafe_faultPins (s : State) : s.showSafe.fbit R.SAFE_STATUS_FAULT_PINS = s.fbit R.SAFE_STATUS_FAULT_PINS := by
  unfold State.showSafe State.fbit State.fsetb
  rw [fget_fset_apart _ _ _ _ (by decide) (by decide) (by decide), fget_fset_apart _ _ _ _ (by decide) (by decide) (by decide),
    fget_fset_apart _ _ _ _ (by decide) (by decide) (by decide)]

/-- While SAFE is on, SAFE_STATUS shows the level that the pins take. -/
theorem levels_shown (h : s.domOn 1 = true) : s.levels.fbit R.SAFE_STATUS_FAULT_PINS = s.pinsLow := by
  have hd : s.drivePins.domOn 1 = true := by
    rw [← h]
    unfold State.domOn State.fget
    rw [(drivePins_only s).rd _ (by decide)]
  have hp : s.drivePins.fbit R.SAFE_STATUS_FAULT_PINS = s.pinsLow := by
    unfold State.drivePins
    dsimp only
    rw [if_pos (by exact h), fbit_fsetb_same _ _ _ (by decide) rfl]
  unfold State.levels
  dsimp only
  rw [if_pos hd, showSafe_faultPins, hp]

theorem faultFld_notStatus (f : Nat) : (faultFld f).addr ≠ 0x90000 := by
  unfold faultFld
  split <;> dsimp only <;> omega

theorem after_pinsWanted (s t : State) : (s.after t).pinsWanted = t.pinsWanted := by
  have hf : ∀ f, (s.after t).faultOn f = t.faultOn f := fun f => after_fbit s t _ (faultFld_notStatus f)
  unfold State.pinsWanted
  simp only [hf, after_fbit s t R.PWR_RESET_STUCK_RESET (by decide), after_fbit s t R.SEG_STATUS_FAULT (by decide),
    after_fbit s t R.SEG_STATUS_RAIL_FAULT (by decide), after_boot, after_mode, after_aon]

theorem after_inSentinel (s t : State) : (s.after t).inSentinel = t.inSentinel := by
  unfold State.inSentinel State.modeNow
  rw [after_fget s t _ (by decide), after_fbit s t _ (by decide)]

/-- Driving the pins once more changes nothing. -/
theorem after_pinsLow (s t : State) : (s.after t).pinsLow = t.pinsLow := by
  have hr : (s.after t).aon.resetHeld = t.aon.resetHeld := by rw [after_aon]
  have hp : (s.after t).aon.faultPins = t.pinsLow := by rw [after_aon]
  rw [State.pinsLow, after_pinsWanted, after_inSentinel, hr, hp]
  unfold State.pinsLow
  cases t.pinsWanted <;> cases t.aon.resetHeld <;> cases t.inSentinel <;> rfl

/-- The levels settle after every command. -/
theorem after_settledPins (s t : State) : (s.after t).settledPins := by
  have hp : (s.after t).aon.faultPins = t.pinsLow := by rw [after_aon]
  refine ⟨hp.trans (after_pinsLow s t).symm, fun hd => ?_⟩
  have hs : (s.after t).fbit R.SAFE_STATUS_FAULT_PINS = t.issueReads.levels.fbit R.SAFE_STATUS_FAULT_PINS := rfl
  have hi : t.issueReads.domOn 1 = true := by
    unfold State.domOn
    rw [(issueReads_only t).fget, ← State.domOn, ← after_domOn s t, hd]
  rw [hp, hs, levels_shown hi, (issueReads_only t).pinsLow]

theorem pinsWanted_of_fault {f : Nat} (h1 : 1 ≤ f) (h41 : f < 41) (hd : faultDrivesPins f = true) (hf : s.faultOn f = true) : s.pinsWanted = true := by
  have : ((List.range 41).any fun f => decide (1 ≤ f) && s.faultOn f && faultDrivesPins f) = true :=
    List.any_eq_true.2 ⟨f, List.mem_range.2 h41, by rw [hf, hd, decide_eq_true h1]; rfl⟩
  unfold State.pinsWanted
  rw [this]
  exact Bool.or_true _

theorem pinsWanted_of_stuckReset (h : s.fbit R.PWR_RESET_STUCK_RESET = true) : s.pinsWanted = true := by
  unfold State.pinsWanted
  rw [h]
  simp only [Bool.true_or]

theorem settledPins.low (h : s.settledPins) (hw : s.pinsWanted = true) : s.aon.faultPins = true := by
  rw [h.1, State.pinsLow, hw, Bool.true_or]

theorem after_low (h : t.pinsStayLow) (hh : (s.after t).aon.resetHeld = true) (hm : (s.after t).inSentinel = false) :
    (s.after t).aon.faultPins = true := by
  rw [after_aon] at hh ⊢
  rw [after_inSentinel] at hm
  exact pinsLow_of_held hh hm (h hh hm)

/-! ### The pins over a tick of the timebase -/

/-- The state without the clock, its tick count, the pins of R42 and what traffic over the lanes changes. -/
def State.sansTick (s : State) : State := { s.sansLanes with clk := {}, ticks := 0, pins := {} }

/-- Only what a tick of the timebase changes: the clock of chapter 05 and the lanes. -/
abbrev OnlyTick := Within State.sansTick fun a => a / 0x10000 = 3 ∨ tileReg a

theorem OnlyLanes.tick (h : OnlyLanes s t) : OnlyTick s t := h.mono (fun _ => rfl) fun _ => Or.inr

theorem slewPass_tick (k : Nat) (s : State) : OnlyTick s (s.slewPass k) := by
  unfold State.slewPass State.setInc
  split
  · exact .refl s
  split
  · exact .parts rfl rfl
  extract_lets u
  have hu : OnlyTick s u := .fsetb (.fset (.fset (.refl s) (.inl rfl)) (.inl rfl)) (.inl rfl)
  clear_value u
  exact hu.trans (.parts rfl rfl)

/-- The clock and its tick count alone. -/
theorem clk_tick (s : State) (c : ClockSt) (n : Nat) : OnlyTick s { s with clk := c, ticks := n } := .parts rfl rfl

theorem clockTicks_tick (k : Nat) (s : State) : OnlyTick s (s.clockTicks k) := by
  rw [State.clockTicks]
  exact .ite ((clk_tick s _ _).trans (slewPass_tick k _)) (clk_tick s s.clk _)

theorem linkMarks_tick (k l : Nat) (s : State) : OnlyTick s (linkMarks k l s) := by
  have hs : ∀ (os : List Output) (u : State), OnlyLanes u (u.sends os) := fun os u => .foldl _ os (fun _ _ _ => .onLane (.refl _)) u
  unfold linkMarks
  exact .ite (OnlyLanes.tick (.onLink (hs _ s))) (OnlyLanes.tick (.onLink (.refl s)))

theorem tickPulseAt_tick (kind n tick : Nat) (s : State) : OnlyTick s (s.tickPulseAt kind n tick) := .ite (.parts rfl rfl) (.refl s)

theorem passTicks_tick (k : Nat) (s : State) : OnlyTick s (s.passTicks k) := by
  unfold State.passTicks
  extract_lets a
  have ha : OnlyTick s a := .trans (.trans (clockTicks_tick k s) (.overList _ _ (fun l _ u => linkMarks_tick k l u) _))
    (.overAll 24 _ (fun p hp u => OnlyLanes.tick (sendQueued_lanes hp _ u)) _)
  exact .ite ha (ha.trans (tickPulseAt_tick ..))

/-- Neither a cause of R384 nor the pins nor what SAFE_STATUS shows of them. -/
theorem OnlyTick.settledPins (h : OnlyTick s t) (hs : s.settledPins) : t.settledPins := by
  have ha : t.aon = s.aon := h.part (fun x => x.aon) fun _ => rfl
  have hb : ∀ f : Fld, f.addr / 0x10000 ≠ 3 ∧ f.addr / 0x10000 ≠ 6 → t.fbit f = s.fbit f := fun f hf => h.fbit f fun h => h.elim hf.1 hf.2
  have hg : ∀ f : Fld, f.addr / 0x10000 ≠ 3 ∧ f.addr / 0x10000 ≠ 6 → t.fget f = s.fget f := fun f hf => h.fget f fun h => h.elim hf.1 hf.2
  have hf : ∀ f, t.faultOn f = s.faultOn f := fun f => hb _ (by rw [faultFld_block]; decide)
  have hw : t.pinsWanted = s.pinsWanted := by
    unfold State.pinsWanted
    simp only [hf, ha, hb R.PWR_RESET_STUCK_RESET (by decide), hb R.SEG_STATUS_FAULT (by decide), hb R.SEG_STATUS_RAIL_FAULT (by decide),
      h.part (fun x => x.boot.halted) fun _ => rfl, h.part (fun x => x.mode.limpCauses) fun _ => rfl]
  have hl : t.pinsLow = s.pinsLow := by
    unfold State.pinsLow State.inSentinel State.modeNow
    rw [hw, ha, hg _ (by decide), hb _ (by decide)]
  unfold State.settledPins State.domOn
  rw [ha, hl, hg _ (by decide), hb _ (by decide)]
  exact hs

/-- Every step settles the levels, a tick on an empty queue because it changes none of their causes. -/
theorem step_settledPins (hs : s.settledPins) (h : step s = .next t) : t.settledPins := by
  unfold step at h
  split at h
  · rw [← Host.Outcome.next.inj h]
    exact OnlyTick.settledPins (passTicks_tick 1 s) hs
  · rename_i c cs _
    obtain ⟨u, hu⟩ := exec_done c { s with pending := cs }
    rw [hu] at h
    rw [← Host.Outcome.next.inj h]
    exact after_settledPins _ u

theorem exec_settledPins {c : Instr} (h : exec c s = .next t) : t.settledPins := by
  obtain ⟨u, hu⟩ := exec_done c s
  rw [hu] at h
  rw [← Host.Outcome.next.inj h]
  exact after_settledPins s u

end Settled

end Sys2Proof.Machine

namespace Sys2Proof.Machine

section FaultPins

/-! ## FAULT_A_N and FAULT_B_N

Each command, by what it does to the pins. -/

/-- No command but the two that apply a power-on reset raises the pins while RESET_N holds DIE-D. -/
theorem exec_pinsStayLow (c : Instr) {s : State} (hc : ∀ a b, c ≠ .powerOnReset a b ∧ c ≠ .collapseResetTimeout a) (hp : s.aon.faultPins = true)
    (hm : s.inSentinel = false) : ∃ t, exec c s = .next (s.after t) ∧ t.pinsStayLow := by
  have h : s.pinsKept := fun _ => ⟨hp, hm⟩
  cases c with
  | powerOnReset a b => exact absurd rfl (hc a b).1
  | collapseResetTimeout a => exact absurd rfl (hc a a).2
  | resetNAssert => exact ⟨_, rfl, xResetNAssert_pinsStayLow hp hm⟩
  | resetNRelease => exact ⟨_, rfl, (xResetNRelease_pinsKept h).stayLow⟩
  | flashReadComplete => exact ⟨_, rfl, (xFlashReadComplete_pinsKept h).stayLow⟩
  | bootComplete => exact ⟨_, rfl, xBootComplete_pinsStayLow h⟩
  | stuckResetTimeout => exact ⟨_, rfl, (xStuckResetTimeout_pinsKept h).stayLow⟩
  | mainOkFall => exact ⟨_, rfl, xMainOkFall_pinsStayLow h⟩
  | mainOkRise => exact ⟨_, rfl, (pinsKept_of (xMainOkRise_pinView ..) h).stayLow⟩
  | bkupHighEnough => exact ⟨_, rfl, (pinsKept_of (xBkupHighEnough_pinView ..) h).stayLow⟩
  | rideThroughExpiry => exact ⟨_, rfl, (xRideThroughExpiry_pinsKept h).stayLow⟩
  | sheddingStart => exact ⟨_, rfl, (pinsKept_of (xSheddingStart_pinView ..) h).stayLow⟩
  | returnTimerExpiry => exact ⟨_, rfl, (xReturnTimerExpiry_pinsKept h).stayLow⟩
  | restorationComplete => exact ⟨_, rfl, (xRestorationComplete_pinsKept h).stayLow⟩
  | supplyCollapse => exact ⟨_, rfl, (xSupplyCollapse_pinsKept h).stayLow⟩
  | railPowerGoodChange => exact ⟨_, rfl, (unpark_pinsKept (xRailPowerGoodChange_pinsKept h)).stayLow⟩
  | railPgTimeout => exact ⟨_, rfl, (unpark_pinsKept (xRailPgTimeout_pinsKept h)).stayLow⟩
  | railRetryTimeout => exact ⟨_, rfl, (pinsKept_of (xRailRetryTimeout_pinView ..) h).stayLow⟩
  | railRecoveryRetry => exact ⟨_, rfl, (xRailRecoveryRetry_pinsKept h).stayLow⟩
  | pmbusTransactionDone => exact ⟨_, rfl, (xPmbusTransactionDone_pinsKept h).stayLow⟩
  | railStatusPoll => exact ⟨_, rfl, (pinsKept_of (xRailStatusPoll_pinView ..) h).stayLow⟩
  | domainOffRequest => exact ⟨_, rfl, (barWrite_pinsKept (fun _ ht => xDomainOffRequest_pinsKept ht) h).stayLow⟩
  | mode => exact ⟨_, rfl, (xMode_pinsKept h).stayLow⟩
  | blank => exact ⟨_, rfl, (xBlank_pinsKept h).stayLow⟩
  | unblank => exact ⟨_, rfl, (xUnblank_pinsKept h).stayLow⟩
  | modeTransitionComplete => exact ⟨_, rfl, xModeTransitionComplete_pinsStayLow h⟩
  | idleTimerExpiry => exact ⟨_, rfl, (xIdleTimerExpiry_pinsKept h).stayLow⟩
  | lreqOffExpiry => exact ⟨_, rfl, (xLreqOffExpiry_pinsKept h).stayLow⟩
  | nosurfCheck => exact ⟨_, rfl, (xNosurfCheck_pinsKept h).stayLow⟩
  | tarnSample => exact ⟨_, rfl, xTarnSample_pinsStayLow h⟩
  | tarnTimerExpiry => exact ⟨_, rfl, (pinsKept_of (xTarnTimerExpiry_pinView ..) h).stayLow⟩
  | hostWakeRelease => exact ⟨_, rfl, (barWrite_pinsKept (fun _ ht => pinsKept_of (xHostWakeRelease_pinView ..) ht) h).stayLow⟩
  | xtal32Absence => exact ⟨_, rfl, (pinsKept_of (xXtal32Absence_pinView ..) h).stayLow⟩
  | safeSample => exact ⟨_, rfl, (xSafeSample_pinsKept h).stayLow⟩
  | discrepancyFault => exact ⟨_, rfl, (xDiscrepancyFault_pinsKept h).stayLow⟩
  | blankAssert => exact ⟨_, rfl, (xBlankAssert_pinsKept h).stayLow⟩
  | blankRelease => exact ⟨_, rfl, (xBlankRelease_pinsKept h).stayLow⟩
  | k280Repeat => exact ⟨_, rfl, (pinsKept_of (xK28Repeat_pinView ..) h).stayLow⟩
  | lockstepMismatchControl => exact ⟨_, rfl, (xLockstepControl_pinsKept h).stayLow⟩
  | lockstepMismatchSafety => exact ⟨_, rfl, (xLockstepSafety_pinsKept h).stayLow⟩
  | limpSwapEdge => exact ⟨_, rfl, (pinsKept_of (xLimpSwapEdge_pinView ..) h).stayLow⟩
  | limpPatternResend => exact ⟨_, rfl, (pinsKept_of (xLimpPatternResend_pinView ..) h).stayLow⟩
  | keepaliveTimer => exact ⟨_, rfl, (pinsKept_of (xKeepaliveTimer_pinView ..) h).stayLow⟩
  | safetyPairCheckDone => exact ⟨_, rfl, (xSafetyPairCheckDone_pinsKept h).stayLow⟩
  | excessRunLimit => exact ⟨_, rfl, (xExcessRunLimit_pinsKept h).stayLow⟩
  | tileRelease => exact ⟨_, rfl, (writeWord_pinsKept h).stayLow⟩
  | fTick => exact ⟨_, rfl, xFTick_pinsStayLow (twinSettle_pinsKept h)⟩
  | sTick => exact ⟨_, rfl, (xSTick_pinsKept (twinSettle_pinsKept h)).stayLow⟩
  | pTick => exact ⟨_, rfl, (pinsKept_of (xPTick_pinView ..) h).stayLow⟩
  | productionWindowOpen => exact ⟨_, rfl, (xProductionWindowOpen_pinsKept (twinSettle_pinsKept h)).stayLow⟩
  | latchPoint => exact ⟨_, rfl, (pinsKept_of (xLatchPoint_pinView ..) (twinSettle_pinsKept h)).stayLow⟩
  | gIntervalStart => exact ⟨_, rfl, (xGIntervalStart_pinsKept h).stayLow⟩
  | tileSyncRise => exact ⟨_, rfl, (pinsKept_of (xTileSyncRise_pinView ..) h).stayLow⟩
  | tileSyncFall => exact ⟨_, rfl, (pinsKept_of (xTileSyncFall_pinView ..) h).stayLow⟩
  | laneTick => exact ⟨_, rfl, (xLaneTick_pinsKept h).stayLow⟩
  | noSurfaceTick => exact ⟨_, rfl, (xNoSurfaceTick_pinsKept h).stayLow⟩
  | tickOutPulseEnd => exact ⟨_, rfl, (pinsKept_of (xTickOutPulseEnd_pinView ..) h).stayLow⟩
  | tgEnable => exact ⟨_, rfl, (barWrite_pinsKept (fun _ ht => xTgEnable_pinsKept ht) h).stayLow⟩
  | tgDisable => exact ⟨_, rfl, (barWrite_pinsKept (fun _ ht => xTgDisable_pinsKept ht) h).stayLow⟩
  | hostSilenceLimp => exact ⟨_, rfl, (xHostSilenceLimp_pinsKept h).stayLow⟩
  | compositionComplete => exact ⟨_, rfl, (pinsKept_of (xCompositionComplete_pinView ..) h).stayLow⟩
  | layerSafeLimit => exact ⟨_, rfl, (xLayerSafeLimit_pinsKept h).stayLow⟩
  | doorbellWrite => exact ⟨_, rfl, (pinsKept_of (doorbellAccess_pinView ..) h).stayLow⟩
  | descriptorArrival => exact ⟨_, rfl, (pinsKept_of (xDescriptorArrival_pinView ..) h).stayLow⟩
  | payloadArrival => exact ⟨_, rfl, (pinsKept_of (xPayloadArrival_pinView ..) h).stayLow⟩
  | hostReadFailure => exact ⟨_, rfl, (pinsKept_of (xHostReadFailure_pinView ..) h).stayLow⟩
  | hostSideReset => exact ⟨_, rfl, (pinsKept_of (xHostSideReset_pinView ..) h).stayLow⟩
  | powerStateChange => exact ⟨_, rfl, (pinsKept_of (xPowerStateChange_pinView ..) h).stayLow⟩
  | busMasterDisable => exact ⟨_, rfl, (pinsKept_of (xBusMaster_pinView ..) h).stayLow⟩
  | ringEnable => exact ⟨_, rfl, (barWrite_pinsKept (fun _ ht => pinsKept_of (xRingEnable_pinView ..) ht) h).stayLow⟩
  | ringDisable => exact ⟨_, rfl, (barWrite_pinsKept (fun _ ht => pinsKept_of (xRingDisable_pinView ..) ht) h).stayLow⟩
  | ringResume => exact ⟨_, rfl, (barWrite_pinsKept (fun _ ht => pinsKept_of (xRingResume_pinView ..) ht) h).stayLow⟩
  | ringSkip => exact ⟨_, rfl, (barWrite_pinsKept (fun _ ht => pinsKept_of (xRingSkip_pinView ..) ht) h).stayLow⟩
  | coalesceTimeout => exact ⟨_, rfl, (pinsKept_of (xCoalesceTimeout_pinView ..) h).stayLow⟩
  | registerWrite => exact ⟨_, rfl, (xRegisterWrite_pinsKept h).stayLow⟩
  | clrCntWrite => exact ⟨_, rfl, (pinsKept_of (xClrCntWrite_pinView ..) h).stayLow⟩
  | timeNowRead => exact ⟨_, rfl, (pinsKept_of (barRead_pinView _ _ _ xTimeNowRead_pinView) h).stayLow⟩
  | pcieLinkUp => exact ⟨_, rfl, (pinsKept_of (xPcieLinkUp_pinView ..) h).stayLow⟩
  | present => exact ⟨_, rfl, (settled_pinsKept (pinsKept_of (xPresent_pinView ..) (pinsKept_of (latchesDue_pinView ..) h))).stayLow⟩
  | prefetchComplete => exact ⟨_, rfl, (pinsKept_of (xPrefetchComplete_pinView ..) h).stayLow⟩
  | presentTimed => exact ⟨_, rfl, (settled_pinsKept (pinsKept_of (xPresentTimed_pinView ..) (pinsKept_of (latchesDue_pinView ..) h))).stayLow⟩
  | cancelTimed => exact ⟨_, rfl, (settled_pinsKept (pinsKept_of (xCancelTimed_pinView ..) (pinsKept_of (latchesDue_pinView ..) h))).stayLow⟩
  | shadeUpdate => exact ⟨_, rfl, (settled_pinsKept (pinsKept_of (xShadeUpdate_pinView ..) h)).stayLow⟩
  | shadeClear => exact ⟨_, rfl, (settled_pinsKept (pinsKept_of (xShadeClear_pinView ..) h)).stayLow⟩
  | aim => exact ⟨_, rfl, (pinsKept_of (xAim_pinView ..) h).stayLow⟩
  | beamProfile => exact ⟨_, rfl, (pinsKept_of (xBeamProfile_pinView ..) h).stayLow⟩
  | surfaceConfig => exact ⟨_, rfl, (settled_pinsKept (xSurfaceConfig_pinsKept h)).stayLow⟩
  | retime => exact ⟨_, rfl, (settled_pinsKept (pinsKept_of (xRetime_pinView ..) (pinsKept_of (latchesDue_pinView ..) h))).stayLow⟩
  | scalerCoeff => exact ⟨_, rfl, (settled_pinsKept (pinsKept_of (xScalerCoeff_pinView ..) h)).stayLow⟩
  | segPattern => exact ⟨_, rfl, (pinsKept_of (xSegPattern_pinView ..) h).stayLow⟩
  | segStart => exact ⟨_, rfl, (pinsKept_of (xSegStart_pinView ..) h).stayLow⟩
  | mapLoad => exact ⟨_, rfl, (pinsKept_of (xMapLoad_pinView ..) h).stayLow⟩
  | healthDump => exact ⟨_, rfl, (pinsKept_of (xHealthDump_pinView ..) h).stayLow⟩
  | spbLoad => exact ⟨_, rfl, (pinsKept_of (xSpbLoad_pinView ..) h).stayLow⟩
  | spbCommit => exact ⟨_, rfl, (pinsKept_of (xSpbCommit_pinView ..) h).stayLow⟩
  | fwStage => exact ⟨_, rfl, (pinsKept_of (xFwStage_pinView ..) h).stayLow⟩
  | fwActivate => exact ⟨_, rfl, (pinsKept_of (xFwActivate_pinView ..) h).stayLow⟩
  | fence => exact ⟨_, rfl, (pinsKept_of (xFence_pinView ..) h).stayLow⟩
  | fenceConditionMet => exact ⟨_, rfl, (pinsKept_of (xFenceConditionMet_pinView ..) h).stayLow⟩
  | fenceTimeout => exact ⟨_, rfl, (pinsKept_of (xFenceTimeout_pinView ..) h).stayLow⟩
  | bulkSourceReadDone => exact ⟨_, rfl, (settled_pinsKept (pinsKept_of (xBulkSourceReadDone_pinView ..) h)).stayLow⟩
  | flashWriteDone => exact ⟨_, rfl, (xFlashWriteDone_pinsKept h).stayLow⟩
  | healthDumpDone => exact ⟨_, rfl, (pinsKept_of (xHealthDumpDone_pinView ..) h).stayLow⟩
  | laneEnable => exact ⟨_, rfl, (barWrite_pinsKept (fun _ ht => xLaneEnable_pinsKept ht) h).stayLow⟩
  | laneDisable => exact ⟨_, rfl, (barWrite_pinsKept (fun _ ht => xLaneDisable_pinsKept ht) h).stayLow⟩
  | enWaitExpiry => exact ⟨_, rfl, (xEnWaitExpiry_pinsKept h).stayLow⟩
  | bringupTimeout => exact ⟨_, rfl, (xBringupTimeout_pinsKept h).stayLow⟩
  | receiverLock => exact ⟨_, rfl, (xReceiverLock_pinsKept h).stayLow⟩
  | lockLost => exact ⟨_, rfl, (xLockLost_pinsKept h).stayLow⟩
  | orderedSetReceived => exact ⟨_, rfl, (xOrderedSetReceived_pinsKept h).stayLow⟩
  | rateTrainTimeout => exact ⟨_, rfl, (xRateTrainTimeout_pinsKept h).stayLow⟩
  | retrainTimeout => exact ⟨_, rfl, (xRetrainTimeout_pinsKept h).stayLow⟩
  | laneRetrain => exact ⟨_, rfl, (barWrite_pinsKept (fun _ ht => xLaneRetrain_pinsKept ht) h).stayLow⟩
  | idleEntry => exact ⟨_, rfl, (xIdleEntry_pinsKept h).stayLow⟩
  | exitFail => exact ⟨_, rfl, (xExitFail_pinsKept h).stayLow⟩
  | lnrefLost => exact ⟨_, rfl, (xLnrefLost_pinsKept h).stayLow⟩
  | lnrefReturn => exact ⟨_, rfl, (xLnrefReturn_pinsKept h).stayLow⟩
  | prbsStart => exact ⟨_, rfl, (barWrite_pinsKept (fun _ ht => xPrbsStart_pinsKept ht) h).stayLow⟩
  | loopbackStart => exact ⟨_, rfl, (barWrite_pinsKept (fun _ ht => xLoopbackStart_pinsKept ht) h).stayLow⟩
  | prbsEnd => exact ⟨_, rfl, (xPrbsEnd_pinsKept h).stayLow⟩
  | legacyEnable => exact ⟨_, rfl, (barWrite_pinsKept (fun _ ht => pinsKept_of (legacyWrite_pinView ..) ht) h).stayLow⟩
  | legacyActive => exact ⟨_, rfl, (xLegacyActive_pinsKept h).stayLow⟩
  | legacyAlert => exact ⟨_, rfl, (xLegacyAlert_pinsKept h).stayLow⟩
  | legacyAlertRetrain => exact ⟨_, rfl, (xLegacyAlertRetrain_pinsKept h).stayLow⟩
  | twinLaneEnable => exact ⟨_, rfl, (barWrite_pinsKept (fun _ ht => xTwinLaneEnable_pinsKept ht) h).stayLow⟩
  | deskewFail => exact ⟨_, rfl, (xDeskewFail_pinsKept h).stayLow⟩
  | ackNakReceived => exact ⟨_, rfl, (xAckNakReceived_pinsKept h).stayLow⟩
  | ackTimeout => exact ⟨_, rfl, (xAckTimeout_pinsKept h).stayLow⟩
  | linePacketDeadline => exact ⟨_, rfl, (xLinePacketDeadline_pinsKept h).stayLow⟩
  | swapDeadline => exact ⟨_, rfl, (xSwapDeadline_pinsKept h).stayLow⟩
  | upstreamPacketDiscard => exact ⟨_, rfl, (xUpstreamPacketDiscard_pinsKept h).stayLow⟩
  | statusReceived => exact ⟨_, rfl, (roleSettled_pinsKept (xStatusReceived_pinsKept h)).stayLow⟩
  | capReceived => exact ⟨_, rfl, (xCapReceived_pinsKept h).stayLow⟩
  | capRequestTimer => exact ⟨_, rfl, (pinsKept_of (xCapRequestTimer_pinView ..) h).stayLow⟩
  | echoTimer => exact ⟨_, rfl, (pinsKept_of (xEchoTimer_pinView ..) h).stayLow⟩
  | echoTimeout => exact ⟨_, rfl, (pinsKept_of (xEchoTimeout_pinView ..) h).stayLow⟩
  | healthReceived => exact ⟨_, rfl, (xHealthReceived_pinsKept h).stayLow⟩
  | massFault => exact ⟨_, rfl, (xMassFault_pinsKept h).stayLow⟩
  | isolationTimeout => exact ⟨_, rfl, (xIsolationTimeout_pinsKept h).stayLow⟩
  | healthStall => exact ⟨_, rfl, (xHealthStall_pinsKept h).stayLow⟩
  | sampleDeadline => exact ⟨_, rfl, (pinsKept_of (xSampleDeadline_pinView ..) h).stayLow⟩
  | baselineCapture => exact ⟨_, rfl, (barWrite_pinsKept (fun _ ht => pinsKept_of (xBaselineCapture_pinView ..) (pinsKept_of
    (clearMass_pinView ..) ht)) h).stayLow⟩
  | baselineCaptureDone => exact ⟨_, rfl, (pinsKept_of (xBaselineCaptureDone_pinView ..) h).stayLow⟩
  | twinEnable => exact ⟨_, rfl, (barWrite_pinsKept (fun _ ht => xTwinEnable_pinsKept ht) h).stayLow⟩
  | twinDisable => exact ⟨_, rfl, (barWrite_pinsKept (fun _ ht => xTwinDisable_pinsKept ht) h).stayLow⟩
  | twinHandover => exact ⟨_, rfl, (barWrite_pinsKept (fun _ ht => pinsKept_of (xTwinHandover_pinView ..) ht) h).stayLow⟩
  | twinRejoin => exact ⟨_, rfl, (barWrite_pinsKept (fun _ ht => pinsKept_of (xTwinRejoin_pinView ..) ht) h).stayLow⟩
  | pairTimeout => exact ⟨_, rfl, (pinsKept_of (xPairTimeout_pinView ..) h).stayLow⟩
  | heartbeatTick => exact ⟨_, rfl, (pinsKept_of (xHeartbeatTick_pinView ..) h).stayLow⟩
  | heartbeatReceived => exact ⟨_, rfl, (xHeartbeatReceived_pinsKept h).stayLow⟩
  | alignReceived => exact ⟨_, rfl, (xAlignReceived_pinsKept h).stayLow⟩
  | latchReceived => exact ⟨_, rfl, (pinsKept_of (xLatchReceived_pinView ..) h).stayLow⟩
  | digestSend => exact ⟨_, rfl, (pinsKept_of (xDigestSend_pinView ..) h).stayLow⟩
  | digestReceived => exact ⟨_, rfl, (pinsKept_of (xDigestReceived_pinView ..) h).stayLow⟩
  | defectReceived => exact ⟨_, rfl, (pinsKept_of (xDefectReceived_pinView ..) h).stayLow⟩
  | probeCopyReceived => exact ⟨_, rfl, (pinsKept_of (xProbeCopyReceived_pinView ..) h).stayLow⟩
  | arbitrateReceived => exact ⟨_, rfl, (xArbitrateReceived_pinsKept h).stayLow⟩
  | twinK280Received => exact ⟨_, rfl, (xTwinK280Received_pinsKept h).stayLow⟩
  | leadSilent => exact ⟨_, rfl, (xLeadSilent_pinsKept h).stayLow⟩
  | alignTimeout => exact ⟨_, rfl, (xAlignTimeout_pinsKept h).stayLow⟩
  | twinCompare => exact ⟨_, rfl, (xTwinCompare_pinsKept h).stayLow⟩
  | arbitrateReplyTimeout => exact ⟨_, rfl, (pinsKept_of (xArbitrateReplyTimeout_pinView ..) h).stayLow⟩
  | twinPeerSample => exact ⟨_, rfl, (pinsKept_of (xTwinPeerSample_pinView ..) h).stayLow⟩
  | safetyConfirm => exact ⟨_, rfl, (pinsKept_of (xSafetyConfirm_pinView ..) h).stayLow⟩
  | twinAliveDrop => exact ⟨_, rfl, (pinsKept_of (xTwinAliveDrop_pinView ..) h).stayLow⟩
  | syncReceived => exact ⟨_, rfl, (pinsKept_of (xSyncReceived_pinView ..) h).stayLow⟩
  | announceReceived => exact ⟨_, rfl, (pinsKept_of (xAnnounceReceived_pinView ..) h).stayLow⟩
  | pdelayReqTimer => exact ⟨_, rfl, (pinsKept_of (xPdelayReqTimer_pinView ..) h).stayLow⟩
  | pdelayReqReceived => exact ⟨_, rfl, (pinsKept_of (xPdelayReqReceived_pinView ..) h).stayLow⟩
  | pdelayRespReceived => exact ⟨_, rfl, (pinsKept_of (xPdelayRespReceived_pinView ..) h).stayLow⟩
  | syncReceiptTimeout => exact ⟨_, rfl, (pinsKept_of (xSyncReceiptTimeout_pinView ..) h).stayLow⟩
  | announceReceiptTimeout => exact ⟨_, rfl, (pinsKept_of (xAnnounceReceiptTimeout_pinView ..) h).stayLow⟩
  | slavePortSwitch => exact ⟨_, rfl, (pinsKept_of (xSlavePortSwitch_pinView ..) h).stayLow⟩
  | sgmiiLinkChange => exact ⟨_, rfl, (pinsKept_of (xSgmiiLinkChange_pinView ..) h).stayLow⟩
  | clockStep => exact ⟨_, rfl, (pinsKept_of (xClockStep_pinView ..) h).stayLow⟩
  | pwmPeriodBoundary => exact ⟨_, rfl, (pinsKept_of (xPwmPeriodBoundary_pinView ..) h).stayLow⟩
  | segPulseStart => exact ⟨_, rfl, (pinsKept_of (xSegPulseStart_pinView ..) h).stayLow⟩
  | segPulseEnd => exact ⟨_, rfl, (xSegPulseEnd_pinsKept h).stayLow⟩
  | segOvercurrent => exact ⟨_, rfl, (xSegOvercurrent_pinsKept h).stayLow⟩
  | segSyncEdge => exact ⟨_, rfl, (pinsKept_of (xSegSyncEdge_pinView ..) h).stayLow⟩
  | segInternalTick => exact ⟨_, rfl, (pinsKept_of (xSegInternalTick_pinView ..) (pinsKept_of (toSegTick_pinView ..) h)).stayLow⟩
  | segChannelClear => exact ⟨_, rfl, (barWrite_pinsKept (fun _ ht => xSegChannelClear_pinsKept ht) h).stayLow⟩
  | segBankRun => exact ⟨_, rfl, (barWrite_pinsKept (fun _ ht => pinsKept_of (xSegBankRun_pinView ..) ht) h).stayLow⟩
  | segRailEnable => exact ⟨_, rfl, (barWrite_pinsKept (fun _ ht => xSegRailEnable_pinsKept ht) h).stayLow⟩
  | headroomUpdate => exact ⟨_, rfl, (pinsKept_of (xHeadroomUpdate_pinView ..) h).stayLow⟩
  | lossEstimate => exact ⟨_, rfl, (pinsKept_of (xLossEstimate_pinView ..) h).stayLow⟩
  | segCurrentCheck => exact ⟨_, rfl, (xSegCurrentCheck_pinsKept h).stayLow⟩
  | segBlankRelease => exact ⟨_, rfl, (pinsKept_of (xSegBlankRelease_pinView ..) h).stayLow⟩
  | throttleUpdate => exact ⟨_, rfl, (pinsKept_of (xThrottleUpdate_pinView ..) h).stayLow⟩
  | thermalShutdown => exact ⟨_, rfl, (xThermalShutdown_pinsKept h).stayLow⟩
  | thermalShutdownClear => exact ⟨_, rfl, (xThermalShutdownClear_pinsKept h).stayLow⟩
  | dieTempConversion => exact ⟨_, rfl, (pinsKept_of (xDieTempConversion_pinView ..) h).stayLow⟩
  | remoteTempConversion => exact ⟨_, rfl, (pinsKept_of (xRemoteTempConversion_pinView ..) h).stayLow⟩
  | calRun => exact ⟨_, rfl, (barWrite_pinsKept (fun _ ht => pinsKept_of (xCalRun_pinView ..) ht) h).stayLow⟩
  | calibrationItemDone => exact ⟨_, rfl, (xCalibrationItemDone_pinsKept h).stayLow⟩
  | calibrationRunDone => exact ⟨_, rfl, (xCalibrationRunDone_pinsKept h).stayLow⟩
  | calRetryTimer => exact ⟨_, rfl, (pinsKept_of (xCalRetryTimer_pinView ..) h).stayLow⟩
  | oscCompensation => exact ⟨_, rfl, (pinsKept_of (xOscCompensation_pinView ..) h).stayLow⟩
  | adcCheck => exact ⟨_, rfl, (pinsKept_of (xAdcCheck_pinView ..) h).stayLow⟩
  | loopbackCheck => exact ⟨_, rfl, (xLoopbackCheck_pinsKept h).stayLow⟩
  | loopbackCheckEnd => exact ⟨_, rfl, (xLoopbackCheckEnd_pinsKept h).stayLow⟩
  | testEngineStart => exact ⟨_, rfl, (barWrite_pinsKept (fun _ ht => pinsKept_of (xTestEngineStart_pinView ..) ht) h).stayLow⟩
  | testEngineDone => exact ⟨_, rfl, (pinsKept_of (xTestEngineDone_pinView ..) h).stayLow⟩
  | pixelStoreRead => exact ⟨_, rfl, (xPixelStoreRead_pinsKept h).stayLow⟩
  | scrubRead => exact ⟨_, rfl, (xScrubRead_pinsKept h).stayLow⟩
  | sramEccError => exact ⟨_, rfl, (xSramEccError_pinsKept h).stayLow⟩
  | commOpen => exact ⟨_, rfl, (barWrite_pinsKept (fun _ ht => pinsKept_of (xCommOpen_pinView ..) ht) h).stayLow⟩
  | commClose => exact ⟨_, rfl, (barWrite_pinsKept (fun _ ht => xCommClose_pinsKept ht) h).stayLow⟩
  | commSessionTimeout => exact ⟨_, rfl, (xCommSessionTimeout_pinsKept h).stayLow⟩
  | lcAdvance => exact ⟨_, rfl, (barWrite_pinsKept (fun _ ht => xLcAdvance_pinsKept ht) h).stayLow⟩
  | lcToField => exact ⟨_, rfl, (barWrite_pinsKept (fun _ ht => xLcToField_pinsKept ht) h).stayLow⟩
  | lcKeyBurn => exact ⟨_, rfl, (barWrite_pinsKept (fun _ ht => pinsKept_of (xLcKeyBurn_pinView ..) ht) h).stayLow⟩
  | chalReq => exact ⟨_, rfl, (barWrite_pinsKept (fun _ ht => pinsKept_of (xChalReq_pinView ..) ht) h).stayLow⟩
  | lcEnter => exact ⟨_, rfl, (barWrite_pinsKept (fun _ ht => xLcEnter_pinsKept ht) h).stayLow⟩
  | lcLeave => exact ⟨_, rfl, (barWrite_pinsKept (fun _ ht => xLcLeave_pinsKept ht) h).stayLow⟩
  | lcRetire => exact ⟨_, rfl, (barWrite_pinsKept (fun _ ht => xLcRetire_pinsKept ht) h).stayLow⟩
  | challengeExpiry => exact ⟨_, rfl, (pinsKept_of (xChallengeExpiry_pinView ..) h).stayLow⟩
  | lockoutExpiry => exact ⟨_, rfl, (pinsKept_of (xLockoutExpiry_pinView ..) h).stayLow⟩
  | lcRecordTimer => exact ⟨_, rfl, (pinsKept_of (xLcRecordTimer_pinView ..) h).stayLow⟩
  | debugAccessOpen => exact ⟨_, rfl, (xDebugAccessOpen_pinsKept h).stayLow⟩

/-- Settles O56: every command ends by driving the pins from their causes, and none but the two power-on resets raises them while RESET_N holds DIE-D. -/
theorem faultPinsFollowTheFaults : Obligations.FaultPinsFollowTheFaults := by
  refine ⟨fun s t => step_settledPins, fun c s t => exec_settledPins, fun c s t f h h1 h41 hd hf => ?_, fun c s t h hf => ?_, fun s t h hm hp => ?_,
    fun c s t hc h _ hm hp hh hm' => ?_⟩
  · exact settledPins.low (exec_settledPins h) (pinsWanted_of_fault h1 h41 hd hf)
  · exact settledPins.low (exec_settledPins h) (pinsWanted_of_stuckReset hf)
  · obtain ⟨hheld, -, hmode⟩ := PinView.mk.inj (xResetNAssert_pinView hp hm)
    rw [← Host.Outcome.next.inj h]
    exact after_low (xResetNAssert_pinsStayLow hp hm) (by rw [after_aon]; exact hheld) ((after_inSentinel ..).trans hmode)
  · obtain ⟨u, hu, hl⟩ := exec_pinsStayLow c hc hp hm
    obtain rfl := Host.Outcome.next.inj (hu.symm.trans h)
    exact after_low hl hh hm'

end FaultPins

end Sys2Proof.Machine

namespace Sys2Proof.Machine

section PairState

/-! ## What a pair knows of its peer -/

/-- The twin's state without the links, which all traffic uses, and without the ports whose CLAIM waits. -/
def State.pairSt (s : State) : TwinSt := { s.twin with links := [], claimAfter := [] }

variable {s t u : State}

/-! ### Traffic over the lanes -/

theorem pairSt_ite {c : Prop} [Decidable c] : (if c then s else t).pairSt = if c then s.pairSt else t.pairSt := apply_ite _ _ _ _

theorem foldl_pairSt {α : Type} {f : State → α → State} (hf : ∀ s x, (f s x).pairSt = s.pairSt) (l : List α) (s : State) :
    (l.foldl f s).pairSt = s.pairSt := foldl_rel (R := fun s t => t.pairSt = s.pairSt) (fun _ => rfl) (fun h k => k.trans h) f l (fun u x _ => hf u x) s

theorem overList_pairSt {f : Nat → State → State} (hf : ∀ i s, (f i s).pairSt = s.pairSt) (l : List Nat) (s : State) :
    (overList f l s).pairSt = s.pairSt :=
  overList_rel (R := fun s t => t.pairSt = s.pairSt) (fun _ => rfl) (fun h k => k.trans h) f l (fun i _ u => hf i u) s

theorem fset_pairSt (f : Fld) (v : Nat) (s : State) : (s.fset f v).pairSt = s.pairSt := (rfl)
theorem fsetb_pairSt (f : Fld) (b : Bool) (s : State) : (s.fsetb f b).pairSt = s.pairSt := (rfl)
theorem fadd_pairSt (f : Fld) (k : Nat) (s : State) : (s.fadd f k).pairSt = s.pairSt := (rfl)
theorem setPort_pairSt (p : Nat) (f : Port → Port) (s : State) : (s.setPort p f).pairSt = s.pairSt := (rfl)
theorem setLink_pairSt (l : Nat) (f : TwinLink → TwinLink) (s : State) : (s.setLink l f).pairSt = s.pairSt := (rfl)

theorem send_pairSt (o : Output) (s : State) : (s.send o).pairSt = s.pairSt := by
  unfold State.send State.laneSent
  split <;> rfl

theorem exitIdle_pairSt (p : Nat) (s : State) : (s.exitIdle p).pairSt = s.pairSt := by
  rw [State.exitIdle, pairSt_ite, send_pairSt, fset_pairSt, ite_self]

theorem startPkt_pairSt (p : Nat) (q : SentPkt) (at_ : Nat) (s : State) : (s.startPkt p q at_).pairSt = s.pairSt := by
  unfold State.startPkt
  simp only [↓pairSt_ite, ↓setPort_pairSt, ↓send_pairSt, ↓fset_pairSt, ↓exitIdle_pairSt, ite_self]

theorem sendNow_pairSt (p kind : Nat) (body : List Byte) (due : Nat) (s : State) : (s.sendNow p kind body due).pairSt = s.pairSt := by
  rw [State.sendNow, State.sendPkt, pairSt_ite, setPort_pairSt, startPkt_pairSt, ite_self]

theorem sendControl_pairSt (p kind : Nat) (body : List Byte) (s : State) : (s.sendControl p kind body).pairSt = s.pairSt := by
  rw [State.sendControl, pairSt_ite, pairSt_ite, setPort_pairSt, sendNow_pairSt, ite_self, ite_self]

theorem nextControl_pairSt (p : Nat) (s : State) : (s.nextControl p).pairSt = s.pairSt := by
  unfold State.nextControl
  split
  · rfl
  · rw [pairSt_ite, sendNow_pairSt, setPort_pairSt, ite_self]

theorem sendQueued_pairSt (p k : Nat) (s : State) : (sendQueued p k s).pairSt = s.pairSt := by
  induction k generalizing s with
  | zero => rfl
  | succ k ih =>
    unfold sendQueued
    split
    · rfl
    · simp only [↓pairSt_ite, ↓ih, ↓startPkt_pairSt, ↓setPort_pairSt, ite_self]

theorem setHs_pairSt (n l : Nat) (f : Handshake → Handshake) (s : State) : (s.setHs n l f).pairSt = s.pairSt := by
  rw [State.setHs, pairSt_ite, setPort_pairSt, setLink_pairSt, ite_self]

theorem setRx_pairSt (n l : Nat) (f : Receiver → Receiver) (s : State) : (s.setRx n l f).pairSt = s.pairSt := by
  rw [State.setRx, pairSt_ite, setPort_pairSt, setLink_pairSt, ite_self]

theorem sendTrn_pairSt (n l : Nat) (s : State) : (s.sendTrn n l).pairSt = s.pairSt := by
  unfold State.sendTrn
  simp only [↓pairSt_ite, ↓send_pairSt, ↓setHs_pairSt, ite_self]

theorem startTrn_pairSt (n : Nat) (s : State) : (s.startTrn n).pairSt = s.pairSt := by
  unfold State.startTrn
  simp only [↓foldl_pairSt fun s l => sendTrn_pairSt n l s, ↓pairSt_ite, ↓setPort_pairSt, ↓setLink_pairSt, ite_self]

theorem setLane_pairSt {p : Nat} (hp : p < 24) (st : Nat) (s : State) : (s.setLane p st).pairSt = s.pairSt := by
  unfold State.setLane
  simp only [hp, if_true, ↓fset_pairSt]

theorem enterRetrain_pairSt {p : Nat} (hp : p < 24) (s : State) : (s.enterRetrain p).pairSt = s.pairSt := by
  unfold State.enterRetrain
  simp only [↓startTrn_pairSt, ↓pairSt_ite, ↓fsetb_pairSt, ↓setPort_pairSt, ↓setLink_pairSt, ↓foldl_pairSt fun s l => setHs_pairSt p l _ s,
    ↓setLane_pairSt hp, ↓send_pairSt, ite_self]

theorem cutPortPrbs_pairSt (p : Nat) (s : State) : (s.cutPortPrbs p).pairSt = s.pairSt := by
  have hf : ∀ u : State, ({ u with free := u.free + 4 } : State).pairSt = u.pairSt := fun _ => rfl
  unfold State.cutPortPrbs State.portPrbsCount
  simp only [↓pairSt_ite, ↓setPort_pairSt, ↓fsetb_pairSt, ↓fadd_pairSt, ↓hf, ite_self]

theorem endPrbs_pairSt {p : Nat} (hp : p < 24) (s : State) : (s.endPrbs p).pairSt = s.pairSt := by
  have hdrop : ∀ (ls : List Nat) (u : State), (u.dropLocks p ls).pairSt = u.pairSt :=
    fun ls u => foldl_pairSt (fun v l => (setHs_pairSt p l _ _).trans (setRx_pairSt p l _ v)) ls u
  rw [State.endPrbs, pairSt_ite, enterRetrain_pairSt hp, hdrop, fsetb_pairSt, cutPortPrbs_pairSt, ite_self]

theorem totPort_pairSt {p : Nat} (hp : p < 24) (s : State) : (totPort p s).pairSt = s.pairSt := by
  unfold totPort
  extract_lets st a b
  have ha : a.pairSt = s.pairSt := by
    have hw : (s.exitIdle p |>.abandonWire p).pairSt = s.pairSt := exitIdle_pairSt p s
    rw [pairSt_ite, portGoes, sendQueued_pairSt, nextControl_pairSt, fsetb_pairSt, send_pairSt, hw, ite_self]
  have hb : b.pairSt = a.pairSt := by
    unfold b
    split <;> rfl
  exact (endPrbs_pairSt hp b).trans (hb.trans ha)

theorem totResume_pairSt (p : Nat) (s : State) : (totResume p s).pairSt = s.pairSt := by
  have hr : ∀ u : State, (u.resendLimp p).pairSt = u.pairSt := fun u => by
    unfold State.resendLimp
    simp only [↓pairSt_ite, ↓foldl_pairSt fun s (e : Nat × List Byte) => sendNow_pairSt p e.1 e.2 0 s, ↓setPort_pairSt, ite_self]
  unfold totResume
  simp only [↓pairSt_ite, ↓hr, State.sendCtrl, ↓sendControl_pairSt, ↓setPort_pairSt, ↓fsetb_pairSt, ite_self]

/-! ### The twin's registers -/

/-- Neither what the pair knows nor TWIN_STATUS nor TWIN_PEER_SPB changes. -/
structure KeepsPair (s t : State) : Prop where
  st : t.pairSt = s.pairSt
  status : t.rd 0x70008 = s.rd 0x70008
  spb : t.rd 0x70024 = s.rd 0x70024

theorem KeepsPair.refl (s : State) : KeepsPair s s := ⟨rfl, rfl, rfl⟩

theorem KeepsPair.trans (h : KeepsPair s t) (k : KeepsPair t u) : KeepsPair s u := ⟨k.st.trans h.st, k.status.trans h.status, k.spb.trans h.spb⟩

theorem KeepsPair.ite {c : Prop} [Decidable c] (ht : KeepsPair s t) (hu : KeepsPair s u) : KeepsPair s (if c then t else u) := by
  split
  · exact ht
  · exact hu

theorem KeepsPair.of_regs (hr : t.regs = s.regs) (h : t.pairSt = s.pairSt) : KeepsPair s t :=
  ⟨h, by unfold State.rd; rw [hr], by unfold State.rd; rw [hr]⟩

theorem pairSt_of_twin (h : t.twin = s.twin) : t.pairSt = s.pairSt := by rw [State.pairSt, h]; rfl

theorem OnlyRecords.keepsPair (h : OnlyRecords s t) : KeepsPair s t where
  st := pairSt_of_twin h.twin
  status := h.rd _ (by unfold recordReg; omega)
  spb := h.rd _ (by unfold recordReg; omega)

theorem OnlyLevels.keepsPair (h : OnlyLevels s t) : KeepsPair s t where
  st := pairSt_of_twin h.twin
  status := h.rd _ (by decide)
  spb := h.rd _ (by decide)

theorem OnlyLanes.keepsPair (h : OnlyLanes s t) (ht : t.pairSt = s.pairSt) : KeepsPair s t where
  st := ht
  status := h.rd _ (by decide)
  spb := h.rd _ (by decide)

theorem fset_keepsPair {f : Fld} (h : f.addr ≠ 0x70008 ∧ f.addr ≠ 0x70024) (v : Nat) (s : State) : KeepsPair s (s.fset f v) where
  st := rfl
  status := rd_wr_other _ _ _ _ h.1.symm
  spb := rd_wr_other _ _ _ _ h.2.symm

theorem KeepsPair.fget (h : KeepsPair s t) (f : Fld) (hf : f.addr = 0x70008) : t.fget f = s.fget f := by
  unfold State.fget; rw [hf, h.status]

theorem KeepsPair.fbit (h : KeepsPair s t) (f : Fld) (hf : f.addr = 0x70008) : t.fbit f = s.fbit f := by
  unfold State.fbit; rw [h.fget f hf]

theorem KeepsPair.twin {α : Type} (h : KeepsPair s t) (g : TwinSt → α) (hg : ∀ x : State, g x.pairSt = g x.twin) : g t.twin = g s.twin := by
  rw [← hg t, h.st, hg s]

theorem twinEvent_keepsPair (kind epoch frame : Nat) (s : State) : KeepsPair s (s.twinEvent kind epoch frame) :=
  (eventDev_records s _ _ _).keepsPair

/-! ### Totality and faults, beside the pair -/

theorem segFollowTot_keepsPair (s : State) : KeepsPair s s.segFollowTot := by
  have hoff : ∀ (b : Bool) (u : State), KeepsPair u (u.fsetb R.SEG_STATUS_OFF_TOT b) := fun _ u => fset_keepsPair (by decide) _ u
  have hseg : ∀ q, KeepsPair s { s with seg := q } := fun q => .of_regs rfl rfl
  unfold State.segFollowTot
  exact .ite ((hseg _).trans (hoff true _)) (hoff _ s)

theorem totApply_keepsPair (s : State) : KeepsPair s s.totApply := by
  unfold State.totApply
  have hp := (totPorts_lanes (s.fget R.SAFE_TOT_PORTS_PORTS) s.totScope (s.fset R.SAFE_TOT_PORTS_PORTS s.totScope)).keepsPair
    (overList_rel (R := fun s t => t.pairSt = s.pairSt) (fun _ => rfl) (fun h k => k.trans h) _ _
      (fun p hp u => totPort_pairSt (mem_maskList (List.mem_of_mem_filter hp)) u) _)
  exact (((fset_keepsPair (by decide) _ s).trans hp).trans (segFollowTot_keepsPair _)).trans (showSafe_only _).keepsPair

theorem srcSet_keepsPair (src : TotSrc) (b : Bool) (s : State) : KeepsPair s (s.fsetb src.fld b) :=
  fset_keepsPair (by rw [src.fld_addr]; decide) _ s

theorem totRequest_keepsPair (src : TotSrc) (groups fault : Nat) (s : State) : KeepsPair s (s.totRequest src groups fault) := by
  unfold State.totRequest
  extract_lets wasDark a b c
  have ha : KeepsPair s a := (srcSet_keepsPair src true s).trans (totApply_keepsPair _)
  have hb : KeepsPair a b := OnlyLanes.keepsPair (.ite (.onLane (.onLane (.refl a))) (.refl a)) (by rw [pairSt_ite, send_pairSt, send_pairSt, ite_self])
  have hc : KeepsPair s c := (ha.trans hb).trans (eventDev_records b _ _ _).keepsPair
  exact .ite (hc.trans (eventDev_records c _ _ _).keepsPair) hc

theorem faultSet_keepsPair (f : Nat) (b : Bool) (s : State) : KeepsPair s (s.fsetb (faultFld f) b) :=
  fset_keepsPair (by have := faultFld_block f; omega) _ s

theorem clearFault_keepsPair (f : Nat) (s : State) : KeepsPair s (s.clearFault f) :=
  .ite ((faultSet_keepsPair f false s).trans (drivePins_only _).keepsPair) (.refl s)

theorem recordFault_keepsPair (f inst detail : Nat) (s : State) : KeepsPair s (s.recordFault f inst detail) := by
  unfold State.recordFault State.latchFault
  extract_lets a b
  have ha : KeepsPair s a := .ite ((fset_keepsPair (by decide) _ s).trans (fset_keepsPair (by decide) _ _)) (.refl s)
  have hb : KeepsPair a b := (fset_keepsPair (by decide) _ a).trans (fset_keepsPair (by decide) _ _)
  exact (((ha.trans hb).trans (faultSet_keepsPair f true b)).trans (drivePins_only _).keepsPair).trans (eventDev_records _ _ _ _).keepsPair

/-- A fault that is only reported. -/
theorem raise_keepsPair {f : Nat} (hr : reactionOf f = .report) (h1 : [1, 8, 9, 15, 26, 27, 28, 29].contains f = false)
    (h2 : [1, 8, 9, 15, 27, 29, 30].contains f = false) (s : State) : KeepsPair s (s.raise f 0 0) := by
  rw [raise_of_report hr h1 h2]
  exact .ite (recordFault_keepsPair f 0 0 s) (.refl s)

theorem totRelease_keepsPair (srcs : List TotSrc) (groups : Nat) (s : State) : KeepsPair s (s.totRelease srcs groups) := by
  unfold State.totRelease
  extract_lets latched old wasDark a b c d
  have ha : KeepsPair s a := (foldl_rel .refl .trans _ srcs (fun u q _ => srcSet_keepsPair q false u) s).trans (totApply_keepsPair _)
  have hb : KeepsPair a b := OnlyLanes.keepsPair (.overList _ _ (fun _ hp u => totResume_lanes (mem_maskList (List.mem_of_mem_filter hp)) u) a)
    (overList_pairSt totResume_pairSt _ a)
  have hc : KeepsPair b c := .ite (.refl b) (clearFault_keepsPair 10 b)
  have hd : KeepsPair s d := ((ha.trans hb).trans hc).trans (eventDev_records c _ _ _).keepsPair
  exact .ite (.refl s) (.ite (hd.trans (eventDev_records d _ _ _).keepsPair) hd)

/-! ### Claims of tiles -/

theorem sendClaim_keepsPair {p : Nat} (hp : p < 24) (epoch : Nat) (s : State) : KeepsPair s (s.sendClaim p epoch) := by
  have hl : OnlyLanes s (s.sendClaim p epoch) := by
    have ha : OnlyLanes s (s.fset (R.TILE_EPOCH_CLAIMED p) epoch) := .fset (.refl s) (tileReg_of_port 0x48 hp (by decide))
    unfold State.sendClaim State.sendControl
    exact .trans (.onPort ha) (.ite (.refl _) (.ite (.onPort (.refl _)) (sendNow_lanes hp _ _ _ _)))
  exact hl.keepsPair (by rw [State.sendClaim, sendControl_pairSt, setPort_pairSt, fset_pairSt])

theorem mem_boundPorts {p : Nat} (h : p ∈ s.boundPorts) : p < 24 := List.mem_range.1 (List.mem_of_mem_filter h)

theorem claimBound_keepsPair {p : Nat} (hp : p < 24) (s : State) : KeepsPair s (claimBound p s) :=
  .ite (.refl s) (.ite (.of_regs rfl rfl) (sendClaim_keepsPair hp _ s))

/-- The tiles are taken: the handover is noted, and each port that a surface uses is claimed. -/
theorem takeTiles_keepsPair (why : Handover) (s : State) :
    KeepsPair (s.setTwin fun t => { t with handover := why }) (s.takeTiles why) :=
  overList_rel .refl .trans _ _ (fun _ hp u => claimBound_keepsPair (mem_boundPorts hp) u) _

end PairState
end Sys2Proof.Machine

namespace Sys2Proof.Machine

section Heartbeats

variable {s t u : State} {l n v : Nat} {body : List Byte}

/-! ## Heartbeats -/

/-! ### Sent -/

theorem sends_pairSt (os : List Output) (s : State) : (s.sends os).pairSt = s.pairSt := foldl_pairSt (fun s o => send_pairSt o s) os s

/-- A packet of the twin takes the next number where it leaves, and leaves the count of missed heartbeats. -/
theorem sendTwin_acts (hd : s.domOn 8 = true) (kind : Nat) (body : List Byte) :
    (s.sendTwin kind body).twin.missed = s.twin.missed
    ∧ (s.sendTwin kind body).twin.seq = if s.laneOf 24 = laneActive ∨ s.laneOf 25 = laneActive then (s.twin.seq + 1) % 65536 else s.twin.seq := by
  have hlinks : ((List.range 2).filter fun t => s.fget (R.TWIN_LANE_STATUS_STATE t) == laneActive).isEmpty = true
      ↔ ¬ (s.laneOf 24 = laneActive ∨ s.laneOf 25 = laneActive) := by
    rw [List.isEmpty_iff, List.filter_eq_nil_iff]
    constructor
    · intro h
      exact not_or.2 ⟨fun h24 => h 0 (by decide) (beq_iff_eq.2 h24), fun h25 => h 1 (by decide) (beq_iff_eq.2 h25)⟩
    · intro h i hi hlink
      have hi2 : i = 0 ∨ i = 1 := by
        have := List.mem_range.1 hi
        omega
      rcases hi2 with rfl | rfl
      · exact h (.inl (beq_iff_eq.1 hlink))
      · exact h (.inr (beq_iff_eq.1 hlink))
  unfold State.sendTwin
  rw [if_neg (by rw [hd]; decide)]
  extract_lets seq unit links a
  split
  · rename_i h
    exact ⟨rfl, (if_neg (hlinks.1 h)).symm⟩
  · rename_i h
    have ha : a.pairSt = s.pairSt := sends_pairSt _ s
    exact ⟨show a.pairSt.missed = s.pairSt.missed by rw [ha], (if_pos (not_not.1 fun hn => h (hlinks.2 hn))).symm⟩

/-- One more heartbeat tick since the peer was heard. -/
def State.tickMissed (s : State) : State :=
  s.setTwin fun t => { t with missed := t.missed + 1, arb := t.arb.map fun e => (e.1, e.2.1, e.2.2.1, e.2.2.2 + 1) }

theorem xHeartbeatTick_acts (hd : s.domOn 8 = true) (hr : s.role ≠ roleSolo) (q : Nat) :
    (xHeartbeatTick q s).twin.missed = s.twin.missed + 1
    ∧ (xHeartbeatTick q s).twin.seq = if s.laneOf 24 = laneActive ∨ s.laneOf 25 = laneActive then (s.twin.seq + 1) % 65536 else s.twin.seq := by
  have hx : xHeartbeatTick q s = s.tickMissed.sendTwin 0x41 (s.tickMissed.heartbeatBody q) := if_neg hr
  rw [hx]
  exact sendTwin_acts (s := s.tickMissed) hd 0x41 _

/-! ### Heard -/

/-- The last heartbeat accepted. -/
structure KeepsHeard (s t : State) : Prop where
  high : t.twin.high = s.twin.high
  peer : t.twin.peer = s.twin.peer
  missed : t.twin.missed = s.twin.missed
  spb : t.rd 0x70024 = s.rd 0x70024
  silent : t.fbit R.TWIN_STATUS_PEER_SILENT = s.fbit R.TWIN_STATUS_PEER_SILENT

theorem KeepsHeard.refl (s : State) : KeepsHeard s s := ⟨rfl, rfl, rfl, rfl, rfl⟩

theorem KeepsHeard.trans (h : KeepsHeard s t) (k : KeepsHeard t u) : KeepsHeard s u :=
  ⟨k.high.trans h.high, k.peer.trans h.peer, k.missed.trans h.missed, k.spb.trans h.spb, k.silent.trans h.silent⟩

theorem KeepsHeard.ite {c : Prop} [Decidable c] (ht : KeepsHeard s t) (hu : KeepsHeard s u) : KeepsHeard s (if c then t else u) := by
  split
  · exact ht
  · exact hu

theorem KeepsPair.heard (h : KeepsPair s t) : KeepsHeard s t where
  high := h.twin TwinSt.high fun _ => rfl
  peer := h.twin TwinSt.peer fun _ => rfl
  missed := h.twin TwinSt.missed fun _ => rfl
  spb := h.spb
  silent := h.fbit _ rfl

/-- Another field of TWIN_STATUS. -/
theorem statusSet_heard {f : Fld} (ha : f.addr = 0x70008) (hf : f.fits = true) (hb : f.beside R.TWIN_STATUS_PEER_SILENT = true) (v : Nat) (s : State) :
    KeepsHeard s (s.fset f v) :=
  ⟨rfl, rfl, rfl, rd_wr_other _ _ _ _ (by rw [ha]; decide), fbit_fset_beside s f _ v hb hf (by decide)⟩

theorem twinEvent_heard (kind epoch frame : Nat) (s : State) : KeepsHeard s (s.twinEvent kind epoch frame) := (twinEvent_keepsPair ..).heard

theorem setRole_heard (r : Nat) (s : State) : KeepsHeard s (s.setRole r) := statusSet_heard rfl (by decide) (by decide) r s

theorem leadClaims_heard (s : State) : KeepsHeard s s.leadClaims := by
  unfold State.leadClaims
  extract_lets a ps
  have ha : KeepsHeard s a := setRole_heard roleLead s
  refine ha.trans (overList_rel .refl .trans _ _ (fun p hp u => (sendClaim_keepsPair ?_ _ u).heard) _)
  split at hp
  · exact absurd hp List.not_mem_nil
  · exact mem_boundPorts (List.mem_of_mem_filter hp)

theorem pairWith_heard (unit role spb : Nat) (s : State) : KeepsHeard s (s.pairWith unit role spb) := by
  have hrole : ∀ r, KeepsHeard s ((s.setRole r).twinEvent 1 0 0) := fun r => (setRole_heard r s).trans (twinEvent_heard ..)
  have hrefused : KeepsHeard s ((s.fsetb R.TWIN_STATUS_PAIR_REFUSED true).twinEvent 2 0 0) :=
    (statusSet_heard rfl (by decide) (by decide) _ s).trans (twinEvent_heard ..)
  unfold State.pairWith
  extract_lets own
  refine .ite (.refl s) (.ite hrefused (.ite (hrole _) (.ite (.refl s) (.ite ?_ (hrole _)))))
  exact (leadClaims_heard s).trans (twinEvent_heard 1 0 0 _)

theorem leadHears_heard (old : Nat) (s : State) : KeepsHeard s (s.leadHears old) := by
  rw [State.leadHears]
  have ha : KeepsHeard s (if s.peerRole = roleCompanion then s.clearFault 38 else s) := .ite (clearFault_keepsPair 38 s).heard (.refl s)
  have hb : ∀ u : State, KeepsHeard u (u.setTwin fun t => { t with handover := .none }) := fun _ => ⟨rfl, rfl, rfl, rfl, rfl⟩
  exact .ite ((ha.trans (hb _)).trans (twinEvent_heard ..)) ha

theorem askedToLead_heard (why : Handover) (s : State) : KeepsHeard s (s.askedToLead why) := by
  have hr : ∀ b : Bool, KeepsHeard s (s.setTwin fun t => { t with refused := b }) := fun _ => ⟨rfl, rfl, rfl, rfl, rfl⟩
  have hh : ∀ u : State, KeepsHeard u (u.setTwin fun t => { t with handover := why }) := fun _ => ⟨rfl, rfl, rfl, rfl, rfl⟩
  have href : KeepsHeard s s.refuseHandover := (hr true).trans (twinEvent_heard 6 0 0 _)
  have htake : KeepsHeard s ((s.setTwin fun t => { t with refused := false }).takeTiles why) :=
    ((hr false).trans (hh _)).trans (takeTiles_keepsPair why _).heard
  rw [State.askedToLead]
  exact .ite (.refl s) (.ite (.ite (.refl s) href) htake)

theorem companionHears_heard (s : State) : KeepsHeard s s.companionHears := by
  have hy : ∀ k : Nat, KeepsHeard s (s.setTwin fun t => { t with yields := k }) := fun _ => ⟨rfl, rfl, rfl, rfl, rfl⟩
  unfold State.companionHears
  extract_lets a
  have ha : KeepsHeard s a := hy _
  refine .ite (.refl s) (.ite ⟨rfl, rfl, rfl, rfl, rfl⟩ (.ite ?_ (.ite ha ?_)))
  · exact (hy 0).trans (askedToLead_heard .yield _)
  · exact ha.trans (askedToLead_heard .planned a)

theorem twinTotality_heard (s : State) : KeepsHeard s s.twinTotality := by
  unfold State.twinTotality
  extract_lets clear a
  have ha : KeepsHeard s a := ⟨rfl, rfl, rfl, rfl, rfl⟩
  exact .ite (ha.trans (totRelease_keepsPair ..).heard) ha

theorem setLink_keepsPair (l : Nat) (f : TwinLink → TwinLink) (s : State) : KeepsPair s (s.setLink l f) := .of_regs rfl (setLink_pairSt l f s)

theorem measureLag_keepsPair (hl : l < 2) (stamp : Nat) (body : List Byte) (s : State) : KeepsPair s (s.measureLag l stamp body) := by
  have hskew : ∀ (b : Bool) (u : State), KeepsPair u (u.fsetb (R.TWIN_TIME_SKEW l) b) :=
    fun b u => fset_keepsPair (by simp only [R.TWIN_TIME_SKEW]; omega) _ u
  unfold State.measureLag
  extract_lets lag out a q
  have ha : KeepsPair s a := (fset_keepsPair (by simp only [R.TWIN_TIME_LAG_NS]; omega) _ s).trans (setLink_keepsPair l _ _)
  exact .ite (ha.trans (hskew _ a)) (.ite (ha.trans (hskew _ a)) ha)

theorem twinTake_heard (h : (s.twinTake l n).2 = true) : s.twinTake l n = s.twinAccept n := by
  unfold State.twinTake at h ⊢
  split
  · rfl
  · rename_i hh
    rw [if_neg hh] at h
    cases h

theorem twinAccept_refused (h : (s.twinAccept n).2 = false) : (s.twinAccept n).1 = s := by
  revert h
  unfold State.twinAccept
  extract_lets a fresh
  cases fresh with
  | none => exact fun _ => rfl
  | some missing => exact fun h => Bool.noConfusion h

theorem twinTake_refused (h : (s.twinTake l n).2 = false) : (s.twinTake l n).1 = s := by
  unfold State.twinTake at h ⊢
  split
  · rename_i hh
    rw [if_pos hh] at h
    exact twinAccept_refused h
  · rfl

theorem xHeartbeatReceived_short (h : body.length ≠ 24) : xHeartbeatReceived l n body v s = (s.twinTake l n).1 := by
  unfold xHeartbeatReceived
  exact if_pos h

theorem xHeartbeatReceived_refused (hl : l < 2) (h : (s.twinTake l n).2 = false) (h24 : body.length = 24) :
    KeepsPair s (xHeartbeatReceived l n body v s) := by
  unfold xHeartbeatReceived
  extract_lets hears r a b
  have ha : a = s := twinTake_refused h
  have hb : KeepsPair s b := by
    unfold b
    rw [ha]
    exact .ite (measureLag_keepsPair hl v body s) (.refl s)
  rw [if_neg (not_not.2 h24), if_pos (by rw [show r.2 = false from h]; rfl)]
  exact hb

theorem xHeartbeatReceived_acts (hl : l < 2) (h : (s.twinTake l n).2 = true) (h24 : body.length = 24) :
    (xHeartbeatReceived l n body v s).twin.high = (s.twinAccept n).1.twin.high
    ∧ (xHeartbeatReceived l n body v s).twin.peer = leAt body 0 1
    ∧ (xHeartbeatReceived l n body v s).twin.missed = 0
    ∧ (xHeartbeatReceived l n body v s).fget R.TWIN_PEER_SPB_VALUE = leAt body 4 4
    ∧ (xHeartbeatReceived l n body v s).fbit R.TWIN_STATUS_PEER_SILENT = false := by
  have hacc := twinTake_heard h
  unfold xHeartbeatReceived
  rw [hacc] at h ⊢
  extract_lets hears r a b old c d e f
  have hb : KeepsPair a b := .ite (measureLag_keepsPair hl v body a) (.refl a)
  have hde : KeepsHeard d e := .ite (pairWith_heard ..) (.refl d)
  have hef : KeepsHeard e f := .ite (leadHears_heard ..) (.ite (companionHears_heard e) (.refl e))
  have hd := (hde.trans hef).trans (twinTotality_heard f)
  rw [if_neg (not_not.2 h24), if_neg (by rw [show r.2 = true from h]; decide)]
  have hspb : d.fget R.TWIN_PEER_SPB_VALUE = leAt body 4 4 := by
    have hlt : leAt body 4 4 < 2 ^ 32 :=
      (leNat_lt _).trans_le (Nat.pow_le_pow_right (by decide) (by have := List.length_take_le 4 (body.drop 4); omega))
    have hset : (c.fset R.TWIN_PEER_SPB_VALUE (leAt body 4 4)).fget R.TWIN_PEER_SPB_VALUE = leAt body 4 4 :=
      (fget_fset_self _ _ _ (by decide)).trans (Nat.mod_eq_of_lt hlt)
    exact (fget_fset_addr _ R.TWIN_STATUS_PEER_SILENT _ _ (by decide)).trans hset
  have hsilent : d.fbit R.TWIN_STATUS_PEER_SILENT = false := fbit_fsetb_self _ _ _ (by decide) rfl
  have hc : c.twin.high = b.twin.high ∧ c.twin.peer = leAt body 0 1 ∧ c.twin.missed = 0 := ⟨rfl, rfl, rfl⟩
  have hdc : d.twin = c.twin := rfl
  clear_value d
  refine ⟨?_, ?_, ?_, ?_, hd.silent.trans hsilent⟩
  · rw [hd.high, hdc, hc.1, hb.heard.high]
  · rw [hd.peer, hdc, hc.2.1]
  · rw [hd.missed, hdc, hc.2.2]
  rw [← hspb]
  unfold State.fget
  rw [show R.TWIN_PEER_SPB_VALUE.addr = 0x70024 from rfl, hd.spb]

end Heartbeats
end Sys2Proof.Machine

namespace Sys2Proof.Machine

section Absence

variable {s : State} {l : Nat}

/-! ## The absence of the peer, its pin, and Totality from it -/

theorem xLeadSilent_none (h : s.isCompanion = false ∨ s.twin.missed < 3) : xLeadSilent s = s := by
  unfold xLeadSilent
  exact if_pos (by rcases h with h | h <;> simp [h])

theorem takeTiles_status (why : Handover) (s : State) :
    (s.takeTiles why).twin.handover = why ∧ (s.takeTiles why).fbit R.TWIN_STATUS_PEER_SILENT = s.fbit R.TWIN_STATUS_PEER_SILENT := by
  have h := takeTiles_keepsPair why s
  exact ⟨h.twin TwinSt.handover fun _ => rfl, h.fbit _ rfl⟩

/-- PEER_SILENT apart, noticing the silence changes nothing of what the pair knows. -/
theorem silenceNoted_keepsPair (s : State) :
    KeepsPair (s.fsetb R.TWIN_STATUS_PEER_SILENT true) (((s.fsetb R.TWIN_STATUS_PEER_SILENT true).raise 38 0 0).totRelease [.twin] 0x100) :=
  (raise_keepsPair rfl (by decide) (by decide) _).trans (totRelease_keepsPair ..)

theorem silentSet_beside {f : Fld} (hf : f.fits = true) (hb : R.TWIN_STATUS_PEER_SILENT.beside f = true) (s : State) :
    (s.fsetb R.TWIN_STATUS_PEER_SILENT true).fbit f = s.fbit f := fbit_fsetb_beside s _ f true hb (by decide) hf

theorem xLeadSilent_acts (hc : s.isCompanion = true) (hm : 3 ≤ s.twin.missed) :
    (xLeadSilent s).fbit R.TWIN_STATUS_PEER_SILENT = true
    ∧ ((s.fbit R.TWIN_STATUS_IMPAIRED = false ∧ s.fbit R.TWIN_STATUS_PEER_ALIVE = false) → (xLeadSilent s).twin.handover = .takeover) := by
  have hnow : ¬ ((!s.isCompanion || decide (s.twin.missed < 3)) = true) := by
    rw [hc, decide_eq_false (Nat.not_lt.2 hm)]
    decide
  unfold xLeadSilent
  rw [if_neg hnow]
  extract_lets a
  have ha : a.fbit R.TWIN_STATUS_PEER_SILENT = true ∧ a.fbit R.TWIN_STATUS_IMPAIRED = s.fbit R.TWIN_STATUS_IMPAIRED
      ∧ a.fbit R.TWIN_STATUS_PEER_ALIVE = s.fbit R.TWIN_STATUS_PEER_ALIVE := by
    unfold a
    split
    · rename_i h
      exact ⟨h, rfl, rfl⟩
    · have hk := silenceNoted_keepsPair s
      exact ⟨(hk.fbit _ rfl).trans (fbit_fsetb_self _ _ _ (by decide) rfl), (hk.fbit _ rfl).trans (silentSet_beside (by decide) (by decide) s),
        (hk.fbit _ rfl).trans (silentSet_beside (by decide) (by decide) s)⟩
  obtain ⟨hsilent, himp, halive⟩ := ha
  clear_value a
  obtain ⟨htake, hstatus⟩ := takeTiles_status .takeover a
  split
  · exact ⟨hstatus.trans hsilent, fun _ => htake⟩
  · rename_i hno
    refine ⟨hsilent, fun ⟨hi, hp⟩ => ?_⟩
    by_contra hh
    exact hno (by simp [himp, hi, halive, hp, hh])

/-! ### TWIN_PEER -/

theorem xTwinPeerSample_none {w : Bool} (h : s.domOn 1 = false ∨ s.domOn 8 = false) : xTwinPeerSample w s = s := by
  unfold xTwinPeerSample
  exact if_pos (by rcases h with h | h <;> simp [h])

theorem xTwinPeerSample_high (h1 : s.domOn 1 = true) (h8 : s.domOn 8 = true) :
    (xTwinPeerSample true s).fbit R.TWIN_STATUS_PEER_ALIVE = true ∧ (xTwinPeerSample true s).twin.peerLow = 0 := by
  have hx : xTwinPeerSample true s = (s.setTwin fun t => { t with peerLow := 0 }).fsetb R.TWIN_STATUS_PEER_ALIVE true := by
    simp only [xTwinPeerSample, h1, h8, Bool.not_true, Bool.or_self, Bool.false_eq_true, if_false, if_true]
  rw [hx]
  exact ⟨fbit_fsetb_self _ _ _ (by decide) rfl, rfl⟩

theorem xTwinPeerSample_low (h1 : s.domOn 1 = true) (h8 : s.domOn 8 = true) :
    (xTwinPeerSample false s).twin.peerLow = min 2 (s.twin.peerLow + 1)
    ∧ (1 ≤ s.twin.peerLow → (xTwinPeerSample false s).fbit R.TWIN_STATUS_PEER_ALIVE = false)
    ∧ (s.twin.peerLow = 0 → (xTwinPeerSample false s).fbit R.TWIN_STATUS_PEER_ALIVE = s.fbit R.TWIN_STATUS_PEER_ALIVE) := by
  have hx : xTwinPeerSample false s = if 2 ≤ min 2 (s.twin.peerLow + 1) then
      (s.setTwin fun t => { t with peerLow := min 2 (t.peerLow + 1) }).fsetb R.TWIN_STATUS_PEER_ALIVE false
      else s.setTwin fun t => { t with peerLow := min 2 (t.peerLow + 1) } := by
    simp only [xTwinPeerSample, h1, h8, Bool.not_true, Bool.or_self, Bool.false_eq_true, if_false]
    rfl
  rw [hx]
  split
  · refine ⟨rfl, fun _ => fbit_fsetb_self _ _ _ (by decide) rfl, fun h0 => by omega⟩
  · exact ⟨rfl, fun h1 => by omega, fun _ => rfl⟩

/-! ### TWIN_ALIVE -/

theorem xSafetyConfirm_none (h : s.domOn 1 = false ∨ s.aon.resetHeld = true ∨ s.boot.halted = true ∨ s.boot.active = true) : xSafetyConfirm s = s := by
  unfold xSafetyConfirm
  exact if_pos (by rcases h with h | h | h | h <;> simp [h])

theorem xSafetyConfirm_acts (h1 : s.domOn 1 = true) (hr : s.aon.resetHeld = false) (hh : s.boot.halted = false) (ha : s.boot.active = false) :
    (xSafetyConfirm s).aon.twinAlive = !s.fbit R.TWIN_STATUS_YIELDING := by
  unfold xSafetyConfirm
  rw [if_neg (by simp [h1, hr, hh, ha])]

/-! ### K28.0 -/

theorem xTwinK280Received_none (h : s.domOn 8 = false ∨ (s.laneOf (24 + l) ≠ laneLinked ∧ laneIsUp (s.laneOf (24 + l)) = false)) :
    xTwinK280Received l s = s := by
  unfold xTwinK280Received
  exact if_pos (by rcases h with h | ⟨hl, hu⟩; · simp [h]
                   · simp [hl, hu])

theorem xTwinK280Received_acts (h8 : s.domOn 8 = true) (h : s.laneOf (24 + l) = laneLinked ∨ laneIsUp (s.laneOf (24 + l)) = true) :
    (xTwinK280Received l s).fbit R.SAFE_TOT_SRC_TWIN = true ∧ (xTwinK280Received l s).twin.totClear = 0 := by
  have hup : ¬ ((!s.domOn 8 || !(s.laneOf (24 + l) == laneLinked || laneIsUp (s.laneOf (24 + l)))) = true) := by
    rcases h with h | h <;> simp [h8, h]
  unfold xTwinK280Received
  rw [if_neg hup]
  extract_lets a
  have ha : a.twin.totClear = 0 := rfl
  clear_value a
  split
  · rename_i hon
    exact ⟨hon, ha⟩
  · have hk : KeepsPair a ((a.totRequest .twin 0x100 10).raise 10 0 0) :=
      (totRequest_keepsPair ..).trans (raise_keepsPair rfl (by decide) (by decide) _)
    refine ⟨?_, (hk.twin TwinSt.totClear fun _ => rfl).trans ha⟩
    rw [(raise10_report _).fbit _ (by decide), (totRequest_tot .twin 0x100 10 a).fbit _ (by decide)]
    exact fbit_fsetb_self a R.SAFE_TOT_SRC_TWIN true (by decide) rfl

/-- Settles O27: each clause by what its command does; that of a heartbeat accepted needs no `State.shape`. -/
theorem heartbeatsAct : Obligations.HeartbeatsAct := by
  refine ⟨?_, ?_, ?_, ?_, ?_, ?_, ?_, ?_, ?_, ?_, ?_, ?_, ?_, ?_, ?_⟩
  · intro s q h8 hr
    refine ⟨s.after (xHeartbeatTick q s), rfl, ?_⟩
    rw [after_twin]
    exact xHeartbeatTick_acts h8 hr q
  · intro s q h
    exact ⟨_, rfl, congrArg s.after (if_pos h)⟩
  · intro s l n v body _ h h24
    obtain ⟨hhigh, hpeer, hmissed, hspb, hsilent⟩ := xHeartbeatReceived_acts (v := v) l.isLt h h24
    refine ⟨s.after (xHeartbeatReceived l n body v s), rfl, ?_⟩
    rw [after_twin, after_fget _ _ _ (by decide), after_fbit _ _ _ (by decide)]
    exact ⟨hhigh, hpeer, hmissed, hspb, hsilent⟩
  · intro s l n v body h h24
    have hk := xHeartbeatReceived_refused (v := v) l.isLt h h24
    refine ⟨s.after (xHeartbeatReceived l n body v s), rfl, ?_⟩
    rw [after_twin, after_fget _ _ _ (by decide), after_fget _ _ _ (by decide)]
    refine ⟨hk.heard.peer, hk.twin TwinSt.peerHeld fun _ => rfl, hk.heard.missed, ?_, hk.fget _ rfl⟩
    unfold State.fget
    exact congrArg (fun w => wordField w 0 32) hk.spb
  · intro s l n v body h
    exact ⟨_, rfl, congrArg s.after (xHeartbeatReceived_short h)⟩
  · intro s hc hm
    obtain ⟨hsilent, htake⟩ := xLeadSilent_acts hc hm
    refine ⟨s.after (xLeadSilent s), rfl, ?_⟩
    rw [after_twin, after_fbit _ _ _ (by decide)]
    exact ⟨hsilent, htake⟩
  · intro s h
    exact ⟨_, rfl, congrArg s.after (xLeadSilent_none h)⟩
  · intro s h1 h8
    refine ⟨s.after (xTwinPeerSample true s), rfl, ?_⟩
    rw [after_twin, after_fbit _ _ _ (by decide)]
    exact xTwinPeerSample_high h1 h8
  · intro s h1 h8
    refine ⟨s.after (xTwinPeerSample false s), rfl, ?_⟩
    rw [after_twin, after_fbit _ _ _ (by decide)]
    exact xTwinPeerSample_low h1 h8
  · intro s w h
    exact ⟨_, rfl, congrArg s.after (xTwinPeerSample_none h)⟩
  · intro s h1 hr hh ha
    refine ⟨s.after (xSafetyConfirm s), rfl, ?_⟩
    rw [after_aon]
    exact xSafetyConfirm_acts h1 hr hh ha
  · intro s h
    exact ⟨_, rfl, congrArg s.after (xSafetyConfirm_none h)⟩
  · intro s
    refine ⟨s.after (xTwinAliveDrop s), rfl, ?_⟩
    rw [after_aon]
    rfl
  · intro s l h8 h
    refine ⟨s.after (xTwinK280Received l s), rfl, ?_⟩
    rw [after_twin, after_fbit _ _ _ (by decide)]
    exact xTwinK280Received_acts h8 h
  · intro s l h
    exact ⟨_, rfl, congrArg s.after (xTwinK280Received_none h)⟩

end Absence
end Sys2Proof.Machine

namespace Sys2Proof.Machine

section StrayPort

/-! ## A scan cycle of a port that the device does not have -/

/-- A scan cycle whose zone sum differs from the pair's own. It names one port alone, whose PIX_HLT_PORT_PROBE would lie at
0x5070C + 0x10 × 16272, the offset of SAFE_FAULT_ACT_LO. -/
def strayCycle : PairInput := { zones := [(0, 1, 0)], ports := [16272] }

/-- SAFE is on, with that scan cycle handed to the pair. -/
def strayPort : State :=
  let u : State := { State.reset with safe := { State.reset.safe with pairCopy := some [], pair := { due := [strayCycle] } :: rep 3 {} } }
  u.fset R.PWR_DOM_STATUS_ON 2

theorem strayPort_differs : strayPort.domOn 1 = true ∧ pairDiffers [] strayCycle [] = true := by decide +kernel

/-- The check latches fault 8, which does not outlast the command. -/
theorem strayPort_checked : (strayPort.pairCheck [] 0 strayCycle [] [] none).faultOn 8 = true
    ∧ (xSafetyPairCheckDone 0 [] [] none strayPort).faultOn 8 = false := by decide +kernel

end StrayPort

/-- Refutes O37: the clause of SAFETY_PAIR_CHECK_DONE bounds the ports that a scan cycle names neither by its premises nor by `State.shape`. The
peak of a probe is written to the register of each of them (0x5070C + 0x10 × port), which for the port of `strayPort` is SAFE_FAULT_ACT_LO:
the fault 8 that the zone sum latched stands no more. -/
theorem not_safetyPairServes : ¬ Obligations.SafetyPairServes := by
  unfold Obligations.SafetyPairServes
  rintro ⟨-, -, -, -, -, -, -, -, hcheck, -⟩
  obtain ⟨hon, hdiffer⟩ := strayPort_differs
  obtain ⟨t, hexec, -, -, hfault⟩ := hcheck strayPort 0 [] [] none [] strayCycle [] rfl rfl rfl
  have hrun : exec (.safetyPairCheckDone 0 [] [] none) strayPort = .next (strayPort.after (xSafetyPairCheckDone 0 [] [] none strayPort)) := rfl
  obtain rfl := Host.Outcome.next.inj (hrun.symm.trans hexec)
  obtain ⟨-, hlost⟩ := strayPort_checked
  rw [← after_faultOn strayPort _ (by decide)] at hlost
  exact absurd ((hfault hon hdiffer).symm.trans hlost) (by decide)

end Sys2Proof.Machine
